-- ==== Sys2Proof/Word.lean ====
section
/-! DEFINITION. The word types of the EW12-A7: registers, parameters and descriptor operands are 32 bits
wide (chapter "Scope and reading conventions", Registers; R12), Weft time is a 64-bit count of nanoseconds (R25). -/

namespace Sys2Proof

/-- A register or parameter word. -/
abbrev Word := BitVec 32

/-- One byte of system SRAM, of a frame or of the console. -/
abbrev Byte := BitVec 8

/-- Weft time in nanoseconds (R25). -/
abbrev Time := BitVec 64

end Sys2Proof
end

