-- ==== Sys2Proof/Syntax.lean ====
section
/-! DEFINITION. The commands of the EW12-A7: one constructor per row of spec/opcode_table.json, each with the
values the event or operation carries, and the types of those values. -/

namespace Sys2Proof

/-- Who writes a register or asks for a mode (R609 REG_LOCKED, R629): a core pair, the host or the console. -/
inductive Writer where
  | pair (n : Fin 4) | host | console
deriving DecidableEq, Repr

/-- The two PLLs of R85. -/
inductive Pll where
  | pll400 | pll800
deriving DecidableEq, Repr

/-- The STO input stages (R93, R96). -/
inductive StoInput where
  | a | b
deriving DecidableEq, Repr

/-- A unit that BIST can find failing (R88), one constructor per row of its table. -/
inductive BistUnit where
  | logic (n : Fin 4) | tcm (n : Fin 4) | sram (hi : Bool) | islandMemory | journal
  | lane (s : Fin 4) | checker (n : Fin 4)
  | psp | timing | fbi (n : Fin 4) | host | weft (w : Fin 4) | can (c : Fin 4)
  | gate (n : Fin 28) | ssi (s : Fin 4) | barrier (n : Fin 32)
deriving DecidableEq, Repr

/-- What the yearly refresh copies (R74): an image or a stored profile. -/
inductive FlashUnit where
  | image (b : Bool) | profile (p : Fin 4)
deriving DecidableEq, Repr

/-- The flash operations whose end raises interrupt source 11 (R494, the row FLASH_OPERATION_COMPLETE). -/
inductive FlashOp where
  | imageBlock | refresh (u : FlashUnit) | deviceRecord | profileStore (p : Fin 4)
deriving DecidableEq, Repr

/-- The result of a comparator self-test (R131): which comparators tripped outside their tolerance. -/
structure GateTest where
  segFail   : Bool
  clampFail : Bool
  onMinFail : Bool
  offFail   : Bool
deriving DecidableEq, Repr

/-- The header of a descriptor (R518). `sq` 0 to 15 is the submission ring, 16 the console ring of R612. -/
structure Desc where
  sq     : Fin 17
  cid    : BitVec 16
  index  : BitVec 8
  sub    : BitVec 8
  silent : Bool
  quick  : Bool
  hard   : Bool
  absolute : Bool
  chained  : Bool
deriving DecidableEq, Repr

/-- What the ring processor reads of a newly visible slot to keep its order and its chains (R518, R524, R526). -/
structure Slot where
  opcode   : Byte
  cid      : BitVec 16
  chain    : Bool
  chainLen : BitVec 8
  chainSeq : BitVec 8
  fence    : Bool
deriving DecidableEq, Repr

/-- A submission or a completion ring (R516). -/
inductive Ring where
  | sq (n : Fin 16) | cq (n : Fin 16)
deriving DecidableEq, Repr

/-- A parameter as a descriptor names it: P<group>.<item> of an instance (R528). -/
structure ParamId where
  group : BitVec 8
  item  : BitVec 16
  inst  : BitVec 8
deriving DecidableEq, Repr

/-- A frame for CAN_SEND (R528): identifier with bit 31 extended, DLC, FDF, BRS and data. -/
structure CanTx where
  ident : Word
  dlc   : BitVec 8
  fdf   : Bool
  brs   : Bool
  data  : List Byte
deriving DecidableEq, Repr

/-- One entry of HEAVE_STREAM (R528): Weft time, speed and acceleration as binary32. -/
structure HeaveEntry where
  time  : Time
  speed : Word
  accel : Word
deriving DecidableEq, Repr

/-- A quantity the console command atest selects (R143, R176, R200, R233, R273, R304, R328, R362, R404, R423,
R488, R602, R614, R615). -/
inductive AtestQ where
  | zero | ref | vin | v5 | v3p3 | v1p8 | v0p8 | vbat
  | gdcVp (n : Fin 28) | gdcVn (n : Fin 28) | gdcVoff (n : Fin 28) | gdcVonmin (n : Fin 28)
  | pspScth (s : Fin 4) | pspOv3 (s : Fin 4) | pspVdc (s : Fin 4)
  | pwmDuty (s : Fin 4) (k : Fin 3)
  | mfePs (s : Fin 4) (k : Fin 3) | mfeShunt (s : Fin 4) | mfeVdctv (s : Fin 4) | mfeNtc (s : Fin 4)
  | mfeSupplyP | mfeSupplyN
  | loomId (s : Fin 4) | loomIq (s : Fin 4) | loomVq (s : Fin 4)
  | posTheta (a : Fin 4) | posSpeed (a : Fin 4)
  | spdNref (a : Fin 4) | spdNact (a : Fin 4) | spdTref (a : Fin 4)
  | lshShare (a : Fin 4)
  | fbiAmp (n : Fin 4) | fbiExc (n : Fin 4) | fbiSup (k : Fin 2)
  | prgPos (c : Fin 8)
  | sfiVs | sfiSo (n : Fin 8) | sfiSt (k : Fin 4)
  | thm (i : Fin 38)
deriving DecidableEq, Repr

/-- What an in-line input gives about one instant (R202, R203): the calibrated codes of the 8 conversions nearest to it in
analogue mode, the 28 bits clocked about it (first bit first) in sigma-delta mode. Only those of the input's mode count. -/
structure InlineRaw where
  codes : Vector (BitVec 16) 8
  bits  : Vector Bool 28
deriving DecidableEq, Repr

/-- The in-line values of the three phases at one instant. -/
structure Raw3 where
  u : InlineRaw
  v : InlineRaw
  w : InlineRaw
deriving DecidableEq, Repr

/-- What a lane detects while it computes an update (R260, R261): a residue mismatch; a corrected single-bit error; a
double-bit error in a word of the lane or, where `shared`, in a parameter or table word of its axis. -/
inductive LaneErr where
  | residue | corrected | double (addr : BitVec 16) (shared : Bool)
deriving DecidableEq, Repr

/-- What the scrubber finds in a word of Loom memory (R261), which belongs to a lane. -/
inductive ScrubHit where
  | clean | corrected (x : Fin 4) | double (x : Fin 4)
deriving DecidableEq, Repr

/-- A Weft frame between its start and end markers (R548), with a payload of 0 to 64 bytes; CRC and LEN follow from it. -/
structure WFrame where
  kind    : BitVec 4
  cls     : BitVec 2
  routeB  : Bool
  dst     : Byte
  src     : Byte
  hops    : BitVec 4
  frag    : BitVec 4
  last    : Bool
  pkt     : BitVec 16
  ts      : Time
  payload : List Byte
deriving DecidableEq, Repr

/-- What a Weft port makes of a transmission (R548, R549, R551): a frame that passes its check, one that fails it, or
one broken off before its end marker. -/
inductive FrameRx where
  | good (f : WFrame) | badCrc | broken
deriving DecidableEq, Repr

/-- A packet of class 2 or 3 whose fragments have all arrived, without its packet CRC (R550). -/
structure Packet where
  cls     : BitVec 2
  routeB  : Bool
  dst     : Byte
  src     : Byte
  hops    : BitVec 4
  pkt     : BitVec 16
  payload : List Byte
deriving DecidableEq, Repr

/-- The content of a HELLO (R549). -/
structure HelloMsg where
  uid       : Time
  addr      : Byte
  astate    : BitVec 2
  sstate    : BitVec 2
  steps     : Byte
  gmPrio    : Byte
  gmUid     : Time
  parentUid : Time
  delayOk   : Bool
deriving DecidableEq, Repr

/-- The content of a CLAIM or DEFEND (R549), with the header fields its flooding needs. -/
structure ClaimMsg where
  src    : Byte
  hops   : BitVec 4
  pkt    : BitVec 16
  uid    : Time
  addr   : Byte
  lock   : Bool
  astate : BitVec 2
deriving DecidableEq, Repr

/-- The content of a SYNC (R549), with the departure time its header carries. -/
structure SyncMsg where
  ts     : Time
  gmUid  : Time
  gmPrio : Byte
  steps  : Byte
  seq    : Word
deriving DecidableEq, Repr

/-- A lead frame (R338); `share` holds the 12-bit codes of members 0 to 15. -/
structure LeadFrame where
  group  : BitVec 16
  node   : Byte
  cycle  : Word
  idx    : Byte
  cmd    : Byte
  active : BitVec 16
  sig    : Word
  tRef   : Word
  nRef   : Word
  nCmd   : Word
  teAx   : Word
  didMin : Word
  share  : List (BitVec 12)
  flags  : BitVec 16
deriving DecidableEq, Repr

/-- A member's report (R339). -/
structure MemberReport where
  group  : BitVec 16
  node   : Byte
  cycle  : Word
  idx    : Byte
  mstate : Byte
  flags  : BitVec 16
  sig    : Word
  te     : Word
  n      : Word
  did    : Word
  kth    : BitVec 16
  hops   : Byte
  mofs   : Byte
  seen   : BitVec 16
deriving DecidableEq, Repr

/-- A FAULT_NOTICE (R349). -/
structure Notice where
  group : BitVec 16
  node  : Byte
  cycle : Word
  idx   : Byte
  fault : Bool
deriving DecidableEq, Repr

/-- What a feedback port converts at an instant (R364): sin and cos in V (for a resolver the demodulated envelopes),
the angle of the resolver's tracking loop, the signal frequency in Hz, and whether every RS-422 input of the type shows
a differential of at least 200 mV (R390). -/
structure Analog where
  sin  : Rat
  cos  : Rat
  ang  : BitVec 16
  freq : Rat
  wireOk : Bool
deriving DecidableEq, Repr

/-- A received SSI or BiSS-C word (R372, R373): its position bits and its check field as sent (the parity bit of an SSI word in bit 0,
the inverted CRC-6 of a BiSS-C frame), whether the data line was high when it had to be, whether the start bit came in time, and nE
and nW. -/
structure SerialIn where
  bits    : BitVec 40
  check   : BitVec 6
  lineOk  : Bool
  startOk : Bool
  nE      : Bool
  nW      : Bool
deriving DecidableEq, Repr

/-- A CAN frame on the bus (R588): identifier, formats, DLC, data, and the Weft time of its start of frame. -/
structure CanRx where
  ide   : Bool
  rtr   : Bool
  id    : BitVec 29
  fdf   : Bool
  brs   : Bool
  esi   : Bool
  dlc   : BitVec 4
  data  : List Byte
  sof   : Time
deriving DecidableEq, Repr

/-- A CAN error (R581, R582): as transmitter, with whether it is a bit error after the arbitration field; as receiver,
with whether a dominant bit followed the error flag; or an acknowledge error of an error-passive transmitter, which
ISO 11898-1 does not count. -/
inductive CanErr where
  | transmit (bitError : Bool) | receive (dominantAfter : Bool) | passiveAck
deriving DecidableEq, Repr

/-- The commands of the block, one per row of the table of operations and events. Each constructor names the rule
that defines its effect. -/
inductive Instr where
  /-- R60. A watched supply stays outside its window for its trip filter time. -/
  | lockoutTrip (supplies : BitVec 6) (vinPresent : Bool)
  /-- R60. The 4 ms journal flush after a lock-out trip ends. -/
  | lockoutFlushEnd (vinPresent : Bool)
  /-- R59. Every watched supply has stayed in its window for 10 ms. -/
  | lockoutRelease
  /-- R40. RESET_N stays low for 50 consecutive samples and puts the device into reset. -/
  | resetNAssert
  /-- R40. The rising edge of RESET_N starts Dawn. -/
  | resetNRelease
  /-- R41. A qualified low level on WAKE_N wakes the device from NIGHT or DEEP NIGHT. -/
  | wakeN (samples : Nat) (lowUs : Nat)
  /-- R82. The wake timer P10.022 expires in NIGHT and wakes the device. -/
  | wakeTimer
  /-- R82. +24V returns during NIGHT or DEEP NIGHT. -/
  | vinReturn
  /-- R77. P10.020 hours pass in NIGHT on VBAT without a wake. -/
  | deepNightEntry
  /-- R63. The once-per-second check of VBAT updates VBAT_LOW. -/
  | vbatCheck (vbat : Rat)
  /-- R646. The Night domain loses its supply and all of its contents together. -/
  | nightDomainLoss (vbat : Rat)
  /-- R39. PERST_N low resets the PCI Express endpoint and all ring state and counts as loss of the host. -/
  | perstNAssert
  /-- R515. The PCI Express link has been down for 1 ms. -/
  | linkDown
  /-- R515. A PCI Express function-level reset acts as a DEVICE_RESET and Dawn follows. -/
  | functionLevelReset
  /-- R164. EN falls for at least 1 µs. -/
  | enFall
  /-- R129. EN rises after at least 10 µs low. -/
  | enRise (lowUs : Nat) (sc : BitVec 4) (oc : BitVec 12)
  /-- R85. The 400 MHz PLL locks. -/
  | pllLock (pll : Pll)
  /-- R85. A PLL does not lock within 40 µs. -/
  | pllLockTimeout (pll : Pll)
  /-- R55. Each strap pin is sampled 8 times and the boot split and profile selection are fixed. -/
  | strapSample (prof0 prof1 split0 split1 split2 : BitVec 8)
  /-- R87. The island supplies of one set's group start, 0.5 ms after the previous group. -/
  | islandGroupStart (x : Fin 4) (up : BitVec 9)
  /-- R87. A group's barrier channels are not up 2.0 ms after its start. -/
  | islandGroupTimeout (x : Fin 4)
  /-- R88. A BIST slot completes and each failing unit takes the consequence given for it. -/
  | bistSlotEnd (slot : Fin 4) (fails : List BistUnit)
  /-- R90. The boot ROM finishes checking a firmware image and loads it, falls back to the other image, or fails. -/
  | imageCheckDone (sigOk headerOk fits : Bool) (svn : BitVec 16)
  /-- R492. The boot loader marks a pair's section complete and that pair jumps to its entry address. -/
  | bootSectionComplete (n : Fin 4)
  /-- R91. At t = 120 ms, each pair whose firmware has not started stops Dawn or is marked failed. -/
  | imageStartDeadline
  /-- R92. The strap-selected profile is checked and loaded, or the device continues with no active profile. -/
  | profileLoad
  /-- R93. The Dawn test of both STO paths completes. -/
  | stoPathTest (gateFail : Option (Fin 28)) (inputFail : Option StoInput)
  /-- R93. With both STO inputs high together, the deferred test of the STO input stages runs. -/
  | deferredStoTest (inputFail : Option StoInput)
  /-- R645. A set that was left out of the STO path test reaches BLOCK with its axis STOPPED, and its deferred test runs. -/
  | deferredSetStoTest (x : Fin 4) (gateFail : Option (Fin 28))
  /-- R74. A yearly flash refresh of an image or profile block falls due and is carried out. -/
  | flashRefresh (u : FlashUnit)
  /-- R83. 24 h of powered time pass with RTC_VALID clear. -/
  | refreshDeferTimeout
  /-- R75. The yearly rewrite of every journal entry falls due. -/
  | journalRewrite
  /-- R98. A DUSK request written to SYS_MODEREQ is evaluated. -/
  | modereqDusk (w : Writer)
  /-- R81. A SERVICE entry request written to SYS_MODEREQ is checked against the entry conditions. -/
  | modereqServiceEnter (w : Writer)
  /-- R81. A SERVICE exit request written to SYS_MODEREQ returns the device to READY. -/
  | modereqServiceLeave (w : Writer)
  /-- R81. No console character arrives for P60.010 s in SERVICE. -/
  | serviceIdle
  /-- R98. DUSK_STOP_MAX expires and every axis still moving is disabled. -/
  | duskStopMax
  /-- R98. The Dusk journal flush completes. -/
  | duskFlushDone
  /-- R99. Every 10 s while Dusk waits on CROSS, a journal entry is written. -/
  | duskWaitCross
  /-- R177. The carrier counter crosses a compare. -/
  | pwmEdge (x : Fin 4) (k : Fin 3) (corrupt : Option (Option Bool × Option Bool))
  /-- R116. A gate command reaches its island. -/
  | islandCommand (n : Fin 28) (gs : Rat)
  /-- R109. GS crosses a segment threshold and the next segment current starts. -/
  | segmentChange (n : Fin 28) (gs : Rat)
  /-- R110. GS has stayed below V_CLAMP for 10 ns on a channel commanded off. -/
  | clampEngage (n : Fin 28) (gs : Rat)
  /-- R112. A channel's confirmed-off state changes and is reported to the control side. -/
  | confirmedOff (n : Fin 28) (frame : Option Bool) (gs : Rat)
  /-- R115. The release conditions of a held on request are met and it is forwarded to its island. -/
  | interlockRelease (n : Fin 24)
  /-- R117. No confirmation arrives within T_CONF_MAX. -/
  | offTimeout (n : Fin 24)
  /-- R125. T_PLAT_ARM elapses after an on command and the plateau check is armed. -/
  | plateauArm (n : Fin 28)
  /-- R125. GS stays below V_ON_MIN for 200 ns while armed. -/
  | plateauLow (n : Fin 28) (gs : Rat)
  /-- R126. A gate island receives no valid frame for 64 frame times and acts on its own gate. -/
  | islandLinkLoss (n : Fin 28)
  /-- R126. The control side misses 64 frames from a gate island. -/
  | linkLost (n : Fin 28)
  /-- R13. An SSI barrier channel is lost for 64 frame times and a set fault latches. -/
  | ssiLinkLost (x : Fin 4) (data : Bool)
  /-- R130. A START write to GDC_n_TEST requests the comparator self-test, which starts or is refused. -/
  | gdcTestStart (n : Fin 28)
  /-- R131. A comparator self-test completes with pass, fail or abort. -/
  | gdcTestDone (n : Fin 28) (r : GateTest)
  /-- R145. A short-circuit blanking interval ends and a comparator output still set starts counting. -/
  | blankingEnd (x : Fin 4) (comparator : Bool)
  /-- R146. The short-circuit comparator output passes SC_FILT. -/
  | scTrip (x : Fin 4)
  /-- R147. The 2 µs SC_OFF dwell ends and the set goes to ASC or pulse block. -/
  | scDwellEnd (x : Fin 4)
  /-- R148. A phase overcurrent comparator trips and acts as a short circuit. -/
  | ocTrip (x : Fin 4) (k : Fin 3)
  /-- R163. The OV3 flag arrives. -/
  | ov3Trip (x : Fin 4)
  /-- R156. The DC link falls below OV3 − 10 V and the OV3 flag releases. -/
  | ov3FlagClear (x : Fin 4)
  /-- R156. The OV3 flag stays set for 10 ms in ASC. -/
  | ov3Hold (x : Fin 4)
  /-- R156. A DC-link sample arrives and is compared with OV1, OV2 and UV, the chopper limits and CROSS. -/
  | dcLinkSample (x : Fin 4) (v : Rat) (check : Option Rat)
  /-- R156. T_SBC_ASC expires with OV2_PEND set. -/
  | ov2React (x : Fin 4)
  /-- R157. V_dc stays below UV for UV_FILT on a running axis. -/
  | uv (x : Fin 4)
  /-- R153. The 5 µs window after a chopper turn-on ends. -/
  | chopCheck (x : Fin 4) (before : Vector Rat 8) (after : List Rat)
  /-- R154. The shunt current exceeds the threshold for 1 µs with the chopper off. -/
  | chopShort (x : Fin 4) (samples : List Rat)
  /-- R152. The 10 µs minimum chopper on-time or off-time ends. -/
  | chopMinTime (x : Fin 4)
  /-- R149. A terminal-voltage sample arrives and the CROSS source value is updated. -/
  | terminalSample (x : Fin 4) (u v w : Rat) (flag : Bool)
  /-- R149. All six phase gates have been reported off for 50 µs. -/
  | crossOpenStart (x : Fin 4) (u v w : Rat)
  /-- R182. At a valley or peak, the shadow compares become active. -/
  | updateBoundary (x : Fin 4) (peak : Bool) (shunt : Vector Rat 8)
  /-- R446. The safety island counts a 33rd consecutive update without a shunt window value. -/
  | safetyGap (x : Fin 4)
  /-- R184. A compare set and update request arrive from a Loom lane and are processed into the shadow. -/
  | updateRequest (x : Fin 4)
  /-- R180. A write to PWM_SET_s_PHASE sets a new carrier offset, as a step or as an adjustment. -/
  | phaseWrite (w : Writer) (x : Fin 4) (phase : BitVec 8)
  /-- R189. The in-line sampling trigger is issued SAMP_OFS after an update boundary. -/
  | inlineTrigger (x : Fin 4)
  /-- R188. A shunt trigger for window A or B is issued SH_LEAD before the window closes. -/
  | shuntTrigger (x : Fin 4) (b : Bool) (v : Vector Rat 4) (ps : Raw3)
  /-- R204. Calibrated in-line currents and the DC-link sample are delivered to the lane. -/
  | inlineDelivery (x : Fin 4) (ps : Raw3) (busy : BitVec 16) (err : Option LaneErr)
  /-- R206. A sigma-delta bitstream stays constant for 64 clocks. -/
  | stuck (x : Fin 4) (k : Fin 3)
  /-- R206. No edge is seen at the SDCLK pin monitor for 200 ns. -/
  | sdclk (x : Fin 4)
  /-- R206. An input after a stall has run for 84 clocks with a live clock and reads valid again. -/
  | sdInputRecover (x : Fin 4) (k : Fin 3)
  /-- R207. The ±15 V sensor supply overloads and switches off. -/
  | sensorSupplyOverload
  /-- R207. A write to MFE_SUPPLY.RESTART restarts the sensor rails, or is refused while an axis runs. -/
  | mfeSupplyRestart (w : Writer)
  /-- R207. The restarted sensor rails come up. -/
  | sensorSupplyUp
  /-- R205. The sensor offset measurement of an AXIS_ENABLE ends, passing or latching OFS. -/
  | offsetMeasurementEnd (x : Fin 4) (vals : List (Time × Raw3))
  /-- R218. The in-line sum exceeds GF_TH for GF_FILT. -/
  | ground (x : Fin 4)
  /-- R211. The DC channel and V_DC_TV diverge for 10 ms and DC_DIVERGE latches. -/
  | dcDiverge (x : Fin 4)
  /-- R222. The two DC-link measurements agree for 10 ms and DC_DIVERGE clears. -/
  | dcDivergeClear (x : Fin 4)
  /-- R213. In ASC or BLOCK, the shunt offset is tracked every 100 µs. -/
  | shuntOffsetTrack (x : Fin 4) (v : Rat)
  /-- R212. An NTC conversion completes. -/
  | ntcSample (x : Fin 4) (volts : Rat)
  /-- R262. A lane's observe phase has not completed at t_s + 1.8 µs. -/
  | overrun (x : Fin 4)
  /-- R261. The scrubber reads a Loom memory word, corrects single-bit errors and journals double-bit errors. -/
  | loomScrub (addr : BitVec 16) (hit : ScrubHit)
  /-- R263. CP_1 finishes reloading a lane's parameter words and the known-answer test follows. -/
  | laneParamReload (x : Fin 4)
  /-- R264. A write to LOOM_SET_s_CMD.KAT requests the known-answer test, which runs or is refused. -/
  | kat (w : Writer) (x : Fin 4)
  /-- R264. A known-answer test ends. -/
  | katDone (x : Fin 4) (pass : Bool)
  /-- R29. A clock-gated set finishes restarting its clocks and the waiting test, measurement or start proceeds. -/
  | setClockRestart (x : Fin 4)
  /-- R279. An injection period ends. -/
  | injectionPeriodEnd (a : Fin 4)
  /-- R285. Speed stays at or above HO_HIGH for INJ_OFF_T and injection stops. -/
  | injectionStop (a : Fin 4)
  /-- R283. A polarity pulse ends. -/
  | polarityPulseEnd (a : Fin 4) (ripple : Rat)
  /-- R287. A fourth consecutive out-of-window update latches LOCK_LOST and the CROSS-based reaction follows. -/
  | lockLost (a : Fin 4)
  /-- R289. ZERO_UPD updates after a loss of lock, the axis goes FAULTED and its sets go to BLOCK. -/
  | zeroUpd (a : Fin 4)
  /-- R293. The phase gates have been confirmed off for 50 µs and the terminal measurement starts. -/
  | terminalMeasurementStart (a : Fin 4)
  /-- R293. The 10 µs terminal measurement sample is formed and may give MOVING. -/
  | terminalMeasurementSample (a : Fin 4)
  /-- R293. At 20.0 ms the terminal measurement ends with MOVING or SLOW. -/
  | terminalMeasurementEnd (a : Fin 4)
  /-- R289. T_RESUME after a re-lock release, the torque ramp is complete. -/
  | resumeRampEnd (a : Fin 4)
  /-- R290. The axis has run locked for 10 s and ATTEMPT returns to 0. -/
  | attemptReset (a : Fin 4)
  /-- R292. A start from ASC still has CROSS set at START_TMO and fails with FAIL_CROSS_TMO. -/
  | startTmo (a : Fin 4)
  /-- R282. POS_AX_a_CMD.LEARN starts saliency-map learning, or is refused. -/
  | learn (w : Writer) (a : Fin 4)
  /-- R282. POS_AX_a_CMD.LEARN_ABORT discards learning and the staged map. -/
  | learnAbort (w : Writer) (a : Fin 4)
  /-- R311. At a speed-loop period start, the ramp, limits, loop and limiter compute a new T_ref. -/
  | speedLoopPeriod (a : Fin 4)
  /-- R313. The position loop computes a new speed reference. -/
  | positionLoopTick (a : Fin 4)
  /-- R308. Speed has stayed at or below N_ZERO for T_ZERO. -/
  | zeroSpeed (a : Fin 4)
  /-- R308. HOLD_ZERO_T ends and the axis enters STOPPED. -/
  | holdZeroEnd (a : Fin 4)
  /-- R308. The torque-off ramp ends and the axis enters STOPPED. -/
  | tOffRampEnd (a : Fin 4)
  /-- R308. A STOPPING axis has not reached STOPPED within STOP_TMO. -/
  | stopTmo (a : Fin 4)
  /-- R317. Speed exceeds N_TRIP × N_MAX for 4 periods. -/
  | overspeed (a : Fin 4)
  /-- R318. The shock window ends after 10 ms within the normal limit or at SN_T. -/
  | shockWindowEnd (a : Fin 4)
  /-- R319. The slack condition holds for SLACK_T and SLACK_ACT's reaction follows. -/
  | slack (a : Fin 4)
  /-- R320. Ventilation ride-through ends on recovery or at VENT_MAX_T. -/
  | ventEnd (a : Fin 4)
  /-- R322. No heave entry arrives for HV_HOLD and the feedforward fades. -/
  | heaveStall (a : Fin 4)
  /-- R340. At a shed cycle start, report values are latched and the lead evaluates reports, shares and roles. -/
  | shedCycleStart
  /-- R337. A member's shed slot arrives and its lead frame or report leaves. -/
  | shedSlot (a : Fin 4)
  /-- R338. A lead frame is received and checked for group and cycle. -/
  | leadFrame (f : LeadFrame)
  /-- R339. A member report is received and stored for the lead's evaluation. -/
  | report (r : MemberReport)
  /-- R349. A FAULT_NOTICE is received and AXIS latches or clears under GROUP_FAULT. -/
  | faultNotice (m : Notice)
  /-- R341. At T_APPLY, T_m, N_REF and DID_MIN are handed to the loops, or missing lead frames are counted. -/
  | shedApply (a : Fin 4)
  /-- R350. A member's ramp-out ends. -/
  | shareRampEnd (a : Fin 4)
  /-- R365. A feedback port takes its 1 µs sample and delivers position, speed and flags. -/
  | portSample (n : Fin 4) (v : Analog)
  /-- R366. A filtered A or B change is counted. -/
  | encoderEdge (n : Fin 4) (la lb : Bool)
  /-- R378. An index or reference mark captures p and may set TURN or perform LOAD_Z. -/
  | indexMark (n : Fin 4)
  /-- R367. A rising step edge on a PULSE port counts ±1. -/
  | stepInputEdge (n : Fin 4) (high : Bool)
  /-- R371. An SSI or BiSS read request starts at T_RD, or is skipped for recovery. -/
  | serialReadRequest (n : Fin 4)
  /-- R374. An SSI or BiSS-C word is received and checked. -/
  | serialWord (n : Fin 4) (v : SerialIn)
  /-- R379. A speed window ends. -/
  | speedWindowEnd (n : Fin 4) (v : Analog)
  /-- R369. The amplitude is out of window beyond AMP_FILT samples. -/
  | amp (n : Fin 4)
  /-- R390. An RS-422 differential stays below 200 mV for 1 µs. -/
  | wire (n : Fin 4)
  /-- R370. The resolver excitation stays at its current limit for 1 ms. -/
  | exc (n : Fin 4)
  /-- R43. An encoder supply short switches the supply off and faults both ports on it. -/
  | fbSupply (k : Fin 2)
  /-- R383. A write to FBI_n_CMP arms the compare unit. -/
  | cmpWrite (w : Writer) (n : Fin 4) (value : Word)
  /-- R378. FBI_n_CTRL.LOAD presets p to PRESET at the next sample, or is refused. -/
  | load (w : Writer) (n : Fin 4)
  /-- R378. FBI_n_CTRL.LOAD_Z arms a preset for the next index mark. -/
  | loadZ (w : Writer) (n : Fin 4)
  /-- R378. FBI_n_CTRL.TURN_ZERO sets TURN to 0 at the next sample, or is refused. -/
  | turnZero (w : Writer) (n : Fin 4)
  /-- R386. FBI_n_CTRL.CMP_DISARM disarms the compare unit. -/
  | cmpDisarm (w : Writer) (n : Fin 4)
  /-- R383. A compare hit pulse on PT Z reaches its width and ends. -/
  | cmpPulseEnd (n : Fin 4)
  /-- R406. A profile channel evaluates its S-curve at 4 kHz. -/
  | profileEvaluation (c : Fin 8)
  /-- R410. A limit input passes its filter. -/
  | limit (n : Fin 4) (neg reached : Bool)
  /-- R412. |dev| stays above DEV_WIN for DEV_T. -/
  | stall (c : Fin 8)
  /-- R414. 100 ms after a hard stop, the deviation check decides whether REF_LOST clears. -/
  | refCheck (c : Fin 8)
  /-- R408. PRG_CH_c_CTRL.HALT gives a hard stop. -/
  | halt (w : Writer) (c : Fin 8)
  /-- R417. PRG_CH_c_CTRL.ENGAGE starts gearing, or is refused and journalled. -/
  | engage (w : Writer) (c : Fin 8)
  /-- R417. PRG_CH_c_CTRL.DISENGAGE ends gearing. -/
  | disengage (w : Writer) (c : Fin 8)
  /-- R421. PRG_CH_c_CTRL.SET_POS loads COUNT from PRESET and clears REF_LOST, PLAG and DEV. -/
  | setPos (w : Writer) (c : Fin 8)
  /-- R424. At a safety cycle start, the island latches its inputs and evaluates demands, monitoring and outputs. -/
  | safetyCycle (clockOk : Bool) (stillEnabled : List (Fin 24))
  /-- R429. STO_A or STO_B stays low for 10 µs. -/
  | stoInputFall (inp : StoInput)
  /-- R431. An STO input rises after its filter. -/
  | stoInputRise (inp : StoInput)
  /-- R431. STO_A and STO_B disagree for longer than STO_DISC. -/
  | stoDisc
  /-- R436. T_SS1 expires during SS1 and STO is demanded. -/
  | tSs1 (a : Fin 4)
  /-- R438. The delay after brake de-energising ends and the island demands STO. -/
  | tStoAfterSbc (a : Fin 4)
  /-- R442. The SLS entry time ends and the limit is enforced. -/
  | tSlsEntry (a : Fin 4)
  /-- R435. STO_TEST_DAYS − 1 days after the last passed test, TEST_DUE is set and journalled. -/
  | stoTestDue
  /-- R435. STO_TEST_DAYS after the last passed test, OVERDUE is set and journalled. -/
  | stoTestOverdue
  /-- R449. A safety cycle is not complete by its start + 500 µs. -/
  | safetyCycleOverrun
  /-- R457. The once-per-second check of the working safety set against SFI_SEAL runs. -/
  | sealCheck (intact : Bool)
  /-- R426. The 100 ms scrub of island memory runs. -/
  | islandScrub (double : Bool)
  /-- R452. A PARAM_WRITE to P40.900 opens safety staging for a profile, or is refused. -/
  | stageOpen (h : Desc) (target : Word)
  /-- R453. A PARAM_WRITE of the staged CRC to P40.901 checks the sealing conditions and starts the flash write. -/
  | sealStaging (h : Desc) (crc : Word)
  /-- R453. The sealed profile has been written to flash and is read back and checked. -/
  | sealFlashDone (written : Bool)
  /-- R454. A PARAM_WRITE to P40.902 discards the open staging. -/
  | stageAbort (h : Desc)
  /-- R454. 600 s pass without a staged write and staging is discarded. -/
  | stagingTimeout
  /-- R462. The 50 µs sample of the safe inputs and output read-backs is taken. -/
  | safeInputSample (levels : BitVec 16) (outs : BitVec 8)
  /-- R463. A safe input level passes SI_FILT and the pair state changes. -/
  | siFilterPass (n : Fin 16) (level : Bool)
  /-- R464. A pair discrepancy lasts longer than SI_DISC. -/
  | disc (n : Fin 8)
  /-- R465. A test source starts or ends its off pulse. -/
  | testPulse (k : Fin 4) (starts : Bool)
  /-- R467. A test source delivers more than 100 mA for 1 ms and is switched off. -/
  | stOvl (k : Fin 4)
  /-- R467. The once-per-second retry of an overloaded test source. -/
  | stRetry (k : Fin 4)
  /-- R469. An energised output switch starts or ends its off-pulse. -/
  | outputPulse (n : Fin 8) (starts : Bool)
  /-- R470. A safe output's current limit is active for 2 ms. -/
  | overload (n : Fin 4)
  /-- R470. +24V_S stays below 16 V for 1 ms with a pair commanded energised. -/
  | supply (low : Bool)
  /-- R475. At TX_T, a transmitting connection composes a frame and hands both copies to their routes. -/
  | safetyFrameTx (k : Fin 32)
  /-- R476. A copy of a safety frame arrives and is checked. -/
  | safetyFrameCopy (k : Fin 32) (routeB : Bool) (bytes : List Byte)
  /-- R477. CMP_WIN expires without the partner copy. -/
  | single (k : Fin 32)
  /-- R478. The connection watchdog expires. -/
  | wdExp (k : Fin 32)
  /-- R497. The checker detects a mismatch. -/
  | lockstepMismatch (n : Fin 4) (group : Fin 8) (pc : Word)
  /-- R498. Run-time self-test and injection end and the event is classified. -/
  | classification (n : Fin 4) (primaryOk shadowOk checkerOk : Bool)
  /-- R497. Firmware writes LCK_CP_n_CMD.STARTED and the pair returns to RUN. -/
  | started (n : Fin 4) (w : Writer) (copyOk : Bool)
  /-- R498. STARTED is not written within 4.0 ms of the mismatch. -/
  | restartTmo (n : Fin 4)
  /-- R499. The 10 ms periodic checker self-check runs. -/
  | checkerSelfCheck (n : Fin 4) (silent : Bool)
  /-- R509. LCK_CP_n_CMD.CHECK runs the checker self-check at once, or is refused. -/
  | check (n : Fin 4) (w : Writer) (silent : Bool)
  /-- R499. A delay-register parity error raises CHECKER_FAULT. -/
  | parity (n : Fin 4)
  /-- R491. A double-bit TCM error is read. -/
  | tcmDue (n : Fin 4) (half : Fin 2)
  /-- R505. A debugger attaches to a pair. -/
  | debugAttach (n : Fin 4)
  /-- R493. mtime reaches mtimecmp and the machine timer interrupt is raised. -/
  | machineTimer (n : Fin 4)
  /-- R509. A read of LCK_MTIME_LO latches the high word. -/
  | mtimeLoRead
  /-- R520. A doorbell write of an SQ tail makes new descriptors visible, or is discarded. -/
  | sqTail (n : Fin 16) (tail : BitVec 12) (slots : List Slot)
  /-- R522. A doorbell write of a CQ head frees completion slots. -/
  | cqHead (n : Fin 16) (head : BitVec 12)
  /-- R517. Writing ENABLE = 1 to a ring resets its pointers and phase. -/
  | ringEnable (w : Writer) (r : Ring)
  /-- R517. Writing ENABLE = 0 stops fetching from the ring. -/
  | ringDisable (w : Writer) (r : Ring)
  /-- R527. The NOP descriptor completes when dispatched. -/
  | nop (h : Desc)
  /-- R528. The PARAM_READ descriptor reads up to 4 parameter values. -/
  | paramRead (h : Desc) (es : List ParamId)
  /-- R529. The PARAM_WRITE descriptor checks all entries and then writes them. -/
  | paramWrite (h : Desc) (es : List (ParamId × Word))
  /-- R309. The REF_SET descriptor sets a speed or torque reference for an axis. -/
  | refSet (h : Desc) (value : Word)
  /-- R405. The MOVE descriptor sets a profile target or is refused. -/
  | move (h : Desc) (target : BitVec 64)
  /-- R308. The STOP descriptor starts a ramped, quick or hard stop. -/
  | stop (h : Desc)
  /-- R641. The PROFILE_SELECT descriptor with SUB 0 loads a stored profile as active. -/
  | profileSelect (h : Desc)
  /-- R641. PROFILE_SELECT with SUB 1 stores the working copy into a profile slot. -/
  | profileStore (h : Desc)
  /-- R307. The AXIS_ENABLE descriptor is accepted and starts the start sequence, or is refused. -/
  | axisEnable (h : Desc)
  /-- R306. The AXIS_DISABLE descriptor ends the speed loop and stops the axis. -/
  | axisDisable (h : Desc)
  /-- R528. The SCOPE_ARM descriptor arms a register capture. -/
  | scopeArm (h : Desc) (buffer : BitVec 64) (samples : Word) (period : BitVec 16) (regs : List Word)
  /-- R527. A scope capture completes and its descriptor completes. -/
  | scopeCaptureDone (dmaOk : Bool)
  /-- R608. The LOG_READ descriptor copies journal entries to a buffer. -/
  | logRead (h : Desc) (buffer : BitVec 64) (first count : BitVec 16) (dmaOk : Bool)
  /-- R579. The CAN_SEND descriptor loads a CAN transmit buffer. -/
  | canSend (h : Desc) (f : CanTx)
  /-- R563. The WEFT_SEND descriptor queues a class 2 or 3 packet. -/
  | weftSend (h : Desc) (bytes : List Byte)
  /-- R530. FUNC_REINIT of a submission ring. -/
  | funcReinitSq (h : Desc)
  /-- R530. FUNC_REINIT of a completion ring. -/
  | funcReinitCq (h : Desc)
  /-- R584. FUNC_REINIT of a CAN controller. -/
  | funcReinitCan (h : Desc)
  /-- R547. FUNC_REINIT of a Weft port returns it to TRAIN. -/
  | funcReinitWeftPort (h : Desc)
  /-- R391. FUNC_REINIT of a feedback port reloads it, restarts its supply and runs its loopback. -/
  | funcReinitFeedbackPort (h : Desc) (loopOk : Bool)
  /-- R265. FUNC_REINIT of a Loom lane reloads it and runs the known-answer test. -/
  | funcReinitLane (h : Desc)
  /-- R530. The DEVICE_RESET descriptor is accepted and a reset is scheduled, or it is refused with NOT_STOPPED. -/
  | deviceReset (h : Desc) (key : Word)
  /-- R634. A write to SYS_RESET with the key requests rung 3, or is refused. -/
  | sysReset (w : Writer) (value : Word)
  /-- R634. 100 µs after an accepted reset request, the device resets and Dawn follows. -/
  | resetStart
  /-- R435. The STO_TEST descriptor runs the STO path test. -/
  | stoTest (h : Desc) (gateFail : Option (Fin 28)) (inputFail : Option StoInput)
  /-- R535. The IMAGE_WRITE descriptor writes and verifies blocks of the image that is not running. -/
  | imageWrite (h : Desc) (source : BitVec 64) (offset length : Word) (underRefresh dmaOk verified : Bool)
  /-- R535. The IMAGE_COMMIT descriptor checks the image that is not running and may set PREFER. -/
  | imageCommit (h : Desc) (sigOk headerOk fits : Bool) (svn : BitVec 16)
  /-- R322. The HEAVE_STREAM descriptor takes or discards heave feedforward entries. -/
  | heaveStream (h : Desc) (es : List HeaveEntry)
  /-- R527. A user opcode is passed to integrator firmware on CP_0. -/
  | userOpcode (h : Desc) (opcode : Byte) (handler : Bool)
  /-- R527. A descriptor with an undefined opcode completes BAD_OPCODE. -/
  | badOpcode (h : Desc) (opcode : Byte)
  /-- R526. A chain is incomplete at CHAIN_TMO and completes CHAIN_TIMEOUT. -/
  | chainTimeout (n : Fin 16)
  /-- R523. ITIME after an unsignalled completion, the CQ signal is raised. -/
  | cqSignalTimer (n : Fin 16)
  /-- R533. A ring fetch or completion write fails. -/
  | ringError (r : Ring)
  /-- R534. The host watchdog expires. -/
  | hostLost
  /-- R514. A PCI Express configuration request is answered, with retry status before READY. -/
  | configRequest (offset : BitVec 12)
  /-- R637. A write to PMU_RTC sets the RTC at the next tick and sets RTC_VALID. -/
  | rtcWrite (w : Writer) (sec : Word)
  /-- R8. A write to a register without behaviour of its own is applied under its access code. -/
  | registerWrite (w : Writer) (addr value : Word) (size : Nat) (hw : Word)
  /-- R546. A Weft training set is received. -/
  | trainingSet (p : Fin 4) (uid : Time) (addr : Byte) (lock clean : Bool)
  /-- R546. A port stays in TRAIN for 10 ms and restarts its receiver. -/
  | retrain (p : Fin 4)
  /-- R547. An active port loses lock or sees an error burst and returns to TRAIN. -/
  | weftLink (p : Fin 4) (codes : Nat)
  /-- R547. No frame or hello arrives for three HELLO_T periods. -/
  | helloTimeout (p : Fin 4)
  /-- R549. A HELLO is received, setting the neighbour cost and the time parent data. -/
  | hello (p : Fin 4) (m : HelloMsg)
  /-- R549. HELLO_T expires and a HELLO is sent on every active port. -/
  | helloSend
  /-- R553. A CLAIM is received and address contests are decided. -/
  | claim (p : Fin 4) (m : ClaimMsg)
  /-- R553. A DEFEND is received and address contests are decided. -/
  | defend (p : Fin 4) (m : ClaimMsg)
  /-- R552. CLAIM_T passes in the claiming loop. -/
  | claimTimer
  /-- R552. The once-per-second DEFEND broadcast of an assigned node. -/
  | defendTimer
  /-- R554. A ROUTE packet is received and the routes are recomputed. -/
  | route (p : Fin 4) (metrics : List (BitVec 5))
  /-- R554. ROUTE_T expires and a ROUTE is sent on each active port. -/
  | routeSend
  /-- R554. No ROUTE arrives on a port for 4 × ROUTE_T. -/
  | routeAge (p : Fin 4)
  /-- R550. A DATA frame is received, forwarded, or delivered to its class consumer. -/
  | data (p : Fin 4) (r : FrameRx)
  /-- R551. The next fragment does not arrive within FRAG_TMO. -/
  | fragTmo (src : Byte) (cls : BitVec 2)
  /-- R566. A SYNC from the parent is received. -/
  | sync (p : Fin 4) (m : SyncMsg)
  /-- R564. At a SYNC_T cycle start, a synchronised node sends SYNC on its ports. -/
  | syncSend
  /-- R565. A DELAY_REQ is received and answered with DELAY_RESP. -/
  | delayReq (p : Fin 4)
  /-- R561. The DELAY_REQ slot arrives and a DELAY_REQ is sent. -/
  | delayReqSend
  /-- R565. A DELAY_RESP is received and a new link delay value is formed. -/
  | delayResp (p : Fin 4) (arrival departure : Time)
  /-- R549. An ECHO_REQ is received and answered by hardware. -/
  | echoReq (p : Fin 4) (q : Packet)
  /-- R549. An ECHO_RESP is received. -/
  | echoResp (p : Fin 4) (q : Packet)
  /-- R567. No SYNC arrives from the parent for 4 × SYNC_T. -/
  | parentLoss
  /-- R558. An unpinned peer context unused for CTX_AGE is freed. -/
  | ctxAge (addr : Byte) (cls : BitVec 2)
  /-- R583. A CAN frame becomes valid and goes to the safety island, the FIFO or is discarded. -/
  | canFrameRx (c : Fin 4) (f : CanRx)
  /-- R579. A transmit buffer's frame is sent and DONE is set. -/
  | canTxDone (c : Fin 4)
  /-- R580. A frame loses arbitration and stays pending for retransmission. -/
  | arbitrationLost (c : Fin 4)
  /-- R581. A CAN error is detected. -/
  | canError (c : Fin 4) (e : CanErr)
  /-- R581. After 128 × 11 recessive bits, the controller recovers from bus-off. -/
  | canBusOn (c : Fin 4)
  /-- R577. The transceiver releases the bus after 2.0 ms of continuous dominant drive. -/
  | txDominantTimeout (c : Fin 4)
  /-- R580. CAN_c_TXCTRL.ABORT frees a transmit buffer. -/
  | abort (w : Writer) (c : Fin 4) (bufs : BitVec 3)
  /-- R583. CAN_c_RXCTRL.POP removes the head FIFO entry. -/
  | pop (w : Writer) (c : Fin 4)
  /-- R596. Every 1 ms, sensors are evaluated and levels, k_th and throttling are updated. -/
  | thmEvaluation (die : Vector Rat 4) (gate : Vector Rat 28) (board : Vector Rat 2)
  /-- R607. The journal controller writes one queued entry. -/
  | journalWrite
  /-- R610. A console character is received, echoed and buffered, and SERVICE_IDLE restarts. -/
  | consoleChar (c : Byte)
  /-- R610. 0x03 stops the running console command. -/
  | consoleAbort
  /-- R612. The status console command reports mode and Dawn state. -/
  | status
  /-- R612. The rd console command reads registers. -/
  | rd (addr : Word) (n : Nat) (pins : BitVec 5)
  /-- R612. The wr console command writes a register. -/
  | wr (addr value hw : Word)
  /-- R612. The par console command reads or writes one parameter. -/
  | par (p : ParamId) (value : Option Word)
  /-- R613. The log console command lists the newest journal entries. -/
  | log (n : Option Nat)
  /-- R612. The log seq console command lists entries from a SEQ. -/
  | logSeq (seq : Word) (n : Option Nat)
  /-- R614. The atest console command selects a quantity on ATEST. -/
  | atest (q : AtestQ)
  /-- R614. The atest off console command deselects ATEST. -/
  | atestOff
  /-- R612. The service console command requests SERVICE. -/
  | service
  /-- R612. The service exit console command requests leaving SERVICE. -/
  | serviceExit
  /-- R612. The dusk console command requests Dusk. -/
  | dusk
  /-- R612. The dawn retry console command starts a new Dawn from a failed DAWN. -/
  | dawnRetry
  /-- R612. The reset console command requests rung 3. -/
  | reset (key : Word) (hard : Bool)
  /-- R143. The gdc console command reports a gate channel's status. -/
  | gdc (n : Fin 28)
  /-- R143. The gdc selftest console command runs the comparator self-test. -/
  | gdcSelftest (n : Fin 28)
  /-- R143. The gdc pulse console command applies a timed on pulse in SERVICE. -/
  | gdcPulse (n : Fin 28) (us : Nat)
  /-- R143. The gdc dead console command runs complementary transitions and reports the dead time. -/
  | gdcDead (h : Fin 12)
  /-- R176. The psp console command reports protection state. -/
  | psp (x : Fin 4)
  /-- R176. The psp sctest console command injects references into the SC and OV3 comparators. -/
  | pspSctest (x : Fin 4) (sc ov3 : Rat)
  /-- R176. The chop test console command pulses the chopper and checks the step. -/
  | chopTest (x : Fin 4) (step : Rat)
  /-- R176. The cross console command reports CROSS and its source. -/
  | cross (x : Fin 4)
  /-- R200. The pwm console command reports a PWM channel. -/
  | pwm (x : Fin 4)
  /-- R200. The pwm skew console command reports the valley offset to the lead. -/
  | pwmSkew (x : Fin 4) (node : Byte)
  /-- R200. The pwm run console command runs the carrier at set duties for 10 s. -/
  | pwmRun (x : Fin 4) (du dv dw : Rat)
  /-- R233. The mfe console command reports measurement state. -/
  | mfe (x : Fin 4)
  /-- R233. The mfe zero console command runs an offset measurement. -/
  | mfeZero (x : Fin 4)
  /-- R233. The mfe xc console command reports the cross-check. -/
  | mfeXc (x : Fin 4)
  /-- R233. The mfe supply on console command restarts the sensor rails. -/
  | mfeSupplyOn
  /-- R273. The loom console command reports a lane. -/
  | loom (x : Fin 4)
  /-- R273. The loom kat console command runs the known-answer test. -/
  | loomKat (x : Fin 4)
  /-- R273. The loom time console command reports peak occupancy. -/
  | loomTime (x : Fin 4)
  /-- R304. The pos console command reports position state. -/
  | pos (a : Fin 4)
  /-- R304. The pos term console command runs a terminal measurement. -/
  | posTerm (a : Fin 4)
  /-- R304. The pos inj console command runs HF_IDENT. -/
  | posInj (a : Fin 4) (ldh lqh : Rat)
  /-- R304. The pos learn console command starts learning and reports progress. -/
  | posLearn (a : Fin 4)
  /-- R328. The spd console command reports an axis. -/
  | spd (a : Fin 4)
  /-- R328. The spd lim console command reports torque limits and factors. -/
  | spdLim (a : Fin 4)
  /-- R362. The lsh console command reports load sharing. -/
  | lsh (a : Fin 4)
  /-- R362. The lsh members console command lists group members. -/
  | lshMembers (a : Fin 4)
  /-- R362. The lsh drop console command withholds this device's frames for n cycles. -/
  | lshDrop (a : Fin 4) (n : Nat)
  /-- R404. The fbi console command reports a feedback port. -/
  | fbi (n : Fin 4)
  /-- R404. The fbi watch console command reports p, TURN and speed every 100 ms. -/
  | fbiWatch (n : Fin 4)
  /-- R404. The fbi loop console command runs the port loopback. -/
  | fbiLoop (n : Fin 4) (ok : Bool)
  /-- R404. The fbi cmp console command arms compare and reports hits. -/
  | fbiCmp (n : Fin 4) (value spacing : Word)
  /-- R404. The pt console command reports a pass-through output. -/
  | pt (m : Fin 4)
  /-- R423. The prg console command reports a profile channel. -/
  | prg (c : Fin 8)
  /-- R423. The prg lim console command reports the limit inputs. -/
  | prgLim (c : Fin 8)
  /-- R423. The prg jog console command emits n steps at F_START. -/
  | prgJog (c : Fin 8) (n : Int)
  /-- R461. The sfi console command reports island status and seal. -/
  | sfi
  /-- R461. The sfi ax console command reports an axis's safety state. -/
  | sfiAx (a : Fin 4)
  /-- R461. The sfi sto console command reports STO inputs and island enables. -/
  | sfiSto
  /-- R461. The sfi test console command runs STO_TEST. -/
  | sfiTest (gateFail : Option (Fin 28)) (inputFail : Option StoInput)
  /-- R461. The sfi list console command lists staged items and counts as read-back. -/
  | sfiList
  /-- R461. The sfi seal console command seals the staged set. -/
  | sfiSeal (crc : Word)
  /-- R488. The si console command reports safe inputs. -/
  | si
  /-- R488. The so console command reports safe outputs. -/
  | so
  /-- R488. The sc console command reports a safety connection. -/
  | sc (k : Fin 32)
  /-- R510. The lck console command reports the core pairs. -/
  | lck
  /-- R510. The lck check console command runs a checker self-check. -/
  | lckCheck (n : Fin 4) (silent : Bool)
  /-- R510. The lck hist console command lists LOCKSTEP entries. -/
  | lckHist (n : Fin 4)
  /-- R543. The hif console command reports host interface status. -/
  | hif
  /-- R543. The hif sq console command reports a submission ring. -/
  | hifSq (n : Fin 16)
  /-- R543. The hif cq console command reports a completion ring. -/
  | hifCq (n : Fin 16)
  /-- R543. The hif nop console command inserts a NOP and reports its latency. -/
  | hifNop (n : Fin 16)
  /-- R576. The wft console command reports Weft node state. -/
  | wft
  /-- R576. The wft port console command reports a Weft port. -/
  | wftPort (p : Fin 4)
  /-- R576. The wft route console command reports a route. -/
  | wftRoute (addr : Byte)
  /-- R576. The wft ping console command sends ECHO_REQ and reports round trips. -/
  | wftPing (addr : Byte) (n : Nat)
  /-- R576. The wft reinit console command re-initialises a Weft port. -/
  | wftReinit (p : Fin 4)
  /-- R591. The can console command reports a CAN controller. -/
  | can (c : Fin 4)
  /-- R591. The can loop console command runs the internal loopback. -/
  | canLoop (c : Fin 4) (ok : Bool)
  /-- R591. The can rx console command shows the head FIFO entry. -/
  | canRx (c : Fin 4)
  /-- R602. The thm console command reports all temperatures. -/
  | thm
  /-- R39. PERST_N rises and the PCI Express endpoint leaves reset and may train its link. -/
  | perstNRelease
  /-- R538. The PCI Express link completes training and HIF_STATUS.LINK_UP sets with its speed and width. -/
  | linkUp (speed width : BitVec 2)
  /-- R494. A flash erase, write or verify finishes (image block, refresh, device-record store) and raises interrupt source 11. -/
  | flashOperationComplete (op : FlashOp) (ok : Bool)
  /-- R616. A SERVICE gate-switching test reaches its own end, its set goes to pulse block or ASC and SVC_STATUS.TEST clears. -/
  | testEnd
  /-- R560. A Weft port finishes transmitting a frame, frees its egress queue slot and chooses its next frame. -/
  | egressFrameSent (p : Fin 4)
  /-- R552. The 1 s wait of a node in CONFLICT ends and it claims its locked address again. -/
  | conflictWait
  /-- R577. A recessive res bit after FDF sets PXE and the CAN controller stops taking part in the frame until it integrates again. -/
  | protocolException (c : Fin 4)
  /-- R584. The CAN controller sees 11 recessive bits after enable, reinit or a protocol exception and joins the bus as error active. -/
  | canIntegration (c : Fin 4)
deriving DecidableEq, Repr

end Sys2Proof
end

