-- ==== Sys2Proof/Decode.lean ====
section
/-! DEFINITION. The command a word spells by the bits of the command table. The table gives no row any bits: the
commands are accesses, frames, samples, pin events and the ends of the chip's own intervals, and no word spells one
(log entry 6). -/

namespace Sys2Proof

/-- No row has bits, so no word spells a command. -/
def decodeTableWord (_nbits _w : Nat) : Option Instr := none

end Sys2Proof
end

