-- ==== Sys2Proof/Machine/Crc.lean ====
section
/-! DEFINITION. The check codes of the spec: CRC-32C as R473 states it (reflected polynomial 0x82F6_3B78, initial
value and final XOR 0xFFFF_FFFF), used by the journal (R606), the seal (R451) and safety frames (R472). -/

namespace Sys2Proof.Machine

/-- n shift steps of the reflected CRC. -/
def crcSteps : Nat → Word → Word
  | 0, c => c
  | n + 1, c => crcSteps n (if c.getLsbD 0 then (c >>> 1) ^^^ 0x82F6_3B78#32 else c >>> 1)

/-- One byte of CRC-32C. -/
def crcByte (c : Word) (b : Byte) : Word := crcSteps 8 (c ^^^ b.setWidth 32)

/-- CRC-32C of a list of bytes. -/
def crc32c (l : List Byte) : Word := l.foldl crcByte 0xFFFF_FFFF#32 ^^^ 0xFFFF_FFFF#32

end Sys2Proof.Machine
end

