-- ==== Sys2Proof/Config.lean ====
section
/-! DEFINITION. What one implementation fixes and the spec leaves open: free values. Each is an opaque constant,
so that no proof can use a value of it. The first block is the source of fresh free values: the step applies it to
State.fresh and advances that counter (log entry 3). The second block stands for real-valued functions that the
spec names without stating how the hardware rounds them (log entry 4). -/

namespace Sys2Proof.Config

/-- A fresh 32-bit value the spec leaves open. -/
opaque freeWord : Nat → Word

/-- A fresh 64-bit value the spec leaves open. -/
opaque freeTime : Nat → Time

/-- A fresh natural number the spec leaves open. -/
opaque freeNat : Nat → Nat

/-- A fresh yes-or-no outcome the spec leaves open. -/
opaque freeBool : Nat → Bool

/-- A fresh physical quantity the spec leaves open. -/
opaque freeRat : Nat → Rat

/-- Which way a value exactly between two register steps is rounded (R142 says only "the nearest step"). -/
opaque tieUp : Rat → Bool

/-- Which of its two binary32 neighbours a value with no exact binary32 form becomes (R12 states no rounding). -/
opaque f32Up : Rat → Bool

/-- Cosine of an angle in turns as the hardware evaluates it. -/
opaque cos : Rat → Rat

/-- Sine of an angle in turns as the hardware evaluates it. -/
opaque sin : Rat → Rat

/-- Angle of a vector (y, x) in turns as the hardware evaluates it. -/
opaque atan2 : Rat → Rat → Rat

/-- The ratio of a turn to a radian, 2π, as the hardware holds it. -/
opaque twoPi : Rat

/-- The value of one unit of the 32-bit form in which a lane holds a quantity. The first argument names the quantity, the
second the profile load that fixed the scaling, which R234 does not state. -/
opaque laneUnit : Nat → Nat → Rat

/-- By how many units the 48-bit accumulation of R234, whose rounding is not stated, leaves a result off its floor. -/
opaque laneRound : Nat → Rat → Int

/-- The 32-bit form of a result that lies beyond its range (R234 states none). -/
opaque laneOver : Nat → Rat → BitVec 32

/-- The reading of an NTC resistance, in millionths off it: within the 0.1 % resolution, whose code grid R209 does not state. -/
opaque ntcStep : Rat → Int

/-- Square root as the hardware evaluates it. -/
opaque sqrt : Rat → Rat

/-- Exponential as the hardware evaluates it. -/
opaque exp : Rat → Rat

/-- Natural logarithm as the hardware evaluates it. -/
opaque ln : Rat → Rat

/-- The unique ID fused at manufacture (R569 states no value). -/
opaque uid : Time

/-- The minimum security version fused at manufacture (R90, R633). -/
opaque svnMin : BitVec 16

/-- The word of the buffer that a register capture fills for a sample of a channel (R528 states no layout): of `channels`
channels and `samples` samples. -/
opaque scopeSlot (channels samples channel sample : Nat) : Nat

end Sys2Proof.Config
end

