-- ==== Sys2Proof/Machine/Numeric.lean ====
section
/-! DEFINITION. Number forms of the EW12-A7: IEEE 754 binary32 (R12), two's complement integers, coded register
fields, and the rounding rules. What the spec leaves open about rounding is a free choice (log entry 4). -/

namespace Sys2Proof.Machine

/-- 2 to an integer power. -/
def pow2 (e : Int) : Rat :=
  if 0 ≤ e then (2 ^ e.toNat : Nat) else 1 / ((2 ^ (-e).toNat : Nat) : Rat)

/-- The value of a binary32 word; none for an infinity or a NaN (R12). -/
def f32ToRat (w : Word) : Option Rat :=
  let e : Nat := (w.toNat / 2 ^ 23) % 256
  let m : Nat := w.toNat % 2 ^ 23
  let sign : Rat := if 2 ^ 31 ≤ w.toNat then -1 else 1
  if e = 255 then none
  else if e = 0 then some (sign * (m : Rat) * pow2 (-149))
  else some (sign * ((m + 2 ^ 23 : Nat) : Rat) * pow2 ((e : Int) - 150))

/-- The value of a binary32 word, with 0 for an infinity or a NaN, which no accepted parameter holds (R142). -/
def f32Val (w : Word) : Rat := (f32ToRat w).getD 0

/-- The binary exponent of a positive rational: the e with 2^e ≤ q < 2^(e+1). -/
def ratLog2 (q : Rat) : Int :=
  let e : Int := (Nat.log2 q.num.toNat : Int) - (Nat.log2 q.den : Int)
  if pow2 e ≤ q then e else e - 1

/-- The binary32 word of a rational. A value with an exact form has that form; any other becomes one of its two
neighbours, chosen freely (log entry 4); a magnitude beyond the largest finite number becomes an infinity. -/
def ratToF32 (q : Rat) : Word :=
  if q = 0 then 0
  else
    let a := if q < 0 then -q else q
    let sign : Nat := if q < 0 then 2 ^ 31 else 0
    let e := max (ratLog2 a) (-126)
    let scaled := a * pow2 (23 - e)
    let lowCode := scaled.floor.toNat
    let n := if (lowCode : Rat) = scaled then lowCode else if Config.f32Up q then lowCode + 1 else lowCode
    let code : Int := if lowCode < 2 ^ 23 then n else (e + 126) * 2 ^ 23 + n
    BitVec.ofNat 32 (sign + min code.toNat 0x7F800000)

/-- The nearest integer; a value halfway between two goes to either, freely (R142 says "the nearest step"). -/
def nearest (q : Rat) : Int :=
  let f := q.floor
  let d := q - f
  if d < 1 / 2 then f else if 1 / 2 < d then f + 1 else if Config.tieUp q then f + 1 else f

/-- The code a register shows for a physical value in steps: exact where the value is a step, otherwise either of
the two steps beside it, freely (no rule states the rounding of a reported value). -/
def quantise (q : Rat) : Int :=
  let f := q.floor
  if (f : Rat) = q then f else if Config.tieUp q then f + 1 else f

/-- An integer held inside bounds. -/
def clampInt (lo hi x : Int) : Int := if x < lo then lo else if hi < x then hi else x

/-- The remainder of a number by a positive one. -/
def modRat (x p : Rat) : Rat := x - ((x / p).floor : Rat) * p

/-- The mean of some values; 0 of none. -/
def meanRat (l : List Rat) : Rat := if l.isEmpty then 0 else l.foldl (· + ·) 0 / (l.length : Rat)

/-- A rational held inside bounds. -/
def clampRat (lo hi x : Rat) : Rat := if x < lo then lo else if hi < x then hi else x

/-- Absolute value of a rational. -/
def absRat (x : Rat) : Rat := if x < 0 then -x else x

/-- A 32-bit word as a two's complement number. -/
def s32 (w : Word) : Int := w.toInt

/-- The low 32 bits of an integer. -/
def toS32 (x : Int) : Word := BitVec.ofInt 32 x

/-- Which bit k of a word is set. -/
def testBit (w : Word) (k : Nat) : Bool := w.getLsbD k

end Sys2Proof.Machine
end

