-- ==== Sys2Proof/Machine/Params.lean ====
section
/-! DEFINITION. The parameter index of the EW12-A7 (R640), transcribed from the parameter tables of every chapter:
group, item, the instance a descriptor carries, range, form (R12) and default. The rules that bind a whole group
(locks, cross checks) stand in Machine/Operands.lean. -/

namespace Sys2Proof.Machine

/-- What the instance byte of a descriptor names for a parameter (R640). -/
inductive InstKind where
  | device | gate | set | axis | port | pt | channel | weft | can | siPair | soPair | conn
deriving DecidableEq, Repr

/-- How a parameter value is carried (R12 and the rules of the groups). -/
inductive ParamForm where
  | f32 | i32 | u32
deriving DecidableEq, Repr

/-- Which values inside the range exist: any real, whole numbers, half steps, a list, or a coded word. -/
inductive ParamGrid where
  | real | int | half | list (xs : List Rat) | word | code | canId
deriving DecidableEq, Repr

/-- A run of `count` parameters P<group>.<item>, … with one definition. `zero` says that 0 is accepted beside the
range, meaning "not set" (R175 and the tables). -/
structure ParamRow where
  group : Nat
  item  : Nat
  count : Nat
  name  : String
  inst  : InstKind
  insts : Nat
  form  : ParamForm
  grid  : ParamGrid
  lo    : Rat
  hi    : Rat
  zero  : Bool
  dflt  : Word
deriving DecidableEq, Repr

namespace ParamTable

/-- R105, R542. -/
def p10 : List ParamRow := [
  ⟨10, 20, 1, "DEEP_AFTER", .device, 1, .f32, .real, 0, 8760, false, 0x00000000⟩,
  ⟨10, 21, 1, "DUSK_STOP_MAX", .device, 1, .f32, .real, 1, 600, false, 0x42700000⟩,
  ⟨10, 22, 1, "WAKE_TIMER", .device, 1, .f32, .real, 0, 525600, false, 0x00000000⟩,
  ⟨10, 30, 1, "HOST_WD", .device, 1, .f32, .real, 0, 10000, false, 0x00000000⟩,
  ⟨10, 31, 1, "HOST_LOSS", .device, 1, .f32, .int, 0, 2, false, 0x3F800000⟩,
  ⟨10, 32, 1, "CHAIN_TMO", .device, 1, .f32, .real, 10, 100000, false, 0x447A0000⟩]

/-- R142. -/
def p14 : List ParamRow := [
  ⟨14, 1, 1, "VP", .gate, 28, .f32, .real, 12, 20, false, 0x41700000⟩,
  ⟨14, 2, 1, "VN", .gate, 28, .f32, .real, (-10), 0, false, 0xC1000000⟩,
  ⟨14, 3, 1, "SUPPLY", .gate, 28, .f32, .int, 0, 1, false, 0x00000000⟩,
  ⟨14, 4, 1, "BOOSTER", .gate, 28, .f32, .int, 0, 1, false, 0x00000000⟩,
  ⟨14, 5, 1, "CLAMP_EN", .gate, 28, .f32, .int, 0, 1, false, 0x3F800000⟩,
  ⟨14, 10, 1, "ON_I1", .gate, 28, .f32, .real, (3/8), 12, false, 0x40400000⟩,
  ⟨14, 11, 1, "ON_I2", .gate, 28, .f32, .real, (3/8), 12, false, 0x40400000⟩,
  ⟨14, 12, 1, "ON_I3", .gate, 28, .f32, .real, (3/8), 12, false, 0x40400000⟩,
  ⟨14, 13, 1, "ON_TH1", .gate, 28, .f32, .real, (-10), 20, false, 0x40C00000⟩,
  ⟨14, 14, 1, "ON_TH2", .gate, 28, .f32, .real, (-10), 20, false, 0x41400000⟩,
  ⟨14, 20, 1, "OFF_I1", .gate, 28, .f32, .real, (1/2), 16, false, 0x40800000⟩,
  ⟨14, 21, 1, "OFF_I2", .gate, 28, .f32, .real, (1/2), 16, false, 0x40800000⟩,
  ⟨14, 22, 1, "OFF_I3", .gate, 28, .f32, .real, (1/2), 16, false, 0x40800000⟩,
  ⟨14, 23, 1, "OFF_TH1", .gate, 28, .f32, .real, (-10), 20, false, 0x41100000⟩,
  ⟨14, 24, 1, "OFF_TH2", .gate, 28, .f32, .real, (-10), 20, false, 0x40800000⟩,
  ⟨14, 30, 1, "V_OFF", .gate, 28, .f32, .real, (-8), 6, false, 0x40000000⟩,
  ⟨14, 31, 1, "V_ON_MIN", .gate, 28, .f32, .real, 6, 20, false, 0x41400000⟩,
  ⟨14, 32, 1, "V_CLAMP", .gate, 28, .f32, .real, (-8), 6, false, 0x00000000⟩,
  ⟨14, 40, 1, "T_EXTRA", .gate, 28, .f32, .real, 0, 500, false, 0x42C80000⟩,
  ⟨14, 41, 1, "T_CONF_MAX", .gate, 28, .f32, .real, (1/5), 10, false, 0x40400000⟩,
  ⟨14, 42, 1, "T_PLAT_ARM", .gate, 28, .f32, .real, (1/2), 10, false, 0x40400000⟩]

/-- R175. -/
def p16 : List ParamRow := [
  ⟨16, 1, 1, "SC_TH", .set, 4, .f32, .real, 20, 240, false, 0x43160000⟩,
  ⟨16, 2, 1, "SC_BLANK", .set, 4, .f32, .real, 0, 2, false, 0x3E99999A⟩,
  ⟨16, 3, 1, "SC_FILT", .set, 4, .f32, .real, 0, 250, false, 0x42480000⟩,
  ⟨16, 10, 1, "OC_TH", .set, 4, .f32, .real, (12/25), 10, false, 0x41000000⟩,
  ⟨16, 11, 1, "OC_EN", .set, 4, .f32, .int, 0, 7, false, 0x40E00000⟩,
  ⟨16, 20, 1, "OV1", .set, 4, .f32, .real, 50, 1500, false, 0x44480000⟩,
  ⟨16, 21, 1, "OV2", .set, 4, .f32, .real, 50, 1500, false, 0x44548000⟩,
  ⟨16, 22, 1, "OV3", .set, 4, .f32, .real, 50, 1500, false, 0x44610000⟩,
  ⟨16, 23, 1, "UV", .set, 4, .f32, .real, 0, 1500, false, 0x43C80000⟩,
  ⟨16, 24, 1, "UV_FILT", .set, 4, .f32, .real, (1/10), 100, false, 0x3F800000⟩,
  ⟨16, 25, 1, "REGEN_RAMP", .set, 4, .f32, .real, (1/100), 1, false, 0x3DCCCCCD⟩,
  ⟨16, 30, 1, "CHOP_EN", .set, 4, .f32, .int, 0, 1, false, 0x00000000⟩,
  ⟨16, 31, 1, "R_BRAKE", .set, 4, .f32, .real, (1/1000), (13107/200), true, 0x00000000⟩,
  ⟨16, 32, 1, "CHOP_HYST", .set, 4, .f32, .real, 1, 255, false, 0x41A00000⟩,
  ⟨16, 34, 1, "CROSS_MARGIN", .set, 4, .f32, .real, 0, 300, false, 0x42480000⟩,
  ⟨16, 35, 1, "CROSS_HYST", .set, 4, .f32, .real, 1, 255, false, 0x41A00000⟩,
  ⟨16, 36, 1, "T_PEAK", .set, 4, .f32, .real, 1, 100, false, 0x41A00000⟩,
  ⟨16, 37, 1, "K_E", .set, 4, .f32, .real, (1/100), (13107/20), true, 0x00000000⟩,
  ⟨16, 40, 1, "T_SBC_ASC", .axis, 4, .f32, .real, 0, 1000, false, 0x43160000⟩]

/-- R199. -/
def p18 : List ParamRow := [
  ⟨18, 1, 1, "F_CARRIER", .set, 4, .f32, .real, 1000, 64000, false, 0x457A0000⟩,
  ⟨18, 2, 1, "UPDATES", .set, 4, .f32, .int, 1, 2, false, 0x3F800000⟩,
  ⟨18, 3, 1, "PHASE", .set, 4, .f32, .int, 0, 255, false, 0x00000000⟩,
  ⟨18, 10, 1, "SAMP_OFS", .set, 4, .f32, .real, (-2), 2, false, 0x00000000⟩,
  ⟨18, 11, 1, "SH_LEAD", .set, 4, .f32, .real, 0, 1, false, 0x3DCCCCCD⟩,
  ⟨18, 20, 1, "SHIFT_EN", .set, 4, .f32, .int, 0, 1, false, 0x3F800000⟩,
  ⟨18, 21, 1, "T_WIN_MIN", .set, 4, .f32, .real, (2/5), 4, false, 0x3F800000⟩,
  ⟨18, 22, 1, "M_SHUNT_MAX", .set, 4, .f32, .real, (1/2), 1, false, 0x3F6B851F⟩,
  ⟨18, 30, 1, "T_REFRESH_MIN", .set, 4, .f32, .real, (1/2), 10, false, 0x3FC00000⟩,
  ⟨18, 31, 1, "T_REFRESH_HYST", .set, 4, .f32, .real, 0, 10, false, 0x3F000000⟩]

/-- R232. -/
def p19 : List ParamRow := [
  ⟨19, 1, 1, "FITTED", .set, 4, .f32, .int, 0, 7, false, 0x40400000⟩,
  ⟨19, 2, 1, "SD_MODE", .set, 4, .f32, .int, 0, 7, false, 0x00000000⟩,
  ⟨19, 3, 1, "I_FS_U", .set, 4, .f32, .real, (1/10), (13107/2), false, 0x43FA0000⟩,
  ⟨19, 4, 1, "I_FS_V", .set, 4, .f32, .real, (1/10), (13107/2), false, 0x43FA0000⟩,
  ⟨19, 5, 1, "I_FS_W", .set, 4, .f32, .real, (1/10), (13107/2), false, 0x43FA0000⟩,
  ⟨19, 6, 1, "INVERT", .set, 4, .f32, .int, 0, 7, false, 0x00000000⟩,
  ⟨19, 10, 1, "OFS_MAX", .set, 4, .f32, .real, (1/10), (51/2), false, 0x40000000⟩,
  ⟨19, 11, 1, "R_SHUNT", .set, 4, .f32, .real, (1/1000000), (13107/200000), true, 0x00000000⟩,
  ⟨19, 20, 1, "XC_TH", .set, 4, .f32, .real, 1, 4095, false, 0x42C80000⟩,
  ⟨19, 21, 1, "XC_N", .set, 4, .f32, .int, 1, 255, false, 0x41800000⟩,
  ⟨19, 22, 1, "GF_TH", .set, 4, .f32, .real, 0, 4095, false, 0x42480000⟩,
  ⟨19, 23, 1, "GF_FILT", .set, 4, .f32, .real, (1/10), (51/2), false, 0x3F800000⟩,
  ⟨19, 30, 1, "FALLBACK_EN", .axis, 4, .f32, .int, 0, 1, false, 0x00000000⟩,
  ⟨19, 31, 1, "SH_GAP_MAX", .set, 4, .f32, .int, 1, 255, false, 0x41000000⟩]

/-- R272. -/
def p20 : List ParamRow := [
  ⟨20, 1, 1, "LAW", .axis, 4, .f32, .int, 0, 1, false, 0x00000000⟩,
  ⟨20, 2, 1, "AUTO_PI", .axis, 4, .f32, .int, 0, 1, false, 0x3F800000⟩,
  ⟨20, 3, 1, "MACHINE", .axis, 4, .f32, .int, 0, 2, false, 0x00000000⟩,
  ⟨20, 4, 1, "POLE_PAIRS", .axis, 4, .f32, .int, 1, 32, true, 0x00000000⟩,
  ⟨20, 10, 1, "R_S", .axis, 4, .f32, .real, 0, 10, false, 0x00000000⟩,
  ⟨20, 11, 1, "L_D", .axis, 4, .f32, .real, (1/1000000), 1, true, 0x00000000⟩,
  ⟨20, 12, 1, "L_Q", .axis, 4, .f32, .real, (1/1000000), 1, true, 0x00000000⟩,
  ⟨20, 13, 1, "PSI_PM", .axis, 4, .f32, .real, 0, 100, false, 0x00000000⟩,
  ⟨20, 14, 1, "L_SIGMA", .axis, 4, .f32, .real, 0, (1/10), false, 0x00000000⟩,
  ⟨20, 15, 1, "L_M", .axis, 4, .f32, .real, 0, 1, false, 0x00000000⟩,
  ⟨20, 16, 1, "L_R", .axis, 4, .f32, .real, 0, 1, false, 0x00000000⟩,
  ⟨20, 17, 1, "R_R", .axis, 4, .f32, .real, 0, 10, false, 0x00000000⟩,
  ⟨20, 18, 1, "PSI_R_REF", .axis, 4, .f32, .real, 0, 100, false, 0x00000000⟩,
  ⟨20, 19, 1, "WIND_OFS", .axis, 4, .f32, .real, 0, 60, false, 0x00000000⟩,
  ⟨20, 20, 1, "K_DB", .axis, 4, .f32, .real, (1/10), 1, false, 0x3F800000⟩,
  ⟨20, 21, 1, "KP_PI", .axis, 4, .f32, .real, 0, 1000, false, 0x00000000⟩,
  ⟨20, 22, 1, "KI_PI", .axis, 4, .f32, .real, 0, 10000000, false, 0x00000000⟩,
  ⟨20, 25, 1, "K_BAL", .axis, 4, .f32, .real, 0, 100000, false, 0x00000000⟩,
  ⟨20, 26, 1, "B_MAX", .axis, 4, .f32, .real, 0, 200, false, 0x41A00000⟩,
  ⟨20, 27, 1, "DT_COMP", .axis, 4, .f32, .int, 0, 1, false, 0x3F800000⟩,
  ⟨20, 30, 1, "I_MAX", .axis, 4, .f32, .real, 1, 6000, true, 0x00000000⟩,
  ⟨20, 31, 1, "I_D_MIN", .axis, 4, .f32, .real, (-6000), 0, false, 0x00000000⟩,
  ⟨20, 32, 1, "FW_MARGIN", .axis, 4, .f32, .real, 0, (3/10), false, 0x3D4CCCCD⟩,
  ⟨20, 33, 1, "K_FW", .axis, 4, .f32, .real, 0, 100000, false, 0x447A0000⟩,
  ⟨20, 35, 1, "T_TAB", .axis, 4, .f32, .real, 0, 1000000, false, 0x00000000⟩,
  ⟨20, 40, 1, "DO_BW", .axis, 4, .f32, .real, 1, 500, false, 0x42480000⟩,
  ⟨20, 41, 1, "J", .axis, 4, .f32, .real, 0, 1000000, false, 0x00000000⟩,
  ⟨20, 42, 1, "B_VISC", .axis, 4, .f32, .real, 0, 10000, false, 0x00000000⟩,
  ⟨20, 45, 1, "FO_GAIN", .axis, 4, .f32, .real, 0, 1, false, 0x3DCCCCCD⟩,
  ⟨20, 46, 1, "FO_SPEED", .axis, 4, .f32, .real, 0, 10000, false, 0x42C80000⟩,
  ⟨20, 100, 65, "MTPA_ID_0", .axis, 4, .f32, .real, (-6000), 0, false, 0x00000000⟩,
  ⟨20, 200, 65, "MTPA_IQ_0", .axis, 4, .f32, .real, 0, 6000, false, 0x00000000⟩]

/-- R303. -/
def p22 : List ParamRow := [
  ⟨22, 1, 1, "SOURCE", .axis, 4, .f32, .int, 0, 2, false, 0x00000000⟩,
  ⟨22, 2, 1, "PORT", .axis, 4, .f32, .int, 0, 3, false, 0x00000000⟩,
  ⟨22, 3, 1, "DIR_INV", .axis, 4, .f32, .int, 0, 1, false, 0x00000000⟩,
  ⟨22, 4, 1, "ENC_COUNTS", .axis, 4, .f32, .int, 1, 2147483647, true, 0x00000000⟩,
  ⟨22, 5, 1, "COMM_OFS", .axis, 4, .f32, .real, 0, 360, false, 0x00000000⟩,
  ⟨22, 6, 1, "FB_BACKUP", .axis, 4, .f32, .int, 0, 1, false, 0x00000000⟩,
  ⟨22, 7, 1, "FB_STALE_MAX", .axis, 4, .f32, .int, 1, 16, false, 0x40000000⟩,
  ⟨22, 10, 1, "N_RATED", .axis, 4, .f32, .real, 1, 20000, true, 0x00000000⟩,
  ⟨22, 11, 1, "V_RATED", .axis, 4, .f32, .real, 1, 1100, true, 0x00000000⟩,
  ⟨22, 12, 1, "HO_LOW", .axis, 4, .f32, .real, 5, 15, false, 0x41000000⟩,
  ⟨22, 13, 1, "HO_HIGH", .axis, 4, .f32, .real, 5, 15, false, 0x41400000⟩,
  ⟨22, 14, 1, "INJ_OFF_T", .axis, 4, .f32, .real, 10, 1000, false, 0x42480000⟩,
  ⟨22, 20, 1, "INJ_DIV", .axis, 4, .f32, .int, 1, 32, false, 0x40800000⟩,
  ⟨22, 21, 1, "INJ_AMP", .axis, 4, .f32, .real, 2, 15, false, 0x40A00000⟩,
  ⟨22, 22, 1, "INJ_BW", .axis, 4, .f32, .real, 10, 2000, false, 0x43480000⟩,
  ⟨22, 23, 1, "L_DH", .axis, 4, .f32, .real, (1/1000000), 1, true, 0x00000000⟩,
  ⟨22, 24, 1, "L_QH", .axis, 4, .f32, .real, (1/1000000), 1, true, 0x00000000⟩,
  ⟨22, 25, 1, "I_POL", .axis, 4, .f32, .real, 0, 6000, false, 0x00000000⟩,
  ⟨22, 26, 1, "POL_T", .axis, 4, .f32, .real, (1/2), 20, false, 0x40000000⟩,
  ⟨22, 30, 1, "BEMF_BW", .axis, 4, .f32, .real, 10, 5000, false, 0x43FA0000⟩,
  ⟨22, 31, 1, "LOCK_WIN", .axis, 4, .f32, .real, 5, 90, false, 0x41F00000⟩,
  ⟨22, 32, 1, "MAG_WIN", .axis, 4, .f32, .real, (1/20), 1, false, 0x3E99999A⟩,
  ⟨22, 33, 1, "BLEND_WIN", .axis, 4, .f32, .real, 5, 90, false, 0x41A00000⟩,
  ⟨22, 40, 1, "TV_DET", .axis, 4, .f32, .real, 10, 200, false, 0x41F00000⟩,
  ⟨22, 41, 1, "REV_MAX", .axis, 4, .f32, .real, 0, 100, false, 0x42C80000⟩,
  ⟨22, 42, 1, "START_TMO", .axis, 4, .f32, .real, 1, 600, false, 0x42700000⟩,
  ⟨22, 43, 1, "T_RESUME", .axis, 4, .f32, .real, 10, 5000, false, 0x43480000⟩,
  ⟨22, 44, 1, "ZERO_UPD", .axis, 4, .f32, .int, 1, 16, false, 0x40000000⟩,
  ⟨22, 45, 1, "RELOCK_EN", .axis, 4, .f32, .int, 0, 1, false, 0x3F800000⟩,
  ⟨22, 50, 1, "SS_I", .axis, 4, .f32, .real, 5, 50, false, 0x41200000⟩,
  ⟨22, 51, 1, "SS_RATE", .axis, 4, .f32, .real, 50, 5000, false, 0x43FA0000⟩,
  ⟨22, 52, 1, "SS_FMAX", .axis, 4, .f32, .real, 0, 1600, false, 0x00000000⟩,
  ⟨22, 53, 1, "OL_IQ", .axis, 4, .f32, .real, 0, 100, false, 0x42480000⟩,
  ⟨22, 60, 1, "ASC_I_MIN", .axis, 4, .f32, .real, 1, 50, false, 0x40A00000⟩,
  ⟨22, 100, 17, "MAP_DELTA_0", .axis, 4, .f32, .real, (-45), 45, false, 0x00000000⟩,
  ⟨22, 200, 17, "MAP_GAIN_0", .axis, 4, .f32, .real, (1/10), 10, false, 0x3F800000⟩]

/-- R327. -/
def p24 : List ParamRow := [
  ⟨24, 1, 1, "MODE", .axis, 4, .f32, .int, 0, 2, false, 0x00000000⟩,
  ⟨24, 2, 1, "F_SPD", .axis, 4, .f32, .list [4000, 8000, 16000], 4000, 16000, false, 0x45FA0000⟩,
  ⟨24, 3, 1, "F_POS", .axis, 4, .f32, .list [1000, 2000, 4000], 1000, 4000, false, 0x44FA0000⟩,
  ⟨24, 4, 1, "N_MAX", .axis, 4, .f32, .real, 1, 20000, true, 0x00000000⟩,
  ⟨24, 5, 1, "N_TRIP", .axis, 4, .f32, .real, 100, 150, false, 0x42E60000⟩,
  ⟨24, 6, 1, "N_ZERO", .axis, 4, .f32, .real, (1/10), 100, false, 0x40A00000⟩,
  ⟨24, 7, 1, "T_ZERO", .axis, 4, .f32, .real, 1, 1000, false, 0x42C80000⟩,
  ⟨24, 10, 1, "BW_N", .axis, 4, .f32, .real, 1, 500, false, 0x41F00000⟩,
  ⟨24, 11, 1, "KP_N", .axis, 4, .f32, .real, 0, 1000000, false, 0x00000000⟩,
  ⟨24, 12, 1, "KI_N", .axis, 4, .f32, .real, 0, 100000000, false, 0x00000000⟩,
  ⟨24, 13, 1, "TF_N", .axis, 4, .f32, .real, 0, 10, false, 0x3F000000⟩,
  ⟨24, 14, 1, "DO_FF", .axis, 4, .f32, .real, 0, 1, false, 0x3F800000⟩,
  ⟨24, 15, 1, "J_FF", .axis, 4, .f32, .int, 0, 1, false, 0x3F800000⟩,
  ⟨24, 20, 1, "ACC", .axis, 4, .f32, .real, 1, 100000, false, 0x42C80000⟩,
  ⟨24, 21, 1, "DEC", .axis, 4, .f32, .real, 1, 100000, false, 0x42C80000⟩,
  ⟨24, 22, 1, "DEC_QS", .axis, 4, .f32, .real, 1, 100000, false, 0x447A0000⟩,
  ⟨24, 23, 1, "ROUND", .axis, 4, .f32, .real, 0, 2, false, 0x3DCCCCCD⟩,
  ⟨24, 24, 1, "STOP_MODE", .axis, 4, .f32, .int, 0, 1, false, 0x00000000⟩,
  ⟨24, 25, 1, "T_OFF_RAMP", .axis, 4, .f32, .real, (1/100), 10, false, 0x3F800000⟩,
  ⟨24, 26, 1, "STOP_TMO", .axis, 4, .f32, .real, 1, 600, false, 0x42700000⟩,
  ⟨24, 27, 1, "HOLD_ZERO_T", .axis, 4, .f32, .real, 0, 5000, false, 0x00000000⟩,
  ⟨24, 30, 1, "T_MOT_POS", .axis, 4, .f32, .real, 0, 1000000, false, 0x00000000⟩,
  ⟨24, 31, 1, "T_GEN_POS", .axis, 4, .f32, .real, 0, 1000000, false, 0x00000000⟩,
  ⟨24, 32, 1, "T_MOT_NEG", .axis, 4, .f32, .real, 0, 1000000, false, 0x00000000⟩,
  ⟨24, 33, 1, "T_GEN_NEG", .axis, 4, .f32, .real, 0, 1000000, false, 0x00000000⟩,
  ⟨24, 34, 1, "P_MOT", .axis, 4, .f32, .real, 0, 20000000, false, 0x00000000⟩,
  ⟨24, 35, 1, "P_GEN", .axis, 4, .f32, .real, 0, 20000000, false, 0x00000000⟩,
  ⟨24, 36, 1, "N_PWR_MIN", .axis, 4, .f32, .real, 1, 1000, false, 0x41200000⟩,
  ⟨24, 40, 1, "KV", .axis, 4, .f32, .real, 1, 500, false, 0x41A00000⟩,
  ⟨24, 41, 1, "POS_FF", .axis, 4, .f32, .real, 0, 1, false, 0x3F800000⟩,
  ⟨24, 50, 1, "HEAVE_EN", .axis, 4, .f32, .int, 0, 1, false, 0x00000000⟩,
  ⟨24, 51, 1, "HV_MAX", .axis, 4, .f32, .real, 0, 20000, false, 0x00000000⟩,
  ⟨24, 52, 1, "HV_HOLD", .axis, 4, .f32, .real, 1, 100, false, 0x40A00000⟩,
  ⟨24, 53, 1, "HV_FADE", .axis, 4, .f32, .real, 10, 5000, false, 0x43480000⟩]

/-- R327. -/
def p26 : List ParamRow := [
  ⟨26, 1, 1, "SNATCH_EN", .axis, 4, .f32, .int, 0, 1, false, 0x00000000⟩,
  ⟨26, 2, 1, "SN_RATE", .axis, 4, .f32, .real, 1, 100000000, false, 0x47C35000⟩,
  ⟨26, 3, 1, "SN_MIN", .axis, 4, .f32, .real, 0, 1000000, false, 0x00000000⟩,
  ⟨26, 4, 1, "T_SHOCK", .axis, 4, .f32, .real, 0, 1000000, false, 0x00000000⟩,
  ⟨26, 5, 1, "SN_T", .axis, 4, .f32, .real, 10, 200, false, 0x43160000⟩,
  ⟨26, 6, 1, "SN_REL", .axis, 4, .f32, .real, 10, 1000, false, 0x42C80000⟩,
  ⟨26, 7, 1, "SN_REARM", .axis, 4, .f32, .real, 1, 60, false, 0x40A00000⟩,
  ⟨26, 8, 1, "SN_TAU", .axis, 4, .f32, .real, 1, 100, false, 0x41200000⟩,
  ⟨26, 10, 1, "SLACK_EN", .axis, 4, .f32, .int, 0, 1, false, 0x00000000⟩,
  ⟨26, 11, 1, "SLACK_TH", .axis, 4, .f32, .real, 0, 1000000, false, 0x00000000⟩,
  ⟨26, 12, 1, "SLACK_T", .axis, 4, .f32, .real, 10, 10000, false, 0x43480000⟩,
  ⟨26, 13, 1, "SLACK_ACT", .axis, 4, .f32, .int, 0, 2, false, 0x3F800000⟩,
  ⟨26, 14, 1, "LINE_SIGN", .axis, 4, .f32, .int, 0, 1, false, 0x00000000⟩,
  ⟨26, 20, 1, "VENT_EN", .axis, 4, .f32, .int, 0, 1, false, 0x00000000⟩,
  ⟨26, 21, 1, "VENT_DROP", .axis, 4, .f32, .real, 10, 90, false, 0x41F00000⟩,
  ⟨26, 22, 1, "VENT_T", .axis, 4, .f32, .real, 10, 1000, false, 0x42C80000⟩,
  ⟨26, 23, 1, "VENT_WIN", .axis, 4, .f32, .real, 100, 10000, false, 0x447A0000⟩,
  ⟨26, 24, 1, "VENT_MODE", .axis, 4, .f32, .int, 0, 1, false, 0x3F800000⟩,
  ⟨26, 25, 1, "N_VENT_MAX", .axis, 4, .f32, .real, 50, 110, false, 0x42C80000⟩,
  ⟨26, 26, 1, "VENT_REC", .axis, 4, .f32, .real, 10, 100, false, 0x42A00000⟩,
  ⟨26, 27, 1, "VENT_REC_T", .axis, 4, .f32, .real, 10, 5000, false, 0x43480000⟩,
  ⟨26, 28, 1, "VENT_MAX_T", .axis, 4, .f32, .real, (1/10), 60, false, 0x41200000⟩,
  ⟨26, 29, 1, "VENT_NMIN", .axis, 4, .f32, .real, 5, 100, false, 0x41A00000⟩]

/-- R361. -/
def p28 : List ParamRow := [
  ⟨28, 1, 1, "SHARED", .axis, 4, .f32, .int, 0, 1, false, 0x00000000⟩,
  ⟨28, 2, 1, "GROUP_ID", .axis, 4, .f32, .int, 1, 65535, true, 0x00000000⟩,
  ⟨28, 3, 1, "MEMBERS", .axis, 4, .f32, .int, 2, 16, false, 0x40000000⟩,
  ⟨28, 4, 1, "MEMBER_IDX", .axis, 4, .f32, .int, 0, 15, false, 0x00000000⟩,
  ⟨28, 5, 1, "MIN_MEMBERS", .axis, 4, .f32, .int, 1, 16, true, 0x00000000⟩,
  ⟨28, 6, 1, "LEAD_EN", .axis, 4, .f32, .int, 0, 1, false, 0x3F800000⟩,
  ⟨28, 7, 1, "GROUP_FAULT", .axis, 4, .f32, .int, 0, 1, false, 0x3F800000⟩,
  ⟨28, 8, 1, "MEMBER_OFS", .axis, 4, .f32, .real, 0, 60, false, 0x00000000⟩,
  ⟨28, 9, 1, "PHASE_STEP", .axis, 4, .f32, .int, 0, 255, false, 0x00000000⟩,
  ⟨28, 10, 1, "SLOT_OFS", .axis, 4, .f32, .real, 2, 100, false, 0x40000000⟩,
  ⟨28, 11, 1, "T_APPLY", .axis, 4, .f32, .real, 4, 1000, false, 0x41C80000⟩,
  ⟨28, 12, 1, "SHARE_RAMP", .axis, 4, .f32, .real, 1, 1000, false, 0x41A00000⟩,
  ⟨28, 13, 1, "K_SHARE", .axis, 4, .f32, .real, 0, 100, false, 0x40A00000⟩,
  ⟨28, 14, 1, "SHARE_LIM", .axis, 4, .f32, .real, 0, (1/10), false, 0x3D4CCCCD⟩,
  ⟨28, 15, 1, "SHARE_TMIN", .axis, 4, .f32, .real, 1, 50, false, 0x41200000⟩,
  ⟨28, 16, 1, "SPD_DEV", .axis, 4, .f32, .real, 0, 1000, false, 0x41A00000⟩,
  ⟨28, 20, 16, "MEMBER_W_0", .axis, 4, .f32, .real, (1/10), 1, false, 0x3F800000⟩,
  ⟨28, 40, 4, "W_SET", .set, 4, .f32, .real, (1/10), 1, false, 0x3F800000⟩]

/-- R403. -/
def p30 : List ParamRow := [
  ⟨30, 1, 1, "TYPE", .port, 4, .f32, .int, 0, 6, false, 0x00000000⟩,
  ⟨30, 2, 1, "TERM", .port, 4, .f32, .int, 0, 1, false, 0x3F800000⟩,
  ⟨30, 3, 1, "FILT", .port, 4, .f32, .real, 0, (375/2), false, 0x41C80000⟩,
  ⟨30, 4, 1, "CPT", .port, 4, .i32, .int, 1, 2147483647, true, 0x00000000⟩,
  ⟨30, 5, 1, "SOFT_MIN", .port, 4, .i32, .int, (-2147483648), 2147483647, false, 0x80000000⟩,
  ⟨30, 6, 1, "SOFT_MAX", .port, 4, .i32, .int, (-2147483648), 2147483647, false, 0x7FFFFFFF⟩,
  ⟨30, 7, 1, "Z_REF", .port, 4, .f32, .int, 0, 1, false, 0x00000000⟩,
  ⟨30, 8, 1, "INTERP", .port, 4, .f32, .int, 2, 12, false, 0x41400000⟩,
  ⟨30, 10, 1, "WIN_K", .port, 4, .f32, .int, 0, 8, false, 0x40A00000⟩,
  ⟨30, 11, 1, "T_STILL", .port, 4, .f32, .int, 1, 15, false, 0x40800000⟩,
  ⟨30, 20, 1, "AMP_EN", .port, 4, .f32, .int, 0, 1, false, 0x00000000⟩,
  ⟨30, 21, 1, "AMP_MIN", .port, 4, .f32, .real, 0, 8190, false, 0x43960000⟩,
  ⟨30, 22, 1, "AMP_MAX", .port, 4, .f32, .real, 0, 8190, false, 0x442F0000⟩,
  ⟨30, 23, 1, "AMP_FILT", .port, 4, .f32, .int, 1, 255, false, 0x40800000⟩,
  ⟨30, 30, 1, "DATA_BITS", .port, 4, .f32, .int, 8, 40, false, 0x41C80000⟩,
  ⟨30, 31, 1, "GRAY", .port, 4, .f32, .int, 0, 1, false, 0x00000000⟩,
  ⟨30, 32, 1, "PARITY", .port, 4, .f32, .int, 0, 1, false, 0x00000000⟩,
  ⟨30, 33, 1, "CLK_F", .port, 4, .f32, .real, 100, 10000, false, 0x447A0000⟩,
  ⟨30, 34, 1, "T_RD", .port, 4, .f32, .real, 8, 1020, false, 0x42700000⟩,
  ⟨30, 35, 1, "MONO", .port, 4, .f32, .real, 1, 255, false, 0x41A00000⟩,
  ⟨30, 36, 1, "LINE_DLY", .port, 4, .f32, .real, 0, (6375/2), false, 0x00000000⟩,
  ⟨30, 37, 1, "JUMP_MAX", .port, 4, .i32, .int, 0, 2147483647, false, 0x00000000⟩,
  ⟨30, 40, 1, "EXC_V", .port, 4, .f32, .real, 2, 7, false, 0x40800000⟩,
  ⟨30, 41, 1, "EXC_F", .port, 4, .f32, .real, 2, 20, false, 0x41200000⟩,
  ⟨30, 42, 1, "RES_PP", .port, 4, .f32, .int, 1, 15, false, 0x3F800000⟩,
  ⟨30, 43, 1, "RES_BW", .port, 4, .f32, .real, 100, 4000, false, 0x447A0000⟩,
  ⟨30, 50, 1, "PT_MODE", .pt, 4, .f32, .int, 0, 2, false, 0x00000000⟩,
  ⟨30, 51, 1, "PT_SRC", .pt, 4, .f32, .int, 0, 7, false, 0x00000000⟩,
  ⟨30, 52, 1, "PT_PPR", .pt, 4, .f32, .int, 1, 1048576, false, 0x44800000⟩,
  ⟨30, 53, 1, "PT_MIN_EDGE", .pt, 4, .f32, .real, 25, (6375/2), false, 0x42C80000⟩,
  ⟨30, 54, 1, "PT_LAG_MAX", .pt, 4, .f32, .int, 1, 65535, false, 0x42800000⟩]

/-- R422. -/
def p32 : List ParamRow := [
  ⟨32, 1, 1, "UNIT_SCALE", .channel, 8, .f32, .real, (1/1000), 1000000, false, 0x3F800000⟩,
  ⟨32, 2, 1, "V_MAX", .channel, 8, .f32, .real, (1/1000), 1000000000, false, 0x447A0000⟩,
  ⟨32, 3, 1, "A_MAX", .channel, 8, .f32, .real, (1/1000), 10000000000, false, 0x461C4000⟩,
  ⟨32, 4, 1, "D_MAX", .channel, 8, .f32, .real, (1/1000), 10000000000, false, 0x461C4000⟩,
  ⟨32, 5, 1, "J_MAX", .channel, 8, .f32, .real, (1/1000), 1000000000000, false, 0x47C35000⟩,
  ⟨32, 6, 1, "D_QS", .channel, 8, .f32, .real, (1/1000), 10000000000, false, 0x47435000⟩,
  ⟨32, 10, 1, "DEV_WIN", .channel, 8, .f32, .real, 0, 1000000000, false, 0x00000000⟩,
  ⟨32, 11, 1, "DEV_T", .channel, 8, .f32, .real, (1/10), 1000, false, 0x41200000⟩,
  ⟨32, 12, 1, "DEV_PORT", .channel, 8, .f32, .int, 0, 4, false, 0x40800000⟩,
  ⟨32, 13, 1, "ENC_PER_STEP", .channel, 8, .f32, .real, (-1000000), 1000000, false, 0x3F800000⟩,
  ⟨32, 20, 1, "LIM_MODE", .channel, 8, .f32, .int, 0, 2, false, 0x00000000⟩,
  ⟨32, 21, 1, "LIM_SEL", .channel, 8, .f32, .int, 0, 4, false, 0x40800000⟩,
  ⟨32, 22, 1, "LIM_FILT", .channel, 8, .f32, .real, (1/10), 10, false, 0x3F800000⟩,
  ⟨32, 30, 1, "SOURCE", .channel, 8, .f32, .int, 0, 2, false, 0x00000000⟩,
  ⟨32, 31, 1, "F_MAX", .channel, 8, .f32, .real, 1, 2000000, false, 0x47C35000⟩,
  ⟨32, 32, 1, "STEP_W", .channel, 8, .f32, .real, (1/4), 10, false, 0x40200000⟩,
  ⟨32, 33, 1, "T_DIR", .channel, 8, .f32, .real, (1/5), 10, false, 0x40A00000⟩,
  ⟨32, 34, 1, "F_START", .channel, 8, .f32, .real, 0, 2000000, false, 0x447A0000⟩,
  ⟨32, 35, 1, "P_LAG_MAX", .channel, 8, .f32, .int, 1, 65535, false, 0x42800000⟩,
  ⟨32, 40, 1, "GEAR_PORT", .channel, 8, .f32, .int, 0, 3, false, 0x00000000⟩,
  ⟨32, 41, 1, "GEAR_NUM", .channel, 8, .i32, .int, (-2147483648), 2147483647, false, 0x00000001⟩,
  ⟨32, 42, 1, "GEAR_DEN", .channel, 8, .i32, .int, 1, 2147483647, false, 0x00000001⟩,
  ⟨32, 43, 1, "LW_MIN", .channel, 8, .i32, .int, (-2147483648), 2147483647, false, 0x00000000⟩,
  ⟨32, 44, 1, "LW_MAX", .channel, 8, .i32, .int, (-2147483648), 2147483647, false, 0x00000000⟩,
  ⟨32, 45, 1, "LW_DWELL", .channel, 8, .i32, .int, 0, 2147483647, false, 0x00000000⟩,
  ⟨32, 46, 1, "LW_EN", .channel, 8, .f32, .int, 0, 1, false, 0x00000000⟩,
  ⟨32, 47, 1, "LW_DIR", .channel, 8, .f32, .int, 0, 1, false, 0x00000000⟩,
  ⟨32, 50, 1, "PC_PORT", .channel, 8, .f32, .int, 0, 4, false, 0x40800000⟩,
  ⟨32, 51, 1, "PC_NUM", .channel, 8, .f32, .int, 1, 1000000, false, 0x3F800000⟩,
  ⟨32, 52, 1, "PC_DEN", .channel, 8, .f32, .int, 1, 1000000, false, 0x3F800000⟩]

/-- R575. -/
def p36 : List ParamRow := [
  ⟨36, 1, 1, "SHED_CYCLE", .device, 1, .f32, .list [125/4, 125/2, 125, 250, 500, 1000], (125/4), 1000, false, 0x427A0000⟩,
  ⟨36, 2, 1, "PORT_EN", .device, 1, .f32, .int, 0, 15, false, 0x00000000⟩,
  ⟨36, 3, 1, "ASYM", .weft, 4, .f32, .real, (-50), 50, false, 0x00000000⟩,
  ⟨36, 10, 1, "ADDR_PREF", .device, 1, .f32, .int, 1, 254, true, 0x00000000⟩,
  ⟨36, 11, 1, "ADDR_LOCK", .device, 1, .f32, .int, 0, 1, false, 0x00000000⟩,
  ⟨36, 12, 1, "GM_PRIO", .device, 1, .f32, .int, 0, 255, false, 0x43000000⟩,
  ⟨36, 13, 1, "CLAIM_T", .device, 1, .f32, .real, 1, 100, false, 0x40000000⟩,
  ⟨36, 20, 1, "HELLO_T", .device, 1, .f32, .real, 50, 1000, false, 0x42C80000⟩,
  ⟨36, 21, 1, "ROUTE_T", .device, 1, .f32, .real, (1/2), 100, false, 0x3F800000⟩,
  ⟨36, 22, 1, "SYNC_T", .device, 1, .f32, .real, (1/4), 16, false, 0x3F800000⟩,
  ⟨36, 23, 1, "SYNC_WIN", .device, 1, .f32, .real, 20, 1000, false, 0x42C80000⟩,
  ⟨36, 24, 1, "STEP_TH", .device, 1, .f32, .real, 100, 1000000, false, 0x447A0000⟩,
  ⟨36, 25, 1, "CTX_AGE", .device, 1, .f32, .real, (1/10), 60, false, 0x3F800000⟩,
  ⟨36, 26, 1, "FRAG_TMO", .device, 1, .f32, .real, 10, 1000, false, 0x42480000⟩]

/-- R590. -/
def p38 : List ParamRow := [
  ⟨38, 1, 1, "ENABLE", .can, 4, .u32, .int, 0, 1, false, 0x00000000⟩,
  ⟨38, 2, 1, "MODE", .can, 4, .u32, .int, 0, 2, false, 0x00000000⟩,
  ⟨38, 3, 1, "FD_EN", .can, 4, .u32, .int, 0, 1, false, 0x00000001⟩,
  ⟨38, 4, 1, "BRS_EN", .can, 4, .u32, .int, 0, 1, false, 0x00000001⟩,
  ⟨38, 5, 1, "TXMODE", .can, 4, .u32, .int, 0, 1, false, 0x00000000⟩,
  ⟨38, 10, 1, "N_BRP", .can, 4, .u32, .code, 0, 4294967295, false, 0x00000001⟩,
  ⟨38, 11, 1, "N_TSEG1", .can, 4, .u32, .code, 0, 4294967295, false, 0x0000007F⟩,
  ⟨38, 12, 1, "N_TSEG2", .can, 4, .u32, .code, 0, 4294967295, false, 0x00000020⟩,
  ⟨38, 13, 1, "N_SJW", .can, 4, .u32, .code, 0, 4294967295, false, 0x00000020⟩,
  ⟨38, 20, 1, "D_BRP", .can, 4, .u32, .code, 0, 4294967295, false, 0x00000001⟩,
  ⟨38, 21, 1, "D_TSEG1", .can, 4, .u32, .code, 0, 4294967295, false, 0x0000001D⟩,
  ⟨38, 22, 1, "D_TSEG2", .can, 4, .u32, .code, 0, 4294967295, false, 0x0000000A⟩,
  ⟨38, 23, 1, "D_SJW", .can, 4, .u32, .code, 0, 4294967295, false, 0x0000000A⟩,
  ⟨38, 24, 1, "TDC_EN", .can, 4, .u32, .int, 0, 1, false, 0x00000000⟩,
  ⟨38, 25, 1, "SSP_OFS", .can, 4, .u32, .int, 0, 255, false, 0x00000000⟩,
  ⟨38, 100, 32, "FILT_ID_0", .can, 4, .u32, .word, 0, 4294967295, false, 0x00000000⟩,
  ⟨38, 200, 32, "FILT_MASK_0", .can, 4, .u32, .word, 0, 4294967295, false, 0x00000000⟩]

/-- R459. -/
def p40 : List ParamRow := [
  ⟨40, 1, 1, "STO_ASC", .device, 1, .f32, .int, 0, 1, false, 0x00000000⟩,
  ⟨40, 2, 1, "STO_DISC", .device, 1, .f32, .real, 5, 500, false, 0x41A00000⟩,
  ⟨40, 3, 1, "STO_TEST_DAYS", .device, 1, .f32, .int, 2, 30, false, 0x41F00000⟩,
  ⟨40, 10, 1, "SS1_MODE", .axis, 4, .f32, .int, 0, 1, false, 0x00000000⟩,
  ⟨40, 11, 1, "T_SS1", .axis, 4, .f32, .real, 10, 60000, false, 0x459C4000⟩,
  ⟨40, 12, 1, "SS1_DEC", .axis, 4, .f32, .real, 1, 100000, false, 0x42C80000⟩,
  ⟨40, 13, 1, "SS1_TOL", .axis, 4, .f32, .real, 0, 1000, false, 0x42480000⟩,
  ⟨40, 14, 1, "N_SAFE_ZERO", .axis, 4, .f32, .real, (1/10), 100, false, 0x40A00000⟩,
  ⟨40, 20, 1, "BRK_PAIR", .axis, 4, .f32, .int, 0, 4, false, 0x40800000⟩,
  ⟨40, 21, 1, "T_STO_AFTER_SBC", .axis, 4, .f32, .real, 0, 1000, false, 0x00000000⟩,
  ⟨40, 30, 1, "SAFE_PORT", .axis, 4, .f32, .int, 0, 4, false, 0x40800000⟩,
  ⟨40, 31, 1, "SAFE_CPT", .axis, 4, .i32, .int, 1, 2147483647, true, 0x00000000⟩,
  ⟨40, 32, 1, "SPD_FILT", .axis, 4, .f32, .half, (1/2), 32, false, 0x40800000⟩,
  ⟨40, 33, 1, "STALE_TOL", .axis, 4, .f32, .int, 1, 8, false, 0x40000000⟩,
  ⟨40, 40, 1, "I_SAFE", .axis, 4, .f32, .real, 0, 6000, false, 0x00000000⟩,
  ⟨40, 41, 1, "I_SAFE_N", .axis, 4, .f32, .int, 1, 64, false, 0x40800000⟩,
  ⟨40, 42, 1, "SAFE_RSH", .axis, 4, .f32, .real, (1/1000000), (13107/200000), false, 0x38D1B717⟩,
  ⟨40, 900, 1, "STAGE_OPEN", .device, 1, .u32, .int, 0, 3, false, 0x00000000⟩,
  ⟨40, 901, 1, "SEAL", .device, 1, .u32, .word, 0, 4294967295, false, 0x00000000⟩,
  ⟨40, 902, 1, "STAGE_ABORT", .device, 1, .u32, .word, 0, 4294967295, false, 0x00000000⟩]

/-- R459. -/
def p41 : List ParamRow := [
  ⟨41, 1, 4, "SLS_LIM_0", .axis, 4, .f32, .real, 0, 20000, false, 0x00000000⟩,
  ⟨41, 10, 1, "SLS_REACT", .axis, 4, .f32, .int, 0, 1, false, 0x3F800000⟩,
  ⟨41, 11, 1, "T_SLS_ENTRY", .axis, 4, .f32, .real, 0, 10000, false, 0x447A0000⟩,
  ⟨41, 12, 1, "SLS_CLAMP", .axis, 4, .f32, .int, 0, 1, false, 0x3F800000⟩]

/-- R459. -/
def p42 : List ParamRow := [
  ⟨42, 1, 1, "SLP_MIN", .axis, 4, .i32, .int, (-2147483648), 2147483647, false, 0x00000000⟩,
  ⟨42, 2, 1, "SLP_MAX", .axis, 4, .i32, .int, (-2147483648), 2147483647, false, 0x00000000⟩,
  ⟨42, 3, 1, "SLP_DEC", .axis, 4, .f32, .real, 1, 1000000000000, false, 0x47C35000⟩,
  ⟨42, 10, 1, "SLP_REACT", .axis, 4, .f32, .int, 0, 1, false, 0x00000000⟩]

/-- R459. -/
def p43 : List ParamRow := [
  ⟨43, 1, 1, "SDI_TOL", .axis, 4, .i32, .int, 0, 1000000, false, 0x00000064⟩,
  ⟨43, 10, 1, "SDI_REACT", .axis, 4, .f32, .int, 0, 1, false, 0x00000000⟩]

/-- R487. -/
def p44 : List ParamRow := [
  ⟨44, 1, 1, "SI_MODE", .siPair, 8, .f32, .int, 0, 2, false, 0x00000000⟩,
  ⟨44, 2, 1, "SI_DISC", .siPair, 8, .f32, .real, 5, 500, false, 0x42480000⟩,
  ⟨44, 3, 1, "SI_FILT", .siPair, 8, .f32, .real, 1, 10, false, 0x40400000⟩,
  ⟨44, 4, 1, "SI_TP_A", .siPair, 8, .f32, .int, 0, 4, false, 0x40800000⟩,
  ⟨44, 5, 1, "SI_TP_B", .siPair, 8, .f32, .int, 0, 4, false, 0x40800000⟩,
  ⟨44, 10, 1, "TP_W", .device, 1, .f32, .real, 200, 1000, false, 0x43FA0000⟩,
  ⟨44, 11, 1, "TP_T", .device, 1, .f32, .real, 10, 1000, false, 0x42C80000⟩,
  ⟨44, 12, 1, "SAFE_ADDR", .device, 1, .u32, .int, 1, 254, true, 0x00000000⟩,
  ⟨44, 20, 1, "SO_SRC", .soPair, 4, .u32, .code, 0, 4294967295, false, 0x00000000⟩,
  ⟨44, 21, 1, "OP_W", .soPair, 4, .f32, .real, 200, 800, false, 0x43960000⟩,
  ⟨44, 22, 1, "OP_T", .soPair, 4, .f32, .real, (1/2), 10, false, 0x3F800000⟩,
  ⟨44, 30, 1, "SC_DIR", .conn, 32, .f32, .int, 0, 2, false, 0x00000000⟩,
  ⟨44, 31, 1, "SC_ID", .conn, 32, .u32, .int, 1, 65535, false, 0x00000001⟩,
  ⟨44, 32, 1, "SC_PEER", .conn, 32, .u32, .int, 1, 254, false, 0x00000001⟩,
  ⟨44, 33, 1, "ROUTE_A", .conn, 32, .u32, .code, 0, 4294967295, false, 0x00000000⟩,
  ⟨44, 34, 1, "ROUTE_B", .conn, 32, .u32, .code, 0, 4294967295, false, 0x00000001⟩,
  ⟨44, 35, 1, "CAN_ID", .conn, 32, .u32, .canId, 0, 4294967295, false, 0x00000000⟩,
  ⟨44, 36, 1, "TX_T", .conn, 32, .f32, .half, (1/2), 100, false, 0x41200000⟩,
  ⟨44, 37, 1, "WD_T", .conn, 32, .f32, .real, 1, 1000, false, 0x41F00000⟩,
  ⟨44, 38, 1, "CMP_WIN", .conn, 32, .f32, .real, (1/2), 20, false, 0x40000000⟩,
  ⟨44, 39, 1, "AGE_MAX", .conn, 32, .f32, .real, 0, 1000, false, 0x00000000⟩,
  ⟨44, 40, 1, "SEQ_WIN", .conn, 32, .f32, .int, 1, 255, false, 0x41000000⟩,
  ⟨44, 41, 1, "SC_KEY", .conn, 32, .u32, .word, 0, 4294967295, false, 0x00000000⟩,
  ⟨44, 50, 1, "D_STO", .axis, 4, .u32, .code, 0, 4294967295, false, 0x00000000⟩,
  ⟨44, 51, 1, "D_SS1", .axis, 4, .u32, .code, 0, 4294967295, false, 0x00000000⟩,
  ⟨44, 52, 5, "D_SBC", .axis, 4, .u32, .code, 0, 4294967295, false, 0x00000000⟩,
  ⟨44, 57, 1, "D_SLP", .axis, 4, .u32, .code, 0, 4294967295, false, 0x00000000⟩,
  ⟨44, 58, 1, "D_SDI_POS", .axis, 4, .u32, .code, 0, 4294967295, false, 0x00000000⟩,
  ⟨44, 59, 1, "D_SDI_NEG", .axis, 4, .u32, .code, 0, 4294967295, false, 0x00000000⟩,
  ⟨44, 60, 16, "TX_BIT_0", .conn, 32, .u32, .code, 0, 4294967295, false, 0x00000000⟩]

/-- R601. -/
def p50 : List ParamRow := [
  ⟨50, 1, 1, "T_WARN", .device, 1, .f32, .real, (-40), 200, false, 0x42D20000⟩,
  ⟨50, 2, 1, "T_DER0", .device, 1, .f32, .real, (-40), 200, false, 0x42E60000⟩,
  ⟨50, 3, 1, "T_DER1", .device, 1, .f32, .real, (-40), 200, false, 0x42FA0000⟩,
  ⟨50, 4, 1, "T_FAULT", .device, 1, .f32, .real, (-40), 200, false, 0x43070000⟩,
  ⟨50, 5, 1, "RISE_TH", .device, 1, .f32, .real, (1/10), 100, false, 0x40A00000⟩,
  ⟨50, 11, 1, "T_WARN", .device, 1, .f32, .real, (-40), 200, false, 0x42DC0000⟩,
  ⟨50, 12, 1, "T_DER0", .device, 1, .f32, .real, (-40), 200, false, 0x42F00000⟩,
  ⟨50, 13, 1, "T_DER1", .device, 1, .f32, .real, (-40), 200, false, 0x43070000⟩,
  ⟨50, 14, 1, "T_FAULT", .device, 1, .f32, .real, (-40), 200, false, 0x430C0000⟩,
  ⟨50, 15, 1, "RISE_TH", .device, 1, .f32, .real, (1/10), 100, false, 0x41200000⟩,
  ⟨50, 21, 1, "T_WARN", .device, 1, .f32, .real, (-40), 200, false, 0x42C80000⟩,
  ⟨50, 22, 1, "T_DER0", .device, 1, .f32, .real, (-40), 200, false, 0x42DC0000⟩,
  ⟨50, 23, 1, "T_DER1", .device, 1, .f32, .real, (-40), 200, false, 0x42FA0000⟩,
  ⟨50, 24, 1, "T_FAULT", .device, 1, .f32, .real, (-40), 200, false, 0x43020000⟩,
  ⟨50, 25, 1, "RISE_TH", .device, 1, .f32, .real, (1/10), 100, false, 0x40A00000⟩,
  ⟨50, 31, 1, "T_WARN", .device, 1, .f32, .real, (-40), 200, false, 0x428C0000⟩,
  ⟨50, 32, 1, "T_DER0", .device, 1, .f32, .real, (-40), 200, false, 0x42A00000⟩,
  ⟨50, 33, 1, "T_DER1", .device, 1, .f32, .real, (-40), 200, false, 0x42B40000⟩,
  ⟨50, 34, 1, "T_FAULT", .device, 1, .f32, .real, (-40), 200, false, 0x42BE0000⟩,
  ⟨50, 35, 1, "RISE_TH", .device, 1, .f32, .real, (1/10), 100, false, 0x3F800000⟩,
  ⟨50, 40, 1, "HYST", .device, 1, .f32, .real, 1, 20, false, 0x40A00000⟩,
  ⟨50, 41, 1, "RISE_K", .device, 1, .f32, .real, 0, 1, false, 0x3F000000⟩,
  ⟨50, 42, 1, "SENS_FAIL_K", .device, 1, .f32, .real, 0, 1, false, 0x3F000000⟩,
  ⟨50, 43, 1, "T_SKIP", .device, 1, .f32, .real, (-40), 200, false, 0x42DC0000⟩,
  ⟨50, 44, 1, "T_DIV2", .device, 1, .f32, .real, (-40), 200, false, 0x42E60000⟩,
  ⟨50, 45, 1, "T_DIV4", .device, 1, .f32, .real, (-40), 200, false, 0x42F00000⟩,
  ⟨50, 50, 1, "NTC_R25", .set, 4, .f32, .real, 100, 100000, false, 0x459C4000⟩,
  ⟨50, 51, 1, "NTC_B", .set, 4, .f32, .real, 1000, 10000, true, 0x00000000⟩]

/-- R105. -/
def p60 : List ParamRow := [
  ⟨60, 10, 1, "SERVICE_IDLE", .device, 1, .f32, .real, 60, 3600, false, 0x44160000⟩]

end ParamTable

/-- Every parameter of R640. -/
def paramTable : List ParamRow :=
  ParamTable.p10 ++
  ParamTable.p14 ++
  ParamTable.p16 ++
  ParamTable.p18 ++
  ParamTable.p19 ++
  ParamTable.p20 ++
  ParamTable.p22 ++
  ParamTable.p24 ++
  ParamTable.p26 ++
  ParamTable.p28 ++
  ParamTable.p30 ++
  ParamTable.p32 ++
  ParamTable.p36 ++
  ParamTable.p38 ++
  ParamTable.p40 ++
  ParamTable.p41 ++
  ParamTable.p42 ++
  ParamTable.p43 ++
  ParamTable.p44 ++
  ParamTable.p50 ++
  ParamTable.p60

/-- The definition of P<g>.<i>, if a chapter gives one. -/
def paramRow (g i : Nat) : Option ParamRow :=
  paramTable.find? fun r => r.group == g && decide (r.item ≤ i) && decide (i < r.item + r.count)

/-- Where parameter P<g>.<i> of an instance is stored in a parameter bank. -/
def paramKey (g i inst : Nat) : Nat := (g * 1000 + i) * 256 + inst

/-- The default of the parameter stored at a key. -/
def paramDefault (key : Nat) : Word :=
  match paramRow (key / 256 / 1000) (key / 256 % 1000) with
  | some r => r.dflt
  | none => 0

end Sys2Proof.Machine
end

