-- ==== Sys2Proof/Machine/Registers.lean ====
section
/-! DEFINITION. The register map of the EW12-A7, transcribed from the register tables of every chapter (R626 to
R641 and the rules named at each register): the address of every register, the place of every field, and one row
per register kind with its reset value and the bits each access code of R8 covers. -/

namespace Sys2Proof.Machine

/-- One field NAME[hi:lo] of the register at an address (chapter 00, Registers). -/
structure Field where
  addr  : Nat
  lo    : Nat
  width : Nat
deriving DecidableEq, Repr

/-- One register kind: its name, its base address, up to two instance ranges (count, stride), the reset value, and
the masks of the bits that are RW, RWL and W1C (R8). Bits in no mask are RO, WO or reserved: a write stores nothing. -/
structure RegRow where
  name  : String
  base  : Nat
  n1    : Nat
  stride1 : Nat
  n2    : Nat
  stride2 : Nat
  reset : Word
  rw    : Word
  rwl   : Word
  w1c   : Word
deriving DecidableEq, Repr

namespace Reg

/-- R632. -/
def SYS_ID : Nat := 0x4000_0000
/-- R633. -/
def SYS_SVN : Nat := 0x4000_0004
/-- R634. -/
def SYS_RESET : Nat := 0x4000_0008
/-- R635. -/
def SYS_RSTCAUSE : Nat := 0x4000_000C
/-- R56. -/
def SYS_STRAP : Nat := 0x4000_0010
/-- R100. -/
def SYS_MODE : Nat := 0x4000_0020
/-- R101. -/
def SYS_MODEREQ : Nat := 0x4000_0024
/-- R102. -/
def SYS_DAWN : Nat := 0x4000_0028
/-- R103. -/
def SYS_BOOT : Nat := 0x4000_002C
/-- R636. -/
def SYS_CLK : Nat := 0x4000_0030
/-- R599. -/
def THM_STATUS : Nat := 0x4001_0000
/-- R600. -/
def THM_T (i : Nat) : Nat := 0x4001_0100 + i * 0x4
/-- R639. -/
def BST_FAIL : Nat := 0x4002_0000
/-- R639. -/
def BST_GATE : Nat := 0x4002_0004
/-- R507. -/
def LCK_STATUS (n : Nat) : Nat := 0x4003_0000 + n * 0x40
/-- R508. -/
def LCK_EVENT (n : Nat) : Nat := 0x4003_0004 + n * 0x40
/-- R508. -/
def LCK_MISPC (n : Nat) : Nat := 0x4003_0008 + n * 0x40
/-- R508. -/
def LCK_CNT (n : Nat) : Nat := 0x4003_000C + n * 0x40
/-- R509. -/
def LCK_CMD (n : Nat) : Nat := 0x4003_0010 + n * 0x40
/-- R509. -/
def LCK_IRQEN (n : Nat) : Nat := 0x4003_0014 + n * 0x40
/-- R509. -/
def LCK_IRQPEND (n : Nat) : Nat := 0x4003_0018 + n * 0x40
/-- R509. -/
def LCK_MSIP (n : Nat) : Nat := 0x4003_001C + n * 0x40
/-- R509. -/
def LCK_MTIMECMP_LO (n : Nat) : Nat := 0x4003_0020 + n * 0x40
/-- R509. -/
def LCK_MTIMECMP_HI (n : Nat) : Nat := 0x4003_0024 + n * 0x40
/-- R509. -/
def LCK_MTIME_LO : Nat := 0x4003_0100
/-- R509. -/
def LCK_MTIME_HI : Nat := 0x4003_0104
/-- R637. -/
def PMU_RTC : Nat := 0x4004_0000
/-- R638. -/
def PMU_WAKE : Nat := 0x4004_0004
/-- R63. -/
def PMU_LOCKOUT : Nat := 0x4004_0008
/-- R104. -/
def PMU_NIGHT : Nat := 0x4004_000C
/-- R132. -/
def GDC_CFG (n : Nat) : Nat := 0x4010_0000 + n * 0x400
/-- R133. -/
def GDC_SEGON (n : Nat) : Nat := 0x4010_0004 + n * 0x400
/-- R133. -/
def GDC_SEGOFF (n : Nat) : Nat := 0x4010_0008 + n * 0x400
/-- R134. -/
def GDC_SENSE (n : Nat) : Nat := 0x4010_000C + n * 0x400
/-- R135. -/
def GDC_TIME (n : Nat) : Nat := 0x4010_0010 + n * 0x400
/-- R136. -/
def GDC_STATUS (n : Nat) : Nat := 0x4010_0020 + n * 0x400
/-- R137. -/
def GDC_FAULT (n : Nat) : Nat := 0x4010_0024 + n * 0x400
/-- R138. -/
def GDC_TEST (n : Nat) : Nat := 0x4010_0028 + n * 0x400
/-- R138. -/
def GDC_TESTRES (n : Nat) : Nat := 0x4010_002C + n * 0x400
/-- R139. -/
def GDC_TCONF (n : Nat) : Nat := 0x4010_0030 + n * 0x400
/-- R140. -/
def GDC_SET_SHOOT (s : Nat) : Nat := 0x4010_7000 + s * 0x40
/-- R141. -/
def GDC_SET_FAULT (s : Nat) : Nat := 0x4010_7004 + s * 0x40
/-- R166. -/
def PSP_SC (s : Nat) : Nat := 0x4012_0000 + s * 0x100
/-- R167. -/
def PSP_OC (s : Nat) : Nat := 0x4012_0004 + s * 0x100
/-- R168. -/
def PSP_OV12 (s : Nat) : Nat := 0x4012_0008 + s * 0x100
/-- R168. -/
def PSP_OV3UV (s : Nat) : Nat := 0x4012_000C + s * 0x100
/-- R169. -/
def PSP_CHOP (s : Nat) : Nat := 0x4012_0010 + s * 0x100
/-- R170. -/
def PSP_CROSS (s : Nat) : Nat := 0x4012_0014 + s * 0x100
/-- R170. -/
def PSP_KE (s : Nat) : Nat := 0x4012_0018 + s * 0x100
/-- R171. -/
def PSP_STATE (s : Nat) : Nat := 0x4012_0020 + s * 0x100
/-- R172. -/
def PSP_FAULT (s : Nat) : Nat := 0x4012_0024 + s * 0x100
/-- R173. -/
def PSP_CHOPST (s : Nat) : Nat := 0x4012_0028 + s * 0x100
/-- R174. -/
def PSP_REQ : Nat := 0x4012_0800
/-- R191. -/
def PWM_CFG (s : Nat) : Nat := 0x4014_0000 + s * 0x100
/-- R192. -/
def PWM_PHASE (s : Nat) : Nat := 0x4014_0004 + s * 0x100
/-- R193. -/
def PWM_SAMP (s : Nat) : Nat := 0x4014_0008 + s * 0x100
/-- R194. -/
def PWM_WIN (s : Nat) : Nat := 0x4014_000C + s * 0x100
/-- R195. -/
def PWM_BOOT (s : Nat) : Nat := 0x4014_0010 + s * 0x100
/-- R196. -/
def PWM_STATUS (s : Nat) : Nat := 0x4014_0020 + s * 0x100
/-- R197. -/
def PWM_CNT (s : Nat) : Nat := 0x4014_0024 + s * 0x100
/-- R198. -/
def PWM_CMPR (s : Nat) (k : Nat) : Nat := 0x4014_0030 + s * 0x100 + k * 0x4
/-- R198. -/
def PWM_CMPF (s : Nat) (k : Nat) : Nat := 0x4014_0040 + s * 0x100 + k * 0x4
/-- R223. -/
def MFE_CFG (s : Nat) : Nat := 0x4016_0000 + s * 0x100
/-- R224. -/
def MFE_FS (s : Nat) (k : Nat) : Nat := 0x4016_0004 + s * 0x100 + k * 0x4
/-- R225. -/
def MFE_SHUNT (s : Nat) : Nat := 0x4016_0010 + s * 0x100
/-- R225. -/
def MFE_XC (s : Nat) : Nat := 0x4016_0014 + s * 0x100
/-- R225. -/
def MFE_LIM (s : Nat) : Nat := 0x4016_0018 + s * 0x100
/-- R226. -/
def MFE_STATUS (s : Nat) : Nat := 0x4016_0020 + s * 0x100
/-- R227. -/
def MFE_FAULT (s : Nat) : Nat := 0x4016_0024 + s * 0x100
/-- R228. -/
def MFE_IPH (s : Nat) (k : Nat) : Nat := 0x4016_0030 + s * 0x100 + k * 0x4
/-- R229. -/
def MFE_VDC (s : Nat) : Nat := 0x4016_0040 + s * 0x100
/-- R229. -/
def MFE_NTC (s : Nat) : Nat := 0x4016_0044 + s * 0x100
/-- R230. -/
def MFE_CNT (s : Nat) : Nat := 0x4016_0048 + s * 0x100
/-- R231. -/
def MFE_SUPPLY : Nat := 0x4016_0800
/-- R266. -/
def LOOM_CFG (s : Nat) : Nat := 0x4020_0000 + s * 0x10000
/-- R267. -/
def LOOM_STATUS (s : Nat) : Nat := 0x4020_0004 + s * 0x10000
/-- R268. -/
def LOOM_FAULT (s : Nat) : Nat := 0x4020_0008 + s * 0x10000
/-- R269. -/
def LOOM_ECC (s : Nat) : Nat := 0x4020_000C + s * 0x10000
/-- R269. -/
def LOOM_TIME (s : Nat) : Nat := 0x4020_0040 + s * 0x10000
/-- R269. -/
def LOOM_CNT (s : Nat) : Nat := 0x4020_0044 + s * 0x10000
/-- R270. -/
def LOOM_IDREF (s : Nat) : Nat := 0x4020_0010 + s * 0x10000
/-- R270. -/
def LOOM_IQREF (s : Nat) : Nat := 0x4020_0014 + s * 0x10000
/-- R270. -/
def LOOM_ID (s : Nat) : Nat := 0x4020_0018 + s * 0x10000
/-- R270. -/
def LOOM_IQ (s : Nat) : Nat := 0x4020_001C + s * 0x10000
/-- R270. -/
def LOOM_VD (s : Nat) : Nat := 0x4020_0020 + s * 0x10000
/-- R270. -/
def LOOM_VQ (s : Nat) : Nat := 0x4020_0024 + s * 0x10000
/-- R270. -/
def LOOM_TE (s : Nat) : Nat := 0x4020_0028 + s * 0x10000
/-- R270. -/
def LOOM_TL (s : Nat) : Nat := 0x4020_002C + s * 0x10000
/-- R270. -/
def LOOM_DID (s : Nat) : Nat := 0x4020_0030 + s * 0x10000
/-- R270. -/
def LOOM_PSIR (s : Nat) : Nat := 0x4020_0034 + s * 0x10000
/-- R270. -/
def LOOM_BAL (s : Nat) : Nat := 0x4020_0038 + s * 0x10000
/-- R271. -/
def LOOM_CMD (s : Nat) : Nat := 0x4020_0048 + s * 0x10000
/-- R297. -/
def POS_CFG (a : Nat) : Nat := 0x4030_0000 + a * 0x100
/-- R298. -/
def POS_STATUS (a : Nat) : Nat := 0x4030_0004 + a * 0x100
/-- R299. -/
def POS_FAULT (a : Nat) : Nat := 0x4030_0008 + a * 0x100
/-- R300. -/
def POS_ANGLE (a : Nat) : Nat := 0x4030_000C + a * 0x100
/-- R300. -/
def POS_SPEED (a : Nat) : Nat := 0x4030_0010 + a * 0x100
/-- R301. -/
def POS_START (a : Nat) : Nat := 0x4030_0014 + a * 0x100
/-- R302. -/
def POS_MAP (a : Nat) : Nat := 0x4030_0018 + a * 0x100
/-- R302. -/
def POS_CNT (a : Nat) : Nat := 0x4030_001C + a * 0x100
/-- R302. -/
def POS_CMD (a : Nat) : Nat := 0x4030_0020 + a * 0x100
/-- R323. -/
def SPD_CFG (a : Nat) : Nat := 0x4034_0000 + a * 0x100
/-- R324. -/
def SPD_STATE (a : Nat) : Nat := 0x4034_0004 + a * 0x100
/-- R321. -/
def SPD_FAULT (a : Nat) : Nat := 0x4034_0008 + a * 0x100
/-- R325. -/
def SPD_NCMD (a : Nat) : Nat := 0x4034_0010 + a * 0x100
/-- R325. -/
def SPD_NREF (a : Nat) : Nat := 0x4034_0014 + a * 0x100
/-- R325. -/
def SPD_NACT (a : Nat) : Nat := 0x4034_0018 + a * 0x100
/-- R325. -/
def SPD_TREF (a : Nat) : Nat := 0x4034_001C + a * 0x100
/-- R325. -/
def SPD_TLPOS (a : Nat) : Nat := 0x4034_0020 + a * 0x100
/-- R325. -/
def SPD_TLNEG (a : Nat) : Nat := 0x4034_0024 + a * 0x100
/-- R325. -/
def SPD_HEAVE (a : Nat) : Nat := 0x4034_0028 + a * 0x100
/-- R326. -/
def SPD_FACT (a : Nat) : Nat := 0x4034_002C + a * 0x100
/-- R326. -/
def SPD_CNT (a : Nat) : Nat := 0x4034_0030 + a * 0x100
/-- R326. -/
def SPD_LAST (a : Nat) : Nat := 0x4034_0034 + a * 0x100
/-- R354. -/
def LSH_CFG (a : Nat) : Nat := 0x4038_0000 + a * 0x100
/-- R355. -/
def LSH_GROUP (a : Nat) : Nat := 0x4038_0004 + a * 0x100
/-- R355. -/
def LSH_TIME (a : Nat) : Nat := 0x4038_0008 + a * 0x100
/-- R356. -/
def LSH_STATE (a : Nat) : Nat := 0x4038_000C + a * 0x100
/-- R357. -/
def LSH_MAP (a : Nat) : Nat := 0x4038_0010 + a * 0x100
/-- R357. -/
def LSH_CNT (a : Nat) : Nat := 0x4038_0014 + a * 0x100
/-- R358. -/
def LSH_REFUSE (a : Nat) : Nat := 0x4038_0018 + a * 0x100
/-- R359. -/
def LSH_TM (a : Nat) : Nat := 0x4038_0020 + a * 0x100
/-- R359. -/
def LSH_SHARE (a : Nat) : Nat := 0x4038_0024 + a * 0x100
/-- R359. -/
def LSH_KCAP (a : Nat) : Nat := 0x4038_0028 + a * 0x100
/-- R359. -/
def LSH_TEAX (a : Nat) : Nat := 0x4038_002C + a * 0x100
/-- R360. -/
def LSH_W (s : Nat) : Nat := 0x4038_0800 + s * 0x4
/-- R393. -/
def FBI_CFG (n : Nat) : Nat := 0x4040_0000 + n * 0x100
/-- R394. -/
def FBI_CPT (n : Nat) : Nat := 0x4040_0004 + n * 0x100
/-- R394. -/
def FBI_SOFTMIN (n : Nat) : Nat := 0x4040_0008 + n * 0x100
/-- R394. -/
def FBI_SOFTMAX (n : Nat) : Nat := 0x4040_000C + n * 0x100
/-- R395. -/
def FBI_SER (n : Nat) : Nat := 0x4040_0010 + n * 0x100
/-- R396. -/
def FBI_RES (n : Nat) : Nat := 0x4040_0014 + n * 0x100
/-- R396. -/
def FBI_AMP (n : Nat) : Nat := 0x4040_0018 + n * 0x100
/-- R394. -/
def FBI_JUMP (n : Nat) : Nat := 0x4040_001C + n * 0x100
/-- R397. -/
def FBI_STATUS (n : Nat) : Nat := 0x4040_0020 + n * 0x100
/-- R398. -/
def FBI_FAULT (n : Nat) : Nat := 0x4040_0024 + n * 0x100
/-- R399. -/
def FBI_POS (n : Nat) : Nat := 0x4040_0028 + n * 0x100
/-- R399. -/
def FBI_TURN (n : Nat) : Nat := 0x4040_002C + n * 0x100
/-- R399. -/
def FBI_SPEED (n : Nat) : Nat := 0x4040_0030 + n * 0x100
/-- R399. -/
def FBI_DELTA (n : Nat) : Nat := 0x4040_0034 + n * 0x100
/-- R399. -/
def FBI_ZCAP (n : Nat) : Nat := 0x4040_0038 + n * 0x100
/-- R399. -/
def FBI_PRESET (n : Nat) : Nat := 0x4040_003C + n * 0x100
/-- R399. -/
def FBI_CNT (n : Nat) : Nat := 0x4040_0044 + n * 0x100
/-- R400. -/
def FBI_CTRL (n : Nat) : Nat := 0x4040_0040 + n * 0x100
/-- R401. -/
def FBI_CMP (n : Nat) : Nat := 0x4040_0050 + n * 0x100
/-- R401. -/
def FBI_CMPSP (n : Nat) : Nat := 0x4040_0054 + n * 0x100
/-- R401. -/
def FBI_CMPCFG (n : Nat) : Nat := 0x4040_0058 + n * 0x100
/-- R401. -/
def FBI_CMPST (n : Nat) : Nat := 0x4040_005C + n * 0x100
/-- R401. -/
def FBI_CMPT_LO (n : Nat) : Nat := 0x4040_0060 + n * 0x100
/-- R401. -/
def FBI_CMPT_HI (n : Nat) : Nat := 0x4040_0064 + n * 0x100
/-- R402. -/
def PT_CFG (m : Nat) : Nat := 0x4040_0800 + m * 0x20
/-- R402. -/
def PT_EMU (m : Nat) : Nat := 0x4040_0804 + m * 0x20
/-- R402. -/
def PT_STATUS (m : Nat) : Nat := 0x4040_0808 + m * 0x20
/-- R419. -/
def PRG_STATE (c : Nat) : Nat := 0x4044_0000 + c * 0x100
/-- R420. -/
def PRG_TARGET (c : Nat) : Nat := 0x4044_0004 + c * 0x100
/-- R420. -/
def PRG_PPROF (c : Nat) : Nat := 0x4044_0008 + c * 0x100
/-- R420. -/
def PRG_VPROF (c : Nat) : Nat := 0x4044_000C + c * 0x100
/-- R420. -/
def PRG_DEV (c : Nat) : Nat := 0x4044_0010 + c * 0x100
/-- R420. -/
def PRG_COUNT (c : Nat) : Nat := 0x4044_0020 + c * 0x100
/-- R420. -/
def PRG_LAG (c : Nat) : Nat := 0x4044_0024 + c * 0x100
/-- R421. -/
def PRG_CTRL (c : Nat) : Nat := 0x4044_0028 + c * 0x100
/-- R420. -/
def PRG_PRESET (c : Nat) : Nat := 0x4044_002C + c * 0x100
/-- R455. -/
def SFI_STATUS : Nat := 0x4050_0000
/-- R456. -/
def SFI_SEAL : Nat := 0x4050_0010
/-- R456. -/
def SFI_STAGE : Nat := 0x4050_0014
/-- R456. -/
def SFI_SEALINFO : Nat := 0x4050_0018
/-- R457. -/
def SFI_AX_STATE (a : Nat) : Nat := 0x4050_0100 + a * 0x40
/-- R458. -/
def SFI_AX_FAULT (a : Nat) : Nat := 0x4050_0104 + a * 0x40
/-- R458. -/
def SFI_AX_NSAFE (a : Nat) : Nat := 0x4050_0108 + a * 0x40
/-- R458. -/
def SFI_AX_HSAFE (a : Nat) : Nat := 0x4050_010C + a * 0x40
/-- R482. -/
def SFI_SI_STATE : Nat := 0x4050_0200
/-- R483. -/
def SFI_SI_FAULT : Nat := 0x4050_0204
/-- R484. -/
def SFI_SO_STATE : Nat := 0x4050_0280
/-- R485. -/
def SFI_SO_FAULT : Nat := 0x4050_0284
/-- R486. -/
def SFI_SC_STATE (k : Nat) : Nat := 0x4050_0400 + k * 0x10
/-- R486. -/
def SFI_SC_CNT (k : Nat) : Nat := 0x4050_0404 + k * 0x10
/-- R486. -/
def SFI_SC_RX (k : Nat) : Nat := 0x4050_0408 + k * 0x10
/-- R537. -/
def HIF_CFG : Nat := 0x4060_0000
/-- R538. -/
def HIF_STATUS : Nat := 0x4060_0004
/-- R538. -/
def HIF_CNT : Nat := 0x4060_0008
/-- R539. -/
def HIF_SQ_BASE_LO (n : Nat) : Nat := 0x4060_0100 + n * 0x20
/-- R539. -/
def HIF_SQ_BASE_HI (n : Nat) : Nat := 0x4060_0104 + n * 0x20
/-- R539. -/
def HIF_SQ_CFG (n : Nat) : Nat := 0x4060_0108 + n * 0x20
/-- R539. -/
def HIF_SQ_PTR (n : Nat) : Nat := 0x4060_010C + n * 0x20
/-- R539. -/
def HIF_SQ_STAT (n : Nat) : Nat := 0x4060_0110 + n * 0x20
/-- R540. -/
def HIF_CQ_BASE_LO (n : Nat) : Nat := 0x4060_0300 + n * 0x20
/-- R540. -/
def HIF_CQ_BASE_HI (n : Nat) : Nat := 0x4060_0304 + n * 0x20
/-- R540. -/
def HIF_CQ_CFG (n : Nat) : Nat := 0x4060_0308 + n * 0x20
/-- R540. -/
def HIF_CQ_PTR (n : Nat) : Nat := 0x4060_030C + n * 0x20
/-- R540. -/
def HIF_CQ_STAT (n : Nat) : Nat := 0x4060_0310 + n * 0x20
/-- R541. -/
def DBL_SQ_TAIL (n : Nat) : Nat := 0x4080_0000 + n * 0x1000
/-- R541. -/
def DBL_CQ_HEAD (n : Nat) : Nat := 0x4080_0800 + n * 0x1000
/-- R569. -/
def WFT_NODE : Nat := 0x4070_0000
/-- R569. -/
def WFT_UID_LO : Nat := 0x4070_0004
/-- R569. -/
def WFT_UID_HI : Nat := 0x4070_0008
/-- R570. -/
def WFT_SYNC : Nat := 0x4070_000C
/-- R570. -/
def WFT_OFFSET : Nat := 0x4070_0010
/-- R571. -/
def WFT_CTX : Nat := 0x4070_0014
/-- R572. -/
def WFT_ROUTE_SEL : Nat := 0x4070_0018
/-- R572. -/
def WFT_ROUTE : Nat := 0x4070_001C
/-- R573. -/
def WFT_CNT : Nat := 0x4070_0020
/-- R573. -/
def WFT_CNT2 : Nat := 0x4070_0024
/-- R574. -/
def WFT_P_STATE (w : Nat) : Nat := 0x4070_0100 + w * 0x40
/-- R574. -/
def WFT_P_PEER_LO (w : Nat) : Nat := 0x4070_0104 + w * 0x40
/-- R574. -/
def WFT_P_PEER_HI (w : Nat) : Nat := 0x4070_0108 + w * 0x40
/-- R574. -/
def WFT_P_DELAY (w : Nat) : Nat := 0x4070_010C + w * 0x40
/-- R574. -/
def WFT_P_ERR (w : Nat) : Nat := 0x4070_0110 + w * 0x40
/-- R574. -/
def WFT_P_UTIL (w : Nat) : Nat := 0x4070_0114 + w * 0x40
/-- R585. -/
def CAN_CFG (c : Nat) : Nat := 0x4078_0000 + c * 0x1000
/-- R585. -/
def CAN_NBT (c : Nat) : Nat := 0x4078_0004 + c * 0x1000
/-- R585. -/
def CAN_DBT (c : Nat) : Nat := 0x4078_0008 + c * 0x1000
/-- R586. -/
def CAN_STATUS (c : Nat) : Nat := 0x4078_000C + c * 0x1000
/-- R586. -/
def CAN_CNT (c : Nat) : Nat := 0x4078_0010 + c * 0x1000
/-- R586. -/
def CAN_CLASHID (c : Nat) : Nat := 0x4078_0014 + c * 0x1000
/-- R587. -/
def CAN_TXCTRL (c : Nat) : Nat := 0x4078_0018 + c * 0x1000
/-- R587. -/
def CAN_TXST (c : Nat) : Nat := 0x4078_001C + c * 0x1000
/-- R587. -/
def CAN_RXST (c : Nat) : Nat := 0x4078_0020 + c * 0x1000
/-- R587. -/
def CAN_RXCTRL (c : Nat) : Nat := 0x4078_0024 + c * 0x1000
/-- R588. -/
def CAN_RX_ID (c : Nat) : Nat := 0x4078_0040 + c * 0x1000
/-- R588. -/
def CAN_RX_CTL (c : Nat) : Nat := 0x4078_0044 + c * 0x1000
/-- R588. -/
def CAN_RX_TIME (c : Nat) : Nat := 0x4078_0048 + c * 0x1000
/-- R588. -/
def CAN_RX_DATA (c : Nat) (k : Nat) : Nat := 0x4078_004C + c * 0x1000 + k * 0x4
/-- R589. -/
def CAN_FILT_ID (c : Nat) (f : Nat) : Nat := 0x4078_0100 + c * 0x1000 + f * 0x8
/-- R589. -/
def CAN_FILT_MASK (c : Nat) (f : Nat) : Nat := 0x4078_0104 + c * 0x1000 + f * 0x8
/-- R617. -/
def SVC_STATUS : Nat := 0x407C_0000
/-- R618. -/
def SVC_JSEQ : Nat := 0x407C_0004
/-- R618. -/
def SVC_JSTAT : Nat := 0x407C_0008
/-- R512: message address of a vector, low word. -/
def MSIX_ADDR_LO (v : Nat) : Nat := 0x4060_F000 + v * 0x10
/-- R512: message address of a vector, high word. -/
def MSIX_ADDR_HI (v : Nat) : Nat := 0x4060_F004 + v * 0x10
/-- R512: message data of a vector. -/
def MSIX_DATA (v : Nat) : Nat := 0x4060_F008 + v * 0x10
/-- R512: vector control of a vector. -/
def MSIX_CTRL (v : Nat) : Nat := 0x4060_F00C + v * 0x10
/-- R512: pending bits of the 32 vectors. -/
def MSIX_PBA : Nat := 0x4060_F800

end Reg

namespace Fld

def SYS_ID_PART : Field := ⟨Reg.SYS_ID, 16, 16⟩
def SYS_ID_ROM : Field := ⟨Reg.SYS_ID, 8, 8⟩
def SYS_ID_MODREV : Field := ⟨Reg.SYS_ID, 0, 8⟩
def SYS_SVN_RUN : Field := ⟨Reg.SYS_SVN, 16, 16⟩
def SYS_SVN_MIN : Field := ⟨Reg.SYS_SVN, 0, 16⟩
def SYS_RESET_HARD : Field := ⟨Reg.SYS_RESET, 16, 1⟩
def SYS_RESET_KEY : Field := ⟨Reg.SYS_RESET, 0, 16⟩
def SYS_RSTCAUSE_START : Field := ⟨Reg.SYS_RSTCAUSE, 0, 8⟩
def SYS_STRAP_SPLIT_PIN : Field := ⟨Reg.SYS_STRAP, 10, 3⟩
def SYS_STRAP_PROF_PIN : Field := ⟨Reg.SYS_STRAP, 8, 2⟩
def SYS_STRAP_SPLIT : Field := ⟨Reg.SYS_STRAP, 2, 3⟩
def SYS_STRAP_PROF : Field := ⟨Reg.SYS_STRAP, 0, 2⟩
def SYS_MODE_REQ_RES : Field := ⟨Reg.SYS_MODE, 20, 4⟩
def SYS_MODE_PROF_NONE : Field := ⟨Reg.SYS_MODE, 16, 1⟩
def SYS_MODE_HOLD_CAUSE : Field := ⟨Reg.SYS_MODE, 8, 8⟩
def SYS_MODE_EN : Field := ⟨Reg.SYS_MODE, 7, 1⟩
def SYS_MODE_PREV : Field := ⟨Reg.SYS_MODE, 4, 3⟩
def SYS_MODE_MODE : Field := ⟨Reg.SYS_MODE, 0, 3⟩
def SYS_MODEREQ_REQ : Field := ⟨Reg.SYS_MODEREQ, 0, 3⟩
def SYS_DAWN_CAUSE : Field := ⟨Reg.SYS_DAWN, 24, 8⟩
def SYS_DAWN_UNIT : Field := ⟨Reg.SYS_DAWN, 16, 8⟩
def SYS_DAWN_STEP : Field := ⟨Reg.SYS_DAWN, 8, 8⟩
def SYS_DAWN_DEGRADED : Field := ⟨Reg.SYS_DAWN, 1, 1⟩
def SYS_DAWN_FAILED : Field := ⟨Reg.SYS_DAWN, 0, 1⟩
def SYS_BOOT_B_FAIL : Field := ⟨Reg.SYS_BOOT, 4, 1⟩
def SYS_BOOT_A_FAIL : Field := ⟨Reg.SYS_BOOT, 3, 1⟩
def SYS_BOOT_FALLBACK : Field := ⟨Reg.SYS_BOOT, 2, 1⟩
def SYS_BOOT_BOOTED : Field := ⟨Reg.SYS_BOOT, 1, 1⟩
def SYS_BOOT_PREFER : Field := ⟨Reg.SYS_BOOT, 0, 1⟩
def SYS_CLK_REF_OK : Field := ⟨Reg.SYS_CLK, 10, 1⟩
def SYS_CLK_PLL800 : Field := ⟨Reg.SYS_CLK, 9, 1⟩
def SYS_CLK_PLL400 : Field := ⟨Reg.SYS_CLK, 8, 1⟩
def SYS_CLK_SET_RUN : Field := ⟨Reg.SYS_CLK, 0, 4⟩
def THM_STATUS_HOT : Field := ⟨Reg.THM_STATUS, 24, 8⟩
def THM_STATUS_THR : Field := ⟨Reg.THM_STATUS, 18, 2⟩
def THM_STATUS_FAULT : Field := ⟨Reg.THM_STATUS, 17, 1⟩
def THM_STATUS_RISE : Field := ⟨Reg.THM_STATUS, 16, 1⟩
def THM_STATUS_DERATE : Field := ⟨Reg.THM_STATUS, 15, 1⟩
def THM_STATUS_WARN : Field := ⟨Reg.THM_STATUS, 14, 1⟩
def THM_STATUS_SENS_FAIL : Field := ⟨Reg.THM_STATUS, 13, 1⟩
def THM_T_VALID (i : Nat) : Field := ⟨(Reg.THM_T i), 31, 1⟩
def THM_T_RISE (i : Nat) : Field := ⟨(Reg.THM_T i), 30, 1⟩
def THM_T_LVL (i : Nat) : Field := ⟨(Reg.THM_T i), 28, 2⟩
def THM_T_FAULT_SEEN (i : Nat) : Field := ⟨(Reg.THM_T i), 27, 1⟩
def THM_T_TEMP (i : Nat) : Field := ⟨(Reg.THM_T i), 0, 16⟩
def BST_FAIL_JOURNAL : Field := ⟨Reg.BST_FAIL, 24, 1⟩
def BST_FAIL_SET : Field := ⟨Reg.BST_FAIL, 20, 4⟩
def BST_FAIL_CAN : Field := ⟨Reg.BST_FAIL, 16, 4⟩
def BST_FAIL_WEFT : Field := ⟨Reg.BST_FAIL, 12, 4⟩
def BST_FAIL_FB : Field := ⟨Reg.BST_FAIL, 8, 4⟩
def BST_FAIL_LANE : Field := ⟨Reg.BST_FAIL, 4, 4⟩
def BST_FAIL_PAIR : Field := ⟨Reg.BST_FAIL, 0, 4⟩
def BST_GATE_GC : Field := ⟨Reg.BST_GATE, 0, 28⟩
def LCK_STATUS_DIV (n : Nat) : Field := ⟨(Reg.LCK_STATUS n), 18, 2⟩
def LCK_STATUS_SKIP (n : Nat) : Field := ⟨(Reg.LCK_STATUS n), 17, 1⟩
def LCK_STATUS_SPLIT (n : Nat) : Field := ⟨(Reg.LCK_STATUS n), 16, 1⟩
def LCK_STATUS_DEBUG (n : Nat) : Field := ⟨(Reg.LCK_STATUS n), 15, 1⟩
def LCK_STATUS_SAFE (n : Nat) : Field := ⟨(Reg.LCK_STATUS n), 14, 1⟩
def LCK_STATUS_CHK_OK (n : Nat) : Field := ⟨(Reg.LCK_STATUS n), 13, 1⟩
def LCK_STATUS_FAILED (n : Nat) : Field := ⟨(Reg.LCK_STATUS n), 12, 1⟩
def LCK_STATUS_STATE (n : Nat) : Field := ⟨(Reg.LCK_STATUS n), 4, 4⟩
def LCK_EVENT_CLASS (n : Nat) : Field := ⟨(Reg.LCK_EVENT n), 28, 4⟩
def LCK_EVENT_CAUSE (n : Nat) : Field := ⟨(Reg.LCK_EVENT n), 24, 4⟩
def LCK_EVENT_SOURCE (n : Nat) : Field := ⟨(Reg.LCK_EVENT n), 20, 4⟩
def LCK_MISPC_PC (n : Nat) : Field := ⟨(Reg.LCK_MISPC n), 0, 32⟩
def LCK_CNT_TRANS (n : Nat) : Field := ⟨(Reg.LCK_CNT n), 24, 8⟩
def LCK_CNT_TRANS_H (n : Nat) : Field := ⟨(Reg.LCK_CNT n), 20, 4⟩
def LCK_CNT_CHECKS (n : Nat) : Field := ⟨(Reg.LCK_CNT n), 0, 16⟩
def LCK_CMD_STARTED (n : Nat) : Field := ⟨(Reg.LCK_CMD n), 1, 1⟩
def LCK_CMD_CHECK (n : Nat) : Field := ⟨(Reg.LCK_CMD n), 0, 1⟩
def LCK_IRQEN_EN (n : Nat) : Field := ⟨(Reg.LCK_IRQEN n), 0, 32⟩
def LCK_IRQPEND_PEND (n : Nat) : Field := ⟨(Reg.LCK_IRQPEND n), 0, 32⟩
def LCK_MSIP_MSIP (n : Nat) : Field := ⟨(Reg.LCK_MSIP n), 0, 1⟩
def LCK_MTIMECMP_LO_CMP (n : Nat) : Field := ⟨(Reg.LCK_MTIMECMP_LO n), 0, 32⟩
def LCK_MTIMECMP_HI_CMP (n : Nat) : Field := ⟨(Reg.LCK_MTIMECMP_HI n), 0, 32⟩
def LCK_MTIME_LO_T : Field := ⟨Reg.LCK_MTIME_LO, 0, 32⟩
def LCK_MTIME_HI_T : Field := ⟨Reg.LCK_MTIME_HI, 0, 32⟩
def PMU_RTC_SEC : Field := ⟨Reg.PMU_RTC, 0, 32⟩
def PMU_WAKE_RUN : Field := ⟨Reg.PMU_WAKE, 31, 1⟩
def PMU_WAKE_REMAIN : Field := ⟨Reg.PMU_WAKE, 0, 20⟩
def PMU_LOCKOUT_TRIPS : Field := ⟨Reg.PMU_LOCKOUT, 24, 8⟩
def PMU_LOCKOUT_VBAT_LOW : Field := ⟨Reg.PMU_LOCKOUT, 7, 1⟩
def PMU_LOCKOUT_VIN_OV : Field := ⟨Reg.PMU_LOCKOUT, 5, 1⟩
def PMU_LOCKOUT_VIN_UV : Field := ⟨Reg.PMU_LOCKOUT, 4, 1⟩
def PMU_LOCKOUT_V5 : Field := ⟨Reg.PMU_LOCKOUT, 3, 1⟩
def PMU_LOCKOUT_V3P3 : Field := ⟨Reg.PMU_LOCKOUT, 2, 1⟩
def PMU_LOCKOUT_V1P8 : Field := ⟨Reg.PMU_LOCKOUT, 1, 1⟩
def PMU_LOCKOUT_V0P8 : Field := ⟨Reg.PMU_LOCKOUT, 0, 1⟩
def PMU_NIGHT_WAKE : Field := ⟨Reg.PMU_NIGHT, 6, 2⟩
def PMU_NIGHT_RTC_VALID : Field := ⟨Reg.PMU_NIGHT, 5, 1⟩
def PMU_NIGHT_DEEP : Field := ⟨Reg.PMU_NIGHT, 4, 1⟩
def PMU_NIGHT_ORIGIN : Field := ⟨Reg.PMU_NIGHT, 0, 1⟩
def GDC_CFG_CLAMP_EN (n : Nat) : Field := ⟨(Reg.GDC_CFG n), 16, 1⟩
def GDC_CFG_BOOSTER (n : Nat) : Field := ⟨(Reg.GDC_CFG n), 15, 1⟩
def GDC_CFG_SUPPLY (n : Nat) : Field := ⟨(Reg.GDC_CFG n), 14, 1⟩
def GDC_CFG_VN (n : Nat) : Field := ⟨(Reg.GDC_CFG n), 8, 5⟩
def GDC_CFG_VP (n : Nat) : Field := ⟨(Reg.GDC_CFG n), 0, 5⟩
def GDC_SEGON_TH2 (n : Nat) : Field := ⟨(Reg.GDC_SEGON n), 22, 7⟩
def GDC_SEGON_TH1 (n : Nat) : Field := ⟨(Reg.GDC_SEGON n), 15, 7⟩
def GDC_SEGON_I3 (n : Nat) : Field := ⟨(Reg.GDC_SEGON n), 10, 5⟩
def GDC_SEGON_I2 (n : Nat) : Field := ⟨(Reg.GDC_SEGON n), 5, 5⟩
def GDC_SEGON_I1 (n : Nat) : Field := ⟨(Reg.GDC_SEGON n), 0, 5⟩
def GDC_SEGOFF_TH2 (n : Nat) : Field := ⟨(Reg.GDC_SEGOFF n), 22, 7⟩
def GDC_SEGOFF_TH1 (n : Nat) : Field := ⟨(Reg.GDC_SEGOFF n), 15, 7⟩
def GDC_SEGOFF_I3 (n : Nat) : Field := ⟨(Reg.GDC_SEGOFF n), 10, 5⟩
def GDC_SEGOFF_I2 (n : Nat) : Field := ⟨(Reg.GDC_SEGOFF n), 5, 5⟩
def GDC_SEGOFF_I1 (n : Nat) : Field := ⟨(Reg.GDC_SEGOFF n), 0, 5⟩
def GDC_SENSE_V_CLAMP (n : Nat) : Field := ⟨(Reg.GDC_SENSE n), 16, 6⟩
def GDC_SENSE_V_ONMIN (n : Nat) : Field := ⟨(Reg.GDC_SENSE n), 8, 6⟩
def GDC_SENSE_V_OFF (n : Nat) : Field := ⟨(Reg.GDC_SENSE n), 0, 6⟩
def GDC_TIME_PLAT_ARM (n : Nat) : Field := ⟨(Reg.GDC_TIME n), 24, 8⟩
def GDC_TIME_CONF_MAX (n : Nat) : Field := ⟨(Reg.GDC_TIME n), 16, 8⟩
def GDC_TIME_T_EXTRA (n : Nat) : Field := ⟨(Reg.GDC_TIME n), 0, 8⟩
def GDC_STATUS_ENABLE (n : Nat) : Field := ⟨(Reg.GDC_STATUS n), 10, 1⟩
def GDC_STATUS_SEG (n : Nat) : Field := ⟨(Reg.GDC_STATUS n), 8, 2⟩
def GDC_STATUS_LINK (n : Nat) : Field := ⟨(Reg.GDC_STATUS n), 7, 1⟩
def GDC_STATUS_ASC_MARK (n : Nat) : Field := ⟨(Reg.GDC_STATUS n), 6, 1⟩
def GDC_STATUS_HELD (n : Nat) : Field := ⟨(Reg.GDC_STATUS n), 5, 1⟩
def GDC_STATUS_PLATEAU_OK (n : Nat) : Field := ⟨(Reg.GDC_STATUS n), 4, 1⟩
def GDC_STATUS_CLAMP (n : Nat) : Field := ⟨(Reg.GDC_STATUS n), 3, 1⟩
def GDC_STATUS_CONF_OFF (n : Nat) : Field := ⟨(Reg.GDC_STATUS n), 2, 1⟩
def GDC_STATUS_GS_HIGH (n : Nat) : Field := ⟨(Reg.GDC_STATUS n), 1, 1⟩
def GDC_STATUS_CMD (n : Nat) : Field := ⟨(Reg.GDC_STATUS n), 0, 1⟩
def GDC_FAULT_TEST_FAIL (n : Nat) : Field := ⟨(Reg.GDC_FAULT n), 3, 1⟩
def GDC_FAULT_LINK_LOST (n : Nat) : Field := ⟨(Reg.GDC_FAULT n), 2, 1⟩
def GDC_FAULT_OFF_TIMEOUT (n : Nat) : Field := ⟨(Reg.GDC_FAULT n), 1, 1⟩
def GDC_FAULT_PLATEAU_LOW (n : Nat) : Field := ⟨(Reg.GDC_FAULT n), 0, 1⟩
def GDC_TEST_START (n : Nat) : Field := ⟨(Reg.GDC_TEST n), 0, 1⟩
def GDC_TESTRES_SEG_FAIL (n : Nat) : Field := ⟨(Reg.GDC_TESTRES n), 11, 1⟩
def GDC_TESTRES_CLAMP_FAIL (n : Nat) : Field := ⟨(Reg.GDC_TESTRES n), 10, 1⟩
def GDC_TESTRES_ONMIN_FAIL (n : Nat) : Field := ⟨(Reg.GDC_TESTRES n), 9, 1⟩
def GDC_TESTRES_OFF_FAIL (n : Nat) : Field := ⟨(Reg.GDC_TESTRES n), 8, 1⟩
def GDC_TESTRES_ABORTED (n : Nat) : Field := ⟨(Reg.GDC_TESTRES n), 4, 1⟩
def GDC_TESTRES_REFUSED (n : Nat) : Field := ⟨(Reg.GDC_TESTRES n), 3, 1⟩
def GDC_TESTRES_PASS (n : Nat) : Field := ⟨(Reg.GDC_TESTRES n), 2, 1⟩
def GDC_TESTRES_BUSY (n : Nat) : Field := ⟨(Reg.GDC_TESTRES n), 1, 1⟩
def GDC_TESTRES_DONE (n : Nat) : Field := ⟨(Reg.GDC_TESTRES n), 0, 1⟩
def GDC_TCONF_PEAK (n : Nat) : Field := ⟨(Reg.GDC_TCONF n), 16, 16⟩
def GDC_TCONF_LAST (n : Nat) : Field := ⟨(Reg.GDC_TCONF n), 0, 16⟩
def GDC_SET_SHOOT_TOTAL (s : Nat) : Field := ⟨(Reg.GDC_SET_SHOOT s), 16, 16⟩
def GDC_SET_SHOOT_LAST_HB (s : Nat) : Field := ⟨(Reg.GDC_SET_SHOOT s), 8, 4⟩
def GDC_SET_SHOOT_SIMUL (s : Nat) : Field := ⟨(Reg.GDC_SET_SHOOT s), 7, 1⟩
def GDC_SET_SHOOT_SHOOT_LATCH (s : Nat) : Field := ⟨(Reg.GDC_SET_SHOOT s), 2, 1⟩
def GDC_SET_SHOOT_RATE_MS (s : Nat) : Field := ⟨(Reg.GDC_SET_SHOOT s), 1, 1⟩
def GDC_SET_SHOOT_RATE_PER (s : Nat) : Field := ⟨(Reg.GDC_SET_SHOOT s), 0, 1⟩
def GDC_SET_FAULT_CH (s : Nat) : Field := ⟨(Reg.GDC_SET_FAULT s), 0, 7⟩
def PSP_SC_BLANK (s : Nat) : Field := ⟨(Reg.PSP_SC s), 16, 7⟩
def PSP_SC_FILT (s : Nat) : Field := ⟨(Reg.PSP_SC s), 8, 4⟩
def PSP_SC_TH (s : Nat) : Field := ⟨(Reg.PSP_SC s), 0, 8⟩
def PSP_OC_EN (s : Nat) : Field := ⟨(Reg.PSP_OC s), 16, 3⟩
def PSP_OC_TH (s : Nat) : Field := ⟨(Reg.PSP_OC s), 0, 8⟩
def PSP_OV12_OV2 (s : Nat) : Field := ⟨(Reg.PSP_OV12 s), 16, 11⟩
def PSP_OV12_OV1 (s : Nat) : Field := ⟨(Reg.PSP_OV12 s), 0, 11⟩
def PSP_OV3UV_OV3 (s : Nat) : Field := ⟨(Reg.PSP_OV3UV s), 16, 11⟩
def PSP_OV3UV_UV (s : Nat) : Field := ⟨(Reg.PSP_OV3UV s), 0, 11⟩
def PSP_CHOP_CHOP_EN (s : Nat) : Field := ⟨(Reg.PSP_CHOP s), 31, 1⟩
def PSP_CHOP_HYST (s : Nat) : Field := ⟨(Reg.PSP_CHOP s), 16, 8⟩
def PSP_CHOP_RB (s : Nat) : Field := ⟨(Reg.PSP_CHOP s), 0, 16⟩
def PSP_CROSS_TPEAK (s : Nat) : Field := ⟨(Reg.PSP_CROSS s), 24, 8⟩
def PSP_CROSS_HYST (s : Nat) : Field := ⟨(Reg.PSP_CROSS s), 16, 8⟩
def PSP_CROSS_MARGIN (s : Nat) : Field := ⟨(Reg.PSP_CROSS s), 0, 9⟩
def PSP_KE_KE (s : Nat) : Field := ⟨(Reg.PSP_KE s), 0, 16⟩
def PSP_STATE_VDC (s : Nat) : Field := ⟨(Reg.PSP_STATE s), 21, 11⟩
def PSP_STATE_OV2_PEND (s : Nat) : Field := ⟨(Reg.PSP_STATE s), 16, 1⟩
def PSP_STATE_CROSS_SRC (s : Nat) : Field := ⟨(Reg.PSP_STATE s), 14, 2⟩
def PSP_STATE_CROSS (s : Nat) : Field := ⟨(Reg.PSP_STATE s), 13, 1⟩
def PSP_STATE_CHOP_ON (s : Nat) : Field := ⟨(Reg.PSP_STATE s), 12, 1⟩
def PSP_STATE_UV_LVL (s : Nat) : Field := ⟨(Reg.PSP_STATE s), 11, 1⟩
def PSP_STATE_OV3_LVL (s : Nat) : Field := ⟨(Reg.PSP_STATE s), 10, 1⟩
def PSP_STATE_OV2_LVL (s : Nat) : Field := ⟨(Reg.PSP_STATE s), 9, 1⟩
def PSP_STATE_OV1_LVL (s : Nat) : Field := ⟨(Reg.PSP_STATE s), 8, 1⟩
def PSP_STATE_STATE (s : Nat) : Field := ⟨(Reg.PSP_STATE s), 0, 4⟩
def PSP_FAULT_AXIS (s : Nat) : Field := ⟨(Reg.PSP_FAULT s), 14, 1⟩
def PSP_FAULT_MEAS (s : Nat) : Field := ⟨(Reg.PSP_FAULT s), 13, 1⟩
def PSP_FAULT_POS_CROSS (s : Nat) : Field := ⟨(Reg.PSP_FAULT s), 12, 1⟩
def PSP_FAULT_LOOM (s : Nat) : Field := ⟨(Reg.PSP_FAULT s), 11, 1⟩
def PSP_FAULT_SSI_LINK (s : Nat) : Field := ⟨(Reg.PSP_FAULT s), 10, 1⟩
def PSP_FAULT_GATE (s : Nat) : Field := ⟨(Reg.PSP_FAULT s), 9, 1⟩
def PSP_FAULT_UV (s : Nat) : Field := ⟨(Reg.PSP_FAULT s), 8, 1⟩
def PSP_FAULT_OV3_HOLD (s : Nat) : Field := ⟨(Reg.PSP_FAULT s), 7, 1⟩
def PSP_FAULT_OV3 (s : Nat) : Field := ⟨(Reg.PSP_FAULT s), 6, 1⟩
def PSP_FAULT_OV2_REACT (s : Nat) : Field := ⟨(Reg.PSP_FAULT s), 5, 1⟩
def PSP_FAULT_SC_IN_ASC (s : Nat) : Field := ⟨(Reg.PSP_FAULT s), 4, 1⟩
def PSP_FAULT_OC_W (s : Nat) : Field := ⟨(Reg.PSP_FAULT s), 3, 1⟩
def PSP_FAULT_OC_V (s : Nat) : Field := ⟨(Reg.PSP_FAULT s), 2, 1⟩
def PSP_FAULT_OC_U (s : Nat) : Field := ⟨(Reg.PSP_FAULT s), 1, 1⟩
def PSP_FAULT_SC (s : Nat) : Field := ⟨(Reg.PSP_FAULT s), 0, 1⟩
def PSP_CHOPST_VOID (s : Nat) : Field := ⟨(Reg.PSP_CHOPST s), 16, 16⟩
def PSP_CHOPST_OC_IN_ASC (s : Nat) : Field := ⟨(Reg.PSP_CHOPST s), 8, 8⟩
def PSP_CHOPST_CHOP_SHORT (s : Nat) : Field := ⟨(Reg.PSP_CHOPST s), 3, 1⟩
def PSP_CHOPST_CHOP_HIGH (s : Nat) : Field := ⟨(Reg.PSP_CHOPST s), 2, 1⟩
def PSP_CHOPST_CHOP_OPEN (s : Nat) : Field := ⟨(Reg.PSP_CHOPST s), 1, 1⟩
def PSP_CHOPST_PASS_LAST (s : Nat) : Field := ⟨(Reg.PSP_CHOPST s), 0, 1⟩
def PSP_REQ_HOLD : Field := ⟨Reg.PSP_REQ, 4, 1⟩
def PSP_REQ_EN : Field := ⟨Reg.PSP_REQ, 3, 1⟩
def PSP_REQ_SFI_ASC : Field := ⟨Reg.PSP_REQ, 2, 1⟩
def PSP_REQ_SFI_STO : Field := ⟨Reg.PSP_REQ, 1, 1⟩
def PSP_REQ_STO_HW : Field := ⟨Reg.PSP_REQ, 0, 1⟩
def PWM_CFG_DUAL (s : Nat) : Field := ⟨(Reg.PWM_CFG s), 31, 1⟩
def PWM_CFG_SHIFT_EN (s : Nat) : Field := ⟨(Reg.PWM_CFG s), 30, 1⟩
def PWM_CFG_PERIOD (s : Nat) : Field := ⟨(Reg.PWM_CFG s), 0, 19⟩
def PWM_PHASE_ADJ (s : Nat) : Field := ⟨(Reg.PWM_PHASE s), 8, 1⟩
def PWM_PHASE_PHASE (s : Nat) : Field := ⟨(Reg.PWM_PHASE s), 0, 8⟩
def PWM_SAMP_SH_LEAD (s : Nat) : Field := ⟨(Reg.PWM_SAMP s), 16, 7⟩
def PWM_SAMP_SAMP_OFS (s : Nat) : Field := ⟨(Reg.PWM_SAMP s), 0, 11⟩
def PWM_WIN_MSHUNT (s : Nat) : Field := ⟨(Reg.PWM_WIN s), 16, 10⟩
def PWM_WIN_TWIN (s : Nat) : Field := ⟨(Reg.PWM_WIN s), 0, 9⟩
def PWM_BOOT_HYST (s : Nat) : Field := ⟨(Reg.PWM_BOOT s), 16, 10⟩
def PWM_BOOT_TREF (s : Nat) : Field := ⟨(Reg.PWM_BOOT s), 0, 10⟩
def PWM_STATUS_FALLBACK (s : Nat) : Field := ⟨(Reg.PWM_STATUS s), 15, 1⟩
def PWM_STATUS_DEPTH_LIM (s : Nat) : Field := ⟨(Reg.PWM_STATUS s), 14, 1⟩
def PWM_STATUS_SAT (s : Nat) : Field := ⟨(Reg.PWM_STATUS s), 13, 1⟩
def PWM_STATUS_RUN_REL (s : Nat) : Field := ⟨(Reg.PWM_STATUS s), 12, 1⟩
def PWM_STATUS_FULL (s : Nat) : Field := ⟨(Reg.PWM_STATUS s), 8, 3⟩
def PWM_STATUS_SHIFT (s : Nat) : Field := ⟨(Reg.PWM_STATUS s), 5, 3⟩
def PWM_STATUS_MISS_B (s : Nat) : Field := ⟨(Reg.PWM_STATUS s), 4, 1⟩
def PWM_STATUS_MISS_A (s : Nat) : Field := ⟨(Reg.PWM_STATUS s), 3, 1⟩
def PWM_STATUS_HALF (s : Nat) : Field := ⟨(Reg.PWM_STATUS s), 2, 1⟩
def PWM_STATUS_LATE (s : Nat) : Field := ⟨(Reg.PWM_STATUS s), 1, 1⟩
def PWM_CNT_MISSING (s : Nat) : Field := ⟨(Reg.PWM_CNT s), 16, 16⟩
def PWM_CNT_LATE_UPD (s : Nat) : Field := ⟨(Reg.PWM_CNT s), 0, 16⟩
def PWM_CMPR_CMP (s : Nat) (k : Nat) : Field := ⟨(Reg.PWM_CMPR s k), 0, 21⟩
def PWM_CMPF_CMP (s : Nat) (k : Nat) : Field := ⟨(Reg.PWM_CMPF s k), 0, 21⟩
def MFE_CFG_FB_EN (s : Nat) : Field := ⟨(Reg.MFE_CFG s), 31, 1⟩
def MFE_CFG_OFSMAX (s : Nat) : Field := ⟨(Reg.MFE_CFG s), 16, 8⟩
def MFE_CFG_SD (s : Nat) : Field := ⟨(Reg.MFE_CFG s), 8, 3⟩
def MFE_CFG_FIT (s : Nat) : Field := ⟨(Reg.MFE_CFG s), 0, 3⟩
def MFE_FS_INV (s : Nat) (k : Nat) : Field := ⟨(Reg.MFE_FS s k), 31, 1⟩
def MFE_FS_FS (s : Nat) (k : Nat) : Field := ⟨(Reg.MFE_FS s k), 0, 16⟩
def MFE_SHUNT_RSH (s : Nat) : Field := ⟨(Reg.MFE_SHUNT s), 0, 16⟩
def MFE_XC_XCN (s : Nat) : Field := ⟨(Reg.MFE_XC s), 24, 8⟩
def MFE_XC_XCTH (s : Nat) : Field := ⟨(Reg.MFE_XC s), 12, 12⟩
def MFE_XC_GFTH (s : Nat) : Field := ⟨(Reg.MFE_XC s), 0, 12⟩
def MFE_LIM_GAPMAX (s : Nat) : Field := ⟨(Reg.MFE_LIM s), 24, 8⟩
def MFE_LIM_GFFILT (s : Nat) : Field := ⟨(Reg.MFE_LIM s), 16, 8⟩
def MFE_STATUS_FALLBACK (s : Nat) : Field := ⟨(Reg.MFE_STATUS s), 15, 1⟩
def MFE_STATUS_FB_AVAIL (s : Nat) : Field := ⟨(Reg.MFE_STATUS s), 14, 1⟩
def MFE_STATUS_RECON (s : Nat) : Field := ⟨(Reg.MFE_STATUS s), 12, 2⟩
def MFE_STATUS_SDCLK_OK (s : Nat) : Field := ⟨(Reg.MFE_STATUS s), 11, 1⟩
def MFE_STATUS_SECTOR (s : Nat) : Field := ⟨(Reg.MFE_STATUS s), 8, 3⟩
def MFE_STATUS_VALID (s : Nat) : Field := ⟨(Reg.MFE_STATUS s), 4, 3⟩
def MFE_STATUS_DC_AGREE (s : Nat) : Field := ⟨(Reg.MFE_STATUS s), 3, 1⟩
def MFE_STATUS_GF_LVL (s : Nat) : Field := ⟨(Reg.MFE_STATUS s), 2, 1⟩
def MFE_STATUS_NTC_OPEN (s : Nat) : Field := ⟨(Reg.MFE_STATUS s), 1, 1⟩
def MFE_STATUS_NTC_SHORT (s : Nat) : Field := ⟨(Reg.MFE_STATUS s), 0, 1⟩
def MFE_FAULT_GROUND (s : Nat) : Field := ⟨(Reg.MFE_FAULT s), 17, 1⟩
def MFE_FAULT_SHUNT_SUSPECT (s : Nat) : Field := ⟨(Reg.MFE_FAULT s), 16, 1⟩
def MFE_FAULT_GAP (s : Nat) : Field := ⟨(Reg.MFE_FAULT s), 15, 1⟩
def MFE_FAULT_OFS (s : Nat) : Field := ⟨(Reg.MFE_FAULT s), 12, 3⟩
def MFE_FAULT_SAT (s : Nat) : Field := ⟨(Reg.MFE_FAULT s), 8, 3⟩
def MFE_FAULT_STUCK (s : Nat) : Field := ⟨(Reg.MFE_FAULT s), 4, 3⟩
def MFE_FAULT_SDCLK (s : Nat) : Field := ⟨(Reg.MFE_FAULT s), 3, 1⟩
def MFE_FAULT_XCHECK (s : Nat) : Field := ⟨(Reg.MFE_FAULT s), 2, 1⟩
def MFE_FAULT_SUPPLY (s : Nat) : Field := ⟨(Reg.MFE_FAULT s), 1, 1⟩
def MFE_FAULT_DC_DIVERGE (s : Nat) : Field := ⟨(Reg.MFE_FAULT s), 0, 1⟩
def MFE_IPH_I (s : Nat) (k : Nat) : Field := ⟨(Reg.MFE_IPH s k), 0, 32⟩
def MFE_VDC_VDC (s : Nat) : Field := ⟨(Reg.MFE_VDC s), 16, 14⟩
def MFE_VDC_VTV (s : Nat) : Field := ⟨(Reg.MFE_VDC s), 0, 12⟩
def MFE_NTC_R (s : Nat) : Field := ⟨(Reg.MFE_NTC s), 0, 20⟩
def MFE_CNT_GAPS (s : Nat) : Field := ⟨(Reg.MFE_CNT s), 16, 16⟩
def MFE_CNT_XCFAIL (s : Nat) : Field := ⟨(Reg.MFE_CNT s), 0, 16⟩
def MFE_SUPPLY_OVERLOAD : Field := ⟨Reg.MFE_SUPPLY, 2, 1⟩
def MFE_SUPPLY_ON : Field := ⟨Reg.MFE_SUPPLY, 1, 1⟩
def MFE_SUPPLY_RESTART : Field := ⟨Reg.MFE_SUPPLY, 0, 1⟩
def LOOM_CFG_AXLANE (s : Nat) : Field := ⟨(Reg.LOOM_CFG s), 20, 2⟩
def LOOM_CFG_LANES (s : Nat) : Field := ⟨(Reg.LOOM_CFG s), 16, 4⟩
def LOOM_CFG_MACHINE (s : Nat) : Field := ⟨(Reg.LOOM_CFG s), 10, 2⟩
def LOOM_CFG_AUTO_PI (s : Nat) : Field := ⟨(Reg.LOOM_CFG s), 9, 1⟩
def LOOM_CFG_LAW (s : Nat) : Field := ⟨(Reg.LOOM_CFG s), 8, 1⟩
def LOOM_CFG_KDB (s : Nat) : Field := ⟨(Reg.LOOM_CFG s), 0, 8⟩
def LOOM_STATUS_FAULTED (s : Nat) : Field := ⟨(Reg.LOOM_STATUS s), 15, 1⟩
def LOOM_STATUS_KAT_BUSY (s : Nat) : Field := ⟨(Reg.LOOM_STATUS s), 14, 1⟩
def LOOM_STATUS_KAT_PASS (s : Nat) : Field := ⟨(Reg.LOOM_STATUS s), 13, 1⟩
def LOOM_STATUS_FLUX_READY (s : Nat) : Field := ⟨(Reg.LOOM_STATUS s), 12, 1⟩
def LOOM_STATUS_PI_ACT (s : Nat) : Field := ⟨(Reg.LOOM_STATUS s), 11, 1⟩
def LOOM_STATUS_REL (s : Nat) : Field := ⟨(Reg.LOOM_STATUS s), 10, 1⟩
def LOOM_STATUS_KAT_REFUSED (s : Nat) : Field := ⟨(Reg.LOOM_STATUS s), 9, 1⟩
def LOOM_STATUS_VSAT (s : Nat) : Field := ⟨(Reg.LOOM_STATUS s), 8, 1⟩
def LOOM_STATUS_ILIM (s : Nat) : Field := ⟨(Reg.LOOM_STATUS s), 7, 1⟩
def LOOM_STATUS_FW_ACT (s : Nat) : Field := ⟨(Reg.LOOM_STATUS s), 6, 1⟩
def LOOM_STATUS_BAL_LIM (s : Nat) : Field := ⟨(Reg.LOOM_STATUS s), 5, 1⟩
def LOOM_STATUS_DEPTH_SEEN (s : Nat) : Field := ⟨(Reg.LOOM_STATUS s), 4, 1⟩
def LOOM_STATUS_APPLIED_DIFF (s : Nat) : Field := ⟨(Reg.LOOM_STATUS s), 3, 1⟩
def LOOM_STATUS_FEL_HIGH (s : Nat) : Field := ⟨(Reg.LOOM_STATUS s), 2, 1⟩
def LOOM_STATUS_INJ (s : Nat) : Field := ⟨(Reg.LOOM_STATUS s), 1, 1⟩
def LOOM_STATUS_ACTIVE (s : Nat) : Field := ⟨(Reg.LOOM_STATUS s), 0, 1⟩
def LOOM_FAULT_UNAVAIL (s : Nat) : Field := ⟨(Reg.LOOM_FAULT s), 6, 1⟩
def LOOM_FAULT_STALE (s : Nat) : Field := ⟨(Reg.LOOM_FAULT s), 5, 1⟩
def LOOM_FAULT_KAT_FAIL (s : Nat) : Field := ⟨(Reg.LOOM_FAULT s), 4, 1⟩
def LOOM_FAULT_LATE (s : Nat) : Field := ⟨(Reg.LOOM_FAULT s), 3, 1⟩
def LOOM_FAULT_OVERRUN (s : Nat) : Field := ⟨(Reg.LOOM_FAULT s), 2, 1⟩
def LOOM_FAULT_ECC_DUE (s : Nat) : Field := ⟨(Reg.LOOM_FAULT s), 1, 1⟩
def LOOM_FAULT_RESIDUE (s : Nat) : Field := ⟨(Reg.LOOM_FAULT s), 0, 1⟩
def LOOM_ECC_CE (s : Nat) : Field := ⟨(Reg.LOOM_ECC s), 16, 16⟩
def LOOM_ECC_DUE_ADDR (s : Nat) : Field := ⟨(Reg.LOOM_ECC s), 0, 16⟩
def LOOM_TIME_PEAK (s : Nat) : Field := ⟨(Reg.LOOM_TIME s), 16, 16⟩
def LOOM_TIME_LAST (s : Nat) : Field := ⟨(Reg.LOOM_TIME s), 0, 16⟩
def LOOM_CNT_LATE_SEEN (s : Nat) : Field := ⟨(Reg.LOOM_CNT s), 16, 16⟩
def LOOM_CNT_PARTIAL (s : Nat) : Field := ⟨(Reg.LOOM_CNT s), 0, 16⟩
def LOOM_IDREF_VALUE (s : Nat) : Field := ⟨(Reg.LOOM_IDREF s), 0, 32⟩
def LOOM_IQREF_VALUE (s : Nat) : Field := ⟨(Reg.LOOM_IQREF s), 0, 32⟩
def LOOM_ID_VALUE (s : Nat) : Field := ⟨(Reg.LOOM_ID s), 0, 32⟩
def LOOM_IQ_VALUE (s : Nat) : Field := ⟨(Reg.LOOM_IQ s), 0, 32⟩
def LOOM_VD_VALUE (s : Nat) : Field := ⟨(Reg.LOOM_VD s), 0, 32⟩
def LOOM_VQ_VALUE (s : Nat) : Field := ⟨(Reg.LOOM_VQ s), 0, 32⟩
def LOOM_TE_VALUE (s : Nat) : Field := ⟨(Reg.LOOM_TE s), 0, 32⟩
def LOOM_TL_VALUE (s : Nat) : Field := ⟨(Reg.LOOM_TL s), 0, 32⟩
def LOOM_DID_VALUE (s : Nat) : Field := ⟨(Reg.LOOM_DID s), 0, 32⟩
def LOOM_PSIR_VALUE (s : Nat) : Field := ⟨(Reg.LOOM_PSIR s), 0, 32⟩
def LOOM_BAL_VALUE (s : Nat) : Field := ⟨(Reg.LOOM_BAL s), 0, 32⟩
def LOOM_CMD_KAT (s : Nat) : Field := ⟨(Reg.LOOM_CMD s), 0, 1⟩
def POS_CFG_INJDIV (a : Nat) : Field := ⟨(Reg.POS_CFG a), 22, 6⟩
def POS_CFG_FB_BACKUP (a : Nat) : Field := ⟨(Reg.POS_CFG a), 21, 1⟩
def POS_CFG_DIRINV (a : Nat) : Field := ⟨(Reg.POS_CFG a), 20, 1⟩
def POS_CFG_PORT (a : Nat) : Field := ⟨(Reg.POS_CFG a), 18, 2⟩
def POS_CFG_SRC (a : Nat) : Field := ⟨(Reg.POS_CFG a), 16, 2⟩
def POS_CFG_COMM_OFS (a : Nat) : Field := ⟨(Reg.POS_CFG a), 0, 16⟩
def POS_STATUS_LAMBDA (a : Nat) : Field := ⟨(Reg.POS_STATUS a), 24, 8⟩
def POS_STATUS_START (a : Nat) : Field := ⟨(Reg.POS_STATUS a), 16, 4⟩
def POS_STATUS_ATTEMPT (a : Nat) : Field := ⟨(Reg.POS_STATUS a), 12, 4⟩
def POS_STATUS_BACKUP (a : Nat) : Field := ⟨(Reg.POS_STATUS a), 11, 1⟩
def POS_STATUS_OPEN_LOOP (a : Nat) : Field := ⟨(Reg.POS_STATUS a), 10, 1⟩
def POS_STATUS_REV (a : Nat) : Field := ⟨(Reg.POS_STATUS a), 9, 1⟩
def POS_STATUS_POL_DONE (a : Nat) : Field := ⟨(Reg.POS_STATUS a), 8, 1⟩
def POS_STATUS_INJ_ON (a : Nat) : Field := ⟨(Reg.POS_STATUS a), 7, 1⟩
def POS_STATUS_BLEND (a : Nat) : Field := ⟨(Reg.POS_STATUS a), 6, 1⟩
def POS_STATUS_LOCKED (a : Nat) : Field := ⟨(Reg.POS_STATUS a), 5, 1⟩
def POS_STATUS_ACT (a : Nat) : Field := ⟨(Reg.POS_STATUS a), 2, 3⟩
def POS_STATUS_VALID (a : Nat) : Field := ⟨(Reg.POS_STATUS a), 0, 1⟩
def POS_FAULT_SAFE (a : Nat) : Field := ⟨(Reg.POS_FAULT a), 7, 1⟩
def POS_FAULT_START_FAIL (a : Nat) : Field := ⟨(Reg.POS_FAULT a), 6, 1⟩
def POS_FAULT_FB_LOST (a : Nat) : Field := ⟨(Reg.POS_FAULT a), 5, 1⟩
def POS_FAULT_LOCK_CROSS (a : Nat) : Field := ⟨(Reg.POS_FAULT a), 4, 1⟩
def POS_FAULT_LOCK_LOST (a : Nat) : Field := ⟨(Reg.POS_FAULT a), 3, 1⟩
def POS_FAULT_RES_BLEND (a : Nat) : Field := ⟨(Reg.POS_FAULT a), 2, 1⟩
def POS_FAULT_RES_MAG (a : Nat) : Field := ⟨(Reg.POS_FAULT a), 1, 1⟩
def POS_FAULT_RES_ANG (a : Nat) : Field := ⟨(Reg.POS_FAULT a), 0, 1⟩
def POS_ANGLE_RESID (a : Nat) : Field := ⟨(Reg.POS_ANGLE a), 16, 16⟩
def POS_ANGLE_THETA (a : Nat) : Field := ⟨(Reg.POS_ANGLE a), 0, 16⟩
def POS_SPEED_VALUE (a : Nat) : Field := ⟨(Reg.POS_SPEED a), 0, 32⟩
def POS_START_TMEAS (a : Nat) : Field := ⟨(Reg.POS_START a), 16, 16⟩
def POS_START_RESULT (a : Nat) : Field := ⟨(Reg.POS_START a), 0, 8⟩
def POS_MAP_LEARN_REFUSED (a : Nat) : Field := ⟨(Reg.POS_MAP a), 19, 1⟩
def POS_MAP_LEARNING (a : Nat) : Field := ⟨(Reg.POS_MAP a), 18, 1⟩
def POS_MAP_STAGED (a : Nat) : Field := ⟨(Reg.POS_MAP a), 17, 1⟩
def POS_MAP_LEARNED (a : Nat) : Field := ⟨(Reg.POS_MAP a), 0, 17⟩
def POS_CNT_LOSSES (a : Nat) : Field := ⟨(Reg.POS_CNT a), 16, 16⟩
def POS_CNT_RELOCKS (a : Nat) : Field := ⟨(Reg.POS_CNT a), 0, 16⟩
def POS_CMD_LEARN_ABORT (a : Nat) : Field := ⟨(Reg.POS_CMD a), 1, 1⟩
def POS_CMD_LEARN (a : Nat) : Field := ⟨(Reg.POS_CMD a), 0, 1⟩
def SPD_CFG_HEAVE_EN (a : Nat) : Field := ⟨(Reg.SPD_CFG a), 23, 1⟩
def SPD_CFG_VENT_EN (a : Nat) : Field := ⟨(Reg.SPD_CFG a), 22, 1⟩
def SPD_CFG_SLACK_EN (a : Nat) : Field := ⟨(Reg.SPD_CFG a), 21, 1⟩
def SPD_CFG_SNATCH_EN (a : Nat) : Field := ⟨(Reg.SPD_CFG a), 20, 1⟩
def SPD_CFG_LINE_SIGN (a : Nat) : Field := ⟨(Reg.SPD_CFG a), 19, 1⟩
def SPD_CFG_VENT_MODE (a : Nat) : Field := ⟨(Reg.SPD_CFG a), 18, 1⟩
def SPD_CFG_SLACK_ACT (a : Nat) : Field := ⟨(Reg.SPD_CFG a), 16, 2⟩
def SPD_CFG_STOP_MODE (a : Nat) : Field := ⟨(Reg.SPD_CFG a), 15, 1⟩
def SPD_CFG_CLASS (a : Nat) : Field := ⟨(Reg.SPD_CFG a), 14, 1⟩
def SPD_CFG_MODE (a : Nat) : Field := ⟨(Reg.SPD_CFG a), 12, 2⟩
def SPD_CFG_FPOS (a : Nat) : Field := ⟨(Reg.SPD_CFG a), 2, 2⟩
def SPD_CFG_FSPD (a : Nat) : Field := ⟨(Reg.SPD_CFG a), 0, 2⟩
def SPD_STATE_OL (a : Nat) : Field := ⟨(Reg.SPD_STATE a), 19, 1⟩
def SPD_STATE_PLIM (a : Nat) : Field := ⟨(Reg.SPD_STATE a), 18, 1⟩
def SPD_STATE_QUAD (a : Nat) : Field := ⟨(Reg.SPD_STATE a), 16, 2⟩
def SPD_STATE_HV_FADE (a : Nat) : Field := ⟨(Reg.SPD_STATE a), 13, 1⟩
def SPD_STATE_HV_ACT (a : Nat) : Field := ⟨(Reg.SPD_STATE a), 12, 1⟩
def SPD_STATE_VGUARD (a : Nat) : Field := ⟨(Reg.SPD_STATE a), 11, 1⟩
def SPD_STATE_VENT (a : Nat) : Field := ⟨(Reg.SPD_STATE a), 10, 1⟩
def SPD_STATE_SLACK (a : Nat) : Field := ⟨(Reg.SPD_STATE a), 9, 1⟩
def SPD_STATE_YIELD (a : Nat) : Field := ⟨(Reg.SPD_STATE a), 8, 1⟩
def SPD_STATE_SHOCK (a : Nat) : Field := ⟨(Reg.SPD_STATE a), 7, 1⟩
def SPD_STATE_RESUME (a : Nat) : Field := ⟨(Reg.SPD_STATE a), 6, 1⟩
def SPD_STATE_REGEN (a : Nat) : Field := ⟨(Reg.SPD_STATE a), 5, 1⟩
def SPD_STATE_DERATE (a : Nat) : Field := ⟨(Reg.SPD_STATE a), 4, 1⟩
def SPD_STATE_TLIM (a : Nat) : Field := ⟨(Reg.SPD_STATE a), 3, 1⟩
def SPD_STATE_STATE (a : Nat) : Field := ⟨(Reg.SPD_STATE a), 0, 3⟩
def SPD_FAULT_SHARE_LOST (a : Nat) : Field := ⟨(Reg.SPD_FAULT a), 7, 1⟩
def SPD_FAULT_STOP_TMO (a : Nat) : Field := ⟨(Reg.SPD_FAULT a), 6, 1⟩
def SPD_FAULT_OVERSPEED (a : Nat) : Field := ⟨(Reg.SPD_FAULT a), 5, 1⟩
def SPD_FAULT_POS (a : Nat) : Field := ⟨(Reg.SPD_FAULT a), 4, 1⟩
def SPD_FAULT_GROUND_FAULT (a : Nat) : Field := ⟨(Reg.SPD_FAULT a), 3, 1⟩
def SPD_FAULT_SET (a : Nat) : Field := ⟨(Reg.SPD_FAULT a), 2, 1⟩
def SPD_FAULT_SET_UNAVAILABLE (a : Nat) : Field := ⟨(Reg.SPD_FAULT a), 1, 1⟩
def SPD_FAULT_PROFILE_INVALID (a : Nat) : Field := ⟨(Reg.SPD_FAULT a), 0, 1⟩
def SPD_NCMD_VALUE (a : Nat) : Field := ⟨(Reg.SPD_NCMD a), 0, 32⟩
def SPD_NREF_VALUE (a : Nat) : Field := ⟨(Reg.SPD_NREF a), 0, 32⟩
def SPD_NACT_VALUE (a : Nat) : Field := ⟨(Reg.SPD_NACT a), 0, 32⟩
def SPD_TREF_VALUE (a : Nat) : Field := ⟨(Reg.SPD_TREF a), 0, 32⟩
def SPD_TLPOS_VALUE (a : Nat) : Field := ⟨(Reg.SPD_TLPOS a), 0, 32⟩
def SPD_TLNEG_VALUE (a : Nat) : Field := ⟨(Reg.SPD_TLNEG a), 0, 32⟩
def SPD_HEAVE_VALUE (a : Nat) : Field := ⟨(Reg.SPD_HEAVE a), 0, 32⟩
def SPD_FACT_KTH (a : Nat) : Field := ⟨(Reg.SPD_FACT a), 20, 10⟩
def SPD_FACT_KRG (a : Nat) : Field := ⟨(Reg.SPD_FACT a), 10, 10⟩
def SPD_FACT_KRS (a : Nat) : Field := ⟨(Reg.SPD_FACT a), 0, 10⟩
def SPD_CNT_SNATCH (a : Nat) : Field := ⟨(Reg.SPD_CNT a), 24, 8⟩
def SPD_CNT_SLACK (a : Nat) : Field := ⟨(Reg.SPD_CNT a), 16, 8⟩
def SPD_CNT_VENT (a : Nat) : Field := ⟨(Reg.SPD_CNT a), 8, 8⟩
def SPD_CNT_HV_STALL (a : Nat) : Field := ⟨(Reg.SPD_CNT a), 0, 8⟩
def SPD_LAST_SHOCK_MS (a : Nat) : Field := ⟨(Reg.SPD_LAST a), 24, 8⟩
def SPD_LAST_VENT_DUR (a : Nat) : Field := ⟨(Reg.SPD_LAST a), 0, 16⟩
def LSH_CFG_SHARED (a : Nat) : Field := ⟨(Reg.LSH_CFG a), 31, 1⟩
def LSH_CFG_LEAD_EN (a : Nat) : Field := ⟨(Reg.LSH_CFG a), 30, 1⟩
def LSH_CFG_GROUP_FAULT (a : Nat) : Field := ⟨(Reg.LSH_CFG a), 29, 1⟩
def LSH_CFG_MEMBERS (a : Nat) : Field := ⟨(Reg.LSH_CFG a), 24, 5⟩
def LSH_CFG_MEMBER_IDX (a : Nat) : Field := ⟨(Reg.LSH_CFG a), 20, 4⟩
def LSH_CFG_MINMEM (a : Nat) : Field := ⟨(Reg.LSH_CFG a), 15, 5⟩
def LSH_CFG_PHASE_STEP (a : Nat) : Field := ⟨(Reg.LSH_CFG a), 0, 8⟩
def LSH_GROUP_MOFS (a : Nat) : Field := ⟨(Reg.LSH_GROUP a), 24, 8⟩
def LSH_GROUP_GROUP_ID (a : Nat) : Field := ⟨(Reg.LSH_GROUP a), 0, 16⟩
def LSH_TIME_APPLY (a : Nat) : Field := ⟨(Reg.LSH_TIME a), 22, 10⟩
def LSH_TIME_SLOT (a : Nat) : Field := ⟨(Reg.LSH_TIME a), 15, 7⟩
def LSH_TIME_RAMP (a : Nat) : Field := ⟨(Reg.LSH_TIME a), 0, 10⟩
def LSH_STATE_LEAD_ADDR (a : Nat) : Field := ⟨(Reg.LSH_STATE a), 24, 8⟩
def LSH_STATE_ACTIVE (a : Nat) : Field := ⟨(Reg.LSH_STATE a), 16, 5⟩
def LSH_STATE_PARTITION (a : Nat) : Field := ⟨(Reg.LSH_STATE a), 11, 1⟩
def LSH_STATE_HOLD_REF (a : Nat) : Field := ⟨(Reg.LSH_STATE a), 10, 1⟩
def LSH_STATE_CAP_LIM (a : Nat) : Field := ⟨(Reg.LSH_STATE a), 9, 1⟩
def LSH_STATE_CLAMP (a : Nat) : Field := ⟨(Reg.LSH_STATE a), 8, 1⟩
def LSH_STATE_LMISS (a : Nat) : Field := ⟨(Reg.LSH_STATE a), 6, 2⟩
def LSH_STATE_ROLE (a : Nat) : Field := ⟨(Reg.LSH_STATE a), 4, 2⟩
def LSH_STATE_MSTATE (a : Nat) : Field := ⟨(Reg.LSH_STATE a), 0, 3⟩
def LSH_MAP_ACTIVE_MAP (a : Nat) : Field := ⟨(Reg.LSH_MAP a), 16, 16⟩
def LSH_MAP_SEEN_MAP (a : Nat) : Field := ⟨(Reg.LSH_MAP a), 0, 16⟩
def LSH_CNT_LMISS_TOT (a : Nat) : Field := ⟨(Reg.LSH_CNT a), 16, 16⟩
def LSH_CNT_TAKEOVER (a : Nat) : Field := ⟨(Reg.LSH_CNT a), 8, 8⟩
def LSH_CNT_RAMPOUT (a : Nat) : Field := ⟨(Reg.LSH_CNT a), 0, 8⟩
def LSH_REFUSE_NODE (a : Nat) : Field := ⟨(Reg.LSH_REFUSE a), 24, 8⟩
def LSH_REFUSE_REASON (a : Nat) : Field := ⟨(Reg.LSH_REFUSE a), 0, 8⟩
def LSH_TM_VALUE (a : Nat) : Field := ⟨(Reg.LSH_TM a), 0, 32⟩
def LSH_SHARE_VALUE (a : Nat) : Field := ⟨(Reg.LSH_SHARE a), 0, 32⟩
def LSH_KCAP_VALUE (a : Nat) : Field := ⟨(Reg.LSH_KCAP a), 0, 32⟩
def LSH_TEAX_VALUE (a : Nat) : Field := ⟨(Reg.LSH_TEAX a), 0, 32⟩
def LSH_W_WLOC (s : Nat) : Field := ⟨(Reg.LSH_W s), 16, 10⟩
def LSH_W_WNOM (s : Nat) : Field := ⟨(Reg.LSH_W s), 0, 10⟩
def FBI_CFG_TYPE (n : Nat) : Field := ⟨(Reg.FBI_CFG n), 28, 4⟩
def FBI_CFG_TERM (n : Nat) : Field := ⟨(Reg.FBI_CFG n), 27, 1⟩
def FBI_CFG_AMP_EN (n : Nat) : Field := ⟨(Reg.FBI_CFG n), 26, 1⟩
def FBI_CFG_Z_REF (n : Nat) : Field := ⟨(Reg.FBI_CFG n), 25, 1⟩
def FBI_CFG_GRAY (n : Nat) : Field := ⟨(Reg.FBI_CFG n), 24, 1⟩
def FBI_CFG_PARITY (n : Nat) : Field := ⟨(Reg.FBI_CFG n), 23, 1⟩
def FBI_CFG_BITS (n : Nat) : Field := ⟨(Reg.FBI_CFG n), 16, 6⟩
def FBI_CFG_WINK (n : Nat) : Field := ⟨(Reg.FBI_CFG n), 12, 4⟩
def FBI_CFG_STILL (n : Nat) : Field := ⟨(Reg.FBI_CFG n), 8, 4⟩
def FBI_CFG_INTERP (n : Nat) : Field := ⟨(Reg.FBI_CFG n), 4, 4⟩
def FBI_CFG_FILT (n : Nat) : Field := ⟨(Reg.FBI_CFG n), 0, 4⟩
def FBI_CPT_CPT (n : Nat) : Field := ⟨(Reg.FBI_CPT n), 0, 32⟩
def FBI_SOFTMIN_MIN (n : Nat) : Field := ⟨(Reg.FBI_SOFTMIN n), 0, 32⟩
def FBI_SOFTMAX_MAX (n : Nat) : Field := ⟨(Reg.FBI_SOFTMAX n), 0, 32⟩
def FBI_SER_CLKDIV (n : Nat) : Field := ⟨(Reg.FBI_SER n), 24, 8⟩
def FBI_SER_MONO (n : Nat) : Field := ⟨(Reg.FBI_SER n), 16, 8⟩
def FBI_SER_LDLY (n : Nat) : Field := ⟨(Reg.FBI_SER n), 8, 8⟩
def FBI_SER_TRD (n : Nat) : Field := ⟨(Reg.FBI_SER n), 0, 8⟩
def FBI_RES_EXCV (n : Nat) : Field := ⟨(Reg.FBI_RES n), 24, 8⟩
def FBI_RES_EXCF (n : Nat) : Field := ⟨(Reg.FBI_RES n), 16, 8⟩
def FBI_RES_RESPP (n : Nat) : Field := ⟨(Reg.FBI_RES n), 12, 4⟩
def FBI_RES_RESBW (n : Nat) : Field := ⟨(Reg.FBI_RES n), 0, 12⟩
def FBI_AMP_FILT (n : Nat) : Field := ⟨(Reg.FBI_AMP n), 24, 8⟩
def FBI_AMP_AMPMAX (n : Nat) : Field := ⟨(Reg.FBI_AMP n), 12, 12⟩
def FBI_AMP_AMPMIN (n : Nat) : Field := ⟨(Reg.FBI_AMP n), 0, 12⟩
def FBI_JUMP_MAX (n : Nat) : Field := ⟨(Reg.FBI_JUMP n), 0, 32⟩
def FBI_STATUS_PRE_REFUSED (n : Nat) : Field := ⟨(Reg.FBI_STATUS n), 16, 1⟩
def FBI_STATUS_TURN_OK (n : Nat) : Field := ⟨(Reg.FBI_STATUS n), 15, 1⟩
def FBI_STATUS_STALE (n : Nat) : Field := ⟨(Reg.FBI_STATUS n), 14, 1⟩
def FBI_STATUS_STILL (n : Nat) : Field := ⟨(Reg.FBI_STATUS n), 13, 1⟩
def FBI_STATUS_START (n : Nat) : Field := ⟨(Reg.FBI_STATUS n), 12, 1⟩
def FBI_STATUS_REV (n : Nat) : Field := ⟨(Reg.FBI_STATUS n), 11, 1⟩
def FBI_STATUS_DIR (n : Nat) : Field := ⟨(Reg.FBI_STATUS n), 10, 1⟩
def FBI_STATUS_SAT_HI (n : Nat) : Field := ⟨(Reg.FBI_STATUS n), 9, 1⟩
def FBI_STATUS_SAT_LO (n : Nat) : Field := ⟨(Reg.FBI_STATUS n), 8, 1⟩
def FBI_STATUS_AMP_LVL (n : Nat) : Field := ⟨(Reg.FBI_STATUS n), 7, 1⟩
def FBI_STATUS_WARN (n : Nat) : Field := ⟨(Reg.FBI_STATUS n), 6, 1⟩
def FBI_STATUS_ENC_ERR (n : Nat) : Field := ⟨(Reg.FBI_STATUS n), 5, 1⟩
def FBI_STATUS_Z_SEEN (n : Nat) : Field := ⟨(Reg.FBI_STATUS n), 4, 1⟩
def FBI_STATUS_CMP_ARMED (n : Nat) : Field := ⟨(Reg.FBI_STATUS n), 3, 1⟩
def FBI_STATUS_CMP_STALE (n : Nat) : Field := ⟨(Reg.FBI_STATUS n), 2, 1⟩
def FBI_STATUS_UNIT_FAILED (n : Nat) : Field := ⟨(Reg.FBI_STATUS n), 1, 1⟩
def FBI_STATUS_FAULT (n : Nat) : Field := ⟨(Reg.FBI_STATUS n), 0, 1⟩
def FBI_FAULT_EXC (n : Nat) : Field := ⟨(Reg.FBI_FAULT n), 5, 1⟩
def FBI_FAULT_FREQ (n : Nat) : Field := ⟨(Reg.FBI_FAULT n), 4, 1⟩
def FBI_FAULT_QUAD (n : Nat) : Field := ⟨(Reg.FBI_FAULT n), 3, 1⟩
def FBI_FAULT_WIRE (n : Nat) : Field := ⟨(Reg.FBI_FAULT n), 2, 1⟩
def FBI_FAULT_AMP (n : Nat) : Field := ⟨(Reg.FBI_FAULT n), 1, 1⟩
def FBI_FAULT_SUPPLY (n : Nat) : Field := ⟨(Reg.FBI_FAULT n), 0, 1⟩
def FBI_POS_P (n : Nat) : Field := ⟨(Reg.FBI_POS n), 0, 32⟩
def FBI_TURN_TURN (n : Nat) : Field := ⟨(Reg.FBI_TURN n), 0, 32⟩
def FBI_SPEED_VALUE (n : Nat) : Field := ⟨(Reg.FBI_SPEED n), 0, 32⟩
def FBI_DELTA_D (n : Nat) : Field := ⟨(Reg.FBI_DELTA n), 0, 32⟩
def FBI_ZCAP_P (n : Nat) : Field := ⟨(Reg.FBI_ZCAP n), 0, 32⟩
def FBI_PRESET_P (n : Nat) : Field := ⟨(Reg.FBI_PRESET n), 0, 32⟩
def FBI_CNT_BADWORD (n : Nat) : Field := ⟨(Reg.FBI_CNT n), 16, 16⟩
def FBI_CNT_STALE_N (n : Nat) : Field := ⟨(Reg.FBI_CNT n), 8, 8⟩
def FBI_CTRL_CMP_DISARM (n : Nat) : Field := ⟨(Reg.FBI_CTRL n), 3, 1⟩
def FBI_CTRL_TURN_ZERO (n : Nat) : Field := ⟨(Reg.FBI_CTRL n), 2, 1⟩
def FBI_CTRL_LOAD_Z (n : Nat) : Field := ⟨(Reg.FBI_CTRL n), 1, 1⟩
def FBI_CTRL_LOAD (n : Nat) : Field := ⟨(Reg.FBI_CTRL n), 0, 1⟩
def FBI_CMP_P (n : Nat) : Field := ⟨(Reg.FBI_CMP n), 0, 32⟩
def FBI_CMPSP_SPACING (n : Nat) : Field := ⟨(Reg.FBI_CMPSP n), 0, 32⟩
def FBI_CMPCFG_CMP_LATE (n : Nat) : Field := ⟨(Reg.FBI_CMPCFG n), 31, 1⟩
def FBI_CMPCFG_PT_PULSE (n : Nat) : Field := ⟨(Reg.FBI_CMPCFG n), 30, 1⟩
def FBI_CMPCFG_HOST_EVT (n : Nat) : Field := ⟨(Reg.FBI_CMPCFG n), 29, 1⟩
def FBI_CMPCFG_WIDTH (n : Nat) : Field := ⟨(Reg.FBI_CMPCFG n), 0, 8⟩
def FBI_CMPST_HITS (n : Nat) : Field := ⟨(Reg.FBI_CMPST n), 16, 16⟩
def FBI_CMPST_SKIP_LAST (n : Nat) : Field := ⟨(Reg.FBI_CMPST n), 0, 16⟩
def FBI_CMPT_LO_T (n : Nat) : Field := ⟨(Reg.FBI_CMPT_LO n), 0, 32⟩
def FBI_CMPT_HI_T (n : Nat) : Field := ⟨(Reg.FBI_CMPT_HI n), 0, 32⟩
def PT_CFG_MODE (m : Nat) : Field := ⟨(Reg.PT_CFG m), 30, 2⟩
def PT_CFG_SRC (m : Nat) : Field := ⟨(Reg.PT_CFG m), 27, 3⟩
def PT_CFG_PPR (m : Nat) : Field := ⟨(Reg.PT_CFG m), 0, 21⟩
def PT_EMU_LAGMAX (m : Nat) : Field := ⟨(Reg.PT_EMU m), 16, 16⟩
def PT_EMU_MINEDGE (m : Nat) : Field := ⟨(Reg.PT_EMU m), 0, 8⟩
def PT_STATUS_LAG (m : Nat) : Field := ⟨(Reg.PT_STATUS m), 16, 16⟩
def PT_STATUS_HOLD (m : Nat) : Field := ⟨(Reg.PT_STATUS m), 2, 1⟩
def PT_STATUS_EMU_LOST (m : Nat) : Field := ⟨(Reg.PT_STATUS m), 1, 1⟩
def PT_STATUS_ACTIVE (m : Nat) : Field := ⟨(Reg.PT_STATUS m), 0, 1⟩
def PRG_STATE_DEV (c : Nat) : Field := ⟨(Reg.PRG_STATE c), 15, 1⟩
def PRG_STATE_LIM_BOTH (c : Nat) : Field := ⟨(Reg.PRG_STATE c), 14, 1⟩
def PRG_STATE_LIM_NEG (c : Nat) : Field := ⟨(Reg.PRG_STATE c), 13, 1⟩
def PRG_STATE_LIM_POS (c : Nat) : Field := ⟨(Reg.PRG_STATE c), 12, 1⟩
def PRG_STATE_BLK_NEG (c : Nat) : Field := ⟨(Reg.PRG_STATE c), 11, 1⟩
def PRG_STATE_BLK_POS (c : Nat) : Field := ⟨(Reg.PRG_STATE c), 10, 1⟩
def PRG_STATE_HARD (c : Nat) : Field := ⟨(Reg.PRG_STATE c), 9, 1⟩
def PRG_STATE_REF_LOST (c : Nat) : Field := ⟨(Reg.PRG_STATE c), 8, 1⟩
def PRG_STATE_GEAR_LOST (c : Nat) : Field := ⟨(Reg.PRG_STATE c), 7, 1⟩
def PRG_STATE_GEAR_HOLD (c : Nat) : Field := ⟨(Reg.PRG_STATE c), 6, 1⟩
def PRG_STATE_GEARED (c : Nat) : Field := ⟨(Reg.PRG_STATE c), 5, 1⟩
def PRG_STATE_STOPPING (c : Nat) : Field := ⟨(Reg.PRG_STATE c), 4, 1⟩
def PRG_STATE_OVERSHOOT (c : Nat) : Field := ⟨(Reg.PRG_STATE c), 3, 1⟩
def PRG_STATE_DONE (c : Nat) : Field := ⟨(Reg.PRG_STATE c), 2, 1⟩
def PRG_STATE_MOVING (c : Nat) : Field := ⟨(Reg.PRG_STATE c), 1, 1⟩
def PRG_STATE_PLAG (c : Nat) : Field := ⟨(Reg.PRG_STATE c), 0, 1⟩
def PRG_TARGET_P (c : Nat) : Field := ⟨(Reg.PRG_TARGET c), 0, 32⟩
def PRG_PPROF_P (c : Nat) : Field := ⟨(Reg.PRG_PPROF c), 0, 32⟩
def PRG_VPROF_VALUE (c : Nat) : Field := ⟨(Reg.PRG_VPROF c), 0, 32⟩
def PRG_DEV_D (c : Nat) : Field := ⟨(Reg.PRG_DEV c), 0, 32⟩
def PRG_COUNT_N (c : Nat) : Field := ⟨(Reg.PRG_COUNT c), 0, 32⟩
def PRG_LAG_LAG (c : Nat) : Field := ⟨(Reg.PRG_LAG c), 0, 16⟩
def PRG_CTRL_SET_POS (c : Nat) : Field := ⟨(Reg.PRG_CTRL c), 3, 1⟩
def PRG_CTRL_DISENGAGE (c : Nat) : Field := ⟨(Reg.PRG_CTRL c), 2, 1⟩
def PRG_CTRL_ENGAGE (c : Nat) : Field := ⟨(Reg.PRG_CTRL c), 1, 1⟩
def PRG_CTRL_HALT (c : Nat) : Field := ⟨(Reg.PRG_CTRL c), 0, 1⟩
def PRG_PRESET_N (c : Nat) : Field := ⟨(Reg.PRG_PRESET c), 0, 32⟩
def SFI_STATUS_TRANS_H : Field := ⟨Reg.SFI_STATUS, 28, 4⟩
def SFI_STATUS_SINCE_TEST : Field := ⟨Reg.SFI_STATUS, 16, 8⟩
def SFI_STATUS_OVERDUE : Field := ⟨Reg.SFI_STATUS, 14, 1⟩
def SFI_STATUS_TEST_DUE : Field := ⟨Reg.SFI_STATUS, 13, 1⟩
def SFI_STATUS_STO_PATH : Field := ⟨Reg.SFI_STATUS, 12, 1⟩
def SFI_STATUS_STO_DISC : Field := ⟨Reg.SFI_STATUS, 11, 1⟩
def SFI_STATUS_SUSPENDED : Field := ⟨Reg.SFI_STATUS, 10, 1⟩
def SFI_STATUS_STAGE_OPEN : Field := ⟨Reg.SFI_STATUS, 9, 1⟩
def SFI_STATUS_SEALED : Field := ⟨Reg.SFI_STATUS, 8, 1⟩
def SFI_STATUS_STO_HW : Field := ⟨Reg.SFI_STATUS, 3, 1⟩
def SFI_STATUS_STO_B : Field := ⟨Reg.SFI_STATUS, 2, 1⟩
def SFI_STATUS_STO_A : Field := ⟨Reg.SFI_STATUS, 1, 1⟩
def SFI_STATUS_RUNNING : Field := ⟨Reg.SFI_STATUS, 0, 1⟩
def SFI_SEAL_CRC : Field := ⟨Reg.SFI_SEAL, 0, 32⟩
def SFI_STAGE_CRC : Field := ⟨Reg.SFI_STAGE, 0, 32⟩
def SFI_SEALINFO_SEALS : Field := ⟨Reg.SFI_SEALINFO, 16, 16⟩
def SFI_SEALINFO_TARGET : Field := ⟨Reg.SFI_SEALINFO, 8, 2⟩
def SFI_SEALINFO_STEP : Field := ⟨Reg.SFI_SEALINFO, 0, 3⟩
def SFI_AX_STATE_AV_SDI (a : Nat) : Field := ⟨(Reg.SFI_AX_STATE a), 23, 1⟩
def SFI_AX_STATE_AV_SLP (a : Nat) : Field := ⟨(Reg.SFI_AX_STATE a), 22, 1⟩
def SFI_AX_STATE_AV_SLS (a : Nat) : Field := ⟨(Reg.SFI_AX_STATE a), 21, 1⟩
def SFI_AX_STATE_SLS_IDX (a : Nat) : Field := ⟨(Reg.SFI_AX_STATE a), 17, 2⟩
def SFI_AX_STATE_SLS_ENTRY (a : Nat) : Field := ⟨(Reg.SFI_AX_STATE a), 16, 1⟩
def SFI_AX_STATE_SDI_DIR (a : Nat) : Field := ⟨(Reg.SFI_AX_STATE a), 15, 1⟩
def SFI_AX_STATE_SDI (a : Nat) : Field := ⟨(Reg.SFI_AX_STATE a), 14, 1⟩
def SFI_AX_STATE_SLP (a : Nat) : Field := ⟨(Reg.SFI_AX_STATE a), 13, 1⟩
def SFI_AX_STATE_SLS (a : Nat) : Field := ⟨(Reg.SFI_AX_STATE a), 12, 1⟩
def SFI_AX_STATE_BRK_OUT (a : Nat) : Field := ⟨(Reg.SFI_AX_STATE a), 8, 1⟩
def SFI_AX_STATE_SBC (a : Nat) : Field := ⟨(Reg.SFI_AX_STATE a), 7, 1⟩
def SFI_AX_STATE_ASC_HOLD (a : Nat) : Field := ⟨(Reg.SFI_AX_STATE a), 6, 1⟩
def SFI_AX_STATE_SS1 (a : Nat) : Field := ⟨(Reg.SFI_AX_STATE a), 5, 1⟩
def SFI_AX_STATE_STO (a : Nat) : Field := ⟨(Reg.SFI_AX_STATE a), 4, 1⟩
def SFI_AX_FAULT_PORT (a : Nat) : Field := ⟨(Reg.SFI_AX_FAULT a), 10, 1⟩
def SFI_AX_FAULT_BRAKE (a : Nat) : Field := ⟨(Reg.SFI_AX_FAULT a), 9, 1⟩
def SFI_AX_FAULT_GAP (a : Nat) : Field := ⟨(Reg.SFI_AX_FAULT a), 8, 1⟩
def SFI_AX_FAULT_CURRENT (a : Nat) : Field := ⟨(Reg.SFI_AX_FAULT a), 7, 1⟩
def SFI_AX_FAULT_SDI_VIOL (a : Nat) : Field := ⟨(Reg.SFI_AX_FAULT a), 6, 1⟩
def SFI_AX_FAULT_SLP_VIOL (a : Nat) : Field := ⟨(Reg.SFI_AX_FAULT a), 5, 1⟩
def SFI_AX_FAULT_SLS_VIOL (a : Nat) : Field := ⟨(Reg.SFI_AX_FAULT a), 4, 1⟩
def SFI_AX_FAULT_SS1_VIOL (a : Nat) : Field := ⟨(Reg.SFI_AX_FAULT a), 3, 1⟩
def SFI_AX_FAULT_DEMAND (a : Nat) : Field := ⟨(Reg.SFI_AX_FAULT a), 2, 1⟩
def SFI_AX_FAULT_ANY (a : Nat) : Field := ⟨(Reg.SFI_AX_FAULT a), 0, 1⟩
def SFI_AX_NSAFE_VALUE (a : Nat) : Field := ⟨(Reg.SFI_AX_NSAFE a), 0, 32⟩
def SFI_AX_HSAFE_H (a : Nat) : Field := ⟨(Reg.SFI_AX_HSAFE a), 0, 32⟩
def SFI_SI_STATE_LEVEL : Field := ⟨Reg.SFI_SI_STATE, 16, 16⟩
def SFI_SI_STATE_VALID : Field := ⟨Reg.SFI_SI_STATE, 8, 8⟩
def SFI_SI_STATE_CLEAR : Field := ⟨Reg.SFI_SI_STATE, 0, 8⟩
def SFI_SI_FAULT_TESTFAIL : Field := ⟨Reg.SFI_SI_FAULT, 16, 16⟩
def SFI_SI_FAULT_ST_OVL : Field := ⟨Reg.SFI_SI_FAULT, 12, 4⟩
def SFI_SI_FAULT_DISC : Field := ⟨Reg.SFI_SI_FAULT, 0, 8⟩
def SFI_SO_STATE_READ : Field := ⟨Reg.SFI_SO_STATE, 16, 8⟩
def SFI_SO_STATE_VS_LOW : Field := ⟨Reg.SFI_SO_STATE, 8, 1⟩
def SFI_SO_STATE_PULSE : Field := ⟨Reg.SFI_SO_STATE, 4, 4⟩
def SFI_SO_STATE_CMD : Field := ⟨Reg.SFI_SO_STATE, 0, 4⟩
def SFI_SO_FAULT_PAIR : Field := ⟨Reg.SFI_SO_FAULT, 0, 16⟩
def SFI_SC_STATE_SEQ (k : Nat) : Field := ⟨(Reg.SFI_SC_STATE k), 16, 16⟩
def SFI_SC_STATE_VALID (k : Nat) : Field := ⟨(Reg.SFI_SC_STATE k), 15, 1⟩
def SFI_SC_STATE_TX (k : Nat) : Field := ⟨(Reg.SFI_SC_STATE k), 14, 1⟩
def SFI_SC_STATE_ROUTE (k : Nat) : Field := ⟨(Reg.SFI_SC_STATE k), 11, 1⟩
def SFI_SC_STATE_MISMATCH (k : Nat) : Field := ⟨(Reg.SFI_SC_STATE k), 10, 1⟩
def SFI_SC_STATE_WD_EXP (k : Nat) : Field := ⟨(Reg.SFI_SC_STATE k), 9, 1⟩
def SFI_SC_CNT_SINGLE (k : Nat) : Field := ⟨(Reg.SFI_SC_CNT k), 24, 8⟩
def SFI_SC_CNT_BADCRC (k : Nat) : Field := ⟨(Reg.SFI_SC_CNT k), 16, 8⟩
def SFI_SC_CNT_OUTSEQ (k : Nat) : Field := ⟨(Reg.SFI_SC_CNT k), 8, 8⟩
def SFI_SC_CNT_OLD (k : Nat) : Field := ⟨(Reg.SFI_SC_CNT k), 0, 8⟩
def SFI_SC_RX_DEMAND (k : Nat) : Field := ⟨(Reg.SFI_SC_RX k), 0, 16⟩
def HIF_CFG_LOCAL : Field := ⟨Reg.HIF_CFG, 31, 1⟩
def HIF_CFG_EVTEN : Field := ⟨Reg.HIF_CFG, 30, 1⟩
def HIF_CFG_EVTCQ : Field := ⟨Reg.HIF_CFG, 24, 4⟩
def HIF_CFG_EVMASK : Field := ⟨Reg.HIF_CFG, 0, 16⟩
def HIF_STATUS_HOST_LOST : Field := ⟨Reg.HIF_STATUS, 31, 1⟩
def HIF_STATUS_LINK_UP : Field := ⟨Reg.HIF_STATUS, 30, 1⟩
def HIF_STATUS_SPEED : Field := ⟨Reg.HIF_STATUS, 28, 2⟩
def HIF_STATUS_WIDTH : Field := ⟨Reg.HIF_STATUS, 26, 2⟩
def HIF_STATUS_FWQ : Field := ⟨Reg.HIF_STATUS, 16, 7⟩
def HIF_STATUS_EVTLOST : Field := ⟨Reg.HIF_STATUS, 8, 8⟩
def HIF_CNT_HV_LATE : Field := ⟨Reg.HIF_CNT, 16, 16⟩
def HIF_CNT_ORPHAN : Field := ⟨Reg.HIF_CNT, 8, 8⟩
def HIF_CNT_BADACC : Field := ⟨Reg.HIF_CNT, 0, 8⟩
def HIF_SQ_BASE_LO_ADDR (n : Nat) : Field := ⟨(Reg.HIF_SQ_BASE_LO n), 0, 32⟩
def HIF_SQ_BASE_HI_ADDR (n : Nat) : Field := ⟨(Reg.HIF_SQ_BASE_HI n), 0, 32⟩
def HIF_SQ_CFG_ENABLE (n : Nat) : Field := ⟨(Reg.HIF_SQ_CFG n), 31, 1⟩
def HIF_SQ_CFG_PLACE (n : Nat) : Field := ⟨(Reg.HIF_SQ_CFG n), 30, 1⟩
def HIF_SQ_CFG_ERR (n : Nat) : Field := ⟨(Reg.HIF_SQ_CFG n), 29, 1⟩
def HIF_SQ_CFG_CHAIN (n : Nat) : Field := ⟨(Reg.HIF_SQ_CFG n), 28, 1⟩
def HIF_SQ_CFG_CQ (n : Nat) : Field := ⟨(Reg.HIF_SQ_CFG n), 16, 4⟩
def HIF_SQ_CFG_SIZE (n : Nat) : Field := ⟨(Reg.HIF_SQ_CFG n), 0, 4⟩
def HIF_SQ_PTR_HEAD (n : Nat) : Field := ⟨(Reg.HIF_SQ_PTR n), 16, 12⟩
def HIF_SQ_PTR_TAIL (n : Nat) : Field := ⟨(Reg.HIF_SQ_PTR n), 0, 12⟩
def HIF_SQ_STAT_DONE (n : Nat) : Field := ⟨(Reg.HIF_SQ_STAT n), 16, 16⟩
def HIF_SQ_STAT_CHAINTO (n : Nat) : Field := ⟨(Reg.HIF_SQ_STAT n), 8, 8⟩
def HIF_SQ_STAT_DBERR (n : Nat) : Field := ⟨(Reg.HIF_SQ_STAT n), 0, 8⟩
def HIF_CQ_BASE_LO_ADDR (n : Nat) : Field := ⟨(Reg.HIF_CQ_BASE_LO n), 0, 32⟩
def HIF_CQ_BASE_HI_ADDR (n : Nat) : Field := ⟨(Reg.HIF_CQ_BASE_HI n), 0, 32⟩
def HIF_CQ_CFG_ENABLE (n : Nat) : Field := ⟨(Reg.HIF_CQ_CFG n), 31, 1⟩
def HIF_CQ_CFG_PLACE (n : Nat) : Field := ⟨(Reg.HIF_CQ_CFG n), 30, 1⟩
def HIF_CQ_CFG_ERR (n : Nat) : Field := ⟨(Reg.HIF_CQ_CFG n), 29, 1⟩
def HIF_CQ_CFG_FULL (n : Nat) : Field := ⟨(Reg.HIF_CQ_CFG n), 28, 1⟩
def HIF_CQ_CFG_TARGET (n : Nat) : Field := ⟨(Reg.HIF_CQ_CFG n), 27, 1⟩
def HIF_CQ_CFG_VEC (n : Nat) : Field := ⟨(Reg.HIF_CQ_CFG n), 16, 5⟩
def HIF_CQ_CFG_ITIME (n : Nat) : Field := ⟨(Reg.HIF_CQ_CFG n), 8, 8⟩
def HIF_CQ_CFG_ICNT (n : Nat) : Field := ⟨(Reg.HIF_CQ_CFG n), 4, 4⟩
def HIF_CQ_CFG_SIZE (n : Nat) : Field := ⟨(Reg.HIF_CQ_CFG n), 0, 4⟩
def HIF_CQ_PTR_PHASE (n : Nat) : Field := ⟨(Reg.HIF_CQ_PTR n), 31, 1⟩
def HIF_CQ_PTR_TAIL (n : Nat) : Field := ⟨(Reg.HIF_CQ_PTR n), 16, 12⟩
def HIF_CQ_PTR_HEAD (n : Nat) : Field := ⟨(Reg.HIF_CQ_PTR n), 0, 12⟩
def HIF_CQ_STAT_DROP (n : Nat) : Field := ⟨(Reg.HIF_CQ_STAT n), 16, 16⟩
def HIF_CQ_STAT_STALL (n : Nat) : Field := ⟨(Reg.HIF_CQ_STAT n), 0, 16⟩
def DBL_SQ_TAIL_TAIL (n : Nat) : Field := ⟨(Reg.DBL_SQ_TAIL n), 0, 12⟩
def DBL_CQ_HEAD_HEAD (n : Nat) : Field := ⟨(Reg.DBL_CQ_HEAD n), 0, 12⟩
def WFT_NODE_ADDR : Field := ⟨Reg.WFT_NODE, 24, 8⟩
def WFT_NODE_ASTATE : Field := ⟨Reg.WFT_NODE, 18, 2⟩
def WFT_NODE_LOCK : Field := ⟨Reg.WFT_NODE, 17, 1⟩
def WFT_NODE_REACH : Field := ⟨Reg.WFT_NODE, 8, 8⟩
def WFT_NODE_CONF : Field := ⟨Reg.WFT_NODE, 0, 8⟩
def WFT_UID_LO_UID : Field := ⟨Reg.WFT_UID_LO, 0, 32⟩
def WFT_UID_HI_UID : Field := ⟨Reg.WFT_UID_HI, 0, 32⟩
def WFT_SYNC_SSTATE : Field := ⟨Reg.WFT_SYNC, 30, 2⟩
def WFT_SYNC_GM : Field := ⟨Reg.WFT_SYNC, 29, 1⟩
def WFT_SYNC_SLEW_ONLY : Field := ⟨Reg.WFT_SYNC, 28, 1⟩
def WFT_SYNC_STEPS : Field := ⟨Reg.WFT_SYNC, 24, 4⟩
def WFT_SYNC_PARENT : Field := ⟨Reg.WFT_SYNC, 22, 2⟩
def WFT_SYNC_GM_PRIO : Field := ⟨Reg.WFT_SYNC, 8, 8⟩
def WFT_SYNC_GM_ADDR : Field := ⟨Reg.WFT_SYNC, 0, 8⟩
def WFT_OFFSET_NS : Field := ⟨Reg.WFT_OFFSET, 0, 32⟩
def WFT_CTX_FAILS : Field := ⟨Reg.WFT_CTX, 24, 8⟩
def WFT_CTX_PINNED : Field := ⟨Reg.WFT_CTX, 12, 9⟩
def WFT_CTX_USED : Field := ⟨Reg.WFT_CTX, 0, 9⟩
def WFT_ROUTE_SEL_ADDR : Field := ⟨Reg.WFT_ROUTE_SEL, 0, 8⟩
def WFT_ROUTE_SHARED : Field := ⟨Reg.WFT_ROUTE, 20, 1⟩
def WFT_ROUTE_PORT_B : Field := ⟨Reg.WFT_ROUTE, 18, 2⟩
def WFT_ROUTE_PORT_A : Field := ⟨Reg.WFT_ROUTE, 16, 2⟩
def WFT_ROUTE_METRIC : Field := ⟨Reg.WFT_ROUTE, 0, 5⟩
def WFT_CNT_WSTEP : Field := ⟨Reg.WFT_CNT, 24, 8⟩
def WFT_CNT_PLOSS : Field := ⟨Reg.WFT_CNT, 16, 8⟩
def WFT_CNT_HOPLIM : Field := ⟨Reg.WFT_CNT, 8, 8⟩
def WFT_CNT_NOROUTE : Field := ⟨Reg.WFT_CNT, 0, 8⟩
def WFT_CNT2_REASM : Field := ⟨Reg.WFT_CNT2, 16, 16⟩
def WFT_CNT2_FWQ_DROP : Field := ⟨Reg.WFT_CNT2, 8, 8⟩
def WFT_CNT2_C0_OVER : Field := ⟨Reg.WFT_CNT2, 0, 8⟩
def WFT_P_STATE_PEER_ADDR (w : Nat) : Field := ⟨(Reg.WFT_P_STATE w), 24, 8⟩
def WFT_P_STATE_RETRAIN (w : Nat) : Field := ⟨(Reg.WFT_P_STATE w), 16, 8⟩
def WFT_P_STATE_DELAY_OK (w : Nat) : Field := ⟨(Reg.WFT_P_STATE w), 7, 1⟩
def WFT_P_STATE_PARENT (w : Nat) : Field := ⟨(Reg.WFT_P_STATE w), 6, 1⟩
def WFT_P_STATE_LSTATE (w : Nat) : Field := ⟨(Reg.WFT_P_STATE w), 0, 3⟩
def WFT_P_PEER_LO_UID (w : Nat) : Field := ⟨(Reg.WFT_P_PEER_LO w), 0, 32⟩
def WFT_P_PEER_HI_UID (w : Nat) : Field := ⟨(Reg.WFT_P_PEER_HI w), 0, 32⟩
def WFT_P_DELAY_D (w : Nat) : Field := ⟨(Reg.WFT_P_DELAY w), 0, 16⟩
def WFT_P_ERR_CRC (w : Nat) : Field := ⟨(Reg.WFT_P_ERR w), 24, 8⟩
def WFT_P_ERR_PARTIAL (w : Nat) : Field := ⟨(Reg.WFT_P_ERR w), 16, 8⟩
def WFT_P_ERR_CODE (w : Nat) : Field := ⟨(Reg.WFT_P_ERR w), 8, 8⟩
def WFT_P_ERR_Q01_DROP (w : Nat) : Field := ⟨(Reg.WFT_P_ERR w), 0, 8⟩
def WFT_P_UTIL_Q23_DROP (w : Nat) : Field := ⟨(Reg.WFT_P_UTIL w), 16, 16⟩
def WFT_P_UTIL_UTIL (w : Nat) : Field := ⟨(Reg.WFT_P_UTIL w), 0, 10⟩
def CAN_CFG_ENABLE (c : Nat) : Field := ⟨(Reg.CAN_CFG c), 31, 1⟩
def CAN_CFG_MODE (c : Nat) : Field := ⟨(Reg.CAN_CFG c), 29, 2⟩
def CAN_CFG_FD_EN (c : Nat) : Field := ⟨(Reg.CAN_CFG c), 28, 1⟩
def CAN_CFG_BRS_EN (c : Nat) : Field := ⟨(Reg.CAN_CFG c), 27, 1⟩
def CAN_CFG_TXMODE (c : Nat) : Field := ⟨(Reg.CAN_CFG c), 26, 1⟩
def CAN_CFG_TDC_EN (c : Nat) : Field := ⟨(Reg.CAN_CFG c), 25, 1⟩
def CAN_CFG_SAFETY (c : Nat) : Field := ⟨(Reg.CAN_CFG c), 24, 1⟩
def CAN_NBT_BRP (c : Nat) : Field := ⟨(Reg.CAN_NBT c), 27, 5⟩
def CAN_NBT_TSEG1 (c : Nat) : Field := ⟨(Reg.CAN_NBT c), 16, 8⟩
def CAN_NBT_TSEG2 (c : Nat) : Field := ⟨(Reg.CAN_NBT c), 9, 7⟩
def CAN_NBT_SJW (c : Nat) : Field := ⟨(Reg.CAN_NBT c), 0, 7⟩
def CAN_DBT_BRP (c : Nat) : Field := ⟨(Reg.CAN_DBT c), 27, 5⟩
def CAN_DBT_TSEG1 (c : Nat) : Field := ⟨(Reg.CAN_DBT c), 16, 5⟩
def CAN_DBT_TSEG2 (c : Nat) : Field := ⟨(Reg.CAN_DBT c), 12, 4⟩
def CAN_DBT_SJW (c : Nat) : Field := ⟨(Reg.CAN_DBT c), 8, 4⟩
def CAN_DBT_SSP_OFS (c : Nat) : Field := ⟨(Reg.CAN_DBT c), 0, 8⟩
def CAN_STATUS_TEC (c : Nat) : Field := ⟨(Reg.CAN_STATUS c), 24, 8⟩
def CAN_STATUS_REC (c : Nat) : Field := ⟨(Reg.CAN_STATUS c), 16, 8⟩
def CAN_STATUS_TDCV (c : Nat) : Field := ⟨(Reg.CAN_STATUS c), 8, 6⟩
def CAN_STATUS_PXE (c : Nat) : Field := ⟨(Reg.CAN_STATUS c), 2, 1⟩
def CAN_STATUS_STATE (c : Nat) : Field := ⟨(Reg.CAN_STATUS c), 0, 2⟩
def CAN_CNT_ID_CLASH_CNT (c : Nat) : Field := ⟨(Reg.CAN_CNT c), 24, 8⟩
def CAN_CNT_BOFF (c : Nat) : Field := ⟨(Reg.CAN_CNT c), 16, 8⟩
def CAN_CNT_OVR (c : Nat) : Field := ⟨(Reg.CAN_CNT c), 8, 8⟩
def CAN_CNT_PXE_N (c : Nat) : Field := ⟨(Reg.CAN_CNT c), 0, 8⟩
def CAN_CLASHID_IDE (c : Nat) : Field := ⟨(Reg.CAN_CLASHID c), 31, 1⟩
def CAN_CLASHID_ID (c : Nat) : Field := ⟨(Reg.CAN_CLASHID c), 0, 29⟩
def CAN_TXCTRL_ABORT (c : Nat) : Field := ⟨(Reg.CAN_TXCTRL c), 0, 3⟩
def CAN_TXST_DONE (c : Nat) : Field := ⟨(Reg.CAN_TXST c), 8, 3⟩
def CAN_TXST_ACTIVE (c : Nat) : Field := ⟨(Reg.CAN_TXST c), 4, 3⟩
def CAN_TXST_PEND (c : Nat) : Field := ⟨(Reg.CAN_TXST c), 0, 3⟩
def CAN_RXST_LEVEL (c : Nat) : Field := ⟨(Reg.CAN_RXST c), 0, 7⟩
def CAN_RXCTRL_POP (c : Nat) : Field := ⟨(Reg.CAN_RXCTRL c), 0, 1⟩
def CAN_RX_ID_IDE (c : Nat) : Field := ⟨(Reg.CAN_RX_ID c), 31, 1⟩
def CAN_RX_ID_RTR (c : Nat) : Field := ⟨(Reg.CAN_RX_ID c), 30, 1⟩
def CAN_RX_ID_ID (c : Nat) : Field := ⟨(Reg.CAN_RX_ID c), 0, 29⟩
def CAN_RX_CTL_FDF (c : Nat) : Field := ⟨(Reg.CAN_RX_CTL c), 31, 1⟩
def CAN_RX_CTL_BRS (c : Nat) : Field := ⟨(Reg.CAN_RX_CTL c), 30, 1⟩
def CAN_RX_CTL_ESI (c : Nat) : Field := ⟨(Reg.CAN_RX_CTL c), 29, 1⟩
def CAN_RX_CTL_FILT (c : Nat) : Field := ⟨(Reg.CAN_RX_CTL c), 24, 5⟩
def CAN_RX_CTL_DLC (c : Nat) : Field := ⟨(Reg.CAN_RX_CTL c), 0, 4⟩
def CAN_RX_TIME_T (c : Nat) : Field := ⟨(Reg.CAN_RX_TIME c), 0, 32⟩
def CAN_RX_DATA_D (c : Nat) (k : Nat) : Field := ⟨(Reg.CAN_RX_DATA c k), 0, 32⟩
def CAN_FILT_ID_EN (c : Nat) (f : Nat) : Field := ⟨(Reg.CAN_FILT_ID c f), 31, 1⟩
def CAN_FILT_ID_REJECT (c : Nat) (f : Nat) : Field := ⟨(Reg.CAN_FILT_ID c f), 30, 1⟩
def CAN_FILT_ID_EXT (c : Nat) (f : Nat) : Field := ⟨(Reg.CAN_FILT_ID c f), 29, 1⟩
def CAN_FILT_ID_ID (c : Nat) (f : Nat) : Field := ⟨(Reg.CAN_FILT_ID c f), 0, 29⟩
def CAN_FILT_MASK_FMT (c : Nat) (f : Nat) : Field := ⟨(Reg.CAN_FILT_MASK c f), 30, 2⟩
def CAN_FILT_MASK_MASK (c : Nat) (f : Nat) : Field := ⟨(Reg.CAN_FILT_MASK c f), 0, 29⟩
def SVC_STATUS_HOLDM : Field := ⟨Reg.SVC_STATUS, 16, 2⟩
def SVC_STATUS_ATEST_ON : Field := ⟨Reg.SVC_STATUS, 15, 1⟩
def SVC_STATUS_TEST : Field := ⟨Reg.SVC_STATUS, 14, 1⟩
def SVC_STATUS_HWONLY : Field := ⟨Reg.SVC_STATUS, 13, 1⟩
def SVC_STATUS_RXLEVEL : Field := ⟨Reg.SVC_STATUS, 0, 9⟩
def SVC_JSEQ_SEQ : Field := ⟨Reg.SVC_JSEQ, 0, 32⟩
def SVC_JSTAT_DISABLED : Field := ⟨Reg.SVC_JSTAT, 31, 1⟩
def SVC_JSTAT_QUEUE : Field := ⟨Reg.SVC_JSTAT, 16, 7⟩
def SVC_JSTAT_LOST : Field := ⟨Reg.SVC_JSTAT, 0, 16⟩

end Fld

namespace RegTable

/-- The register kinds of block SYS. -/
def sys : List RegRow := [
  ⟨"SYS_ID", 0x40000000, 1, 0x0, 1, 0x0, 0xE1200343, 0x00000000, 0x00000000, 0x00000000⟩,
  ⟨"SYS_SVN", 0x40000004, 1, 0x0, 1, 0x0, 0x00000000, 0x00000000, 0x00000000, 0x00000000⟩,
  ⟨"SYS_RESET", 0x40000008, 1, 0x0, 1, 0x0, 0x00000000, 0x00000000, 0x00000000, 0x00000000⟩,
  ⟨"SYS_RSTCAUSE", 0x4000000C, 1, 0x0, 1, 0x0, 0x00000000, 0x00000000, 0x00000000, 0x00000000⟩,
  ⟨"SYS_STRAP", 0x40000010, 1, 0x0, 1, 0x0, 0x00000000, 0x00000000, 0x00000000, 0x00000000⟩,
  ⟨"SYS_MODE", 0x40000020, 1, 0x0, 1, 0x0, 0x00010022, 0x00000000, 0x00000000, 0x00000000⟩,
  ⟨"SYS_MODEREQ", 0x40000024, 1, 0x0, 1, 0x0, 0x00000000, 0x00000000, 0x00000000, 0x00000000⟩,
  ⟨"SYS_DAWN", 0x40000028, 1, 0x0, 1, 0x0, 0x00000000, 0x00000000, 0x00000000, 0x00000000⟩,
  ⟨"SYS_BOOT", 0x4000002C, 1, 0x0, 1, 0x0, 0x00000000, 0x00000001, 0x00000000, 0x00000000⟩,
  ⟨"SYS_CLK", 0x40000030, 1, 0x0, 1, 0x0, 0x00000000, 0x00000000, 0x00000000, 0x00000000⟩]

/-- The register kinds of block THM. -/
def thm : List RegRow := [
  ⟨"THM_STATUS", 0x40010000, 1, 0x0, 1, 0x0, 0x00000000, 0x00000000, 0x00000000, 0x00000000⟩,
  ⟨"THM_T", 0x40010100, 38, 0x4, 1, 0x0, 0x00000000, 0x00000000, 0x00000000, 0x08000000⟩]

/-- The register kinds of block BST. -/
def bst : List RegRow := [
  ⟨"BST_FAIL", 0x40020000, 1, 0x0, 1, 0x0, 0x00000000, 0x00000000, 0x00000000, 0x00000000⟩,
  ⟨"BST_GATE", 0x40020004, 1, 0x0, 1, 0x0, 0x00000000, 0x00000000, 0x00000000, 0x00000000⟩]

/-- The register kinds of block LCK. -/
def lck : List RegRow := [
  ⟨"LCK_STATUS", 0x40030000, 4, 0x40, 1, 0x0, 0x00000000, 0x00000000, 0x00000000, 0x00000000⟩,
  ⟨"LCK_EVENT", 0x40030004, 4, 0x40, 1, 0x0, 0x00F00000, 0x00000000, 0x00000000, 0x00000000⟩,
  ⟨"LCK_MISPC", 0x40030008, 4, 0x40, 1, 0x0, 0x00000000, 0x00000000, 0x00000000, 0x00000000⟩,
  ⟨"LCK_CNT", 0x4003000C, 4, 0x40, 1, 0x0, 0x00000000, 0x00000000, 0x00000000, 0x00000000⟩,
  ⟨"LCK_CMD", 0x40030010, 4, 0x40, 1, 0x0, 0x00000000, 0x00000000, 0x00000000, 0x00000000⟩,
  ⟨"LCK_IRQEN", 0x40030014, 4, 0x40, 1, 0x0, 0x00000000, 0xFFFFFFFF, 0x00000000, 0x00000000⟩,
  ⟨"LCK_IRQPEND", 0x40030018, 4, 0x40, 1, 0x0, 0x00000000, 0x00000000, 0x00000000, 0x00000000⟩,
  ⟨"LCK_MSIP", 0x4003001C, 4, 0x40, 1, 0x0, 0x00000000, 0x00000001, 0x00000000, 0x00000000⟩,
  ⟨"LCK_MTIMECMP_LO", 0x40030020, 4, 0x40, 1, 0x0, 0xFFFFFFFF, 0xFFFFFFFF, 0x00000000, 0x00000000⟩,
  ⟨"LCK_MTIMECMP_HI", 0x40030024, 4, 0x40, 1, 0x0, 0xFFFFFFFF, 0xFFFFFFFF, 0x00000000, 0x00000000⟩,
  ⟨"LCK_MTIME_LO", 0x40030100, 1, 0x0, 1, 0x0, 0x00000000, 0x00000000, 0x00000000, 0x00000000⟩,
  ⟨"LCK_MTIME_HI", 0x40030104, 1, 0x0, 1, 0x0, 0x00000000, 0x00000000, 0x00000000, 0x00000000⟩]

/-- The register kinds of block PMU. -/
def pmu : List RegRow := [
  ⟨"PMU_RTC", 0x40040000, 1, 0x0, 1, 0x0, 0x00000000, 0xFFFFFFFF, 0x00000000, 0x00000000⟩,
  ⟨"PMU_WAKE", 0x40040004, 1, 0x0, 1, 0x0, 0x00000000, 0x00000000, 0x00000000, 0x00000000⟩,
  ⟨"PMU_LOCKOUT", 0x40040008, 1, 0x0, 1, 0x0, 0x00000000, 0x00000000, 0x00000000, 0x0000003F⟩,
  ⟨"PMU_NIGHT", 0x4004000C, 1, 0x0, 1, 0x0, 0x00000000, 0x00000000, 0x00000000, 0x00000000⟩]

/-- The register kinds of block GDC. -/
def gdc : List RegRow := [
  ⟨"GDC_CFG", 0x40100000, 28, 0x400, 1, 0x0, 0x00011006, 0x00000000, 0x0001DF1F, 0x00000000⟩,
  ⟨"GDC_SEGON", 0x40100004, 28, 0x400, 1, 0x0, 0x16201CE7, 0x00000000, 0x1FFFFFFF, 0x00000000⟩,
  ⟨"GDC_SEGOFF", 0x40100008, 28, 0x400, 1, 0x0, 0x0E261CE7, 0x00000000, 0x1FFFFFFF, 0x00000000⟩,
  ⟨"GDC_SENSE", 0x4010000C, 28, 0x400, 1, 0x0, 0x00201828, 0x00000000, 0x003F3F3F, 0x00000000⟩,
  ⟨"GDC_TIME", 0x40100010, 28, 0x400, 1, 0x0, 0x3C3C0028, 0x00000000, 0xFFFF00FF, 0x00000000⟩,
  ⟨"GDC_STATUS", 0x40100020, 28, 0x400, 1, 0x0, 0x00000000, 0x00000000, 0x00000000, 0x00000000⟩,
  ⟨"GDC_FAULT", 0x40100024, 28, 0x400, 1, 0x0, 0x00000000, 0x00000000, 0x00000000, 0x00000000⟩,
  ⟨"GDC_TEST", 0x40100028, 28, 0x400, 1, 0x0, 0x00000000, 0x00000000, 0x00000000, 0x00000000⟩,
  ⟨"GDC_TESTRES", 0x4010002C, 28, 0x400, 1, 0x0, 0x00000000, 0x00000000, 0x00000000, 0x00000000⟩,
  ⟨"GDC_TCONF", 0x40100030, 28, 0x400, 1, 0x0, 0x00000000, 0x00000000, 0x00000000, 0x00000000⟩,
  ⟨"GDC_SET_SHOOT", 0x40107000, 4, 0x40, 1, 0x0, 0x00000000, 0x00000000, 0x00000000, 0x00000000⟩,
  ⟨"GDC_SET_FAULT", 0x40107004, 4, 0x40, 1, 0x0, 0x00000000, 0x00000000, 0x00000000, 0x00000000⟩]

/-- The register kinds of block PSP. -/
def psp : List RegRow := [
  ⟨"PSP_SC", 0x40120000, 4, 0x100, 1, 0x0, 0x000C0296, 0x00000000, 0x007F0FFF, 0x00000000⟩,
  ⟨"PSP_OC", 0x40120004, 4, 0x100, 1, 0x0, 0x000700C8, 0x00000000, 0x000700FF, 0x00000000⟩,
  ⟨"PSP_OV12", 0x40120008, 4, 0x100, 1, 0x0, 0x03520320, 0x00000000, 0x07FF07FF, 0x00000000⟩,
  ⟨"PSP_OV3UV", 0x4012000C, 4, 0x100, 1, 0x0, 0x03840190, 0x00000000, 0x07FF07FF, 0x00000000⟩,
  ⟨"PSP_CHOP", 0x40120010, 4, 0x100, 1, 0x0, 0x00140000, 0x00000000, 0x80FFFFFF, 0x00000000⟩,
  ⟨"PSP_CROSS", 0x40120014, 4, 0x100, 1, 0x0, 0x14140032, 0x00000000, 0xFFFF01FF, 0x00000000⟩,
  ⟨"PSP_KE", 0x40120018, 4, 0x100, 1, 0x0, 0x00000000, 0x00000000, 0x0000FFFF, 0x00000000⟩,
  ⟨"PSP_STATE", 0x40120020, 4, 0x100, 1, 0x0, 0x00000001, 0x00000000, 0x00000000, 0x00000000⟩,
  ⟨"PSP_FAULT", 0x40120024, 4, 0x100, 1, 0x0, 0x00000000, 0x00000000, 0x00000000, 0x00000000⟩,
  ⟨"PSP_CHOPST", 0x40120028, 4, 0x100, 1, 0x0, 0x00000000, 0x00000000, 0x00000000, 0x00000008⟩,
  ⟨"PSP_REQ", 0x40120800, 1, 0x0, 1, 0x0, 0x00000001, 0x00000000, 0x00000000, 0x00000000⟩]

/-- The register kinds of block PWM. -/
def pwm : List RegRow := [
  ⟨"PWM_CFG", 0x40140000, 4, 0x100, 1, 0x0, 0x400186A0, 0x00000000, 0xC007FFFE, 0x00000000⟩,
  ⟨"PWM_PHASE", 0x40140004, 4, 0x100, 1, 0x0, 0x00000000, 0x000000FF, 0x00000000, 0x00000000⟩,
  ⟨"PWM_SAMP", 0x40140008, 4, 0x100, 1, 0x0, 0x00080000, 0x00000000, 0x007F07FF, 0x00000000⟩,
  ⟨"PWM_WIN", 0x4014000C, 4, 0x100, 1, 0x0, 0x03980050, 0x00000000, 0x03FF01FF, 0x00000000⟩,
  ⟨"PWM_BOOT", 0x40140010, 4, 0x100, 1, 0x0, 0x00280078, 0x00000000, 0x03FF03FF, 0x00000000⟩,
  ⟨"PWM_STATUS", 0x40140020, 4, 0x100, 1, 0x0, 0x00000000, 0x00000000, 0x00000000, 0x00000000⟩,
  ⟨"PWM_CNT", 0x40140024, 4, 0x100, 1, 0x0, 0x00000000, 0x00000000, 0x00000000, 0x00000000⟩,
  ⟨"PWM_CMPR", 0x40140030, 4, 0x100, 3, 0x4, 0x00000000, 0x00000000, 0x00000000, 0x00000000⟩,
  ⟨"PWM_CMPF", 0x40140040, 4, 0x100, 3, 0x4, 0x00000000, 0x00000000, 0x00000000, 0x00000000⟩]

/-- The register kinds of block MFE. -/
def mfe : List RegRow := [
  ⟨"MFE_CFG", 0x40160000, 4, 0x100, 1, 0x0, 0x00140003, 0x00000000, 0x80FF0707, 0x00000000⟩,
  ⟨"MFE_FS", 0x40160004, 4, 0x100, 3, 0x4, 0x00001388, 0x00000000, 0x8000FFFF, 0x00000000⟩,
  ⟨"MFE_SHUNT", 0x40160010, 4, 0x100, 1, 0x0, 0x00000000, 0x00000000, 0x0000FFFF, 0x00000000⟩,
  ⟨"MFE_XC", 0x40160014, 4, 0x100, 1, 0x0, 0x10064032, 0x00000000, 0xFFFFFFFF, 0x00000000⟩,
  ⟨"MFE_LIM", 0x40160018, 4, 0x100, 1, 0x0, 0x080A0000, 0x00000000, 0xFFFF0000, 0x00000000⟩,
  ⟨"MFE_STATUS", 0x40160020, 4, 0x100, 1, 0x0, 0x00000000, 0x00000000, 0x00000000, 0x00000000⟩,
  ⟨"MFE_FAULT", 0x40160024, 4, 0x100, 1, 0x0, 0x00000000, 0x00000000, 0x00000000, 0x00000000⟩,
  ⟨"MFE_IPH", 0x40160030, 4, 0x100, 3, 0x4, 0x00000000, 0x00000000, 0x00000000, 0x00000000⟩,
  ⟨"MFE_VDC", 0x40160040, 4, 0x100, 1, 0x0, 0x00000000, 0x00000000, 0x00000000, 0x00000000⟩,
  ⟨"MFE_NTC", 0x40160044, 4, 0x100, 1, 0x0, 0x000FFFFF, 0x00000000, 0x00000000, 0x00000000⟩,
  ⟨"MFE_CNT", 0x40160048, 4, 0x100, 1, 0x0, 0x00000000, 0x00000000, 0x00000000, 0x00000000⟩,
  ⟨"MFE_SUPPLY", 0x40160800, 1, 0x0, 1, 0x0, 0x00000002, 0x00000000, 0x00000000, 0x00000000⟩]

/-- The register kinds of block LOOM. -/
def loom : List RegRow := [
  ⟨"LOOM_CFG", 0x40200000, 4, 0x10000, 1, 0x0, 0x000002C8, 0x00000000, 0x00000000, 0x00000000⟩,
  ⟨"LOOM_STATUS", 0x40200004, 4, 0x10000, 1, 0x0, 0x00000000, 0x00000000, 0x00000000, 0x00000000⟩,
  ⟨"LOOM_FAULT", 0x40200008, 4, 0x10000, 1, 0x0, 0x00000000, 0x00000000, 0x00000000, 0x00000000⟩,
  ⟨"LOOM_ECC", 0x4020000C, 4, 0x10000, 1, 0x0, 0x00000000, 0x00000000, 0x00000000, 0x00000000⟩,
  ⟨"LOOM_TIME", 0x40200040, 4, 0x10000, 1, 0x0, 0x00000000, 0x00000000, 0x00000000, 0x00000000⟩,
  ⟨"LOOM_CNT", 0x40200044, 4, 0x10000, 1, 0x0, 0x00000000, 0x00000000, 0x00000000, 0x00000000⟩,
  ⟨"LOOM_IDREF", 0x40200010, 4, 0x10000, 1, 0x0, 0x00000000, 0x00000000, 0x00000000, 0x00000000⟩,
  ⟨"LOOM_IQREF", 0x40200014, 4, 0x10000, 1, 0x0, 0x00000000, 0x00000000, 0x00000000, 0x00000000⟩,
  ⟨"LOOM_ID", 0x40200018, 4, 0x10000, 1, 0x0, 0x00000000, 0x00000000, 0x00000000, 0x00000000⟩,
  ⟨"LOOM_IQ", 0x4020001C, 4, 0x10000, 1, 0x0, 0x00000000, 0x00000000, 0x00000000, 0x00000000⟩,
  ⟨"LOOM_VD", 0x40200020, 4, 0x10000, 1, 0x0, 0x00000000, 0x00000000, 0x00000000, 0x00000000⟩,
  ⟨"LOOM_VQ", 0x40200024, 4, 0x10000, 1, 0x0, 0x00000000, 0x00000000, 0x00000000, 0x00000000⟩,
  ⟨"LOOM_TE", 0x40200028, 4, 0x10000, 1, 0x0, 0x00000000, 0x00000000, 0x00000000, 0x00000000⟩,
  ⟨"LOOM_TL", 0x4020002C, 4, 0x10000, 1, 0x0, 0x00000000, 0x00000000, 0x00000000, 0x00000000⟩,
  ⟨"LOOM_DID", 0x40200030, 4, 0x10000, 1, 0x0, 0x00000000, 0x00000000, 0x00000000, 0x00000000⟩,
  ⟨"LOOM_PSIR", 0x40200034, 4, 0x10000, 1, 0x0, 0x00000000, 0x00000000, 0x00000000, 0x00000000⟩,
  ⟨"LOOM_BAL", 0x40200038, 4, 0x10000, 1, 0x0, 0x00000000, 0x00000000, 0x00000000, 0x00000000⟩,
  ⟨"LOOM_CMD", 0x40200048, 4, 0x10000, 1, 0x0, 0x00000000, 0x00000000, 0x00000000, 0x00000000⟩]

/-- The register kinds of block POS. -/
def pos : List RegRow := [
  ⟨"POS_CFG", 0x40300000, 4, 0x100, 1, 0x0, 0x01000000, 0x00000000, 0x00000000, 0x00000000⟩,
  ⟨"POS_STATUS", 0x40300004, 4, 0x100, 1, 0x0, 0x00000000, 0x00000000, 0x00000000, 0x00000000⟩,
  ⟨"POS_FAULT", 0x40300008, 4, 0x100, 1, 0x0, 0x00000000, 0x00000000, 0x00000000, 0x00000000⟩,
  ⟨"POS_ANGLE", 0x4030000C, 4, 0x100, 1, 0x0, 0x00000000, 0x00000000, 0x00000000, 0x00000000⟩,
  ⟨"POS_SPEED", 0x40300010, 4, 0x100, 1, 0x0, 0x00000000, 0x00000000, 0x00000000, 0x00000000⟩,
  ⟨"POS_START", 0x40300014, 4, 0x100, 1, 0x0, 0x00000000, 0x00000000, 0x00000000, 0x00000000⟩,
  ⟨"POS_MAP", 0x40300018, 4, 0x100, 1, 0x0, 0x00000000, 0x00000000, 0x00000000, 0x00000000⟩,
  ⟨"POS_CNT", 0x4030001C, 4, 0x100, 1, 0x0, 0x00000000, 0x00000000, 0x00000000, 0x00000000⟩,
  ⟨"POS_CMD", 0x40300020, 4, 0x100, 1, 0x0, 0x00000000, 0x00000000, 0x00000000, 0x00000000⟩]

/-- The register kinds of block SPD. -/
def spd : List RegRow := [
  ⟨"SPD_CFG", 0x40340000, 4, 0x100, 1, 0x0, 0x00000005, 0x00000000, 0x00000000, 0x00000000⟩,
  ⟨"SPD_STATE", 0x40340004, 4, 0x100, 1, 0x0, 0x00000000, 0x00000000, 0x00000000, 0x00000000⟩,
  ⟨"SPD_FAULT", 0x40340008, 4, 0x100, 1, 0x0, 0x00000000, 0x00000000, 0x00000000, 0x00000000⟩,
  ⟨"SPD_NCMD", 0x40340010, 4, 0x100, 1, 0x0, 0x00000000, 0x00000000, 0x00000000, 0x00000000⟩,
  ⟨"SPD_NREF", 0x40340014, 4, 0x100, 1, 0x0, 0x00000000, 0x00000000, 0x00000000, 0x00000000⟩,
  ⟨"SPD_NACT", 0x40340018, 4, 0x100, 1, 0x0, 0x00000000, 0x00000000, 0x00000000, 0x00000000⟩,
  ⟨"SPD_TREF", 0x4034001C, 4, 0x100, 1, 0x0, 0x00000000, 0x00000000, 0x00000000, 0x00000000⟩,
  ⟨"SPD_TLPOS", 0x40340020, 4, 0x100, 1, 0x0, 0x00000000, 0x00000000, 0x00000000, 0x00000000⟩,
  ⟨"SPD_TLNEG", 0x40340024, 4, 0x100, 1, 0x0, 0x00000000, 0x00000000, 0x00000000, 0x00000000⟩,
  ⟨"SPD_HEAVE", 0x40340028, 4, 0x100, 1, 0x0, 0x00000000, 0x00000000, 0x00000000, 0x00000000⟩,
  ⟨"SPD_FACT", 0x4034002C, 4, 0x100, 1, 0x0, 0x3E8FA3E8, 0x00000000, 0x00000000, 0x00000000⟩,
  ⟨"SPD_CNT", 0x40340030, 4, 0x100, 1, 0x0, 0x00000000, 0x00000000, 0x00000000, 0x00000000⟩,
  ⟨"SPD_LAST", 0x40340034, 4, 0x100, 1, 0x0, 0x00000000, 0x00000000, 0x00000000, 0x00000000⟩]

/-- The register kinds of block LSH. -/
def lsh : List RegRow := [
  ⟨"LSH_CFG", 0x40380000, 4, 0x100, 1, 0x0, 0x60000000, 0x00000000, 0x00000000, 0x00000000⟩,
  ⟨"LSH_GROUP", 0x40380004, 4, 0x100, 1, 0x0, 0x00000000, 0x00000000, 0x00000000, 0x00000000⟩,
  ⟨"LSH_TIME", 0x40380008, 4, 0x100, 1, 0x0, 0x06410014, 0x00000000, 0x00000000, 0x00000000⟩,
  ⟨"LSH_STATE", 0x4038000C, 4, 0x100, 1, 0x0, 0x00000000, 0x00000000, 0x00000000, 0x00000000⟩,
  ⟨"LSH_MAP", 0x40380010, 4, 0x100, 1, 0x0, 0x00000000, 0x00000000, 0x00000000, 0x00000000⟩,
  ⟨"LSH_CNT", 0x40380014, 4, 0x100, 1, 0x0, 0x00000000, 0x00000000, 0x00000000, 0x00000000⟩,
  ⟨"LSH_REFUSE", 0x40380018, 4, 0x100, 1, 0x0, 0x00000000, 0x00000000, 0x00000000, 0x00000000⟩,
  ⟨"LSH_TM", 0x40380020, 4, 0x100, 1, 0x0, 0x00000000, 0x00000000, 0x00000000, 0x00000000⟩,
  ⟨"LSH_SHARE", 0x40380024, 4, 0x100, 1, 0x0, 0x00000000, 0x00000000, 0x00000000, 0x00000000⟩,
  ⟨"LSH_KCAP", 0x40380028, 4, 0x100, 1, 0x0, 0x00000000, 0x00000000, 0x00000000, 0x00000000⟩,
  ⟨"LSH_TEAX", 0x4038002C, 4, 0x100, 1, 0x0, 0x00000000, 0x00000000, 0x00000000, 0x00000000⟩,
  ⟨"LSH_W", 0x40380800, 4, 0x4, 1, 0x0, 0x000003E8, 0x00000000, 0x00000000, 0x00000000⟩]

/-- The register kinds of block FBI. -/
def fbi : List RegRow := [
  ⟨"FBI_CFG", 0x40400000, 4, 0x100, 1, 0x0, 0x081954C2, 0x00000000, 0xFFBFFFFF, 0x00000000⟩,
  ⟨"FBI_CPT", 0x40400004, 4, 0x100, 1, 0x0, 0x00000000, 0x00000000, 0xFFFFFFFF, 0x00000000⟩,
  ⟨"FBI_SOFTMIN", 0x40400008, 4, 0x100, 1, 0x0, 0x80000000, 0x00000000, 0xFFFFFFFF, 0x00000000⟩,
  ⟨"FBI_SOFTMAX", 0x4040000C, 4, 0x100, 1, 0x0, 0x7FFFFFFF, 0x00000000, 0xFFFFFFFF, 0x00000000⟩,
  ⟨"FBI_SER", 0x40400010, 4, 0x100, 1, 0x0, 0x0914000F, 0x00000000, 0xFFFFFFFF, 0x00000000⟩,
  ⟨"FBI_RES", 0x40400014, 4, 0x100, 1, 0x0, 0x286413E8, 0x00000000, 0xFFFFFFFF, 0x00000000⟩,
  ⟨"FBI_AMP", 0x40400018, 4, 0x100, 1, 0x0, 0x0415E096, 0x00000000, 0xFFFFFFFF, 0x00000000⟩,
  ⟨"FBI_JUMP", 0x4040001C, 4, 0x100, 1, 0x0, 0x00000000, 0x00000000, 0xFFFFFFFF, 0x00000000⟩,
  ⟨"FBI_STATUS", 0x40400020, 4, 0x100, 1, 0x0, 0x00000000, 0x00000000, 0x00000000, 0x00000000⟩,
  ⟨"FBI_FAULT", 0x40400024, 4, 0x100, 1, 0x0, 0x00000000, 0x00000000, 0x00000000, 0x00000000⟩,
  ⟨"FBI_POS", 0x40400028, 4, 0x100, 1, 0x0, 0x00000000, 0x00000000, 0x00000000, 0x00000000⟩,
  ⟨"FBI_TURN", 0x4040002C, 4, 0x100, 1, 0x0, 0x00000000, 0x00000000, 0x00000000, 0x00000000⟩,
  ⟨"FBI_SPEED", 0x40400030, 4, 0x100, 1, 0x0, 0x00000000, 0x00000000, 0x00000000, 0x00000000⟩,
  ⟨"FBI_DELTA", 0x40400034, 4, 0x100, 1, 0x0, 0x00000000, 0x00000000, 0x00000000, 0x00000000⟩,
  ⟨"FBI_ZCAP", 0x40400038, 4, 0x100, 1, 0x0, 0x00000000, 0x00000000, 0x00000000, 0x00000000⟩,
  ⟨"FBI_PRESET", 0x4040003C, 4, 0x100, 1, 0x0, 0x00000000, 0xFFFFFFFF, 0x00000000, 0x00000000⟩,
  ⟨"FBI_CNT", 0x40400044, 4, 0x100, 1, 0x0, 0x00000000, 0x00000000, 0x00000000, 0x00000000⟩,
  ⟨"FBI_CTRL", 0x40400040, 4, 0x100, 1, 0x0, 0x00000000, 0x00000000, 0x00000000, 0x00000000⟩,
  ⟨"FBI_CMP", 0x40400050, 4, 0x100, 1, 0x0, 0x00000000, 0xFFFFFFFF, 0x00000000, 0x00000000⟩,
  ⟨"FBI_CMPSP", 0x40400054, 4, 0x100, 1, 0x0, 0x00000000, 0xFFFFFFFF, 0x00000000, 0x00000000⟩,
  ⟨"FBI_CMPCFG", 0x40400058, 4, 0x100, 1, 0x0, 0x0000000A, 0xE00000FF, 0x00000000, 0x00000000⟩,
  ⟨"FBI_CMPST", 0x4040005C, 4, 0x100, 1, 0x0, 0x00000000, 0x00000000, 0x00000000, 0x00000000⟩,
  ⟨"FBI_CMPT_LO", 0x40400060, 4, 0x100, 1, 0x0, 0x00000000, 0x00000000, 0x00000000, 0x00000000⟩,
  ⟨"FBI_CMPT_HI", 0x40400064, 4, 0x100, 1, 0x0, 0x00000000, 0x00000000, 0x00000000, 0x00000000⟩]

/-- The register kinds of block PT. -/
def pt : List RegRow := [
  ⟨"PT_CFG", 0x40400800, 4, 0x20, 1, 0x0, 0x00000400, 0x00000000, 0xF81FFFFF, 0x00000000⟩,
  ⟨"PT_EMU", 0x40400804, 4, 0x20, 1, 0x0, 0x00400008, 0x00000000, 0xFFFF00FF, 0x00000000⟩,
  ⟨"PT_STATUS", 0x40400808, 4, 0x20, 1, 0x0, 0x00000000, 0x00000000, 0x00000000, 0x00000002⟩]

/-- The register kinds of block PRG. -/
def prg : List RegRow := [
  ⟨"PRG_STATE", 0x40440000, 8, 0x100, 1, 0x0, 0x00000000, 0x00000000, 0x00000000, 0x00000000⟩,
  ⟨"PRG_TARGET", 0x40440004, 8, 0x100, 1, 0x0, 0x00000000, 0x00000000, 0x00000000, 0x00000000⟩,
  ⟨"PRG_PPROF", 0x40440008, 8, 0x100, 1, 0x0, 0x00000000, 0x00000000, 0x00000000, 0x00000000⟩,
  ⟨"PRG_VPROF", 0x4044000C, 8, 0x100, 1, 0x0, 0x00000000, 0x00000000, 0x00000000, 0x00000000⟩,
  ⟨"PRG_DEV", 0x40440010, 8, 0x100, 1, 0x0, 0x00000000, 0x00000000, 0x00000000, 0x00000000⟩,
  ⟨"PRG_COUNT", 0x40440020, 8, 0x100, 1, 0x0, 0x00000000, 0x00000000, 0x00000000, 0x00000000⟩,
  ⟨"PRG_LAG", 0x40440024, 8, 0x100, 1, 0x0, 0x00000000, 0x00000000, 0x00000000, 0x00000000⟩,
  ⟨"PRG_CTRL", 0x40440028, 8, 0x100, 1, 0x0, 0x00000000, 0x00000000, 0x00000000, 0x00000000⟩,
  ⟨"PRG_PRESET", 0x4044002C, 8, 0x100, 1, 0x0, 0x00000000, 0xFFFFFFFF, 0x00000000, 0x00000000⟩]

/-- The register kinds of block SFI. -/
def sfi : List RegRow := [
  ⟨"SFI_STATUS", 0x40500000, 1, 0x0, 1, 0x0, 0x00000008, 0x00000000, 0x00000000, 0x00000000⟩,
  ⟨"SFI_SEAL", 0x40500010, 1, 0x0, 1, 0x0, 0x00000000, 0x00000000, 0x00000000, 0x00000000⟩,
  ⟨"SFI_STAGE", 0x40500014, 1, 0x0, 1, 0x0, 0x00000000, 0x00000000, 0x00000000, 0x00000000⟩,
  ⟨"SFI_SEALINFO", 0x40500018, 1, 0x0, 1, 0x0, 0x00000000, 0x00000000, 0x00000000, 0x00000000⟩,
  ⟨"SFI_AX_STATE", 0x40500100, 4, 0x40, 1, 0x0, 0x00000000, 0x00000000, 0x00000000, 0x00000000⟩,
  ⟨"SFI_AX_FAULT", 0x40500104, 4, 0x40, 1, 0x0, 0x00000000, 0x00000000, 0x00000000, 0x00000000⟩,
  ⟨"SFI_AX_NSAFE", 0x40500108, 4, 0x40, 1, 0x0, 0x00000000, 0x00000000, 0x00000000, 0x00000000⟩,
  ⟨"SFI_AX_HSAFE", 0x4050010C, 4, 0x40, 1, 0x0, 0x00000000, 0x00000000, 0x00000000, 0x00000000⟩,
  ⟨"SFI_SI_STATE", 0x40500200, 1, 0x0, 1, 0x0, 0x00000000, 0x00000000, 0x00000000, 0x00000000⟩,
  ⟨"SFI_SI_FAULT", 0x40500204, 1, 0x0, 1, 0x0, 0x00000000, 0x00000000, 0x00000000, 0x00000000⟩,
  ⟨"SFI_SO_STATE", 0x40500280, 1, 0x0, 1, 0x0, 0x00000000, 0x00000000, 0x00000000, 0x00000000⟩,
  ⟨"SFI_SO_FAULT", 0x40500284, 1, 0x0, 1, 0x0, 0x00000000, 0x00000000, 0x00000000, 0x00000000⟩,
  ⟨"SFI_SC_STATE", 0x40500400, 32, 0x10, 1, 0x0, 0x00000000, 0x00000000, 0x00000000, 0x00000000⟩,
  ⟨"SFI_SC_CNT", 0x40500404, 32, 0x10, 1, 0x0, 0x00000000, 0x00000000, 0x00000000, 0x00000000⟩,
  ⟨"SFI_SC_RX", 0x40500408, 32, 0x10, 1, 0x0, 0x00000000, 0x00000000, 0x00000000, 0x00000000⟩]

/-- The register kinds of block HIF. R512 places the MSI-X table and the pending bits; their fields are those of
PCI Express (log entry 21). -/
def hif : List RegRow := [
  ⟨"HIF_CFG", 0x40600000, 1, 0x0, 1, 0x0, 0x00000FFE, 0xCF00FFFF, 0x00000000, 0x00000000⟩,
  ⟨"HIF_STATUS", 0x40600004, 1, 0x0, 1, 0x0, 0x00000000, 0x00000000, 0x00000000, 0x00000000⟩,
  ⟨"HIF_CNT", 0x40600008, 1, 0x0, 1, 0x0, 0x00000000, 0x00000000, 0x00000000, 0x00000000⟩,
  ⟨"HIF_SQ_BASE_LO", 0x40600100, 16, 0x20, 1, 0x0, 0x00000000, 0xFFFFF000, 0x00000000, 0x00000000⟩,
  ⟨"HIF_SQ_BASE_HI", 0x40600104, 16, 0x20, 1, 0x0, 0x00000000, 0xFFFFFFFF, 0x00000000, 0x00000000⟩,
  ⟨"HIF_SQ_CFG", 0x40600108, 16, 0x20, 1, 0x0, 0x00000004, 0xC00F000F, 0x00000000, 0x00000000⟩,
  ⟨"HIF_SQ_PTR", 0x4060010C, 16, 0x20, 1, 0x0, 0x00000000, 0x00000000, 0x00000000, 0x00000000⟩,
  ⟨"HIF_SQ_STAT", 0x40600110, 16, 0x20, 1, 0x0, 0x00000000, 0x00000000, 0x00000000, 0x00000000⟩,
  ⟨"HIF_CQ_BASE_LO", 0x40600300, 16, 0x20, 1, 0x0, 0x00000000, 0xFFFFF000, 0x00000000, 0x00000000⟩,
  ⟨"HIF_CQ_BASE_HI", 0x40600304, 16, 0x20, 1, 0x0, 0x00000000, 0xFFFFFFFF, 0x00000000, 0x00000000⟩,
  ⟨"HIF_CQ_CFG", 0x40600308, 16, 0x20, 1, 0x0, 0x00000014, 0xC81FFFFF, 0x00000000, 0x00000000⟩,
  ⟨"HIF_CQ_PTR", 0x4060030C, 16, 0x20, 1, 0x0, 0x00000000, 0x00000000, 0x00000000, 0x00000000⟩,
  ⟨"HIF_CQ_STAT", 0x40600310, 16, 0x20, 1, 0x0, 0x00000000, 0x00000000, 0x00000000, 0x00000000⟩,
  ⟨"MSIX_ADDR_LO", 0x4060F000, 32, 0x10, 1, 0x0, 0x00000000, 0xFFFFFFFC, 0x00000000, 0x00000000⟩,
  ⟨"MSIX_ADDR_HI", 0x4060F004, 32, 0x10, 1, 0x0, 0x00000000, 0xFFFFFFFF, 0x00000000, 0x00000000⟩,
  ⟨"MSIX_DATA", 0x4060F008, 32, 0x10, 1, 0x0, 0x00000000, 0xFFFFFFFF, 0x00000000, 0x00000000⟩,
  ⟨"MSIX_CTRL", 0x4060F00C, 32, 0x10, 1, 0x0, 0x00000001, 0x00000001, 0x00000000, 0x00000000⟩,
  ⟨"MSIX_PBA", 0x4060F800, 1, 0x0, 1, 0x0, 0x00000000, 0x00000000, 0x00000000, 0x00000000⟩]

/-- The register kinds of block DBL. -/
def dbl : List RegRow := [
  ⟨"DBL_SQ_TAIL", 0x40800000, 16, 0x1000, 1, 0x0, 0x00000000, 0x00000000, 0x00000000, 0x00000000⟩,
  ⟨"DBL_CQ_HEAD", 0x40800800, 16, 0x1000, 1, 0x0, 0x00000000, 0x00000000, 0x00000000, 0x00000000⟩]

/-- The register kinds of block WFT. -/
def wft : List RegRow := [
  ⟨"WFT_NODE", 0x40700000, 1, 0x0, 1, 0x0, 0x00000000, 0x00000000, 0x00000000, 0x00000000⟩,
  ⟨"WFT_UID_LO", 0x40700004, 1, 0x0, 1, 0x0, 0x00000000, 0x00000000, 0x00000000, 0x00000000⟩,
  ⟨"WFT_UID_HI", 0x40700008, 1, 0x0, 1, 0x0, 0x00000000, 0x00000000, 0x00000000, 0x00000000⟩,
  ⟨"WFT_SYNC", 0x4070000C, 1, 0x0, 1, 0x0, 0x00000000, 0x00000000, 0x00000000, 0x00000000⟩,
  ⟨"WFT_OFFSET", 0x40700010, 1, 0x0, 1, 0x0, 0x00000000, 0x00000000, 0x00000000, 0x00000000⟩,
  ⟨"WFT_CTX", 0x40700014, 1, 0x0, 1, 0x0, 0x00000000, 0x00000000, 0x00000000, 0x00000000⟩,
  ⟨"WFT_ROUTE_SEL", 0x40700018, 1, 0x0, 1, 0x0, 0x00000000, 0x000000FF, 0x00000000, 0x00000000⟩,
  ⟨"WFT_ROUTE", 0x4070001C, 1, 0x0, 1, 0x0, 0x00000010, 0x00000000, 0x00000000, 0x00000000⟩,
  ⟨"WFT_CNT", 0x40700020, 1, 0x0, 1, 0x0, 0x00000000, 0x00000000, 0x00000000, 0x00000000⟩,
  ⟨"WFT_CNT2", 0x40700024, 1, 0x0, 1, 0x0, 0x00000000, 0x00000000, 0x00000000, 0x00000000⟩,
  ⟨"WFT_P_STATE", 0x40700100, 4, 0x40, 1, 0x0, 0x00000000, 0x00000000, 0x00000000, 0x00000000⟩,
  ⟨"WFT_P_PEER_LO", 0x40700104, 4, 0x40, 1, 0x0, 0x00000000, 0x00000000, 0x00000000, 0x00000000⟩,
  ⟨"WFT_P_PEER_HI", 0x40700108, 4, 0x40, 1, 0x0, 0x00000000, 0x00000000, 0x00000000, 0x00000000⟩,
  ⟨"WFT_P_DELAY", 0x4070010C, 4, 0x40, 1, 0x0, 0x00000000, 0x00000000, 0x00000000, 0x00000000⟩,
  ⟨"WFT_P_ERR", 0x40700110, 4, 0x40, 1, 0x0, 0x00000000, 0x00000000, 0x00000000, 0x00000000⟩,
  ⟨"WFT_P_UTIL", 0x40700114, 4, 0x40, 1, 0x0, 0x00000000, 0x00000000, 0x00000000, 0x00000000⟩]

/-- The register kinds of block CAN. -/
def can : List RegRow := [
  ⟨"CAN_CFG", 0x40780000, 4, 0x1000, 1, 0x0, 0x00000000, 0xFE000000, 0x00000000, 0x00000000⟩,
  ⟨"CAN_NBT", 0x40780004, 4, 0x1000, 1, 0x0, 0x007E3E1F, 0xF8FFFE7F, 0x00000000, 0x00000000⟩,
  ⟨"CAN_DBT", 0x40780008, 4, 0x1000, 1, 0x0, 0x001C9900, 0xF81FFFFF, 0x00000000, 0x00000000⟩,
  ⟨"CAN_STATUS", 0x4078000C, 4, 0x1000, 1, 0x0, 0x00000003, 0x00000000, 0x00000000, 0x00000000⟩,
  ⟨"CAN_CNT", 0x40780010, 4, 0x1000, 1, 0x0, 0x00000000, 0x00000000, 0x00000000, 0x00000000⟩,
  ⟨"CAN_CLASHID", 0x40780014, 4, 0x1000, 1, 0x0, 0x00000000, 0x00000000, 0x00000000, 0x00000000⟩,
  ⟨"CAN_TXCTRL", 0x40780018, 4, 0x1000, 1, 0x0, 0x00000000, 0x00000000, 0x00000000, 0x00000000⟩,
  ⟨"CAN_TXST", 0x4078001C, 4, 0x1000, 1, 0x0, 0x00000000, 0x00000000, 0x00000000, 0x00000700⟩,
  ⟨"CAN_RXST", 0x40780020, 4, 0x1000, 1, 0x0, 0x00000000, 0x00000000, 0x00000000, 0x00000000⟩,
  ⟨"CAN_RXCTRL", 0x40780024, 4, 0x1000, 1, 0x0, 0x00000000, 0x00000000, 0x00000000, 0x00000000⟩,
  ⟨"CAN_RX_ID", 0x40780040, 4, 0x1000, 1, 0x0, 0x00000000, 0x00000000, 0x00000000, 0x00000000⟩,
  ⟨"CAN_RX_CTL", 0x40780044, 4, 0x1000, 1, 0x0, 0x00000000, 0x00000000, 0x00000000, 0x00000000⟩,
  ⟨"CAN_RX_TIME", 0x40780048, 4, 0x1000, 1, 0x0, 0x00000000, 0x00000000, 0x00000000, 0x00000000⟩,
  ⟨"CAN_RX_DATA", 0x4078004C, 4, 0x1000, 16, 0x4, 0x00000000, 0x00000000, 0x00000000, 0x00000000⟩,
  ⟨"CAN_FILT_ID", 0x40780100, 4, 0x1000, 32, 0x8, 0x00000000, 0xFFFFFFFF, 0x00000000, 0x00000000⟩,
  ⟨"CAN_FILT_MASK", 0x40780104, 4, 0x1000, 32, 0x8, 0x00000000, 0xDFFFFFFF, 0x00000000, 0x00000000⟩]

/-- The register kinds of block SVC. -/
def svc : List RegRow := [
  ⟨"SVC_STATUS", 0x407C0000, 1, 0x0, 1, 0x0, 0x00000000, 0x00000000, 0x00000000, 0x00000000⟩,
  ⟨"SVC_JSEQ", 0x407C0004, 1, 0x0, 1, 0x0, 0x00000000, 0x00000000, 0x00000000, 0x00000000⟩,
  ⟨"SVC_JSTAT", 0x407C0008, 1, 0x0, 1, 0x0, 0x00000000, 0x00000000, 0x00000000, 0x00000000⟩]

end RegTable

/-- Every register kind of the device, block by block (R631). -/
def regTable : List RegRow :=
  RegTable.sys ++
  RegTable.thm ++
  RegTable.bst ++
  RegTable.lck ++
  RegTable.pmu ++
  RegTable.gdc ++
  RegTable.psp ++
  RegTable.pwm ++
  RegTable.mfe ++
  RegTable.loom ++
  RegTable.pos ++
  RegTable.spd ++
  RegTable.lsh ++
  RegTable.fbi ++
  RegTable.pt ++
  RegTable.prg ++
  RegTable.sfi ++
  RegTable.hif ++
  RegTable.dbl ++
  RegTable.wft ++
  RegTable.can ++
  RegTable.svc

/-- Whether a register kind has an instance at an address. -/
def RegRow.covers (r : RegRow) (a : Nat) : Bool :=
  let off := a - r.base
  let i := if r.stride1 = 0 then 0 else off / r.stride1
  let rest := off - i * r.stride1
  let j := if r.stride2 = 0 then 0 else rest / r.stride2
  decide (r.base ≤ a) && decide (i < r.n1) && decide (j < r.n2) && decide (rest = j * r.stride2)

/-- The register kind assigned to an address, if any (R627: every other address reads 0 and ignores writes). -/
def regRow (a : Nat) : Option RegRow := regTable.find? (·.covers a)

/-- The reset value of the register at an address; an unassigned address reads 0 (R627). -/
def resetWord (a : Nat) : Word :=
  match regRow a with
  | some r => r.reset
  | none => 0

end Sys2Proof.Machine
end

