-- ==== Sys2Proof/Machine/State.lean ====
section
/-! DEFINITION. The state of the EW12-A7 as plain data: the addressed registers (their documented fields have their
one home there), the parameters, and per block the state that no register shows but the rules need; then the reasons
a command can stop, and the state after reset. -/

namespace Sys2Proof.Machine

/-! ## Register and parameter banks -/

/-- A bank of 32-bit words by key, in canonical form: keys strictly rising, and no entry that equals what an
unlisted key reads as (log entry 1). Registers are keyed by address (R626), parameters by `paramKey` (R640). -/
abbrev Bank := List (Nat × Word)

/-- System SRAM and the other addressed bytes the device holds, as (address, byte) pairs in canonical form. -/
abbrev Memory := List Host.Cell

/-! ## Device modes and supplies (chapters 01 to 04, 24) -/

/-- The eight device modes of R76. -/
inductive Mode where
  | deepNight | night | dawn | ready | run | hold | service | dusk
deriving DecidableEq, Repr

/-- Where the common lock-out stands (R58 to R60); off in NIGHT and DEEP NIGHT, where only the Night domain is
supplied (R76). -/
inductive Lockout where
  | released | flushing | filtering | off
deriving DecidableEq, Repr

/-- The topologies of R3. -/
inductive Topology where
  | q4 | d2 | m1 | p1
deriving DecidableEq, Repr

/-- A stored profile (R92, R641): its parameters, topology and axis classes (bit a of `classW`: AX_a is class W),
its seal with the seal count and the RTC time of
sealing (R451), and whether its stored CRC and its seal check out. An empty slot holds nothing. -/
structure Profile where
  stored   : Bool
  crcOk    : Bool
  sealed   : Bool
  sealCrc  : Word
  seals    : Nat
  sealTime : Word
  topology : Topology
  classW   : BitVec 4
  params   : Bank
deriving DecidableEq, Repr

/-- One firmware image in flash (R90, R535): its security version, and whether a broken-off write left it partly
written. -/
structure Image where
  partly   : Bool
  svn      : BitVec 16
deriving DecidableEq, Repr

/-- State of the device modes, supplies and Dawn that no register of the spec holds. -/
structure Sys where
  lockout      : Lockout
  vinPresent   : Bool               -- +24V present (R60, R77)
  wakeLatched  : Option (BitVec 2)  -- a wake that met the entry to NIGHT (R82), as PMU_NIGHT.WAKE codes it
  nightOnVbat  : Bool               -- NIGHT runs on VBAT (R76, R82)
  inReset      : Bool               -- the device is held in reset (R40, R50, R60)
  resetReq     : Option (BitVec 8)  -- start cause of an accepted reset that has not started (R605, R634)
  startCause   : BitVec 8           -- start cause of the coming Dawn (R635)
  dawnCount    : Word               -- Dawns since manufacture (R609)
  pllTries     : Nat                -- PLLs whose first attempt has failed: bit 0 400 MHz, bit 1 800 MHz (R85)
  imageTry     : Option Bool        -- image under check by the boot ROM, A = false (R90)
  pairStarted  : BitVec 4           -- pairs whose firmware has reported itself started (R91)
  sectionsDone : BitVec 4           -- pairs whose boot section is complete (R492)
  islandsUp    : BitVec 4           -- sets whose island group has started (R87, R158)
  profileLoaded : Bool              -- step 0x09 has been passed in this Dawn (R158)
  stoInputsDeferred : Bool          -- the input-stage part of the STO path test has been deferred (R93)
  stoSetDeferred  : BitVec 4        -- sets whose STO path test is deferred (R645)
  active       : Option (Fin 4)     -- active profile (R92)
  workFrom     : Fin 4              -- slot the working copy comes from (R641)
  refreshDue   : Bool               -- the Dawn refresh check waits for the RTC (R83)
  flashBusy    : Option FlashOp     -- flash operation in progress (R74, R494, R535)
  preferFlash  : Bool               -- flash boot record (R103)
  record       : Bank               -- device record as stored in flash (R641)
  refreshAt    : Vector Word 6      -- RTC time of the last refresh of image A, image B and the four slots (R74)
  imageOk      : Bool               -- an image has been loaded in this Dawn (R90)
  oldMode      : Mode               -- mode before the reset, for the unsolicited console line (R611)
  resetLow     : Bool               -- RESET_N is held low (R40)
  rtcNs        : Nat                -- nanoseconds since the last RTC second (R637)
  poweredNs    : Nat                -- nanoseconds of powered time (R83, R500)
  wakeNs       : Nat                -- nanoseconds the wake timer has run (R638)
  rtcSet       : Option Word        -- a count written that waits for the next tick of the RTC (R637)
  vbatNs       : Nat                -- nanoseconds in NIGHT on VBAT (R77)
  testNs       : Nat                -- nanoseconds of the present day of the STO path test's age (R435)
  pinsHighZ    : Bool               -- outputs in the state of R50, FAULT_N aside while the device is awake (R53, R54, R95)
  nightDead    : Bool               -- the Night domain has lost its contents and has no supply (R646)
  refreshWant  : BitVec 6           -- units a refresh check found due and not yet refreshed (R74, R83)
  journalChecked : Bool             -- slot 2 has ended with the journal's check passed (R88, R95)
  readied      : Bool               -- READY has been reached since the lock-out release (R53)
  dawnNs       : Nat                -- nanoseconds from the zero event of Dawn to now or to its failure (R86, R97)
deriving DecidableEq, Repr

/-! ## Event journal, console (chapter 22) -/

/-- One journal entry (R606) before SEQ and CHECK are written: code, unit, flags, Weft time, RTC and data words. -/
structure JEntry where
  code  : BitVec 16
  unit  : Byte
  hw    : Bool
  rtcValid : Bool
  mode  : Mode
  wtime : Time
  rtc   : Word
  d0    : Word
  d1    : Word
deriving DecidableEq, Repr

/-- The journal: the controller's queue (oldest first, R607) and the entries written, newest first, each with its
SEQ (R606; at most 4,096). `lostNow` counts the entries not yet reported by a JOURNAL_LOST entry. -/
structure Journal where
  queue   : List JEntry
  entries : List (Word × JEntry)
  lostNow : Nat
deriving DecidableEq, Repr

/-- A line of a console response (R611): named values, the final line, or an unsolicited line. -/
inductive Line where
  | data (items : List (String × Int))
  | entry (seq : Word) (e : JEntry)
  | ok
  | err (word : String)
  | status (code : Nat)                      -- ERR with a status of R531
  | modeLine (m : Mode)
  | dawnFail (cause unit step t : Nat)         -- t in units of 0.1 ms (R97)
  | echo (c : Byte)
deriving DecidableEq, Repr

/-- A gate-switching test of R616 with what its reply needs: the gate channel and the length of gdc pulse in µs, the
half-bridge of gdc dead with the transitions already started and the powered time of the first in ns, the duties of pwm run, the
step current of chop test in A, the inductances that pos inj finds in H, the port of fbi cmp with its value and spacing, the channel and steps of prg jog. -/
inductive GateTestKind where
  | gdcPulse (n : Fin 28) (us : Nat)
  | gdcDead (h : Fin 12) (stage : Fin 3) (t0 : Nat)
  | pwmRun (du dv dw : Rat)
  | chopTest (step : Rat)
  | posInj (a : Fin 4) (ldh lqh : Rat)
  | fbiCmp (n : Fin 4) (value spacing : Word)
  | prgJog (c : Fin 8) (n : Int)
deriving DecidableEq, Repr

/-- A complete console line in the input buffer: its characters, or what it is answered with instead of being executed
(R610) and how many of its characters the buffer holds. -/
inductive ConLine where
  | text (l : List Byte)
  | bad (word : String) (n : Nat)
deriving DecidableEq, Repr

/-- The console beyond SVC_STATUS: the line being typed, the lines waiting, the flags of R610, the quantity selected, the
running test and whether it has begun (R29), whether a command is running (R610), the gate self-test it waits for, the ports of fbi watch and of wft reinit, and what was sent
(newest last). -/
structure Console where
  line     : List Byte
  waiting  : List ConLine
  tooLong  : Bool
  overrun  : Bool
  lastCR   : Bool
  atest    : Option AtestQ
  test     : Option (GateTestKind × Option (Fin 4))
  begun    : Bool
  busy     : Bool
  gateTest : Option (Fin 28)
  watch    : Option (Fin 4)
  wftWait  : Option (Fin 4)
  out      : List Line
deriving DecidableEq, Repr

/-! ## Gate channels (chapter 05) -/

/-- A gate channel beyond its registers. -/
structure GateChan where
  request   : Bool      -- a gate request for on stands at the interlock (R114)
  cmd       : Bool      -- command that has left the interlock (R115)
  confOff   : Bool      -- confirmed off as the control side holds it (R112)
  awaitConf : Bool      -- T_CONF_MAX runs since the off command (R117)
  armTimer  : Bool      -- T_PLAT_ARM runs (R125)
  armed     : Bool      -- the plateau check is armed (R125)
  gs        : Rat       -- last gate sense voltage reported, V
  forcedOff : Bool      -- forced off by a removed enable or barrier loss (R125, R126, R127)
  testPassed : Bool     -- a self-test has passed since TEST_FAIL latched (R128)
  gateOn    : Bool      -- the output stage drives its gate on
  offAt     : Nat       -- powered time at which the last off command left the interlock, ns (R115)
  confAt    : Nat       -- powered time at which its confirmation was received, ns (R115)
  markAt    : Option Nat  -- powered time at which the marker in the frames to the island last changed, ns (R126)
  upSince   : Option Nat  -- powered time since which the barrier channel has been up without a loss, ns (R128)
deriving DecidableEq, Repr

/-- Rate monitor of SHOOT_BLOCK events of a set (R120): Weft times of the last events, and those of this period. -/
structure Shoot where
  times    : List Time
  inPeriod : Nat
deriving DecidableEq, Repr

/-! ## Power-stage protection (chapter 06) -/

/-- States of the safe-state controller (R159). -/
inductive SetState where
  | run | block | scOff | ascEntry | asc | sto
deriving DecidableEq, Repr

/-- The check of a chopper turn-on in progress (R153): expected step in A, and whether a phase gate has switched. -/
structure ChopCheck where
  expected : Rat
  void     : Bool
deriving DecidableEq, Repr

/-- Protection state of a set beyond its registers. -/
structure PspSet where
  blanking   : Bool               -- a blanking interval runs (R145)
  counting   : Bool               -- the comparator output counts towards SC_FILT (R145)
  dwell      : Bool               -- the 2.0 µs SC_OFF dwell runs (R146)
  vdc        : Rat                -- last DC-link sample of the SSI, V (R150)
  dcCheck    : Rat                -- latest DC check sample, V (R209, R211)
  tvHist     : List (Time × Rat)  -- terminal samples of the last 1 ms that no later one exceeds, newest first (R211)
  term       : List (Rat × Rat)   -- TV_U − TV_V and TV_V − TV_W of the last 20 samples, newest first (R210, R293)
  dcHist     : List (Time × Rat)  -- DC-link samples of the last 600 µs, newest first (R156)
  ov1Since   : Option Time        -- start of the OV1 episode (R155, R156)
  holdAsc    : Bool               -- hold_target is ASC (R162)
  linkFlag   : Bool               -- SSI flag channel up (R13)
  linkData   : Bool               -- SSI data channel up (R13)
  flagAt     : Nat                -- powered time since which the flag channel has been up, ns (R172)
  dataAt     : Nat                -- the same of the data channel
  asked      : BitVec 24          -- requests for STO and ASC that stood at the last evaluation, as `State.asks` numbers them (R131)
  vll        : Rat                -- last peak line-to-line value of the source in use, V (R149)
  fel        : Rat                -- last electrical frequency, Hz (R149)
  openOk     : Bool               -- all six phase gates have been reported off for 50 µs (R149)
  openVals   : List (Time × Rat)  -- V_LL values since OPEN's first value within T_PEAK, newest first (R150)
  bandLow    : Bool               -- the signal has been below the band since the last rising crossing (R149)
  cross1     : Option Time        -- last rising crossing since the source applies (R149)
  tvSum      : Rat                -- TV_U − TV_V summed over the carrier period (R149, SWITCH)
  tvCount    : Nat
  src        : BitVec 2           -- source the state of the set calls for (R149)
  chopMin    : Bool               -- the 10 µs minimum on-time or off-time runs (R152)
  chopByTest : Bool               -- a SERVICE test turned the chopper on (R143, R176)
  chopCheck  : Option ChopCheck   -- check of a turn-on in progress (R153)
  sbcReq     : Bool               -- PSP requests SBC (R156)
  krg        : Rat                -- part of the generating limit that the regenerative ramp of the set leaves (R155)
deriving DecidableEq, Repr

/-! ## Core pairs (chapter 17) -/

/-- A core pair beyond its registers: stamps of its TRANSIENTs in powered time, newest first (R500), whether a
mismatch awaits classification, a debug attach that waits (R502), and which half of a split pair has failed. -/
structure CorePair where
  stamps      : List Nat
  debugWaits  : Bool
  halfFailed  : BitVec 2
  timerIrq    : Bool       -- machine timer interrupt standing (R493)
deriving DecidableEq, Repr

/-! ## Host interface (chapter 18) -/

/-- A completion or event entry (R519) as written to a completion ring. -/
structure Completion where
  cid    : BitVec 16
  source : Byte
  status : Byte
  sqHead : BitVec 12
  opcode : Byte
  detail : Byte
  data   : List Word
  time   : Word
  phase  : Bool
  silent : Bool
deriving DecidableEq, Repr

/-- A chain being assembled (R526). -/
structure OpenChain where
  opcode : Byte
  cid    : BitVec 16
  len    : Nat
  got    : Nat
deriving DecidableEq, Repr

/-- A submission ring beyond its registers. -/
structure SubRing where
  chain   : Option OpenChain
  waiting : List Slot        -- visible slots not yet fetched, in ring order (R520, R525)
  due     : Nat              -- commands fetched and not yet completed (R524)
  held    : List Completion  -- completions held back while the ring is stopped by an error, oldest first (R533)
deriving DecidableEq, Repr

/-- A completion ring beyond its registers: the entries written and not yet consumed, oldest first; completions that
wait for room (R522); unsignalled entries and whether ITIME runs (R523). -/
structure CplRing where
  entries  : List Completion
  backlog  : List Completion
  unsignal : Nat
  timer    : Bool
  firstAt  : Nat    -- powered time of the first unsignalled entry, ns (R523)
  stalled  : Bool
deriving DecidableEq, Repr

/-- A command in progress that has not completed (R527). -/
structure InFlight where
  h      : Desc
  opcode : Byte
  inst   : Nat
deriving DecidableEq, Repr

/-- A register capture (SCOPE_ARM, R528): its operands, when it was armed, and the words captured, newest first. -/
structure Scope where
  h       : Desc
  buffer  : BitVec 64
  samples : Word
  period  : BitVec 16
  regs    : List Word
  t0      : Nat    -- powered time at which it was armed, ns
  got     : List Word
deriving DecidableEq, Repr

/-- The answer to a configuration request: Configuration Request Retry Status, or a word (R512, R514). -/
inductive CfgReply where
  | retry | word (w : Word)
deriving DecidableEq, Repr

/-- A descriptor in the firmware queue (R525). -/
structure QueuedFw where
  sq     : Fin 16
  opcode : Byte
  cid    : BitVec 16
deriving DecidableEq, Repr

/-- The host interface beyond its registers. -/
structure Hif where
  sq       : Vector SubRing 16
  cq       : Vector CplRing 16
  inFlight : List InFlight
  turn     : Fin 16               -- submission ring the round robin comes to next (R525)
  fwq      : List QueuedFw        -- firmware queue, oldest first (R525)
  scopes   : List Scope           -- captures armed, oldest first
  evtLost  : Nat                  -- events lost since the last EVT_OVERFLOW entry (R532)
  perstLow : Bool                 -- PERST_N is low (R39)
  signals  : List Nat             -- MSI-X vectors signalled, newest first (R523)
  hostWrites : List (BitVec 64 × Word)  -- words written to host memory by LOG_READ and SCOPE_ARM, newest first
  cfgReply : Option CfgReply      -- answer to the last configuration request
deriving DecidableEq, Repr

/-! ## PWM timing unit and measurement (chapters 07 and 08) -/

/-- Three compares in units of 312.5 ps, for the phases U, V, W (R177). -/
structure Cmp3 where
  u : Int
  v : Int
  w : Int
deriving DecidableEq, Repr

/-- A compare set the PWM unit has processed (R182, R184): its compares after saturation and depth limiting, and after
the refresh clamp. -/
structure Shadow where
  raw  : Cmp3
  cmp  : Cmp3
deriving DecidableEq, Repr

/-- A PWM channel beyond its registers. -/
structure PwmSet where
  sent    : Option Cmp3    -- compare set the lane has sent with an update request that has not arrived (R182)
  shadow  : Option Shadow  -- processed set that waits for the next boundary (R182)
  active  : Bool           -- the set has active compares (R190)
  pend    : Cmp3           -- pending shifts of this period (R187)
  goReq   : Bool           -- the start sequence has requested the release to RUN (R190, R292)
  first   : Bool           -- no C_r has been loaded since the release (R186)
  offset  : Rat            -- present offset of the period start, in 312.5 ps units (R26, R180)
  start   : Rat            -- local time at which the carrier counter stood at the valley, in 312.5 ps units (R177)
  stretch : Rat            -- time added (positive) or removed at the last valley, in 312.5 ps units (R180)
  missA   : Bool           -- window A of this period carries the missing mark (R188)
  missB   : Bool
  duties  : Option Cmp3    -- compares of a running pwm run test (R200)
deriving DecidableEq, Repr

/-- Currents of the three phases, in A. -/
structure Amps3 where
  u : Rat
  v : Rat
  w : Rat
deriving DecidableEq, Repr

/-- A VALID reconstruction (R216): three phase currents and the two sample timestamps. -/
structure Recon where
  amps : Amps3
  tA   : Time
  tB   : Time
deriving DecidableEq, Repr

/-- A window value of the set shunt (R214): the current, its sample instant, and the in-line values centred on it. -/
structure WinVal where
  i  : Rat
  t  : Time
  ps : Amps3
deriving DecidableEq, Repr

/-- The measurement front end of a set beyond its registers. -/
structure MfeSet where
  inv     : BitVec 3                  -- inputs invalid (R206)
  live    : BitVec 3                  -- sigma-delta inputs that run with a live clock and a changing bitstream
  sdclk   : Bool                      -- the SDCLK pin monitor misses edges (R206)
  satN    : Vector Nat 3              -- consecutive samples at the converter limit (R206)
  ofs     : Amps3                     -- offset subtracted from every later value, A (R205)
  stored  : Vector (Option Rat) 3     -- offset of the last passed measurement since Dawn, A (R205)
  xcN     : Nat                       -- consecutive cross-check failures (R217)
  gaps    : Nat                       -- consecutive gaps in fallback (R220)
  shOfs   : Rat                       -- tracked shunt offset, V (R213)
  winA    : Option WinVal             -- value of window A of this period (R214)
  recon   : Option Recon              -- latest VALID reconstruction (R215)
  prev    : Option Recon              -- the VALID reconstruction before it (R208)
  part    : Option (Fin 3 × Rat)      -- the phase and current of the last reconstruction, where it is PARTIAL (R216)
  reconPs : Amps3                     -- the in-line values compared with it (R217)
  used    : Option Recon              -- reconstruction delivered at the last update (R220)
  measWhy : BitVec 4                  -- causes of MEAS: 0 input, 1 DC_DIVERGE, 2 GAP, 3 SHUNT_SUSPECT (R222)
  sample  : Time                      -- instant of the last in-line trigger (R189)
  amps    : Amps3                     -- currents last delivered, A
  vdc     : Rat                       -- DC-link sample delivered with them, V
  ofsRun  : Bool                      -- an offset measurement runs (R205)
  ofsAt   : Time                      -- instant at which it began
  ofsCross : List Time                -- crossings of the ASC band since, newest first (R205)
  ofsCon  : Bool                      -- mfe zero waits for it (R233)
  ntcLow  : Bool                      -- the NTC is excited at 10 µA (R212)
  ntcV    : Rat                       -- NTC pin voltage at the last conversion, V
deriving DecidableEq, Repr

/-! ## The Loom (chapter 09) -/

/-- A pair of values on the d-axis and the q-axis. -/
structure DQ where
  d : Rat
  q : Rat
deriving DecidableEq, Repr

/-- A publication of a lane in its axis block (R252). -/
structure Pub where
  i  : DQ
  v  : DQ
  te : Rat
  t  : Time
  status : Word
deriving DecidableEq, Repr

/-- The inputs a lane latches at its sampling instant (R236). -/
structure LaneIn where
  t     : Time
  theta : Rat            -- θ_s without the winding offset, electrical turns (R275)
  w     : Rat            -- ω_el, rad/s
  wMech : Rat            -- ω_m, rad/s
  tref  : Rat            -- torque reference of the axis, N·m
  iref  : Option DQ      -- current references issued instead (R241)
  wt    : Rat            -- weight w_s
  inj   : Rat            -- injection voltage of this update, V (R249)
  pubs  : List (Fin 4 × Pub)
  didMin : Rat           -- DID_MIN of a shared axis in force (R340, R344)
deriving DecidableEq, Repr

/-- A lane beyond its registers. -/
structure Lane where
  scale   : Nat          -- the profile load that fixed its scalings (R234)
  inp     : Option LaneIn
  did     : Rat          -- field-weakening term, A (R243)
  x       : DQ           -- integrator of the PI law (R250)
  bs      : DQ           -- set-balance term (R253)
  psiR    : Rat          -- rotor flux, Wb (R245)
  thetaR  : Rat          -- rotor-flux angle, electrical turns
  psiV    : DQ           -- voltage-model flux in stator axes (α in d, β in q), Vs
  thV     : Rat          -- rotor-flux angle of the voltage model in the axis's frame, turns (R245)
  wHat    : Rat          -- observer speed, rad/s (R255)
  tlHat   : Rat          -- T̂_L, N·m
  te      : Rat          -- T_e,s, N·m
  pub     : Option Pub
  vdb     : DQ           -- voltage of R246 before limiting
  vlim    : Rat          -- voltage limit of the last update, V
  vout    : DQ           -- commanded voltage after R247
  vapp    : DQ           -- applied voltage of the last interval, dq
  vab     : DQ           -- the same in stator axes (R257)
  iab     : DQ           -- measured current in stator axes (R257)
  im      : DQ           -- i_m
  iq      : Rat          -- i_q*, A
  emf     : DQ           -- extended EMF in the estimated frame at the last update (R284)
  injs    : List Rat     -- injection voltages of the last updates, newest first (R279)
  iInj    : Rat          -- expected injection current, A (R249)
  law     : Bool         -- PI law used at the last update
  sentC   : Cmp3         -- compares last sent, for APPLIED_DIFF (R237)
  katWant : Bool         -- a known-answer test waits for its set's clocks
  katFails : Nat         -- consecutive failures (R264)
  reload  : Bool         -- CP_1 reloads parameter words first (R263)
  passed  : Bool         -- a test has passed since the last fault (R264)
  katHost : Option Desc  -- FUNC_REINIT that waits for the test (R265)
  dues    : Nat          -- double-bit errors the scrubber has found (R261)
  katCon  : Bool         -- loom kat waits for the test (R273)
deriving DecidableEq, Repr

/-! ## Rotor position and starting (chapter 10) -/

/-- A terminal measurement in progress (R293). -/
structure Meas where
  t0   : Time
  prev : Option Rat      -- arg of the last vector, turns
  adv  : Rat             -- advance since tracking began, turns
  det  : Bool            -- |v_αβ| ≥ TV_DET at every sample so far
  vab  : DQ              -- last vector, V
  con  : Bool            -- asked for by the console (R304)
deriving DecidableEq, Repr

/-- A start sequence in progress (R292). -/
structure Start where
  relock : Bool
  asc    : Bool                 -- a set of the axis was in ASC
  result : Option (BitVec 8)    -- RESULT of the branch taken; none while it runs
  search : Bool                 -- the induction speed search runs (R295)
  still  : Bool                 -- permanent magnet, SLOW: released with zero current references
deriving DecidableEq, Repr

/-- One bin of a saliency map being learned (R282): sum of the differences, their count. -/
structure Bin where
  sum : Rat
  n   : Nat
deriving DecidableEq, Repr

/-- Position and start of an axis beyond its registers. Angles in electrical turns, speeds in rad/s electrical. -/
structure PosAx where
  th       : Rat
  w        : Rat
  t        : Time          -- instant of the estimate, t_e (R275)
  wmPrev   : Rat           -- |ω̂_m| of the previous update, min⁻¹ (R285)
  lam      : Rat           -- blend weight λ (R285)
  thInj    : Rat
  wInj     : Rat
  thB      : Rat
  wB       : Rat
  thPsi    : Rat           -- angle of the voltage-model flux at the previous update, turns (R284)
  thAsc    : Rat
  wAsc     : Rat
  ascOk    : Bool          -- the ASC tracker is valid (R294)
  eps      : Rat           -- demodulated sum of this injection period (R279)
  err      : Rat           -- angle error of the latest period, turns
  errB     : Rat           -- back-EMF angle error, turns
  mag      : Rat           -- magnitude residual
  injN     : Nat           -- updates of the axis lane since the injection period began (R278)
  injPer   : Nat           -- injection periods since injection started
  lockN    : Nat           -- consecutive periods within LOCK_WIN / 2 (R280)
  outN     : Nat           -- consecutive updates out of window (R287)
  why      : BitVec 3      -- residuals outside at the last of them: angle, magnitude, blend
  relN     : Nat           -- updates since the release
  stale    : Nat           -- consecutive updates with STALE at the port (R277)
  portLost : Bool          -- a loss of the port has been taken since the start (R277)
  start    : Option Start
  meas     : Option Meas
  coast    : Bool          -- the axis coasts after a loss of lock (R289)
  relockOn : Bool          -- a re-lock follows the coast (R288)
  iref     : Option DQ     -- current references issued in place of torque
  pulse    : Nat           -- polarity pulses: 0 none, 1 first, 2 second (R283)
  ripP     : Rat           -- d̂ ripple at +I_POL
  ssF      : Rat           -- frame frequency of the speed search, Hz (R295)
  ssSign   : Int           -- sign of the rotor power the search started with; 0 none yet
  ssN      : Nat           -- updates that the changed sign has held
  ssAt     : Rat           -- frame frequency at the change
  ssT0     : Time
  bins     : Vector Bin 17
  learnt   : Nat                               -- bins filled in the active map (R302)
  staged   : Option (List (Nat × Rat × Rat))   -- filled bins: index, δ in degrees, m
  conLearn : Bool
deriving DecidableEq, Repr

/-! ## Speed loop and shock handling (chapter 11) -/

/-- A shock window (R318): its start, and since when the load has been within the normal limit. -/
structure Shock where
  t0    : Time
  since : Option Time
deriving DecidableEq, Repr

/-- A ventilation ride-through (R320). -/
structure Vent where
  tPre  : Rat
  pPre  : Rat
  t0    : Time
  since : Option Time
deriving DecidableEq, Repr

/-- The motion sequencer of an axis beyond its registers. Speeds in min⁻¹ unless said otherwise. -/
structure SpdAx where
  ncmd   : Rat              -- commanded speed
  tcmd   : Rat              -- commanded torque, N·m
  n      : Rat              -- ramp output
  acc    : Rat              -- ramp acceleration, min⁻¹/s
  rampX  : Bool             -- the ramp has passed through zero and its rate changes over ROUND (R310)
  nf     : Rat              -- filtered speed, rad/s
  x      : Rat              -- integrator, N·m
  x2     : Rat              -- integrator of the limiter instance (R312)
  tref   : Rat              -- T_ref, N·m
  normal : Rat              -- normal limit in the line-holding direction (R318)
  kth    : Rat
  krg    : Rat
  krsT0  : Option Time      -- start of the resume ramp (R289)
  quick  : Bool             -- DEC_QS is in force (R308)
  ramp0  : Bool             -- the ramp has reached 0 in STOPPING
  zeroAt : Option Time      -- |ω̂_m| at or below N_ZERO since (R308)
  hold   : Bool             -- the HOLD_ZERO_T hold runs
  offT0  : Option Time      -- start of the torque-off ramp
  offT   : Rat              -- torque at its start
  overN  : Nat              -- consecutive periods above the overspeed limit (R317)
  gone   : Bool             -- the axis left STARTING, RUNNING or STOPPING for STOPPED in this period (R306)
  tlHist : List (Time × Rat)  -- T̂_L at the periods of the last VENT_WIN or 1 ms, newest first
  shock  : Option Shock
  winEnd : Option Time      -- end of the last shock window
  snOn   : Bool             -- the snatch condition of R318 held at the last period
  relAt  : Option (Time × Rat)  -- release of the shock limit runs since, from this limit (R318)
  slackAt : Option Time
  slackHold : Bool          -- speed reference held at 0 (R319)
  solo   : Bool             -- POSITION mode: a stop by the speed ramp, the profile being another lead's (R351)
  back   : Bool             -- POSITION mode: the ramp sets the reference until it is back at the position loop's (R318)
  pendStop : Option Bool    -- a STOP that waits for the end of a shock window, with its quick flag (R318)
  vent   : Option Vent
  hv     : List HeaveEntry  -- entries not yet past, oldest first
  hvLast : Option HeaveEntry
  hvSpd  : Rat              -- speed feedforward applied
  hvAcc  : Rat              -- acceleration feedforward applied, min⁻¹/s
  hvStall : Option Time     -- hold since
  hvFade : Option (Time × Rat × Rat)  -- fade since, from these values
  hvOut  : Bool             -- a stall has come, after which no entry has been used (R322)
  hvGap  : Rat              -- difference still to be closed after a stall
  nPos   : Rat              -- latest output of the position loop
deriving DecidableEq, Repr

/-! ## Load sharing (chapter 12) -/

/-- How the lead counts a member (R342, R350, R352): inactive, active, ramping in since, ramping out since with the
share it then had. -/
inductive MemberAct where
  | off | active | rampIn (t0 : Time) | rampOut (t0 : Time) (share : Nat)
deriving DecidableEq, Repr

/-- What a member keeps of another: the report received in this cycle and the last one in force, consecutive cycles
without a frame, how the lead counts it, its correction c(m) and share code, its speed deviation count, whether a fault
stands, its node address and the cycles since its last frame. -/
structure Member where
  now   : Option MemberReport
  last  : Option MemberReport
  miss  : Nat
  act   : MemberAct
  c     : Rat
  share : Nat
  spdN  : Nat
  fault : Bool
  node  : Byte
  age   : Nat
  barred  : Bool          -- left the shares while ACTIVE: counts again only after another state (R352)
  actN    : Nat           -- consecutive reports that show it ACTIVE
  outSeen : Bool          -- its ramp-out is counted (R357)
  noticed : Option Word   -- CYCLE of the last fault notice (R349)
deriving DecidableEq, Repr

/-- A shared axis beyond its registers: the member frames, the lead frames received in this cycle and the one in
force, cycles without a lead frame, cycles without quorum and below MIN_MEMBERS, the command the lead sends, the member
torque and references in force, the own ramp-out, T_ref taken at the cycle start, refusals journalled since Dawn, the
cycles the console withholds, and the values latched at the cycle start. -/
structure LshAx where
  members : Vector Member 16
  leads   : List LeadFrame
  lead    : Option LeadFrame
  noLead  : Nat
  noQuor  : Nat
  belowN  : Nat
  offN    : Nat                    -- own ACTIVE bit clear in consecutive lead frames (R350)
  yield   : Bool                   -- hands the role over at the next cycle (R336)
  cmd     : Byte
  tm      : Rat
  nRef    : Rat
  nCmd    : Rat
  tRef    : Rat
  didMin  : Rat
  kcap    : Rat
  teAx    : Rat
  teDiff  : Rat                    -- TE_AX less the own TE_M of its cycle (R345)
  teOwn   : Rat                    -- own TE_M latched at the cycle start
  teOld   : Rat                    -- own TE_M of the cycle before
  ramp    : Option (Time × Rat)    -- own ramp-out: start and T_m then (R350)
  mine    : Option MemberReport    -- report values latched at the cycle start (R340)
  parted  : Bool                   -- gave the lead up for want of quorum; ramps itself out at T_APPLY (R350)
  seen    : BitVec 16              -- members heard in this cycle
  seenOld : BitVec 16              -- members heard in the last cycle (R335, R339)
  told    : Bool                   -- GROUP_REFUSE journalled since Dawn (R333)
  drop    : Nat
  sig     : Word                   -- group signature of the loaded profile (R331)
  applied : Bool                   -- T_APPLY of this cycle has passed (R340)
  ran     : Bool                   -- the axis was RUNNING or STOPPING at the last cycle start (R352)
  axisHeld : Bool                  -- a member's fault latched AXIS on the local sets (R349)
deriving DecidableEq, Repr


/-! ## Feedback ports (chapter 13) -/

/-- A feedback port beyond its registers. Positions are in counts. -/
structure FbPort where
  r       : Int             -- raw count (R375)
  neg     : Bool            -- d = −1 (R375)
  h       : Int             -- hysteresis count (R375)
  offset  : Int             -- set by a preset (R378)
  turnAdj : Int             -- R377
  la      : Bool            -- filtered levels of A and B, or the coarse levels of sin and cos (R366, R368)
  lb      : Bool
  lz      : Bool            -- level of Z, high from the index mark to the next edge of A or B (log entry 18)
  per     : Int             -- signal periods counted on a SINCOS port (R368)
  ang     : Option Int      -- last tracking angle of a resolver (R370)
  loadZ   : Bool            -- LOAD_Z is armed (R378)
  zOfs    : Option Int      -- offset that a mark's LOAD_Z sets at its sample (R378, R386)
  load    : Bool            -- LOAD, TURN_ZERO and CMP_DISARM wait for the next sample (R378, R386)
  turnZ   : Bool
  disarm  : Bool
  cmpW    : Option Word     -- the value in force while one written to CMP waits for the sample (R383, R386)
  again   : Bool            -- the check of R385 is made at the next sample, this one having had its hit (R383)
  prevP   : Int             -- p at the last sample (R383)
  eq      : Bool            -- the value in force equalled p at the sample that took it (R383)
  hStart  : Int             -- h at the start of the window (R379)
  revd    : Bool            -- d has changed in this window (R381)
  stillN  : Nat             -- consecutive windows with Δ = 0 (R380)
  amp     : Rat             -- amplitude a of the last sample (R369)
  ampN    : Nat             -- consecutive samples out of the amplitude window (R369)
  freqBad : Bool            -- signal frequency above the limit at the last sample (R390)
  wireBad : Bool            -- differential below 200 mV (R390)
  clkAt   : Option Time     -- last edge of the serial clock (R371)
  reqAt   : Option Time     -- latch instant of the word in progress
  word    : Option Nat      -- last valid word (R374)
  wordAt  : Time            -- its stamp
  periods : Nat             -- read periods since it
  anew    : Bool            -- no word since FUNC_REINIT: the next one is free of the jump rule (R374)
  winWord : Option (Int × Time)  -- h and stamp of the word at the last window boundary (R382)
  excOff  : Bool            -- excitation switched off (R370)
  supply  : Bool            -- the encoder supply is on (R43)
  pulse   : Bool            -- a compare pulse is on PT_n Z (R383)
deriving DecidableEq, Repr

/-- A pass-through output beyond its registers (R387 to R389): emulated count, whether it follows a valid source, the electrical turns
of its axis and those at its first valid angle, when they were last taken, the edges emitted less those in the other direction, whether
Z is emitted in this sample, and the levels of A, B and Z on its pins, none while they are high-impedance. -/
structure PtOut where
  emu   : Int
  live  : Bool
  mech  : Rat
  org   : Rat
  last  : Option Time
  edges : Int
  z     : Bool
  pins  : Option (Bool × Bool × Bool)
deriving DecidableEq, Repr


/-! ## Profile and pulse generator (chapter 14) -/

/-- A stop in progress on a channel (R408), from the softest to the hardest. -/
inductive StopKind where
  | ramped | quick | hard
deriving DecidableEq, Repr

/-- A channel of the profile generator beyond its registers: the profile state in counts or steps and seconds, the
plan that remains (segments of constant jerk with their durations), and what steps, gearing and checks need. -/
structure PrgCh where
  p       : Rat
  v       : Rat
  a       : Rat
  at_     : Time                  -- instant of the last evaluation
  plan    : List (Rat × Rat)      -- jerk, duration
  goal    : Rat                   -- target of the MOVE in force
  goAgain : Bool                  -- the plan ends at rest beyond the target; the return is still to be planned (R406)
  replan  : Bool                  -- plan from the next evaluation
  rest    : Bool                  -- the channel stands at rest
  stop    : Option StopKind
  halts   : Bool                  -- the axis enters STOPPING at the end of this stop (R408, R410)
  devAt   : Option Time           -- |dev| above DEV_WIN since (R412)
  p0      : Int                   -- R411
  h0      : Int                   -- R416
  c0      : Int
  phi0    : Rat
  gearU   : Rat
  rate    : Rat                   -- step rate of the last sample, Hz
  dirHi   : Bool                  -- level of DIR_p
  edgeAt  : Rat                   -- last STEP_p edge, ns
  checkAt : Option Time           -- R414: the check is due 100 ms after this hard stop
  dirAt   : Rat                   -- last change of DIR_p, ns (R413)
  stepHi  : Bool                  -- level of STEP_p at the end of the last sample (R413)
  jog     : Int                   -- steps of a prg jog still to come (R423)
  cmd     : BitVec 4              -- commands of PRG_CH_c_CTRL that wait for the next sample (R421)
deriving DecidableEq, Repr


/-! ## Safety island, safe I/O and safety frames (chapters 15 and 16) -/

/-- An open safety staging (R452, R453): target profile, the set as sealed and as staged, the keys read back since
their last write, and the descriptor of a sealing whose flash write runs. -/
structure Staging where
  target   : Fin 4
  sealed   : Bank
  staged   : Bank
  readBack : List Nat
  sealing  : Option Desc
  rose     : Bool            -- an STO input has risen while the sealing runs (R453)
deriving DecidableEq, Repr

/-- Monitoring of one axis. -/
structure SfAxis where
  hist     : List (Time × Int)  -- h of the safe port at the last cycle starts with their times, newest first (R440)
  stale    : Nat           -- consecutive cycles with STALE (R441)
  ss1Since : Option Nat    -- powered time at which SS1 began, ns (R436)
  ss1N0    : Rat           -- n_safe at its demand
  ss1From  : Option Nat    -- start of the last SS1, whose envelope judges its violation (R448)
  ss1End   : Bool          -- the STO that ends SS1 is demanded (R436)
  portSto  : Bool          -- PORT answered with STO (R441)
  stoWait  : Bool          -- T_STO_AFTER_SBC runs (R438)
  slsN0    : Rat           -- |n_safe| at the start of the entry time (R442)
  sdiRef   : Option (Int × Int)  -- references h_r for a permitted positive and a permitted negative direction (R444)
  sdiNeg   : Bool          -- permitted direction in force is negative (R444)
  sdiBoth  : Bool          -- both directions demanded (R480)
deriving DecidableEq, Repr

/-- The island as a whole: an internal fault demands STO everywhere until Dawn (R449); when the enable of each set was
removed and whether the check of R430 has been made; the rise of both STO inputs after they were low together (R431);
seals performed on this module; the staging. -/
structure Island where
  dead      : Bool
  bothLow   : Bool                      -- both inputs low together since STO_DISC latched (R431)
  bothRose  : Bool                      -- and both high afterwards
  removedAt : Vector (Option Nat) 4     -- powered time at which the enable of the set was removed, ns (R430)
  checked   : BitVec 4                  -- sets whose confirmations have been checked since then (R430)
  staging   : Option Staging
  saved     : Vector SfAxis 4           -- copy of the function states in private memory (R450)
deriving DecidableEq, Repr

/-- The island's shunt monitoring of a set (R445, R446). -/
structure SfSet where
  overN : Nat     -- consecutive carrier periods with a window value above I_SAFE
  seen  : Bool    -- a window value above I_SAFE in this carrier period
  got   : Bool    -- a window value in this carrier period
  gap  : Nat      -- consecutive updates with no window value
  hot  : Bool     -- I_SAFE_N reached since the last cycle start (R424)
  late : Bool     -- the 33rd gap counted since the last cycle start (R424)
  ofs  : Rat      -- the island's own offset, A
deriving DecidableEq, Repr

/-- A safe input: its last raw sample, its test pulse (reads high at every sample of the last half so far), and whether
a later pulse has passed since TESTFAIL (R466). -/
structure SfIn where
  raw       : Bool
  allHigh   : Bool
  laterPass : Bool
deriving DecidableEq, Repr

/-- A safe input pair: what has been shown since DISC latched (R464). -/
structure SfPair where
  together : Bool      -- both channels have shown demand together for SI_FILT
  since    : Option Nat  -- powered time since which both show demand together, ns
  cleared  : Bool      -- both have afterwards shown clear
deriving DecidableEq, Repr

/-- A test source: off for its pulse, when that began, switched off by overload, and when it last delivered without one. -/
structure TestSrc where
  pulse   : Bool
  since   : Nat
  off     : Bool
  goodFrom : Option Nat
deriving DecidableEq, Repr

/-- A safe output pair: its two switches as commanded, the last command change of each, and the read-backs. -/
structure SafeOut where
  hi      : Bool
  lo      : Bool
  hiAt    : Nat
  loAt    : Nat
deriving DecidableEq, Repr

/-- A copy of a safety frame that waits for its partner: its bytes, its route (B = true), and when it arrived, in powered ns (R477). -/
structure FirstCopy where
  bytes  : List Byte
  routeB : Bool
  at_    : Nat
deriving DecidableEq, Repr

/-- A safety connection: the first copies that wait for their partner, oldest first, consecutive accepted frames since invalidity,
whether an accepted frame has set the sequence base, whether the watchdog runs and since when, in powered ns, and the last frame sent
or accepted. -/
structure Conn where
  first  : List FirstCopy
  good   : Nat
  base   : Bool
  wd     : Bool
  wdAt   : Nat
  last   : List Byte
deriving DecidableEq, Repr

/-! ## The Weft fabric (chapter 19) -/

/-- What a port keeps of its link and of its neighbour: training sets received without an error, the times since when
the port is in its state and since it last heard a frame, the neighbour's HELLO, the GM sequence and when it last
advanced, the link delays, its own DELAY_REQ, and the costs of addresses through it (unlisted: 16). -/
structure WPort where
  trainN  : Nat
  hello   : Option HelloMsg
  seq     : Option Word
  seqAt   : Nat                  -- powered time at which the sequence of the GM last advanced here, ns (R564)
  syncAt  : Nat                  -- powered time of the last SYNC, ns (R567)
  heardAt : Nat                  -- powered time of the last frame, or of the entry into ACTIVE or LOOP, ns (R547)
  rtAt    : Nat                  -- powered time of the last ROUTE received, or of the entry into ACTIVE, ns (R554)
  delays  : List Rat             -- the last 8 values of d, ns, newest first (R565)
  reqT    : Option Time          -- departure of the own DELAY_REQ (t1)
  cost    : List (Nat × Nat)
  q01     : List WFrame          -- egress queues (R560)
  q2      : List WFrame
  q3      : List WFrame
  tx      : Option WFrame        -- frame in transmission
  turn    : Nat                  -- class 2 frames sent since the last of class 3 while both wait
  gone    : List (Byte × BitVec 2 × BitVec 16)  -- packets whose remaining fragments are discarded here
  c0Cycle : Nat                  -- shed cycle that c0Bytes counts, and the class 0 bytes originated in it
  c0Bytes : Nat
  tokens  : Rat                  -- bytes class 1 may still originate, and when that was computed
  tokAt   : Nat
  routeAt : Option Nat           -- powered time of the last triggered ROUTE, ns
  due     : Bool                 -- a triggered ROUTE waits
  sent    : Nat                  -- bytes sent in the present millisecond
deriving DecidableEq, Repr

/-- A peer context (R558). -/
structure Ctx where
  conn   : Option (Fin 32)   -- the safety connection it belongs to
  addr   : Byte
  cls    : BitVec 2
  uid    : Option Time
  txPkt  : BitVec 16
  rxPkt  : Option (BitVec 16)
  part   : Option (BitVec 16 × Nat × List Byte)  -- packet, next index, bytes so far
  gone   : Option (BitVec 16)  -- packet last discarded incomplete (R551)
  partAt : Nat                 -- powered time of the last fragment taken, ns (R551)
  heard  : Nat                 -- powered time of the last use, ns (R558)
  pinned : Bool
deriving DecidableEq, Repr

/-- A console ping in progress (R576): rounds left, the request's departure, and the round trips. -/
structure Ping where
  addr  : Byte
  left  : Nat
  t0    : Time
  rtts  : List Nat
deriving DecidableEq, Repr

/-- The node beyond its registers. -/
structure Weft where
  port    : Vector WPort 4
  cand    : Byte                 -- address being claimed, and CLAIMs sent for it (R552)
  claims  : Nat
  pktOut  : Vector (BitVec 16) 4
  casts   : List (Time × Byte × BitVec 16 × Nat)  -- broadcasts seen: UID or 0, SRC, PKT, powered time in ns (R555)
  ctx     : List Ctx
  fwq     : List (Byte × BitVec 2 × List Byte)     -- firmware receive queue (R563)
  known   : List (Time × Byte)   -- addresses seen with their UIDs
  dawn    : Bank                 -- parameters in force since Dawn (R575)
  parent  : Option (Fin 4)
  newN    : Nat                  -- SYNCs of a new parent still to be averaged, and their sum (R566)
  newSum  : Rat
  wins    : Nat                  -- consecutive SYNCs within SYNC_WIN
  offset  : Rat                  -- offset at the last SYNC, ns
  rate    : Rat                  -- rate correction, ppm
  frac    : Rat                  -- fraction of a nanosecond of Weft time
  seq     : Word                 -- GM sequence this node sends
  ping    : Option Ping
deriving DecidableEq, Repr


/-! ## CAN FD (chapter 20) -/

/-- A frame in the receive FIFO with the filter that accepted it (R583, R588). -/
structure CanEntry where
  f    : CanRx
  filt : Nat
deriving DecidableEq, Repr

/-- A CAN controller beyond its registers: FIFO (oldest first), transmit buffers, error counters, the buffers whose
ABORT waits for the attempt in progress, and the last CAN_ID_CLASH entry. -/
structure CanCtl where
  fifo    : List CanEntry
  tb      : Vector (Option CanTx) 3
  tecN    : Nat
  recN    : Nat
  aborts  : BitVec 3
  sof     : Time
  clashAt : Option Nat
deriving DecidableEq, Repr


/-! ## Thermal supervision (chapter 21) -/

/-- A temperature sensor beyond its register: the temperature in °C, those of the last second (newest first), and
whether its first invalidity has been journalled. -/
structure Sensor where
  t    : Rat
  hist : List Rat
  told : Bool
deriving DecidableEq, Repr

/-- Thermal supervision: the sensors, and k_th of every axis. -/
structure Thermal where
  sensor : Vector Sensor 38
  kth    : Vector Rat 4
deriving DecidableEq, Repr


/-! ## Time-outs -/

/-- A time-out that is timed from an instant no other field holds (R7): the discrepancy of the STO inputs (R431), the host's
watchdog (R534), an open chain of a submission ring (R526), OV2_PEND and UV of a set (R156, R157), the restart of a pair (R498),
START_TMO and STOP_TMO of an axis (R292, R308), SERVICE_IDLE (R81), DUSK_STOP_MAX (R98), and so on as named. -/
inductive Timer where
  | stoDisc | hostLost | chain (n : Fin 16) | ov2 (x : Fin 4) | uv (x : Fin 4) | restart (n : Fin 4) | start (a : Fin 4)
  | stop (a : Fin 4) | disc (i : Fin 8) | staging | slsEntry (a : Fin 4) | stoDelay (a : Fin 4) | idle | dusk
deriving DecidableEq, Repr

/-! ## The machine -/

/-- The state of the EW12-A7. `pending` is the queue of commands waiting, first in, first out. -/
structure State where
  pending : List Instr
  fresh   : Nat          -- the model's own counter of free values used (log entry 3)
  weft    : Time         -- Weft time, ns (R25)
  regs    : Bank         -- every addressed register, by address (R626 to R631)
  params  : Bank         -- device record and working copy of the profile (R641)
  topology : Topology    -- topology of the working copy (R3, R23)
  classW  : BitVec 4     -- axis classes of the working copy (R24)
  slots   : Vector Profile 4    -- PROFILE_0 to PROFILE_3 (R641)
  images  : Vector Image 2      -- images A and B (R90)
  sys     : Sys
  jr      : Journal
  con     : Console
  gc      : Vector GateChan 28
  conflict : BitVec 12   -- half-bridges with a conflict of R119 standing
  shoot   : Vector Shoot 4
  psp     : Vector PspSet 4
  sfiSto  : BitVec 4     -- sets on which the safety island requests STO (R160, R162)
  sfiAsc  : BitVec 4     -- sets on which the safety island requests ASC under STO_ASC (R160)
  cp      : Vector CorePair 4
  hif     : Hif
  sram    : Memory       -- system SRAM 0x1000_0000 to 0x107F_FFFF (R626)
  pwm     : Vector PwmSet 4
  mfe     : Vector MfeSet 4
  railsUp : Bool         -- a restart of the sensor rails runs (R207)
  lane    : Vector Lane 4
  pos     : Vector PosAx 4
  spd     : Vector SpdAx 4
  lsh     : Vector LshAx 4
  fb      : Vector FbPort 4
  pt      : Vector PtOut 4
  prg     : Vector PrgCh 8
  lim     : BitVec 8            -- limit inputs reached, after their filters: LIM_POS_n in bit n, LIM_NEG_n in bit 4 + n (R409)
  isl     : Island
  sfa     : Vector SfAxis 4
  sfs     : Vector SfSet 4
  si      : Vector SfIn 16
  sip     : Vector SfPair 8
  tst     : Vector TestSrc 4
  so      : Vector SafeOut 4
  sc      : Vector Conn 32
  wft     : Weft
  can     : Vector CanCtl 4
  thm     : Thermal
  timers  : List (Timer × Nat)  -- the time-outs that run, each with the powered time of its start, ns, latest first (R7)
deriving DecidableEq, Repr

/-- Faults of the model. No command of the EW12-A7 stops the device; the one fault says that a command names
something the part does not have, so that no such command passes for an effect. Raised by no meaning (safe). -/
inductive Fault where
  | noSuchThing
deriving DecidableEq, Repr

/-- Refusals. `notModelled` is answered only by an arm of Dispatch.lean whose command has no meaning yet (safe: the
machine stops). -/
inductive Refusal where
  | notModelled (mnemonic : String)
deriving DecidableEq, Repr

/-- The answer of a command. -/
abbrev Res := Host.Outcome State Fault Refusal

/-- An empty slot: nothing stored (R641). -/
def Profile.empty : Profile :=
  { stored := false, crcOk := false, sealed := false, sealCrc := 0, seals := 0, sealTime := 0, topology := .q4, classW := 0, params := [] }

/-- An image slot as the model starts with it: wholly written, security version 0 (log entry 2). -/
def Image.initial : Image := { partly := false, svn := 0 }

/-- Modes, supplies and Dawn after reset: held in reset with the release filter of R59 running. -/
def Sys.reset : Sys :=
  { lockout := .filtering, vinPresent := true, wakeLatched := none, nightOnVbat := false, inReset := true
    resetReq := none, startCause := 1, dawnCount := 0, pllTries := 0, imageTry := none, pairStarted := 0
    sectionsDone := 0, islandsUp := 0, profileLoaded := false, stoInputsDeferred := false, stoSetDeferred := 0
    active := none, workFrom := 0, refreshDue := false, flashBusy := none, preferFlash := false, record := []
    refreshAt := Vector.replicate 6 0, imageOk := false, oldMode := .dawn, resetLow := false, rtcNs := 0
    poweredNs := 0, wakeNs := 0, rtcSet := none, vbatNs := 0, testNs := 0, pinsHighZ := true, nightDead := false, refreshWant := 0
    journalChecked := false, readied := false, dawnNs := 0 }

/-- The journal before its first entry. -/
def Journal.reset : Journal := { queue := [], entries := [], lostNow := 0 }

/-- The console with nothing typed and nothing selected (R614: ATEST_P reads 0 V). -/
def Console.reset : Console :=
  { line := [], waiting := [], tooLong := false, overrun := false, lastCR := false, atest := none, test := none, begun := false
    busy := false, gateTest := none, watch := none, wftWait := none, out := [] }

/-- A gate channel before its island has started (R86: high-impedance). -/
def GateChan.reset : GateChan :=
  { request := false, cmd := false, confOff := false, awaitConf := false, armTimer := false, armed := false
    gs := 0, forcedOff := false, testPassed := false, gateOn := false, offAt := 0, confAt := 0, markAt := none, upSince := none }

/-- No SHOOT_BLOCK event since Dawn. -/
def Shoot.reset : Shoot := { times := [], inPeriod := 0 }

/-- Protection of a set with no sample taken. -/
def PspSet.reset : PspSet :=
  { blanking := false, counting := false, dwell := false, vdc := 0, dcCheck := 0, tvHist := [], term := [], dcHist := [], ov1Since := none
    holdAsc := false, linkFlag := false, linkData := false, flagAt := 0, dataAt := 0, asked := 0
    vll := 0, fel := 0, openOk := false, openVals := []
    bandLow := false, cross1 := none, tvSum := 0, tvCount := 0, src := 1, chopMin := false, chopByTest := false, chopCheck := none, krg := 1
    sbcReq := false }

/-- A core pair in reset. -/
def CorePair.reset : CorePair := { stamps := [], debugWaits := false, halfFailed := 0, timerIrq := false }

/-- A completion ring that is not enabled. -/
def CplRing.reset : CplRing := { entries := [], backlog := [], unsignal := 0, timer := false, firstAt := 0, stalled := false }

/-- The host interface with every ring disabled. -/
def Hif.reset : Hif :=
  { sq := Vector.replicate 16 { chain := none, waiting := [], due := 0, held := [] }, cq := Vector.replicate 16 CplRing.reset, inFlight := [], turn := 0
    fwq := [], scopes := [], evtLost := 0, perstLow := false, signals := [], hostWrites := [], cfgReply := none }

/-- No compares. -/
def Cmp3.zero : Cmp3 := { u := 0, v := 0, w := 0 }

/-- No currents. -/
def Amps3.zero : Amps3 := { u := 0, v := 0, w := 0 }

/-- A PWM channel with its clocks stopped and no compare set. -/
def PwmSet.reset : PwmSet :=
  { sent := none, shadow := none, active := false, pend := Cmp3.zero, goReq := false, first := true, offset := 0, start := 0
    stretch := 0, missA := false, missB := false, duties := none }

/-- Measurement of a set with nothing sampled. -/
def MfeSet.reset : MfeSet :=
  { inv := 0, live := 7, sdclk := false, satN := Vector.replicate 3 0, ofs := Amps3.zero
    stored := Vector.replicate 3 none, xcN := 0, gaps := 0, shOfs := 0, winA := none, recon := none, prev := none, part := none
    reconPs := Amps3.zero, used := none, measWhy := 0, sample := 0, amps := Amps3.zero, vdc := 0, ofsRun := false
    ofsAt := 0, ofsCross := [], ofsCon := false, ntcLow := false, ntcV := 0 }

/-- The zero pair. -/
def DQ.zero : DQ := { d := 0, q := 0 }

/-- A lane with nothing computed. -/
def Lane.reset : Lane :=
  { scale := 0, inp := none, did := 0, x := DQ.zero, bs := DQ.zero, psiR := 0, thetaR := 0, psiV := DQ.zero, thV := 0, wHat := 0
    tlHat := 0, te := 0, pub := none, vdb := DQ.zero, vlim := 0, vout := DQ.zero, vapp := DQ.zero, vab := DQ.zero
    iab := DQ.zero, im := DQ.zero, iq := 0, emf := DQ.zero, injs := [], iInj := 0, law := false, sentC := Cmp3.zero
    katWant := false, katFails := 0, reload := false, passed := true, katHost := none, dues := 0, katCon := false }

/-- Position of an axis with nothing tracked. -/
def PosAx.reset : PosAx :=
  { th := 0, w := 0, t := 0, wmPrev := 0, lam := 0, thInj := 0, wInj := 0, thB := 0, wB := 0, thPsi := 0, thAsc := 0, wAsc := 0
    ascOk := false, eps := 0, err := 0, errB := 0, mag := 0, injN := 0, injPer := 0, lockN := 0, outN := 0, why := 0
    relN := 0, stale := 0, portLost := false, start := none, meas := none, coast := false,
    relockOn := false, iref := none, pulse := 0, ripP := 0, ssF := 0, ssSign := 0, ssN := 0, ssAt := 0, ssT0 := 0
    bins := Vector.replicate 17 { sum := 0, n := 0 }, learnt := 0, staged := none, conLearn := false }

/-- The motion sequencer at rest: factors at 1, everything else at 0 (R305). -/
def SpdAx.reset : SpdAx :=
  { ncmd := 0, tcmd := 0, n := 0, acc := 0, rampX := false, nf := 0, x := 0, x2 := 0, tref := 0, normal := 0
    kth := 1, krg := 1, krsT0 := none, quick := false, solo := false, ramp0 := false, zeroAt := none, hold := false, offT0 := none
    offT := 0, overN := 0, gone := false, tlHist := [], shock := none, winEnd := none, snOn := false, relAt := none
    slackAt := none, slackHold := false, back := false, pendStop := none, vent := none, hv := [], hvLast := none, hvSpd := 0
    hvAcc := 0, hvStall := none, hvFade := none, hvOut := false, hvGap := 0, nPos := 0 }

/-- A member of which nothing has been heard. -/
def Member.reset : Member :=
  { now := none, last := none, miss := 0, act := .off, c := 0, share := 0, spdN := 0, fault := false, node := 0, age := 0
    barred := false, actN := 0, outSeen := false, noticed := none }

/-- Load sharing of an axis that is in no group. -/
def LshAx.reset : LshAx :=
  { members := Vector.replicate 16 Member.reset, leads := [], lead := none, noLead := 0, noQuor := 0, belowN := 0
    offN := 0, yield := false, cmd := 0, tm := 0, nRef := 0, nCmd := 0, tRef := 0, didMin := 0, kcap := 1, teAx := 0
    teDiff := 0, teOwn := 0, teOld := 0, ramp := none, mine := none, parted := false, seen := 0, seenOld := 0
    told := false, drop := 0, sig := 0, applied := false, ran := false, axisHeld := false }

/-- A pass-through output that follows nothing. -/
def PtOut.reset : PtOut :=
  { emu := 0, live := false, mech := 0, org := 0, last := none, edges := 0, z := false, pins := none }

/-- A feedback port at Dawn: no count, direction positive. -/
def FbPort.reset : FbPort :=
  { r := 0, neg := false, h := 0, offset := 0, turnAdj := 0, la := false, lb := false, lz := false, per := 0, ang := none
    loadZ := false, zOfs := none, load := false, turnZ := false, disarm := false, cmpW := none, again := false, prevP := 0, eq := false
    hStart := 0, revd := false, stillN := 0, amp := 0, ampN := 0, freqBad := false, wireBad := false, clkAt := none, reqAt := none
    word := none, wordAt := 0, periods := 0, anew := false, winWord := none, excOff := false, supply := true, pulse := false }

/-- A channel at rest at 0. -/
def PrgCh.reset : PrgCh :=
  { p := 0, v := 0, a := 0, at_ := 0, plan := [], goal := 0, goAgain := false, replan := false, rest := true
    stop := none, halts := false, devAt := none, p0 := 0, h0 := 0, c0 := 0, phi0 := 0, gearU := 0, rate := 0, dirHi := false
    edgeAt := 0, checkAt := none, dirAt := 0, stepHi := false, jog := 0, cmd := 0 }

/-- An axis with nothing monitored. -/
def SfAxis.reset : SfAxis :=
  { hist := [], stale := 0, ss1Since := none, ss1N0 := 0, ss1From := none, ss1End := false, portSto := false, stoWait := false
    slsN0 := 0, sdiRef := none, sdiNeg := false, sdiBoth := false }

/-- The island before its firmware runs. -/
def Island.reset : Island :=
  { dead := false, bothLow := false, bothRose := false, removedAt := Vector.replicate 4 none, checked := 0, staging := none
    saved := Vector.replicate 4 SfAxis.reset }

/-- A port that has heard nothing. -/
def WPort.reset : WPort :=
  { trainN := 0, hello := none, seq := none, seqAt := 0, syncAt := 0, heardAt := 0, rtAt := 0, delays := [], reqT := none, cost := [], q01 := [], q2 := []
    q3 := [], tx := none, turn := 0, gone := [], c0Cycle := 0, c0Bytes := 0, tokens := 344, tokAt := 0, routeAt := none
    due := false, sent := 0 }

/-- A node with no address that follows no one. -/
def Weft.reset : Weft :=
  { port := Vector.replicate 4 WPort.reset, cand := 0, claims := 0, pktOut := Vector.replicate 4 0, casts := [], ctx := []
    fwq := [], known := [], dawn := [], parent := none, newN := 0, newSum := 0, wins := 0, offset := 0, rate := 0
    frac := 0, seq := 0, ping := none }

/-- A controller off the bus with nothing loaded. -/
def CanCtl.reset : CanCtl :=
  { fifo := [], tb := Vector.replicate 3 none, tecN := 0, recN := 0, aborts := 0, sof := 0, clashAt := none }

/-- The machine right after reset: every register at the reset value its table gives (an unlisted register reads
its reset value), no profile stored, nothing waiting. Values the spec does not give are listed in log entry 2. -/
def State.reset : State :=
  { pending := []
    fresh := 0, weft := 0, regs := [], params := [], topology := .q4, classW := 0
    slots := Vector.replicate 4 Profile.empty, images := Vector.replicate 2 Image.initial
    sys := Sys.reset, jr := Journal.reset, con := Console.reset
    gc := Vector.replicate 28 GateChan.reset, conflict := 0, shoot := Vector.replicate 4 Shoot.reset
    psp := Vector.replicate 4 PspSet.reset, sfiSto := 0, sfiAsc := 0, cp := Vector.replicate 4 CorePair.reset, hif := Hif.reset, sram := []
    pwm := Vector.replicate 4 PwmSet.reset, mfe := Vector.replicate 4 MfeSet.reset, railsUp := false
    lane := Vector.replicate 4 Lane.reset
    pos := Vector.replicate 4 PosAx.reset, spd := Vector.replicate 4 SpdAx.reset
    lsh := Vector.replicate 4 LshAx.reset
    fb := Vector.replicate 4 FbPort.reset, pt := Vector.replicate 4 PtOut.reset
    prg := Vector.replicate 8 PrgCh.reset, lim := 0
    isl := Island.reset, sfa := Vector.replicate 4 SfAxis.reset
    sfs := Vector.replicate 4 { overN := 0, seen := false, got := false, gap := 0, hot := false, late := false, ofs := 0 }
    si := Vector.replicate 16 { raw := false, allHigh := false, laterPass := false }
    sip := Vector.replicate 8 { together := false, since := none, cleared := false }
    tst := Vector.replicate 4 { pulse := false, since := 0, off := false, goodFrom := none }
    so := Vector.replicate 4 { hi := false, lo := false, hiAt := 0, loAt := 0 }
    sc := Vector.replicate 32 { first := [], good := 0, base := false, wd := false, wdAt := 0, last := [] }
    wft := Weft.reset
    can := Vector.replicate 4 CanCtl.reset
    thm := { sensor := Vector.replicate 38 { t := 0, hist := [], told := false }, kth := Vector.replicate 4 1 }
    timers := [] }

end Sys2Proof.Machine
end

