-- ==== Sys2Proof/Machine/Ops.lean ====
section
/-! DEFINITION. The named operations over the state that every meaning is built from: sparse banks in canonical
form, registers and fields, free values, the journal, interrupts, completion rings and events. -/

namespace Sys2Proof.Machine

/-! ## Sparse banks in canonical form -/

/-- The value at a key: the listed one, else what an unlisted key reads as. -/
def sparseGet {β : Type} (d : Nat → β) : List (Nat × β) → Nat → β
  | [], k => d k
  | (a, v) :: r, k => if a = k then v else sparseGet d r k

/-- Drops the entry of a key. -/
def sparseDrop {β : Type} (k : Nat) : List (Nat × β) → List (Nat × β)
  | [] => []
  | (a, v) :: r => if a = k then sparseDrop k r else (a, v) :: sparseDrop k r

/-- Puts an entry before the first larger key. -/
def sparseInsert {β : Type} (k : Nat) (v : β) : List (Nat × β) → List (Nat × β)
  | [] => [(k, v)]
  | (a, w) :: r => if k < a then (k, v) :: (a, w) :: r else (a, w) :: sparseInsert k v r

/-- Writes a key: the entry is dropped when it would equal what an unlisted key reads as (log entry 1). -/
def sparsePut {β : Type} [DecidableEq β] (d : Nat → β) (b : List (Nat × β)) (k : Nat) (v : β) : List (Nat × β) :=
  if v = d k then sparseDrop k b else sparseInsert k v (sparseDrop k b)

/-- The canonical form: keys strictly rising and no entry that equals what an unlisted key reads as. -/
def sparseWf {β : Type} [DecidableEq β] (d : Nat → β) : List (Nat × β) → Bool
  | [] => true
  | (a, v) :: r => decide (v ≠ d a) && r.all (fun e => decide (a < e.1)) && sparseWf d r

/-- What a byte of system SRAM that nothing has written reads as (log entry 1). -/
def sramEmpty (_ : Nat) : Byte := 0

/-- The canonical form of the byte memory. -/
def Memory.wf (m : Memory) : Bool := sparseWf sramEmpty m

/-- The canonical form of the register bank. -/
def Bank.wfRegs (b : Bank) : Bool := sparseWf resetWord b

/-- The canonical form of a parameter bank. -/
def Bank.wfParams (b : Bank) : Bool := sparseWf paramDefault b

/-! ## Registers and fields -/

/-- The stored value of a register. -/
def State.reg (s : State) (a : Nat) : Word := sparseGet resetWord s.regs a

/-- Stores a register. -/
def State.setReg (s : State) (a : Nat) (w : Word) : State :=
  { s with regs := sparsePut resetWord s.regs a w }

/-- A mask of n ones. -/
def ones (n : Nat) : Word := BitVec.ofNat 32 (2 ^ n - 1)

/-- The field of a word. -/
def fieldGet (w : Word) (lo width : Nat) : Nat := ((w >>> lo) &&& ones width).toNat

/-- A word with one field replaced. -/
def fieldPut (w : Word) (lo width v : Nat) : Word :=
  (w &&& ~~~(ones width <<< lo)) ||| ((BitVec.ofNat 32 v &&& ones width) <<< lo)

/-- The value of a register field. -/
def State.fld (s : State) (f : Field) : Nat := fieldGet (s.reg f.addr) f.lo f.width

/-- The value of a register field read as two's complement. -/
def State.sfld (s : State) (f : Field) : Int :=
  let v := s.fld f
  if 2 ^ (f.width - 1) ≤ v then (v : Int) - (2 ^ f.width : Nat) else v

/-- Sets a register field; bits beyond its width are dropped. -/
def State.setFld (s : State) (f : Field) (v : Nat) : State :=
  s.setReg f.addr (fieldPut (s.reg f.addr) f.lo f.width v)

/-- Sets a register field to a two's complement number. -/
def State.setSfld (s : State) (f : Field) (v : Int) : State :=
  s.setFld f (v % (2 ^ f.width : Nat)).toNat

/-- Whether a flag is set. -/
def State.flag (s : State) (f : Field) : Bool := s.fld f != 0

/-- Sets or clears a flag. -/
def State.setFlag (s : State) (f : Field) (b : Bool) : State := s.setFld f (if b then 1 else 0)

/-- Counts one up in a field that saturates at all ones. -/
def State.incSat (s : State) (f : Field) : State :=
  s.setFld f (min (s.fld f + 1) (2 ^ f.width - 1))

/-- Counts one up in a field that wraps. -/
def State.incWrap (s : State) (f : Field) : State := s.setFld f (s.fld f + 1)

/-- Applies an operation for each element of a list, in order. -/
def forAll {α : Type} (l : List α) (f : α → State → State) (s : State) : State :=
  l.foldl (fun t x => f x t) s

/-- Applies an operation where a condition holds. -/
def when (c : Bool) (f : State → State) (s : State) : State := if c then f s else s

/-- The four indices of sets, axes, pairs, ports and controllers. -/
def four : List (Fin 4) := [0, 1, 2, 3]

/-- The three phases. -/
def three : List (Fin 3) := [0, 1, 2]

/-! ## Parameters -/

/-- The stored word of a parameter: P<g>.<i> of an instance. -/
def State.parWord (s : State) (g i inst : Nat) : Word := sparseGet paramDefault s.params (paramKey g i inst)

/-- The value of a parameter, in the unit of its table (R12): binary32, or an integer where its group says so. -/
def State.par (s : State) (g i inst : Nat) : Rat :=
  match paramRow g i with
  | some r =>
    match r.form with
    | .f32 => f32Val (s.parWord g i inst)
    | .i32 => (s32 (s.parWord g i inst) : Rat)
    | .u32 => ((s.parWord g i inst).toNat : Rat)
  | none => 0

/-- A parameter that is a whole number. -/
def State.parNat (s : State) (g i inst : Nat) : Nat := (s.par g i inst).floor.toNat

/-- A parameter that is 0 or 1. -/
def State.parOn (s : State) (g i inst : Nat) : Bool := s.par g i inst != 0

/-- Stores a parameter word. -/
def State.setPar (s : State) (g i inst : Nat) (w : Word) : State :=
  { s with params := sparsePut paramDefault s.params (paramKey g i inst) w }

/-! ## Free values -/

/-- A fresh free word (log entry 3). -/
def State.freeWord (s : State) : Word × State := (Config.freeWord s.fresh, { s with fresh := s.fresh + 1 })

/-- A fresh free number (log entry 3). -/
def State.freeNat (s : State) : Nat × State := (Config.freeNat s.fresh, { s with fresh := s.fresh + 1 })

/-- A fresh free outcome (log entry 3). -/
def State.freeBool (s : State) : Bool × State := (Config.freeBool s.fresh, { s with fresh := s.fresh + 1 })

/-- A fresh free quantity (log entry 3). -/
def State.freeRat (s : State) : Rat × State := (Config.freeRat s.fresh, { s with fresh := s.fresh + 1 })

/-- A fresh free 64-bit value (log entry 3). -/
def State.freeTime (s : State) : Time × State := (Config.freeTime s.fresh, { s with fresh := s.fresh + 1 })

/-! ## Modes -/

/-- The code of a mode (R76). -/
def Mode.code : Mode → Nat
  | .deepNight => 0 | .night => 1 | .dawn => 2 | .ready => 3 | .run => 4 | .hold => 5 | .service => 6 | .dusk => 7

/-- The mode of a code (R76). -/
def Mode.ofCode : Nat → Mode
  | 0 => .deepNight | 1 => .night | 2 => .dawn | 3 => .ready | 4 => .run | 5 => .hold | 6 => .service | _ => .dusk

/-- The device mode, as SYS_MODE reports it (R100). -/
def State.mode (s : State) : Mode := Mode.ofCode (s.fld Fld.SYS_MODE_MODE)

/-- Whether the device has power and clocks: neither in reset nor in NIGHT or DEEP NIGHT. -/
def State.awake (s : State) : Bool :=
  !s.sys.inReset && s.mode != .night && s.mode != .deepNight

/-- Whether a Dawn has stopped (R95). -/
def State.dawnFailed (s : State) : Bool := s.mode == .dawn && s.flag Fld.SYS_DAWN_FAILED

/-- Whether CP_0 firmware runs: its pair has started and has not failed (R501, R612). -/
def State.cp0Runs (s : State) : Bool :=
  s.awake && s.sys.pairStarted.getLsbD 0 && !s.flag (Fld.LCK_STATUS_FAILED 0)

/-! ## Interrupt sources (R494) -/

/-- Sets or clears interrupt source k in LCK_CP_n_IRQPEND of every pair. -/
def State.setIrq (s : State) (k : Nat) (b : Bool) : State :=
  forAll four (fun n t => t.setFld ⟨Reg.LCK_IRQPEND n, k, 1⟩ (if b then 1 else 0)) s

/-- Raises an interrupt source. -/
def State.irq (s : State) (k : Nat) : State := s.setIrq k true

/-! ## The event journal (R606, R607) -/

/-- Whether two instants of Weft time lie in one clock of 400 MHz, 2.5 ns (R607). -/
def sameClock (t u : Time) : Bool := t.toNat * 2 / 5 == u.toNat * 2 / 5

/-- Inserts an entry: entries of the same clock stand in the order of their CODE (R607). -/
def JEntry.insert (e : JEntry) : List JEntry → List JEntry
  | [] => [e]
  | x :: r =>
    if e.wtime ≠ 0 ∧ sameClock x.wtime e.wtime ∧ e.code.toNat < x.code.toNat then e :: x :: r else x :: JEntry.insert e r

/-- Puts an entry into the controller's queue, or counts it as lost (R607). A disabled journal takes nothing. -/
def State.journalFull (s : State) (code unit : Nat) (hw : Bool) (d0 d1 : Word) : State :=
  if s.flag Fld.SVC_JSTAT_DISABLED then s
  else if 64 ≤ s.jr.queue.length then
    { s with jr := { s.jr with lostNow := s.jr.lostNow + 1 } }.incSat Fld.SVC_JSTAT_LOST
  else
    let e : JEntry :=
      { code := BitVec.ofNat 16 code, unit := BitVec.ofNat 8 unit, hw := hw
        rtcValid := s.flag Fld.PMU_NIGHT_RTC_VALID, mode := s.mode, wtime := s.weft, rtc := s.reg Reg.PMU_RTC
        d0 := d0, d1 := d1 }
    let q := e.insert s.jr.queue
    ({ s with jr := { s.jr with queue := q } }.setFld Fld.SVC_JSTAT_QUEUE q.length).irq 1

/-- A hardware-raised journal entry. -/
def State.journal (s : State) (code unit : Nat) (d0 : Word := 0) (d1 : Word := 0) : State :=
  s.journalFull code unit true d0 d1

/-- A journal entry that firmware raises. -/
def State.journalFw (s : State) (code unit : Nat) (d0 : Word := 0) (d1 : Word := 0) : State :=
  s.journalFull code unit false d0 d1

/-! ## Completion rings (R516 to R523) -/

/-- Entries of a ring whose SIZE field reads k (R539: codes below 4 act as 4, above 0xC as 0xC). -/
def ringSize (k : Nat) : Nat := 2 ^ (max 4 (min 12 k))

/-- Entries of CQ_n. -/
def State.cqSize (s : State) (n : Nat) : Nat := ringSize (s.fld (Fld.HIF_CQ_CFG_SIZE n))

/-- Entries of SQ_n. -/
def State.sqSize (s : State) (n : Nat) : Nat := ringSize (s.fld (Fld.HIF_SQ_CFG_SIZE n))

/-- Whether CQ_n is full: (tail + 1) modulo 2^k equals its head (R522). -/
def State.cqFull (s : State) (n : Nat) : Bool :=
  (s.fld (Fld.HIF_CQ_PTR_TAIL n) + 1) % s.cqSize n == s.fld (Fld.HIF_CQ_PTR_HEAD n)

/-- The bytes of a word, low byte first. -/
def wordBytes (w : Word) : List Byte := [w.extractLsb' 0 8, w.extractLsb' 8 8, w.extractLsb' 16 8, w.extractLsb' 24 8]

/-- The 32 bytes of a completion (R519). -/
def Completion.bytes (e : Completion) : List Byte :=
  [e.cid.extractLsb' 0 8, e.cid.extractLsb' 8 8, e.source, e.status, (e.sqHead.setWidth 16).extractLsb' 0 8,
    (e.sqHead.setWidth 16).extractLsb' 8 8, e.opcode, e.detail] ++
  ((e.data ++ [0, 0, 0, 0]).take 4).flatMap wordBytes ++ wordBytes e.time ++
  [0, 0, 0, if e.phase then 1 else 0]

/-- Writes bytes to system SRAM from an offset; bytes beyond its 8 MB do not exist and are dropped. -/
def State.sramWrite : State → Nat → List Byte → State
  | s, _, [] => s
  | s, a, b :: r =>
    State.sramWrite (if a < 0x80_0000 then { s with sram := sparsePut sramEmpty s.sram a b } else s) (a + 1) r

/-- Changes what the model keeps of SQ_n. -/
def State.modSq (s : State) (n : Fin 16) (f : SubRing → SubRing) : State :=
  { s with hif := { s.hif with sq := s.hif.sq.set n (f s.hif.sq[n]) } }

/-- Changes what the model keeps of CQ_n. -/
def State.modCq (s : State) (n : Fin 16) (f : CplRing → CplRing) : State :=
  { s with hif := { s.hif with cq := s.hif.cq.set n (f s.hif.cq[n]) } }

/-- Posts an MSI-X message, or sets the pending bit of a masked vector (R511, R512; log entry 21). -/
def State.msix (s : State) (vec : Nat) : State :=
  if s.fld ⟨Reg.MSIX_CTRL vec, 0, 1⟩ = 1 then s.setFld ⟨Reg.MSIX_PBA, vec, 1⟩ 1
  else { s with hif := { s.hif with signals := vec :: s.hif.signals } }

/-- The signal of CQ_n: an MSI-X vector, or the software interrupt of pair VEC[1:0] (R523). -/
def State.cqSignal (s : State) (n : Fin 16) : State :=
  let vec := s.fld (Fld.HIF_CQ_CFG_VEC n)
  let s := s.modCq n fun c => { c with unsignal := 0, timer := false }
  if s.flag (Fld.HIF_CQ_CFG_TARGET n) then s.setFlag (Fld.LCK_MSIP_MSIP (vec % 4)) true
  else s.msix vec

/-- Writes an entry at the tail of CQ_n, which is enabled and has room, with the head of its SQ at that time, and counts it there (R519,
R522, R523, R539). -/
def State.cqWrite (s : State) (n : Fin 16) (e : Completion) : State :=
  let tail := s.fld (Fld.HIF_CQ_PTR_TAIL n)
  let phase := s.flag (Fld.HIF_CQ_PTR_PHASE n)
  let own := !e.source.getLsbD 7
  let head : BitVec 12 := if own then BitVec.ofNat 12 (s.fld (Fld.HIF_SQ_PTR_HEAD (e.source.toNat % 16))) else 0
  let e := { e with phase := phase, time := BitVec.ofNat 32 (s.weft.toNat / 1000), sqHead := head }
  let s := when own (·.incWrap (Fld.HIF_SQ_STAT_DONE (e.source.toNat % 16))) s
  let next := (tail + 1) % s.cqSize n
  let s := when (s.flag (Fld.HIF_CQ_CFG_PLACE n))
    (fun t => t.sramWrite ((t.reg (Reg.HIF_CQ_BASE_LO n)).toNat + 32 * tail) e.bytes) s
  let s := (s.modCq n fun c => { c with entries := c.entries ++ [e] }).setFld (Fld.HIF_CQ_PTR_TAIL n) next
  let s := when (next == 0) (·.setFlag (Fld.HIF_CQ_PTR_PHASE n) (!phase)) s
  let s := s.setFlag (Fld.HIF_CQ_CFG_FULL n) (s.cqFull n)
  if e.silent then s
  else
    let now := s.sys.poweredNs
    let s := s.modCq n fun c =>
      { c with unsignal := c.unsignal + 1, timer := true, firstAt := if c.unsignal = 0 then now else c.firstAt }
    if s.fld (Fld.HIF_CQ_CFG_ITIME n) = 0 ∨ max 1 (s.fld (Fld.HIF_CQ_CFG_ICNT n)) ≤ s.hif.cq[n].unsignal then
      s.cqSignal n
    else s

/-- Addresses a completion to CQ_n: dropped and counted while it is disabled (R517), kept back while it is full or
stopped by an error (R522, R533), otherwise written. -/
def State.cqPush (s : State) (n : Fin 16) (e : Completion) : State :=
  if !s.flag (Fld.HIF_CQ_CFG_ENABLE n) then s.incSat (Fld.HIF_CQ_STAT_DROP n)
  else if s.flag (Fld.HIF_CQ_CFG_ERR n) || s.cqFull n then
    let s := when (!s.hif.cq[n].stalled) (·.incSat (Fld.HIF_CQ_STAT_STALL n)) s
    s.modCq n fun c => { c with backlog := c.backlog ++ [e], stalled := true }
  else s.cqWrite n e

/-- An index of a ring from a register field. -/
def ringIx (n : Nat) : Fin 16 := Fin.ofNat 16 n

/-- Writes an event entry (R532): only where events and the code are enabled; a full or stopped CQ loses it. -/
def State.event (s : State) (code : Nat) (data : List Word) : State :=
  let n := ringIx (s.fld Fld.HIF_CFG_EVTCQ)
  if !(s.flag Fld.HIF_CFG_EVTEN && (s.fld Fld.HIF_CFG_EVMASK).testBit code) then s
  else
    let e : Completion :=
      { cid := 0, source := 0x80, status := 0, sqHead := 0, opcode := BitVec.ofNat 8 code, detail := 0, data := data
        time := 0, phase := false, silent := false }
    if !s.flag (Fld.HIF_CQ_CFG_ENABLE n) then s.incSat (Fld.HIF_CQ_STAT_DROP n)
    else if s.flag (Fld.HIF_CQ_CFG_ERR n) || s.cqFull n then
      { s with hif := { s.hif with evtLost := s.hif.evtLost + 1 } }.incSat Fld.HIF_STATUS_EVTLOST
    else s.cqWrite n e

/-! ## The console's output (R611) -/

/-- Sends one line on SVC_TXD. -/
def State.say (s : State) (l : Line) : State := { s with con := { s.con with out := s.con.out ++ [l] } }

/-- Sends the data lines of a response and its final OK (R611). -/
def State.reply (s : State) (ls : List Line) : State :=
  { s with con := { s.con with out := s.con.out ++ ls ++ [.ok] } }

/-- Sends a final line ERR with a word (R611). -/
def State.replyErr (s : State) (w : String) : State := s.say (.err w)

/-! ## Completing a descriptor (R519, R531) -/

/-- Completion status codes (R531). -/
def St.SUCCESS : Nat := 0x00
def St.BAD_OPCODE : Nat := 0x01
def St.BAD_FIELD : Nat := 0x02
def St.PARAM_UNKNOWN : Nat := 0x03
def St.PARAM_RANGE : Nat := 0x04
def St.PARAM_LOCKED : Nat := 0x05
def St.SEALED : Nat := 0x06
def St.SEAL_FAIL : Nat := 0x07
def St.MODE_DENIED : Nat := 0x08
def St.NO_PROFILE : Nat := 0x09
def St.AXIS_FAULT : Nat := 0x0A
def St.EN_LOW : Nat := 0x0B
def St.NO_FEEDBACK : Nat := 0x0C
def St.DC_LOW : Nat := 0x0D
def St.MEAS_FAIL : Nat := 0x0E
def St.START_FAIL : Nat := 0x0F
def St.NOT_STOPPED : Nat := 0x10
def St.NOT_LEAD : Nat := 0x11
def St.STOPPING : Nat := 0x12
def St.NO_REF : Nat := 0x13
def St.RANGE : Nat := 0x14
def St.LIMIT : Nat := 0x15
def St.UNIT_FAILED : Nat := 0x16
def St.IN_USE : Nat := 0x17
def St.STO_DEMANDED : Nat := 0x18
def St.STO_FAIL : Nat := 0x19
def St.CHAIN_TIMEOUT : Nat := 0x1A
def St.CHAIN_BROKEN : Nat := 0x1B
def St.CHAIN_ORPHAN : Nat := 0x1C
def St.ABORTED : Nat := 0x1D
def St.DMA_ERROR : Nat := 0x1E
def St.BUSY : Nat := 0x1F
def St.IMAGE_FAIL : Nat := 0x20

/-- Completes a descriptor: on the console ring (sq 16, R612) as a reply, on SQ_n as an entry of its CQ; an SQ stopped by an error
completes nothing until it starts again (R533). -/
def State.complete (s : State) (h : Desc) (opcode status : Nat) (detail : Nat := 0) (data : List Word := []) : State :=
  if 16 ≤ h.sq.val then
    if status = St.SUCCESS then s.reply (data.map fun w => .data [("v", w.toNat)]) else s.say (.status status)
  else
    let n := h.sq.val
    let e : Completion :=
      { cid := h.cid, source := BitVec.ofNat 8 n, status := BitVec.ofNat 8 status
        sqHead := 0, opcode := BitVec.ofNat 8 opcode
        detail := BitVec.ofNat 8 detail, data := data, time := 0, phase := false, silent := h.silent }
    let s := s.modSq (ringIx n) fun q => { q with due := q.due - 1 }
    if s.flag (Fld.HIF_SQ_CFG_ERR n) then s.modSq (ringIx n) fun q => { q with held := q.held ++ [e] }
    else s.cqPush (ringIx (s.fld (Fld.HIF_SQ_CFG_CQ n))) e

/-! ## Topology (R2, R3, R24) -/

/-- The axis that owns a set in a topology (R3). -/
def Topology.axis : Topology → Fin 4 → Fin 4
  | .q4, s => s
  | .d2, s => if s.val < 2 then 0 else 1
  | .m1, _ => 0
  | .p1, _ => 0

/-- Whether an axis index exists in a topology (R3). -/
def Topology.has (t : Topology) (a : Fin 4) : Bool := four.any fun s => t.axis s == a

/-- The sets of an axis (R3). -/
def Topology.sets (t : Topology) (a : Fin 4) : List (Fin 4) := four.filter fun s => t.axis s == a

/-- Whether a profile is active (R92). -/
def State.profileActive (s : State) : Bool := s.sys.active.isSome

/-- Whether an axis exists in the active topology; with no active profile there is no topology (R22). -/
def State.axisExists (s : State) (a : Fin 4) : Bool := s.profileActive && s.topology.has a

/-- The sets an axis owns in the active topology. -/
def State.axisSets (s : State) (a : Fin 4) : List (Fin 4) := if s.profileActive then s.topology.sets a else []

/-- The axis that owns a set, if a profile is active. -/
def State.ownerAxis (s : State) (x : Fin 4) : Option (Fin 4) := if s.profileActive then some (s.topology.axis x) else none

/-- Whether an axis is class W; with no active profile every set counts as class T (R156). -/
def State.isClassW (s : State) (a : Fin 4) : Bool := s.profileActive && s.classW.getLsbD a.val

/-- The set that owns a gate channel (R2). -/
def chanSet (n : Nat) : Fin 4 := if n < 24 then Fin.ofNat 4 (n / 6) else Fin.ofNat 4 (n - 24)

/-- The high-side channel of phase k of a set (R2). -/
def hiChan (x : Fin 4) (k : Fin 3) : Fin 28 := Fin.ofNat 28 (6 * x.val + 2 * k.val)

/-- The low-side channel of phase k of a set (R2). -/
def loChan (x : Fin 4) (k : Fin 3) : Fin 28 := Fin.ofNat 28 (6 * x.val + 2 * k.val + 1)

/-- The chopper channel of a set (R2). -/
def chopChan (x : Fin 4) : Fin 28 := Fin.ofNat 28 (24 + x.val)

/-- The six phase channels of a set. -/
def phaseChans (x : Fin 4) : List (Fin 28) := three.flatMap fun k => [hiChan x k, loChan x k]

/-- The seven channels of a set. -/
def setChans (x : Fin 4) : List (Fin 28) := phaseChans x ++ [chopChan x]

/-- The companion of a phase channel in its half-bridge (R2). -/
def companion (n : Fin 28) : Fin 28 := if n.val % 2 = 0 then Fin.ofNat 28 (n.val + 1) else Fin.ofNat 28 (n.val - 1)

/-! ## Per-block state -/

/-- Changes what the model keeps of a PWM channel. -/
def State.modPwm (s : State) (x : Fin 4) (f : PwmSet → PwmSet) : State := { s with pwm := s.pwm.set x (f s.pwm[x]) }

/-- Changes what the model keeps of the measurement of a set. -/
def State.modMfe (s : State) (x : Fin 4) (f : MfeSet → MfeSet) : State := { s with mfe := s.mfe.set x (f s.mfe[x]) }

/-- Changes what the model keeps of a lane. -/
def State.modLane (s : State) (x : Fin 4) (f : Lane → Lane) : State := { s with lane := s.lane.set x (f s.lane[x]) }

/-- Changes what the model keeps of the position channel of an axis. -/
def State.modPos (s : State) (a : Fin 4) (f : PosAx → PosAx) : State := { s with pos := s.pos.set a (f s.pos[a]) }

/-- Changes what the model keeps of the motion sequencer of an axis. -/
def State.modSpd (s : State) (a : Fin 4) (f : SpdAx → SpdAx) : State := { s with spd := s.spd.set a (f s.spd[a]) }

/-- The code of a writer in a REG_LOCKED entry (R607). -/
def writerCode : Writer → Nat
  | .pair n => n.val
  | .host => 0x10
  | .console => 0x20

/-- A write that is refused: discarded and journalled as REG_LOCKED with its writer, address and value (R10, R629). -/
def State.regLocked (s : State) (w : Writer) (addr : Nat) (value : Word) : State :=
  s.journal 0x0108 (writerCode w) (BitVec.ofNat 32 addr) value

/-- Whether a register write is refused although its access code allows it: the console writes only in READY and
SERVICE (R629). The rows of the SFI block and of LCK are checked where they are written. -/
def State.barred (s : State) (w : Writer) : Bool := w == .console && s.mode != .ready && s.mode != .service

/-- The instance of a register block that an address lies in: `n` instances of `stride` bytes from `base`. -/
def blockIx (a base stride n : Nat) : Option (Fin 4) :=
  if decide (base ≤ a) && decide (a < base + stride * n) && decide (n ≤ 4) then some (Fin.ofNat 4 ((a - base) / stride)) else none

/-- The axis index that a register belongs to (R22, R631): POS, SPD, LSH, the axis channels of PRG, and SFI_AX. -/
def regAxis (a : Nat) : Option (Fin 4) :=
  (blockIx a 0x4030_0000 0x100 4).orElse fun _ =>
    (blockIx a 0x4034_0000 0x100 4).orElse fun _ =>
      (blockIx a 0x4038_0000 0x100 4).orElse fun _ =>
        (blockIx a 0x4044_0000 0x100 4).orElse fun _ => blockIx a 0x4050_0100 0x40 4

/-- The bit of BST_FAIL of the unit that a register belongs to: pair, lane, feedback port, Weft port, CAN controller (R631,
R639). A gate channel is none of these: its self-test is started through its registers (R130). -/
def regUnit (a : Nat) : Option Nat :=
  let tag (k : Nat) (o : Option (Fin 4)) : Option Nat := o.map fun n => k + n.val
  (tag 0 (blockIx a 0x4003_0000 0x40 4)).orElse fun _ =>
    (tag 4 (blockIx a 0x4020_0000 0x1_0000 4)).orElse fun _ =>
      (tag 8 (blockIx a 0x4040_0000 0x100 4)).orElse fun _ =>
        (tag 12 (blockIx a 0x4070_0100 0x40 4)).orElse fun _ => tag 16 (blockIx a 0x4078_0000 0x1000 4)

/-- Whether a register takes no write and leaves no journal entry: it belongs to an axis index that does not exist (R22), or to
a unit that failed at Dawn (R628). -/
def State.deaf (s : State) (a : Nat) : Bool :=
  (regAxis a).any (fun (x : Fin 4) => !s.axisExists x) || (regUnit a).any fun (k : Nat) => (s.reg Reg.BST_FAIL).getLsbD k

/-- A write by a requester to a register that acts on what is written (R8, R629). -/
def State.access (s : State) (w : Writer) (a : Nat) (value : Word) (f : State → State) : Res :=
  if !s.awake then .next s
  else if s.barred w then .next (s.regLocked w a value)
  else if s.deaf a then .next s
  else .next (f s)

/-- Whether an in-line input is fitted and valid (R206, R223). -/
def State.inputValid (s : State) (x : Fin 4) (k : Fin 3) : Bool :=
  (s.fld (Fld.MFE_CFG_FIT x)).testBit k.val && !s.mfe[x].inv.getLsbD k.val

/-- The value of a phase. -/
def Cmp3.at (c : Cmp3) (k : Fin 3) : Int := match k with | 0 => c.u | 1 => c.v | _ => c.w

/-- Three compares from a function of the phase. -/
def Cmp3.of (f : Fin 3 → Int) : Cmp3 := { u := f 0, v := f 1, w := f 2 }

/-- The current of a phase. -/
def Amps3.at (c : Amps3) (k : Fin 3) : Rat := match k with | 0 => c.u | 1 => c.v | _ => c.w

/-- Three currents from a function of the phase. -/
def Amps3.of (f : Fin 3 → Rat) : Amps3 := { u := f 0, v := f 1, w := f 2 }

/-! ## Axis states (R305) -/

def AxSt.STOPPED : Nat := 0
def AxSt.STARTING : Nat := 1
def AxSt.RUNNING : Nat := 2
def AxSt.STOPPING : Nat := 3
def AxSt.SAFE : Nat := 4
def AxSt.FAULTED : Nat := 5

/-- The state of an axis, as SPD_AX_a_STATE reports it. -/
def State.axState (s : State) (a : Fin 4) : Nat := s.fld (Fld.SPD_STATE_STATE a)

/-- Whether an axis is STARTING, RUNNING or STOPPING. -/
def State.axActive (s : State) (a : Fin 4) : Bool := s.axState a == 1 || s.axState a == 2 || s.axState a == 3

/-- Whether an axis is shared (R329). -/
def State.isShared (s : State) (a : Fin 4) : Bool := s.flag (Fld.LSH_CFG_SHARED a)

/-- Whether this device is a member of a shared axis without being its lead (R353). -/
def State.isFollower (s : State) (a : Fin 4) : Bool := s.isShared a && s.fld (Fld.LSH_STATE_ROLE a) != 1

/-- Whether every axis is STOPPED. An axis that does not exist counts as STOPPED. -/
def State.allStopped (s : State) : Bool := four.all fun a => s.axState a == AxSt.STOPPED

/-- Whether no axis is STARTING, RUNNING or STOPPING. -/
def State.noneActive (s : State) : Bool := four.all fun a => !s.axActive a

/-- Whether the axis that owns a set is STARTING, RUNNING or STOPPING. -/
def State.setActive (s : State) (x : Fin 4) : Bool :=
  match s.ownerAxis x with
  | some a => s.axActive a
  | none => false

/-- Whether the RWL condition of R8 holds for an axis: it is STOPPED, or no profile is active (R641). -/
def State.axFree (s : State) (a : Fin 4) : Bool := !s.profileActive || s.axState a == AxSt.STOPPED

/-- The same for the axis that owns a set. -/
def State.setFree (s : State) (x : Fin 4) : Bool :=
  match s.ownerAxis x with
  | some a => s.axState a == AxSt.STOPPED
  | none => true

end Sys2Proof.Machine
end

