-- ==== Sys2Proof/Machine/WeftBase.lean ====
section
/-! DEFINITION. What every user of the Weft shares (chapter "The Weft fabric"): parameters in force, routes, peer
contexts, the egress queues of the ports, and originating frames and packets. -/

namespace Sys2Proof.Machine

/-- Changes what the model keeps of a port. -/
def State.modPort (s : State) (p : Fin 4) (f : WPort → WPort) : State :=
  { s with wft := { s.wft with port := s.wft.port.set p (f s.wft.port[p]) } }

/-- Changes what the model keeps of the node. -/
def State.modWft (s : State) (f : Weft → Weft) : State := { s with wft := f s.wft }

/-- A P36 parameter as it has been in force since Dawn (R575). -/
def State.p36 (s : State) (i : Nat) : Rat := ({ s with params := s.wft.dawn }).par 36 i 0

/-- The shed cycle in ns (R561). -/
def State.shedNs (s : State) : Nat := (s.p36 1 * 1000).floor.toNat

/-- SYNC_T in ns, rounded up to whole shed cycles (R575). -/
def State.syncNs (s : State) : Nat :=
  let t := (s.p36 22 * 1_000_000).floor.toNat
  let c := max 1 s.shedNs
  (t + c - 1) / c * c

/-- Node address; 0 is none (R552). -/
def State.nodeAddr (s : State) : Byte := BitVec.ofNat 8 (s.fld Fld.WFT_NODE_ADDR)

/-- LSTATE of a port (R545). -/
def State.lstate (s : State) (p : Fin 4) : Nat := s.fld (Fld.WFT_P_STATE_LSTATE p)

/-- Whether a port is ACTIVE. -/
def State.linkUp (s : State) (p : Fin 4) : Bool := s.lstate p == 2

/-- The ACTIVE ports. -/
def State.upPorts (s : State) : List (Fin 4) := four.filter fun p => s.linkUp p

/-- Whether Weft time is synchronised (R566). -/
def State.synced (s : State) : Bool := 2 ≤ s.fld Fld.WFT_SYNC_SSTATE

/-! ## Routes (R554, R557) -/

/-- What an address that nothing is known of costs. -/
def noCost (_ : Nat) : Nat := 16

/-- cost(a, w). -/
def State.cost (s : State) (a : Nat) (p : Fin 4) : Nat := sparseGet noCost s.wft.port[p].cost a

/-- Sets cost(a, w). -/
def State.setCost (s : State) (a : Nat) (p : Fin 4) (c : Nat) : State :=
  s.modPort p fun q => { q with cost := sparsePut noCost q.cost a (min 16 c) }

/-- The port of least cost among some; ties to the lowest index. -/
def State.leastPort (s : State) (a : Nat) (l : List (Fin 4)) : Fin 4 :=
  (l.foldl
    (fun (b : Option (Fin 4)) p =>
      match b with
      | none => some p
      | some q => if s.cost a p < s.cost a q then some p else some q) none).getD 0

/-- route_a of an address. -/
def State.routeA (s : State) (a : Nat) : Fin 4 := s.leastPort a four

/-- Whether the two routes of an address share a port. -/
def State.sharedRoute (s : State) (a : Nat) : Bool :=
  let r := s.routeA a
  let q := s.leastPort a (four.filter (· != r))
  decide (16 ≤ s.cost a q)

/-- route_b of an address. -/
def State.routeB (s : State) (a : Nat) : Fin 4 :=
  let r := s.routeA a
  if s.sharedRoute a then r else s.leastPort a (four.filter (· != r))

/-- metric(a): 0 for the own address. -/
def State.metric (s : State) (a : Nat) : Nat :=
  if a != 0 && s.nodeAddr.toNat == a then 0 else s.cost a (s.routeA a)

/-- Every metric, addresses 1 to 254. -/
def State.metrics (s : State) : List Nat := (List.range 254).map fun k => s.metric (k + 1)

/-- The reported route, the count of reachable addresses, and the address of a grandmaster that this node is (R569, R570, R572). -/
def State.weftLive (s : State) : State :=
  let a := s.fld Fld.WFT_ROUTE_SEL_ADDR
  let s := when (s.flag Fld.WFT_SYNC_GM) (·.setFld Fld.WFT_SYNC_GM_ADDR s.nodeAddr.toNat) s
  let s := s.setFld Fld.WFT_NODE_REACH ((List.range 254).countP fun k => s.nodeAddr.toNat != k + 1 && decide (s.metric (k + 1) < 16))
  let s := (s.setFld Fld.WFT_ROUTE_METRIC (s.metric a)).setFld Fld.WFT_ROUTE_PORT_A (s.routeA a).val
  (s.setFld Fld.WFT_ROUTE_PORT_B (s.routeB a).val).setFlag Fld.WFT_ROUTE_SHARED (s.sharedRoute a && decide (s.metric a < 16))

/-! ## Egress (R560, R561) -/

/-- Bytes of a frame on the link (R548). -/
def frameBytes (f : WFrame) : Nat := 22 + f.payload.length

/-- Whether a class 2 or 3 frame may start: none in the 275.2 ns before a slot in use (R561), which are the starts of the cycles of SYNC and of
DELAY_REQ and the member slots. -/
def State.slotClear (s : State) : Bool :=
  let t := s.shedNs
  if t = 0 then true
  else
    let now := s.weft.toNat % t
    let clear (due : Nat) : Bool := !decide (now < due ∧ due ≤ now + 275)
    let start := s.weft.toNat - now + t
    let half := s.syncNs / (2 * t) * t
    let used := start % s.syncNs == 0 || (start - half) % s.syncNs == 0
    let slots := (four.filter fun a => s.isShared a).map fun a =>
      s.fld (Fld.LSH_TIME_SLOT a) * 1000 + 500 * (s.fld (Fld.LSH_CFG_MEMBER_IDX a) + 1)
    (!used || clear t) && slots.all fun k => clear (k % t)

/-- The next frame of a port, with the queues without it (R560): class 0, then class 1, then three of class 2 for one of
class 3 while both wait. -/
def WPort.next (q : WPort) (low : Bool) : Option (WFrame × WPort) :=
  match q.q01.find? (fun f => f.cls == 0), q.q01 with
  | some f, _ => some (f, { q with q01 := q.q01.erase f })
  | none, f :: r => some (f, { q with q01 := r })
  | none, [] =>
    if !low then none
    else
      match q.q2, q.q3 with
      | f :: r, [] => some (f, { q with q2 := r, turn := 0 })
      | [], f :: r => some (f, { q with q3 := r, turn := 0 })
      | f :: r, g :: t =>
        if q.turn < 3 then some (f, { q with q2 := r, turn := q.turn + 1 }) else some (g, { q with q3 := t, turn := 0 })
      | [], [] => none

/-- An idle port starts its next frame; SYNC and DELAY frames take their departure time (R548, R560). -/
def State.portPoll (s : State) (p : Fin 4) : State :=
  let q := s.wft.port[p]
  if q.tx.isSome || !s.linkUp p then s
  else
    match q.next s.slotClear with
    | none => s
    | some (f, q') =>
      let timed := f.kind == 6 || f.kind == 7 || f.kind == 8
      let now := s.weft
      let f : WFrame := { f with ts := if timed then now else 0 }
      s.modPort p fun _ =>
        { q' with tx := some f, sent := q'.sent + frameBytes f, reqT := if f.kind == 7 then some now else q'.reqT }

/-- Puts a frame into the egress queue of a port, or discards it where the queue is full (R560). -/
def State.enqueue (s : State) (p : Fin 4) (f : WFrame) : State :=
  if !s.linkUp p then s
  else
    let q := s.wft.port[p]
    if f.cls.toNat < 2 then
      if 3 ≤ q.q01.length then s.incSat (Fld.WFT_P_ERR_Q01_DROP p)
      else (s.modPort p fun q => { q with q01 := q.q01 ++ [f] }).portPoll p
    else
      let key := (f.src, f.cls, f.pkt)
      let lost := q.gone.any (· == key)
      let full := decide (12 ≤ (if f.cls == 2 then q.q2 else q.q3).length)
      if lost || full then
        (s.modPort p fun q =>
          { q with gone := if f.last then q.gone.filter (· != key) else if lost then q.gone else key :: q.gone.take 63 }).incSat
          (Fld.WFT_P_UTIL_Q23_DROP p)
      else if f.cls == 2 then (s.modPort p fun q => { q with q2 := q.q2 ++ [f] }).portPoll p
      else (s.modPort p fun q => { q with q3 := q.q3 ++ [f] }).portPoll p

/-- Originates a class 0 frame on a port within 25 % of a shed cycle (R560). -/
def State.originate0 (s : State) (p : Fin 4) (f : WFrame) : State :=
  let c := s.shedNs
  let cycle := if c = 0 then 0 else s.weft.toNat / c
  let q := s.wft.port[p]
  let sofar := if q.c0Cycle = cycle then q.c0Bytes else 0
  -- 2.5 Gbit/s is 0.3125 bytes per ns
  if c * 5 < (sofar + frameBytes f) * 64 then s.incSat Fld.WFT_CNT2_C0_OVER
  else (s.modPort p fun q => { q with c0Cycle := cycle, c0Bytes := sofar + frameBytes f }).enqueue p f

/-- Originates a class 1 frame on a port under its token bucket: 5 % of the link, a burst of 4 frames (R560). -/
def State.originate1 (s : State) (p : Fin 4) (f : WFrame) : State :=
  let q := s.wft.port[p]
  let now := s.sys.poweredNs
  let t := min 344 (q.tokens + ((now - q.tokAt : Nat) : Rat) / 64)
  if t < ((frameBytes f : Nat) : Rat) then s.modPort p fun q => { q with tokens := t, tokAt := now }
  else (s.modPort p fun q => { q with tokens := t - (frameBytes f : Nat), tokAt := now }).enqueue p f

/-- Originates a frame of any class on a port. -/
def State.originate (s : State) (p : Fin 4) (f : WFrame) : State :=
  match f.cls.toNat with
  | 0 => s.originate0 p f
  | 1 => s.originate1 p f
  | _ => s.enqueue p f

/-- A fresh packet number of the node for a class (R548). -/
def State.takePkt (s : State) (cls : Fin 4) : BitVec 16 × State :=
  let k := s.wft.pktOut[cls]
  (k, s.modWft fun w => { w with pktOut := w.pktOut.set cls (k + 1) })

/-- Cuts bytes into pieces of 64, at most `n` of them. -/
def pieces : Nat → List Byte → List (List Byte)
  | 0, _ => []
  | n + 1, l => if l.length ≤ 64 then [l] else l.take 64 :: pieces n (l.drop 64)

/-- The frames of a packet: its CRC-32C appended, cut into fragments (R550). -/
def fragments (base : WFrame) (body : List Byte) : List WFrame :=
  let l := pieces 14 (body ++ wordBytes (crc32c body))
  (List.range l.length).map fun k =>
    { base with frag := BitVec.ofNat 4 k, last := k + 1 == l.length, payload := l.getD k [] }

/-- A frame of this node with no payload yet. -/
def State.ownFrame (s : State) (kind cls : Nat) (dst : Byte) (pkt : BitVec 16) : WFrame :=
  { kind := BitVec.ofNat 4 kind, cls := BitVec.ofNat 2 cls, routeB := false, dst := dst, src := s.nodeAddr, hops := 0
    frag := 0, last := true, pkt := pkt, ts := 0, payload := [] }

/-- Broadcasts the frames of a packet on every ACTIVE port. -/
def State.broadcast (s : State) (fs : List WFrame) : State := forAll s.upPorts (fun p t => forAll fs (fun f u => u.originate p f) t) s

/-- Sends one class 0 payload of this node to every node (R337). -/
def State.sendClass0 (s : State) (body : List Byte) : State :=
  if s.nodeAddr == 0 then s
  else
    let r := s.takePkt 0
    let f : WFrame := { s.ownFrame 1 0 255 r.1 with payload := body }
    r.2.broadcast [f]

/-! ## Peer contexts (R558) -/

/-- Reports the contexts (R571). -/
def State.ctxLive (s : State) : State :=
  (s.setFld Fld.WFT_CTX_USED s.wft.ctx.length).setFld Fld.WFT_CTX_PINNED (s.wft.ctx.countP (·.pinned))

/-- The unpinned context unused for longest. -/
def oldestCtx (l : List Ctx) : Option Ctx :=
  l.foldl
    (fun b c =>
      if c.pinned then b
      else match b with
        | none => some c
        | some d => if c.heard < d.heard then some c else some d) none

/-- Whether a context is that of a peer and class, and of a safety connection or of none. -/
def Ctx.isFor (c : Ctx) (addr : Byte) (cls : BitVec 2) (conn : Option (Fin 32)) : Bool :=
  c.addr == addr && c.cls == cls && c.conn == conn

/-- A context for a peer and class, or for a safety connection: the one there is, pinned where that is asked, a new one, or one taken
over; none while all 256 are pinned. -/
def State.ctxFor (s : State) (addr : Byte) (cls : BitVec 2) (pinned : Bool) (conn : Option (Fin 32) := none) : Option (Ctx × State) :=
  let now := s.sys.poweredNs
  match s.wft.ctx.find? (·.isFor addr cls conn) with
  | some c =>
    some (c, if pinned && !c.pinned then
        (s.modWft fun w => { w with ctx := w.ctx.map fun d => if d.isFor addr cls conn then { d with pinned := true } else d }).ctxLive
      else s)
  | none =>
    let c : Ctx :=
      { conn := conn, addr := addr, cls := cls, uid := none, txPkt := 0, rxPkt := none, part := none, gone := none, partAt := now, heard := now
        pinned := pinned }
    if s.wft.ctx.length < 256 then some (c, (s.modWft fun w => { w with ctx := w.ctx ++ [c] }).ctxLive)
    else
      match oldestCtx s.wft.ctx with
      | some o => some (c, (s.modWft fun w => { w with ctx := w.ctx.erase o ++ [c] }).ctxLive)
      | none => none

/-- Changes a context. -/
def State.modCtx (s : State) (addr : Byte) (cls : BitVec 2) (f : Ctx → Ctx) (conn : Option (Fin 32) := none) : State :=
  s.modWft fun w => { w with ctx := w.ctx.map fun c => if c.isFor addr cls conn then f c else c }

/-- Whether a safety connection is configured over the Weft (R474, R487). -/
def State.weftConn (s : State) (k : Fin 32) : Bool :=
  s.parNat 44 30 k.val != 0 && (decide (s.parNat 44 33 k.val < 2) || decide (s.parNat 44 34 k.val < 2))

/-- The contexts follow the profile (R558): one per safety connection over the Weft, pinned; those of load sharing are pinned anew when
their group meets. -/
def State.pinContexts (s : State) : State :=
  let s := s.modWft fun w => { w with ctx := (w.ctx.filter (·.conn.isNone)).map fun c => { c with pinned := false } }
  (forAll (List.finRange 32)
    (fun k t =>
      if !(t.profileActive && t.weftConn k) then t
      else match t.ctxFor (BitVec.ofNat 8 (t.parNat 44 32 k.val)) 1 true (some k) with
        | some (_, u) => u
        | none => t.incSat Fld.WFT_CTX_FAILS) s).ctxLive

/-- Sends a safety frame of a connection to its node on route A or B in class 1 (R474, R557, R558). -/
def State.sendSafety (s : State) (k : Fin 32) (dst : Byte) (b : Bool) (body : List Byte) : State :=
  if s.nodeAddr == 0 || decide (16 ≤ s.metric dst.toNat) then s
  else
    match s.ctxFor dst 1 true (some k) with
    | none => s.incSat Fld.WFT_CTX_FAILS
    | some (c, s) =>
      let f : WFrame := { s.ownFrame 1 1 dst c.txPkt with routeB := b, payload := body }
      let s := s.modCtx dst 1 (fun c => { c with txPkt := c.txPkt + 1 }) (some k)
      s.originate (if b then s.routeB dst.toNat else s.routeA dst.toNat) f

end Sys2Proof.Machine
end

