-- ==== Sys2Proof/Machine/SafeState.lean ====
section
/-! DEFINITION. Gates, set faults and the safe state: the cross-barrier interlock (R112 to R121), latching and
propagating set faults (R161), latching HOLD (R80), mode changes (R77), axis states (R306), and the evaluation of the
safe-state controller's target for every set (R162). -/

namespace Sys2Proof.Machine

/-- Weft time as a number of nanoseconds. -/
def State.now (s : State) : Nat := s.weft.toNat

/-- Changes what the model keeps of a gate channel. -/
def State.modGc (s : State) (n : Fin 28) (f : GateChan → GateChan) : State := { s with gc := s.gc.set n (f s.gc[n]) }

/-- Changes what the model keeps of the protection of a set. -/
def State.modPsp (s : State) (x : Fin 4) (f : PspSet → PspSet) : State := { s with psp := s.psp.set x (f s.psp[x]) }

/-! ## Time-outs (R7) -/

/-- Starts a time-out, or starts it again. -/
def State.startTimer (s : State) (k : Timer) : State :=
  { s with timers := (k, s.sys.poweredNs) :: s.timers.filter fun e => e.1 != k }

/-- Ends a time-out. -/
def State.stopTimer (s : State) (k : Timer) : State := { s with timers := s.timers.filter fun e => e.1 != k }

/-- Whether a time-out runs. -/
def State.timing (s : State) (k : Timer) : Bool := s.timers.any fun e => e.1 == k

/-- A time-out that runs while a condition holds, from the instant at which it began to. -/
def State.timeWhile (s : State) (k : Timer) (on : Bool) : State :=
  if !on then s.stopTimer k else if s.timing k then s else s.startTimer k

/-- Whether a time-out of so many ns has run out: its last tick still counts as in time (R7). -/
def State.overdue (s : State) (k : Timer) (ns : Rat) : Bool :=
  s.timers.any fun e => e.1 == k && decide ((e.2 : Rat) + ns < (s.sys.poweredNs : Rat))

/-- Whether a delay of so many ns has passed. -/
def State.ran (s : State) (k : Timer) (ns : Rat) : Bool :=
  s.timers.any fun e => e.1 == k && decide ((e.2 : Rat) + ns ≤ (s.sys.poweredNs : Rat))

/-! ## The carrier of a set (R26, R177, R179) -/

/-- N of a set: the even number of 2.5 ns ticks of its carrier period (R177, R191). -/
def State.ticks (s : State) (x : Fin 4) : Nat := max 0x186A (min 0x6_1A80 (s.fld (Fld.PWM_CFG_PERIOD x))) / 2 * 2

/-- 8H: the largest compare, and the length of a half period in 312.5 ps units. -/
def State.fullScale (s : State) (x : Fin 4) : Int := ((4 * s.ticks x : Nat) : Int)

/-- The local clock of the timing domain in 312.5 ps units. -/
def State.localUnits (s : State) : Rat := (s.sys.poweredNs : Rat) * 16 / 5

/-- Weft time in 312.5 ps units. -/
def State.weftUnits (s : State) : Rat := ((s.now : Rat) + s.wft.frac) * 16 / 5

/-- Weft time since the last period start that R26 gives for the present offset, in 312.5 ps units. -/
def State.gridPos (s : State) (x : Fin 4) : Rat := modRat (s.weftUnits - s.pwm[x].offset) (8 * s.ticks x : Nat)

/-- Time since the carrier counter of a set stood at the valley, in 312.5 ps units (R177). -/
def State.carrierPos (s : State) (x : Fin 4) : Rat := s.localUnits - s.pwm[x].start

/-- Whether the instant at which the counter is `p` units past the valley falls in the nanosecond that ends now. -/
def State.carrierAt (s : State) (x : Fin 4) (p : Rat) : Bool :=
  decide (p ≤ s.carrierPos x) && decide (s.carrierPos x < p + 16 / 5)

/-- Whether a period start of R26 falls in the nanosecond of Weft time that ends now. -/
def State.periodStart (s : State) (x : Fin 4) : Bool :=
  decide (s.gridPos x < 16 / 5 * (1 + s.wft.rate / 1_000_000))

/-- The offset that PHASE asks for, rounded to 312.5 ps (R26). -/
def State.phaseTarget (s : State) (x : Fin 4) : Int :=
  nearest (((s.fld (Fld.PWM_PHASE_PHASE x) * 8 * s.ticks x : Nat) : Rat) / 256)

/-- Whether the clocks of a set run (R29, R636). -/
def State.clocksRun (s : State) (x : Fin 4) : Bool := (s.fld Fld.SYS_CLK_SET_RUN).testBit x.val

/-- Puts the carrier counter where R26 gives it for the present Weft time and offset (R179). -/
def State.placeCarrier (s : State) (x : Fin 4) : State :=
  let g := s.gridPos x
  let t := s.localUnits
  (s.modPwm x fun p => { p with start := t - g }).setFlag (Fld.PWM_STATUS_HALF x) (decide ((s.fullScale x : Rat) ≤ g))

/-- A change of offset taken as a step (R180): the period start moves to the new offset at once. -/
def State.stepOffset (s : State) (x : Fin 4) : State :=
  let t := s.phaseTarget x
  let s := (s.modPwm x fun p => { p with offset := (t : Rat), stretch := 0 }).setFlag (Fld.PWM_PHASE_ADJ x) false
  if s.clocksRun x then s.placeCarrier x else s

/-! ## States of the safe-state controller (R159) -/

/-- The code of a state. -/
def SetState.code : SetState → Nat
  | .run => 0 | .block => 1 | .scOff => 2 | .ascEntry => 3 | .asc => 4 | .sto => 5

/-- The state of a code. -/
def SetState.ofCode : Nat → SetState
  | 0 => .run | 1 => .block | 2 => .scOff | 3 => .ascEntry | 4 => .asc | _ => .sto

/-- The state of a set, as PSP_SET_s_STATE reports it. -/
def State.setState (s : State) (x : Fin 4) : SetState := SetState.ofCode (s.fld (Fld.PSP_STATE_STATE x))

/-- A write of PHASE acts (R180): a step where the clocks are stopped or the set is not in RUN, otherwise the adjustment
starts, or continues towards the new target. -/
def State.writePhase (s : State) (x : Fin 4) (phase : BitVec 8) : State :=
  let s := s.setFld (Fld.PWM_PHASE_PHASE x) phase.toNat
  if s.clocksRun x && s.setState x == .run then
    s.setFlag (Fld.PWM_PHASE_ADJ x) (decide ((s.phaseTarget x : Rat) ≠ s.pwm[x].offset))
  else s.stepOffset x

/-- Writes the state of a set. -/
def State.putSetState (s : State) (x : Fin 4) (v : SetState) : State := s.setFld (Fld.PSP_STATE_STATE x) v.code

/-- Whether CROSS is set on a set (R150). -/
def State.cross (s : State) (x : Fin 4) : Bool := s.flag (Fld.PSP_STATE_CROSS x)

/-- Whether a set meets a requirement of pulse block: BLOCK or STO (R643). -/
def State.inPulseBlock (s : State) (x : Fin 4) : Bool := s.setState x == .block || s.setState x == .sto

/-- Whether a set is in ASC_ENTRY or ASC. -/
def State.inAsc (s : State) (x : Fin 4) : Bool := s.setState x == .ascEntry || s.setState x == .asc

/-- The latched faults of a set. -/
def State.setFaults (s : State) (x : Fin 4) : Word := s.reg (Reg.PSP_FAULT x)

/-! ## Gate commands and the interlock -/

/-- A switching edge of a set: blanking starts (R145), and an edge of a phase gate voids a chopper check (R153). -/
def State.edge (s : State) (n : Fin 28) : State :=
  s.modPsp (chanSet n) fun p =>
    { p with
      blanking := true, counting := false
      chopCheck := if n.val < 24 then p.chopCheck.map fun c => { c with void := true } else p.chopCheck }

/-! ### Levels and gate sense of a channel (R134, R136) -/

/-- V_OFF of a channel, in V. -/
def State.vOff (s : State) (n : Fin 28) : Rat := -8 + (min (s.fld (Fld.GDC_SENSE_V_OFF n)) 0x38 : Nat) / 4

/-- V_CLAMP of a channel, in V. -/
def State.vClamp (s : State) (n : Fin 28) : Rat := -8 + (min (s.fld (Fld.GDC_SENSE_V_CLAMP n)) 0x38 : Nat) / 4

/-- V_ON_MIN of a channel, in V. -/
def State.vOnMin (s : State) (n : Fin 28) : Rat := 6 + (min (s.fld (Fld.GDC_SENSE_V_ONMIN n)) 0x38 : Nat) / 4

/-- The gate sense voltage an island reports, with the flags GS_HIGH and PLATEAU_OK (R136). -/
def State.sense (s : State) (n : Fin 28) (gs : Rat) : State :=
  ((s.modGc n fun g => { g with gs := gs }).setFlag (Fld.GDC_STATUS_GS_HIGH n) (decide (s.vOff n ≤ gs))).setFlag
    (Fld.GDC_STATUS_PLATEAU_OK n) (decide (s.vOnMin n ≤ gs))

/-- The flags of the gate sense follow a change of the levels of a set's channels, as their frames come in (R134, R136). -/
def State.senseAgain (s : State) (n : Fin 28) : State := if s.flag (Fld.GDC_STATUS_LINK n) then s.sense n s.gc[n].gs else s

/-- An off command: it passes the interlock at once (R115), ends the channel's request and any conflict of its
half-bridge, and starts T_CONF_MAX on a phase channel that was on (R117). CHOP_ON follows the chopper's command (R171). -/
def State.chanOff (s : State) (n : Fin 28) : State :=
  let c := s.gc[n]
  let now := s.sys.poweredNs
  let s := s.setFlag (Fld.GDC_STATUS_HELD n) false
  let s : State := if n.val < 24 then { s with conflict := s.conflict &&& ~~~(1#12 <<< (n.val / 2)) }
    else s.setFlag (Fld.PSP_STATE_CHOP_ON (chanSet n)) false
  let s := s.modGc n fun g =>
    { g with
      request := false, cmd := false, awaitConf := g.cmd && decide (n.val < 24) || g.awaitConf
      offAt := if g.cmd then now else g.offAt }
  when c.cmd (·.edge n) s

/-- One SHOOT_BLOCK event on a set (R119, R120): counted, journalled, and the rate test. The latch shows in SHOOT;
the set fault follows in `latchGate`, and RATE_PER and RATE_MS name the case or cases of the latch that stands. -/
def State.shootEvent (s : State) (h : Nat) (simul : Bool) : State :=
  let x : Fin 4 := Fin.ofNat 4 (h / 3)
  let s := (s.incSat (Fld.GDC_SET_SHOOT_TOTAL x)).setFld (Fld.GDC_SET_SHOOT_LAST_HB x) h
  let s := s.setFlag (Fld.GDC_SET_SHOOT_SIMUL x) simul
  let sh := s.shoot[x]
  let sh : Shoot := { times := (s.weft :: sh.times).take 16, inPeriod := sh.inPeriod + 1 }
  let s := { s with shoot := s.shoot.set x sh }
  let running := s.fld Fld.SYS_CLK_SET_RUN |>.testBit x.val
  let per := running && decide (3 ≤ sh.inPeriod)
  let ms := decide (16 ≤ sh.times.length) &&
    (match sh.times.getLast? with
     | some t => decide (s.now - t.toNat ≤ 1_000_000)
     | none => false)
  let stood := s.flag (Fld.GDC_SET_SHOOT_SHOOT_LATCH x)
  let s := when (per || ms)
    (fun t =>
      let t := t.setFlag (Fld.GDC_SET_SHOOT_RATE_PER x) (per || stood && t.flag (Fld.GDC_SET_SHOOT_RATE_PER x))
      let t := t.setFlag (Fld.GDC_SET_SHOOT_RATE_MS x) (ms || stood && t.flag (Fld.GDC_SET_SHOOT_RATE_MS x))
      t.setFlag (Fld.GDC_SET_SHOOT_SHOOT_LATCH x) true) s
  s.journal 0x0201 x.val (s.reg (Reg.GDC_SET_SHOOT x))

/-- An on request of a phase channel: it stands at the interlock and is held until INTERLOCK_RELEASE (R115). While
the companion is commanded on it is a conflict, counted once per onset (R119). -/
def State.requestOn (s : State) (n : Fin 28) : State :=
  if s.gc[n].cmd then s
  else
    let h := n.val / 2
    let clash := s.gc[companion n].cmd
    let s := (s.modGc n fun g => { g with request := true }).setFlag (Fld.GDC_STATUS_HELD n) true
    if clash && !s.conflict.getLsbD h then
      { s with conflict := s.conflict ||| (1#12 <<< h) }.shootEvent h false
    else s

/-- Whether the comparator self-test of a channel runs, which holds its gate at the sink (R130). -/
def State.gateTesting (s : State) (n : Fin 28) : Bool := s.flag (Fld.GDC_TESTRES_BUSY n)

/-- The on command of a chopper channel: never held (R118), but its self-test keeps the gate at its sink (R130). -/
def State.chopperOn (s : State) (x : Fin 4) : State :=
  let n := chopChan x
  if s.gateTesting n then s
  else ((s.setFlag (Fld.PSP_STATE_CHOP_ON x) true).modGc n fun g => { g with request := true, cmd := true }).edge n

/-- Pulse block: all six phase gates commanded off. -/
def State.phasesOff (s : State) (x : Fin 4) : State := forAll (phaseChans x) (fun n t => t.chanOff n) s

/-- The ASC marker in the frames to one island; an island whose barrier channel is lost receives none (R126, R136). -/
def State.markFrame (s : State) (n : Fin 28) (b : Bool) : State :=
  if !s.flag (Fld.GDC_STATUS_LINK n) || s.flag (Fld.GDC_STATUS_ASC_MARK n) == b then s
  else
    let now := s.sys.poweredNs
    (s.modGc n fun g => { g with markAt := some now }).setFlag (Fld.GDC_STATUS_ASC_MARK n) b

/-- The ASC marker in the frames to the low sides of a set (R126). -/
def State.setMarker (s : State) (x : Fin 4) (b : Bool) : State :=
  forAll three (fun k t => t.markFrame (loChan x k) b) s

/-- ASC is established when every low-side on command of a set in ASC_ENTRY has reached its island (R163), which it cannot
where the barrier channel is lost (R159). -/
def State.ascCheck (s : State) (x : Fin 4) : State :=
  let on (k : Fin 3) : Bool :=
    s.flag (Fld.GDC_STATUS_CMD (loChan x k)) && s.gc[loChan x k].cmd && s.flag (Fld.GDC_STATUS_LINK (loChan x k))
  if s.setState x == .ascEntry && three.all on then s.putSetState x .asc else s

/-- Whether a set stays in ASC_ENTRY: a high side is never confirmed off, or the on command of a low side cannot reach its
island (R159). -/
def State.ascStuck (s : State) (x : Fin 4) : Bool :=
  s.setState x == .ascEntry &&
    three.any fun k => s.flag (Fld.GDC_FAULT_OFF_TIMEOUT (hiChan x k)) || !s.flag (Fld.GDC_STATUS_LINK (loChan x k))

/-- Whether a set counts as in ASC: it is, or it is stuck on the way (R159). -/
def State.countsAsc (s : State) (x : Fin 4) : Bool := s.setState x == .asc || s.ascStuck x

/-- Switches the chopper of a set on or off, with the 10 µs minimum time and, where a resistor is set, the check of R153. Its
self-test keeps it off (R130). -/
def State.chopSwitch (s : State) (x : Fin 4) (on : Bool) : State :=
  let rb := s.fld (Fld.PSP_CHOP_RB x)
  if on && s.gateTesting (chopChan x) then s
  else
    let s := s.modPsp x fun p =>
      { p with
        chopMin := true, chopByTest := on && p.chopByTest
        chopCheck := if on && rb != 0 then some { expected := p.vdc * 1000 / (rb : Rat), void := false } else p.chopCheck }
    if on then s.chopperOn x else s.chanOff (chopChan x)

/-- Whether a set has a chopper: CHOP_EN with a resistor set (R152, R169). -/
def State.hasChopper (s : State) (x : Fin 4) : Bool := s.flag (Fld.PSP_CHOP_CHOP_EN x) && s.fld (Fld.PSP_CHOP_RB x) != 0

/-- A DC-link level of PSP_SET_s_OV12 or OV3UV, in V (R168). -/
def State.level (s : State) (f : Field) : Rat := (min (s.fld f) 0x5DC : Nat)

/-- OV1 of a set, in V. -/
def State.ov1 (s : State) (x : Fin 4) : Rat := s.level (Fld.PSP_OV12_OV1 x)

/-- The level at which an OV1 episode ends: OV1 − CHOP_HYST (R155). -/
def State.ov1Low (s : State) (x : Fin 4) : Rat := s.ov1 x - (max 1 (s.fld (Fld.PSP_CHOP_HYST x)) : Nat)

/-- Whether a console test of SERVICE commands the chopper of a set (R143, R176). -/
def State.chopTested (s : State) (x : Fin 4) : Bool :=
  s.con.begun &&
  (match s.con.test with
   | some (.chopTest _, some y) => x == y
   | some (.gdcPulse n _, _) => n == chopChan x
   | _ => false)

/-- The control of the brake chopper (R152): off in SC_OFF; otherwise on at OV1 and off below OV1 − CHOP_HYST, once the minimum time
has run. A test that commands the chopper on keeps it on (R143, R176); what it turned on goes off after it, except at or above OV1. -/
def State.chopControl (s : State) (x : Fin 4) : State :=
  let on := s.flag (Fld.PSP_STATE_CHOP_ON x)
  let p := s.psp[x]
  let high := decide (s.ov1 x ≤ p.vdc)
  if p.dwell then (if on then s.chopSwitch x false else s)
  else if s.chopTested x then
    (if on || p.chopMin then s else (s.modPsp x fun p => { p with chopByTest := true }).chopSwitch x true)
  else if !(s.hasChopper x && s.sys.profileLoaded) then (if on then s.chopSwitch x false else s)
  else if on && high then s.modPsp x fun p => { p with chopByTest := false }
  else if p.chopMin then s
  else if !on && high then s.chopSwitch x true
  else if on && (decide (p.vdc < s.ov1Low x) || p.chopByTest) then s.chopSwitch x false
  else s

/-! ## Axis states and axis faults (R305, R306, R321) -/

/-- Takes the commands in progress that `pick` selects out of the list and completes them. -/
def State.finish (s : State) (pick : InFlight → Bool) (status detail : Nat) : State :=
  let mine := s.hif.inFlight.filter pick
  let s := { s with hif := { s.hif with inFlight := s.hif.inFlight.filter fun c => !pick c } }
  forAll mine (fun c t => t.complete c.h c.opcode.toNat status detail) s

/-- Completes the AXIS_ENABLE in progress on an axis, if there is one (R527). -/
def State.finishEnable (s : State) (a : Fin 4) (status detail : Nat) : State :=
  s.finish (fun c => c.opcode == 0x08 && c.inst == a.val) status detail

/-- Ends a start sequence that fails (R291): RESULT, START_FAIL, the journal entry, and the completion. -/
def State.endStart (s : State) (a : Fin 4) (result : Nat) : State :=
  if s.pos[a].start.isNone then s
  else
    let s := s.modPos a fun p => { p with start := none, iref := none, pulse := 0, meas := p.meas.filter (·.con) }
    let s := forAll (s.axisSets a) (fun x t => t.modPwm x fun c => { c with goReq := false }) s
    let s := (s.setFld (Fld.POS_STATUS_START a) 0).setFld (Fld.POS_START_RESULT a) result
    let s := s.setFlag (Fld.POS_FAULT_START_FAIL a) true
    let s := s.journal 0x0300 a.val (s.reg (Reg.POS_START a))
    s.finishEnable a St.START_FAIL result

/-- An offset measurement of a set begins, for a start or for mfe zero (R205). -/
def State.beginOffsets (s : State) (x : Fin 4) (con : Bool) : State :=
  let now := s.weft
  s.modMfe x fun m => { m with ofsRun := true, ofsAt := now, ofsCross := [], ofsCon := con || m.ofsCon }

/-- mfe zero no longer waits for the offset measurement of a set, which goes on only where a start needs it (R205, R610). -/
def State.dropZero (s : State) (x : Fin 4) : State :=
  let start := (s.ownerAxis x).any fun (a : Fin 4) => s.axState a == AxSt.STARTING
  s.modMfe x fun m => { m with ofsCon := false, ofsRun := m.ofsRun && start }

/-- The offset measurements of a start end with it (R205); where mfe zero waits for one, it is answered ERR FAIL (log
entry 59). -/
def State.dropOffsets (s : State) (a : Fin 4) : State :=
  forAll (s.axisSets a)
    (fun x t =>
      if !t.mfe[x].ofsRun then t
      else
        let con := t.mfe[x].ofsCon
        let t := t.modMfe x fun m => { m with ofsRun := false, ofsCon := false }
        if con then { t with con := { t.con with busy := false } }.replyErr "FAIL" else t) s

/-- The staged saliency map goes into the active profile when its axis reaches STOPPED (R282). -/
def State.mapCopy (s : State) (a : Fin 4) : State :=
  match s.pos[a].staged with
  | none => s
  | some bins =>
    let put (b : Bank) (i : Nat) (v : Rat) : Bank := sparsePut paramDefault b (paramKey 22 i a.val) (ratToF32 v)
    let all (b : Bank) : Bank := bins.foldl (fun b e => put (put b (100 + e.1) e.2.1) (200 + e.1) e.2.2) b
    let s := { s with params := all s.params }
    let s := match s.sys.active with
      | some p => { s with slots := s.slots.set p { s.slots[p] with params := all s.slots[p].params } }
      | none => s
    (s.modPos a fun p => { p with staged := none, learnt := s.fld (Fld.POS_MAP_LEARNED a) }).setFlag (Fld.POS_MAP_STAGED a) false

/-- min⁻¹ of rad/s. -/
def toRpm (w : Rat) : Rat := w * 60 / Config.twoPi

/-- rad/s of min⁻¹. -/
def toRad (n : Rat) : Rat := n * Config.twoPi / 60

/-- The time since an instant, in s. -/
def State.since (s : State) (t : Time) : Rat := ((s.weft.toNat - t.toNat : Nat) : Rat) / 1_000_000_000

/-- The axis lane: the lowest set of an axis (R252). -/
def State.axisLane (s : State) (a : Fin 4) : Fin 4 := (s.axisSets a).headD a

/-- T̂_L of an axis: that of its axis lane (R255). -/
def State.loadTorque (s : State) (a : Fin 4) : Rat := s.lane[s.axisLane a].tlHat

/-- The feedforward torque of a period (R311, R322). -/
def State.tff (s : State) (a : Fin 4) (aRef hvAcc : Rat) : Rat :=
  let j := s.par 20 41 a.val
  s.par 24 15 a.val * j * toRad aRef + s.par 24 14 a.val * s.loadTorque a + j * toRad hvAcc

/-- A ride-through ends (R320): x is preset so that the loop's output equals the last T_ref, and the ramp starts from n_f, in POSITION mode
towards the position loop's output. -/
def State.endVent (s : State) (a : Fin 4) : State :=
  match s.spd[a].vent with
  | none => s
  | some v =>
    let dur := (quantise (s.since v.t0 * 100)).toNat
    let ff := s.tff a 0 s.spd[a].hvAcc
    let pos := s.fld (Fld.SPD_CFG_MODE a) == 1
    let s := s.modSpd a fun q => { q with vent := none, n := toRpm q.nf, acc := 0, x := q.tref - ff, back := pos }
    let s := (s.setFlag (Fld.SPD_STATE_VENT a) false).setFlag (Fld.SPD_STATE_VGUARD a) false
    s.setFld (Fld.SPD_LAST_VENT_DUR a) (min dur 0xFFFF)

/-- A shock window ends (R318): YIELD clears, and its duration is shown. -/
def State.endShock (s : State) (a : Fin 4) : State :=
  match s.spd[a].shock with
  | none => s
  | some w =>
    let now := s.weft
    let ms := (quantise (s.since w.t0 * 1000)).toNat
    let s := s.modSpd a fun q => { q with shock := none, winEnd := some now, pendStop := none }
    (s.setFlag (Fld.SPD_STATE_YIELD a) false).setFld (Fld.SPD_LAST_SHOCK_MS a) (min ms 255)

/-- What ends with an axis leaving STARTING, RUNNING and STOPPING: a shock window and a ride-through end, ramp, integrator and
feedforward return to 0, injection stops (R305, R318, R320). -/
def State.axisIdle (s : State) (a : Fin 4) : State :=
  let s := (s.endShock a).endVent a
  let s := s.modSpd a fun p =>
    { p with
      n := 0, acc := 0, rampX := false, snOn := false, x := 0, x2 := 0, tref := 0, krsT0 := none, quick := false, ramp0 := false, zeroAt := none
      hold := false, offT0 := none, relAt := none, slackAt := none, slackHold := false, back := false, solo := false
      hvSpd := 0, hvAcc := 0, hvStall := none, hvFade := none, hvOut := false, hvGap := 0, nPos := 0 }
  let s := (s.setFld (Fld.SPD_STATE_QUAD a) 0).setFlag (Fld.SPD_STATE_OL a) false
  let s := forAll [Fld.SPD_STATE_HV_FADE a, Fld.SPD_STATE_HV_ACT a, Fld.SPD_STATE_VGUARD a, Fld.SPD_STATE_VENT a,
      Fld.SPD_STATE_SLACK a, Fld.SPD_STATE_YIELD a, Fld.SPD_STATE_SHOCK a, Fld.SPD_STATE_RESUME a, Fld.SPD_STATE_TLIM a,
      Fld.SPD_STATE_PLIM a, Fld.POS_STATUS_INJ_ON a] (fun f t => t.setFlag f false) s
  let s := if s.fld (Fld.POS_CFG_SRC a) = 1 then s
    else forAll [Fld.POS_STATUS_VALID a, Fld.POS_STATUS_LOCKED a, Fld.POS_STATUS_ACT a, Fld.POS_STATUS_OPEN_LOOP a] (fun f t => t.setFld f 0) s
  let s := forAll [Reg.SPD_NREF a, Reg.SPD_TREF a, Reg.SPD_HEAVE a] (fun r t => t.setReg r 0) s
  let s := forAll (s.axisSets a) (fun x t => t.modPwm x fun c => { c with goReq := false }) s
  s.modPos a fun p => { p with iref := none, pulse := 0, injN := 0, injPer := 0, lockN := 0, outN := 0, eps := 0 }

/-- Takes an axis to a state: interrupt source 7 and the event AXIS_STATE follow a change (R494, R532). Learning ends with RUNNING
(R282). A start that has not ended fails with FAIL_STOP (R291), a waiting AXIS_DISABLE completes at STOPPED (R527), and a coast that no
re-lock follows is over (R289). -/
def State.setAxis (s : State) (a : Fin 4) (v : Nat) : State :=
  let old := s.axState a
  if old = v then s
  else
    let was := s.axActive a
    let s := (s.setFld (Fld.SPD_STATE_STATE a) v).irq 7
    let s := s.event 0x01 [BitVec.ofNat 32 a.val, BitVec.ofNat 32 old, BitVec.ofNat 32 v]
    let s := s.setFlag (Fld.POS_MAP_LEARNING a) false
    let ends := v != AxSt.STARTING && v != AxSt.RUNNING && v != AxSt.STOPPING && s.pos[a].coast && !s.pos[a].relockOn
    let s := when ends
      (fun t => (t.modPos a fun p => { p with coast := false }).setFld (Fld.POS_STATUS_START a) 0) s
    if v == AxSt.STARTING || v == AxSt.RUNNING || v == AxSt.STOPPING then s
    else
      let s := s.modSpd a fun p => { p with gone := was && v == AxSt.STOPPED }
      let s := when (old == AxSt.STARTING) (·.dropOffsets a) s
      let s := (s.endStart a 0x16).axisIdle a
      if v == AxSt.STOPPED then s.mapCopy a else s

/-- Changes what the model keeps of a profile channel. -/
def State.modPrg (s : State) (c : Fin 8) (f : PrgCh → PrgCh) : State := { s with prg := s.prg.set c (f s.prg[c]) }

/-- The rank of a stop: a harder request replaces a softer one (R408). -/
def StopKind.rank : StopKind → Nat
  | .ramped => 0 | .quick => 1 | .hard => 2

/-- A stop request to a profile channel (R408): a harder one replaces the one in progress, a softer one is ignored. -/
def State.prgStop (s : State) (c : Fin 8) (k : StopKind) (halts : Bool) : State :=
  let s := s.modPrg c fun p => { p with halts := p.halts || halts }
  let cur := s.prg[c].stop
  let take := match cur with
    | none => true
    | some old => decide (old.rank < k.rank)
  if take then
    (s.modPrg c fun p => { p with stop := some k, replan := true }).setFlag (Fld.PRG_STATE_STOPPING c) true
  else s

/-- HARD tells of the last stop (R408, R419): it clears where the stop now in progress is not hard. -/
def State.softStop (s : State) (c : Fin 8) : State :=
  if s.prg[c].stop == some .hard then s else s.setFlag (Fld.PRG_STATE_HARD c) false

/-- The profile channel of an axis (R405). -/
def axisChan (a : Fin 4) : Fin 8 := Fin.ofNat 8 a.val

/-- Takes a RUNNING axis to STOPPING (R308), with DEC_QS where `quick`. `still`: the profile of a POSITION axis has come
to rest. In TORQUE-off mode the torque ramp starts from the present torque. A ride-through ends (R320). -/
def State.enterStopping (s : State) (a : Fin 4) (quick still : Bool) : State :=
  let off := s.flag (Fld.SPD_CFG_STOP_MODE a) && s.fld (Fld.SPD_CFG_MODE a) != 1
  let now := s.weft
  let s := (s.endVent a).modSpd a fun p =>
    { p with
      ncmd := 0, quick := quick, ramp0 := still, zeroAt := none, hold := false
      offT0 := if off then some now else none, offT := p.tref }
  ((s.setReg (Reg.SPD_NCMD a) 0).startTimer (.stop a)).setAxis a AxSt.STOPPING

/-- Begins a stop (R306, R308). A RUNNING axis goes to STOPPING; in POSITION mode the profile generator stops the motion (R408). A stop in
progress may still be switched to DEC_QS, or to a quick stop of the profile. In a shock window the stop waits for the window's end
(R318). -/
def State.beginStop (s : State) (a : Fin 4) (quick : Bool) : State :=
  let st := s.axState a
  let off := s.flag (Fld.SPD_CFG_STOP_MODE a) && s.fld (Fld.SPD_CFG_MODE a) != 1
  let pos := s.fld (Fld.SPD_CFG_MODE a) == 1
  let c := axisChan a
  if s.spd[a].shock.isSome then s.modSpd a fun p => { p with pendStop := some (quick || p.pendStop.getD false) }
  else if st == AxSt.RUNNING then
    let s := when pos (fun t => (t.prgStop c (if quick then .quick else .ramped) true).softStop c) s
    s.enterStopping a quick false
  else if st == AxSt.STOPPING && quick && !off && !s.spd[a].hold then
    let s := when (pos && s.flag (Fld.PRG_STATE_STOPPING c)) (fun t => (t.prgStop c .quick true).softStop c) s
    s.modSpd a fun p => { p with quick := true }
  else s

/-- Latches an axis fault (R321): every one but PROFILE_INVALID and SET_UNAVAILABLE takes an active axis to FAULTED. FAULTED wins
over STOPPED within one speed-loop period, so that it also takes an axis that has just left for STOPPED (R306). Any but POS ends a
re-lock series (R289). -/
def State.axisFault (s : State) (a : Fin 4) (bit : Nat) : State :=
  let s := s.setFld ⟨Reg.SPD_FAULT a, bit, 1⟩ 1
  let late := s.axState a == AxSt.STOPPED && s.spd[a].gone
  let s := when (decide (2 ≤ bit) && bit != 4) (·.modPos a fun p => { p with coast := false, relockOn := false }) s
  when (decide (2 ≤ bit) && (s.axActive a || late)) (·.setAxis a AxSt.FAULTED) s

/-- A re-lock series of an axis is in progress: it coasts after a loss of lock, a re-lock waits, or its start runs (R289). -/
def State.relocking (s : State) (a : Fin 4) : Bool :=
  s.pos[a].coast || s.pos[a].relockOn || s.pos[a].start.any fun q => q.relock

/-- Ends a re-lock series with the axis FAULTED (R289, R291). -/
def State.endSeries (s : State) (a : Fin 4) : State :=
  (s.modPos a fun p => { p with coast := false, relockOn := false }).axisFault a 4

/-! ## Set faults (R160, R161, R172) -/

namespace SF
def SC : Nat := 0
def SC_IN_ASC : Nat := 4
def OV2_REACT : Nat := 5
def OV3 : Nat := 6
def OV3_HOLD : Nat := 7
def UV : Nat := 8
def GATE : Nat := 9
def SSI_LINK : Nat := 10
def LOOM : Nat := 11
def POS_CROSS : Nat := 12
def MEAS : Nat := 13
def AXIS : Nat := 14
end SF

/-- A word with the given bits set. -/
def bits (l : List Nat) : Word := BitVec.ofNat 32 (l.foldl (fun m k => m ||| 2 ^ k) 0)

/-- Set faults that are stop causes: SC, OC_U, OC_V, OC_W, SC_IN_ASC and UV (R160). -/
def stopFaults : Word := bits [0, 1, 2, 3, 4, 8]

/-- Set faults that are ASC causes: OV2_REACT, OV3, GATE, SSI_LINK, LOOM, POS_CROSS and MEAS (R160). -/
def ascFaults : Word := bits [5, 6, 9, 10, 11, 12, 13]

/-- Every set fault but AXIS. -/
def ownFaults : Word := 0x3FFF

/-- The other sets of the local axis of a set (R161). -/
def State.siblings (s : State) (x : Fin 4) : List (Fin 4) :=
  match s.ownerAxis x with
  | some a => (s.axisSets a).filter (· != x)
  | none => []

/-- The journal entry, the event and interrupt source 6 of a latch on a set. -/
def State.reportSetFault (s : State) (x : Fin 4) : State :=
  let w := s.setFaults x
  ((s.journal 0x0200 x.val w (s.reg (Reg.GDC_SET_FAULT x))).event 0x02 [BitVec.ofNat 32 x.val, w]).irq 6

/-- Two bytes, low byte first. -/
def halfBytes (n : Nat) : List Byte := [BitVec.ofNat 8 n, BitVec.ofNat 8 (n / 256)]

/-- The number of the present shed cycle (R338). -/
def State.shedCycle (s : State) : Nat := if s.shedNs = 0 then 0 else s.weft.toNat / s.shedNs

/-- Sends a FAULT_NOTICE for a shared axis outside the shed slots (R349). -/
def State.faultNotice (s : State) (a : Fin 4) (fault : Bool) : State :=
  if !s.isShared a then s
  else
    s.sendClass0
      (halfBytes (s.fld (Fld.LSH_GROUP_GROUP_ID a)) ++ [3, s.nodeAddr] ++ wordBytes (BitVec.ofNat 32 s.shedCycle) ++
        [BitVec.ofNat 8 (s.fld (Fld.LSH_CFG_MEMBER_IDX a)), if fault then 1 else 0] ++ List.replicate 6 0)

/-- Whether a set of an axis has a fault of its own. -/
def State.ownFault (s : State) (a : Fin 4) : Bool := (s.axisSets a).any fun y => s.setFaults y &&& ownFaults != 0

/-- A prg jog that is cut short emits no further step. -/
def State.cutJog (s : State) : State :=
  match s.con.test with
  | some (.prgJog c _, _) => s.modPrg c fun p => { p with jog := 0 }
  | _ => s

/-- A gate-switching test is over (R616): the phase gates of its set are commanded off, except where the set is on its way to ASC or in
it, which keeps its low sides on (R159), and the chopper returns to its control (R152). HOLDM shows the selected quantity again
(R614). -/
def State.stopTest (s : State) : State :=
  match s.con.test with
  | none => s
  | some (k, x) =>
    let s : State := { s with con := { s.con with test := none, begun := false, busy := false } }
    let s := match k with
      | .posInj a _ _ => s.setFlag (Fld.POS_STATUS_INJ_ON a) false
      | _ => s
    let s := (s.setFlag Fld.SVC_STATUS_TEST false).setFld Fld.SVC_STATUS_HOLDM
      (match s.con.atest with
       | some (.sfiSt _) => 2
       | _ => 0)
    match x with
    | some x =>
      let s := s.modPwm x fun p => { p with duties := none }
      (when (!s.inAsc x) (·.phasesOff x) s).chopControl x
    | none => s

/-- Ends a gate-switching test before its own end (R616). -/
def State.endTest (s : State) (w : String) : State :=
  if s.con.test.isSome then (s.cutJog.stopTest).replyErr w else s

/-- Latches set faults on a set; they appear as AXIS on the other sets of its axis, and the axis takes its fault SET
(R161, R306), and a running gate-switching test ends (R616). Bits already latched latch nothing new. -/
def State.latchSet (s : State) (x : Fin 4) (l : List Nat) : State :=
  let old := s.setFaults x
  let new := old ||| bits l
  if new = old then s
  else
    let s := ((s.setReg (Reg.PSP_FAULT x) new).reportSetFault x).endTest "FAIL"
    let s := forAll (s.siblings x)
      (fun y t =>
        if t.flag (Fld.PSP_FAULT_AXIS y) then t else (t.setFlag (Fld.PSP_FAULT_AXIS y) true).reportSetFault y) s
    match s.ownerAxis x with
    | some a =>
      let first := !((s.axisSets a).any fun y => (if y = x then old else s.setFaults y) &&& ownFaults != 0)
      (when (first && s.ownFault a) (·.faultNotice a true) s).axisFault a 2
    | none => s

/-- Latches the set fault GATE on the set that owns a channel, with its bit in GDC_SET_s_FAULT (R128, R141). -/
def State.latchGate (s : State) (n : Fin 28) : State :=
  let x := chanSet n
  let k := if n.val < 24 then n.val % 6 else 6
  (s.setFld ⟨Reg.GDC_SET_FAULT x, k, 1⟩ 1).latchSet x [SF.GATE]

/-- Latches a fault of a gate channel (R128). -/
def State.gateFault (s : State) (n : Fin 28) (f : Field) : State := (s.setFlag f true).latchGate n

/-- The set fault of the SHOOT_BLOCK rate limit, where it has latched (R120). -/
def State.shootCheck (s : State) (x : Fin 4) : State :=
  when (s.flag (Fld.GDC_SET_SHOOT_SHOOT_LATCH x)) (·.latchSet x [SF.GATE]) s

/-! ## FAULT_N (R53) -/

/-- Whether any set fault or axis fault is latched. -/
def State.anyFault (s : State) : Bool :=
  four.any fun k => s.setFaults k != 0 || s.reg (Reg.SPD_FAULT k) != 0

/-- Whether FAULT_N is driven low: from the lock-out release until READY has been reached, a Dusk entered from a failed Dawn
included, in HOLD, and while a fault is latched; in reset and in NIGHT it is off (R50, R53). -/
def State.faultNLow (s : State) : Bool :=
  s.awake && (!s.sys.readied || s.mode == .hold || s.anyFault)

/-! ## Mode changes (R77) -/

/-- Enters a mode: PREV, the event MODE and the console's MODE line (R100, R532, R611). Leaving RUN ends every active
axis (R306), except that Dusk stops it with its ramp and ends it when Dusk ends (R98). -/
def State.setMode (s : State) (m : Mode) : State :=
  let old := s.mode
  let s := (s.setFld Fld.SYS_MODE_PREV old.code).setFld Fld.SYS_MODE_MODE m.code
  let s := (s.event 0x0B [s.reg Reg.SYS_MODE]).say (.modeLine m)
  let s : State := { s with sys := { s.sys with readied := s.sys.readied || m == .ready } }
  if (old == .run || old == .dusk) && m != .run && m != .dusk then
    forAll four (fun a t => when (t.axActive a) (·.setAxis a (if t.relocking a then AxSt.FAULTED else AxSt.STOPPED)) t) s
  else s

/-- Latches HOLD with a cause and, for cause 0x04, a detail (R80, R642): only in READY, RUN, SERVICE and DUSK. HOLD
ends a Dusk (R99), and with it the wake latched in its last step (R82). -/
def State.latchHold (s : State) (cause detail : Nat) : State :=
  if s.mode == .ready || s.mode == .run || s.mode == .service || s.mode == .dusk then
    let s := (s.setFld Fld.SYS_MODE_HOLD_CAUSE cause).setFlag Fld.PSP_REQ_HOLD true
    let s := forAll four (fun x t => t.modPsp x fun p => { p with holdAsc := t.inAsc x }) s
    let s := s.journal 0x0105 0 (BitVec.ofNat 32 cause) (BitVec.ofNat 32 detail)
    let s : State := { s with sys := { s.sys with wakeLatched := none } }
    (s.endTest "FAIL").setMode .hold
  else s

/-- Leaves SERVICE for READY (R81): a running gate test stops. -/
def State.leaveService (s : State) : State := if s.mode == .service then (s.endTest "FAIL").setMode .ready else s

/-- A gate forced off while still commanded on: the plateau check ends with no fault (R125). DESIGN CHOICE (log entry 59):
SEG shows sink segment 3, which the spec gives for barrier loss, for a gate forced off by a removed STO enable too. -/
def State.forceOff (s : State) (n : Fin 28) : State :=
  let forced := s.flag (Fld.GDC_STATUS_CMD n)
  (s.modGc n fun g => { g with armTimer := false, armed := false, forcedOff := forced || g.forcedOff, gateOn := false }).setFld
    (Fld.GDC_STATUS_SEG n) 3

/-- The brake pair of an axis, if BRK_PAIR names one (R437). -/
def State.brakePair (s : State) (a : Fin 4) : Option (Fin 4) :=
  let n := s.parNat 40 20 a.val
  if n < 4 then some (Fin.ofNat 4 n) else none

/-! ## STO (R127, R160, R432, R433) -/

/-- Whether a demand stands that counts as STO demanded on STO_A and STO_B (R4): STO_DISC, a deferred input test, or
no active profile after the profile step of Dawn. -/
def State.stoHard (s : State) : Bool :=
  s.flag Fld.SFI_STATUS_STO_DISC || s.sys.stoInputsDeferred || s.sys.profileLoaded && !s.profileActive

/-- Whether an island-initiated STO stands on the axis that owns a set. -/
def State.stoSoft (s : State) (x : Fin 4) : Bool :=
  s.isl.dead ||
  (match s.ownerAxis x with
   | some a => s.flag (Fld.SFI_AX_STATE_STO a)
   | none => false)

/-- Whether the STO enable is removed for a set: the hardware path, or the island's own STO. -/
def State.stoRemoved (s : State) (x : Fin 4) : Bool := s.flag Fld.PSP_REQ_STO_HW || s.sfiSto.getLsbD x.val

/-- The island's requests for one set (R432): STO, or under STO_ASC an ASC request until CROSS clears. -/
def State.islandRequest (s : State) (x : Fin 4) : State :=
  let m := 1#4 <<< x.val
  let soft := s.stoSoft x
  if !s.stoHard && soft && s.parOn 40 1 0 && s.cross x && !s.sfiSto.getLsbD x.val then
    { s with sfiAsc := s.sfiAsc ||| m }
  else if s.stoHard || soft then { s with sfiSto := s.sfiSto ||| m, sfiAsc := s.sfiAsc &&& ~~~m }
  else { s with sfiSto := s.sfiSto &&& ~~~m, sfiAsc := s.sfiAsc &&& ~~~m }

/-- The enable at the islands of a set follows the requests; a removed enable forces the phase gates off (R127). -/
def State.followEnable (s : State) (x : Fin 4) : State :=
  let gone := s.stoRemoved x
  if gone && s.isl.removedAt[x].isNone then
    let s := { s with isl := { s.isl with
      removedAt := s.isl.removedAt.set x (some s.sys.poweredNs), checked := s.isl.checked &&& ~~~(1#4 <<< x.val) } }
    let s := forAll (setChans x) (fun n t => t.setFlag (Fld.GDC_STATUS_ENABLE n) false) s
    forAll (phaseChans x) (fun n t => t.forceOff n) s
  else if !gone then
    let s := { s with isl := { s.isl with removedAt := s.isl.removedAt.set x none } }
    if s.sys.islandsUp.getLsbD x.val then
      forAll (setChans x) (fun n t => t.setFlag (Fld.GDC_STATUS_ENABLE n) true) s
    else s
  else s

/-- Ends the activity of an axis on a stop cause (R306, R433); a re-lock series ends with the axis FAULTED (R289). -/
def State.axisDisable (s : State) (a : Fin 4) : State :=
  if s.relocking a then s.endSeries a else when (s.axActive a) (·.setAxis a AxSt.STOPPED) s

/-- The STO demands as they stand: requests, enables, and the axes they disable (R432, R433). -/
def State.applySto (s : State) : State :=
  let s := forAll four (fun x t => (t.islandRequest x).followEnable x) s
  let s := (s.setFlag Fld.PSP_REQ_SFI_STO (s.sfiSto != 0)).setFlag Fld.PSP_REQ_SFI_ASC (s.sfiAsc != 0)
  forAll four
    (fun a t =>
      let hit := (t.axisSets a).any fun x => t.stoRemoved x || t.sfiAsc.getLsbD x.val
      let t := t.setFlag (Fld.SFI_AX_STATE_ASC_HOLD a) ((t.axisSets a).any fun x => t.sfiAsc.getLsbD x.val)
      if hit then t.axisDisable a else t) s

/-! ## The target of a set (R162) -/

/-- Whether the other sets of the axis carry faults of a mask. -/
def State.siblingFault (s : State) (x : Fin 4) (m : Word) : Bool :=
  (s.siblings x).any fun y => s.setFaults y &&& m != 0

/-- Whether a set has AXIS from a fault of another member of its group, which takes it to ASC (R349). -/
def State.groupAxis (s : State) (x : Fin 4) : Bool :=
  s.flag (Fld.PSP_FAULT_AXIS x) && (s.ownerAxis x).any fun a => s.lsh[a].axisHeld

/-- The ASC causes of a set (R160); before the profile load of Dawn only the OV3 flag acts (R158). -/
def State.ascCause (s : State) (x : Fin 4) : Bool :=
  s.flag (Fld.PSP_STATE_OV3_LVL x) ||
  (s.sys.profileLoaded &&
    (s.setFaults x &&& ascFaults != 0 || s.siblingFault x (ownFaults &&& ~~~stopFaults) || s.groupAxis x ||
      s.sfiAsc.getLsbD x.val && s.cross x))

/-- The stop causes of a set (R160). -/
def State.stopCause (s : State) (x : Fin 4) : Bool :=
  !s.flag Fld.PSP_REQ_EN || s.setFaults x &&& stopFaults != 0 || s.siblingFault x stopFaults ||
  s.sfiSto.getLsbD x.val || !s.setActive x || s.mode != .run

/-- The target of a set in the order of R162; none leaves the set as it is. -/
def State.target (s : State) (x : Fin 4) : Option SetState :=
  if s.stoRemoved x then some .sto
  else if s.psp[x].dwell then some .scOff
  else if s.flag (Fld.PSP_FAULT_SC_IN_ASC x) && !s.cross x then some .block
  else if s.flag Fld.PSP_REQ_HOLD then (if s.psp[x].holdAsc then some .asc else some .block)
  else if s.ascCause x then some .asc
  else if s.stopCause x && s.cross x then some .asc
  else if s.stopCause x then some .block
  else none

/-- A gate self-test running on a channel is aborted by an ASC or STO request (R131). The console's gdc selftest is then
answered by the next poll (log entry 59). -/
def State.abortTests (s : State) (x : Fin 4) : State :=
  forAll (setChans x)
    (fun n t =>
      if t.flag (Fld.GDC_TESTRES_BUSY n) then
        (t.setFlag (Fld.GDC_TESTRES_BUSY n) false).setFlag (Fld.GDC_TESTRES_ABORTED n) true
      else t) s

/-- Takes a set to a state with the gate commands of R159: BLOCK, SC_OFF and STO command the gates off; ASC_ENTRY
commands the high sides off and requests the low sides. -/
def State.enterSet (s : State) (x : Fin 4) (v : SetState) : State :=
  let s := when (v != .run) (·.setFlag (Fld.PWM_STATUS_RUN_REL x) false) s
  let s := when (v != .run && s.flag (Fld.PWM_PHASE_ADJ x)) (·.stepOffset x) s
  let s := s.setFlag (Fld.LOOM_STATUS_REL x) (v == .run)
  match v with
  | .run => (s.setMarker x false).putSetState x .run
  | .block => (((s.phasesOff x).setMarker x false).putSetState x .block)
  | .sto => (((s.abortTests x).phasesOff x).setMarker x false).putSetState x .sto
  | .scOff => (((s.phasesOff x).setMarker x false).chopControl x).putSetState x .scOff
  | .ascEntry | .asc =>
    let s := (s.abortTests x).putSetState x .ascEntry
    let s := forAll three (fun k t => t.chanOff (hiChan x k)) s
    let s := forAll three (fun k t => t.requestOn (loChan x k)) s
    (s.setMarker x true).ascCheck x

/-- The requests for STO and ASC that stand on a set (R160, R162), a bit each: the hardware STO, the island's STO and its ASC under
STO_ASC, the OV3 flag, a stop cause with CROSS, ASC as the hold target, the faults of the other sets of its axis and of the members of its
group, and from bit 8 its own
set faults that are ASC causes. -/
def State.asks (s : State) (x : Fin 4) : BitVec 24 :=
  let own : Word := if s.sys.profileLoaded then s.setFaults x &&& ascFaults else 0
  let l : List Bool :=
    [s.flag Fld.PSP_REQ_STO_HW, s.sfiSto.getLsbD x.val, s.sfiAsc.getLsbD x.val && s.cross x, s.flag (Fld.PSP_STATE_OV3_LVL x),
      s.stopCause x && s.cross x, s.flag Fld.PSP_REQ_HOLD && s.psp[x].holdAsc,
      s.sys.profileLoaded && s.siblingFault x (ownFaults &&& ~~~stopFaults), s.sys.profileLoaded && s.groupAxis x]
  (own.setWidth 24 <<< 8) ||| BitVec.ofNat 24 (l.foldr (fun b n => 2 * n + (if b then 1 else 0)) 0)

/-- A request for STO or ASC that was not there at the last evaluation aborts the self-tests of the set, in pulse block too
(R131). -/
def State.newAsks (s : State) (x : Fin 4) : State :=
  let a := s.asks x
  (when (a &&& ~~~s.psp[x].asked != 0) (·.abortTests x) s).modPsp x fun p => { p with asked := a }

/-- One evaluation of the target of a set. In HOLD, CROSS or an ASC cause makes ASC the hold target from then on. -/
def State.settleSet (s : State) (x : Fin 4) : State :=
  let s := s.newAsks x
  let s := when (s.flag Fld.PSP_REQ_HOLD && (s.cross x || s.ascCause x))
    (·.modPsp x fun p => { p with holdAsc := true }) s
  match s.target x with
  | none => if s.setState x == .sto || s.setState x == .scOff then s.enterSet x .block else s
  | some .asc => if s.inAsc x then s else s.enterSet x .asc
  | some v => if s.setState x = v then s else s.enterSet x v

end Sys2Proof.Machine
end

