-- ==== Sys2Proof/Machine/Start.lean ====
section
/-! DEFINITION. The start sequence (R291, R292) and the loss of lock (R287 to R290): how a start begins, where it
branches, when it requests and completes the release, how it fails, and the coast and re-lock after a loss. -/

namespace Sys2Proof.Machine

/-- Machine type of an axis: 0 SPM, 1 IPM, 2 induction (R240). -/
def State.machine (s : State) (a : Fin 4) : Nat := s.parNat 20 3 a.val

/-- Position source of an axis: 1 FEEDBACK, 2 SENSORLESS (R274). -/
def State.source_ (s : State) (a : Fin 4) : Nat := s.fld (Fld.POS_CFG_SRC a)

/-- POLE_PAIRS of an axis. -/
def State.polePairs (s : State) (a : Fin 4) : Rat := s.par 20 4 a.val

/-- min⁻¹ of a mechanical speed given electrically, in rad/s. -/
def State.rpmOf (s : State) (a : Fin 4) (w : Rat) : Rat := w / s.polePairs a * 60 / Config.twoPi

/-- rad/s electrical of a mechanical speed in min⁻¹. -/
def State.wOf (s : State) (a : Fin 4) (n : Rat) : Rat := n * Config.twoPi / 60 * s.polePairs a

/-- HO_HIGH or HO_LOW of an axis in min⁻¹ (item 13 or 12 of P22, percent of N_RATED). -/
def State.hoHigh (s : State) (a : Fin 4) : Rat := s.par 22 13 a.val / 100 * s.par 22 10 a.val
def State.hoLow (s : State) (a : Fin 4) : Rat := s.par 22 12 a.val / 100 * s.par 22 10 a.val

/-- Angle of a turn fraction reduced to −1/2 to 1/2. -/
def wrapTurn (q : Rat) : Rat := q - ((q + 1 / 2).floor : Rat)

/-- Angle reduced to 0 to 1 turn. -/
def fracTurn (q : Rat) : Rat := q - (q.floor : Rat)

/-- Reports the estimate of an axis (R300). -/
def State.putEstimate (s : State) (a : Fin 4) (th w : Rat) : State :=
  let t := s.weft
  let s := s.modPos a fun p => { p with th := fracTurn th, w := w, t := t }
  let s := s.setFld (Fld.POS_ANGLE_THETA a) ((nearest (fracTurn th * 65536)).toNat % 65536)
  let s := s.setReg (Reg.POS_SPEED a) (ratToF32 (s.rpmOf a w))
  s.setFlag (Fld.POS_STATUS_REV a) (decide (w < 0))

/-- Whether the set clocks run and the offsets are measured on every set of an axis: step 0x1 is complete. -/
def State.step1Done (s : State) (a : Fin 4) : Bool := (s.axisSets a).all fun x => s.clocksRun x && !s.mfe[x].ofsRun

/-- Whether the rotor flux is ready on every set of an axis (R245); permanent-magnet machines need no wait. -/
def State.fluxReady (s : State) (a : Fin 4) : Bool :=
  s.machine a != 2 || (s.axisSets a).all fun x => s.flag (Fld.LOOM_STATUS_FLUX_READY x)

/-- Requests RUN for every set of an axis (R292, step 0x8). -/
def State.requestRun (s : State) (a : Fin 4) : State :=
  forAll (s.axisSets a) (fun x t => if t.setState x == .run then t else t.modPwm x fun c => { c with goReq := true }) s

/-- A start completes (R291, R315): the axis is RUNNING, the position faults clear, the ramp starts from the measured
speed, in POSITION mode towards the position loop's output, and after a re-lock the resume ramp runs. -/
def State.completeStart (s : State) (a : Fin 4) (st : Start) (result : Nat) : State :=
  let now := s.weft
  let s := (s.setFld (Fld.POS_STATUS_START a) 0).setFld (Fld.POS_START_RESULT a) result
  let s := s.setReg (Reg.POS_FAULT a) 0
  let s := s.setFlag (Fld.POS_STATUS_POL_DONE a) true
  let s := s.modPos a fun p =>
    { p with start := none, iref := none, pulse := 0, coast := false, relockOn := false }
  let pos := s.fld (Fld.SPD_CFG_MODE a) == 1
  let s := s.modSpd a fun p =>
    { p with
      n := p.nf * 60 / Config.twoPi, acc := 0, x := 0, x2 := 0, back := pos, krsT0 := if st.relock then some now else none }
  let s := when st.relock
    (fun t => ((t.incSat (Fld.POS_CNT_RELOCKS a)).setFlag (Fld.SPD_STATE_RESUME a) true).setFld (Fld.SPD_FACT_KRS a) 0) s
  (s.setAxis a AxSt.RUNNING).finishEnable a St.SUCCESS 0

/-- A start fails (R290, R291). A first start returns the axis to STOPPED. A failed re-lock leaves it FAULTED; it is
followed by the next attempt, or at ATTEMPT 3 by SAFE. -/
def State.failStart (s : State) (a : Fin 4) (result : Nat) : State :=
  match s.pos[a].start with
  | none => s
  | some st =>
    let s := s.endStart a result
    if !st.relock then s.setAxis a AxSt.STOPPED
    else
      let s := s.setAxis a AxSt.FAULTED
      if 3 ≤ s.fld (Fld.POS_STATUS_ATTEMPT a) then
        let s := s.modPos a fun p => { p with coast := false, relockOn := false }
        (s.setFlag (Fld.POS_FAULT_SAFE a) true).setAxis a AxSt.SAFE
      else
        let s := s.incSat (Fld.POS_STATUS_ATTEMPT a)
        (s.modPos a fun p => { p with coast := true, relockOn := true }).setFld (Fld.POS_STATUS_START a) 3

/-- Whether AMP_EN acts on a port: a SINCOS or a RESOLVER port (R369). -/
def State.ampOn (s : State) (n : Fin 4) : Bool :=
  s.flag (Fld.FBI_CFG_AMP_EN n) && (s.fld (Fld.FBI_CFG_TYPE n) == 2 || s.fld (Fld.FBI_CFG_TYPE n) == 5)

/-- Whether the commutation port of an axis is lost (R277): a fault, an amplitude outside its window (R369, R397), or a loss already
taken. -/
def State.portLost (s : State) (a : Fin 4) : Bool :=
  let n : Fin 4 := Fin.ofNat 4 (s.fld (Fld.POS_CFG_PORT a))
  s.flag (Fld.FBI_STATUS_FAULT n) || s.ampOn n && !s.flag (Fld.FBI_STATUS_AMP_LVL n) || s.pos[a].portLost

/-- A start sequence begins (R292). -/
def State.beginStart (s : State) (a : Fin 4) (relock : Bool) : State :=
  let asc := (s.axisSets a).any fun x => s.inAsc x
  let st : Start := { relock := relock, asc := asc, result := none, search := false, still := false }
  let s := (s.setAxis a AxSt.STARTING).startTimer (.start a)
  let s := s.modPos a fun p => { p with start := some st, stale := 0, portLost := false }
  let s := (s.setFlag (Fld.POS_STATUS_BACKUP a) false).setFlag (Fld.POS_STATUS_POL_DONE a) false
  let s := if relock then s
    else
      let s := forAll (s.axisSets a)
        (fun x t =>
          (t.beginOffsets x false).setFlag (Fld.LOOM_STATUS_FLUX_READY x) false) s
      s.setFld (Fld.POS_STATUS_START a) 1
  if asc then (s.setFld (Fld.POS_STATUS_START a) 2).setFld (Fld.POS_STATUS_ACT a) 5
  else if s.source_ a = 1 then
    if s.portLost a || !s.flag (Fld.FBI_STATUS_TURN_OK (s.fld (Fld.POS_CFG_PORT a))) then s.failStart a 0x15
    else (s.modPos a fun p => { p with start := some { st with result := some 1 } }).setFld (Fld.POS_STATUS_ACT a) 1
  else s.setFld (Fld.POS_STATUS_START a) 3

/-- Whether the start of a lead may end in RUNNING: at least MIN_MEMBERS members are ACTIVE, itself counted (R353). -/
def State.groupReady (s : State) (a : Fin 4) : Bool :=
  if !s.isShared a || s.isFollower a then true
  else
    let m := s.fld (Fld.LSH_CFG_MINMEM a)
    let own := s.fld (Fld.LSH_CFG_MEMBER_IDX a)
    let n := (List.finRange 16).filter fun (i : Fin 16) =>
      i.val != own && decide (s.lsh[a].members[i].miss < 2) && (s.lsh[a].members[i].last).any fun r => r.mstate.toNat == 4
    decide ((if m = 0 then s.fld (Fld.LSH_CFG_MEMBERS a) else m) ≤ n.length + 1)

/-- The waits of a start in progress, looked at after every event: CROSS clear after a start from ASC (R292, R294),
the release request, and the completion once every set is in RUN. On an induction machine the flux is waited for
before the release, or, where R292 goes straight to the release, before the axis leaves STARTING (R245). -/
def State.startPoll (s : State) (a : Fin 4) : State :=
  match s.pos[a].start with
  | none => s
  | some st =>
    if st.asc && st.result.isNone then
      if (s.axisSets a).any fun x => s.cross x then s
      else if s.pos[a].ascOk && s.machine a != 2 then
        let p := s.pos[a]
        let n := absRat (s.rpmOf a p.wAsc)
        let s := s.modPos a fun p =>
          { p with
            start := some { st with result := some 5 }, thB := p.thAsc, wB := p.wAsc, thInj := p.thAsc, wInj := p.wAsc, wmPrev := n }
        s.putEstimate a p.thAsc p.wAsc
      else s.failStart a 0x17
    else
      let all := (s.axisSets a).all fun x => s.setState x == .run
      match st.result with
      | some r =>
        let direct := r == 1 || r == 5
        if !s.step1Done a then s
        else if !s.fluxReady a && (all || !direct) then s.setFld (Fld.POS_STATUS_START a) 7
        else if all then (if s.groupReady a then s.completeStart a st r.toNat else s)
        else (s.requestRun a).setFld (Fld.POS_STATUS_START a) 8
      | none =>
        if (st.still || st.search) && !all && s.step1Done a then s.requestRun a else s

/-! ## Loss of lock (R287 to R290) -/

/-- A loss of lock with CROSS set (R288): POS_CROSS on the sets that have it, LOCK_CROSS, and no re-lock. -/
def State.lockCross (s : State) (a : Fin 4) (crossed : List (Fin 4)) : State :=
  let s := (s.setFlag (Fld.POS_FAULT_LOCK_CROSS a) true).modPos a fun p => { p with coast := false, relockOn := false }
  (forAll crossed (fun x t => t.latchSet x [SF.POS_CROSS]) s).axisFault a 4

/-- A loss of lock of an axis, decided on each set's CROSS flag (R288): with CROSS set, POS_CROSS and FAULTED; with
CROSS clear a RUNNING or STOPPING axis coasts, and a re-lock may follow on a SENSORLESS axis that was RUNNING. Each coast counts in
ATTEMPT; at 3 it leads to SAFE (R289, R290). -/
def State.loseLock (s : State) (a : Fin 4) : State :=
  let st := s.axState a
  let crossed := (s.axisSets a).filter fun x => s.cross x
  let s := (s.incSat (Fld.POS_CNT_LOSSES a)).setFlag (Fld.POS_FAULT_LOCK_LOST a) true
  let s := s.modPos a fun p => { p with outN := 0 }
  if !crossed.isEmpty then s.lockCross a crossed
  else if st == AxSt.STARTING then
    match s.pos[a].start with
    | some q => if q.relock then s.failStart a 0x16 else (s.endStart a 0x16).axisFault a 4
    | none => s.axisFault a 4
  else
    let attempt := s.fld (Fld.POS_STATUS_ATTEMPT a)
    let again := s.source_ a == 2 && st == AxSt.RUNNING && s.parOn 22 45 a.val
    if 3 ≤ attempt then ((s.setFlag (Fld.POS_FAULT_SAFE a) true).axisFault a 4).setAxis a AxSt.SAFE
    else
      let s := s.incSat (Fld.POS_STATUS_ATTEMPT a)
      let s := s.modPos a fun p => { p with coast := true, relockOn := again, iref := some DQ.zero }
      s.setFld (Fld.POS_STATUS_START a) 0xA

end Sys2Proof.Machine
end

