-- ==== Sys2Proof/Machine/Member.lean ====
section
/-! DEFINITION. The state of a member of a load-sharing group as its axis changes (R332), and the phase offsets of the group (R348). -/

namespace Sys2Proof.Machine

/-- Changes what the model keeps of load sharing on an axis. -/
def State.modLsh (s : State) (a : Fin 4) (f : LshAx → LshAx) : State := { s with lsh := s.lsh.set a (f s.lsh[a]) }

/-- MSTATE of an axis (R332). -/
def State.mstate (s : State) (a : Fin 4) : Nat := s.fld (Fld.LSH_STATE_MSTATE a)

/-! ## What follows a change of the local axis (R332) -/

/-- The torque T_m handed to the lanes at T_APPLY (R341). -/
def State.setTm (s : State) (a : Fin 4) (t : Rat) : State :=
  (s.modLsh a fun g => { g with tm := t }).setReg (Reg.LSH_TM a) (ratToF32 t)

/-- The part of the phase offset that the group gives a set (R348): MEMBER_IDX × PHASE_STEP once its member has entered JOINED. -/
def State.memberShift (s : State) (x : Fin 4) : Nat :=
  match s.ownerAxis x with
  | some a =>
    if s.isShared a && decide (2 ≤ s.mstate a) then s.fld (Fld.LSH_CFG_MEMBER_IDX a) * s.fld (Fld.LSH_CFG_PHASE_STEP a) else 0
  | none => 0

/-- Writes PWM_SET_s_PHASE from P18.003 and the group's part (R348); the write acts by R180. -/
def State.joinPhase (s : State) (x : Fin 4) : State :=
  s.writePhase x (BitVec.ofNat 8 (s.parNat 18 3 x.val + s.memberShift x))

/-- Writes PWM_SET_s_PHASE of every local set as a member enters JOINED (R348). -/
def State.interleave (s : State) (a : Fin 4) : State := forAll (s.axisSets a) (fun x t => t.joinPhase x) s

/-- MSTATE after the profile, the local axis or SHARE_LOST changed (R332, R350). -/
def State.memberPoll (s : State) (a : Fin 4) : State :=
  let st := s.axState a
  let m := s.mstate a
  let put (v : Nat) (s : State) : State := s.setFld (Fld.LSH_STATE_MSTATE a) v
  if !s.axisExists a || !s.isShared a then s
  else if m = 0 then put 1 s
  else if m = 2 && st == AxSt.STARTING then put 3 s
  else if (m = 2 || m = 3) && (st == AxSt.RUNNING || st == AxSt.STOPPING) then put 4 s
  else if m = 3 && st != AxSt.STARTING then (put 2 s).interleave a
  else if m = 4 && !(st == AxSt.RUNNING || st == AxSt.STOPPING) then
    (((put 2 s).modLsh a fun g => { g with offN := 0 }).setTm a 0).interleave a
  else if m = 6 && !s.flag ⟨Reg.SPD_FAULT a, 7, 1⟩ then put 1 s
  else s

end Sys2Proof.Machine
end

