-- ==== Sys2Proof/Machine/Settle.lean ====
section
/-! DEFINITION. What follows every event: the STO demands, the starts in progress, the target of every set, the clocks
of every set and the way from RUN to READY. -/

namespace Sys2Proof.Machine

/-- Whether the clocks of a set are needed (R29): its axis is active, or a known-answer test or an offset measurement
waits for them or runs, or a SERVICE test uses the set. -/
def State.clockNeeded (s : State) (x : Fin 4) : Bool :=
  s.setActive x || s.lane[x].katWant || s.flag (Fld.LOOM_STATUS_KAT_BUSY x) || s.mfe[x].ofsRun ||
  (match s.con.test with
   | some (_, some y) => x == y
   | _ => false)

/-- Stops the clocks of every set that nothing needs, and with them its lane's schedule (R29, R267, R636). -/
def State.gateClocks (s : State) : State :=
  forAll four
    (fun x t =>
      when (!t.clockNeeded x) (fun t => (t.setFld ⟨Reg.SYS_CLK, x.val, 1⟩ 0).setFlag (Fld.LOOM_STATUS_ACTIVE x) false) t) s

/-- A known-answer test that waits starts once its set's clocks run, its reload is done and the set is not in RUN
(R263, R264). -/
def State.katPoll (s : State) : State :=
  forAll four
    (fun x t =>
      when (t.lane[x].katWant && !t.lane[x].reload && t.clocksRun x && t.setState x != .run)
        (fun t => (t.modLane x fun l => { l with katWant := false }).setFlag (Fld.LOOM_STATUS_KAT_BUSY x) true) t) s

/-- Whether the shunt of a set can serve fallback: R_SHUNT set, SHUNT_SUSPECT clear, both SSI channels up (R219). -/
def State.fbAvail (s : State) (x : Fin 4) : Bool :=
  s.fld (Fld.MFE_SHUNT_RSH x) != 0 && !s.flag (Fld.MFE_FAULT_SHUNT_SUSPECT x) && s.psp[x].linkData && s.psp[x].linkFlag

/-! ## Converters of a set sense island (R209) -/

/-- A value on a converter's scale of `step` per code, from code `lo` to code `hi`. -/
def onScale (step : Rat) (lo hi : Int) (v : Rat) : Rat := (clampInt lo hi (nearest (v / step)) : Rat) * step

/-- The shunt voltage a sample shows: 30.52 µV per code, ±250 mV. -/
def shuntVolts (v : Rat) : Rat := onScale (1 / 32768) (-8192) 8191 v

/-- The DC-link voltage a sample shows: 0.1 V per code, 0 to 1,638.3 V. -/
def linkVolts (v : Rat) : Rat := onScale (1 / 10) 0 16383 v

/-- The voltage a terminal or DC check sample shows: 0.4 V per code, 0 to 1,638.0 V. -/
def termVolts (v : Rat) : Rat := onScale (2 / 5) 0 4095 v

/-- R_SHUNT, in Ω (R225). -/
def State.rShunt (s : State) (x : Fin 4) : Rat := (s.fld (Fld.MFE_SHUNT_RSH x) : Rat) / 1_000_000

/-- V_DC_TV, the second measurement of the DC link: the larger of the latest DC check sample and the largest terminal sample of
the last 1 ms (R211). -/
def State.vDcTv (s : State) (x : Fin 4) : Rat :=
  let now := s.now
  ((s.psp[x].tvHist.filter fun e => decide (now ≤ e.1.toNat + 1_000_000)).map (·.2)).foldl max s.psp[x].dcCheck

/-- Keeps a sample of the three terminal channels, in V: for V_DC_TV (R211), and the line-to-line values that POS takes means of
(R210, R293). -/
def State.terminalIn (s : State) (x : Fin 4) (u v w : Rat) : State :=
  let now := s.weft
  let top := max u (max v w)
  s.modPsp x fun p =>
    { p with
      tvHist := (now, top) :: p.tvHist.filter fun e => decide (now.toNat ≤ e.1.toNat + 1_000_000) && decide (top < e.2)
      term := ((u - v, v - w) :: p.term).take 20 }

/-- Whether V_dc and V_DC_TV agree (R211). -/
def State.dcAgree (s : State) (x : Fin 4) : Bool :=
  let tv := s.vDcTv x
  !decide (s.psp[x].vdc < tv - max (tv / 20) 20)

/-- Whether a fitted input of a set works in sigma-delta mode. -/
def State.anySd (s : State) (x : Fin 4) : Bool := fieldGet (s.reg (Reg.MFE_CFG x)) 0 3 &&& fieldGet (s.reg (Reg.MFE_CFG x)) 8 3 != 0

/-- The live flags of MFE_SET_s_STATUS that follow from the rest of the state, and the DC-link values (R226, R229). -/
def State.mfeLive (s : State) (x : Fin 4) : State :=
  let m := s.mfe[x]
  let p := s.psp[x]
  let valid := fieldGet (s.reg (Reg.MFE_CFG x)) 0 3 &&& (7 - m.inv.toNat)
  let s := (s.setFld (Fld.MFE_STATUS_VALID x) valid).setFlag (Fld.MFE_STATUS_FB_AVAIL x) (s.fbAvail x)
  let s := s.setFlag (Fld.MFE_STATUS_DC_AGREE x) (p.linkData && s.dcAgree x)
  let s := s.setFlag (Fld.MFE_STATUS_SDCLK_OK x) (s.anySd x && s.clocksRun x && !m.sdclk)
  let s := s.setFld (Fld.MFE_VDC_VDC x) (min (quantise (p.vdc * 10)).toNat 0x3FFF)
  s.setFld (Fld.MFE_VDC_VTV x) (min (quantise (s.vDcTv x * 5 / 2)).toNat 0xFFF)

/-- Discards an open staging (R454). A sealing whose flash write runs ends with `status`. -/
def State.discardStaging (s : State) (status : Nat) : State :=
  match s.isl.staging with
  | none => s
  | some g =>
    let s : State := { s with isl := { s.isl with staging := none } }
    let s := ((s.setReg Reg.SFI_STAGE 0).setFld Fld.SFI_SEALINFO_STEP 0).setFld Fld.SFI_SEALINFO_TARGET 0
    let s := s.setFlag Fld.SFI_STATUS_STAGE_OPEN false
    match g.sealing with
    | some h => s.complete h 0x03 status
    | none => s

/-- A staging ends when an axis leaves STOPPED or the device leaves READY or SERVICE (R454). -/
def State.stagingHolds (s : State) : Bool := (s.mode == .ready || s.mode == .service) && (!s.profileActive || s.allStopped)

/-- What ends a re-lock series from outside (R288, R289): CROSS on a set latches POS_CROSS there and LOCK_CROSS; a stop cause
other than the axis state leaves the axis FAULTED. -/
def State.seriesPoll (s : State) (a : Fin 4) : State :=
  if !s.relocking a then s
  else
    let xs := s.axisSets a
    let crossed := xs.filter fun x => s.cross x
    if !crossed.isEmpty then s.lockCross a crossed
    else if !s.flag Fld.PSP_REQ_EN || s.mode != .run ||
        xs.any (fun x => s.setFaults x != 0 || s.stoRemoved x || s.sfiSto.getLsbD x.val) then s.endSeries a
    else s

/-- Evaluates every set, every start in progress and the state of every member of a group, shows whether Weft time may step (R27, R570), and takes the device from RUN to
READY once no axis is active and every set is in pulse block (R77, R79, R643). DEDUCED (log entry 60): an axis that re-locks keeps the
device in RUN, into which R289 releases it. Nothing is evaluated while the device is in reset or in NIGHT. -/
def State.settle (s : State) : State :=
  if !s.awake then s
  else
    let s := forAll four (fun a t => (t.seriesPoll a).startPoll a) s.applySto
    let s := (forAll four (fun x t => t.settleSet x) s).gateClocks.katPoll
    let s := forAll four (fun x t => t.mfeLive x) s
    let s := when (!s.stagingHolds) (·.discardStaging St.SEAL_FAIL) s
    let s := forAll four (fun a t => t.memberPoll a) (s.setFlag Fld.WFT_SYNC_SLEW_ONLY (!s.noneActive))
    if s.mode == .run && s.noneActive && four.all (fun a => !s.relocking a) && four.all (fun x => s.inPulseBlock x) then s.setMode .ready
    else s

end Sys2Proof.Machine
end

