-- ==== Sys2Proof/Machine/Descriptor.lean ====
section
/-! DEFINITION. What every descriptor passes before its own rules: the modes in which its opcode is executed (R78, R80,
R530), and the operand form of an axis index. -/

namespace Sys2Proof.Machine

/-- Opcodes executed in HOLD (R530). -/
def inHold (op : Nat) : Bool := op == 0x01 || op == 0x02 || op == 0x0C || op == 0x0D || op == 0x19 || decide (0x40 ≤ op ∧ op ≤ 0x7F)

/-- Opcodes that CP_0 firmware handles (R527). -/
def byCp0 (op : Nat) : Bool := op == 0x07 || op == 0x0D || op == 0x18 || op == 0x1B || op == 0x1C || decide (0x40 ≤ op ∧ op ≤ 0x7F)

/-- Whether the ring of a descriptor runs: it is enabled and neither it nor its CQ is stopped by an error (R517, R533), and
the device has not stopped in Dawn (R514). The console's commands come over no ring (R612). -/
def State.ringRuns (s : State) (h : Desc) : Bool :=
  16 ≤ h.sq.val ||
    (s.flag (Fld.HIF_SQ_CFG_ENABLE h.sq.val) && !s.flag (Fld.HIF_SQ_CFG_ERR h.sq.val)
      && !s.flag (Fld.HIF_CQ_CFG_ERR (s.fld (Fld.HIF_SQ_CFG_CQ h.sq.val))) && !s.dawnFailed)

/-- The result of a mode request (R100). -/
def State.reqRes (s : State) (r : Nat) : State := s.setFld Fld.SYS_MODE_REQ_RES r

/-- Refuses a descriptor with a status. A mode request (PROFILE_SELECT and AXIS_ENABLE, R78, R80) refused for mode shows in
REQ_RES (R78, R100). -/
def State.refuse (s : State) (h : Desc) (op status : Nat) : State :=
  (when (status == St.MODE_DENIED && (op == 0x07 || op == 0x08)) (·.reqRes 2) s).complete h op status

/-- Puts the firmware queue, with its count in HIF_STATUS and interrupt source 0 (R494, R525, R538). -/
def State.putFwq (s : State) (l : List QueuedFw) : State :=
  ({ s with hif := { s.hif with fwq := l } }.setFld Fld.HIF_STATUS_FWQ l.length).setIrq 0 (!l.isEmpty)

/-- CP_0 takes a descriptor out of the firmware queue to execute it (R525). -/
def State.takeFw (s : State) (h : Desc) (op : Nat) : State :=
  match s.hif.fwq.findIdx? fun q => q.sq.val == h.sq.val && q.opcode.toNat == op && q.cid == h.cid with
  | some k => s.putFwq (s.hif.fwq.eraseIdx k)
  | none => s

/-- The state in which the rules of a descriptor start: a firmware descriptor has left the firmware queue (R525, R527). -/
def State.taken (s : State) (h : Desc) (op : Nat) : State := when (byCp0 op) (·.takeFw h op) s

/-- The pairs that handle an opcode (R527). -/
def handlers (op : Nat) : List (Fin 4) :=
  if op = 0x07 then [0, 1, 3] else if byCp0 op then [0] else if op = 0x1A then [3] else []

/-- Whether a pair is between a mismatch and the end of its restart, its functions unavailable (R497). -/
def State.pairAway (s : State) (n : Fin 4) : Bool := s.fld (Fld.LCK_STATUS_STATE n) == 2 || s.fld (Fld.LCK_STATUS_STATE n) == 3

/-- Executes a descriptor: nothing while the device is not awake, its ring does not run or a pair that handles it is between a mismatch and
the end of its restart (R497); MODE_DENIED in HOLD for every opcode that
R530 does not list; UNIT_FAILED for a firmware opcode while CP_0 is FAILED (R501). A firmware descriptor leaves the firmware queue (R525). -/
def State.dispatch (s : State) (h : Desc) (op : Nat) (f : State → State) : Res :=
  if !(s.awake && s.ringRuns h) || (handlers op).any s.pairAway then .next s
  else
    let s := s.taken h op
    if s.mode == .hold && !inHold op then .next (s.refuse h op St.MODE_DENIED)
    else if byCp0 op && s.flag (Fld.LCK_STATUS_FAILED 0) then .next (s.complete h op St.UNIT_FAILED)
    else .next (f s)

/-- The axis an INDEX field names, if it exists in the active topology (R22). -/
def State.axisOf (s : State) (h : Desc) : Option (Fin 4) :=
  if h.index.toNat < 4 then
    let a : Fin 4 := Fin.ofNat 4 h.index.toNat
    if s.axisExists a then some a else none
  else none

end Sys2Proof.Machine
end

