-- ==== Sys2Proof/Machine/CanBase.lean ====
section
/-! DEFINITION. What the users of the CAN controllers share (chapter "CAN FD controllers"): the error state, the choice
of the next transmit buffer, loading a buffer, and the receive window. -/

namespace Sys2Proof.Machine

/-- Changes what the model keeps of a CAN controller. -/
def State.modCan (s : State) (c : Fin 4) (f : CanCtl → CanCtl) : State := { s with can := s.can.set c (f s.can[c]) }

/-- Whether a controller takes part in bus traffic: error active or error passive (R586). -/
def State.canOn (s : State) (c : Fin 4) : Bool := s.flag (Fld.CAN_CFG_ENABLE c) && s.fld (Fld.CAN_STATUS_STATE c) < 2

/-- MODE; 0b11 acts as normal (R585). -/
def State.canMode (s : State) (c : Fin 4) : Nat := s.fld (Fld.CAN_CFG_MODE c) % 3

/-- The order of arbitration: the lower value wins the bus. Bit 31 of an identifier marks the extended form (R579). -/
def arbitration (ident : Word) : Nat :=
  if ident.getLsbD 31 then (ident.toNat / 2 ^ 18 % 2 ^ 11) * 2 ^ 19 + 2 ^ 18 + ident.toNat % 2 ^ 18
  else (ident.toNat % 2 ^ 11) * 2 ^ 19

/-- The arbitration value of the frame in a buffer (R579). -/
def State.canKey (s : State) (c : Fin 4) (b : Fin 3) : Nat :=
  match s.can[c].tb[b] with
  | some f => arbitration f.ident
  | none => 0

/-- The buffer to send at the next start of frame (R579). -/
def State.canPick (s : State) (c : Fin 4) : Option (Fin 3) :=
  let pend := s.fld (Fld.CAN_TXST_PEND c)
  let l : List (Fin 3) := three.filter fun b => pend.testBit b.val
  if s.flag (Fld.CAN_CFG_TXMODE c) then l.head?
  else
    l.foldl
      (fun (o : Option (Fin 3)) (b : Fin 3) =>
        match o with
        | none => some b
        | some (d : Fin 3) => if s.canKey c b < s.canKey c d then some b else some d) none

/-- A start of frame: a controller on the bus, not listen-only, with no frame in transmission starts its next one
(R577, R579). -/
def State.canPoll (s : State) (c : Fin 4) : State :=
  if !s.canOn c || s.canMode c == 1 || s.fld (Fld.CAN_TXST_ACTIVE c) != 0 then s
  else
    match s.canPick c with
    | some b => (s.setFld (Fld.CAN_TXST_ACTIVE c) (2 ^ b.val)).modCan c fun k => { k with sof := s.weft }
    | none => s

/-- Loads a transmit buffer (R579). -/
def State.canLoad (s : State) (c : Fin 4) (b : Fin 3) (f : CanTx) : State :=
  let s := s.modCan c fun k => { k with tb := k.tb.set b (some f) }
  (s.setFld (Fld.CAN_TXST_PEND c) (s.fld (Fld.CAN_TXST_PEND c) ||| 2 ^ b.val)).canPoll c

/-- Frees a transmit buffer (R580). -/
def State.canFree (s : State) (c : Fin 4) (b : Fin 3) : State :=
  let s := s.modCan c fun k => { k with tb := k.tb.set b none, aborts := k.aborts &&& ~~~(1#3 <<< b.val) }
  let off (f : Field) (s : State) : State := s.setFld f (s.fld f &&& (7 - 2 ^ b.val))
  off (Fld.CAN_TXST_ACTIVE c) (off (Fld.CAN_TXST_PEND c) s)

/-- A safety frame for a controller: FD format in TB_0, which the island owns; a frame that still waits there is
replaced (R474). -/
def State.canSafetyTx (s : State) (c : Fin 4) (ident : Word) (body : List Byte) : State :=
  let active := (s.fld (Fld.CAN_TXST_ACTIVE c)).testBit 0
  if active then s
  else s.canLoad c 0 { ident := ident, dlc := 13, fdf := true, brs := s.flag (Fld.CAN_CFG_BRS_EN c), data := body }

/-- A word of four data bytes, byte 0 lowest. -/
def dataWord (l : List Byte) (k : Nat) : Word :=
  BitVec.ofNat 32
    ((l.getD (4 * k) 0).toNat + 256 * (l.getD (4 * k + 1) 0).toNat + 65536 * (l.getD (4 * k + 2) 0).toNat +
      16777216 * (l.getD (4 * k + 3) 0).toNat)

/-- The receive window shows the head of the FIFO, LEVEL its fill, and interrupt source 4 stands while any controller
holds a frame (R583, R588). -/
def State.canWindow (s : State) (c : Fin 4) : State :=
  let l := s.can[c].fifo
  let s := s.setFld (Fld.CAN_RXST_LEVEL c) l.length
  let s := match l.head? with
    | none =>
      forAll (List.range 16) (fun k t => t.setReg (Reg.CAN_RX_DATA c k) 0)
        (((s.setReg (Reg.CAN_RX_ID c) 0).setReg (Reg.CAN_RX_CTL c) 0).setReg (Reg.CAN_RX_TIME c) 0)
    | some e =>
      let f := e.f
      let s := ((s.setFlag (Fld.CAN_RX_ID_IDE c) f.ide).setFlag (Fld.CAN_RX_ID_RTR c) f.rtr).setFld (Fld.CAN_RX_ID_ID c) f.id.toNat
      let s := ((s.setFlag (Fld.CAN_RX_CTL_FDF c) f.fdf).setFlag (Fld.CAN_RX_CTL_BRS c) f.brs).setFlag (Fld.CAN_RX_CTL_ESI c) f.esi
      let s := (s.setFld (Fld.CAN_RX_CTL_FILT c) e.filt).setFld (Fld.CAN_RX_CTL_DLC c) f.dlc.toNat
      let s := s.setReg (Reg.CAN_RX_TIME c) (BitVec.ofNat 32 (f.sof.toNat / 1000))
      forAll (List.range 16) (fun k t => t.setReg (Reg.CAN_RX_DATA c k) (dataWord f.data k)) s
  s.setIrq 4 (four.any fun k => !s.can[k].fifo.isEmpty)

/-- A safety connection routes on a controller: TB_0 belongs to the island (R474, R579). -/
def State.canSafety (s : State) (c : Fin 4) : State :=
  s.setFlag (Fld.CAN_CFG_SAFETY c)
    ((List.range 32).any fun k => s.parNat 44 30 k != 0 && (s.parNat 44 33 k == c.val + 2 || s.parNat 44 34 k == c.val + 2))

end Sys2Proof.Machine
end

