-- ==== Sys2Proof/Machine/Island.lean ====
section
/-! DEFINITION. The safety island (chapter "Safety island and drive safety functions"): its view of the feedback
ports, the demand sources, monitoring at each safety cycle, the outputs, island faults, and the hardware STO path. -/

namespace Sys2Proof.Machine

/-! ## Views and helpers -/

/-- Changes what the island keeps of an axis. -/
def State.modSfa (s : State) (a : Fin 4) (f : SfAxis → SfAxis) : State := { s with sfa := s.sfa.set a (f s.sfa[a]) }

/-- The safe port of an axis (R428): the port that SAFE_PORT names, with SAFE_CPT set. -/
def State.safePort (s : State) (a : Fin 4) : Option (Fin 4) :=
  let n := s.parNat 40 30 a.val
  if n < 4 ∧ s.parWord 40 31 a.val ≠ 0 then some (Fin.ofNat 4 n) else none

/-- The type code of a port; 0x7 to 0xF act as 0 (R363). -/
def State.portType (s : State) (n : Fin 4) : Nat :=
  let t := s.fld (Fld.FBI_CFG_TYPE n)
  if t ≤ 6 then t else 0

/-- CPT (R394); 65,536 × RES_PP on a resolver (R370). -/
def State.cpt (s : State) (n : Fin 4) : Nat :=
  if s.portType n = 5 then 65536 * max 1 (s.fld (Fld.FBI_RES_RESPP n)) else (s.reg (Reg.FBI_CPT n)).toNat

/-- The hysteresis count of a port (R375). -/
def State.portH (s : State) (n : Fin 4) : Int := s.fb[n].h

/-- SAFE_CPT of an axis, counts per turn. -/
def State.safeCpt (s : State) (a : Fin 4) : Int := s32 (s.parWord 40 31 a.val)

/-- SPD_FILT of an axis in safety cycles (R440). -/
def State.spdFilt (s : State) (a : Fin 4) : Nat := (s.par 40 32 a.val * 2).floor.toNat

/-- Whether the configuration of the safe port meets R428: the type, AMP_EN, and CPT equal to SAFE_CPT. -/
def State.portFits (s : State) (a : Fin 4) (n : Fin 4) : Bool :=
  let t := s.portType n
  s.safeCpt a != 0 && (s.cpt n : Int) == s.safeCpt a &&
  (if s.isClassW a then t != 6 && t != 0 else (t == 2 || t == 5) && s.flag (Fld.FBI_CFG_AMP_EN n))

/-- Whether SS1-r, SLS and SDI are available on an axis (R428). -/
def State.availSls (s : State) (a : Fin 4) : Bool :=
  match s.safePort a with
  | some n => s.portFits a n && !s.flag (Fld.SFI_AX_FAULT_PORT a)
  | none => false

/-- Whether SLP is available on an axis: class W with an SSI or BISS port (R428). -/
def State.availSlp (s : State) (a : Fin 4) : Bool :=
  match s.safePort a with
  | some n => s.availSls a && s.isClassW a && (s.portType n == 3 || s.portType n == 4)
  | none => false

/-- Whether the island's firmware runs: started, not failed, not suspended (R450, R491). -/
def State.islandRuns (s : State) : Bool :=
  s.awake && s.sys.pairStarted.getLsbD 3 && !s.flag (Fld.LCK_STATUS_FAILED 3) && !s.flag Fld.SFI_STATUS_SUSPENDED &&
  !s.isl.dead

/-- Recomputes ANY of SFI_AX_a_FAULT (R458). -/
def State.sfiAny (s : State) (a : Fin 4) : State :=
  s.setFlag (Fld.SFI_AX_FAULT_ANY a) (fieldGet (s.reg (Reg.SFI_AX_FAULT a)) 2 9 != 0)

/-- Latches a violation of an axis, with its journal entry SAFETY_VIOL (R448). -/
def State.violate (s : State) (a : Fin 4) (f : Field) : State :=
  if s.flag f then s
  else
    let s := (s.setFlag f true).sfiAny a
    s.journalFw 0x0404 a.val (s.reg (Reg.SFI_AX_FAULT a))

/-! ## Demand sources (R447, R479) -/

/-- Whether STO is demanded apart from the island's own demands: the hardware path, STO_DISC and the like (R429, R431). -/
def State.stoPins (s : State) : Bool := s.flag Fld.PSP_REQ_STO_HW || s.stoHard

/-- Whether STO is in force on an axis: the island's own, or one on every set (R162, R471, R472, R479). -/
def State.stoInForce (s : State) (a : Nat) : Bool := s.flag (Fld.SFI_AX_STATE_STO a) || s.stoPins || s.isl.dead

/-- Whether the source of a code shows demand, and whether it does so because it is invalid. -/
def State.source (s : State) (code : Nat) : Bool × Bool :=
  if 0x8000 ≤ code then
    let k := (code - 0x8000) / 16
    let j := (code - 0x8000) % 16
    let valid := s.flag (Fld.SFI_SC_STATE_VALID k)
    (!valid || !(s.fld (Fld.SFI_SC_RX_DEMAND k)).testBit j, !valid)
  else if code / 256 = 1 then
    let i := code % 256
    (!(s.fld Fld.SFI_SI_STATE_CLEAR).testBit i, !(s.fld Fld.SFI_SI_STATE_VALID).testBit i)
  else if code / 256 = 2 then (s.stoInForce (code % 256), false)
  else (code == 1, false)

/-- Whether the demand of item i of P44 on an axis is shown. -/
def State.demand (s : State) (i : Nat) (a : Fin 4) : Bool := (s.source (s.parNat 44 i a.val)).1

/-- Whether any source of the axis shows demand because it is invalid. -/
def State.demandInvalid (s : State) (a : Fin 4) : Bool :=
  [50, 51, 52, 53, 54, 55, 56, 57, 58, 59].any fun i => (s.source (s.parNat 44 i a.val)).2

/-- The SLS indices demanded on an axis. -/
def State.slsDemands (s : State) (a : Fin 4) : List Nat := [0, 1, 2, 3].filter fun i => s.demand (53 + i) a

/-- SLS_LIM_i of an axis, min⁻¹. -/
def State.slsLim (s : State) (a : Fin 4) (i : Nat) : Rat := s.par 41 (1 + i) a.val

/-- The demanded SLS index with the lowest limit (R480). -/
def State.slsIndex (s : State) (a : Fin 4) : Option Nat :=
  (s.slsDemands a).foldl
    (fun best i =>
      match best with
      | none => some i
      | some b => if s.slsLim a i < s.slsLim a b then some i else some b) none

/-! ## STO and SS1 on an axis (R432, R436, R438) -/

/-- Whether SS1 is asked for: a demand, or a latched violation whose reaction is SS1 (R447). -/
def State.ss1Asked (s : State) (a : Fin 4) : Bool :=
  s.demand 51 a ||
  s.flag (Fld.SFI_AX_FAULT_SLS_VIOL a) && s.parOn 41 10 a.val ||
  s.flag (Fld.SFI_AX_FAULT_SLP_VIOL a) && s.parOn 42 10 a.val ||
  s.flag (Fld.SFI_AX_FAULT_SDI_VIOL a) && s.parOn 43 10 a.val

/-- Whether STO is asked for on an axis: a demand, a latched violation whose reaction is STO, or the end of SS1. -/
def State.stoAsked (s : State) (a : Fin 4) : Bool :=
  s.demand 50 a || s.sfa[a].ss1End || s.sfa[a].portSto ||
  s.flag (Fld.SFI_AX_FAULT_CURRENT a) || s.flag (Fld.SFI_AX_FAULT_GAP a) || s.flag (Fld.SFI_AX_FAULT_BRAKE a) ||
  s.flag (Fld.SFI_AX_FAULT_SS1_VIOL a) ||
  s.flag (Fld.SFI_AX_FAULT_SLS_VIOL a) && !s.parOn 41 10 a.val ||
  s.flag (Fld.SFI_AX_FAULT_SLP_VIOL a) && !s.parOn 42 10 a.val ||
  s.flag (Fld.SFI_AX_FAULT_SDI_VIOL a) && !s.parOn 43 10 a.val

/-- The stop request of the island (R425): STOPPING with DEC_QS, or a quick stop of the profile. -/
def State.stopRequest (s : State) (a : Fin 4) : State := s.beginStop a true

/-- Ends an SS1 that runs (R436). Where an STO ended it, that STO lasts as long as SS1 is asked for. -/
def State.endSs1 (s : State) (a : Fin 4) : State :=
  (s.setFlag (Fld.SFI_AX_STATE_SS1 a) false).modSfa a fun f =>
    { f with ss1Since := none, ss1End := f.ss1End || f.ss1Since.isSome }

/-- Puts STO in force on an axis, or brakes first where T_STO_AFTER_SBC is set (R438). -/
def State.demandSto (s : State) (a : Fin 4) : State :=
  if s.flag (Fld.SFI_AX_STATE_STO a) || s.sfa[a].stoWait then s
  else
    let s := s.endSs1 a
    if s.par 40 21 a.val != 0 then
      ((s.startTimer (.stoDelay a)).modSfa a fun f => { f with stoWait := true }).setFlag (Fld.SFI_AX_STATE_SBC a) true
    else s.setFlag (Fld.SFI_AX_STATE_STO a) true

/-! ## One safety cycle (R424) -/

/-- h of the safe port at the last cycle start (R440). -/
def State.hNow (s : State) (a : Fin 4) : Int := (s.sfa[a].hist.headD (0, 0)).2

/-- n_safe of an axis from the h values of the cycle starts, min⁻¹ (R440). DESIGN CHOICE (log entry 61): where no cycle start lies exactly
SPD_FILT back (after a start, a suspension or a new set), the last one before that is taken, else the oldest, and its own age divides. -/
def State.nSafe (s : State) (a : Fin 4) : Rat :=
  match s.sfa[a].hist with
  | [] => 0
  | (t, h) :: rest =>
    match (rest.find? fun e => decide (e.1.toNat + s.spdFilt a * 500_000 ≤ t.toNat)) <|> rest.getLast? with
    | some e => 60 * ((h - e.2 : Int) : Rat) * 1_000_000_000 / ((s.safeCpt a : Rat) * ((t.toNat - e.1.toNat : Nat) : Rat))
    | none => 0

/-- The port of an axis at a cycle start: h, n_safe, staleness and validity (R440, R441). -/
def State.cyclePort (s : State) (a : Fin 4) : State :=
  match s.safePort a with
  | none => s.modSfa a fun f => { f with hist := [] }
  | some n =>
    let h := s.portH n
    let now := s.weft
    let stale := s.flag (Fld.FBI_STATUS_STALE n)
    let s := s.modSfa a fun f =>
      { f with hist := ((now, h) :: f.hist.filter fun e => decide (e.1 < now)).take 66, stale := if stale then f.stale + 1 else 0 }
    let s := s.setReg (Reg.SFI_AX_HSAFE a) (toS32 h)
    let s := s.setReg (Reg.SFI_AX_NSAFE a) (ratToF32 (s.nSafe a))
    let bad := s.flag (Fld.FBI_STATUS_FAULT n) || decide (s.parNat 40 33 a.val < s.sfa[a].stale) || !s.portFits a n
    let active := s.flag (Fld.SFI_AX_STATE_SLS a) || s.flag (Fld.SFI_AX_STATE_SLP a) || s.flag (Fld.SFI_AX_STATE_SDI a) ||
      s.flag (Fld.SFI_AX_STATE_SS1 a) && s.parOn 40 10 a.val
    if bad then
      (s.violate a (Fld.SFI_AX_FAULT_PORT a)).modSfa a fun f => { f with portSto := f.portSto || active }
    else s

/-- n_env of an SS1-r that began at t with n_0 (R436). -/
def State.ss1Env (s : State) (a : Fin 4) (t : Nat) : Rat :=
  let tau : Rat := ((s.sys.poweredNs - t : Nat) : Rat) / 1_000_000_000
  max (s.sfa[a].ss1N0 - s.par 40 12 a.val * tau) 0 + s.par 40 13 a.val

/-- SS1 of an axis (R436): it starts on a demand or a violation reaction, unless STO is demanded in the same cycle, which takes
precedence and ends it (R447); under SS1-r the envelope and the end speed are checked. -/
def State.cycleSs1 (s : State) (a : Fin 4) : State :=
  let n := absRat (s.nSafe a)
  let s :=
    if s.ss1Asked a && !s.flag (Fld.SFI_AX_STATE_SS1 a) && !s.flag (Fld.SFI_AX_STATE_STO a) && !s.sfa[a].ss1End && !s.sfa[a].stoWait &&
        !s.stoAsked a && !s.stoPins then
      if s.parOn 40 10 a.val && !s.availSls a then s.modSfa a fun f => { f with portSto := true }
      else
        let t := s.sys.poweredNs
        ((s.setFlag (Fld.SFI_AX_STATE_SS1 a) true).modSfa a fun f =>
          { f with ss1Since := some t, ss1From := some t, ss1N0 := n }).stopRequest a
    else if s.flag (Fld.SFI_AX_STATE_SS1 a) && s.stoPins then s.endSs1 a
    else s
  match s.sfa[a].ss1Since with
  | some t =>
    if s.parOn 40 10 a.val then
      if s.ss1Env a t < n then s.violate a (Fld.SFI_AX_FAULT_SS1_VIOL a)
      else if n ≤ s.par 40 14 a.val then s.modSfa a fun f => { f with ss1End := true }
      else s
    else s
  | none =>
    if s.sfa[a].ss1End && !s.ss1Asked a then s.modSfa a fun f => { f with ss1End := false } else s

/-- SLS of an axis (R442). -/
def State.cycleSls (s : State) (a : Fin 4) : State :=
  let n := absRat (s.nSafe a)
  match s.slsIndex a with
  | none =>
    (s.setFlag (Fld.SFI_AX_STATE_SLS a) false).setFlag (Fld.SFI_AX_STATE_SLS_ENTRY a) false
  | some i =>
    if !s.availSls a then s.modSfa a fun f => { f with portSto := true }
    else
      let was := s.flag (Fld.SFI_AX_STATE_SLS a)
      let lower := decide (s.slsLim a i < s.slsLim a (s.fld (Fld.SFI_AX_STATE_SLS_IDX a)))
      let s := (s.setFlag (Fld.SFI_AX_STATE_SLS a) true).setFld (Fld.SFI_AX_STATE_SLS_IDX a) i
      let s :=
        if !was || lower then
          ((s.startTimer (.slsEntry a)).setFlag (Fld.SFI_AX_STATE_SLS_ENTRY a) (s.par 41 11 a.val != 0)).modSfa a fun f =>
            { f with slsN0 := n }
        else s
      let s :=
        if s.flag (Fld.SFI_AX_STATE_SLS_ENTRY a) && decide (s.sfa[a].slsN0 + s.par 40 13 a.val < n) then
          s.setFlag (Fld.SFI_AX_STATE_SLS_ENTRY a) false
        else s
      if !s.flag (Fld.SFI_AX_STATE_SLS_ENTRY a) && decide (s.slsLim a i < n) then s.violate a (Fld.SFI_AX_FAULT_SLS_VIOL a)
      else s

/-- SLP of an axis: h and the predicted stop position stay inside the window (R443). -/
def State.cycleSlp (s : State) (a : Fin 4) : State :=
  if !s.demand 57 a then s.setFlag (Fld.SFI_AX_STATE_SLP a) false
  else if !s.availSlp a then s.modSfa a fun f => { f with portSto := true }
  else
    let s := s.setFlag (Fld.SFI_AX_STATE_SLP a) true
    let h : Rat := (s.hNow a : Rat)
    let v := s.nSafe a * (s.safeCpt a : Rat) / 60
    let stop := h + v * absRat v / (2 * s.par 42 3 a.val)
    let lo := s.par 42 1 a.val
    let hi := s.par 42 2 a.val
    if h < lo ∨ hi < h ∨ stop < lo ∨ hi < stop then s.violate a (Fld.SFI_AX_FAULT_SLP_VIOL a) else s

/-- SDI of an axis (R444, R480). D_SDI_POS permits motion in the positive direction only, D_SDI_NEG in the negative. -/
def State.cycleSdi (s : State) (a : Fin 4) : State :=
  let pos := s.demand 58 a
  let neg := s.demand 59 a
  if !pos && !neg then (s.setFlag (Fld.SFI_AX_STATE_SDI a) false).modSfa a fun f => { f with sdiRef := none }
  else if !s.availSls a then s.modSfa a fun f => { f with portSto := true }
  else
    let h := s.hNow a
    let slow := decide (absRat (s.nSafe a) ≤ s.par 40 14 a.val)
    let both := pos && neg
    let f := s.sfa[a]
    let start := f.sdiRef.isNone || slow && ((neg && !pos) != f.sdiNeg || both != f.sdiBoth)
    let s := s.modSfa a fun f =>
      if start then { f with sdiRef := some (h, h), sdiNeg := neg && !pos, sdiBoth := both } else f
    let f := s.sfa[a]
    let s := (s.setFlag (Fld.SFI_AX_STATE_SDI a) true).setFlag (Fld.SFI_AX_STATE_SDI_DIR a) f.sdiNeg
    let tol := (s.par 43 1 a.val).floor
    match f.sdiRef with
    | none => s
    | some (rp, rn) =>
      let bad := if f.sdiBoth then decide (tol < h - rp ∨ tol < rp - h)
        else if f.sdiNeg then decide (tol < h - rn) else decide (tol < rp - h)
      let s := s.modSfa a fun f => if f.sdiBoth then f else { f with sdiRef := some (max rp h, min rn h) }
      if bad then s.violate a (Fld.SFI_AX_FAULT_SDI_VIOL a) else s

/-- STO and SBC of an axis at the end of its evaluation (R432, R436, R438): demands take effect, and an STO that
nothing asks for any longer is withdrawn. -/
def State.cycleSto (s : State) (a : Fin 4) : State :=
  let s :=
    if s.stoAsked a then s.demandSto a
    else (s.setFlag (Fld.SFI_AX_STATE_STO a) false).modSfa a fun f => { f with stoWait := false }
  let pspSbc := (s.axisSets a).any fun x => s.psp[x].sbcReq
  let sbc := s.flag (Fld.SFI_AX_STATE_STO a) || s.sfa[a].stoWait || s.stoPins || s.isl.dead ||
    s.demand 52 a || pspSbc || s.flag Fld.SFI_STATUS_STO_PATH
  s.setFlag (Fld.SFI_AX_STATE_SBC a) sbc

/-- Whether the zero-speed hold of R308 has begun on a STOPPING axis. -/
def State.zeroHold (s : State) (a : Fin 4) : Bool :=
  s.axState a == AxSt.STOPPING && s.spd[a].hold

/-- The brake of an axis: energised, so released, only under R439, and never without +24V_S (R426). DESIGN CHOICE (log entry 61): R21
has the brake engage as soon as STO, SS1 or SBC acts, while R439 and the worked example of chapter 15 (SFI_AX_0_STATE = 0x00A2_1120,
BRK_OUT and SS1) keep it released while SS1 runs, until the zero-speed hold or the STO that ends SS1; R439 is followed. -/
def State.cycleBrake (s : State) (a : Fin 4) : State :=
  let st := s.axState a
  let open_ := (s.brakePair a).isSome && !s.flag (Fld.SFI_AX_STATE_SBC a) && !s.flag (Fld.SFI_AX_STATE_STO a) &&
    !s.flag Fld.SFI_SO_STATE_VS_LOW &&
    (st == AxSt.RUNNING || st == AxSt.STOPPING && !s.zeroHold a)
  s.setFlag (Fld.SFI_AX_STATE_BRK_OUT a) open_

/-- Whether an output pair is to be energised, by its SO_SRC (R471). A latched fault (R470) and a lost +24V_S (R426) keep it
de-energised. -/
def State.outputWanted (s : State) (i : Fin 4) : Bool :=
  let code := s.parNat 44 20 i.val
  let fault := fieldGet (s.reg Reg.SFI_SO_FAULT) (4 * i.val) 4 != 0
  let want :=
    if 0x8000 ≤ code then !(s.source code).1
    else if code / 256 = 1 then !(s.source code).1
    else if code / 256 = 2 then !s.stoInForce (code % 256)
    else if code / 256 = 3 then
      s.flag (Fld.SFI_AX_STATE_SLS (code % 256)) && fieldGet (s.reg (Reg.SFI_AX_FAULT (code % 256))) 3 8 == 0
    else if code = 1 then four.any fun a => s.brakePair a == some i && s.flag (Fld.SFI_AX_STATE_BRK_OUT a)
    else false
  want && !fault && !s.flag Fld.SFI_SO_STATE_VS_LOW

/-- Commands an output pair: both switches follow (R468). -/
def State.commandOutput (s : State) (i : Fin 4) : State :=
  let want := s.outputWanted i
  let was := (s.fld Fld.SFI_SO_STATE_CMD).testBit i.val
  if want = was then s
  else
    let t := s.sys.poweredNs
    let s := s.setFld ⟨Reg.SFI_SO_STATE, i.val, 1⟩ (if want then 1 else 0)
    let s := s.setFld ⟨Reg.SFI_SO_STATE, 4 + i.val, 1⟩ 0
    { s with so := s.so.set i { hi := want, lo := want, hiAt := t, loAt := t } }

/-- An island fault: STO on all sets under the STO_ASC rule, and HOLD (R449). Every STO demands SBC (R438). DESIGN CHOICE (log entry
60): the spec does not say what a failed island does with its safe outputs; here the brakes engage with the fault, and every pair
takes the level that its source gives then and keeps it. -/
def State.islandFault (s : State) (cause detail : Nat) : State :=
  let s := { s with isl := { s.isl with dead := true } }.latchHold cause detail
  let s := forAll four (fun a t => (t.setFlag (Fld.SFI_AX_STATE_SBC a) true).cycleBrake a) s
  (forAll four (fun i t => t.commandOutput i) s).settle

/-- The shunt-window values since the last cycle start, latched at this one (R424): CURRENT and GAP of the axis (R445, R446). -/
def State.cycleShunt (s : State) (a : Fin 4) : State :=
  let sets := s.axisSets a
  let hot := sets.any fun x => s.sfs[x].hot
  let late := sets.any fun x => s.sfs[x].late
  let s := when hot (·.violate a (Fld.SFI_AX_FAULT_CURRENT a)) s
  let s := when late (·.violate a (Fld.SFI_AX_FAULT_GAP a)) s
  forAll sets (fun x t => { t with sfs := t.sfs.set x { t.sfs[x] with hot := false, late := false } }) s

/-- The evaluation of one axis in a cycle. -/
def State.cycleAxis (s : State) (a : Fin 4) : State :=
  if !s.axisExists a then s
  else
    let s := (s.cyclePort a).cycleShunt a
    let s := (s.setFlag (Fld.SFI_AX_STATE_AV_SDI a) (s.availSls a)).setFlag (Fld.SFI_AX_STATE_AV_SLS a) (s.availSls a)
    let s := s.setFlag (Fld.SFI_AX_STATE_AV_SLP a) (s.availSlp a)
    let s := if s.demandInvalid a then (s.setFlag (Fld.SFI_AX_FAULT_DEMAND a) true).sfiAny a
      else (s.setFlag (Fld.SFI_AX_FAULT_DEMAND a) false).sfiAny a
    let s := (((s.cycleSls a).cycleSlp a).cycleSdi a).cycleSs1 a
    (s.cycleSto a).cycleBrake a

/-! ## Safe input pairs (R462 to R464) -/

/-- SI_MODE of a pair. -/
def State.siMode (s : State) (i : Fin 8) : Nat := s.parNat 44 1 i.val

/-- Whether channel A or B of a pair shows clear (R463). -/
def State.siClear (s : State) (i : Fin 8) (b : Bool) : Bool :=
  let lv := s.fld Fld.SFI_SI_STATE_LEVEL
  if b then lv.testBit (2 * i.val + 1) == (s.siMode i == 1) else lv.testBit (2 * i.val)

/-- Recomputes VALID and CLEAR of a pair, what it has shown since DISC latched, and how long its channels differ (R463, R464). -/
def State.siPair (s : State) (i : Fin 8) : State :=
  let a := s.siClear i false
  let b := s.siClear i true
  let tf := s.fld Fld.SFI_SI_FAULT_TESTFAIL
  let disc := (s.fld Fld.SFI_SI_FAULT_DISC).testBit i.val
  let valid := s.siMode i != 0 && !disc && !tf.testBit (2 * i.val) && !tf.testBit (2 * i.val + 1)
  let s := s.setFld ⟨Reg.SFI_SI_STATE, 8 + i.val, 1⟩ (if valid then 1 else 0)
  let s := s.setFld ⟨Reg.SFI_SI_STATE, i.val, 1⟩ (if valid && a && b then 1 else 0)
  let t := s.sys.poweredNs
  let filt := (s.par 44 3 i.val * 1_000_000).floor.toNat
  let p := s.sip[i]
  let p : SfPair :=
    if !a && !b then { p with since := some (p.since.getD t) }
    else
      let long := match p.since with
        | some u => decide (u + filt ≤ t)
        | none => false
      { p with since := none, together := p.together || long, cleared := p.cleared || (p.together || long) && a && b }
  { s with sip := s.sip.set i p }.timeWhile (.disc i) (s.siMode i != 0 && a != b)

/-! ## Routes of a safety connection (R474) -/

/-- Changes what the model keeps of a connection. -/
def State.modSc (s : State) (k : Fin 32) (f : Conn → Conn) : State := { s with sc := s.sc.set k (f s.sc[k]) }

/-- A receiving connection becomes invalid (R474, R477, R478). -/
def State.scInvalid (s : State) (k : Fin 32) : State :=
  (s.setFlag (Fld.SFI_SC_STATE_VALID k) false).modSc k fun c => { c with good := 0, base := false, wd := false }

/-- A sealed set takes effect on a connection (R478, R486): it transmits or not, and as a receiver it waits for its first two frames. -/
def State.scLoad (s : State) (k : Fin 32) : State :=
  ((s.setFlag (Fld.SFI_SC_STATE_TX k) (s.parNat 44 30 k.val == 1)).scInvalid k).modSc k fun c => { c with first := [] }

/-- A sealed set takes effect in the island: connections and the filter of n_safe start anew, and the pairs follow SI_MODE. -/
def State.loadIsland (s : State) : State :=
  let s := forAll four (fun a t => t.modSfa a fun f => { f with hist := [] }) s
  forAll (List.finRange 8) (fun i t => t.siPair i) (forAll (List.finRange 32) (fun k t => t.scLoad k) s)

/-- Whether the Weft reports that the two routes of a connection that uses both share a port (R474, R557). -/
def State.routeShared (s : State) (k : Fin 32) : Bool :=
  let peer := s.parNat 44 32 k.val
  s.parNat 44 30 k.val != 0 && decide (s.parNat 44 33 k.val < 2 ∧ s.parNat 44 34 k.val < 2) && s.sharedRoute peer
    && decide (s.metric peer < 16)

/-- ROUTE latches on every connection whose routes share a port, and the connection is invalid (R474). -/
def State.routeWatch (s : State) : State :=
  forAll (List.finRange 32) (fun k t => if t.routeShared k then (t.setFlag (Fld.SFI_SC_STATE_ROUTE k) true).scInvalid k else t) s

/-- STO_PATH (R430): the journal names the channel, HOLD latches with cause 0x04, and brakes engage through SBC. -/
def State.stoPath (s : State) (unit : Nat) : State :=
  let s := s.setFlag Fld.SFI_STATUS_STO_PATH true
  (s.journalFw 0x0403 unit (s.reg Reg.SFI_STATUS)).latchHold 4 2

/-- A phase island that still reports its enable (R430): its gate is taken to follow the commands it receives. -/
def State.stillEnabled (s : State) (n : Fin 28) : State :=
  let on := s.flag (Fld.GDC_STATUS_CMD n)
  ((s.setFlag (Fld.GDC_STATUS_ENABLE n) true).modGc n fun g => { g with forcedOff := false, gateOn := on }).stoPath n.val

/-- The check of R430 on one set: made at the first cycle 25 µs or more after its enable was removed, on every island of the set. -/
def State.checkEnable (s : State) (x : Fin 4) (still : List (Fin 24)) : State :=
  match s.isl.removedAt[x] with
  | some t =>
    if decide (t + 25_000 ≤ s.sys.poweredNs) && !s.isl.checked.getLsbD x.val then
      let s : State := { s with isl := { s.isl with checked := s.isl.checked ||| (1#4 <<< x.val) } }
      forAll (still.filter fun n => decide (n.val / 6 = x.val)) (fun n t => t.stillEnabled (n.castLE (by decide))) s
    else s
  | none => s

/-- SAFETY_CYCLE (R424, R426, R430, R439 to R447): `clockOk` is the check against the Night crystal, `stillEnabled`
the phase islands that report an enable that has been removed. A suspended island evaluates nothing (R450). -/
def execSafetyCycle (clockOk : Bool) (stillEnabled : List (Fin 24)) (s : State) : Res :=
  let s := when (s.flag Fld.SFI_STATUS_SUSPENDED && s.fld (Fld.LCK_STATUS_STATE 3) == 1)
    (·.setFlag Fld.SFI_STATUS_SUSPENDED false) s
  if !s.islandRuns then .next s
  else if !clockOk then .next (s.islandFault 4 6)
  else
    let s := forAll four (fun x t => t.checkEnable x stillEnabled) s.routeWatch
    let s := forAll four (fun a t => t.cycleAxis a) s
    let s := forAll four (fun i t => t.commandOutput i) s
    .next (s.setFlag Fld.SFI_STATUS_RUNNING true).settle

/-- SAFETY_CYCLE_OVERRUN (R449): a cycle was not complete by its start + 500 µs. -/
def execSafetyCycleOverrun (s : State) : Res :=
  if s.islandRuns then .next ((s.setFlag Fld.SFI_STATUS_RUNNING false).islandFault 4 5) else .next s

/-! ## The hardware STO path (R429, R431) -/

/-- The hardware enable follows the two filtered inputs, and STO_DISC is timed while they differ (R431). -/
def State.hwSto (s : State) : State :=
  let gone := !(s.flag Fld.SFI_STATUS_STO_A && s.flag Fld.SFI_STATUS_STO_B)
  let low := !s.flag Fld.SFI_STATUS_STO_A && !s.flag Fld.SFI_STATUS_STO_B
  let s := (s.setFlag Fld.PSP_REQ_STO_HW gone).setFlag Fld.SFI_STATUS_STO_HW gone
  let s := s.timeWhile .stoDisc (s.flag Fld.SFI_STATUS_STO_A != s.flag Fld.SFI_STATUS_STO_B)
  { s with isl := { s.isl with bothLow := s.isl.bothLow || low, bothRose := s.isl.bothRose || s.isl.bothLow && !gone } }

/-- The filtered level of an STO input. -/
def stoField : StoInput → Field
  | .a => Fld.SFI_STATUS_STO_A
  | .b => Fld.SFI_STATUS_STO_B

/-- STO_INPUT_FALL (R429): an input has been low for 10 µs; STO on every set by hardware. -/
def execStoInputFall (i : StoInput) (s : State) : Res := .next ((s.setFlag (stoField i) false).hwSto).settle

/-- A rising STO input while a sealing runs: both have to stay low until it completes (R453). -/
def State.stagingRise (s : State) : State :=
  { s with isl := { s.isl with staging := s.isl.staging.map fun g => { g with rose := g.rose || g.sealing.isSome } } }

/-- STO_INPUT_RISE (R431): an input has risen; with both high the hardware enable returns. -/
def execStoInputRise (i : StoInput) (s : State) : Res := .next ((s.setFlag (stoField i) true).hwSto.stagingRise).settle

/-- STO_DISC (R7, R431): the levels have differed for longer than STO_DISC. -/
def execStoDisc (s : State) : Res :=
  if s.flag Fld.SFI_STATUS_STO_A != s.flag Fld.SFI_STATUS_STO_B && s.islandRuns && s.overdue .stoDisc (s.par 40 2 0 * 1_000_000) then
    .next ({ s with isl := { s.isl with bothLow := false, bothRose := false } }.setFlag Fld.SFI_STATUS_STO_DISC true).settle
  else .next s

/-! ## Timers of the safety functions -/

/-- T_SS1 (R7, R436): SS1 has run for longer than T_SS1; STO is demanded. -/
def execTSs1 (a : Fin 4) (s : State) : Res :=
  let late := s.sfa[a].ss1Since.any fun (t : Nat) => decide ((t : Rat) + s.par 40 11 a.val * 1_000_000 < (s.sys.poweredNs : Rat))
  if s.islandRuns && s.flag (Fld.SFI_AX_STATE_SS1 a) && late then
    .next (((s.modSfa a fun f => { f with ss1End := true }).demandSto a).cycleBrake a).settle
  else .next s

/-- T_STO_AFTER_SBC (R438): the delay after the brake has been de-energised has passed; STO takes force. -/
def execTStoAfterSbc (a : Fin 4) (s : State) : Res :=
  if s.islandRuns && s.sfa[a].stoWait && s.ran (.stoDelay a) (s.par 40 21 a.val * 1_000_000) then
    .next ((s.modSfa a fun f => { f with stoWait := false }).setFlag (Fld.SFI_AX_STATE_STO a) true).settle
  else .next s

/-- T_SLS_ENTRY (R442): the entry time has passed; the limit is enforced from the next cycle. -/
def execTSlsEntry (a : Fin 4) (s : State) : Res :=
  if s.islandRuns && s.ran (.slsEntry a) (s.par 41 11 a.val * 1_000_000) then .next (s.setFlag (Fld.SFI_AX_STATE_SLS_ENTRY a) false)
  else .next s

/-- STO_TEST_DUE (R435, R532): STO_TEST_DAYS − 1 days have passed since the last passed test. -/
def execStoTestDue (s : State) : Res :=
  let d := s.parNat 40 3 0 - 1
  let s := (s.setFlag Fld.SFI_STATUS_TEST_DUE true).setFld Fld.SFI_STATUS_SINCE_TEST (min d 0xFF)
  let s : State := { s with sys := { s.sys with testNs := 0 } }
  .next ((s.journalFw 0x0400 0 (BitVec.ofNat 32 d)).event 0x06 [BitVec.ofNat 32 d])

/-- STO_TEST_OVERDUE (R435): STO_TEST_DAYS have passed. Nothing stops. -/
def execStoTestOverdue (s : State) : Res :=
  let d := s.parNat 40 3 0
  let s := (s.setFlag Fld.SFI_STATUS_OVERDUE true).setFld Fld.SFI_STATUS_SINCE_TEST (min d 0xFF)
  let s : State := { s with sys := { s.sys with testNs := 0 } }
  .next ((s.journalFw 0x0401 0 (BitVec.ofNat 32 d)).event 0x07 [BitVec.ofNat 32 d])

/-- SEAL_CHECK (R457): the once-per-second check of the working copy against SFI_SEAL. -/
def execSealCheck (intact : Bool) (s : State) : Res :=
  if s.islandRuns && s.profileActive && !intact then .next (s.islandFault 4 7) else .next s

/-- ISLAND_SCRUB (R426, R449): the 100 ms scrub; a double-bit error is an internal fault. -/
def execIslandScrub (double : Bool) (s : State) : Res :=
  if s.islandRuns && double then .next (s.islandFault 4 4) else .next s

end Sys2Proof.Machine
end

