-- ==== Sys2Proof/Machine/SafeIo.lean ====
section
/-! DEFINITION. Safe inputs, safe outputs and safety frames (chapter of that name): the input pairs with their test
pulses, the output pairs with their read-back, and the safety connections. While the island is suspended every safe output keeps its
state and nothing is evaluated (R450). -/

namespace Sys2Proof.Machine

/-! ## Safe input pairs (R462 to R464) -/

/-- The pair an input belongs to. -/
def pairOf (n : Fin 16) : Fin 8 := Fin.ofNat 8 (n.val / 2)

/-- SI_FILTER_PASS (R462, R463): a new level of SI_n has been stable for SI_FILT. -/
def execSiFilterPass (n : Fin 16) (level : Bool) (s : State) : Res :=
  if !s.islandRuns then .next s
  else .next ((s.setFld ⟨Reg.SFI_SI_STATE, 16 + n.val, 1⟩ (if level then 1 else 0)).siPair (pairOf n))

/-- DISC (R7, R464): exactly one channel of the pair has shown clear for longer than SI_DISC. -/
def execDisc (i : Fin 8) (s : State) : Res :=
  if s.islandRuns && s.siMode i != 0 && s.siClear i false != s.siClear i true && s.overdue (.disc i) (s.par 44 2 i.val * 1_000_000) then
    let s := { s with sip := s.sip.set i { together := false, since := none, cleared := false } }
    .next ((s.setFld ⟨Reg.SFI_SI_FAULT, i.val, 1⟩ 1).siPair i)
  else .next s

/-! ## Test pulses (R465 to R467) -/

/-- The test source that feeds an input; 4 is none. -/
def State.feeds (s : State) (n : Fin 16) : Nat :=
  if n.val % 2 = 0 then s.parNat 44 4 (n.val / 2) else s.parNat 44 5 (n.val / 2)

/-- The sixteen safe inputs. -/
def sixteen : List (Fin 16) := [0, 1, 2, 3, 4, 5, 6, 7, 8, 9, 10, 11, 12, 13, 14, 15]

/-- Changes what the model keeps of a safe input. -/
def State.modSi (s : State) (n : Fin 16) (f : SfIn → SfIn) : State := { s with si := s.si.set n (f s.si[n]) }

/-- The check of an input at the end of its source's pulse: high at every sample of the last half, or a source that
is switched off, fails (R466, R467). -/
def State.pulseCheck (s : State) (n : Fin 16) (off : Bool) : State :=
  if s.si[n].allHigh || off then
    ((s.modSi n fun i => { i with laterPass := false }).setFld ⟨Reg.SFI_SI_FAULT, 16 + n.val, 1⟩ 1).siPair (pairOf n)
  else s.modSi n fun i => { i with laterPass := true }

/-- TEST_PULSE (R462, R465, R466): the off-pulse of ST_k starts or ends. The inputs of an unused pair are not evaluated. -/
def execTestPulse (k : Fin 4) (starts : Bool) (s : State) : Res :=
  let fed := sixteen.filter fun n => s.feeds n = k.val && s.siMode (pairOf n) != 0
  let off := s.tst[k].off
  if !s.islandRuns then .next s
  else if starts then
    let s := { s with tst := s.tst.set k { s.tst[k] with pulse := true, since := s.sys.poweredNs } }
    .next (forAll fed (fun n t => t.modSi n fun i => { i with allHigh := true }) s)
  else
    let s := { s with tst := s.tst.set k { s.tst[k] with pulse := false } }
    .next (forAll fed (fun n t => t.pulseCheck n off) s)

/-- ST_OVL (R467): ST_k has delivered more than 100 mA for 1 ms and is switched off. -/
def execStOvl (k : Fin 4) (s : State) : Res :=
  let s := { s with tst := s.tst.set k { s.tst[k] with off := true, goodFrom := none } }
  .next (s.setFld ⟨Reg.SFI_SI_FAULT, 12 + k.val, 1⟩ 1)

/-- ST_RETRY (R467): the island tries an overloaded source again. -/
def execStRetry (k : Fin 4) (s : State) : Res :=
  if s.tst[k].off then
    .next { s with tst := s.tst.set k { s.tst[k] with off := false, goodFrom := some s.sys.poweredNs } }
  else .next s

/-! ## Safe output pairs (R468 to R470) -/

/-- Latches a fault of an output pair: it is de-energised, and the axis whose brake it is latches BRAKE (R439, R470). -/
def State.outputFault (s : State) (i : Fin 4) (bit : Nat) : State :=
  let s := (s.setFld ⟨Reg.SFI_SO_FAULT, 4 * i.val + bit, 1⟩ 1).commandOutput i
  forAll four
    (fun a t =>
      if t.axisExists a && t.brakePair a == some i then ((t.violate a (Fld.SFI_AX_FAULT_BRAKE a)).demandSto a).cycleBrake a
      else t) s

/-- The read-back of one switch: from 100 µs after its command it shall agree (R469, R470). -/
def State.judge (s : State) (i : Fin 4) (on reads : Bool) (at_ : Nat) : State :=
  if decide (s.sys.poweredNs < at_ + 100_000) || on = reads then s
  else s.outputFault i (if reads then 0 else 1)

/-- The read-backs of one pair. -/
def State.judgePair (s : State) (i : Fin 4) (outs : BitVec 8) : State :=
  let o := s.so[i]
  let s := s.judge i o.hi (outs.getLsbD (2 * i.val)) o.hiAt
  s.judge i o.lo (outs.getLsbD (2 * i.val + 1)) o.loAt

/-- The samples of the 16 safe inputs; in the second half of a test pulse an input that is still high shows (R466). -/
def State.sampleInputs (s : State) (levels : BitVec 16) : State :=
  let now := s.sys.poweredNs
  let half := (s.par 44 10 0 * 500).floor.toNat
  forAll sixteen
    (fun n t =>
      let k := t.feeds n
      let late := if h : k < 4 then t.tst[k].pulse && decide (t.tst[k].since + half ≤ now) else false
      t.modSi n fun i =>
        { i with raw := levels.getLsbD n.val, allHigh := i.allHigh && (!late || levels.getLsbD n.val) }) s

/-- SAFE_INPUT_SAMPLE (R462, R466, R468 to R470): the 50 µs sample of the inputs and of the output read-backs. -/
def execSafeInputSample (levels : BitVec 16) (outs : BitVec 8) (s : State) : Res :=
  if !s.islandRuns then .next s
  else
    let low := s.flag Fld.SFI_SO_STATE_VS_LOW
    let s := (s.sampleInputs levels).setFld Fld.SFI_SO_STATE_READ outs.toNat
    if low then .next s else .next (forAll four (fun i t => t.judgePair i outs) s).settle

/-- OUTPUT_PULSE (R469): the off-pulse of switch SO_n of an energised pair starts or ends. -/
def execOutputPulse (n : Fin 8) (starts : Bool) (s : State) : Res :=
  let i : Fin 4 := Fin.ofNat 4 (n.val / 2)
  if !s.islandRuns || !(s.fld Fld.SFI_SO_STATE_CMD).testBit i.val then .next s
  else
    let t := s.sys.poweredNs
    let o := s.so[i]
    let o := if n.val % 2 = 0 then { o with hi := !starts, hiAt := t } else { o with lo := !starts, loAt := t }
    .next ({ s with so := s.so.set i o }.setFld ⟨Reg.SFI_SO_STATE, 4 + i.val, 1⟩ (if starts then 1 else 0))

/-- OVERLOAD (R470): the current limit of a pair has been active for 2 ms. -/
def execOverload (i : Fin 4) (s : State) : Res := if s.islandRuns then .next (s.outputFault i 2).settle else .next s

/-- SUPPLY (R470): +24V_S has been below 16.0 V for 1 ms, which latches SUPPLY on every pair commanded energised; or it
has returned to 16.0 V or more. -/
def execSupply (low : Bool) (s : State) : Res :=
  let s := s.setFlag Fld.SFI_SO_STATE_VS_LOW low
  if low && s.islandRuns then
    let cmd := s.fld Fld.SFI_SO_STATE_CMD
    .next (forAll (four.filter fun i => cmd.testBit i.val) (fun i t => t.outputFault i 3) s).settle
  else .next s

/-! ## Safety frames (R472 to R478) -/

/-- This device's safety address (R472). -/
def State.safeAddr (s : State) : Nat :=
  let a := (s.parWord 44 12 0).toNat
  if a = 0 then s.fld Fld.WFT_NODE_ADDR else a

/-- A 16-bit value from two bytes of a frame. -/
def half (l : List Byte) (o : Nat) : Nat := (l.getD o 0).toNat + 256 * (l.getD (o + 1) 0).toNat

/-- A 32-bit value from four bytes of a frame. -/
def quad (l : List Byte) (o : Nat) : Nat := half l o + 65536 * half l (o + 2)

/-- The safety code of the first 28 bytes under the key of a connection (R473). -/
def State.safeCode (s : State) (k : Fin 32) (l : List Byte) : Word :=
  crc32c (wordBytes (s.parWord 44 41 k.val) ++ l.take 28)

/-- Byte a of AXES for axis a (R472). -/
def State.axesByte (s : State) (a : Fin 4) : Byte :=
  let b (c : Bool) (n : Nat) : Nat := if c then 2 ^ n else 0
  BitVec.ofNat 8
    (b (s.stoInForce a) 0 + b (s.flag (Fld.SFI_AX_STATE_SS1 a)) 1 + b (s.flag (Fld.SFI_AX_STATE_SLS a)) 2 +
      b (s.flag (Fld.SFI_AX_STATE_SLP a)) 3 + b (s.flag (Fld.SFI_AX_STATE_SDI a)) 4 + b (s.flag (Fld.SFI_AX_STATE_BRK_OUT a)) 5 +
      b (s.flag (Fld.SFI_AX_FAULT_ANY a)) 6 + b (s.axisExists a) 7)

/-- The DEMAND field of a transmitting connection: bit j is 0 while its source shows demand (R479). -/
def State.txDemand (s : State) (k : Fin 32) : Nat :=
  (List.range 16).foldl (fun m j => if (s.source (s.parNat 44 (60 + j) k.val)).1 then m else m + 2 ^ j) 0

/-- Hands a copy of a frame to a route (R474): 0 and 1 the Weft routes A and B in class 1, 2 to 5 CAN_0 to CAN_3. -/
def State.routeOut (s : State) (route : Nat) (k : Fin 32) (l : List Byte) : State :=
  if route < 2 then s.sendSafety k (BitVec.ofNat 8 (s.parNat 44 32 k.val)) (route == 1) l
  else s.canSafetyTx (Fin.ofNat 4 (route - 2)) (s.parWord 44 35 k.val) l

/-- SAFETY_FRAME_TX (R475): at TX_T a transmitting connection composes one frame and hands both copies over. -/
def execSafetyFrameTx (k : Fin 32) (s : State) : Res :=
  if !s.islandRuns || s.parNat 44 30 k.val != 1 then .next s
  else
    let seq := (s.fld (Fld.SFI_SC_STATE_SEQ k) + 1) % 65536
    let d := s.txDemand k
    let body : List Byte :=
      [BitVec.ofNat 8 s.safeAddr, BitVec.ofNat 8 (s.parNat 44 32 k.val)] ++ halfBytes (s.parNat 44 31 k.val) ++ halfBytes seq ++
      [1, 0] ++ wordBytes (BitVec.ofNat 32 (s.now / 1000)) ++ halfBytes d ++
      [BitVec.ofNat 8 (s.fld Fld.SFI_SI_STATE_CLEAR), BitVec.ofNat 8 (s.fld Fld.SFI_SI_STATE_VALID)] ++
      four.map s.axesByte ++ List.replicate 8 0
    let frame := body ++ wordBytes (s.safeCode k body)
    let s := ((s.setFlag (Fld.SFI_SC_STATE_TX k) true).setFld (Fld.SFI_SC_STATE_SEQ k) seq).setFld (Fld.SFI_SC_RX_DEMAND k) d
    let s := s.modSc k fun c => { c with last := frame }
    .next ((s.routeOut (s.parNat 44 33 k.val) k frame).routeOut (s.parNat 44 34 k.val) k frame)

/-- A frame is accepted (R477, R478): the watchdog restarts; after invalidity the first accepted frame sets the
sequence base and the second makes the connection valid, unless its routes share a port (R474). -/
def State.scAccept (s : State) (k : Fin 32) (l : List Byte) : State :=
  let s := (s.setFld (Fld.SFI_SC_STATE_SEQ k) (half l 4)).setFld (Fld.SFI_SC_RX_DEMAND k) (half l 12)
  let now := s.sys.poweredNs
  let s := s.modSc k fun c => { c with good := c.good + 1, base := true, wd := true, wdAt := now, last := l }
  if 2 ≤ s.sc[k].good && !s.routeShared k then s.setFlag (Fld.SFI_SC_STATE_VALID k) true else s

/-- Whether Weft time is synchronised to the fabric's grandmaster (R476). -/
def State.weftSynced (s : State) : Bool := 2 ≤ s.fld Fld.WFT_SYNC_SSTATE

/-- The check of R476 that a copy fails first, if any: BADCRC, OLD or OUTSEQ. DEDUCED (log entry 61): the difference of two 32-bit times is
signed, so that a TIME ahead of the receiver's has no age. -/
def State.scCheck (s : State) (k : Fin 32) (l : List Byte) : Option Field :=
  let bad := l.length != 32 || BitVec.ofNat 32 (quad l 28) != s.safeCode k l ||
    (l.getD 0 0).toNat != s.parNat 44 32 k.val || (l.getD 1 0).toNat != s.safeAddr ||
    half l 2 != s.parNat 44 31 k.val || (l.getD 6 0) != 1
  let age := s.par 44 39 k.val
  let lag : Int := s32 (BitVec.ofNat 32 (s.now / 1000) - BitVec.ofNat 32 (quad l 8))
  let old := age != 0 && (!s.weftSynced || decide (age * 1000 < (lag : Rat)))
  let gap := (half l 4 + 65536 - s.fld (Fld.SFI_SC_STATE_SEQ k)) % 65536
  let out := s.flag (Fld.SFI_SC_STATE_VALID k) && (gap == 0 || decide (s.parNat 44 40 k.val < gap))
  if bad then some (Fld.SFI_SC_CNT_BADCRC k) else if old then some (Fld.SFI_SC_CNT_OLD k)
  else if out then some (Fld.SFI_SC_CNT_OUTSEQ k) else none

/-- Whether CMP_WIN of a first copy has ended: its last instant still counts as in time (R7, R477). -/
def State.windowOver (s : State) (k : Fin 32) (e : FirstCopy) : Bool :=
  decide ((e.at_ : Rat) + s.par 44 38 k.val * 1_000_000 < (s.sys.poweredNs : Rat))

/-- A copy arrives on route A or B (R476, R477): refused and counted, kept for its partner, or paired with one whose window is open. -/
def State.safetyCopy (s : State) (k : Fin 32) (routeB : Bool) (bytes : List Byte) : State :=
  if !s.islandRuns || s.parNat 44 30 k.val != 2 then s
  else
    match s.scCheck k bytes with
    | some f => s.incSat f
    | none =>
      let now := s.sys.poweredNs
      let partner (e : FirstCopy) : Bool := e.routeB != routeB && half e.bytes 4 == half bytes 4 && !s.windowOver k e
      match s.sc[k].first.find? partner with
      | none => s.modSc k fun c => { c with first := c.first ++ [{ bytes := bytes, routeB := routeB, at_ := now }] }
      | some e =>
        let s := s.modSc k fun c => { c with first := c.first.erase e }
        if e.bytes = bytes then s.scAccept k bytes
        else (s.setFlag (Fld.SFI_SC_STATE_MISMATCH k) true).scInvalid k

/-- SAFETY_FRAME_COPY (R476, R477). -/
def execSafetyFrameCopy (k : Fin 32) (routeB : Bool) (bytes : List Byte) (s : State) : Res := .next (s.safetyCopy k routeB bytes)

/-- SINGLE (R477): the window of the oldest waiting copy has ended with no partner. -/
def execSingle (k : Fin 32) (s : State) : Res :=
  if !s.islandRuns || !s.sc[k].first.head?.any (s.windowOver k) then .next s
  else .next ((s.modSc k fun c => { c with first := c.first.tail }).incSat (Fld.SFI_SC_CNT_SINGLE k))

/-- WD_EXP (R450, R478): no frame has been accepted within WD_T, its last instant included (R7). -/
def execWdExp (k : Fin 32) (s : State) : Res :=
  let due : Rat := (s.sc[k].wdAt : Rat) + s.par 44 37 k.val * 1_000_000
  if s.islandRuns && s.sc[k].wd && decide (due < (s.sys.poweredNs : Rat)) then .next ((s.setFlag (Fld.SFI_SC_STATE_WD_EXP k) true).scInvalid k)
  else .next s

end Sys2Proof.Machine
end

