-- ==== Sys2Proof/Machine/Can.lean ====
section
/-! DEFINITION. The CAN FD controllers (chapter of that name): transmission, errors and bus-off, reception, and
CAN_SEND. -/

namespace Sys2Proof.Machine

/-- Shows the error counters and the state they give (R581, R586): error passive at 128. -/
def State.canErrState (s : State) (c : Fin 4) : State :=
  let k := s.can[c]
  let s := (s.setFld (Fld.CAN_STATUS_TEC c) (min k.tecN 255)).setFld (Fld.CAN_STATUS_REC c) (min k.recN 255)
  if s.fld (Fld.CAN_STATUS_STATE c) < 2 then
    s.setFld (Fld.CAN_STATUS_STATE c) (if 128 ≤ k.tecN ∨ 128 ≤ k.recN then 1 else 0)
  else s

/-- The buffer in transmission. -/
def State.canActive (s : State) (c : Fin 4) : Option (Fin 3) := three.find? fun b => (s.fld (Fld.CAN_TXST_ACTIVE c)).testBit b.val

/-- The end of an attempt that failed: the buffer stays pending, or is freed where an ABORT waits (R580). -/
def State.canAttemptFailed (s : State) (c : Fin 4) : State :=
  match s.canActive c with
  | none => s
  | some b =>
    if s.can[c].aborts.getLsbD b.val then s.canFree c b else s.setFld (Fld.CAN_TXST_ACTIVE c) 0

/-- The receiving connections that a frame belongs to (R583): routed on this controller with its identifier. -/
def State.canConns (s : State) (c : Fin 4) (f : CanRx) : List (Fin 32 × Bool) :=
  (List.finRange 32).filterMap fun k =>
    let id := s.parWord 44 35 k.val
    let mine := s.parNat 44 30 k.val == 2 && id.getLsbD 31 == f.ide && id.toNat % 2 ^ 29 == f.id.toNat
    if mine && s.parNat 44 33 k.val == c.val + 2 then some (k, false)
    else if mine && s.parNat 44 34 k.val == c.val + 2 then some (k, true)
    else none

/-- Whether a filter takes a frame (R583, R589). -/
def State.canMatch (s : State) (c : Fin 4) (f : CanRx) (i : Nat) : Bool :=
  let m := s.fld (Fld.CAN_FILT_MASK_MASK c i)
  let fmt := s.fld (Fld.CAN_FILT_MASK_FMT c i)
  s.flag (Fld.CAN_FILT_ID_EN c i) && s.flag (Fld.CAN_FILT_ID_EXT c i) == f.ide &&
  (f.id.toNat &&& m) == (s.fld (Fld.CAN_FILT_ID_ID c i) &&& m) &&
  (fmt == 0 || (fmt == 1 && !f.fdf) || (fmt == 2 && f.fdf))

/-- Reception of a valid frame: to the safety island alone, or through the filters into the FIFO (R583). -/
def State.canReceive (s : State) (c : Fin 4) (f : CanRx) : State :=
  let l := s.canConns c f
  if !l.isEmpty then forAll l (fun e t => t.safetyCopy e.1 e.2 f.data) s
  else
    match (List.range 32).find? (fun i => s.canMatch c f i) with
    | none => s
    | some i =>
      if s.flag (Fld.CAN_FILT_ID_REJECT c i) then s
      else if 64 ≤ s.can[c].fifo.length then s.incSat (Fld.CAN_CNT_OVR c)
      else (s.modCan c fun k => { k with fifo := k.fifo ++ [{ f := f, filt := i }] }).canWindow c

/-- The FDF-to-res edge of a transmitted FD frame measures TDCV, a free value (R578). -/
def State.canDelay (s : State) (c : Fin 4) (b : Fin 3) : State :=
  let v := s.freeNat
  if (s.can[c].tb[b]).any (·.fdf) && s.flag (Fld.CAN_CFG_TDC_EN c) then v.2.setFld (Fld.CAN_STATUS_TDCV c) (v.1 % 64) else s

/-- CAN_FRAME_RX (R581, R583): a frame received shows that the buffer chosen last was not on the bus; the next start of frame chooses
again (R579). -/
def execCanFrameRx (c : Fin 4) (f : CanRx) (s : State) : Res :=
  if !s.awake || !s.canOn c || s.canMode c == 2 || (f.fdf && !s.flag (Fld.CAN_CFG_FD_EN c)) then .next s
  else
    let r := s.can[c].recN
    let v := s.freeNat
    let s : State := if 127 < r then v.2.modCan c fun k => { k with recN := 119 + v.1 % 9 }
      else s.modCan c fun k => { k with recN := k.recN - 1 }
    .next ((((s.canErrState c).canReceive c f).canAttemptFailed c).canPoll c)

/-- CAN_TX_DONE (R579, R580): the frame in transmission is sent. In loopback it is received as well (R583). -/
def execCanTxDone (c : Fin 4) (s : State) : Res :=
  match s.canActive c with
  | none => .next s
  | some b =>
    let tx := s.can[c].tb[b]
    let s := (s.canDelay c b).canFree c b
    let s := s.setFld (Fld.CAN_TXST_DONE c) (s.fld (Fld.CAN_TXST_DONE c) ||| 2 ^ b.val)
    let s := (s.modCan c fun k => { k with tecN := k.tecN - 1 }).canErrState c
    match tx with
    | none => .next (s.canPoll c)
    | some f =>
      let ide := f.ident.getLsbD 31
      let rx : CanRx :=
        { ide := ide, rtr := false, id := BitVec.ofNat 29 (if ide then f.ident.toNat else f.ident.toNat % 2048), fdf := f.fdf
          brs := f.brs && s.flag (Fld.CAN_CFG_BRS_EN c), esi := false, dlc := f.dlc.setWidth 4, data := f.data, sof := s.can[c].sof }
      let s : State := if s.canMode c == 2 then s.canReceive c rx else s
      .next (s.canPoll c)

/-- ARBITRATION_LOST (R580): the frame stays pending. -/
def execArbitrationLost (c : Fin 4) (s : State) : Res := .next (s.canAttemptFailed c)

/-- Bus-off (R581): counted and journalled; the buffers stay pending. -/
def State.busOff (s : State) (c : Fin 4) : State :=
  let s := (s.setFld (Fld.CAN_STATUS_STATE c) 2).incSat (Fld.CAN_CNT_BOFF c)
  s.journal 0x0603 c.val (s.reg (Reg.CAN_STATUS c))

/-- Whether a second has passed since the last identifier clash was journalled (R582). -/
def State.clashDue (s : State) (c : Fin 4) : Bool :=
  match s.can[c].clashAt with
  | some t => decide (t + 1_000_000_000 ≤ s.sys.poweredNs)
  | none => true

/-- Journals an identifier clash at most once per second (R582). -/
def State.clashNote (s : State) (c : Fin 4) : State :=
  if s.clashDue c then
    (s.modCan c fun k => { k with clashAt := some s.sys.poweredNs }).journal 0x0605 c.val (s.reg (Reg.CAN_CLASHID c))
  else s

/-- A bit error of a transmitter after the arbitration field (R582): counted with its identifier, and journalled at most
once per second. -/
def State.idClash (s : State) (c : Fin 4) : State :=
  match s.canActive c with
  | none => s
  | some b =>
    match s.can[c].tb[b] with
    | none => s
    | some f =>
      let ide := f.ident.getLsbD 31
      let s := (s.incSat (Fld.CAN_CNT_ID_CLASH_CNT c)).setFlag (Fld.CAN_CLASHID_IDE c) ide
      let s := s.setFld (Fld.CAN_CLASHID_ID c) (if ide then f.ident.toNat % 2 ^ 29 else f.ident.toNat % 2 ^ 11)
      s.clashNote c

/-- CAN_ERROR (R581, R582): the counters of ISO 11898-1, and the retry. -/
def execCanError (c : Fin 4) (e : CanErr) (s : State) : Res :=
  if !s.awake || !s.canOn c then .next s
  else
    match e with
    | .transmit bit =>
      let s : State := if bit then s.idClash c else s
      let s := match s.canActive c with
        | some b => s.canDelay c b
        | none => s
      let s := (s.modCan c fun k => { k with tecN := k.tecN + 8 }).canAttemptFailed c
      let s := s.canErrState c
      if 255 < s.can[c].tecN then .next (s.busOff c) else .next (s.canPoll c)
    | .receive dom =>
      let s := s.modCan c fun k => { k with recN := k.recN + (if dom then 8 else 1) }
      .next (((s.canErrState c).canAttemptFailed c).canPoll c)
    | .passiveAck => .next ((s.canAttemptFailed c).canPoll c)

/-- CAN_BUS_ON (R581): recovery from bus-off. -/
def execCanBusOn (c : Fin 4) (s : State) : Res :=
  if s.fld (Fld.CAN_STATUS_STATE c) != 2 then .next s
  else
    let s := (s.setFld (Fld.CAN_STATUS_STATE c) 0).modCan c fun k => { k with tecN := 0, recN := 0 }
    let s := s.canErrState c
    .next ((s.journal 0x0604 c.val (s.reg (Reg.CAN_STATUS c))).canPoll c)

/-- TX_DOMINANT_TIMEOUT (R577): the transceiver releases the bus; no register or counter of the controller follows from
it. -/
def execTxDominantTimeout (_c : Fin 4) (s : State) : Res := .next s

/-- ABORT (R580): ABORT_0 is ignored while TB_0 belongs to the safety island. -/
def execAbort (w : Writer) (c : Fin 4) (bufs : BitVec 3) (s : State) : Res :=
  s.access w (Reg.CAN_TXCTRL c) (bufs.setWidth 32) fun s =>
    forAll three
      (fun b t =>
        if !bufs.getLsbD b.val || (b.val == 0 && t.flag (Fld.CAN_CFG_SAFETY c)) then t
        else if (t.fld (Fld.CAN_TXST_ACTIVE c)).testBit b.val then t.modCan c fun k => { k with aborts := k.aborts ||| (1#3 <<< b.val) }
        else if (t.fld (Fld.CAN_TXST_PEND c)).testBit b.val then t.canFree c b
        else t) s

/-- POP (R583). -/
def execPop (w : Writer) (c : Fin 4) (s : State) : Res :=
  s.access w (Reg.CAN_RXCTRL c) 1 fun s => (s.modCan c fun k => { k with fifo := k.fifo.tail }).canWindow c

/-- PROTOCOL_EXCEPTION (R577): PXE; the controller integrates again on 11 recessive bits. -/
def execProtocolException (c : Fin 4) (s : State) : Res :=
  if !s.awake || !s.canOn c then .next s
  else
    let s := (s.setFlag (Fld.CAN_STATUS_PXE c) true).incSat (Fld.CAN_CNT_PXE_N c)
    .next ((s.canAttemptFailed c).setFld (Fld.CAN_STATUS_STATE c) 3)

/-- CAN_INTEGRATION (R577, R584): after 11 recessive bits the controller is on the bus. -/
def execCanIntegration (c : Fin 4) (s : State) : Res :=
  if !s.awake || !s.flag (Fld.CAN_CFG_ENABLE c) || s.fld (Fld.CAN_STATUS_STATE c) != 3 then .next s
  else
    let s := (s.setFlag (Fld.CAN_STATUS_PXE c) false).setFld (Fld.CAN_STATUS_STATE c) 0
    .next ((s.canErrState c).canPoll c)

/-- CAN_SEND (R528, R579): loads a transmit buffer, or completes BUSY where it is occupied or the island's. -/
def execCanSend (h : Desc) (f : CanTx) (s : State) : Res :=
  s.dispatch h 0x10 fun s =>
    if 4 ≤ h.index.toNat ∨ 3 ≤ h.sub.toNat ∨ 16 ≤ f.dlc.toNat then s.complete h 0x10 St.BAD_FIELD
    else
      let c : Fin 4 := Fin.ofNat 4 h.index.toNat
      let b : Fin 3 := Fin.ofNat 3 h.sub.toNat
      let owned := b.val == 0 && s.flag (Fld.CAN_CFG_SAFETY c)
      if f.fdf && !s.flag (Fld.CAN_CFG_FD_EN c) then s.complete h 0x10 St.BAD_FIELD
      else if owned || (s.fld (Fld.CAN_TXST_PEND c)).testBit b.val then s.complete h 0x10 St.BUSY
      else (s.canLoad c b f).complete h 0x10 St.SUCCESS

end Sys2Proof.Machine
end

