-- ==== Sys2Proof/Machine/CorePairs.lean ====
section
/-! DEFINITION. Core pairs and lock-step checking: mismatch, classification and restart (R497, R498, R500), the
checker's self-check (R499), failures and their consequences (R501), debug (R505), and the timer (R493, R509). -/

namespace Sys2Proof.Machine

/-- States of a pair (R507). -/
def PairSt.OFF : Nat := 0
def PairSt.RUN : Nat := 1
def PairSt.ARBITRATE : Nat := 2
def PairSt.RESTART : Nat := 3
def PairSt.FAILED : Nat := 4
def PairSt.SPLIT : Nat := 5
def PairSt.SOLO : Nat := 6

/-- The state of a pair. -/
def State.pairState (s : State) (n : Fin 4) : Nat := s.fld (Fld.LCK_STATUS_STATE n)

/-- Changes what the model keeps of a pair. -/
def State.modCp (s : State) (n : Fin 4) (f : CorePair → CorePair) : State := { s with cp := s.cp.set n (f s.cp[n]) }

/-- Completes the commands in progress that firmware handles on a pair (R501): `pick` says which opcodes. -/
def State.failInFlight (s : State) (pick : Nat → Bool) (status : Nat) : State :=
  let mine := s.hif.inFlight.filter fun c => pick c.opcode.toNat
  let s := { s with hif := { s.hif with inFlight := s.hif.inFlight.filter fun c => !pick c.opcode.toNat } }
  forAll mine (fun c t => t.complete c.h c.opcode.toNat status) s

/-- A sequence of CP_1 in progress (commissioning, learning, staging, refresh) is abandoned with the old data kept
(R501). -/
def State.abandonSequences (s : State) : State :=
  let s := forAll four
    (fun a t => when (t.flag (Fld.POS_MAP_LEARNING a))
      (fun t => (t.setFlag (Fld.POS_MAP_LEARNING a) false).setFld (Fld.POS_MAP_LEARNED a) t.pos[a].learnt) t) s
  { s with sys := { s.sys with flashBusy := none } }.discardStaging St.UNIT_FAILED

/-- Firmware reports itself started in Dawn (R91, R497, R503): the pair runs in lock-step, split, or alone under a
debugger. -/
def State.dawnStarted (s : State) (n : Fin 4) : State :=
  let s : State := { s with sys := { s.sys with pairStarted := s.sys.pairStarted ||| (1#4 <<< n.val) } }
  let s := when (n == 0) (·.setFlag Fld.SVC_STATUS_HWONLY false) s
  if s.flag (Fld.LCK_STATUS_SPLIT n) then s.setFld (Fld.LCK_STATUS_STATE n) PairSt.SPLIT
  else if s.flag (Fld.LCK_STATUS_DEBUG n) then s.setFld (Fld.LCK_STATUS_STATE n) PairSt.SOLO
  else (s.setFld (Fld.LCK_STATUS_STATE n) PairSt.RUN).setFlag (Fld.LCK_STATUS_SAFE n) true

/-- The host is lost (R534): the flag, the journal, and the reaction HOST_LOSS selects on every running axis. -/
def State.hostLost (s : State) : State :=
  if s.flag Fld.HIF_STATUS_HOST_LOST then s
  else
    let r := s.parNat 10 31 0
    let s := (s.setFlag Fld.HIF_STATUS_HOST_LOST true).journal 0x0109 0 (BitVec.ofNat 32 r)
    let s := forAll four
      (fun a t =>
        if t.axState a == AxSt.RUNNING && t.axisExists a && !t.isFollower a then
          (if r = 1 then t.beginStop a true else if r = 2 then t.axisDisable a else t)
        else t) s
    s.settle

/-- A pair has failed until the next Dawn (R498, R501). `checker` tells CHECKER_FAULT from a permanent failure. -/
def State.failPair (s : State) (n : Fin 4) (checker : Bool) : State :=
  let s := ((s.setFld (Fld.LCK_STATUS_STATE n) PairSt.FAILED).setFlag (Fld.LCK_STATUS_FAILED n) true).setFlag (Fld.LCK_STATUS_SAFE n) false
  match n with
  | 0 => (s.failInFlight byCp0 St.UNIT_FAILED).setFlag Fld.SVC_STATUS_HWONLY true
  | 1 => s.abandonSequences.failInFlight (· == 0x07) St.UNIT_FAILED
  | 2 => if s.flag Fld.HIF_CFG_LOCAL then s.hostLost else s
  | 3 => s.islandFault (if checker then 2 else 3) 0

/-- Records a classification in LCK_CP_n_EVENT, journals it, tells the host and the other pairs (R494, R497, R532). -/
def State.classify (s : State) (n : Fin 4) (cls cause : Nat) : State :=
  let s := (s.setFld (Fld.LCK_EVENT_CLASS n) cls).setFld (Fld.LCK_EVENT_CAUSE n) cause
  let s := s.journal 0x0500 n.val (s.reg (Reg.LCK_EVENT n)) (s.reg (Reg.LCK_MISPC n))
  let s := s.event 0x05 [BitVec.ofNat 32 n.val, s.reg (Reg.LCK_EVENT n)]
  forAll (four.filter (· != n)) (fun m t => t.setFld ⟨Reg.LCK_IRQPEND m, 10, 1⟩ 1) s

/-- A debug attach takes effect (R505): on a lock-step pair comparison stops and the primary runs alone; on CP_3 STO is
demanded on all sets and HOLD latches. -/
def State.attach (s : State) (n : Fin 4) : State :=
  let s := (s.setFlag (Fld.LCK_STATUS_DEBUG n) true).modCp n fun c => { c with debugWaits := false }
  let s := s.journal 0x0501 n.val
  if s.flag (Fld.LCK_STATUS_SPLIT n) || s.pairState n == PairSt.FAILED then s
  else
    let s := when (n == 0 && s.pairState n != PairSt.OFF) (·.setFlag Fld.SVC_STATUS_HWONLY false) s
    let s := when (s.pairState n != PairSt.OFF) (·.setFld (Fld.LCK_STATUS_STATE n) PairSt.SOLO) (s.setFlag (Fld.LCK_STATUS_SAFE n) false)
    if n = 3 then (s.journal 0x0502 3).islandFault 4 3 else s

/-- The throttle level acts on a pair (R598); never on CP_3. -/
def State.throttlePair (s : State) (n : Fin 4) : State :=
  if n = 3 then s
  else
    let l := s.fld Fld.THM_STATUS_THR
    (s.setFld (Fld.LCK_STATUS_DIV n) (if l = 2 then 1 else if l = 3 then 2 else 0)).setFlag (Fld.LCK_STATUS_SKIP n) (l == 1)

/-- What waited for a classification takes effect: a change of clock division and a debug attach (R502). -/
def State.attachWaiting (s : State) (n : Fin 4) : State :=
  let s := s.throttlePair n
  if s.cp[n].debugWaits then s.attach n else s

/-- LOCKSTEP_MISMATCH (R497): detected in RUN it starts arbitration, and while no firmware of CP_0 runs the console serves its hardware
subset (R612); during a restart it fails the pair at once. -/
def execLockstepMismatch (n : Fin 4) (group : Fin 8) (pc : Word) (s : State) : Res :=
  let st := s.pairState n
  if st = PairSt.RUN || st = PairSt.RESTART then
    let s := (s.setFld (Fld.LCK_EVENT_SOURCE n) group.val).setReg (Reg.LCK_MISPC n) pc
    if st = PairSt.RESTART then .next (((s.classify n 2 5).failPair n false).attachWaiting n)
    else
      let s := ((s.setFld (Fld.LCK_STATUS_STATE n) PairSt.ARBITRATE).setFlag (Fld.LCK_STATUS_SAFE n) false).startTimer (.restart n)
      let saved := s.sfa
      let s := when (n == 0) (·.setFlag Fld.SVC_STATUS_HWONLY true) s
      .next (when (n == 3) (fun t => { t with isl := { t.isl with saved := saved } }.setFlag Fld.SFI_STATUS_SUSPENDED true) s)
  else .next s

/-- Nanoseconds of one hour. -/
def hourNs : Nat := 3_600_000_000_000

/-- CLASSIFICATION (R498, R500): the self-tests of both cores and the checker's injection end. -/
def execClassification (n : Fin 4) (primaryOk shadowOk checkerOk : Bool) (s : State) : Res :=
  if s.pairState n ≠ PairSt.ARBITRATE then .next s
  else if primaryOk && shadowOk && checkerOk then
    let now := s.sys.poweredNs
    let rate : Bool := (s.cp[n].stamps[1]?).any fun (t : Nat) => decide (now ≤ t + hourNs)
    if rate then .next (((s.classify n 2 4).failPair n false).attachWaiting n)
    else
      let s := s.modCp n fun c => { c with stamps := now :: c.stamps }
      let h := (s.cp[n].stamps.filter fun t => decide (now ≤ t + hourNs)).length
      let s := (s.incSat (Fld.LCK_CNT_TRANS n)).setFld (Fld.LCK_CNT_TRANS_H n) (min h 15)
      let s := when (n == 3) (·.setFld Fld.SFI_STATUS_TRANS_H (min h 15)) s
      let s := (s.classify n 1 0).setFld (Fld.LCK_STATUS_STATE n) PairSt.RESTART
      let s := when (n == 0) (·.failInFlight byCp0 St.UNIT_FAILED) s
      let s := when (n == 1) (fun t => t.abandonSequences) s
      .next (s.attachWaiting n)
  else
    let cause := if !primaryOk && !shadowOk then 3 else if !primaryOk then 1 else if !shadowOk then 2 else 7
    let checker := primaryOk && shadowOk
    .next (((s.classify n (if checker then 3 else 2) cause).failPair n checker).attachWaiting n)

/-- The restart of the island (R450): it reloads its function states from the copy in private memory; a copy that fails its CRC-32C is an
internal fault. -/
def State.restoreIsland (s : State) (copyOk : Bool) : State :=
  if copyOk then { s with sfa := s.isl.saved } else s.islandFault 4 8

/-- STARTED (R450, R497, R506, R629): the restarted firmware of the pair writes CMD.STARTED; on CP_3 `copyOk` is the check of the island's
copy of its function states. Any other writer is refused where R506 says so; the write acts only during a restart, and in Dawn it reports
the pair started (R91). DEDUCED (log entry 60): where a debugger took CP_3 over during the restart, it ends the suspension of the island. -/
def execStarted (n : Fin 4) (w : Writer) (copyOk : Bool) (s : State) : Res :=
  if s.barred w || (n == 3 && w != .pair 3) then .next (s.regLocked w (Reg.LCK_CMD n) 2)
  else if w != .pair n then .next s
  else if s.pairState n == PairSt.RESTART then
    let s := (s.setFld (Fld.LCK_STATUS_STATE n) PairSt.RUN).setFlag (Fld.LCK_STATUS_SAFE n) true
    let s := when (n == 0) (·.setFlag Fld.SVC_STATUS_HWONLY false) s
    .next (when (n == 3) (·.restoreIsland copyOk) s)
  else if s.mode == .dawn && !s.flag (Fld.LCK_STATUS_FAILED n) then
    .next (s.dawnStarted n)
  else if s.pairState n == PairSt.SOLO && n == 3 then .next ((s.setFlag Fld.SFI_STATUS_SUSPENDED false).restoreIsland copyOk)
  else .next s

/-- RESTART_TMO (R498): CMD.STARTED has not been written within 4.0 ms of the mismatch. -/
def execRestartTmo (n : Fin 4) (s : State) : Res :=
  if s.pairState n == PairSt.RESTART && s.overdue (.restart n) 4_000_000 then .next ((s.classify n 2 6).failPair n false) else .next s

/-- The checker's self-check (R499): a pass counts, a silent comparator is a CHECKER_FAULT. -/
def State.selfCheck (s : State) (n : Fin 4) (silent : Bool) : State :=
  if silent then ((s.setFlag (Fld.LCK_STATUS_CHK_OK n) false).classify n 3 8).failPair n true
  else (s.setFlag (Fld.LCK_STATUS_CHK_OK n) true).incWrap (Fld.LCK_CNT_CHECKS n)

/-- CHECKER_SELF_CHECK (R499): the 10 ms check of a pair in RUN. -/
def execCheckerSelfCheck (n : Fin 4) (silent : Bool) (s : State) : Res :=
  if s.pairState n == PairSt.RUN then .next (s.selfCheck n silent) else .next s

/-- CHECK (R506, R509, R629): the self-check on command; refused in any state but RUN, and on CP_3 from any other writer. -/
def execCheck (n : Fin 4) (w : Writer) (silent : Bool) (s : State) : Res :=
  if s.barred w || (n == 3 && w != .pair 3) then .next (s.regLocked w (Reg.LCK_CMD n) 1)
  else if s.pairState n == PairSt.RUN then .next (s.selfCheck n silent) else .next s

/-- PARITY (R499, R502): a parity error in a delay register, in RUN and during arbitration or a restart alike. -/
def execParity (n : Fin 4) (s : State) : Res :=
  let st := s.pairState n
  if st == PairSt.RUN || st == PairSt.ARBITRATE || st == PairSt.RESTART then
    .next (((s.classify n 3 9).failPair n true).attachWaiting n)
  else .next s

/-- TCM_DUE (R491, R503): a double-bit error in a word a core reads; on a split pair it fails the half concerned. DESIGN CHOICE (log
entry 60): LCK_STATUS has one STATE and one FAILED for both halves and shows the failure of half A, on which the functions of the pair
run (R18); that of half B is kept beside them. -/
def execTcmDue (n : Fin 4) (half : Fin 2) (s : State) : Res :=
  let st := s.pairState n
  if st == PairSt.SPLIT then
    let s := s.modCp n fun c => { c with halfFailed := c.halfFailed ||| (1#2 <<< half.val) }
    if half = 0 then .next ((s.classify n 2 0xA).failPair n false)
    else .next (s.classify n 2 0xA)
  else if st == PairSt.RUN || st == PairSt.SOLO || st == PairSt.RESTART then
    .next ((s.classify n 2 0xA).failPair n false)
  else .next s

/-- DEBUG_ATTACH (R502, R505): during arbitration it waits for the classification, which a restart has behind it; there it takes effect
at once. -/
def execDebugAttach (n : Fin 4) (s : State) : Res :=
  if s.flag (Fld.LCK_STATUS_DEBUG n) then .next s
  else if s.pairState n == PairSt.ARBITRATE then
    .next (s.modCp n fun c => { c with debugWaits := true })
  else .next (s.attach n)

/-- MTIMECMP of a pair (R509). -/
def State.mtimecmp (s : State) (n : Fin 4) : Nat :=
  (s.reg (Reg.LCK_MTIMECMP_LO n)).toNat + 2 ^ 32 * (s.reg (Reg.LCK_MTIMECMP_HI n)).toNat

/-- MACHINE_TIMER (R493): the machine timer interrupt of a pair stands while mtime ≥ mtimecmp. -/
def execMachineTimer (n : Fin 4) (s : State) : Res :=
  .next (s.modCp n fun c => { c with timerIrq := decide (s.mtimecmp n ≤ s.now) })

/-- MTIME_LO_READ (R509): reading MTIME_LO returns the low word and latches the high one into MTIME_HI. -/
def execMtimeLoRead (s : State) : Res :=
  .next ((s.setReg Reg.LCK_MTIME_LO (s.weft.setWidth 32)).setReg Reg.LCK_MTIME_HI ((s.weft >>> 32).setWidth 32))

end Sys2Proof.Machine
end

