-- ==== Sys2Proof/Machine/Gates.lean ====
section
/-! DEFINITION. The commands of the gate channels (chapter "Gate channels"): PWM edges and the interlock, what an
island does with its command, confirmation, the plateau check, barrier loss, and the comparator self-test. -/

namespace Sys2Proof.Machine

/-! ## Levels of a channel (R133, R134) -/

/-- A segment threshold code as a voltage. -/
def thVolts (code : Nat) : Rat := -10 + (min code 0x78 : Nat) / 4

/-- The segment a transition stands in at a gate sense voltage: a segment whose threshold has been passed is skipped
(R109). -/
def State.segment (s : State) (n : Fin 28) (on : Bool) (gs : Rat) : Nat :=
  if on then
    if thVolts (s.fld (Fld.GDC_SEGON_TH2 n)) < gs ∧ thVolts (s.fld (Fld.GDC_SEGON_TH1 n)) < gs then 3
    else if thVolts (s.fld (Fld.GDC_SEGON_TH1 n)) < gs then 2 else 1
  else
    if gs < thVolts (s.fld (Fld.GDC_SEGOFF_TH2 n)) ∧ gs < thVolts (s.fld (Fld.GDC_SEGOFF_TH1 n)) then 3
    else if gs < thVolts (s.fld (Fld.GDC_SEGOFF_TH1 n)) then 2 else 1

/-- Whether a gate of a set may follow the PWM unit or a console test: the set is in RUN, or a SERVICE test that has begun uses it in
BLOCK; in every other state the safe-state controller has the gates (R159). -/
def State.gateOwned (s : State) (x : Fin 4) : Bool :=
  s.setState x == .run || s.setState x == .block && s.con.begun &&
  (match s.con.test with
   | some (_, some y) => x == y
   | _ => false)

/-- Leaves the CROSS source OPEN: a phase gate is no longer reported off (R149). -/
def State.openEnds (s : State) (x : Fin 4) : State := s.modPsp x fun p => { p with openOk := false, openVals := [] }

/-- ISLAND_COMMAND (R109, R110, R116, R125, R163): the channel's command reaches its island. An on command releases
the clamp, starts segment 1 and, with the enable present, the plateau arming timer; an off command ends the check. -/
def execIslandCommand (n : Fin 28) (gs : Rat) (s : State) : Res :=
  let on := s.gc[n].cmd
  let s := (s.setFlag (Fld.GDC_STATUS_CMD n) on).setFld (Fld.GDC_STATUS_SEG n) (s.segment n on gs)
  let s := s.sense n gs
  let enabled := s.flag (Fld.GDC_STATUS_ENABLE n) || decide (24 ≤ n.val)
  if on then
    let s := (s.setFlag (Fld.GDC_STATUS_CLAMP n) false).setFlag (Fld.GDC_STATUS_CONF_OFF n) false
    let s := s.modGc n fun g =>
      { g with confOff := false, armTimer := enabled, armed := false, forcedOff := !enabled, gateOn := enabled }
    let s := if n.val < 24 then s.openEnds (chanSet n) else s
    .next (s.ascCheck (chanSet n)).settle
  else
    .next (s.modGc n fun g => { g with armTimer := false, armed := false, forcedOff := false, gateOn := false }).settle

/-- SEGMENT_CHANGE (R109): GS crosses a threshold and the next segment takes over; a transition never returns to an
earlier segment. -/
def execSegmentChange (n : Fin 28) (gs : Rat) (s : State) : Res :=
  let on := s.flag (Fld.GDC_STATUS_CMD n)
  let seg := max (s.fld (Fld.GDC_STATUS_SEG n)) (s.segment n on gs)
  .next ((s.setFld (Fld.GDC_STATUS_SEG n) seg).sense n gs)

/-- CLAMP_ENGAGE (R110): with CLAMP_EN, commanded off, and GS below V_CLAMP for 10 ns, the Miller clamp engages. DESIGN CHOICE
(log entry 59): a CLAMP_EN cleared while the clamp is engaged leaves it engaged until the next on command. -/
def execClampEngage (n : Fin 28) (gs : Rat) (s : State) : Res :=
  if s.flag (Fld.GDC_CFG_CLAMP_EN n) && !s.flag (Fld.GDC_STATUS_CMD n) && decide (gs < s.vClamp n) then
    .next (s.setFlag (Fld.GDC_STATUS_CLAMP n) true)
  else .next s

/-- The control side no longer holds a channel as confirmed off (R112). -/
def State.unconfirm (s : State) (n : Fin 28) : State :=
  let s := (s.setFlag (Fld.GDC_STATUS_CONF_OFF n) false).modGc n fun g => { g with confOff := false }
  if n.val < 24 then s.openEnds (chanSet n) else s

/-- A valid frame of an island: its barrier channel is up (R128, R136), the frames to a low side of a set in ASC carry the marker
(R126), and the ASC of its set may now be complete (R163). -/
def State.frameIn (s : State) (n : Fin 28) : State :=
  let now := s.sys.poweredNs
  let s := (s.setFlag (Fld.GDC_STATUS_LINK n) true).modGc n fun g => { g with upSince := some (g.upSince.getD now) }
  (when (decide (n.val < 24 ∧ n.val % 2 = 1)) (fun t => t.markFrame n (t.inAsc (chanSet n))) s).ascCheck (chanSet n)

/-- CONFIRMED_OFF (R112, R115, R139): the frame time of an island. `frame` is none where no valid frame arrives, and the
control side then treats the channel as not confirmed off; a valid frame carries whether GS has been below V_OFF for 10 ns. The
channel is confirmed off where it is commanded off as well. A confirmation that T_CONF_MAX waited for gives t_rx, in 2.5 ns
steps from the off command. -/
def execConfirmedOff (n : Fin 28) (frame : Option Bool) (gs : Rat) (s : State) : Res :=
  match frame with
  | none => .next (s.unconfirm n)
  | some low =>
    let off := low && decide (gs < s.vOff n) && !s.flag (Fld.GDC_STATUS_CMD n)
    let g := s.gc[n]
    let now := s.sys.poweredNs
    let s := (s.sense n gs).frameIn n
    if off then
      let s := (s.setFlag (Fld.GDC_STATUS_CONF_OFF n) true).modGc n fun g =>
        { g with confOff := true, awaitConf := false, confAt := if g.confOff then g.confAt else now }
      if g.awaitConf && decide (n.val < 24) then
        let t := min (2 * (now - g.offAt) / 5) 0xFFFF
        .next ((s.setFld (Fld.GDC_TCONF_LAST n) t).setFld (Fld.GDC_TCONF_PEAK n) (max t (s.fld (Fld.GDC_TCONF_PEAK n))))
      else .next s
    else .next (s.unconfirm n)

/-- T_EXTRA of a channel, in 2.5 ns steps (R135). -/
def State.tExtra (s : State) (n : Fin 28) : Nat := min (s.fld (Fld.GDC_TIME_T_EXTRA n)) 0xC8

/-- T_CONF_MAX of a channel, in ns (R135). -/
def State.tConfMax (s : State) (n : Fin 28) : Nat := 50 * max 4 (min (s.fld (Fld.GDC_TIME_CONF_MAX n)) 0xC8)

/-- T_PLAT_ARM of a channel, in ns (R135). -/
def State.tPlatArm (s : State) (n : Fin 28) : Nat := 50 * max 0x0A (min (s.fld (Fld.GDC_TIME_PLAT_ARM n)) 0xC8)

/-- Whether the conditions of R115 hold for the release of a channel: the companion is commanded off, its confirmed-off state
has been received for its t_extra, and its off command left at least 120 ns ago. -/
def State.released (s : State) (n : Fin 28) : Bool :=
  let c := s.gc[companion n]
  let now := s.sys.poweredNs
  !c.cmd && c.confOff && decide (5 * s.tExtra (companion n) ≤ 2 * (now - c.confAt)) && decide (c.offAt + 120 ≤ now)

/-- INTERLOCK_RELEASE (R115, R119, R121): the held on request of a channel is released, where the conditions hold and the
companion asks for nothing. DESIGN CHOICE (log entry 59): of requests of both channels that stand from different clocks with
neither commanded on, each waits for the other's request to end, as R119 says of requests of one clock, and no SHOOT_BLOCK
event is counted. A channel under self-test stays at its sink (R130). -/
def execInterlockRelease (n : Fin 24) (s : State) : Res :=
  let n : Fin 28 := n.castLE (by decide)
  if s.gc[n].request && !s.gc[n].cmd && !s.gc[companion n].request && s.released n && !s.gateTesting n then
    let s := s.setFlag (Fld.GDC_STATUS_HELD n) false
    let s := { s with conflict := s.conflict &&& ~~~(1#12 <<< (n.val / 2)) }
    .next (((s.modGc n fun g => { g with cmd := true }).edge n).ascCheck (chanSet n)).settle
  else .next s

/-- OFF_TIMEOUT (R7, R117): the confirmation has not come within T_CONF_MAX, whose last tick is still in time; the fault
latches and the companion's held request is discarded. DESIGN CHOICE (log entry 59): a confirmation that arrives later
updates neither LAST nor PEAK. -/
def execOffTimeout (n : Fin 24) (s : State) : Res :=
  let n : Fin 28 := n.castLE (by decide)
  if s.gc[n].awaitConf && !s.gc[n].confOff && decide (s.gc[n].offAt + s.tConfMax n < s.sys.poweredNs) then
    let s := s.modGc n fun g => { g with awaitConf := false }
    let m := companion n
    let s := if s.gc[m].cmd then s
      else (s.modGc m fun g => { g with request := false }).setFlag (Fld.GDC_STATUS_HELD m) false
    .next (s.gateFault n (Fld.GDC_FAULT_OFF_TIMEOUT n)).settle
  else .next s

/-- PLATEAU_ARM (R125): T_PLAT_ARM has run since the on command reached the island. -/
def execPlateauArm (n : Fin 28) (s : State) : Res :=
  if s.gc[n].armTimer then .next (s.modGc n fun g => { g with armTimer := false, armed := true }) else .next s

/-- PLATEAU_LOW (R125, R128): with the check armed, GS has stayed below V_ON_MIN for 200 ns. The check goes on until the next off
command, so that a fault cleared meanwhile latches again where the sag recurs. -/
def execPlateauLow (n : Fin 28) (gs : Rat) (s : State) : Res :=
  let s := s.sense n gs
  if s.gc[n].armed && decide (gs < s.vOnMin n) then
    .next (s.gateFault n (Fld.GDC_FAULT_PLATEAU_LOW n)).settle
  else .next s

/-- ISLAND_LINK_LOSS (R126): the island has had no valid frame for 64 frame times, 800 ns. A low side whose last valid frame carried the
ASC marker keeps its gate; every other island drives its gate off with sink segment 3. A change of the marker within those 800 ns has
not reached the island. -/
def execIslandLinkLoss (n : Fin 28) (s : State) : Res :=
  let now := s.sys.poweredNs
  let missed := s.gc[n].markAt.any fun (t : Nat) => decide (now < t + 800)
  let s := when missed (fun t => t.setFlag (Fld.GDC_STATUS_ASC_MARK n) (!s.flag (Fld.GDC_STATUS_ASC_MARK n))) s
  if s.flag (Fld.GDC_STATUS_ASC_MARK n) && decide (n.val < 24 ∧ n.val % 2 = 1) then .next s
  else .next (s.forceOff n)

/-- LINK_LOST (R112, R126): 64 frames from the island are missing; the control side no longer holds it confirmed. -/
def execLinkLost (n : Fin 28) (s : State) : Res :=
  let s := ((s.setFlag (Fld.GDC_STATUS_LINK n) false).unconfirm n).modGc n fun g => { g with upSince := none }
  .next (s.gateFault n (Fld.GDC_FAULT_LINK_LOST n)).settle

/-- SSI_LINK_LOST (R13): one of the two channels of an SSI has been lost for 64 frame times. -/
def execSsiLinkLost (x : Fin 4) (data : Bool) (s : State) : Res :=
  let s := s.modPsp x fun p => if data then { p with linkData := false } else { p with linkFlag := false }
  .next (s.latchSet x [SF.SSI_LINK]).settle

/-! ## The comparator self-test (R130, R131) -/

/-- Starts the self-test of a channel, whose gate is then held at its sink, or refuses it (R130). DESIGN CHOICE (log entry 59): a START while the test runs starts
it again, and a refused one clears the earlier results and DONE as an accepted one does (R138). -/
def State.gateTestStart (s : State) (n : Fin 28) : State :=
  let x := chanSet n
  let s := s.setReg (Reg.GDC_TESTRES n) 0
  if s.inPulseBlock x && s.setFree x then (s.setFlag (Fld.GDC_TESTRES_BUSY n) true).chanOff n
  else s.setFlag (Fld.GDC_TESTRES_REFUSED n) true

/-- GDC_TEST_START (R130): START is written to GDC_n_TEST. -/
def execGdcTestStart (n : Fin 28) (s : State) : Res := .next (s.gateTestStart n)

/-- The reply of gdc selftest (R143): PASS with GDC_n_TESTRES, where the console waits for this channel. A test that fails, or
that an ASC or STO request aborts, is answered ERR FAIL (log entry 59). -/
def State.gateReply (s : State) (n : Fin 28) : State :=
  if s.con.gateTest != some n then s
  else
    let s : State := { s with con := { s.con with gateTest := none, busy := false } }
    if s.flag (Fld.GDC_TESTRES_PASS n) then s.reply [.data [("PASS", 1), ("TESTRES", (s.reg (Reg.GDC_TESTRES n)).toNat)]]
    else s.replyErr "FAIL"

/-- GDC_TEST_DONE (R131): the running self-test ends; a failing comparator latches TEST_FAIL. -/
def execGdcTestDone (n : Fin 28) (r : GateTest) (s : State) : Res :=
  if !s.flag (Fld.GDC_TESTRES_BUSY n) then .next s
  else
    let s := (s.setFlag (Fld.GDC_TESTRES_BUSY n) false).setFlag (Fld.GDC_TESTRES_DONE n) true
    let s := (s.setFlag (Fld.GDC_TESTRES_SEG_FAIL n) r.segFail).setFlag (Fld.GDC_TESTRES_CLAMP_FAIL n) r.clampFail
    let s := (s.setFlag (Fld.GDC_TESTRES_ONMIN_FAIL n) r.onMinFail).setFlag (Fld.GDC_TESTRES_OFF_FAIL n) r.offFail
    if r.segFail || r.clampFail || r.onMinFail || r.offFail then
      .next (((s.modGc n fun g => { g with testPassed := false }).gateFault n (Fld.GDC_FAULT_TEST_FAIL n)).gateReply n).settle
    else
      .next (((s.setFlag (Fld.GDC_TESTRES_PASS n) true).modGc n fun g => { g with testPassed := true }).gateReply n)

end Sys2Proof.Machine
end

