-- ==== Sys2Proof/Machine/Lane.lean ====
section
/-! DEFINITION. Lane faults, the known-answer test and the memory scrub of the Loom (R238, R260 to R265). -/

namespace Sys2Proof.Machine

/-- Latches a lane fault: the schedule stops, the set fault LOOM follows, and unless the lane is unusable a
known-answer test follows once the set is out of RUN, after a reload where `reload` asks for one (R262, R263). -/
def State.laneFault (s : State) (x : Fin 4) (f : Field) (reload : Bool := false) : State :=
  let s := ((s.setFlag f true).setFlag (Fld.LOOM_STATUS_FAULTED x) true).setFlag (Fld.LOOM_STATUS_ACTIVE x) false
  let s := s.modLane x fun l =>
    { l with
      passed := false, inp := none, reload := l.reload || reload
      katWant := !s.flag (Fld.LOOM_FAULT_UNAVAIL x) }
  s.latchSet x [SF.LOOM]

/-- The lanes of the axis that a lane belongs to: the sets of that axis, or the lane alone. -/
def State.axisLanes (s : State) (x : Fin 4) : List (Fin 4) :=
  match s.ownerAxis x with
  | some a => s.axisSets a
  | none => [x]

/-- The lane fault LATE, or its count (R238). -/
def State.lateLane (s : State) (x : Fin 4) : State :=
  if s.flag (Fld.PWM_STATUS_RUN_REL x) then s.laneFault x (Fld.LOOM_FAULT_LATE x)
  else s.incSat (Fld.LOOM_CNT_LATE_SEEN x)

/-- A double-bit error in a word that a lane reads (R261); in a shared word no reload is possible without CP_1, so that the
lanes of the axis become unusable (R264, R501). -/
def State.eccDue (s : State) (x : Fin 4) (addr : BitVec 16) (shared : Bool) : State :=
  let s := s.setFld (Fld.LOOM_ECC_DUE_ADDR x) addr.toNat
  if shared && s.flag (Fld.LCK_STATUS_FAILED 1) then
    let s := forAll (s.axisLanes x)
      (fun y t => (t.setFlag (Fld.LOOM_FAULT_UNAVAIL y) true).laneFault y (Fld.LOOM_FAULT_ECC_DUE y)) s
    match s.ownerAxis x with
    | some a => s.axisFault a 1
    | none => s
  else if shared then forAll (s.axisLanes x) (fun y t => t.laneFault y (Fld.LOOM_FAULT_ECC_DUE y) true) s
  else s.laneFault x (Fld.LOOM_FAULT_ECC_DUE x)

/-- OVERRUN (R262): the observe phase of a lane has not completed at t_s + 1.8 µs. -/
def execOverrun (x : Fin 4) (s : State) : Res :=
  if s.clocksRun x then .next (s.laneFault x (Fld.LOOM_FAULT_OVERRUN x)).settle else .next s

/-- LOOM_SCRUB (R261): one word read by the scrubber; a double-bit error in a word not in use latches nothing. -/
def execLoomScrub (addr : BitVec 16) (hit : ScrubHit) (s : State) : Res :=
  match hit with
  | .clean => .next s
  | .corrected x => .next (s.incSat (Fld.LOOM_ECC_CE x))
  | .double x =>
    let s := (s.setFld (Fld.LOOM_ECC_DUE_ADDR x) addr.toNat).modLane x fun l => { l with dues := l.dues + 1 }
    .next (s.journal 0x0204 x.val (s.reg (Reg.LOOM_ECC x)))

/-- LANE_PARAM_RELOAD (R263, R264): CP_1 has reloaded the words of a lane; the known-answer test follows. -/
def execLaneParamReload (x : Fin 4) (s : State) : Res :=
  if s.lane[x].reload then .next (s.modLane x fun l => { l with reload := false }).settle else .next s

/-- A request for the known-answer test: it runs only while the set is not in RUN (R264). -/
def State.katRequest (s : State) (x : Fin 4) : State :=
  if s.setState x == .run then s.setFlag (Fld.LOOM_STATUS_KAT_REFUSED x) true
  else (s.setFlag (Fld.LOOM_STATUS_KAT_REFUSED x) false).modLane x fun l => { l with katWant := true }

/-- KAT (R264, R271): a 1 written to LOOM_SET_s_CMD.KAT. -/
def execKat (w : Writer) (x : Fin 4) (s : State) : Res :=
  s.access w (Reg.LOOM_CMD x) 1 fun s => (s.katRequest x).settle

/-- Completes whoever waits for a known-answer test: FUNC_REINIT of the lane, or loom kat. -/
def State.katAnswer (s : State) (x : Fin 4) (pass : Bool) : State :=
  let l := s.lane[x]
  let s := s.modLane x fun l => { l with katHost := none, katCon := false }
  let s := match l.katHost with
    | some _ =>
      s.finish (fun c => c.opcode == 0x18 && c.inst == 0x600 + x.val)
        (if pass && !s.flag (Fld.LOOM_FAULT_UNAVAIL x) then St.SUCCESS else St.UNIT_FAILED) 0
    | none => s
  if l.katCon then
    let s := { s with con := { s.con with busy := false } }
    if pass then s.reply [.data [("PASS", 1), ("KAT_PASS", 1)]] else s.replyErr "FAIL"
  else s

/-- KAT_DONE (R263, R264): the test ends. A pass clears the lane faults except UNAVAIL and initialises the lane; a first
failure is followed by a reload and a second test, a second one makes the lane unusable until Dawn. -/
def execKatDone (x : Fin 4) (pass : Bool) (s : State) : Res :=
  if !s.flag (Fld.LOOM_STATUS_KAT_BUSY x) then .next s
  else
    let s := (s.setFlag (Fld.LOOM_STATUS_KAT_BUSY x) false).setFlag (Fld.LOOM_STATUS_KAT_PASS x) pass
    if pass then
      let unavail := s.flag (Fld.LOOM_FAULT_UNAVAIL x)
      let s := s.setReg (Reg.LOOM_FAULT x) (if unavail then 64 else 0)
      let s := s.setFlag (Fld.LOOM_STATUS_FAULTED x) unavail
      let s := s.modLane x fun l =>
        { l with katFails := 0, passed := !unavail, x := DQ.zero, bs := DQ.zero, did := 0, inp := none }
      .next (s.katAnswer x true).settle
    else
      let n := s.lane[x].katFails + 1
      let s := (s.modLane x fun l => { l with katFails := n }).laneFault x (Fld.LOOM_FAULT_KAT_FAIL x) true
      if n < 2 then .next s.settle
      else
        let s := (s.setFlag (Fld.LOOM_FAULT_UNAVAIL x) true).modLane x fun l => { l with katWant := false, reload := false }
        let s := match s.ownerAxis x with
          | some a => s.axisFault a 1
          | none => s
        .next (s.katAnswer x false).settle

end Sys2Proof.Machine
end

