-- ==== Sys2Proof/Machine/Mfe.lean ====
section
/-! DEFINITION. Current and voltage measurement (chapter of that name): scaling, invalid inputs (R206), shunt fallback
(R219 to R222), offsets (R205, R213), the single-shunt reconstruction and its cross-check (R214 to R217). -/

namespace Sys2Proof.Machine

/-! ## Settings (R223 to R225) -/

/-- Whether an input is fitted. -/
def State.fitted (s : State) (x : Fin 4) (k : Fin 3) : Bool := (s.fld (Fld.MFE_CFG_FIT x)).testBit k.val

/-- Whether an input works in sigma-delta mode. -/
def State.sdMode (s : State) (x : Fin 4) (k : Fin 3) : Bool := (s.fld (Fld.MFE_CFG_SD x)).testBit k.val

/-- I_FS of an input, in A. -/
def State.iFs (s : State) (x : Fin 4) (k : Fin 3) : Rat := (max 1 (s.fld (Fld.MFE_FS_FS x k)) : Nat) / 10

/-- OFS_MAX of an input, in A. -/
def State.ofsMax (s : State) (x : Fin 4) (k : Fin 3) : Rat := (max 1 (s.fld (Fld.MFE_CFG_OFSMAX x)) : Nat) * s.iFs x k / 1000

/-- GF_TH, in A; 0 disables R218. -/
def State.gfTh (s : State) (x : Fin 4) : Nat := s.fld (Fld.MFE_XC_GFTH x)

/-- Whether a set measures in shunt fallback. -/
def State.inFallback (s : State) (x : Fin 4) : Bool := s.flag (Fld.MFE_STATUS_FALLBACK x)

/-- The value of a phase of three raw values. -/
def rawAt (r : Raw3) (k : Fin 3) : InlineRaw := match k with | 0 => r.u | 1 => r.v | _ => r.w

/-- The voltage of a calibrated code: 16 bits over ±10 V, 305.2 µV per code (R202). -/
def codeVolts (c : BitVec 16) : Rat := (c.toInt : Rat) * 20 / 65536

/-- The weights of a sinc3 filter with decimation 10 over the 28 bits it spans (R203). -/
def sinc3 : List Nat :=
  [1, 3, 6, 10, 15, 21, 28, 36, 45, 55, 63, 69, 73, 75, 75, 73, 69, 63, 55, 45, 36, 28, 21, 15, 10, 6, 3, 1]

/-- The ones density that the filter gives (R203). -/
def onesDensity (b : Vector Bool 28) : Rat :=
  ((b.toList.zip sinc3).foldl (fun n e => if e.1 then n + e.2 else n) 0 : Nat) / 1000

/-- Whether all 8 conversions of a window stand at the converter limit (R206). -/
def atLimit (r : InlineRaw) : Bool := r.codes.toList.all fun c => c == 0x7FFF || c == 0x8000

/-- What an input shows as a current, before any offset: the mean of its 8 conversions (R202), or the filtered bitstream
(R203). -/
def State.scaled (s : State) (x : Fin 4) (k : Fin 3) (r : InlineRaw) : Rat :=
  let i := if s.sdMode x k then s.iFs x k * (2 * onesDensity r.bits - 1) * 10 / 8
    else s.iFs x k * meanRat (r.codes.toList.map codeVolts) / 10
  if s.flag (Fld.MFE_FS_INV x k) then -i else i

/-- Whether every fitted input of a set is valid. -/
def State.allValid (s : State) (x : Fin 4) : Bool := three.all fun k => !s.fitted x k || s.inputValid x k

/-- The current of one fitted input, less its offset; an invalid input gives no stated value. -/
def State.inlineOne (s : State) (x : Fin 4) (k : Fin 3) (r : InlineRaw) : Rat × State :=
  if s.inputValid x k then (s.scaled x k r - s.mfe[x].ofs.at k, s) else s.freeRat

/-- The three in-line currents of an instant; with two inputs fitted the third is the negative sum (R201). -/
def State.inlineAmps (s : State) (x : Fin 4) (ps : Raw3) : Amps3 × State :=
  let (u, s) := if s.fitted x 0 then s.inlineOne x 0 ps.u else (0, s)
  let (v, s) := if s.fitted x 1 then s.inlineOne x 1 ps.v else (0, s)
  let (w, s) := if s.fitted x 2 then s.inlineOne x 2 ps.w else (0, s)
  let sum := u + v + w
  ({ u := if s.fitted x 0 then u else -sum, v := if s.fitted x 1 then v else -sum
     w := if s.fitted x 2 then w else -sum }, s)

/-! ## MEAS and fallback (R219 to R222) -/

/-- Latches MEAS on a set whose axis is active, keeping the cause (R222). -/
def State.latchMeas (s : State) (x : Fin 4) (why : Nat) : State :=
  if s.setActive x then
    (s.modMfe x fun m => { m with measWhy := m.measWhy ||| (1#4 <<< why) }).latchSet x [SF.MEAS]
  else s

/-- Whether the axis of a set may enter fallback: FB_EN, and FB_AVAIL on every set of the axis (R219). -/
def State.fallbackOk (s : State) (x : Fin 4) : Bool :=
  s.flag (Fld.MFE_CFG_FB_EN x) && (s.axisLanes x).all fun y => s.fbAvail y

/-- Every set of the axis of a set enters fallback, named by one of its inputs (R219). -/
def State.enterFallback (s : State) (x : Fin 4) (k : Nat) : State :=
  let s := forAll (s.axisLanes x)
    (fun y t =>
      let t := (t.setFlag (Fld.MFE_STATUS_FALLBACK y) true).setFlag (Fld.PWM_STATUS_FALLBACK y) true
      t.modMfe y fun m => { m with gaps := 0 }) s
  s.journal 0x0203 x.val (BitVec.ofNat 32 k)

/-- What follows an input of an active axis becoming invalid (R219). -/
def State.inputLost (s : State) (x : Fin 4) (k : Nat) : State :=
  if !s.setActive x || s.inFallback x then s
  else if s.fallbackOk x then s.enterFallback x k
  else s.latchMeas x 0

/-- Inputs of a set become invalid (R206): a newly invalid fitted input has the consequences of R219. -/
def State.invalidate (s : State) (x : Fin 4) (m : BitVec 3) : State :=
  let fit : BitVec 3 := BitVec.ofNat 3 (s.fld (Fld.MFE_CFG_FIT x))
  let new := m &&& fit &&& ~~~s.mfe[x].inv
  let s := s.modMfe x fun q => { q with inv := q.inv ||| m }
  if new = 0 then s
  else s.inputLost x (if new.getLsbD 0 then 0 else if new.getLsbD 1 then 1 else 2)

/-- The inputs of a set in one mode, as a mask. -/
def State.modeMask (s : State) (x : Fin 4) (sd : Bool) : BitVec 3 :=
  let m : BitVec 3 := BitVec.ofNat 3 (s.fld (Fld.MFE_CFG_SD x))
  if sd then m else ~~~m

/-! ## Inputs -/

/-- STUCK (R206): a sigma-delta bitstream has stayed constant for 64 clocks. -/
def execStuck (x : Fin 4) (k : Fin 3) (s : State) : Res :=
  if s.clocksRun x && s.fitted x k && s.sdMode x k then
    let s := (s.modMfe x fun m => { m with live := m.live &&& ~~~(1#3 <<< k.val) }).setFld ⟨Reg.MFE_FAULT x, 4 + k.val, 1⟩ 1
    .next (s.invalidate x (1#3 <<< k.val)).settle
  else .next s

/-- SDCLK (R206): the pin monitor has seen no edge for 200 ns; every sigma-delta input of the set is invalid. -/
def execSdclk (x : Fin 4) (s : State) : Res :=
  if s.clocksRun x && s.anySd x then
    let m := s.modeMask x true
    let s := (s.modMfe x fun q => { q with sdclk := true, live := q.live &&& ~~~m }).setFlag (Fld.MFE_FAULT_SDCLK x) true
    .next (s.invalidate x m).settle
  else .next s

/-- SD_INPUT_RECOVER (R206): the input has run for 84 clocks with a live clock and a changing bitstream. It reads valid
again unless an offset or a cross-check holds it invalid; the latched bits stay. -/
def execSdInputRecover (x : Fin 4) (k : Fin 3) (s : State) : Res :=
  if s.clocksRun x && s.fitted x k && s.sdMode x k then
    let held := (s.fld (Fld.MFE_FAULT_OFS x)).testBit k.val || s.flag (Fld.MFE_FAULT_XCHECK x) && !s.flag (Fld.MFE_FAULT_SHUNT_SUSPECT x)
    let b := 1#3 <<< k.val
    .next (s.modMfe x fun m => { m with sdclk := false, live := m.live ||| b, inv := if held then m.inv else m.inv &&& ~~~b }).settle
  else .next s

/-- SENSOR_SUPPLY_OVERLOAD (R207): both rails off; SUPPLY latches on every set and every analogue input is invalid. -/
def execSensorSupplyOverload (s : State) : Res :=
  let s := ({ s with railsUp := false }.setFlag Fld.MFE_SUPPLY_OVERLOAD true).setFlag Fld.MFE_SUPPLY_ON false
  let s := forAll four (fun x t => t.setFlag (Fld.MFE_FAULT_SUPPLY x) true) s
  .next (forAll four (fun x t => t.invalidate x (t.modeMask x false)) s).settle

/-- The sensor rails start again (R207); SENSOR_SUPPLY_UP follows. -/
def State.supplyRestart (s : State) : State := { s with railsUp := true }

/-- MFE_SUPPLY_RESTART (R207, R231): RESTART is written; refused with REG_LOCKED while an axis is active. -/
def execMfeSupplyRestart (w : Writer) (s : State) : Res :=
  s.access w Reg.MFE_SUPPLY 1 fun s => if s.noneActive then s.supplyRestart else s.regLocked w Reg.MFE_SUPPLY 1

/-- SENSOR_SUPPLY_UP (R207): the restarted rails are up. DESIGN CHOICE (log entry 61): analogue inputs that only the rails held invalid
then read valid again; R206 gives a return only after a stall. -/
def execSensorSupplyUp (s : State) : Res :=
  if !s.railsUp then .next s
  else
    let s := ({ s with railsUp := false }.setFlag Fld.MFE_SUPPLY_OVERLOAD false).setFlag Fld.MFE_SUPPLY_ON true
    let s := forAll four
      (fun x t =>
        let held : BitVec 3 := BitVec.ofNat 3 (t.fld (Fld.MFE_FAULT_OFS x) ||| t.fld (Fld.MFE_FAULT_SAT x))
        let xc := t.flag (Fld.MFE_FAULT_XCHECK x) && !t.flag (Fld.MFE_FAULT_SHUNT_SUSPECT x)
        let m := t.modeMask x false &&& ~~~held
        t.modMfe x fun q => { q with inv := if xc then q.inv else q.inv &&& ~~~m }) s
    .next s.settle

/-! ## The offset measurement (R205, R221, R222) -/

/-- Whether the condition that makes an input usable stands: the rails for an analogue input, a live bitstream and
clock for a sigma-delta one. -/
def State.inputAlive (s : State) (x : Fin 4) (k : Fin 3) : Bool :=
  if s.sdMode x k then s.mfe[x].live.getLsbD k.val && !s.mfe[x].sdclk else s.flag Fld.MFE_SUPPLY_ON

/-- The values an offset measurement takes the mean of (R205): in pulse block 64 of them; in ASC those of the first whole number of
electrical periods, at least two and at least 20 ms, and none once 2 s have passed without. No answer: it still runs. -/
def State.offsetSpan (s : State) (x : Fin 4) (vals : List (Time × Raw3)) : Option (Option (List Raw3)) :=
  let m := s.mfe[x]
  if !s.inAsc x then (if vals.length < 64 then none else some (some ((vals.take 64).map (·.2))))
  else
    let late := m.ofsAt.toNat + 2_000_000_000
    match m.ofsCross.reverse with
    | [] => if late ≤ s.now then some none else none
    | t0 :: rest =>
      let ends := (rest.drop 1).find? fun t => decide (t0.toNat + 20_000_000 ≤ t.toNat ∧ t.toNat ≤ late)
      match ends with
      | none => if late ≤ s.now then some none else none
      | some t1 =>
        let l := (vals.filter fun e => decide (t0.toNat ≤ e.1.toNat ∧ e.1.toNat ≤ t1.toNat)).map (·.2)
        if l.isEmpty then none else some (some l)

/-- The measured offset of one input, in A: the mean of the values, or where there are none the one stored at its last passed
measurement (R205). -/
def State.offsetOf (s : State) (x : Fin 4) (k : Fin 3) (l : Option (List Raw3)) : Option Rat :=
  match l with
  | some l => some (meanRat (l.map fun r => s.scaled x k (rawAt r k)))
  | none => s.mfe[x].stored[k]

/-- Whether a measured offset passes: the input works, and the offset lies within OFS_MAX (R205). -/
def State.offsetOk (s : State) (x : Fin 4) (k : Fin 3) (o : Option Rat) : Bool :=
  match o with
  | some o => s.inputAlive x k && decide (absRat o ≤ s.ofsMax x k)
  | none => false

/-- The offset measurement of one input (R205, R206): an offset within OFS_MAX is stored and subtracted from then on; one beyond
it, or none at all, latches OFS_k. At an AXIS_ENABLE the input that passes is valid again and its latches clear. -/
def State.measureOffset (s : State) (x : Fin 4) (k : Fin 3) (enable : Bool) (o : Option Rat) : State :=
  if !s.fitted x k then s
  else
    let b := 1#3 <<< k.val
    let ok := s.offsetOk x k o
    match o with
    | none => (s.setFld ⟨Reg.MFE_FAULT x, 12 + k.val, 1⟩ 1).modMfe x fun m => { m with inv := m.inv ||| b }
    | some v =>
      if s.ofsMax x k < absRat v then
        (s.setFld ⟨Reg.MFE_FAULT x, 12 + k.val, 1⟩ 1).modMfe x fun m => { m with inv := m.inv ||| b }
      else if !ok then s.modMfe x fun m => { m with inv := m.inv ||| b }
      else
        let s := s.modMfe x fun m =>
          { m with stored := m.stored.set k (some v), ofs := Amps3.of fun j => if j = k then v else m.ofs.at j }
        if !enable then s
        else
          let s := forAll [4, 8, 12] (fun i t => t.setFld ⟨Reg.MFE_FAULT x, i + k.val, 1⟩ 0) s
          s.modMfe x fun m => { m with inv := m.inv &&& ~~~b, satN := m.satN.set k 0 }

/-- Clears the latches of the whole set that its inputs have now passed: SDCLK, SUPPLY and XCHECK (R206). DESIGN CHOICE (log entry 61):
where the shunt was held at fault, XCHECK stays with SHUNT_SUSPECT until Dawn (R217, R227). -/
def State.clearSetLatches (s : State) (x : Fin 4) : State :=
  let ok (p : Fin 3 → Bool) := three.all fun k => !s.fitted x k || !p k || s.inputValid x k
  let s := when (ok fun k => s.sdMode x k) (·.setFlag (Fld.MFE_FAULT_SDCLK x) false) s
  let s := when (s.flag Fld.MFE_SUPPLY_ON && ok fun k => !s.sdMode x k) (·.setFlag (Fld.MFE_FAULT_SUPPLY x) false) s
  when (ok (fun _ => true) && !s.flag (Fld.MFE_FAULT_SHUNT_SUSPECT x)) (·.setFlag (Fld.MFE_FAULT_XCHECK x) false) s

/-- Ends fallback on an axis (R221). -/
def State.leaveFallback (s : State) (a : Fin 4) : State :=
  forAll (s.axisSets a)
    (fun y t =>
      let t := (t.setFlag (Fld.MFE_STATUS_FALLBACK y) false).setFlag (Fld.PWM_STATUS_FALLBACK y) false
      t.modMfe y fun m => { m with gaps := 0, xcN := 0 }) s

/-- Ends an AXIS_ENABLE with MEAS_FAIL: the axis stays STOPPED (R221, R222). -/
def State.measFail (s : State) (a : Fin 4) : State :=
  let s := (s.modPos a fun p => { p with start := none, iref := none, pulse := 0, meas := p.meas.filter (·.con) })
  ((s.setFld (Fld.POS_STATUS_START a) 0).finishEnable a St.MEAS_FAIL 0).setAxis a AxSt.STOPPED

/-- What the end of the last offset measurement of an axis decides (R221, R222). -/
def State.measDecide (s : State) (a : Fin 4) : State :=
  let xs := s.axisSets a
  if xs.any fun y => s.flag (Fld.MFE_FAULT_DC_DIVERGE y) then s.measFail a
  else if xs.all fun y => s.allValid y then s.leaveFallback a
  else
    match xs.find? fun y => !s.allValid y with
    | none => s
    | some y =>
      if !s.fallbackOk y then s.measFail a
      else if s.inFallback y then s
      else s.enterFallback y (if s.inputValid y 0 then (if s.inputValid y 1 then 2 else 1) else 0)

/-- The reply of mfe zero (R233): the measured offset of each fitted input in ‰ of I_FS, and PASS where each passes. -/
def State.zeroReply (s : State) (x : Fin 4) (o : Fin 3 → Option Rat) : State :=
  let s := (s.modMfe x fun m => { m with ofsCon := false })
  let s := { s with con := { s.con with busy := false } }
  let name (k : Fin 3) : String := match k with | 0 => "U" | 1 => "V" | _ => "W"
  let l := three.filterMap fun k =>
    if s.fitted x k then (o k).map fun v => (name k, quantise (v * 1000 / s.iFs x k)) else none
  if three.all fun k => !s.fitted x k || s.offsetOk x k (o k) then s.reply [.data (l ++ [("PASS", 1)])]
  else (s.say (.data l)).replyErr "FAIL"

/-- What the end of an offset measurement does on its set: every input is judged (R205, R206), and mfe zero is answered (R233). -/
def State.offsetsEnd (s : State) (x : Fin 4) (l : Option (List Raw3)) (starting : Bool) : State :=
  let o (k : Fin 3) : Option Rat := s.offsetOf x k l
  let s := forAll three (fun k t => t.measureOffset x k starting (o k)) s
  let s := (when starting (·.clearSetLatches x) s).modMfe x fun m => { m with ofsRun := false }
  when s.mfe[x].ofsCon (·.zeroReply x o) s

/-- OFFSET_MEASUREMENT_END (R205, R206, R221, R222, R233): with the values taken, each with its instant. In a start, the last set
to end decides between in-line measurement, fallback and MEAS_FAIL. The measurement of mfe zero clears no latch. -/
def execOffsetMeasurementEnd (x : Fin 4) (vals : List (Time × Raw3)) (s : State) : Res :=
  match s.mfe[x].ofsRun && s.clocksRun x, s.offsetSpan x vals with
  | true, some l =>
    let own := s.ownerAxis x
    let starting := own.any fun a => s.axState a == AxSt.STARTING
    let s := s.offsetsEnd x l starting
    match own with
    | some a =>
      if starting && !(s.axisSets a).any fun y => s.mfe[y].ofsRun then .next (s.measDecide a).settle else .next s.settle
    | none => .next s.settle
  | _, _ => .next s

/-! ## Ground fault, DC link and NTC -/

/-- GROUND (R218): the in-line sum has exceeded GF_TH for GF_FILT. -/
def execGround (x : Fin 4) (s : State) : Res :=
  if s.flag (Fld.MFE_STATUS_GF_LVL x) && s.gfTh x != 0 && !s.inFallback x && s.allValid x && s.fld (Fld.MFE_CFG_FIT x) == 7 then
    let s := s.setFlag (Fld.MFE_FAULT_GROUND x) true
    match s.ownerAxis x with
    | some a => .next (if s.axActive a then (s.axisFault a 3).settle else s)
    | none => .next s
  else .next s

/-- DC_DIVERGE (R211, R222): the divergence has held for 10 ms. -/
def execDcDiverge (x : Fin 4) (s : State) : Res :=
  if s.dcAgree x then .next s
  else .next ((s.setFlag (Fld.MFE_FAULT_DC_DIVERGE x) true).latchMeas x 1).settle

/-- DC_DIVERGE_CLEAR (R222): the two measurements have agreed for 10 ms. -/
def execDcDivergeClear (x : Fin 4) (s : State) : Res :=
  if s.dcAgree x then .next (s.setFlag (Fld.MFE_FAULT_DC_DIVERGE x) false) else .next s

/-- One value of an offset tracked with a time constant of 64 (R213). -/
def State.trackOffset (s : State) (x : Fin 4) (v : Rat) : State :=
  let s := s.modMfe x fun m => { m with shOfs := m.shOfs + (v - m.shOfs) / 64 }
  { s with sfs := s.sfs.set x { s.sfs[x] with ofs := s.sfs[x].ofs + (v - s.sfs[x].ofs) / 64 } }

/-- SHUNT_OFFSET_TRACK (R213, R445): every 100 µs in ASC, or in BLOCK from single samples with the chopper off for at least
5 µs, never while the chopper is on. DESIGN CHOICE (log entry 60): one sample is taken in ASC too. -/
def execShuntOffsetTrack (x : Fin 4) (v : Rat) (s : State) : Res :=
  let g := s.gc[chopChan x]
  let long := decide (g.offAt + 5000 ≤ s.sys.poweredNs)
  if (s.countsAsc x || s.setState x == .block && long) && !g.cmd then .next (s.trackOffset x (shuntVolts v)) else .next s

/-- The resistance that a pin voltage shows, read to 0.1 % of it (R209, log entry 4). -/
def ntcOhms (volts : Rat) (low : Bool) : Rat :=
  let r := volts * (if low then 100_000 else 10_000)
  r * (1 + (clampInt (-500) 500 (Config.ntcStep r) : Rat) / 1_000_000)

/-- NTC_SAMPLE (R212, R229): one conversion of the NTC pin voltage, in V, at the excitation in force, which a voltage above
3.50 V lowers to 10 µA and one below 0.30 V returns to 100 µA. -/
def execNtcSample (x : Fin 4) (volts : Rat) (s : State) : Res :=
  let ohms := ntcOhms volts s.mfe[x].ntcLow
  let s := s.modMfe x fun m =>
    { m with ntcV := volts, ntcLow := decide (7 / 2 < volts) || m.ntcLow && !decide (volts < 3 / 10) }
  let op := decide (100_000 < ohms)
  let s := (s.setFlag (Fld.MFE_STATUS_NTC_OPEN x) op).setFlag (Fld.MFE_STATUS_NTC_SHORT x) (decide (ohms < 100))
  .next (s.setFld (Fld.MFE_NTC_R x) (if op then 0xF_FFFF else (quantise ohms).toNat))

/-! ## Shunt windows (R188, R214 to R217, R445) -/

/-- The sector of an order of phases (R215). -/
def sectorOf (o : Fin 3 × Fin 3 × Fin 3) : Nat :=
  match o.1, o.2.1 with
  | 0, 1 => 1 | 1, 0 => 2 | 1, 2 => 3 | 2, 1 => 4 | 2, 0 => 5 | _, _ => 6

/-- Three currents from window A on phase x, window B on phase z, and the negative sum on the third (R215). -/
def reconstruct (o : Fin 3 × Fin 3 × Fin 3) (ia ib : Rat) : Amps3 :=
  Amps3.of fun k => if k = o.1 then ia else if k = o.2.2 then -ib else ib - ia

/-- The failure of a cross-check (R217): XC_N in a row latch XCHECK and decide which side is at fault. -/
def State.crossFail (s : State) (x : Fin 4) (sum : Rat) : State :=
  let s := s.incSat (Fld.MFE_CNT_XCFAIL x)
  let n := s.mfe[x].xcN + 1
  if n < max 1 (s.fld (Fld.MFE_XC_XCN x)) then s.modMfe x fun m => { m with xcN := n }
  else
    let s := (s.modMfe x fun m => { m with xcN := 0 }).setFlag (Fld.MFE_FAULT_XCHECK x) true
    if s.fld (Fld.MFE_CFG_FIT x) == 7 && decide (absRat sum ≤ (s.gfTh x : Rat)) then
      s.setFlag (Fld.MFE_FAULT_SHUNT_SUSPECT x) true
    else s.invalidate x 7

/-- The cross-check of a VALID reconstruction (R217): phase x against the in-line value at window A, the two others
against those at window B. DESIGN CHOICE (log entry 61): the computed phase y, which has two sample instants, is compared at window B's,
and the in-line sum for GF_TH is that of window B's. -/
def State.crossCheck (s : State) (x : Fin 4) (o : Fin 3 × Fin 3 × Fin 3) (r : Recon) (a b : WinVal) : State :=
  let th : Rat := (max 1 (s.fld (Fld.MFE_XC_XCTH x)) : Nat)
  let bad := three.any fun k => decide (th < absRat (r.amps.at k - (if k = o.1 then a.ps.at k else b.ps.at k)))
  if bad then s.crossFail x (b.ps.u + b.ps.v + b.ps.w) else s.modMfe x fun m => { m with xcN := 0 }

end Sys2Proof.Machine
end

