-- ==== Sys2Proof/Machine/Pos.lean ====
section
/-! DEFINITION. Rotor position and starting on a turning shaft (chapter of that name): the estimators and their
update, loss of lock, the terminal measurement, the branches of the start sequence, and saliency-map learning. -/

namespace Sys2Proof.Machine

/-! ## Vectors and angles. Angles are in turns. -/

/-- Sum of two pairs. -/
def DQ.add (x y : DQ) : DQ := { d := x.d + y.d, q := x.q + y.q }

/-- Difference of two pairs. -/
def DQ.sub (x y : DQ) : DQ := { d := x.d - y.d, q := x.q - y.q }

/-- A pair times a number. -/
def DQ.scale (k : Rat) (x : DQ) : DQ := { d := k * x.d, q := k * x.q }

/-- Magnitude of a pair. -/
def DQ.mag (x : DQ) : Rat := Config.sqrt (x.d * x.d + x.q * x.q)

/-- A vector turned back by an angle: the Park transform of an αβ pair (R239). -/
def DQ.park (th : Rat) (x : DQ) : DQ :=
  { d := x.d * Config.cos th + x.q * Config.sin th, q := x.q * Config.cos th - x.d * Config.sin th }

/-- The inverse Park transform. -/
def DQ.ipark (th : Rat) (x : DQ) : DQ :=
  { d := x.d * Config.cos th - x.q * Config.sin th, q := x.d * Config.sin th + x.q * Config.cos th }

/-- The angle of a pair. -/
def DQ.arg (x : DQ) : Rat := Config.atan2 x.q x.d

/-- Sign of a number. -/
def signRat (x : Rat) : Rat := if x < 0 then -1 else if 0 < x then 1 else 0

/-- Degrees as turns. -/
def degTurn (x : Rat) : Rat := x / 360

/-! ## Settings of an axis -/

/-- The count p of a feedback port (R376). -/
def State.portPos (s : State) (n : Fin 4) : Int := s32 (s.reg (Reg.FBI_POS n))

/-- The count within the turn of a feedback port, which commutation uses (R377). -/
def State.portTurn (s : State) (n : Fin 4) : Nat := (s.reg (Reg.FBI_TURN n)).toNat

/-- The speed of a feedback port, in min⁻¹. -/
def State.portRpm (s : State) (n : Fin 4) : Rat := f32Val (s.reg (Reg.FBI_SPEED n))

/-- The commutation port of an axis. -/
def State.commPort (s : State) (a : Fin 4) : Fin 4 := Fin.ofNat 4 (s.fld (Fld.POS_CFG_PORT a))

/-- The index of a set within its axis (R239). -/
def State.setIndex (s : State) (a x : Fin 4) : Nat := (s.axisSets a).findIdx (· == x)

/-- T_upd of a set, in s (R183). -/
def State.tUpd (s : State) (x : Fin 4) : Rat :=
  let n := max 0x186A (min 0x6_1A80 (s.fld (Fld.PWM_CFG_PERIOD x))) / 2 * 2
  let t : Rat := (n : Rat) * 5 / 2_000_000_000
  if s.flag (Fld.PWM_CFG_DUAL x) then t / 2 else t

/-- INJ_DIV. -/
def State.injDiv (s : State) (a : Fin 4) : Nat := s.fld (Fld.POS_CFG_INJDIV a)

/-- V_INJ = INJ_AMP × √(2/3) × V_RATED (R278). -/
def State.vInj (s : State) (a : Fin 4) : Rat := s.par 22 21 a.val / 100 * Config.sqrt (2 / 3) * s.par 22 11 a.val

/-- The bin position of a q-axis current, held at the end bins (R281). -/
def State.binAt (s : State) (a : Fin 4) (iq : Rat) : Rat :=
  clampRat 0 16 (8 + iq * 8 / s.par 20 30 a.val)

/-- A map value interpolated between bins: item 100 for δ in degrees, 200 for m (R281). -/
def State.mapAt (s : State) (a : Fin 4) (base : Nat) (iq : Rat) : Rat :=
  let p := s.binAt a iq
  let j := min p.floor.toNat 15
  let lo := s.par 22 (base + j) a.val
  let hi := s.par 22 (base + j + 1) a.val
  lo + (hi - lo) * (p - (j : Rat))

/-- Whether every set of an axis is in RUN. -/
def State.allRun (s : State) (a : Fin 4) : Bool := !(s.axisSets a).isEmpty && (s.axisSets a).all fun x => s.setState x == .run

/-- Whether any set of an axis is in RUN. -/
def State.anyRun (s : State) (a : Fin 4) : Bool := (s.axisSets a).any fun x => s.setState x == .run

/-- Whether any set of an axis is in shunt fallback. -/
def State.axisFallback (s : State) (a : Fin 4) : Bool := (s.axisSets a).any fun x => s.inFallback x

/-- |ω̂_m| of the last estimate, in min⁻¹. -/
def State.absRpm (s : State) (a : Fin 4) : Rat := absRat (s.rpmOf a s.pos[a].w)

/-- λ for a speed in min⁻¹ (R285). -/
def State.blendWeight (s : State) (a : Fin 4) (n : Rat) : Rat :=
  clampRat 0 1 ((n - s.hoLow a) / (s.hoHigh a - s.hoLow a))

/-! ## Injection (R278 to R281) -/

/-- The injection voltage of the update in progress: +V_INJ for INJ_DIV updates, then −V_INJ (R278). -/
def State.injectionNow (s : State) (a : Fin 4) : Rat :=
  if !s.flag (Fld.POS_STATUS_INJ_ON a) then 0
  else if s.pos[a].injN % (2 * s.injDiv a) < s.injDiv a then s.vInj a else -s.vInj a

/-- Injection starts, with the tracker at a seed (R280, R285). -/
def State.startInjection (s : State) (a : Fin 4) (th w : Rat) : State :=
  (s.modPos a fun p => { p with thInj := fracTurn th, wInj := w, eps := 0, injN := 0, injPer := 0, lockN := 0 }).setFlag
    (Fld.POS_STATUS_INJ_ON a) true

/-- Injection ends. -/
def State.stopInjection (s : State) (a : Fin 4) : State :=
  (s.modPos a fun p => { p with eps := 0, injN := 0, injPer := 0 }).setFlag (Fld.POS_STATUS_INJ_ON a) false

/-- The index of the bin nearest to a q-axis current. -/
def State.nearBin (s : State) (a : Fin 4) (iq : Rat) : Fin 17 := Fin.ofNat 17 (nearest (s.binAt a iq)).toNat

/-- The staged map (R282): every bin takes the value of the nearest filled one. Between two that are equally near, the
rule names none. -/
def stageMap (filled : List (Nat × Rat × Rat)) : List (Nat × Rat × Rat) :=
  (List.range 17).filterMap fun j =>
    let d (k : Nat) : Nat := max j k - min j k
    let pick := filled.foldl
      (fun (b : Option (Nat × Rat × Rat)) e =>
        match b with
        | none => some e
        | some c =>
          if d e.1 < d c.1 then some e
          else if d e.1 = d c.1 ∧ Config.tieUp (((e.1 : Rat) + (c.1 : Rat)) / 2) then some e else some c) none
    pick.map fun e => (j, e.2)

/-- Whether learning runs (R282): the axis RUNNING with λ = 1, in the speed band, and in no fallback. -/
def State.learnBand (s : State) (a : Fin 4) : Bool :=
  let n := s.absRpm a
  s.axState a == AxSt.RUNNING && s.pos[a].lam == 1 && decide (s.hoHigh a ≤ n ∧ n ≤ 2 * s.hoHigh a) && !s.axisFallback a

/-- One injection period of learning (R282): the difference between the two estimates goes into the bin of the present
reference; after 200 periods the bin is filled and the map is staged. Of the gain m_j that a learned bin takes the rule states nothing: a free
value (log entry 61). -/
def State.learnPeriod (s : State) (a : Fin 4) : State :=
  if !(s.flag (Fld.POS_MAP_LEARNING a) && s.learnBand a) then s
  else
    let iq := s.lane[s.axisLane a].iq
    let j := s.nearBin a iq
    let p := s.pos[a]
    let diff := 360 * wrapTurn (p.thInj - p.thB) + s.mapAt a 100 iq
    let b : Bin := { sum := p.bins[j].sum + diff, n := p.bins[j].n + 1 }
    let s := s.modPos a fun p => { p with bins := p.bins.set j b }
    if b.n < 200 then s
    else
      let s := (s.setFld ⟨Reg.POS_MAP a, j.val, 1⟩ 1).setFlag (Fld.POS_MAP_STAGED a) true
      let (m, s) := s.freeRat
      let old := (s.pos[a].staged.getD []).filter fun e =>
        e.1 != j.val && decide (200 ≤ (s.pos[a].bins[Fin.ofNat 17 e.1]).n)
      s.modPos a fun p => { p with staged := some (stageMap ((j.val, b.sum / (b.n : Rat), m) :: old)) }

/-- The end of an injection period (R279, R280): the angle error closes the tracker's loop. -/
def State.injectionPeriod (s : State) (a : Fin 4) : State :=
  let p := s.pos[a]
  let x := s.axisLane a
  let div : Rat := s.injDiv a
  let ldh := s.par 22 23 a.val
  let lqh := s.par 22 24 a.val
  let g := (lqh - ldh) / (2 * ldh * lqh)
  let iq := s.lane[x].iq
  let e := p.eps / (((s.axisSets a).length : Rat) * 2 * div * s.vInj a * s.tUpd x * g * s.mapAt a 200 iq)
  let c := clampRat (-1) 1 e
  let err := Config.atan2 c (Config.sqrt (1 - c * c)) / 2 - degTurn (s.mapAt a 100 iq)
  let wi := s.par 22 22 a.val
  let tInj := 2 * div * s.tUpd x
  let lock := decide (absRat err ≤ degTurn (s.par 22 31 a.val) / 2)
  s.modPos a fun p =>
    { p with
      eps := 0, injN := 0, injPer := p.injPer + 1, err := err, lockN := if lock then p.lockN + 1 else 0
      wInj := p.wInj + tInj * wi * wi * (err * Config.twoPi), thInj := fracTurn (p.thInj + tInj * 2 * wi * err) }

/-- I_POL of an axis, in A (R283). -/
def State.iPol (s : State) (a : Fin 4) : Rat :=
  let i := s.par 22 25 a.val
  if i = 0 then s.par 20 30 a.val * 3 / 10 else i

/-- INJECTION_PERIOD_END (R279, R280, R282, R292): in a start from standstill the lock leads to the polarity pulses,
and the 32nd period without lock fails the start. -/
def execInjectionPeriodEnd (a : Fin 4) (s : State) : Res :=
  if s.flag (Fld.POS_STATUS_INJ_ON a) && decide (2 * s.injDiv a ≤ s.pos[a].injN) then
    let s := (s.injectionPeriod a).learnPeriod a
    let p := s.pos[a]
    match p.start with
    | some st =>
      if st.still && p.pulse == 0 && st.result.isNone then
        if 8 ≤ p.lockN then
          let i := s.iPol a
          .next ((s.modPos a fun p => { p with pulse := 1, iref := some { d := i, q := 0 } }).setFld (Fld.POS_STATUS_START a) 4).settle
        else if 32 ≤ p.injPer then .next (s.failStart a 0x11).settle
        else .next s
      else .next s
    | none => .next s
  else .next s

/-- INJECTION_STOP (R285, R282): |ω̂_m| has stayed at or above HO_HIGH for INJ_OFF_T; learning keeps injection on. -/
def execInjectionStop (a : Fin 4) (s : State) : Res :=
  if s.flag (Fld.POS_STATUS_INJ_ON a) && decide (s.hoHigh a ≤ s.absRpm a) && !s.flag (Fld.POS_MAP_LEARNING a) then
    .next (s.stopInjection a)
  else .next s

/-- POLARITY_PULSE_END (R283): a pulse has ended, with the d̂ ripple over its last half, in A. The second pulse decides:
keep, turn by 180°, or FAIL_POLARITY. -/
def execPolarityPulseEnd (a : Fin 4) (ripple : Rat) (s : State) : Res :=
  let p := s.pos[a]
  match p.start with
  | none => .next s
  | some st =>
    if p.pulse = 1 then
      let i := s.iPol a
      .next (s.modPos a fun p => { p with pulse := 2, ripP := ripple, iref := some { d := -i, q := 0 } })
    else if p.pulse = 2 then
      let turn := decide (p.ripP * 102 / 100 < ripple)
      let keep := decide (ripple * 102 / 100 < p.ripP)
      if !turn && !keep then .next (s.failStart a 0x10).settle
      else
        let s := s.modPos a fun p =>
          { p with
            pulse := 0, iref := some DQ.zero, start := some { st with result := some 2 }
            thInj := if turn then fracTurn (p.thInj + 1 / 2) else p.thInj
            th := if turn then fracTurn (p.th + 1 / 2) else p.th }
        .next ((s.setFlag (Fld.POS_STATUS_POL_DONE a) true).setFld (Fld.POS_STATUS_START a) 8).settle
    else .next s

/-! ## The estimate of one update (R275 to R286) -/

/-- Keeps and reports a blend weight (R285, R298). -/
def State.putLambda (s : State) (a : Fin 4) (l : Rat) : State :=
  let s := s.modPos a fun p => { p with lam := l }
  (s.setFld (Fld.POS_STATUS_LAMBDA a) (quantise (l * 128)).toNat).setFlag (Fld.POS_STATUS_BLEND a) (decide (0 < l ∧ l < 1))

/-- The angle and speed from the commutation port (R276): DIR_INV turns the angle, and the speed is passed on unchanged. START and REV
of the port go with it; they stand in FBI_STATUS, and no rule of POS, of the speed loop or of the lanes takes them. -/
def State.portEstimate (s : State) (a : Fin 4) : State :=
  let n := s.commPort a
  let sg : Rat := if s.flag (Fld.POS_CFG_DIRINV a) then -1 else 1
  let th := sg * (s.portTurn n : Rat) * s.polePairs a / s.par 22 4 a.val + (s.fld (Fld.POS_CFG_COMM_OFS a) : Rat) / 65536
  let w := s.wOf a (s.portRpm n)
  ((s.putEstimate a th w).setFld (Fld.POS_STATUS_ACT a) 1).setFlag (Fld.POS_STATUS_VALID a) true

/-- The extended EMF of an axis, averaged over its sets, in a frame turned by `turn` from the estimated one (R284). -/
def State.axisEmf (s : State) (a : Fin 4) (turn : Rat) : DQ :=
  let xs := s.axisSets a
  let sum := xs.foldl (fun e x => e.add s.lane[x].emf) DQ.zero
  (sum.scale (1 / (xs.length : Rat))).park turn

/-- One update of the back-EMF observer of a permanent-magnet machine (R284). -/
def State.bemfUpdate (s : State) (a : Fin 4) : State :=
  let x := s.axisLane a
  let t := s.tUpd x
  let bw := s.par 22 30 a.val
  s.modPos a fun p =>
    let e := s.axisEmf a (p.thB - p.th)
    let err := Config.atan2 (-e.d) (e.q * signRat p.w)
    let id := meanRat ((s.axisSets a).map fun y => s.lane[y].im.d)
    let ref := absRat p.w * (s.par 20 13 a.val + (s.par 20 11 a.val - s.par 20 12 a.val) * id)
    { p with
      errB := err, mag := e.mag / ref - 1
      wB := p.wB + t * bw * bw * (err * Config.twoPi)
      thB := fracTurn (p.thB + t * 2 * bw * err + t * p.wB / Config.twoPi) }

/-- The induction observer: speed and angle difference from the voltage model's rotor flux of the axis lane (R245, R284); its rotational
speed comes from the angle of the update before. -/
def State.fluxUpdate (s : State) (a : Fin 4) : State :=
  let x := s.axisLane a
  let t := s.tUpd x
  let l := s.lane[x]
  let th := l.thV
  let psiMin := s.par 20 18 a.val / 20
  let wsl := s.par 20 15 a.val * l.im.q * s.par 20 17 a.val / (s.par 20 16 a.val * max l.psiR psiMin)
  s.modPos a fun p =>
    let wPsi := wrapTurn (th - p.thPsi) * Config.twoPi / t
    { p with errB := wrapTurn (th - l.thetaR), thB := fracTurn th, wB := wPsi - wsl }

/-- One update of the observer that the machine of an axis takes (R284). -/
def State.observerUpdate (s : State) (a : Fin 4) : State := if s.machine a == 2 then s.fluxUpdate a else s.bemfUpdate a

/-- The winding offset of a set of an axis, in turns: j × WIND_OFS, and MEMBER_OFS on a shared axis (R239, R347). -/
def State.windingOfs (s : State) (a x : Fin 4) : Rat :=
  (s.setIndex a x : Rat) * degTurn (s.par 20 19 a.val) +
    (if s.isShared a then degTurn ((min 0xF0 (s.fld (Fld.LSH_GROUP_MOFS a)) : Nat) / 4) else 0)

/-- The tracker of an axis with a set in ASC (R294): the rate of turn of that set's short-circuit current, and the rotor angle from it,
in the axis's frame. -/
def State.ascUpdate (s : State) (a : Fin 4) : State :=
  let x := ((s.axisSets a).find? fun y => s.inAsc y).getD (s.axisLane a)
  let t := s.tUpd (s.axisLane a)
  let ofs := s.windingOfs a x
  let bw := s.par 22 30 a.val
  let i := s.lane[x].iab
  let ok := s.machine a != 2 && !s.axisFallback a && decide (s.par 22 60 a.val / 100 * s.par 20 30 a.val ≤ i.mag)
  let s := s.modPos a fun p =>
    let err := wrapTurn (i.arg - p.thB)
    let w := p.wB + t * bw * bw * (err * Config.twoPi)
    let th := fracTurn (p.thB + t * 2 * bw * err + t * p.wB / Config.twoPi)
    let lag := Config.atan2 (s.par 20 10 a.val) (absRat w * s.par 20 12 a.val)
    { p with thB := th, wB := w, wAsc := w, thAsc := fracTurn (i.arg + 1 / 2 - signRat w * lag + ofs), ascOk := ok }
  let p := s.pos[a]
  ((s.putEstimate a p.thAsc p.wAsc).setFlag (Fld.POS_STATUS_VALID a) ok).setFld (Fld.POS_STATUS_ACT a) 5

/-- The blend of the two estimators of a permanent-magnet machine (R284, R285). -/
def State.blendUpdate (s : State) (a : Fin 4) : State :=
  let n := s.pos[a].wmPrev
  let t := s.tUpd (s.axisLane a)
  let s := s.bemfUpdate a
  let s := s.modPos a fun p => { p with thInj := fracTurn (p.thInj + t * p.wInj / Config.twoPi) }
  let inj := s.flag (Fld.POS_STATUS_INJ_ON a)
  let l := if inj || decide (n < s.hoHigh a) then s.blendWeight a n else 1
  let p := s.pos[a]
  let th := p.thInj + l * wrapTurn (p.thB - p.thInj)
  let w := p.wInj + l * (p.wB - p.wInj)
  let s := (s.putEstimate a th w).putLambda a l
  let s := s.setFld (Fld.POS_STATUS_ACT a) (if l = 1 then 4 else if l = 0 then 2 else 3)
  let s := if n < s.hoLow a then s.modPos a fun p => { p with thB := fracTurn th, wB := w } else s
  if !inj && decide (s.absRpm a < s.hoHigh a) then
    let p := s.pos[a]
    s.startInjection a p.thB p.wB
  else s

/-- The estimate of an induction machine (R286): below HO_HIGH the speed reference and the current model's angle, blended with the
observer's (R285). -/
def State.openLoopUpdate (s : State) (a : Fin 4) : State :=
  let n := s.pos[a].wmPrev
  let s := s.fluxUpdate a
  let l := s.blendWeight a n
  let p := s.pos[a]
  let ol := s.wOf a s.spd[a].n
  let w := ol + l * (p.wB - ol)
  let th := s.lane[s.axisLane a].thetaR
  let s := (s.putEstimate a (th + l * wrapTurn (p.thB - th)) w).putLambda a l
  let s := s.setFlag (Fld.POS_STATUS_OPEN_LOOP a) (decide (n < s.hoHigh a))
  s.setFld (Fld.POS_STATUS_ACT a) (if l = 1 then 4 else if l = 0 then 7 else 3)

/-- Whether a position estimate of the machine's own is kept: the sets have been released, or the observer runs behind
a port with FB_BACKUP. -/
def State.estimating (s : State) (a : Fin 4) : Bool := s.flag (Fld.POS_STATUS_VALID a) && s.anyRun a

/-- Coasting: the angle advances on the last speed (R275, R289). -/
def State.coastUpdate (s : State) (a : Fin 4) : State :=
  let p := s.pos[a]
  let t := s.since p.t
  s.putEstimate a (p.th + t * p.w / Config.twoPi) p.w

/-- A seed that waits for the release (R275, R292): the estimate is made anew at each update, and with it the estimators go on from the
seed. -/
def State.seedUpdate (s : State) (a : Fin 4) : State :=
  let t := s.since s.pos[a].t
  let s := s.modPos a fun p =>
    { p with
      thB := fracTurn (p.thB + t * p.wB / Config.twoPi), thInj := fracTurn (p.thInj + t * p.wInj / Config.twoPi) }
  s.coastUpdate a

/-! ## Residuals and loss of lock (R277, R287) -/

/-- The residuals evaluated at an update of the axis lane: for each the angle, magnitude and blend mask bit, and whether
it lies outside its window; none in the first 16 updates after a release or within 8 injection periods of a restart (R287). -/
def State.residuals (s : State) (a : Fin 4) : List (Nat × Bool) :=
  let p := s.pos[a]
  let lam := p.lam
  let inj := s.flag (Fld.POS_STATUS_INJ_ON a)
  let win := degTurn (s.par 22 31 a.val)
  let valid := (0, s.anyRun a && !s.flag (Fld.POS_STATUS_VALID a))
  if p.relN < 16 || inj && decide (p.injPer < 8) then []
  else if s.source_ a == 1 then [valid]
  else if s.flag (Fld.POS_STATUS_OPEN_LOOP a) && lam == 0 then []
  else
    let l : List (Nat × Bool) := [valid]
    let l := if inj && decide (lam < 1) then l ++ [(1, decide (win < absRat p.err))] else l
    let l := if 0 < lam then l ++ [(1, decide (win < absRat p.errB))] else l
    let l := if 0 < lam ∧ s.machine a ≠ 2 then l ++ [(2, decide (s.par 22 32 a.val < absRat p.mag))] else l
    if 0 < lam ∧ lam < 1 ∧ inj then
      l ++ [(4, decide (degTurn (s.par 22 33 a.val) < absRat (wrapTurn (p.thB - p.thInj))))]
    else l

/-- The evaluation of one update (R287): consecutive updates out of window, and LOCKED. -/
def State.lockUpdate (s : State) (a : Fin 4) : State :=
  if !s.axActive a then s
  else
    let r := s.residuals a
    let out := r.any (·.2)
    let why : BitVec 3 := BitVec.ofNat 3 ((r.filter (·.2)).foldl (fun m e => m ||| e.1) 0)
    let p := s.pos[a]
    let res := if s.flag (Fld.POS_STATUS_INJ_ON a) && decide (p.lam < 1) then p.err else p.errB
    let s := s.setSfld (Fld.POS_ANGLE_RESID a) (nearest (res * 65536))
    let s := s.setFlag (Fld.POS_STATUS_LOCKED a) (!out && s.flag (Fld.POS_STATUS_VALID a))
    s.modPos a fun p => { p with outN := if out then p.outN + 1 else 0, why := if out then why else p.why }

/-- The commutation port at an update (R277): STALE updates are counted; a loss, once in a start, latches FB_LOST and either the
observer takes over or the lock is lost. -/
def State.portUpdate (s : State) (a : Fin 4) : State :=
  if s.source_ a != 1 || !s.axActive a || s.flag (Fld.POS_STATUS_BACKUP a) then s
  else
    let n := s.commPort a
    let stale := s.flag (Fld.FBI_STATUS_STALE n) || !s.flag (Fld.FBI_STATUS_TURN_OK n)
    let k := if stale then s.pos[a].stale + 1 else 0
    let taken := s.pos[a].portLost
    let lost := taken || s.portLost a || decide (s.parNat 22 7 a.val < k)
    let s := s.modPos a fun p => { p with stale := k, portLost := lost }
    if taken || !lost then s
    else
      let s := s.setFlag (Fld.POS_FAULT_FB_LOST a) true
      if !s.isClassW a && s.flag (Fld.POS_CFG_FB_BACKUP a) && decide (s.hoHigh a ≤ s.absRpm a) then
        ((s.setFlag (Fld.POS_STATUS_BACKUP a) true).setFld (Fld.POS_STATUS_ACT a) 4).putLambda a 1
      else (s.setFlag (Fld.POS_STATUS_VALID a) false).loseLock a

/-- The estimate from a commutation port that is not lost, with the observer behind it where FB_BACKUP is set (R276, R277). -/
def State.feedbackUpdate (s : State) (a : Fin 4) : State :=
  let s := s.portEstimate a
  let p := s.pos[a]
  if s.flag (Fld.POS_CFG_FB_BACKUP a) then
    let s := s.observerUpdate a
    if p.wmPrev < s.hoLow a && s.machine a != 2 then s.modPos a fun q => { q with thB := q.th, wB := q.w } else s
  else s

/-- The estimate of one update, from the estimator that the state of the axis calls for (R275 to R277, R284 to R286, R289, R294). -/
def State.estimateUpdate (s : State) (a : Fin 4) : State :=
  let p := s.pos[a]
  if p.coast then s.coastUpdate a
  else if (s.axisSets a).any (fun x => s.inAsc x && s.cross x) then s.ascUpdate a
  else if p.start.any fun st => st.search then s
  else if s.source_ a == 1 then
    if s.flag (Fld.POS_STATUS_BACKUP a) then
      let s := s.observerUpdate a
      s.putEstimate a s.pos[a].thB s.pos[a].wB
    else if s.portLost a then s.coastUpdate a
    else s.feedbackUpdate a
  else if !s.estimating a then (if s.flag (Fld.POS_STATUS_VALID a) && p.start.isSome then s.seedUpdate a else s)
  else if s.machine a == 2 then s.openLoopUpdate a
  else s.blendUpdate a

/-- One update of the position of an axis, at an update of its axis lane. `injected`: the update had an injection voltage (R278). -/
def State.posUpdate (s : State) (a : Fin 4) (injected : Bool) : State :=
  let on0 := injected && s.flag (Fld.POS_STATUS_INJ_ON a)
  let s := (s.portUpdate a).estimateUpdate a
  let still := s.pos[a].start.any fun st => st.still && st.result.isNone
  let s := when (still && s.allRun a && !s.flag (Fld.POS_STATUS_INJ_ON a))
    (fun t => (t.startInjection a 0 0).setFld (Fld.POS_STATUS_START a) 5) s
  let n := s.absRpm a
  let psi := s.lane[s.axisLane a].thV
  let s := s.lockUpdate a
  let run := s.anyRun a
  let inj := s.flag (Fld.POS_STATUS_INJ_ON a)
  s.modPos a fun p =>
    { p with
      thPsi := psi, wmPrev := n, relN := if run then p.relN + 1 else 0
      injN := if !inj then 0 else if on0 then p.injN + 1 else p.injN }

/-- LOCK_LOST (R287 to R290): the fourth consecutive update out of window. The fault bits record what caused it. -/
def execLockLost (a : Fin 4) (s : State) : Res :=
  if s.axActive a && decide (4 ≤ s.pos[a].outN) then
    let w := s.pos[a].why
    let s := ((s.setFlag (Fld.POS_FAULT_RES_ANG a) (w.getLsbD 0)).setFlag (Fld.POS_FAULT_RES_MAG a) (w.getLsbD 1)).setFlag
      (Fld.POS_FAULT_RES_BLEND a) (w.getLsbD 2)
    .next (s.loseLock a).settle
  else .next s

/-- ZERO_UPD (R289): ZERO_UPD updates after a loss of lock the axis is FAULTED. -/
def execZeroUpd (a : Fin 4) (s : State) : Res :=
  if s.pos[a].coast && s.axActive a then .next (s.axisFault a 4).settle else .next s

/-! ## The terminal measurement (R293) -/

/-- The axis lane's six phase gates are confirmed off. -/
def State.gatesOff (s : State) (a : Fin 4) : Bool := (phaseChans (s.axisLane a)).all fun n => s.gc[n].confOff

/-- Whether an axis waits for a terminal measurement: a start at step 0x3, a re-lock, or the console. -/
def State.wantsMeasure (s : State) (a : Fin 4) : Bool :=
  (match s.pos[a].start with
   | some st => st.result.isNone && !st.asc && !st.still && !st.search && s.source_ a == 2
   | none => false) ||
  s.pos[a].relockOn && s.axState a == AxSt.FAULTED

/-- TERMINAL_MEASUREMENT_START (R293): the phase gates have been confirmed off for 50 µs. -/
def execTerminalMeasurementStart (a : Fin 4) (s : State) : Res :=
  let con := match s.pos[a].meas with | some m => m.con | none => false
  if s.axisExists a && s.gatesOff a && (s.wantsMeasure a || con) then
    let now := s.weft
    let s := s.modPos a fun p =>
      { p with meas := some { t0 := now, prev := none, adv := 0, det := true, vab := DQ.zero, con := con } }
    .next (if con && !s.wantsMeasure a then s else s.setFld (Fld.POS_STATUS_START a) 3)
  else .next s

/-- v_αβ of the means v_UV and v_VW over the last 20 terminal samples of the axis's lowest set (R293). -/
def State.termVector (s : State) (a : Fin 4) : DQ :=
  let l := s.psp[s.axisLane a].term
  let uv := meanRat (l.map (·.1))
  let vw := meanRat (l.map (·.2))
  { d := (2 * uv + vw) / 3, q := vw / Config.sqrt 3 }

/-- One sample of the measurement: the vector, its angle unwrapped, and whether it has stayed at or above TV_DET. -/
def State.measSample (s : State) (a : Fin 4) (m : Meas) : Meas :=
  let v := s.termVector a
  let step := match m.prev with
    | some th => wrapTurn (v.arg - th)
    | none => 0
  { m with prev := some v.arg, adv := m.adv + step, det := m.det && decide (s.par 22 40 a.val ≤ v.mag), vab := v }

/-- The reply of pos term (R304). -/
def State.termReply (s : State) (m : Meas) (moving : Bool) (w th : Rat) : State :=
  let s := { s with con := { s.con with busy := false } }
  s.reply [.data [(if moving then "MOVING" else "SLOW", 1), ("W", quantise (w * 1000)), ("THETA", quantise (th * 65536)),
    ("V", quantise (m.vab.mag * 10))]]

/-- The flux models of a set take the rotor-flux angle and the flux of a terminal measurement (R245, R293): the current model's, and the
voltage model's, whose stator flux is that of a machine without current. -/
def State.seedFlux (s : State) (a x : Fin 4) (th psi : Rat) : State :=
  let turn := th - s.windingOfs a x
  let k := s.par 20 15 a.val / s.par 20 16 a.val * psi
  s.modLane x fun l =>
    { l with
      thetaR := fracTurn th, psiR := psi, thV := fracTurn th
      psiV := { d := k * Config.cos turn, q := k * Config.sin turn } }

/-- What a MOVING measurement seeds (R292): the observer, the tracker and the estimate with angle and speed, and on an induction machine
the flux models of every set. -/
def State.seedMoving (s : State) (a : Fin 4) (m : Meas) (th w : Rat) : State :=
  let ind := s.machine a == 2
  let n := absRat (s.rpmOf a w)
  let s := s.modPos a fun p =>
    { p with thInj := fracTurn th, wInj := w, thB := fracTurn th, wB := w, thPsi := fracTurn th }
  let s := (s.putEstimate a th w).modPos a fun p => { p with wmPrev := n }
  let s := (s.setFlag (Fld.POS_STATUS_POL_DONE a) true).setFlag (Fld.POS_STATUS_VALID a) true
  let s := (s.setFld (Fld.POS_STATUS_ACT a) 6).putLambda a (s.blendWeight a n)
  let s := when ind (fun t => forAll (t.axisSets a) (fun x u => u.seedFlux a x th (m.vab.mag / absRat w)) t) s
  s.setFld (Fld.POS_STATUS_START a) (if ind then 7 else 8)

/-- MOVING (R292, R293): speed and angle seed both estimators, unless the reverse speed is beyond REV_MAX. -/
def State.measMoving (s : State) (a : Fin 4) (m : Meas) : State :=
  let dt : Rat := ((s.now - m.t0.toNat : Nat) : Rat) / 1_000_000_000
  let w := m.adv * Config.twoPi / dt
  let th := m.vab.arg - signRat w / 4 + s.windingOfs a (s.axisLane a)
  if m.con then (s.modPos a fun p => { p with meas := none }).termReply m true w th
  else
    let s := s.setFld (Fld.POS_START_TMEAS a) (min ((s.now - m.t0.toNat) / 10_000) 0xFFFF)
    let s := if s.pos[a].start.isNone then s.beginStart a true else s
    match s.pos[a].start with
    | none => s
    | some st =>
      let s := s.modPos a fun p => { p with meas := none, coast := false, relockOn := false }
      if w < 0 && decide (s.par 22 41 a.val / 100 * s.par 22 10 a.val < absRat (s.rpmOf a w)) then s.failStart a 0x13
      else
        (s.modPos a fun p => { p with start := some { st with result := some (if w < 0 then 4 else 3) } }).seedMoving a m th w

/-- SS_FMAX of an axis, in Hz: 0 selects f_el at the maximum speed (R295). -/
def State.searchMax (s : State) (a : Fin 4) : Rat :=
  let f := s.par 22 52 a.val
  if f = 0 then s.par 24 4 a.val * s.polePairs a / 60 else f

/-- SLOW (R292): permanent magnet: release with zero references, then injection lock; induction: the speed search. -/
def State.measSlow (s : State) (a : Fin 4) (m : Meas) : State :=
  if m.con then (s.modPos a fun p => { p with meas := none }).termReply m false 0 m.vab.arg
  else
    let s := s.setFld (Fld.POS_START_TMEAS a) (min ((s.now - m.t0.toNat) / 10_000) 0xFFFF)
    let s := if s.pos[a].start.isNone then s.beginStart a true else s
    match s.pos[a].start with
    | none => s
    | some st =>
      let ind := s.machine a == 2
      let i := s.par 22 50 a.val / 100 * s.par 20 30 a.val
      let now := s.weft
      let f := s.searchMax a
      let s := s.modPos a fun p =>
        { p with
          meas := none, coast := false, relockOn := false, start := some { st with still := !ind, search := ind }
          iref := some (if ind then { d := i, q := 0 } else DQ.zero)
          ssF := f, ssSign := 0, ssN := 0, ssT0 := now, thInj := 0, wInj := 0, wmPrev := 0 }
      let s := (s.putEstimate a 0 0).setFlag (Fld.POS_STATUS_VALID a) true
      let s := (s.putLambda a 0).setFld (Fld.POS_STATUS_ACT a) (if ind then 7 else 2)
      s.setFld (Fld.POS_STATUS_START a) (if ind then 6 else 5)

/-- TERMINAL_MEASUREMENT_SAMPLE (R293): one 10 µs sample. -/
def execTerminalMeasurementSample (a : Fin 4) (s : State) : Res :=
  match s.pos[a].meas with
  | none => .next s
  | some m =>
    let m := s.measSample a m
    if m.det && decide (1 / 6 ≤ absRat m.adv) then .next (s.measMoving a m).settle
    else .next (s.modPos a fun p => { p with meas := some m })

/-- TERMINAL_MEASUREMENT_END (R293): the sample at 20.0 ms decides between MOVING, here from 30° on, and SLOW. -/
def execTerminalMeasurementEnd (a : Fin 4) (s : State) : Res :=
  match s.pos[a].meas with
  | none => .next s
  | some m =>
    let m := s.measSample a m
    .next (if m.det && decide (1 / 12 ≤ absRat m.adv) then s.measMoving a m else s.measSlow a m).settle

/-! ## The induction speed search (R295) -/

/-- The search finds the rotor speed: the frame frequency goes to the flux observer (R245, R295). -/
def State.searchFound (s : State) (a : Fin 4) (st : Start) (f : Rat) : State :=
  let w := f * Config.twoPi
  let s := s.modPos a fun p =>
    { p with start := some { st with search := false, result := some 6 }, iref := none, wB := w, ssN := 0 }
  let s := s.setFld (Fld.POS_START_TMEAS a) (min ((s.now - s.pos[a].ssT0.toNat) / 10_000) 0xFFFF)
  let s := (s.putEstimate a s.lane[s.axisLane a].thetaR w).modPos a fun p => { p with wmPrev := absRat (s.rpmOf a w) }
  let s := s.setFlag (Fld.POS_STATUS_OPEN_LOOP a) (decide (s.absRpm a < s.hoHigh a))
  (s.setFlag (Fld.POS_STATUS_POL_DONE a) true).setFld (Fld.POS_STATUS_START a) 7

/-- One update of the speed search, at an update boundary of the axis lane. -/
def State.searchUpdate (s : State) (x : Fin 4) : State :=
  match s.ownerAxis x with
  | none => s
  | some a =>
    match s.pos[a].start with
    | none => s
    | some st =>
      if !st.search || s.axisLane a != x || !s.allRun a then s
      else
        let l := s.lane[x]
        let i := l.im
        let pr := l.vapp.d * i.d + l.vapp.q * i.q - s.par 20 10 a.val * (i.d * i.d + i.q * i.q)
        let sg : Int := if pr < 0 then -1 else if 0 < pr then 1 else 0
        let p := s.pos[a]
        let n := if p.ssSign ≠ 0 ∧ sg = -p.ssSign then p.ssN + 1 else 0
        let at_ := if n = 1 then p.ssF else p.ssAt
        if 4 ≤ n then s.searchFound a st at_
        else
          let f := p.ssF - s.par 22 51 a.val * s.tUpd x
          let s := s.modPos a fun p => { p with ssF := f, ssSign := if p.ssSign = 0 then sg else p.ssSign, ssN := n, ssAt := at_ }
          if f ≤ -(s.searchMax a) then
            (s.setFld (Fld.POS_START_TMEAS a) (min ((s.now - p.ssT0.toNat) / 10_000) 0xFFFF)).failStart a 0x14
          else s

/-! ## Timers and commands -/

/-- RESUME_RAMP_END (R289): T_RESUME after the release of a re-lock the torque ramp is complete. -/
def execResumeRampEnd (a : Fin 4) (s : State) : Res :=
  if s.flag (Fld.SPD_STATE_RESUME a) && s.spd[a].krsT0.any fun t => decide (s.par 22 43 a.val / 1000 ≤ s.since t) then
    .next (((s.modSpd a fun p => { p with krsT0 := none }).setFlag (Fld.SPD_STATE_RESUME a) false).setFld (Fld.SPD_FACT_KRS a) 1000)
  else .next s

/-- ATTEMPT_RESET (R290): the axis has run locked for 10 s. -/
def execAttemptReset (a : Fin 4) (s : State) : Res :=
  if s.axState a == AxSt.RUNNING && s.flag (Fld.POS_STATUS_LOCKED a) && !s.pos[a].coast then
    .next (s.setFld (Fld.POS_STATUS_ATTEMPT a) 0)
  else .next s

/-- START_TMO (R292, R353): a start from ASC has waited START_TMO with CROSS still set, or the start of the lead of a group has not
ended. DESIGN CHOICE (log entry 46): R301 lists no RESULT for the latter, which is free. -/
def execStartTmo (a : Fin 4) (s : State) : Res :=
  match s.pos[a].start with
  | none => .next s
  | some st =>
    if !s.overdue (.start a) (s.par 22 42 a.val * 1_000_000_000) then .next s
    else if st.asc && st.result.isNone && (s.axisSets a).any (fun x => s.cross x) then .next (s.failStart a 0x12).settle
    else if s.isShared a && !s.isFollower a && !st.relock then
      let r := s.freeNat
      .next (r.2.failStart a (r.1 % 256)).settle
    else .next s

/-- Whether saliency-map learning may run (R282). -/
def State.learnOk (s : State) (a : Fin 4) : Bool := s.axisExists a && s.source_ a == 2 && s.machine a != 2 && s.learnBand a

/-- Starts learning, or refuses it (R282). -/
def State.learn (s : State) (a : Fin 4) : State :=
  if s.learnOk a then
    let s := (s.setFlag (Fld.POS_MAP_LEARN_REFUSED a) false).setFlag (Fld.POS_MAP_LEARNING a) true
    let s := (s.setFld (Fld.POS_MAP_LEARNED a) 0).modPos a fun p => { p with bins := Vector.replicate 17 { sum := 0, n := 0 }, staged := none }
    if s.flag (Fld.POS_STATUS_INJ_ON a) then s
    else
      let p := s.pos[a]
      s.startInjection a p.thB p.wB
  else s.setFlag (Fld.POS_MAP_LEARN_REFUSED a) true

/-- LEARN (R282, R302): LEARN is written to POS_AX_a_CMD; CP_1 takes it. -/
def execLearn (w : Writer) (a : Fin 4) (s : State) : Res :=
  s.access w (Reg.POS_CMD a) 1 fun s => if s.flag (Fld.LCK_STATUS_FAILED 1) then s else s.learn a

/-- LEARN_ABORT (R282): learning and the staged map are discarded. -/
def execLearnAbort (w : Writer) (a : Fin 4) (s : State) : Res :=
  s.access w (Reg.POS_CMD a) 2 fun s =>
    let s := (s.setFlag (Fld.POS_MAP_LEARNING a) false).setFlag (Fld.POS_MAP_STAGED a) false
    (s.modPos a fun p => { p with staged := none }).setFld (Fld.POS_MAP_LEARNED a) s.pos[a].learnt

end Sys2Proof.Machine
end

