-- ==== Sys2Proof/Machine/Protection.lean ====
section
/-! DEFINITION. The commands of power-stage protection (chapter "Power-stage protection and the safe state"): short
circuit and overcurrent, the DC-link levels and the chopper, and CROSS. -/

namespace Sys2Proof.Machine

/-! ## Short circuit and overcurrent -/

/-- Starts the 2.0 µs dwell of SC_OFF: all seven channels are turned off, whatever the state of the set (R146 to R148). -/
def State.startDwell (s : State) (x : Fin 4) : State :=
  let s := when (s.flag (Fld.PSP_STATE_CHOP_ON x)) (·.chopSwitch x false) s
  (forAll (setChans x) (fun n t => t.chanOff n) s).modPsp x fun p => { p with dwell := true, counting := false }

/-- A frame of the flag channel of an SSI (R13, R172). -/
def State.flagFrame (s : State) (x : Fin 4) : State :=
  let now := s.sys.poweredNs
  s.modPsp x fun p => { p with linkFlag := true, flagAt := if p.linkFlag then p.flagAt else now }

/-- A frame of the data channel of an SSI (R13, R172). -/
def State.dataFrame (s : State) (x : Fin 4) : State :=
  let now := s.sys.poweredNs
  s.modPsp x fun p => { p with linkData := true, dataAt := if p.linkData then p.dataAt else now }

/-- BLANKING_END (R145): the last overlapping interval ends; an output still set counts from now. -/
def execBlankingEnd (x : Fin 4) (comparator : Bool) (s : State) : Res :=
  .next (s.modPsp x fun p => { p with blanking := false, counting := comparator })

/-- SC_TRIP (R146, R147, R159): the comparator output has passed SC_FILT outside blanking. In ASC, or stuck on the way, it
latches SC_IN_ASC, with HOLD where CROSS is set; in every other state SC latches and the dwell of SC_OFF runs. -/
def execScTrip (x : Fin 4) (s : State) : Res :=
  if !s.sys.profileLoaded || s.psp[x].blanking then .next s
  else if s.countsAsc x then
    let s := s.latchSet x [SF.SC_IN_ASC]
    .next (if s.cross x then (s.latchHold 4 1).settle else s.settle)
  else .next ((s.latchSet x [SF.SC]).startDwell x).settle

/-- SC_DWELL_END (R147): the dwell ends; the target is evaluated and the chopper returns to its control. -/
def execScDwellEnd (x : Fin 4) (s : State) : Res :=
  if s.psp[x].dwell then .next ((s.modPsp x fun p => { p with dwell := false }).chopControl x).settle else .next s

/-- OC_TRIP (R148): an enabled, valid input lies beyond its window. In ASC_ENTRY and ASC it is only counted. -/
def execOcTrip (x : Fin 4) (k : Fin 3) (s : State) : Res :=
  if !s.sys.profileLoaded || !(s.fld (Fld.PSP_OC_EN x)).testBit k.val || !s.inputValid x k then .next s
  else if s.inAsc x then .next (s.incSat (Fld.PSP_CHOPST_OC_IN_ASC x))
  else .next ((s.latchSet x [1 + k.val]).startDwell x).settle

/-! ## Overvoltage and undervoltage -/

/-- Latches OV2_REACT and ends OV2_PEND (R156). -/
def State.latchOv2 (s : State) (x : Fin 4) : State :=
  (s.setFlag (Fld.PSP_STATE_OV2_PEND x) false).latchSet x [SF.OV2_REACT]

/-- OV3_TRIP (R156, R158, R163): the SSI's flag. OV3 latches, cutting a running T_SBC_ASC short in the same clock. In
Dawn it acts from the moment the set's islands are up, and a self-test of the set that it meets, in BIST slot 4 or on
request, is aborted with the set marked unavailable. -/
def execOv3Trip (x : Fin 4) (s : State) : Res :=
  if !s.sys.islandsUp.getLsbD x.val then .next s
  else
    let s := (s.setFlag (Fld.PSP_STATE_OV3_LVL x) true).flagFrame x
    let testing := (setChans x).any fun n => s.flag (Fld.GDC_TESTRES_BUSY n)
    let slot4 := s.fld Fld.SYS_DAWN_STEP == 7 && !s.flag Fld.SYS_DAWN_FAILED
    let s := if s.mode == .dawn && (testing || slot4) then
        let s := when slot4 (forAll (setChans x) fun n t => t.setFlag (Fld.GDC_TESTRES_ABORTED n) true) s
        (((s.setFld ⟨Reg.BST_FAIL, 20 + x.val, 1⟩ 1).setFlag Fld.SYS_DAWN_DEGRADED true).journal 0x0102 (0x80 + x.val)
          (BitVec.ofNat 32 (s.fld Fld.SYS_DAWN_STEP)))
      else s
    let pend : List (Fin 4) := (x :: s.siblings x).filter fun y => s.flag (Fld.PSP_STATE_OV2_PEND y)
    let s := forAll pend (fun y t => t.setFlag (Fld.PSP_STATE_OV2_PEND y) false) s
    let s := if pend.contains x then s.latchSet x [SF.OV2_REACT, SF.OV3] else s.latchSet x [SF.OV3]
    let s := forAll (pend.filter (· != x)) (fun y t => t.latchSet y [SF.OV2_REACT]) s
    .next s.settle

/-- OV3_FLAG_CLEAR (R156, R158): the flag releases below OV3 − 10 V. The latch stays. -/
def execOv3FlagClear (x : Fin 4) (s : State) : Res :=
  .next ((s.setFlag (Fld.PSP_STATE_OV3_LVL x) false).flagFrame x).settle

/-- OV3_HOLD (R156): the flag has stood for 10 ms since ASC was established. The row does not apply in DAWN. -/
def execOv3Hold (x : Fin 4) (s : State) : Res :=
  if s.flag (Fld.PSP_STATE_OV3_LVL x) && s.countsAsc x && s.mode != .dawn then
    .next ((s.latchSet x [SF.OV3_HOLD]).latchHold 1 0).settle
  else .next s

/-- T_SBC_ASC of the axis of a set, in ms (R173). -/
def State.sbcAsc (s : State) (x : Fin 4) : Rat := ((s.ownerAxis x).map fun a => s.par 16 40 a.val).getD 0

/-- OV2_REACT (R7, R156): T_SBC_ASC has run out with OV2_PEND standing. PSP keeps its SBC request. -/
def execOv2React (x : Fin 4) (s : State) : Res :=
  if s.flag (Fld.PSP_STATE_OV2_PEND x) && s.overdue (.ov2 x) (s.sbcAsc x * 1_000_000) then .next (s.latchOv2 x).settle else .next s

/-- UV (R7, R157): V_dc has stayed below UV for longer than UV_FILT on a set of an active axis. -/
def execUv (x : Fin 4) (s : State) : Res :=
  if s.sys.profileLoaded && s.setActive x && s.flag (Fld.PSP_STATE_UV_LVL x) && s.overdue (.uv x) (s.par 16 24 x.val * 1_000_000) then .next (s.latchSet x [SF.UV]).settle else .next s

/-! ## CROSS (R149, R150) -/

/-- CROSS_MARGIN of a set, in V (R170). -/
def State.crossMargin (s : State) (x : Fin 4) : Rat := (min (s.fld (Fld.PSP_CROSS_MARGIN x)) 0x12C : Nat)

/-- CROSS_HYST of a set, in V (R170). -/
def State.crossHyst (s : State) (x : Fin 4) : Rat := (max 1 (s.fld (Fld.PSP_CROSS_HYST x)) : Nat)

/-- T_PEAK of a set, in ns (R170). -/
def State.tPeak (s : State) (x : Fin 4) : Nat := max 1 (min (s.fld (Fld.PSP_CROSS_TPEAK x)) 0x64) * 1_000_000

/-- K_E of a set, in V/Hz (R170). -/
def State.kE (s : State) (x : Fin 4) : Rat := (s.fld (Fld.PSP_KE_KE x) : Rat) / 100

/-- The largest of a list of values. -/
def maxRat (l : List Rat) : Rat := l.foldl max 0

/-- The estimate of f_el between crossings: min(f_el, 1/τ) (R149). -/
def State.felNow (s : State) (x : Fin 4) : Rat :=
  let p := s.psp[x]
  match p.cross1 with
  | none => p.fel
  | some t =>
    let tau := s.now - t.toNat
    if tau = 0 then p.fel else min p.fel (1_000_000_000 / (tau : Rat))

/-- The value that R150 compares: the peak over the window for OPEN, the present estimate for SWITCH and ASC, and the
last value while the source is HELD. -/
def State.crossValue (s : State) (x : Fin 4) : Rat :=
  let p := s.psp[x]
  match s.fld (Fld.PSP_STATE_CROSS_SRC x) with
  | 0 => maxRat ((p.openVals.filter fun e => decide (s.now ≤ e.1.toNat + s.tPeak x)).map (·.2))
  | 3 => p.vll
  | _ => s.kE x * s.felNow x

/-- One comparison of CROSS (R150): set at or above V_dc − CROSS_MARGIN, clear below that less CROSS_HYST. Before the
profile load of Dawn CROSS does not act (R158). The SSI's flag reaches PSP through the flag channel: while that is lost, CROSS
keeps what it last carried (R13). -/
def State.compareCross (s : State) (x : Fin 4) : State :=
  if !s.sys.profileLoaded || !s.psp[x].linkFlag then s
  else
    let v := s.crossValue x
    let th := s.psp[x].vdc - s.crossMargin x
    let s := s.modPsp x fun p => { p with vll := v }
    if th ≤ v then s.setFlag (Fld.PSP_STATE_CROSS x) true
    else if v < th - s.crossHyst x then s.setFlag (Fld.PSP_STATE_CROSS x) false
    else s

/-- Whether all six phase gates of a set are reported off (R149). -/
def State.allOff (s : State) (x : Fin 4) : Bool :=
  (phaseChans x).all fun n => s.flag (Fld.GDC_STATUS_LINK n) && (s.gc[n].confOff || !s.flag (Fld.GDC_STATUS_GS_HIGH n))

/-- The source that the state of a set calls for (R149). DESIGN CHOICE (log entry 59): in ASC_ENTRY with all six phase gates
still reported off the rows OPEN and ASC both apply; OPEN is taken until a gate is no longer reported off. -/
def State.wantedSrc (s : State) (x : Fin 4) : BitVec 2 :=
  if s.psp[x].openOk && s.allOff x then 0 else if s.inAsc x then 2 else 1

/-- A change of source holds the last value until the new source gives its first one (R149, HELD). -/
def State.followSrc (s : State) (x : Fin 4) : State :=
  let w := s.wantedSrc x
  if w = s.psp[x].src then s
  else
    (s.modPsp x fun p =>
      { p with src := w, bandLow := false, cross1 := none, tvSum := 0, tvCount := 0, openVals := [] }).setFld
      (Fld.PSP_STATE_CROSS_SRC x) 3

/-- A value of the crossing signal of SWITCH or ASC: a rising crossing of the band gives f_el from the one before, and
the second one after a change of source gives the first value (R149). -/
def State.bandValue (s : State) (x : Fin 4) (v band : Rat) : State :=
  let p := s.psp[x]
  if v < -band then s.modPsp x fun p => { p with bandLow := true }
  else if p.bandLow && decide (band < v) then
    match p.cross1 with
    | none => s.modPsp x fun p => { p with bandLow := false, cross1 := some s.weft }
    | some t =>
      let d := s.now - t.toNat
      let f : Rat := if d = 0 then p.fel else 1_000_000_000 / (d : Rat)
      (s.modPsp x fun p => { p with bandLow := false, cross1 := some s.weft, fel := f }).setFld
        (Fld.PSP_STATE_CROSS_SRC x) p.src.toNat
  else s

/-- An offset measurement in ASC takes the crossings of the estimate as its period boundaries (R205). -/
def State.markCross (s : State) (x : Fin 4) (before : PspSet) : State :=
  let p := s.psp[x]
  if s.mfe[x].ofsRun && before.bandLow && !p.bandLow then
    s.modMfe x fun m => { m with ofsCross := s.weft :: m.ofsCross }
  else s

/-- Largest of the absolute line-to-line differences (R149). -/
def lineToLine (u v w : Rat) : Rat := maxRat [absRat (u - v), absRat (v - w), absRat (w - u)]

/-- Keeps an OPEN value within the window of T_PEAK (R150). -/
def State.openValue (s : State) (x : Fin 4) (v : Rat) : State :=
  let t := s.tPeak x
  let now := s.now
  s.modPsp x fun p => { p with openVals := (s.weft, v) :: p.openVals.filter fun e => decide (now ≤ e.1.toNat + t) }

/-- A sample of the three terminal channels as it is taken (R13, R209 to R211), with the source of CROSS that then applies. -/
def State.termTaken (s : State) (x : Fin 4) (u v w : Rat) (flag : Bool) : State :=
  ((when flag (·.flagFrame x) (s.dataFrame x)).terminalIn x (termVolts u) (termVolts v) (termVolts w)).followSrc x

/-- TERMINAL_SAMPLE (R13, R149, R150, R211): one 2 MSPS sample of the three terminal channels, in V, on the data channel.
`flag` tells whether a valid frame of the flag channel has come in the last frame time. -/
def execTerminalSample (x : Fin 4) (u v w : Rat) (flag : Bool) (s : State) : Res :=
  let s := s.termTaken x u v w flag
  let u := termVolts u
  let v := termVolts v
  let w := termVolts w
  let s :=
    match s.psp[x].src.toNat with
    | 0 => if s.fld (Fld.PSP_STATE_CROSS_SRC x) = 0 then s.openValue x (lineToLine u v w) else s
    | 2 => (s.bandValue x (u - v) (1 / 2)).markCross x s.psp[x]
    | _ => s.modPsp x fun p => { p with tvSum := p.tvSum + (u - v), tvCount := p.tvCount + 1 }
  .next (s.compareCross x).settle

/-- CROSS_OPEN_START (R149): the six phase gates have been reported off for 50 µs; OPEN gives its first value. -/
def execCrossOpenStart (x : Fin 4) (u v w : Rat) (s : State) : Res :=
  if s.allOff x then
    let s := (s.modPsp x fun p => { p with openOk := true, src := 0, bandLow := false, cross1 := none, openVals := [] })
    let s := (s.setFld (Fld.PSP_STATE_CROSS_SRC x) 0).openValue x (lineToLine (termVolts u) (termVolts v) (termVolts w))
    .next (s.compareCross x).settle
  else .next s

/-! ## The DC link and the chopper -/

/-- The mean of the DC-link samples in a span of ages, in ns. -/
def State.dcMean (s : State) (x : Fin 4) (lo hi : Nat) : Rat :=
  let l := (s.psp[x].dcHist.filter fun e => decide (lo ≤ s.now - e.1.toNat ∧ s.now - e.1.toNat ≤ hi)).map (·.2)
  if l.length = 0 then 0 else l.foldl (· + ·) 0 / (l.length : Rat)

/-- Whether the link counts as rising: the mean over the last 100 µs exceeds the mean over the 100 µs that ended
500 µs earlier (R156). -/
def State.rising (s : State) (x : Fin 4) : Bool := decide (s.dcMean x 500_000 600_000 < s.dcMean x 0 100_000)

/-- Whether the OV1 episode of a set started 2 ms ago or more (R156). -/
def State.episodeOld (s : State) (x : Fin 4) : Bool :=
  match s.psp[x].ov1Since with
  | some t => decide (2_000_000 ≤ s.now - t.toNat)
  | none => false

/-- The reaction to V_dc at or above OV2 (R156): OV2_REACT on class T, and on class W with no brake output; otherwise
OV2_PEND with a request for SBC. -/
def State.ov2 (s : State) (x : Fin 4) : State :=
  match s.ownerAxis x with
  | some a =>
    if s.isClassW a && (s.brakePair a).isSome then
      if s.flag (Fld.PSP_STATE_OV2_PEND x) || s.flag (Fld.PSP_FAULT_OV2_REACT x) then s
      else ((s.setFlag (Fld.PSP_STATE_OV2_PEND x) true).startTimer (.ov2 x)).modPsp x fun p => { p with sbcReq := true }
    else s.latchSet x [SF.OV2_REACT]
  | none => s.latchSet x [SF.OV2_REACT]

/-- A DC-link sample as it shows: `v` of every sample, and the DC check sample that comes with every second one (R209, R211). DESIGN
CHOICE (log entry 59): VDC of R171, in 1 V steps, shows the sample rounded down, and 0x7FF above its range. -/
def State.linkIn (s : State) (x : Fin 4) (v : Rat) (check : Option Rat) : State :=
  let now := s.now
  let s := (s.dataFrame x).modPsp x fun p =>
    { p with
      vdc := v, dcCheck := (check.map termVolts).getD p.dcCheck
      dcHist := (s.weft, v) :: p.dcHist.filter fun e => decide (now ≤ e.1.toNat + 600_000) }
  s.setFld (Fld.PSP_STATE_VDC x) (min v.floor.toNat 0x7FF)

/-- The levels of a DC-link sample (R155 to R157): the OV1 episode, with whose end OV2_PEND and its SBC request end, and the flags
of OV2 and UV. -/
def State.linkLevels (s : State) (x : Fin 4) (v : Rat) : State :=
  let s :=
    if s.ov1 x ≤ v then
      (s.setFlag (Fld.PSP_STATE_OV1_LVL x) true).modPsp x fun p =>
        { p with ov1Since := some (p.ov1Since.getD s.weft) }
    else if v < s.ov1Low x then
      let pend := s.flag (Fld.PSP_STATE_OV2_PEND x)
      let s := (s.setFlag (Fld.PSP_STATE_OV1_LVL x) false).setFlag (Fld.PSP_STATE_OV2_PEND x) false
      s.modPsp x fun p => { p with ov1Since := none, sbcReq := p.sbcReq && !pend }
    else s
  let s := s.setFlag (Fld.PSP_STATE_OV2_LVL x) (decide (s.level (Fld.PSP_OV12_OV2 x) ≤ v))
  let low := decide (v < s.level (Fld.PSP_OV3UV_UV x))
  (s.setFlag (Fld.PSP_STATE_UV_LVL x) low).timeWhile (.uv x) low

/-- Whether OV2 asks for its reaction (R156): the level stands, and the chopper is open or absent, or the link still rises 2 ms
into the episode. -/
def State.ov2Asks (s : State) (x : Fin 4) : Bool :=
  s.flag (Fld.PSP_STATE_OV2_LVL x)
    && (s.flag (Fld.PSP_CHOPST_CHOP_OPEN x) || !s.hasChopper x || s.rising x && s.episodeOld x)

/-- DC_LINK_SAMPLE (R150, R152, R155 to R158, R81, R209, R211): one 1 MSPS sample `v` of the SSI, and the DC check sample that
comes with every second one, in V. Before the profile load of Dawn a sample only shows. -/
def execDcLinkSample (x : Fin 4) (v : Rat) (check : Option Rat) (s : State) : Res :=
  let v := linkVolts v
  let s := s.linkIn x v check
  if !s.sys.profileLoaded then .next s
  else
    let s := (s.linkLevels x v).chopControl x
    let s := if s.ov2Asks x then s.ov2 x else s
    let s := (s.followSrc x).compareCross x
    let s := if s.mode == .service && (decide (60 < v) || decide (60 < s.vDcTv x)) then s.leaveService else s
    .next s.settle

/-- The currents above the mean before the on command that the shunt shows after it (R153). -/
def State.chopSteps (s : State) (x : Fin 4) (before : Vector Rat 8) (after : List Rat) : List Rat :=
  let ref := meanRat (before.toList.map shuntVolts)
  after.map fun v => (shuntVolts v - ref) / s.rShunt x

/-- CHOP_CHECK (R7, R153): 5 µs after a chopper turn-on, with the 8 shunt samples before the on command and those of the 5 µs
since, in V. The check passes if any of these lies within ±30 % of the expected step above the mean of the first. -/
def execChopCheck (x : Fin 4) (before : Vector Rat 8) (after : List Rat) (s : State) : Res :=
  match s.psp[x].chopCheck with
  | none => .next s
  | some c =>
    let s := s.modPsp x fun p => { p with chopCheck := none }
    if c.void then .next (s.incSat (Fld.PSP_CHOPST_VOID x))
    else
      let steps := s.chopSteps x before after
      if steps.any fun i => decide (c.expected * 7 / 10 ≤ i ∧ i ≤ c.expected * 13 / 10) then
        .next ((s.setFlag (Fld.PSP_CHOPST_PASS_LAST x) true).setFlag (Fld.PSP_CHOPST_CHOP_OPEN x) false)
      else
        let s := (s.setFlag (Fld.PSP_CHOPST_PASS_LAST x) false).setFlag (Fld.PSP_CHOPST_CHOP_OPEN x) true
        .next (s.setFlag (Fld.PSP_CHOPST_CHOP_HIGH x) (steps.any fun i => decide (c.expected * 13 / 10 < i)))

/-- Whether a console test of SERVICE switches phase gates of a set (R616). -/
def State.phasesTested (s : State) (x : Fin 4) : Bool :=
  s.con.begun &&
  match s.con.test with
  | some (.chopTest _, _) => false
  | some (.gdcPulse n _, some y) => x == y && decide (n.val < 24)
  | some (_, some y) => x == y
  | _ => false

/-- CHOP_SHORT (R154, R159): the chopper has been commanded off for 5 µs in BLOCK, ASC or STO, and the shunt samples of the last
1 µs, in V, all show a current above half of V_dc / R_BRAKE. While phase gates switch, a SERVICE test included, nothing is
evaluated. -/
def execChopShort (x : Fin 4) (samples : List Rat) (s : State) : Res :=
  let amps := samples.map fun v => (shuntVolts v - s.mfe[x].shOfs) / s.rShunt x
  let rb := (s.fld (Fld.PSP_CHOP_RB x) : Rat) / 1000
  let quiet := (s.setState x == .block || s.countsAsc x || s.setState x == .sto) && !s.phasesTested x
  let off := !s.gc[chopChan x].cmd && decide (s.gc[chopChan x].offAt + 5000 ≤ s.sys.poweredNs)
  if s.sys.profileLoaded && quiet && off && rb != 0 && !amps.isEmpty && amps.all (fun i => decide (s.psp[x].vdc / (2 * rb) < i)) then
    .next ((s.setFlag (Fld.PSP_CHOPST_CHOP_SHORT x) true).journal 0x0202 x.val (toS32 (quantise (amps.getLastD 0 * 1000))))
  else .next s

/-- CHOP_MIN_TIME (R152): the 10 µs minimum on-time or off-time of the chopper ends. -/
def execChopMinTime (x : Fin 4) (s : State) : Res :=
  .next ((s.modPsp x fun p => { p with chopMin := false }).chopControl x)

end Sys2Proof.Machine
end

