-- ==== Sys2Proof/Machine/Pwm.lean ====
section
/-! DEFINITION. The PWM timing unit (chapter "PWM timing unit"): processing of a compare set (R184 to R187), update
boundaries (R181, R182), the release to RUN (R190), the carrier offset (R180), and the island's gap count (R446). -/

namespace Sys2Proof.Machine

/-! ## Settings in units of 312.5 ps (R191 to R195) -/

/-- t_refresh_min. -/
def State.tRefresh (s : State) (x : Fin 4) : Int := ((40 * max 0x28 (min 0x320 (s.fld (Fld.PWM_BOOT_TREF x))) : Nat) : Int)

/-- t_refresh_hyst, held at t_refresh_min. -/
def State.tRefreshHyst (s : State) (x : Fin 4) : Int :=
  min (((40 * s.fld (Fld.PWM_BOOT_HYST x) : Nat) : Int)) (s.tRefresh x)

/-- C_ref, the floor of a bootstrapped compare (R186). -/
def State.cRef (s : State) (x : Fin 4) : Int := s.tRefresh x / 2

/-- T_WIN_MIN. -/
def State.tWin (s : State) (x : Fin 4) : Int := ((40 * max 0x20 (min 0x140 (s.fld (Fld.PWM_WIN_TWIN x))) : Nat) : Int)

/-- M_SHUNT_MAX. -/
def State.mShunt (s : State) (x : Fin 4) : Rat := (max 0x1F4 (min 0x3E8 (s.fld (Fld.PWM_WIN_MSHUNT x))) : Nat) / 1000

/-- Whether the high side of phase k is bootstrapped (R186). -/
def State.bootstrapped (s : State) (x : Fin 4) (k : Fin 3) : Bool := s.flag (Fld.GDC_CFG_SUPPLY (hiChan x k))

/-- Whether phase k is in state FULL (R186). -/
def State.inFull (s : State) (x : Fin 4) (k : Fin 3) : Bool := (s.fld (Fld.PWM_STATUS_FULL x)).testBit k.val

/-- Sets the state of phase k. -/
def State.setFull (s : State) (x : Fin 4) (k : Fin 3) (b : Bool) : State :=
  s.setFld ⟨Reg.PWM_STATUS x, 8 + k.val, 1⟩ (if b then 1 else 0)

/-- The applied compares of the rising half (R198). -/
def State.rising3 (s : State) (x : Fin 4) : Cmp3 := Cmp3.of fun k => ((s.fld (Fld.PWM_CMPR_CMP x k) : Nat) : Int)

/-- The applied compares of the falling half (R198). -/
def State.falling3 (s : State) (x : Fin 4) : Cmp3 := Cmp3.of fun k => ((s.fld (Fld.PWM_CMPF_CMP x k) : Nat) : Int)

/-! ## Compare processing (R184 to R187) -/

/-- Step 2, depth limiting: the compares scaled about their mid-point, rounded to one unit (R185). -/
def depthLimit (full : Int) (m : Rat) (c : Cmp3) : Cmp3 × Bool :=
  let hi := max c.u (max c.v c.w)
  let lo := min c.u (min c.v c.w)
  let d : Rat := ((hi - lo : Int) : Rat) / (full : Rat)
  if d ≤ m then (c, false)
  else
    let mid : Rat := ((hi + lo : Int) : Rat) / 2
    (Cmp3.of fun k => nearest (mid + ((c.at k : Rat) - mid) * m / d), true)

/-- Step 3, the refresh clamp of one compare: its output, and the state after it (R186). -/
def refreshClamp (tref hyst cref : Int) (full : Bool) (c : Int) : Int × Bool :=
  if full then (if tref ≤ 2 * c then (c, false) else (0, true))
  else if 2 * c < tref - hyst then (0, true)
  else (max c cref, false)

/-- The refresh clamp on the three phases of a set. -/
def State.clampSet (s : State) (x : Fin 4) (c : Cmp3) : Cmp3 × State :=
  let r (k : Fin 3) := if s.bootstrapped x k then refreshClamp (s.tRefresh x) (s.tRefreshHyst x) (s.cRef x) (s.inFull x k) (c.at k)
    else (c.at k, false)
  (Cmp3.of fun k => (r k).1, forAll three (fun k t => t.setFull x k (r k).2) s)

/-- Steps 1 to 3 of R184 on a compare set. -/
def State.processSet (s : State) (x : Fin 4) (c : Cmp3) : Shadow × State :=
  let full := s.fullScale x
  let sat := Cmp3.of fun k => clampInt 0 full (c.at k)
  let s := s.setFlag (Fld.PWM_STATUS_SAT x) (sat != c)
  let lim := if s.flag (Fld.PWM_STATUS_FALLBACK x) then depthLimit full (s.mShunt x) sat else (sat, false)
  let s := s.setFlag (Fld.PWM_STATUS_DEPTH_LIM x) lim.2
  let r := s.clampSet x lim.1
  ({ raw := lim.1, cmp := r.1 }, r.2)

/-- The first C_r after the release: at least t_refresh_min on a bootstrapped half-bridge (R186). -/
def State.firstRise (s : State) (x : Fin 4) (sh : Shadow) : Cmp3 :=
  Cmp3.of fun k => if s.bootstrapped x k then max (sh.raw.at k) (2 * s.cRef x) else sh.raw.at k

/-- The floor of a phase for edge shifting: C_ref where it is bootstrapped and in REFRESH (R187). -/
def State.shiftFloor (s : State) (x : Fin 4) (k : Fin 3) : Int :=
  if s.bootstrapped x k && !s.inFull x k then s.cRef x else 0

/-- The phases by rising compare, ties in the order U, V, W (R187). -/
def phaseOrder (c : Cmp3) : Fin 3 × Fin 3 × Fin 3 :=
  if c.u ≤ c.v then
    if c.v ≤ c.w then (0, 1, 2) else if c.u ≤ c.w then (0, 2, 1) else (2, 0, 1)
  else
    if c.u ≤ c.w then (1, 0, 2) else if c.v ≤ c.w then (1, 2, 0) else (2, 1, 0)

/-- Loads the rising compares (R187): shifts, pending shifts, marks of missing windows and their count. -/
def State.loadRise (s : State) (x : Fin 4) (c : Cmp3) : State :=
  let full := s.fullScale x
  let win := s.tWin x
  let (px, py, pz) := phaseOrder c
  let needA := max 0 (win - (c.at py - c.at px))
  let needB := max 0 (win - (c.at pz - c.at py))
  let en := s.flag (Fld.PWM_CFG_SHIFT_EN x)
  let shX := if en then max 0 (min needA (min (c.at px - s.shiftFloor x px) (full - c.at px))) else 0
  let shZ := if en then max 0 (min needB (min (c.at pz - s.shiftFloor x pz) (full - c.at pz))) else 0
  let pend := Cmp3.of fun k => if k = px then shX else if k = pz then -shZ else 0
  let r := Cmp3.of fun k => c.at k - pend.at k
  let missA := decide (r.at py - r.at px < win)
  let missB := decide (r.at pz - r.at py < win)
  let s := forAll three (fun k t => t.setSfld (Fld.PWM_CMPR_CMP x k) (r.at k)) s
  let s := forAll three (fun k t => t.setFld ⟨Reg.PWM_STATUS x, 5 + k.val, 1⟩ (if pend.at k != 0 then 1 else 0)) s
  s.modPwm x fun p => { p with pend := pend, missA := missA, missB := missB }

/-- Loads the falling compares with the pending shifts of the period (R187). DESIGN CHOICE (log entry 61): fl(k) is that of the REFRESH
and FULL states at the falling load; the spec does not say whether the valley's is kept. -/
def State.loadFall (s : State) (x : Fin 4) (c : Cmp3) : State :=
  let full := s.fullScale x
  let pend := s.pwm[x].pend
  forAll three
    (fun k t => t.setSfld (Fld.PWM_CMPF_CMP x k) (min full (max (s.shiftFloor x k) (c.at k + pend.at k)))) s

/-- The missing windows of the period that ends, shown and counted (R188, R196). -/
def State.markWindows (s : State) (x : Fin 4) : State :=
  let p := s.pwm[x]
  let s := (s.setFlag (Fld.PWM_STATUS_MISS_A x) p.missA).setFlag (Fld.PWM_STATUS_MISS_B x) p.missB
  let s := when (p.active && p.missA) (·.incSat (Fld.PWM_CNT_MISSING x)) s
  when (p.active && p.missB) (·.incSat (Fld.PWM_CNT_MISSING x)) s

/-- UPDATE_REQUEST (R184): a compare set arrives with its update request; after processing it stands in the shadow. -/
def execUpdateRequest (x : Fin 4) (s : State) : Res :=
  match s.pwm[x].sent with
  | none => .next s
  | some c =>
    if !s.clocksRun x then .next s
    else
      let r := s.processSet x c
      .next (r.2.modPwm x fun p => { p with sent := none, shadow := some r.1 })

/-! ## Gate requests of a released set -/

/-- Requests one level of a half-bridge: the other switch off, then this one on (R177). -/
def State.requestLevel (s : State) (x : Fin 4) (k : Fin 3) (high : Bool) : State :=
  let on := if high then hiChan x k else loChan x k
  let off := if high then loChan x k else hiChan x k
  let s := when (s.gc[off].cmd || s.gc[off].request) (·.chanOff off) s
  when (!s.gc[on].cmd && !s.gc[on].request) (·.requestOn on) s

/-- Whether the requests of the PWM channel reach the interlock: released, or a SERVICE test drives the set. -/
def State.pwmDrives (s : State) (x : Fin 4) : Bool := s.flag (Fld.PWM_STATUS_RUN_REL x) || s.pwm[x].duties.isSome

/-- What an edge asks of one channel: off at once, or an on request. -/
def State.edgeAsk (s : State) (n : Fin 28) (ask : Option Bool) : State :=
  match ask with
  | none => s
  | some true => s.requestOn n
  | some false => s.chanOff n

/-- The requests of one clock for the high and the low side of phase k (R115, R119, R120). Requests for both switches in one
clock turn neither on and count as one simultaneous event. -/
def State.askPair (s : State) (x : Fin 4) (k : Fin 3) (hi lo : Option Bool) : State :=
  if hi == some true && lo == some true && !s.gc[hiChan x k].cmd && !s.gc[loChan x k].cmd then
    let h := 3 * x.val + k.val
    let s := forAll [hiChan x k, loChan x k]
      (fun n t => (t.modGc n fun g => { g with request := true }).setFlag (Fld.GDC_STATUS_HELD n) true) s
    if s.conflict.getLsbD h then s else { s with conflict := s.conflict ||| (1#12 <<< h) }.shootEvent h true
  else
    let s := if hi == some false then s.edgeAsk (hiChan x k) hi else s
    let s := if lo == some false then s.edgeAsk (loChan x k) lo else s
    let s := if hi == some true then s.edgeAsk (hiChan x k) hi else s
    if lo == some true then s.edgeAsk (loChan x k) lo else s

/-- Whether the carrier counter crosses the compare of phase k in the nanosecond that ends now: it reaches C_r in the rising
half, it drops below C_f in the falling half. At 0 and 8H there is no edge within the half (R177). -/
def State.crosses (s : State) (x : Fin 4) (k : Fin 3) : Bool :=
  let full := s.fullScale x
  let fall := s.flag (Fld.PWM_STATUS_HALF x)
  let c := if fall then (s.falling3 x).at k else (s.rising3 x).at k
  decide (0 < c ∧ c < full) && s.carrierAt x ((if fall then 2 * full - c else c : Int) : Rat)

/-- PWM_EDGE (R115, R119, R120, R177): an edge of phase k. The counter crosses its compare, and in one clock one switch is
requested off and the other on: the high side on while c ≥ C_k, the low side while c < C_k. `corrupt` holds the requests that
a corrupted compare makes instead, which alone can ask for both switches. -/
def execPwmEdge (x : Fin 4) (k : Fin 3) (corrupt : Option (Option Bool × Option Bool)) (s : State) : Res :=
  if !s.gateOwned x then .next s
  else
    match corrupt with
    | some (hi, lo) => .next ((s.askPair x k hi lo).shootCheck x).settle
    | none =>
      if s.pwmDrives x && s.pwm[x].active && s.crosses x k then
        let high := !s.flag (Fld.PWM_STATUS_HALF x)
        .next ((s.askPair x k (some high) (some (!high))).shootCheck x).settle
      else .next s

/-- Time removed at the last valley, in 312.5 ps units, by which the counter stands beyond 0 there (R180). -/
def State.removed (s : State) (x : Fin 4) : Rat := max 0 (-s.pwm[x].stretch)

/-- The levels at a boundary (R177, R180): at the valley the high side of a phase is on only where C_k is 0, or where the time removed
there has carried the counter past C_k; at the peak the low side stays on only where C_k is 8H. -/
def State.boundaryLevels (s : State) (x : Fin 4) (peak : Bool) : State :=
  if !(s.pwmDrives x && s.pwm[x].active) then s
  else
    let r := s.rising3 x
    let f := s.falling3 x
    let full := s.fullScale x
    forAll three (fun k t => t.requestLevel x k (if peak then decide (f.at k < full) else decide ((r.at k : Rat) ≤ s.removed x))) s

/-! ## The carrier offset (R26, R180) -/

/-- One step towards the target at a valley (R180): at most T/256 in the shorter direction; time is removed only where
no bootstrapped low-side request falls below t_refresh_min. -/
def State.adjustPhase (s : State) (x : Fin 4) (cf : Cmp3) : State :=
  if !s.flag (Fld.PWM_PHASE_ADJ x) then s.modPwm x fun p => { p with stretch := 0 }
  else
    let t := s.phaseTarget x
    let period : Int := ((8 * s.ticks x : Nat) : Int)
    let ofs := s.pwm[x].offset.floor
    let d := (t - ofs) % period
    let step := period / 256
    let (tie, s) := if 2 * d = period then s.freeBool else (decide (2 * d < period), s)
    let delta := if tie then min d step else -min (period - d) step
    let cr := s.rising3 x
    let short := three.any fun k =>
      s.bootstrapped x k && decide (cf.at k + cr.at k ≠ 0 ∧ cf.at k + cr.at k + delta < s.tRefresh x)
    if delta < 0 && short then s.modPwm x fun p => { p with stretch := 0 }
    else
      let ofs := (ofs + delta) % period
      (s.modPwm x fun p => { p with offset := (ofs : Rat), stretch := (delta : Rat), start := p.start + (delta : Rat) }).setFlag
        (Fld.PWM_PHASE_ADJ x) (ofs != t)

/-- PHASE_WRITE (R180, R192): PHASE is written. -/
def execPhaseWrite (w : Writer) (x : Fin 4) (phase : BitVec 8) (s : State) : Res :=
  s.access w (Reg.PWM_PHASE x) (phase.setWidth 32) fun s => s.writePhase x phase

/-! ## Update boundaries -/

/-- Whether every low side of a set is on about the present valley, with the chopper off, so that its shunt carries no current
(R213): the low sides follow the compares, and every one of those exceeds 0. -/
def State.shuntQuiet (s : State) (x : Fin 4) : Bool :=
  let c : Cmp3 := s.falling3 x
  s.pwmDrives x && s.pwm[x].active && three.all (fun k : Fin 3 => decide (0 < c.at k)) && !s.gc[chopChan x].cmd

/-- What ends a carrier period: the window of the shoot-through rate (R120), the SWITCH value of CROSS (R149), the
tracked shunt offsets (R213, R445) by the mean of the 8 samples, and the island's count of periods above I_SAFE (R445). -/
def State.periodEnd (s : State) (x : Fin 4) (shunt : Vector Rat 8) : State :=
  let s : State := { s with shoot := s.shoot.set x { s.shoot[x] with inPeriod := 0 } }
  let p := s.psp[x]
  let s : State := if p.src.toNat = 1 ∧ 0 < p.tvCount then s.bandValue x (p.tvSum / (p.tvCount : Rat)) 5 else s
  let s := s.modPsp x fun p => { p with tvSum := 0, tvCount := 0 }
  let s := when (s.shuntQuiet x) (fun t => t.trackOffset x (meanRat (shunt.toList.map shuntVolts))) s
  let f := s.sfs[x]
  { s with sfs := s.sfs.set x { f with overN := if f.seen then f.overN else 0, seen := false } }

/-- The island's count of updates with no window value, while gate requests are released and the island runs (R446, R450). -/
def State.islandGap (s : State) (x : Fin 4) : State :=
  let f := s.sfs[x]
  if s.islandRuns && s.flag (Fld.PWM_STATUS_RUN_REL x) && !f.got then { s with sfs := s.sfs.set x { f with gap := f.gap + 1 } } else s

/-- A boundary with no ready result (R182, R238). -/
def State.lateUpdate (s : State) (x : Fin 4) : State :=
  ((s.incSat (Fld.PWM_CNT_LATE_UPD x)).setFlag (Fld.PWM_STATUS_LATE x) true).lateLane x

/-- The set that a boundary loads: the shadow, or the duties of a pwm run test. -/
def State.ready (s : State) (x : Fin 4) : Option Shadow × State :=
  match s.pwm[x].duties with
  | some c =>
    let r := s.processSet x c
    (some r.1, r.2)
  | none => (s.pwm[x].shadow, s.modPwm x fun p => { p with shadow := none })

/-- The release to RUN (R190, R292): at the first valley with an active compare set, where nothing asks for another
state. RUN_REL is set and the refresh states start as REFRESH. -/
def State.releaseRun (s : State) (x : Fin 4) : State :=
  let go := s.pwm[x].goReq && s.pwm[x].active && (s.target x).isNone && s.setState x != .run
  if !go then s
  else
    let s := (s.enterSet x .run).setFlag (Fld.PWM_STATUS_RUN_REL x) true
    (s.setFld (Fld.PWM_STATUS_FULL x) 0).modPwm x fun p => { p with goReq := false, first := true }

/-- The compares that a valley loads from a processed set: C_r, and in single update C_f, the first ones after the release with the
refresh of R186. -/
def State.loadValley (s : State) (x : Fin 4) (sh : Shadow) : State :=
  let first := s.pwm[x].first && s.pwmDrives x
  let base := if first then s.firstRise x sh else sh.cmp
  let s := when first (fun t => (t.setFld (Fld.PWM_STATUS_FULL x) 0).modPwm x fun p => { p with first := false }) s
  let s := s.loadRise x base
  if s.flag (Fld.PWM_CFG_DUAL x) then s else s.loadFall x base

/-- A valley (R181, R182, R190): the counter starts a period, and the shadow becomes C_r, in single update C_f too. DESIGN CHOICE (log
entry 61): in single update the first C_f after the release takes the longer first refresh of R186 as its C_r does. -/
def State.valley (s : State) (x : Fin 4) (shunt : Vector Rat 8) : State :=
  let cf := s.falling3 x
  let s := ((s.islandGap x).periodEnd x shunt).markWindows x
  let s := { s with sfs := s.sfs.set x { s.sfs[x] with got := false } }
  let s := s.placeCarrier x
  let (sh, s) := s.ready x
  let s := when sh.isSome (fun t => (t.modPwm x fun p => { p with active := true }).setFlag (Fld.PWM_STATUS_LATE x) false) s
  let s := s.releaseRun x
  let s := match sh with
    | none => s.lateUpdate x
    | some sh => s.loadValley x sh
  (s.adjustPhase x cf).boundaryLevels x false

/-- A peak (R181, R182): in double update the shadow becomes C_f; in single update the falling half begins. -/
def State.peak (s : State) (x : Fin 4) : State :=
  let s := s.setFlag (Fld.PWM_STATUS_HALF x) true
  let s :=
    if s.flag (Fld.PWM_CFG_DUAL x) then
      let (sh, s) := (s.islandGap x).ready x
      match sh with
      | none => s.lateUpdate x
      | some sh =>
        (s.loadFall x sh.cmp).modPwm x (fun p => { p with active := true }) |>.setFlag (Fld.PWM_STATUS_LATE x) false
    else s
  s.boundaryLevels x true

/-- Whether the carrier of a set stands at its next boundary (R26, R177, R179): the peak half a period after the start of the
counter, the valley where Weft time reaches the offset, so that what slewing adds or removes is taken there. -/
def State.atBoundary (s : State) (x : Fin 4) (peak : Bool) : Bool :=
  if peak then !s.flag (Fld.PWM_STATUS_HALF x) && s.carrierAt x (s.fullScale x)
  else s.flag (Fld.PWM_STATUS_HALF x) && s.periodStart x

/-- UPDATE_BOUNDARY (R26, R181, R182, R190, R295): a valley, or a peak. `shunt` holds the 8 shunt samples ending SH_LEAD
before the valley, in V. -/
def execUpdateBoundary (x : Fin 4) (peak : Bool) (shunt : Vector Rat 8) (s : State) : Res :=
  if !s.clocksRun x || !s.atBoundary x peak then .next s
  else
    let s := if peak then s.peak x else s.valley x shunt
    let s := if peak && !s.flag (Fld.PWM_CFG_DUAL x) then s else s.searchUpdate x
    .next (s.shootCheck x).settle

/-! ## Shunt windows (R188, R214 to R217, R445, R446) -/

/-- The island's own value of a window, which carries no missing mark (R445, R446); I_SAFE_N carrier periods above I_SAFE are taken at the
next safety cycle start (R424). -/
def State.islandWindow (s : State) (x : Fin 4) (v : Rat) : State :=
  match s.ownerAxis x with
  | none => s
  | some a =>
    if !s.islandRuns then s
    else
      let f := s.sfs[x]
      let lim := s.par 40 40 a.val
      let high := lim != 0 && decide (lim < (v - f.ofs) / s.par 40 42 a.val)
      let n := if high && !f.seen then f.overN + 1 else f.overN
      let hot := f.hot || high && decide (s.parNat 40 41 a.val ≤ n)
      { s with sfs := s.sfs.set x { f with got := true, gap := 0, seen := f.seen || high, overN := n, hot := hot } }

/-- The reconstruction of a period, once window B is past (R215, R216, R251). -/
def State.reconClass (s : State) (x : Fin 4) (b : Option WinVal) : State :=
  let o := phaseOrder (s.rising3 x)
  let m := s.mfe[x]
  match m.winA, b with
  | some wa, some wb =>
    let r : Recon := { amps := reconstruct o wa.i wb.i, tA := wa.t, tB := wb.t }
    let s := (s.setFld (Fld.MFE_STATUS_RECON x) 0).setFld (Fld.MFE_STATUS_SECTOR x) (sectorOf o)
    let ps := Amps3.of fun k => if k = o.1 then wa.ps.at k else wb.ps.at k
    let s := s.modMfe x fun m => { m with recon := some r, prev := m.recon, reconPs := ps, winA := none, part := none }
    if !s.inFallback x && s.allValid x then s.crossCheck x o r wa wb else s
  | some wa, none =>
    let s := (s.setFld (Fld.MFE_STATUS_RECON x) 1).setFld (Fld.MFE_STATUS_SECTOR x) (sectorOf o)
    (s.modMfe x fun m => { m with winA := none, part := some (o.1, wa.i) }).incSat (Fld.LOOM_CNT_PARTIAL x)
  | none, some wb =>
    let s := (s.setFld (Fld.MFE_STATUS_RECON x) 2).setFld (Fld.MFE_STATUS_SECTOR x) (sectorOf o)
    (s.modMfe x fun m => { m with part := some (o.2.2, -wb.i) }).incSat (Fld.LOOM_CNT_PARTIAL x)
  | none, none =>
    ((s.setFld (Fld.MFE_STATUS_RECON x) 3).setFld (Fld.MFE_STATUS_SECTOR x) 0).modMfe x fun m => { m with part := none }

/-- SH_LEAD of a set, in 312.5 ps units (R193). -/
def State.shLead (s : State) (x : Fin 4) : Int := ((40 * min 0x50 (s.fld (Fld.PWM_SAMP_SH_LEAD x)) : Nat) : Int)

/-- Whether the trigger of window A or B falls in the nanosecond that ends now (R188): SH_LEAD before the commanded edge that
closes the window, at C_r(y) or C_r(z), or at the valley where that would lie before it, time removed there included (R180). -/
def State.atWindow (s : State) (x : Fin 4) (b : Bool) : Bool :=
  let c := s.rising3 x
  let o := phaseOrder c
  s.carrierAt x (max (s.removed x) ((c.at (if b then o.2.2 else o.2.1) - s.shLead x : Int) : Rat))

/-- Whether window A or B carries its missing mark in this period, or no compare set is active (R188). -/
def State.windowMissing (s : State) (x : Fin 4) (b : Bool) : Bool :=
  let p := s.pwm[x]
  !p.active || (if b then p.missB else p.missA)

/-- SHUNT_TRIGGER (R188, R214 to R217, R445): the trigger of window A, or of window B, with the 4 shunt samples of the 100 ns
before it, in V, and the in-line values centred on the same instant. A missing window gives no value. -/
def execShuntTrigger (x : Fin 4) (b : Bool) (v : Vector Rat 4) (ps : Raw3) (s : State) : Res :=
  if !s.clocksRun x || !s.atWindow x b then .next s
  else
    let v := meanRat (v.toList.map shuntVolts)
    let missing := s.windowMissing x b
    let noShunt := decide (s.fld (Fld.MFE_SHUNT_RSH x) = 0)
    let s := if missing then s else s.islandWindow x v
    if missing || noShunt then
      .next (if b then s.reconClass x none else s.modMfe x fun m => { m with winA := none }).settle
    else
      let (amps, s) := s.inlineAmps x ps
      let w : WinVal := { i := (v - s.mfe[x].shOfs) / s.rShunt x, t := s.weft, ps := amps }
      .next (if b then s.reconClass x (some w) else s.modMfe x fun m => { m with winA := some w }).settle

/-- SAFETY_GAP (R424, R446): the 33rd consecutive update with no window value; the safety cycle that starts next takes it, latches GAP
and demands STO. -/
def execSafetyGap (x : Fin 4) (s : State) : Res :=
  if (s.ownerAxis x).isSome && s.islandRuns && decide (33 ≤ s.sfs[x].gap) then
    .next { s with sfs := s.sfs.set x { s.sfs[x] with late := true } }
  else .next s

end Sys2Proof.Machine
end

