-- ==== Sys2Proof/Machine/Loom.lean ====
section
/-! DEFINITION. The Loom (chapter "The Loom current-loop engine"): one update of a lane, from the inputs latched at the
sampling instant to the compares it sends, its observers and its publication; and the delivery of the currents. Every
quantity that a lane keeps from one update to the next has its 32-bit form (R234, log entry 4). -/

namespace Sys2Proof.Machine

/-! ## Quantities of a lane -/

/-- The quantities of which each has a scaling of its own (R234). -/
inductive LaneQ where
  | current | voltage | torque | flux | speed | angle
deriving DecidableEq, Repr

/-- The number of a quantity. -/
def LaneQ.code : LaneQ → Nat
  | .current => 1 | .voltage => 2 | .torque => 3 | .flux => 4 | .speed => 5 | .angle => 6

/-- A result as a 32-bit two's-complement word in units of `u`, as a value again (R234). What the accumulation of its products in 48
bits leaves of them is part of the opaque rounding (log entry 4). -/
def toLane (q : Nat) (u x : Rat) : Rat :=
  let n := (x / u).floor + Config.laneRound q x
  ((if -2147483648 ≤ n ∧ n ≤ 2147483647 then n else (Config.laneOver q x).toInt : Int) : Rat) * u

/-- A quantity as lane x holds it: in the 32-bit form of the scaling fixed at the profile load (R234, log entry 4). -/
def State.fix (s : State) (x : Fin 4) (q : LaneQ) (v : Rat) : Rat := toLane q.code (Config.laneUnit q.code s.lane[x].scale) v

/-- A pair of quantities as a lane holds it. -/
def State.fixDQ (s : State) (x : Fin 4) (q : LaneQ) (v : DQ) : DQ := { d := s.fix x q v.d, q := s.fix x q v.q }

/-- An item of P20 on an axis. -/
def State.p20 (s : State) (i : Nat) (a : Fin 4) : Rat := s.par 20 i a.val

/-- W_SET_s as the last profile load left it (R329, R360). -/
def State.setWeight (s : State) (x : Fin 4) : Rat := ((max 100 (s.fld (Fld.LSH_W_WNOM x)) : Nat) : Rat) / 1000

/-- The lane weight w_s = W_SET_s / Σ W_SET over the local sets of the axis (R329). -/
def State.laneWeight (s : State) (a x : Fin 4) : Rat :=
  s.setWeight x / ((s.axisSets a).foldl (fun t y => t + s.setWeight y) 0)

/-- The Clarke transform of three phase values (R239). -/
def clarke (c : Amps3) : DQ := { d := (2 * c.u - c.v - c.w) / 3, q := (c.v - c.w) / Config.sqrt 3 }

/-- The three phase values of an αβ pair. -/
def clarkeInv (v : DQ) : Amps3 :=
  let h := v.q * Config.sqrt 3 / 2
  { u := v.d, v := h - v.d / 2, w := -h - v.d / 2 }

/-! ## The machine model (R240) -/

/-- R_eq. -/
def State.rEq (s : State) (a : Fin 4) : Rat :=
  if s.machine a = 2 then s.p20 10 a + s.p20 17 a * (s.p20 15 a / s.p20 16 a) * (s.p20 15 a / s.p20 16 a) else s.p20 10 a

/-- e(i, ω) for a rotor flux ψ. -/
def State.emfOf (s : State) (a : Fin 4) (psi : Rat) (i : DQ) (w : Rat) : DQ :=
  let ld := s.p20 11 a
  let lq := s.p20 12 a
  if s.machine a = 2 then
    let k := s.p20 15 a / s.p20 16 a
    { d := -w * lq * i.q - k * s.p20 17 a / s.p20 16 a * psi, q := w * (ld * i.d + k * psi) }
  else { d := -w * lq * i.q, q := w * (ld * i.d + s.p20 13 a) }

/-- Torque of a set T_e,s. -/
def State.torqueOf (s : State) (a : Fin 4) (psi : Rat) (i : DQ) : Rat :=
  let p := s.polePairs a * 3 / 2
  match s.machine a with
  | 0 => p * s.p20 13 a * i.q
  | 1 => p * (s.p20 13 a + (s.p20 11 a - s.p20 12 a) * i.d) * i.q
  | _ => p * (s.p20 15 a / s.p20 16 a) * psi * i.q

/-- The current after `t` under a voltage `v` held for that time: one step of the model v = R_eq i + L di/dt + e. -/
def State.predict (s : State) (a : Fin 4) (psi : Rat) (i v : DQ) (w t : Rat) : DQ :=
  let e := s.emfOf a psi i w
  { d := i.d + t * (v.d - s.rEq a * i.d - e.d) / s.p20 11 a, q := i.q + t * (v.q - s.rEq a * i.q - e.q) / s.p20 12 a }

/-! ## The prepare phase (R235, R236, R275) -/

/-- SAMP_OFS of a set, in s (R193). -/
def State.sampOfs (s : State) (x : Fin 4) : Rat :=
  ((clampInt (-800) 800 (s.sfld (Fld.PWM_SAMP_SAMP_OFS x)) : Int) : Rat) * 5 / 2_000_000_000

/-- The torque an axis hands to its lanes: T_ref, or the member torque of a shared axis (R329, R341). -/
def State.laneTorque (s : State) (a : Fin 4) : Rat := if s.isShared a then s.lsh[a].tm else s.spd[a].tref

/-- The inputs of a lane at its sampling instant (R236, R275). An estimate from a port is that of the sample period that
contains the instant (R276). -/
def State.latchLane (s : State) (a x : Fin 4) : State :=
  let s := if s.source_ a == 1 && !s.portLost a && !s.flag (Fld.POS_STATUS_BACKUP a) && !s.pos[a].coast then s.portEstimate a else s
  let p := s.pos[a]
  let dt : Rat := ((s.now - p.t.toNat : Nat) : Rat) / 1_000_000_000
  let th := fracTurn (p.th + dt * p.w / Config.twoPi)
  let l : LaneIn :=
    { t := s.weft, theta := (nearest (th * 65536) : Rat) / 65536, w := p.w, wMech := p.w / s.polePairs a
      tref := s.laneTorque a, iref := p.iref, wt := s.laneWeight a x, inj := s.injectionNow a
      didMin := if s.isShared a then s.lsh[a].didMin else 0
      pubs := ((s.axisSets a).filter (· != x)).filterMap fun y => s.lane[y].pub.map fun q => (y, q) }
  s.modLane x fun q => { q with inp := some l }

/-- SAMP_OFS of a set, in 312.5 ps units (R193). -/
def State.sampUnits (s : State) (x : Fin 4) : Int := 8 * clampInt (-800) 800 (s.sfld (Fld.PWM_SAMP_SAMP_OFS x))

/-- Whether an in-line trigger falls in the nanosecond that ends now (R189): SAMP_OFS after the valley, at which time that R180 adds or
removes has moved the counter, and, in double update, after the peak; a negative SAMP_OFS lies before the boundary, by the counter. -/
def State.atSample (s : State) (x : Fin 4) : Bool :=
  let o := s.sampUnits x
  let full := s.fullScale x
  s.carrierAt x (if o < 0 then ((2 * full + o : Int) : Rat) else (o : Rat) - s.pwm[x].stretch) ||
    s.flag (Fld.PWM_CFG_DUAL x) && s.carrierAt x ((full + o : Int) : Rat)

/-- INLINE_TRIGGER (R189, R204, R235, R236): the sampling instant of a set; the lane of an axis latches its inputs
unless a lane fault has stopped its schedule. -/
def execInlineTrigger (x : Fin 4) (s : State) : Res :=
  if !s.clocksRun x || !s.atSample x then .next s
  else
    let now := s.weft
    let s := s.modMfe x fun m => { m with sample := now }
    match s.ownerAxis x with
    | none => .next s
    | some a => .next (if s.flag (Fld.LOOM_STATUS_FAULTED x) then s else s.latchLane a x)

/-! ## Delivery of the currents (R204, R206, R208, R218, R220) -/

/-- Analogue inputs at the converter limit in 4 consecutive samples become invalid (R206); an input that only this held
invalid reads valid again at a sample off the limit. -/
def State.satCheck (s : State) (x : Fin 4) (ps : Raw3) : State :=
  forAll three
    (fun k t =>
      if !t.fitted x k || t.sdMode x k then t
      else
        let n := if atLimit (rawAt ps k) then t.mfe[x].satN[k] + 1 else 0
        let t := t.modMfe x fun m => { m with satN := m.satN.set k n }
        if 4 ≤ n then (t.setFld ⟨Reg.MFE_FAULT x, 8 + k.val, 1⟩ 1).invalidate x (1#3 <<< k.val)
        else
          let only := (t.fld (Fld.MFE_FAULT_SAT x)).testBit k.val && !(t.fld (Fld.MFE_FAULT_OFS x)).testBit k.val &&
            t.flag Fld.MFE_SUPPLY_ON && !(t.flag (Fld.MFE_FAULT_XCHECK x) && !t.flag (Fld.MFE_FAULT_SHUNT_SUSPECT x))
          when (n == 0 && only) (fun t => t.modMfe x fun m => { m with inv := m.inv &&& ~~~(1#3 <<< k.val) }) t) s

/-- Whether a set's lane is fed by the shunt: in fallback, and in RUN; in pulse block and ASC it is given in-line values (R208). -/
def State.shuntFed (s : State) (x : Fin 4) : Bool := s.inFallback x && s.setState x == .run

/-- The currents of an update in fallback: the latest VALID reconstruction, or a gap (R220). The flag says whether it is
newer than the one of the previous update. -/
def State.fallbackAmps (s : State) (x : Fin 4) : Bool × State :=
  let m := s.mfe[x]
  let last := ((m.recon.toList ++ m.prev.toList).find? fun r => decide (r.tB.toNat < m.sample.toNat)).filter fun r => m.used != some r
  match last with
  | some r => (true, s.modMfe x fun m => { m with gaps := 0, used := some r, amps := r.amps })
  | none =>
    let n := m.gaps + 1
    let s := (s.modMfe x fun m => { m with gaps := n }).incSat (Fld.MFE_CNT_GAPS x)
    if max 1 (s.fld (Fld.MFE_LIM_GAPMAX x)) < n then (false, (s.setFlag (Fld.MFE_FAULT_GAP x) true).latchMeas x 2)
    else (false, s)

/-- The currents delivered at an in-line instant, with their registers and the ground-fault level (R208, R218, R228). A set in pulse
block or ASC is given in-line values, in fallback too. -/
def State.deliver (s : State) (x : Fin 4) (ps : Raw3) : Bool × State :=
  let s := s.satCheck x ps
  let (fresh, s) :=
    if s.shuntFed x then s.fallbackAmps x
    else
      let (c, s) := s.inlineAmps x ps
      (true, s.modMfe x fun m => { m with amps := c })
  let c := s.mfe[x].amps
  let s := forAll three (fun k t => t.setReg (Reg.MFE_IPH x k) (toS32 (quantise (c.at k * 1000)))) s
  let gf := s.fld (Fld.MFE_CFG_FIT x) == 7 && s.gfTh x != 0 && !s.inFallback x && s.allValid x &&
    decide ((s.gfTh x : Rat) < absRat (c.u + c.v + c.w))
  let v := s.psp[x].vdc
  (fresh, (s.setFlag (Fld.MFE_STATUS_GF_LVL x) gf).modMfe x fun m => { m with vdc := v })

/-! ## Applied voltages (R237) -/

/-- Whether the boundary of the present update still lies ahead: with a negative SAMP_OFS the currents may be delivered before it (R189,
R193, R235). -/
def State.beforeBoundary (s : State) (x : Fin 4) : Bool :=
  let o := s.sampUnits x
  let full := s.fullScale x
  let fall := s.flag (Fld.PWM_STATUS_HALF x)
  decide (o < 0) && (fall || s.flag (Fld.PWM_CFG_DUAL x)) && decide ((((if fall then 2 * full else full) + o : Int) : Rat) ≤ s.carrierPos x)

/-- The state whose compares act from the boundary of the present update on: what the boundary will load from the shadow, where it still
lies ahead (R182, R237). -/
def State.atUpdate (s : State) (x : Fin 4) : State :=
  if !s.beforeBoundary x then s
  else if s.flag (Fld.PWM_STATUS_HALF x) then
    let t := s.setFlag (Fld.PWM_STATUS_HALF x) false
    match s.pwm[x].shadow with
    | some sh => t.loadValley x sh
    | none => t
  else
    let t := s.setFlag (Fld.PWM_STATUS_HALF x) true
    match s.pwm[x].shadow with
    | some sh => t.loadFall x sh.cmp
    | none => t

/-- The compares that act in the present update interval: the half's own in double update, their mean over the period
in single update. -/
def State.activeCompares (s : State) (x : Fin 4) : Amps3 :=
  let r := s.rising3 x
  let f := s.falling3 x
  if s.flag (Fld.PWM_CFG_DUAL x) then
    if s.flag (Fld.PWM_STATUS_HALF x) then Amps3.of fun k => (f.at k : Rat) else Amps3.of fun k => (r.at k : Rat)
  else Amps3.of fun k => ((r.at k + f.at k : Int) : Rat) / 2

/-- The αβ voltage that the compares of the present update apply on the DC link. -/
def State.appliedAB (s : State) (x : Fin 4) (vdc : Rat) : DQ :=
  let c := (s.atUpdate x).activeCompares x
  let full : Rat := s.fullScale x
  let v (k : Fin 3) : Rat := vdc * (1 - c.at k / full)
  clarke { u := v 0, v := v 1, w := v 2 }

/-- Whether the PWM unit changed a compare that the lane had sent, in either half in single update, in the present one in double
update (R237). -/
def State.appliedDiff (s : State) (x : Fin 4) : Bool :=
  let s := s.atUpdate x
  let sent := s.lane[x].sentC
  let dual := s.flag (Fld.PWM_CFG_DUAL x)
  let fall := s.flag (Fld.PWM_STATUS_HALF x)
  s.pwm[x].active && ((!dual || !fall) && s.rising3 x != sent || (!dual || fall) && s.falling3 x != sent)

/-! ## References (R241 to R244) -/

/-- The MTPA table at a torque (R242): linear between points, the last segment extended, i_q odd in the torque. -/
def State.mtpa (s : State) (a : Fin 4) (t : Rat) : DQ :=
  let pos := absRat t * 64 / s.p20 35 a
  let j := min pos.floor.toNat 63
  let f := pos - (j : Rat)
  let at_ (base : Nat) : Rat :=
    let lo := s.p20 (base + j) a
    lo + (s.p20 (base + j + 1) a - lo) * f
  { d := at_ 100, q := signRat t * at_ 200 }

/-- The base references of a torque (R241). -/
def State.baseRef (s : State) (a : Fin 4) (psi t : Rat) : DQ :=
  let p := s.polePairs a * 3 / 2
  match s.machine a with
  | 0 => { d := 0, q := t / (p * s.p20 13 a) }
  | 1 => s.mtpa a t
  | _ =>
    { d := s.p20 18 a / s.p20 15 a
      q := t / (p * (s.p20 15 a / s.p20 16 a) * max psi (s.p20 18 a / 5)) }

/-- The field-weakening term of this update (R243), from v_db and v_lim of the last one. -/
def State.fieldWeak (s : State) (a x : Fin 4) (base : Rat) : Rat :=
  let l := s.lane[x]
  let k := s.p20 33 a
  if k = 0 then 0
  else
    let ev := l.vdb.mag - (1 - s.p20 32 a) * l.vlim
    min 0 (max (l.did - k * s.tUpd x * ev) (s.p20 31 a - base))

/-- The references of an update: base references, field weakening and the flux floor, or references issued instead;
OL_IQ in open loop (R286, R315), then the limits of R244. A member of a shared axis uses DID_MIN where it lies lower (R344).
Gives the pair, the new did, and whether a limit of R244 acted. -/
def State.references (s : State) (a x : Fin 4) (inp : LaneIn) : DQ × Rat × Bool :=
  let l := s.lane[x]
  let imax := s.p20 30 a
  let run := s.setState x == .run
  let (i, did) : DQ × Rat :=
    match inp.iref with
    | some i => (i, if run then l.did else 0)
    | none =>
      let b := s.baseRef a l.psiR (inp.wt * inp.tref)
      let did := if run then s.fieldWeak a x b.d else 0
      let d := b.d + (if s.isShared a then min did inp.didMin else did)
      ({ d := if s.machine a = 2 then max d (s.p20 18 a / (5 * s.p20 15 a)) else d, q := b.q }, did)
  let d := clampRat (max (s.p20 31 a) (-imax)) imax i.d
  let qmax := Config.sqrt (imax * imax - d * d)
  let ol := s.par 22 53 a.val / 100 * imax
  let iq := if s.flag (Fld.POS_STATUS_OPEN_LOOP a) then clampRat (-ol) ol i.q else i.q
  let q := clampRat (-qmax) qmax iq
  (s.fixDQ x .current { d := d, q := q }, s.fix x .current did, decide (d ≠ i.d ∨ q ≠ iq))

/-! ## Limits and modulation (R247) -/

/-- The largest voltage of an update (R247). -/
def State.vLimit (s : State) (a x : Fin 4) (vdc : Rat) : Rat :=
  let v := vdc / Config.sqrt 3
  let v := if s.inFallback x then s.mShunt x * v else v
  if s.flag (Fld.POS_STATUS_INJ_ON a) then v - s.vInj a else v

/-- The voltage limit, d first (R247). -/
def limitV (lim : Rat) (v : DQ) : DQ × Bool :=
  if v.mag ≤ lim then (v, false)
  else if lim ≤ absRat v.d then ({ d := signRat v.d * lim, q := 0 }, true)
  else ({ d := v.d, q := signRat v.q * Config.sqrt (lim * lim - v.d * v.d) }, true)

/-- The dead-time voltage of phase k (R247): the outgoing channel is the low side where the high side is about to turn
on, in the rising half and in single update, and the high side in the falling half. -/
def State.deadTime (s : State) (x : Fin 4) (k : Fin 3) (i imax vdc : Rat) : Rat :=
  let falling := s.flag (Fld.PWM_CFG_DUAL x) && !s.flag (Fld.PWM_STATUS_HALF x)
  let n := if falling then hiChan x k else loChan x k
  let t : Rat := max 120 (((s.fld (Fld.GDC_TCONF_LAST n) + s.tExtra n : Nat) : Rat) * 5 / 2)
  let period : Rat := (s.ticks x : Rat) * 5 / 2
  if absRat i < imax / 100 then 0 else signRat i * vdc * t / period

/-- The compares of phase voltages: with the zero sequence, rounded to one unit (R247). -/
def State.modulate (s : State) (x : Fin 4) (v : Amps3) (vdc : Rat) : Cmp3 :=
  let hi := max v.u (max v.v v.w)
  let lo := min v.u (min v.v v.w)
  let v0 := -(hi + lo) / 2
  let full : Rat := s.fullScale x
  Cmp3.of fun k => nearest (full * (1 / 2 - (v.at k + v0) / vdc))

/-! ## The control phase (R246, R250, R256) -/

/-- What one control phase computes. -/
structure Control where
  im    : DQ
  v     : DQ      -- applied voltage of the present interval, dq at θ_s
  ab    : DQ      -- the same in stator axes
  iref  : DQ
  did   : Rat
  ilim  : Bool
  vdb   : DQ
  vlim  : Rat
  vout  : DQ
  vsat  : Bool
  pi    : Bool
  x     : DQ
  bs    : DQ
  balLim : Bool
  inj   : Rat     -- injection voltage added to v_d
  cmp   : Cmp3
deriving DecidableEq, Repr

/-- The frame angle of a lane at its sampling instant (R239, R245). -/
def State.frameAngle (s : State) (a x : Fin 4) (inp : LaneIn) : Rat :=
  let ofs := s.windingOfs a x
  (if s.machine a = 2 then s.lane[x].thetaR else inp.theta) - ofs

/-- The speed of a lane's frame, in rad/s: POS's, and on an induction machine the slip added to it (R240, R245). -/
def State.frameSpeed (s : State) (a x : Fin 4) (inp : LaneIn) (im : DQ) : Rat :=
  if s.machine a = 2 then
    let l := s.lane[x]
    inp.w + s.p20 15 a * im.q * s.p20 17 a / (s.p20 16 a * max l.psiR (s.p20 18 a / 20))
  else inp.w

/-- i_m of an update: measured and transformed at θ_s; in fallback the reconstruction, advanced from the mean of its two
timestamps with the model of the frame (R240), or the lane's own prediction where none is new (R239, R251). -/
def State.measured (s : State) (a x : Fin 4) (inp : LaneIn) (fresh : Bool) (th : Rat) : DQ :=
  let l := s.lane[x]
  let m := s.mfe[x]
  let w := s.frameSpeed a x inp l.im
  if !s.shuntFed x then (clarke m.amps).park th
  else if !fresh then s.predict a l.psiR l.im (l.vab.park th) w (s.tUpd x)
  else
    match m.used with
    | none => l.im
    | some r =>
      let mid : Rat := ((r.tA.toNat + r.tB.toNat : Nat) : Rat) / 2
      let dt := ((inp.t.toNat : Rat) - mid) / 1_000_000_000
      let th0 := th - dt * w / Config.twoPi
      s.predict a l.psiR ((clarke r.amps).park th0) (l.vab.park th) w dt

/-- The deadbeat law (R246). -/
def State.deadbeat (s : State) (a x : Fin 4) (inp : LaneIn) (im v iref bs : DQ) (w t1 : Rat) : DQ × DQ :=
  let psi := s.lane[x].psiR
  let n : Rat := ((s.axisSets a).length : Rat)
  let single := (s.axisSets a).length ≤ 1
  let kdb : Rat := (max 0x14 (min 0xC8 (s.fld (Fld.LOOM_CFG_KDB x))) : Nat) / 200
  let t := s.tUpd x
  let req := s.rEq a
  let rs := s.p20 10 a
  let lsig := s.p20 14 a
  let ibar := if single then im else (inp.pubs.foldl (fun z p => z.add p.2.i) im).scale (1 / n)
  let vbar := if single then v else (inp.pubs.foldl (fun z p => z.add p.2.v) v).scale (1 / n)
  let wn := if single then 1 else inp.wt * n
  let dm := if single then DQ.zero else im.sub (ibar.scale wn)
  let ip := s.predict a psi ibar vbar w t1
  let dp := if single then DQ.zero else dm.add (((v.sub vbar).sub (dm.scale rs)).scale (t1 / lsig))
  let ir := iref.scale (1 / wn)
  let e := s.emfOf a psi ip w
  let vc : DQ :=
    { d := req * ip.d + kdb * s.p20 11 a / t * (ir.d - ip.d) + e.d
      q := req * ip.q + kdb * s.p20 12 a / t * (ir.q - ip.q) + e.q }
  let vx := if single then DQ.zero else dp.scale (rs - kdb * lsig / t)
  ((vc.add vx).add bs, (ip.scale wn).add dp)

/-- The PI law (R250): the voltage, the new integrator, and the current it acts on. -/
def State.piLaw (s : State) (a x : Fin 4) (im v iref bs : DQ) (w t1 : Rat) : DQ × DQ × DQ :=
  let l := s.lane[x]
  let t := s.tUpd x
  let ip := s.predict a l.psiR im v w t1
  let e := iref.sub ip
  let kp (ind : Rat) : Rat := if s.p20 21 a = 0 then ind / (4 * t) else s.p20 21 a
  let ki : Rat := if s.p20 22 a = 0 then s.rEq a / (4 * t) else s.p20 22 a
  let sat := s.flag (Fld.LOOM_STATUS_VSAT x)
  let step (xi ei : Rat) (vi : Rat) : Rat := if sat && decide (0 < ei * vi) then xi else xi + t * ki * ei
  let pe : DQ := { d := kp (s.p20 11 a) * e.d, q := kp (s.p20 12 a) * e.q }
  let xi : DQ := if l.law then { d := step l.x.d e.d l.vout.d, q := step l.x.q e.q l.vout.q } else l.vout.sub pe
  let em := s.emfOf a l.psiR ip w
  (((pe.add xi).add em).add bs, xi, ip)

/-- The set-balance term (R253): integrated and clamped; 0 outside RUN and on a single-set axis. DESIGN CHOICE (log entry 61): the balance
voltage of an update is the term after this update's integration, whose order the spec does not give. -/
def State.balance (s : State) (a x : Fin 4) (iref im : DQ) : DQ × Bool :=
  if s.setState x != .run || (s.axisSets a).length ≤ 1 then (DQ.zero, false)
  else
    let b := s.lane[x].bs.add ((iref.sub im).scale (s.tUpd x * s.p20 25 a))
    let m := s.p20 26 a
    let c : DQ := { d := clampRat (-m) m b.d, q := clampRat (-m) m b.q }
    (c, b != c || decide (absRat c.d = m ∨ absRat c.q = m))

/-- The control phase of an update. Below 50 V, and outside RUN, only ê is issued (R256, R258). DESIGN CHOICE (log entry 60): with
no voltage on the DC link at all, where R247 divides by it, every compare is half of 8H. DESIGN CHOICE (log entry 61): in RUN below 50 V
the integrator of the PI law, of which the spec then says nothing, stands at 0. -/
def State.control (s : State) (a x : Fin 4) (inp : LaneIn) (fresh : Bool) : Control :=
  let l := s.lane[x]
  let vdc := s.mfe[x].vdc
  let th := s.frameAngle a x inp
  let im := s.fixDQ x .current (s.measured a x inp fresh th)
  let w := s.frameSpeed a x inp im
  let t := s.tUpd x
  let t1 := t - s.sampOfs x
  let thA := th + inp.w * (t1 + t / 2) / Config.twoPi
  let run := s.setState x == .run
  let quiet := s.setState x == .block || s.setState x == .sto
  let e0 := s.emfOf a l.psiR DQ.zero w
  let v := if run then (s.appliedAB x vdc).park th else if quiet then e0 else DQ.zero
  let (iref, did, ilim) := s.references a x inp
  let pi := s.flag (Fld.LOOM_CFG_LAW x) || s.flag (Fld.LOOM_CFG_AUTO_PI x) && s.inFallback x
  let (bs, balLim) := s.balance a x iref im
  let vlim := s.vLimit a x vdc
  let closed := run && decide (50 ≤ vdc)
  let inj := if closed then inp.inj else 0
  let iref' : DQ := { iref with d := iref.d + (if inj = 0 then 0 else l.iInj + inj * t / s.p20 11 a) }
  let (vdb, xi, ip) : DQ × DQ × DQ :=
    if !closed then (e0, DQ.zero, im)
    else if pi then s.piLaw a x im v iref' bs w t1
    else
      let r := s.deadbeat a x inp im v iref' bs w t1
      (r.1, DQ.zero, r.2)
  let thB := th + inp.w * t1 / Config.twoPi
  let ik := clarkeInv (ip.ipark thB)
  let dt : Amps3 :=
    if closed && s.p20 27 a != 0 then Amps3.of fun k => s.deadTime x k (ik.at k) (s.p20 30 a) vdc else Amps3.zero
  let vd := vdb.add ((clarke dt).park thA)
  let (vl, vsat) := limitV vlim vd
  let vout : DQ := { vl with d := vl.d + inj }
  let cmp := s.modulate x (clarkeInv (vout.ipark thA)) vdc
  { im := im, v := s.fixDQ x .voltage v, ab := v.ipark th, iref := iref, did := did, ilim := ilim, vdb := s.fixDQ x .voltage vdb
    vlim := s.fix x .voltage vlim, vout := s.fixDQ x .voltage vout, vsat := vsat, pi := pi, x := if run then s.fixDQ x .voltage xi else DQ.zero
    bs := s.fixDQ x .voltage bs, balLim := balLim
    inj := s.fix x .voltage inj, cmp := cmp }

/-! ## The observe phase (R245, R252, R255, R257) -/

/-- The rotor-flux observer of an induction machine (R245): θ is the axis's angle, from which frameAngle takes the winding offset,
so that the voltage model's angle in the set's own axes has the offset added. While the speed search runs, the frame turns at its frame
frequency (R295). -/
def State.fluxObserver (s : State) (a x : Fin 4) (inp : LaneIn) (c : Control) : State :=
  if s.machine a != 2 then s.setFlag (Fld.LOOM_STATUS_FLUX_READY x) true
  else
    let t := s.tUpd x
    let lm := s.p20 15 a
    let lr := s.p20 16 a
    let rr := s.p20 17 a
    let ref := s.p20 18 a
    let i := if s.inPulseBlock x then DQ.zero else c.im
    let st := s.pos[a].start
    let search := match st with | some q => q.search | none => false
    let wSearch := s.pos[a].ssF * Config.twoPi
    let l := s.lane[x]
    let psi := l.psiR + t * (lm * i.d - l.psiR) * rr / lr
    let wsl := lm * i.q * rr / (lr * max psi (ref / 20))
    let wf := if search then wSearch else s.polePairs a * inp.wMech + wsl
    let th := l.thetaR + t * wf / Config.twoPi
    let rs := s.p20 10 a
    let lsig := s.p20 11 a
    let iab := clarke s.mfe[x].amps
    let stator := l.psiV.add ((l.vab.sub (iab.scale rs)).scale t)
    let rotor := (stator.sub (iab.scale lsig)).scale (lr / lm)
    let fast := decide (s.par 20 46 a.val < absRat (s.rpmOf a (inp.wMech * s.polePairs a)))
    let ofs := s.windingOfs a x
    let th := if fast && !search then th + s.p20 45 a * wrapTurn (rotor.arg + ofs - th) else th
    let psi' := s.fix x .flux psi
    let th' := s.fix x .angle (fracTurn th)
    let stator' := s.fixDQ x .flux stator
    let thV := s.fix x .angle (fracTurn (rotor.arg + ofs))
    let s := s.modLane x fun l => { l with psiR := psi', thetaR := th', psiV := stator', thV := thV }
    let s := s.setReg (Reg.LOOM_PSIR x) (ratToF32 s.lane[x].psiR)
    when (decide (ref * 9 / 10 ≤ psi)) (·.setFlag (Fld.LOOM_STATUS_FLUX_READY x) true) s

/-- What POS takes from a lane at its update (R257, R279, R284): the extended EMF, and the demodulated response to the
injection that acted in the interval just ended. -/
def State.lanePos (s : State) (a x : Fin 4) (inp : LaneIn) (c : Control) : State :=
  let l := s.lane[x]
  let t := s.tUpd x
  let v := l.vab.park (s.frameAngle a x inp)
  let rs := s.p20 10 a
  let lq := s.p20 12 a
  let di := (c.im.sub l.im).scale (1 / t)
  let emf : DQ :=
    { d := v.d - rs * c.im.d - lq * di.d + inp.w * lq * c.im.q, q := v.q - rs * c.im.q - lq * di.q - inp.w * lq * c.im.d }
  let was := (l.injs.drop 1).headD 0
  let clean : DQ := { v with d := v.d - was }
  let dq := c.im.q - (s.predict a l.psiR l.im clean inp.w t).q
  let emf := s.fixDQ x .voltage emf
  let s := s.modLane x fun l => { l with emf := emf }
  if s.flag (Fld.POS_STATUS_INJ_ON a) && decide (was ≠ 0) then
    s.modPos a fun p => { p with eps := p.eps + signRat was * dq }
  else s

/-- The load-torque observer of the axis lane (R255), with the torques published when its inputs were latched (R236); on a shared
axis t_e is the axis total of R345. -/
def State.loadObserver (s : State) (a x : Fin 4) (inp : LaneIn) : State :=
  if s.axisLane a != x then s.setReg (Reg.LOOM_TL x) 0
  else
    let t := s.tUpd x
    let j := s.p20 41 a
    let wo := s.p20 40 a
    let live := inp.pubs.foldl (fun z p => z + p.2.te) s.lane[x].te
    let te := if s.isShared a then live + s.lsh[a].teDiff else live
    let l := s.lane[x]
    let e := inp.wMech - l.wHat
    let w := s.fix x .speed (l.wHat + t * ((te - l.tlHat - s.p20 42 a * l.wHat) / j + 2 * wo * e))
    let tl := s.fix x .torque (l.tlHat - t * j * wo * wo * e)
    let s := s.modLane x fun l => if j = 0 then { l with tlHat := 0 } else { l with wHat := w, tlHat := tl }
    s.setReg (Reg.LOOM_TL x) (ratToF32 s.lane[x].tlHat)

/-- STALE (R252): a publication older than two update periods of a lane whose set is in RUN. -/
def State.staleCheck (s : State) (a x : Fin 4) : State :=
  let lim : Rat := 2 * s.tUpd x * 1_000_000_000
  let old := (s.axisSets a).any fun y =>
    s.setState y == .run &&
    (match s.lane[y].pub with
     | some p => decide (lim < ((s.now - p.t.toNat : Nat) : Rat))
     | none => false)
  if old then forAll (s.axisSets a) (fun y t => t.laneFault y (Fld.LOOM_FAULT_STALE y)) s else s

/-- Reports an update in the registers of the lane (R267, R269, R270). -/
def State.laneReport (s : State) (x : Fin 4) (inp : LaneIn) (c : Control) (te : Rat) (busy : BitVec 16) : State :=
  let s := (s.setReg (Reg.LOOM_IDREF x) (ratToF32 c.iref.d)).setReg (Reg.LOOM_IQREF x) (ratToF32 c.iref.q)
  let s := (s.setReg (Reg.LOOM_ID x) (ratToF32 c.im.d)).setReg (Reg.LOOM_IQ x) (ratToF32 c.im.q)
  let s := (s.setReg (Reg.LOOM_VD x) (ratToF32 c.vout.d)).setReg (Reg.LOOM_VQ x) (ratToF32 c.vout.q)
  let s := (s.setReg (Reg.LOOM_DID x) (ratToF32 c.did)).setReg (Reg.LOOM_BAL x) (ratToF32 c.bs.mag)
  let s := s.setReg (Reg.LOOM_TE x) (ratToF32 te)
  let s := (s.setFlag (Fld.LOOM_STATUS_VSAT x) c.vsat).setFlag (Fld.LOOM_STATUS_ILIM x) c.ilim
  let s := (s.setFlag (Fld.LOOM_STATUS_FW_ACT x) (decide (c.did < 0))).setFlag (Fld.LOOM_STATUS_BAL_LIM x) c.balLim
  let s := (s.setFlag (Fld.LOOM_STATUS_PI_ACT x) c.pi).setFlag (Fld.LOOM_STATUS_INJ x) (decide (inp.inj ≠ 0))
  let s := (s.setFlag (Fld.LOOM_STATUS_APPLIED_DIFF x) (s.appliedDiff x)).setFlag (Fld.LOOM_STATUS_DEPTH_SEEN x)
    (s.flag (Fld.PWM_STATUS_DEPTH_LIM x))
  let fel := absRat inp.w / Config.twoPi
  let s := (s.setFlag (Fld.LOOM_STATUS_FEL_HIGH x) (decide (1 / (8 * s.tUpd x) < fel))).setFlag (Fld.LOOM_STATUS_ACTIVE x) true
  let s := s.setFld (Fld.LOOM_TIME_LAST x) busy.toNat
  s.setFld (Fld.LOOM_TIME_PEAK x) (max busy.toNat (s.fld (Fld.LOOM_TIME_PEAK x)))

/-- The voltage of HF_IDENT while pos inj runs (R304): INJ_AMP of the link's v_lim, in the sign of the square wave of R278, in a
direction that CP_1 turns once through 360°, at a rate the spec does not give: a free value (log entry 61). -/
def State.identUpdate (s : State) (a x : Fin 4) : State :=
  let mine := s.con.begun &&
    (match s.con.test with
     | some (.posInj b _ _, some y) => b == a && y == x
     | _ => false)
  if !mine then s
  else
    let vdc := s.mfe[x].vdc
    let v := s.par 22 21 a.val / 100 * (vdc / Config.sqrt 3) * signRat (s.injectionNow a)
    let (dir, s) := s.freeRat
    let c := s.modulate x (clarkeInv ((DQ.mk v 0).ipark dir)) vdc
    s.modPwm x fun p => { p with duties := some c }

/-- One update of a lane: control, report, observe, publish. A residue error suppresses the update request (R260). -/
def State.laneUpdate (s : State) (a x : Fin 4) (inp : LaneIn) (fresh : Bool) (busy : BitVec 16) (request : Bool) : State :=
  let c := s.control a x inp fresh
  let te := if s.inPulseBlock x then 0 else s.fix x .torque (s.torqueOf a s.lane[x].psiR c.im)
  let s := s.laneReport x inp c te busy
  let s := if request then s.modPwm x fun p => { p with sent := some c.cmp } else s
  let s := s.lanePos a x inp c
  let s := s.fluxObserver a x inp c
  let vdc := s.mfe[x].vdc
  let run := s.setState x == .run
  let ab := if run then s.appliedAB x vdc else c.ab
  let ab := s.fixDQ x .voltage ab
  let iab := s.fixDQ x .current (clarke s.mfe[x].amps)
  let inj := c.inj
  let iInj := if inj = 0 then 0 else s.fix x .current (s.lane[x].iInj + inj * s.tUpd x / s.p20 11 a)
  let status := s.reg (Reg.LOOM_STATUS x)
  let s := s.modLane x fun l =>
    { l with
      inp := none, im := c.im, vapp := c.v, vab := ab, iab := iab, did := c.did, vdb := c.vdb, vlim := c.vlim
      vout := c.vout, x := c.x, bs := c.bs, iq := c.iref.q, law := c.pi, sentC := if request then c.cmp else l.sentC
      te := te, injs := (inj :: l.injs).take 3
      iInj := iInj, pub := some { i := c.im, v := c.v, te := te, t := inp.t, status := status } }
  let s := s.loadObserver a x inp
  let s := if s.axisLane a == x then s.posUpdate a (decide (inp.inj ≠ 0)) else s
  (s.identUpdate a x).staleCheck a x

/-- INLINE_DELIVERY (R204, R235, R237 to R262): the currents and the DC-link sample arrive and the lane runs its control
and observe phases. `busy` is the lane's occupancy in 2.5 ns,
beyond 1.8 µs an OVERRUN (R262, R269); `err` is what its checks find. -/
def execInlineDelivery (x : Fin 4) (ps : Raw3) (busy : BitVec 16) (err : Option LaneErr) (s : State) : Res :=
  if !s.clocksRun x then .next s
  else
    let (fresh, s) := s.deliver x ps
    match s.ownerAxis x, s.lane[x].inp with
    | some a, some inp =>
      if s.flag (Fld.LOOM_STATUS_FAULTED x) then .next s.settle
      else if 0x2D0 < busy.toNat then .next (s.laneFault x (Fld.LOOM_FAULT_OVERRUN x)).settle
      else
        match err with
        | none => .next (s.laneUpdate a x inp fresh busy true).settle
        | some .corrected => .next ((s.incSat (Fld.LOOM_ECC_CE x)).laneUpdate a x inp fresh busy true).settle
        | some .residue => .next (s.laneFault x (Fld.LOOM_FAULT_RESIDUE x)).settle
        | some (.double addr shared) => .next (s.eccDue x addr shared).settle
    | _, _ => .next s.settle

end Sys2Proof.Machine
end

