-- ==== Sys2Proof/Machine/Motion.lean ====
section
/-! DEFINITION. Jerk-limited motion: plans made of segments of constant jerk (R406, R408, R310), how far they go, and
running them for a time. Square roots are those of log entry 4; the peak of a plan is found by bisection (log entry
"plans"). -/

namespace Sys2Proof.Machine

/-- Position, velocity and acceleration. -/
structure Kin where
  p : Rat
  v : Rat
  a : Rat
deriving DecidableEq, Repr

/-- A plan: jerk and duration of each segment. -/
abbrev Plan := List (Rat × Rat)

/-- One segment of constant jerk. -/
def Kin.move (k : Kin) (j t : Rat) : Kin :=
  { p := k.p + k.v * t + k.a * t * t / 2 + j * t * t * t / 6, v := k.v + k.a * t + j * t * t / 2, a := k.a + j * t }

/-- Runs a plan for a time; what remains of the plan, and where it has come. -/
def runPlan : Plan → Rat → Kin → Plan × Kin
  | [], _, k => ([], k)
  | (j, d) :: r, t, k => if t < d then ((j, d - t) :: r, k.move j t) else runPlan r (t - d) (k.move j d)

/-- Where a plan ends. -/
def endPlan (l : Plan) (k : Kin) : Kin := l.foldl (fun k s => k.move s.1 s.2) k

/-- Sign of a number as −1, 0 or 1. -/
def sgn (x : Rat) : Rat := if x < 0 then -1 else if 0 < x then 1 else 0

/-- The shortest change of velocity from (v, a) to (v1, 0) with jerk ±j and acceleration up to lim: at most three
segments. -/
def velPlan (j lim v a v1 : Rat) : Plan :=
  let free := v + a * absRat a / (2 * j)
  let d := if v1 < free then -1 else 1
  let a0 := d * a
  let need := d * (v1 - v)
  let peak2 := j * need + a0 * a0 / 2
  let peak := Config.sqrt peak2
  if lim * lim < peak2 then
    let s1 := sgn (lim - a0)
    let t1 := absRat (lim - a0) / j
    let g1 := a0 * t1 + s1 * j * t1 * t1 / 2
    [(d * s1 * j, t1), (0, (need - g1 - lim * lim / (2 * j)) / lim), (-d * j, lim / j)]
  else [(d * j, max 0 ((peak - a0) / j)), (-d * j, peak / j)]

/-- The limit of the acceleration of a change of velocity from (v, a) through zero to vp, with one plateau, as the seven segments of R406
allow: |a| stays at or below DEC before zero velocity and at or below ACC after it. -/
def turnLimit (j acc dec v a vp : Rat) : Rat :=
  if dec < acc then (if a * a + 2 * j * absRat v ≤ dec * dec then acc else dec)
  else if 2 * j * absRat vp ≤ acc * acc then dec else acc

/-- The plan to a distance whose highest velocity is vp: up to vp, then down to rest (both signed). -/
def peakPlan (j acc dec v a vp : Rat) (cruise : Rat) : Plan :=
  let up := if absRat v < absRat vp && decide (0 ≤ v * vp) then acc else if v * vp < 0 then turnLimit j acc dec v a vp else dec
  velPlan j up v a vp ++ [(0, cruise)] ++ velPlan j dec vp 0 0

/-- How far a plan goes. -/
def planDist (l : Plan) (v a : Rat) : Rat := (endPlan l { p := 0, v := v, a := a }).p

/-- The peak between lo and hi at which a plan goes the distance, by n halvings; the distance grows with the peak. -/
def bisect (f : Rat → Rat) (dist : Rat) : Nat → Rat → Rat → Rat
  | 0, lo, hi => (lo + hi) / 2
  | n + 1, lo, hi =>
    let m := (lo + hi) / 2
    if f m < dist then bisect f dist n m hi else bisect f dist n lo m

/-- The plan from (v, a) over a signed distance within the limits (R406), and whether it first comes to rest beyond
the target, since even the shortest way to rest leads past it. Distances and velocities are taken in the direction of the distance. -/
def movePlan (vmax acc dec j v a dist : Rat) : Plan × Bool :=
  let stop := velPlan j dec v a 0
  let rest := planDist stop v a
  let d := if dist < 0 ∨ dist = 0 ∧ rest < 0 then -1 else 1
  if d * dist < d * rest then (stop, true)
  else
    let f (vp : Rat) : Rat := d * planDist (peakPlan j acc dec v a (d * vp) 0) v a
    let full := f vmax
    if full ≤ d * dist then (peakPlan j acc dec v a (d * vmax) ((d * dist - full) / vmax), false)
    else (peakPlan j acc dec v a (d * bisect f (d * dist) 48 0 vmax) 0, false)

/-- One period of a ramp of R310 from speed n with acceleration a to a target. With ROUND above 0 the acceleration
changes by rate / ROUND; the ramp lands on its target. -/
def rampStep (rate round n a target t : Rat) : Rat × Rat :=
  if n = target ∧ a = 0 then (n, 0)
  else if round = 0 then
    if absRat (target - n) ≤ rate * t then (target, 0)
    else (n + sgn (target - n) * rate * t, sgn (target - n) * rate)
  else
    let r := runPlan (velPlan (rate / round) rate n a target) t { p := 0, v := n, a := a }
    if r.1.isEmpty then (target, 0) else (r.2.v, r.2.a)

/-- Moves a value towards another by at most a step. -/
def towards (x goal step : Rat) : Rat := if absRat (goal - x) ≤ step then goal else x + sgn (goal - x) * step

end Sys2Proof.Machine
end

