-- ==== Sys2Proof/Machine/Spd.lean ====
section
/-! DEFINITION. Speed loop, ramps and shock handling (chapter of that name): the speed-loop period with its limits,
ramp, loop, limiter, snatch, slack, ventilation and heave, the ends of the stop, and the axis descriptors. Torques in
N·m, n and n_ref in min⁻¹, n_f in rad/s of the shaft. -/

namespace Sys2Proof.Machine

/-! ## Settings -/

/-- T_spd, in s (R311, R323). -/
def State.tSpd (s : State) (a : Fin 4) : Rat := 1 / ((4000 * 2 ^ min 2 (s.fld (Fld.SPD_CFG_FSPD a)) : Nat) : Rat)

/-- A P24 parameter of an axis. -/
def State.p24 (s : State) (i : Nat) (a : Fin 4) : Rat := s.par 24 i a.val

/-- A P26 parameter of an axis. -/
def State.p26 (s : State) (i : Nat) (a : Fin 4) : Rat := s.par 26 i a.val

/-- LINE_SIGN as ±1. -/
def State.lineSign (s : State) (a : Fin 4) : Rat := if s.flag (Fld.SPD_CFG_LINE_SIGN a) then -1 else 1

/-- KP_N, derived where it is 0 (R311). -/
def State.kpN (s : State) (a : Fin 4) : Rat := if s.p24 11 a = 0 then s.par 20 41 a.val * s.p24 10 a else s.p24 11 a

/-- KI_N, derived where it is 0 (R311). -/
def State.kiN (s : State) (a : Fin 4) : Rat := if s.p24 12 a = 0 then s.kpN a * s.p24 10 a / 4 else s.p24 12 a

/-- ω_m of an axis in rad/s of the shaft (R275, R276): the port's speed unchanged, or the estimate while it is VALID. -/
def State.shaftSpeed (s : State) (a : Fin 4) : Rat :=
  if s.source_ a == 1 && !s.flag (Fld.POS_STATUS_BACKUP a) then toRad (s.portRpm (s.commPort a))
  else if s.flag (Fld.POS_STATUS_VALID a) then toRad (s.rpmOf a s.pos[a].w) else 0

/-! ## Limits (R314) -/

/-- The limits of a period: l_pos and l_neg after every factor, the line-holding limit without the shock step, whether
a power limit binds, and whether the shock limit stands above the normal one. -/
structure Limits where
  pos    : Rat
  neg    : Rat
  normal : Rat
  plim   : Bool
  shock  : Bool
deriving DecidableEq, Repr

/-- A quadrant limit held down by a power limit; 0 is no limit (R314). -/
def capPower (t p w : Rat) : Rat := if p = 0 then t else min t (p / w)

/-- k_cap on the lead of a shared axis, else 1 (R343). -/
def State.capOf (s : State) (a : Fin 4) : Rat := if s.isShared a && s.fld (Fld.LSH_STATE_ROLE a) == 1 then s.lsh[a].kcap else 1

/-- k_rs (R289, R314). -/
def State.krs (s : State) (a : Fin 4) : Rat :=
  match s.spd[a].krsT0 with
  | none => 1
  | some t => clampRat 0 1 (s.since t * 1000 / s.par 22 43 a.val)

/-- The limits of a period (R314, R318). -/
def State.limits (s : State) (a : Fin 4) : Limits :=
  let p := s.spd[a]
  let k := s.capOf a
  let w := max (absRat p.nf) (toRad (s.p24 36 a))
  let raw (i : Nat) : Rat := s.p24 i a * k
  let mot (i : Nat) : Rat := capPower (raw i) (s.p24 34 a * k) w
  let gen (i : Nat) : Rat := capPower (raw i) (s.p24 35 a * k) w
  let z := toRad (s.p24 6 a)
  let fwd := decide (z < p.nf)
  let rev := decide (p.nf < -z)
  -- quadrant and power: the limit, and whether its direction generates
  let pos := if fwd then mot 30 else if rev then gen 33 else min (mot 30) (gen 33)
  let neg := if fwd then gen 31 else if rev then mot 32 else min (gen 31) (mot 32)
  let raw0 := if fwd then raw 30 else if rev then raw 33 else min (raw 30) (raw 33)
  let raw1 := if fwd then raw 31 else if rev then raw 32 else min (raw 31) (raw 32)
  let plim := decide (pos < raw0) || decide (neg < raw1)
  let all := p.kth * s.krs a
  let fp := if rev then all * p.krg else all
  let fn := if fwd then all * p.krg else all
  -- between the quadrants the generating limit alone carries k_rg
  let near := !fwd && !rev
  let posF := if near then min (mot 30 * all) (gen 33 * all * p.krg) else pos * fp
  let negF := if near then min (gen 31 * all * p.krg) (mot 32 * all) else neg * fn
  let up := !s.flag (Fld.SPD_CFG_LINE_SIGN a)
  let normal := if up then posF else negF
  let line := if up then pos else neg
  let f := if up then fp else fn
  let step :=
    if p.shock.isSome then some (s.p26 4 a)
    else match p.relAt with
      | some (t, from_) =>
        let g := s.since t * 1000 / s.p26 6 a
        if 1 ≤ g then none else some (from_ + (line - from_) * g)
      | none => none
  match step with
  | none => { pos := posF, neg := negF, normal := normal, plim := plim, shock := false }
  | some t =>
    let l := t * f
    { pos := if up then l else posF, neg := if up then negF else l, normal := normal, plim := plim
      shock := decide (normal < l) }

/-! ## The law of R311 -/

/-- One evaluation of the law: the torque, the new integrator, and whether it was clamped. -/
def State.law (s : State) (a : Fin 4) (l : Limits) (nRef x ff : Rat) : Rat × Rat × Bool :=
  let e := toRad nRef - s.spd[a].nf
  let t := s.kpN a * e + x + ff
  let c := clampRat (-l.neg) l.pos t
  let free := decide (c = t) || (decide (l.pos < t) && decide (e < 0)) || (decide (t < -l.neg) && decide (0 < e))
  (c, if free then x + s.tSpd a * s.kiN a * e else x, decide (c ≠ t))

/-- The issued torque under the speed limiter (R312): the mode's torque against a second instance of the law at ±N_LIM;
the smaller in the direction of rotation. -/
def State.limiter (s : State) (a : Fin 4) (l : Limits) (nLim tm ff : Rat) : Rat × State :=
  let p := s.spd[a]
  let back := decide (p.nf < 0)
  let blocked := s.flag (if back then Fld.PRG_STATE_BLK_NEG a else Fld.PRG_STATE_BLK_POS a)
  let n := if blocked then 0 else if back then -nLim else nLim
  let r := s.law a l n p.x2 ff
  let guard := if back then decide (tm < r.1) else decide (r.1 < tm)
  let s := (s.modSpd a fun q => { q with x2 := if guard then r.2.1 else tm }).setFlag (Fld.SPD_STATE_VGUARD a) guard
  (if guard then r.1 else tm, s)

/-! ## Heave feedforward (R322) -/

/-- Whether an axis takes heave feedforward. -/
def State.heaveOn (s : State) (a : Fin 4) : Bool :=
  s.isClassW a && s.flag (Fld.SPD_CFG_HEAVE_EN a) && s.fld (Fld.SPD_CFG_MODE a) < 2

/-- The fade of the heave feedforward starts from the values applied. -/
def State.heaveFade (s : State) (a : Fin 4) : State :=
  let now := s.weft
  let p := s.spd[a]
  if p.hvFade.isSome || (p.hvSpd = 0 && p.hvAcc = 0 && p.hvLast.isNone) then s
  else
    (s.modSpd a fun q => { q with hvFade := some (now, q.hvSpd, q.hvAcc), hvStall := none, hvLast := none, hvGap := 0 }).setFlag
      (Fld.SPD_STATE_HV_FADE a) true

/-- The heave feedforward of a period. -/
def State.heave (s : State) (a : Fin 4) : State :=
  let now := s.weft
  let cur := s.spd[a]
  let past := cur.hv.filter fun e => decide (e.time.toNat ≤ now.toNat)
  let next := cur.hv.filter fun e => decide (now.toNat < e.time.toNat)
  let s := s.modSpd a fun p => { p with hv := next, hvLast := past.getLast?.or p.hvLast }
  let s := if s.axState a == AxSt.STOPPING || !s.heaveOn a then s.heaveFade a else s
  let p := s.spd[a]
  let fadeT := s.p24 53 a / 1000
  let lim := s.p24 51 a
  let running := s.heaveOn a && s.axState a == AxSt.RUNNING
  let live := match p.hvLast, next with
    | some e0, e1 :: _ =>
      let f : Rat := ((now.toNat - e0.time.toNat : Nat) : Rat) / (e1.time.toNat - e0.time.toNat : Nat)
      let mix (u v : Word) : Rat := f32Val u + (f32Val v - f32Val u) * f
      some (clampRat (-lim) lim (mix e0.speed e1.speed), mix e0.accel e1.accel)
    | _, _ => none
  match running, live with
  | true, some (v, acc) =>
    let gap := if p.hvFade.isSome || p.hvOut then p.hvSpd - v else p.hvGap
    let gap := towards gap 0 (lim * s.tSpd a / fadeT)
    let s := s.modSpd a fun q => { q with hvSpd := v + gap, hvAcc := acc, hvGap := gap, hvOut := false, hvFade := none, hvStall := none }
    (s.setFlag (Fld.SPD_STATE_HV_FADE a) false).setFlag (Fld.SPD_STATE_HV_ACT a) true
  | _, _ =>
    match p.hvFade with
    | some (t, v, acc) =>
      let f := if fadeT = 0 then 1 else s.since t / fadeT
      if 1 ≤ f then
        (forAll [Fld.SPD_STATE_HV_FADE a, Fld.SPD_STATE_HV_ACT a] (fun g u => u.setFlag g false) s).modSpd a fun q =>
          { q with hvSpd := 0, hvAcc := 0, hvFade := none }
      else s.modSpd a fun q => { q with hvSpd := v * (1 - f), hvAcc := acc * (1 - f) }
    | none =>
      if p.hvLast.isSome && p.hvStall.isNone && running then s.modSpd a fun q => { q with hvStall := some now } else s

/-! ## The ramp (R310) -/

/-- The commanded speed under the island's clamp (R425, R442): with SLS_CLAMP set, within ±0.95 of the active SLS limit. -/
def State.slsClamp (s : State) (a : Fin 4) (n : Rat) : Rat :=
  match s.flag (Fld.SFI_AX_STATE_SLS a) && s.parOn 41 12 a.val, s.slsIndex a with
  | true, some i =>
    let m := s.slsLim a i * 95 / 100
    clampRat (-m) m n
  | _, _ => n

/-- The commanded speed the ramp goes to: 0 while slack holds it, in STOPPING and while it points into a reached limit
(R308, R319, R410); in POSITION mode the position loop's (R318); under the island's clamp (R425); and within
±N_MAX (R309). -/
def State.rampTarget (s : State) (a : Fin 4) : Rat :=
  let p := s.spd[a]
  if p.slackHold then 0
  else if s.fld (Fld.SPD_CFG_MODE a) == 1 && !p.solo then p.nPos
  else if s.axState a == AxSt.STOPPING then 0
  else
    let n := clampRat (-(s.p24 4 a)) (s.p24 4 a) (s.slsClamp a p.ncmd)
    if (decide (0 < n) && s.flag (Fld.PRG_STATE_BLK_POS a)) || (decide (n < 0) && s.flag (Fld.PRG_STATE_BLK_NEG a)) then 0 else n

/-- One period beyond zero speed with more acceleration `a0` than ACC (R310), `left` before the target: the acceleration falls to ACC over
ROUND where the ramp can then still land; else it falls to 0 at the rate that lands on the target. Gives the way of the period and the
acceleration after it. -/
def rampDown (acc dec round a0 left t : Rat) : Rat × Rat :=
  let k := (if acc = dec then acc else absRat (acc - dec)) / round
  let way := (a0 + acc) / 2 * ((a0 - acc) / k) + acc * round / 2
  if way ≤ left then
    let a1 := towards a0 acc (k * t)
    ((a0 + a1) / 2 * t, a1)
  else
    let j := a0 * a0 / (2 * left)
    if a0 ≤ j * t then (left, 0) else (a0 * t - j * t * t / 2, a0 - j * t)

/-- One period of the ramp (R310): DEC towards zero speed, ACC away from it; through zero the acceleration keeps its sign and changes
from the DEC rate to the ACC rate over ROUND. The ramp lands on its target. -/
def State.ramp (s : State) (a : Fin 4) : State :=
  let p := s.spd[a]
  let t := s.tSpd a
  let goal := s.rampTarget a
  let round := s.p24 23 a
  let acc := s.p24 20 a
  let dec := if s.axState a == AxSt.STOPPING && p.quick then s.p24 22 a else s.p24 21 a
  let through := decide (p.n * goal < 0)
  let down := through || decide (absRat goal < absRat p.n)
  let rate := if down then dec else acc
  let left := absRat (goal - p.n)
  let a0 := absRat p.acc
  let sg := sgn p.acc
  let beyond := !down && round != 0 && decide (0 < p.acc * (goal - p.n))
  let high := beyond && decide (acc < a0)
  let rise := beyond && p.rampX && decide (a0 < acc) && decide (a0 * a0 * round / (2 * acc) < left)
  let r :=
    if high then
      let q := rampDown acc dec round a0 left t
      (p.n + sg * q.1, sg * q.2)
    else if rise then
      let a1 := towards a0 acc (absRat (acc - dec) * t / round)
      (p.n + sg * (a0 + a1) / 2 * t, sg * a1)
    else rampStep rate round p.n p.acc goal t
  let crossed := through && decide (0 ≤ r.1 * goal) && decide (absRat r.2 = dec)
  s.modSpd a fun q => { q with n := r.1, acc := r.2, rampX := crossed || (q.rampX && (high || rise)) }

/-! ## Shock, slack and ventilation -/

/-- In POSITION mode a yield and a slack hold take the speed reference from the position loop, from its present value on (R318,
R319). -/
def State.ownRef (s : State) (a : Fin 4) : State :=
  if s.fld (Fld.SPD_CFG_MODE a) == 1 && !s.spd[a].back then s.modSpd a fun q => { q with back := true, n := q.nPos, acc := 0 } else s

/-- Snatch detection (R318): a window starts, or within SN_REARM of the last one, its last instant counted (R7), the snatch is only
counted. -/
def State.snatch (s : State) (a : Fin 4) : State :=
  if !(s.isClassW a && s.flag (Fld.SPD_CFG_SNATCH_EN a) && s.axActive a) then s
  else
    let p := s.spd[a]
    let sg := s.lineSign a
    let now := s.weft
    let load := sg * s.loadTorque a
    let old := p.tlHist.find? fun e => decide (e.1.toNat + 1_000_000 ≤ now.toNat)
    let on := decide (s.p26 3 a < load) &&
      (match old with
       | some e => decide (s.p26 2 a / 1000 < load - sg * e.2)
       | none => false)
    let s := s.modSpd a fun q => { q with snOn := on }
    if !on || p.snOn || p.shock.isSome then s
    else
      let s := s.incSat (Fld.SPD_CNT_SNATCH a)
      let rearm := match p.winEnd with
        | some t => decide (s.since t ≤ s.p26 7 a)
        | none => false
      if rearm then
        let r := s.freeNat
        r.2.journal (r.1 % 65536) a.val
      else
        let s := (s.ownRef a).modSpd a fun q => { q with shock := some { t0 := now, since := none }, relAt := none }
        (s.setFlag (Fld.SPD_STATE_SHOCK a) true).setFlag (Fld.SPD_STATE_YIELD a) true

/-- Slack rope (R319): since when the axis pays out with the load below SLACK_TH. -/
def State.slackWatch (s : State) (a : Fin 4) : State :=
  if !(s.isClassW a && s.flag (Fld.SPD_CFG_SLACK_EN a)) then s
  else
    let p := s.spd[a]
    let sg := s.lineSign a
    let now := s.weft
    let on := decide (sg * p.nf < -(toRad (s.p24 6 a))) && decide (sg * s.loadTorque a < s.p26 11 a)
    let s := s.modSpd a fun q => { q with slackAt := if on then some (q.slackAt.getD now) else none }
    when (!on) (·.setFlag (Fld.SPD_STATE_SLACK a) false) s

/-- Ventilation (R320): detection, and since when the load has recovered. -/
def State.ventWatch (s : State) (a : Fin 4) : State :=
  let p := s.spd[a]
  let now := s.weft
  let tl := s.loadTorque a
  match p.vent with
  | some v =>
    let back := decide (s.p26 26 a / 100 * absRat v.tPre ≤ absRat tl)
    s.modSpd a fun q => { q with vent := some { v with since := if back then some (v.since.getD now) else none } }
  | none =>
    if s.isClassW a || !s.flag (Fld.SPD_CFG_VENT_EN a) || s.axState a != AxSt.RUNNING then s
    else
      let win := p.tlHist.filter fun e => decide (s.since e.1 * 1000 ≤ s.p26 23 a)
      let n := win.length
      let mean := if n = 0 then 0 else (win.foldl (fun m e => m + e.2) 0) / (n : Rat)
      let high := win.any fun e => decide (s.since e.1 * 1000 ≤ s.p26 22 a) && decide (absRat mean ≤ absRat e.2)
      let low := decide (absRat tl < (1 - s.p26 21 a / 100) * absRat mean)
      if decide (s.p26 29 a / 100 * s.p24 4 a < absRat (toRpm p.nf)) && high && low then
        let s := s.modSpd a fun q => { q with vent := some { tPre := mean, pPre := mean * q.nf, t0 := now, since := none } }
        (s.setFlag (Fld.SPD_STATE_VENT a) true).incSat (Fld.SPD_CNT_VENT a)
      else s

/-- The torque of a ride-through (R320). -/
def State.ventTorque (s : State) (a : Fin 4) (v : Vent) : Rat :=
  if s.flag (Fld.SPD_CFG_VENT_MODE a) then
    sgn v.tPre * absRat v.pPre / max (absRat s.spd[a].nf) (toRad (s.p24 36 a))
  else v.tPre

/-! ## The speed-loop period (R311, R316) -/

/-- n_f of a period, NACT, and the overspeed count (R311, R317). -/
def State.speedFilter (s : State) (a : Fin 4) : State :=
  let t := s.tSpd a
  let tf := s.p24 13 a / 1000
  let w := s.shaftSpeed a
  let s := s.modSpd a fun p => { p with nf := p.nf + t / (tf + t) * (w - p.nf) }
  let n := toRpm s.spd[a].nf
  let fast := decide (s.p24 5 a / 100 * s.p24 4 a < absRat n) && s.p24 4 a != 0
  (s.modSpd a fun p => { p with overN := if fast then p.overN + 1 else 0 }).setReg (Reg.SPD_NACT a) (ratToF32 n)

/-- One period of the regenerative ramp of each set: down over its REGEN_RAMP in an OV1 episode, back at the same rate. k_rg is the
smallest of the axis. DESIGN CHOICE (log entry 60): where REGEN_RAMP differs between the sets of an axis, each ramps by its own. -/
def State.regenRamp (s : State) (a : Fin 4) : Rat × State :=
  let t := s.tSpd a
  let s := forAll (s.axisSets a)
    (fun x u =>
      let step := t / u.par 16 25 x.val
      let ov := u.flag (Fld.PSP_STATE_OV1_LVL x)
      u.modPsp x fun p => { p with krg := clampRat 0 1 (p.krg + (if ov then -step else step)) }) s
  (((s.axisSets a).map fun x => s.psp[x].krg).foldl min 1, s)

/-- The factors latched at the period start (R155, R314). -/
def State.latchFactors (s : State) (a : Fin 4) : State :=
  let kth := if s.isShared a && s.fld (Fld.LSH_STATE_ROLE a) == 1 then 1 else s.thm.kth[a]
  let (krg, s) := s.regenRamp a
  let s := s.modSpd a fun p => { p with kth := kth, krg := krg }
  let code (k : Rat) : Nat := (quantise (k * 1000)).toNat
  let s := (s.setFld (Fld.SPD_FACT_KTH a) (code kth)).setFld (Fld.SPD_FACT_KRG a) (code krg)
  let s := s.setFld (Fld.SPD_FACT_KRS a) (code (s.krs a))
  let s := (s.setFlag (Fld.SPD_STATE_REGEN a) (decide (krg < 1))).setFlag (Fld.SPD_STATE_DERATE a) (decide (kth < 1))
  s.setFlag (Fld.SPD_STATE_RESUME a) (decide (s.krs a < 1))

/-- T̂_L of the period enters the history that R318 and R320 look back on. -/
def State.latchLoad (s : State) (a : Fin 4) : State :=
  let now := s.weft
  let tl := s.loadTorque a
  let keep := max 2 (if s.flag (Fld.SPD_CFG_VENT_EN a) then s.p26 23 a else 0)
  s.modSpd a fun p => { p with tlHist := (now, tl) :: p.tlHist.filter fun e => decide (s.since e.1 * 1000 ≤ keep) }

/-- The quadrant of the issued torque (R324). -/
def quadrant (nf t : Rat) : Nat := if 0 ≤ nf then (if 0 ≤ t then 0 else 1) else if t ≤ 0 then 2 else 3

/-- Issues T_ref with the values of the period (R324, R325). -/
def State.issue (s : State) (a : Fin 4) (l : Limits) (nRef t : Rat) (clamped : Bool) : State :=
  let p := s.spd[a]
  let s := s.modSpd a fun q => { q with tref := t, normal := l.normal }
  let s := (s.setReg (Reg.SPD_NREF a) (ratToF32 nRef)).setReg (Reg.SPD_TREF a) (ratToF32 t)
  let s := (s.setReg (Reg.SPD_TLPOS a) (ratToF32 l.pos)).setReg (Reg.SPD_TLNEG a) (ratToF32 l.neg)
  let s := (s.setReg (Reg.SPD_NCMD a) (ratToF32 p.ncmd)).setReg (Reg.SPD_HEAVE a) (ratToF32 p.hvSpd)
  let s := (s.setFlag (Fld.SPD_STATE_TLIM a) clamped).setFlag (Fld.SPD_STATE_PLIM a) l.plim
  (s.setFld (Fld.SPD_STATE_QUAD a) (quadrant p.nf t)).setFlag (Fld.SPD_STATE_SHOCK a) l.shock

/-- The torque of the period and the state it leaves: in the torque ramp of a stop the ramp (R308); in TORQUE mode and ventilation the
mode's torque, in TORQUE mode the torque ramp too, under the limiter (R312, R320); else the speed loop, which in OPEN_LOOP issues the
limit in the sign of n_ref (R315). -/
def State.torqueOut (s : State) (a : Fin 4) (l : Limits) (nRef ff : Rat) : Rat × Bool × State :=
  let p := s.spd[a]
  let lim (t : Rat) : Rat := clampRat (-l.neg) l.pos t
  let ol := s.flag (Fld.POS_STATUS_OPEN_LOOP a)
  let was := s.flag (Fld.SPD_STATE_OL a)
  let s := s.setFlag (Fld.SPD_STATE_OL a) ol
  let torque := s.fld (Fld.SPD_CFG_MODE a) == 2
  match p.offT0 with
  | some t0 =>
    let t := p.offT * max 0 (1 - s.since t0 / s.p24 25 a)
    if torque then
      let r := s.limiter a l (s.p24 4 a) (lim t) ff
      (r.1, decide (lim t ≠ t), r.2)
    else (lim t, decide (lim t ≠ t), s.setFlag (Fld.SPD_STATE_VGUARD a) false)
  | none =>
    let s : State := if was && !ol then s.modSpd a fun q => { q with x := q.tref } else s
    match p.vent with
    | some v =>
      let t := s.ventTorque a v
      let r := s.limiter a l (s.p26 25 a / 100 * s.p24 4 a) (lim t) ff
      (r.1, decide (lim t ≠ t), r.2)
    | none =>
      if torque && s.axState a == AxSt.RUNNING then
        let t := p.tcmd
        let r := s.limiter a l (s.p24 4 a) (lim t) ff
        (r.1, decide (lim t ≠ t), r.2.modSpd a fun q => { q with n := toRpm q.nf, acc := 0, x := r.1 })
      else
        let s := s.setFlag (Fld.SPD_STATE_VGUARD a) false
        if ol then
          let r := if nRef = 0 then s.freeBool else (decide (0 < nRef), s)
          (if r.1 then l.pos else -l.neg, false, r.2)
        else
          let r := s.law a l nRef s.spd[a].x ff
          let held := p.shock.isSome
          (r.1, r.2.2, s.modSpd a fun q => { q with x := if held then q.x else r.2.1, x2 := r.1 })

/-- Zero speed in STOPPING (R308): from the period in which the ramp reached 0, or the profile of POSITION mode came to rest, since when |ω̂_m| has been at or below
N_ZERO. -/
def State.zeroWatch (s : State) (a : Fin 4) : State :=
  if s.axState a != AxSt.STOPPING || s.spd[a].offT0.isSome then s
  else
    let now := s.weft
    let own := s.fld (Fld.SPD_CFG_MODE a) != 1 || s.spd[a].solo
    let r0 := s.spd[a].ramp0 || (own && s.spd[a].n = 0 && s.spd[a].acc = 0 && s.spd[a].shock.isNone)
    let slow := decide (absRat (toRpm (s.shaftSpeed a)) ≤ s.p24 6 a)
    s.modSpd a fun q => { q with ramp0 := r0, zeroAt := if r0 && slow then some (q.zeroAt.getD now) else none }

/-- The speed loop of an axis that closes it itself (R311 to R322). -/
def State.speedLoop (s : State) (a : Fin 4) : State :=
  let s := ((s.snatch a).slackWatch a).ventWatch a
  let l := s.limits a
  let now := s.weft
  let p := s.spd[a]
  let within := decide (s.lineSign a * s.loadTorque a ≤ l.normal)
  let s := s.modSpd a fun q =>
    { q with
      shock := q.shock.map fun w => { w with since := if within then some (w.since.getD now) else none }
      relAt := q.relAt.filter fun e => decide (s.since e.1 * 1000 < s.p26 6 a) }
  let s := s.heave a
  let pos := s.fld (Fld.SPD_CFG_MODE a) == 1
  let s : State :=
    if p.shock.isSome then
      s.modSpd a fun q => { q with n := q.n + (toRpm q.nf - q.n) * s.tSpd a * 1000 / s.p26 8 a, acc := 0 }
    else if pos && !p.back && !p.solo || p.vent.isSome || p.offT0.isSome then s
    else s.ramp a
  let s := s.modSpd a fun q =>
    { q with back := q.back && (q.shock.isSome || q.slackHold || decide (q.n ≠ q.nPos) || decide (q.acc ≠ 0)) }
  let own := !pos || s.spd[a].back || s.spd[a].solo
  let base := if own then s.spd[a].n else s.spd[a].nPos
  let m := s.p24 4 a
  let nRef := clampRat (-m) m (clampRat (-m) m base + s.spd[a].hvSpd)
  let ff := s.tff a (if own then s.spd[a].acc else 0) s.spd[a].hvAcc
  let r := s.torqueOut a l nRef ff
  (r.2.2.issue a l nRef r.1 r.2.1).zeroWatch a

/-- A follower's speed loop (R346): it tracks the lead so that it could take over without a step, and issues nothing. -/
def State.followLoop (s : State) (a : Fin 4) : State :=
  let g := s.lsh[a]
  let ff := s.tff a 0 0
  let e := toRad g.nRef - s.spd[a].nf
  let s := s.modSpd a fun p => { p with n := g.nRef, ncmd := g.nCmd, acc := 0, x := g.tRef - s.kpN a * e - ff, tref := g.tRef }
  (s.setReg (Reg.SPD_NREF a) (ratToF32 g.nRef)).setReg (Reg.SPD_NCMD a) (ratToF32 g.nCmd)

/-- SPEED_LOOP_PERIOD (R311, R316). -/
def execSpeedLoopPeriod (a : Fin 4) (s : State) : Res :=
  if !s.awake || !s.axisExists a then .next s
  else
    let s := (((s.speedFilter a).latchFactors a).latchLoad a).modSpd a fun q => { q with gone := false }
    let st := s.axState a
    if !(st == AxSt.RUNNING || st == AxSt.STOPPING) then .next s
    else if s.isFollower a then .next (s.followLoop a)
    else .next (s.speedLoop a)

/-- CPT or ENC_COUNTS of the port that closes the position loop of an axis (R276). -/
def State.encCounts (s : State) (a : Fin 4) : Rat := s.par 22 4 a.val

/-- The time since the last evaluation of a channel, in s. -/
def State.prgAge (s : State) (c : Fin 8) : Rat := s.since s.prg[c].at_

/-- The profile position of a channel now, linear since the last evaluation (chapter "Profile and pulse generator"). -/
def State.profNow (s : State) (c : Fin 8) : Rat := s.prg[c].p + s.prg[c].v * s.prgAge c

/-- POSITION_LOOP_TICK (R313, R407): position and velocity of the profile, each extrapolated to the tick, against the commutation port's
count; the result is the commanded speed, under the island's clamp (R425). -/
def execPositionLoopTick (a : Fin 4) (s : State) : Res :=
  let st := s.axState a
  if !(s.awake && s.axisExists a && s.fld (Fld.SPD_CFG_MODE a) == 1 && (st == AxSt.RUNNING || st == AxSt.STOPPING)) ||
      s.isFollower a then .next s
  else
    let c := axisChan a
    let ch := s.prg[c]
    let n := s.commPort a
    let cpt := s.encCounts a
    let p := nearest (s.profNow c)
    let nProf := if cpt = 0 then 0 else 60 * (ch.v + ch.a * s.prgAge c) / cpt
    let err := ((p - s.portPos n : Int) : Rat)
    let nRef := s.p24 41 a * nProf + (if cpt = 0 then 0 else s.p24 40 a * err * 60 / cpt)
    let hit := (decide (0 < nRef) && s.flag (Fld.PRG_STATE_BLK_POS c)) || (decide (nRef < 0) && s.flag (Fld.PRG_STATE_BLK_NEG c))
    let nRef := s.slsClamp a nRef
    .next (s.modSpd a fun q => { q with nPos := if hit then 0 else nRef })

/-! ## Ends of a stop, overspeed, windows -/

/-- ZERO_SPEED (R7, R308): longer than T_ZERO at or below N_ZERO; the axis holds zero speed for HOLD_ZERO_T more. -/
def execZeroSpeed (a : Fin 4) (s : State) : Res :=
  let p := s.spd[a]
  if s.axState a != AxSt.STOPPING || p.hold || !p.zeroAt.any fun t => decide (s.p24 7 a / 1000 < s.since t) then .next s
  else if s.p24 27 a = 0 then .next (s.setAxis a AxSt.STOPPED).settle
  else .next (s.modSpd a fun q => { q with hold := true })

/-- HOLD_ZERO_END (R308). -/
def execHoldZeroEnd (a : Fin 4) (s : State) : Res :=
  if s.axState a == AxSt.STOPPING && s.spd[a].hold then .next (s.setAxis a AxSt.STOPPED).settle else .next s

/-- T_OFF_RAMP_END (R308): STOPPED whatever the speed. -/
def execTOffRampEnd (a : Fin 4) (s : State) : Res :=
  let done := s.spd[a].offT0.any fun t => decide (s.p24 25 a ≤ s.since t)
  if s.axState a == AxSt.STOPPING && done then .next (s.setAxis a AxSt.STOPPED).settle else .next s

/-- STOP_TMO (R7, R308, R321): the axis has been STOPPING for longer than STOP_TMO. -/
def execStopTmo (a : Fin 4) (s : State) : Res :=
  if s.axState a == AxSt.STOPPING && s.overdue (.stop a) (s.p24 26 a * 1_000_000_000) then .next (s.axisFault a 6).settle else .next s

/-- OVERSPEED (R317, R321): four consecutive periods above N_TRIP × N_MAX. -/
def execOverspeed (a : Fin 4) (s : State) : Res :=
  if 4 ≤ s.spd[a].overN then .next (s.axisFault a 5).settle else .next s

/-- Whether a shock window is over (R7, R318): the load has been within the normal limit for longer than 10 ms, or SN_T has passed. -/
def State.shockOver (s : State) (a : Fin 4) : Bool :=
  s.spd[a].shock.any fun w => (w.since.any fun t => decide (1 / 100 < s.since t)) || decide (s.p26 5 a / 1000 < s.since w.t0)

/-- SHOCK_WINDOW_END (R318): YIELD clears, the limit returns over SN_REL, and a STOP that waited takes effect. -/
def execShockWindowEnd (a : Fin 4) (s : State) : Res :=
  if !s.shockOver a then .next s
  else
    let now := s.weft
    let stop := s.spd[a].pendStop
    let s := (s.endShock a).modSpd a fun q => { q with relAt := some (now, s.p26 4 a), acc := 0 }
    match stop with
    | none => .next s
    | some quick => .next (s.beginStop a quick).settle

/-- SLACK (R7, R319): the rope has been slack for longer than SLACK_T; counted, journalled, and the reaction of SLACK_ACT. -/
def execSlack (a : Fin 4) (s : State) : Res :=
  if s.flag (Fld.SPD_STATE_SLACK a) || !s.spd[a].slackAt.any fun t => decide (s.p26 12 a / 1000 < s.since t) then .next s
  else
    let s := (s.setFlag (Fld.SPD_STATE_SLACK a) true).incSat (Fld.SPD_CNT_SLACK a)
    match s.fld (Fld.SPD_CFG_SLACK_ACT a) with
    | 0 =>
      let r := s.freeNat
      .next (r.2.journal (r.1 % 65536) a.val)
    | 1 => .next (s.beginStop a true).settle
    | _ =>
      if s.axState a == AxSt.RUNNING then .next ((s.ownRef a).modSpd a fun q => { q with slackHold := true }) else .next s

/-- VENT_END (R7, R320): the load has recovered for longer than VENT_REC_T, or VENT_MAX_T has passed. -/
def execVentEnd (a : Fin 4) (s : State) : Res :=
  let done := s.spd[a].vent.any fun v =>
    (v.since.any fun t => decide (s.p26 27 a / 1000 < s.since t)) || decide (s.p26 28 a < s.since v.t0)
  .next (when done (·.endVent a) s)

/-- HEAVE_STALL (R7, R322): the hold has lasted longer than HV_HOLD. -/
def execHeaveStall (a : Fin 4) (s : State) : Res :=
  if s.spd[a].hvStall.any (fun t => decide (s.p24 52 a / 1000 < s.since t)) && s.spd[a].hvFade.isNone then
    .next (((s.heaveFade a).modSpd a fun q => { q with hvOut := true }).incSat (Fld.SPD_CNT_HV_STALL a))
  else .next s

/-! ## Axis descriptors (R306 to R309, R322, R353, R527) -/

/-- REF_SET (R309): latched by the motion sequencer. -/
def execRefSet (h : Desc) (value : Word) (s : State) : Res :=
  s.dispatch h 0x04 fun s =>
    match s.axisOf h, f32ToRat value with
    | some a, some v =>
      let m := s.fld (Fld.SPD_CFG_MODE a)
      if 1 < h.sub.toNat then s.complete h 0x04 St.BAD_FIELD
      else if s.isFollower a then s.complete h 0x04 St.NOT_LEAD
      else if s.axState a == AxSt.STOPPING then s.complete h 0x04 St.STOPPING
      else if m != 2 * h.sub.toNat then s.complete h 0x04 St.MODE_DENIED
      else
        let away := decide (0 < s.lineSign a * v)
        let lim := s.p24 4 a
        let n := clampRat (-lim) lim v
        let s := s.modSpd a fun p =>
          { p with
            ncmd := if m = 0 then n else p.ncmd, tcmd := if m = 2 then v else p.tcmd
            slackHold := p.slackHold && !away }
        let s := when (m == 0) (·.setReg (Reg.SPD_NCMD a) (ratToF32 n)) s
        s.complete h 0x04 St.SUCCESS
    | _, _ => s.complete h 0x04 St.BAD_FIELD

/-- What a STOP does to an axis itself (R306, R308): it ends a start, after which the axis is STOPPED, or it stops the axis. DESIGN CHOICE
(log entry 61): the start of a re-lock, which R306 takes to STOPPED and R291 to FAULTED, leaves the axis FAULTED. -/
def State.stopNow (s : State) (a : Fin 4) (quick : Bool) : State :=
  if s.axState a == AxSt.STARTING then
    if s.pos[a].start.any fun q => q.relock then (s.endStart a 0x16).endSeries a
    else (s.endStart a 0x16).setAxis a AxSt.STOPPED
  else s.beginStop a quick

/-- A STOP on an axis (R306, R308, R353). -/
def State.stopAxis (s : State) (h : Desc) (a : Fin 4) : State :=
  if s.isFollower a then s.complete h 0x06 St.NOT_LEAD
  else
    let s := s.stopNow a h.quick
    let s : State := if s.isShared a then
        { s with lsh := s.lsh.set a { s.lsh[a] with cmd := if h.quick then 3 else 2 } }
      else s
    s.settle.complete h 0x06 St.SUCCESS

/-- Whether a set of an axis has its DC link below UV (R157, R307). -/
def State.dcLow (s : State) (a : Fin 4) : Bool := (s.axisSets a).any fun x => s.flag (Fld.PSP_STATE_UV_LVL x)

/-- Whether the measurement of a set is not available (R221, R222): DC_DIVERGE, or a fitted input that is not working while the axis
may not enter fallback. DEDUCED (log entry 60): an input that only a latch holds invalid is first measured, since only an AXIS_ENABLE
at which it passes clears the latch (R206); the end of that measurement decides. -/
def State.measMissing (s : State) (x : Fin 4) : Bool :=
  s.flag (Fld.MFE_FAULT_DC_DIVERGE x) ||
  (three.any fun k => s.fitted x k && !s.inputValid x k && !s.inputAlive x k) && !s.fallbackOk x

/-- What keeps an axis from starting (R307, R645), none where it may. -/
def State.startRefusal (s : State) (a : Fin 4) : Option Nat :=
  if s.axState a != AxSt.STOPPED || s.reg (Reg.SPD_FAULT a) != 0 then some St.AXIS_FAULT
  else if !s.flag Fld.PSP_REQ_EN then some St.EN_LOW
  else if s.isClassW a && s.source_ a != 1 then some St.NO_FEEDBACK
  else if s.dcLow a then some St.DC_LOW
  else if (s.axisSets a).any fun x => s.measMissing x then some St.MEAS_FAIL
  else if (s.axisSets a).any fun x => s.sys.stoSetDeferred.getLsbD x.val then some St.STO_DEMANDED
  else none

/-- Whether the lead frame of the last cycle shows the lead's axis RUNNING (R353). -/
def State.leadRuns (s : State) (a : Fin 4) : Bool :=
  s.fld (Fld.LSH_STATE_LEAD_ADDR a) != 0 && s.lsh[a].noLead == 0 && s.lsh[a].lead.any fun f => f.flags.toNat % 8 == 2

/-- The refusal of an AXIS_ENABLE (R307, R645, R353), none where it is accepted. A follower that is not JOINED cannot start (R332). -/
def State.enableRefusal (s : State) (h : Desc) : Option Nat :=
  if !(s.mode == .ready || s.mode == .run) then some St.MODE_DENIED
  else if !s.profileActive then some St.NO_PROFILE
  else
    match s.axisOf h with
    | none => some St.BAD_FIELD
    | some a =>
      match s.startRefusal a with
      | some st => some st
      | none => if s.isFollower a && !(s.leadRuns a && s.fld (Fld.LSH_STATE_MSTATE a) == 2) then some St.NOT_LEAD else none

/-- AXIS_ENABLE (R307): a device in READY enters RUN and the start sequence begins; it completes when that ends. -/
def execAxisEnable (h : Desc) (s : State) : Res :=
  s.dispatch h 0x08 fun s =>
    match s.enableRefusal h, s.axisOf h with
    | some st, _ => s.refuse h 0x08 st
    | none, some a =>
      let s := when (s.mode == .ready) (·.setMode .run) (s.reqRes 1)
      let f : InFlight := { h := h, opcode := 0x08, inst := a.val }
      let s : State := { s with hif := { s.hif with inFlight := s.hif.inFlight ++ [f] } }
      let s : State := if s.isShared a && !s.isFollower a then
          { s with lsh := s.lsh.set a { s.lsh[a] with cmd := 1 } }
        else s
      (s.beginStart a false).settle
    | none, none => s.complete h 0x08 St.BAD_FIELD

/-- Takes an axis out without a ramp (R306), and with it a re-lock series. DESIGN CHOICE (log entry 61): the start of a re-lock, which
R306 takes to STOPPED and R291 to FAULTED, leaves the axis FAULTED. -/
def State.disableNow (s : State) (a : Fin 4) : State :=
  let again := s.pos[a].start.any fun q => q.relock
  if again then s.endSeries a
  else
    let s := s.modPos a fun p => { p with coast := false, relockOn := false }
    when (s.axActive a) (·.setAxis a AxSt.STOPPED) s

/-- AXIS_DISABLE (R306, R353, R527): at once, but for an active lead of a shared axis, where every member disables at
T_APPLY of the cycle whose lead frame carries CMD DISABLE; the descriptor completes then. -/
def execAxisDisable (h : Desc) (s : State) : Res :=
  s.dispatch h 0x09 fun s =>
    match s.axisOf h with
    | none => s.complete h 0x09 St.BAD_FIELD
    | some a =>
      if s.isShared a && !s.isFollower a && s.axActive a then
        let f : InFlight := { h := h, opcode := 0x09, inst := a.val }
        let s : State := { s with hif := { s.hif with inFlight := s.hif.inFlight ++ [f] } }
        { s with lsh := s.lsh.set a { s.lsh[a] with cmd := 4 } }
      else ((s.disableNow a).settle).complete h 0x09 St.SUCCESS

/-- Puts a heave entry among those waiting, by its stamp. -/
def insertHeave (e : HeaveEntry) : List HeaveEntry → List HeaveEntry
  | [] => [e]
  | x :: r => if e.time.toNat < x.time.toNat then e :: x :: r else x :: insertHeave e r

/-- HEAVE_STREAM (R322): entries that arrive after their stamp are discarded and counted. -/
def execHeaveStream (h : Desc) (es : List HeaveEntry) (s : State) : Res :=
  s.dispatch h 0x20 fun s =>
    match s.axisOf h with
    | none => s.complete h 0x20 St.BAD_FIELD
    | some a =>
      if h.sub.toNat = 0 ∨ 3 < h.sub.toNat then s.complete h 0x20 St.BAD_FIELD
      else if s.isFollower a then s.complete h 0x20 St.NOT_LEAD
      else if !s.heaveOn a then s.complete h 0x20 St.MODE_DENIED
      else
        let now := s.weft
        let s := forAll es
          (fun e t =>
            if e.time.toNat < now.toNat then t.incSat Fld.HIF_CNT_HV_LATE
            else t.modSpd a fun p => { p with hv := insertHeave e p.hv }) s
        s.complete h 0x20 St.SUCCESS

end Sys2Proof.Machine
end

