-- ==== Sys2Proof/Machine/Prg.lean ====
section
/-! DEFINITION. The profile and pulse generator (chapter of that name): profile evaluation, stops, limits, deviation,
step outputs, gearing, and the MOVE and STOP descriptors. Positions are in counts or steps. -/

namespace Sys2Proof.Machine

/-- A P32 parameter of a channel (R422). -/
def State.p32 (s : State) (i : Nat) (c : Fin 8) : Rat := s.par 32 i c.val

/-- A P32 parameter that counts user units, in counts or steps (R407). -/
def State.p32u (s : State) (i : Nat) (c : Fin 8) : Rat := s.p32 i c * s.p32 1 c

/-- Whether a channel drives a step output (R405). -/
def isStep (c : Fin 8) : Bool := decide (4 ≤ c.val)

/-- The axis of an axis channel. -/
def chanAxis (c : Fin 8) : Fin 4 := Fin.ofNat 4 c.val

/-- COUNT of a step channel (R413). -/
def State.stepCount (s : State) (c : Fin 8) : Int := s32 (s.reg (Reg.PRG_COUNT c))

/-- The port that PC_PORT or DEV_PORT names; 4 is none. -/
def State.portItem (s : State) (i : Nat) (c : Fin 8) : Option (Fin 4) :=
  let n := s.parNat 32 i c.val
  if n < 4 then some (Fin.ofNat 4 n) else none

/-- SOURCE of a step channel: 0 OFF, 1 PROFILE, 2 GEAR. -/
def State.stepSource (s : State) (c : Fin 8) : Nat := s.parNat 32 30 c.val

/-- Whether a port is invalid in the sense of R389. -/
def State.portBad (s : State) (n : Fin 4) : Bool :=
  s.flag (Fld.FBI_STATUS_FAULT n) || s.flag (Fld.FBI_STATUS_STALE n) || !s.flag (Fld.FBI_STATUS_TURN_OK n)

/-- Whether an axis channel is in use: its axis exists and is in POSITION mode. -/
def State.posMode (s : State) (c : Fin 8) : Bool :=
  !isStep c && s.axisExists (chanAxis c) && s.fld (Fld.SPD_CFG_MODE (chanAxis c)) == 1

/-- Reports the profile of a channel (R420). -/
def State.putProfile (s : State) (c : Fin 8) : State :=
  let p := s.prg[c]
  (s.setReg (Reg.PRG_PPROF c) (toS32 (nearest p.p))).setReg (Reg.PRG_VPROF c) (ratToF32 p.v)

/-! ## Stops (R408, R414) -/

/-- Gearing ends; the carriage stays where it is (R417). -/
def State.gearEnd (s : State) (c : Fin 8) : State :=
  if !s.flag (Fld.PRG_STATE_GEARED c) then s
  else
    let n := s.stepCount c
    let s := (s.setFlag (Fld.PRG_STATE_GEARED c) false).setFlag (Fld.PRG_STATE_GEAR_HOLD c) false
    (s.modPrg c fun p => { p with p := n, v := 0, a := 0, plan := [], rest := true, goal := n }).setFlag (Fld.PRG_STATE_MOVING c) false

/-- A hard stop (R408, R414): on an axis channel velocity and acceleration go to 0 at once; on a step channel no further
edge follows, and above F_START the position is no longer trusted. -/
def State.hardStop (s : State) (c : Fin 8) (halts : Bool) : State :=
  let s := (s.gearEnd c).setFlag (Fld.PRG_STATE_HARD c) true
  if !isStep c then
    (s.modPrg c fun p => { p with v := 0, a := 0, plan := [], rest := true, goAgain := false }).prgStop c .hard halts
  else
    let n := s.stepCount c
    let now := s.weft
    let fast := decide (s.p32 34 c < s.prg[c].rate)
    let s := s.modPrg c fun p =>
      { p with
        p := n, v := 0, a := 0, plan := [], rest := true, goAgain := false, goal := n, stop := none, replan := false
        halts := false, rate := 0, jog := 0
        checkAt := if fast && (s.portItem 12 c).isSome then some now else p.checkAt }
    let s := (s.setFlag (Fld.PRG_STATE_MOVING c) false).setFlag (Fld.PRG_STATE_STOPPING c) false
    when fast (·.setFlag (Fld.PRG_STATE_REF_LOST c) true) s

/-- A stop request of a kind (R408); any stop ends gearing (R417), and a channel at rest on a step output has nothing to
stop. -/
def State.stopChan (s : State) (c : Fin 8) (k : StopKind) (halts : Bool) : State :=
  match k with
  | .hard => s.hardStop c halts
  | _ =>
    if isStep c && s.flag (Fld.PRG_STATE_GEARED c) then (s.gearEnd c).setFlag (Fld.PRG_STATE_HARD c) false
    else if isStep c && s.prg[c].rest then s
    else (s.prgStop c k halts).softStop c

/-- The end of a stop: the channel is at rest, and an axis stopped by a STOP or a deviation goes on under R308 (R408). -/
def State.stopDone (s : State) (c : Fin 8) : State :=
  let p := s.prg[c]
  let quick := match p.stop with
    | some .ramped => false
    | _ => true
  let s := s.modPrg c fun q => { q with stop := none, halts := false, rest := true, plan := [], goal := q.p, goAgain := false }
  let s := (s.setFlag (Fld.PRG_STATE_STOPPING c) false).setFlag (Fld.PRG_STATE_MOVING c) false
  let a := chanAxis c
  if !isStep c && p.halts && s.axState a == AxSt.RUNNING then s.enterStopping a quick true
  else if !isStep c && p.halts && s.axState a == AxSt.STOPPING then s.modSpd a fun q => { q with ramp0 := true }
  else s

/-! ## Limits reached (R409, R410) -/

/-- The limit pair that a channel uses (R409): of an axis channel with LIM_MODE, that of its axis; of a step channel, the one that LIM_SEL
names. -/
def State.limPair (s : State) (c : Fin 8) : Option (Fin 4) :=
  if !s.profileActive || s.parNat 32 20 c.val == 0 then none
  else if !isStep c then (if s.axisExists (chanAxis c) then some (chanAxis c) else none)
  else
    let n := s.parNat 32 21 c.val
    if n < 4 then some (Fin.ofNat 4 n) else none

/-- Whether motion of a channel in a direction is blocked (R410). -/
def State.blocked (s : State) (c : Fin 8) (dir : Rat) : Bool :=
  (decide (0 < dir) && s.flag (Fld.PRG_STATE_BLK_POS c)) || (decide (dir < 0) && s.flag (Fld.PRG_STATE_BLK_NEG c))

/-- The stop that a limit of a channel gives: hard, or ramped (R410). -/
def State.limStop (s : State) (c : Fin 8) : State := s.stopChan c (if s.parNat 32 20 c.val == 1 then .hard else .ramped) false

/-- The direction in which a channel moves: of its profile, its last steps, or its axis. -/
def State.chanDir (s : State) (c : Fin 8) : Rat :=
  if s.flag (Fld.PRG_STATE_GEARED c) then (if s.prg[c].rate = 0 then 0 else if s.prg[c].dirHi then 1 else -1)
  else if isStep c || s.posMode c then sgn s.prg[c].v
  else sgn s.spd[chanAxis c].n

/-- A limit is reached (R410): the journal entry, and the stop of a channel that moves towards it. -/
def State.limReached (s : State) (c : Fin 8) (neg : Bool) : State :=
  let s := s.journal 0x0301 c.val (if neg then 1 else 0)
  if !s.blocked c (s.chanDir c) then s
  else if isStep c || s.posMode c then s.limStop c
  else when (s.parNat 32 20 c.val == 1) (·.modSpd (chanAxis c) fun p => { p with n := 0, acc := 0 }) s

/-- The limit flags of a channel follow its inputs (R409, R410): an enabled input that is open reads as limit reached. -/
def State.limShow (s : State) (c : Fin 8) : State :=
  let pair := s.limPair c
  let lp := pair.any fun n => s.lim.getLsbD n.val
  let ln := pair.any fun n => s.lim.getLsbD (4 + n.val)
  let newP := lp && !s.flag (Fld.PRG_STATE_LIM_POS c)
  let newN := ln && !s.flag (Fld.PRG_STATE_LIM_NEG c)
  let s := (s.setFlag (Fld.PRG_STATE_LIM_POS c) lp).setFlag (Fld.PRG_STATE_LIM_NEG c) ln
  let s := s.setFlag (Fld.PRG_STATE_LIM_BOTH c) (lp && ln)
  let s := (s.setFlag (Fld.PRG_STATE_BLK_POS c) lp).setFlag (Fld.PRG_STATE_BLK_NEG c) ln
  when newN (·.limReached c true) (when newP (·.limReached c false) s)

/-- The limit flags of every channel. -/
def State.limAll (s : State) : State := forAll (List.finRange 8) (fun c t => t.limShow c) s

/-- A profile that would move into a blocked direction stops (R410). -/
def State.limHold (s : State) (c : Fin 8) : State :=
  let p := s.prg[c]
  let dir := if p.v ≠ 0 then p.v else if p.rest then 0 else p.goal - p.p
  if p.stop.isNone && s.blocked c dir then s.limStop c else s

/-! ## Evaluation (R406, R418) -/

/-- The plan of a stop in progress. -/
def State.planStop (s : State) (c : Fin 8) (quick : Bool) : State :=
  let d := if quick then s.p32u 6 c else s.p32u 4 c
  let j := if quick then max (s.p32u 5 c) (d * 100) else s.p32u 5 c
  s.modPrg c fun p => { p with plan := velPlan j d p.v p.a 0, goAgain := false, replan := false, rest := decide (p.v = 0 ∧ p.a = 0) }

/-- The plan of the move in force; OVERSHOOT where the target has to be passed (R406). -/
def State.planMove (s : State) (c : Fin 8) : State :=
  let p := s.prg[c]
  let r := movePlan (s.p32u 2 c) (s.p32u 3 c) (s.p32u 4 c) (s.p32u 5 c) p.v p.a (p.goal - p.p)
  let s := s.modPrg c fun q => { q with plan := r.1, goAgain := r.2, replan := false, rest := false }
  when r.2 (·.setFlag (Fld.PRG_STATE_OVERSHOOT c) true) s

/-- The profile stands at its target: DONE, the event PRG_DONE and interrupt source 9 (R406, R494). -/
def State.moveDone (s : State) (c : Fin 8) : State :=
  let s := s.modPrg c fun q => { q with p := q.goal, v := 0, a := 0, plan := [], rest := true }
  let s := (s.setFlag (Fld.PRG_STATE_MOVING c) false).setFlag (Fld.PRG_STATE_DONE c) true
  (s.event 0x04 [BitVec.ofNat 32 c.val, s.reg (Reg.PRG_TARGET c)]).irq 9

/-- One evaluation of an S-curve. -/
def State.evalCurve (s : State) (c : Fin 8) : State :=
  let p := s.prg[c]
  let age := s.prgAge c
  let now := s.weft
  let r := if p.rest then ([], { p := p.p, v := 0, a := 0 }) else runPlan p.plan age { p := p.p, v := p.v, a := p.a }
  let s := s.modPrg c fun q => { q with p := r.2.p, v := r.2.v, a := r.2.a, plan := r.1, at_ := now }
  let s := s.limHold c
  let p := s.prg[c]
  let ended := !p.rest && r.1.isEmpty
  let s : State :=
    if p.replan then
      match p.stop with
      | some k =>
        let s := s.planStop c (k == .quick)
        if s.prg[c].rest then s.stopDone c else s
      | none => s.planMove c
    else if ended then
      let s := s.modPrg c fun q => { q with v := 0, a := 0 }
      if p.stop.isSome then s.stopDone c
      else if p.goAgain then s.planMove c
      else s.moveDone c
    else s
  s.putProfile c

/-- One evaluation of an axis that takes its reference from a PULSE port (R418): the scaled count behind a limiter at
V_MAX and A_MAX; a direction that a limit blocks (R410) and a port of another type give no motion. A stop takes its course as on any
channel (R408). -/
def State.evalPulse (s : State) (c : Fin 8) (n : Fin 4) : State :=
  let p := s.prg[c]
  let dt := s.prgAge c
  let now := s.weft
  let ref : Rat := (s.portPos n : Rat) * s.p32 51 c / s.p32 52 c
  let goal := if s.portType n != 6 || s.blocked c (ref - p.p) then p.p else ref
  let e := goal - p.p
  let amax := s.p32u 3 c
  let top := min (s.p32u 2 c) (min (if dt = 0 then 0 else absRat e / dt) (Config.sqrt (2 * amax * absRat e)))
  let v := towards p.v (sgn e * top) (amax * dt)
  if p.stop.isSome then s.evalCurve c
  else
    let s := s.modPrg c fun q =>
      { q with
        p := q.p + v * dt, v := v, a := 0, at_ := now, goal := goal, replan := false, rest := decide (v = 0)
        plan := if v = 0 then [] else [(0, 1)] }
    let s := (s.setFlag (Fld.PRG_STATE_MOVING c) (decide (v ≠ 0))).setReg (Reg.PRG_TARGET c) (toS32 (nearest goal))
    s.putProfile c

/-- PROFILE_EVALUATION (R406, R408): while the axis of an axis channel is not RUNNING or STOPPING, its profile stands at
the measured position. -/
def execProfileEvaluation (c : Fin 8) (s : State) : Res :=
  if !s.awake then .next s
  else if isStep c then
    if s.stepSource c == 1 then .next (s.evalCurve c) else .next s
  else if !s.posMode c || s.isFollower (chanAxis c) then .next s
  else
    let a := chanAxis c
    let st := s.axState a
    if st == AxSt.RUNNING || st == AxSt.STOPPING then
      match s.portItem 50 c with
      | some n => .next (s.evalPulse c n).settle
      | none => .next (s.evalCurve c).settle
    else
      let now := s.weft
      let p := s.portPos (s.commPort a)
      let s := s.modPrg c fun q =>
        { q with p := p, v := 0, a := 0, at_ := now, plan := [], goal := p, rest := true, stop := none, halts := false
                 replan := false, goAgain := false }
      let s := (s.setFlag (Fld.PRG_STATE_MOVING c) false).setFlag (Fld.PRG_STATE_STOPPING c) false
      .next (s.putProfile c)

/-- LIMIT (R409, R410): an input of pair n passes its filter. -/
def execLimit (n : Fin 4) (neg reached : Bool) (s : State) : Res :=
  let k := if neg then 4 + n.val else n.val
  let u : State := { s with lim := if reached then s.lim ||| (1#8 <<< k) else s.lim &&& ~~~(1#8 <<< k) }
  if s.awake then .next u.limAll.settle else .next u

/-! ## Deviation (R411, R412, R414) -/

/-- dev of a channel, where one is formed (R411). -/
def State.deviation (s : State) (c : Fin 8) : Option Int :=
  if isStep c then
    match s.portItem 12 c with
    | some n => some (nearest ((s.stepCount c : Rat) * s.p32 13 c) - (s.portPos n - s.prg[c].p0))
    | none => none
  else if s.posMode c && (s.axState (chanAxis c) == AxSt.RUNNING || s.axState (chanAxis c) == AxSt.STOPPING) then
    some (nearest (s.profNow c) - s.portPos (s.commPort (chanAxis c)))
  else none

/-- The deviation of a sample, and since when it lies outside DEV_WIN; a channel that forms none reports 0. -/
def State.devSample (s : State) (c : Fin 8) : State :=
  match s.deviation c with
  | none => (s.modPrg c fun p => { p with devAt := none }).setReg (Reg.PRG_DEV c) 0
  | some d =>
    let win := s.p32 10 c
    let out := decide (0 < win) && decide (win < absRat (d : Rat))
    let now := s.weft
    (s.modPrg c fun p => { p with devAt := if out then some (p.devAt.getD now) else none }).setReg (Reg.PRG_DEV c) (toS32 d)

/-- DEV latches: the journal entry STALL and its stop (R412), a quick one with which the axis enters STOPPING, or on a step channel a hard
one that loses the reference, to be checked 100 ms later (R414). -/
def State.devLatch (s : State) (c : Fin 8) : State :=
  let s := (s.setFlag (Fld.PRG_STATE_DEV c) true).journal 0x0302 c.val (s.reg (Reg.PRG_DEV c))
  if isStep c then
    let now := s.weft
    let s := (s.hardStop c false).setFlag (Fld.PRG_STATE_REF_LOST c) true
    s.modPrg c fun p => { p with checkAt := if (s.portItem 12 c).isSome then some now else p.checkAt }
  else s.beginStop (chanAxis c) true

/-- STALL (R412): |dev| above DEV_WIN for DEV_T. -/
def execStall (c : Fin 8) (s : State) : Res :=
  if s.prg[c].devAt.isSome && !s.flag (Fld.PRG_STATE_DEV c) then .next (s.devLatch c).settle else .next s

/-- REF_CHECK (R414): 100 ms after a hard stop. -/
def execRefCheck (c : Fin 8) (s : State) : Res :=
  if !s.prg[c].checkAt.any fun t => decide (1 / 10 ≤ s.since t) then .next s
  else
    let s := s.modPrg c fun p => { p with checkAt := none }
    match s.deviation c with
    | some d =>
      if absRat (d : Rat) ≤ s.p32 10 c then .next (s.setFlag (Fld.PRG_STATE_REF_LOST c) false)
      else .next ((s.setFlag (Fld.PRG_STATE_DEV c) true).journal 0x0302 c.val (toS32 d))
    | none => .next s

/-! ## Gearing (R416, R417) -/

/-- u kept to 1/65,536 step (R416). -/
def State.gearTravel (s : State) (c : Fin 8) (h : Int) : Rat :=
  let q := s.p32 41 c * ((h - s.prg[c].h0 : Int) : Rat) / s.p32 42 c
  (quantise (q * 65536) : Rat) / 65536

/-- The geared target (R416). -/
def State.gearTarget (s : State) (c : Fin 8) (u : Rat) : Rat :=
  if !s.parOn 32 46 c.val then s.prg[c].c0 + u
  else
    let lo := s.p32 43 c
    let hi := s.p32 44 c
    let d := s.p32 45 c
    let w := hi - lo
    let phi := modRat (u + s.prg[c].phi0) (2 * (w + d))
    if phi < w then lo + phi else if phi < w + d then hi else if phi < 2 * w + d then hi - (phi - w - d) else lo

/-- The case of R417 that refuses ENGAGE; 0 where none does. -/
def State.engageCase (s : State) (c : Fin 8) : Nat :=
  let n : Fin 4 := Fin.ofNat 4 (s.parNat 32 40 c.val)
  let c0 : Rat := s.stepCount c
  if s.stepSource c != 2 then 1
  else if s.flag (Fld.PRG_STATE_REF_LOST c) then 2
  else if s.portBad n then 3
  else if s.parOn 32 46 c.val && (decide (c0 < s.p32 43 c) || decide (s.p32 44 c < c0)) then 4
  else 0

/-- A write to PRG_CH_c_CTRL (R421): the command waits for the next 1 µs sample; an axis channel has no step output. -/
def State.prgCmd (s : State) (w : Writer) (c : Fin 8) (bit : BitVec 4) : Res :=
  s.access w (Reg.PRG_CTRL c) (bit.setWidth 32) fun s => if isStep c then s.modPrg c fun p => { p with cmd := p.cmd ||| bit } else s

/-- Starts gearing. -/
def State.engage (s : State) (c : Fin 8) : State :=
  let k := s.engageCase c
  if k != 0 then s.journal 0x0308 c.val (BitVec.ofNat 32 k)
  else
    let n : Fin 4 := Fin.ofNat 4 (s.parNat 32 40 c.val)
    let h := s.fb[n].h
    let c0 := s.stepCount c
    let phi := if s.parOn 32 47 c.val then s.p32 44 c - s.p32 43 c + s.p32 45 c + (s.p32 44 c - (c0 : Rat))
      else (c0 : Rat) - s.p32 43 c
    let s := s.modPrg c fun p => { p with h0 := h, c0 := c0, phi0 := phi, gearU := 0 }
    (s.setFlag (Fld.PRG_STATE_GEARED c) true).setFlag (Fld.PRG_STATE_GEAR_LOST c) false

/-- ENGAGE (R416, R417). -/
def execEngage (w : Writer) (c : Fin 8) (s : State) : Res := s.prgCmd w c 2

/-- DISENGAGE (R417). -/
def execDisengage (w : Writer) (c : Fin 8) (s : State) : Res := s.prgCmd w c 4

/-- HALT (R408, R421). -/
def execHalt (w : Writer) (c : Fin 8) (s : State) : Res := s.prgCmd w c 1

/-- Sets the position of a step channel. -/
def State.setPos (s : State) (c : Fin 8) : State :=
  let v := s.reg (Reg.PRG_PRESET c)
  let n := s32 v
  let p0 := match s.portItem 12 c with
    | some k => s.portPos k
    | none => 0
  let s := s.setReg (Reg.PRG_COUNT c) v
  let s := s.modPrg c fun p => { p with p := n, v := 0, a := 0, goal := n, p0 := p0, devAt := none, checkAt := none }
  forAll [Fld.PRG_STATE_REF_LOST c, Fld.PRG_STATE_PLAG c, Fld.PRG_STATE_DEV c] (fun f t => t.setFlag f false) s

/-- SET_POS (R421). -/
def execSetPos (w : Writer) (c : Fin 8) (s : State) : Res := s.prgCmd w c 8

/-- The commands that wait at a sample (R421): HALT first, then the others in the order of log entry 8; SET_POS is refused while
MOVING. -/
def State.takeCommands (s : State) (c : Fin 8) : State :=
  let b := s.prg[c].cmd
  let s := s.modPrg c fun p => { p with cmd := 0 }
  let s := when (b.getLsbD 0) (·.hardStop c false) s
  let s := when (b.getLsbD 2) (·.gearEnd c) s
  let s := when (b.getLsbD 3 && !s.flag (Fld.PRG_STATE_MOVING c)) (·.setPos c) s
  when (b.getLsbD 1) (·.engage c) s

/-! ## Step outputs (R413, R415) -/

/-- The edges of a sample towards n further steps: how many come, and when the last one does. `t0` is the start of the
sample in ns, `last` the last edge, `free` the first instant that T_DIR allows; edges keep the period. -/
def stepEdges (t0 last period free : Rat) (n : Nat) : Nat × Rat :=
  let first := max t0 (max (last + period) free)
  if t0 + 1000 ≤ first then (0, last)
  else
    let k := min n (((t0 + 1000 - first) / period).ceil.toNat)
    (k, first + period * ((k - 1 : Nat) : Rat))

/-- DIR_p in a sample whose first step is to go `up`, and the instant of its last change (R413): it changes T_DIR after the last edge of the
old direction, where that instant lies in the sample. -/
def PrgCh.dirNext (p : PrgCh) (t0 tdir : Rat) (up : Bool) : Bool × Rat :=
  let at_ := max t0 (p.edgeAt + tdir)
  if up == p.dirHi || t0 + 1000 ≤ at_ then (p.dirHi, p.dirAt) else (up, at_)

/-- The target of a step channel in this sample, if it has one (R413, R417). -/
def State.stepGoal (s : State) (c : Fin 8) : Option Rat × State :=
  match s.stepSource c with
  | 1 => (some (s.profNow c), s)
  | 2 =>
    if !s.flag (Fld.PRG_STATE_GEARED c) then (none, s)
    else
      let n : Fin 4 := Fin.ofNat 4 (s.parNat 32 40 c.val)
      if s.portBad n then (none, (s.setFlag (Fld.PRG_STATE_GEAR_HOLD c) true).setFlag (Fld.PRG_STATE_MOVING c) false)
      else if s.flag (Fld.PRG_STATE_GEAR_HOLD c) then (none, (s.setFlag (Fld.PRG_STATE_GEAR_LOST c) true).gearEnd c)
      else
        let u := s.gearTravel c s.fb[n].h
        let moving := decide (u ≠ s.prg[c].gearU)
        let goal := s.gearTarget c u
        let s := (s.modPrg c fun p => { p with gearU := u }).setFlag (Fld.PRG_STATE_MOVING c) moving
        (some goal, s.setReg (Reg.PRG_TARGET c) (toS32 (nearest goal)))
  | _ => (none, s)

/-- The edges of a sample towards a target (R413): DIR, STEP and COUNT after them. -/
def State.emit (s : State) (c : Fin 8) (n : Int) (fmax : Rat) : State :=
  let p := s.prg[c]
  let up := decide (0 < n)
  let t0 : Rat := s.weft.toNat
  let tdir := s.p32 33 c * 1000
  let period := if fmax = 0 then 1_000_000_000_000 else 1_000_000_000 / fmax
  let d := if n = 0 then (p.dirHi, p.dirAt) else p.dirNext t0 tdir up
  let r := if n = 0 || d.1 != up then (0, p.edgeAt) else stepEdges t0 p.edgeAt period (d.2 + tdir) n.natAbs
  let gap := if r.1 = 0 then t0 - p.edgeAt else if 2 ≤ r.1 then period else r.2 - p.edgeAt
  let rate := if gap ≤ 0 then fmax else 1_000_000_000 / gap
  let s := s.modPrg c fun q =>
    { q with
      edgeAt := r.2, dirHi := d.1, dirAt := d.2, rate := if r.1 = 0 then min q.rate rate else rate
      stepHi := decide (t0 + 1000 < r.2 + s.p32 32 c * 1000) }
  s.setReg (Reg.PRG_COUNT c) (toS32 (s.stepCount c + (if up then (r.1 : Int) else -(r.1 : Int))))

/-- A sample of a prg jog (R423): steps at F_START, which the profile position follows; a limit ends it (R410). -/
def State.jogSample (s : State) (c : Fin 8) : State :=
  let n := s.prg[c].jog
  if s.blocked c (n : Rat) then s.modPrg c fun p => { p with jog := 0 }
  else
    let before := s.stepCount c
    let s := s.emit c n (s.p32 34 c)
    let now := s.stepCount c
    s.modPrg c fun p => { p with jog := p.jog - (now - before), p := now, goal := now }

/-- One sample of a step channel: the commands that wait, edges towards its target, COUNT, the backlog, and the lag fault (R413, R415,
R421). Gearing into a blocked direction stops (R410). With SOURCE OFF the pins are low. -/
def State.stepSample (s : State) (c : Fin 8) : State :=
  let s := s.takeCommands c
  if s.prg[c].jog ≠ 0 then s.jogSample c
  else
    match s.stepGoal c with
    | (none, s) =>
      let idle := s.stepSource c == 0
      let t1 : Rat := s.weft.toNat + 1000
      let hi := !idle && s.prg[c].stepHi && decide (t1 < s.prg[c].edgeAt + s.p32 32 c * 1000)
      (s.modPrg c fun p => { p with rate := 0, dirHi := p.dirHi && !idle, stepHi := hi }).setFld (Fld.PRG_LAG_LAG c) 0
    | (some goal, s) =>
      let n := nearest goal - s.stepCount c
      if s.flag (Fld.PRG_STATE_GEARED c) && s.blocked c (n : Rat) then s.limStop c
      else
        let s := s.emit c n (s.p32 31 c)
        let lag := (nearest goal - s.stepCount c).natAbs
        let s := s.setFld (Fld.PRG_LAG_LAG c) (min lag 0xFFFF)
        if s.p32 35 c < (lag : Rat) then (s.setFlag (Fld.PRG_STATE_PLAG c) true).hardStop c false else s

/-! ## MOVE and STOP (R405) -/

/-- The channel a MOVE names. -/
def descChan (h : Desc) : Option (Fin 8) := if h.index.toNat < 8 then some (Fin.ofNat 8 h.index.toNat) else none

/-- The refusal of a MOVE to a target in counts or steps (R405), none where it is accepted. -/
def State.moveRefusal (s : State) (c : Fin 8) (goal : Rat) : Option Nat :=
  let a := chanAxis c
  let n := s.commPort a
  let lo : Rat := if isStep c then -(2147483647 : Int) else s32 (s.reg (Reg.FBI_SOFTMIN n))
  let hi : Rat := if isStep c then 2147483647 else s32 (s.reg (Reg.FBI_SOFTMAX n))
  if !isStep c && !s.axisExists a then some St.BAD_FIELD
  else if !isStep c && s.isFollower a then some St.NOT_LEAD
  else if !isStep c && (!s.posMode c || (s.portItem 50 c).isSome) then some St.MODE_DENIED
  else if !isStep c && s.axState a != AxSt.RUNNING then some St.AXIS_FAULT
  else if isStep c && (s.stepSource c != 1 || s.flag (Fld.PRG_STATE_GEARED c)) then some St.MODE_DENIED
  else if s.flag (Fld.PRG_STATE_STOPPING c) then some St.STOPPING
  else if s.flag (Fld.PRG_STATE_REF_LOST c) then some St.NO_REF
  else if goal < lo ∨ hi < goal then some St.RANGE
  else if (decide (s.prg[c].p < goal) && s.flag (Fld.PRG_STATE_BLK_POS c)) ||
      (decide (goal < s.prg[c].p) && s.flag (Fld.PRG_STATE_BLK_NEG c)) then some St.LIMIT
  else none

/-- MOVE (R405, R406): a target in 1/2³² user unit, absolute or relative. -/
def execMove (h : Desc) (target : BitVec 64) (s : State) : Res :=
  s.dispatch h 0x05 fun s =>
    match descChan h with
    | none => s.complete h 0x05 St.BAD_FIELD
    | some c =>
      let u := (target.toInt : Rat) / (2 ^ 32 : Nat) * s.p32 1 c
      let base : Rat := if h.absolute then 0 else if s.prg[c].rest then s.prg[c].p else s.prg[c].goal
      let goal := nearest (base + u)
      match s.moveRefusal c goal with
      | some st => s.complete h 0x05 st
      | none =>
        let a := chanAxis c
        let away := decide (0 < s.lineSign a * ((goal : Rat) - s.prg[c].p))
        let s := s.modPrg c fun p => { p with goal := goal, replan := true, rest := false }
        let s := when (!isStep c && away) (·.modSpd a fun p => { p with slackHold := false }) s
        let s := forAll [Fld.PRG_STATE_DONE c, Fld.PRG_STATE_OVERSHOOT c] (fun f t => t.setFlag f false) s
        let s := (s.setFlag (Fld.PRG_STATE_MOVING c) true).setReg (Reg.PRG_TARGET c) (toS32 goal)
        s.complete h 0x05 St.SUCCESS

/-- STOP (R306, R308, R405, R408): INDEX 0 to 3 names an axis, 4 to 7 a step channel. -/
def execStop (h : Desc) (s : State) : Res :=
  s.dispatch h 0x06 fun s =>
    match descChan h with
    | none => s.complete h 0x06 St.BAD_FIELD
    | some c =>
      if isStep c then
        (s.stopChan c (if h.hard then .hard else if h.quick then .quick else .ramped) false).complete h 0x06 St.SUCCESS
      else
        match s.axisOf h with
        | some a => s.stopAxis h a
        | none => s.complete h 0x06 St.BAD_FIELD

end Sys2Proof.Machine
end

