-- ==== Sys2Proof/Machine/Lsh.lean ====
section
/-! DEFINITION. Load sharing across devices: the group signature (R331), membership (R332, R333), roles (R334 to R336),
the frames and the shed cycle (R337 to R340), torque and shares (R341 to R343), DID_MIN, TE_AX and the phase offsets
(R344, R345, R348), members leaving and returning (R349 to R352) and the axis commands of a group (R353). -/

namespace Sys2Proof.Machine

/-- The members of a group. -/
def groupMembers : List (Fin 16) := List.finRange 16

/-- Changes one member entry. -/
def State.modMember (s : State) (a : Fin 4) (m : Fin 16) (f : Member → Member) : State :=
  s.modLsh a fun g => { g with members := g.members.set m (f g.members[m]) }

/-- The own index in the group. -/
def State.ownIdx (s : State) (a : Fin 4) : Fin 16 := Fin.ofNat 16 (s.fld (Fld.LSH_CFG_MEMBER_IDX a))

/-- MEMBERS of the group. -/
def State.groupSize (s : State) (a : Fin 4) : Nat := s.fld (Fld.LSH_CFG_MEMBERS a)

/-- MIN_MEMBERS; 0 stands for MEMBERS (R361). -/
def State.minMembers (s : State) (a : Fin 4) : Nat :=
  let m := s.fld (Fld.LSH_CFG_MINMEM a)
  if m = 0 then s.groupSize a else m

/-- Whether this member leads. -/
def State.leads (s : State) (a : Fin 4) : Bool := s.fld (Fld.LSH_STATE_ROLE a) == 1

/-- SHARE_RAMP in s. -/
def State.shareRamp (s : State) (a : Fin 4) : Rat := (s.fld (Fld.LSH_TIME_RAMP a) : Nat) / 1000

/-- T_APPLY in ns. -/
def State.applyNs (s : State) (a : Fin 4) : Nat := s.fld (Fld.LSH_TIME_APPLY a) * 1000

/-- The axes that are members of a group. -/
def State.groupAxes (s : State) : List (Fin 4) := four.filter fun a => s.axisExists a && s.isShared a

/-! ## The group signature (R331) -/

/-- The signature of an axis over its loaded profile: CRC-32C over the values in the order of their identifiers. The class, which
has none, stands where R331 lists it, after P26 (DEDUCED, log entry 46). -/
def State.lshSignature (s : State) (a : Fin 4) : Word :=
  let val (g i x : Nat) : List Byte := wordBytes (s.parWord g i x)
  let rows (g : Nat) (skip : Nat → Bool) : List Byte :=
    (paramTable.filter fun r => r.group == g).flatMap fun r =>
      (List.range r.count).flatMap fun k => if skip (r.item + k) then [] else val g (r.item + k) a.val
  let p28 : List Nat := [4, 6, 8, 40, 41, 42, 43]
  crc32c
    (([1, 2] : List Nat).flatMap (fun i => (s.axisSets a).flatMap fun x => val 18 i x.val) ++
      ([3, 4, 19, 30, 40, 41, 42] : List Nat).flatMap (fun i => val 20 i a.val) ++
      rows 24 (fun _ => false) ++ rows 26 (fun _ => false) ++ [if s.isClassW a then 1 else 0] ++ rows 28 (fun i => p28.contains i) ++
      val 36 1 0)

/-- A member latches SHARE_LOST and goes to LOST (R332, R350). DEDUCED (log entry 46): a member that is LOST has no lead and no role,
and counts no missing lead frame, as the worked example of chapter 12 reads it on node 21. -/
def State.shareLost (s : State) (a : Fin 4) : State :=
  let s := ((s.axisFault a 7).modLsh a fun g => { g with ramp := none, offN := 0, parted := false }).setTm a 0
  let s := s.setReg (Reg.LSH_KCAP a) 0
  let s := s.setReg (Reg.LSH_STATE a) (if s.flag (Fld.LSH_STATE_PARTITION a) then 0x800 else 0)
  s.setFld (Fld.LSH_STATE_MSTATE a) 6

/-- Counts the ramp-out of a member seen (R357), once. -/
def State.seeRampOut (s : State) (a : Fin 4) (m : Fin 16) : State :=
  if s.lsh[a].members[m].outSeen then s
  else (s.incSat (Fld.LSH_CNT_RAMPOUT a)).modMember a m fun q => { q with outSeen := true }

/-- The own ramp-out begins (R350): T_m falls from its present value to 0 over SHARE_RAMP. -/
def State.rampSelf (s : State) (a : Fin 4) : State :=
  if s.mstate a != 4 then s
  else
    let now := s.weft
    let s := (s.modLsh a fun g => { g with ramp := some (now, g.tm) }).setFld (Fld.LSH_STATE_MSTATE a) 5
    s.seeRampOut a (s.ownIdx a)

/-! ## The cycle start: reports and the last cycle (R335, R339, R340) -/

/-- Whether the node count has quorum (R335). -/
def quorate (size : Nat) (seen : BitVec 16) : Bool :=
  let n := (groupMembers.filter fun m => seen.getLsbD m.val).length
  decide (size / 2 + 1 ≤ n) || (2 * n == size && seen.getLsbD 0)

/-- Whether this member has quorum on the frames of the last cycle, its own included. -/
def State.hasQuorum (s : State) (a : Fin 4) : Bool :=
  quorate (s.groupSize a) (s.lsh[a].seenOld ||| (1#16 <<< (s.ownIdx a).val))

/-- Whether this member is eligible to lead (R335). -/
def State.eligible (s : State) (a : Fin 4) : Bool :=
  let m := s.mstate a
  s.flag (Fld.LSH_CFG_LEAD_EN a) && (m == 2 || m == 3 || m == 4) && s.reg (Reg.SPD_FAULT a) == 0
    && (s.flag (Fld.POS_STATUS_VALID a) || s.axState a == AxSt.STOPPED) && s.synced && s.hasQuorum a

/-- Hop count of this member from the lead; 255 without a lead (R339). -/
def State.hopsFromLead (s : State) (a : Fin 4) : Nat :=
  let l := s.fld (Fld.LSH_STATE_LEAD_ADDR a)
  if l = 0 then 0xFF else if l = s.nodeAddr.toNat then 0 else s.metric l

/-- A bit of a flags field. -/
def bitIf (k : Nat) (b : Bool) : Nat := if b then 2 ^ k else 0

/-- FLAGS of the report (R339). -/
def State.reportFlags (s : State) (a : Fin 4) : Nat :=
  let xs := s.axisSets a
  bitIf 0 (s.eligible a) + bitIf 1 (s.ownFault a) + bitIf 2 (xs.any fun x => s.cross x) + bitIf 3 (s.flag (Fld.POS_STATUS_VALID a))
    + bitIf 4 (xs.any fun x => s.setState x == .sto) + bitIf 5 (xs.any fun x => s.flag (Fld.LOOM_STATUS_ILIM x))
    + bitIf 6 (xs.any fun x => s.flag (Fld.LOOM_STATUS_VSAT x))

/-- The report values of a cycle, latched at its start (R339). -/
def State.composeReport (s : State) (a : Fin 4) : MemberReport :=
  let xs := s.axisSets a
  let te := xs.foldl (fun z x => z + s.lane[x].te) 0
  let did := xs.foldl (fun z x => min z s.lane[x].did) 0
  { group := BitVec.ofNat 16 (s.fld (Fld.LSH_GROUP_GROUP_ID a)), node := s.nodeAddr, cycle := BitVec.ofNat 32 s.shedCycle
    idx := BitVec.ofNat 8 (s.ownIdx a).val, mstate := BitVec.ofNat 8 (s.mstate a), flags := BitVec.ofNat 16 (s.reportFlags a)
    sig := s.lsh[a].sig, te := ratToF32 te, n := ratToF32 (toRpm (s.shaftSpeed a)), did := ratToF32 did
    kth := BitVec.ofNat 16 (quantise (1000 * s.thm.kth[a])).toNat, hops := BitVec.ofNat 8 (min 0xFF (s.hopsFromLead a))
    mofs := BitVec.ofNat 8 (s.fld (Fld.LSH_GROUP_MOFS a)), seen := s.lsh[a].seenOld }

/-- The member entries at the end of a cycle: frames received become the last ones, missing ones are counted. A member that left the
shares is no longer barred once it shows a state other than ACTIVE and RAMP_OUT (R352). -/
def Member.roll (m : Member) : Member :=
  match m.now with
  | some r =>
    { m with
      last := some r, now := none, miss := 0, node := r.node, age := 0, actN := if r.mstate == 4 then m.actN + 1 else 0
      barred := m.barred && (r.mstate == 4 || r.mstate == 5) }
  | none => { m with miss := m.miss + 1, age := m.age + 1 }

/-- Takes over the frames of the cycle that ends (R340). -/
def State.cycleTake (s : State) (a : Fin 4) : State :=
  let s := s.modLsh a fun g =>
    { g with
      members := g.members.map Member.roll, seenOld := g.seen, seen := 0, leads := [], applied := false
      ran := g.mine.any fun r => r.mstate == 4 }
  let s := s.setFld (Fld.LSH_MAP_SEEN_MAP a) s.lsh[a].seenOld.toNat
  s.setFlag (Fld.LSH_STATE_PARTITION a) (!s.hasQuorum a)

/-- Latches the report of the cycle that starts (R339, R340). -/
def State.cycleLatch (s : State) (a : Fin 4) : State :=
  let r := s.composeReport a
  s.modLsh a fun g => { g with mine := some r, teOld := g.teOwn, teOwn := f32Val r.te }

/-! ## Acceptance (R333) -/

/-- The reports of other members received in the last cycle. -/
def State.freshReports (s : State) (a : Fin 4) : List MemberReport :=
  groupMembers.filterMap fun m => if s.lsh[a].members[m].miss = 0 then s.lsh[a].members[m].last else none

/-- The frame a member in SEEK compares with: the lead's, else that of the lowest node address (R333). -/
def State.compareWith (s : State) (a : Fin 4) : Option (Byte × Word) :=
  match (if s.lsh[a].noLead = 0 then s.lsh[a].lead else none) with
  | some f => some (f.node, f.sig)
  | none =>
    (s.freshReports a).foldl
      (fun o r => match o with
        | none => some (r.node, r.sig)
        | some b => if r.node.toNat < b.1.toNat then some (r.node, r.sig) else some b) none

/-- Whether the shed cycle is an integer multiple of the carrier period of every local set (R26). -/
def State.carrierOk (s : State) (a : Fin 4) : Bool :=
  (s.axisSets a).all fun x =>
    let upd := s.tUpd x * 1_000_000_000
    let ratio := ((s.shedNs : Nat) : Rat) / (if s.flag (Fld.PWM_CFG_DUAL x) then 2 * upd else upd)
    ratio == (ratio.floor : Rat)

/-- The index and node address of every other member heard in the last cycle, the lead's frame included (R333). -/
def State.heardMembers (s : State) (a : Fin 4) : List (Byte × Byte) :=
  let lead := (if s.lsh[a].noLead = 0 then s.lsh[a].lead else none).map fun f => (f.idx, f.node)
  (lead.toList ++ (s.freshReports a).map fun r => (r.idx, r.node)).filter fun m => m.2 != s.nodeAddr

/-- Whether every member heard has a pinned peer context, created where there was none (R558). -/
def State.groupContexts (s : State) (a : Fin 4) : Bool × State :=
  (s.heardMembers a).foldl
    (fun acc m => match acc.2.ctxFor m.2 0 true with
      | some (_, t) => (acc.1, t)
      | none => (false, acc.2.incSat Fld.WFT_CTX_FAILS)) (true, s)

/-- The reason for which a member in SEEK refuses itself, with the node compared with: the first row of R333 that
applies. 0 is none. -/
def State.refusal (s : State) (a : Fin 4) (ctxOk : Bool) : Nat × Byte :=
  let cmp := s.compareWith a
  let node := (cmp.map fun c => c.1).getD 0
  let others := (s.freshReports a).filter fun r => r.node != s.nodeAddr
  let own := BitVec.ofNat 8 (s.ownIdx a).val
  let mofs := BitVec.ofNat 8 (s.fld (Fld.LSH_GROUP_MOFS a))
  let need := s.fld (Fld.LSH_TIME_SLOT a) * 1000 + 500 * s.groupSize a
  let h := s.hopsFromLead a
  if cmp.any fun c => c.2 != s.lsh[a].sig then (1, node)
  else
    match (s.heardMembers a).find? fun m => m.1 == own && decide (m.2.toNat < s.nodeAddr.toNat) with
    | some m => (2, m.2)
    | none =>
      if !s.carrierOk a then (3, node)
      else if h != 0xFF && decide (s.applyNs a < need + 1600 * h) then (4, node)
      else if !s.synced then (5, node)
      else
        match (if s.flag (Fld.LSH_CFG_GROUP_FAULT a) then none else others.find? fun r => r.mofs == mofs) with
        | some r => (6, r.node)
        | none => if ctxOk then (0, node) else (7, node)

/-- A member in SEEK that was so for the whole last cycle, whose frames it compares with: refused, with INDEX, SIGNATURE and FAULT_OFS
journalled once per Dawn, or JOINED (R333). LSH_AX_a_REFUSE keeps the last refusal (R358). -/
def State.seek (s : State) (a : Fin 4) : State :=
  if s.mstate a != 1 || !s.lsh[a].mine.any fun r => r.mstate == 1 then s
  else
    let c := s.groupContexts a
    let r := c.2.refusal a c.1
    if r.1 = 0 then (c.2.setFld (Fld.LSH_STATE_MSTATE a) 2).interleave a
    else
      let s := (c.2.setFld (Fld.LSH_REFUSE_REASON a) r.1).setFld (Fld.LSH_REFUSE_NODE a) r.2.toNat
      if (r.1 = 1 ∨ r.1 = 2 ∨ r.1 = 6) ∧ !s.lsh[a].told then
        (s.modLsh a fun g => { g with told := true }).journal 0x0304 a.val (s.reg (Reg.LSH_REFUSE a))
      else s

/-! ## The role (R335, R336) -/

/-- The lowest node address among the other members that reported themselves eligible in the last cycle. -/
def State.lowestEligible (s : State) (a : Fin 4) : Option Nat :=
  (s.freshReports a).foldl
    (fun o r => if r.flags.getLsbD 0 then (match o with
        | none => some r.node.toNat
        | some b => some (min b r.node.toNat)) else o) none

/-- Whether every member is JOINED, as far as it is heard. -/
def State.allJoined (s : State) (a : Fin 4) : Bool := s.mstate a == 2 && (s.freshReports a).all fun r => r.mstate == 2

/-- Whether any member is STARTING or ACTIVE. -/
def State.anyUnderWay (s : State) (a : Fin 4) : Bool :=
  let live (m : Nat) : Bool := m == 3 || m == 4
  live (s.mstate a) || (s.freshReports a).any fun r => live r.mstate.toNat

/-- Whether the last lead has handed its role over: it reports instead, and every member is JOINED (R336). -/
def State.handedOver (s : State) (a : Fin 4) : Bool :=
  let l := s.fld (Fld.LSH_STATE_LEAD_ADDR a)
  s.allJoined a && s.lsh[a].noLead == 1 && (s.freshReports a).any fun r => r.node.toNat == l

/-- How a new lead counts the members: as the last lead frame did. The old lead is ramped out with its last share,
unless it handed over (R350, R351). A member that had shown itself ACTIVE to the old lead and was not counted had left the shares. -/
def State.adoptMembers (s : State) (a : Fin 4) (handed : Bool) : State :=
  let t0 : Time := BitVec.ofNat 64 (s.weft.toNat + s.applyNs a)
  match s.lsh[a].lead with
  | none => s
  | some f =>
    s.modLsh a fun g =>
      { g with
        members := Vector.ofFn fun (m : Fin 16) =>
          let q := g.members[m]
          let code := min 4000 (((f.share[m.val]?).map fun c => c.toNat).getD 0)
          let act := if !f.active.getLsbD m.val then MemberAct.off
            else if m.val == f.idx.toNat && !handed then MemberAct.rampOut t0 code else MemberAct.active
          { q with
            act := act, share := code, c := 0, spdN := 0
            barred := !f.active.getLsbD m.val && decide (g.noLead + 2 ≤ q.actN) } }

/-- This member takes the lead (R336, R351). In POSITION mode the profile is not continued: the axis stops with
DEC_QS. -/
def State.takeLead (s : State) (a : Fin 4) : State :=
  let old := s.lsh[a].lead.filter fun f => f.node != s.nodeAddr
  let moved := old.isSome
  let s := when (moved && s.anyUnderWay a) (·.incSat (Fld.LSH_CNT_TAKEOVER a)) s
  let handed := s.handedOver a
  let s := when moved (fun t => t.adoptMembers a handed) s
  let s := match old with
    | some f => when (s.mstate a == 4 && !handed) (·.seeRampOut a (Fin.ofNat 16 f.idx.toNat)) s
    | none => s
  let s := (s.setFld (Fld.LSH_STATE_ROLE a) 1).setFld (Fld.LSH_STATE_LEAD_ADDR a) s.nodeAddr.toNat
  let s := s.modLsh a fun g => { g with cmd := 0, noLead := 0, noQuor := 0, belowN := 0, yield := false }
  let s := (s.setFlag (Fld.LSH_STATE_HOLD_REF a) false).setFld (Fld.LSH_STATE_LMISS a) 0
  if s.fld (Fld.SPD_CFG_MODE a) == 1 && s.axState a == AxSt.RUNNING then
    (s.enterStopping a true false).modSpd a fun p => { p with solo := true }
  else s

/-- An AXIS_DISABLE accepted by the lead of a group takes effect here, and its descriptors complete (R353). -/
def State.endDisable (s : State) (a : Fin 4) : State :=
  let mine (c : InFlight) : Bool := c.opcode == 0x09 && c.inst == a.val
  let done := s.hif.inFlight.filter mine
  let s := (s.disableNow a).modLsh a fun g => { g with cmd := if g.cmd == 4 then 0 else g.cmd }
  let s : State := { s with hif := { s.hif with inFlight := s.hif.inFlight.filter fun c => !mine c } }
  forAll done (fun c t => t.complete c.h 0x09 St.SUCCESS) s

/-- This member gives the lead up: no lead is in force until a lead frame is applied (R339, R356). An AXIS_DISABLE that still waits for
its lead frame acts on this member (R353). -/
def State.dropLead (s : State) (a : Fin 4) : State :=
  let s := when (s.hif.inFlight.any fun c => c.opcode == 0x09 && c.inst == a.val) (·.endDisable a) s
  let s := ((s.setFld (Fld.LSH_STATE_ROLE a) 2).setFlag (Fld.LSH_STATE_CLAMP a) false).setFlag (Fld.LSH_STATE_CAP_LIM a) false
  let s := s.modLsh a fun g => { g with yield := false, cmd := 0, mine := g.mine.map fun r => { r with hops := 0xFF } }
  (s.setReg (Reg.LSH_KCAP a) 0).setFld (Fld.LSH_STATE_LEAD_ADDR a) 0

/-- The role of a cycle (R336, R350): election, hand-over at rest, and loss of quorum. -/
def State.role (s : State) (a : Fin 4) : State :=
  let node := s.nodeAddr.toNat
  let q := s.hasQuorum a
  let s := s.modLsh a fun g => { g with noQuor := if q then 0 else g.noQuor + 1 }
  if s.leads a then
    if 2 ≤ s.lsh[a].noQuor then (s.dropLead a).modLsh a fun g => { g with parted := true }
    else if s.lsh[a].yield && s.allJoined a then s.dropLead a
    else
      let lower := (s.lowestEligible a).any fun n => decide (n < node)
      s.modLsh a fun g => { g with yield := lower && s.allJoined a }
  else if s.eligible a && !((s.lowestEligible a).any fun n => decide (n < node)) && (2 ≤ s.lsh[a].noLead || s.handedOver a) then
    s.takeLead a
  else s

/-! ## Shares (R342, R343, R350, R352) -/

/-- The part of SHARE_RAMP, 0 to 1, that a ramp begun at a T_APPLY has run at the T_APPLY of this cycle, where the shares computed at its
start come into force (R340, R350). -/
def State.rampPart (s : State) (a : Fin 4) (t0 : Time) : Rat :=
  clampRat 0 1 (((s.weft.toNat + s.applyNs a - t0.toNat : Nat) : Rat) / 1_000_000_000 / s.shareRamp a)

/-- a(m) of a member (R342): 1 while active; it rises or falls linearly over SHARE_RAMP. -/
def State.actA (s : State) (a : Fin 4) (act : MemberAct) : Rat :=
  match act with
  | .off => 0
  | .active => 1
  | .rampIn t0 => s.rampPart a t0
  | .rampOut t0 _ => 1 - s.rampPart a t0

/-- Whether a member counts active: ACTIVE or ramping in. -/
def MemberAct.counts : MemberAct → Bool
  | .active => true
  | .rampIn _ => true
  | _ => false

/-- What the lead makes of a member at a cycle start (R350, R352). A member counts again only after it has shown another state than
ACTIVE; it ramps in where the lead's axis was RUNNING as the report that first shows it ACTIVE was latched. -/
def State.actNext (s : State) (a : Fin 4) (q : Member) (own : Bool) : MemberAct :=
  let t0 : Time := BitVec.ofNat 64 (s.weft.toNat + s.applyNs a)
  let state := if own then some (s.mstate a) else q.last.map fun r => r.mstate.toNat
  let late := !own && decide (2 ≤ q.miss)
  let fault := if own then s.ownFault a else q.fault
  match q.act with
  | .rampOut t b => if s.shareRamp a ≤ s.since t then .off else .rampOut t b
  | .off =>
    if state == some 4 && !late && !fault && !q.barred then
      (if s.lsh[a].ran && !own then .rampIn t0 else .active)
    else .off
  | act =>
    if fault && !s.flag (Fld.LSH_CFG_GROUP_FAULT a) then .off
    else if late then .rampOut t0 q.share
    else if state == some 5 then .rampOut t0 q.share
    else if state != some 4 then .off
    else if !own && decide (4 ≤ q.spdN) then .off
    else match act with
      | .rampIn t => if s.shareRamp a ≤ s.since t then .active else .rampIn t
      | other => other

/-- Counts the cycles in which a member's speed deviates from the lead's n_f by more than SPD_DEV (R350). -/
def State.speedDev (s : State) (a : Fin 4) (q : Member) : Nat :=
  let lim := s.par 28 16 a.val
  if q.miss ≠ 0 then q.spdN
  else
    match q.last with
    | some r => if lim ≠ 0 ∧ lim < absRat (f32Val r.n - toRpm s.spd[a].nf) then q.spdN + 1 else 0
    | none => 0

/-- The lead looks at one member at a cycle start. -/
def State.memberStep (s : State) (a : Fin 4) (m : Fin 16) : State :=
  let own := m == s.ownIdx a
  let s := if own then s else s.modMember a m fun q => { q with spdN := s.speedDev a q }
  let q := s.lsh[a].members[m]
  let act := s.actNext a q own
  let wasOut := match q.act with
    | .rampOut _ _ => true
    | _ => false
  let out := match act with
    | .rampOut _ _ => true
    | _ => false
  let s := when (out && !wasOut) (·.seeRampOut a m) s
  let s := when (q.act.counts && act == .off && !own && decide (4 ≤ q.spdN)) (·.journal 0x0305 a.val (BitVec.ofNat 32 m.val)) s
  let shown := if own then s.mstate a == 4 else q.last.any fun r => r.mstate == 4
  let left := q.act.counts && !act.counts && shown
  s.modMember a m fun q =>
    { q with
      act := act, c := if act.counts then q.c else 0, spdN := if act.counts then q.spdN else 0
      barred := (q.barred && (!own || s.mstate a == 4 || s.mstate a == 5)) || left, outSeen := q.outSeen && !act.counts }

/-- TE_M of a member that enters TE_AX: the lead's own, the last report's, or that times a(m) while it ramps out
(R345). -/
def State.memberTe (s : State) (a : Fin 4) (m : Fin 16) : Rat :=
  let q := s.lsh[a].members[m]
  if m == s.ownIdx a then s.lsh[a].teOld
  else
    match q.last with
    | none => 0
    | some r =>
      match q.act with
      | .rampOut _ _ => if q.miss = 0 then f32Val r.te else f32Val r.te * s.actA a q.act
      | _ => if q.miss < 2 then f32Val r.te else 0

/-- k_th of a member. -/
def State.memberKth (s : State) (a : Fin 4) (m : Fin 16) : Rat :=
  if m == s.ownIdx a then s.thm.kth[a] else ((s.lsh[a].members[m].last.map fun r => r.kth.toNat).getD 0 : Nat) / 1000

/-- The shares of a cycle (R342), for the members that count, and r of those ramping out. A quotient with divisor 0,
which R342 does not state, is free. -/
def State.shares (s : State) (a : Fin 4) : State :=
  let size := s.groupSize a
  let ms := groupMembers.filter fun m => decide (m.val < size)
  let mem (m : Fin 16) : Member := s.lsh[a].members[m]
  let w (m : Fin 16) : Rat := s.par 28 (20 + m.val) a.val
  let live := ms.filter fun m => (mem m).act.counts
  let g (m : Fin 16) : Rat := w m * s.memberKth a m * s.actA a (mem m).act
  let sumG := live.foldl (fun z m => z + g m) 0
  let teAx := ms.foldl (fun z m => z + s.memberTe a m) 0
  let frac (m : Fin 16) : Rat := if sumG = 0 then Config.freeRat (s.fresh + m.val) else g m / sumG
  let part (m : Fin 16) : Rat := if teAx = 0 then Config.freeRat (s.fresh + 16 + m.val) else s.memberTe a m / teAx
  let lim := s.par 28 14 a.val
  let tMin := s.par 28 15 a.val / 100 * s.p24 30 a
  let dt := ((s.shedNs : Nat) : Rat) / 1_000_000_000
  let raw (m : Fin 16) : Rat :=
    if tMin ≤ absRat teAx then (mem m).c + dt * s.par 28 13 a.val * (frac m - part m) else (mem m).c
  let c (m : Fin 16) : Rat := clampRat (-lim) lim (raw m)
  let clamped := live.any fun m => decide (absRat (c m) = lim)
  let n := live.length
  let mean := if n = 0 then 0 else live.foldl (fun z m => z + c m) 0 / (n : Rat)
  let outShare (m : Fin 16) : Rat := match (mem m).act with
    | .rampOut _ last => (last : Rat) * s.actA a (mem m).act / 4000
    | _ => 0
  let r := ms.foldl (fun z m => z + outShare m) 0
  let share (m : Fin 16) : Rat := if (mem m).act.counts then (1 - r) * (frac m + c m - mean) else outShare m
  let code (m : Fin 16) : Nat := min 4000 (nearest (4000 * share m)).toNat
  let all := ms.foldl (fun z m => z + w m) 0
  let kcap := if all = 0 then 1 else live.foldl (fun z m => z + w m * s.memberKth a m) 0 / all
  let s : State := { s with fresh := s.fresh + 32 }
  let s := s.modLsh a fun q =>
    { q with
      members := Vector.ofFn fun (m : Fin 16) =>
        let e := q.members[m]
        if m.val < size then { e with c := if e.act.counts then c m - mean else 0, share := code m } else { e with share := 0 }
      kcap := kcap, teAx := teAx }
  let s := (s.setFlag (Fld.LSH_STATE_CLAMP a) clamped).setFlag (Fld.LSH_STATE_CAP_LIM a) (decide (kcap < 1))
  (s.setReg (Reg.LSH_KCAP a) (ratToF32 kcap)).setReg (Reg.LSH_TEAX a) (ratToF32 teAx)

/-- ACTIVE_MAP of the lead (R338). -/
def State.activeMap (s : State) (a : Fin 4) : BitVec 16 :=
  BitVec.ofNat 16 (groupMembers.foldl (fun z m => z + bitIf m.val s.lsh[a].members[m].act.counts) 0)

/-- The number of bits set in a map. -/
def mapCount (w : BitVec 16) : Nat := (groupMembers.filter fun m => w.getLsbD m.val).length

/-- Too few members (R350): the lead stops the axis with DEC_QS at the second cycle start below MIN_MEMBERS. -/
def State.capWatch (s : State) (a : Fin 4) : State :=
  let n := mapCount (s.activeMap a)
  if s.axState a != AxSt.RUNNING || decide (s.minMembers a ≤ n) then s.modLsh a fun g => { g with belowN := 0 }
  else
    let s := s.modLsh a fun g => { g with belowN := g.belowN + 1 }
    if s.lsh[a].belowN = 2 then
      let s := (s.journal 0x0306 a.val (BitVec.ofNat 32 n)).beginStop a true
      s.modLsh a fun g => { g with cmd := 3 }
    else s

/-- DID_MIN: the most negative DID_M of the last cycle's reports, the lead's own included (R344). -/
def State.didMin (s : State) (a : Fin 4) : Rat :=
  let own := (s.lsh[a].mine.map fun r => f32Val r.did).getD 0
  (s.freshReports a).foldl (fun z r => min z (f32Val r.did)) own

/-- The command of the lead frame (R338, R353): ENABLE until the lead's axis leaves STARTING, then DISABLE where the start
failed. -/
def State.leadCmd (s : State) (a : Fin 4) : Byte :=
  let c := s.lsh[a].cmd
  if c == 1 && s.axState a != AxSt.STARTING then (if s.axActive a then 0 else 4) else c

/-- The lead composes its frame (R338, R340). -/
def State.composeLead (s : State) (a : Fin 4) : State :=
  let map := s.activeMap a
  let cmd := s.leadCmd a
  let flags := s.axState a % 8 + bitIf 3 (s.fld (Fld.SPD_CFG_MODE a) == 1) + bitIf 4 (decide (s.lsh[a].kcap < 1))
  let nRef := f32Val (s.reg (Reg.SPD_NREF a))
  let f : LeadFrame :=
    { group := BitVec.ofNat 16 (s.fld (Fld.LSH_GROUP_GROUP_ID a)), node := s.nodeAddr, cycle := BitVec.ofNat 32 s.shedCycle
      idx := BitVec.ofNat 8 (s.ownIdx a).val, cmd := cmd, active := map, sig := s.lsh[a].sig
      tRef := ratToF32 s.spd[a].tref, nRef := ratToF32 nRef, nCmd := ratToF32 s.spd[a].ncmd
      teAx := ratToF32 s.lsh[a].teAx, didMin := ratToF32 (s.didMin a)
      share := groupMembers.map fun m => BitVec.ofNat 12 s.lsh[a].members[m].share, flags := BitVec.ofNat 16 flags }
  let s := (s.setFld (Fld.LSH_STATE_ACTIVE a) (mapCount map)).setFld (Fld.LSH_MAP_ACTIVE_MAP a) map.toNat
  s.modLsh a fun g => { g with lead := some f, cmd := if cmd == 1 then 1 else if cmd == 4 then 4 else 0 }

/-- The lead's part of a cycle start (R340, R342, R350). -/
def State.leadCycle (s : State) (a : Fin 4) : State :=
  let s := forAll (groupMembers.filter fun m => decide (m.val < s.groupSize a)) (fun m t => t.memberStep a m) s
  (((s.shares a).capWatch a).composeLead a)

/-- SHED_CYCLE_START (R337, R340): every group member of this device. -/
def execShedCycleStart (s : State) : Res :=
  if !s.awake then .next s
  else
    let s := forAll s.groupAxes
      (fun a t =>
        let t := ((((t.memberPoll a).cycleTake a).seek a).cycleLatch a).role a
        if t.leads a then t.leadCycle a else t) s
    .next s.settle

/-! ## Sending (R337 to R339) -/

/-- Three bytes, low byte first. -/
def threeBytes (n : Nat) : List Byte := [BitVec.ofNat 8 n, BitVec.ofNat 8 (n / 256), BitVec.ofNat 8 (n / 65536)]

/-- Two share codes in one 24-bit word (R338). -/
def sharePairs : List (BitVec 12) → List Byte
  | x :: y :: r => threeBytes (x.toNat + 4096 * y.toNat) ++ sharePairs r
  | _ => []

/-- The bytes of a lead frame (R338). -/
def leadBytes (f : LeadFrame) : List Byte :=
  halfBytes f.group.toNat ++ [1, f.node] ++ wordBytes f.cycle ++ [f.idx, f.cmd] ++ halfBytes f.active.toNat ++ wordBytes f.sig ++
    wordBytes f.tRef ++ wordBytes f.nRef ++ wordBytes f.nCmd ++ wordBytes f.teAx ++ wordBytes f.didMin ++ sharePairs f.share ++
    halfBytes f.flags.toNat ++ [0, 0]

/-- The bytes of a report (R339). -/
def reportBytes (r : MemberReport) : List Byte :=
  halfBytes r.group.toNat ++ [2, r.node] ++ wordBytes r.cycle ++ [r.idx, r.mstate] ++ halfBytes r.flags.toNat ++ wordBytes r.sig ++
    wordBytes r.te ++ wordBytes r.n ++ wordBytes r.did ++ halfBytes r.kth.toNat ++ [r.hops, r.mofs] ++ halfBytes r.seen.toNat ++
    List.replicate 30 0

/-- Sends the member's own frame of the cycle, which counts as seen (R335, R339). -/
def State.sendFrame (s : State) (a : Fin 4) (body : List Byte) : State :=
  (s.modLsh a fun g => { g with seen := g.seen ||| (1#16 <<< (s.ownIdx a).val) }).sendClass0 body

/-- SHED_SLOT (R337, R350, R362): the member's one frame of the cycle, unless Weft time is not synchronised or the
console withholds it. -/
def execShedSlot (a : Fin 4) (s : State) : Res :=
  if !s.awake || !s.axisExists a || !s.isShared a then .next s
  else if 0 < s.lsh[a].drop then .next (s.modLsh a fun g => { g with drop := g.drop - 1 })
  else if !s.synced then .next s
  else if s.leads a then
    match s.lsh[a].lead with
    | some f => .next (s.sendFrame a (leadBytes f))
    | none => .next s
  else
    match s.lsh[a].mine with
    | some r => .next (s.sendFrame a (reportBytes r))
    | none => .next s

/-! ## Receiving (R336, R340, R349) -/

/-- The axes of this device in the group of a frame whose CYCLE is the receiver's own (R340). -/
def State.groupOf (s : State) (group : BitVec 16) (cycle : Option Word) : List (Fin 4) :=
  s.groupAxes.filter fun a =>
    s.fld (Fld.LSH_GROUP_GROUP_ID a) == group.toNat &&
    (match cycle with
     | none => true
     | some c => s.lsh[a].mine.any fun r => r.cycle == c)

/-- A member is heard in this cycle. -/
def State.heard (s : State) (a : Fin 4) (idx node : Byte) : State :=
  let m : Fin 16 := Fin.ofNat 16 idx.toNat
  let s := s.modLsh a fun g => { g with seen := g.seen ||| (1#16 <<< m.val) }
  s.modMember a m fun q => { q with node := node, age := 0 }

/-- A lead frame arrives (R336, R340); after T_APPLY it counts as missing. A lead that hears one from a lower node address becomes a follower at once; one
from a higher address is that member's missing report. -/
def State.leadFrameRx (s : State) (f : LeadFrame) : State :=
  if f.node == s.nodeAddr || 16 ≤ f.idx.toNat then s
  else
    forAll (s.groupOf f.group (some f.cycle))
      (fun a t =>
        if t.lsh[a].applied then t
        else
          let t := t.heard a f.idx f.node
          if t.leads a && decide (t.nodeAddr.toNat < f.node.toNat) then t
          else (when (t.leads a) (fun t => t.dropLead a) t).modLsh a fun g => { g with leads := f :: g.leads }) s

/-- LEAD_FRAME (R338, R340). -/
def execLeadFrame (f : LeadFrame) (s : State) : Res := if s.awake then .next (s.leadFrameRx f).settle else .next s

/-- A fault of a member is reported (R349): with GROUP_FAULT it latches AXIS on every local set, without it the lead
gives the member share 0 in its next lead frame. -/
def State.memberFault (s : State) (a : Fin 4) (m : Fin 16) (fault : Bool) : State :=
  let s := s.modMember a m fun q => { q with fault := fault }
  if fault && s.flag (Fld.LSH_CFG_GROUP_FAULT a) then
    forAll (s.axisSets a) (fun x t => t.latchSet x [SF.AXIS]) (s.modLsh a fun g => { g with axisHeld := true })
  else s

/-- A report arrives (R339, R340). Its flags are of its cycle's start: a fault notice of the same cycle is the later word (R349). -/
def State.reportRx (s : State) (r : MemberReport) : State :=
  if r.node == s.nodeAddr || 16 ≤ r.idx.toNat then s
  else
    forAll (s.groupOf r.group (some r.cycle))
      (fun a t =>
        let m : Fin 16 := Fin.ofNat 16 r.idx.toNat
        let t := (t.heard a r.idx r.node).modMember a m fun q => { q with now := some r }
        let t := when (r.mstate == 5) (·.seeRampOut a m) t
        let q := t.lsh[a].members[m]
        if q.fault == r.flags.getLsbD 1 || q.noticed == some r.cycle then t else t.memberFault a m (r.flags.getLsbD 1)) s

/-- REPORT (R339, R340). -/
def execReport (r : MemberReport) (s : State) : Res := if s.awake then .next (s.reportRx r).settle else .next s

/-- A fault notice arrives (R349). -/
def State.noticeRx (s : State) (m : Notice) : State :=
  if m.node == s.nodeAddr || 16 ≤ m.idx.toNat then s
  else
    forAll (s.groupOf m.group none)
      (fun a t =>
        let k : Fin 16 := Fin.ofNat 16 m.idx.toNat
        (t.modMember a k fun q => { q with noticed := some m.cycle }).memberFault a k m.fault) s

/-- FAULT_NOTICE (R349). -/
def execFaultNotice (m : Notice) (s : State) : Res := if s.awake then .next (s.noticeRx m).settle else .next s

/-! ## T_APPLY (R340, R341, R350, R353) -/

/-- The lead frame of a cycle: of several the one from the lowest node address (R336). -/
def pickLead (l : List LeadFrame) : Option LeadFrame :=
  l.foldl
    (fun o f => match o with
      | none => some f
      | some b => if f.node.toNat < b.node.toNat then some f else some b) none

/-- The ramp-outs that a lead frame shows a follower (R357): a member not counted that still has a share. -/
def State.mapSeen (s : State) (a : Fin 4) (f : LeadFrame) : State :=
  forAll groupMembers
    (fun m t =>
      if f.active.getLsbD m.val then t.modMember a m fun q => { q with outSeen := false }
      else if (f.share[m.val]?).any fun c => c != 0 then t.seeRampOut a m
      else t) s

/-- The references of a lead frame come into force on this member (R341, R344 to R346). A member that ramps itself out
keeps its ramp (R350). -/
def State.applyFrame (s : State) (a : Fin 4) (f : LeadFrame) : State :=
  let own := (s.ownIdx a).val
  let code := min 4000 (((f.share[own]?).map fun c => c.toNat).getD 0)
  let ramping := s.lsh[a].ramp.isSome
  let t := f32Val f.tRef * (code : Rat) / 4000
  let s := s.modLsh a fun g =>
    { g with nRef := f32Val f.nRef, nCmd := f32Val f.nCmd, tRef := f32Val f.tRef, didMin := f32Val f.didMin
             teAx := f32Val f.teAx, teDiff := f32Val f.teAx - g.teOld }
  let s := (s.setReg (Reg.LSH_TEAX a) f.teAx).setReg (Reg.LSH_SHARE a) (ratToF32 ((code : Rat) / 4000))
  let s := if ramping then s else s.setTm a (if s.mstate a == 4 then t else 0)
  let s := s.setFlag (Fld.LSH_STATE_CAP_LIM a) (f.flags.getLsbD 4)
  let s := if f.node == s.nodeAddr then s else s.mapSeen a f
  (s.setFld (Fld.LSH_MAP_ACTIVE_MAP a) f.active.toNat).setFld (Fld.LSH_STATE_ACTIVE a) (mapCount f.active)

/-- A follower obeys the lead (R308, R353): ENABLE starts a JOINED member, DISABLE takes it out, the lead's axis
state takes it to STOPPING and STOPPED. -/
def State.obey (s : State) (a : Fin 4) (f : LeadFrame) : State :=
  let st := f.flags.toNat % 8
  if f.cmd == 4 then s.disableNow a
  else if f.cmd == 1 then
    if s.mstate a == 2 && (s.mode == .ready || s.mode == .run) && (s.startRefusal a).isNone then
      (when (s.mode == .ready) (·.setMode .run) s).beginStart a false
    else s
  else if st == AxSt.STOPPED then when (s.axActive a) (·.axisDisable a) s
  else if st == AxSt.STOPPING && s.axState a == AxSt.RUNNING then (s.startTimer (.stop a)).setAxis a AxSt.STOPPING
  else s

/-- Own ACTIVE bit clear in two consecutive lead frames while ACTIVE: SHARE_LOST at once (R350). -/
def State.bitWatch (s : State) (a : Fin 4) (f : LeadFrame) : State :=
  let clear := s.mstate a == 4 && !f.active.getLsbD (s.ownIdx a).val
  let s := s.modLsh a fun g => { g with offN := if clear then g.offN + 1 else 0 }
  if 2 ≤ s.lsh[a].offN then s.shareLost a else s

/-- A lead frame has arrived in time at a follower. One that arrives during the own ramp-out is not used (R350). -/
def State.withLead (s : State) (a : Fin 4) (f : LeadFrame) : State :=
  let other := s.lsh[a].lead.any fun g => g.node != f.node
  let s := when (other && s.anyUnderWay a) (·.incSat (Fld.LSH_CNT_TAKEOVER a)) s
  let s := (s.setFld (Fld.LSH_STATE_LEAD_ADDR a) f.node.toNat).setFld (Fld.LSH_STATE_ROLE a) 2
  let s := (s.setFld (Fld.LSH_STATE_LMISS a) 0).setFlag (Fld.LSH_STATE_HOLD_REF a) false
  let s := s.modLsh a fun g => { g with lead := some f, noLead := 0 }
  if s.mstate a == 5 then s else ((s.bitWatch a f).obey a f).applyFrame a f

/-- No lead frame in time (R350): the last values are held for two cycles; in the third no lead is in force and the member ramps itself
out. -/
def State.withoutLead (s : State) (a : Fin 4) : State :=
  let s := s.modLsh a fun g => { g with noLead := g.noLead + 1 }
  if s.mstate a == 6 then s
  else
    let s := (s.setFld (Fld.LSH_STATE_LMISS a) (min 3 s.lsh[a].noLead)).incSat (Fld.LSH_CNT_LMISS_TOT a)
    let s := s.setFlag (Fld.LSH_STATE_HOLD_REF a) (decide (s.lsh[a].noLead ≤ 2))
    let s := when (decide (3 ≤ s.lsh[a].noLead)) (·.setFld (Fld.LSH_STATE_LEAD_ADDR a) 0) s
    if s.lsh[a].noLead = 3 then s.rampSelf a else s

/-- The lead's own T_APPLY (R341, R353): its frame is applied like a follower's; after CMD DISABLE its axis disables and
the AXIS_DISABLE descriptors waiting for it complete. -/
def State.applyOwn (s : State) (a : Fin 4) : State :=
  match s.lsh[a].lead with
  | none => s
  | some f =>
    let s := s.applyFrame a f
    if f.cmd == 4 then s.endDisable a else s

/-- The own ramp-out at a T_APPLY (R350). -/
def State.rampTm (s : State) (a : Fin 4) : State :=
  match s.lsh[a].ramp with
  | none => s
  | some (t0, t) => s.setTm a (t * clampRat 0 1 (1 - s.since t0 / s.shareRamp a))

/-- SHED_APPLY (R340, R341, R350). -/
def execShedApply (a : Fin 4) (s : State) : Res :=
  if !s.awake || !s.axisExists a || !s.isShared a || s.lsh[a].mine.isNone then .next s
  else
    let s := (s.modLsh a fun g => { g with applied := true }).memberPoll a
    let s := when s.lsh[a].parted (fun t => (t.rampSelf a).modLsh a fun g => { g with parted := false }) s
    let s :=
      if s.leads a && s.synced then s.applyOwn a
      else
        match (if s.synced then pickLead s.lsh[a].leads else none) with
        | some f => s.withLead a f
        | none => (when (s.leads a && s.lsh[a].cmd == 4) (·.endDisable a) s).withoutLead a
    .next ((s.rampTm a).memberPoll a).settle

/-- SHARE_RAMP_END (R332, R350): the own ramp-out is complete. -/
def execShareRampEnd (a : Fin 4) (s : State) : Res :=
  if s.mstate a == 5 && s.lsh[a].ramp.isSome then .next (s.shareLost a).settle else .next s

end Sys2Proof.Machine
end

