-- ==== Sys2Proof/Machine/Fbi.lean ====
section
/-! DEFINITION. Feedback ports (chapter of that name): counting, words, the 1 µs sample with its compare unit, speed
windows, presets, faults and the pass-through outputs. -/

namespace Sys2Proof.Machine

/-- Changes what the model keeps of a feedback port. -/
def State.modFb (s : State) (n : Fin 4) (f : FbPort → FbPort) : State := { s with fb := s.fb.set n (f s.fb[n]) }

/-! ## Settings -/

/-- INTERP (R393). -/
def State.interp (s : State) (n : Fin 4) : Nat := max 2 (min 12 (s.fld (Fld.FBI_CFG_INTERP n)))

/-- DATA_BITS (R393). -/
def State.dataBits (s : State) (n : Fin 4) : Nat := max 8 (min 0x28 (s.fld (Fld.FBI_CFG_BITS n)))

/-- The speed window W in ns (R379). -/
def State.speedWindow (s : State) (n : Fin 4) : Nat := 31250 * 2 ^ min 8 (s.fld (Fld.FBI_CFG_WINK n))

/-- Highest signal frequency of a type, in Hz (R368, R370). -/
def State.freqMax (s : State) (n : Fin 4) : Rat :=
  if s.portType n = 2 then 250_000 else ((max 0x14 (min 0xC8 (s.fld (Fld.FBI_RES_EXCF n))) : Nat) : Rat) * 100 / 8

/-- Latches a port fault (R390). -/
def State.fbFault (s : State) (n : Fin 4) (f : Field) : State := (s.setFlag f true).setFlag (Fld.FBI_STATUS_FAULT n) true

/-! ## Counts (R366, R367, R375 to R377) -/

/-- Sets the raw count, of 64 bits; d takes the sign of a non-zero change, and h absorbs the first count after a reversal (R375). -/
def State.setRaw (s : State) (n : Fin 4) (r : Int) : State :=
  let pulse := s.portType n == 6
  s.modFb n fun p =>
    let neg := if r = p.r then p.neg else decide (r < p.r)
    { p with
      r := (BitVec.ofInt 64 r).toInt, neg := neg, revd := p.revd || neg != p.neg
      h := if !pulse && neg then (BitVec.ofInt 64 r).toInt + 1 else (BitVec.ofInt 64 r).toInt }

/-- TURN (R377). -/
def State.turnOf (s : State) (n : Fin 4) : Nat :=
  let c := s.cpt n
  if c = 0 then 0 else ((s.fb[n].h + s.fb[n].turnAdj) % (c : Int)).toNat

/-- The count of an A/B change (R366): none where both change. -/
def quadStep (a b a' b' : Bool) : Option Int :=
  if a != a' && b != b' then none
  else if a == a' && b == b' then some 0
  else
    -- a rising while b low, b rising while a high, a falling while b high, b falling while a low count +1
    let up := if a != a' then a' != b else b' == a
    some (if up then 1 else -1)

/-- The quadrant of sin and cos from the coarse comparators: sin on A, cos on B (R363, R368). -/
def quadrantOf (sinPos cosPos : Bool) : Nat :=
  match sinPos, cosPos with
  | true, true => 0 | true, false => 1 | false, false => 2 | false, true => 3

/-- Whether a count up to and with `new`, reached from `old`, is z0 or lies a whole number of turns of `n` counts from it: Z is then emitted
on the way (R388). -/
def zPassed (old new z0 n : Int) : Bool :=
  (new - z0) % n == 0 || (if old ≤ new then (new - z0) / n != (old - z0) / n else (old - 1 - z0) / n != (new - 1 - z0) / n)

/-- The levels of A, B and Z that PT_m drives, none while its pins are high-impedance (R387, R388): those of its port in buffer mode, else
the quadrature of the edges emitted, and Z, which a compare pulse of PT_m holds high too (R383). -/
def State.ptLevels (s : State) (m : Fin 4) : Option (Bool × Bool × Bool) :=
  if !s.flag (Fld.PT_STATUS_ACTIVE m) then none
  else if s.fld (Fld.PT_CFG_MODE m) = 1 then
    let p := s.fb[Fin.ofNat 4 (s.fld (Fld.PT_CFG_SRC m))]
    some (p.la, p.lb, p.lz)
  else
    let q := s.pt[m].edges % 4
    some (q == 1 || q == 2, q == 2 || q == 3, s.pt[m].z || s.fb[m].pulse)

/-- Puts the levels on the pins of PT_m. -/
def State.ptPins (s : State) (m : Fin 4) : State := { s with pt := s.pt.set m { s.pt[m] with pins := s.ptLevels m } }

/-- The buffers that reproduce a port follow its levels (R387). -/
def State.ptFollow (s : State) (n : Fin 4) : State :=
  forAll four (fun m t => if t.fld (Fld.PT_CFG_MODE m) = 1 ∧ t.fld (Fld.PT_CFG_SRC m) = n.val then t.ptPins m else t) s

/-- ENCODER_EDGE (R366, R368): the filtered levels of A and B change. -/
def execEncoderEdge (n : Fin 4) (la lb : Bool) (s : State) : Res :=
  let p := s.fb[n]
  let t := s.portType n
  if !s.awake then .next s
  else
    let u := (s.modFb n fun q => { q with la := la, lb := lb, lz := false }).ptFollow n
    if t == 1 then
      match quadStep p.la p.lb la lb with
      | some k => .next (u.setRaw n (p.r + k))
      | none => .next (u.fbFault n (Fld.FBI_FAULT_QUAD n))
    else if t == 2 then
      match (quadrantOf la lb + 4 - quadrantOf p.la p.lb) % 4 with
      | 1 => .next (u.modFb n fun q => { q with per := if quadrantOf la lb = 0 then q.per + 1 else q.per })
      | 3 => .next (u.modFb n fun q => { q with per := if quadrantOf p.la p.lb = 0 then q.per - 1 else q.per })
      | 2 => .next (u.fbFault n (Fld.FBI_FAULT_QUAD n))
      | _ => .next u
    else .next s

/-- STEP_INPUT_EDGE (R367): high counts +1, low counts −1. -/
def execStepInputEdge (n : Fin 4) (high : Bool) (s : State) : Res :=
  if s.awake && s.portType n == 6 then .next (s.setRaw n (s.fb[n].r + (if high then 1 else -1))) else .next s

/-- The raw position of a SINCOS port from the coarse period and the fine angle; none where the quadrants differ by two
(R368). -/
def State.sincosRaw (s : State) (n : Fin 4) (v : Analog) : Option Int :=
  let k : Nat := 2 ^ s.interp n
  let p := s.fb[n]
  let phi := fracTurn (Config.atan2 v.sin v.cos)
  let fine := min (phi * (k : Rat)).floor.toNat (k - 1)
  let q := quadrantOf p.la p.lb
  let qf := min (phi * 4).floor.toNat 3
  match (qf + 4 - q) % 4 with
  | 2 => none
  | 1 => some ((if qf = 0 then p.per + 1 else p.per) * (k : Int) + fine)
  | 3 => some ((if q = 0 then p.per - 1 else p.per) * (k : Int) + fine)
  | _ => some (p.per * (k : Int) + fine)

/-- The shortest difference modulo m; where two are equally short the rule names neither. -/
def shortest (s : State) (d : Int) (m : Nat) : Int × State :=
  let r := d % (m : Int)
  if 2 * r < m then (r, s)
  else if (m : Int) < 2 * r then (r - m, s)
  else
    let f := s.freeBool
    (if f.1 then r else r - m, f.2)

/-- Takes the converted position of a SINCOS or RESOLVER port into the raw count (R364, R368, R370). -/
def State.takeAnalog (s : State) (n : Fin 4) (v : Analog) : State :=
  if s.portType n == 2 then
    match s.sincosRaw n v with
    | some r => s.setRaw n r
    | none => s.fbFault n (Fld.FBI_FAULT_QUAD n)
  else if s.portType n == 5 then
    let a : Int := v.ang.toNat
    match s.fb[n].ang with
    | none =>
      if s.fb[n].excOff then s
      else
        let s := s.modFb n fun p => { p with ang := some a, turnAdj := a - p.h }
        s.setFlag (Fld.FBI_STATUS_TURN_OK n) true
    | some old =>
      let d := shortest s (a - old) 65536
      (d.2.setRaw n (s.fb[n].r + d.1)).modFb n fun p => { p with ang := some a }
  else s

/-! ## The compare unit (R383 to R386) -/

/-- d as a number. -/
def FbPort.d (p : FbPort) : Int := if p.neg then -1 else 1

/-- A hit: counted and stamped, a pulse on PT_n Z in emulate mode, the event CMP_HIT (R383). -/
def State.cmpHit (s : State) (n : Fin 4) : State :=
  let t := s.weft
  let s := ((s.incSat (Fld.FBI_CMPST_HITS n)).setReg (Reg.FBI_CMPT_LO n) (t.extractLsb' 0 32)).setReg (Reg.FBI_CMPT_HI n)
    (t.extractLsb' 32 32)
  let s := match s.con.test with
    | some (.fbiCmp m _ _, _) => if m = n then s.say (.data [("p", (s.reg (Reg.FBI_POS n)).toInt), ("t", t.toNat)]) else s
    | _ => s
  let s := if s.flag (Fld.FBI_CMPCFG_PT_PULSE n) && s.fld (Fld.PT_CFG_MODE n) == 2 then s.modFb n fun p => { p with pulse := true } else s
  if s.flag (Fld.FBI_CMPCFG_HOST_EVT n) then
    (s.event 0x03 [BitVec.ofNat 32 n.val, s.reg (Reg.FBI_POS n), t.extractLsb' 0 32, t.extractLsb' 32 32]).irq 8
  else s

/-- Disarms the compare unit. -/
def State.cmpOff (s : State) (n : Fin 4) : State :=
  (s.setFlag (Fld.FBI_STATUS_CMP_ARMED n) false).setFlag (Fld.FBI_STATUS_CMP_STALE n) false

/-- Advances CMP by the smallest number of spacings that puts it ahead of p, and records the points passed (R384). -/
def State.cmpAdvance (s : State) (n : Fin 4) (p : Int) : State :=
  let sp := s32 (s.reg (Reg.FBI_CMPSP n))
  let c := s32 (s.reg (Reg.FBI_CMP n))
  let d := s.fb[n].d
  let k := (d * (p - c) / (d * sp)).toNat + 1
  (s.setReg (Reg.FBI_CMP n) (toS32 (c + k * sp))).setFld (Fld.FBI_CMPST_SKIP_LAST n) (min (k - 1) 0xFFFF)

/-- R385 on a value just taken: behind, it waits stale or is caught at once; equal to p, a value just written is hit at the next
sample. DEDUCED (log entry 18): a value to be caught in a sample that has had its hit is caught in the next, since a port gives at most
one hit per sample (R383). -/
def State.cmpCheck (s : State) (n : Fin 4) (p : Int) (written hit : Bool) : State :=
  if !s.flag (Fld.FBI_STATUS_CMP_ARMED n) then s
  else
    let c := s32 (s.reg (Reg.FBI_CMP n))
    let d := s.fb[n].d
    let s := s.modFb n fun q => { q with eq := written && c == p }
    if 0 ≤ d * (c - p) then s.setFlag (Fld.FBI_STATUS_CMP_STALE n) false
    else if !s.flag (Fld.FBI_CMPCFG_CMP_LATE n) then
      (s.setFlag (Fld.FBI_STATUS_CMP_STALE n) true).journal 0x0303 n.val (toS32 c) (toS32 p)
    else if hit then s.modFb n fun q => { q with again := true }
    else
      let s := s.cmpHit n
      if d * s32 (s.reg (Reg.FBI_CMPSP n)) ≤ 0 then s.cmpOff n else (s.setFlag (Fld.FBI_STATUS_CMP_STALE n) false).cmpAdvance n p

/-- A value written to CMP (R383, R401): it reads back at once; until the next sample, which arms it, the value before it is in force. -/
def State.cmpPut (s : State) (n : Fin 4) (v : Word) : State :=
  let old := s.reg (Reg.FBI_CMP n)
  (s.setReg (Reg.FBI_CMP n) v).modFb n fun p => { p with cmpW := some (p.cmpW.getD old) }

/-- One sample of the compare unit, in the order of R386. `p` is the position before a preset of this sample, `p1` after
it. -/
def State.cmpSample (s : State) (n : Fin 4) (p p1 : Int) (preset : Bool) : State :=
  let f := s.fb[n]
  let v := s.reg (Reg.FBI_CMP n)
  let s := match f.cmpW with
    | some old => s.setReg (Reg.FBI_CMP n) old
    | none => s
  let c := s32 (s.reg (Reg.FBI_CMP n))
  let d := f.d
  let armed := s.flag (Fld.FBI_STATUS_CMP_ARMED n)
  let hit := armed && (f.eq || (decide (0 ≤ d * (p - c)) && decide (d * (f.prevP - c) < 0)))
  let sp := s32 (s.reg (Reg.FBI_CMPSP n))
  let s := s.modFb n fun q => { q with eq := false, again := false, cmpW := none, prevP := p1 }
  let s := if !hit then s
    else
      let s := (s.cmpHit n).setFlag (Fld.FBI_STATUS_CMP_STALE n) false
      if sp = 0 then s.cmpOff n
      else if 0 < d * sp then s.cmpAdvance n p
      else s.setReg (Reg.FBI_CMP n) (toS32 (c + sp))
  let back := hit && decide (d * sp < 0)
  let s := when f.cmpW.isSome (fun t => (t.setReg (Reg.FBI_CMP n) v).setFlag (Fld.FBI_STATUS_CMP_ARMED n) true) s
  let s := if f.cmpW.isSome || back || preset || f.again then s.cmpCheck n p1 f.cmpW.isSome hit else s
  if f.disarm then (s.cmpOff n).modFb n fun q => { q with disarm := false } else s

/-! ## The sample (R364, R365) -/

/-- Saturation of the reported position (R376). -/
def State.putPos (s : State) (n : Fin 4) : Int × State :=
  let lo := s32 (s.reg (Reg.FBI_SOFTMIN n))
  let hi := s32 (s.reg (Reg.FBI_SOFTMAX n))
  let x := s.fb[n].h + s.fb[n].offset
  let p := clampInt lo hi x
  let s := (s.setFlag (Fld.FBI_STATUS_SAT_HI n) (decide (hi < x))).setFlag (Fld.FBI_STATUS_SAT_LO n) (decide (x < lo))
  (p, s.setReg (Reg.FBI_POS n) (toS32 p))

/-- AMP (R369) latches at the out-of-window sample after the AMP_FILT-th in succession. -/
def State.ampLatch (s : State) (n : Fin 4) : State :=
  when (s.ampOn n && decide (max 1 (s.fld (Fld.FBI_AMP_FILT n)) < s.fb[n].ampN)) (·.fbFault n (Fld.FBI_FAULT_AMP n)) s

/-- The amplitude check of a sample (R369). -/
def State.ampSample (s : State) (n : Fin 4) (v : Analog) : State :=
  let a := if s.portType n == 2 || s.portType n == 5 then Config.sqrt (v.sin * v.sin + v.cos * v.cos) else 0
  let s := s.modFb n fun p => { p with amp := a }
  if !s.ampOn n then s.setFlag (Fld.FBI_STATUS_AMP_LVL n) false
  else
    let lo : Rat := (s.fld (Fld.FBI_AMP_AMPMIN n) : Rat) / 500
    let hi : Rat := (s.fld (Fld.FBI_AMP_AMPMAX n) : Rat) / 500
    let ok := decide (lo ≤ a ∧ a ≤ hi)
    ((s.setFlag (Fld.FBI_STATUS_AMP_LVL n) ok).modFb n fun p => { p with ampN := if ok then 0 else p.ampN + 1 }).ampLatch n

/-- The signal frequency and the RS-422 levels of a sample (R368, R370, R390). -/
def State.signalSample (s : State) (n : Fin 4) (v : Analog) : State :=
  let t := s.portType n
  let fast := (t == 2 || t == 5) && decide (s.freqMax n < absRat v.freq)
  let s := s.modFb n fun p => { p with freqBad := fast, wireBad := !v.wireOk }
  when fast (·.fbFault n (Fld.FBI_FAULT_FREQ n)) s

/-- The target count of a pass-through output in emulate mode, and whether its source is valid (R388, R389). -/
def State.ptTarget (s : State) (m : Fin 4) : Int × Bool × State :=
  let src := s.fld (Fld.PT_CFG_SRC m)
  let ppr := max 1 (s.fld (Fld.PT_CFG_PPR m))
  if src < 4 then
    let n : Fin 4 := Fin.ofNat 4 src
    let c := s.cpt n
    (if c = 0 then 0 else (s.fb[n].h * (4 * ppr : Nat)) / (c : Int), !s.portBad n, s)
  else
    let a : Fin 4 := Fin.ofNat 4 (src - 4)
    let ok := s.flag (Fld.POS_STATUS_VALID a)
    let p := s.pos[a]
    let th := p.th + p.w / Config.twoPi * s.since p.t
    let o := s.pt[m]
    let adv := match o.last with
      | some _ => wrapTurn (th - o.mech)
      | none => 0
    let pp := s.polePairs a
    let mech := o.mech + adv
    let now := s.weft
    let s : State :=
      if ok then { s with pt := s.pt.set m { o with
          mech := if o.last.isNone then th else mech, org := if o.last.isNone then th else o.org, last := some now } } else s
    let turns := if pp = 0 ∨ o.last.isNone then 0 else (mech - o.org) / pp
    ((turns * (4 * ppr : Nat)).floor, ok, s)

/-- Whether Z is emitted as the emulated count goes from `old` to `new` (R388): where TURN of the port is 0, and only with TURN_OK, or
once per turn of an axis from its first valid angle. -/
def State.ptZ (s : State) (m : Fin 4) (old new : Int) : Bool :=
  let src := s.fld (Fld.PT_CFG_SRC m)
  let turn : Int := ((4 * max 1 (s.fld (Fld.PT_CFG_PPR m)) : Nat) : Int)
  if src < 4 then
    let n : Fin 4 := Fin.ofNat 4 src
    s.flag (Fld.FBI_STATUS_TURN_OK n) && s.cpt n != 0 && zPassed old new (-(s.fb[n].turnAdj * turn) / (s.cpt n : Int)) turn
  else zPassed old new 0 turn

/-- An output that does not emulate has no emulated count, no backlog and no source to hold for (R388, R389). -/
def State.ptStop (s : State) (m : Fin 4) : State :=
  let s : State := { s with pt := s.pt.set m PtOut.reset }
  (s.setFlag (Fld.PT_STATUS_HOLD m) false).setFld (Fld.PT_STATUS_LAG m) 0

/-- One sample of a pass-through output (R387 to R389). -/
def State.ptSample (s : State) (m : Fin 4) : State :=
  let src := s.fld (Fld.PT_CFG_SRC m)
  match s.fld (Fld.PT_CFG_MODE m) with
  | 1 => ((s.ptStop m).setFlag (Fld.PT_STATUS_ACTIVE m) (decide (src < 4) && s.portType (Fin.ofNat 4 src) == 1)).ptPins m
  | 2 =>
    let r := s.ptTarget m
    let s := r.2.2.setFlag (Fld.PT_STATUS_ACTIVE m) true
    let o := s.pt[m]
    if !r.2.1 then (s.setFlag (Fld.PT_STATUS_HOLD m) true).ptPins m
    else if s.flag (Fld.PT_STATUS_HOLD m) || !o.live then
      let lost := s.flag (Fld.PT_STATUS_HOLD m)
      let s : State := { s with pt := s.pt.set m { o with emu := r.1, live := true } }
      let s := (s.setFlag (Fld.PT_STATUS_HOLD m) false).setFld (Fld.PT_STATUS_LAG m) 0
      (when lost (·.setFlag (Fld.PT_STATUS_EMU_LOST m) true) s).ptPins m
    else
      let d := r.1 - o.emu
      let most := 80 / max 2 (s.fld (Fld.PT_EMU_MINEDGE m))
      let k := min d.natAbs most
      let lag := d.natAbs - k
      let full := decide (max 1 (s.fld (Fld.PT_EMU_LAGMAX m)) < lag)
      let way : Int := if 0 ≤ d then k else -k
      let emu := if full then r.1 else o.emu + way
      let z := s.ptZ m o.emu (o.emu + way)
      let s : State := { s with pt := s.pt.set m { s.pt[m] with emu := emu, edges := o.edges + way, z := z } }
      let s := s.setFld (Fld.PT_STATUS_LAG m) (if full then 0 else min lag 0xFFFF)
      (when full (·.setFlag (Fld.PT_STATUS_EMU_LOST m) true) s).ptPins m
  | _ => ((s.ptStop m).setFlag (Fld.PT_STATUS_ACTIVE m) false).ptPins m

/-- A port of type OFF reports nothing (R363): its position, turn count, speed, status and faults read 0, but for UNIT_FAILED. -/
def State.portOff (s : State) (n : Fin 4) : State :=
  let s := forAll [Reg.FBI_POS n, Reg.FBI_TURN n, Reg.FBI_SPEED n, Reg.FBI_DELTA n, Reg.FBI_FAULT n] (fun r t => t.setReg r 0) s
  s.setReg (Reg.FBI_STATUS n) (s.reg (Reg.FBI_STATUS n) &&& 2)

/-- The port part of a sample. -/
def State.portSample (s : State) (n : Fin 4) (v : Analog) : State :=
  if s.portType n == 0 then s.portOff n
  else
    let s := ((s.takeAnalog n v).ampSample n v).signalSample n v
    let before := s.putPos n
    let f := s.fb[n]
    let s := if f.load then
        let pr := s32 (s.reg (Reg.FBI_PRESET n))
        before.2.modFb n fun p => { p with offset := pr - p.h, load := false, zOfs := none }
      else before.2.modFb n fun p => { p with offset := p.zOfs.getD p.offset, zOfs := none }
    let s := if f.turnZ then
        (s.modFb n fun p => { p with turnAdj := -p.h, turnZ := false }).setFlag (Fld.FBI_STATUS_TURN_OK n) true
      else s
    let after := s.putPos n
    let s := after.2.cmpSample n before.1 after.1 (f.load || f.zOfs.isSome)
    let s := s.setReg (Reg.FBI_TURN n) (BitVec.ofNat 32 (s.turnOf n))
    let s := s.setFlag (Fld.FBI_STATUS_DIR n) s.fb[n].neg
    s.setFlag (Fld.FBI_STATUS_FAULT n) (s.reg (Reg.FBI_FAULT n) != 0)

/-- PORT_SAMPLE (R364, R365, R413): the sample of FB_n, of PT_n, of step channel 4 + n and the deviations of channels n
and 4 + n, in this order. -/
def execPortSample (n : Fin 4) (v : Analog) (s : State) : Res :=
  if !s.awake then .next s
  else
    let step : Fin 8 := Fin.ofNat 8 (n.val + 4)
    let s := ((s.portSample n v).ptSample n).stepSample step
    .next ((s.devSample (axisChan n)).devSample step)

/-! ## Marks, windows and words -/

/-- INDEX_MARK (R366, R368, R377, R378). A pending LOAD_Z sets the offset with which p reads PRESET at the mark; it comes into force as
the preset of the sample that the mark falls into (R386). -/
def execIndexMark (n : Fin 4) (s : State) : Res :=
  let t := s.portType n
  if !(s.awake && (t == 1 || t == 2)) then .next s
  else
    let f := s.fb[n]
    let at_ : Int := if t == 2 then (if f.neg then 1 else 0) + f.per * (2 ^ s.interp n : Nat) else f.h
    let p := clampInt (s32 (s.reg (Reg.FBI_SOFTMIN n))) (s32 (s.reg (Reg.FBI_SOFTMAX n))) (at_ + f.offset)
    let s := (s.modFb n fun q => { q with lz := true }).ptFollow n
    let s := (s.setReg (Reg.FBI_ZCAP n) (toS32 p)).setFlag (Fld.FBI_STATUS_Z_SEEN n) true
    let s := when f.loadZ (·.modFb n fun q => { q with zOfs := some (s32 (s.reg (Reg.FBI_PRESET n)) - at_), loadZ := false }) s
    if s.flag (Fld.FBI_CFG_Z_REF n) && !s.flag (Fld.FBI_STATUS_TURN_OK n) then
      .next ((s.modFb n fun q => { q with turnAdj := -at_ }).setFlag (Fld.FBI_STATUS_TURN_OK n) true)
    else .next s

/-- SPEED_WINDOW_END (R379 to R382): h is latched at the boundary, and Δ and the speed are reported. -/
def execSpeedWindowEnd (n : Fin 4) (v : Analog) (s : State) : Res :=
  let t := s.portType n
  if !s.awake || t == 0 then .next s
  else
    let s := s.takeAnalog n v
    let f := s.fb[n]
    let serial := t == 3 || t == 4
    let cpt := s.cpt n
    let wordAt := f.wordAt
    let same := serial && (match f.winWord with
      | some (_, ts) => ts == wordAt
      | none => f.word.isNone)
    let delta : Int := match serial, f.winWord with
      | true, some (h, _) => f.h - h
      | true, none => 0
      | _, _ => f.h - f.hStart
    let span : Rat := match serial, f.winWord with
      | true, some (_, ts) => ((wordAt.toNat - ts.toNat : Nat) : Rat)
      | true, none => 0
      | _, _ => s.speedWindow n
    let still := if delta = 0 then f.stillN + 1 else 0
    let stop := decide (max 1 (s.fld (Fld.FBI_CFG_STILL n)) ≤ still)
    let was := s.flag (Fld.FBI_STATUS_STILL n)
    let n60 : Rat := if cpt = 0 || span = 0 || stop then 0 else 60 * (delta : Rat) * 1_000_000_000 / ((cpt : Rat) * span)
    let s := (s.setReg (Reg.FBI_DELTA n) (toS32 delta)).setFlag (Fld.FBI_STATUS_STILL n) stop
    let s := s.setFlag (Fld.FBI_STATUS_START n) (was && delta != 0)
    let s := (s.setFlag (Fld.FBI_STATUS_REV n) f.revd).setFlag (Fld.FBI_STATUS_DIR n) f.neg
    let s := if same then s.setFlag (Fld.FBI_STATUS_STALE n) true else s.setReg (Reg.FBI_SPEED n) (ratToF32 n60)
    let s := if same && stop then s.setReg (Reg.FBI_SPEED n) 0 else s
    .next (s.modFb n fun p =>
      { p with
        hStart := p.h, revd := false, stillN := min still 15
        winWord := if serial && p.word.isSome then some (p.h, p.wordAt) else none })

/-- SERIAL_READ_REQUEST (R371): sent where MONO has passed since the last clock edge, else skipped. -/
def execSerialReadRequest (n : Fin 4) (s : State) : Res :=
  let t := s.portType n
  if !(s.awake && (t == 3 || t == 4)) then .next s
  else
    let f := s.fb[n]
    let now := s.weft
    let mono := max 1 (s.fld (Fld.FBI_SER_MONO n)) * 1000
    let s := s.modFb n fun p => { p with periods := p.periods + 1 }
    let busy := match f.clkAt with
      | some e => decide (now.toNat < e.toNat + mono)
      | none => false
    if busy then .next s
    else
      let clk := 100 * (min 0x63 (s.fld (Fld.FBI_SER_CLKDIV n)) + 1)
      let stop := BitVec.ofNat 64 (now.toNat + (s.dataBits n + 8) * clk)
      .next (s.modFb n fun p => { p with reqAt := some now, clkAt := some stop })

/-- Gray code to binary (R372). -/
def grayToBin (w : BitVec 40) : BitVec 40 :=
  let x := w ^^^ (w >>> 1)
  let x := x ^^^ (x >>> 2)
  let x := x ^^^ (x >>> 4)
  let x := x ^^^ (x >>> 8)
  let x := x ^^^ (x >>> 16)
  x ^^^ (x >>> 32)

/-- One bit into the CRC-6 of a BiSS-C frame, polynomial x⁶ + x + 1 (R373). -/
def crc6Bit (c : BitVec 6) (b : Bool) : BitVec 6 := (c <<< 1) ^^^ (if c.getLsbD 5 != b then 3#6 else 0#6)

/-- The data bits of a word, MSB first. -/
def dataBitsOf (k : Nat) (w : BitVec 40) : List Bool := (List.range k).reverse.map fun i => w.getLsbD i

/-- Whether the parity or the CRC of a received word is right (R372, R373): even parity over the data bits of an SSI word, where PARITY
is set; over the position bits, nE and nW of a BiSS-C frame a CRC-6 that starts from 0 and is sent inverted. -/
def State.checkOk (s : State) (n : Fin 4) (v : SerialIn) : Bool :=
  let data := dataBitsOf (s.dataBits n) v.bits
  if s.portType n = 3 then !s.flag (Fld.FBI_CFG_PARITY n) || data.foldl (· != ·) false == v.check.getLsbD 0
  else (data ++ [v.nE, v.nW]).foldl crc6Bit 0 == ~~~v.check

/-- SERIAL_WORD (R372 to R374): a word is accepted, or discarded whole with STALE. -/
def execSerialWord (n : Fin 4) (v : SerialIn) (s : State) : Res :=
  let t := s.portType n
  let f := s.fb[n]
  match f.reqAt with
  | none => .next s
  | some ts =>
    if !(s.awake && (t == 3 || t == 4)) then .next s
    else
      let m := 2 ^ s.dataBits n
      let raw : BitVec 40 := BitVec.ofNat 40 (v.bits.toNat % m)
      let w := (if t == 3 && s.flag (Fld.FBI_CFG_GRAY n) then grayToBin raw else raw).toNat
      let d := shortest s ((w : Int) - (f.word.getD w : Nat)) m
      let jump := s.fld (Fld.FBI_JUMP_MAX n)
      let far := f.word.isSome && !f.anew && jump != 0 && decide (jump * max 1 f.periods < d.1.natAbs)
      let ok := v.lineOk && !far && s.checkOk n v && (t == 3 || v.startOk && v.nE)
      let s := d.2.modFb n fun p => { p with reqAt := none }
      let s := if t == 4 && v.startOk then s.setFlag (Fld.FBI_STATUS_ENC_ERR n) (!v.nE) else s
      if !ok then
        .next (((s.setFlag (Fld.FBI_STATUS_STALE n) true).incSat (Fld.FBI_CNT_BADWORD n)).incSat (Fld.FBI_CNT_STALE_N n))
      else
        let s := s.setRaw n (match f.word with
          | some _ => f.r + d.1
          | none => w)
        let first := !s.flag (Fld.FBI_STATUS_TURN_OK n)
        let s := s.modFb n fun p =>
          { p with word := some w, wordAt := ts, periods := 0, anew := false, turnAdj := if first then (w : Int) - p.h else p.turnAdj }
        let s := (s.setFlag (Fld.FBI_STATUS_STALE n) false).setFld (Fld.FBI_CNT_STALE_N n) 0
        let s := if t == 4 then s.setFlag (Fld.FBI_STATUS_WARN n) (!v.nW) else s
        .next (s.setFlag (Fld.FBI_STATUS_TURN_OK n) true)

/-! ## Faults (R43, R369, R370, R390) -/

/-- AMP (R369): more than AMP_FILT consecutive samples out of the window. -/
def execAmp (n : Fin 4) (s : State) : Res := .next (s.ampLatch n)

/-- WIRE (R390): on the types with RS-422 inputs. -/
def execWire (n : Fin 4) (s : State) : Res :=
  let t := s.portType n
  if s.awake && (t == 1 || t == 3 || t == 4 || t == 6) then
    .next ((s.modFb n fun p => { p with wireBad := true }).fbFault n (Fld.FBI_FAULT_WIRE n))
  else .next s

/-- EXC (R370): the excitation is switched off until FUNC_REINIT. -/
def execExc (n : Fin 4) (s : State) : Res :=
  if s.awake && s.portType n == 5 then
    .next ((s.modFb n fun p => { p with excOff := true }).fbFault n (Fld.FBI_FAULT_EXC n))
  else .next s

/-- The two ports on an encoder supply (R42, R43). -/
def supplyPorts (k : Fin 2) : List (Fin 4) := [Fin.ofNat 4 (2 * k.val), Fin.ofNat 4 (2 * k.val + 1)]

/-- FB_SUPPLY (R43): the supply is switched off and both ports on it take a fault. -/
def execFbSupply (k : Fin 2) (s : State) : Res :=
  if !s.awake then .next s
  else
    let s := forAll (supplyPorts k) (fun n t => (t.modFb n fun p => { p with supply := false }).fbFault n (Fld.FBI_FAULT_SUPPLY n)) s
    .next (s.journal 0x0307 k.val (s.reg (Reg.FBI_FAULT (2 * k.val))) (s.reg (Reg.FBI_FAULT (2 * k.val + 1))))

/-! ## Commands to a port (R378, R383, R386, R400) -/

/-- CMP_WRITE (R383, R401): the value is armed from the next sample. -/
def execCmpWrite (w : Writer) (n : Fin 4) (value : Word) (s : State) : Res :=
  s.access w (Reg.FBI_CMP n) value fun s => s.cmpPut n value

/-- The axes that use a port as position source and that `busy` selects. -/
def State.portUsed (s : State) (n : Fin 4) (busy : Fin 4 → Bool) : Bool :=
  four.any fun a => s.axisExists a && s.source_ a == 1 && s.commPort a == n && busy a

/-- Whether LOAD and LOAD_Z are refused (R378). -/
def State.presetBarred (s : State) (n : Fin 4) : Bool :=
  s.portUsed n fun a => s.fld (Fld.SPD_CFG_MODE a) == 1 && s.axActive a

/-- LOAD (R378). -/
def execLoad (w : Writer) (n : Fin 4) (s : State) : Res :=
  s.access w (Reg.FBI_CTRL n) 1 fun s =>
    if s.presetBarred n then s.setFlag (Fld.FBI_STATUS_PRE_REFUSED n) true
    else (s.setFlag (Fld.FBI_STATUS_PRE_REFUSED n) false).modFb n fun p => { p with load := true }

/-- LOAD_Z (R378). -/
def execLoadZ (w : Writer) (n : Fin 4) (s : State) : Res :=
  s.access w (Reg.FBI_CTRL n) 2 fun s =>
    if s.presetBarred n then s.setFlag (Fld.FBI_STATUS_PRE_REFUSED n) true
    else (s.setFlag (Fld.FBI_STATUS_PRE_REFUSED n) false).modFb n fun p => { p with loadZ := true }

/-- TURN_ZERO (R378). -/
def execTurnZero (w : Writer) (n : Fin 4) (s : State) : Res :=
  s.access w (Reg.FBI_CTRL n) 4 fun s =>
    if s.portUsed n fun a => s.axState a == AxSt.RUNNING || s.axState a == AxSt.STOPPING then
      s.setFlag (Fld.FBI_STATUS_PRE_REFUSED n) true
    else (s.setFlag (Fld.FBI_STATUS_PRE_REFUSED n) false).modFb n fun p => { p with turnZ := true }

/-- CMP_DISARM (R386). -/
def execCmpDisarm (w : Writer) (n : Fin 4) (s : State) : Res :=
  s.access w (Reg.FBI_CTRL n) 8 fun s => s.modFb n fun p => { p with disarm := true }

/-- CMP_PULSE_END (R383): WIDTH after the last hit. -/
def execCmpPulseEnd (n : Fin 4) (s : State) : Res :=
  let u := s.modFb n fun p => { p with pulse := false }
  .next (if u.fld (Fld.PT_CFG_MODE n) = 2 then u.ptPins n else u)

end Sys2Proof.Machine
end

