-- ==== Sys2Proof/Machine/Operands.lean ====
section
/-! DEFINITION. The operand forms of a parameter write: the carried value, its range and its grid (R12, R142), the
rules of each group (R155, R199, R303, R371, R376, R382, R413, R578, R595), the conditions of an RWL register (R8) as
each group takes them, and which instances exist (R22, R640). -/

namespace Sys2Proof.Machine

/-- The value a word carries in a form (R12); none for an infinity or a NaN. -/
def formValue : ParamForm → Word → Option Rat
  | .f32, w => f32ToRat w
  | .i32, w => some (s32 w : Rat)
  | .u32, w => some (w.toNat : Rat)

/-- A parameter of a bank, in the unit of its table. -/
def bankPar (b : Bank) (g i inst : Nat) : Rat :=
  match paramRow g i with
  | some r => (formValue r.form (sparseGet paramDefault b (paramKey g i inst))).getD 0
  | none => 0

/-- The source codes of R479; `tx` adds those permitted in transmitted bits only. -/
def sourceCodeOk (tx : Bool) (c : Nat) : Bool :=
  c ≤ 1 || (c / 256 == 1 && decide (c % 256 < 8)) || (tx && c / 256 == 2 && decide (c % 256 < 4))
    || decide (0x8000 ≤ c ∧ c < 0x8000 + 16 * 32)

/-- The output codes of R471. -/
def outputCodeOk (c : Nat) : Bool :=
  c ≤ 1 || (c / 256 == 1 && decide (c % 256 < 8)) || ((c / 256 == 2 || c / 256 == 3) && decide (c % 256 < 4))
    || decide (0x8000 ≤ c ∧ c < 0x8000 + 16 * 32)

/-- The coded parameters: sources (R479), outputs (R471), routes (R474) and the CAN timing values (R590), whose ranges
R578 gives. -/
def codeOk (g i c : Nat) : Bool :=
  if g = 44 then
    if i = 20 then outputCodeOk c
    else if i = 33 || i = 34 then decide (c ≤ 5)
    else sourceCodeOk (60 ≤ i) c
  else true

/-- Whether a carried value is the binary32 number nearest to a bound of a range, and so stands for that bound (R12). -/
def isBound (f : ParamForm) (b v : Rat) : Bool :=
  f == .f32 && v == f32Val (ratToF32 b)

/-- Whether a value lies on the grid and inside the range of a parameter (R142). A whole-number or half-step parameter
takes any value in range: R142 rounds it. -/
def rangeOk (r : ParamRow) (i : Nat) (w : Word) : Bool :=
  match formValue r.form w with
  | none => false
  | some v =>
    ((r.zero && v == 0) || decide (r.lo ≤ v ∧ v ≤ r.hi) || isBound r.form r.lo v || isBound r.form r.hi v) &&
    (match r.grid with
     | .list xs => xs.contains v
     | .code => codeOk r.group i w.toNat
     | .canId => decide (w.toNat ≤ 0x7FF) || decide (2 ^ 31 ≤ w.toNat ∧ w.toNat < 2 ^ 31 + 2 ^ 29)
     | _ => true)

/-- The word stored for an accepted value: rounded to the nearest step of its grid (R142). -/
def roundWord (r : ParamRow) (w : Word) : Word :=
  match r.form, r.grid with
  | .f32, .int => ratToF32 (nearest (f32Val w))
  | .f32, .half => ratToF32 ((nearest (2 * f32Val w) : Rat) / 2)
  | _, _ => w

/-! ## The rules of a group -/

/-- The carrier period of R199 in ns, from P18.001. -/
def carrierNs (f : Rat) : Rat := 2 * (nearest (200_000_000 / f) : Rat) * 5 / 2

/-- The bit timing rules of R578 on a bank. -/
def canTimingOk (b : Bank) (c : Nat) : Bool :=
  let p (i : Nat) := bankPar b 38 i c
  let within (x lo hi : Rat) : Bool := decide (lo ≤ x ∧ x ≤ hi)
  let nom : Rat := 80_000_000 / (p 10 * (1 + p 11 + p 12))
  let dat : Rat := 80_000_000 / (p 20 * (1 + p 21 + p 22))
  within (p 10) 1 32 && within (p 11) 1 256 && within (p 12) 1 128 && within (p 13) 1 128 && decide (p 13 ≤ p 12)
    && within nom 20_000 1_000_000
    && within (p 20) 1 32 && within (p 21) 1 32 && within (p 22) 1 16 && within (p 23) 1 16 && decide (p 23 ≤ p 22)
    && within dat nom 8_000_000 && (decide (dat ≤ 2_000_000) || p 24 != 0)

/-- The serial read and window rules of R371 and R382 on a bank. -/
def serialOk (b : Bank) (n : Nat) : Bool :=
  let p (i : Nat) := bankPar b 30 i n
  let t := (p 1).floor
  if t == 3 || t == 4 then
    decide ((p 30 + 8) * 1000 / p 33 + p 35 ≤ p 34) && decide (2 * p 34 ≤ 125 / 4 * (2 ^ (p 10).floor.toNat : Nat))
  else true

/-- The rules of the group that a write of P<g>.<i> of an instance shall keep, on the bank after the write; SUPPLY is a
high-side choice (R107). -/
def groupOk (b : Bank) (g i inst : Nat) : Bool :=
  let p (k : Nat) := bankPar b g k inst
  match g with
  | 14 => i != 3 || (decide (inst < 24) && inst % 2 == 0) || p 3 == 0
  | 16 => i == 40 || (decide (p 20 < p 21) && decide (p 21 < p 22) && decide (p 23 < p 20))
  | 18 => decide (p 30 * 1000 ≤ carrierNs (p 1) / 2) && decide (p 31 ≤ p 30) && decide (p 11 < p 21)
  | 22 => decide (p 12 < p 13)
  | 30 => 50 ≤ i || (decide (p 5 < p 6) && serialOk b inst)
  | 32 =>
    decide (p 31 * (2 * p 32) ≤ 1_000_000) && decide (p 31 ≤ 2_000_000) && ((i != 43 && i != 44) || decide (p 43 < p 44))
  | 38 => canTimingOk b inst
  | 50 =>
    (([0, 10, 20, 30] : List Nat).all fun o =>
        decide (p (o + 1) ≤ p (o + 2)) && decide (p (o + 2) < p (o + 3)) && decide (p (o + 3) ≤ p (o + 4)))
      && decide (p 43 < p 44) && decide (p 44 < p 45)
  | _ => true

/-! ## Instances and locks -/

/-- Whether an instance lies in the range of a parameter (R640). DEV_PORT, LIM_SEL and SOURCE exist on step channels, PC_PORT on axis
channels (R422). -/
def ParamRow.instIn (r : ParamRow) (inst : Nat) : Bool :=
  match r.inst with
  | .device => true
  | .channel =>
    decide (inst < r.insts) && (if [12, 21, 30].contains r.item then decide (4 ≤ inst) else r.item != 50 || decide (inst < 4))
  | _ => decide (inst < r.insts)

/-- Whether an instance of a parameter exists (R22, R640): the index lies in its range, and an axis parameter names an
axis of the active topology. With no active profile every axis index counts as existing (R92). -/
def State.instOk (s : State) (r : ParamRow) (inst : Nat) : Bool :=
  r.instIn inst &&
  (match r.inst with
   | .axis => !s.profileActive || s.topology.has (Fin.ofNat 4 inst)
   | .channel => 4 ≤ inst || !s.profileActive || s.topology.has (Fin.ofNat 4 inst)
   | _ => true)

/-- The instance byte of a device-wide parameter is ignored (R529). -/
def ParamRow.inst' (r : ParamRow) (inst : Nat) : Nat := if r.inst = .device then 0 else inst

/-- Whether the axes that own a feedback port are STOPPED; a port owned by none counts as owned by a STOPPED axis
(R403). -/
def State.portFree (s : State) (n : Nat) : Bool :=
  !s.profileActive || !s.portUsed (Fin.ofNat 4 n) fun a => s.axState a != AxSt.STOPPED

/-- Whether the axis that owns a pass-through output is STOPPED. DESIGN CHOICE (log entry 60): PT_m is owned by what it takes its counts
from, AX_a in emulate mode from an axis, else the axes that own its port; while it is off, by none (R387, R388, R402). -/
def State.ptFree (s : State) (m : Nat) : Bool :=
  let mode := s.fld (Fld.PT_CFG_MODE m)
  let src := s.fld (Fld.PT_CFG_SRC m)
  if mode = 2 ∧ 4 ≤ src then s.axFree (Fin.ofNat 4 src)
  else if (mode = 1 ∨ mode = 2) ∧ src < 4 then s.portFree src
  else true

/-- Whether the conditions of an RWL register hold for a parameter (R8 and the rules of its group). PHASE is a RW register
(R192), so nothing binds it. -/
def State.paramFree (s : State) (r : ParamRow) (i inst : Nat) : Bool :=
  match r.group with
  | 10 => true
  | 60 => true
  | 50 => true
  | 18 => i == 3 || s.setFree (Fin.ofNat 4 inst)
  | 14 => s.setFree (chanSet inst)
  | 30 => if 50 ≤ i then s.ptFree inst else s.portFree inst
  | 32 => if inst < 4 then s.axFree (Fin.ofNat 4 inst) else !s.flag (Fld.PRG_STATE_MOVING inst)
  | 36 => !s.profileActive || s.allStopped
  | 38 => !s.flag (Fld.CAN_CFG_ENABLE inst)
  | _ =>
    match r.inst with
    | .axis => s.axFree (Fin.ofNat 4 inst)
    | _ => s.setFree (Fin.ofNat 4 inst)

end Sys2Proof.Machine
end

