-- ==== Sys2Proof/Machine/Weft.lean ====
section
/-! DEFINITION. The Weft fabric: links (R544 to R547), kinds and delivery (R549 to R551), node addresses (R552, R553),
routing (R554, R555), contexts (R558, R559), WEFT_SEND (R563) and Weft time (R564 to R567). -/

namespace Sys2Proof.Machine

/-- Eight bytes, low byte first. -/
def timeBytes (t : Time) : List Byte := wordBytes (t.setWidth 32) ++ wordBytes ((t >>> 32).setWidth 32)

/-- Adds to a saturating count. -/
def State.addSat (s : State) (f : Field) (n : Nat) : State := s.setFld f (min (2 ^ f.width - 1) (s.fld f + n))

/-! ## Routes (R554) -/

/-- Sends ROUTE on a port (R554): poison reverse for what is routed through it. A node without an address sends none
(R552). -/
def State.sendRoute (s : State) (p : Fin 4) : State :=
  let s := s.modPort p fun q => { q with due := false }
  if s.nodeAddr == 0 || !s.linkUp p then s
  else
    let own := s.nodeAddr.toNat
    let body := (List.range 254).map fun k =>
      BitVec.ofNat 8 (if k + 1 = own then 0 else if s.routeA (k + 1) == p then 16 else s.metric (k + 1))
    let r := s.takePkt 2
    forAll (fragments (s.ownFrame 5 2 0 r.1) body) (fun f t => t.originate p f) r.2

/-- A triggered ROUTE, at most one per port per 100 µs (R554). -/
def State.duePoll (s : State) (p : Fin 4) : State :=
  let q := s.wft.port[p]
  let now := s.sys.poweredNs
  let free : Bool := q.routeAt.all fun t => decide (t + 100_000 ≤ now)
  if q.due && free && s.linkUp p then (s.modPort p fun q => { q with routeAt := some now }).sendRoute p else s

/-- Changes costs or the own address; every ACTIVE port sends ROUTE where a metric changed (R554). -/
def State.reroute (s : State) (f : State → State) : State :=
  let old := s.metrics
  let s := f s
  let s := if s.metrics = old then s
    else forAll s.upPorts (fun p t => (t.modPort p fun q => { q with due := true }).duePoll p) s
  s.weftLive.routeWatch

/-! ## Weft time: the parent (R564, R566, R567) -/

/-- The address of a UID, 0 where none is known. -/
def State.addrOf (s : State) (uid : Time) : Nat :=
  if uid = Config.uid then s.nodeAddr.toNat else ((s.wft.known.find? fun e => e.1 == uid).map fun e => e.2.toNat).getD 0

/-- Whether the neighbour on a port may be the parent (R564). -/
def State.candidate (s : State) (p : Fin 4) : Option HelloMsg :=
  let q := s.wft.port[p]
  match q.hello with
  | none => none
  | some h =>
    if s.linkUp p && 2 ≤ h.sstate.toNat && h.parentUid != Config.uid && s.flag (Fld.WFT_P_STATE_DELAY_OK p) && q.seq.isSome
        && decide (s.sys.poweredNs ≤ q.seqAt + 4 * s.syncNs) then some h else none

/-- Whether one key of R564 comes before another. -/
def keyLess (p1 : Nat) (u1 : Time) (p2 : Nat) (u2 : Time) : Bool := p1 < p2 || (p1 == p2 && decide (u1.toNat < u2.toNat))

/-- The best candidate: lowest key, then fewest steps, then lowest port index (R564). -/
def State.bestParent (s : State) : Option (Fin 4 × HelloMsg) :=
  four.foldl
    (fun (o : Option (Fin 4 × HelloMsg)) p => match s.candidate p, o with
      | none, o => o
      | some h, none => some (p, h)
      | some h, some b =>
        let less := keyLess h.gmPrio.toNat h.gmUid b.2.gmPrio.toNat b.2.gmUid
        let same := h.gmPrio == b.2.gmPrio && h.gmUid == b.2.gmUid
        if less || (same && decide (h.steps.toNat < b.2.steps.toNat)) then some (p, h) else some b) none

/-- Shows the parent port (R574). -/
def State.showParent (s : State) (o : Option (Fin 4)) : State :=
  forAll four (fun p t => t.setFlag (Fld.WFT_P_STATE_PARENT p) (o == some p)) s

/-- Follows a parent (R564, R566): the first 8 SYNCs of a new one are averaged; a synchronised node keeps its state. -/
def State.follow (s : State) (p : Fin 4) (h : HelloMsg) : State :=
  let s : State := if s.wft.parent == some p then s
    else s.modWft fun w => { w with parent := some p, newN := 8, newSum := 0, wins := 0 }
  let s := when (s.fld Fld.WFT_SYNC_SSTATE == 0) (·.setFld Fld.WFT_SYNC_SSTATE 1) s
  let s := (s.setFlag Fld.WFT_SYNC_GM false).setFld Fld.WFT_SYNC_PARENT p.val
  let s := (s.setFld Fld.WFT_SYNC_STEPS (min 15 (h.steps.toNat + 1))).setFld Fld.WFT_SYNC_GM_PRIO h.gmPrio.toNat
  (s.setFld Fld.WFT_SYNC_GM_ADDR (s.addrOf h.gmUid)).showParent (some p)

/-- Chooses the parent, or becomes grandmaster, or runs FREE (R564). DEDUCED (log entry 61): a candidate that follows this node as its
grandmaster bears this node's own key, at more steps than its own 0, and is not preferred to it. -/
def State.chooseParent (s : State) : State :=
  let prio := (s.p36 12).floor.toNat
  let gm (s : State) : State :=
    let s := (s.modWft fun w => { w with parent := none, newN := 0 }).showParent none
    let s := (s.setFlag Fld.WFT_SYNC_GM true).setFld Fld.WFT_SYNC_SSTATE 3
    let s := (s.setFld Fld.WFT_SYNC_STEPS 0).setFld Fld.WFT_SYNC_PARENT 0
    (s.setFld Fld.WFT_SYNC_GM_PRIO prio).setFld Fld.WFT_SYNC_GM_ADDR s.nodeAddr.toNat
  match s.bestParent with
  | some (p, h) => if prio ≠ 255 ∧ !keyLess h.gmPrio.toNat h.gmUid prio Config.uid then gm s else s.follow p h
  | none =>
    if prio ≠ 255 then gm s
    else
      let s := (s.modWft fun w => { w with parent := none, newN := 0 }).showParent none
      let s := (s.setFlag Fld.WFT_SYNC_GM false).setFld Fld.WFT_SYNC_SSTATE 0
      let s := (s.setFld Fld.WFT_SYNC_STEPS 0).setFld Fld.WFT_SYNC_PARENT 0
      (s.setFld Fld.WFT_SYNC_GM_PRIO 0).setFld Fld.WFT_SYNC_GM_ADDR 0

/-- The parent is lost (R567). -/
def State.parentLost (s : State) : State := (s.incSat Fld.WFT_CNT_PLOSS).chooseParent

/-! ## Links (R545 to R547) -/

/-- A frame has arrived on a port (R547). -/
def State.heardOn (s : State) (p : Fin 4) : State :=
  let now := s.sys.poweredNs
  s.modPort p fun q => { q with heardAt := now }

/-- A port leaves ACTIVE (R547). -/
def State.leaveActive (s : State) (p : Fin 4) : State :=
  let q := s.wft.port[p]
  let s := s.addSat (Fld.WFT_P_ERR_Q01_DROP p) q.q01.length
  let s := s.addSat (Fld.WFT_P_UTIL_Q23_DROP p) (q.q2.length + q.q3.length)
  let s := (s.incSat (Fld.WFT_P_STATE_RETRAIN p)).setFld (Fld.WFT_P_STATE_LSTATE p) 1
  let s := s.setFlag (Fld.WFT_P_STATE_DELAY_OK p) false
  let s := s.reroute fun t => t.modPort p fun q =>
    { q with trainN := 0, cost := [], q01 := [], q2 := [], q3 := [], tx := none, hello := none, seq := none, delays := []
             reqT := none, gone := [], due := false }
  let s := s.journal 0x0600 p.val (s.reg (Reg.WFT_P_STATE p))
  if s.wft.parent == some p then s.parentLost else s

/-- A port returns to TRAIN (R547). -/
def State.toTrain (s : State) (p : Fin 4) : State :=
  if s.lstate p = 2 then s.leaveActive p
  else (s.setFld (Fld.WFT_P_STATE_LSTATE p) 1).modPort p fun q => { q with trainN := 0 }

/-- PORT_EN acts (R94, R545, R575): a port set in it starts training, one that is not is DISABLED. -/
def State.portEnable (s : State) : State :=
  let en := s.parNat 36 2 0
  forAll four
    (fun p t =>
      let l := t.lstate p
      if l = 4 then t
      else if en.testBit p.val then (if l = 0 then t.toTrain p else t)
      else if l = 0 then t
      else (t.toTrain p).setFld (Fld.WFT_P_STATE_LSTATE p) 0) s

/-! ## Broadcasts (R552, R555) -/

/-- Whether a broadcast has been seen in the last 10 ms, and the state that remembers it: the last 64 keys. -/
def State.seenCast (s : State) (uid : Time) (src : Byte) (pkt : BitVec 16) : Bool × State :=
  let now := s.sys.poweredNs
  let live := s.wft.casts.filter fun e => decide (now ≤ e.2.2.2 + 10_000_000)
  let hit := live.any fun e => e.1 == uid && e.2.1 == src && e.2.2.1 == pkt
  (hit, s.modWft fun w => { w with casts := if hit then live else (uid, src, pkt, now) :: live.take 63 })

/-- Sends frames on every ACTIVE port but one, with one hop more, or discards them at the hop limit (R555). -/
def State.flood (s : State) (from_ : Fin 4) (fs : List WFrame) : State :=
  if fs.any fun f => f.hops == 15 then s.addSat Fld.WFT_CNT_HOPLIM fs.length
  else forAll (s.upPorts.filter (· != from_)) (fun p t => forAll fs (fun f u => u.enqueue p { f with hops := f.hops + 1 }) t) s

/-- Forwards frames for another node (R555). -/
def State.forward (s : State) (fs : List WFrame) : State :=
  match fs with
  | [] => s
  | f :: _ =>
    if f.hops == 15 then s.addSat Fld.WFT_CNT_HOPLIM fs.length
    else if 16 ≤ s.metric f.dst.toNat then s.addSat Fld.WFT_CNT_NOROUTE fs.length
    else
      let p := if f.routeB then s.routeB f.dst.toNat else s.routeA f.dst.toNat
      forAll fs (fun f t => t.enqueue p { f with hops := f.hops + 1 }) s

/-! ## Node addresses (R552, R553) -/

/-- ADDR_LOCK. -/
def State.addrLock (s : State) : Bool := s.p36 11 != 0

/-- Broadcasts CLAIM (kind 3) or DEFEND (kind 4) for an address. -/
def State.announce (s : State) (kind : Nat) (addr : Byte) : State :=
  let r := s.takePkt 2
  let body := timeBytes Config.uid ++ [addr, if s.addrLock then 1 else 0, BitVec.ofNat 8 (s.fld Fld.WFT_NODE_ASTATE)]
  ((r.2.seenCast Config.uid 0 r.1).2).broadcast (fragments (r.2.ownFrame kind 2 255 r.1) body)

/-- Starts to claim an address (R552). -/
def State.claimStart (s : State) (cand : Byte) : State :=
  let s := (s.setFld Fld.WFT_NODE_ASTATE 1).setFlag Fld.WFT_NODE_LOCK s.addrLock
  (s.modWft fun w => { w with cand := cand, claims := 1 }).announce 3 cand

/-- The first candidate: ADDR_PREF, or derived from the UID (R552). -/
def State.firstCand (s : State) : Byte :=
  let pref := (s.p36 10).floor.toNat
  BitVec.ofNat 8 (if pref ≠ 0 then pref else Config.uid.toNat % 254 + 1)

/-- The next address after one, 254 wrapping to 1, that the routing table does not hold (R552). -/
def State.nextCand (s : State) (a : Nat) : Byte :=
  let ring := (List.range 254).map fun k => (a + k) % 254 + 1
  BitVec.ofNat 8 ((ring.find? fun c => decide (16 ≤ s.metric c)).getD (a % 254 + 1))

/-- A contest is lost (R552, R553): the contexts of the address end, and those that the profile pins start anew (R558). -/
def State.contestLost (s : State) (addr : Byte) (winner : Time) : State :=
  let was := s.fld Fld.WFT_NODE_ASTATE == 2
  let s : State := if was then
      let s := (s.journal 0x0601 0 (addr.setWidth 32) (winner.setWidth 32)).incSat Fld.WFT_NODE_CONF
      let kept (c : Ctx) : Ctx := { c with uid := none, txPkt := 0, rxPkt := none, part := none, gone := none }
      (s.modWft fun w => { w with ctx := (w.ctx.filter (·.pinned)).map kept }).ctxLive.reroute fun t => t.setFld Fld.WFT_NODE_ADDR 0
    else s
  if s.addrLock then (s.modWft fun w => { w with cand := addr }).setFld Fld.WFT_NODE_ASTATE 3
  else s.claimStart (s.nextCand addr.toNat)

/-- Whether this node wins a contest (R553). -/
def State.winsContest (s : State) (m : ClaimMsg) : Bool :=
  let mine := s.fld Fld.WFT_NODE_ASTATE == 2
  let theirs := m.astate == 2
  if mine != theirs then mine
  else if s.addrLock != m.lock then s.addrLock
  else decide (Config.uid.toNat < m.uid.toNat)

/-- An address is held by a UID (R559): contexts that record another UID are reset. -/
def State.learnUid (s : State) (uid : Time) (addr : Byte) : State :=
  if addr == 0 then s
  else
    s.modWft fun w =>
      { w with
        known := (uid, addr) :: (w.known.filter fun e => e.1 != uid && e.2 != addr)
        ctx := w.ctx.map fun c =>
          if c.addr != addr || c.uid == some uid then c
          else if c.uid.isNone then { c with uid := some uid }
          else { c with uid := some uid, txPkt := 0, rxPkt := none, part := none, gone := none } }

/-- A CLAIM or DEFEND arrives (R552, R553, R555). -/
def State.claimRx (s : State) (kind : Nat) (p : Fin 4) (m : ClaimMsg) : State :=
  if !s.linkUp p || m.uid == Config.uid then s
  else
    let c := (s.heardOn p).seenCast m.uid 0 m.pkt
    if c.1 then c.2
    else
      let body := timeBytes m.uid ++ [m.addr, if m.lock then 1 else 0, m.astate.setWidth 8]
      let f : WFrame := { c.2.ownFrame kind 2 255 m.pkt with src := m.src, hops := m.hops }
      let s := (c.2.flood p (fragments f body)).learnUid m.uid m.addr
      let st := s.fld Fld.WFT_NODE_ASTATE
      let held : Byte := if st = 2 then s.nodeAddr else s.wft.cand
      if (st = 1 ∨ st = 2) ∧ held = m.addr then
        if s.winsContest m then (if st = 2 then s.announce 4 held else s) else s.contestLost held m.uid
      else s

/-- CLAIM (R552, R553). -/
def execClaim (p : Fin 4) (m : ClaimMsg) (s : State) : Res := .next (s.claimRx 3 p m).settle

/-- DEFEND (R552, R553). -/
def execDefend (p : Fin 4) (m : ClaimMsg) (s : State) : Res := .next (s.claimRx 4 p m).settle

/-- CLAIM_TIMER (R552): the next of three CLAIMs, or the address is taken. -/
def execClaimTimer (s : State) : Res :=
  if !s.awake || s.fld Fld.WFT_NODE_ASTATE != 1 then .next s
  else if s.wft.claims < 3 then .next ((s.modWft fun w => { w with claims := w.claims + 1 }).announce 3 s.wft.cand)
  else
    .next ((s.setFld Fld.WFT_NODE_ASTATE 2).reroute fun t => t.setFld Fld.WFT_NODE_ADDR t.wft.cand.toNat)

/-- DEFEND_TIMER (R552). -/
def execDefendTimer (s : State) : Res :=
  if s.awake && s.fld Fld.WFT_NODE_ASTATE == 2 then .next (s.announce 4 s.nodeAddr) else .next s

/-- CONFLICT_WAIT (R552): the locked address is claimed again. -/
def execConflictWait (s : State) : Res :=
  if s.awake && s.fld Fld.WFT_NODE_ASTATE == 3 then .next (s.claimStart s.wft.cand) else .next s

/-! ## Training (R546, R547) -/

/-- TRAINING_SET (R546, R547). In TRAIN, 64 consecutive sets without a code error, the last with LOCK, lead to ACTIVE, or
to LOOP where the partner is this node; in ACTIVE or LOOP a training set leads back to TRAIN. -/
def execTrainingSet (p : Fin 4) (uid : Time) (_addr : Byte) (lock clean : Bool) (s : State) : Res :=
  let l := s.lstate p
  if !s.awake || l = 0 || l = 4 then .next s
  else if l = 2 || l = 3 then .next (s.toTrain p).settle
  else
    let n := if clean then s.wft.port[p].trainN + 1 else 0
    let s := s.modPort p fun q => { q with trainN := n }
    if n < 64 || !lock then .next s
    else
      let s := (s.setReg (Reg.WFT_P_PEER_LO p) (uid.setWidth 32)).setReg (Reg.WFT_P_PEER_HI p) ((uid >>> 32).setWidth 32)
      let s := s.heardOn p
      if uid = Config.uid then .next (s.setFld (Fld.WFT_P_STATE_LSTATE p) 3)
      else
        let now := s.sys.poweredNs
        let s := (s.setFld (Fld.WFT_P_STATE_LSTATE p) 2).modPort p fun q => { q with tokens := 344, tokAt := now, rtAt := now }
        let s := if s.fld Fld.WFT_NODE_ASTATE = 0 then s.claimStart s.firstCand else s
        .next (((s.modPort p fun q => { q with due := true }).duePoll p).weftLive)

/-- RETRAIN (R546): 10 ms in TRAIN. -/
def execRetrain (p : Fin 4) (s : State) : Res :=
  if s.awake && s.lstate p == 1 then
    .next ((s.incSat (Fld.WFT_P_STATE_RETRAIN p)).modPort p fun q => { q with trainN := 0 })
  else .next s

/-- WEFT_LINK (R547): lock lost, or an error burst of `codes` code and disparity errors. -/
def execWeftLink (p : Fin 4) (codes : Nat) (s : State) : Res :=
  if s.awake && (s.lstate p == 2 || s.lstate p == 3) then .next ((s.addSat (Fld.WFT_P_ERR_CODE p) codes).toTrain p).settle
  else .next s

/-- HELLO_TIMEOUT (R7, R547): neither a frame nor a hello for longer than three periods of HELLO_T. -/
def execHelloTimeout (p : Fin 4) (s : State) : Res :=
  let due : Rat := (s.wft.port[p].heardAt : Rat) + 3000 * s.p36 20
  if s.awake && (s.lstate p == 2 || s.lstate p == 3) && decide (due < (s.sys.poweredNs : Rat)) then .next (s.toTrain p).settle else .next s

/-! ## HELLO and ROUTE (R549, R554) -/

/-- HELLO (R549, R554, R559, R564). -/
def execHello (p : Fin 4) (m : HelloMsg) (s : State) : Res :=
  if !s.awake || !s.linkUp p then .next s
  else
    let s := ((s.heardOn p).learnUid m.uid m.addr).modPort p fun q => { q with hello := some m }
    let s := s.setFld (Fld.WFT_P_STATE_PEER_ADDR p) m.addr.toNat
    let s := s.reroute fun t => if m.addr == 0 then t else t.setCost m.addr.toNat p 1
    .next s.chooseParent.settle

/-- The UID of the grandmaster this node follows. -/
def State.gmUid (s : State) : Time :=
  match s.wft.parent with
  | none => if s.flag Fld.WFT_SYNC_GM then Config.uid else 0
  | some p => (s.wft.port[p].hello.map fun h => h.gmUid).getD 0

/-- The UID of the parent, 0 without one. -/
def State.parentUid (s : State) : Time :=
  match s.wft.parent with
  | none => 0
  | some p => (s.wft.port[p].hello.map fun h => h.uid).getD 0

/-- HELLO_SEND (R549). -/
def execHelloSend (s : State) : Res :=
  if !s.awake then .next s
  else
    let r := s.takePkt 1
    .next (forAll r.2.upPorts
      (fun p t =>
        let body := timeBytes Config.uid ++
          [t.nodeAddr, BitVec.ofNat 8 (t.fld Fld.WFT_NODE_ASTATE), BitVec.ofNat 8 (t.fld Fld.WFT_SYNC_SSTATE),
           BitVec.ofNat 8 (t.fld Fld.WFT_SYNC_STEPS), BitVec.ofNat 8 (t.fld Fld.WFT_SYNC_GM_PRIO)] ++
          timeBytes t.gmUid ++ timeBytes t.parentUid ++ [if t.flag (Fld.WFT_P_STATE_DELAY_OK p) then 1 else 0]
        t.originate p { t.ownFrame 2 1 0 r.1 with payload := body }) r.2)

/-- ROUTE (R554). -/
def execRoute (p : Fin 4) (metrics : List (BitVec 5)) (s : State) : Res :=
  if !s.awake || !s.linkUp p then .next s
  else
    let now := s.sys.poweredNs
    .next (((s.heardOn p).modPort p fun q => { q with rtAt := now }).reroute fun t =>
      forAll (List.range 254) (fun k u => u.setCost (k + 1) p (((metrics[k]?).map fun m => m.toNat).getD 16 + 1)) t).settle

/-- ROUTE_SEND (R554). -/
def execRouteSend (s : State) : Res := if s.awake then .next (forAll s.upPorts (fun p t => t.sendRoute p) s) else .next s

/-- ROUTE_AGE (R7, R554): no ROUTE on the port for longer than 4 × ROUTE_T. -/
def execRouteAge (p : Fin 4) (s : State) : Res :=
  let due : Rat := (s.wft.port[p].rtAt : Rat) + 4_000_000 * s.p36 21
  if s.awake && decide (due < (s.sys.poweredNs : Rat)) then .next (s.reroute fun t => t.modPort p fun q => { q with cost := [] }).settle else .next s

/-! ## DATA and its delivery (R549 to R551, R555, R563) -/

/-- Byte k of a list. -/
def byteAt (l : List Byte) (k : Nat) : Byte := l.getD k 0

/-- The little-endian number in n bytes from k. -/
def numAt (l : List Byte) (k n : Nat) : Nat := ((l.drop k).take n).foldr (fun b z => b.toNat + 256 * z) 0

/-- The share codes of a lead frame's bytes (R338). -/
def sharesAt (l : List Byte) : List (BitVec 12) :=
  (List.range 16).map fun m => BitVec.ofNat 12 (numAt l (36 + 3 * (m / 2)) 3 / (if m % 2 = 0 then 1 else 4096))

/-- A class 0 payload goes to load sharing (R338, R339, R349, R549). -/
def State.deliver0 (s : State) (l : List Byte) : State :=
  let w (k : Nat) : Word := BitVec.ofNat 32 (numAt l k 4)
  let h (k : Nat) : BitVec 16 := BitVec.ofNat 16 (numAt l k 2)
  match (byteAt l 2).toNat, l.length with
  | 1, 64 =>
    s.leadFrameRx
      { group := h 0, node := byteAt l 3, cycle := w 4, idx := byteAt l 8, cmd := byteAt l 9, active := h 10, sig := w 12, tRef := w 16
        nRef := w 20, nCmd := w 24, teAx := w 28, didMin := w 32, share := sharesAt l, flags := h 60 }
  | 2, 64 =>
    s.reportRx
      { group := h 0, node := byteAt l 3, cycle := w 4, idx := byteAt l 8, mstate := byteAt l 9, flags := h 10, sig := w 12, te := w 16
        n := w 20, did := w 24, kth := h 28, hops := byteAt l 30, mofs := byteAt l 31, seen := h 32 }
  | 3, 16 => s.noticeRx { group := h 0, node := byteAt l 3, cycle := w 4, idx := byteAt l 8, fault := byteAt l 9 != 0 }
  | _, _ => s

/-- A class 1 payload goes to the receiving connections that carry its SC_ID on that route (R474, R476). -/
def State.deliver1 (s : State) (routeB : Bool) (l : List Byte) : State :=
  let route := if routeB then 1 else 0
  forAll (List.finRange 32)
    (fun (k : Fin 32) t =>
      if t.parNat 44 30 k.val != 2 || numAt l 2 2 != t.parNat 44 31 k.val then t
      else if t.parNat 44 33 k.val = route then t.safetyCopy k false l
      else if t.parNat 44 34 k.val = route then t.safetyCopy k true l
      else t) s

/-- Whether a packet number is newer than the last one delivered, within a window of 32,767 (R551). -/
def newer (last : Option (BitVec 16)) (pkt : BitVec 16) : Bool :=
  match last with
  | none => true
  | some l => decide (0 < (pkt - l).toNat ∧ (pkt - l).toNat ≤ 32767)

/-- A complete packet of class 2 or 3 (R550, R551, R563): delivered to the firmware queue where its CRC and its order
are right. -/
def State.packetDone (s : State) (src : Byte) (cls : BitVec 2) (pkt : BitVec 16) (rx : Option (BitVec 16)) (l : List Byte) : State :=
  let s := s.modCtx src cls fun c => { c with gone := some pkt }
  let n := l.length - 4
  let body := l.take n
  if l.length < 5 || numAt l n 4 != (crc32c body).toNat then s
  else if !newer rx pkt then s.incSat Fld.WFT_CNT2_REASM
  else if 64 ≤ s.wft.fwq.length then s.incSat Fld.WFT_CNT2_FWQ_DROP
  else
    let s := s.modCtx src cls fun c => { c with rxPkt := some pkt }
    (s.modWft fun w => { w with fwq := w.fwq ++ [(src, cls, body)] }).irq 3

/-- A fragment of class 2 or 3 arrives at its destination (R550, R551, R558): the next one of its packet, or the first of a packet that has
not been discarded. -/
def State.deliver23 (s : State) (f : WFrame) : State :=
  match s.ctxFor f.src f.cls false with
  | none => s.incSat Fld.WFT_CTX_FAILS
  | some (c, s) =>
    let now := s.sys.poweredNs
    let s := s.modCtx f.src f.cls fun c => { c with heard := now }
    let fresh := f.frag == 0 && !(c.part.any fun q => q.1 == f.pkt) && c.gone != some f.pkt
    let s := when fresh (fun s => s.modCtx f.src f.cls fun c => { c with gone := (c.part.map fun q => q.1).or c.gone }) s
    let next : Option (List Byte) :=
      if fresh then some f.payload
      else match c.part with
        | some (pkt, k, l) => if pkt == f.pkt && k == f.frag.toNat then some (l ++ f.payload) else none
        | none => none
    match next with
    | none => s
    | some l =>
      if f.last then
        (s.modCtx f.src f.cls fun c => { c with part := none }).packetDone f.src f.cls f.pkt c.rxPkt l
      else s.modCtx f.src f.cls fun c => { c with part := some (f.pkt, f.frag.toNat + 1, l), partAt := now }

/-- A single frame tells the contexts of its source and class that the peer has been heard, and its packet number (R558). -/
def State.heardFrom (s : State) (f : WFrame) : State :=
  let now := s.sys.poweredNs
  s.modWft fun w =>
    { w with ctx := w.ctx.map fun c => if c.addr == f.src && c.cls == f.cls then { c with heard := now, rxPkt := some f.pkt } else c }

/-- A frame for this node. -/
def State.deliverFrame (s : State) (f : WFrame) : State :=
  let s := when (decide (f.cls.toNat < 2)) (·.heardFrom f) s
  if f.cls == 0 then s.deliver0 f.payload
  else if f.cls == 1 then s.deliver1 f.routeB f.payload
  else s.deliver23 f

/-- A DATA frame with its link code right (R549, R555). -/
def State.dataRx (s : State) (p : Fin 4) (f : WFrame) : State :=
  if f.kind != 1 then
    if f.kind == 0 || 11 ≤ f.kind.toNat then s.incSat (Fld.WFT_P_ERR_CRC p) else s
  else if f.dst == 255 then
    if f.src != 0 && f.src == s.nodeAddr then s
    else
      let c := s.seenCast 0 f.src f.pkt
      if c.1 then c.2 else (c.2.flood p [f]).deliverFrame f
  else if f.dst == 0 || f.dst == s.nodeAddr then s.deliverFrame f
  else s.forward [f]

/-- DATA (R548 to R551, R555). -/
def execData (p : Fin 4) (r : FrameRx) (s : State) : Res :=
  if !s.awake || !s.linkUp p then .next s
  else
    match r with
    | .badCrc => .next (s.incSat (Fld.WFT_P_ERR_CRC p))
    | .broken => .next (s.incSat (Fld.WFT_P_ERR_PARTIAL p))
    | .good f => .next ((s.heardOn p).dataRx p f).settle

/-- Whether the next fragment of a context's packet is overdue: FRAG_TMO has run out since the last one, its last tick in time (R7, R551). -/
def State.fragLate (s : State) (c : Ctx) : Bool := c.part.isSome && decide ((c.partAt : Rat) + 1000 * s.p36 26 < (s.sys.poweredNs : Rat))

/-- FRAG_TMO (R551). -/
def execFragTmo (src : Byte) (cls : BitVec 2) (s : State) : Res :=
  if s.awake && s.wft.ctx.any fun c => c.addr == src && c.cls == cls && s.fragLate c then
    .next ((s.modCtx src cls fun c => { c with part := none, gone := c.part.map fun q => q.1 }).incSat Fld.WFT_CNT2_REASM)
  else .next s

/-- CTX_AGE (R7, R558): an unpinned context unused for longer than CTX_AGE is freed. -/
def execCtxAge (addr : Byte) (cls : BitVec 2) (s : State) : Res :=
  let young (c : Ctx) : Bool := decide ((s.sys.poweredNs : Rat) ≤ (c.heard : Rat) + 1_000_000_000 * s.p36 25)
  if s.awake then
    .next (s.modWft fun w => { w with ctx := w.ctx.filter fun c => c.pinned || c.addr != addr || c.cls != cls || young c }).ctxLive
  else .next s

/-! ## Echo (R549, R576) -/

/-- The frames of an echo packet. -/
def State.echoFrames (s : State) (kind : Nat) (q : Packet) : List WFrame :=
  fragments { s.ownFrame kind 2 q.dst q.pkt with routeB := q.routeB, src := q.src, hops := q.hops } q.payload

/-- Sends an echo of this node on route A; none without an address (R552). -/
def State.sendEcho (s : State) (kind : Nat) (dst : Byte) (body : List Byte) : State :=
  if s.nodeAddr == 0 || 16 ≤ s.metric dst.toNat then s
  else
    let r := s.takePkt 2
    forAll (fragments (s.ownFrame kind 2 dst r.1) body) (fun f t => t.originate (s.routeA dst.toNat) f) r.2

/-- ECHO_REQ (R549): answered by hardware, or forwarded. -/
def execEchoReq (p : Fin 4) (q : Packet) (s : State) : Res :=
  let s := when (s.linkUp p) (·.heardOn p) s
  if !s.awake || !s.linkUp p then .next s
  else if q.dst == s.nodeAddr && q.dst != 0 then .next (s.sendEcho 10 q.src q.payload)
  else .next (s.forward (s.echoFrames 9 q))

/-- The payload of a console ping: 64 bytes (R576). -/
def pingBody : List Byte := List.replicate 64 0

/-- ECHO_RESP (R549, R576): a round of a console ping ends; the next request leaves, or the reply gives the minimum and
maximum round trip. -/
def execEchoResp (p : Fin 4) (q : Packet) (s : State) : Res :=
  let s := when (s.linkUp p) (·.heardOn p) s
  if !s.awake || !s.linkUp p then .next s
  else if q.dst == s.nodeAddr && q.dst != 0 then
    match s.wft.ping with
    | none => .next s
    | some g =>
      if g.addr != q.src then .next s
      else
        let now := s.weft
        let rtts := (now.toNat - g.t0.toNat) :: g.rtts
        if g.left ≤ 1 then
          let lo := rtts.foldl min (now.toNat - g.t0.toNat)
          let hi := rtts.foldl max 0
          let s := s.modWft fun w => { w with ping := none }
          .next (({ s with con := { s.con with busy := false } } : State).reply [.data [("min", lo), ("max", hi)]])
        else
          let s := s.modWft fun w => { w with ping := some { g with left := g.left - 1, t0 := now, rtts := rtts } }
          .next (s.sendEcho 9 g.addr pingBody)
  else .next (s.forward (s.echoFrames 10 q))

/-! ## Weft time (R564 to R567) -/

/-- SYNC_SEND (R564): every synchronised node, on each ACTIVE port but its parent port. -/
def execSyncSend (s : State) : Res :=
  if !s.awake || !s.synced then .next s
  else
    let s : State := match s.wft.parent with
      | none => s.modWft fun w => { w with seq := w.seq + 1 }
      | some p => s.modWft fun w => { w with seq := s.wft.port[p].seq.getD w.seq }
    let r := s.takePkt 0
    let body := timeBytes s.gmUid ++ [BitVec.ofNat 8 (s.fld Fld.WFT_SYNC_GM_PRIO), BitVec.ofNat 8 (s.fld Fld.WFT_SYNC_STEPS)] ++
      wordBytes s.wft.seq
    .next (forAll (s.upPorts.filter fun p => s.wft.parent != some p)
      (fun p t => t.originate p { t.ownFrame 6 0 0 r.1 with payload := body }) r.2)

/-- Steps Weft time by −offset (R566): whole nanoseconds, the rest kept. A delay measurement that the step would falsify is dropped. -/
def State.stepTime (s : State) (offset : Rat) : State :=
  let t : Rat := (s.weft.toNat : Rat) + s.wft.frac - offset
  let n := t.floor
  let s : State := { s with weft := BitVec.ofInt 64 n }
  let s := s.modWft fun w => { w with frac := t - (n : Rat) }
  let s := forAll four (fun p t => t.modPort p fun q => { q with reqT := none }) s
  let s := forAll four (fun x t => when (t.clocksRun x) (·.placeCarrier x) t) s
  (s.incSat Fld.WFT_CNT_WSTEP).journal 0x0602 0 (toS32 (quantise (-offset)))

/-- The servo of R566: its rate is not stated, and lies within ±100 ppm. -/
def State.slew (s : State) : State :=
  let r := s.freeRat
  r.2.modWft fun w => { w with rate := clampRat (-100) 100 r.1 }

/-- Acts on an offset (R566, R567): a step where permitted, of the rest of a slew outside SYNC_WIN too; else slewing; then SSTATE. -/
def State.onOffset (s : State) (offset : Rat) : State :=
  let may := s.noneActive
  let win := s.p36 23
  let inside := decide (absRat offset ≤ win)
  let s := if may && (decide (s.p36 24 < absRat offset) || (!inside && s.fld Fld.WFT_SYNC_SSTATE == 2)) then s.stepTime offset else s.slew
  if inside then (if 8 ≤ s.wft.wins then s.setFld Fld.WFT_SYNC_SSTATE 3 else s)
  else if may then s
  else s.setFld Fld.WFT_SYNC_SSTATE 2

/-- SYNC (R564, R566). -/
def execSync (p : Fin 4) (m : SyncMsg) (s : State) : Res :=
  if !s.awake || !s.linkUp p then .next s
  else
    let rx := s.weft
    let now := s.sys.poweredNs
    let ahead : Bool := (s.wft.port[p].seq).all fun q => decide (0 < (m.seq - q).toInt)
    let s := (s.heardOn p).modPort p fun q =>
      { q with seq := if ahead then some m.seq else q.seq, seqAt := if ahead then now else q.seqAt, syncAt := now }
    let s := s.chooseParent
    if s.wft.parent != some p then .next s.settle
    else
      let ds := s.wft.port[p].delays
      let delay := if ds.length = 0 then 0 else ds.foldl (· + ·) 0 / (ds.length : Rat)
      let offset := (rx.toNat : Rat) - ((m.ts.toNat : Rat) + delay + s.par 36 3 p.val)
      let inside := decide (absRat offset ≤ s.p36 23)
      let s := s.modWft fun w => { w with offset := offset, wins := if inside then w.wins + 1 else 0 }
      let s := s.setReg Reg.WFT_OFFSET (toS32 (clampInt (-(2 ^ 31)) (2 ^ 31 - 1) (quantise offset)))
      if s.wft.newN = 0 then .next (s.onOffset offset).settle
      else
        let s := s.modWft fun w => { w with newN := w.newN - 1, newSum := w.newSum + offset }
        if s.wft.newN = 0 then .next (s.onOffset (s.wft.newSum / 8)).settle else .next s.settle

/-- DELAY_REQ_SEND (R561, R565). -/
def execDelayReqSend (s : State) : Res :=
  if !s.awake then .next s
  else
    let r := s.takePkt 0
    .next (forAll r.2.upPorts (fun p t => t.originate p (t.ownFrame 7 0 0 r.1)) r.2)

/-- DELAY_REQ (R565): answered with its arrival time. -/
def execDelayReq (p : Fin 4) (s : State) : Res :=
  let s := when (s.linkUp p) (·.heardOn p) s
  if !s.awake || !s.linkUp p then .next s
  else
    let r := s.takePkt 0
    .next (r.2.originate p { s.ownFrame 8 0 0 r.1 with payload := timeBytes s.weft })

/-- DELAY_RESP (R565): d = ((t4 − t1) − (t3 − t2)) / 2, and the mean of the last 8. -/
def execDelayResp (p : Fin 4) (arrival departure : Time) (s : State) : Res :=
  let s := when (s.linkUp p) (·.heardOn p) s
  if !s.awake || !s.linkUp p then .next s
  else
    match s.wft.port[p].reqT with
    | none => .next s
    | some t1 =>
      let now := s.weft
      let d : Rat := (((now.toNat : Rat) - t1.toNat) - ((departure.toNat : Rat) - arrival.toNat)) / 2
      let s := s.modPort p fun q => { q with delays := (d :: q.delays).take 8, reqT := none }
      let ds := s.wft.port[p].delays
      let mean := ds.foldl (· + ·) 0 / (ds.length : Rat)
      let s := s.setFld (Fld.WFT_P_DELAY_D p) (clampInt 0 0xFFFF (quantise (10 * mean))).toNat
      .next ((s.setFlag (Fld.WFT_P_STATE_DELAY_OK p) (ds.length == 8)).chooseParent).settle

/-- PARENT_LOSS (R7, R567): no SYNC from the parent for longer than 4 × SYNC_T. -/
def execParentLoss (s : State) : Res :=
  match s.wft.parent with
  | some p => if s.awake && decide (s.wft.port[p].syncAt + 4 * s.syncNs < s.sys.poweredNs) then .next (s.modPort p fun q => { q with seq := none }).parentLost.settle else .next s
  | none => .next s

/-! ## Sending (R560, R563) -/

/-- EGRESS_FRAME_SENT (R560): the port is idle again and starts its next frame. -/
def execEgressFrameSent (p : Fin 4) (s : State) : Res := .next ((s.modPort p fun q => { q with tx := none }).portPoll p)

/-- WEFT_SEND (R528, R563). -/
def execWeftSend (h : Desc) (bytes : List Byte) (s : State) : Res :=
  s.dispatch h 0x11 fun s =>
    let cls := h.sub.toNat
    let dst := h.index.toNat
    let busy (d : Nat) (s : State) : State := s.complete h 0x11 St.BUSY d
    if (cls ≠ 2 ∧ cls ≠ 3) ∨ dst = 0 ∨ 254 < dst ∨ bytes.length = 0 ∨ 892 < bytes.length then s.complete h 0x11 St.BAD_FIELD
    else if s.nodeAddr == 0 then busy 4 s
    else if 16 ≤ s.metric dst ∨ dst = s.nodeAddr.toNat then busy 3 s
    else
      let d : Byte := BitVec.ofNat 8 dst
      match s.ctxFor d (BitVec.ofNat 2 cls) false with
      | none => busy 2 (s.incSat Fld.WFT_CTX_FAILS)
      | some (c, s') =>
        let p := s.routeA dst
        let fs := fragments (s.ownFrame 1 cls d c.txPkt) bytes
        let q := if cls = 2 then s.wft.port[p].q2 else s.wft.port[p].q3
        if 12 < q.length + fs.length then busy 1 s
        else
          let now := s.sys.poweredNs
          let s := s'.modCtx d (BitVec.ofNat 2 cls) fun c => { c with txPkt := c.txPkt + 1, heard := now }
          (forAll fs (fun f t => t.enqueue p f) s).complete h 0x11 St.SUCCESS

end Sys2Proof.Machine
end

