-- ==== Sys2Proof/Machine/ProfileMap.lean ====
section
/-! DEFINITION. The register field each parameter maps to (the parameter tables of chapters 05 to 08, 10 to 14 and 20),
the rounding of R142 to the step of that field, and loading the registers from the working copy. -/

namespace Sys2Proof.Machine

/-- How a parameter value is coded in its field: `lin lo step` holds (value − lo) / step; `period` is the even tick
count of R199; `clkdiv` divides 10 MHz by code + 1 (R394). -/
inductive Coding where
  | lin (lo step : Rat) | period | clkdiv
deriving DecidableEq, Repr

/-- A run of `count` parameters and the field each maps to, by item offset and instance. -/
structure CfgRow where
  group  : Nat
  item   : Nat
  count  : Nat
  coding : Coding
  field  : Nat → Nat → Field

/-- The CLK_F code nearest to a frequency in kHz: the divisor on the nearer side. -/
def clkCode (v : Rat) : Int :=
  let d := max 1 (10_000 / v).floor
  let lo : Rat := 10_000 / (d + 1 : Int)
  let hi : Rat := 10_000 / (d : Int)
  if hi - v < v - lo then d - 1 else if v - lo < hi - v then d else if Config.tieUp v then d - 1 else d

/-- The code of a value. -/
def Coding.code : Coding → Rat → Int
  | .lin lo step, v => nearest ((v - lo) / step)
  | .period, v => 2 * nearest (200_000_000 / v)
  | .clkdiv, v => clkCode v

/-- The value of a code. -/
def Coding.value : Coding → Int → Rat
  | .lin lo step, c => lo + (c : Rat) * step
  | .period, c => 400_000_000 / (c : Rat)
  | .clkdiv, c => 10_000 / ((c : Rat) + 1)

/-- A field that does not depend on the item offset. -/
def one (f : Nat → Field) : Nat → Nat → Field := fun _ i => f i

namespace CfgTable

/-- P14 (R132 to R135, R142). -/
def p14 : List CfgRow := [
  ⟨14, 1, 1, .lin 12 (1/2), one Fld.GDC_CFG_VP⟩,
  ⟨14, 2, 1, .lin 0 (-1/2), one Fld.GDC_CFG_VN⟩,
  ⟨14, 3, 1, .lin 0 1, one Fld.GDC_CFG_SUPPLY⟩,
  ⟨14, 4, 1, .lin 0 1, one Fld.GDC_CFG_BOOSTER⟩,
  ⟨14, 5, 1, .lin 0 1, one Fld.GDC_CFG_CLAMP_EN⟩,
  ⟨14, 10, 1, .lin (3/8) (3/8), one Fld.GDC_SEGON_I1⟩,
  ⟨14, 11, 1, .lin (3/8) (3/8), one Fld.GDC_SEGON_I2⟩,
  ⟨14, 12, 1, .lin (3/8) (3/8), one Fld.GDC_SEGON_I3⟩,
  ⟨14, 13, 1, .lin (-10) (1/4), one Fld.GDC_SEGON_TH1⟩,
  ⟨14, 14, 1, .lin (-10) (1/4), one Fld.GDC_SEGON_TH2⟩,
  ⟨14, 20, 1, .lin (1/2) (1/2), one Fld.GDC_SEGOFF_I1⟩,
  ⟨14, 21, 1, .lin (1/2) (1/2), one Fld.GDC_SEGOFF_I2⟩,
  ⟨14, 22, 1, .lin (1/2) (1/2), one Fld.GDC_SEGOFF_I3⟩,
  ⟨14, 23, 1, .lin (-10) (1/4), one Fld.GDC_SEGOFF_TH1⟩,
  ⟨14, 24, 1, .lin (-10) (1/4), one Fld.GDC_SEGOFF_TH2⟩,
  ⟨14, 30, 1, .lin (-8) (1/4), one Fld.GDC_SENSE_V_OFF⟩,
  ⟨14, 31, 1, .lin 6 (1/4), one Fld.GDC_SENSE_V_ONMIN⟩,
  ⟨14, 32, 1, .lin (-8) (1/4), one Fld.GDC_SENSE_V_CLAMP⟩,
  ⟨14, 40, 1, .lin 0 (5/2), one Fld.GDC_TIME_T_EXTRA⟩,
  ⟨14, 41, 1, .lin 0 (1/20), one Fld.GDC_TIME_CONF_MAX⟩,
  ⟨14, 42, 1, .lin 0 (1/20), one Fld.GDC_TIME_PLAT_ARM⟩]

/-- P16 (R166 to R170, R175). -/
def p16 : List CfgRow := [
  ⟨16, 1, 1, .lin 0 1, one Fld.PSP_SC_TH⟩,
  ⟨16, 2, 1, .lin 0 (1/40), one Fld.PSP_SC_BLANK⟩,
  ⟨16, 3, 1, .lin 0 25, one Fld.PSP_SC_FILT⟩,
  ⟨16, 10, 1, .lin 0 (1/25), one Fld.PSP_OC_TH⟩,
  ⟨16, 11, 1, .lin 0 1, one Fld.PSP_OC_EN⟩,
  ⟨16, 20, 1, .lin 0 1, one Fld.PSP_OV12_OV1⟩,
  ⟨16, 21, 1, .lin 0 1, one Fld.PSP_OV12_OV2⟩,
  ⟨16, 22, 1, .lin 0 1, one Fld.PSP_OV3UV_OV3⟩,
  ⟨16, 23, 1, .lin 0 1, one Fld.PSP_OV3UV_UV⟩,
  ⟨16, 30, 1, .lin 0 1, one Fld.PSP_CHOP_CHOP_EN⟩,
  ⟨16, 31, 1, .lin 0 (1/1000), one Fld.PSP_CHOP_RB⟩,
  ⟨16, 32, 1, .lin 0 1, one Fld.PSP_CHOP_HYST⟩,
  ⟨16, 34, 1, .lin 0 1, one Fld.PSP_CROSS_MARGIN⟩,
  ⟨16, 35, 1, .lin 0 1, one Fld.PSP_CROSS_HYST⟩,
  ⟨16, 36, 1, .lin 0 1, one Fld.PSP_CROSS_TPEAK⟩,
  ⟨16, 37, 1, .lin 0 (1/100), one Fld.PSP_KE_KE⟩]

/-- P18 (R191 to R195, R199). -/
def p18 : List CfgRow := [
  ⟨18, 1, 1, .period, one Fld.PWM_CFG_PERIOD⟩,
  ⟨18, 2, 1, .lin 1 1, one Fld.PWM_CFG_DUAL⟩,
  ⟨18, 3, 1, .lin 0 1, one Fld.PWM_PHASE_PHASE⟩,
  ⟨18, 10, 1, .lin 0 (1/400), one Fld.PWM_SAMP_SAMP_OFS⟩,
  ⟨18, 11, 1, .lin 0 (1/80), one Fld.PWM_SAMP_SH_LEAD⟩,
  ⟨18, 20, 1, .lin 0 1, one Fld.PWM_CFG_SHIFT_EN⟩,
  ⟨18, 21, 1, .lin 0 (1/80), one Fld.PWM_WIN_TWIN⟩,
  ⟨18, 22, 1, .lin 0 (1/1000), one Fld.PWM_WIN_MSHUNT⟩,
  ⟨18, 30, 1, .lin 0 (1/80), one Fld.PWM_BOOT_TREF⟩,
  ⟨18, 31, 1, .lin 0 (1/80), one Fld.PWM_BOOT_HYST⟩]

/-- P19 (R223 to R225, R232). INVERT and FALLBACK_EN map to several fields: `invertFields`, `fallbackFields`. -/
def p19 : List CfgRow := [
  ⟨19, 1, 1, .lin 0 1, one Fld.MFE_CFG_FIT⟩,
  ⟨19, 2, 1, .lin 0 1, one Fld.MFE_CFG_SD⟩,
  ⟨19, 3, 3, .lin 0 (1/10), fun k x => Fld.MFE_FS_FS x k⟩,
  ⟨19, 10, 1, .lin 0 (1/10), one Fld.MFE_CFG_OFSMAX⟩,
  ⟨19, 11, 1, .lin 0 (1/1_000_000), one Fld.MFE_SHUNT_RSH⟩,
  ⟨19, 20, 1, .lin 0 1, one Fld.MFE_XC_XCTH⟩,
  ⟨19, 21, 1, .lin 0 1, one Fld.MFE_XC_XCN⟩,
  ⟨19, 22, 1, .lin 0 1, one Fld.MFE_XC_GFTH⟩,
  ⟨19, 23, 1, .lin 0 (1/10), one Fld.MFE_LIM_GFFILT⟩,
  ⟨19, 31, 1, .lin 0 1, one Fld.MFE_LIM_GAPMAX⟩]

/-- P22, P24, P26 and P28: the configuration fields of an axis (R297, R323, R354, R355, R360). -/
def axis : List CfgRow := [
  ⟨22, 1, 1, .lin 0 1, one Fld.POS_CFG_SRC⟩,
  ⟨22, 2, 1, .lin 0 1, one Fld.POS_CFG_PORT⟩,
  ⟨22, 3, 1, .lin 0 1, one Fld.POS_CFG_DIRINV⟩,
  ⟨22, 5, 1, .lin 0 (360/65_536), one Fld.POS_CFG_COMM_OFS⟩,
  ⟨22, 6, 1, .lin 0 1, one Fld.POS_CFG_FB_BACKUP⟩,
  ⟨22, 20, 1, .lin 0 1, one Fld.POS_CFG_INJDIV⟩,
  ⟨24, 1, 1, .lin 0 1, one Fld.SPD_CFG_MODE⟩,
  ⟨24, 24, 1, .lin 0 1, one Fld.SPD_CFG_STOP_MODE⟩,
  ⟨24, 50, 1, .lin 0 1, one Fld.SPD_CFG_HEAVE_EN⟩,
  ⟨26, 1, 1, .lin 0 1, one Fld.SPD_CFG_SNATCH_EN⟩,
  ⟨26, 10, 1, .lin 0 1, one Fld.SPD_CFG_SLACK_EN⟩,
  ⟨26, 13, 1, .lin 0 1, one Fld.SPD_CFG_SLACK_ACT⟩,
  ⟨26, 14, 1, .lin 0 1, one Fld.SPD_CFG_LINE_SIGN⟩,
  ⟨26, 20, 1, .lin 0 1, one Fld.SPD_CFG_VENT_EN⟩,
  ⟨26, 24, 1, .lin 0 1, one Fld.SPD_CFG_VENT_MODE⟩,
  ⟨28, 1, 1, .lin 0 1, one Fld.LSH_CFG_SHARED⟩,
  ⟨28, 2, 1, .lin 0 1, one Fld.LSH_GROUP_GROUP_ID⟩,
  ⟨28, 4, 1, .lin 0 1, one Fld.LSH_CFG_MEMBER_IDX⟩,
  ⟨28, 5, 1, .lin 0 1, one Fld.LSH_CFG_MINMEM⟩,
  ⟨28, 6, 1, .lin 0 1, one Fld.LSH_CFG_LEAD_EN⟩,
  ⟨28, 7, 1, .lin 0 1, one Fld.LSH_CFG_GROUP_FAULT⟩,
  ⟨28, 8, 1, .lin 0 (1/4), one Fld.LSH_GROUP_MOFS⟩,
  ⟨28, 9, 1, .lin 0 1, one Fld.LSH_CFG_PHASE_STEP⟩,
  ⟨28, 10, 1, .lin 0 1, one Fld.LSH_TIME_SLOT⟩,
  ⟨28, 11, 1, .lin 0 1, one Fld.LSH_TIME_APPLY⟩,
  ⟨28, 12, 1, .lin 0 1, one Fld.LSH_TIME_RAMP⟩]

/-- P30 (R392 to R396, R402, R403). -/
def p30 : List CfgRow := [
  ⟨30, 1, 1, .lin 0 1, one Fld.FBI_CFG_TYPE⟩,
  ⟨30, 2, 1, .lin 0 1, one Fld.FBI_CFG_TERM⟩,
  ⟨30, 3, 1, .lin 0 (25/2), one Fld.FBI_CFG_FILT⟩,
  ⟨30, 4, 1, .lin 0 1, one Fld.FBI_CPT_CPT⟩,
  ⟨30, 5, 1, .lin 0 1, one Fld.FBI_SOFTMIN_MIN⟩,
  ⟨30, 6, 1, .lin 0 1, one Fld.FBI_SOFTMAX_MAX⟩,
  ⟨30, 7, 1, .lin 0 1, one Fld.FBI_CFG_Z_REF⟩,
  ⟨30, 8, 1, .lin 0 1, one Fld.FBI_CFG_INTERP⟩,
  ⟨30, 10, 1, .lin 0 1, one Fld.FBI_CFG_WINK⟩,
  ⟨30, 11, 1, .lin 0 1, one Fld.FBI_CFG_STILL⟩,
  ⟨30, 20, 1, .lin 0 1, one Fld.FBI_CFG_AMP_EN⟩,
  ⟨30, 21, 1, .lin 0 2, one Fld.FBI_AMP_AMPMIN⟩,
  ⟨30, 22, 1, .lin 0 2, one Fld.FBI_AMP_AMPMAX⟩,
  ⟨30, 23, 1, .lin 0 1, one Fld.FBI_AMP_FILT⟩,
  ⟨30, 30, 1, .lin 0 1, one Fld.FBI_CFG_BITS⟩,
  ⟨30, 31, 1, .lin 0 1, one Fld.FBI_CFG_GRAY⟩,
  ⟨30, 32, 1, .lin 0 1, one Fld.FBI_CFG_PARITY⟩,
  ⟨30, 33, 1, .clkdiv, one Fld.FBI_SER_CLKDIV⟩,
  ⟨30, 34, 1, .lin 0 4, one Fld.FBI_SER_TRD⟩,
  ⟨30, 35, 1, .lin 0 1, one Fld.FBI_SER_MONO⟩,
  ⟨30, 36, 1, .lin 0 (25/2), one Fld.FBI_SER_LDLY⟩,
  ⟨30, 37, 1, .lin 0 1, one Fld.FBI_JUMP_MAX⟩,
  ⟨30, 40, 1, .lin 0 (1/10), one Fld.FBI_RES_EXCV⟩,
  ⟨30, 41, 1, .lin 0 (1/10), one Fld.FBI_RES_EXCF⟩,
  ⟨30, 42, 1, .lin 0 1, one Fld.FBI_RES_RESPP⟩,
  ⟨30, 43, 1, .lin 0 1, one Fld.FBI_RES_RESBW⟩,
  ⟨30, 50, 1, .lin 0 1, one Fld.PT_CFG_MODE⟩,
  ⟨30, 51, 1, .lin 0 1, one Fld.PT_CFG_SRC⟩,
  ⟨30, 52, 1, .lin 0 1, one Fld.PT_CFG_PPR⟩,
  ⟨30, 53, 1, .lin 0 (25/2), one Fld.PT_EMU_MINEDGE⟩,
  ⟨30, 54, 1, .lin 0 1, one Fld.PT_EMU_LAGMAX⟩]

/-- P38: the register values are those of P38 less 1, except SSP_OFS; filters hold their words (R585, R589, R590). -/
def p38 : List CfgRow := [
  ⟨38, 1, 1, .lin 0 1, one Fld.CAN_CFG_ENABLE⟩,
  ⟨38, 2, 1, .lin 0 1, one Fld.CAN_CFG_MODE⟩,
  ⟨38, 3, 1, .lin 0 1, one Fld.CAN_CFG_FD_EN⟩,
  ⟨38, 4, 1, .lin 0 1, one Fld.CAN_CFG_BRS_EN⟩,
  ⟨38, 5, 1, .lin 0 1, one Fld.CAN_CFG_TXMODE⟩,
  ⟨38, 10, 1, .lin 1 1, one Fld.CAN_NBT_BRP⟩,
  ⟨38, 11, 1, .lin 1 1, one Fld.CAN_NBT_TSEG1⟩,
  ⟨38, 12, 1, .lin 1 1, one Fld.CAN_NBT_TSEG2⟩,
  ⟨38, 13, 1, .lin 1 1, one Fld.CAN_NBT_SJW⟩,
  ⟨38, 20, 1, .lin 1 1, one Fld.CAN_DBT_BRP⟩,
  ⟨38, 21, 1, .lin 1 1, one Fld.CAN_DBT_TSEG1⟩,
  ⟨38, 22, 1, .lin 1 1, one Fld.CAN_DBT_TSEG2⟩,
  ⟨38, 23, 1, .lin 1 1, one Fld.CAN_DBT_SJW⟩,
  ⟨38, 24, 1, .lin 0 1, one Fld.CAN_CFG_TDC_EN⟩,
  ⟨38, 25, 1, .lin 0 1, one Fld.CAN_DBT_SSP_OFS⟩,
  ⟨38, 100, 32, .lin 0 1, fun f c => ⟨Reg.CAN_FILT_ID c f, 0, 32⟩⟩,
  ⟨38, 200, 32, .lin 0 1, fun f c => ⟨Reg.CAN_FILT_MASK c f, 0, 32⟩⟩]

end CfgTable

/-- Every parameter that maps to one register field. -/
def cfgTable : List CfgRow :=
  CfgTable.p14 ++ CfgTable.p16 ++ CfgTable.p18 ++ CfgTable.p19 ++ CfgTable.axis ++ CfgTable.p30 ++ CfgTable.p38

/-- The row that covers a parameter. -/
def cfgRow (g i : Nat) : Option CfgRow := cfgTable.find? fun r => r.group == g && decide (r.item ≤ i) && decide (i < r.item + r.count)

/-- The word stored for an accepted value: the nearest step of its register field, or of its own grid (R142). -/
def storedWord (r : ParamRow) (i : Nat) (w : Word) : Word :=
  match cfgRow r.group i, r.form with
  | some c, .f32 =>
    let v := f32Val w
    let q := c.coding.value (c.coding.code v)
    if q = v then w else ratToF32 q
  | _, _ => roundWord r w

/-! ## Loading registers -/

/-- The frequency codes of SPD_AX_a_CFG (R323). -/
def freqCode (hz base : Rat) : Nat := if hz = base then 0 else if hz = 2 * base then 1 else 2

/-- The lane fields of an axis: its lanes, its axis lane, and the control law of P20 (R266). -/
def State.loadLane (s : State) (a x : Fin 4) : State :=
  let s := s.setFld (Fld.LOOM_CFG_LANES x) (((s.axisSets a).map fun y => 2 ^ y.val).foldl (· + ·) 0)
  let s := s.setFld (Fld.LOOM_CFG_AXLANE x) (s.axisLane a).val
  let s := s.setFld (Fld.LOOM_CFG_MACHINE x) (s.parNat 20 3 a.val)
  let s := s.setFlag (Fld.LOOM_CFG_AUTO_PI x) (s.parOn 20 2 a.val)
  let s := s.setFlag (Fld.LOOM_CFG_LAW x) (s.parOn 20 1 a.val)
  s.setFld (Fld.LOOM_CFG_KDB x) (nearest (s.par 20 20 a.val * 200)).toNat

/-- The fields of an axis that no single parameter gives, or that depend on others: MEMBERS only when shared, the
class, the two loop frequencies, the fallback of its sets and the lanes. -/
def State.loadAxis (s : State) (a : Fin 4) : State :=
  let shared := s.parOn 28 1 a.val
  let s := s.setFld (Fld.LSH_CFG_MEMBERS a) (if shared then s.parNat 28 3 a.val else 0)
  let s := s.setFlag (Fld.SPD_CFG_CLASS a) (s.isClassW a)
  let s := s.setFld (Fld.SPD_CFG_FSPD a) (freqCode (s.par 24 2 a.val) 4000)
  let s := s.setFld (Fld.SPD_CFG_FPOS a) (freqCode (s.par 24 3 a.val) 1000)
  forAll (s.axisSets a) (fun x t => (t.setFlag (Fld.MFE_CFG_FB_EN x) (t.parOn 19 30 a.val)).loadLane a x) s

/-- The weights of the sets of an axis, which change only as a profile becomes active (R329, R360); P28.040 + s is carried with the set
index s (R361). -/
def State.loadWeights (s : State) (a : Fin 4) : State :=
  let s := forAll (s.axisSets a) (fun x t => t.setFld (Fld.LSH_W_WNOM x) (nearest (t.par 28 (40 + x.val) x.val * 1000)).toNat) s
  forAll (s.axisSets a) (fun x t => t.setFld (Fld.LSH_W_WLOC x) (quantise (t.laneWeight a x * 1000)).toNat) s

/-- Whether an instance of a mapped parameter is loaded: an axis index has to exist (R22), and only a high side has
SUPPLY (R107). -/
def State.loads (s : State) (g i inst : Nat) : Bool :=
  match paramRow g i with
  | some r =>
    (r.inst != .axis || s.axisExists (Fin.ofNat 4 inst)) && (g != 14 || i != 3 || (decide (inst < 24) && inst % 2 == 0))
  | none => false

/-- Loads the field of one parameter. -/
def State.loadParam (s : State) (g i inst : Nat) : State :=
  if !s.loads g i inst then s
  else
    let s := match cfgRow g i with
      | some r => s.setSfld (r.field (i - r.item) inst) (r.coding.code (s.par g i inst))
      | none => s
    let s := when (g == 19 && i == 6)
      (forAll three fun k t => t.setFlag (Fld.MFE_FS_INV inst k.val) ((t.parNat 19 6 inst).testBit k.val)) s
    match paramRow g i with
    | some r => when (r.inst == .axis) (·.loadAxis (Fin.ofNat 4 inst)) s
    | none => s

/-- A controller whose ENABLE has changed: off or integrating (R586). -/
def State.canRestate (s : State) (c : Fin 4) (was : Bool) : State :=
  if s.flag (Fld.CAN_CFG_ENABLE c) == was then s
  else
    let b := s.canActive c
    let s := if was && b.isSome then s.canAttemptFailed c else s
    (s.setFlag (Fld.CAN_STATUS_PXE c) false).setFld (Fld.CAN_STATUS_STATE c) 3

/-- Whether a unit was marked failed or unavailable by the last Dawn: its bit in BST_FAIL (R639). -/
def State.bstFailed (s : State) (f : Field) (k : Nat) : Bool := (s.fld f).testBit k

/-- Loads a group of one controller (R590). A controller that failed at Dawn takes no write (R628). -/
def State.loadCan (s : State) (c : Fin 4) : State :=
  if s.bstFailed Fld.BST_FAIL_CAN c.val then s
  else
    let was := s.flag (Fld.CAN_CFG_ENABLE c)
    let s := forAll CfgTable.p38
      (fun r t => forAll (List.range r.count) (fun k t => t.loadParam 38 (r.item + k) c.val) t) s
    (s.canRestate c was).canSafety c

/-- The registers of an axis that does not exist, and of the lanes, read their reset values (R22, R266). -/
def State.clearAxis (s : State) (a : Fin 4) : State :=
  forAll [Reg.POS_CFG a, Reg.POS_STATUS a, Reg.POS_FAULT a, Reg.POS_ANGLE a, Reg.POS_SPEED a, Reg.POS_START a, Reg.POS_MAP a,
      Reg.POS_CNT a, Reg.SPD_CFG a, Reg.SPD_STATE a, Reg.SPD_FAULT a, Reg.SPD_NCMD a, Reg.SPD_NREF a, Reg.SPD_NACT a,
      Reg.SPD_TREF a, Reg.SPD_TLPOS a, Reg.SPD_TLNEG a, Reg.SPD_HEAVE a, Reg.SPD_FACT a, Reg.SPD_CNT a, Reg.SPD_LAST a,
      Reg.LSH_CFG a, Reg.LSH_GROUP a, Reg.LSH_TIME a, Reg.LSH_STATE a, Reg.LSH_MAP a, Reg.LSH_CNT a, Reg.LSH_REFUSE a,
      Reg.LSH_TM a, Reg.LSH_SHARE a, Reg.LSH_KCAP a, Reg.LSH_TEAX a, Reg.SFI_AX_STATE a, Reg.SFI_AX_FAULT a,
      Reg.SFI_AX_NSAFE a, Reg.SFI_AX_HSAFE a]
    (fun r t => t.setReg r (resetWord r)) s

/-- Loads every configuration register from the working copy of the profile just made active (chapters 05 to 14, 20). -/
def State.loadRegisters (s : State) : State :=
  let s := forAll four (fun a t => when (!t.axisExists a) (·.clearAxis a) t) s
  let s := forAll (CfgTable.p14 ++ CfgTable.p16 ++ CfgTable.p18 ++ CfgTable.p19 ++ CfgTable.axis ++ CfgTable.p30)
    (fun r t =>
      match paramRow r.group r.item with
      | some p => forAll (List.range p.insts) (fun x t => forAll (List.range r.count) (fun k t => t.loadParam r.group (r.item + k) x) t) t
      | none => t) s
  let s := forAll four (fun x t => t.loadParam 19 6 x.val) s
  let s := forAll four (fun a t => when (t.axisExists a) (fun t => (t.loadAxis a).loadWeights a) t) s
  forAll four (fun c t => t.loadCan c) s

end Sys2Proof.Machine
end

