-- ==== Sys2Proof/Machine/Sealing.lean ====
section
/-! DEFINITION. The sealed safety parameter set: its CRC (R451), staging (R452), sealing (R453) and what discards a
staging (R454). -/

namespace Sys2Proof.Machine

/-- The rows of the safety parameter set, in ascending order of identifier; the commands P40.900 to P40.902 do not
enter (R451). -/
def safetyRows : List ParamRow := paramTable.filter fun r => decide (40 ≤ r.group ∧ r.group ≤ 44) && decide (r.item < 900)

/-- The keys of the safety parameter set, in the order of R451. -/
def safetyKeys : List Nat :=
  safetyRows.flatMap fun r =>
    (List.range r.count).flatMap fun c => (List.range r.insts).map fun x => paramKey r.group (r.item + c) x

/-- The seal of a set: CRC-32C over its values as 4 bytes little-endian each (R451). -/
def safetyCrc (b : Bank) : Word := crc32c (safetyKeys.flatMap fun k => wordBytes (sparseGet paramDefault b k))

/-- Whether a key belongs to the safety parameter set. -/
def isSafetyKey (k : Nat) : Bool := decide (40 ≤ k / 256 / 1000 ∧ k / 256 / 1000 ≤ 44)

/-- The safety part of a bank. -/
def safetyPart (b : Bank) : Bank := b.filter fun e => isSafetyKey e.1

/-- A bank with its safety part replaced. -/
def withSafety (b st : Bank) : Bank :=
  (safetyPart st).foldl (fun acc e => sparsePut paramDefault acc e.1 e.2) (b.filter fun e => !isSafetyKey e.1)

/-- What a staging works on besides the set: the parameters and classes of the target profile. The working copy of the
active profile stands for that profile (R641). -/
def State.targetParams (s : State) (t : Fin 4) : Bank := if s.sys.active == some t then s.params else s.slots[t].params

/-! ## The conditions a set must meet (R428, R471, R474, R479, R487) -/

/-- Whether the functions that need a safe port are available on an axis (R428). -/
def safePortOk (cfg st : Bank) (classW : Bool) (a : Nat) : Bool :=
  let n := (bankPar st 40 30 a).floor.toNat
  let t := (bankPar cfg 30 1 n).floor.toNat
  decide (n < 4) && bankPar st 40 31 a != 0 &&
  (if classW then t != 6 && t != 0 else (t == 2 || t == 5) && bankPar cfg 30 20 n != 0)

/-- Whether SLP is available on an axis (R428). -/
def slpOk (cfg st : Bank) (classW : Bool) (a : Nat) : Bool :=
  let t := (bankPar cfg 30 1 (bankPar st 40 30 a).floor.toNat).floor.toNat
  safePortOk cfg st classW a && classW && (t == 3 || t == 4)

/-- Whether a source code names something that exists: a used pair, a receiving connection (R479). -/
def sourceOk (st : Bank) (c : Nat) : Bool :=
  if 0x8000 ≤ c then bankPar st 44 30 ((c - 0x8000) / 16) == 2
  else if c / 256 = 1 then bankPar st 44 1 (c % 256) != 0
  else true

/-- Whether no demand of an axis is mapped to a function that is not available on it (R428, R479). -/
def axisMapOk (cfg st : Bank) (classW : Bool) (a : Nat) : Bool :=
  let used (i : Nat) : Bool := bankPar st 44 i a != 0
  let need (b ok : Bool) : Bool := !b || ok
  need ((used 51 && bankPar st 40 10 a != 0) || used 53 || used 54 || used 55 || used 56 || used 58 || used 59) (safePortOk cfg st classW a)
    && need (used 57) (slpOk cfg st classW a)

/-- The conditions under which a set can be sealed: R428 and R479 on every axis, R479 on every transmitted bit, R466, R471, R474 and
R487. -/
def sealable (cfg st : Bank) (classW : BitVec 4) : Bool :=
  let nat (g i x : Nat) : Nat := (bankPar st g i x).floor.toNat
  (four.all fun a => axisMapOk cfg st (classW.getLsbD a.val) a.val)
    && (four.all fun a => ([50, 51, 52, 53, 54, 55, 56, 57, 58, 59] : List Nat).all fun i => sourceOk st (nat 44 i a.val))
    && ((List.range 32).all fun k =>
        bankPar st 44 33 k != bankPar st 44 34 k && decide (bankPar st 44 38 k < bankPar st 44 37 k)
          && (bankPar st 44 30 k != 1 || (List.range 16).all fun j => sourceOk st (nat 44 (60 + j) k)))
    && ((List.range 8).all fun i =>
        bankPar st 44 1 i == 0 || bankPar st 44 4 i == 4 && bankPar st 44 5 i == 4 || decide (bankPar st 44 10 0 < 1000 * bankPar st 44 3 i))
    && ((List.range 4).all fun i =>
        let src := nat 44 20 i
        let named := four.any fun a => nat 40 20 a.val == i
        (src == 1) == named && (src / 256 != 1 || bankPar st 44 1 (src % 256) != 0))

/-! ## Staging -/

/-- Whether the conditions of R452 for staging hold. -/
def State.stagingOk (s : State) : Bool := s.stagingHolds

/-- Shows the staged CRC and the step of an open staging (R456). -/
def State.showStaging (s : State) (g : Staging) : State :=
  let changed := safetyKeys.filter fun k => sparseGet paramDefault g.staged k != sparseGet paramDefault g.sealed k
  let all := changed.all fun k => g.readBack.contains k
  let s := s.setReg Reg.SFI_STAGE (safetyCrc g.staged)
  let s := s.setFld Fld.SFI_SEALINFO_TARGET g.target.val
  s.setFld Fld.SFI_SEALINFO_STEP (if g.sealing.isSome then 3 else if all && !changed.isEmpty then 2 else 1)

/-- Stores an open staging and shows it. -/
def State.setStaging (s : State) (g : Staging) : State :=
  ({ s with isl := { s.isl with staging := some g } }.setFlag Fld.SFI_STATUS_STAGE_OPEN true).showStaging g

/-- Opens a staging of a profile (R452). -/
def State.stageOpen (s : State) (t : Fin 4) : State :=
  let b := safetyPart s.slots[t].params
  (s.startTimer .staging).setStaging { target := t, sealed := b, staged := b, readBack := [], sealing := none, rose := false }

/-- The status of a request to open a staging (R452). -/
def State.stageOpenStatus (s : State) (w : Word) : Nat :=
  if 4 ≤ w.toNat then St.PARAM_RANGE
  else if s.isl.staging.isSome || !s.stagingOk then St.SEALED
  else St.SUCCESS

/-- STAGE_OPEN (R452): a PARAM_WRITE to P40.900. -/
def execStageOpen (h : Desc) (target : Word) (s : State) : Res :=
  s.dispatch h 0x03 fun s =>
    let st := s.stageOpenStatus target
    if st = St.SUCCESS then (s.stageOpen (Fin.ofNat 4 target.toNat)).complete h 0x03 st else s.complete h 0x03 st

/-- Whether every item that differs from the sealed value has been read back after its last write (R453). -/
def readBackOk (g : Staging) : Bool :=
  safetyKeys.all fun k => sparseGet paramDefault g.staged k == sparseGet paramDefault g.sealed k || g.readBack.contains k

/-- Whether both STO inputs are low. -/
def State.stoBothLow (s : State) : Bool := !s.flag Fld.SFI_STATUS_STO_A && !s.flag Fld.SFI_STATUS_STO_B

/-- The 600 s of R453, the last still in time. -/
def stagingNs : Rat := 600_000_000_000

/-- The condition of R453 that a sealing fails first, as the console names it (R461); none where the island seals. -/
def State.sealFail (s : State) (g : Staging) (crc : Word) : Option String :=
  if s.overdue .staging stagingNs then some "TIMEOUT"
  else if crc != safetyCrc g.staged then some "CRC"
  else if !readBackOk g then some "READ_BACK"
  else if !s.stagingOk then some "CONDITIONS"
  else if !s.stoBothLow then some "STO"
  else if !sealable (s.targetParams g.target) g.staged s.slots[g.target].classW then some "SET"
  else none

/-- A failed check of a sealing (R453): the staging stays open. -/
def State.sealFailed (s : State) (h : Desc) : State :=
  let s : State := match s.isl.staging with
    | some g => { s with isl := { s.isl with staging := some { g with sealing := none } } }
    | none => s
  (s.setFld Fld.SFI_SEALINFO_STEP 5).complete h 0x03 St.SEAL_FAIL

/-- Checks the conditions of R453 and starts the flash write. -/
def State.sealStart (s : State) (h : Desc) (crc : Word) : State :=
  match s.isl.staging with
  | none => s.complete h 0x03 St.SEAL_FAIL
  | some g =>
    if g.sealing.isSome then s.complete h 0x03 St.SEAL_FAIL
    else if s.flag (Fld.LCK_STATUS_FAILED 1) then s.complete h 0x03 St.UNIT_FAILED
    else if s.overdue .staging stagingNs then s.sealFailed h |>.discardStaging St.SEAL_FAIL
    else if (s.sealFail g crc).isSome then s.sealFailed h
    else s.setStaging { g with sealing := some h, rose := false }

/-- SEAL (R453): a PARAM_WRITE of the staged CRC to P40.901. -/
def execSeal (h : Desc) (crc : Word) (s : State) : Res := s.dispatch h 0x03 fun s => s.sealStart h crc

/-- The sealed set of a profile: the slot holds it with the working copy of that profile, its seal, its seal count and
the RTC time (R451, R641). -/
def State.sealSlot (s : State) (g : Staging) (crc : Word) : State :=
  let p := s.slots[g.target]
  let b := withSafety (s.targetParams g.target) g.staged
  let p : Profile := { p with
    stored := true, crcOk := true, sealed := true, sealCrc := crc, seals := p.seals + 1, sealTime := s.reg Reg.PMU_RTC, params := b }
  let s : State := { s with slots := s.slots.set g.target p }
  if s.sys.active == some g.target then
    let s : State := { s with params := withSafety s.params g.staged }
    forAll four (fun c t => t.canSafety c) ((s.pinContexts.loadIsland.setReg Reg.SFI_SEAL crc).setFlag Fld.SFI_STATUS_SEALED true)
  else s

/-- SEAL_FLASH_DONE (R453): the profile has been written and read back. A match seals it, with the journal entry
SAFETY_SEAL; a set sealed into the active profile acts at once. -/
def execSealFlashDone (written : Bool) (s : State) : Res :=
  match s.isl.staging with
  | none => .next s
  | some g =>
    match g.sealing with
    | none => .next s
    | some h =>
      if !written || g.rose || !s.stoBothLow || !s.stagingOk then .next (s.sealFailed h)
      else
        let crc := safetyCrc g.staged
        let old := safetyCrc g.sealed
        let s := s.sealSlot g crc
        let s := s.incSat Fld.SFI_SEALINFO_SEALS
        let s : State := { s with isl := { s.isl with staging := none } }
        let s := ((s.setReg Reg.SFI_STAGE 0).setFld Fld.SFI_SEALINFO_STEP 4).setFlag Fld.SFI_STATUS_STAGE_OPEN false
        .next (((s.journalFw 0x0402 g.target.val old crc).complete h 0x03 St.SUCCESS 0
          (if 16 ≤ h.sq.val then [crc, BitVec.ofNat 32 (s.fld Fld.SFI_SEALINFO_SEALS)] else [])).settle)

/-- STAGE_ABORT (R454): a PARAM_WRITE to P40.902. -/
def execStageAbort (h : Desc) (s : State) : Res :=
  s.dispatch h 0x03 fun s => (s.discardStaging St.SEAL_FAIL).complete h 0x03 St.SUCCESS

/-- STAGING_TIMEOUT (R7, R453, R454): more than 600 s without a staged write. -/
def execStagingTimeout (s : State) : Res :=
  if s.overdue .staging stagingNs then .next (s.discardStaging St.SEAL_FAIL) else .next s

/-! ## Staged writes and reads -/

/-- Whether the island accepts a staged value (R452): R428 on the axis or axes it concerns. -/
def State.stagedOk (s : State) (g : Staging) (i : Nat) (key : Nat) (w : Word) : Bool :=
  let st := sparsePut paramDefault g.staged key w
  let cfg := s.targetParams g.target
  let a := key % 256
  let grp := key / 256 / 1000
  let axial := (grp == 40 && (i == 30 || i == 31 || i == 10)) || (grp == 44 && decide (50 ≤ i ∧ i ≤ 59))
  !axial || 4 ≤ a || axisMapOk cfg st (s.slots[g.target].classW.getLsbD a) a

/-- Writes one staged item: it has to be read back again (R453). -/
def State.stageWrite (s : State) (g : Staging) (key : Nat) (w : Word) : State :=
  (s.startTimer .staging).setStaging { g with staged := sparsePut paramDefault g.staged key w, readBack := g.readBack.filter (· != key) }

/-- An item of an open staging is read back (R453). -/
def State.stageRead (s : State) (g : Staging) (key : Nat) : State :=
  s.setStaging { g with readBack := key :: g.readBack.filter (· != key) }

end Sys2Proof.Machine
end

