-- ==== Sys2Proof/Machine/Profiles.lean ====
section
/-! DEFINITION. Profiles: when one is valid (R92 and the rules of the chapters that add to it), loading it at Dawn and at
PROFILE_SELECT, and storing the working copy (R23, R92, R641). -/

namespace Sys2Proof.Machine

/-! ## Validity (R92) -/

/-- Parameters of one profile read with names: `c g i x`. -/
abbrev Pars := Nat → Nat → Nat → Rat

/-- Counts per turn of a port of a profile (R393: a RESOLVER counts 65,536 per pole pair). -/
def cptOf (c : Pars) (n : Nat) : Rat := if c 30 1 n = 5 then 65_536 * c 30 42 n else c 30 4 n

/-- The rules on the sets of an axis: K_E and R_SHUNT set, at least two inputs fitted, one carrier and update mode
(R151, R178, R201, R223). -/
def setsValid (c : Pars) (xs : List Nat) : Bool :=
  let x0 := xs.headD 0
  xs.all fun x =>
    c 16 37 x != 0 && c 19 11 x != 0 && ([3, 5, 6, 7] : List Int).contains (c 19 1 x).floor
      && Coding.period.code (c 18 1 x) == Coding.period.code (c 18 1 x0) && c 18 2 x == c 18 2 x0

/-- The update frequency of an axis (R183). -/
def updateHz (c : Pars) (x0 : Nat) : Rat := 400_000_000 / (Coding.period.code (c 18 1 x0) : Rat) * c 18 2 x0

/-- The machine rules of R259. -/
def machineValid (c : Pars) (xs : List Nat) (p1 : Bool) (a : Nat) : Bool :=
  let p (i : Nat) := c 20 i a
  let m := p 3
  p 4 != 0 && p 11 != 0 && p 12 != 0 && p 30 != 0 && (m == 2 || p 13 != 0)
    && (m != 1 ||
      (decide (p 11 < p 12) && p 35 != 0 && p 100 == 0 && p 200 == 0
        && (List.range 64).all fun j => decide (p (200 + j) < p (201 + j)) && decide (p (101 + j) ≤ p (100 + j))))
    && (m != 2 || (p 15 != 0 && p 16 != 0 && p 17 != 0 && p 18 != 0 && decide (p 15 < p 16)))
    && (xs.length ≤ 1 || p 14 != 0) && (!p1 || p 19 == 0) && decide (-p 30 ≤ p 31)
    && decide (c 24 4 a / 60 * p 4 ≤ updateHz c (xs.headD 0) / 8)

/-- The position source of R274, with the port rule of R363. -/
def sourceValid (c : Pars) (xs : List Nat) (classW : Bool) (a : Nat) : Bool :=
  let p (i : Nat) := c 22 i a
  let n := (p 2).floor.toNat
  let finj := updateHz c (xs.headD 0) / (2 * p 20)
  if p 1 = 1 then p 4 != 0 && c 30 1 n != 0 && cptOf c n == p 4
  else if p 1 = 2 then
    !classW && p 10 != 0 && decide (p 12 < p 13)
      && (c 20 3 a == 2 ||
        (p 11 != 0 && p 23 != 0 && p 24 != 0 && decide (3 / 100 * max (p 23) (p 24) ≤ absRat (p 24 - p 23))
          && decide (500 ≤ finj ∧ finj ≤ 4000)))
  else false

/-- The motion rules: R309, R311, R317, R318, R319, R320, R407. The limits on T_SHOCK bind an axis with SNATCH_EN (log
entry 20). -/
def motionValid (c : Pars) (classW : Bool) (a : Nat) : Bool :=
  let p (i : Nat) := c 24 i a
  let q (i : Nat) := c 26 i a
  let j := c 20 41 a
  let n := (c 22 2 a).floor.toNat
  (p 1 != 1 || c 22 1 a == 1) && p 4 != 0 && (p 11 != 0 || j != 0) && decide (q 25 < p 5)
    && (q 1 == 0 ||
      (j != 0 && classW &&
        (if q 14 = 0 then decide (p 30 ≤ q 4 ∧ p 33 ≤ q 4) else decide (p 31 ≤ q 4 ∧ p 32 ≤ q 4))))
    && (q 10 == 0 || classW) && (q 20 == 0 || !classW)
    && (c 22 1 a != 1 || decide (60 * (c 32 2 a * c 32 1 a) / cptOf c n ≤ p 4))

/-- The sharing rules of R330. -/
def shareValid (c : Pars) (a : Nat) : Bool :=
  let p (i : Nat) := c 28 i a
  p 1 == 0 || (p 2 != 0 && decide (p 4 < p 3) && decide (p 11 < c 36 1 0) && decide (p 10 + p 3 / 2 ≤ p 11))

/-- The rules on a serial port (R371). -/
def serialValid (c : Pars) (n : Nat) : Bool :=
  let t := c 30 1 n
  (t != 3 && t != 4) || decide ((c 30 30 n + 8) * 1000 / c 30 33 n + c 30 35 n ≤ c 30 34 n)

/-- The rules on limit pairs (R409). -/
def limitsValid (c : Pars) (has : Nat → Bool) : Bool :=
  (List.range 4).all fun l =>
    let users := (List.range 4).filter fun k => c 32 21 (4 + k) == (l : Rat)
    let axis := has l && c 32 20 l != 0
    !(axis && !users.isEmpty) && decide (users.length ≤ 1)

/-- The sets that the last Dawn left unavailable: through their islands, or through their lane (R87, R88, R639). -/
def State.unavailable (s : State) : Nat := s.fld Fld.BST_FAIL_SET ||| s.fld Fld.BST_FAIL_LANE

/-- Whether an axis of a topology owns an unavailable set. -/
def State.axisHit (s : State) (t : Topology) (a : Fin 4) : Bool := (t.sets a).any fun x => s.unavailable.testBit x.val

/-- Whether a stored profile is valid (R92), its sets aside. -/
def Profile.valid (p : Profile) : Bool :=
  let c : Pars := fun g i x => bankPar p.params g i x
  p.stored && p.crcOk && p.sealed && p.sealCrc == safetyCrc p.params
    && (four.all fun a =>
      !p.topology.has a ||
        (let xs := (p.topology.sets a).map (·.val)
         setsValid c xs && machineValid c xs (p.topology == .p1) a.val && sourceValid c xs (p.classW.getLsbD a.val) a.val
           && motionValid c (p.classW.getLsbD a.val) a.val && shareValid c a.val))
    && (List.range 4).all (serialValid c) && limitsValid c (fun a => p.topology.has (Fin.ofNat 4 a))

/-- Whether a profile uses no set marked unavailable. -/
def State.setsFree (s : State) (p : Profile) : Bool := four.all fun a => !s.axisHit p.topology a

/-! ## Loading -/

/-- Makes the working copy the slot as stored, with every item that it does not hold at its default; the device record
stays (R641). -/
def State.takeSlot (s : State) (n : Fin 4) : State :=
  let p := s.slots[n]
  let kept : Bank := s.params.filter fun e => isRecordKey e.1
  let own : Bank := p.params.filter fun e => !isRecordKey e.1
  { s with
    params := own.foldl (fun acc e => sparsePut paramDefault acc e.1 e.2) kept
    topology := p.topology, classW := p.classW, sys := { s.sys with workFrom := n } }
where
  /-- P10 and P60 form the device record (R641). -/
  isRecordKey (k : Nat) : Bool := k / 256 / 1000 == 10 || k / 256 / 1000 == 60

/-- What a profile that has become active starts with: the blocks of each axis, port, channel and set, and
the scalings of every lane (R180, R190, R234, R331, R378, R474). -/
def State.freshBlocks (s : State) : State :=
  let s := forAll four (fun x t => (t.modPwm x fun p => { p with sent := none, shadow := none, active := false }).stepOffset x) s
  let s : State := { s with lsh := s.lsh.map fun g => { LshAx.reset with told := g.told } }
  let s := forAll four
    (fun a t => forAll [Reg.LSH_STATE a, Reg.LSH_MAP a, Reg.LSH_TM a, Reg.LSH_SHARE a, Reg.LSH_KCAP a, Reg.LSH_TEAX a]
      (fun r u => u.setReg r 0) t) s
  let load := s.fresh
  let s := forAll four (fun x t => t.modLane x fun l => { l with scale := load }) { s with fresh := s.fresh + 1 }
  let s := forAll four (fun a t => when (t.axisExists a) (fun t => t.modLsh a fun g => { g with sig := t.lshSignature a }) t) s
  forAll four (fun a t => t.modPos a fun p => { p with bins := PosAx.reset.bins, learnt := 0, staged := none }) s

/-- Makes the profile of a slot active (R92): registers loaded, the seal shown, PROFILE_INVALID cleared; SET_UNAVAILABLE
clears only at Dawn (R306). -/
def State.activate (s : State) (n : Fin 4) : State :=
  let p := s.slots[n]
  let s := s.takeSlot n
  let s : State := { s with sys := { s.sys with active := some n } }
  let s := s.setFlag Fld.SYS_MODE_PROF_NONE false
  let s := forAll four (fun a t => t.setFlag (Fld.SPD_FAULT_PROFILE_INVALID a) false) s
  let s := forAll (List.finRange 28) (fun n t => t.senseAgain n) s.loadRegisters.freshBlocks.pinContexts.loadIsland.routeWatch.limAll
  (s.setReg Reg.SFI_SEAL p.sealCrc).setFlag Fld.SFI_STATUS_SEALED true

/-- A slot that is not loaded (R92, R641): there is no active profile, the axes show PROFILE_INVALID, and those of a stored
profile that own an unavailable set latch SET_UNAVAILABLE; the slot becomes the origin of the working copy. -/
def State.rejectLoad (s : State) (n : Fin 4) : State :=
  let p := s.slots[n]
  let s := s.takeSlot n
  let s : State := { s with sys := { s.sys with active := none } }
  let s := s.setFlag Fld.SYS_MODE_PROF_NONE true
  let s := forAll four
    (fun a t =>
      when (p.stored && t.axisHit p.topology a) (·.setFlag (Fld.SPD_FAULT_SET_UNAVAILABLE a) true)
        (t.setFlag (Fld.SPD_FAULT_PROFILE_INVALID a) true)) s
  s.pinContexts.irq 7

/-- The outcome of a profile load (R92): the slot becomes active where it is valid. -/
def State.loadOrReject (s : State) (n : Fin 4) : State :=
  let p := s.slots[n]
  if p.valid && s.setsFree p then s.activate n else s.rejectLoad n

/-- The operand of PROFILE_SELECT: a profile index 0 to 3. -/
def profileIx (h : Desc) : Option (Fin 4) := if h.index.toNat < 4 then some (Fin.ofNat 4 h.index.toNat) else none

/-- Why a PROFILE_SELECT is refused before its slot is looked at (R78, R80, R98, R501, R530): it needs CP_1. -/
def State.selectRefusal (s : State) (h : Desc) : Option Nat :=
  if s.mode != .ready && s.mode != .run && s.mode != .service then some St.MODE_DENIED
  else if s.flag (Fld.LCK_STATUS_FAILED 1) then some St.UNIT_FAILED
  else if (profileIx h).isNone || 2 ≤ h.sub.toNat then some St.BAD_FIELD
  else none

/-- PROFILE_SELECT with SUB 0 (R23, R92, R641): the slot is loaded as stored; with no active profile a refused slot
becomes the origin of the working copy. It needs every axis STOPPED, and discards an open staging (R454). -/
def execProfileSelect (h : Desc) (s : State) : Res :=
  s.dispatch h 0x07 fun s =>
    match s.selectRefusal h, profileIx h with
    | some st, _ => s.refuse h 0x07 st
    | none, none => s.complete h 0x07 St.BAD_FIELD
    | none, some n =>
      if s.profileActive && !s.allStopped then s.complete h 0x07 St.NOT_STOPPED
      else
        let s := s.discardStaging St.SEAL_FAIL
        let p := s.slots[n]
        if p.valid && s.setsFree p then
          let s := (s.activate n).portEnable.chooseParent
          (s.complete h 0x07 St.SUCCESS).settle
        else if s.profileActive then s.complete h 0x07 St.NO_PROFILE
        else ((s.loadOrReject n).complete h 0x07 St.NO_PROFILE).settle

/-- The working copy as a slot holds it: parameters, topology, classes, sealed set and seal (R528, R641). -/
def State.workProfile (s : State) : Profile :=
  let from_ := s.slots[s.sys.workFrom]
  { from_ with
    stored := true, crcOk := true, topology := s.topology, classW := s.classW
    sealed := if s.profileActive then true else from_.sealed
    sealCrc := if s.profileActive then s.reg Reg.SFI_SEAL else from_.sealCrc
    params := s.params.filter fun e => !State.takeSlot.isRecordKey e.1 }

/-- PROFILE_SELECT with SUB 1 (R23, R528, R641): the working copy is stored in a slot, with every axis STOPPED as for every
PROFILE_SELECT; the command completes with the flash write (PROFILE_STORE). -/
def execProfileStore (h : Desc) (s : State) : Res :=
  s.dispatch h 0x07 fun s =>
    match s.selectRefusal h, profileIx h with
    | some st, _ => s.refuse h 0x07 st
    | none, none => s.complete h 0x07 St.BAD_FIELD
    | none, some n =>
      if s.profileActive && !s.allStopped then s.complete h 0x07 St.NOT_STOPPED
      else if s.sys.flashBusy == some (.refresh (.profile n)) then s.complete h 0x07 St.BUSY
      else
        { s with
          sys := { s.sys with flashBusy := some (s.sys.flashBusy.getD (.profileStore n)) }
          hif := { s.hif with inFlight := s.hif.inFlight ++ [{ h := h, opcode := 0x07, inst := n.val }] } }

end Sys2Proof.Machine
end

