-- ==== Sys2Proof/Machine/Journal.lean ====
section
/-! DEFINITION. The journal controller (R606, R607): writing queued entries, and the flush of R60. -/

namespace Sys2Proof.Machine

/-- The number of entries the journal holds (R606). -/
def journalSize : Nat := 4096

/-- The index of the newest entry: SEQ modulo 4,096 (R606). -/
def State.journalIndex (s : State) : Nat := s.fld Fld.SVC_JSEQ_SEQ % journalSize

/-- Reports entries lost while the queue was full, once it has room (R607). -/
def State.reportLost (s : State) : State :=
  if s.jr.lostNow = 0 || 64 ≤ s.jr.queue.length then s
  else
    let n := s.jr.lostNow
    { s with jr := { s.jr with lostNow := 0 } }.journal 0x010C 0 (BitVec.ofNat 32 n)

/-- Writes the oldest queued entry (R606, R607): SEQ counts on, the oldest of 4,096 entries is overwritten, and the event
JOURNAL carries the index (R532). A disabled journal writes nothing. -/
def State.journalOut (s : State) : State :=
  if s.flag Fld.SVC_JSTAT_DISABLED then s
  else
    match s.jr.queue with
    | [] => s
    | e :: q =>
      let seq : Word := s.reg Reg.SVC_JSEQ + 1
      let s : State := { s with jr := { s.jr with queue := q, entries := ((seq, e) :: s.jr.entries).take journalSize } }
      let s := (s.setReg Reg.SVC_JSEQ seq).setFld Fld.SVC_JSTAT_QUEUE q.length
      let s := s.reportLost
      (s.setIrq 1 (!s.jr.queue.isEmpty)).event 0x08 [BitVec.ofNat 32 s.journalIndex]

/-- Writes every queued entry (R60, R98); an entry that reports losses follows them. -/
def State.journalFlush (s : State) : State := (List.range (s.jr.queue.length + 1)).foldl (fun t _ => t.journalOut) s

/-- JOURNAL_WRITE (R607): the controller writes one entry. It runs on through reset and the lock-out, not in NIGHT. -/
def execJournalWrite (s : State) : Res := if s.sys.lockout == .off then .next s else .next s.journalOut

end Sys2Proof.Machine
end

