-- ==== Sys2Proof/Machine/Reset.lean ====
section
/-! DEFINITION. The common lock-out (R58 to R63), reset (R40, R50, R603 to R605, R634), the start of a Dawn (R54, R635),
and Night (R76, R77, R82, R83, R646). -/

namespace Sys2Proof.Machine

/-! ## What a reset leaves -/

/-- The registers a reset keeps: the Night domain (R63, R104, R637, R638), the level of EN (R100, R174), and of the
island the age of the STO path test (R435) and the seals performed (R456). -/
def keptFields : List Field :=
  [⟨Reg.PMU_LOCKOUT, 0, 32⟩, ⟨Reg.PMU_NIGHT, 0, 32⟩, ⟨Reg.PMU_RTC, 0, 32⟩, ⟨Reg.PMU_WAKE, 0, 32⟩, Fld.SYS_MODE_EN,
    Fld.PSP_REQ_EN, Fld.SFI_STATUS_SINCE_TEST, Fld.SFI_STATUS_TEST_DUE, Fld.SFI_STATUS_OVERDUE, Fld.SFI_SEALINFO_SEALS, Fld.SVC_JSEQ_SEQ]

/-- Brings a state to reset (R50, R60, R603): everything at its reset value except the Night domain, the journal, flash
and what the module and its surroundings hold; the device record is loaded from flash (R641). -/
def State.deviceReset (s : State) : State :=
  let r : State := State.reset
  let t : State :=
    { r with
      pending := s.pending
      fresh := s.fresh
      params := s.sys.record
      slots := s.slots
      images := s.images
      jr := s.jr
      con := { r.con with out := s.con.out }
      hif := { r.hif with perstLow := s.hif.perstLow, signals := s.hif.signals, hostWrites := s.hif.hostWrites }
      sys :=
        { r.sys with
          lockout := s.sys.lockout, vinPresent := s.sys.vinPresent, wakeLatched := s.sys.wakeLatched, nightDead := s.sys.nightDead
          dawnCount := s.sys.dawnCount, preferFlash := s.sys.preferFlash, record := s.sys.record, refreshAt := s.sys.refreshAt
          oldMode := s.mode, resetLow := s.sys.resetLow, rtcNs := s.sys.rtcNs, rtcSet := s.sys.rtcSet, poweredNs := s.sys.poweredNs, wakeNs := s.sys.wakeNs
          testNs := s.sys.testNs }
      timers := [(.hostLost, s.sys.poweredNs)] }
  (forAll keptFields (fun f u => u.setFld f (s.fld f)) t).setFld Fld.SVC_JSTAT_QUEUE s.jr.queue.length

/-- The start of a Dawn (R54, R86, R635): the outputs stay in the state of R50, FAULT_N aside, until READY; START tells the
cause, the console tells the mode (R611) and serves its hardware subset until CP_0 firmware runs (R612). A wake that was
latched for a NIGHT that is not entered is dropped (R82). -/
def State.startDawn (s : State) (cause : BitVec 8) : State :=
  let s : State :=
    { s with
      sys := { s.sys with
        inReset := false, resetReq := none, startCause := cause, dawnCount := s.sys.dawnCount + 1, wakeLatched := none, dawnNs := 0 } }
  let s := s.setFld ⟨Reg.SYS_RSTCAUSE, 0, 8⟩ cause.toNat
  let s := (s.setFlag Fld.SYS_BOOT_PREFER s.sys.preferFlash).setFld ⟨Reg.SYS_SVN, 0, 16⟩ Config.svnMin.toNat
  let s := (s.setReg Reg.WFT_UID_LO (Config.uid.setWidth 32)).setReg Reg.WFT_UID_HI ((Config.uid >>> 32).setWidth 32)
  let s := s.setFlag Fld.SVC_STATUS_HWONLY true
  when (s.sys.oldMode != .dawn) (·.say (.modeLine .dawn)) s

/-- A reset (R40, R605, R634): RECOVER with rung 3, then the state of R50; Dawn follows at once where the lock-out is
released and RESET_N is high. -/
def State.resetNow (s : State) (cause : BitVec 8) : State :=
  let s := (s.journal 0x010A 3).deviceReset
  if s.sys.lockout == .released && !s.sys.resetLow then s.startDawn cause
  else { s with sys := { s.sys with startCause := cause } }

/-- Accepts a reset that starts 100 µs later: of resets that meet, the earliest names the start cause (R605, R634). -/
def State.requestReset (s : State) (cause : BitVec 8) : State :=
  { s with sys := { s.sys with resetReq := some (s.sys.resetReq.getD cause) } }

/-- RESET_START (R634): an accepted reset starts. -/
def execResetStart (s : State) : Res :=
  match s.sys.resetReq with
  | some c => .next (if s.awake then s.resetNow c else s)
  | none => .next s

/-- RESET_N_ASSERT (R40): RESET_N has been low for 50 samples. In NIGHT and DEEP NIGHT it changes no mode (R77). -/
def execResetNAssert (s : State) : Res :=
  let cause := s.sys.resetReq.getD 2
  let low := s.sys.resetLow
  let s : State := { s with sys := { s.sys with resetLow := true } }
  .next (if s.awake && !low then s.resetNow cause else s)

/-- RESET_N_RELEASE (R40): at the rising edge Dawn starts, once the lock-out is released too (R54). -/
def execResetNRelease (s : State) : Res :=
  let s : State := { s with sys := { s.sys with resetLow := false } }
  .next (if s.sys.inReset && s.sys.lockout == .released then s.startDawn s.sys.startCause else s)

/-! ## The lock-out -/

/-- What a lock-out leaves in flash of a write in progress: a partly written image (R535); of a profile store or a
sealing the spec does not say, so the slot either keeps its old contents or fails its CRC (log entry 22). -/
def State.breakFlash (s : State) : State :=
  let other : Fin 2 := if s.flag Fld.SYS_BOOT_BOOTED then 0 else 1
  let s : State :=
    if s.sys.flashBusy == some .imageBlock then { s with images := s.images.set other { s.images[other] with partly := true } } else s
  let spoil (n : Fin 4) (s : State) : State :=
    let f := s.freeBool
    if f.1 then { f.2 with slots := f.2.slots.set n { f.2.slots[n] with crcOk := false } } else f.2
  let s := match s.sys.flashBusy with
    | some (.profileStore n) => spoil n s
    | _ => s
  match s.isl.staging with
  | some g => if g.sealing.isSome then spoil g.target s else s
  | none => s

/-- The first clock of a trip (R60, R61, R63): it is counted with the supplies out of window and journalled. -/
def State.countTrip (s : State) (supplies : BitVec 6) : State :=
  let s := (s.incSat Fld.PMU_LOCKOUT_TRIPS).setFld ⟨Reg.PMU_LOCKOUT, 0, 6⟩ supplies.toNat
  s.journal 0x0104 0 (s.reg Reg.PMU_LOCKOUT)

/-- LOCKOUT_TRIP (R58, R60, R61, R63): the trip is counted and journalled and the device is in reset while the journal
flushes. The sequence is the same in every mode: in NIGHT on +24V, where everything else is off already, the trip of +24V is
counted, journalled and flushed too. In NIGHT on VBAT and in DEEP NIGHT no watched supply is there to trip (R76). -/
def execLockoutTrip (supplies : BitVec 6) (vinPresent : Bool) (s : State) : Res :=
  let s : State := { s with sys := { s.sys with vinPresent := vinPresent } }
  match s.sys.lockout with
  | .off =>
    if s.mode == .night && !s.sys.nightOnVbat then
      let s := s.countTrip (supplies &&& 0x30)
      .next { s with sys := { s.sys with lockout := .flushing } }
    else .next s
  | .flushing => .next s
  | _ =>
    let s := (s.countTrip supplies).breakFlash.deviceReset
    .next { s with sys := { s.sys with lockout := .flushing, startCause := 1 } }

/-- Starts the wake timer at the entry to NIGHT (R638). -/
def State.startWakeTimer (s : State) : State :=
  let t := s.parNat 10 22 0
  { (s.setFlag Fld.PMU_WAKE_RUN (s.parOn 10 22 0)).setFld Fld.PMU_WAKE_REMAIN t with sys := { s.sys with wakeNs := 0 } }

/-- A wake (R82, R84): the rails start, the release filter runs, and Dawn follows the release. -/
def State.wake (s : State) (source : BitVec 2) : State :=
  let old := s.mode
  let s := (s.setFld Fld.PMU_NIGHT_WAKE source.toNat).setReg Reg.PMU_WAKE 0
  let s := s.setFld Fld.SYS_MODE_MODE Mode.dawn.code
  { s with
    sys := { s.sys with
      lockout := .filtering, inReset := true, startCause := 6, oldMode := old, wakeLatched := none, nightOnVbat := false } }

/-- Where the Night domain has lost its contents nothing is left to count or to notice a wake: the device waits for +24V as
at its first power-up (R646). -/
def State.awaitSupply (s : State) : State :=
  let s := s.setFld Fld.SYS_MODE_MODE Mode.dawn.code
  { s with
    sys := { s.sys with lockout := .filtering, inReset := true, startCause := 1, nightOnVbat := false, wakeLatched := none } }

/-- The entry to NIGHT (R76, R82): everything but the Night domain is off; a latched wake acts at once. -/
def State.enterNight (s : State) (onVbat : Bool) (dusk : Bool) : State :=
  let s := s.deviceReset
  if s.sys.nightDead then s.awaitSupply else
  let s := (s.setFld Fld.SYS_MODE_MODE Mode.night.code).setFlag Fld.PMU_NIGHT_ORIGIN dusk
  let s := (s.setFlag Fld.PMU_NIGHT_DEEP false).startWakeTimer
  let s : State := { s with sys := { s.sys with lockout := .off, inReset := false, nightOnVbat := onVbat, vbatNs := 0 } }
  match s.sys.wakeLatched with
  | some w => s.wake w
  | none => s

/-- A NIGHT on +24V whose supply has tripped goes on (R77): on VBAT with +24V absent, its ORIGIN and its wake timer kept;
a wake latched in the flush acts at once (R82). There is no Dawn out of NIGHT without a wake. -/
def State.nightAgain (s : State) (vinPresent : Bool) : State :=
  if s.sys.nightDead then s.awaitSupply else
  let s : State := { s with sys := { s.sys with lockout := .off, nightOnVbat := !vinPresent, vbatNs := 0 } }
  match s.sys.wakeLatched with
  | some w => s.wake w
  | none => s

/-- LOCKOUT_FLUSH_END (R60, R77): the queue has been written; with +24V absent NIGHT on VBAT follows, else the release
filter runs, and a wake latched for NIGHT is dropped (R82). -/
def execLockoutFlushEnd (vinPresent : Bool) (s : State) : Res :=
  if s.sys.lockout != .flushing then .next s
  else
    let s := s.journalFlush
    let s : State := { s with sys := { s.sys with vinPresent := vinPresent } }
    if s.mode == .night then .next (s.nightAgain vinPresent)
    else if vinPresent then .next { s with sys := { s.sys with lockout := .filtering, wakeLatched := none } }
    else .next (s.enterNight true false)

/-- LOCKOUT_RELEASE (R59): Dawn starts, unless RESET_N is still low (R54). -/
def execLockoutRelease (s : State) : Res :=
  if s.sys.lockout != .filtering then .next s
  else
    let s : State := { s with sys := { s.sys with lockout := .released, vinPresent := true, nightDead := false } }
    .next (if s.sys.resetLow then s else s.startDawn s.sys.startCause)

/-! ## Night -/

/-- Whether the last step of Dusk runs: no axis is active, every set is in pulse block and CROSS is clear (R98). -/
def State.duskReady (s : State) : Bool :=
  s.mode == .dusk && s.noneActive && four.all fun x => s.inPulseBlock x && !s.cross x

/-- Whether a wake meets the entry to NIGHT, where it is latched (R82). -/
def State.enteringNight (s : State) : Bool := s.sys.lockout == .flushing || s.duskReady

/-- A qualified wake of a source: it wakes from NIGHT, or is latched at its entry, the flush of a tripped NIGHT included. -/
def State.wakeOrLatch (s : State) (source : BitVec 2) : State :=
  if s.enteringNight then { s with sys := { s.sys with wakeLatched := some (s.sys.wakeLatched.getD source) } }
  else if s.mode == .night && !s.sys.inReset then s.wake source
  else s

/-- WAKE_N (R41, R82): 33 samples in NIGHT; in DEEP NIGHT 2.0 ms wake, less than 0.5 ms never do, and between them the
outcome is not specified. -/
def execWakeN (samples lowUs : Nat) (s : State) : Res :=
  if s.mode == .deepNight then
    if 2000 ≤ lowUs then .next (s.wake 1)
    else if lowUs < 500 then .next s
    else
      let f := s.freeBool
      .next (if f.1 then f.2.wake 1 else f.2)
  else if 33 ≤ samples then .next (s.wakeOrLatch 1)
  else .next s

/-- WAKE_TIMER (R82): the wake timer has run for its minutes; it runs in NIGHT only. -/
def execWakeTimer (s : State) : Res :=
  if s.mode == .night && !s.sys.inReset && s.flag Fld.PMU_WAKE_RUN
      && decide (s.par 10 22 0 * 60_000_000_000 ≤ (s.sys.wakeNs : Rat)) then .next (s.wakeOrLatch 2) else .next s

/-- VIN_RETURN (R82): where NIGHT was entered because +24V was lost the device wakes; after a Dusk it goes to NIGHT on
+24V. While the device is not in NIGHT the supply is only present again (R61). -/
def execVinReturn (s : State) : Res :=
  let s : State := { s with sys := { s.sys with vinPresent := true, nightDead := false } }
  if s.sys.lockout != .off then .next s
  else if s.mode == .night && !s.sys.nightOnVbat then .next s
  else if !s.flag Fld.PMU_NIGHT_ORIGIN then .next (s.wake 3)
  else
    let deep := s.mode == .deepNight
    let s := when deep (·.startWakeTimer) (s.setFld Fld.SYS_MODE_MODE Mode.night.code)
    .next { s with sys := { s.sys with nightOnVbat := false } }

/-- DEEP_NIGHT_ENTRY (R7, R77, R83): more than P10.020 hours on VBAT without a wake. The RTC stops and is no longer valid. -/
def execDeepNightEntry (s : State) : Res :=
  if s.mode == .night && !s.sys.inReset && s.sys.nightOnVbat && s.parOn 10 20 0
      && decide (s.par 10 20 0 * 3_600_000_000_000 < (s.sys.vbatNs : Rat)) then
    let s := (s.setFlag Fld.PMU_NIGHT_DEEP true).setFlag Fld.PMU_NIGHT_RTC_VALID false
    .next ((s.setReg Reg.PMU_WAKE 0).setFld Fld.SYS_MODE_MODE Mode.deepNight.code)
  else .next s

/-- VBAT_CHECK (R63): each second in the Night domain; no clock runs in DEEP NIGHT. A Night domain that has lost its contents
makes no check until it is supplied again: by +24V, or by VBAT at 2.2 V or more (R646). -/
def execVbatCheck (vbat : Rat) (s : State) : Res :=
  let low := decide (vbat < 11 / 5)
  let dead := s.sys.nightDead && low
  let s : State := { s with sys := { s.sys with nightDead := dead } }
  if s.mode == .deepNight || dead then .next s else .next (s.setFlag Fld.PMU_LOCKOUT_VBAT_LOW low)

/-- The Night domain loses all of its contents together (R646), and counts nothing until its next supply; in the flush of a
trip the device waits for that supply once the flush has ended. -/
def State.loseNight (s : State) : State :=
  let s := forAll [Reg.PMU_LOCKOUT, Reg.PMU_NIGHT, Reg.PMU_RTC, Reg.PMU_WAKE] (fun r t => t.setReg r 0) s
  let s : State := { s with sys := { s.sys with rtcNs := 0, rtcSet := none, wakeNs := 0, nightDead := true } }
  if s.sys.lockout == .off then s.awaitSupply else s

/-- NIGHT_DOMAIN_LOSS (R646): with +24V absent, contents are kept at 2.2 V and more, lost below 1.5 V, and between them
the spec does not say. -/
def execNightDomainLoss (vbat : Rat) (s : State) : Res :=
  if s.sys.vinPresent || 11 / 5 ≤ vbat then .next s
  else if vbat < 3 / 2 then .next s.loseNight
  else
    let f := s.freeBool
    .next (if f.1 then f.2.loseNight else f.2)

/-! ## The PCI Express endpoint (R39, R515, R538) -/

/-- The endpoint and every ring context and open chain are reset; nothing else is (R39, R515). -/
def State.resetRings (s : State) : State :=
  let s := forAll (List.finRange 16)
    (fun n t =>
      forAll [Reg.HIF_SQ_BASE_LO n, Reg.HIF_SQ_BASE_HI n, Reg.HIF_SQ_CFG n, Reg.HIF_SQ_PTR n, Reg.HIF_SQ_STAT n,
          Reg.HIF_CQ_BASE_LO n, Reg.HIF_CQ_BASE_HI n, Reg.HIF_CQ_CFG n, Reg.HIF_CQ_PTR n, Reg.HIF_CQ_STAT n]
        (fun r t => t.setReg r (resetWord r)) t) s
  let s := forAll (List.finRange 32)
    (fun v t =>
      forAll [Reg.MSIX_ADDR_LO v.val, Reg.MSIX_ADDR_HI v.val, Reg.MSIX_DATA v.val, Reg.MSIX_CTRL v.val]
        (fun r t => t.setReg r (resetWord r)) t) s
  let s := (s.setReg Reg.MSIX_PBA (resetWord Reg.MSIX_PBA)).putFwq []
  { s with
    hif := { s.hif with
      sq := Hif.reset.sq, cq := Hif.reset.cq, scopes := [], evtLost := 0, turn := 0
      inFlight := s.hif.inFlight.filter fun c => decide (16 ≤ c.h.sq.val) } }

/-- The link ends: LINK_UP, SPEED and WIDTH read 0 (R538). -/
def State.linkOff (s : State) : State :=
  ((s.setFlag Fld.HIF_STATUS_LINK_UP false).setFld Fld.HIF_STATUS_SPEED 0).setFld Fld.HIF_STATUS_WIDTH 0

/-- The loss of the PCI Express host, while the host is not local firmware (R534). -/
def State.pcieLost (s : State) : State := if s.flag Fld.HIF_CFG_LOCAL then s else s.hostLost

/-- PERST_N_ASSERT (R39, R515). -/
def execPerstNAssert (s : State) : Res :=
  let s : State := { s with hif := { s.hif with perstLow := true } }
  .next (if s.awake then s.resetRings.linkOff.pcieLost else s)

/-- PERST_N_RELEASE (R39): the endpoint leaves reset; LINK_UP follows when the link has trained. -/
def execPerstNRelease (s : State) : Res := .next { s with hif := { s.hif with perstLow := false } }

/-- LINK_DOWN (R515, R534): the link has been down for 1 ms. -/
def execLinkDown (s : State) : Res := .next (if s.awake then s.linkOff.pcieLost else s)

/-- LINK_UP (R511, R538): the link has trained. In reset, and with BIST_HOST, it does not (R514). -/
def execLinkUp (speed width : BitVec 2) (s : State) : Res :=
  if s.awake && !s.hif.perstLow && !(s.dawnFailed && s.fld Fld.SYS_DAWN_CAUSE == 0x14) then
    .next (((s.setFlag Fld.HIF_STATUS_LINK_UP true).setFld Fld.HIF_STATUS_SPEED speed.toNat).setFld Fld.HIF_STATUS_WIDTH width.toNat)
  else .next s

/-- FUNCTION_LEVEL_RESET (R515): a DEVICE_RESET that ends the link, in any axis state. -/
def execFunctionLevelReset (s : State) : Res :=
  if s.awake then .next (s.linkOff.pcieLost.requestReset 5) else .next s

/-- DEVICE_RESET (R530): with the key; without HARD every axis has to be STOPPED. The completion precedes the reset. -/
def execDeviceReset (h : Desc) (key : Word) (s : State) : Res :=
  s.dispatch h 0x19 fun s =>
    if key != 0xD5E7 then s.complete h 0x19 St.BAD_FIELD
    else if !h.hard && !s.allStopped then s.complete h 0x19 St.NOT_STOPPED
    else (s.complete h 0x19 St.SUCCESS).requestReset 3

/-- SYS_RESET (R634): accepted wherever the register can be reached; another key or a reserved bit is refused. -/
def execSysReset (w : Writer) (value : Word) (s : State) : Res :=
  s.access w Reg.SYS_RESET value fun s =>
    if value != 0xD5E7 && value != 0x1_D5E7 then s.regLocked w Reg.SYS_RESET value
    else if value == 0xD5E7 && !s.allStopped then s.setFld Fld.SYS_MODE_REQ_RES 3
    else s.requestReset 4

end Sys2Proof.Machine
end

