-- ==== Sys2Proof/Machine/Dawn.lean ====
section
/-! DEFINITION. The steps of Dawn (R54, R55, R85 to R97), the STO path test and its deferred parts (R93, R645), the
flash and journal upkeep (R74, R75, R83), the mode requests (R78, R81, R98, R101) and Dusk (R98, R99). -/

namespace Sys2Proof.Machine

/-! ## Progress and failure -/

/-- The last step of Dawn reached (R86, R102). -/
def State.dawnStep (s : State) : Nat := s.fld Fld.SYS_DAWN_STEP

/-- Whether a Dawn runs and has not stopped. -/
def State.dawning (s : State) : Bool := s.awake && s.mode == .dawn && !s.flag Fld.SYS_DAWN_FAILED

/-- Reaches a step. -/
def State.reach (s : State) (k : Nat) : State := s.setFld Fld.SYS_DAWN_STEP k

/-- The DAWN entry: start cause, Dawns since manufacture, and SYS_STRAP (R609). -/
def State.dawnEntry (s : State) : State :=
  s.journal 0x0100 s.sys.startCause.toNat s.sys.dawnCount ((s.reg Reg.SYS_STRAP) &&& 0xFFFF)

/-- Whether the journal has passed its check of slot 2 (R88, R95). -/
def State.journalPassed (s : State) : Bool := s.sys.journalChecked && !s.flag Fld.SVC_JSTAT_DISABLED

/-- The line DAWN FAIL (R97). -/
def State.failLine (s : State) : Line :=
  .dawnFail (s.fld Fld.SYS_DAWN_CAUSE) (s.fld Fld.SYS_DAWN_UNIT) s.dawnStep (s.sys.dawnNs / 100_000)

/-- Dawn stops (R95 to R97): SYS_DAWN, the journal entry where the journal has passed its check, and the console line.
A failure before the straps writes the DAWN entry first. -/
def State.dawnFail (s : State) (cause unit : Nat) : State :=
  let s := when (decide (s.dawnStep < 2)) (·.dawnEntry) s
  let s := ((s.setFld Fld.SYS_DAWN_CAUSE cause).setFld Fld.SYS_DAWN_UNIT unit).setFlag Fld.SYS_DAWN_FAILED true
  let s := when s.journalPassed (fun t => t.journal 0x0101 unit (t.reg Reg.SYS_DAWN)) s
  (s.say s.failLine).settle

/-- One unit marked failed or unavailable (R89). -/
def State.dawnUnit (s : State) (unit : Nat) : State :=
  (s.setFlag Fld.SYS_DAWN_DEGRADED true).journal 0x0102 unit (BitVec.ofNat 32 s.dawnStep)

/-! ## Clocks, straps, islands -/

/-- The lock flag of a PLL (R636). -/
def pllField : Pll → Field
  | .pll400 => Fld.SYS_CLK_PLL400
  | .pll800 => Fld.SYS_CLK_PLL800

/-- The bit of a PLL among those whose first attempt has failed. -/
def pllBit : Pll → Nat
  | .pll400 => 0
  | .pll800 => 1

/-- PLL_LOCK (R25, R85, R86): Weft time counts from 0 from the lock of the 400 MHz PLL; step 0x01 is reached with both. -/
def execPllLock (p : Pll) (s : State) : Res :=
  if !s.dawning || s.flag (pllField p) then .next s
  else
    let s := (s.setFlag Fld.SYS_CLK_REF_OK true).setFlag (pllField p) true
    let s : State := if p = .pll400 then { s with weft := 0, wft := { s.wft with frac := 0 } } else s
    if s.flag Fld.SYS_CLK_PLL400 && s.flag Fld.SYS_CLK_PLL800 then .next (s.reach 1) else .next s

/-- PLL_LOCK_TIMEOUT (R85): one further attempt, then Dawn stops with cause CLOCK. -/
def execPllLockTimeout (p : Pll) (s : State) : Res :=
  if !s.dawning || s.flag (pllField p) then .next s
  else
    let s := s.setFlag Fld.SYS_CLK_REF_OK true
    if s.sys.pllTries.testBit (pllBit p) then .next (s.dawnFail 0x02 0)
    else .next { s with sys := { s.sys with pllTries := s.sys.pllTries + 2 ^ pllBit p } }

/-- The level of a strap pin whose 8 samples agree; none where they do not (R55). -/
def strapLevel (b : BitVec 8) : Option Bool := if b = 0 then some false else if b = 0xFF then some true else none

/-- STRAP_SAMPLE (R54 to R56): five pins sampled 8 times each; the last sample is the pin level that SYS_STRAP shows. DESIGN
CHOICE (log entry 2): where samples disagree no value has been sampled, and PROF and SPLIT, with them DATA of the DAWN entry,
keep the 0 of reset. -/
def execStrapSample (prof0 prof1 split0 split1 split2 : BitVec 8) (s : State) : Res :=
  if !s.dawning || s.dawnStep ≠ 1 then .next s
  else
    let pins : List (BitVec 8) := [prof0, prof1, split0, split1, split2]
    let bit (k : Nat) (b : BitVec 8) : Nat := if b.getLsbD 7 then 2 ^ k else 0
    let code := (pins.zipIdx.map fun e => bit e.2 e.1).foldl (· + ·) 0
    let s := s.setFld ⟨Reg.SYS_STRAP, 8, 5⟩ code
    let s := s.reach 2
    if pins.all fun b => (strapLevel b).isSome then
      let s := s.setFld ⟨Reg.SYS_STRAP, 0, 5⟩ code
      let s := forAll (α := Fin 4) [0, 1, 2] (fun n t => t.setFlag (Fld.LCK_STATUS_SPLIT n) (code.testBit (2 + n.val))) s
      .next s.dawnEntry
    else .next (s.dawnEntry.dawnFail 0x01 0)

/-- ISLAND_GROUP_START (R86, R87): the seven gate islands and the SSI of a set start. Bits 0 to 6 of `up` are their barrier
channels in the order of R2, bits 7 and 8 the flag and the data channel of the SSI. -/
def execIslandGroupStart (x : Fin 4) (up : BitVec 9) (s : State) : Res :=
  if !s.dawning || s.dawnStep < 2 || 4 < s.dawnStep then .next s
  else
    let s : State := { s with sys := { s.sys with islandsUp := s.sys.islandsUp ||| (1#4 <<< x.val) } }
    let s := forAll (setChans x).zipIdx (fun (e : Fin 28 × Nat) t => t.setFlag (Fld.GDC_STATUS_LINK e.1) (up.getLsbD e.2)) s
    let now := s.sys.poweredNs
    let s := forAll (setChans x).zipIdx
      (fun (e : Fin 28 × Nat) t => t.modGc e.1 fun g => { g with upSince := if up.getLsbD e.2 then some now else none }) s
    let s := s.modPsp x fun p => { p with linkFlag := up.getLsbD 7, linkData := up.getLsbD 8, flagAt := now, dataAt := now }
    .next (s.reach (if x = 3 then 4 else max 3 s.dawnStep)).settle

/-- Marks a set unavailable (R87, R88, R639). -/
def State.setUnavailable (s : State) (x : Fin 4) : State := s.setFld ⟨Reg.BST_FAIL, 20 + x.val, 1⟩ 1

/-- The first barrier channel of a group that is not up, as R96 codes units. -/
def State.groupDown (s : State) (x : Fin 4) : Option Nat :=
  match (setChans x).find? fun (n : Fin 28) => !s.flag (Fld.GDC_STATUS_LINK n) with
  | some n => some n.val
  | none => if s.psp[x].linkFlag && s.psp[x].linkData then none else some (0x80 + x.val)

/-- ISLAND_GROUP_TIMEOUT (R87, R89): a group whose barrier channels are not up leaves its set unavailable. -/
def execIslandGroupTimeout (x : Fin 4) (s : State) : Res :=
  if !s.dawning || !s.sys.islandsUp.getLsbD x.val then .next s
  else
    match s.groupDown x with
    | some u => .next ((s.setUnavailable x).dawnUnit u)
    | none => .next s

/-! ## BIST (R88, R89) -/

/-- The slot that tests a unit (R88). -/
def bistSlot : BistUnit → Nat
  | .logic n => if n.val < 2 then 0 else 1
  | .tcm n => if n.val < 2 then 0 else 1
  | .sram hi => if hi then 1 else 0
  | .islandMemory => 1
  | .journal => 1
  | .lane _ => 2
  | .checker _ => 2
  | _ => 3

/-- What makes Dawn stop: cause and unit (R88, R96); none where the unit is only marked. DESIGN CHOICE (log entry 23): R96 codes
no unit for system SRAM, the safety-island memory, PSP, PWM, MFE, POS, the motion sequencer, the ring processor and HIF; UNIT is
3 for the safety-island memory, which serves CP_3, and 0 for the others. -/
def bistFatal : BistUnit → Option (Nat × Nat)
  | .logic n => if n = 0 ∨ n = 3 then some (0x10, n.val) else none
  | .tcm n => some (0x11, n.val)
  | .sram _ => some (0x11, 0)
  | .islandMemory => some (0x11, 3)
  | .checker n => if n = 0 ∨ n = 3 then some (0x12, n.val) else none
  | .psp => some (0x13, 0)
  | .timing => some (0x13, 0)
  | .host => some (0x14, 0)
  | _ => none

/-- The code of a unit in a DAWN_UNIT entry: R96 gives codes for pairs, gate channels, SSIs, Weft ports and CAN
controllers; for lanes, feedback ports and the journal it gives none (log entry 23). -/
def bistCode : BistUnit → Nat
  | .logic n => n.val
  | .tcm n => n.val
  | .checker n => n.val
  | .gate n => n.val
  | .ssi x => 0x80 + x.val
  | .barrier n => if n.val < 28 then n.val else 0x80 + (n.val - 28)
  | .weft w => 0x90 + w.val
  | .can c => 0xA0 + c.val
  | .lane x => 0xC0 + x.val
  | .fbi n => 0xD0 + n.val
  | .journal => 0xE0
  | _ => 0

/-- A pair marked failed at Dawn (R88, R89, R91). -/
def State.pairFailed (s : State) (n : Fin 4) : State :=
  let s := s.setFld ⟨Reg.BST_FAIL, n.val, 1⟩ 1
  ((s.setFld (Fld.LCK_STATUS_STATE n) PairSt.FAILED).setFlag (Fld.LCK_STATUS_FAILED n) true)

/-- The bits of BST_FAIL and BST_GATE that a failing unit sets, and what it leaves in its own block (R88, R639). DESIGN CHOICE
(log entry 59): the run of the comparator self-test in slot 4 shows in BST_GATE and in the set's availability only, not in
GDC_n_TESTRES and TEST_FAIL. -/
def State.bistMark (s : State) : BistUnit → State
  | .logic n => s.pairFailed n
  | .checker n => s.pairFailed n
  | .journal => (s.setFlag Fld.BST_FAIL_JOURNAL true).setFlag Fld.SVC_JSTAT_DISABLED true
  | .lane x => s.setFld ⟨Reg.BST_FAIL, 4 + x.val, 1⟩ 1
  | .fbi n => (s.setFld ⟨Reg.BST_FAIL, 8 + n.val, 1⟩ 1).setFlag (Fld.FBI_STATUS_UNIT_FAILED n) true
  | .weft w => (s.setFld ⟨Reg.BST_FAIL, 12 + w.val, 1⟩ 1).setFld (Fld.WFT_P_STATE_LSTATE w) 4
  | .can c => s.setFld ⟨Reg.BST_FAIL, 16 + c.val, 1⟩ 1
  | .gate n => (s.setFld ⟨Reg.BST_GATE, n.val, 1⟩ 1).setUnavailable (chanSet n.val)
  | .ssi x => s.setUnavailable x
  | .barrier n => s.setUnavailable (if n.val < 28 then chanSet n.val else Fin.ofNat 4 (n.val - 28))
  | _ => s

/-- A failing unit of a slot: its marks, and its entry where Dawn goes on (R89). -/
def State.bistFail (s : State) (u : BistUnit) : State :=
  let s := s.bistMark u
  if (bistFatal u).isSome then s else s.dawnUnit (bistCode u)

/-- BIST_SLOT_END (R86, R88): the failures of the slot take their consequences, and the next step is reached unless one of
them stops Dawn. With slot 1 the boot ROM starts on CP_0 and checks the preferred image (R90). -/
def execBistSlotEnd (slot : Fin 4) (fails : List BistUnit) (s : State) : Res :=
  if !s.dawning || s.dawnStep ≠ 4 + slot.val then .next s
  else
    let mine := fails.filter fun u => bistSlot u == slot.val
    let s : State := if slot = 1 then { s with sys := { s.sys with journalChecked := !mine.contains .journal } } else s
    let s := forAll mine (fun u t => t.bistFail u) s
    match mine.findSome? bistFatal with
    | some (c, u) => .next (s.dawnFail c u)
    | none =>
      let s : State := if slot = 0 then { s with sys := { s.sys with imageTry := some (s.flag Fld.SYS_BOOT_PREFER) } } else s
      .next (s.reach (5 + slot.val)).settle

/-! ## Boot (R90, R91) -/

/-- An image slot. -/
def imageIx (b : Bool) : Fin 2 := if b then 1 else 0

/-- Whether an image passes R90: signature, header, a size that fits, a security version that is not below the minimum, and
no write that was broken off (R535). -/
def State.imageOk (s : State) (b sigOk headerOk fits : Bool) (svn : BitVec 16) : Bool :=
  sigOk && headerOk && fits && decide (s.fld ⟨Reg.SYS_SVN, 0, 16⟩ ≤ svn.toNat) && !s.images[imageIx b].partly

/-- The failure flag of an image (R103). -/
def imageFail (b : Bool) : Field := if b then Fld.SYS_BOOT_B_FAIL else Fld.SYS_BOOT_A_FAIL

/-- IMAGE_CHECK_DONE (R90, R103): the image is loaded, or the other is checked, or Dawn stops with NO_IMAGE. -/
def execImageCheckDone (sigOk headerOk fits : Bool) (svn : BitVec 16) (s : State) : Res :=
  match s.sys.imageTry with
  | none => .next s
  | some b =>
    if !s.dawning then .next s
    else
      let prefer := s.flag Fld.SYS_BOOT_PREFER
      if s.imageOk b sigOk headerOk fits svn then
        let s := (s.setFlag Fld.SYS_BOOT_BOOTED b).setFld ⟨Reg.SYS_SVN, 16, 16⟩ svn.toNat
        let s : State :=
          { s with
            sys := { s.sys with imageTry := none, imageOk := true }
            images := s.images.set (imageIx b) { s.images[imageIx b] with svn := svn } }
        if b = prefer then .next s
        else
          let s := s.setFlag Fld.SYS_BOOT_FALLBACK true
          .next (s.journal 0x0103 0 (s.reg Reg.SYS_BOOT))
      else
        let s := s.setFlag (imageFail b) true
        if b = prefer then .next { s with sys := { s.sys with imageTry := some (!b) } }
        else .next ({ s with sys := { s.sys with imageTry := none } }.dawnFail 0x20 0)

/-- BOOT_SECTION_COMPLETE (R492): a pair's section has been copied and the pair jumps to it. -/
def execBootSectionComplete (n : Fin 4) (s : State) : Res :=
  if s.dawning && s.sys.imageOk then .next { s with sys := { s.sys with sectionsDone := s.sys.sectionsDone ||| (1#4 <<< n.val) } }
  else .next s

/-- Pairs whose firmware has not reported itself started and that have not failed already. -/
def State.notStarted (s : State) : List (Fin 4) :=
  four.filter fun n => !s.sys.pairStarted.getLsbD n.val && !s.flag (Fld.LCK_STATUS_FAILED n)

/-- IMAGE_START_DEADLINE (R91): at t = 120 ms. -/
def execImageStartDeadline (s : State) : Res :=
  if !s.dawning then .next s
  else
    let late := s.notStarted
    let s := forAll (late.filter fun n => n == 1 || n == 2) (fun n t => (t.pairFailed n).dawnUnit n.val) s
    if late.contains 0 then .next ((s.pairFailed 0).dawnFail 0x21 0)
    else if late.contains 3 then .next ((s.pairFailed 3).dawnFail 0x31 3)
    else .next s

/-! ## Profile and STO path -/

/-- PROFILE_LOAD (R55, R86, R92): the profile of the straps is loaded, or none is active. With CP_1 failed, whose function
it is (R17, R86), none is loaded (log entry 24). -/
def execProfileLoad (s : State) : Res :=
  if !s.dawning || s.dawnStep ≠ 8 || !s.sys.pairStarted.getLsbD 0 || !s.sys.pairStarted.getLsbD 3 then .next s
  else
    let s := s.reach 9
    let n : Fin 4 := Fin.ofNat 4 (s.fld ⟨Reg.SYS_STRAP, 0, 2⟩)
    let s := if s.flag (Fld.LCK_STATUS_FAILED 1) then s.rejectLoad n else s.loadOrReject n
    let s : State := { s with sys := { s.sys with profileLoaded := true } }
    .next (s.modWft fun w => { w with dawn := if s.profileActive then s.params else [] }).settle

/-- Whether both STO inputs are high after their filters. -/
def State.stoBothHigh (s : State) : Bool := s.flag Fld.SFI_STATUS_STO_A && s.flag Fld.SFI_STATUS_STO_B

/-- The unit of an STO input stage (R96). -/
def stoUnit : StoInput → Nat
  | .a => 0xB0
  | .b => 0xB1

/-- The STO path test has passed in all of its parts: its age starts again (R435). -/
def State.stoTestPassed (s : State) : State :=
  if s.sys.stoInputsDeferred || s.sys.stoSetDeferred != 0 then s
  else
    let s := ((s.setFld Fld.SFI_STATUS_SINCE_TEST 0).setFlag Fld.SFI_STATUS_TEST_DUE false).setFlag Fld.SFI_STATUS_OVERDUE false
    { s with sys := { s.sys with testNs := 0 } }

/-- The units of R74: images A and B, then the four profiles. -/
def flashUnits : List FlashUnit := [.image false, .image true, .profile 0, .profile 1, .profile 2, .profile 3]

/-- Where the date of a refreshed unit is kept. -/
def refreshIx : FlashUnit → Fin 6
  | .image b => if b then 1 else 0
  | .profile p => Fin.ofNat 6 (2 + p.val)

/-- Seconds in 365 days (R74). -/
def yearSeconds : Nat := 31_536_000

/-- The units whose last refresh, dated by the RTC, lies more than 365 days back (R74). -/
def State.refreshOld (s : State) : BitVec 6 :=
  flashUnits.foldl
    (fun m u =>
      let i := refreshIx u
      if s.sys.refreshAt[i].toNat + yearSeconds < (s.reg Reg.PMU_RTC).toNat then m ||| (1#6 <<< i.val) else m) 0

/-- Starts the refresh of the first unit that is due, by firmware of CP_1 and only while no flash operation runs, so that two
images are never refreshed at the same time (R74, R83). -/
def State.nextRefresh (s : State) : State :=
  if !s.awake || s.mode == .dawn || s.mode == .dusk || s.flag (Fld.LCK_STATUS_FAILED 1) || s.sys.flashBusy.isSome then s
  else
    match flashUnits.find? fun u => s.sys.refreshWant.getLsbD (refreshIx u).val with
    | some u =>
      let left := s.sys.refreshWant &&& ~~~(1#6 <<< (refreshIx u).val)
      { s with sys := { s.sys with flashBusy := some (.refresh u), refreshWant := left } }
    | none => s

/-- The flash refresh check that CP_1 makes at step 0x0B (R74, R94): deferred while the RTC is not valid (R83). -/
def State.refreshCheck (s : State) : State :=
  if s.flag (Fld.LCK_STATUS_FAILED 1) then s
  else if s.flag Fld.PMU_NIGHT_RTC_VALID then
    { s with sys := { s.sys with refreshDue := false, refreshWant := s.sys.refreshWant ||| s.refreshOld } }.nextRefresh
  else { s with sys := { s.sys with refreshDue := true } }.nextRefresh

/-- STO_PATH_TEST (R86, R93 to R95, R645): sets that OV3 holds in ASC are left out and the input stages wait for both
inputs; a failure stops Dawn, a pass ends it in READY, where the outputs leave the state of R50. -/
def execStoPathTest (gateFail : Option (Fin 28)) (inputFail : Option StoInput) (s : State) : Res :=
  if !s.dawning || s.dawnStep ≠ 9 then .next s
  else
    let s := s.reach 0x0A
    let out : BitVec 4 := four.foldl (fun m x => if s.inAsc x then m ||| (1#4 <<< x.val) else m) 0
    let high := s.stoBothHigh
    let s : State := { s with sys := { s.sys with stoSetDeferred := out, stoInputsDeferred := !high } }
    let bad : Option Nat := match gateFail.filter fun n => !out.getLsbD (chanSet n.val).val with
      | some n => some n.val
      | none => if high then inputFail.map stoUnit else none
    match bad with
    | some u => .next (s.dawnFail 0x30 u)
    | none =>
      let s := (s.stoTestPassed.reach 0x0B).setMode .ready
      let s := { s with sys := { s.sys with pinsHighZ := false } }.portEnable.chooseParent
      .next s.refreshCheck.settle

/-- DEFERRED_STO_TEST (R93): both inputs are high together for the first time; until a pass STO stays demanded. -/
def execDeferredStoTest (inputFail : Option StoInput) (s : State) : Res :=
  if !s.awake || s.mode == .dawn || !s.sys.stoInputsDeferred || !s.stoBothHigh then .next s
  else
    match inputFail with
    | some i => .next (s.stoPath (stoUnit i)).settle
    | none => .next ({ s with sys := { s.sys with stoInputsDeferred := false } }.stoTestPassed).settle

/-- DEFERRED_SET_STO_TEST (R645): the deferred test of one set, in BLOCK with its axis STOPPED or with no active profile. -/
def execDeferredSetStoTest (x : Fin 4) (gateFail : Option (Fin 28)) (s : State) : Res :=
  if !s.awake || s.mode == .dawn || !s.sys.stoSetDeferred.getLsbD x.val || !s.inPulseBlock x || !s.setFree x then .next s
  else
    match gateFail with
    | some n => .next (s.stoPath n.val).settle
    | none =>
      let left := s.sys.stoSetDeferred &&& ~~~(1#4 <<< x.val)
      .next ({ s with sys := { s.sys with stoSetDeferred := left } }.stoTestPassed).settle

/-! ## Flash and journal upkeep -/

/-- FLASH_REFRESH (R74, R501): a block has been powered for 365 days since its last refresh. CP_1 refreshes it as soon as no
other flash operation runs, whether or not the check of Dawn waits for the RTC (R83); it ends with FLASH_OPERATION_COMPLETE. -/
def execFlashRefresh (u : FlashUnit) (s : State) : Res :=
  if !s.awake || s.flag (Fld.LCK_STATUS_FAILED 1) then .next s
  else .next { s with sys := { s.sys with refreshWant := s.sys.refreshWant ||| (1#6 <<< (refreshIx u).val) } }.nextRefresh

/-- REFRESH_DEFER_TIMEOUT (R83): every block of the images and profiles is to be refreshed once, one unit after another. -/
def execRefreshDeferTimeout (s : State) : Res :=
  if s.awake && s.sys.refreshDue && !s.flag Fld.PMU_NIGHT_RTC_VALID && !s.flag (Fld.LCK_STATUS_FAILED 1) then
    .next { s with sys := { s.sys with refreshDue := false, refreshWant := 0x3F } }.nextRefresh
  else .next s

/-- JOURNAL_REWRITE (R75): every entry is written again as it stands. -/
def execJournalRewrite (s : State) : Res := .next s

/-! ## Mode requests (R78, R81, R98, R101) -/

/-- Enters Dusk (R98): every axis that is not STOPPED receives STOP with its ramp. -/
def State.enterDusk (s : State) : State :=
  let s := ((s.reqRes 1).setMode .dusk).startTimer .dusk
  (forAll four (fun a t => when (t.axisExists a && t.axState a != AxSt.STOPPED) (·.stopNow a false) t) s).settle

/-- A request for Dusk: accepted in READY and RUN, ignored in DUSK (R77, R99); the console's also in a failed DAWN. -/
def State.requestDusk (s : State) (console : Bool) : State :=
  if s.mode == .dusk then s
  else if s.mode == .ready || s.mode == .run || (console && s.dawnFailed) then s.enterDusk
  else s.reqRes 2

/-- The result of a request for SERVICE (R81, R100). -/
def State.serviceResult (s : State) : Nat :=
  if s.mode != .ready then 2
  else if !s.allStopped then 3
  else if four.any fun x => decide (60 ≤ s.psp[x].vdc) || decide (60 ≤ s.vDcTv x) then 4
  else if four.any fun x => s.cross x then 5
  else 1

/-- A request for SERVICE. -/
def State.requestService (s : State) : State :=
  let r := s.serviceResult
  if r = 1 then (((s.reqRes 1).setMode .service).startTimer .idle).settle else s.reqRes r

/-- A request to leave SERVICE. -/
def State.requestLeave (s : State) : State := if s.mode == .service then (s.reqRes 1).leaveService.settle else s.reqRes 2

/-- Whether a write to SYS_MODEREQ arrives at all. -/
def State.modeReq (s : State) (w : Writer) (code : Word) (f : State → State) : Res := s.access w Reg.SYS_MODEREQ code f

/-- MODEREQ_DUSK (R98, R101). -/
def execModereqDusk (w : Writer) (s : State) : Res := s.modeReq w 1 fun s => s.requestDusk false

/-- MODEREQ_SERVICE_ENTER (R81, R101). -/
def execModereqServiceEnter (w : Writer) (s : State) : Res := s.modeReq w 2 (·.requestService)

/-- MODEREQ_SERVICE_LEAVE (R81, R101). -/
def execModereqServiceLeave (w : Writer) (s : State) : Res := s.modeReq w 3 (·.requestLeave)

/-- SERVICE_IDLE (R7, R81): more than P60.010 seconds without a console character. -/
def execServiceIdle (s : State) : Res :=
  .next (if s.mode == .service && s.overdue .idle (s.par 60 10 0 * 1_000_000_000) then s.leaveService.settle else s)

/-! ## Dusk (R98, R99) -/

/-- DUSK_STOP_MAX (R7, R98): every axis still moving is disabled. -/
def execDuskStopMax (s : State) : Res :=
  if s.mode == .dusk && s.overdue .dusk (s.par 10 21 0 * 1_000_000_000) then .next (forAll four (fun a t => t.axisDisable a) s).settle else .next s

/-- A flash write in progress completes, a refresh is abandoned with the old block valid (R74, R98). -/
def State.endFlash (s : State) : State :=
  let s : State := match s.sys.flashBusy with
    | some (.profileStore n) => { s with slots := s.slots.set n s.workProfile }
    | _ => s
  { s with sys := { s.sys with flashBusy := none, record := s.params.filter fun e => State.takeSlot.isRecordKey e.1 } }

/-- DUSK_FLUSH_DONE (R98): with every set in pulse block and CROSS clear, DUSK is journalled, the journal is flushed, and
NIGHT on +24V follows; where +24V is absent the lock-out has ended Dusk before (R99). -/
def execDuskFlushDone (s : State) : Res :=
  if s.duskReady then .next ((s.endFlash.journalFw 0x0106 0).journalFlush.enterNight false true) else .next s

/-- DUSK_WAIT_CROSS (R99): every 10 s while a set has CROSS set; UNIT names the first one. -/
def execDuskWaitCross (s : State) : Res :=
  match four.find? fun x => s.cross x with
  | some x => .next (if s.mode == .dusk then s.journal 0x0107 x.val else s)
  | none => .next s

end Sys2Proof.Machine
end

