-- ==== Sys2Proof/Machine/ParamAccess.lean ====
section
/-! DEFINITION. PARAM_READ and PARAM_WRITE (R22, R528, R529, R640, R641), staged access included (R452, R453). -/

namespace Sys2Proof.Machine

/-- The instance a parameter access works on: the instance byte is ignored for device-wide parameters (R529). -/
def ParamId.instOf (p : ParamId) (r : ParamRow) : Nat := r.inst' p.inst.toNat

/-- The key of a parameter as a descriptor names it. -/
def ParamId.keyOf (p : ParamId) (r : ParamRow) : Nat := paramKey p.group.toNat p.item.toNat (ParamId.instOf p r)

/-- Whether a group is part of the sealed safety parameter set. -/
def isSafetyGroup (g : Nat) : Bool := decide (40 ≤ g ∧ g ≤ 44)

/-! ## Reading -/

/-- What a read of one parameter returns (R22, R452, R640): none where no such parameter or instance exists; the default
for an axis that does not exist in the active topology; the staged value while a staging is open. -/
def State.paramValue (s : State) (p : ParamId) : Option Word :=
  match paramRow p.group.toNat p.item.toNat with
  | none => none
  | some r =>
    let x := ParamId.instOf p r
    if !r.instIn x then none
    else if !s.instOk r x then some r.dflt
    else
      match isSafetyGroup r.group, s.isl.staging with
      | true, some g => some (sparseGet paramDefault g.staged (ParamId.keyOf p r))
      | _, _ => some (s.parWord p.group.toNat p.item.toNat x)

/-- Marks a staged item as read back (R453). -/
def State.markRead (s : State) (p : ParamId) : State :=
  match paramRow p.group.toNat p.item.toNat, s.isl.staging with
  | some r, some g => if isSafetyGroup r.group && decide (r.item < 900) then s.stageRead g (ParamId.keyOf p r) else s
  | _, _ => s

/-- PARAM_READ (R528, R529): up to four values; DETAIL names the first entry that does not exist. -/
def execParamRead (h : Desc) (es : List ParamId) (s : State) : Res :=
  s.dispatch h 0x02 fun s =>
    if h.sub.toNat ≠ es.length || es.length = 0 || 4 < es.length then s.complete h 0x02 St.BAD_FIELD
    else
      match es.findIdx? fun p => (s.paramValue p).isNone with
      | some k => s.complete h 0x02 St.PARAM_UNKNOWN k
      | none =>
        let ws := es.filterMap s.paramValue
        (forAll es (fun p t => t.markRead p) s).complete h 0x02 St.SUCCESS 0 ws

/-! ## Writing: the checks -/

/-- What a write of one entry would leave, parameters and staging only: the later entries of a command are checked
against it (R529). -/
def State.draftWrite (s : State) (e : ParamId × Word) : State :=
  match paramRow e.1.group.toNat e.1.item.toNat with
  | none => s
  | some r =>
    let x := ParamId.instOf e.1 r
    if isSafetyGroup r.group then
      if r.item = 900 then s.stageOpen (Fin.ofNat 4 e.2.toNat)
      else if r.item = 901 then s
      else if r.item = 902 then { s with isl := { s.isl with staging := none } }
      else
        match s.isl.staging with
        | some g => s.stageWrite g (ParamId.keyOf e.1 r) e.2
        | none => s
    else s.setPar r.group e.1.item.toNat x (storedWord r e.1.item.toNat e.2)

/-- The status of a write to the safety parameter set (R452, R453): `t` holds what the entries before it leave. -/
def State.safetyStatus (t : State) (r : ParamRow) (e : ParamId × Word) : Nat :=
  if r.item = 900 then t.stageOpenStatus e.2
  else if r.item = 901 || r.item = 902 then St.SUCCESS
  else
    match t.isl.staging with
    | none => St.SEALED
    | some g =>
      if g.sealing.isSome then St.SEALED
      else if !rangeOk r e.1.item.toNat e.2 || !t.stagedOk g e.1.item.toNat (ParamId.keyOf e.1 r) e.2 then St.PARAM_RANGE
      else St.SUCCESS

/-- The status of one entry (R12, R142, R303, R452, R529, R531): `t` holds what the entries before it leave. -/
def State.entryStatus (s t : State) (e : ParamId × Word) : Nat :=
  match paramRow e.1.group.toNat e.1.item.toNat with
  | none => St.PARAM_UNKNOWN
  | some r =>
    let x := ParamId.instOf e.1 r
    if !s.instOk r x then St.PARAM_UNKNOWN
    else if isSafetyGroup r.group then t.safetyStatus r e
    else if r.group == 22 && e.1.item.toNat == 6 && f32Val (storedWord r 6 e.2) != 0 && s.isClassW (Fin.ofNat 4 x) then St.PARAM_RANGE
    else if !rangeOk r e.1.item.toNat e.2 || !groupOk (t.draftWrite e).params r.group e.1.item.toNat x then St.PARAM_RANGE
    else if !s.paramFree r e.1.item.toNat x then St.PARAM_LOCKED
    else St.SUCCESS

/-- The first refused entry and its status; none where every entry passes. -/
def State.firstRefused (s : State) : State → Nat → List (ParamId × Word) → Option (Nat × Nat)
  | _, _, [] => none
  | t, k, e :: r =>
    let st := s.entryStatus t e
    if st = St.SUCCESS then State.firstRefused s (t.draftWrite e) (k + 1) r else some (k, st)

/-! ## Writing: the effect -/

/-- The device record as the parameters hold it (R641). -/
def State.recordPart (s : State) : Bank := s.params.filter fun e => State.takeSlot.isRecordKey e.1

/-- Whether the unit that a parameter configures was marked failed at Dawn, so that its registers take no write (R628). -/
def State.unitFailed (s : State) (g i inst : Nat) : Bool :=
  (g == 38 && s.bstFailed Fld.BST_FAIL_CAN inst) || (g == 30 && decide (i < 50) && s.bstFailed Fld.BST_FAIL_FB inst)

/-- What a parameter just written changes at once besides its own register (R136, R180, R266, R575, R590). -/
def State.paramActs (s : State) (g i inst : Nat) : State :=
  if g = 14 ∧ (i = 30 ∨ i = 31) then s.senseAgain (Fin.ofNat 28 inst)
  else if g = 18 ∧ i = 1 then s.stepOffset (Fin.ofNat 4 inst)
  else if g = 18 ∧ i = 3 then s.joinPhase (Fin.ofNat 4 inst)
  else if g = 32 ∧ (i = 20 ∨ i = 21) then s.limAll
  else if g = 36 ∧ i = 2 then s.portEnable
  else if g = 38 ∧ i = 1 then s.canRestate (Fin.ofNat 4 inst) false
  else s

/-- Writes one checked entry (R529, R641): the working copy or the device record, and the registers it maps to. With no
active profile no register is loaded (R22, R641). -/
def State.writeEntry (s : State) (e : ParamId × Word) : State :=
  match paramRow e.1.group.toNat e.1.item.toNat with
  | none => s
  | some r =>
    let x := ParamId.instOf e.1 r
    let i := e.1.item.toNat
    if isSafetyGroup r.group then
      if r.item = 902 then s.discardStaging St.SEAL_FAIL else s.draftWrite e
    else
      let s := s.draftWrite e
      if s.profileActive && !s.unitFailed r.group i x then (s.loadParam r.group i x).paramActs r.group i x else s

/-- Whether a command writes the staged CRC to P40.901: it completes with the sealing (R453). -/
def sealCrcOf (es : List (ParamId × Word)) : Option Word :=
  (es.find? fun e => e.1.group.toNat == 40 && e.1.item.toNat == 901).map (·.2)

/-- PARAM_WRITE (R22, R452, R453, R529, R641): every entry is checked before any is written. -/
def execParamWrite (h : Desc) (es : List (ParamId × Word)) (s : State) : Res :=
  s.dispatch h 0x03 fun s =>
    if h.sub.toNat ≠ es.length || es.length = 0 || 7 < es.length then s.complete h 0x03 St.BAD_FIELD
    else
      match s.firstRefused s 0 es with
      | some (k, st) => s.complete h 0x03 st k
      | none =>
        let s := forAll es (fun e t => t.writeEntry e) s
        match sealCrcOf es with
        | some crc => s.sealStart h crc
        | none => (s.complete h 0x03 St.SUCCESS).settle

end Sys2Proof.Machine
end

