-- ==== Sys2Proof/Machine/HostCmds.lean ====
section
/-! DEFINITION. The descriptors of the host that act on no axis (R435, R527, R528, R535, R608), the end of flash
operations (R494), the host watchdog (R534), configuration requests (R514) and the RTC (R637). -/

namespace Sys2Proof.Machine

/-! ## Buffers -/

/-- Writes one word of a data buffer: in host memory, or in system SRAM (R516, R528: the space is the ring's PLACE). -/
def State.bufWrite (s : State) (h : Desc) (base : BitVec 64) (off : Nat) (w : Word) : State :=
  if s.flag (Fld.HIF_SQ_CFG_PLACE h.sq.val) then s.sramWrite (base.toNat + 4 * off) (wordBytes w)
  else { s with hif := { s.hif with hostWrites := (base + BitVec.ofNat 64 (4 * off), w) :: s.hif.hostWrites } }

/-- Writes words to a data buffer from an offset on. -/
def State.bufWords (s : State) (h : Desc) (base : BitVec 64) : Nat → List Word → State
  | _, [] => s
  | off, w :: r => State.bufWords (s.bufWrite h base off w) h base (off + 1) r

/-- Four bytes as a word, low byte first. -/
def bytesWord : List Byte → List Word
  | a :: b :: c :: d :: r => (d ++ c ++ b ++ a) :: bytesWord r
  | _ => []

/-- Keeps a command that has not completed. -/
def State.addFlight (s : State) (h : Desc) (op : Nat) (inst : Nat) : State :=
  { s with hif := { s.hif with inFlight := s.hif.inFlight ++ [{ h := h, opcode := BitVec.ofNat 8 op, inst := inst }] } }

/-- The commands in progress of an opcode and an instance. -/
def State.flights (s : State) (op : Nat) (pick : Nat → Bool) : List InFlight :=
  s.hif.inFlight.filter fun c => c.opcode.toNat == op && pick c.inst

/-- Takes the commands in progress of an opcode and an instance out of the list. -/
def State.dropFlights (s : State) (op : Nat) (pick : Nat → Bool) : State :=
  { s with hif := { s.hif with inFlight := s.hif.inFlight.filter fun c => !(c.opcode.toNat == op && pick c.inst) } }

/-! ## NOP, user opcodes, undefined opcodes (R527) -/

/-- NOP (R527). -/
def execNop (h : Desc) (s : State) : Res := s.dispatch h 0x01 fun s => s.complete h 0x01 St.SUCCESS

/-- The opcodes R527 defines; 0x40 to 0x7F are the user opcodes. -/
def knownOpcode (op : Nat) : Bool :=
  decide (1 ≤ op ∧ op ≤ 9) || op == 0x0C || op == 0x0D || op == 0x10 || op == 0x11 || decide (0x18 ≤ op ∧ op ≤ 0x1C)
    || op == 0x20 || decide (0x40 ≤ op ∧ op ≤ 0x7F)

/-- USER_OPCODE (R527): what a handler does is the integrator's, so its status and data are free values. -/
def execUserOpcode (h : Desc) (opcode : Byte) (handler : Bool) (s : State) : Res :=
  s.dispatch h opcode.toNat fun s =>
    if !handler || opcode.toNat < 0x40 || 0x7F < opcode.toNat then s.complete h opcode.toNat St.BAD_OPCODE
    else
      let (st, s) := s.freeNat
      let (d, s) := s.freeNat
      let (w0, s) := s.freeWord
      let (w1, s) := s.freeWord
      let (w2, s) := s.freeWord
      let (w3, s) := s.freeWord
      s.complete h opcode.toNat (st % 256) (d % 256) [w0, w1, w2, w3]

/-- BAD_OPCODE (R527): an opcode the table does not hold. A defined one is no such descriptor. -/
def execBadOpcode (h : Desc) (opcode : Byte) (s : State) : Res :=
  if knownOpcode opcode.toNat then .next s
  else s.dispatch h opcode.toNat fun s => s.complete h opcode.toNat St.BAD_OPCODE

/-! ## Reading -/

/-- The blocks whose registers belong to sets, gate channels, ports, channels and axis indices (R22, R631); PSP_REQ and
MFE_SUPPLY belong to the device. -/
def inProfileBlocks (a : Nat) : Bool := decide (0x4010_0000 ≤ a ∧ a < 0x4050_0000) && a != Reg.MFE_SUPPLY && a != Reg.PSP_REQ

/-- The state and fault registers of an axis index, which count as existing with no active profile (R22, R92). -/
def isAxisState (a : Nat) : Bool := four.any fun x => a == Reg.SPD_STATE x || a == Reg.SPD_FAULT x

/-- Whether a register reads its reset value whatever it holds (R22): its axis index does not exist, or no profile is active. -/
def State.hidden (s : State) (a : Nat) : Bool :=
  if s.profileActive then (regAxis a).any fun (x : Fin 4) => !s.axisExists x
  else (inProfileBlocks a || (regAxis a).isSome) && !isAxisState a

/-- What a read of a register returns (R8, R22, R627); an unassigned address reads 0. -/
def State.readReg (s : State) (a : Nat) : Word :=
  match regRow a with
  | none => 0
  | some r =>
    if s.hidden a then r.reset
    else if r.base == Reg.FBI_CPT 0 then BitVec.ofNat 32 (s.cpt (Fin.ofNat 4 ((a - 0x4040_0000) / 0x100)))
    else s.reg a

/-! ## Register captures (R528) -/

/-- Whether an address can be captured: a word of the register region (R626, R627). -/
def isRegisterAddr (a : Nat) : Bool := decide (0x4000_0000 ≤ a ∧ a < 0x4100_0000) && a % 4 == 0

/-- SCOPE_ARM (R528): SUB channels of register words, one sample each period. -/
def execScopeArm (h : Desc) (buffer : BitVec 64) (samples : Word) (period : BitVec 16) (regs : List Word) (s : State) : Res :=
  s.dispatch h 0x0C fun s =>
    if h.sub.toNat = 0 || 8 < h.sub.toNat || regs.length ≠ h.sub.toNat || !(regs.all fun a => isRegisterAddr a.toNat) then
      s.complete h 0x0C St.BAD_FIELD
    else
      { s with
        hif := { s.hif with
          scopes := s.hif.scopes ++
            [{ h := h, buffer := buffer, samples := samples, period := period, regs := regs, t0 := s.sys.poweredNs, got := [] }] } }

/-- Whether a capture takes a sample now: it is not complete and the period of its next sample has run. -/
def State.scopeDue (s : State) (c : Scope) : Bool :=
  decide (c.got.length < c.samples.toNat * c.regs.length) &&
  decide (1000 * (c.period.toNat + 1) * (c.got.length / c.regs.length + 1) ≤ s.sys.poweredNs - c.t0)

/-- The strap pins as they stand now, which is free (log entry 3): SYS_STRAP shows them live (R56). -/
def State.liveStraps (s : State) : State :=
  let f := s.freeWord
  f.2.setFld ⟨Reg.SYS_STRAP, 8, 5⟩ f.1.toNat

/-- Takes one sample of every armed capture that is due and not complete. -/
def State.scopeSample (s : State) : State :=
  let s := when (s.hif.scopes.any fun c => s.scopeDue c && c.regs.contains (BitVec.ofNat 32 Reg.SYS_STRAP)) (·.liveStraps) s
  let scopes := s.hif.scopes.map fun c =>
    if s.scopeDue c then { c with got := (c.regs.map fun a => s.readReg a.toNat).reverse ++ c.got } else c
  { s with hif := { s.hif with scopes := scopes } }

/-- Writes the samples of a capture, oldest first, at the places the implementation gives them; `k` counts the words. -/
def State.scopeWrite (c : Scope) : List Word → Nat → State → State
  | [], _, s => s
  | w :: r, k, s =>
    let n := c.regs.length
    let slot := Config.scopeSlot n c.samples.toNat (k % n) (k / n)
    State.scopeWrite c r (k + 1) (s.bufWrite c.h c.buffer slot w)

/-- Whether a capture has taken all its samples. -/
def Scope.whole (c : Scope) : Bool := decide (c.samples.toNat * c.regs.length ≤ c.got.length)

/-- SCOPE_CAPTURE_DONE (R527, R528, R533): the oldest complete capture ends with the samples written, or with DMA_ERROR where its buffer
fails. -/
def execScopeCaptureDone (dmaOk : Bool) (s : State) : Res :=
  match s.hif.scopes.find? Scope.whole with
  | none => .next s
  | some c =>
    let s' : State := { s with hif := { s.hif with scopes := s.hif.scopes.erase c } }
    if !s.awake then .next s
    else if !dmaOk then .next (s'.complete c.h 0x0C St.DMA_ERROR)
    else
      let s := s'
      let s := State.scopeWrite c c.got.reverse 0 s
      .next (s.complete c.h 0x0C St.SUCCESS 0 [BitVec.ofNat 32 (c.got.length / c.regs.length)])

/-! ## The journal (R606, R608) -/

/-- The FLAGS byte of an entry (R606). -/
def JEntry.flags (e : JEntry) : Byte :=
  BitVec.ofNat 8 ((if e.hw then 1 else 0) + (if e.rtcValid then 2 else 0) + 4 * Mode.code e.mode)

/-- Bytes 0 to 27 of an entry (R606). -/
def JEntry.body (seq : Word) (e : JEntry) : List Byte :=
  wordBytes seq ++ [e.code.extractLsb' 0 8, e.code.extractLsb' 8 8, e.unit, e.flags]
    ++ wordBytes (e.wtime.extractLsb' 0 32) ++ wordBytes (e.wtime.extractLsb' 32 32) ++ wordBytes e.rtc ++ wordBytes e.d0 ++ wordBytes e.d1

/-- The eight words of an entry with its CHECK (R606). -/
def JEntry.words (seq : Word) (e : JEntry) : List Word :=
  let b := JEntry.body seq e
  bytesWord (b ++ wordBytes (crc32c b))

/-- The entry at an index of the ring (R606). -/
def State.journalAt (s : State) (k : Nat) : Option (Word × JEntry) :=
  s.jr.entries.find? fun e => e.1.toNat % journalSize == k

/-- Copies one index to a buffer; what an index reads as that nothing has written is not stated: free words. -/
def State.logCopy (h : Desc) (buffer : BitVec 64) (first i : Nat) (s : State) : State :=
  match s.journalAt ((first + i) % journalSize) with
  | some e => s.bufWords h buffer (8 * i) (e.2.words e.1)
  | none =>
    forAll (List.range 8) (fun k t => let f := t.freeWord; f.2.bufWrite h buffer (8 * i + k) f.1) s

/-- LOG_READ (R528, R607, R608). -/
def execLogRead (h : Desc) (buffer : BitVec 64) (first count : BitVec 16) (dmaOk : Bool) (s : State) : Res :=
  s.dispatch h 0x0D fun s =>
    if s.flag Fld.SVC_JSTAT_DISABLED then s.complete h 0x0D St.UNIT_FAILED
    else if journalSize ≤ first.toNat || count.toNat = 0 || journalSize < count.toNat then s.complete h 0x0D St.BAD_FIELD
    else if !dmaOk then s.complete h 0x0D St.DMA_ERROR
    else
      let s := forAll (List.range count.toNat) (fun i t => t.logCopy h buffer first.toNat i) s
      s.complete h 0x0D St.SUCCESS 0 [count.setWidth 32, BitVec.ofNat 32 s.journalIndex]

/-! ## The STO path test (R435) -/

/-- The result of the test on request: none where it is refused. -/
def State.stoTestStatus (s : State) : Option Nat :=
  if (s.mode != .ready && s.mode != .service) || !s.allStopped then some St.MODE_DENIED
  else if s.flag (Fld.LCK_STATUS_FAILED 3) then some St.UNIT_FAILED
  else if !s.stoBothHigh then some St.STO_DEMANDED
  else none

/-- The test of both parts, with every input high: it passes, with the deferred parts it covers, or latches STO_PATH. -/
def State.stoTestRun (s : State) (gateFail : Option (Fin 28)) (inputFail : Option StoInput) : Bool × State :=
  match gateFail, inputFail with
  | some n, _ => (false, s.stoPath n.val)
  | none, some i => (false, s.stoPath (stoUnit i))
  | none, none => (true, { s with sys := { s.sys with stoInputsDeferred := false, stoSetDeferred := 0 } }.stoTestPassed)

/-- STO_TEST (R435). -/
def execStoTest (h : Desc) (gateFail : Option (Fin 28)) (inputFail : Option StoInput) (s : State) : Res :=
  s.dispatch h 0x1A fun s =>
    match s.stoTestStatus with
    | some st => s.complete h 0x1A st
    | none =>
      let r := s.stoTestRun gateFail inputFail
      (r.2.complete h 0x1A (if r.1 then St.SUCCESS else St.STO_FAIL)).settle

/-! ## Firmware images (R535) -/

/-- Whether the image opcodes are refused in this mode (R535; HOLD by R530). -/
def State.imageDenied (s : State) : Bool := s.mode == .hold || s.mode == .dusk || s.mode == .service

/-- The image that is not running (R103, R535). -/
def State.otherImage (s : State) : Bool := !s.flag Fld.SYS_BOOT_BOOTED

/-- IMAGE_WRITE (R528, R535): blocks of 4 KB of the other image; `underRefresh` tells that one of them is being refreshed (R74). It completes
with FLASH_OPERATION_COMPLETE. -/
def execImageWrite (h : Desc) (_source : BitVec 64) (offset length : Word) (underRefresh dmaOk verified : Bool) (s : State) : Res :=
  s.dispatch h 0x1B fun s =>
    if s.imageDenied then s.complete h 0x1B St.MODE_DENIED
    else if length.toNat = 0 || 0x1_0000 < length.toNat || length.toNat % 4096 ≠ 0 || offset.toNat % 4096 ≠ 0 then
      s.complete h 0x1B St.BAD_FIELD
    else if underRefresh && s.sys.flashBusy == some (.refresh (.image s.otherImage)) then s.complete h 0x1B St.BUSY
    else if !dmaOk then s.complete h 0x1B St.DMA_ERROR
    else
      let b := imageIx s.otherImage
      let s : State :=
        { s with
          sys := { s.sys with flashBusy := some (s.sys.flashBusy.getD .imageBlock) }
          images := s.images.set b { s.images[b] with partly := true } }
      s.addFlight h 0x1B (if verified then 1 else 0)

/-- IMAGE_COMMIT (R90, R103, R528, R535): the other image is checked; SUB bit 0 makes it the preferred one. -/
def execImageCommit (h : Desc) (sigOk headerOk fits : Bool) (svn : BitVec 16) (s : State) : Res :=
  s.dispatch h 0x1C fun s =>
    if s.imageDenied then s.complete h 0x1C St.MODE_DENIED
    else
      let b := s.otherImage
      if s.imageOk b sigOk headerOk fits svn then
        let s := s.setFlag (imageFail b) false
        let s : State := { s with images := s.images.set (imageIx b) { s.images[imageIx b] with svn := svn } }
        let s := when (h.sub.getLsbD 0)
          (fun t => { t with sys := { t.sys with preferFlash := b } }.setFlag Fld.SYS_BOOT_PREFER b) s
        s.complete h 0x1C St.SUCCESS
      else (s.setFlag (imageFail b) true).complete h 0x1C St.IMAGE_FAIL

/-! ## The end of a flash operation (R494) -/

/-- Completes commands that waited for flash: with SUCCESS, or with a status the spec does not state. -/
def State.flashEnds (s : State) (op : Nat) (pick : Nat → Bool) (ok : Bool) : State :=
  let mine := s.flights op pick
  forAll mine
    (fun c t =>
      if ok then t.complete c.h op St.SUCCESS
      else let f := t.freeNat; f.2.complete c.h op (1 + f.1 % 255)) (s.dropFlights op pick)

/-- Whether a flash operation is in progress. -/
def State.flashRuns (s : State) (op : FlashOp) : Bool :=
  s.sys.flashBusy == some op ||
    (match op with
     | .imageBlock => !(s.flights 0x1B fun _ => true).isEmpty
     | .profileStore n => !(s.flights 0x07 fun k => k == n.val).isEmpty
     | .deviceRecord => s.sys.record != s.recordPart
     | .refresh _ => false)

/-- The effect of a flash operation that ends. -/
def State.flashEffect (s : State) (op : FlashOp) (ok : Bool) : State :=
  match op with
  | .imageBlock =>
    let good := ok && (s.flights 0x1B fun _ => true).all fun c => c.inst == 1
    let b := imageIx s.otherImage
    let s : State := if good then { s with images := s.images.set b { s.images[b] with partly := false } } else s
    s.flashEnds 0x1B (fun _ => true) good
  | .profileStore n =>
    let s : State := if ok then { s with slots := s.slots.set n s.workProfile } else s
    s.flashEnds 0x07 (fun k => k == n.val) ok
  | .deviceRecord => if ok then { s with sys := { s.sys with record := s.recordPart } } else s
  | .refresh u =>
    if ok then { s with sys := { s.sys with refreshAt := s.sys.refreshAt.set (refreshIx u) (s.reg Reg.PMU_RTC) } } else s

/-- FLASH_OPERATION_COMPLETE (R74, R494, R535, R641): source 11 is raised; an operation that is not in progress does not
end. A refresh that fails leaves the old block valid (R74). Where units are still due, the refresh of the next one starts. -/
def execFlashOperationComplete (op : FlashOp) (ok : Bool) (s : State) : Res :=
  if !s.awake || !s.flashRuns op then .next s
  else
    let s := s.flashEffect op ok
    let s : State := if s.sys.flashBusy == some op then { s with sys := { s.sys with flashBusy := none } } else s
    .next (s.irq 11).nextRefresh

/-! ## The host watchdog, configuration requests, the RTC -/

/-- HOST_LOST (R7, R534): no doorbell of the host has arrived for longer than the watchdog P10.030, since the last one or the reset. -/
def execHostLost (s : State) : Res :=
  let wd := s.parNat 10 30 0
  if s.awake && wd != 0 && s.overdue .hostLost ((wd * 1_000_000 : Nat) : Rat) then .next s.hostLost else .next s

/-- Whether the endpoint answers configuration requests: it is not held in reset (R39, R514). -/
def State.endpointUp (s : State) : Bool :=
  s.awake && !s.hif.perstLow && !(s.dawnFailed && s.fld Fld.SYS_DAWN_CAUSE == 0x14)

/-- A word of the configuration space (R512). PRESUMED (log entry 21): the identifiers stand at the offsets PCI Express gives them,
vendor and device at 0x000, revision and class code at 0x008; of the other words the spec states no value, which is free. -/
def State.configWord (s : State) (offset : BitVec 12) : Word × State :=
  if offset.toNat / 4 = 0 then (0xE120_1E7C, s)
  else if offset.toNat / 4 = 2 then (0x1180_0000 ||| BitVec.ofNat 32 (s.fld Fld.SYS_ID_MODREV), s)
  else s.freeWord

/-- CONFIG_REQUEST (R512, R514): Configuration Request Retry Status until Dawn reaches READY or stops, the word after that; an
endpoint in reset answers nothing. -/
def execConfigRequest (offset : BitVec 12) (s : State) : Res :=
  if !s.endpointUp then .next s
  else if s.mode == .dawn && !s.dawnFailed then .next { s with hif := { s.hif with cfgReply := some .retry } }
  else
    let r := s.configWord offset
    .next { r.2 with hif := { r.2.hif with cfgReply := some (.word r.1) } }

/-- RTC_WRITE (R629, R637): the count written takes effect at the next tick of 32.768 kHz (State.rtcTick). -/
def execRtcWrite (w : Writer) (sec : Word) (s : State) : Res :=
  s.access w Reg.PMU_RTC sec fun s => { s with sys := { s.sys with rtcSet := some sec } }

/-- Whether a nanosecond of the RTC's second ends with a tick of 32.768 kHz (R637). -/
def rtcTickAt (ns : Nat) : Bool := (ns + 1) * 32768 / 1_000_000_000 != ns * 32768 / 1_000_000_000

/-- A written count takes effect (R83, R637): its second restarts, an advance of the count at this tick is lost, and RTC_VALID is set, on
which the refresh check of Dawn that waited is made. -/
def State.rtcTick (s : State) (sec : Word) : State :=
  let s : State := { s with sys := { s.sys with rtcNs := 0, rtcSet := none } }
  when (s.awake && s.sys.refreshDue) (·.refreshCheck) ((s.setReg Reg.PMU_RTC sec).setFlag Fld.PMU_NIGHT_RTC_VALID true)

/-- One nanosecond of the RTC (R637). -/
def State.rtcCount (s : State) : State :=
  match s.sys.rtcSet, rtcTickAt s.sys.rtcNs with
  | some v, true => s.rtcTick v
  | _, _ =>
    if s.sys.rtcNs + 1 < 1_000_000_000 then { s with sys := { s.sys with rtcNs := s.sys.rtcNs + 1 } }
    else { s with sys := { s.sys with rtcNs := 0 } }.setReg Reg.PMU_RTC (s.reg Reg.PMU_RTC + 1)

end Sys2Proof.Machine
end

