-- ==== Sys2Proof/Machine/Rings.lean ====
section
/-! DEFINITION. The rings of the host (R516 to R526, R530, R533): doorbells, chains, enabling, completions that wait for
room, errors, and the re-initialisation of a ring. -/

namespace Sys2Proof.Machine

/-- Keeps the chain of SQ_n and shows whether one is open (R539). -/
def State.setChain (s : State) (n : Fin 16) (c : Option OpenChain) : State :=
  (s.modSq n fun q => { q with chain := c }).setFlag (Fld.HIF_SQ_CFG_CHAIN n.val) c.isSome

/-- The event RING_ERROR (R521, R532, R533). The spec gives no codes for its cause: a free word (log entry 3). -/
def State.ringErrorEvent (s : State) (n : Fin 16) : State :=
  let f := s.freeWord
  f.2.event 0x09 [BitVec.ofNat 32 n.val, f.1]

/-- A doorbell of the host has arrived: HOST_LOST clears and the watchdog starts again (R534). -/
def State.doorbell (s : State) : State := (s.setFlag Fld.HIF_STATUS_HOST_LOST false).startTimer .hostLost

/-- Whether doorbells reach the rings: not in reset, NIGHT or a failed DAWN (R514). -/
def State.doorbellsOpen (s : State) : Bool := s.awake && !s.dawnFailed

/-! ## Completion rings (R521 to R523, R532) -/

/-- Writes the oldest completion that waits, if there is room. -/
def State.cqDrain1 (s : State) (n : Fin 16) : State :=
  match s.hif.cq[n].backlog with
  | [] => s
  | e :: r =>
    if s.cqFull n || s.flag (Fld.HIF_CQ_CFG_ERR n.val) then s
    else (s.modCq n fun c => { c with backlog := r }).cqWrite n e

/-- Writes the completions that wait for room, oldest first; then the events lost meanwhile are told (R522, R532). -/
def State.cqDrain (s : State) (n : Fin 16) : State :=
  let s := (List.range s.hif.cq[n].backlog.length).foldl (fun t _ => t.cqDrain1 n) s
  let s := s.modCq n fun c => { c with stalled := !c.backlog.isEmpty }
  if s.hif.evtLost ≠ 0 && s.fld Fld.HIF_CFG_EVTCQ == n.val && !s.cqFull n && s.flag (Fld.HIF_CQ_CFG_ENABLE n.val) then
    let k := s.hif.evtLost
    { s with hif := { s.hif with evtLost := 0 } }.event 0x0A [BitVec.ofNat 32 k]
  else s

/-- CQ_HEAD (R521, R522): a head within the entries written frees their slots; any other is discarded with RING_ERROR. R540
gives a CQ no DBERR to count it in. -/
def execCqHead (n : Fin 16) (head : BitVec 12) (s : State) : Res :=
  if !s.doorbellsOpen then .next s
  else
    let s := s.doorbell
    let size := s.cqSize n.val
    let h := s.fld (Fld.HIF_CQ_PTR_HEAD n.val)
    let t := s.fld (Fld.HIF_CQ_PTR_TAIL n.val)
    let dist (p : Nat) : Nat := (p + size - h) % size
    if size ≤ head.toNat || dist t < dist head.toNat then .next (s.ringErrorEvent n)
    else
      let s := s.setFld (Fld.HIF_CQ_PTR_HEAD n.val) head.toNat
      let s := s.modCq n fun c => { c with entries := c.entries.drop (dist head.toNat) }
      .next ((s.setFlag (Fld.HIF_CQ_CFG_FULL n.val) (s.cqFull n.val)).cqDrain n)

/-- CQ_SIGNAL_TIMER (R523): ITIME after the first unsignalled entry. -/
def execCqSignalTimer (n : Fin 16) (s : State) : Res :=
  let c := s.hif.cq[n]
  if c.timer && decide (0 < c.unsignal ∧ c.firstAt + 1000 * s.fld (Fld.HIF_CQ_CFG_ITIME n.val) ≤ s.sys.poweredNs) then .next (s.cqSignal n) else .next s

/-! ## Submission rings and chains (R520, R521, R526) -/

/-- Whether an opcode may be chained, and over how many descriptors (R518, R527). -/
def chainOk (op len : Nat) : Bool :=
  decide (2 ≤ len ∧ len ≤ 16) && (op == 0x11 || (op == 0x10 && len == 2) || decide (0x40 ≤ op ∧ op ≤ 0x7F))

/-- Completes a descriptor that only its slot is known of. -/
def State.completeSlot (s : State) (n : Fin 16) (op : Byte) (cid : BitVec 16) (status : Nat) : State :=
  s.complete
    { sq := Fin.ofNat 17 n.val, cid := cid, index := 0, sub := 0, silent := false, quick := false, hard := false, absolute := false
      chained := true } op.toNat status

/-- A descriptor for CP_0 joins the firmware queue once its command is whole (R525). -/
def State.joinFw (s : State) (n : Fin 16) (d : Slot) : State :=
  when (byCp0 d.opcode.toNat) (fun s => s.putFwq (s.hif.fwq ++ [{ sq := n, opcode := d.opcode, cid := d.cid }])) s

/-- A fetched descriptor where no chain is open: it stands alone, opens a chain, or continues none (R526). -/
def State.fetchAlone (s : State) (n : Fin 16) (d : Slot) : State :=
  let s := s.modSq n fun q => { q with due := q.due + 1 }
  if !d.chain then s.joinFw n d
  else if d.chainSeq ≠ 0 then (s.completeSlot n d.opcode d.cid St.CHAIN_ORPHAN).incSat Fld.HIF_CNT_ORPHAN
  else if chainOk d.opcode.toNat d.chainLen.toNat then
    s.setChain n (some { opcode := d.opcode, cid := d.cid, len := d.chainLen.toNat, got := 1 })
  else s.completeSlot n d.opcode d.cid St.BAD_FIELD

/-- Whether a descriptor is the continuation an open chain waits for (R526). -/
def OpenChain.goesOn (c : OpenChain) (d : Slot) : Bool :=
  d.chain && d.opcode == c.opcode && d.cid == c.cid && d.chainSeq.toNat == c.got

/-- Whether visible slots hold the rest of an open chain. -/
def OpenChain.visible : OpenChain → List Slot → Bool
  | c, [] => c.got == c.len
  | c, d :: r => c.got == c.len || (c.goesOn d && OpenChain.visible { c with got := c.got + 1 } r)

/-- Fetches one descriptor (R520, R525, R526): it continues the open chain, or ends it with CHAIN_BROKEN and is then treated on its
own. A chain whose last descriptor has been fetched is complete; its command follows as a command of its own row. -/
def State.fetch (s : State) (n : Fin 16) (d : Slot) : State :=
  let s := s.setFld (Fld.HIF_SQ_PTR_HEAD n.val) ((s.fld (Fld.HIF_SQ_PTR_HEAD n.val) + 1) % s.sqSize n.val)
  match s.hif.sq[n].chain with
  | none => s.fetchAlone n d
  | some c =>
    if c.goesOn d then
      if c.got + 1 = c.len then (s.setChain n none).joinFw n d else s.setChain n (some { c with got := c.got + 1 })
    else ((s.completeSlot n c.opcode c.cid St.CHAIN_BROKEN).setChain n none).fetchAlone n d

/-! ### The ring processor's round (R525) -/

/-- Whether the next descriptor of SQ_n may be dispatched: its ring is enabled and neither it nor its CQ stopped by an error or a full
CQ (R517, R522, R533); one with FENCE when every earlier command of the ring has completed, but for the open chain it belongs to or
ends (R524); and, for CP_0, the firmware queue has room among its 64 entries (R525). -/
def State.canFetch (s : State) (n : Fin 16) (d : Slot) : Bool :=
  let c := ringIx (s.fld (Fld.HIF_SQ_CFG_CQ n.val))
  s.flag (Fld.HIF_SQ_CFG_ENABLE n.val) && !s.flag (Fld.HIF_SQ_CFG_ERR n.val) && !s.flag (Fld.HIF_CQ_CFG_ERR c) && !s.cqFull c &&
    (!d.fence || decide (s.hif.sq[n].due ≤ (if s.hif.sq[n].chain.isSome then 1 else 0))) &&
    !(byCp0 d.opcode.toNat && decide (64 ≤ s.hif.fwq.length))

/-- Whether SQ_n holds a descriptor that may be dispatched. -/
def State.mayFetch (s : State) (n : Fin 16) : Bool :=
  match s.hif.sq[n].waiting with
  | [] => false
  | d :: _ => s.canFetch n d

/-- A burst of up to k descriptors of one ring. -/
def State.burst (n : Fin 16) : Nat → State → State
  | 0, s => s
  | k + 1, s =>
    match s.hif.sq[n].waiting with
    | [] => s
    | d :: r => if s.canFetch n d then State.burst n k ((s.modSq n fun q => { q with waiting := r }).fetch n d) else s

/-- A ring that holds descriptors while its CQ is full stops dispatching; each stop counts once (R522). -/
def State.countStall (s : State) (n : Fin 16) : State :=
  let c := ringIx (s.fld (Fld.HIF_SQ_CFG_CQ n.val))
  when (!s.hif.sq[n].waiting.isEmpty && s.cqFull c && !s.hif.cq[c].stalled)
    (fun s => (s.incSat (Fld.HIF_CQ_STAT_STALL c)).modCq c fun q => { q with stalled := true }) s

/-- The ring processor serves the next ring that can be served, in round-robin order, with a burst of up to 8 (R525). DESIGN CHOICE
(log entry 60): a burst has a greatest and no least duration; here one is served at a doorbell and one in each nanosecond after it. -/
def State.serve (s : State) : State :=
  if s.hif.sq.toList.all fun q => q.waiting.isEmpty then s
  else
    let s := forAll (List.finRange 16) (fun n t => t.countStall n) s
    match (List.range 16).map (fun k => Fin.ofNat 16 (s.hif.turn.val + k)) |>.find? s.mayFetch with
    | none => s
    | some n =>
      let s := State.burst n 8 s
      { s with hif := { s.hif with turn := Fin.ofNat 16 (n.val + 1) } }

/-- SQ_TAIL (R517, R520, R521, R525): the slots up to the new tail become visible to the ring processor, if the ring is enabled, and the time of a chain that one of them opens starts. A tail
beyond the ring, or one that falls back behind the present tail, is discarded. -/
def execSqTail (n : Fin 16) (tail : BitVec 12) (slots : List Slot) (s : State) : Res :=
  if !s.doorbellsOpen then .next s
  else
    let s := s.doorbell
    let size := s.sqSize n.val
    let h := s.fld (Fld.HIF_SQ_PTR_HEAD n.val)
    let t := s.fld (Fld.HIF_SQ_PTR_TAIL n.val)
    let dist (p : Nat) : Nat := (p + size - h) % size
    if size ≤ tail.toNat || dist tail.toNat < dist t then .next ((s.incSat (Fld.HIF_SQ_STAT_DBERR n.val)).ringErrorEvent n)
    else if tail.toNat = t then .next s
    else
      let s := s.setFld (Fld.HIF_SQ_PTR_TAIL n.val) tail.toNat
      let new := slots.take (dist tail.toNat - dist t)
      if s.flag (Fld.HIF_SQ_CFG_ENABLE n.val) then
        let s := when (new.any fun d => d.chain && d.chainSeq == 0) (·.startTimer (.chain n)) s
        .next (s.modSq n fun q => { q with waiting := q.waiting ++ new }).serve
      else .next s

/-- CHAIN_TIMEOUT (R7, R526): CHAIN_TMO has run out since the doorbell that made the first descriptor of the open chain visible; the chain completes CHAIN_TIMEOUT and what has been received of it is discarded. A chain whose last
descriptor a doorbell has made visible runs out no more. -/
def execChainTimeout (n : Fin 16) (s : State) : Res :=
  match s.hif.sq[n].chain with
  | none => .next s
  | some c =>
    if c.visible s.hif.sq[n].waiting || !s.overdue (.chain n) ((s.parNat 10 32 0 * 1000 : Nat) : Rat) then .next s
    else .next (((s.completeSlot n c.opcode c.cid St.CHAIN_TIMEOUT).incSat (Fld.HIF_SQ_STAT_CHAINTO n.val)).setChain n none)

/-! ## Enabling, errors, re-initialisation (R517, R530, R533) -/

/-- A submission ring starts empty: no chain is open, nothing waits and ERR is clear. What it has dispatched still completes (R517). -/
def State.startSq (s : State) (n : Fin 16) : State :=
  let s := s.modSq n fun q => { q with waiting := [] }
  ((s.setReg (Reg.HIF_SQ_PTR n.val) 0).setFlag (Fld.HIF_SQ_CFG_ERR n.val) false).setChain n none

/-- The completions held back by an error of SQ_n reach its CQ (R533). -/
def State.releaseHeld (s : State) (n : Fin 16) : State :=
  let l := s.hif.sq[n].held
  let s := s.modSq n fun q => { q with held := [] }
  forAll l (fun e t => t.cqPush (ringIx (t.fld (Fld.HIF_SQ_CFG_CQ n.val))) e) s

/-- A completion ring starts empty with phase 1. -/
def State.startCq (s : State) (n : Fin 16) : State :=
  let s := (s.setReg (Reg.HIF_CQ_PTR n.val) 0).setFlag (Fld.HIF_CQ_PTR_PHASE n.val) true
  let s := (s.setFlag (Fld.HIF_CQ_CFG_ERR n.val) false).setFlag (Fld.HIF_CQ_CFG_FULL n.val) false
  s.modCq n fun c => { c with entries := [], unsignal := 0, timer := false, stalled := false }

/-- The address of the CFG register of a ring. -/
def ringCfg : Ring → Nat
  | .sq n => Reg.HIF_SQ_CFG n.val
  | .cq n => Reg.HIF_CQ_CFG n.val

/-- A write of ENABLE. -/
def State.ringWrite (s : State) (w : Writer) (r : Ring) (value : Word) (f : State → State) : Res :=
  s.access w (ringCfg r) value f

/-- RING_ENABLE (R517, R532, R533): ENABLE = 1 sets the pointers to 0 and the phase to 1 and ends a stop by an error; what that held back
is completed, and events lost for want of space are told. -/
def execRingEnable (w : Writer) (r : Ring) (s : State) : Res :=
  s.ringWrite w r 0x8000_0000 fun s =>
    match r with
    | .sq n => ((s.setFlag (Fld.HIF_SQ_CFG_ENABLE n.val) true).startSq n).releaseHeld n
    | .cq n => ((s.setFlag (Fld.HIF_CQ_CFG_ENABLE n.val) true).startCq n).cqDrain n

/-- RING_DISABLE (R517): fetching stops; completions that wait at a CQ are addressed to a disabled CQ from now on. -/
def execRingDisable (w : Writer) (r : Ring) (s : State) : Res :=
  s.ringWrite w r 0 fun s =>
    match r with
    | .sq n => s.setFlag (Fld.HIF_SQ_CFG_ENABLE n.val) false
    | .cq n =>
      let k := s.hif.cq[n].backlog.length
      let s := (s.setFlag (Fld.HIF_CQ_CFG_ENABLE n.val) false).modCq n fun c => { c with backlog := [] }
      s.setFld (Fld.HIF_CQ_STAT_DROP n.val) (min (s.fld (Fld.HIF_CQ_STAT_DROP n.val) + k) 0xFFFF)

/-- RING_ERROR (R533): a fetch or a completion write has failed; ERR stops the ring. -/
def execRingError (r : Ring) (s : State) : Res :=
  match r with
  | .sq n =>
    if s.flag (Fld.HIF_SQ_CFG_ENABLE n.val) then .next ((s.setFlag (Fld.HIF_SQ_CFG_ERR n.val) true).ringErrorEvent n) else .next s
  | .cq n =>
    if s.flag (Fld.HIF_CQ_CFG_ENABLE n.val) then .next ((s.setFlag (Fld.HIF_CQ_CFG_ERR n.val) true).ringErrorEvent n) else .next s

/-- FUNC_REINIT of SQ_n (R530): what it has dispatched and not completed completes ABORTED, what it has not fetched is
discarded, and the ring starts again with its set-up. -/
def State.reinitSq (s : State) (n : Fin 16) : State :=
  let s := s.finish (fun c => c.h.sq.val == n.val) St.ABORTED 0
  let mine := s.hif.scopes.filter fun c => c.h.sq.val == n.val
  let s : State := { s with hif := { s.hif with scopes := s.hif.scopes.filter fun c => c.h.sq.val != n.val } }
  let s := forAll mine (fun c t => t.complete c.h 0x0C St.ABORTED) s
  let s := s.modSq n fun q =>
    { q with due := 0, held := q.held.map fun e => { e with status := BitVec.ofNat 8 St.ABORTED, detail := 0, data := [] } }
  (s.startSq n).releaseHeld n

/-- FUNC_REINIT of CQ_n (R530): the ring starts again with its set-up; completions that waited for room are then written,
since none is lost (R522). -/
def State.reinitCq (s : State) (n : Fin 16) : State := (s.startCq n).cqDrain n

end Sys2Proof.Machine
end

