-- ==== Sys2Proof/Machine/RegWrite.lean ====
section
/-! DEFINITION. Register accesses: what a register reads as (R8, R22, R627), who may write it (R10, R506, R629), and what a
write does (R8, R513, R517, R586, R627, R628). -/

namespace Sys2Proof.Machine

/-! ## The access codes (R8, R11) -/

/-- The word a register holds after a write: RW and RWL bits take the value, a 1 clears a W1C bit, but for the bits `hw` that
a hardware event sets in the same clock: the hardware wins (R8, R9). -/
def RegRow.stored (r : RegRow) (old value hw : Word) : Word :=
  let m := r.rw ||| r.rwl
  ((old &&& ~~~m) ||| (value &&& m)) &&& ~~~(value &&& r.w1c &&& ~~~hw)

/-- The bits of a register that are there at its address: SUPPLY of GDC_n_CFG only on the high sides GC_0 to GC_22 (R107,
R132). -/
def RegRow.there (r : RegRow) (a : Nat) : Word :=
  let n := (a - 0x4010_0000) / 0x400
  if r.base == Reg.GDC_CFG 0 && (24 ≤ n || n % 2 == 1) then 0xFFFF_BFFF else 0xFFFF_FFFF

/-- Whether the conditions of an RWL register hold (R8): the axis that owns its set is STOPPED, or the axes that own its
feedback port, or those of the port a pass-through output follows (State.ptFree). -/
def State.rwlFree (s : State) (a : Nat) : Bool :=
  if a < 0x4012_0000 then s.setFree (chanSet ((a - 0x4010_0000) / 0x400))
  else if a < 0x4040_0000 then s.setFree (Fin.ofNat 4 ((a % 0x1_0000) / 0x100))
  else if a < 0x4040_0800 then s.portFree ((a - 0x4040_0000) / 0x100)
  else s.ptFree ((a - 0x4040_0800) / 0x20)

/-- The pair whose registers hold an address. -/
def lckPair (a : Nat) : Option (Fin 4) := blockIx a 0x4003_0000 0x40 4

/-- Whether R10, R506 or R629 refuse a write to a register. -/
def State.writeRefused (s : State) (w : Writer) (a : Nat) : Bool :=
  s.barred w
    || (decide (0x4050_0000 ≤ a ∧ a < 0x4060_0000) && w != .pair 3)
    || (lckPair a).any fun (n : Fin 4) =>
      (n == 3 && w != .pair 3)
        || ((a == Reg.LCK_IRQEN n || a == Reg.LCK_MTIMECMP_LO n || a == Reg.LCK_MTIMECMP_HI n) && w != .pair n)

/-! ## Registers that act -/

/-- One outcome after another. -/
def Res.andThen (r : Res) (f : State → Res) : Res :=
  match r with
  | .next s => f s
  | .fault e => .fault e
  | .refused e => .refused e

/-- Acts where a bit of a value is set. -/
def onBit (v : Word) (k : Nat) (f : State → Res) (s : State) : Res := if v.getLsbD k then f s else .next s

/-- A write to FBI_n_CTRL (R400). -/
def fbiCtrl (w : Writer) (n : Fin 4) (v : Word) (s : State) : Res :=
  let r := Res.andThen (onBit v 0 (execLoad w n) s) (onBit v 1 (execLoadZ w n))
  Res.andThen (Res.andThen r (onBit v 2 (execTurnZero w n))) (onBit v 3 (execCmpDisarm w n))

/-- A write to PRG_CH_c_CTRL: its commands wait together for the next sample, where HALT acts first (R421). -/
def prgCtrl (w : Writer) (c : Fin 8) (v : Word) (s : State) : Res :=
  let r := Res.andThen (onBit v 0 (execHalt w c) s) (onBit v 2 (execDisengage w c))
  Res.andThen (Res.andThen r (onBit v 3 (execSetPos w c))) (onBit v 1 (execEngage w c))

/-- A write to LCK_CP_n_CMD (R450, R506, R509, R629); what the checks find is the hardware's, a free outcome. -/
def lckCmd (w : Writer) (n : Fin 4) (v : Word) (s : State) : Res :=
  let (silent, s) := s.freeBool
  let (copyOk, s) := s.freeBool
  if s.barred w || (n == 3 && w != .pair 3) then .next (s.regLocked w (Reg.LCK_CMD n) v)
  else Res.andThen (onBit v 1 (execStarted n w copyOk) s) (onBit v 0 (execCheck n w silent))

/-- A doorbell (R520 to R522, R541). Only one from the host ends HOST_LOST (R534); local firmware of CP_2 is the host in
local host mode (R517). The slots that become visible come with the command SQ_TAIL. -/
def doorbellWrite (w : Writer) (a : Nat) (v : Word) (s : State) : Res :=
  let n : Fin 16 := Fin.ofNat 16 ((a - 0x4080_0000) / 0x1000)
  let lost := s.flag Fld.HIF_STATUS_HOST_LOST
  let isHost := w == .host || (w == .pair 2 && s.flag Fld.HIF_CFG_LOCAL)
  let r := if a % 0x1000 = 0 then execSqTail n (v.setWidth 12) [] s else execCqHead n (v.setWidth 12) s
  let wd := s.timers.filter fun e => e.1 == Timer.hostLost
  Res.andThen r fun t =>
    let u : State := { t with timers := wd ++ t.timers.filter fun e => e.1 != Timer.hostLost }
    .next (if isHost then t else u.setFlag Fld.HIF_STATUS_HOST_LOST lost)

/-- Whether a ring is enabled. -/
def State.ringOn (s : State) (r : Ring) : Bool := (s.reg (ringCfg r)).getLsbD 31

/-- A write to the CFG register of a ring (R517, R539, R540): SIZE, PLACE and CQ only while ENABLE is 0; then ENABLE acts. -/
def ringCfgWrite (w : Writer) (row : RegRow) (r : Ring) (v : Word) (s : State) : Res :=
  s.access w (ringCfg r) v (fun s =>
    let fixed : Word := match r with
      | .sq _ => 0x400F_000F
      | .cq _ => 0x4000_000F
    let keep : Word := if s.ringOn r then row.rw &&& ~~~fixed else row.rw
    let keep := keep &&& 0x7FFF_FFFF
    s.setReg (ringCfg r) ((s.reg (ringCfg r) &&& ~~~keep) ||| (v &&& keep)))
    |>.andThen fun s =>
      if !s.awake || s.barred w then .next s
      else if v.getLsbD 31 then execRingEnable w r s
      else if s.ringOn r then execRingDisable w r s
      else .next s

/-- The ring whose registers hold an address of HIF. -/
def ringAt (a : Nat) : Option Ring :=
  if 0x4060_0100 ≤ a ∧ a < 0x4060_0300 then some (.sq (Fin.ofNat 16 ((a - 0x4060_0100) / 0x20)))
  else if 0x4060_0300 ≤ a ∧ a < 0x4060_0500 then some (.cq (Fin.ofNat 16 ((a - 0x4060_0300) / 0x20)))
  else none

/-- The registers whose write is a command of its own. -/
def actOn (w : Writer) (row : RegRow) (a : Nat) (v : Word) (s : State) : Option Res :=
  let set : Fin 4 := Fin.ofNat 4 ((a % 0x1_0000) / 0x100)
  if row.base == Reg.SYS_RESET then some (execSysReset w v s)
  else if row.base == Reg.SYS_MODEREQ then
    some (if v.toNat % 8 = 1 then execModereqDusk w s else if v.toNat % 8 = 2 then execModereqServiceEnter w s
      else if v.toNat % 8 = 3 then execModereqServiceLeave w s else .next s)
  else if row.base == Reg.PMU_RTC then some (execRtcWrite w v s)
  else if row.base == Reg.LCK_CMD 0 then (lckPair a).map fun n => lckCmd w n v s
  else if row.base == Reg.GDC_TEST 0 then
    some (s.access w a v fun s => if v.getLsbD 0 then s.gateTestStart (Fin.ofNat 28 ((a - 0x4010_0000) / 0x400)) else s)
  else if row.base == Reg.PWM_PHASE 0 then some (execPhaseWrite w set (v.setWidth 8) s)
  else if row.base == Reg.MFE_SUPPLY then some (onBit v 0 (execMfeSupplyRestart w) s)
  else if row.base == Reg.LOOM_CMD 0 then some (onBit v 0 (execKat w (Fin.ofNat 4 ((a - 0x4020_0000) / 0x1_0000))) s)
  else if row.base == Reg.POS_CMD 0 then some (Res.andThen (onBit v 1 (execLearnAbort w set) s) (onBit v 0 (execLearn w set)))
  else if row.base == Reg.FBI_CTRL 0 then some (fbiCtrl w set v s)
  else if row.base == Reg.FBI_CMP 0 then some (execCmpWrite w set v s)
  else if row.base == Reg.PRG_CTRL 0 then some (prgCtrl w (Fin.ofNat 8 ((a - 0x4044_0000) / 0x100)) v s)
  else if row.base == Reg.DBL_SQ_TAIL 0 || row.base == Reg.DBL_CQ_HEAD 0 then
    some (if s.barred w then s.access w a v id else doorbellWrite w a v s)
  else if row.base == Reg.CAN_TXCTRL 0 then some (execAbort w (Fin.ofNat 4 ((a - 0x4078_0000) / 0x1000)) (v.setWidth 3) s)
  else if row.base == Reg.CAN_RXCTRL 0 then some (onBit v 0 (execPop w (Fin.ofNat 4 ((a - 0x4078_0000) / 0x1000))) s)
  else if row.base == Reg.HIF_SQ_CFG 0 || row.base == Reg.HIF_CQ_CFG 0 then (ringAt a).map fun r => ringCfgWrite w row r v s
  else none

/-! ## Registers that store -/

/-- Whether a register takes no write now, without a journal entry: BASE of an enabled ring (R517), set-up of a CAN controller
on the bus (R586, R589), and what reads its reset value with no active profile (R22). -/
def State.closed (s : State) (row : RegRow) (a : Nat) : Bool :=
  ([Reg.HIF_SQ_BASE_LO 0, Reg.HIF_SQ_BASE_HI 0, Reg.HIF_CQ_BASE_LO 0, Reg.HIF_CQ_BASE_HI 0].contains row.base)
      && (ringAt a).any (fun (r : Ring) => s.ringOn r)
    || ([Reg.CAN_CFG 0, Reg.CAN_NBT 0, Reg.CAN_DBT 0, Reg.CAN_FILT_ID 0 0, Reg.CAN_FILT_MASK 0 0].contains row.base)
      && s.flag (Fld.CAN_CFG_ENABLE (Fin.ofNat 4 ((a - 0x4078_0000) / 0x1000)))
    || row.base == Reg.FBI_CPT 0 && s.portType (Fin.ofNat 4 ((a - 0x4040_0000) / 0x100)) == 5
    || row.base == Reg.PRG_PRESET 0 && decide (a < Reg.PRG_PRESET 4)
    || s.hidden a

/-- What follows a store (R103, R493, R511, R572, R586): live flags that depend on the register follow it (R136, R226). -/
def State.afterStore (s : State) (row : RegRow) (a : Nat) : State :=
  if row.base == Reg.SYS_BOOT then { s with sys := { s.sys with preferFlash := s.flag Fld.SYS_BOOT_PREFER } }
  else if row.base == Reg.LCK_MTIMECMP_LO 0 || row.base == Reg.LCK_MTIMECMP_HI 0 then
    match lckPair a with
    | some n => s.modCp n fun c => { c with timerIrq := decide (s.mtimecmp n ≤ s.now) }
    | none => s
  else if row.base == Reg.MSIX_CTRL 0 then
    let vec := (a - 0x4060_F000) / 16
    if s.fld ⟨Reg.MSIX_CTRL vec, 0, 1⟩ = 0 && s.fld ⟨Reg.MSIX_PBA, vec, 1⟩ = 1 then (s.setFld ⟨Reg.MSIX_PBA, vec, 1⟩ 0).msix vec
    else s
  else if row.base == Reg.GDC_SENSE 0 then
    let n : Fin 28 := Fin.ofNat 28 ((a - 0x4010_0000) / 0x400)
    s.senseAgain n
  else if row.base == Reg.PWM_CFG 0 then s.stepOffset (Fin.ofNat 4 ((a % 0x1_0000) / 0x100))
  else if row.base == Reg.MFE_CFG 0 || row.base == Reg.MFE_SHUNT 0 then s.mfeLive (Fin.ofNat 4 ((a % 0x1_0000) / 0x100))
  else if row.base == Reg.WFT_ROUTE_SEL then s.weftLive
  else if row.base == Reg.CAN_CFG 0 then s.canRestate (Fin.ofNat 4 ((a - 0x4078_0000) / 0x1000)) false
  else s

/-- Whether R10 or R629 discards a write to a register with a journal entry. -/
def State.writeLocked (s : State) (w : Writer) (row : RegRow) (a : Nat) : Bool :=
  s.writeRefused w a || (row.rwl != 0 && !s.rwlFree a)

/-- A register without behaviour of its own, where nothing locks it (R8). -/
def State.storeReg (s : State) (row : RegRow) (a : Nat) (v hw : Word) : State :=
  if s.closed row a then s else (s.setReg a (row.stored (s.reg a) v hw &&& row.there a)).afterStore row a

/-- A write to a word of the register region (R627): an unassigned address ignores it. What R10 or R629 refuses is journalled, on
a unit that failed at Dawn too (R628). -/
def State.writeReg (s : State) (w : Writer) (a : Nat) (v hw : Word) : Res :=
  match regRow a with
  | none => .next s
  | some row =>
    if s.writeLocked w row a then .next (s.regLocked w a v)
    else if s.deaf a then .next s
    else (actOn w row a v s).getD (.next (s.storeReg row a v hw))

/-- The low bytes of a word. -/
def lowBytes (v : Word) (n : Nat) : List Byte := (wordBytes v).take n

/-- REGISTER_WRITE (R8, R10, R22, R513, R626 to R630): a word of the register region; another size or alignment is discarded
and, from the host, counted in BADACC. System SRAM takes any size and alignment. `hw` are the bits of the register that hardware
events of the same clock set (R9); those events are commands of their own. -/
def execRegisterWrite (w : Writer) (addr value : Word) (size : Nat) (hw : Word) (s : State) : Res :=
  let a := addr.toNat
  if !s.awake then .next s
  else if 0x1000_0000 ≤ a && a < 0x1080_0000 && w != .console then .next (s.sramWrite (a - 0x1000_0000) (lowBytes value size))
  else if a < 0x4000_0000 || 0x4100_0000 ≤ a then .next s
  else if size ≠ 4 || a % 4 ≠ 0 then .next (if w == .host then s.incSat Fld.HIF_CNT_BADACC else s)
  else s.writeReg w a value hw

end Sys2Proof.Machine
end

