-- ==== Sys2Proof/Machine/Console.lean ====
section
/-! DEFINITION. The Norny console (R610 to R614): characters and lines, the commands of R612, the journal lines and the ATEST
selection. A completed line waits in the input buffer until its command, a row of its own, is executed. -/

namespace Sys2Proof.Machine

/-! ## Characters and lines (R610) -/

/-- Characters in the input buffer (R617). -/
def Console.level (c : Console) : Nat :=
  c.waiting.foldl (fun n l => n + (match l with | .text b => b.length | .bad _ k => k)) c.line.length

/-- Shows RXLEVEL. -/
def State.rxLevel (s : State) : State :=
  (s.setFld Fld.SVC_STATUS_RXLEVEL (min 256 s.con.level)).setIrq 2 (s.con.level != 0)

/-- The first word of a line. -/
def firstWord (l : List Byte) : List Nat := ((l.map (·.toNat)).dropWhile (· == 32)).takeWhile (· != 32)

/-- The hardware subset: status, rd, dawn (R612). -/
def hardWords : List (List Nat) := [[115, 116, 97, 116, 117, 115], [114, 100], [100, 97, 119, 110]]

/-- The first words of the commands: of R612 (wr, par, log, atest, service, dusk, reset), and of the field tests (gdc, psp,
chop, cross, pwm, mfe, loom, pos, spd, lsh, fbi, pt, prg, sfi, si, so, sc, lck, hif, wft, can, thm). -/
def softWords : List (List Nat) :=
  [[119, 114], [112, 97, 114], [108, 111, 103], [97, 116, 101, 115, 116], [115, 101, 114, 118, 105, 99, 101],
   [100, 117, 115, 107], [114, 101, 115, 101, 116], [103, 100, 99], [112, 115, 112], [99, 104, 111, 112],
   [99, 114, 111, 115, 115], [112, 119, 109], [109, 102, 101], [108, 111, 111, 109], [112, 111, 115], [115, 112, 100],
   [108, 115, 104], [102, 98, 105], [112, 116], [112, 114, 103], [115, 102, 105], [115, 105], [115, 111], [115, 99],
   [108, 99, 107], [104, 105, 102], [119, 102, 116], [99, 97, 110], [116, 104, 109]]

/-- Whether a line names a command that is served now (R612). -/
def State.knownLine (s : State) (l : List Byte) : Bool :=
  hardWords.contains (firstWord l) || (!s.flag Fld.SVC_STATUS_HWONLY && softWords.contains (firstWord l))

/-- Answers the lines at the front of the buffer that are not executed, while no command runs (R610, R612). -/
def State.conNext1 (s : State) : State :=
  if s.con.busy then s
  else
    match s.con.waiting with
    | .bad w _ :: r => ({ s with con := { s.con with waiting := r } }.replyErr w).rxLevel
    | .text l :: r => if s.knownLine l then s else ({ s with con := { s.con with waiting := r } }.replyErr "UNKNOWN").rxLevel
    | [] => s

/-- The same for every such line. -/
def State.conNext (s : State) : State := (List.range s.con.waiting.length).foldl (fun t _ => t.conNext1) s

/-- The end of a line: an empty one is ignored, one that overran or is too long is not executed (R610). -/
def State.endLine (s : State) : State :=
  let c := s.con
  let item : Option ConLine :=
    if c.overrun then some (.bad "OVERRUN" c.line.length)
    else if c.tooLong then some (.bad "LONG" c.line.length)
    else if c.line.isEmpty then none
    else some (.text c.line)
  let s : State :=
    { s with con := { c with line := [], overrun := false, tooLong := false, waiting := c.waiting ++ item.toList } }
  s.conNext

/-- The character 0x03 (R610, R616): it stops the running command, a gate test among them. The reply is ERR ABORT. -/
def State.conAbort (s : State) : State :=
  if s.con.test.isSome then ((s.endTest "ABORT").settle).conNext
  else
    let s : State := { s with con := { s.con with busy := false, gateTest := none, watch := none, wftWait := none } }
    let s := s.modWft fun w => { w with ping := none }
    let s := forAll four (fun x t => t.modLane x fun l => { l with katCon := false }) s
    let s := forAll four (fun x t => when t.mfe[x].ofsCon (·.dropZero x) t) s
    let s := forAll four
      (fun a t => t.modPos a fun p => { p with conLearn := false, meas := p.meas.filter fun m => !m.con }) s
    (s.replyErr "ABORT").conNext

/-- A character that belongs to a line. -/
def State.conText (s : State) (c : Byte) : State :=
  if c = 0x08 || c = 0x7F then { s with con := { s.con with line := s.con.line.dropLast } }
  else if 256 ≤ s.con.level then { s with con := { s.con with overrun := true } }
  else if 80 ≤ s.con.line.length then { s with con := { s.con with tooLong := true } }
  else { s with con := { s.con with line := s.con.line ++ [c] } }

/-- CONSOLE_CHAR (R610, R612): a character is echoed and acted on, and SERVICE_IDLE counts anew. -/
def execConsoleChar (c : Byte) (s : State) : Res :=
  if !s.awake then .next s
  else
    let s := (s.say (.echo c)).startTimer .idle
    let cr := s.con.lastCR
    let s : State := { s with con := { s.con with lastCR := c = 0x0D } }
    if c = 0x03 then .next s.conAbort
    else if c = 0x0A && cr then .next s
    else if c = 0x0D || c = 0x0A then .next s.endLine.rxLevel
    else .next (s.conText c).rxLevel

/-- CONSOLE_ABORT (R610). -/
def execConsoleAbort (s : State) : Res := if s.awake then .next (s.startTimer .idle).conAbort else .next s

/-! ## Executing a command -/

/-- Takes the line of the command that is executed out of the buffer. -/
def State.takeLine (s : State) : State :=
  match s.con.waiting with
  | .text _ :: r => { s with con := { s.con with waiting := r } }.rxLevel
  | _ => s

/-- Executes a console command: not while another one runs (R610); `hw` marks the hardware subset (R612). -/
def State.conRun (s : State) (hw : Bool) (f : State → State) : Res :=
  if !s.awake || s.con.busy then .next s
  else
    let s := s.takeLine
    .next (if s.flag Fld.SVC_STATUS_HWONLY && !hw then s.replyErr "UNKNOWN" else f s).conNext

/-- A command that only some modes permit (R612). -/
def State.inModes (s : State) (ms : List Mode) (f : State → State) : State := if ms.contains s.mode then f s else s.replyErr "MODE"

/-- A line of named registers, as the bus reads them. -/
def State.regLine (s : State) (l : List (String × Nat)) : Line := .data (l.map fun e => (e.1, ((s.readReg e.2).toNat : Int)))

/-- A command that shows registers. -/
def State.showRegs (s : State) (l : List (String × Nat)) : State := s.reply [s.regLine l]

/-- The header of a command of the console ring (R612). -/
def conDesc (index sub : Nat) : Desc :=
  { sq := 16, cid := 0, index := BitVec.ofNat 8 index, sub := BitVec.ofNat 8 sub, silent := false, quick := false, hard := false
    absolute := false, chained := false }

/-- The state an outcome goes on with. -/
def Res.stateOr (r : Res) (s : State) : State :=
  match r with
  | .next t => t
  | _ => s

/-- The code of a profile in the line status: 0 to 3, or 4 for none. -/
def State.profileCode (s : State) : Nat :=
  match s.sys.active with
  | some n => n.val
  | none => 4

/-- STATUS (R612); in a failed DAWN its line is DAWN FAIL (R97). -/
def execStatus (s : State) : Res :=
  s.conRun true fun s =>
    if s.dawnFailed then s.reply [s.failLine]
    else s.reply [.data [("MODE", s.fld Fld.SYS_MODE_MODE), ("prev", s.fld Fld.SYS_MODE_PREV), ("hold", s.fld Fld.SYS_MODE_HOLD_CAUSE),
      ("prof", s.profileCode), ("fault", if s.faultNLow then 1 else 0), ("dawn", (s.reg Reg.SYS_DAWN).toNat),
      ("t", (s.weft.toNat : Int))]]

/-- Reads one word as the bus does; MTIME_LO latches MTIME_HI (R509). -/
def State.busRead (s : State) (a : Nat) : Word × State :=
  if a = Reg.LCK_MTIME_LO then
    let t := (s.setReg Reg.LCK_MTIME_LO (s.weft.setWidth 32)).setReg Reg.LCK_MTIME_HI ((s.weft >>> 32).setWidth 32)
    (s.weft.setWidth 32, t)
  else (s.readReg a, s)

/-- Reads n words from an address on. -/
def State.busReads (s : State) : Nat → Nat → List Word × State
  | _, 0 => ([], s)
  | a, n + 1 =>
    let r := s.busRead a
    let q := State.busReads r.2 (a + 4) n
    (r.1 :: q.1, q.2)

/-- RD (R56, R612): 1 to 16 words of the register region. `pins` are the levels of PROF_0, PROF_1 and BOOT_SPLIT_0 to
BOOT_SPLIT_2 at the read, which SYS_STRAP shows live. -/
def execRd (addr : Word) (n : Nat) (pins : BitVec 5) (s : State) : Res :=
  s.conRun true fun s =>
    let s := s.setFld ⟨Reg.SYS_STRAP, 8, 5⟩ pins.toNat
    if n = 0 || 16 < n || !isRegisterAddr addr.toNat || 0x4100_0000 < addr.toNat + 4 * n then s.replyErr "RANGE"
    else
      let r := s.busReads addr.toNat n
      r.2.reply [.data (r.1.map fun w => ("", (w.toNat : Int)))]

/-- Whether R10 discards a console write (R612). -/
def State.conLocked (s : State) (a : Nat) : Bool :=
  (regRow a).any fun (row : RegRow) => s.writeLocked .console row a

/-- WR (R612, R629): a write under the access code of the register, and the entry CONSOLE_WRITE. `hw` are the bits of the register
that hardware events of the same clock set (R9). -/
def execWr (addr value hw : Word) (s : State) : Res :=
  s.conRun false fun s =>
    s.inModes [.ready, .service] fun s =>
      if !isRegisterAddr addr.toNat then s.replyErr "RANGE"
      else
        let locked := s.conLocked addr.toNat
        let s := Res.stateOr (s.writeReg .console addr.toNat value hw) s
        if locked then s.replyErr "LOCKED" else (s.journal 0x010B 0 addr value).reply []

/-- The parameter of a CONSOLE_WRITE entry: group, item and instance in one word, as a descriptor places them. -/
def ParamId.word (p : ParamId) : Word := p.inst ++ p.item ++ p.group

/-- PAR (R612): PARAM_READ or PARAM_WRITE of one entry over the console ring; an accepted write leaves CONSOLE_WRITE. -/
def execPar (p : ParamId) (value : Option Word) (s : State) : Res :=
  s.conRun false fun s =>
    match value with
    | none => Res.stateOr (execParamRead (conDesc 0 1) [p] s) s
    | some w =>
      if s.mode == .hold then s.replyErr "MODE"
      else
        let ok := (s.firstRefused s 0 [(p, w)]).isNone
        let s := Res.stateOr (execParamWrite (conDesc 0 1) [(p, w)] s) s
        when ok (·.journal 0x010B 0 (ParamId.word p) w) s

/-- LOG (R612, R613): the newest n entries, oldest first. -/
def execLog (n : Option Nat) (s : State) : Res :=
  s.conRun false fun s =>
    let n := n.getD 8
    if s.flag Fld.SVC_JSTAT_DISABLED then s.say (.status St.UNIT_FAILED)
    else if n = 0 || 64 < n then s.replyErr "RANGE"
    else s.reply ((s.jr.entries.take n).reverse.map fun e => .entry e.1 e.2)

/-- LOG_SEQ (R612, R613): n entries from a SEQ on. -/
def execLogSeq (seq : Word) (n : Option Nat) (s : State) : Res :=
  s.conRun false fun s =>
    let n := n.getD 8
    if s.flag Fld.SVC_JSTAT_DISABLED then s.say (.status St.UNIT_FAILED)
    else if n = 0 || 64 < n then s.replyErr "RANGE"
    else
      let l := s.jr.entries.filter fun e => decide ((e.1 - seq).toNat < n)
      s.reply (l.reverse.map fun e => .entry e.1 e.2)

/-! ## ATEST (R614, R615) -/

/-- Whether the islands of a set have started. -/
def State.islandsOf (s : State) (x : Fin 4) : Bool := s.sys.islandsUp.getLsbD x.val

/-- Whether a pwm run test runs on a set. -/
def State.pwmRuns (s : State) (x : Fin 4) : Bool :=
  s.con.begun &&
  (match s.con.test with
   | some (.pwmRun _ _ _, some y) => x == y
   | _ => false)

/-- Whether a quantity is within range for the state of the device: the Mode column of each field test. -/
def State.atestOk (s : State) (q : AtestQ) : Bool :=
  match q with
  | .gdcVp n => s.islandsOf (chanSet n)
  | .gdcVn n => s.islandsOf (chanSet n)
  | .gdcVoff n => s.islandsOf (chanSet n)
  | .gdcVonmin n => s.islandsOf (chanSet n)
  | .pspScth x => s.islandsOf x
  | .pspOv3 x => s.islandsOf x
  | .pspVdc x => s.islandsOf x
  | .mfeShunt x => s.islandsOf x
  | .mfeVdctv x => s.islandsOf x
  | .mfeNtc x => s.islandsOf x
  | .mfePs x k => (s.fld (Fld.MFE_CFG_FIT x)).testBit k.val
  | .pwmDuty x _ => s.pwmRuns x
  | .posTheta a => s.axisExists a && s.flag (Fld.POS_STATUS_VALID a)
  | .posSpeed a => s.axisExists a
  | .spdNref a => s.axisExists a
  | .spdNact a => s.axisExists a
  | .spdTref a => s.axisExists a
  | .lshShare a => s.axisExists a && s.isShared a
  | .fbiAmp n => s.fld (Fld.FBI_CFG_TYPE n) == 2 || s.fld (Fld.FBI_CFG_TYPE n) == 5
  | .fbiExc n => s.fld (Fld.FBI_CFG_TYPE n) == 5
  | .thm i => s.flag (Fld.THM_T_VALID i)
  | _ => true

/-- Selects a quantity or none (R614, R617); the supply of the test contacts is read with minimum hold (R488). -/
def State.select (s : State) (q : Option AtestQ) : State :=
  let s := { s with con := { s.con with atest := q } }.setFlag Fld.SVC_STATUS_ATEST_ON q.isSome
  s.setFld Fld.SVC_STATUS_HOLDM
    (match q with
     | some (.sfiSt _) => 2
     | _ => 0)

/-- ATEST (R614): a quantity out of range for the state is answered ERR MODE and leaves 0 V on the output. -/
def execAtest (q : AtestQ) (s : State) : Res :=
  s.conRun false fun s => if s.atestOk q then (s.select (some q)).reply [] else (s.select none).replyErr "MODE"

/-- ATEST_OFF (R614). -/
def execAtestOff (s : State) : Res := s.conRun false fun s => (s.select none).reply []

/-! ## Mode requests, Dawn, reset (R612) -/

/-- Answers a mode request by its result (R100): accepted, wrong mode, or refused for another reason. -/
def State.modeReply (s : State) : State :=
  let r := s.fld Fld.SYS_MODE_REQ_RES
  if r = 1 then s.reply [] else if r = 3 then s.say (.status St.NOT_STOPPED) else s.replyErr "MODE"

/-- SERVICE (R81, R612). -/
def execService (s : State) : Res := s.conRun false fun s => s.requestService.modeReply

/-- SERVICE_EXIT (R81, R612). -/
def execServiceExit (s : State) : Res := s.conRun false fun s => s.requestLeave.modeReply

/-- DUSK (R77, R98, R612); a request while Dusk runs is ignored (R99). -/
def execDusk (s : State) : Res :=
  s.conRun false fun s => if s.mode == .dusk then s.reply [] else (s.requestDusk true).modeReply

/-- DAWN_RETRY (R95, R612): a new Dawn from a failed DAWN, with start cause 0x07. -/
def execDawnRetry (s : State) : Res :=
  s.conRun true fun s => if s.dawnFailed then (s.reply []).resetNow 7 else s.replyErr "MODE"

/-- RESET (R612): rung 3 as DEVICE_RESET; without hard every axis has to be STOPPED. -/
def execReset (key : Word) (hard : Bool) (s : State) : Res :=
  s.conRun false fun s =>
    if key != 0xD5E7 then s.replyErr "RANGE"
    else if !hard && !s.allStopped then s.say (.status St.NOT_STOPPED)
    else (s.reply []).requestReset 3

end Sys2Proof.Machine
end

