-- ==== Sys2Proof/Machine/En.lean ====
section
/-! DEFINITION. The EN input (R37, R129, R164): its fall, and what its rising edge clears. Which faults may clear, and
when their cause counts as gone, is the rule of the chapter of each fault. -/

namespace Sys2Proof.Machine

/-- The level of EN as SYS_MODE and PSP_REQ show it. -/
def State.putEn (s : State) (b : Bool) : State := (s.setFlag Fld.PSP_REQ_EN b).setFlag Fld.SYS_MODE_EN b

/-- EN_FALL (R164, R306): every active axis goes to STOPPED and every set has a stop cause. A gate-switching test ends, since
it needs EN high (R616). -/
def execEnFall (s : State) : Res :=
  let s := s.putEn false
  if s.awake then .next ((forAll four (fun a t => t.axisDisable a) s).endTest "FAIL").settle else .next s

/-! ## Gate faults (R128) -/

/-- Clears the faults of a channel whose cause is gone: LINK_LOST once the barrier channel has been up for 64 frame times
(800 ns). -/
def State.clearGate (s : State) (n : Fin 28) : State :=
  let s := s.setFlag (Fld.GDC_FAULT_PLATEAU_LOW n) false
  let s := when s.gc[n].confOff (·.setFlag (Fld.GDC_FAULT_OFF_TIMEOUT n) false) s
  let up := s.gc[n].upSince.any fun (t : Nat) => decide (t + 800 ≤ s.sys.poweredNs)
  let s := when (s.flag (Fld.GDC_STATUS_LINK n) && up) (·.setFlag (Fld.GDC_FAULT_LINK_LOST n) false) s
  let s := when s.gc[n].testPassed (·.setFlag (Fld.GDC_FAULT_TEST_FAIL n) false) s
  let k := if n.val < 24 then n.val % 6 else 6
  s.setFld ⟨Reg.GDC_SET_FAULT (chanSet n.val), k, 1⟩ (if s.reg (Reg.GDC_FAULT n) = 0 then 0 else 1)

/-- Clears the gate faults of every channel and SHOOT_LATCH of every set. DESIGN CHOICE (log entry 59): RATE_PER and RATE_MS,
for which R140 names no clearing, keep telling the case of the last latch. -/
def State.clearGates (s : State) : State :=
  let s := forAll (List.finRange 28) (fun n t => t.clearGate n) s
  forAll four (fun x t => t.setFlag (Fld.GDC_SET_SHOOT_SHOOT_LATCH x) false) s

/-! ## Set faults (R172, R222) -/

/-- Whether every fitted input of every set of an axis is valid. -/
def State.axisInputsValid (s : State) (x : Fin 4) : Bool :=
  (x :: s.siblings x).all fun y => (s.mfe[y].inv &&& BitVec.ofNat 3 (s.fld (Fld.MFE_CFG_FIT y))) == 0

/-- Whether every cause of MEAS on a set is gone (R222). -/
def State.measGone (s : State) (x : Fin 4) : Bool :=
  let why := s.mfe[x].measWhy
  let valid := (s.mfe[x].inv &&& BitVec.ofNat 3 (s.fld (Fld.MFE_CFG_FIT x))) == 0
  (!why.getLsbD 0 || valid || s.fallbackOk x) && (!why.getLsbD 1 || !s.flag (Fld.MFE_FAULT_DC_DIVERGE x))
    && (!why.getLsbD 3 || s.axisInputsValid x)

/-- Whether both channels of an SSI have been up for 64 frame times, which is 800 ns (R172). -/
def State.ssiUp (s : State) (x : Fin 4) : Bool :=
  let p := s.psp[x]
  p.linkFlag && p.linkData && decide (max p.flagAt p.dataAt + 800 ≤ s.sys.poweredNs)

/-- The set faults whose cause is gone. `sc` and `oc` are the comparators that still show an excess at the edge: bit x the
shunt of SET_x beyond SC_TH, bit 3x + k the input of phase k beyond OC_TH. -/
def State.goneFaults (s : State) (x : Fin 4) (sc : BitVec 4) (oc : BitVec 12) : Word :=
  let v := s.psp[x].vdc
  let pick (k : Nat) (b : Bool) : List Nat := if b then [k] else []
  bits
    (pick SF.SC (!sc.getLsbD x.val) ++ pick 1 (!oc.getLsbD (3 * x.val)) ++ pick 2 (!oc.getLsbD (3 * x.val + 1))
      ++ pick 3 (!oc.getLsbD (3 * x.val + 2)) ++ pick SF.SC_IN_ASC (!sc.getLsbD x.val) ++ pick SF.OV2_REACT (decide (v < s.ov1Low x))
      ++ pick SF.OV3 (!s.flag (Fld.PSP_STATE_OV3_LVL x)) ++ pick SF.UV (decide (s.level (Fld.PSP_OV3UV_UV x) + 20 ≤ v))
      ++ pick SF.GATE (s.reg (Reg.GDC_SET_FAULT x) == 0 && !s.flag (Fld.GDC_SET_SHOOT_SHOOT_LATCH x))
      ++ pick SF.SSI_LINK (s.ssiUp x)
      ++ pick SF.LOOM (s.lane[x].passed && !s.flag (Fld.LOOM_FAULT_UNAVAIL x)) ++ pick SF.POS_CROSS (!s.cross x)
      ++ pick SF.MEAS (s.measGone x))

/-- Clears the own faults of a set; with MEAS its causes and GAP are gone too, and with OV2_REACT the SBC request of PSP
(R156). -/
def State.clearSet (s : State) (x : Fin 4) (sc : BitVec 4) (oc : BitVec 12) : State :=
  let old := s.setFaults x
  let s := s.setReg (Reg.PSP_FAULT x) (old &&& ~~~(s.goneFaults x sc oc))
  let ended := old.getLsbD SF.OV2_REACT && !s.flag (Fld.PSP_FAULT_OV2_REACT x)
  let s := when ended (fun t => t.modPsp x fun p => { p with sbcReq := t.flag (Fld.PSP_STATE_OV2_PEND x) }) s
  if s.flag (Fld.PSP_FAULT_MEAS x) then s
  else (s.modMfe x fun m => { m with measWhy := 0 }).setFlag (Fld.MFE_FAULT_GAP x) false

/-- Clears AXIS on a set once no other set of its axis, and no member of its group, has a fault (R161, R349). -/
def State.clearAxisBit (s : State) (x : Fin 4) : State :=
  let held := (s.siblings x).any fun y => s.setFaults y &&& ownFaults != 0
  let group := match s.ownerAxis x with
    | some a => s.isShared a && s.lsh[a].members.toList.any fun m => m.fault
    | none => false
  if held || group then s
  else
    let s := s.setFlag (Fld.PSP_FAULT_AXIS x) false
    match s.ownerAxis x with
    | some a =>
      { s with lsh := s.lsh.set a { s.lsh[a] with axisHeld := (s.axisSets a).any fun y => s.lsh[a].axisHeld && s.flag (Fld.PSP_FAULT_AXIS y) } }
    | none => s

/-- Clears the set faults; an axis whose last own fault has gone tells its group (R349). -/
def State.clearSets (s : State) (sc : BitVec 4) (oc : BitVec 12) : State :=
  let had := four.filter fun a => s.ownFault a
  let s := forAll four (fun x t => t.clearSet x sc oc) s
  let s := forAll four (fun x t => t.clearAxisBit x) s
  let s := forAll had (fun a t => if t.ownFault a then t else t.faultNotice a false) s
  s.setIrq 6 (four.any fun x => s.setFaults x != 0)

/-! ## Axis faults (R317, R321) -/

/-- Clears the faults of an axis whose cause is gone; with none left FAULTED and SAFE end (R306). -/
def State.clearAxisFaults (s : State) (a : Fin 4) : State :=
  if !s.axisExists a then s
  else
    let xs := s.axisSets a
    let nMax := s.par 24 4 a.val
    let s := when (xs.all fun x => s.setFaults x == 0) (·.setFlag (Fld.SPD_FAULT_SET a) false) s
    let s := when (xs.all fun x => !s.flag (Fld.MFE_FAULT_GROUND x)) (·.setFlag (Fld.SPD_FAULT_GROUND_FAULT a) false) s
    let s := when (s.pos[a].start.isNone && !s.relocking a) (·.setFlag (Fld.SPD_FAULT_POS a) false) s
    let s := when (decide (absRat (s.spd[a].nf * 60 / Config.twoPi) < nMax)) (·.setFlag (Fld.SPD_FAULT_OVERSPEED a) false) s
    let s := (s.setFlag (Fld.SPD_FAULT_STOP_TMO a) false).setFlag (Fld.SPD_FAULT_SHARE_LOST a) false
    let idle := s.axState a == AxSt.FAULTED || s.axState a == AxSt.SAFE
    if idle && s.reg (Reg.SPD_FAULT a) == 0 && xs.all (fun x => s.setFaults x == 0) then s.setAxis a AxSt.STOPPED else s

/-! ## Ports and channels (R390, R412) -/

/-- Clears the faults of a feedback port whose cause is gone. -/
def State.clearPort (s : State) (n : Fin 4) : State :=
  let s := when (s.flag (Fld.FBI_STATUS_AMP_LVL n)) (·.setFlag (Fld.FBI_FAULT_AMP n) false) s
  let s := s.setFlag (Fld.FBI_FAULT_QUAD n) false
  let s := when (!s.fb[n].freqBad) (·.setFlag (Fld.FBI_FAULT_FREQ n) false) s
  let s := when (!s.fb[n].wireBad) (·.setFlag (Fld.FBI_FAULT_WIRE n) false) s
  s.setFlag (Fld.FBI_STATUS_FAULT n) (s.reg (Reg.FBI_FAULT n) != 0)

/-- Clears DEV of a profile channel once the deviation is back within DEV_WIN. -/
def State.clearDev (s : State) (c : Fin 8) : State := if s.prg[c].devAt.isNone then s.setFlag (Fld.PRG_STATE_DEV c) false else s

/-! ## Safety (R431, R448, R464, R466, R467, R470, R478) -/

/-- STO_DISC clears once both inputs have been low together and have both risen (R431). -/
def State.clearStoDisc (s : State) : State :=
  if s.isl.bothLow && s.isl.bothRose then s.setFlag Fld.SFI_STATUS_STO_DISC false else s

/-- Whether the safe port of an axis is valid again (R441). -/
def State.portGone (s : State) (a : Fin 4) : Bool :=
  match s.safePort a with
  | some n => !s.flag (Fld.FBI_STATUS_FAULT n) && decide (s.sfa[a].stale ≤ s.parNat 40 33 a.val) && s.portFits a n
  | none => true

/-- Whether the speed is inside the envelope of the SS1 that was violated (R436, R448). -/
def State.ss1Gone (s : State) (a : Fin 4) : Bool :=
  match s.sfa[a].ss1From with
  | some t => decide (absRat (s.nSafe a) ≤ s.ss1Env a t)
  | none => true

/-- Whether the speed is inside the demanded limit (R442, R448). -/
def State.slsGone (s : State) (a : Fin 4) : Bool :=
  match s.slsIndex a with
  | some i => decide (absRat (s.nSafe a) ≤ s.slsLim a i)
  | none => true

/-- Whether position and stop position are inside the window (R443, R448). -/
def State.slpGone (s : State) (a : Fin 4) : Bool :=
  let h : Rat := (s.hNow a : Rat)
  let v := s.nSafe a * (s.safeCpt a : Rat) / 60
  let stop := h + v * absRat v / (2 * s.par 42 3 a.val)
  let lo := s.par 42 1 a.val
  let hi := s.par 42 2 a.val
  decide (lo ≤ h ∧ h ≤ hi ∧ lo ≤ stop ∧ stop ≤ hi)

/-- Whether the position is inside the tolerance of SDI, or no direction is demanded (R444, R448). -/
def State.sdiGone (s : State) (a : Fin 4) : Bool :=
  let f := s.sfa[a]
  let h := s.hNow a
  let tol := (s.par 43 1 a.val).floor
  match f.sdiRef with
  | none => true
  | some (rp, rn) =>
    if f.sdiBoth then decide (h - rp ≤ tol ∧ rp - h ≤ tol) else if f.sdiNeg then decide (h - rn ≤ tol) else decide (rp - h ≤ tol)

/-- Clears the violations of an axis whose cause is gone (R448). -/
def State.clearViolations (s : State) (a : Fin 4) : State :=
  let off (b : Bool) (f : Field) (s : State) : State := if b then s.setFlag f false else s
  let brake := match s.brakePair a with
    | some i => fieldGet (s.reg Reg.SFI_SO_FAULT) (4 * i.val) 4 == 0
    | none => true
  let s := off (s.ss1Gone a) (Fld.SFI_AX_FAULT_SS1_VIOL a) s
  let s := off (s.slsGone a) (Fld.SFI_AX_FAULT_SLS_VIOL a) s
  let s := off (s.slpGone a) (Fld.SFI_AX_FAULT_SLP_VIOL a) s
  let s := off (s.sdiGone a) (Fld.SFI_AX_FAULT_SDI_VIOL a) s
  let s := (s.setFlag (Fld.SFI_AX_FAULT_CURRENT a) false).setFlag (Fld.SFI_AX_FAULT_GAP a) false
  let s := off brake (Fld.SFI_AX_FAULT_BRAKE a) s
  let s := if s.portGone a then
      let s := (s.setFlag (Fld.SFI_AX_FAULT_PORT a) false).modSfa a fun f => { f with portSto := false }
      { s with isl := { s.isl with saved := s.isl.saved.set a { s.isl.saved[a] with portSto := false } } }
    else s
  s.sfiAny a

/-- Clears the faults of the safe inputs and test sources (R464, R466, R467). -/
def State.clearInputs (s : State) : State :=
  let s := forAll (List.finRange 8)
    (fun i t => when (t.sip[i].cleared) (·.setFld ⟨Reg.SFI_SI_FAULT, i.val, 1⟩ 0) t) s
  let s := forAll sixteen (fun n t => when (t.si[n].laterPass) (·.setFld ⟨Reg.SFI_SI_FAULT, 16 + n.val, 1⟩ 0) t) s
  let s := forAll four
    (fun k t =>
      let good := t.tst[k].goodFrom.any fun (u : Nat) => decide (u + 1_000_000_000 ≤ t.sys.poweredNs)
      when (good && !t.tst[k].off) (·.setFld ⟨Reg.SFI_SI_FAULT, 12 + k.val, 1⟩ 0) t) s
  forAll (List.finRange 8) (fun i t => t.siPair i) s

/-- Clears the faults of the safe outputs whose read-backs agree with their commands (R470). -/
def State.clearOutputs (s : State) : State :=
  forAll four
    (fun i t =>
      let read (k : Nat) : Bool := (t.fld Fld.SFI_SO_STATE_READ).testBit (2 * i.val + k)
      let agree := read 0 == t.so[i].hi && read 1 == t.so[i].lo
      let s := when agree (·.setFld ⟨Reg.SFI_SO_FAULT, 4 * i.val, 3⟩ 0) t
      when (agree && !s.flag Fld.SFI_SO_STATE_VS_LOW) (·.setFld ⟨Reg.SFI_SO_FAULT, 4 * i.val + 3, 1⟩ 0) s) s

/-- Clears the latches of the valid safety connections (R478). -/
def State.clearConns (s : State) : State :=
  forAll (List.finRange 32)
    (fun k t =>
      if t.flag (Fld.SFI_SC_STATE_VALID k) then
        ((t.setFlag (Fld.SFI_SC_STATE_WD_EXP k) false).setFlag (Fld.SFI_SC_STATE_MISMATCH k) false).setFlag (Fld.SFI_SC_STATE_ROUTE k) false
      else t) s

/-- Clears every latched fault whose cause is gone at this edge. -/
def State.clearFaults (s : State) (sc : BitVec 4) (oc : BitVec 12) : State :=
  let s := s.clearGates.clearSets sc oc
  let s := forAll four (fun n t => t.clearPort n) s
  let s := forAll (List.finRange 8) (fun c t => t.clearDev c) s
  let s := s.clearStoDisc.clearInputs.clearOutputs.clearConns
  let s := forAll four (fun a t => t.clearViolations a) s
  forAll four (fun a t => t.clearAxisFaults a) s

/-- EN_RISE (R129, R164): after at least 10 µs low the faults whose cause is gone clear; in HOLD none does (R80). The edge
enables no axis. -/
def execEnRise (lowUs : Nat) (sc : BitVec 4) (oc : BitVec 12) (s : State) : Res :=
  let s := s.putEn true
  if !s.awake then .next s
  else if s.mode == .hold || lowUs < 10 then .next s.settle
  else .next (s.clearFaults sc oc).settle

end Sys2Proof.Machine
end

