-- ==== Sys2Proof/Machine/Reinit.lean ====
section
/-! DEFINITION. FUNC_REINIT, the second rung of recovery (R603, R605): rings (R530), CAN controllers (R584), Weft ports
(R547), feedback ports (R391) and Loom lanes (R265). -/

namespace Sys2Proof.Machine

/-- A FUNC_REINIT of function code `code` on an instance below `count`: every one that is carried out writes RECOVER with
rung 2, the code and the instance (R605, R609); another instance is outside its range. -/
def State.reinit (s : State) (h : Desc) (code count : Nat) (refuse : State → Option Nat) (f : State → State) : Res :=
  s.dispatch h 0x18 fun s =>
    if count ≤ h.index.toNat then s.complete h 0x18 St.BAD_FIELD
    else
      match refuse s with
      | some st => s.complete h 0x18 st
      | none => f (s.journalFw 0x010A 2 (BitVec.ofNat 32 code) (BitVec.ofNat 32 h.index.toNat))

/-- FUNC_REINIT_SQ (R530): not of the ring that carries it. -/
def execFuncReinitSq (h : Desc) (s : State) : Res :=
  s.reinit h 1 16 (fun _ => if h.sq.val = h.index.toNat then some St.BAD_FIELD else none)
    fun s => (s.reinitSq (Fin.ofNat 16 h.index.toNat)).complete h 0x18 St.SUCCESS

/-- FUNC_REINIT_CQ (R530). -/
def execFuncReinitCq (h : Desc) (s : State) : Res :=
  s.reinit h 2 16 (fun _ => none) fun s => (s.reinitCq (Fin.ofNat 16 h.index.toNat)).complete h 0x18 St.SUCCESS

/-- The reinit of a controller (R584): ENABLE and the counters clear, FIFO and buffers empty, P38 loaded again. -/
def State.reinitCan (s : State) (c : Fin 4) : State :=
  let s := s.setFlag (Fld.CAN_CFG_ENABLE c) false
  let s := s.modCan c fun _ => { CanCtl.reset with clashAt := s.can[c].clashAt }
  let s := ((s.setFld (Fld.CAN_TXST_ACTIVE c) 0).setFld (Fld.CAN_TXST_PEND c) 0).canWindow c
  let s := ((s.setFlag (Fld.CAN_STATUS_PXE c) false).setFld (Fld.CAN_STATUS_STATE c) 3).canErrState c
  if s.profileActive then s.loadCan c else s

/-- FUNC_REINIT_CAN (R89, R584). -/
def execFuncReinitCan (h : Desc) (s : State) : Res :=
  s.reinit h 3 4 (fun s => if s.bstFailed Fld.BST_FAIL_CAN h.index.toNat then some St.UNIT_FAILED else none)
    fun s => (s.reinitCan (Fin.ofNat 4 h.index.toNat)).complete h 0x18 St.SUCCESS

/-- FUNC_REINIT_WEFT_PORT (R89, R547): the port returns to TRAIN; a port that PORT_EN disables stays disabled. -/
def execFuncReinitWeftPort (h : Desc) (s : State) : Res :=
  s.reinit h 4 4 (fun s => if s.lstate (Fin.ofNat 4 h.index.toNat) = 4 then some St.UNIT_FAILED else none)
    fun s =>
      let p : Fin 4 := Fin.ofNat 4 h.index.toNat
      ((if s.lstate p = 0 then s else s.toTrain p).complete h 0x18 St.SUCCESS).settle

/-- The reinit of a feedback port (R391): configuration loaded, supply restarted, faults, STALE_N and TURN_OK cleared; p,
offset and the compare setting stay. SUPPLY clears on both ports of the supply (R390). -/
def State.reinitPort (s : State) (n : Fin 4) : State :=
  let s := if s.profileActive then
      forAll (CfgTable.p30.filter fun r => decide (r.item < 50))
        (fun r t => forAll (List.range r.count) (fun k t => t.loadParam 30 (r.item + k) n.val) t) s
    else s
  let s := forAll (supplyPorts (Fin.ofNat 2 (n.val / 2)))
    (fun m t =>
      let t := (t.modFb m fun p => { p with supply := true }).setFlag (Fld.FBI_FAULT_SUPPLY m) false
      t.setFlag (Fld.FBI_STATUS_FAULT m) (t.reg (Reg.FBI_FAULT m) != 0)) s
  let s := (s.setReg (Reg.FBI_FAULT n) 0).setFlag (Fld.FBI_STATUS_FAULT n) false
  let s := ((s.setFld (Fld.FBI_CNT_STALE_N n) 0).setFlag (Fld.FBI_STATUS_STALE n) false).setFlag (Fld.FBI_STATUS_TURN_OK n) false
  let s := s.setFlag (Fld.FBI_STATUS_Z_SEEN n) false
  s.modFb n fun p =>
    { p with excOff := false, freqBad := false, wireBad := false, ampN := 0, periods := 0, ang := none, anew := true }

/-- Why a reinit of a feedback port is refused (R391): an axis in motion uses it for commutation or the position loop; it
failed at Dawn. -/
def State.portRefusal (s : State) (n : Fin 4) : Option Nat :=
  if s.bstFailed Fld.BST_FAIL_FB n.val then some St.UNIT_FAILED
  else if s.portUsed n fun a => s.axActive a then some St.IN_USE
  else none

/-- FUNC_REINIT_FEEDBACK_PORT (R391): a loopback that fails leaves the port as it is; the command completes UNIT_FAILED. -/
def execFuncReinitFeedbackPort (h : Desc) (loopOk : Bool) (s : State) : Res :=
  s.reinit h 5 4 (fun s => s.portRefusal (Fin.ofNat 4 h.index.toNat))
    fun s => ((s.reinitPort (Fin.ofNat 4 h.index.toNat)).complete h 0x18 (if loopOk then St.SUCCESS else St.UNIT_FAILED)).settle

/-- The reinit of a lane (R265): parameters loaded, state, CE count and KAT_FAIL cleared, and the known-answer test asked
for; the command completes with it. -/
def State.reinitLane (s : State) (h : Desc) (x : Fin 4) : State :=
  let s := match s.ownerAxis x with
    | some a => s.loadLane a x
    | none => s
  let s := (s.setFld (Fld.LOOM_ECC_CE x) 0).setFlag (Fld.LOOM_FAULT_KAT_FAIL x) false
  let s := s.setFlag (Fld.LOOM_STATUS_FAULTED x) (s.reg (Reg.LOOM_FAULT x) != 0)
  let s := s.modLane x fun l =>
    { Lane.reset with scale := l.scale, passed := l.passed, dues := l.dues, katWant := true, katHost := some h, katCon := l.katCon }
  { s with hif := { s.hif with inFlight := s.hif.inFlight ++ [{ h := h, opcode := 0x18, inst := 0x600 + x.val }] } }

/-- FUNC_REINIT_LANE (R265): only with the axis of the lane STOPPED, for which the spec names no status: IN_USE (log entry
25); UNIT_FAILED while UNAVAIL is set and for a lane that failed at Dawn. -/
def execFuncReinitLane (h : Desc) (s : State) : Res :=
  s.reinit h 6 4
    (fun s =>
      let x : Fin 4 := Fin.ofNat 4 h.index.toNat
      if s.flag (Fld.LOOM_FAULT_UNAVAIL x) || s.bstFailed Fld.BST_FAIL_LANE x.val then some St.UNIT_FAILED
      else if !s.setFree x then some St.IN_USE
      else none)
    fun s => (s.reinitLane h (Fin.ofNat 4 h.index.toNat)).settle

end Sys2Proof.Machine
end

