-- ==== Sys2Proof/Machine/FieldTests.lean ====
section
/-! DEFINITION. The field tests of the console (R143, R176, R200, R233, R273, R304, R328, R362, R404, R423, R461, R488, R510,
R543, R576, R591, R602) and the gate-switching tests of SERVICE (R616). Values that only a measurement gives are operands
of the command or free values. -/

namespace Sys2Proof.Machine

/-- A command that runs on: the next line waits for its reply (R610). -/
def State.conBusy (s : State) : State := { s with con := { s.con with busy := true } }

/-- A reply PASS with data, or ERR FAIL. -/
def State.passReply (s : State) (pass : Bool) (l : List (String × Int)) : State :=
  if pass then s.reply [.data (l ++ [("PASS", 1)])] else (s.say (.data l)).replyErr "FAIL"

/-! ## The gate-switching tests (R616) -/

/-- The high and the low side of half-bridge HB_h (R2). -/
def hbChans (h : Fin 12) : Fin 28 × Fin 28 := (Fin.ofNat 28 (2 * h.val), Fin.ofNat 28 (2 * h.val + 1))

/-- The compare of a duty (R177). -/
def State.dutyCompare (s : State) (x : Fin 4) (d : Rat) : Int := nearest ((1 - d) * (s.fullScale x : Rat))

/-- The windows, shifts and marks that a set of compares gives (R187), with every time in units of 312.5 ps. -/
def State.windowReport (s : State) (x : Fin 4) (c : Cmp3) : List (String × Int) :=
  let r := s.processSet x c
  let t := r.2.loadRise x r.1.cmp
  let o := phaseOrder r.1.cmp
  let c := t.rising3 x
  let p := t.pwm[x]
  [("A", c.at o.2.1 - c.at o.1), ("B", c.at o.2.2 - c.at o.2.1), ("SHIFT_U", p.pend.u), ("SHIFT_V", p.pend.v),
    ("SHIFT_W", p.pend.w), ("MISS_A", if p.missA then 1 else 0), ("MISS_B", if p.missB then 1 else 0)]

/-- What a gate-switching test does first: the pulse of gdc pulse, which a meter with peak hold reads (R143, R614); the turn-on of the
high side from which gdc dead makes its first transition (DESIGN CHOICE, log entry 59); the carrier of pwm run at its three duties
for 10 s, whose reply precedes the end, since other commands are given while it runs (R200); the chopper of chop test (R176); the
injection of pos inj (R304); the compare unit armed with a spacing by fbi cmp (R404); the steps of prg jog (R423). -/
def State.testAct (s : State) (k : GateTestKind) (x : Option (Fin 4)) : State :=
  match k, x with
  | .gdcPulse n _, _ =>
    let s := s.setFld Fld.SVC_STATUS_HOLDM 1
    if n.val < 24 then s.requestOn n else s.chopControl (chanSet n)
  | .gdcDead h _ _, _ => s.requestOn (hbChans h).1
  | .pwmRun du dv dw, some x =>
    let c : Cmp3 := { u := s.dutyCompare x du, v := s.dutyCompare x dv, w := s.dutyCompare x dw }
    (s.modPwm x fun p => { p with duties := some c, active := false, first := true }).reply [.data (s.windowReport x c)]
  | .chopTest _, some x => s.chopControl x
  | .posInj a _ _, some x =>
    (s.setFlag (Fld.POS_STATUS_INJ_ON a) true).modPwm x fun p => { p with active := false, first := true }
  | .prgJog c n, _ => s.modPrg c fun p => { p with jog := n }
  | .fbiCmp n value spacing, _ => (s.setReg (Reg.FBI_CMPSP n) spacing).cmpPut n value
  | _, _ => s

/-- A test begins: at once where it uses no set, else once the restart of its set's clocks is complete (R29), with the set in pulse
block, as every gate it leaves alone has to be. -/
def State.testBegin (s : State) : State :=
  match s.con.test with
  | some (k, x) =>
    if s.con.begun || x.any fun (y : Fin 4) => !s.clocksRun y then s
    else { s with con := { s.con with begun := true } }.testAct k x
  | none => s

/-- Starts a gate-switching test: in SERVICE, with STO_A, STO_B and EN high and no other test running (R616). -/
def State.testStart (s : State) (k : GateTestKind) (x : Option (Fin 4)) (runsOn : Bool) : State :=
  if s.mode != .service then s.replyErr "MODE"
  else if s.con.test.isSome then s.replyErr "BUSY"
  else if !s.stoBothHigh || !s.flag Fld.PSP_REQ_EN then s.replyErr "MODE"
  else
    let s : State := { s with con := { s.con with test := some (k, x), begun := false, busy := !runsOn } }
    (s.setFlag Fld.SVC_STATUS_TEST true).testBegin.settle

/-- SET_CLOCK_RESTART (R29, R179): the clocks of a set that something needs run again; the waiting test, measurement or
start proceeds, and the carrier starts at the position of R26. -/
def execSetClockRestart (x : Fin 4) (s : State) : Res :=
  if s.clockNeeded x && !s.clocksRun x then
    let s := (s.setFld ⟨Reg.SYS_CLK, x.val, 1⟩ 1).stepOffset x
    let s := s.modPwm x fun p => { p with sent := none, shadow := none }
    let s := when s.mfe[x].ofsRun (fun t => t.beginOffsets x false) s
    let s := { s with shoot := s.shoot.set x { s.shoot[x] with inPeriod := 0 } }
    .next s.testBegin.settle
  else .next s

/-- GDC_PULSE (R143): an on pulse of 1 µs to 100 µs. -/
def execGdcPulse (n : Fin 28) (us : Nat) (s : State) : Res :=
  s.conRun false fun s =>
    if us = 0 || 100 < us then s.replyErr "RANGE" else s.testStart (.gdcPulse n us) (some (chanSet n)) false

/-- GDC_DEAD (R143): a transition each way on HB_h. -/
def execGdcDead (h : Fin 12) (s : State) : Res :=
  s.conRun false fun s => s.testStart (.gdcDead h 0 0) (some (Fin.ofNat 4 (h.val / 3))) false

/-- The transitions of gdc dead (R143): to the low side once the high side is on, and back 20 µs later. -/
def State.deadPoll (s : State) : State :=
  match s.con.test with
  | some (.gdcDead h stage t0, x) =>
    let (hi, lo) := hbChans h
    let now := s.sys.poweredNs
    if stage = 0 && s.gc[hi].cmd then
      let s : State := { s with con := { s.con with test := some (.gdcDead h 1 now, x) } }
      (s.chanOff hi).requestOn lo
    else if stage = 1 && decide (t0 + 20_000 ≤ now) then
      let s : State := { s with con := { s.con with test := some (.gdcDead h 2 t0, x) } }
      (s.chanOff lo).requestOn hi
    else s
  | _ => s

/-- Whether a running test has come to its own end: gdc dead once the second transition is complete (R143), prg jog once its
steps are emitted (R423). -/
def State.testOver (s : State) : Bool :=
  s.con.begun &&
  (match s.con.test with
   | some (.gdcDead h stage _, _) => stage = 2 && s.gc[(hbChans h).1].cmd
   | some (.prgJog c _, _) => s.prg[c].jog == 0
   | _ => true)

/-- t_dead of R115, in ns, for a transition in which a channel turns off: from its last t_rx and its t_extra, ± 2 ns. -/
def State.deadReply (s : State) (n : Fin 28) : Int × State :=
  let f := s.freeNat
  let t : Rat := max 120 (((s.fld (Fld.GDC_TCONF_LAST n) + s.tExtra n : Nat) : Rat) * 5 / 2)
  (quantise t + (f.1 % 5 : Nat) - 2, f.2)

/-- CHOP_TEST (R176): the chopper is on for 20 µs, with V_dc between 20 V and 59 V; `step` is the measured current in A. DESIGN CHOICE
(log entry 59): on a set with R_BRAKE 0, for which the spec gives no answer, ERR MODE. -/
def execChopTest (x : Fin 4) (step : Rat) (s : State) : Res :=
  s.conRun false fun s =>
    if decide (s.psp[x].vdc < 20) || decide (59 < s.psp[x].vdc) || s.fld (Fld.PSP_CHOP_RB x) = 0 then s.replyErr "MODE"
    else s.testStart (.chopTest step) (some x) false

/-- PWM_RUN (R200): the carrier of a set in BLOCK runs at three duties. -/
def execPwmRun (x : Fin 4) (du dv dw : Rat) (s : State) : Res :=
  s.conRun false fun s =>
    if [du, dv, dw].any fun d => decide (d < 0) || decide (1 < d) then s.replyErr "RANGE"
    else if s.setState x != .block then s.replyErr "MODE"
    else s.testStart (.pwmRun du dv dw) (some x) true

/-- The square of the length of the terminal voltage vector (R293), from the means of v_UV and v_VW. -/
def State.termSq (s : State) (a : Fin 4) : Rat :=
  let l := s.psp[s.axisLane a].term
  let uv := meanRat (l.map (·.1))
  let vw := meanRat (l.map (·.2))
  4 / 9 * (uv * uv + uv * vw + vw * vw)

/-- Whether a shaft is at rest (R304). DESIGN CHOICE (log entry 60): |n_f| is at or below N_ZERO, and the terminal voltages show no
turning machine, their vector below TV_DET. -/
def State.atRest (s : State) (a : Fin 4) : Bool :=
  decide (absRat (toRpm s.spd[a].nf) ≤ s.par 24 6 a.val) && decide (s.termSq a < s.par 22 40 a.val * s.par 22 40 a.val)

/-- POS_INJ (R304): HF_IDENT on a sensorless permanent-magnet axis with its shaft at rest; the inductances found are in H. While the test
runs, the lowest set of the axis applies the injection voltage (`identUpdate`). -/
def execPosInj (a : Fin 4) (ldh lqh : Rat) (s : State) : Res :=
  s.conRun false fun s =>
    if !s.axisExists a || s.source_ a != 2 || s.machine a == 2 || !s.atRest a then s.replyErr "MODE"
    else s.testStart (.posInj a ldh lqh) (some (s.axisLane a)) false

/-- FBI_CMP (R404): CMP is armed with a spacing; each hit gives a line. -/
def execFbiCmp (n : Fin 4) (value spacing : Word) (s : State) : Res :=
  s.conRun false fun s => s.testStart (.fbiCmp n value spacing) none false

/-- PRG_JOG (R423): n steps at F_START on a step channel. DESIGN CHOICE (log entry 17): with F_START 0, at which no step would come, it is
refused with ERR MODE. -/
def execPrgJog (c : Fin 8) (n : Int) (s : State) : Res :=
  s.conRun false fun s => if isStep c && s.p32 34 c != 0 then s.testStart (.prgJog c n) none false else s.replyErr "MODE"

/-- Whether a value lies within a part of a nominal one. -/
def within (v nominal part : Rat) : Bool := decide (absRat (v - nominal) ≤ part * absRat nominal)

/-- A free time in ns, as a field test reports it (log entry 3). -/
def State.freeTimes (s : State) : Nat → List Int × State
  | 0 => ([], s)
  | k + 1 =>
    let f := s.freeNat
    let r := State.freeTimes f.2 k
    ((f.1 : Int) :: r.1, r.2)

/-- The reply of a test at its own end. -/
def State.testReply (s : State) (k : GateTestKind) (x : Option (Fin 4)) : State :=
  match k, x with
  | .gdcPulse _ _, _ =>
    let r := s.freeTimes 4
    r.2.reply [.data (["TH1", "TH2", "V_ON_MIN", "V_OFF"].zip r.1)]
  | .gdcDead h _ _, _ =>
    let (hi, lo) := hbChans h
    let rx (n : Fin 28) : Int := s.fld (Fld.GDC_TCONF_LAST n)
    let d := s.deadReply hi
    let e := d.2.deadReply lo
    e.2.reply [.data [("T_RX_HI", rx hi), ("T_RX_LO", rx lo), ("DEAD_HL", d.1), ("DEAD_LH", e.1)]]
  | .chopTest step, some y =>
    let nominal := s.psp[y].vdc * 1000 / (s.fld (Fld.PSP_CHOP_RB y) : Rat)
    s.passReply (within step nominal (3 / 10)) [("STEP", quantise (step * 10)), ("NOMINAL", quantise (nominal * 10))]
  | .posInj a ldh lqh, _ =>
    let f := s.freeTimes 2
    let ok := within ldh (s.par 22 23 a.val) (1 / 10) && within lqh (s.par 22 24 a.val) (1 / 10)
    f.2.passReply ok ([("L_DH", quantise (ldh * 1_000_000_000)), ("L_QH", quantise (lqh * 1_000_000_000))] ++ ["THETA", "POLARITY"].zip f.1)
  | .prgJog c _, _ =>
    let d := (s.deviation c).getD 0
    let ok := (s.portItem 12 c).isNone || decide (absRat (d : Rat) ≤ s.p32 10 c)
    s.passReply ok [("COUNT", s.stepCount c), ("dev", d)]
  | .fbiCmp _ _ _, _ => s.reply []
  | _, _ => s

/-- TEST_END (R616): a running test reaches its own end. -/
def execTestEnd (s : State) : Res :=
  match s.con.test with
  | none => .next s
  | some (k, x) => .next (if s.testOver then ((s.testReply k x).stopTest.settle).conNext else s)

/-! ## Gate channels (R143) -/

/-- GDC (R143). -/
def execGdc (n : Fin 28) (s : State) : Res :=
  s.conRun false fun s => s.showRegs [("STATUS", Reg.GDC_STATUS n), ("FAULT", Reg.GDC_FAULT n), ("TCONF", Reg.GDC_TCONF n)]

/-- GDC_SELFTEST (R130, R143): the reply follows the test. -/
def execGdcSelftest (n : Fin 28) (s : State) : Res :=
  s.conRun false fun s =>
    s.inModes [.ready, .service, .run] fun s =>
      let s := s.gateTestStart n
      if s.flag (Fld.GDC_TESTRES_BUSY n) then { s with con := { s.con with busy := true, gateTest := some n } }
      else s.replyErr "MODE"

/-! ## Protection (R176) -/

/-- PSP (R176). -/
def execPsp (x : Fin 4) (s : State) : Res :=
  s.conRun false fun s =>
    s.showRegs [("STATE", Reg.PSP_STATE x), ("FAULT", Reg.PSP_FAULT x), ("CHOPST", Reg.PSP_CHOPST x), ("REQ", Reg.PSP_REQ)]

/-- PSP_SCTEST (R176): the trip levels found, in mV and V, each within 2 % of the programmed one. -/
def execPspSctest (x : Fin 4) (sc ov3 : Rat) (s : State) : Res :=
  s.conRun false fun s =>
    s.inModes [.ready, .service] fun s =>
      if s.setState x != .block then s.replyErr "MODE"
      else
        let th : Rat := (max 0x14 (min 0xF0 (s.fld (Fld.PSP_SC_TH x))) : Nat)
        s.passReply (within sc th (1 / 50) && within ov3 (s.level (Fld.PSP_OV3UV_OV3 x)) (1 / 50))
          [("SC", quantise sc), ("OV3", quantise ov3)]

/-- CROSS (R176). -/
def execCross (x : Fin 4) (s : State) : Res :=
  s.conRun false fun s =>
    s.reply [.data [("CROSS", s.fld (Fld.PSP_STATE_CROSS x)), ("SRC", s.fld (Fld.PSP_STATE_CROSS_SRC x)),
      ("f_el", quantise (s.felNow x * 10)), ("V_LL", quantise (s.psp[x].vll * 10))]]

/-! ## PWM and measurement (R200, R233) -/

/-- PWM (R200). -/
def execPwm (x : Fin 4) (s : State) : Res :=
  s.conRun false fun s =>
    s.showRegs [("CFG", Reg.PWM_CFG x), ("PHASE", Reg.PWM_PHASE x), ("STATUS", Reg.PWM_STATUS x), ("CNT", Reg.PWM_CNT x)]

/-- PWM_SKEW (R200): the offset from the valley of the lead at a node address, which the fabric gives: a free value. -/
def execPwmSkew (x : Fin 4) (node : Byte) (s : State) : Res :=
  s.conRun false fun s =>
    if (s.ownerAxis x).any fun (a : Fin 4) => s.isShared a then
      let f := s.freeRat
      f.2.reply [.data [("node", node.toNat), ("skew", quantise f.1)]]
    else s.replyErr "MODE"

/-- MFE (R233). -/
def execMfe (x : Fin 4) (s : State) : Res :=
  s.conRun false fun s =>
    s.showRegs [("STATUS", Reg.MFE_STATUS x), ("FAULT", Reg.MFE_FAULT x), ("VDC", Reg.MFE_VDC x), ("NTC", Reg.MFE_NTC x)]

/-- MFE_ZERO (R205, R233): the reply follows the measurement. -/
def execMfeZero (x : Fin 4) (s : State) : Res :=
  s.conRun false fun s =>
    s.inModes [.ready, .service] fun s =>
      if s.setFree x then (s.beginOffsets x true).conBusy.settle else s.replyErr "MODE"

/-- MFE_XC (R233): the currents of the last VALID reconstruction, in 0.1 A, while pwm run drives the set. -/
def execMfeXc (x : Fin 4) (s : State) : Res :=
  s.conRun false fun s =>
    if s.mode != .service || !s.pwmRuns x then s.replyErr "MODE"
    else
      match s.mfe[x].recon with
      | none => s.replyErr "FAIL"
      | some r =>
        let p := s.mfe[x].reconPs
        let th : Rat := (max 1 (s.fld (Fld.MFE_XC_XCTH x)) : Nat)
        let q (v : Rat) : Int := quantise (v * 10)
        s.passReply (three.all fun k => decide (absRat (r.amps.at k - p.at k) ≤ th))
          [("PS_U", q p.u), ("PS_V", q p.v), ("PS_W", q p.w), ("SH_U", q r.amps.u), ("SH_V", q r.amps.v), ("SH_W", q r.amps.w),
            ("D_U", q (r.amps.u - p.u)), ("D_V", q (r.amps.v - p.v)), ("D_W", q (r.amps.w - p.w))]

/-- MFE_SUPPLY_ON (R207, R233). -/
def execMfeSupplyOn (s : State) : Res :=
  s.conRun false fun s => if s.noneActive then s.supplyRestart.reply [.data [("ON", 1)]] else s.replyErr "MODE"

/-! ## Lanes and position (R273, R304) -/

/-- LOOM (R273). -/
def execLoom (x : Fin 4) (s : State) : Res :=
  s.conRun false fun s =>
    s.showRegs [("CFG", Reg.LOOM_CFG x), ("STATUS", Reg.LOOM_STATUS x), ("FAULT", Reg.LOOM_FAULT x), ("ECC", Reg.LOOM_ECC x),
      ("TIME", Reg.LOOM_TIME x)]

/-- LOOM_KAT (R264, R273): the reply follows the test. -/
def execLoomKat (x : Fin 4) (s : State) : Res :=
  s.conRun false fun s =>
    if s.setState x == .run then s.replyErr "MODE"
    else ((s.katRequest x).modLane x fun l => { l with katCon := true }).conBusy.settle

/-- LOOM_TIME (R273): PEAK, in units of 0.0001 µs. -/
def execLoomTime (x : Fin 4) (s : State) : Res :=
  s.conRun false fun s => s.reply [.data [("PEAK", 25 * s.fld (Fld.LOOM_TIME_PEAK x))]]

/-- POS (R304). -/
def execPos (a : Fin 4) (s : State) : Res :=
  s.conRun false fun s =>
    s.showRegs [("STATUS", Reg.POS_STATUS a), ("FAULT", Reg.POS_FAULT a), ("ANGLE", Reg.POS_ANGLE a), ("SPEED", Reg.POS_SPEED a),
      ("START", Reg.POS_START a)]

/-- POS_TERM (R293, R304): a terminal measurement without a start; the reply follows it. -/
def execPosTerm (a : Fin 4) (s : State) : Res :=
  s.conRun false fun s =>
    if !s.axisExists a || !((s.axisSets a).all fun x => s.setState x == .block) then s.replyErr "MODE"
    else
      let now := s.weft
      (s.modPos a fun p =>
        { p with meas := some { t0 := now, prev := none, adv := 0, det := true, vab := DQ.zero, con := true } }).conBusy

/-- POS_LEARN (R282, R304): LEARNED every 10 s until the axis is STOPPED. -/
def execPosLearn (a : Fin 4) (s : State) : Res :=
  s.conRun false fun s =>
    if s.mode != .run then s.replyErr "MODE"
    else if !s.learnOk a then (s.learn a).replyErr "MODE"
    else ((s.learn a).modPos a fun p => { p with conLearn := true }).conBusy

/-! ## Speed and load sharing (R328, R362) -/

/-- SPD (R328). -/
def execSpd (a : Fin 4) (s : State) : Res :=
  s.conRun false fun s =>
    s.showRegs [("STATE", Reg.SPD_STATE a), ("FAULT", Reg.SPD_FAULT a), ("FACT", Reg.SPD_FACT a), ("CNT", Reg.SPD_CNT a),
      ("LAST", Reg.SPD_LAST a)]

/-- SPD_LIM (R314, R328): both limits and the factors. -/
def execSpdLim (a : Fin 4) (s : State) : Res :=
  s.conRun false fun s => s.showRegs [("TLPOS", Reg.SPD_TLPOS a), ("TLNEG", Reg.SPD_TLNEG a), ("FACT", Reg.SPD_FACT a)]

/-- LSH (R362). -/
def execLsh (a : Fin 4) (s : State) : Res :=
  s.conRun false fun s =>
    s.showRegs [("CFG", Reg.LSH_CFG a), ("STATE", Reg.LSH_STATE a), ("MAP", Reg.LSH_MAP a), ("CNT", Reg.LSH_CNT a),
      ("REFUSE", Reg.LSH_REFUSE a)]

/-- The member state that goes with the axis state of a lead frame (R332, R338). -/
def leadMstate (f : LeadFrame) : Nat :=
  let st := f.flags.toNat % 8
  if st = AxSt.STARTING then 3 else if st = AxSt.RUNNING ∨ st = AxSt.STOPPING then 4 else 2

/-- One member as lsh members shows it (R362): this device itself, the lead, or a member whose report has arrived. The share is that
of the lead frame in force. -/
def State.memberLine (s : State) (a : Fin 4) (m : Fin 16) : Option Line :=
  let g := s.lsh[a]
  let q := g.members[m]
  let share := ((g.lead.bind fun f => f.share[m.val]?).map fun c => c.toNat).getD 0
  let line (node mst hops age : Nat) : Line :=
    .data [("m", m.val), ("node", node), ("MSTATE", mst), ("HOPS", hops), ("share", share), ("age", age)]
  if m == s.ownIdx a then some (line s.nodeAddr.toNat (s.mstate a) (s.hopsFromLead a) 0)
  else
    match g.lead.filter fun f => f.idx.toNat == m.val, q.last with
    | some f, _ => some (line f.node.toNat (leadMstate f) 0 q.age)
    | none, some r => some (line q.node.toNat r.mstate.toNat r.hops.toNat q.age)
    | none, none => none

/-- LSH_MEMBERS (R362). -/
def execLshMembers (a : Fin 4) (s : State) : Res :=
  s.conRun false fun s => s.reply (if s.isShared a then (List.finRange 16).filterMap fun m => s.memberLine a m else [])

/-- LSH_DROP (R336, R362): this device withholds its frames for 1 to 10 cycles. -/
def execLshDrop (a : Fin 4) (n : Nat) (s : State) : Res :=
  s.conRun false fun s =>
    if n = 0 || 10 < n then s.replyErr "RANGE"
    else if s.mode != .ready || !s.isShared a || !s.allJoined a then s.replyErr "MODE"
    else (s.modLsh a fun g => { g with drop := n }).reply []

/-! ## Feedback ports (R404) -/

/-- FBI (R404). -/
def execFbi (n : Fin 4) (s : State) : Res :=
  s.conRun false fun s =>
    s.showRegs [("CFG", Reg.FBI_CFG n), ("STATUS", Reg.FBI_STATUS n), ("FAULT", Reg.FBI_FAULT n), ("POS", Reg.FBI_POS n),
      ("TURN", Reg.FBI_TURN n), ("SPEED", Reg.FBI_SPEED n)]

/-- One line of fbi watch. -/
def State.watchLine (s : State) (n : Fin 4) : Line :=
  s.regLine [("p", Reg.FBI_POS n), ("TURN", Reg.FBI_TURN n), ("SPEED", Reg.FBI_SPEED n), ("STATUS", Reg.FBI_STATUS n)]

/-- FBI_WATCH (R404): a line at once and every 100 ms, until it is aborted. -/
def execFbiWatch (n : Fin 4) (s : State) : Res :=
  s.conRun false fun s =>
    let s := s.say (s.watchLine n)
    { s with con := { s.con with busy := true, watch := some n } }

/-- FBI_LOOP (R88, R391, R404): the loopback of a port that no axis in motion uses. -/
def execFbiLoop (n : Fin 4) (ok : Bool) (s : State) : Res :=
  s.conRun false fun s =>
    s.inModes [.ready, .service] fun s =>
      match s.portRefusal n with
      | some st => s.say (.status st)
      | none => s.passReply ok []

/-- PT (R404). -/
def execPt (m : Fin 4) (s : State) : Res :=
  s.conRun false fun s => s.showRegs [("CFG", Reg.PT_CFG m), ("EMU", Reg.PT_EMU m), ("STATUS", Reg.PT_STATUS m)]

/-! ## Profile channels (R423) -/

/-- PRG (R423). -/
def execPrg (c : Fin 8) (s : State) : Res :=
  s.conRun false fun s =>
    s.showRegs [("STATE", Reg.PRG_STATE c), ("TARGET", Reg.PRG_TARGET c), ("COUNT", Reg.PRG_COUNT c), ("LAG", Reg.PRG_LAG c),
      ("DEV", Reg.PRG_DEV c)]

/-- PRG_LIM (R423): both limit inputs after the filter. -/
def execPrgLim (c : Fin 8) (s : State) : Res :=
  s.conRun false fun s => s.reply [.data [("LIM_POS", s.fld (Fld.PRG_STATE_LIM_POS c)), ("LIM_NEG", s.fld (Fld.PRG_STATE_LIM_NEG c))]]

/-! ## The safety island (R461, R488) -/

/-- SFI (R461). -/
def execSfi (s : State) : Res :=
  s.conRun false fun s => s.showRegs [("STATUS", Reg.SFI_STATUS), ("SEAL", Reg.SFI_SEAL), ("SEALINFO", Reg.SFI_SEALINFO)]

/-- SFI_AX (R461). -/
def execSfiAx (a : Fin 4) (s : State) : Res :=
  s.conRun false fun s =>
    s.showRegs [("STATE", Reg.SFI_AX_STATE a), ("FAULT", Reg.SFI_AX_FAULT a), ("NSAFE", Reg.SFI_AX_NSAFE a), ("HSAFE", Reg.SFI_AX_HSAFE a)]

/-- SFI_STO (R461): the inputs, STO_HW and the ENABLE bit of every phase island. -/
def execSfiSto (s : State) : Res :=
  s.conRun false fun s =>
    let en : Nat := (List.range 24).foldl (fun m n => m + (if s.flag (Fld.GDC_STATUS_ENABLE n) then 2 ^ n else 0)) 0
    s.reply [.data [("STO_A", s.fld Fld.SFI_STATUS_STO_A), ("STO_B", s.fld Fld.SFI_STATUS_STO_B), ("STO_HW", s.fld Fld.PSP_REQ_STO_HW),
      ("ENABLE", en)]]

/-- SFI_TEST (R435, R461): STO_TEST from the console. -/
def execSfiTest (gateFail : Option (Fin 28)) (inputFail : Option StoInput) (s : State) : Res :=
  s.conRun false fun s =>
    match s.stoTestStatus with
    | some st => if st = St.MODE_DENIED then s.replyErr "MODE" else s.say (.status st)
    | none =>
      let r := s.stoTestRun gateFail inputFail
      (if r.1 then r.2.reply [.data [("PASS", 1)]] else r.2.say (.status St.STO_FAIL)).settle

/-- SFI_LIST (R453, R461): every staged item, marked where it is changed, and the staged CRC; it counts as read back. -/
def execSfiList (s : State) : Res :=
  s.conRun false fun s =>
    match s.isl.staging with
    | none => s.replyErr "MODE"
    | some g =>
      let lines := safetyKeys.map fun k =>
        let v := sparseGet paramDefault g.staged k
        Line.data [("id", k), ("value", v.toNat), ("changed", if v == sparseGet paramDefault g.sealed k then 0 else 1)]
      (s.setStaging { g with readBack := safetyKeys }).reply (lines ++ [.data [("CRC", (safetyCrc g.staged).toNat)]])

/-- SFI_SEAL (R453, R461): the reply is SEALED with the new seal and count, or the failed condition. -/
def execSfiSeal (crc : Word) (s : State) : Res :=
  s.conRun false fun s =>
    match s.isl.staging with
    | none => s.replyErr "MODE"
    | some g =>
      let s := match s.sealFail g crc with
        | some w => s.say (.data [(w, 1)])
        | none => s
      s.sealStart (conDesc 0 1) crc

/-- SI (R488). -/
def execSi (s : State) : Res := s.conRun false fun s => s.showRegs [("STATE", Reg.SFI_SI_STATE), ("FAULT", Reg.SFI_SI_FAULT)]

/-- SO (R488). -/
def execSo (s : State) : Res := s.conRun false fun s => s.showRegs [("STATE", Reg.SFI_SO_STATE), ("FAULT", Reg.SFI_SO_FAULT)]

/-- Bytes of a frame as a number, low byte first. -/
def bytesNat (l : List Byte) : Nat := l.foldr (fun b n => b.toNat + 256 * n) 0

/-- SC (R472, R488): the registers of a connection, and PAIRS and AXES of its last frame. -/
def execSc (k : Fin 32) (s : State) : Res :=
  s.conRun false fun s =>
    let f := s.sc[k].last
    s.reply [s.regLine [("STATE", Reg.SFI_SC_STATE k), ("CNT", Reg.SFI_SC_CNT k), ("RX", Reg.SFI_SC_RX k)],
      .data [("PAIRS", bytesNat ((f.drop 14).take 2)), ("AXES", bytesNat ((f.drop 16).take 4))]]

/-! ## Core pairs (R510) -/

/-- LCK (R510): a line for each pair. -/
def execLck (s : State) : Res :=
  s.conRun false fun s =>
    s.reply (four.map fun n => s.regLine [("STATUS", Reg.LCK_STATUS n), ("EVENT", Reg.LCK_EVENT n), ("CNT", Reg.LCK_CNT n)])

/-- LCK_CHECK (R499, R510): the self-check of a pair in RUN. -/
def execLckCheck (n : Fin 4) (silent : Bool) (s : State) : Res :=
  s.conRun false fun s =>
    if s.pairState n != PairSt.RUN then s.replyErr "MODE"
    else
      let s := s.selfCheck n silent
      s.passReply (!silent) [("CHK_OK", s.fld (Fld.LCK_STATUS_CHK_OK n)), ("CHECKS", s.fld (Fld.LCK_CNT_CHECKS n))]

/-- LCK_HIST (R510): the LOCKSTEP entries of a pair since Dawn, whose DAWN entry is 0x0100. -/
def execLckHist (n : Fin 4) (s : State) : Res :=
  s.conRun false fun s =>
    let recent := s.jr.entries.takeWhile fun e => e.2.code != 0x0100
    let mine := recent.filter fun e => e.2.code == 0x0500 && e.2.unit.toNat == n.val
    s.reply (mine.reverse.map fun e => .entry e.1 e.2)

/-! ## Host interface, Weft, CAN, temperatures (R543, R576, R591, R602) -/

/-- HIF (R543). -/
def execHif (s : State) : Res := s.conRun false fun s => s.showRegs [("CFG", Reg.HIF_CFG), ("STATUS", Reg.HIF_STATUS), ("CNT", Reg.HIF_CNT)]

/-- HIF_SQ (R543). -/
def execHifSq (n : Fin 16) (s : State) : Res :=
  s.conRun false fun s => s.showRegs [("CFG", Reg.HIF_SQ_CFG n), ("PTR", Reg.HIF_SQ_PTR n), ("STAT", Reg.HIF_SQ_STAT n)]

/-- HIF_CQ (R543). -/
def execHifCq (n : Fin 16) (s : State) : Res :=
  s.conRun false fun s => s.showRegs [("CFG", Reg.HIF_CQ_CFG n), ("PTR", Reg.HIF_CQ_PTR n), ("STAT", Reg.HIF_CQ_STAT n)]

/-- HIF_NOP (R543): a NOP of the console at the head of the burst of SQ_n; the time it takes is a free value. -/
def execHifNop (n : Fin 16) (s : State) : Res :=
  s.conRun false fun s =>
    if (s.mode != .ready && s.mode != .run && s.mode != .service) || !s.flag (Fld.HIF_SQ_CFG_ENABLE n) then s.replyErr "MODE"
    else
      let f := s.freeNat
      f.2.reply [.data [("t", f.1)]]

/-- WFT (R576). -/
def execWft (s : State) : Res :=
  s.conRun false fun s =>
    s.showRegs [("NODE", Reg.WFT_NODE), ("SYNC", Reg.WFT_SYNC), ("OFFSET", Reg.WFT_OFFSET), ("CTX", Reg.WFT_CTX), ("CNT", Reg.WFT_CNT),
      ("CNT2", Reg.WFT_CNT2)]

/-- WFT_PORT (R576). -/
def execWftPort (p : Fin 4) (s : State) : Res :=
  s.conRun false fun s =>
    s.showRegs [("STATE", Reg.WFT_P_STATE p), ("PEER_LO", Reg.WFT_P_PEER_LO p), ("PEER_HI", Reg.WFT_P_PEER_HI p),
      ("DELAY", Reg.WFT_P_DELAY p), ("ERR", Reg.WFT_P_ERR p), ("UTIL", Reg.WFT_P_UTIL p)]

/-- WFT_ROUTE (R576): the route to an address. -/
def execWftRoute (addr : Byte) (s : State) : Res :=
  s.conRun false fun s =>
    let a := addr.toNat
    s.reply [.data [("METRIC", s.metric a), ("PORT_A", (s.routeA a).val), ("PORT_B", (s.routeB a).val),
      ("SHARED", if s.sharedRoute a then 1 else 0)]]

/-- WFT_PING (R549, R576): n requests of 64 bytes, one after another; the reply follows the last answer. -/
def execWftPing (addr : Byte) (n : Nat) (s : State) : Res :=
  s.conRun false fun s =>
    if n = 0 then s.replyErr "RANGE"
    else if s.nodeAddr == 0 then s.replyErr "MODE"
    else
      let now := s.weft
      let s := s.modWft fun w => { w with ping := some { addr := addr, left := n, t0 := now, rtts := [] } }
      (s.sendEcho 9 addr pingBody).conBusy

/-- WFT_REINIT (R547, R576): the reply follows when the port is ACTIVE again; a DISABLED port trains for no one (log entry 59). -/
def execWftReinit (p : Fin 4) (s : State) : Res :=
  s.conRun false fun s =>
    s.inModes [.ready, .service] fun s =>
      if s.lstate p = 4 then s.say (.status St.UNIT_FAILED)
      else if s.lstate p = 0 then s.replyErr "MODE"
      else
        let s := (s.journalFw 0x010A 2 4 (BitVec.ofNat 32 p.val)).toTrain p
        { s with con := { s.con with busy := true, wftWait := some p } }.settle

/-- CAN (R591). -/
def execCan (c : Fin 4) (s : State) : Res :=
  s.conRun false fun s =>
    s.showRegs [("CFG", Reg.CAN_CFG c), ("STATUS", Reg.CAN_STATUS c), ("CNT", Reg.CAN_CNT c), ("CLASHID", Reg.CAN_CLASHID c),
      ("TXST", Reg.CAN_TXST c), ("RXST", Reg.CAN_RXST c)]

/-- CAN_LOOP (R88, R591): the loopback of a controller that is off the bus. -/
def execCanLoop (c : Fin 4) (ok : Bool) (s : State) : Res :=
  s.conRun false fun s =>
    s.inModes [.ready, .service] fun s => if s.flag (Fld.CAN_CFG_ENABLE c) then s.replyErr "MODE" else s.passReply ok []

/-- CAN_RX (R591): the head entry of the FIFO, which stays. -/
def execCanRx (c : Fin 4) (s : State) : Res :=
  s.conRun false fun s =>
    s.reply [s.regLine [("ID", Reg.CAN_RX_ID c), ("CTL", Reg.CAN_RX_CTL c), ("TIME", Reg.CAN_RX_TIME c)],
      s.regLine ((List.range 16).map fun k => ("D", Reg.CAN_RX_DATA c k))]

/-- THM (R602): THM_STATUS, and TEMP and LVL of every sensor. -/
def execThm (s : State) : Res :=
  s.conRun false fun s =>
    s.reply (s.regLine [("STATUS", Reg.THM_STATUS)] ::
      (List.range 38).map fun (i : Nat) => .data [("i", i), ("TEMP", s.fld (Fld.THM_T_TEMP i)), ("LVL", s.fld (Fld.THM_T_LVL i))])

/-! ## What the console waits for -/

/-- Replies of commands that run on (R143, R304, R404, R576): a gate self-test that was aborted, learning, a port that is
ACTIVE again, and the lines of fbi watch; the console times by the device's own reference. -/
def State.conPoll (s : State) : State :=
  let s := match s.con.gateTest with
    | some n => if s.flag (Fld.GDC_TESTRES_BUSY n) then s else s.gateReply n
    | none => s
  let s := forAll four
    (fun a t =>
      if !t.pos[a].conLearn then t
      else if t.axState a == AxSt.STOPPED then
        let t := t.modPos a fun p => { p with conLearn := false }
        { t with con := { t.con with busy := false } }.reply [.data [("LEARNED", t.fld (Fld.POS_MAP_LEARNED a))]]
      else if t.sys.poweredNs % 10_000_000_000 = 0 then t.say (.data [("LEARNED", t.fld (Fld.POS_MAP_LEARNED a))])
      else t) s
  let s := match s.con.wftWait with
    | some p =>
      if s.linkUp p then { s with con := { s.con with busy := false, wftWait := none } }.reply [.data [("ACTIVE", 1)]] else s
    | none => s
  let s := match s.con.watch with
    | some n => if s.sys.poweredNs % 100_000_000 = 0 then s.say (s.watchLine n) else s
    | none => s
  s.conNext

end Sys2Proof.Machine
end

