-- ==== Sys2Proof/Machine/Thm.lean ====
section
/-! DEFINITION. Thermal supervision: sensors and their validity (R592 to R594), levels and rate of rise (R595),
derating (R596, R597) and throttling (R598). -/

namespace Sys2Proof.Machine

/-- The four groups of sensors (R595): 0 die, 1 gate, 2 NTC, 3 board. -/
def thmGroup (i : Fin 38) : Nat := if i.val < 4 then 0 else if i.val < 32 then 1 else if i.val < 36 then 2 else 3

/-- A threshold of a sensor's group (R601): 1 T_WARN, 2 T_DER0, 3 T_DER1, 4 T_FAULT, 5 RISE_TH. -/
def State.thmPar (s : State) (i : Fin 38) (k : Nat) : Rat := s.par 50 (10 * thmGroup i + k) 0

/-- The sensors (R592). -/
def sensors : List (Fin 38) := List.finRange 38

/-- The gate channel of a gate island sensor (R592). -/
def sensorChan (i : Fin 38) : Fin 28 := Fin.ofNat 28 (i.val - 4)

/-- The set of an NTC (R592). -/
def sensorSet (i : Fin 38) : Fin 4 := Fin.ofNat 4 (i.val - 32)

/-- Whether a sensor is fitted: an NTC with B = 0 is not (R593). -/
def State.sensorFitted (s : State) (i : Fin 38) : Bool := thmGroup i != 2 || s.par 50 51 (sensorSet i).val != 0

/-- The temperature of an NTC from its resistance (R593), in °C. -/
def State.ntcTemp (s : State) (x : Fin 4) : Rat :=
  let r : Rat := (s.fld (Fld.MFE_NTC_R x) : Nat)
  1 / (1 / (29815 / 100) + Config.ln (r / s.par 50 50 x.val) / s.par 50 51 x.val) - 27315 / 100

/-- Whether a reading is valid (R594). -/
def State.sensorValid (s : State) (i : Fin 38) (t : Rat) : Bool :=
  let x := sensorSet i
  let n := sensorChan i
  decide (-55 ≤ t ∧ t ≤ 200)
    && (thmGroup i != 1 || (s.sys.islandsUp.getLsbD (chanSet n.val).val && !s.flag (Fld.GDC_FAULT_LINK_LOST n)))
    && (thmGroup i != 2 || (!s.flag (Fld.MFE_STATUS_NTC_OPEN x) && !s.flag (Fld.MFE_STATUS_NTC_SHORT x)))

/-- A level over rising thresholds, left only below its threshold less the hysteresis (R595, R598). -/
def levelOf (t hyst : Rat) (ths : List Rat) (old : Nat) : Nat :=
  let up := (ths.filter fun x => decide (x ≤ t)).length
  let stay := min old (ths.filter fun x => decide (x - hyst ≤ t)).length
  max up stay

/-- Changes what the model keeps of a sensor. -/
def State.modSensor (s : State) (i : Fin 38) (f : Sensor → Sensor) : State :=
  { s with thm := { s.thm with sensor := s.thm.sensor.set i (f s.thm.sensor[i]) } }

/-- The new level of a sensor: each rise is journalled and raises interrupt source 5 (R595). -/
def State.sensorLevel (s : State) (i : Fin 38) (t : Rat) : State :=
  let old := s.fld (Fld.THM_T_LVL i)
  let l := levelOf t (s.par 50 40 0) [s.thmPar i 1, s.thmPar i 2, s.thmPar i 4] old
  let s := s.setFld (Fld.THM_T_LVL i) l
  if l ≤ old then s
  else
    let s := when (l == 3) (·.setFlag (Fld.THM_T_FAULT_SEEN i) true) s
    (s.journal 0x0701 i.val (s.reg (Reg.THM_T i))).irq 5

/-- The rise of a sensor within 1 s (R595). -/
def State.sensorRise (s : State) (i : Fin 38) (t : Rat) : State :=
  match s.thm.sensor[i].hist[999]? with
  | none => s
  | some t0 =>
    let th := s.thmPar i 5
    if th < t - t0 then s.setFlag (Fld.THM_T_RISE i) true
    else if t - t0 < th / 2 then s.setFlag (Fld.THM_T_RISE i) false
    else s

/-- A sensor with no valid reading (R594). `fitted` is false for an NTC that is not fitted, which is no failure. -/
def State.sensorFail (s : State) (i : Fin 38) (fitted : Bool) : State :=
  let s := ((s.setFlag (Fld.THM_T_VALID i) false).setFlag (Fld.THM_T_RISE i) false).setFld (Fld.THM_T_LVL i) 0
  if !fitted || s.thm.sensor[i].told then s
  else (s.modSensor i fun p => { p with told := true }).journal 0x0700 i.val (s.reg (Reg.THM_T i))

/-- One evaluation of a sensor; an invalid reading is no temperature, so that the rise starts anew after it (R595; log entry 61). -/
def State.sensorEval (s : State) (i : Fin 38) (t : Rat) : State :=
  if !s.sensorFitted i then s.sensorFail i false
  else
    let s := s.setSfld (Fld.THM_T_TEMP i) (clampInt (-32768) 32767 (quantise (16 * t)))
    if s.sensorValid i t then
      (((s.setFlag (Fld.THM_T_VALID i) true).sensorRise i t).sensorLevel i t).modSensor i fun p =>
        { p with t := t, hist := (t :: p.hist).take 1000 }
    else (s.sensorFail i true).modSensor i fun p => { p with t := t, hist := [] }

/-- The contribution of a sensor to derating (R596). -/
def State.sensorK (s : State) (i : Fin 38) : Rat :=
  if !s.sensorFitted i then 1
  else if !s.flag (Fld.THM_T_VALID i) then s.par 50 42 0
  else if s.fld (Fld.THM_T_LVL i) = 3 then 0
  else
    let d0 := s.thmPar i 2
    let d1 := s.thmPar i 3
    let k := clampRat 0 1 ((d1 - s.thm.sensor[i].t) / (d1 - d0))
    if s.flag (Fld.THM_T_RISE i) then min k (s.par 50 41 0) else k

/-- The sensors of an axis (R596). -/
def State.axisSensors (s : State) (a : Fin 4) : List (Fin 38) :=
  sensors.filter fun i => match thmGroup i with
    | 1 => (s.axisSets a).contains (chanSet (sensorChan i).val)
    | 2 => (s.axisSets a).contains (sensorSet i)
    | _ => true

/-- k_th of an axis: it falls at once, and rises by at most 0.1 per second (R596). -/
def State.kthEval (s : State) (a : Fin 4) : State :=
  let m := ((s.axisSensors a).map s.sensorK).foldl min 1
  let old := s.thm.kth[a]
  { s with thm := { s.thm with kth := s.thm.kth.set a (if m ≤ old then m else min m (old + 1 / 10000)) } }

/-- The hottest of some sensors, by their valid readings. -/
def State.hottest (s : State) (l : List (Fin 38)) : Option (Fin 38) :=
  (l.filter fun (i : Fin 38) => s.flag (Fld.THM_T_VALID i.val)).foldl
    (fun (o : Option (Fin 38)) (i : Fin 38) => match o with
      | none => some i
      | some (j : Fin 38) => if s.thm.sensor[j].t < s.thm.sensor[i].t then some i else some j) none

/-- The throttle level (R594, R598): by the hottest valid die sensor; held at division by 2 with none valid. A pair in
arbitration takes it after its classification (R502). -/
def State.throttle (s : State) : State :=
  let l := match s.hottest [0, 1, 2, 3] with
    | none => 2
    | some i => levelOf s.thm.sensor[i].t (s.par 50 40 0) [s.par 50 43 0, s.par 50 44 0, s.par 50 45 0] (s.fld Fld.THM_STATUS_THR)
  let s := s.setFld Fld.THM_STATUS_THR l
  forAll [0, 1, 2] (fun n t => if t.pairState n == PairSt.ARBITRATE then t else t.throttlePair n) s

/-- The summary bits of THM_STATUS (R599). -/
def State.thmSummary (s : State) : State :=
  let lv (k : Nat) : Bool := sensors.any fun i => decide (k ≤ s.fld (Fld.THM_T_LVL i))
  let s := match s.hottest sensors with
    | some i => s.setFld Fld.THM_STATUS_HOT i.val
    | none => s
  let s := (s.setFlag Fld.THM_STATUS_WARN (lv 1)).setFlag Fld.THM_STATUS_DERATE (lv 2)
  let s := (s.setFlag Fld.THM_STATUS_FAULT (lv 3)).setFlag Fld.THM_STATUS_RISE (sensors.any fun i => s.flag (Fld.THM_T_RISE i))
  s.setFlag Fld.THM_STATUS_SENS_FAIL (sensors.any fun i => s.sensorFitted i && !s.flag (Fld.THM_T_VALID i))

/-- THM_EVALUATION (R592 to R598): every 1 ms in every mode from READY on, so not in a HOLD entered from Dawn. The NTCs are taken from MFE_SET_s_NTC. -/
def execThmEvaluation (die : Vector Rat 4) (gate : Vector Rat 28) (board : Vector Rat 2) (s : State) : Res :=
  if !s.awake || s.mode == .dawn || !s.sys.readied then .next s
  else
    let s := forAll sensors
      (fun i t => match thmGroup i with
        | 0 => t.sensorEval i die[Fin.ofNat 4 i.val]
        | 1 => t.sensorEval i gate[sensorChan i]
        | 2 => t.sensorEval i (t.ntcTemp (sensorSet i))
        | _ => t.sensorEval i board[Fin.ofNat 2 (i.val - 36)]) s
    .next ((forAll four (fun a t => t.kthEval a) s).throttle.thmSummary.settle)

end Sys2Proof.Machine
end

