-- ==== Sys2Proof/Machine/Dispatch.lean ====
section
/-! DEFINITION. One arm per command: the meaning of each, or its rejection by name. -/

namespace Sys2Proof.Machine

def exec (i : Instr) (s : State) : Host.Outcome State Fault Refusal :=
  match i with
  | .lockoutTrip supplies vinPresent => Sys2Proof.Machine.execLockoutTrip supplies vinPresent s
  | .lockoutFlushEnd vinPresent => Sys2Proof.Machine.execLockoutFlushEnd vinPresent s
  | .lockoutRelease => Sys2Proof.Machine.execLockoutRelease s
  | .resetNAssert => Sys2Proof.Machine.execResetNAssert s
  | .resetNRelease => Sys2Proof.Machine.execResetNRelease s
  | .wakeN samples lowUs => Sys2Proof.Machine.execWakeN samples lowUs s
  | .wakeTimer => Sys2Proof.Machine.execWakeTimer s
  | .vinReturn => Sys2Proof.Machine.execVinReturn s
  | .deepNightEntry => Sys2Proof.Machine.execDeepNightEntry s
  | .vbatCheck vbat => Sys2Proof.Machine.execVbatCheck vbat s
  | .nightDomainLoss vbat => Sys2Proof.Machine.execNightDomainLoss vbat s
  | .perstNAssert => Sys2Proof.Machine.execPerstNAssert s
  | .linkDown => Sys2Proof.Machine.execLinkDown s
  | .functionLevelReset => Sys2Proof.Machine.execFunctionLevelReset s
  | .enFall => Sys2Proof.Machine.execEnFall s
  | .enRise lowUs sc oc => Sys2Proof.Machine.execEnRise lowUs sc oc s
  | .pllLock pll => Sys2Proof.Machine.execPllLock pll s
  | .pllLockTimeout pll => Sys2Proof.Machine.execPllLockTimeout pll s
  | .strapSample prof0 prof1 split0 split1 split2 => Sys2Proof.Machine.execStrapSample prof0 prof1 split0 split1 split2 s
  | .islandGroupStart x up => Sys2Proof.Machine.execIslandGroupStart x up s
  | .islandGroupTimeout x => Sys2Proof.Machine.execIslandGroupTimeout x s
  | .bistSlotEnd slot fails => Sys2Proof.Machine.execBistSlotEnd slot fails s
  | .imageCheckDone sigOk headerOk fits svn => Sys2Proof.Machine.execImageCheckDone sigOk headerOk fits svn s
  | .bootSectionComplete n => Sys2Proof.Machine.execBootSectionComplete n s
  | .imageStartDeadline => Sys2Proof.Machine.execImageStartDeadline s
  | .profileLoad => Sys2Proof.Machine.execProfileLoad s
  | .stoPathTest gateFail inputFail => Sys2Proof.Machine.execStoPathTest gateFail inputFail s
  | .deferredStoTest inputFail => Sys2Proof.Machine.execDeferredStoTest inputFail s
  | .deferredSetStoTest x gateFail => Sys2Proof.Machine.execDeferredSetStoTest x gateFail s
  | .flashRefresh u => Sys2Proof.Machine.execFlashRefresh u s
  | .refreshDeferTimeout => Sys2Proof.Machine.execRefreshDeferTimeout s
  | .journalRewrite => Sys2Proof.Machine.execJournalRewrite s
  | .modereqDusk w => Sys2Proof.Machine.execModereqDusk w s
  | .modereqServiceEnter w => Sys2Proof.Machine.execModereqServiceEnter w s
  | .modereqServiceLeave w => Sys2Proof.Machine.execModereqServiceLeave w s
  | .serviceIdle => Sys2Proof.Machine.execServiceIdle s
  | .duskStopMax => Sys2Proof.Machine.execDuskStopMax s
  | .duskFlushDone => Sys2Proof.Machine.execDuskFlushDone s
  | .duskWaitCross => Sys2Proof.Machine.execDuskWaitCross s
  | .pwmEdge x k corrupt => Sys2Proof.Machine.execPwmEdge x k corrupt s
  | .islandCommand n gs => Sys2Proof.Machine.execIslandCommand n gs s
  | .segmentChange n gs => Sys2Proof.Machine.execSegmentChange n gs s
  | .clampEngage n gs => Sys2Proof.Machine.execClampEngage n gs s
  | .confirmedOff n frame gs => Sys2Proof.Machine.execConfirmedOff n frame gs s
  | .interlockRelease n => Sys2Proof.Machine.execInterlockRelease n s
  | .offTimeout n => Sys2Proof.Machine.execOffTimeout n s
  | .plateauArm n => Sys2Proof.Machine.execPlateauArm n s
  | .plateauLow n gs => Sys2Proof.Machine.execPlateauLow n gs s
  | .islandLinkLoss n => Sys2Proof.Machine.execIslandLinkLoss n s
  | .linkLost n => Sys2Proof.Machine.execLinkLost n s
  | .ssiLinkLost x data => Sys2Proof.Machine.execSsiLinkLost x data s
  | .gdcTestStart n => Sys2Proof.Machine.execGdcTestStart n s
  | .gdcTestDone n r => Sys2Proof.Machine.execGdcTestDone n r s
  | .blankingEnd x comparator => Sys2Proof.Machine.execBlankingEnd x comparator s
  | .scTrip x => Sys2Proof.Machine.execScTrip x s
  | .scDwellEnd x => Sys2Proof.Machine.execScDwellEnd x s
  | .ocTrip x k => Sys2Proof.Machine.execOcTrip x k s
  | .ov3Trip x => Sys2Proof.Machine.execOv3Trip x s
  | .ov3FlagClear x => Sys2Proof.Machine.execOv3FlagClear x s
  | .ov3Hold x => Sys2Proof.Machine.execOv3Hold x s
  | .dcLinkSample x v check => Sys2Proof.Machine.execDcLinkSample x v check s
  | .ov2React x => Sys2Proof.Machine.execOv2React x s
  | .uv x => Sys2Proof.Machine.execUv x s
  | .chopCheck x before after => Sys2Proof.Machine.execChopCheck x before after s
  | .chopShort x samples => Sys2Proof.Machine.execChopShort x samples s
  | .chopMinTime x => Sys2Proof.Machine.execChopMinTime x s
  | .terminalSample x u v w flag => Sys2Proof.Machine.execTerminalSample x u v w flag s
  | .crossOpenStart x u v w => Sys2Proof.Machine.execCrossOpenStart x u v w s
  | .updateBoundary x peak shunt => Sys2Proof.Machine.execUpdateBoundary x peak shunt s
  | .safetyGap x => Sys2Proof.Machine.execSafetyGap x s
  | .updateRequest x => Sys2Proof.Machine.execUpdateRequest x s
  | .phaseWrite w x phase => Sys2Proof.Machine.execPhaseWrite w x phase s
  | .inlineTrigger x => Sys2Proof.Machine.execInlineTrigger x s
  | .shuntTrigger x b v ps => Sys2Proof.Machine.execShuntTrigger x b v ps s
  | .inlineDelivery x ps busy err => Sys2Proof.Machine.execInlineDelivery x ps busy err s
  | .stuck x k => Sys2Proof.Machine.execStuck x k s
  | .sdclk x => Sys2Proof.Machine.execSdclk x s
  | .sdInputRecover x k => Sys2Proof.Machine.execSdInputRecover x k s
  | .sensorSupplyOverload => Sys2Proof.Machine.execSensorSupplyOverload s
  | .mfeSupplyRestart w => Sys2Proof.Machine.execMfeSupplyRestart w s
  | .sensorSupplyUp => Sys2Proof.Machine.execSensorSupplyUp s
  | .offsetMeasurementEnd x vals => Sys2Proof.Machine.execOffsetMeasurementEnd x vals s
  | .ground x => Sys2Proof.Machine.execGround x s
  | .dcDiverge x => Sys2Proof.Machine.execDcDiverge x s
  | .dcDivergeClear x => Sys2Proof.Machine.execDcDivergeClear x s
  | .shuntOffsetTrack x v => Sys2Proof.Machine.execShuntOffsetTrack x v s
  | .ntcSample x volts => Sys2Proof.Machine.execNtcSample x volts s
  | .overrun x => Sys2Proof.Machine.execOverrun x s
  | .loomScrub addr hit => Sys2Proof.Machine.execLoomScrub addr hit s
  | .laneParamReload x => Sys2Proof.Machine.execLaneParamReload x s
  | .kat w x => Sys2Proof.Machine.execKat w x s
  | .katDone x pass => Sys2Proof.Machine.execKatDone x pass s
  | .setClockRestart x => Sys2Proof.Machine.execSetClockRestart x s
  | .injectionPeriodEnd a => Sys2Proof.Machine.execInjectionPeriodEnd a s
  | .injectionStop a => Sys2Proof.Machine.execInjectionStop a s
  | .polarityPulseEnd a ripple => Sys2Proof.Machine.execPolarityPulseEnd a ripple s
  | .lockLost a => Sys2Proof.Machine.execLockLost a s
  | .zeroUpd a => Sys2Proof.Machine.execZeroUpd a s
  | .terminalMeasurementStart a => Sys2Proof.Machine.execTerminalMeasurementStart a s
  | .terminalMeasurementSample a => Sys2Proof.Machine.execTerminalMeasurementSample a s
  | .terminalMeasurementEnd a => Sys2Proof.Machine.execTerminalMeasurementEnd a s
  | .resumeRampEnd a => Sys2Proof.Machine.execResumeRampEnd a s
  | .attemptReset a => Sys2Proof.Machine.execAttemptReset a s
  | .startTmo a => Sys2Proof.Machine.execStartTmo a s
  | .learn w a => Sys2Proof.Machine.execLearn w a s
  | .learnAbort w a => Sys2Proof.Machine.execLearnAbort w a s
  | .speedLoopPeriod a => Sys2Proof.Machine.execSpeedLoopPeriod a s
  | .positionLoopTick a => Sys2Proof.Machine.execPositionLoopTick a s
  | .zeroSpeed a => Sys2Proof.Machine.execZeroSpeed a s
  | .holdZeroEnd a => Sys2Proof.Machine.execHoldZeroEnd a s
  | .tOffRampEnd a => Sys2Proof.Machine.execTOffRampEnd a s
  | .stopTmo a => Sys2Proof.Machine.execStopTmo a s
  | .overspeed a => Sys2Proof.Machine.execOverspeed a s
  | .shockWindowEnd a => Sys2Proof.Machine.execShockWindowEnd a s
  | .slack a => Sys2Proof.Machine.execSlack a s
  | .ventEnd a => Sys2Proof.Machine.execVentEnd a s
  | .heaveStall a => Sys2Proof.Machine.execHeaveStall a s
  | .shedCycleStart => Sys2Proof.Machine.execShedCycleStart s
  | .shedSlot a => Sys2Proof.Machine.execShedSlot a s
  | .leadFrame f => Sys2Proof.Machine.execLeadFrame f s
  | .report r => Sys2Proof.Machine.execReport r s
  | .faultNotice m => Sys2Proof.Machine.execFaultNotice m s
  | .shedApply a => Sys2Proof.Machine.execShedApply a s
  | .shareRampEnd a => Sys2Proof.Machine.execShareRampEnd a s
  | .portSample n v => Sys2Proof.Machine.execPortSample n v s
  | .encoderEdge n la lb => Sys2Proof.Machine.execEncoderEdge n la lb s
  | .indexMark n => Sys2Proof.Machine.execIndexMark n s
  | .stepInputEdge n high => Sys2Proof.Machine.execStepInputEdge n high s
  | .serialReadRequest n => Sys2Proof.Machine.execSerialReadRequest n s
  | .serialWord n v => Sys2Proof.Machine.execSerialWord n v s
  | .speedWindowEnd n v => Sys2Proof.Machine.execSpeedWindowEnd n v s
  | .amp n => Sys2Proof.Machine.execAmp n s
  | .wire n => Sys2Proof.Machine.execWire n s
  | .exc n => Sys2Proof.Machine.execExc n s
  | .fbSupply k => Sys2Proof.Machine.execFbSupply k s
  | .cmpWrite w n value => Sys2Proof.Machine.execCmpWrite w n value s
  | .load w n => Sys2Proof.Machine.execLoad w n s
  | .loadZ w n => Sys2Proof.Machine.execLoadZ w n s
  | .turnZero w n => Sys2Proof.Machine.execTurnZero w n s
  | .cmpDisarm w n => Sys2Proof.Machine.execCmpDisarm w n s
  | .cmpPulseEnd n => Sys2Proof.Machine.execCmpPulseEnd n s
  | .profileEvaluation c => Sys2Proof.Machine.execProfileEvaluation c s
  | .limit n neg reached => Sys2Proof.Machine.execLimit n neg reached s
  | .stall c => Sys2Proof.Machine.execStall c s
  | .refCheck c => Sys2Proof.Machine.execRefCheck c s
  | .halt w c => Sys2Proof.Machine.execHalt w c s
  | .engage w c => Sys2Proof.Machine.execEngage w c s
  | .disengage w c => Sys2Proof.Machine.execDisengage w c s
  | .setPos w c => Sys2Proof.Machine.execSetPos w c s
  | .safetyCycle clockOk stillEnabled => Sys2Proof.Machine.execSafetyCycle clockOk stillEnabled s
  | .stoInputFall inp => Sys2Proof.Machine.execStoInputFall inp s
  | .stoInputRise inp => Sys2Proof.Machine.execStoInputRise inp s
  | .stoDisc => Sys2Proof.Machine.execStoDisc s
  | .tSs1 a => Sys2Proof.Machine.execTSs1 a s
  | .tStoAfterSbc a => Sys2Proof.Machine.execTStoAfterSbc a s
  | .tSlsEntry a => Sys2Proof.Machine.execTSlsEntry a s
  | .stoTestDue => Sys2Proof.Machine.execStoTestDue s
  | .stoTestOverdue => Sys2Proof.Machine.execStoTestOverdue s
  | .safetyCycleOverrun => Sys2Proof.Machine.execSafetyCycleOverrun s
  | .sealCheck intact => Sys2Proof.Machine.execSealCheck intact s
  | .islandScrub double => Sys2Proof.Machine.execIslandScrub double s
  | .stageOpen h target => Sys2Proof.Machine.execStageOpen h target s
  | .sealStaging h crc => Sys2Proof.Machine.execSeal h crc s
  | .sealFlashDone written => Sys2Proof.Machine.execSealFlashDone written s
  | .stageAbort h => Sys2Proof.Machine.execStageAbort h s
  | .stagingTimeout => Sys2Proof.Machine.execStagingTimeout s
  | .safeInputSample levels outs => Sys2Proof.Machine.execSafeInputSample levels outs s
  | .siFilterPass n level => Sys2Proof.Machine.execSiFilterPass n level s
  | .disc n => Sys2Proof.Machine.execDisc n s
  | .testPulse k starts => Sys2Proof.Machine.execTestPulse k starts s
  | .stOvl k => Sys2Proof.Machine.execStOvl k s
  | .stRetry k => Sys2Proof.Machine.execStRetry k s
  | .outputPulse n starts => Sys2Proof.Machine.execOutputPulse n starts s
  | .overload n => Sys2Proof.Machine.execOverload n s
  | .supply low => Sys2Proof.Machine.execSupply low s
  | .safetyFrameTx k => Sys2Proof.Machine.execSafetyFrameTx k s
  | .safetyFrameCopy k routeB bytes => Sys2Proof.Machine.execSafetyFrameCopy k routeB bytes s
  | .single k => Sys2Proof.Machine.execSingle k s
  | .wdExp k => Sys2Proof.Machine.execWdExp k s
  | .lockstepMismatch n group pc => Sys2Proof.Machine.execLockstepMismatch n group pc s
  | .classification n primaryOk shadowOk checkerOk => Sys2Proof.Machine.execClassification n primaryOk shadowOk checkerOk s
  | .started n w copyOk => Sys2Proof.Machine.execStarted n w copyOk s
  | .restartTmo n => Sys2Proof.Machine.execRestartTmo n s
  | .checkerSelfCheck n silent => Sys2Proof.Machine.execCheckerSelfCheck n silent s
  | .check n w silent => Sys2Proof.Machine.execCheck n w silent s
  | .parity n => Sys2Proof.Machine.execParity n s
  | .tcmDue n half => Sys2Proof.Machine.execTcmDue n half s
  | .debugAttach n => Sys2Proof.Machine.execDebugAttach n s
  | .machineTimer n => Sys2Proof.Machine.execMachineTimer n s
  | .mtimeLoRead => Sys2Proof.Machine.execMtimeLoRead s
  | .sqTail n tail slots => Sys2Proof.Machine.execSqTail n tail slots s
  | .cqHead n head => Sys2Proof.Machine.execCqHead n head s
  | .ringEnable w r => Sys2Proof.Machine.execRingEnable w r s
  | .ringDisable w r => Sys2Proof.Machine.execRingDisable w r s
  | .nop h => Sys2Proof.Machine.execNop h s
  | .paramRead h es => Sys2Proof.Machine.execParamRead h es s
  | .paramWrite h es => Sys2Proof.Machine.execParamWrite h es s
  | .refSet h value => Sys2Proof.Machine.execRefSet h value s
  | .move h target => Sys2Proof.Machine.execMove h target s
  | .stop h => Sys2Proof.Machine.execStop h s
  | .profileSelect h => Sys2Proof.Machine.execProfileSelect h s
  | .profileStore h => Sys2Proof.Machine.execProfileStore h s
  | .axisEnable h => Sys2Proof.Machine.execAxisEnable h s
  | .axisDisable h => Sys2Proof.Machine.execAxisDisable h s
  | .scopeArm h buffer samples period regs => Sys2Proof.Machine.execScopeArm h buffer samples period regs s
  | .scopeCaptureDone dmaOk => Sys2Proof.Machine.execScopeCaptureDone dmaOk s
  | .logRead h buffer first count dmaOk => Sys2Proof.Machine.execLogRead h buffer first count dmaOk s
  | .canSend h f => Sys2Proof.Machine.execCanSend h f s
  | .weftSend h bytes => Sys2Proof.Machine.execWeftSend h bytes s
  | .funcReinitSq h => Sys2Proof.Machine.execFuncReinitSq h s
  | .funcReinitCq h => Sys2Proof.Machine.execFuncReinitCq h s
  | .funcReinitCan h => Sys2Proof.Machine.execFuncReinitCan h s
  | .funcReinitWeftPort h => Sys2Proof.Machine.execFuncReinitWeftPort h s
  | .funcReinitFeedbackPort h loopOk => Sys2Proof.Machine.execFuncReinitFeedbackPort h loopOk s
  | .funcReinitLane h => Sys2Proof.Machine.execFuncReinitLane h s
  | .deviceReset h key => Sys2Proof.Machine.execDeviceReset h key s
  | .sysReset w value => Sys2Proof.Machine.execSysReset w value s
  | .resetStart => Sys2Proof.Machine.execResetStart s
  | .stoTest h gateFail inputFail => Sys2Proof.Machine.execStoTest h gateFail inputFail s
  | .imageWrite h source offset length underRefresh dmaOk verified => Sys2Proof.Machine.execImageWrite h source offset length underRefresh dmaOk verified s
  | .imageCommit h sigOk headerOk fits svn => Sys2Proof.Machine.execImageCommit h sigOk headerOk fits svn s
  | .heaveStream h es => Sys2Proof.Machine.execHeaveStream h es s
  | .userOpcode h opcode handler => Sys2Proof.Machine.execUserOpcode h opcode handler s
  | .badOpcode h opcode => Sys2Proof.Machine.execBadOpcode h opcode s
  | .chainTimeout n => Sys2Proof.Machine.execChainTimeout n s
  | .cqSignalTimer n => Sys2Proof.Machine.execCqSignalTimer n s
  | .ringError r => Sys2Proof.Machine.execRingError r s
  | .hostLost => Sys2Proof.Machine.execHostLost s
  | .configRequest offset => Sys2Proof.Machine.execConfigRequest offset s
  | .rtcWrite w sec => Sys2Proof.Machine.execRtcWrite w sec s
  | .registerWrite w addr value size hw => Sys2Proof.Machine.execRegisterWrite w addr value size hw s
  | .trainingSet p uid addr lock clean => Sys2Proof.Machine.execTrainingSet p uid addr lock clean s
  | .retrain p => Sys2Proof.Machine.execRetrain p s
  | .weftLink p codes => Sys2Proof.Machine.execWeftLink p codes s
  | .helloTimeout p => Sys2Proof.Machine.execHelloTimeout p s
  | .hello p m => Sys2Proof.Machine.execHello p m s
  | .helloSend => Sys2Proof.Machine.execHelloSend s
  | .claim p m => Sys2Proof.Machine.execClaim p m s
  | .defend p m => Sys2Proof.Machine.execDefend p m s
  | .claimTimer => Sys2Proof.Machine.execClaimTimer s
  | .defendTimer => Sys2Proof.Machine.execDefendTimer s
  | .route p metrics => Sys2Proof.Machine.execRoute p metrics s
  | .routeSend => Sys2Proof.Machine.execRouteSend s
  | .routeAge p => Sys2Proof.Machine.execRouteAge p s
  | .data p r => Sys2Proof.Machine.execData p r s
  | .fragTmo src cls => Sys2Proof.Machine.execFragTmo src cls s
  | .sync p m => Sys2Proof.Machine.execSync p m s
  | .syncSend => Sys2Proof.Machine.execSyncSend s
  | .delayReq p => Sys2Proof.Machine.execDelayReq p s
  | .delayReqSend => Sys2Proof.Machine.execDelayReqSend s
  | .delayResp p arrival departure => Sys2Proof.Machine.execDelayResp p arrival departure s
  | .echoReq p q => Sys2Proof.Machine.execEchoReq p q s
  | .echoResp p q => Sys2Proof.Machine.execEchoResp p q s
  | .parentLoss => Sys2Proof.Machine.execParentLoss s
  | .ctxAge addr cls => Sys2Proof.Machine.execCtxAge addr cls s
  | .canFrameRx c f => Sys2Proof.Machine.execCanFrameRx c f s
  | .canTxDone c => Sys2Proof.Machine.execCanTxDone c s
  | .arbitrationLost c => Sys2Proof.Machine.execArbitrationLost c s
  | .canError c e => Sys2Proof.Machine.execCanError c e s
  | .canBusOn c => Sys2Proof.Machine.execCanBusOn c s
  | .txDominantTimeout c => Sys2Proof.Machine.execTxDominantTimeout c s
  | .abort w c bufs => Sys2Proof.Machine.execAbort w c bufs s
  | .pop w c => Sys2Proof.Machine.execPop w c s
  | .thmEvaluation die gate board => Sys2Proof.Machine.execThmEvaluation die gate board s
  | .journalWrite => Sys2Proof.Machine.execJournalWrite s
  | .consoleChar c => Sys2Proof.Machine.execConsoleChar c s
  | .consoleAbort => Sys2Proof.Machine.execConsoleAbort s
  | .status => Sys2Proof.Machine.execStatus s
  | .rd addr n pins => Sys2Proof.Machine.execRd addr n pins s
  | .wr addr value hw => Sys2Proof.Machine.execWr addr value hw s
  | .par p value => Sys2Proof.Machine.execPar p value s
  | .log n => Sys2Proof.Machine.execLog n s
  | .logSeq seq n => Sys2Proof.Machine.execLogSeq seq n s
  | .atest q => Sys2Proof.Machine.execAtest q s
  | .atestOff => Sys2Proof.Machine.execAtestOff s
  | .service => Sys2Proof.Machine.execService s
  | .serviceExit => Sys2Proof.Machine.execServiceExit s
  | .dusk => Sys2Proof.Machine.execDusk s
  | .dawnRetry => Sys2Proof.Machine.execDawnRetry s
  | .reset key hard => Sys2Proof.Machine.execReset key hard s
  | .gdc n => Sys2Proof.Machine.execGdc n s
  | .gdcSelftest n => Sys2Proof.Machine.execGdcSelftest n s
  | .gdcPulse n us => Sys2Proof.Machine.execGdcPulse n us s
  | .gdcDead h => Sys2Proof.Machine.execGdcDead h s
  | .psp x => Sys2Proof.Machine.execPsp x s
  | .pspSctest x sc ov3 => Sys2Proof.Machine.execPspSctest x sc ov3 s
  | .chopTest x step => Sys2Proof.Machine.execChopTest x step s
  | .cross x => Sys2Proof.Machine.execCross x s
  | .pwm x => Sys2Proof.Machine.execPwm x s
  | .pwmSkew x node => Sys2Proof.Machine.execPwmSkew x node s
  | .pwmRun x du dv dw => Sys2Proof.Machine.execPwmRun x du dv dw s
  | .mfe x => Sys2Proof.Machine.execMfe x s
  | .mfeZero x => Sys2Proof.Machine.execMfeZero x s
  | .mfeXc x => Sys2Proof.Machine.execMfeXc x s
  | .mfeSupplyOn => Sys2Proof.Machine.execMfeSupplyOn s
  | .loom x => Sys2Proof.Machine.execLoom x s
  | .loomKat x => Sys2Proof.Machine.execLoomKat x s
  | .loomTime x => Sys2Proof.Machine.execLoomTime x s
  | .pos a => Sys2Proof.Machine.execPos a s
  | .posTerm a => Sys2Proof.Machine.execPosTerm a s
  | .posInj a ldh lqh => Sys2Proof.Machine.execPosInj a ldh lqh s
  | .posLearn a => Sys2Proof.Machine.execPosLearn a s
  | .spd a => Sys2Proof.Machine.execSpd a s
  | .spdLim a => Sys2Proof.Machine.execSpdLim a s
  | .lsh a => Sys2Proof.Machine.execLsh a s
  | .lshMembers a => Sys2Proof.Machine.execLshMembers a s
  | .lshDrop a n => Sys2Proof.Machine.execLshDrop a n s
  | .fbi n => Sys2Proof.Machine.execFbi n s
  | .fbiWatch n => Sys2Proof.Machine.execFbiWatch n s
  | .fbiLoop n ok => Sys2Proof.Machine.execFbiLoop n ok s
  | .fbiCmp n value spacing => Sys2Proof.Machine.execFbiCmp n value spacing s
  | .pt m => Sys2Proof.Machine.execPt m s
  | .prg c => Sys2Proof.Machine.execPrg c s
  | .prgLim c => Sys2Proof.Machine.execPrgLim c s
  | .prgJog c n => Sys2Proof.Machine.execPrgJog c n s
  | .sfi => Sys2Proof.Machine.execSfi s
  | .sfiAx a => Sys2Proof.Machine.execSfiAx a s
  | .sfiSto => Sys2Proof.Machine.execSfiSto s
  | .sfiTest gateFail inputFail => Sys2Proof.Machine.execSfiTest gateFail inputFail s
  | .sfiList => Sys2Proof.Machine.execSfiList s
  | .sfiSeal crc => Sys2Proof.Machine.execSfiSeal crc s
  | .si => Sys2Proof.Machine.execSi s
  | .so => Sys2Proof.Machine.execSo s
  | .sc k => Sys2Proof.Machine.execSc k s
  | .lck => Sys2Proof.Machine.execLck s
  | .lckCheck n silent => Sys2Proof.Machine.execLckCheck n silent s
  | .lckHist n => Sys2Proof.Machine.execLckHist n s
  | .hif => Sys2Proof.Machine.execHif s
  | .hifSq n => Sys2Proof.Machine.execHifSq n s
  | .hifCq n => Sys2Proof.Machine.execHifCq n s
  | .hifNop n => Sys2Proof.Machine.execHifNop n s
  | .wft => Sys2Proof.Machine.execWft s
  | .wftPort p => Sys2Proof.Machine.execWftPort p s
  | .wftRoute addr => Sys2Proof.Machine.execWftRoute addr s
  | .wftPing addr n => Sys2Proof.Machine.execWftPing addr n s
  | .wftReinit p => Sys2Proof.Machine.execWftReinit p s
  | .can c => Sys2Proof.Machine.execCan c s
  | .canLoop c ok => Sys2Proof.Machine.execCanLoop c ok s
  | .canRx c => Sys2Proof.Machine.execCanRx c s
  | .thm => Sys2Proof.Machine.execThm s
  | .perstNRelease => Sys2Proof.Machine.execPerstNRelease s
  | .linkUp speed width => Sys2Proof.Machine.execLinkUp speed width s
  | .flashOperationComplete op ok => Sys2Proof.Machine.execFlashOperationComplete op ok s
  | .testEnd => Sys2Proof.Machine.execTestEnd s
  | .egressFrameSent p => Sys2Proof.Machine.execEgressFrameSent p s
  | .conflictWait => Sys2Proof.Machine.execConflictWait s
  | .protocolException c => Sys2Proof.Machine.execProtocolException c s
  | .canIntegration c => Sys2Proof.Machine.execCanIntegration c s

end Sys2Proof.Machine
end

