-- ==== Sys2Proof/Machine/Tick.lean ====
section
/-! DEFINITION. What time alone does: one nanosecond of the device's own reference. It is what a step does while no
command waits (log entry 5). Everything that the spec starts at a time of its own is a command of the table. -/

namespace Sys2Proof.Machine

/-- Powered time (R83, R500), the RTC (R83, R637), the wake timer (R638), the time in NIGHT on VBAT (R77) and the age of the STO path test (R435) advance. A Night
domain without supply counts nothing (R646). -/
def State.tickNight (s : State) : State :=
  let rtc := s.mode != .deepNight && !s.sys.nightDead
  let s := when s.sys.vinPresent (fun t => { t with sys := { t.sys with poweredNs := t.sys.poweredNs + 1 } }) s
  let s := when rtc (·.rtcCount) s
  let s := when (s.mode == .night && s.flag Fld.PMU_WAKE_RUN) (fun t =>
      let n := t.sys.wakeNs + 1
      let left := (t.par 10 22 0 - (n : Rat) / 60_000_000_000).floor.toNat
      { t with sys := { t.sys with wakeNs := n } }.setFld Fld.PMU_WAKE_REMAIN left) s
  let s := when (s.mode == .night && s.sys.nightOnVbat) (fun t => { t with sys := { t.sys with vbatNs := t.sys.vbatNs + 1 } }) s
  when (if s.flag Fld.PMU_NIGHT_RTC_VALID then rtc else s.sys.vinPresent) (fun t =>
      if t.sys.testNs + 1 < 86_400_000_000_000 then { t with sys := { t.sys with testNs := t.sys.testNs + 1 } }
      else { t with sys := { t.sys with testNs := 0 } }.incSat Fld.SFI_STATUS_SINCE_TEST) s

/-- Weft time advances by one nanosecond and the rate correction in force, whole nanoseconds at a time (R25, R566). -/
def State.tickWeft (s : State) : State :=
  let f := s.wft.frac + 1 + s.wft.rate / 1_000_000
  let n := f.floor
  { s with weft := s.weft + BitVec.ofInt 64 n, wft := { s.wft with frac := f - (n : Rat) } }

/-- TRANS_H of every pair counts the TRANSIENTs of the last 3,600 s (R500). -/
def State.tickTransients (s : State) : State :=
  forAll four
    (fun n t =>
      let h := ((t.cp[n].stamps).filter fun (k : Nat) => decide (t.sys.poweredNs ≤ k + hourNs)).length
      let t := t.setFld (Fld.LCK_CNT_TRANS_H n) (min h 15)
      when (n == 3) (·.setFld Fld.SFI_STATUS_TRANS_H (min h 15)) t) s

/-- The egress utilisation of the millisecond that ends, 0.1 % per code at 3.2 ns a byte (R548, R574). -/
def State.tickUtil (s : State) (p : Fin 4) : State :=
  let u := s.wft.port[p].sent * 32 / 10_000
  (s.setFld (Fld.WFT_P_UTIL_UTIL p) (min u 1000)).modPort p fun q => { q with sent := 0 }

/-- Every port sends what has become due and what a slot no longer holds back (R554, R561). -/
def State.tickPorts (s : State) : State :=
  let s := when (s.sys.poweredNs % 1_000_000 = 0) (fun t => forAll four (fun p u => u.tickUtil p) t) s
  forAll four (fun p t => (t.duePoll p).portPoll p) s

/-- The time of a Dawn from its zero event, until it ends or stops (R86, R97). -/
def State.tickDawn (s : State) : State :=
  when s.dawning (fun t => { t with sys := { t.sys with dawnNs := t.sys.dawnNs + 1 } }) s

/-- One nanosecond. Weft time counts from the lock of the 400 MHz PLL (R25); what depends on it stands still before. -/
def State.tick (s : State) : State :=
  let s := s.tickNight.tickDawn
  if s.awake && s.flag Fld.SYS_CLK_PLL400 then s.tickWeft.tickTransients.tickPorts.scopeSample.serve.deadPoll.conPoll else s

end Sys2Proof.Machine
end

