-- ==== Sys2Proof/Machine/Atest.lean ====
section
/-! DEFINITION. The ATEST meter output (R614, R615 and the field tests of each chapter): the voltage on ATEST_P for the quantity
selected. -/

namespace Sys2Proof.Machine

/-- A quantity at 2.000 V for full scale. Of a full scale of 0 the spec states no reading: the output is then `open_`. -/
def atFullScale (v full open_ : Rat) : Rat := if full = 0 then open_ else 2 * v / full

/-- A coded rail or threshold of a gate island, in V: the code up to its greatest, in steps from a base (R132, R134). -/
def gateLevel (base step : Rat) (code : Nat) : Rat := base + step * (code : Rat)

/-- The position on ATEST (R423): 0 V at LW_MIN and 2.000 V at LW_MAX of a step channel, whose COUNT it is; SOFT_MIN and SOFT_MAX of
the port, and PPROF, on an axis channel. -/
def State.atestPos (s : State) (c : Fin 8) (open_ : Rat) : Rat :=
  if isStep c then
    let lo := s.p32 43 c
    atFullScale ((s32 (s.reg (Reg.PRG_COUNT c)) : Rat) - lo) (s.p32 44 c - lo) open_
  else
    let n := s.commPort (chanAxis c)
    let lo : Rat := s32 (s.reg (Reg.FBI_SOFTMIN n))
    atFullScale ((s32 (s.reg (Reg.PRG_PPROF c)) : Rat) - lo) ((s32 (s.reg (Reg.FBI_SOFTMAX n)) : Rat) - lo) open_

/-- I_MAX of the axis that owns a lane (R266), 0 where none does. -/
def State.laneMax (s : State) (x : Fin 4) : Rat := ((s.ownerAxis x).map fun a => s.par 20 30 a.val).getD 0

/-- The gate channel whose gdc pulse runs: ATEST then shows its GS / 10 (R143). -/
def State.pulsed (s : State) : Option (Fin 28) :=
  match s.con.test with
  | some (.gdcPulse n _, _) => if s.con.begun then some n else none
  | _ => none

/-- The voltage for a quantity, in V. `phys` gives the levels that only the analogue side has: rails,
amplitudes and pins in V, the current of a sigma-delta input in A. DESIGN CHOICE (log entry 59): atest pwm shows the duty the test
commands, also where a limit or a clamp changes the compare applied (R200). -/
def State.atestOf (s : State) (phys : AtestQ → Rat) (q : AtestQ) : Rat :=
  match q with
  | .zero => 0
  | .ref => 2
  | .vin => phys q / 20
  | .v5 => phys q / 4
  | .v3p3 => phys q / 2
  | .v1p8 => phys q
  | .v0p8 => phys q
  | .vbat => phys q / 2
  | .gdcVp n =>
    if s.flag (Fld.GDC_CFG_SUPPLY n) then phys q / 10
    else gateLevel 12 (1 / 2) (min 0x10 (s.fld (Fld.GDC_CFG_VP n))) / 10
  | .gdcVn n => gateLevel 0 (-1 / 2) (min 0x14 (s.fld (Fld.GDC_CFG_VN n))) / 10
  | .gdcVoff n => s.vOff n / 10
  | .gdcVonmin n => s.vOnMin n / 10
  | .pspScth x => (max 0x14 (min 0xF0 (s.fld (Fld.PSP_SC_TH x))) : Nat) / 100
  | .pspOv3 x => s.level (Fld.PSP_OV3UV_OV3 x) / 1000
  | .pspVdc x => (s.fld (Fld.MFE_VDC_VDC x) : Rat) / 10_000
  | .pwmDuty x k =>
    match s.pwm[x].duties with
    | some c => 2 * (1 - ((if k = 0 then c.u else if k = 1 then c.v else c.w) : Rat) / (s.fullScale x : Rat))
    | none => 0
  | .mfePs x k =>
    if s.sdMode x k then atFullScale (phys q) (s.iFs x k) (phys q) else phys q / 5
  | .mfeShunt _ => phys q * 10
  | .mfeVdctv x => (s.fld (Fld.MFE_VDC_VTV x) : Rat) * 4 / 10_000
  | .mfeNtc x => s.mfe[x].ntcV
  | .mfeSupplyP => phys q / 10
  | .mfeSupplyN => phys q / 10
  | .loomId x => atFullScale (f32Val (s.reg (Reg.LOOM_ID x))) (s.laneMax x) (phys q)
  | .loomIq x => atFullScale (f32Val (s.reg (Reg.LOOM_IQ x))) (s.laneMax x) (phys q)
  | .loomVq x => atFullScale (f32Val (s.reg (Reg.LOOM_VQ x)) * Config.sqrt 3) s.mfe[x].vdc (phys q)
  | .posTheta a => 2 * (s.fld (Fld.POS_ANGLE_THETA a) : Rat) / 65_536
  | .posSpeed a => atFullScale (f32Val (s.reg (Reg.POS_SPEED a))) (s.par 22 10 a.val) (phys q)
  | .spdNref a => atFullScale (f32Val (s.reg (Reg.SPD_NREF a))) (s.par 24 4 a.val) (phys q)
  | .spdNact a => atFullScale (f32Val (s.reg (Reg.SPD_NACT a))) (s.par 24 4 a.val) (phys q)
  | .spdTref a => atFullScale (f32Val (s.reg (Reg.SPD_TREF a))) (max (s.par 24 30 a.val) (s.par 24 32 a.val)) (phys q)
  | .lshShare a => 2 * f32Val (s.reg (Reg.LSH_SHARE a))
  | .fbiAmp n => 2 * s.fb[n].amp
  | .fbiExc n => if s.fb[n].excOff then 0 else ((max 0x14 (min 0x46 (s.fld (Fld.FBI_RES_EXCV n))) : Nat) : Rat) / 100
  | .fbiSup k => if s.fb[Fin.ofNat 4 (2 * k.val)].supply then phys q / 10 else 0
  | .prgPos c => s.atestPos c (phys q)
  | .sfiVs => phys q / 10
  | .sfiSo n => if n.val % 2 = 1 then phys q / 10 else if s.so[Fin.ofNat 4 (n.val / 2)].hi then phys .sfiVs / 10 else 0
  | .sfiSt _ => phys q / 10
  | .thm i => s.thm.sensor[i].t / 100

/-- The voltage on ATEST_P (R614): GS / 10 while gdc pulse runs (R143); 0 V with no selection, and while the quantity selected is out of range for the state. The hold of an
extreme for 10 ms, the converter's 1 µs, the bandwidth and the tolerances are the analogue side's (log entry 59). -/
def State.atestOut (s : State) (phys : AtestQ → Rat) : Rat :=
  match s.pulsed, s.con.atest with
  | some n, _ => s.gc[n].gs / 10
  | none, some q => if s.atestOk q then s.atestOf phys q else 0
  | none, none => 0

end Sys2Proof.Machine
end

