-- ==== Sys2Proof/Safety.lean ====
section
/-! DEFINITION. The terms that the statements are made in: what a command comes to, which states are in good form, and
what a safe power stage is. -/

namespace Sys2Proof.Machine

/-- The command answers a next state, and that state has a property. -/
def Completes (c : Instr) (s : State) (p : State → Prop) : Prop := ∃ t, exec c s = .next t ∧ p t

/-- The command answers a next state that is the common evaluation (R162) of a state with a property: what the command
itself does shows in that state. -/
def Settles (c : Instr) (s : State) (p : State → Prop) : Prop := ∃ u, exec c s = .next u.settle ∧ p u

/-- Whether a descriptor reaches its own rules: its ring runs, no pair that handles it is between a mismatch and the end of its restart
(R497), and neither HOLD (R530) nor a failed CP_0 (R501) turns it away. -/
def State.takes (s : State) (h : Desc) (op : Nat) : Bool :=
  s.awake && s.ringRuns h && !(handlers op).any s.pairAway && !(s.mode == .hold && !inHold op) && !(byCp0 op && s.flag (Fld.LCK_STATUS_FAILED 0))

/-- Whether a requester's write to a register that acts on what is written is let through (R8, R22, R628, R629). -/
def State.writable (s : State) (w : Writer) (a : Nat) : Bool := s.awake && !s.deaf a && !s.barred w

/-- Whether a console command is executed now: none runs, and CP_0 firmware serves it or it is of the hardware subset
(R610, R612). -/
def State.conFree (s : State) (hw : Bool) : Bool := s.awake && !s.con.busy && (hw || !s.flag Fld.SVC_STATUS_HWONLY)

/-- The console command leaves a state that `f` makes of the one with its line taken from the buffer. -/
def Serves (c : Instr) (s : State) (f : State → State) : Prop := exec c s = .next (f s.takeLine).conNext

/-- Whether a gate-switching test can start: in SERVICE, no other one running, STO_A, STO_B and EN high (R616). -/
def State.mayTest (s : State) : Bool := s.mode == .service && s.con.test.isNone && s.stoBothHigh && s.flag Fld.PSP_REQ_EN

/-- The state with a gate-switching test marked as running; `runsOn`: the console takes other commands meanwhile (R616). -/
def State.testing (s : State) (k : GateTestKind) (x : Option (Fin 4)) (runsOn : Bool) : State :=
  ({ s with con := { s.con with test := some (k, x), begun := false, busy := !runsOn } } : State).setFlag Fld.SVC_STATUS_TEST true

/-- Every sparse bank of the state stands in its canonical form: the registers, the device record and the working copy, the
stored profiles, and the system SRAM (log entry 1). -/
def State.banksWf (s : State) : Prop :=
  Bank.wfRegs s.regs = true ∧ Bank.wfParams s.params = true ∧ Bank.wfParams s.sys.record = true ∧
    (∀ p : Fin 4, Bank.wfParams s.slots[p].params = true) ∧ Memory.wf s.sram = true

/-- No half-bridge has the on commands of both its switches past the interlock (R114, R115). -/
def State.interlocked (s : State) : Prop :=
  ∀ (x : Fin 4) (k : Fin 3), ¬(s.gc[hiChan x k].cmd = true ∧ s.gc[loChan x k].cmd = true)

/-- A set whose six phase gates are all commanded off. -/
def State.phasesOffNow (s : State) (x : Fin 4) : Prop := ∀ n ∈ phaseChans x, s.gc[n].cmd = false

/-- What a command never touches here: the parameters, the stored profiles and the firmware images. -/
def State.sameStore (s t : State) : Prop :=
  t.params = s.params ∧ t.slots = s.slots ∧ t.images = s.images ∧ t.topology = s.topology ∧ t.classW = s.classW

end Sys2Proof.Machine
end

