-- ==== Sys2Proof/Certificates/Slice0/Obligations.lean ====
section
/-! DEFINITION. The statements for the provers, family by family: what the commands do, where each completes, and what every
step keeps. -/

open Sys2Proof Sys2Proof.Machine

/-- What holds the device in reset and what starts a Dawn. R40, R54, R59 to R61, R515, R634: the lock-out, RESET_N and
accepted resets. A trip of the lock-out resets the device while the journal flushes; the end of the flush starts the
release filter, or NIGHT on VBAT; the release of a filtering lock-out starts Dawn; RESET_N resets at its fall and
starts Dawn at its rise; an accepted reset starts at its time with the cause that named it. That a command meets the
lock-out in the states `filtering`, `released`, `flushing` and `off` is the model's form of R58 to R61. -/
def Obligations.ResetSequence : Prop :=
  (∀ (supplies : BitVec 6) (vin : Bool) (s : State), s.sys.lockout = .filtering ∨ s.sys.lockout = .released →
      Completes (.lockoutTrip supplies vin) s fun t =>
      t.sys.lockout = .flushing ∧ t.sys.inReset = true ∧ t.sys.pinsHighZ = true ∧ t.sys.startCause = 1 ∧ t.sys.resetReq = none) ∧
  (∀ (s : State), s.sys.lockout = .flushing → s.journalFlush.mode ≠ .night → exec (.lockoutFlushEnd true) s =
      .next { s.journalFlush with
      sys := { s.journalFlush.sys with vinPresent := true, lockout := .filtering, wakeLatched := none } }) ∧
  (∀ (s : State), s.sys.lockout = .flushing → s.journalFlush.mode ≠ .night → exec (.lockoutFlushEnd false) s =
      .next (({ s.journalFlush with sys := { s.journalFlush.sys with vinPresent := false } } : State).enterNight true false)) ∧
  (∀ (vin : Bool) (s : State), s.sys.lockout = .flushing → s.journalFlush.mode = .night → exec (.lockoutFlushEnd vin) s =
      .next (({ s.journalFlush with sys := { s.journalFlush.sys with vinPresent := vin } } : State).nightAgain vin)) ∧
  (∀ (s : State), s.sys.lockout = .filtering → s.sys.resetLow = false → exec .lockoutRelease s =
      .next (({ s with sys := { s.sys with lockout := .released, vinPresent := true, nightDead := false } } : State).startDawn
      s.sys.startCause)) ∧
  (∀ (s : State), s.awake = true → s.sys.resetLow = false → exec .resetNAssert s =
      .next (({ s with sys := { s.sys with resetLow := true } } : State).resetNow (s.sys.resetReq.getD 2))) ∧
  (∀ (s : State), s.sys.inReset = true → s.sys.lockout = .released → exec .resetNRelease s =
      .next (({ s with sys := { s.sys with resetLow := false } } : State).startDawn s.sys.startCause)) ∧
  (∀ (c : BitVec 8) (s : State), s.awake = true → s.sys.resetReq = some c → exec .resetStart s = .next (s.resetNow c)) ∧
  (∀ (w : Writer) (s : State), s.writable w Reg.SYS_RESET = true → s.allStopped = true →
      exec (.sysReset w 0xD5E7) s = .next (s.requestReset 4)) ∧
  (∀ (w : Writer) (s : State), s.writable w Reg.SYS_RESET = true → s.allStopped = false →
      exec (.sysReset w 0xD5E7) s = .next (s.setFld Fld.SYS_MODE_REQ_RES 3)) ∧
  (∀ (h : Desc) (s : State), s.takes h 0x19 = true → h.hard = true ∨ s.allStopped = true →
      exec (.deviceReset h 0xD5E7) s = .next ((s.complete h 0x19 St.SUCCESS).requestReset 3)) ∧
  (∀ (s : State), s.awake = true → exec .functionLevelReset s = .next (s.linkOff.pcieLost.requestReset 5))

/-- What a reset leaves and what the start of a Dawn changes. R50, R54, R605, R634, R635: a reset leaves the device held
in reset with its outputs in the state of R50, the pending request gone and the parameters at the device record; the
start of a Dawn ends the hold in reset, leaves the outputs as they are and names the start cause. What of the state is
kept over a reset is the model's reading (log entry 26). -/
def Obligations.ResetAndDawnStart : Prop :=
  (∀ (s : State), s.deviceReset.sys.inReset = true ∧ s.deviceReset.sys.pinsHighZ = true ∧ s.deviceReset.sys.resetReq = none ∧
      s.deviceReset.params = s.sys.record ∧ s.deviceReset.slots = s.slots ∧ s.deviceReset.images = s.images ∧
      s.deviceReset.pending = s.pending ∧ s.deviceReset.gc = State.reset.gc ∧ s.deviceReset.sram = [] ∧
      s.deviceReset.sys.active = none) ∧
  (∀ (s : State) (c : BitVec 8),
      (s.startDawn c).sys.inReset = false ∧ (s.startDawn c).sys.pinsHighZ = s.sys.pinsHighZ ∧ (s.startDawn c).sys.startCause = c ∧
      (s.startDawn c).sys.dawnCount = s.sys.dawnCount + 1 ∧ (s.startDawn c).sys.resetReq = none) ∧
  (∀ (s : State) (c : BitVec 8),
      (s.requestReset c).sys.resetReq = some (s.sys.resetReq.getD c) ∧ (s.requestReset c).regs = s.regs) ∧
  (∀ (s : State) (source : BitVec 2),
      (s.wake source).sys.lockout = .filtering ∧ (s.wake source).sys.inReset = true ∧ (s.wake source).sys.startCause = 6 ∧
      (s.wake source).sys.wakeLatched = none ∧ (s.wake source).mode = .dawn ∧
      (s.wake source).fld Fld.PMU_NIGHT_WAKE = source.toNat ∧ (s.wake source).reg Reg.PMU_WAKE = 0)

/-- The wake sources, the entry to DEEP NIGHT, the check of VBAT and the loss of the Night domain. R41, R63, R77, R82,
R83, R646. WAKE_N qualified by 33 samples wakes from NIGHT with source code 1, and is latched while NIGHT is being
entered; fewer samples change nothing outside DEEP NIGHT; in DEEP NIGHT 2.0 ms wake and less than 0.5 ms change
nothing. The wake timer wakes from NIGHT with code 2 once it has run for the minutes of P10.022, and changes nothing
before. A return of +24V wakes with code 3 where PMU_NIGHT.ORIGIN reads 0 (SUPPLY), and leaves NIGHT on VBAT in NIGHT
on +24V where it reads 1 (DUSK). More than P10.020 hours in NIGHT on VBAT end in DEEP NIGHT with PMU_NIGHT.DEEP 1,
RTC_VALID 0 and the wake timer at 0; before, nothing changes. VBAT_CHECK shows in VBAT_LOW whether VBAT is below 2.2
V. With +24V absent the Night domain keeps its contents at 2.2 V or more and loses all four registers below 1.5 V.
That a domain which has lost its contents makes no check of VBAT until it is supplied again is the model's choice (log
entry 27). -/
def Obligations.NightAndWake : Prop :=
  (∀ (samples lowUs : Nat) (s : State), s.mode = .night → s.sys.inReset = false → s.sys.lockout ≠ .flushing →
      33 ≤ samples → exec (.wakeN samples lowUs) s = .next (s.wake 1)) ∧
  (∀ (samples lowUs : Nat) (s : State), s.mode ≠ .deepNight → samples < 33 → exec (.wakeN samples lowUs) s = .next s) ∧
  (∀ (samples lowUs : Nat) (s : State), s.mode = .deepNight → 2000 ≤ lowUs → exec (.wakeN samples lowUs) s = .next (s.wake 1)) ∧
  (∀ (samples lowUs : Nat) (s : State), s.mode = .deepNight → lowUs < 500 → exec (.wakeN samples lowUs) s = .next s) ∧
  (∀ (s : State), s.mode = .night → s.sys.inReset = false → s.sys.lockout ≠ .flushing → s.flag Fld.PMU_WAKE_RUN = true →
      s.par 10 22 0 * 60_000_000_000 ≤ (s.sys.wakeNs : Rat) → exec .wakeTimer s = .next (s.wake 2)) ∧
  (∀ (s : State), (s.sys.wakeNs : Rat) < s.par 10 22 0 * 60_000_000_000 → exec .wakeTimer s = .next s) ∧
  (∀ (samples lowUs : Nat) (s : State), s.mode ≠ .deepNight → s.enteringNight = true → 33 ≤ samples →
      exec (.wakeN samples lowUs) s = .next { s with sys := { s.sys with wakeLatched := some (s.sys.wakeLatched.getD 1) } }) ∧
  (∀ (s : State), s.sys.lockout = .off → (s.mode = .night → s.sys.nightOnVbat = true) →
      s.flag Fld.PMU_NIGHT_ORIGIN = false →
      exec .vinReturn s = .next (({ s with sys := { s.sys with vinPresent := true, nightDead := false } } : State).wake 3)) ∧
  (∀ (s : State), s.sys.lockout = .off → s.mode = .night → s.sys.nightOnVbat = true → s.flag Fld.PMU_NIGHT_ORIGIN = true →
      exec .vinReturn s = .next (let t := s.setFld Fld.SYS_MODE_MODE Mode.night.code
      { t with sys := { t.sys with vinPresent := true, nightDead := false, nightOnVbat := false } })) ∧
  (∀ (s : State), s.mode = .night → s.sys.inReset = false → s.sys.nightOnVbat = true → s.parOn 10 20 0 = true →
      s.par 10 20 0 * 3_600_000_000_000 < (s.sys.vbatNs : Rat) → exec .deepNightEntry s =
      .next ((((s.setFlag Fld.PMU_NIGHT_DEEP true).setFlag Fld.PMU_NIGHT_RTC_VALID false).setReg Reg.PMU_WAKE 0).setFld Fld.SYS_MODE_MODE 0)) ∧
  (∀ (s : State), (s.sys.vbatNs : Rat) ≤ s.par 10 20 0 * 3_600_000_000_000 → exec .deepNightEntry s = .next s) ∧
  (∀ (vbat : Rat) (s : State), s.mode ≠ .deepNight → s.sys.nightDead = false ∨ 11 / 5 ≤ vbat → exec (.vbatCheck vbat) s =
      .next (({ s with sys := { s.sys with nightDead := false } } : State).setFlag Fld.PMU_LOCKOUT_VBAT_LOW (decide (vbat < 11 / 5)))) ∧
  (∀ (vbat : Rat) (s : State), s.mode ≠ .deepNight → s.sys.nightDead = true → vbat < 11 / 5 →
      exec (.vbatCheck vbat) s = .next { s with sys := { s.sys with nightDead := true } }) ∧
  (∀ (vbat : Rat) (s : State), s.sys.vinPresent = true ∨ 11 / 5 ≤ vbat → exec (.nightDomainLoss vbat) s = .next s) ∧
  (∀ (vbat : Rat) (s : State), s.sys.vinPresent = false → vbat < 3 / 2 → Completes (.nightDomainLoss vbat) s fun t =>
      t.reg Reg.PMU_LOCKOUT = 0 ∧ t.reg Reg.PMU_NIGHT = 0 ∧ t.reg Reg.PMU_RTC = 0 ∧ t.reg Reg.PMU_WAKE = 0 ∧ t.sys.rtcNs = 0 ∧ t.sys.nightDead = true)

/-- The commands of a running Dawn: clocks, straps, islands and BIST. R25, R55, R85 to R88, R90, R93, R645. `dawning` is
an awake device in DAWN that has not failed. A PLL locks: its flag and REF_OK are set, Weft time starts from 0 with
the 400 MHz PLL, and step 0x01 is reached with both; a first time-out is counted, a second stops Dawn with cause 0x02.
Five straps whose samples agree give SYS_STRAP, the split pairs and the DAWN entry; samples that differ stop Dawn with
cause 0x01. The group of a set starts with its channels as given, and a channel that is not up at the time-out marks
the set unavailable. A BIST slot takes the consequences of its failing units and reaches the next step, or stops Dawn
with the cause of the first unit that is fatal. -/
def Obligations.DawnSteps : Prop :=
  (∀ (p : Pll) (s : State), s.dawning = true → s.flag (pllField p) = false → Completes (.pllLock p) s fun t =>
      t.flag (pllField p) = true ∧ t.flag Fld.SYS_CLK_REF_OK = true ∧ (p = .pll400 → t.weft = 0) ∧ (p = .pll800 → t.weft = s.weft) ∧
      (s.flag Fld.SYS_CLK_PLL400 = true ∨ s.flag Fld.SYS_CLK_PLL800 = true → t.dawnStep = 1)) ∧
  (∀ (p : Pll) (s : State), s.dawning = true → s.flag (pllField p) = false → s.sys.pllTries.testBit (pllBit p) = false →
      exec (.pllLockTimeout p) s =
      .next { s.setFlag Fld.SYS_CLK_REF_OK true with sys := { s.sys with pllTries := s.sys.pllTries + 2 ^ pllBit p } }) ∧
  (∀ (p : Pll) (s : State), s.dawning = true → s.flag (pllField p) = false → s.sys.pllTries.testBit (pllBit p) = true →
      exec (.pllLockTimeout p) s = .next ((s.setFlag Fld.SYS_CLK_REF_OK true).dawnFail 0x02 0)) ∧
  (∀ (a b c d e : Bool) (s : State), s.dawning = true → s.dawnStep = 1 →
      exec (.strapSample (if a then 0xFF else 0) (if b then 0xFF else 0) (if c then 0xFF else 0) (if d then 0xFF else 0) (if e then 0xFF else 0)) s =
      .next (let code := a.toNat + 2 * b.toNat + 4 * c.toNat + 8 * d.toNat + 16 * e.toNat
      (forAll (α := Fin 4) [0, 1, 2] (fun n t => t.setFlag (Fld.LCK_STATUS_SPLIT n) (code.testBit (2 + n.val)))
      (((s.setFld ⟨Reg.SYS_STRAP, 8, 5⟩ code).reach 2).setFld ⟨Reg.SYS_STRAP, 0, 5⟩ code)).dawnEntry)) ∧
  (∀ (a b c d e : BitVec 8) (s : State), s.dawning = true → s.dawnStep = 1 → (∃ v ∈ [a, b, c, d, e], v ≠ 0 ∧ v ≠ 0xFF) →
      Completes (.strapSample a b c d e) s fun t => t.flag Fld.SYS_DAWN_FAILED = true ∧ t.fld Fld.SYS_DAWN_CAUSE = 1) ∧
  (∀ (x : Fin 4) (up : BitVec 9) (s : State), s.dawning = true → 2 ≤ s.dawnStep → s.dawnStep ≤ 4 →
      Settles (.islandGroupStart x up) s fun u =>
      u.sys.islandsUp = s.sys.islandsUp ||| (1#4 <<< x.val) ∧ u.psp[x].linkFlag = up.getLsbD 7 ∧ u.psp[x].linkData = up.getLsbD 8 ∧
      u.dawnStep = if x = 3 then 4 else max 3 s.dawnStep) ∧
  (∀ (x : Fin 4) (unit : Nat) (s : State), s.dawning = true → s.sys.islandsUp.getLsbD x.val = true →
      s.groupDown x = some unit → exec (.islandGroupTimeout x) s = .next ((s.setUnavailable x).dawnUnit unit)) ∧
  (∀ (slot : Fin 4) (fails : List BistUnit) (s : State), s.dawning = true → s.dawnStep = 4 + slot.val →
      ((fails.filter fun u => bistSlot u == slot.val).findSome? bistFatal) = none → exec (.bistSlotEnd slot fails) s =
      .next (let t : State := (forAll (fails.filter fun u => bistSlot u == slot.val) (fun u t => t.bistFail u) (if slot = 1 then { s with sys := { s.sys with journalChecked := !(fails.filter fun u => bistSlot u == slot.val).contains .journal } } else s));
      ((if slot = 0 then { t with sys := { t.sys with imageTry := some (t.flag Fld.SYS_BOOT_PREFER) } } else t).reach (5 + slot.val)).settle)) ∧
  (∀ (slot : Fin 4) (fails : List BistUnit) (cause unit : Nat) (s : State), s.dawning = true → s.dawnStep = 4 + slot.val →
      ((fails.filter fun u => bistSlot u == slot.val).findSome? bistFatal) = some (cause, unit) →
      exec (.bistSlotEnd slot fails) s =
      .next ((forAll (fails.filter fun u => bistSlot u == slot.val) (fun u t => t.bistFail u) (if slot = 1 then { s with sys := { s.sys with journalChecked := !(fails.filter fun u => bistSlot u == slot.val).contains .journal } } else s)).dawnFail cause unit))

/-- The commands of a running Dawn: images, the profile and the STO path test. R90 to R92, R96, R435, R492. An image that
passes is loaded; the preferred one that does not gives way to the other, and the other stops Dawn with cause 0x20. A
boot section is marked done. CP_0 or CP_3 not started at the deadline stops Dawn with cause 0x21 or 0x31. The profile
load marks the profile loaded. The STO path test that passes reaches READY, and a failing part stops Dawn with cause
0x30; the deferred parts of the test that pass are done with. -/
def Obligations.DawnImages : Prop :=
  (∀ (b sig header fits : Bool) (svn : BitVec 16) (s : State), s.sys.imageTry = some b → s.dawning = true →
      s.imageOk b sig header fits svn = true → Completes (.imageCheckDone sig header fits svn) s fun t =>
      t.sys.imageTry = none ∧ t.sys.imageOk = true ∧ t.flag Fld.SYS_BOOT_BOOTED = b ∧ t.images[imageIx b].svn = svn) ∧
  (∀ (b sig header fits : Bool) (svn : BitVec 16) (s : State), s.sys.imageTry = some b → s.dawning = true →
      s.flag Fld.SYS_BOOT_PREFER = b → s.imageOk b sig header fits svn = false → exec (.imageCheckDone sig header fits svn) s =
      .next { s.setFlag (imageFail b) true with sys := { s.sys with imageTry := some (!b) } }) ∧
  (∀ (b sig header fits : Bool) (svn : BitVec 16) (s : State), s.sys.imageTry = some b → s.dawning = true →
      s.flag Fld.SYS_BOOT_PREFER = !b → s.imageOk b sig header fits svn = false → exec (.imageCheckDone sig header fits svn) s =
      .next (({ s.setFlag (imageFail b) true with sys := { s.sys with imageTry := none } } : State).dawnFail 0x20 0)) ∧
  (∀ (n : Fin 4) (s : State), s.dawning = true → s.sys.imageOk = true → exec (.bootSectionComplete n) s =
      .next { s with sys := { s.sys with sectionsDone := s.sys.sectionsDone ||| (1#4 <<< n.val) } }) ∧
  (∀ (s : State), s.dawning = true → s.notStarted = [0] → exec .imageStartDeadline s = .next ((s.pairFailed 0).dawnFail 0x21 0)) ∧
  (∀ (s : State), s.dawning = true → s.notStarted = [3] → exec .imageStartDeadline s = .next ((s.pairFailed 3).dawnFail 0x31 3)) ∧
  (∀ (s : State), s.dawning = true → s.dawnStep = 8 → s.sys.pairStarted.getLsbD 0 = true →
      s.sys.pairStarted.getLsbD 3 = true → Settles .profileLoad s fun u => u.sys.profileLoaded = true) ∧
  (∀ (s : State), s.dawning = true → s.dawnStep = 9 → s.stoBothHigh = true → ((∀ x, s.inAsc x = false)) →
      exec (.stoPathTest none none) s =
      .next (let u := ((({ s.reach 0x0A with sys := { s.sys with stoSetDeferred := 0, stoInputsDeferred := false } } : State).stoTestPassed.reach
      0x0B).setMode .ready)
      ({ u with sys := { u.sys with pinsHighZ := false } } : State).portEnable.chooseParent.refreshCheck.settle)) ∧
  (∀ (n : Fin 28) (i : Option StoInput) (s : State), s.dawning = true → s.dawnStep = 9 → ((∀ x, s.inAsc x = false)) →
      Completes (.stoPathTest (some n) i) s fun t => t.flag Fld.SYS_DAWN_FAILED = true ∧ t.fld Fld.SYS_DAWN_CAUSE = 0x30 ∧ t.fld Fld.SYS_DAWN_UNIT = n.val) ∧
  (∀ (s : State), s.awake = true → s.mode ≠ .dawn → s.sys.stoInputsDeferred = true → s.stoBothHigh = true →
      exec (.deferredStoTest none) s =
      .next ({ s with sys := { s.sys with stoInputsDeferred := false } }.stoTestPassed).settle) ∧
  (∀ (x : Fin 4) (s : State), s.awake = true → s.mode ≠ .dawn → s.sys.stoSetDeferred.getLsbD x.val = true →
      s.inPulseBlock x = true → s.setFree x = true → exec (.deferredSetStoTest x none) s =
      .next ({ s with sys := { s.sys with stoSetDeferred := s.sys.stoSetDeferred &&& ~~~(1#4 <<< x.val) } }.stoTestPassed).settle)

/-- Requests for Dusk and SERVICE, the end of SERVICE, and the steps of Dusk. R77, R81, R98, R99, R101. A request for Dusk
enters it from READY and RUN, is ignored in DUSK, and reads REQ_RES 2 elsewhere. A request for SERVICE is granted
where `serviceResult` is 1, and that is the case in READY with every axis STOPPED, both DC-link measurements of every
set below 60.0 V and CROSS clear on every set; otherwise REQ_RES shows the result. A request to leave SERVICE leaves
it; so does SERVICE_IDLE once more than P60.010 seconds have passed since the last console character or the entry, and
not before. DUSK_STOP_MAX disables every axis once more than P10.021 seconds have passed since the entry to Dusk, and
not before. In Dusk with every set in pulse block and CROSS clear the flush ends in NIGHT; a set with CROSS set is
journalled with its number. -/
def Obligations.ModeRequests : Prop :=
  (∀ (w : Writer) (s : State), s.writable w Reg.SYS_MODEREQ = true → s.mode = .ready ∨ s.mode = .run →
      exec (.modereqDusk w) s = .next s.enterDusk) ∧
  (∀ (w : Writer) (s : State), s.writable w Reg.SYS_MODEREQ = true → s.mode = .dusk → exec (.modereqDusk w) s = .next s) ∧
  (∀ (w : Writer) (s : State), s.writable w Reg.SYS_MODEREQ = true → s.mode ≠ .ready → s.mode ≠ .run → s.mode ≠ .dusk →
      exec (.modereqDusk w) s = .next (s.reqRes 2)) ∧
  (∀ (w : Writer) (s : State), s.writable w Reg.SYS_MODEREQ = true → s.serviceResult = 1 →
      exec (.modereqServiceEnter w) s = .next (((s.reqRes 1).setMode .service).startTimer .idle).settle) ∧
  (∀ (w : Writer) (s : State), s.writable w Reg.SYS_MODEREQ = true → s.serviceResult ≠ 1 →
      exec (.modereqServiceEnter w) s = .next (s.reqRes s.serviceResult)) ∧
  (∀ (s : State), (s.serviceResult = 1 ↔ s.mode = .ready ∧ s.allStopped = true ∧
      (∀ x : Fin 4, s.psp[x].vdc < 60 ∧ s.vDcTv x < 60 ∧ s.cross x = false))) ∧
  (∀ (w : Writer) (s : State), s.writable w Reg.SYS_MODEREQ = true → s.mode = .service →
      exec (.modereqServiceLeave w) s = .next (s.reqRes 1).leaveService.settle) ∧
  (∀ (s : State), s.mode = .service → s.overdue .idle (s.par 60 10 0 * 1_000_000_000) = true →
      exec .serviceIdle s = .next s.leaveService.settle) ∧
  (∀ (s : State), s.overdue .idle (s.par 60 10 0 * 1_000_000_000) = false → exec .serviceIdle s = .next s) ∧
  (∀ (s : State), s.mode = .dusk → s.overdue .dusk (s.par 10 21 0 * 1_000_000_000) = true →
      exec .duskStopMax s = .next (forAll four (fun a t => t.axisDisable a) s).settle) ∧
  (∀ (s : State), s.overdue .dusk (s.par 10 21 0 * 1_000_000_000) = false → exec .duskStopMax s = .next s) ∧
  (∀ (s : State), s.duskReady = true →
      exec .duskFlushDone s = .next ((s.endFlash.journalFw 0x0106 0).journalFlush.enterNight false true)) ∧
  (∀ (x : Fin 4) (s : State), s.mode = .dusk → four.find? (fun x => s.cross x) = some x →
      exec .duskWaitCross s = .next (s.journal 0x0107 x.val))

/-- The fall and the rise of EN. R80, R129, R164, R616. The fall of EN disables every axis and ends a gate-switching test
with ERR FAIL. Its rise after at least 10 µs low clears the faults that `clearFaults` finds without their cause; after
a shorter low, and in HOLD, it clears none. -/
def Obligations.EnInput : Prop :=
  (∀ (s : State), s.awake = true →
      exec .enFall s = .next ((forAll four (fun a t => t.axisDisable a) (s.putEn false)).endTest "FAIL").settle) ∧
  (∀ (lowUs : Nat) (sc : BitVec 4) (oc : BitVec 12) (s : State), s.awake = true → s.mode ≠ .hold → 10 ≤ lowUs →
      exec (.enRise lowUs sc oc) s = .next ((s.putEn true).clearFaults sc oc).settle) ∧
  (∀ (lowUs : Nat) (sc : BitVec 4) (oc : BitVec 12) (s : State), s.awake = true → s.mode = .hold ∨ lowUs < 10 →
      exec (.enRise lowUs sc oc) s = .next (s.putEn true).settle)

/-- Refreshes of the flash, the rewriting of the journal, and the journal controller. R74, R75, R83, R607. FLASH_REFRESH
adds its unit to those that wait, and `nextRefresh` starts the first that may start: with no flash operation running
and no unit waiting before, it is the unit named. REFRESH_DEFER_TIMEOUT makes all six units wait. JOURNAL_REWRITE
leaves every entry as it stands. JOURNAL_WRITE writes the oldest entry of the queue. -/
def Obligations.FlashAndJournal : Prop :=
  (∀ (u : FlashUnit) (s : State), s.awake = true → s.flag (Fld.LCK_STATUS_FAILED 1) = false →
      exec (.flashRefresh u) s = .next ({ s with sys := { s.sys with refreshWant := s.sys.refreshWant ||| (1#6 <<< (refreshIx u).val) } } : State).nextRefresh) ∧
  (∀ (u : FlashUnit) (s : State), s.awake = true → s.mode ≠ .dawn → s.mode ≠ .dusk →
      s.flag (Fld.LCK_STATUS_FAILED 1) = false → s.sys.flashBusy = none → s.sys.refreshWant = 0 →
      exec (.flashRefresh u) s = .next { s with sys := { s.sys with flashBusy := some (.refresh u), refreshWant := 0 } }) ∧
  (∀ (s : State), s.awake = true → s.sys.refreshDue = true → s.flag Fld.PMU_NIGHT_RTC_VALID = false →
      s.flag (Fld.LCK_STATUS_FAILED 1) = false → exec .refreshDeferTimeout s =
      .next ({ s with sys := { s.sys with refreshDue := false, refreshWant := 0x3F } } : State).nextRefresh) ∧
  (∀ (s : State), exec .journalRewrite s = .next s) ∧
  (∀ (s : State), s.sys.lockout ≠ .off → exec .journalWrite s = .next s.journalOut)

/-- PERST_N, the PCI Express link and the loss of the host. R39, R511, R515, R534, R538: PERST_N low resets every ring and
counts as the loss of the host; the link shows in HIF_STATUS while it stands; without LOCAL its end is the loss of the
host. -/
def Obligations.PcieLink : Prop :=
  (∀ (s : State), s.awake = true →
      exec .perstNAssert s = .next ({ s with hif := { s.hif with perstLow := true } } : State).resetRings.linkOff.pcieLost) ∧
  (∀ (s : State), exec .perstNRelease s = .next { s with hif := { s.hif with perstLow := false } }) ∧
  (∀ (s : State), s.awake = true → exec .linkDown s = .next s.linkOff.pcieLost) ∧
  (∀ (speed width : BitVec 2) (s : State), s.awake = true → s.hif.perstLow = false → s.dawnFailed = false →
      Completes (.linkUp speed width) s fun t =>
      t.flag Fld.HIF_STATUS_LINK_UP = true ∧ t.fld Fld.HIF_STATUS_SPEED = speed.toNat ∧ t.fld Fld.HIF_STATUS_WIDTH = width.toNat) ∧
  (∀ (s : State), s.flag Fld.HIF_CFG_LOCAL = true → s.pcieLost = s) ∧
  (∀ (s : State), s.flag Fld.HIF_CFG_LOCAL = false → s.pcieLost = s.hostLost)

/-- Gate commands, the cross-barrier interlock, confirmation and the plateau check. R109, R110, R112, R115, R117, R119,
R125, R177. An edge of the PWM unit on a phase of a set in RUN, or that a SERVICE test uses, asks for its switch and
takes the companion's request back: as the corrupted edge says, and otherwise as the crossing of the counter says; on
any other set it changes nothing. The interlock commands a channel whose request it held on once the companion is off,
asks for nothing and is confirmed off, and leaves it while the companion is not. An on command that reaches an island
releases its clamp and, with its enable present, turns the gate on and starts the arming time of the plateau check; an
off command turns the gate off and ends the check. A segment change never goes back. The clamp engages with CLAMP_EN,
commanded off and GS below V_CLAMP, and not otherwise. A frame that shows GS below V_OFF of a channel commanded off
confirms it off, with the time it took where one was awaited; with no frame, or GS not below V_OFF, the channel is not
confirmed. A confirmation later than T_CONF_MAX latches OFF_TIMEOUT and drops a held request of the companion. The
plateau check, armed, latches PLATEAU_LOW below V_ON_MIN and stays armed. -/
def Obligations.GateCommands : Prop :=
  (∀ (x : Fin 4) (k : Fin 3) (hi lo : Option Bool) (s : State), s.gateOwned x = true →
      exec (.pwmEdge x k (some (hi, lo))) s = .next ((s.askPair x k hi lo).shootCheck x).settle) ∧
  (∀ (x : Fin 4) (k : Fin 3) (s : State), s.gateOwned x = true → s.pwmDrives x = true → s.pwm[x].active = true →
      s.crosses x k = true → exec (.pwmEdge x k none) s =
      .next ((s.askPair x k (some (!s.flag (Fld.PWM_STATUS_HALF x))) (some (s.flag (Fld.PWM_STATUS_HALF x)))).shootCheck x).settle) ∧
  (∀ (x : Fin 4) (k : Fin 3) (s : State),
      s.askPair x k (some false) (some true) = (s.chanOff (hiChan x k)).requestOn (loChan x k) ∧ s.askPair x k (some true) (some false) = (s.chanOff (loChan x k)).requestOn (hiChan x k)) ∧
  (∀ (x : Fin 4) (k : Fin 3) (c : Option (Option Bool × Option Bool)) (s : State), s.gateOwned x = false →
      exec (.pwmEdge x k c) s = .next s) ∧
  (∀ (n : Fin 24) (s : State), s.gc[(n.castLE (by decide) : Fin 28)].request = true →
      s.gc[(n.castLE (by decide) : Fin 28)].cmd = false → s.gc[companion (n.castLE (by decide))].request = false →
      s.released (n.castLE (by decide)) = true → s.gateTesting (n.castLE (by decide)) = false →
      Settles (.interlockRelease n) s fun u =>
      u.gc[(n.castLE (by decide) : Fin 28)].cmd = true ∧ u.gc[companion (n.castLE (by decide))].cmd = false) ∧
  (∀ (n : Fin 24) (s : State), s.gc[companion (n.castLE (by decide))].confOff = false → exec (.interlockRelease n) s = .next s) ∧
  (∀ (n : Fin 28) (gs : Rat) (s : State), s.gc[n].cmd = false → Settles (.islandCommand n gs) s fun u =>
      u.gc[n].gateOn = false ∧ u.gc[n].armTimer = false ∧ u.gc[n].armed = false ∧ u.gc[n].cmd = false ∧ u.gc[n].gs = gs) ∧
  (∀ (n : Fin 28) (gs : Rat) (s : State), s.gc[n].cmd = true → Settles (.islandCommand n gs) s fun u =>
      u.gc[n].gateOn = (s.flag (Fld.GDC_STATUS_ENABLE n) || decide (24 ≤ n.val)) ∧ u.gc[n].armTimer = u.gc[n].gateOn ∧ u.gc[n].confOff = false ∧
      u.gc[n].gs = gs ∧ u.flag (Fld.GDC_STATUS_CMD n) = true ∧ u.flag (Fld.GDC_STATUS_CLAMP n) = false ∧ u.flag (Fld.GDC_STATUS_CONF_OFF n) = false) ∧
  (∀ (n : Fin 28) (gs : Rat) (s : State), exec (.segmentChange n gs) s =
      .next ((s.setFld (Fld.GDC_STATUS_SEG n) (max (s.fld (Fld.GDC_STATUS_SEG n)) (s.segment n (s.flag (Fld.GDC_STATUS_CMD n)) gs))).sense n gs)) ∧
  (∀ (n : Fin 28) (gs : Rat) (s : State), s.flag (Fld.GDC_CFG_CLAMP_EN n) = true → s.flag (Fld.GDC_STATUS_CMD n) = false →
      gs < s.vClamp n → exec (.clampEngage n gs) s = .next (s.setFlag (Fld.GDC_STATUS_CLAMP n) true)) ∧
  (∀ (n : Fin 28) (gs : Rat) (s : State),
      s.flag (Fld.GDC_CFG_CLAMP_EN n) = false ∨ s.flag (Fld.GDC_STATUS_CMD n) = true ∨ s.vClamp n ≤ gs →
      exec (.clampEngage n gs) s = .next s) ∧
  (∀ (n : Fin 28) (gs : Rat) (s : State), 24 ≤ n.val ∨ s.gc[n].awaitConf = false → gs < s.vOff n →
      s.flag (Fld.GDC_STATUS_CMD n) = false → exec (.confirmedOff n (some true) gs) s =
      .next ((((s.sense n gs).frameIn n).setFlag (Fld.GDC_STATUS_CONF_OFF n) true).modGc n
      fun g => { g with confOff := true, awaitConf := false, confAt := if g.confOff then g.confAt else s.sys.poweredNs })) ∧
  (∀ (n : Fin 28) (gs : Rat) (s : State), n.val < 24 → s.gc[n].awaitConf = true → gs < s.vOff n →
      s.flag (Fld.GDC_STATUS_CMD n) = false → Completes (.confirmedOff n (some true) gs) s fun t =>
      t.flag (Fld.GDC_STATUS_CONF_OFF n) = true ∧ t.gc[n].confOff = true ∧ t.gc[n].awaitConf = false ∧
      t.fld (Fld.GDC_TCONF_LAST n) = min (2 * (s.sys.poweredNs - s.gc[n].offAt) / 5) 0xFFFF) ∧
  (∀ (n : Fin 28) (gs : Rat) (s : State), exec (.confirmedOff n none gs) s = .next (s.unconfirm n)) ∧
  (∀ (n : Fin 24) (s : State), s.gc[(n.castLE (by decide) : Fin 28)].awaitConf = true →
      s.gc[(n.castLE (by decide) : Fin 28)].confOff = false →
      s.gc[(n.castLE (by decide) : Fin 28)].offAt + s.tConfMax (n.castLE (by decide)) < s.sys.poweredNs →
      (s.modGc (n.castLE (by decide)) fun g => { g with awaitConf := false }).gc[companion (n.castLE (by decide))].cmd = true →
      exec (.offTimeout n) s =
      .next ((s.modGc (n.castLE (by decide)) fun g => { g with awaitConf := false }).gateFault (n.castLE (by decide))
      (Fld.GDC_FAULT_OFF_TIMEOUT (n.castLE (by decide) : Fin 28))).settle) ∧
  (∀ (n : Fin 24) (s : State), s.gc[(n.castLE (by decide) : Fin 28)].awaitConf = true →
      s.gc[(n.castLE (by decide) : Fin 28)].confOff = false →
      s.gc[(n.castLE (by decide) : Fin 28)].offAt + s.tConfMax (n.castLE (by decide)) < s.sys.poweredNs →
      (s.modGc (n.castLE (by decide)) fun g => { g with awaitConf := false }).gc[companion (n.castLE (by decide))].cmd = false →
      exec (.offTimeout n) s =
      .next ((((s.modGc (n.castLE (by decide)) fun g => { g with awaitConf := false }).modGc (companion (n.castLE (by decide)))
      fun g => { g with request := false }).setFlag (Fld.GDC_STATUS_HELD (companion (n.castLE (by decide)))) false).gateFault
      (n.castLE (by decide)) (Fld.GDC_FAULT_OFF_TIMEOUT (n.castLE (by decide) : Fin 28))).settle) ∧
  (∀ (n : Fin 24) (s : State), s.gc[(n.castLE (by decide) : Fin 28)].confOff = true → exec (.offTimeout n) s = .next s) ∧
  (∀ (n : Fin 28) (s : State), s.gc[n].armTimer = true →
      exec (.plateauArm n) s = .next (s.modGc n fun g => { g with armTimer := false, armed := true })) ∧
  (∀ (n : Fin 28) (gs : Rat) (s : State), (s.sense n gs).gc[n].armed = true → gs < (s.sense n gs).vOnMin n →
      exec (.plateauLow n gs) s =
      .next ((s.sense n gs).gateFault n (Fld.GDC_FAULT_PLATEAU_LOW n)).settle)

/-- Lost barrier channels and the comparator self-test. R13, R126, R130, R131. An island without frames for 64 frame times
keeps its gate where it is a low side and its last frame carried the ASC marker, and drives it off otherwise; a marker
that changed within the 800 ns did not reach it. The control side latches LINK_LOST, clears LINK and no longer holds
the channel confirmed; the loss of a channel of an SSI latches SSI_LINK. START of a self-test in pulse block on a set
whose axis is STOPPED runs it with the channel off, and is REFUSED otherwise. The end of a running self-test shows
DONE and the result: PASS where no comparator failed, TEST_FAIL where one did. -/
def Obligations.GateLinksAndTests : Prop :=
  (∀ (n : Fin 28) (s : State), (s.gc[n].markAt.any fun (t : Nat) => decide (s.sys.poweredNs < t + 800)) = false →
      s.flag (Fld.GDC_STATUS_ASC_MARK n) = false → exec (.islandLinkLoss n) s = .next (s.forceOff n)) ∧
  (∀ (n : Fin 28) (s : State), (s.gc[n].markAt.any fun (t : Nat) => decide (s.sys.poweredNs < t + 800)) = false →
      s.flag (Fld.GDC_STATUS_ASC_MARK n) = true → n.val < 24 ∧ n.val % 2 = 1 → exec (.islandLinkLoss n) s = .next s) ∧
  (∀ (n : Fin 28) (s : State), (s.gc[n].markAt.any fun (t : Nat) => decide (s.sys.poweredNs < t + 800)) = true →
      s.flag (Fld.GDC_STATUS_ASC_MARK n) = true →
      exec (.islandLinkLoss n) s = .next ((s.setFlag (Fld.GDC_STATUS_ASC_MARK n) false).forceOff n)) ∧
  (∀ (n : Fin 28) (s : State), (s.gc[n].markAt.any fun (t : Nat) => decide (s.sys.poweredNs < t + 800)) = true →
      s.flag (Fld.GDC_STATUS_ASC_MARK n) = false → n.val < 24 ∧ n.val % 2 = 1 →
      exec (.islandLinkLoss n) s = .next (s.setFlag (Fld.GDC_STATUS_ASC_MARK n) true)) ∧
  (∀ (n : Fin 28) (s : State), exec (.linkLost n) s =
      .next ((((s.setFlag (Fld.GDC_STATUS_LINK n) false).unconfirm n).modGc n fun g => { g with upSince := none }).gateFault n
      (Fld.GDC_FAULT_LINK_LOST n)).settle) ∧
  (∀ (x : Fin 4) (s : State),
      exec (.ssiLinkLost x true) s = .next ((s.modPsp x fun p => { p with linkData := false }).latchSet x [SF.SSI_LINK]).settle) ∧
  (∀ (x : Fin 4) (s : State),
      exec (.ssiLinkLost x false) s = .next ((s.modPsp x fun p => { p with linkFlag := false }).latchSet x [SF.SSI_LINK]).settle) ∧
  (∀ (n : Fin 28) (s : State), s.inPulseBlock (chanSet n) = true → s.setFree (chanSet n) = true →
      Completes (.gdcTestStart n) s fun t =>
      t.flag (Fld.GDC_TESTRES_BUSY n) = true ∧ t.flag (Fld.GDC_TESTRES_REFUSED n) = false ∧ t.gc[n].cmd = false ∧ t.gc[n].request = false) ∧
  (∀ (n : Fin 28) (s : State), s.inPulseBlock (chanSet n) = false ∨ s.setFree (chanSet n) = false →
      Completes (.gdcTestStart n) s fun t => t.flag (Fld.GDC_TESTRES_BUSY n) = false ∧ t.flag (Fld.GDC_TESTRES_REFUSED n) = true) ∧
  (∀ (n : Fin 28) (s : State), s.flag (Fld.GDC_TESTRES_BUSY n) = true →
      Completes (.gdcTestDone n { segFail := false, clampFail := false, onMinFail := false, offFail := false }) s fun t =>
      t.flag (Fld.GDC_TESTRES_BUSY n) = false ∧ t.flag (Fld.GDC_TESTRES_DONE n) = true ∧ t.flag (Fld.GDC_TESTRES_PASS n) = true ∧
      t.gc[n].testPassed = true) ∧
  (∀ (n : Fin 28) (a b c d : Bool) (s : State), s.flag (Fld.GDC_TESTRES_BUSY n) = true → (a || b || c || d) = true →
      Settles (.gdcTestDone n { segFail := a, clampFail := b, onMinFail := c, offFail := d }) s fun u =>
      u.flag (Fld.GDC_TESTRES_BUSY n) = false ∧ u.flag (Fld.GDC_TESTRES_DONE n) = true ∧ u.flag (Fld.GDC_FAULT_TEST_FAIL n) = true ∧
      u.flag (Fld.GDC_TESTRES_SEG_FAIL n) = a ∧ u.flag (Fld.GDC_TESTRES_CLAMP_FAIL n) = b ∧ u.flag (Fld.GDC_TESTRES_ONMIN_FAIL n) = c ∧
      u.flag (Fld.GDC_TESTRES_OFF_FAIL n) = d ∧ u.gc[n].testPassed = false)

/-- Short circuit, overcurrent, and the levels OV3, OV2 and UV. R7, R145 to R150. The end of a blanking interval lets a
set comparator count. A short circuit latches SC and starts the dwell, and in ASC SC_IN_ASC, with HOLD where CROSS is
set; the end of the dwell gives the chopper back to its control. An overcurrent latches its phase and starts the
dwell, and in ASC_ENTRY and ASC it is counted. OV3 sets its level and latches OV3, with OV2_REACT where OV2_PEND
stood; its flag clears alone; OV3_HOLD latches with HOLD while the level stands in ASC outside Dawn. OV2_REACT and UV
latch once T_SBC_ASC and UV_FILT have run out with OV2_PEND and the level standing, and not before. -/
def Obligations.PowerStageProtection : Prop :=
  (∀ (x : Fin 4) (b : Bool) (s : State),
      exec (.blankingEnd x b) s = .next (s.modPsp x fun p => { p with blanking := false, counting := b })) ∧
  (∀ (x : Fin 4) (s : State), s.sys.profileLoaded = true → s.psp[x].blanking = false → s.countsAsc x = false →
      exec (.scTrip x) s = .next ((s.latchSet x [SF.SC]).startDwell x).settle) ∧
  (∀ (x : Fin 4) (s : State), s.sys.profileLoaded = true → s.psp[x].blanking = false → s.countsAsc x = true →
      (s.latchSet x [SF.SC_IN_ASC]).cross x = true →
      exec (.scTrip x) s = .next ((s.latchSet x [SF.SC_IN_ASC]).latchHold 4 1).settle) ∧
  (∀ (x : Fin 4) (s : State), s.sys.profileLoaded = true → s.psp[x].blanking = false → s.countsAsc x = true →
      (s.latchSet x [SF.SC_IN_ASC]).cross x = false → exec (.scTrip x) s = .next (s.latchSet x [SF.SC_IN_ASC]).settle) ∧
  (∀ (x : Fin 4) (s : State), s.psp[x].dwell = true →
      exec (.scDwellEnd x) s = .next ((s.modPsp x fun p => { p with dwell := false }).chopControl x).settle) ∧
  (∀ (x : Fin 4) (k : Fin 3) (s : State), s.sys.profileLoaded = true → (s.fld (Fld.PSP_OC_EN x)).testBit k.val = true →
      s.inputValid x k = true → s.inAsc x = false → exec (.ocTrip x k) s = .next ((s.latchSet x [1 + k.val]).startDwell x).settle) ∧
  (∀ (x : Fin 4) (k : Fin 3) (s : State), s.sys.profileLoaded = true → (s.fld (Fld.PSP_OC_EN x)).testBit k.val = true →
      s.inputValid x k = true → s.inAsc x = true → exec (.ocTrip x k) s = .next (s.incSat (Fld.PSP_CHOPST_OC_IN_ASC x))) ∧
  (∀ (x : Fin 4) (s : State), exec (.ov3FlagClear x) s = .next ((s.setFlag (Fld.PSP_STATE_OV3_LVL x) false).flagFrame x).settle) ∧
  (∀ (x : Fin 4) (s : State), s.sys.islandsUp.getLsbD x.val = false → exec (.ov3Trip x) s = .next s) ∧
  (∀ (x : Fin 4) (s : State), s.sys.islandsUp.getLsbD x.val = true → s.mode ≠ .dawn →
      ((∀ y : Fin 4, s.flag (Fld.PSP_STATE_OV2_PEND y) = false)) →
      exec (.ov3Trip x) s = .next (((s.setFlag (Fld.PSP_STATE_OV3_LVL x) true).flagFrame x).latchSet x [SF.OV3]).settle) ∧
  (∀ (x : Fin 4) (s : State), s.sys.islandsUp.getLsbD x.val = true → s.mode ≠ .dawn →
      s.flag (Fld.PSP_STATE_OV2_PEND x) = true → s.siblings x = [] → exec (.ov3Trip x) s =
      .next ((((s.setFlag (Fld.PSP_STATE_OV3_LVL x) true).flagFrame x).setFlag (Fld.PSP_STATE_OV2_PEND x) false).latchSet x [SF.OV2_REACT, SF.OV3]).settle) ∧
  (∀ (x : Fin 4) (s : State), s.flag (Fld.PSP_STATE_OV3_LVL x) = true → s.countsAsc x = true → s.mode ≠ .dawn →
      exec (.ov3Hold x) s = .next ((s.latchSet x [SF.OV3_HOLD]).latchHold 1 0).settle) ∧
  (∀ (x : Fin 4) (s : State), s.flag (Fld.PSP_STATE_OV2_PEND x) = true →
      s.overdue (.ov2 x) (s.sbcAsc x * 1_000_000) = true → exec (.ov2React x) s = .next (s.latchOv2 x).settle) ∧
  (∀ (x : Fin 4) (s : State), s.overdue (.ov2 x) (s.sbcAsc x * 1_000_000) = false → exec (.ov2React x) s = .next s) ∧
  (∀ (x : Fin 4) (s : State), s.sys.profileLoaded = true → s.setActive x = true → s.flag (Fld.PSP_STATE_UV_LVL x) = true →
      s.overdue (.uv x) (s.par 16 24 x.val * 1_000_000) = true → exec (.uv x) s = .next (s.latchSet x [SF.UV]).settle) ∧
  (∀ (x : Fin 4) (s : State), s.overdue (.uv x) (s.par 16 24 x.val * 1_000_000) = false → exec (.uv x) s = .next s)

/-- The DC-link and terminal samples, CROSS, and the checks of the chopper. R149, R152 to R154, R156, R157. A DC-link
sample before the profile load only shows; after it the levels, the chopper, OV2, the source of CROSS and CROSS
follow, and SERVICE is left above 60 V. CROSS opens with all six phase gates reported off; a terminal sample serves
the source of CROSS that applies. A chopper check counts a void one, passes with a step within 30 % of the expected
one, and fails with every step below. CHOP_SHORT latches where every sample after 5 µs off shows more than half of
V_dc / R_BRAKE and no phase gate switches. The minimum time of the chopper ends. -/
def Obligations.LinkCrossAndChopper : Prop :=
  (∀ (x : Fin 4) (v : Rat) (check : Option Rat) (s : State), s.sys.profileLoaded = false →
      Completes (.dcLinkSample x v check) s fun t => t.psp[x].vdc = linkVolts v ∧ t.psp[x].dcCheck = (check.map termVolts).getD s.psp[x].dcCheck ∧
      t.psp[x].linkData = true ∧ t.fld (Fld.PSP_STATE_VDC x) = min (linkVolts v).floor.toNat 0x7FF) ∧
  (∀ (x : Fin 4) (v : Rat) (check : Option Rat) (s a b c : State), s.sys.profileLoaded = true →
      a = ((s.linkIn x (linkVolts v) check).linkLevels x (linkVolts v)).chopControl x →
      b = (if a.ov2Asks x then a.ov2 x else a) → c = (b.followSrc x).compareCross x → exec (.dcLinkSample x v check) s =
      .next (if c.mode = .service ∧ (60 < linkVolts v ∨ 60 < c.vDcTv x) then c.leaveService else c).settle) ∧
  (∀ (x : Fin 4) (v : Rat) (check : Option Rat) (s : State),
      (s.linkIn x v check).psp[x].vdc = v ∧ (s.linkIn x v check).sys = s.sys ∧ (s.linkIn x v check).gc = s.gc) ∧
  (∀ (x : Fin 4) (u v w : Rat) (s : State), s.allOff x = false → exec (.crossOpenStart x u v w) s = .next s) ∧
  (∀ (x : Fin 4) (u v w : Rat) (s : State), s.allOff x = true → exec (.crossOpenStart x u v w) s =
      .next ((((s.modPsp x fun p => { p with openOk := true, src := 0, bandLow := false, cross1 := none, openVals := [] }).setFld
      (Fld.PSP_STATE_CROSS_SRC x) 0).openValue x (lineToLine (termVolts u) (termVolts v) (termVolts w))).compareCross x).settle) ∧
  (∀ (x : Fin 4) (u v w : Rat) (flag : Bool) (s : State), (s.termTaken x u v w flag).psp[x].src = 2 →
      exec (.terminalSample x u v w flag) s =
      .next ((((s.termTaken x u v w flag).bandValue x (termVolts u - termVolts v) (1 / 2)).markCross x (s.termTaken x u v w flag).psp[x]).compareCross
      x).settle) ∧
  (∀ (x : Fin 4) (u v w : Rat) (flag : Bool) (s : State), (s.termTaken x u v w flag).psp[x].src = 1 →
      exec (.terminalSample x u v w flag) s =
      .next (((s.termTaken x u v w flag).modPsp x fun p =>
      { p with tvSum := p.tvSum + (termVolts u - termVolts v), tvCount := p.tvCount + 1 }).compareCross x).settle) ∧
  (∀ (x : Fin 4) (u v w : Rat) (flag : Bool) (s : State), (s.termTaken x u v w flag).psp[x].src = 0 →
      (s.termTaken x u v w flag).fld (Fld.PSP_STATE_CROSS_SRC x) = 0 → exec (.terminalSample x u v w flag) s =
      .next (((s.termTaken x u v w flag).openValue x (lineToLine (termVolts u) (termVolts v) (termVolts w))).compareCross x).settle) ∧
  (∀ (x : Fin 4) (before : Vector Rat 8) (after : List Rat) (e : Rat) (s : State),
      s.psp[x].chopCheck = some { expected := e, void := true } →
      exec (.chopCheck x before after) s = .next ((s.modPsp x fun q => { q with chopCheck := none }).incSat (Fld.PSP_CHOPST_VOID x))) ∧
  (∀ (x : Fin 4) (before : Vector Rat 8) (after : List Rat) (e : Rat) (s : State),
      s.psp[x].chopCheck = some { expected := e, void := false } →
      (∃ i ∈ (s.modPsp x fun q => { q with chopCheck := none }).chopSteps x before after, e * 7 / 10 ≤ i ∧ i ≤ e * 13 / 10) →
      exec (.chopCheck x before after) s =
      .next (((s.modPsp x fun q => { q with chopCheck := none }).setFlag (Fld.PSP_CHOPST_PASS_LAST x) true).setFlag (Fld.PSP_CHOPST_CHOP_OPEN x) false)) ∧
  (∀ (x : Fin 4) (before : Vector Rat 8) (after : List Rat) (e : Rat) (s : State),
      s.psp[x].chopCheck = some { expected := e, void := false } →
      (∀ i ∈ (s.modPsp x fun q => { q with chopCheck := none }).chopSteps x before after, i < e * 7 / 10) →
      exec (.chopCheck x before after) s =
      .next ((((s.modPsp x fun q => { q with chopCheck := none }).setFlag (Fld.PSP_CHOPST_PASS_LAST x) false).setFlag (Fld.PSP_CHOPST_CHOP_OPEN x) true).setFlag
      (Fld.PSP_CHOPST_CHOP_HIGH x) ((s.modPsp x fun q => { q with chopCheck := none }).chopSteps x before after |>.any fun i => decide (e * 13 / 10 < i)))) ∧
  (∀ (x : Fin 4) (v : Rat) (l : List Rat) (s : State), s.sys.profileLoaded = true → s.setState x = .block →
      s.phasesTested x = false → s.gc[chopChan x].cmd = false → s.gc[chopChan x].offAt + 5000 ≤ s.sys.poweredNs →
      (s.fld (Fld.PSP_CHOP_RB x) : Rat) / 1000 ≠ 0 →
      (∀ w ∈ v :: l, s.psp[x].vdc / (2 * ((s.fld (Fld.PSP_CHOP_RB x) : Rat) / 1000)) < (shuntVolts w - s.mfe[x].shOfs) / s.rShunt x) →
      exec (.chopShort x (v :: l)) s =
      .next ((s.setFlag (Fld.PSP_CHOPST_CHOP_SHORT x) true).journal 0x0202 x.val
      (toS32 (quantise ((((v :: l).map fun w => (shuntVolts w - s.mfe[x].shOfs) / s.rShunt x).getLastD 0) * 1000))))) ∧
  (∀ (x : Fin 4) (s : State), exec (.chopMinTime x) s = .next ((s.modPsp x fun p => { p with chopMin := false }).chopControl x))

/-- Update boundaries, compare sets, phase writes and the sampling triggers. R29, R180, R182, R184, R188, R189, R204,
R424, R446. Without the clocks of a set its boundaries and triggers do nothing. With them, the valley, and in double
update the peak, take the boundary and a step of the speed search; a peak in single update takes the boundary alone. A
compare set that arrives is processed into the shadow. PHASE is written through `writePhase`. The in-line trigger
fixes the sampling instant and latches the lane of an axis whose lane is not FAULTED. Window A keeps its value, and
window B ends the reconstruction, with no value where the window is missing; without a shunt the island alone has the
value. A delivery within 1.8 µs and without an error runs the lane; a residue or double-bit error, or a later one,
gives the lane fault. The 33rd update without a window value is left to the next safety cycle. -/
def Obligations.PwmAndSampling : Prop :=
  (∀ (x : Fin 4) (b : Bool) (v8 : Vector Rat 8) (v4 : Vector Rat 4) (ps : Raw3) (s : State), s.clocksRun x = false →
      exec (.updateBoundary x b v8) s = .next s ∧ exec (.inlineTrigger x) s = .next s ∧ exec (.shuntTrigger x b v4 ps) s = .next s) ∧
  (∀ (x : Fin 4) (v : Vector Rat 8) (s : State), s.clocksRun x = true → s.atBoundary x false = true →
      exec (.updateBoundary x false v) s = .next (((s.valley x v).searchUpdate x).shootCheck x).settle) ∧
  (∀ (x : Fin 4) (v : Vector Rat 8) (s : State), s.clocksRun x = true → s.atBoundary x true = true →
      (s.peak x).flag (Fld.PWM_CFG_DUAL x) = true →
      exec (.updateBoundary x true v) s = .next (((s.peak x).searchUpdate x).shootCheck x).settle) ∧
  (∀ (x : Fin 4) (v : Vector Rat 8) (s : State), s.clocksRun x = true → s.atBoundary x true = true →
      (s.peak x).flag (Fld.PWM_CFG_DUAL x) = false → exec (.updateBoundary x true v) s = .next ((s.peak x).shootCheck x).settle) ∧
  (∀ (x : Fin 4) (c : Cmp3) (s : State), s.pwm[x].sent = some c → s.clocksRun x = true →
      exec (.updateRequest x) s = .next ((s.processSet x c).2.modPwm x fun p => { p with sent := none, shadow := some (s.processSet x c).1 })) ∧
  (∀ (w : Writer) (x : Fin 4) (phase : BitVec 8) (s : State), s.writable w (Reg.PWM_PHASE x) = true →
      exec (.phaseWrite w x phase) s = .next (s.writePhase x phase)) ∧
  (∀ (x : Fin 4) (a : Fin 4) (s : State), s.clocksRun x = true → s.atSample x = true → s.ownerAxis x = some a →
      s.flag (Fld.LOOM_STATUS_FAULTED x) = false →
      exec (.inlineTrigger x) s = .next ((s.modMfe x fun m => { m with sample := s.weft }).latchLane a x)) ∧
  (∀ (x : Fin 4) (v : Vector Rat 4) (ps : Raw3) (s : State), s.clocksRun x = true → s.atWindow x false = true →
      s.windowMissing x false = false → s.fld (Fld.MFE_SHUNT_RSH x) ≠ 0 → exec (.shuntTrigger x false v ps) s =
      .next (let r := (s.islandWindow x (meanRat (v.toList.map shuntVolts))).inlineAmps x ps
      r.2.modMfe x fun m => { m with winA := some { i := ((meanRat (v.toList.map shuntVolts)) - r.2.mfe[x].shOfs) / r.2.rShunt x, t := r.2.weft, ps := r.1 } }).settle) ∧
  (∀ (x : Fin 4) (v : Vector Rat 4) (ps : Raw3) (s : State), s.clocksRun x = true → s.atWindow x true = true →
      s.windowMissing x true = false → s.fld (Fld.MFE_SHUNT_RSH x) ≠ 0 → exec (.shuntTrigger x true v ps) s =
      .next (let r := (s.islandWindow x (meanRat (v.toList.map shuntVolts))).inlineAmps x ps
      r.2.reconClass x (some { i := ((meanRat (v.toList.map shuntVolts)) - r.2.mfe[x].shOfs) / r.2.rShunt x, t := r.2.weft, ps := r.1 })).settle) ∧
  (∀ (x : Fin 4) (v : Vector Rat 4) (ps : Raw3) (s : State), s.clocksRun x = true → s.atWindow x true = true →
      s.windowMissing x true = true → exec (.shuntTrigger x true v ps) s = .next (s.reconClass x none).settle) ∧
  (∀ (x : Fin 4) (a : Fin 4) (ps : Raw3) (busy : BitVec 16) (inp : LaneIn) (s : State), s.clocksRun x = true →
      busy.toNat ≤ 0x2D0 → (s.deliver x ps).2.ownerAxis x = some a → (s.deliver x ps).2.lane[x].inp = some inp →
      (s.deliver x ps).2.flag (Fld.LOOM_STATUS_FAULTED x) = false → exec (.inlineDelivery x ps busy none) s =
      .next ((s.deliver x ps).2.laneUpdate a x inp (s.deliver x ps).1 busy true).settle) ∧
  (∀ (x : Fin 4) (a : Fin 4) (ps : Raw3) (busy : BitVec 16) (err : Option LaneErr) (inp : LaneIn) (s : State),
      s.clocksRun x = true → (s.deliver x ps).2.ownerAxis x = some a → (s.deliver x ps).2.lane[x].inp = some inp →
      (s.deliver x ps).2.flag (Fld.LOOM_STATUS_FAULTED x) = false → 0x2D0 < busy.toNat →
      exec (.inlineDelivery x ps busy err) s = .next ((s.deliver x ps).2.laneFault x (Fld.LOOM_FAULT_OVERRUN x)).settle) ∧
  (∀ (x : Fin 4) (a : Fin 4) (ps : Raw3) (busy : BitVec 16) (inp : LaneIn) (s : State), s.clocksRun x = true →
      (s.deliver x ps).2.ownerAxis x = some a → (s.deliver x ps).2.lane[x].inp = some inp →
      (s.deliver x ps).2.flag (Fld.LOOM_STATUS_FAULTED x) = false → busy.toNat ≤ 0x2D0 →
      exec (.inlineDelivery x ps busy (some .residue)) s = .next ((s.deliver x ps).2.laneFault x (Fld.LOOM_FAULT_RESIDUE x)).settle ∧
      exec (.inlineDelivery x ps busy (some .corrected)) s =
      .next (((s.deliver x ps).2.incSat (Fld.LOOM_ECC_CE x)).laneUpdate a x inp (s.deliver x ps).1 busy true).settle ∧
      (∀ addr shared, exec (.inlineDelivery x ps busy (some (.double addr shared))) s = .next ((s.deliver x ps).2.eccDue x addr shared).settle)) ∧
  (∀ (x : Fin 4) (b : Bool) (v : Vector Rat 4) (ps : Raw3) (s : State), s.clocksRun x = true → s.atWindow x b = true →
      s.windowMissing x b = false → s.fld (Fld.MFE_SHUNT_RSH x) = 0 → exec (.shuntTrigger x b v ps) s =
      .next (let t := s.islandWindow x (meanRat (v.toList.map shuntVolts))
      if b then t.reconClass x none else t.modMfe x fun m => { m with winA := none }).settle) ∧
  (∀ (x : Fin 4) (a : Fin 4) (s : State), s.ownerAxis x = some a → s.islandRuns = true → 33 ≤ s.sfs[x].gap →
      exec (.safetyGap x) s = .next { s with sfs := s.sfs.set x { s.sfs[x] with late := true } })

/-- Input faults, sensor supply, offset measurement, ground fault, DC link and NTC. R205 to R207, R211 to R213, R218,
R222. STUCK and SDCLK latch and make their inputs invalid; a recovered input is valid again unless its offset or a
cross-check holds it. SENSOR_SUPPLY_OVERLOAD switches the rails off and makes the analogue inputs invalid; RESTART
starts the rails with no axis active and is refused with one; SENSOR_SUPPLY_UP shows them on. OFFSET_MEASUREMENT_END
judges the offsets, and at the last set of a starting axis decides how it measures. GROUND latches and faults an
active axis of three valid fitted inputs. DC_DIVERGE latches while the two measurements of the link differ and clears
while they agree. The shunt offset follows with the chopper off in ASC, or in BLOCK 5 µs after the chopper. An NTC
above 100 kΩ shows OPEN and one below 100 Ω SHORT, and NTC_R the resistance in Ω. The one choice of the model here: a
sample of SHUNT_OFFSET_TRACK in ASC too (log entry 60). -/
def Obligations.MeasurementEvents : Prop :=
  (∀ (x : Fin 4) (k : Fin 3) (s : State), s.clocksRun x = true → s.fitted x k = true → s.sdMode x k = true →
      exec (.stuck x k) s =
      .next (((s.modMfe x fun m => { m with live := m.live &&& ~~~(1#3 <<< k.val) }).setFld ⟨Reg.MFE_FAULT x, 4 + k.val, 1⟩ 1).invalidate x (1#3 <<< k.val)).settle) ∧
  (∀ (x : Fin 4) (s : State), s.clocksRun x = true → s.anySd x = true → exec (.sdclk x) s =
      .next (((s.modMfe x fun q => { q with sdclk := true, live := q.live &&& ~~~s.modeMask x true }).setFlag (Fld.MFE_FAULT_SDCLK x) true).invalidate x
      (s.modeMask x true)).settle) ∧
  (∀ (x : Fin 4) (k : Fin 3) (s : State), s.clocksRun x = true → s.fitted x k = true → s.sdMode x k = true →
      (s.fld (Fld.MFE_FAULT_OFS x)).testBit k.val = true ∨ s.flag (Fld.MFE_FAULT_XCHECK x) = true ∧ s.flag (Fld.MFE_FAULT_SHUNT_SUSPECT x) = false →
      exec (.sdInputRecover x k) s =
      .next (s.modMfe x fun m => { m with sdclk := false, live := m.live ||| (1#3 <<< k.val) }).settle) ∧
  (∀ (x : Fin 4) (k : Fin 3) (s : State), s.clocksRun x = true → s.fitted x k = true → s.sdMode x k = true →
      (s.fld (Fld.MFE_FAULT_OFS x)).testBit k.val = false →
      s.flag (Fld.MFE_FAULT_XCHECK x) = false ∨ s.flag (Fld.MFE_FAULT_SHUNT_SUSPECT x) = true → exec (.sdInputRecover x k) s =
      .next (s.modMfe x fun m => { m with sdclk := false, live := m.live ||| (1#3 <<< k.val), inv := m.inv &&& ~~~(1#3 <<< k.val) }).settle) ∧
  (∀ (s : State), exec .sensorSupplyOverload s =
      .next (forAll four (fun x t => t.invalidate x (t.modeMask x false))
      (forAll four (fun x t => t.setFlag (Fld.MFE_FAULT_SUPPLY x) true)
      (({ s with railsUp := false } : State).setFlag Fld.MFE_SUPPLY_OVERLOAD true |>.setFlag Fld.MFE_SUPPLY_ON false))).settle) ∧
  (∀ (w : Writer) (s : State), s.writable w Reg.MFE_SUPPLY = true → s.noneActive = true →
      exec (.mfeSupplyRestart w) s = .next s.supplyRestart) ∧
  (∀ (w : Writer) (s : State), s.writable w Reg.MFE_SUPPLY = true → s.noneActive = false →
      exec (.mfeSupplyRestart w) s = .next (s.regLocked w Reg.MFE_SUPPLY 1)) ∧
  (∀ (s : State), s.railsUp = true →
      Settles .sensorSupplyUp s fun u => u.railsUp = false ∧ u.flag Fld.MFE_SUPPLY_ON = true ∧ u.flag Fld.MFE_SUPPLY_OVERLOAD = false) ∧
  (∀ (x : Fin 4) (vals : List (Time × Raw3)) (l : Option (List Raw3)) (s : State), s.mfe[x].ofsRun = true →
      s.clocksRun x = true → s.offsetSpan x vals = some l →
      (s.ownerAxis x).any (fun a => s.axState a == AxSt.STARTING) = false →
      exec (.offsetMeasurementEnd x vals) s = .next (s.offsetsEnd x l false).settle) ∧
  (∀ (x : Fin 4) (a : Fin 4) (vals : List (Time × Raw3)) (l : Option (List Raw3)) (s : State), s.mfe[x].ofsRun = true →
      s.clocksRun x = true → s.offsetSpan x vals = some l → s.ownerAxis x = some a → s.axState a = AxSt.STARTING →
      ((s.offsetsEnd x l true).axisSets a).any (fun y => (s.offsetsEnd x l true).mfe[y].ofsRun) = false →
      exec (.offsetMeasurementEnd x vals) s = .next ((s.offsetsEnd x l true).measDecide a).settle) ∧
  (∀ (x : Fin 4) (a : Fin 4) (s : State), s.flag (Fld.MFE_STATUS_GF_LVL x) = true → s.gfTh x ≠ 0 → s.inFallback x = false →
      s.allValid x = true → s.fld (Fld.MFE_CFG_FIT x) = 7 → s.ownerAxis x = some a → s.axActive a = true →
      exec (.ground x) s = .next ((s.setFlag (Fld.MFE_FAULT_GROUND x) true).axisFault a 3).settle) ∧
  (∀ (x : Fin 4) (s : State), s.dcAgree x = false →
      exec (.dcDiverge x) s = .next ((s.setFlag (Fld.MFE_FAULT_DC_DIVERGE x) true).latchMeas x 1).settle) ∧
  (∀ (x : Fin 4) (s : State), s.dcAgree x = true →
      exec (.dcDiverge x) s = .next s ∧ exec (.dcDivergeClear x) s = .next (s.setFlag (Fld.MFE_FAULT_DC_DIVERGE x) false)) ∧
  (∀ (x : Fin 4) (v : Rat) (s : State),
      s.countsAsc x = true ∨ s.setState x = .block ∧ s.gc[chopChan x].offAt + 5000 ≤ s.sys.poweredNs →
      s.gc[chopChan x].cmd = false → exec (.shuntOffsetTrack x v) s = .next (s.trackOffset x (shuntVolts v))) ∧
  (∀ (x : Fin 4) (volts : Rat) (s : State), 100_000 < ntcOhms volts s.mfe[x].ntcLow → Completes (.ntcSample x volts) s fun t =>
      t.flag (Fld.MFE_STATUS_NTC_OPEN x) = true ∧ t.flag (Fld.MFE_STATUS_NTC_SHORT x) = false ∧ t.fld (Fld.MFE_NTC_R x) = 0xFFFFF) ∧
  (∀ (x : Fin 4) (volts : Rat) (s : State), 0 ≤ ntcOhms volts s.mfe[x].ntcLow → ntcOhms volts s.mfe[x].ntcLow ≤ 100_000 →
      Completes (.ntcSample x volts) s fun t =>
      t.flag (Fld.MFE_STATUS_NTC_OPEN x) = false ∧ t.flag (Fld.MFE_STATUS_NTC_SHORT x) = decide (ntcOhms volts s.mfe[x].ntcLow < 100) ∧
      t.fld (Fld.MFE_NTC_R x) = (quantise (ntcOhms volts s.mfe[x].ntcLow)).toNat ∧ t.mfe[x].ntcV = volts)

/-- The lane: overrun, scrubbing, reload, known-answer test and the clocks of a set. R29, R261 to R264. OVERRUN latches
with the clocks of the set running. The scrubber does nothing for a clean word, counts a corrected one and journals a
double-bit error. A reload that was asked for is done. A request for the known-answer test waits for it, and is
REFUSED in RUN. A test that passes clears the lane faults; a first failure latches KAT_FAIL, and a second makes the
lane unavailable. The end of a test that does not run does nothing. The clocks of a set start when something needs
them, with the pipeline empty. -/
def Obligations.LaneTests : Prop :=
  (∀ (x : Fin 4) (s : State), s.clocksRun x = true →
      exec (.overrun x) s = .next (s.laneFault x (Fld.LOOM_FAULT_OVERRUN x)).settle) ∧
  (∀ (addr : BitVec 16) (x : Fin 4) (s : State),
      exec (.loomScrub addr .clean) s = .next s ∧ exec (.loomScrub addr (.corrected x)) s = .next (s.incSat (Fld.LOOM_ECC_CE x)) ∧
      Completes (.loomScrub addr (.double x)) s fun t => t.lane[x].dues = s.lane[x].dues + 1) ∧
  (∀ (x : Fin 4) (s : State), s.lane[x].reload = true →
      exec (.laneParamReload x) s = .next (s.modLane x fun l => { l with reload := false }).settle) ∧
  (∀ (w : Writer) (x : Fin 4) (s : State), s.writable w (Reg.LOOM_CMD x) = true → s.setState x ≠ .run → exec (.kat w x) s =
      .next ((s.setFlag (Fld.LOOM_STATUS_KAT_REFUSED x) false).modLane x fun l => { l with katWant := true }).settle) ∧
  (∀ (w : Writer) (x : Fin 4) (s : State), s.writable w (Reg.LOOM_CMD x) = true → s.setState x = .run →
      exec (.kat w x) s = .next (s.setFlag (Fld.LOOM_STATUS_KAT_REFUSED x) true).settle) ∧
  (∀ (x : Fin 4) (s : State), s.flag (Fld.LOOM_STATUS_KAT_BUSY x) = true → s.flag (Fld.LOOM_FAULT_UNAVAIL x) = false →
      Settles (.katDone x true) s fun u =>
      ∃ r : State, u = r.katAnswer x true ∧ r.lane[x].katFails = 0 ∧ r.lane[x].passed = true ∧ r.reg (Reg.LOOM_FAULT x) = 0) ∧
  (∀ (x : Fin 4) (s : State), s.flag (Fld.LOOM_STATUS_KAT_BUSY x) = true → Settles (.katDone x false) s fun u => ∃ r : State,
      (u = if s.lane[x].katFails = 0 then r else r.katAnswer x false) ∧ r.flag (Fld.LOOM_STATUS_KAT_BUSY x) = false ∧ r.flag (Fld.LOOM_STATUS_KAT_PASS x) = false ∧
      r.flag (Fld.LOOM_FAULT_KAT_FAIL x) = true ∧ r.lane[x].katFails = s.lane[x].katFails + 1 ∧ (s.lane[x].katFails ≠ 0 → r.flag (Fld.LOOM_FAULT_UNAVAIL x) = true)) ∧
  (∀ (x : Fin 4) (s : State), s.flag (Fld.LOOM_STATUS_KAT_BUSY x) = false →
      exec (.katDone x true) s = .next s ∧ exec (.katDone x false) s = .next s) ∧
  (∀ (x : Fin 4) (s : State), s.clockNeeded x = true → s.clocksRun x = false → Settles (.setClockRestart x) s fun u =>
      u.clocksRun x = true ∧ u.pwm[x].sent = none ∧ u.pwm[x].shadow = none ∧ u.shoot[x].inPeriod = 0)

/-- Injection, polarity, and the loss of lock. R279, R283, R285, R287, R289. A full injection period is evaluated and
counts for learning; with no start running that is all. Injection stops at or above HO_HIGH unless the map is learnt.
The first polarity pulse gives way to the second; two ripples within 2 % of each other fail the start with 0x10, a
larger second one turns the angle by half a turn, and a larger first one keeps it. Four updates out of window lose the
lock with the fault bits of their causes; the end of ZERO_UPD faults the axis. -/
def Obligations.RotorPosition : Prop :=
  (∀ (a : Fin 4) (s : State), s.flag (Fld.POS_STATUS_INJ_ON a) = true → 2 * s.injDiv a ≤ s.pos[a].injN →
      ((s.injectionPeriod a).learnPeriod a).pos[a].start = none →
      exec (.injectionPeriodEnd a) s = .next ((s.injectionPeriod a).learnPeriod a)) ∧
  (∀ (a : Fin 4) (s : State), s.flag (Fld.POS_STATUS_INJ_ON a) = true → s.hoHigh a ≤ s.absRpm a →
      s.flag (Fld.POS_MAP_LEARNING a) = false → exec (.injectionStop a) s = .next (s.stopInjection a)) ∧
  (∀ (a : Fin 4) (ripple : Rat) (st : Start) (s : State), s.pos[a].start = some st → s.pos[a].pulse = 1 →
      exec (.polarityPulseEnd a ripple) s = .next (s.modPos a fun p => { p with pulse := 2, ripP := ripple, iref := some { d := -s.iPol a, q := 0 } })) ∧
  (∀ (a : Fin 4) (ripple : Rat) (st : Start) (s : State), s.pos[a].start = some st → s.pos[a].pulse = 2 →
      ¬ s.pos[a].ripP * 102 / 100 < ripple → ¬ ripple * 102 / 100 < s.pos[a].ripP →
      exec (.polarityPulseEnd a ripple) s = .next (s.failStart a 0x10).settle) ∧
  (∀ (a : Fin 4) (ripple : Rat) (st : Start) (s : State), s.pos[a].start = some st → s.pos[a].pulse = 2 →
      s.pos[a].ripP * 102 / 100 < ripple → ¬ ripple * 102 / 100 < s.pos[a].ripP → exec (.polarityPulseEnd a ripple) s =
      .next (((s.modPos a fun p =>
      { p with pulse := 0, iref := some DQ.zero, start := some { st with result := some 2 }, thInj := fracTurn (p.thInj + 1 / 2), th := fracTurn (p.th + 1 / 2) }).setFlag
      (Fld.POS_STATUS_POL_DONE a) true).setFld (Fld.POS_STATUS_START a) 8).settle) ∧
  (∀ (a : Fin 4) (s : State), s.axActive a = true → 4 ≤ s.pos[a].outN →
      exec (.lockLost a) s = .next ((((s.setFlag (Fld.POS_FAULT_RES_ANG a) (s.pos[a].why.getLsbD 0)).setFlag (Fld.POS_FAULT_RES_MAG a)
      (s.pos[a].why.getLsbD 1)).setFlag (Fld.POS_FAULT_RES_BLEND a) (s.pos[a].why.getLsbD 2)).loseLock a).settle) ∧
  (∀ (a : Fin 4) (ripple : Rat) (st : Start) (s : State), s.pos[a].start = some st → s.pos[a].pulse = 2 →
      ripple * 102 / 100 < s.pos[a].ripP → ¬ s.pos[a].ripP * 102 / 100 < ripple → exec (.polarityPulseEnd a ripple) s =
      .next (((s.modPos a fun p => { p with pulse := 0, iref := some DQ.zero, start := some { st with result := some 2 } }).setFlag
      (Fld.POS_STATUS_POL_DONE a) true).setFld (Fld.POS_STATUS_START a) 8).settle) ∧
  (∀ (a : Fin 4) (s : State), s.pos[a].coast = true → s.axActive a = true → exec (.zeroUpd a) s = .next (s.axisFault a 4).settle)

/-- The terminal measurement, the end of a start, and learning. R7, R282, R290, R292, R293, R353. The terminal measurement
starts with the gates confirmed off; each sample extends it and finds MOVING from 60°, its end from 30° on, and SLOW
otherwise. The torque ramp of a re-lock ends after T_RESUME, and not before. ATTEMPT goes back to 0. A start from ASC
that still sees CROSS when START_TMO has run out fails with 0x12; that of the lead of a shared axis fails with a free
RESULT (log entry 46); before the time nothing happens. LEARN and LEARN_ABORT act as `learn` says and as the fields of
POS_MAP. -/
def Obligations.StartAndLearning : Prop :=
  (∀ (a : Fin 4) (s : State), s.axisExists a = true → s.gatesOff a = true → s.wantsMeasure a = true →
      s.pos[a].meas = none → exec (.terminalMeasurementStart a) s =
      .next ((s.modPos a fun p => { p with meas := some { t0 := s.weft, prev := none, adv := 0, det := true, vab := DQ.zero, con := false } }).setFld
      (Fld.POS_STATUS_START a) 3)) ∧
  (∀ (a : Fin 4) (m : Meas) (s : State), s.pos[a].meas = some m → exec (.terminalMeasurementSample a) s =
      .next (if (s.measSample a m).det && decide (1 / 6 ≤ absRat (s.measSample a m).adv) then (s.measMoving a (s.measSample a m)).settle
      else s.modPos a fun p => { p with meas := some (s.measSample a m) }) ∧
      exec (.terminalMeasurementEnd a) s =
      .next (if (s.measSample a m).det && decide (1 / 12 ≤ absRat (s.measSample a m).adv) then s.measMoving a (s.measSample a m)
      else s.measSlow a (s.measSample a m)).settle) ∧
  (∀ (a : Fin 4) (s : State), (s.spd[a].krsT0.any fun t => decide (s.par 22 43 a.val / 1000 ≤ s.since t)) = false →
      exec (.resumeRampEnd a) s = .next s) ∧
  (∀ (a : Fin 4) (s : State), s.flag (Fld.SPD_STATE_RESUME a) = true →
      (s.spd[a].krsT0.any fun t => decide (s.par 22 43 a.val / 1000 ≤ s.since t)) = true →
      exec (.resumeRampEnd a) s = .next (((s.modSpd a fun p => { p with krsT0 := none }).setFlag (Fld.SPD_STATE_RESUME a) false).setFld (Fld.SPD_FACT_KRS a) 1000)) ∧
  (∀ (a : Fin 4) (s : State), s.axState a = AxSt.RUNNING → s.flag (Fld.POS_STATUS_LOCKED a) = true →
      s.pos[a].coast = false → exec (.attemptReset a) s = .next (s.setFld (Fld.POS_STATUS_ATTEMPT a) 0)) ∧
  (∀ (a : Fin 4) (s : State), s.overdue (.start a) (s.par 22 42 a.val * 1_000_000_000) = false → exec (.startTmo a) s = .next s) ∧
  (∀ (a : Fin 4) (st : Start) (s : State), s.overdue (.start a) (s.par 22 42 a.val * 1_000_000_000) = true →
      s.pos[a].start = some st → st.asc = true → st.result = none → (s.axisSets a).any (fun x => s.cross x) = true →
      exec (.startTmo a) s = .next (s.failStart a 0x12).settle) ∧
  (∀ (a : Fin 4) (st : Start) (s : State), s.overdue (.start a) (s.par 22 42 a.val * 1_000_000_000) = true →
      s.pos[a].start = some st → st.asc = false ∨ st.result ≠ none → s.isShared a = true → s.isFollower a = false →
      st.relock = false → exec (.startTmo a) s = .next (s.freeNat.2.failStart a (s.freeNat.1 % 256)).settle) ∧
  (∀ (w : Writer) (a : Fin 4) (s : State), s.writable w (Reg.POS_CMD a) = true → s.flag (Fld.LCK_STATUS_FAILED 1) = false →
      exec (.learn w a) s = .next (s.learn a)) ∧
  (∀ (w : Writer) (a : Fin 4) (s : State), s.writable w (Reg.POS_CMD a) = true → exec (.learnAbort w a) s =
      .next ((((s.setFlag (Fld.POS_MAP_LEARNING a) false).setFlag (Fld.POS_MAP_STAGED a) false).modPos a fun p => { p with staged := none }).setFld
      (Fld.POS_MAP_LEARNED a) s.pos[a].learnt))

/-- The speed and position loops, stopping, and the shock, slack and ventilation windows. R7, R308, R311, R313, R317 to
R320, R322, R407. A speed loop period of an existing axis filters the speed and takes its factors and load; a RUNNING
or STOPPING axis then closes its loop, and a follower tracks its lead. The tick of POSITION mode commands the profile
velocity and the position error, each taken at the tick, within the island's clamp and 0 into a blocked direction. A
stop ends longer than T_ZERO after zero speed, at the end of the hold time that follows, or with its torque ramped
off; STOP_TMO and a sustained overspeed are axis faults. A shock window, a slack rope, a ventilation and a heave hold
end once their times have passed, and not before. A slack rope is counted once, and quick-stops, holds the reference
or, with SLACK_ACT 0, is journalled with a free code (log entry 31). -/
def Obligations.SpeedLoop : Prop :=
  (∀ (a : Fin 4) (s : State), s.awake = true → s.axisExists a = true →
      s.axState a = AxSt.RUNNING ∨ s.axState a = AxSt.STOPPING → s.isFollower a = false →
      exec (.speedLoopPeriod a) s = .next (((((s.speedFilter a).latchFactors a).latchLoad a).modSpd a fun q => { q with gone := false }).speedLoop a)) ∧
  (∀ (a : Fin 4) (s : State), s.awake = true → s.axisExists a = true →
      s.axState a = AxSt.RUNNING ∨ s.axState a = AxSt.STOPPING → s.isFollower a = true →
      exec (.speedLoopPeriod a) s = .next (((((s.speedFilter a).latchFactors a).latchLoad a).modSpd a fun q => { q with gone := false }).followLoop a)) ∧
  (∀ (a : Fin 4) (s : State), s.awake = true → s.axisExists a = true → s.axState a = AxSt.STOPPED →
      exec (.speedLoopPeriod a) s = .next ((((s.speedFilter a).latchFactors a).latchLoad a).modSpd a fun q => { q with gone := false })) ∧
  (∀ (a : Fin 4) (n : Rat) (s : State), s.awake = true → s.axisExists a = true → s.fld (Fld.SPD_CFG_MODE a) = 1 →
      s.axState a = AxSt.RUNNING ∨ s.axState a = AxSt.STOPPING → s.isFollower a = false → s.encCounts a ≠ 0 →
      n = s.p24 41 a * (60 * (s.prg[axisChan a].v + s.prg[axisChan a].a * s.prgAge (axisChan a)) / s.encCounts a) +
        s.p24 40 a * ((nearest (s.profNow (axisChan a)) - s.portPos (s.commPort a) : Int) : Rat) * 60 / s.encCounts a →
      exec (.positionLoopTick a) s =
      .next (s.modSpd a fun q =>
      { q with
      nPos := if 0 < n ∧ s.flag (Fld.PRG_STATE_BLK_POS (axisChan a)) = true ∨ n < 0 ∧ s.flag (Fld.PRG_STATE_BLK_NEG (axisChan a)) = true then 0
      else s.slsClamp a n })) ∧
  (∀ (a : Fin 4) (s : State),
      s.axState a ≠ AxSt.STOPPING ∨ s.spd[a].hold = true ∨ (s.spd[a].zeroAt.any fun t => decide (s.p24 7 a / 1000 < s.since t)) = false →
      exec (.zeroSpeed a) s = .next s) ∧
  (∀ (a : Fin 4) (s : State), s.axState a = AxSt.STOPPING →
      (s.spd[a].zeroAt.any fun t => decide (s.p24 7 a / 1000 < s.since t)) = true → s.spd[a].hold = false → s.p24 27 a = 0 →
      exec (.zeroSpeed a) s = .next (s.setAxis a AxSt.STOPPED).settle) ∧
  (∀ (a : Fin 4) (s : State), s.axState a = AxSt.STOPPING →
      (s.spd[a].zeroAt.any fun t => decide (s.p24 7 a / 1000 < s.since t)) = true → s.spd[a].hold = false → s.p24 27 a ≠ 0 →
      exec (.zeroSpeed a) s = .next (s.modSpd a fun q => { q with hold := true })) ∧
  (∀ (a : Fin 4) (s : State), s.axState a = AxSt.STOPPING → s.spd[a].hold = true →
      exec (.holdZeroEnd a) s = .next (s.setAxis a AxSt.STOPPED).settle) ∧
  (∀ (a : Fin 4) (s : State), s.axState a = AxSt.STOPPING →
      (s.spd[a].offT0.any fun t => decide (s.p24 25 a ≤ s.since t)) = true →
      exec (.tOffRampEnd a) s = .next (s.setAxis a AxSt.STOPPED).settle) ∧
  (∀ (a : Fin 4) (s : State), (s.spd[a].offT0.any fun t => decide (s.p24 25 a ≤ s.since t)) = false →
      exec (.tOffRampEnd a) s = .next s) ∧
  (∀ (a : Fin 4) (s : State), s.axState a = AxSt.STOPPING → s.overdue (.stop a) (s.p24 26 a * 1_000_000_000) = true →
      exec (.stopTmo a) s = .next (s.axisFault a 6).settle) ∧
  (∀ (a : Fin 4) (s : State), s.overdue (.stop a) (s.p24 26 a * 1_000_000_000) = false → exec (.stopTmo a) s = .next s) ∧
  (∀ (a : Fin 4) (s : State), 4 ≤ s.spd[a].overN → exec (.overspeed a) s = .next (s.axisFault a 5).settle) ∧
  (∀ (a : Fin 4) (s : State), s.shockOver a = false → exec (.shockWindowEnd a) s = .next s) ∧
  (∀ (a : Fin 4) (s : State), s.shockOver a = true → s.spd[a].pendStop = none →
      Completes (.shockWindowEnd a) s fun t => t.spd[a].shock = none ∧ t.spd[a].winEnd = some s.weft ∧ t.flag (Fld.SPD_STATE_YIELD a) = false ∧
      t.spd[a].relAt = some (s.weft, s.p26 4 a)) ∧
  (∀ (a : Fin 4) (quick : Bool) (s : State), s.shockOver a = true → s.spd[a].pendStop = some quick → exec (.shockWindowEnd a) s =
      .next ((((s.endShock a).modSpd a fun q => { q with relAt := some (s.weft, s.p26 4 a), acc := 0 }).beginStop a quick).settle)) ∧
  (∀ (a : Fin 4) (s : State),
      (s.spd[a].slackAt.any fun t => decide (s.p26 12 a / 1000 < s.since t)) = false ∨ s.flag (Fld.SPD_STATE_SLACK a) = true →
      exec (.slack a) s = .next s) ∧
  (∀ (a : Fin 4) (s : State) (u : State), (s.spd[a].slackAt.any fun t => decide (s.p26 12 a / 1000 < s.since t)) = true →
      s.flag (Fld.SPD_STATE_SLACK a) = false → u = (s.setFlag (Fld.SPD_STATE_SLACK a) true).incSat (Fld.SPD_CNT_SLACK a) →
      u.fld (Fld.SPD_CFG_SLACK_ACT a) = 0 → exec (.slack a) s = .next (u.freeNat.2.journal (u.freeNat.1 % 65536) a.val)) ∧
  (∀ (a : Fin 4) (s : State) (u : State), (s.spd[a].slackAt.any fun t => decide (s.p26 12 a / 1000 < s.since t)) = true →
      s.flag (Fld.SPD_STATE_SLACK a) = false → u = (s.setFlag (Fld.SPD_STATE_SLACK a) true).incSat (Fld.SPD_CNT_SLACK a) →
      u.fld (Fld.SPD_CFG_SLACK_ACT a) = 1 → exec (.slack a) s = .next (u.beginStop a true).settle) ∧
  (∀ (a : Fin 4) (s : State) (u : State), (s.spd[a].slackAt.any fun t => decide (s.p26 12 a / 1000 < s.since t)) = true →
      s.flag (Fld.SPD_STATE_SLACK a) = false → u = (s.setFlag (Fld.SPD_STATE_SLACK a) true).incSat (Fld.SPD_CNT_SLACK a) →
      2 ≤ u.fld (Fld.SPD_CFG_SLACK_ACT a) → u.axState a = AxSt.RUNNING →
      exec (.slack a) s = .next ((u.ownRef a).modSpd a fun q => { q with slackHold := true })) ∧
  (∀ (a : Fin 4) (s : State),
      (s.spd[a].vent.any fun v => (v.since.any fun t => decide (s.p26 27 a / 1000 < s.since t)) || decide (s.p26 28 a < s.since v.t0)) = true →
      exec (.ventEnd a) s = .next (s.endVent a) ∧ (s.endVent a).spd[a].vent = none ∧ (s.endVent a).flag (Fld.SPD_STATE_VENT a) = false ∧ (s.endVent a).flag (Fld.SPD_STATE_VGUARD a) = false) ∧
  (∀ (a : Fin 4) (s : State),
      (s.spd[a].vent.any fun v => (v.since.any fun t => decide (s.p26 27 a / 1000 < s.since t)) || decide (s.p26 28 a < s.since v.t0)) = false →
      exec (.ventEnd a) s = .next s) ∧
  (∀ (a : Fin 4) (s : State), (s.spd[a].hvStall.any fun t => decide (s.p24 52 a / 1000 < s.since t)) = true →
      s.spd[a].hvFade = none →
      exec (.heaveStall a) s = .next (((s.heaveFade a).modSpd a fun q => { q with hvOut := true }).incSat (Fld.SPD_CNT_HV_STALL a))) ∧
  (∀ (a : Fin 4) (s : State), (s.spd[a].hvStall.any fun t => decide (s.p24 52 a / 1000 < s.since t)) = false →
      exec (.heaveStall a) s = .next s)

/-- References, enabling, disabling, stops and heave entries by descriptor. R306 to R309, R322, R353, R497, R501, R527,
R528, R530. Where its descriptor is taken: a speed reference of SPEED mode is clamped to ±N_MAX, held and
acknowledged, a torque reference of TORQUE mode is held, and both are refused STOPPING in STOPPING, NOT_LEAD on a
follower and MODE_DENIED in another mode. AXIS_ENABLE completes with the status of R307, or its axis begins to start
in RUN, and the lead of a shared axis hands the command to its group. AXIS_DISABLE takes an axis that is not shared
out at once, and that of an active lead goes to its group. A heave entry of the past is counted and not taken, and the
others join those that wait. -/
def Obligations.MotionCommands : Prop :=
  (∀ (h : Desc) (a : Fin 4) (v : Rat) (value : Word) (s : State), s.takes h 0x04 = true → s.axisOf h = some a →
      f32ToRat value = some v → h.sub.toNat = 0 → s.isFollower a = false → s.fld (Fld.SPD_CFG_MODE a) = 0 →
      s.axState a ≠ AxSt.STOPPING → exec (.refSet h value) s =
      .next (((s.modSpd a fun p => { p with
      ncmd := clampRat (-s.p24 4 a) (s.p24 4 a) v, tcmd := p.tcmd, slackHold := p.slackHold && !decide (0 < s.lineSign a * v) }).setReg
      (Reg.SPD_NCMD a) (ratToF32 (clampRat (-s.p24 4 a) (s.p24 4 a) v))).complete h 0x04 St.SUCCESS)) ∧
  (∀ (h : Desc) (a : Fin 4) (v : Rat) (value : Word) (s : State), s.takes h 0x04 = true → s.axisOf h = some a →
      f32ToRat value = some v → h.sub.toNat = 0 → s.isFollower a = false → s.fld (Fld.SPD_CFG_MODE a) = 0 →
      s.axState a = AxSt.STOPPING → exec (.refSet h value) s = .next (s.complete h 0x04 St.STOPPING)) ∧
  (∀ (h : Desc) (a : Fin 4) (v : Rat) (value : Word) (s : State), s.takes h 0x04 = true → s.axisOf h = some a →
      f32ToRat value = some v → h.sub.toNat = 1 → s.isFollower a = false → s.fld (Fld.SPD_CFG_MODE a) = 2 →
      s.axState a ≠ AxSt.STOPPING → exec (.refSet h value) s =
      .next ((s.modSpd a fun p => { p with ncmd := p.ncmd, tcmd := v, slackHold := p.slackHold && !decide (0 < s.lineSign a * v) }).complete h 0x04 St.SUCCESS)) ∧
  (∀ (h : Desc) (a : Fin 4) (v : Rat) (value : Word) (s : State), s.takes h 0x04 = true → s.axisOf h = some a →
      f32ToRat value = some v → h.sub.toNat ≤ 1 → s.isFollower a = true →
      exec (.refSet h value) s = .next (s.complete h 0x04 St.NOT_LEAD)) ∧
  (∀ (h : Desc) (a : Fin 4) (v : Rat) (value : Word) (s : State), s.takes h 0x04 = true → s.axisOf h = some a →
      f32ToRat value = some v → h.sub.toNat ≤ 1 → s.isFollower a = false → s.axState a ≠ AxSt.STOPPING →
      s.fld (Fld.SPD_CFG_MODE a) ≠ 2 * h.sub.toNat → exec (.refSet h value) s = .next (s.complete h 0x04 St.MODE_DENIED)) ∧
  (∀ (h : Desc) (s : State), s.takes h 0x08 = true → s.enableRefusal h = some St.MODE_DENIED →
      exec (.axisEnable h) s = .next ((s.reqRes 2).complete h 0x08 St.MODE_DENIED)) ∧
  (∀ (h : Desc) (st : Nat) (s : State), s.takes h 0x08 = true → s.enableRefusal h = some st → st ≠ St.MODE_DENIED →
      exec (.axisEnable h) s = .next (s.complete h 0x08 st)) ∧
  (∀ (h : Desc) (a : Fin 4) (s : State), s.takes h 0x08 = true → s.enableRefusal h = none → s.axisOf h = some a →
      s.mode = .run → (s.reqRes 1).isShared a = false → exec (.axisEnable h) s =
      .next (({ s.reqRes 1 with hif := { (s.reqRes 1).hif with inFlight := (s.reqRes 1).hif.inFlight ++ [{ h := h, opcode := 0x08, inst := a.val }] } } : State).beginStart a false).settle) ∧
  (∀ (h : Desc) (a : Fin 4) (s : State), s.takes h 0x08 = true → s.enableRefusal h = none → s.axisOf h = some a →
      s.mode = .ready → ((s.reqRes 1).setMode .run).isShared a = false → exec (.axisEnable h) s =
      .next (({ (s.reqRes 1).setMode .run with hif := { ((s.reqRes 1).setMode .run).hif with
      inFlight := ((s.reqRes 1).setMode .run).hif.inFlight ++ [{ h := h, opcode := 0x08, inst := a.val }] } } : State).beginStart a false).settle) ∧
  (∀ (h : Desc) (a : Fin 4) (s : State), s.takes h 0x08 = true → s.enableRefusal h = none → s.axisOf h = some a →
      s.mode = .run → (s.reqRes 1).isShared a = true → (s.reqRes 1).isFollower a = false → Settles (.axisEnable h) s fun u =>
      ∃ r : State, u = r.beginStart a false ∧ r.lsh[a].cmd = 1 ∧ r.hif.inFlight = s.hif.inFlight ++ [{ h := h, opcode := 0x08, inst := a.val }]) ∧
  (∀ (h : Desc) (a : Fin 4) (s : State), s.takes h 0x09 = true → s.axisOf h = some a → s.isShared a = true →
      s.isFollower a = false → s.axActive a = true → Completes (.axisDisable h) s fun t =>
      t.lsh[a].cmd = 4 ∧ t.hif.inFlight = s.hif.inFlight ++ [{ h := h, opcode := 0x09, inst := a.val }] ∧ t.spd = s.spd) ∧
  (∀ (h : Desc) (a : Fin 4) (s : State), s.takes h 0x09 = true → s.axisOf h = some a → s.isShared a = false →
      exec (.axisDisable h) s = .next (((s.disableNow a).settle).complete h 0x09 St.SUCCESS)) ∧
  (∀ (h : Desc) (s : State), s.takes h 0x09 = true → s.axisOf h = none →
      exec (.axisDisable h) s = .next (s.complete h 0x09 St.BAD_FIELD)) ∧
  (∀ (h : Desc) (a : Fin 4) (e : HeaveEntry) (s : State), s.takes h 0x20 = true → s.axisOf h = some a → h.sub = 1 →
      s.isFollower a = false → s.heaveOn a = true → e.time.toNat < s.weft.toNat →
      exec (.heaveStream h [e]) s = .next ((s.incSat Fld.HIF_CNT_HV_LATE).complete h 0x20 St.SUCCESS)) ∧
  (∀ (h : Desc) (a : Fin 4) (es : List HeaveEntry) (s : State), s.takes h 0x20 = true → s.axisOf h = some a →
      0 < h.sub.toNat → h.sub.toNat ≤ 3 → s.isFollower a = false → s.heaveOn a = true →
      ((∀ e ∈ es, s.weft.toNat ≤ e.time.toNat)) → exec (.heaveStream h es) s =
      .next ((forAll es (fun e t => t.modSpd a fun p => { p with hv := insertHeave e p.hv }) s).complete h 0x20 St.SUCCESS))

/-- Edges, samples, index marks, speed windows, serial words and port faults. R43, R364 to R369, R370 to R372, R374, R375,
R377 to R380, R387, R390. A change of A and B on an ABZ port counts by its quadrature step, and on a SINCOS port it
counts whole periods; one that skips a quadrant latches QUAD. A step edge counts. A sample reads the port, its
pass-through, its step channel and the two deviations. An index mark captures the position, sets TURN with Z_REF, and
holds the preset of a waiting LOAD_Z. A speed window of a counting port gives the difference of its count and, where
its port has counts per turn, the speed of R379, and STILL once it has not moved long enough; that of a serial port
takes its words and their stamps. A read request of a serial port is sent where MONO has passed, and skipped
otherwise. A good word is taken with its stamp; a bad one is discarded whole. AMP, WIRE, EXC and SUPPLY latch on the
ports they concern. -/
def Obligations.FeedbackPorts : Prop :=
  (∀ (n : Fin 4) (a b : Bool) (k : Int) (s : State) (u : State), s.awake = true → s.portType n = 1 →
      u = (s.modFb n fun q => { q with la := a, lb := b, lz := false }).ptFollow n →
      quadStep s.fb[n].la s.fb[n].lb a b = some k → exec (.encoderEdge n a b) s = .next (u.setRaw n (s.fb[n].r + k))) ∧
  (∀ (n : Fin 4) (a b : Bool) (s : State) (u : State), s.awake = true → s.portType n = 1 →
      u = (s.modFb n fun q => { q with la := a, lb := b, lz := false }).ptFollow n →
      quadStep s.fb[n].la s.fb[n].lb a b = none → exec (.encoderEdge n a b) s = .next (u.fbFault n (Fld.FBI_FAULT_QUAD n))) ∧
  (∀ (n : Fin 4) (a b : Bool) (s : State) (u : State), s.awake = true → s.portType n = 2 →
      u = (s.modFb n fun q => { q with la := a, lb := b, lz := false }).ptFollow n →
      (quadrantOf a b + 4 - quadrantOf s.fb[n].la s.fb[n].lb) % 4 = 1 →
      exec (.encoderEdge n a b) s = .next (u.modFb n fun q => { q with per := if quadrantOf a b = 0 then q.per + 1 else q.per })) ∧
  (∀ (n : Fin 4) (a b : Bool) (s : State) (u : State), s.awake = true → s.portType n = 2 →
      u = (s.modFb n fun q => { q with la := a, lb := b, lz := false }).ptFollow n →
      (quadrantOf a b + 4 - quadrantOf s.fb[n].la s.fb[n].lb) % 4 = 3 →
      exec (.encoderEdge n a b) s = .next (u.modFb n fun q => { q with per := if quadrantOf s.fb[n].la s.fb[n].lb = 0 then q.per - 1 else q.per })) ∧
  (∀ (n : Fin 4) (a b : Bool) (s : State) (u : State), s.awake = true → s.portType n = 2 →
      u = (s.modFb n fun q => { q with la := a, lb := b, lz := false }).ptFollow n →
      (quadrantOf a b + 4 - quadrantOf s.fb[n].la s.fb[n].lb) % 4 = 2 →
      exec (.encoderEdge n a b) s = .next (u.fbFault n (Fld.FBI_FAULT_QUAD n))) ∧
  (∀ (n : Fin 4) (up : Bool) (s : State), s.awake = true → s.portType n = 6 →
      exec (.stepInputEdge n up) s = .next (s.setRaw n (s.fb[n].r + (if up then 1 else -1)))) ∧
  (∀ (n : Fin 4) (v : Analog) (s : State), s.awake = true → exec (.portSample n v) s =
      .next (((((s.portSample n v).ptSample n).stepSample (Fin.ofNat 8 (n.val + 4))).devSample (axisChan n)).devSample (Fin.ofNat 8 (n.val + 4)))) ∧
  (∀ (n : Fin 4) (at_ : Int) (s : State), s.awake = true → s.portType n = 1 ∨ s.portType n = 2 →
      at_ = (if s.portType n = 2 then (if s.fb[n].neg then 1 else 0) + s.fb[n].per * (2 ^ s.interp n : Nat) else s.fb[n].h) →
      Completes (.indexMark n) s fun t =>
      t.reg (Reg.FBI_ZCAP n) = toS32 (clampInt (s32 (s.reg (Reg.FBI_SOFTMIN n))) (s32 (s.reg (Reg.FBI_SOFTMAX n))) (at_ + s.fb[n].offset)) ∧
      t.flag (Fld.FBI_STATUS_Z_SEEN n) = true ∧ t.fb[n].loadZ = false ∧
      (s.fb[n].loadZ = true → t.fb[n].zOfs = some (s32 (s.reg (Reg.FBI_PRESET n)) - at_)) ∧
      (s.flag (Fld.FBI_CFG_Z_REF n) = true ∧ s.flag (Fld.FBI_STATUS_TURN_OK n) = false →
      t.fb[n].turnAdj = -at_ ∧ t.flag (Fld.FBI_STATUS_TURN_OK n) = true)) ∧
  (∀ (n : Fin 4) (v : Analog) (f : FbPort) (s : State), s.awake = true →
      s.portType n = 1 ∨ s.portType n = 2 ∨ s.portType n = 5 ∨ s.portType n = 6 → f = (s.takeAnalog n v).fb[n] →
      Completes (.speedWindowEnd n v) s fun t =>
      t.reg (Reg.FBI_DELTA n) = toS32 (f.h - f.hStart) ∧ t.fb[n].hStart = f.h ∧ t.fb[n].revd = false ∧ t.flag (Fld.FBI_STATUS_REV n) = f.revd ∧
      (f.h = f.hStart → t.flag (Fld.FBI_STATUS_STILL n) = decide (max 1 (s.fld (Fld.FBI_CFG_STILL n)) ≤ f.stillN + 1)) ∧
      (f.h ≠ f.hStart → t.flag (Fld.FBI_STATUS_STILL n) = false)) ∧
  (∀ (n : Fin 4) (v : Analog) (f : FbPort) (s : State), s.awake = true →
      s.portType n = 1 ∨ s.portType n = 2 ∨ s.portType n = 5 ∨ s.portType n = 6 → f = (s.takeAnalog n v).fb[n] →
      f.h ≠ f.hStart → s.cpt n ≠ 0 → s.speedWindow n ≠ 0 → Completes (.speedWindowEnd n v) s fun t => t.reg (Reg.FBI_SPEED n) =
      ratToF32 (60 * ((f.h - f.hStart : Int) : Rat) * 1_000_000_000 / ((s.cpt n : Rat) * s.speedWindow n))) ∧
  (∀ (n : Fin 4) (v : Analog) (h : Int) (ts : Time) (s : State), s.awake = true → s.portType n = 3 ∨ s.portType n = 4 →
      s.fb[n].winWord = some (h, ts) → s.fb[n].word ≠ none → s.fb[n].wordAt ≠ ts → s.fb[n].h ≠ h → s.cpt n ≠ 0 →
      ts.toNat < s.fb[n].wordAt.toNat → Completes (.speedWindowEnd n v) s fun t =>
      t.reg (Reg.FBI_DELTA n) = toS32 (s.fb[n].h - h) ∧ t.fb[n].winWord = some (s.fb[n].h, s.fb[n].wordAt) ∧
      t.reg (Reg.FBI_SPEED n) = ratToF32 (60 * ((s.fb[n].h - h : Int) : Rat) * 1_000_000_000 / ((s.cpt n : Rat) * ((s.fb[n].wordAt.toNat - ts.toNat : Nat) : Rat)))) ∧
  (∀ (n : Fin 4) (s : State), s.awake = true → s.portType n = 3 ∨ s.portType n = 4 →
      (s.fb[n].clkAt.any fun e => decide (s.weft.toNat < e.toNat + max 1 (s.fld (Fld.FBI_SER_MONO n)) * 1000)) = false →
      Completes (.serialReadRequest n) s fun t =>
      t.fb[n].periods = s.fb[n].periods + 1 ∧ t.fb[n].reqAt = some s.weft ∧
      t.fb[n].clkAt = some (BitVec.ofNat 64 (s.weft.toNat + (s.dataBits n + 8) * (100 * (min 0x63 (s.fld (Fld.FBI_SER_CLKDIV n)) + 1))))) ∧
  (∀ (n : Fin 4) (s : State), s.awake = true → s.portType n = 3 ∨ s.portType n = 4 →
      (s.fb[n].clkAt.any fun e => decide (s.weft.toNat < e.toNat + max 1 (s.fld (Fld.FBI_SER_MONO n)) * 1000)) = true →
      exec (.serialReadRequest n) s = .next (s.modFb n fun p => { p with periods := p.periods + 1 })) ∧
  (∀ (n : Fin 4) (v : SerialIn) (ts : BitVec 64) (s : State), s.awake = true →
      s.portType n = 3 ∨ s.portType n = 4 ∧ v.startOk = true ∧ v.nE = true → s.fb[n].reqAt = some ts → v.lineOk = true →
      s.checkOk n v = true → s.fb[n].word = none ∨ s.fb[n].anew = true ∨ s.fld (Fld.FBI_JUMP_MAX n) = 0 →
      Completes (.serialWord n v) s fun t =>
      t.fb[n].reqAt = none ∧ t.fb[n].wordAt = ts ∧ t.fb[n].periods = 0 ∧ t.fb[n].word ≠ none ∧ t.flag (Fld.FBI_STATUS_STALE n) = false ∧
      t.fld (Fld.FBI_CNT_STALE_N n) = 0 ∧ t.flag (Fld.FBI_STATUS_TURN_OK n) = true) ∧
  (∀ (n : Fin 4) (v : SerialIn) (ts : BitVec 64) (s : State), s.awake = true → s.portType n = 3 ∨ s.portType n = 4 →
      s.fb[n].reqAt = some ts → v.lineOk = false ∨ s.checkOk n v = false → Completes (.serialWord n v) s fun t =>
      t.fb[n].word = s.fb[n].word ∧ t.fb[n].r = s.fb[n].r ∧ t.fb[n].h = s.fb[n].h ∧ t.fb[n].reqAt = none ∧ t.flag (Fld.FBI_STATUS_STALE n) = true) ∧
  (∀ (n : Fin 4) (s : State), s.ampOn n = true → max 1 (s.fld (Fld.FBI_AMP_FILT n)) < s.fb[n].ampN →
      exec (.amp n) s = .next (s.fbFault n (Fld.FBI_FAULT_AMP n))) ∧
  (∀ (n : Fin 4) (s : State), s.awake = true → s.portType n = 1 ∨ s.portType n = 3 ∨ s.portType n = 4 ∨ s.portType n = 6 →
      exec (.wire n) s = .next ((s.modFb n fun p => { p with wireBad := true }).fbFault n (Fld.FBI_FAULT_WIRE n))) ∧
  (∀ (n : Fin 4) (s : State), s.awake = true → s.portType n = 5 →
      exec (.exc n) s = .next ((s.modFb n fun p => { p with excOff := true }).fbFault n (Fld.FBI_FAULT_EXC n))) ∧
  (∀ (k : Fin 2) (s : State), s.awake = true → Completes (.fbSupply k) s fun t => ∀ n ∈ supplyPorts k,
      t.fb[n].supply = false ∧ t.flag (Fld.FBI_FAULT_SUPPLY n) = true ∧ t.flag (Fld.FBI_STATUS_FAULT n) = true)

/-- The compare unit, presets and TURN_ZERO of the ports. R378, R383, R384, R386, R400, R401. Where the writer may write
the register: a value written to CMP shows at once, with the one before it kept until the next sample takes it; LOAD,
LOAD_Z and TURN_ZERO wait for their sample or mark, and are refused with PRE_REFUSED while the port serves an active
position loop, for TURN_ZERO the position of a RUNNING or STOPPING axis; CMP_DISARM waits for its sample. The end of a
compare pulse ends it, on the pins of PT_n too. -/
def Obligations.PortCommands : Prop :=
  (∀ (w : Writer) (n : Fin 4) (v : Word) (s : State), s.writable w (Reg.FBI_CMP n) = true →
      exec (.cmpWrite w n v) s = .next (s.cmpPut n v) ∧ (s.cmpPut n v).reg (Reg.FBI_CMP n) = v ∧
      (s.cmpPut n v).fb[n].cmpW = some (s.fb[n].cmpW.getD (s.reg (Reg.FBI_CMP n)))) ∧
  (∀ (w : Writer) (n : Fin 4) (s : State), s.writable w (Reg.FBI_CTRL n) = true → s.presetBarred n = true →
      exec (.load w n) s = .next (s.setFlag (Fld.FBI_STATUS_PRE_REFUSED n) true) ∧
      exec (.loadZ w n) s = .next (s.setFlag (Fld.FBI_STATUS_PRE_REFUSED n) true)) ∧
  (∀ (w : Writer) (n : Fin 4) (s : State), s.writable w (Reg.FBI_CTRL n) = true → s.presetBarred n = false →
      exec (.load w n) s = .next ((s.setFlag (Fld.FBI_STATUS_PRE_REFUSED n) false).modFb n fun p => { p with load := true }) ∧
      exec (.loadZ w n) s = .next ((s.setFlag (Fld.FBI_STATUS_PRE_REFUSED n) false).modFb n fun p => { p with loadZ := true })) ∧
  (∀ (w : Writer) (n : Fin 4) (s : State), s.writable w (Reg.FBI_CTRL n) = true →
      (s.portUsed n fun a => s.axState a == AxSt.RUNNING || s.axState a == AxSt.STOPPING) = false →
      exec (.turnZero w n) s = .next ((s.setFlag (Fld.FBI_STATUS_PRE_REFUSED n) false).modFb n fun p => { p with turnZ := true })) ∧
  (∀ (w : Writer) (n : Fin 4) (s : State), s.writable w (Reg.FBI_CTRL n) = true →
      (s.portUsed n fun a => s.axState a == AxSt.RUNNING || s.axState a == AxSt.STOPPING) = true →
      exec (.turnZero w n) s = .next (s.setFlag (Fld.FBI_STATUS_PRE_REFUSED n) true)) ∧
  (∀ (w : Writer) (n : Fin 4) (s : State), s.writable w (Reg.FBI_CTRL n) = true →
      exec (.cmpDisarm w n) s = .next (s.modFb n fun p => { p with disarm := true })) ∧
  (∀ (n : Fin 4) (s : State), exec (.cmpPulseEnd n) s =
      .next (if (s.modFb n fun p => { p with pulse := false }).fld (Fld.PT_CFG_MODE n) = 2 then (s.modFb n fun p => { p with pulse := false }).ptPins n
      else s.modFb n fun p => { p with pulse := false }))

/-- Moves, stops, limits, deviation and gearing of the motion channels. R405, R406, R408 to R414, R417, R418, R421. A step
channel in PROFILE evaluates its profile; so does an axis channel in POSITION mode while its axis runs, from its PULSE
port where it has one, and it stands at the measured position otherwise. An input of a limit pair shows as its level,
and the limit flags of every channel follow. A deviation latches once, and a hard stop is checked after 100 ms: within
DEV_WIN REF_LOST clears, beyond it DEV latches. HALT, ENGAGE, DISENGAGE and SET_POS wait for the next sample of a step
channel, where each acts alone as stated, and change nothing on an axis channel. With SOURCE OFF and no jog a step
channel gives no step. A MOVE that is taken sets its target, absolute, or relative to where the channel rests or is
going; one that is refused completes with the status of R405. A STOP stops a step channel hard, quickly or ramped, and
an axis as R308 says. -/
def Obligations.MotionChannels : Prop :=
  (∀ (c : Fin 8) (s : State), s.awake = true → isStep c = true → s.stepSource c = 1 →
      exec (.profileEvaluation c) s = .next (s.evalCurve c)) ∧
  (∀ (c : Fin 8) (n : Fin 4) (s : State), s.awake = true → isStep c = false → s.posMode c = true →
      s.isFollower (chanAxis c) = false → s.axState (chanAxis c) = AxSt.RUNNING → s.portItem 50 c = some n →
      exec (.profileEvaluation c) s = .next (s.evalPulse c n).settle) ∧
  (∀ (c : Fin 8) (s : State), s.awake = true → isStep c = true → s.stepSource c ≠ 1 → exec (.profileEvaluation c) s = .next s) ∧
  (∀ (c : Fin 8) (s : State), s.awake = true → isStep c = false → s.posMode c = true → s.isFollower (chanAxis c) = false →
      s.axState (chanAxis c) = AxSt.RUNNING ∨ s.axState (chanAxis c) = AxSt.STOPPING → s.portItem 50 c = none →
      exec (.profileEvaluation c) s = .next (s.evalCurve c).settle) ∧
  (∀ (c : Fin 8) (s : State), s.awake = true → isStep c = false → s.posMode c = true → s.isFollower (chanAxis c) = false →
      s.axState (chanAxis c) ≠ AxSt.RUNNING → s.axState (chanAxis c) ≠ AxSt.STOPPING → Completes (.profileEvaluation c) s fun t =>
      t.prg[c].p = s.portPos (s.commPort (chanAxis c)) ∧ t.prg[c].v = 0 ∧ t.prg[c].a = 0 ∧ t.prg[c].rest = true ∧ t.prg[c].stop = none ∧
      t.flag (Fld.PRG_STATE_MOVING c) = false ∧ t.flag (Fld.PRG_STATE_STOPPING c) = false) ∧
  (∀ (n : Fin 4) (neg reached : Bool) (s : State), s.awake = true →
      exec (.limit n neg reached) s = .next ({ s with lim := if reached then s.lim ||| (1#8 <<< (if neg then 4 + n.val else n.val)) else s.lim &&& ~~~(1#8 <<< (if neg then 4 + n.val else n.val)) } : State).limAll.settle) ∧
  (∀ (c : Fin 8) (s : State), ((s.limShow c).flag (Fld.PRG_STATE_LIM_POS c) = (s.limPair c).any fun n => s.lim.getLsbD n.val) ∧
      ((s.limShow c).flag (Fld.PRG_STATE_LIM_NEG c) = (s.limPair c).any fun n => s.lim.getLsbD (4 + n.val)) ∧
      (s.limShow c).flag (Fld.PRG_STATE_BLK_POS c) = (s.limShow c).flag (Fld.PRG_STATE_LIM_POS c) ∧
      (s.limShow c).flag (Fld.PRG_STATE_BLK_NEG c) = (s.limShow c).flag (Fld.PRG_STATE_LIM_NEG c)) ∧
  (∀ (c : Fin 8) (s : State), s.prg[c].devAt.isSome = true → s.flag (Fld.PRG_STATE_DEV c) = false →
      exec (.stall c) s = .next (s.devLatch c).settle) ∧
  (∀ (c : Fin 8) (s : State), (s.prg[c].checkAt.any fun t => decide (1 / 10 ≤ s.since t)) = false →
      exec (.refCheck c) s = .next s) ∧
  (∀ (c : Fin 8) (d : Int) (s : State), (s.prg[c].checkAt.any fun t => decide (1 / 10 ≤ s.since t)) = true →
      (s.modPrg c fun p => { p with checkAt := none }).deviation c = some d →
      absRat (d : Rat) ≤ (s.modPrg c fun p => { p with checkAt := none }).p32 10 c →
      exec (.refCheck c) s = .next ((s.modPrg c fun p => { p with checkAt := none }).setFlag (Fld.PRG_STATE_REF_LOST c) false)) ∧
  (∀ (c : Fin 8) (d : Int) (s : State), (s.prg[c].checkAt.any fun t => decide (1 / 10 ≤ s.since t)) = true →
      (s.modPrg c fun p => { p with checkAt := none }).deviation c = some d →
      (s.modPrg c fun p => { p with checkAt := none }).p32 10 c < absRat (d : Rat) →
      exec (.refCheck c) s = .next (((s.modPrg c fun p => { p with checkAt := none }).setFlag (Fld.PRG_STATE_DEV c) true).journal 0x0302 c.val (toS32 d))) ∧
  (∀ (w : Writer) (c : Fin 8) (s : State), s.writable w (Reg.PRG_CTRL c) = true → isStep c = true →
      exec (.halt w c) s = .next (s.modPrg c fun p => { p with cmd := p.cmd ||| 1 }) ∧
      exec (.engage w c) s = .next (s.modPrg c fun p => { p with cmd := p.cmd ||| 2 }) ∧
      exec (.disengage w c) s = .next (s.modPrg c fun p => { p with cmd := p.cmd ||| 4 }) ∧
      exec (.setPos w c) s = .next (s.modPrg c fun p => { p with cmd := p.cmd ||| 8 })) ∧
  (∀ (c : Fin 8) (s : State), s.prg[c].cmd = 1 → s.takeCommands c = (s.modPrg c fun p => { p with cmd := 0 }).hardStop c false) ∧
  (∀ (c : Fin 8) (s : State), s.prg[c].cmd = 2 → s.takeCommands c = (s.modPrg c fun p => { p with cmd := 0 }).engage c) ∧
  (∀ (c : Fin 8) (s : State), s.prg[c].cmd = 4 → s.takeCommands c = (s.modPrg c fun p => { p with cmd := 0 }).gearEnd c) ∧
  (∀ (c : Fin 8) (s : State), s.prg[c].cmd = 8 → s.flag (Fld.PRG_STATE_MOVING c) = false →
      s.takeCommands c = (s.modPrg c fun p => { p with cmd := 0 }).setPos c) ∧
  (∀ (c : Fin 8) (s : State), (s.takeCommands c).stepSource c = 0 → (s.takeCommands c).prg[c].jog = 0 → s.stepSample c =
      ((s.takeCommands c).modPrg c fun p => { p with rate := 0, dirHi := false, stepHi := false }).setFld (Fld.PRG_LAG_LAG c) 0) ∧
  (∀ (w : Writer) (c : Fin 8) (s : State), s.writable w (Reg.PRG_CTRL c) = true → isStep c = false →
      exec (.engage w c) s = .next s ∧ exec (.disengage w c) s = .next s ∧ exec (.halt w c) s = .next s ∧ exec (.setPos w c) s = .next s) ∧
  (∀ (h : Desc) (c : Fin 8) (target : BitVec 64) (goal : Int) (s : State), s.takes h 0x05 = true → descChan h = some c →
      goal = nearest ((if h.absolute then 0 else if s.prg[c].rest then s.prg[c].p else (s.prg[c].goal : Rat)) + (target.toInt : Rat) / (2 ^ 32 : Nat) * s.p32 1 c) →
      s.moveRefusal c goal = none → isStep c = true → exec (.move h target) s =
      .next ((((forAll [Fld.PRG_STATE_DONE c, Fld.PRG_STATE_OVERSHOOT c] (fun f t => t.setFlag f false)
      (s.modPrg c fun p => { p with goal := goal, replan := true, rest := false })).setFlag
      (Fld.PRG_STATE_MOVING c) true).setReg (Reg.PRG_TARGET c) (toS32 goal)).complete h 0x05 St.SUCCESS)) ∧
  (∀ (h : Desc) (c : Fin 8) (target : BitVec 64) (goal : Int) (s : State), s.takes h 0x05 = true → descChan h = some c →
      goal = nearest ((if h.absolute then 0 else if s.prg[c].rest then s.prg[c].p else (s.prg[c].goal : Rat)) + (target.toInt : Rat) / (2 ^ 32 : Nat) * s.p32 1 c) →
      s.moveRefusal c goal = none → isStep c = false → Completes (.move h target) s fun t =>
      t.prg[c].goal = goal ∧ t.prg[c].replan = true ∧ t.prg[c].rest = false ∧ t.reg (Reg.PRG_TARGET c) = toS32 goal ∧ t.flag (Fld.PRG_STATE_MOVING c) = true ∧
      t.flag (Fld.PRG_STATE_DONE c) = false ∧ t.flag (Fld.PRG_STATE_OVERSHOOT c) = false ∧
      (0 < s.lineSign (chanAxis c) * ((goal : Rat) - s.prg[c].p) → t.spd[chanAxis c].slackHold = false)) ∧
  (∀ (h : Desc) (c : Fin 8) (target : BitVec 64) (goal : Int) (st : Nat) (s : State), s.takes h 0x05 = true →
      descChan h = some c →
      goal = nearest ((if h.absolute then 0 else if s.prg[c].rest then s.prg[c].p else (s.prg[c].goal : Rat)) + (target.toInt : Rat) / (2 ^ 32 : Nat) * s.p32 1 c) →
      s.moveRefusal c goal = some st → exec (.move h target) s = .next (s.complete h 0x05 st)) ∧
  (∀ (h : Desc) (c : Fin 8) (s : State), s.takes h 0x06 = true → descChan h = some c → isStep c = true → exec (.stop h) s =
      .next ((s.stopChan c (if h.hard then .hard else if h.quick then .quick else .ramped) false).complete h 0x06 St.SUCCESS)) ∧
  (∀ (h : Desc) (c : Fin 8) (a : Fin 4) (s : State), s.takes h 0x06 = true → descChan h = some c → isStep c = false →
      s.axisOf h = some a → exec (.stop h) s = .next (s.stopAxis h a)) ∧
  (∀ (h : Desc) (a : Fin 4) (s : State), s.isFollower a = false → s.axState a ≠ AxSt.STARTING → s.isShared a = false →
      s.stopAxis h a = (s.beginStop a h.quick).settle.complete h 0x06 St.SUCCESS)

/-- The shed cycle: cycle start, slots, received frames, T_APPLY and the end of a ramp-out. R336 to R341, R349, R350,
R357, R362. The cycle start lets every shared axis latch, seek and take its role, and a lead run its cycle. In its
slot a synchronised member sends its report and the lead its lead frame; a frame that the console withholds, or out of
time, is not sent. A frame of another node is taken by its rule, and one of the own node address changes nothing. At
T_APPLY a lead in time applies its own frame and a follower the best lead frame it holds, while a member without one,
or out of time, counts the miss, a lead's DISABLE still taking effect. A ramp-out that ends takes the axis out of the
group, and only then. -/
def Obligations.LoadSharing : Prop :=
  (∀ (s : State), s.awake = true → exec .shedCycleStart s = .next (forAll s.groupAxes (fun a t =>
      let t := ((((t.memberPoll a).cycleTake a).seek a).cycleLatch a).role a
      if t.leads a then t.leadCycle a else t) s).settle) ∧
  (∀ (a : Fin 4) (r : MemberReport) (s : State), s.awake = true → s.axisExists a = true → s.isShared a = true →
      s.lsh[a].drop = 0 → s.synced = true → s.leads a = false → s.lsh[a].mine = some r →
      exec (.shedSlot a) s = .next (s.sendFrame a (reportBytes r))) ∧
  (∀ (a : Fin 4) (f : LeadFrame) (s : State), s.awake = true → s.axisExists a = true → s.isShared a = true →
      s.lsh[a].drop = 0 → s.synced = true → s.leads a = true → s.lsh[a].lead = some f →
      exec (.shedSlot a) s = .next (s.sendFrame a (leadBytes f))) ∧
  (∀ (f : LeadFrame) (r : MemberReport) (n : Notice) (s : State), s.awake = true →
      exec (.leadFrame f) s = .next (s.leadFrameRx f).settle ∧ exec (.report r) s = .next (s.reportRx r).settle ∧
      exec (.faultNotice n) s = .next (s.noticeRx n).settle) ∧
  (∀ (f : LeadFrame) (r : MemberReport) (n : Notice) (s : State), f.node = s.nodeAddr → r.node = s.nodeAddr →
      n.node = s.nodeAddr → s.leadFrameRx f = s ∧ s.reportRx r = s ∧ s.noticeRx n = s) ∧
  (∀ (a : Fin 4) (s : State), s.awake = true → s.axisExists a = true → s.isShared a = true → 0 < s.lsh[a].drop →
      exec (.shedSlot a) s = .next (s.modLsh a fun g => { g with drop := g.drop - 1 })) ∧
  (∀ (a : Fin 4) (s : State), s.lsh[a].drop = 0 → s.synced = false → exec (.shedSlot a) s = .next s) ∧
  (∀ (a : Fin 4) (r : MemberReport) (s : State), s.awake = true → s.axisExists a = true → s.isShared a = true →
      s.lsh[a].mine = some r → ((s.modLsh a fun g => { g with applied := true }).memberPoll a).lsh[a].parted = false →
      ((s.modLsh a fun g => { g with applied := true }).memberPoll a).synced = false → exec (.shedApply a) s =
      .next ((((if ((s.modLsh a fun g => { g with applied := true }).memberPoll a).leads a = true ∧ ((s.modLsh a fun g => { g with applied := true }).memberPoll a).lsh[a].cmd = 4 then (((s.modLsh a fun g => { g with applied := true }).memberPoll a).endDisable a).withoutLead a else ((s.modLsh a fun g => { g with applied := true }).memberPoll a).withoutLead a).rampTm a).memberPoll a)).settle) ∧
  (∀ (a : Fin 4) (r : MemberReport) (s : State), s.awake = true → s.axisExists a = true → s.isShared a = true →
      s.lsh[a].mine = some r → ((s.modLsh a fun g => { g with applied := true }).memberPoll a).lsh[a].parted = false →
      ((s.modLsh a fun g => { g with applied := true }).memberPoll a).leads a = true →
      ((s.modLsh a fun g => { g with applied := true }).memberPoll a).synced = true →
      exec (.shedApply a) s = .next ((((((s.modLsh a fun g => { g with applied := true }).memberPoll a).applyOwn a).rampTm a).memberPoll a)).settle) ∧
  (∀ (a : Fin 4) (r : MemberReport) (f : LeadFrame) (s : State), s.awake = true → s.axisExists a = true →
      s.isShared a = true → s.lsh[a].mine = some r →
      ((s.modLsh a fun g => { g with applied := true }).memberPoll a).lsh[a].parted = false →
      ((s.modLsh a fun g => { g with applied := true }).memberPoll a).leads a = false →
      ((s.modLsh a fun g => { g with applied := true }).memberPoll a).synced = true →
      pickLead ((s.modLsh a fun g => { g with applied := true }).memberPoll a).lsh[a].leads = some f →
      exec (.shedApply a) s = .next ((((((s.modLsh a fun g => { g with applied := true }).memberPoll a).withLead a f).rampTm a).memberPoll a)).settle) ∧
  (∀ (a : Fin 4) (r : MemberReport) (s : State), s.awake = true → s.axisExists a = true → s.isShared a = true →
      s.lsh[a].mine = some r → ((s.modLsh a fun g => { g with applied := true }).memberPoll a).lsh[a].parted = false →
      ((s.modLsh a fun g => { g with applied := true }).memberPoll a).leads a = false →
      ((s.modLsh a fun g => { g with applied := true }).memberPoll a).synced = true →
      pickLead ((s.modLsh a fun g => { g with applied := true }).memberPoll a).lsh[a].leads = none →
      exec (.shedApply a) s = .next ((((((s.modLsh a fun g => { g with applied := true }).memberPoll a).withoutLead a).rampTm a).memberPoll a)).settle) ∧
  (∀ (a : Fin 4) (s : State), s.mstate a ≠ 5 ∨ s.lsh[a].ramp = none → exec (.shareRampEnd a) s = .next s) ∧
  (∀ (a : Fin 4) (s : State), s.mstate a = 5 → s.lsh[a].ramp.isSome = true →
      exec (.shareRampEnd a) s = .next (s.shareLost a).settle)

/-- The safety cycle, the STO inputs, and the timers and checks of the island. R7, R424, R426, R429 to R431, R433, R435,
R436, R438, R442, R449, R450, R457. A cycle of a running island checks the routes and the enables, evaluates every
axis and commands every output pair; a lost clock, an overrun, a broken seal and a double-bit error are its internal
faults 6, 5, 7 and 4, and such a fault stops it, demands SBC on every axis and latches HOLD. An STO input that falls
or rises moves the hardware enable, which is gone while one of them is low. STO_DISC, T_SS1, T_STO_AFTER_SBC and
T_SLS_ENTRY take effect once their times have passed, and before that nothing happens. The STO path test is shown as
due and as overdue with its days and journalled. -/
def Obligations.SafetyIsland : Prop :=
  (∀ (off : List (Fin 24)) (s : State), s.flag Fld.SFI_STATUS_SUSPENDED = false → s.islandRuns = true →
      exec (.safetyCycle true off) s =
      .next ((forAll four (fun i t => t.commandOutput i) (forAll four (fun a t => t.cycleAxis a)
      (forAll four (fun x t => t.checkEnable x off) s.routeWatch))).setFlag Fld.SFI_STATUS_RUNNING true).settle) ∧
  (∀ (off : List (Fin 24)) (s : State), s.flag Fld.SFI_STATUS_SUSPENDED = false → s.islandRuns = true →
      exec (.safetyCycle false off) s = .next (s.islandFault 4 6) ∧
      exec .safetyCycleOverrun s = .next ((s.setFlag Fld.SFI_STATUS_RUNNING false).islandFault 4 5) ∧ exec (.islandScrub true) s = .next (s.islandFault 4 4)) ∧
  (∀ (i : StoInput) (s : State),
      exec (.stoInputFall i) s = .next ((s.setFlag (stoField i) false).hwSto).settle ∧ exec (.stoInputRise i) s = .next ((s.setFlag (stoField i) true).hwSto.stagingRise).settle) ∧
  (∀ (s : State), s.flag Fld.SFI_STATUS_STO_A = false ∨ s.flag Fld.SFI_STATUS_STO_B = false →
      s.hwSto.flag Fld.PSP_REQ_STO_HW = true ∧ s.hwSto.flag Fld.SFI_STATUS_STO_HW = true) ∧
  (∀ (s : State), s.flag Fld.SFI_STATUS_STO_A = true → s.flag Fld.SFI_STATUS_STO_B = true →
      s.hwSto.flag Fld.PSP_REQ_STO_HW = false ∧ s.hwSto.flag Fld.SFI_STATUS_STO_HW = false) ∧
  (∀ (s : State), s.flag Fld.SFI_STATUS_STO_A ≠ s.flag Fld.SFI_STATUS_STO_B → s.islandRuns = true →
      s.overdue .stoDisc (s.par 40 2 0 * 1_000_000) = true → exec .stoDisc s =
      .next (({ s with isl := { s.isl with bothLow := false, bothRose := false } } : State).setFlag Fld.SFI_STATUS_STO_DISC true).settle) ∧
  (∀ (s : State), s.overdue .stoDisc (s.par 40 2 0 * 1_000_000) = false → exec .stoDisc s = .next s) ∧
  (∀ (a : Fin 4) (s : State), s.islandRuns = true → s.flag (Fld.SFI_AX_STATE_SS1 a) = true →
      (s.sfa[a].ss1Since.any fun (t : Nat) => decide ((t : Rat) + s.par 40 11 a.val * 1_000_000 < (s.sys.poweredNs : Rat))) = true →
      exec (.tSs1 a) s = .next (((s.modSfa a fun f => { f with ss1End := true }).demandSto a).cycleBrake a).settle) ∧
  (∀ (a : Fin 4) (s : State),
      (s.sfa[a].ss1Since.any fun (t : Nat) => decide ((t : Rat) + s.par 40 11 a.val * 1_000_000 < (s.sys.poweredNs : Rat))) = false →
      exec (.tSs1 a) s = .next s) ∧
  (∀ (a : Fin 4) (s : State), s.islandRuns = true → s.sfa[a].stoWait = true →
      s.ran (.stoDelay a) (s.par 40 21 a.val * 1_000_000) = true →
      exec (.tStoAfterSbc a) s = .next ((s.modSfa a fun f => { f with stoWait := false }).setFlag (Fld.SFI_AX_STATE_STO a) true).settle) ∧
  (∀ (a : Fin 4) (s : State), s.ran (.stoDelay a) (s.par 40 21 a.val * 1_000_000) = false → exec (.tStoAfterSbc a) s = .next s) ∧
  (∀ (a : Fin 4) (s : State), s.islandRuns = true → s.ran (.slsEntry a) (s.par 41 11 a.val * 1_000_000) = true →
      exec (.tSlsEntry a) s = .next (s.setFlag (Fld.SFI_AX_STATE_SLS_ENTRY a) false)) ∧
  (∀ (a : Fin 4) (s : State), s.ran (.slsEntry a) (s.par 41 11 a.val * 1_000_000) = false → exec (.tSlsEntry a) s = .next s) ∧
  (∀ (d : Nat) (s : State), d = s.parNat 40 3 0 - 1 →
      Completes .stoTestDue s fun t => t.sys.testNs = 0 ∧ t.flag Fld.SFI_STATUS_TEST_DUE = true ∧ t.fld Fld.SFI_STATUS_SINCE_TEST = min d 0xFF) ∧
  (∀ (d : Nat) (s : State), d = s.parNat 40 3 0 →
      Completes .stoTestOverdue s fun t => t.sys.testNs = 0 ∧ t.flag Fld.SFI_STATUS_OVERDUE = true ∧ t.fld Fld.SFI_STATUS_SINCE_TEST = min d 0xFF) ∧
  (∀ (s : State), s.islandRuns = true → s.profileActive = true →
      exec (.sealCheck false) s = .next (s.islandFault 4 7) ∧ exec (.sealCheck true) s = .next s) ∧
  (∀ (c d : Nat) (s : State), s.islandFault c d = (forAll four (fun i t => t.commandOutput i)
      (forAll four (fun a t => (t.setFlag (Fld.SFI_AX_STATE_SBC a) true).cycleBrake a)
      (({ s with isl := { s.isl with dead := true } } : State).latchHold c d))).settle)

/-- Filtered levels, discrepancy, test pulses, sampling and the faults of the output pairs. R7, R450, R462 to R470. While
the island runs: a filtered level shows and its pair is evaluated anew; a discrepancy latches DISC once SI_DISC has
passed; a test pulse starts with every fed input still to go low, and at its end the fed inputs are checked; a sample
shows the levels and the read-backs, which are judged while +24V_S stands, and a switch that agrees, or whose command
is younger than 100 µs, is left; an off-pulse ends one switch of an energised pair; an overload and a lost supply are
faults of the pairs they concern. An overloaded test source is off until its retry. While the island does not run none
of the inputs and outputs is evaluated. -/
def Obligations.SafeInputsAndOutputs : Prop :=
  (∀ (n : Fin 16) (level : Bool) (s : State), s.islandRuns = true →
      exec (.siFilterPass n level) s = .next ((s.setFld ⟨Reg.SFI_SI_STATE, 16 + n.val, 1⟩ (if level then 1 else 0)).siPair (pairOf n))) ∧
  (∀ (i : Fin 8) (s : State), s.overdue (.disc i) (s.par 44 2 i.val * 1_000_000) = false → exec (.disc i) s = .next s) ∧
  (∀ (i : Fin 8) (s : State), s.islandRuns = true → s.siMode i ≠ 0 → s.siClear i false ≠ s.siClear i true →
      s.overdue (.disc i) (s.par 44 2 i.val * 1_000_000) = true → exec (.disc i) s = .next (((
      { s with sip := s.sip.set i { together := false, since := none, cleared := false } } : State).setFld ⟨Reg.SFI_SI_FAULT, i.val, 1⟩ 1).siPair i)) ∧
  (∀ (k : Fin 4) (s : State), s.islandRuns = true →
      Completes (.testPulse k true) s fun t => t.tst[k].pulse = true ∧ t.tst[k].since = s.sys.poweredNs ∧ t.regs = s.regs ∧
      ∀ n : Fin 16, s.feeds n = k.val ∧ s.siMode (pairOf n) ≠ 0 → t.si[n].allHigh = true) ∧
  (∀ (k : Fin 4) (s : State), s.islandRuns = true → exec (.testPulse k false) s =
      .next (forAll (sixteen.filter fun n => s.feeds n = k.val && s.siMode (pairOf n) != 0) (fun n t => t.pulseCheck n s.tst[k].off)
      { s with tst := s.tst.set k { s.tst[k] with pulse := false } })) ∧
  (∀ (n : Fin 16) (b : Bool) (s : State), (s.si[n].allHigh || b) = true →
      s.pulseCheck n b = ((s.modSi n fun i => { i with laterPass := false }).setFld ⟨Reg.SFI_SI_FAULT, 16 + n.val, 1⟩ 1).siPair (pairOf n)) ∧
  (∀ (n : Fin 16) (b : Bool) (s : State), (s.si[n].allHigh || b) = false →
      s.pulseCheck n b = s.modSi n fun i => { i with laterPass := true }) ∧
  (∀ (k : Fin 4) (s : State),
      exec (.stOvl k) s = .next (({ s with tst := s.tst.set k { s.tst[k] with off := true, goodFrom := none } } : State).setFld ⟨Reg.SFI_SI_FAULT, 12 + k.val, 1⟩ 1)) ∧
  (∀ (k : Fin 4) (s : State), s.tst[k].off = true →
      exec (.stRetry k) s = .next { s with tst := s.tst.set k { s.tst[k] with off := false, goodFrom := some s.sys.poweredNs } }) ∧
  (∀ (levels : BitVec 16) (outs : BitVec 8) (s : State), s.islandRuns = true → s.flag Fld.SFI_SO_STATE_VS_LOW = true →
      Completes (.safeInputSample levels outs) s fun t => t.fld Fld.SFI_SO_STATE_READ = outs.toNat ∧
      ∀ n : Fin 16, t.si[n].raw = levels.getLsbD n.val) ∧
  (∀ (levels : BitVec 16) (outs : BitVec 8) (s : State), s.islandRuns = true → s.flag Fld.SFI_SO_STATE_VS_LOW = false →
      exec (.safeInputSample levels outs) s =
      .next (forAll four (fun i t => t.judgePair i outs) ((s.sampleInputs levels).setFld Fld.SFI_SO_STATE_READ outs.toNat)).settle) ∧
  (∀ (levels : BitVec 16) (s : State), ∀ n : Fin 16, (s.sampleInputs levels).si[n].raw = levels.getLsbD n.val) ∧
  (∀ (i : Fin 4) (outs : BitVec 8) (s : State), outs.getLsbD (2 * i.val) = s.so[i].hi →
      outs.getLsbD (2 * i.val + 1) = s.so[i].lo → s.judgePair i outs = s) ∧
  (∀ (i : Fin 4) (outs : BitVec 8) (s : State), s.sys.poweredNs < s.so[i].hiAt + 100_000 →
      s.sys.poweredNs < s.so[i].loAt + 100_000 → s.judgePair i outs = s) ∧
  (∀ (i : Fin 4) (on reads : Bool) (k : Nat) (s : State), k + 100_000 ≤ s.sys.poweredNs → on ≠ reads →
      s.judge i on reads k = s.outputFault i (if reads then 0 else 1)) ∧
  (∀ (n : Fin 16) (level : Bool) (i : Fin 8) (k : Fin 4) (b : Bool) (l : BitVec 16) (outs : BitVec 8) (m : Fin 8) (p : Fin 4) (s : State),
      s.islandRuns = false →
      exec (.siFilterPass n level) s = .next s ∧ exec (.disc i) s = .next s ∧ exec (.testPulse k b) s = .next s ∧
      exec (.safeInputSample l outs) s = .next s ∧ exec (.outputPulse m b) s = .next s ∧ exec (.overload p) s = .next s) ∧
  (∀ (n : Fin 8) (b : Bool) (i : Fin 4) (s : State), s.islandRuns = true → i = Fin.ofNat 4 (n.val / 2) →
      (s.fld Fld.SFI_SO_STATE_CMD).testBit i.val = true → Completes (.outputPulse n b) s fun t =>
      t.fld ⟨Reg.SFI_SO_STATE, 4 + i.val, 1⟩ = (if b then 1 else 0) ∧
      (n.val % 2 = 0 → t.so[i] = { s.so[i] with hi := !b, hiAt := s.sys.poweredNs }) ∧
      (n.val % 2 = 1 → t.so[i] = { s.so[i] with lo := !b, loAt := s.sys.poweredNs })) ∧
  (∀ (i : Fin 4) (s : State), s.islandRuns = true → exec (.overload i) s = .next (s.outputFault i 2).settle) ∧
  (∀ (s : State), exec (.supply false) s = .next (s.setFlag Fld.SFI_SO_STATE_VS_LOW false)) ∧
  (∀ (s : State), (s.setFlag Fld.SFI_SO_STATE_VS_LOW true).islandRuns = false →
      exec (.supply true) s = .next (s.setFlag Fld.SFI_SO_STATE_VS_LOW true)) ∧
  (∀ (s : State), (s.setFlag Fld.SFI_SO_STATE_VS_LOW true).islandRuns = true → exec (.supply true) s =
      .next (forAll (four.filter fun i => ((s.setFlag Fld.SFI_SO_STATE_VS_LOW true).fld Fld.SFI_SO_STATE_CMD).testBit i.val)
      (fun i t => t.outputFault i 3) (s.setFlag Fld.SFI_SO_STATE_VS_LOW true)).settle)

/-- Safety frames sent, received, left single and timed out. R7, R450, R472 to R478. While the island runs a transmitting
connection counts SEQ up and composes a frame of 32 bytes with its DEMAND. A copy that fails a check of R476 is
counted by it; one without a partner waits for it; a partner of equal bytes makes the frame accepted and an unequal
one ends validity with MISMATCH. A copy left alone past its window is counted, and a watchdog past WD_T ends validity;
neither acts before. Validity comes back with the second frame accepted, unless the routes share a port. -/
def Obligations.SafetyFrames : Prop :=
  (∀ (k : Fin 32) (s : State), s.islandRuns = true → s.parNat 44 30 k.val = 1 → Completes (.safetyFrameTx k) s fun t =>
      t.fld (Fld.SFI_SC_STATE_SEQ k) = (s.fld (Fld.SFI_SC_STATE_SEQ k) + 1) % 65536 ∧ t.sc[k].last.length = 32 ∧
      t.fld (Fld.SFI_SC_RX_DEMAND k) = s.txDemand k) ∧
  (∀ (k : Fin 32) (b : Bool) (l : List Byte) (f : Field) (s : State), s.islandRuns = true → s.parNat 44 30 k.val = 2 →
      s.scCheck k l = some f → exec (.safetyFrameCopy k b l) s = .next (s.incSat f)) ∧
  (∀ (k : Fin 32) (b : Bool) (l : List Byte) (s : State), s.islandRuns = true → s.parNat 44 30 k.val = 2 →
      s.scCheck k l = none →
      s.sc[k].first.find? (fun e => e.routeB != b && half e.bytes 4 == half l 4 && !s.windowOver k e) = none →
      exec (.safetyFrameCopy k b l) s =
      .next (s.modSc k fun c => { c with first := c.first ++ [{ bytes := l, routeB := b, at_ := s.sys.poweredNs }] })) ∧
  (∀ (k : Fin 32) (b : Bool) (l : List Byte) (e : FirstCopy) (s : State), s.islandRuns = true → s.parNat 44 30 k.val = 2 →
      s.scCheck k l = none →
      s.sc[k].first.find? (fun e => e.routeB != b && half e.bytes 4 == half l 4 && !s.windowOver k e) = some e →
      e.bytes = l → exec (.safetyFrameCopy k b l) s =
      .next ((s.modSc k fun c => { c with first := c.first.erase e }).scAccept k l)) ∧
  (∀ (k : Fin 32) (b : Bool) (l : List Byte) (e : FirstCopy) (s : State), s.islandRuns = true → s.parNat 44 30 k.val = 2 →
      s.scCheck k l = none →
      s.sc[k].first.find? (fun e => e.routeB != b && half e.bytes 4 == half l 4 && !s.windowOver k e) = some e →
      e.bytes ≠ l → exec (.safetyFrameCopy k b l) s =
      .next (((s.modSc k fun c => { c with first := c.first.erase e }).setFlag (Fld.SFI_SC_STATE_MISMATCH k) true).scInvalid k)) ∧
  (∀ (k : Fin 32) (s : State), s.islandRuns = false ∨ s.sc[k].first.head?.any (s.windowOver k) = false →
      exec (.single k) s = .next s) ∧
  (∀ (k : Fin 32) (s : State),
      s.islandRuns = false ∨ s.sc[k].wd = false ∨ (s.sys.poweredNs : Rat) ≤ (s.sc[k].wdAt : Rat) + s.par 44 37 k.val * 1_000_000 →
      exec (.wdExp k) s = .next s) ∧
  (∀ (k : Fin 32) (l : List Byte) (s : State), s.sc[k].good = 0 →
      (s.scAccept k l).flag (Fld.SFI_SC_STATE_VALID k) = s.flag (Fld.SFI_SC_STATE_VALID k) ∧ (s.scAccept k l).sc[k].good = 1 ∧ (s.scAccept k l).sc[k].wd = true) ∧
  (∀ (k : Fin 32) (l : List Byte) (s : State), s.sc[k].good = 1 → s.flag (Fld.SFI_SC_STATE_ROUTE k) = false →
      (s.scAccept k l).flag (Fld.SFI_SC_STATE_VALID k) = true) ∧
  (∀ (k : Fin 32) (s : State), s.islandRuns = true → s.sc[k].first.head?.any (s.windowOver k) = true →
      exec (.single k) s = .next ((s.modSc k fun c => { c with first := c.first.tail }).incSat (Fld.SFI_SC_CNT_SINGLE k))) ∧
  (∀ (k : Fin 32) (s : State), s.islandRuns = true → s.sc[k].wd = true →
      (s.sc[k].wdAt : Rat) + s.par 44 37 k.val * 1_000_000 < (s.sys.poweredNs : Rat) →
      exec (.wdExp k) s = .next ((s.setFlag (Fld.SFI_SC_STATE_WD_EXP k) true).scInvalid k)) ∧
  (∀ (k : Fin 32) (s : State), (s.scInvalid k).flag (Fld.SFI_SC_STATE_VALID k) = false ∧ (s.scInvalid k).sc[k].good = 0)

/-- Staging a safety parameter set and sealing it. R7, R451 to R454, R456, R461, R497, R501. Where its descriptor is
taken: a staging opens on a slot under its conditions, with the sealed set as it is, or is refused PARAM_RANGE or
SEALED; sealing with the staged CRC starts the flash write, and a condition of R453 that fails leaves the staging open
with SEAL_FAIL. A written flash seals the set where both STO inputs have stayed low and the conditions hold; a write
that failed does not. A staging that is aborted, or that has timed out, goes, and the parameters and slots stay as
they are; before the time nothing happens. -/
def Obligations.Sealing : Prop :=
  (∀ (h : Desc) (v : Word) (s : State), s.takes h 0x03 = true → v.toNat < 4 → s.isl.staging = none → s.stagingOk = true →
      exec (.stageOpen h v) s =
      .next ((s.stageOpen (Fin.ofNat 4 v.toNat)).complete h 0x03 St.SUCCESS)) ∧
  (∀ (t : Fin 4) (s : State),
      (s.stageOpen t).isl.staging = some { target := t, sealed := safetyPart s.slots[t].params, staged := safetyPart s.slots[t].params, readBack := [], sealing := none, rose := false } ∧ (s.stageOpen t).slots = s.slots ∧ (s.stageOpen t).params = s.params) ∧
  (∀ (h : Desc) (v : Word) (s : State), s.takes h 0x03 = true → 4 ≤ v.toNat →
      exec (.stageOpen h v) s = .next (s.complete h 0x03 St.PARAM_RANGE)) ∧
  (∀ (h : Desc) (v : Word) (s : State), s.takes h 0x03 = true → v.toNat < 4 → s.isl.staging.isSome = true →
      exec (.stageOpen h v) s = .next (s.complete h 0x03 St.SEALED)) ∧
  (∀ (h : Desc) (crc : Word) (g : Staging) (s : State), s.takes h 0x03 = true → s.isl.staging = some g → g.sealing = none →
      s.flag (Fld.LCK_STATUS_FAILED 1) = false → s.sealFail g crc = none →
      exec (.sealStaging h crc) s = .next (s.setStaging { g with sealing := some h, rose := false })) ∧
  (∀ (h : Desc) (crc : Word) (g : Staging) (s : State), s.takes h 0x03 = true → s.isl.staging = some g →
      (s.sealFail g crc).isSome = true → s.overdue .staging stagingNs = false → g.sealing = none →
      s.flag (Fld.LCK_STATUS_FAILED 1) = false → exec (.sealStaging h crc) s = .next (s.sealFailed h)) ∧
  (∀ (h : Desc) (g : Staging) (s : State), s.isl.staging = some g → g.sealing = some h → g.rose = false →
      s.stoBothLow = true → s.stagingOk = true → Completes (.sealFlashDone true) s fun t =>
      t.isl.staging = none ∧ t.slots[g.target].sealCrc = safetyCrc g.staged ∧ t.slots[g.target].sealed = true ∧
      t.slots[g.target].seals = s.slots[g.target].seals + 1 ∧ t.flag Fld.SFI_STATUS_STAGE_OPEN = false) ∧
  (∀ (h : Desc) (g : Staging) (s : State), s.isl.staging = some g → g.sealing = some h →
      exec (.sealFlashDone false) s = .next (s.sealFailed h)) ∧
  (∀ (h : Desc) (g : Staging) (s : State), s.isl.staging = some g → g.sealing = some h →
      g.rose = true ∨ s.stoBothLow = false ∨ s.stagingOk = false → exec (.sealFlashDone true) s = .next (s.sealFailed h)) ∧
  (∀ (h : Desc) (s : State), s.takes h 0x03 = true →
      exec (.stageAbort h) s = .next ((s.discardStaging St.SEAL_FAIL).complete h 0x03 St.SUCCESS)) ∧
  (∀ (s : State), s.overdue .staging stagingNs = true → exec .stagingTimeout s = .next (s.discardStaging St.SEAL_FAIL)) ∧
  (∀ (s : State), s.overdue .staging stagingNs = false → exec .stagingTimeout s = .next s) ∧
  (∀ (s : State),
      (s.discardStaging St.SEAL_FAIL).isl.staging = none ∧ (s.discardStaging St.SEAL_FAIL).params = s.params ∧ (s.discardStaging St.SEAL_FAIL).slots = s.slots)

/-- Mismatch, classification, restart, self-check, memory errors, debug attach and the machine timer. R7, R450, R493, R497
to R500, R503, R505, R506, R509. A mismatch in RUN starts the arbitration and the time of the restart; on CP_0 HWONLY
is set for it, on CP_3 SFI_STATUS.SUSPENDED, with a copy of the function states taken (model's choice, log entry 61).
A mismatch in RESTART fails the pair with cause 5. Three good answers are a TRANSIENT and a restart unless it is the
third within an hour (cause 4); a core that fails its self-test gives cause 1, 2 or 3, a checker that fails the
injection CHECKER_FAULT with cause 7. STARTED brings the pair back to RUN; one that is not written within 4.0 ms of
the mismatch gives cause 6, and before that nothing happens. The self-check acts in RUN. A parity error gives cause 9.
A double-bit error fails a pair in RUN, SOLO or RESTART and the half of a split pair (half A standing for the pair:
log entry 60). A debug attach takes effect at once but during the arbitration, where it waits. The machine timer
stands while mtime ≥ mtimecmp, and reading MTIME_LO latches the upper half. -/
def Obligations.CorePairs : Prop :=
  (∀ (n : Fin 4) (g : Fin 8) (pc : Word) (s : State), s.pairState n = PairSt.RUN → n ≠ 0 → n ≠ 3 →
      exec (.lockstepMismatch n g pc) s = .next (((((s.setFld (Fld.LCK_EVENT_SOURCE n) g.val).setReg (Reg.LCK_MISPC n) pc).setFld (Fld.LCK_STATUS_STATE n) PairSt.ARBITRATE).setFlag (Fld.LCK_STATUS_SAFE n) false).startTimer (.restart n))) ∧
  (∀ (g : Fin 8) (pc : Word) (s : State), s.pairState 0 = PairSt.RUN →
      exec (.lockstepMismatch 0 g pc) s = .next ((((((s.setFld (Fld.LCK_EVENT_SOURCE 0) g.val).setReg (Reg.LCK_MISPC 0) pc).setFld (Fld.LCK_STATUS_STATE 0) PairSt.ARBITRATE).setFlag (Fld.LCK_STATUS_SAFE 0) false).startTimer (.restart 0)).setFlag Fld.SVC_STATUS_HWONLY true)) ∧
  (∀ (g : Fin 8) (pc : Word) (s : State) (u : State), s.pairState 3 = PairSt.RUN →
      ((((s.setFld (Fld.LCK_EVENT_SOURCE 3) g.val).setReg (Reg.LCK_MISPC 3) pc).setFld (Fld.LCK_STATUS_STATE 3) PairSt.ARBITRATE).setFlag (Fld.LCK_STATUS_SAFE 3) false).startTimer (.restart 3) = u →
      exec (.lockstepMismatch 3 g pc) s = .next (({ u with isl := { u.isl with saved := u.sfa } } : State).setFlag Fld.SFI_STATUS_SUSPENDED true)) ∧
  (∀ (n : Fin 4) (g : Fin 8) (pc : Word) (s : State), s.pairState n = PairSt.RESTART → exec (.lockstepMismatch n g pc) s =
      .next ((((((s.setFld (Fld.LCK_EVENT_SOURCE n) g.val).setReg (Reg.LCK_MISPC n) pc).classify n 2 5).failPair n false).attachWaiting n))) ∧
  (∀ (n : Fin 4) (g : Fin 8) (pc : Word) (s : State), s.pairState n ≠ PairSt.RUN → s.pairState n ≠ PairSt.RESTART →
      exec (.lockstepMismatch n g pc) s = .next s) ∧
  (∀ (n : Fin 4) (s : State), s.pairState n = PairSt.ARBITRATE →
      (s.cp[n].stamps[1]?.any fun (t : Nat) => decide (s.sys.poweredNs ≤ t + 3_600_000_000_000)) = true →
      exec (.classification n true true true) s = .next (((s.classify n 2 4).failPair n false).attachWaiting n)) ∧
  (∀ (n : Fin 4) (s : State) (u : State) (v : State), s.pairState n = PairSt.ARBITRATE →
      (s.cp[n].stamps[1]?.any fun (t : Nat) => decide (s.sys.poweredNs ≤ t + 3_600_000_000_000)) = false →
      s.modCp n (fun c => { c with stamps := s.sys.poweredNs :: c.stamps }) = u →
      ((u.incSat (Fld.LCK_CNT_TRANS n)).setFld (Fld.LCK_CNT_TRANS_H n) (min (u.cp[n].stamps.filter fun t => decide (s.sys.poweredNs ≤ t + 3_600_000_000_000)).length 15)) = v →
      exec (.classification n true true true) s =
      .next ((when (n == 1) (·.abandonSequences) (when (n == 0) (·.failInFlight byCp0 St.UNIT_FAILED)
      (((when (n == 3) (·.setFld Fld.SFI_STATUS_TRANS_H (min (u.cp[n].stamps.filter fun t => decide (s.sys.poweredNs ≤ t + 3_600_000_000_000)).length 15)) v).classify n 1 0).setFld
      (Fld.LCK_STATUS_STATE n) PairSt.RESTART))).attachWaiting n)) ∧
  (∀ (n : Fin 4) (c : Bool) (s : State), s.pairState n = PairSt.ARBITRATE →
      exec (.classification n false true c) s = .next (((s.classify n 2 1).failPair n false).attachWaiting n) ∧
      exec (.classification n true false c) s = .next (((s.classify n 2 2).failPair n false).attachWaiting n) ∧
      exec (.classification n false false c) s = .next (((s.classify n 2 3).failPair n false).attachWaiting n) ∧
      exec (.classification n true true false) s = .next (((s.classify n 3 7).failPair n true).attachWaiting n)) ∧
  (∀ (n : Fin 4) (b : Bool) (s : State), s.pairState n = PairSt.RESTART → s.barred (.pair n) = false →
      exec (.started n (.pair n) b) s = .next (when (n == 3) (·.restoreIsland b) (when (n == 0) (·.setFlag Fld.SVC_STATUS_HWONLY false)
      ((s.setFld (Fld.LCK_STATUS_STATE n) PairSt.RUN).setFlag (Fld.LCK_STATUS_SAFE n) true)))) ∧
  (∀ (s : State), s.restoreIsland true = { s with sfa := s.isl.saved } ∧ s.restoreIsland false = s.islandFault 4 8) ∧
  (∀ (n : Fin 4) (s : State), s.pairState n = PairSt.RESTART → s.overdue (.restart n) 4_000_000 = true →
      exec (.restartTmo n) s = .next ((s.classify n 2 6).failPair n false)) ∧
  (∀ (n : Fin 4) (s : State), s.pairState n ≠ PairSt.RESTART ∨ s.overdue (.restart n) 4_000_000 = false →
      exec (.restartTmo n) s = .next s) ∧
  (∀ (n : Fin 4) (silent : Bool) (s : State), s.pairState n = PairSt.RUN → s.barred (.pair n) = false →
      exec (.checkerSelfCheck n silent) s = .next (s.selfCheck n silent) ∧ exec (.check n (.pair n) silent) s = .next (s.selfCheck n silent)) ∧
  (∀ (n : Fin 4) (s : State), s.selfCheck n true = ((s.setFlag (Fld.LCK_STATUS_CHK_OK n) false).classify n 3 8).failPair n true ∧
      s.selfCheck n false = (s.setFlag (Fld.LCK_STATUS_CHK_OK n) true).incWrap (Fld.LCK_CNT_CHECKS n)) ∧
  (∀ (w : Writer) (silent ok : Bool) (s : State), w ≠ .pair 3 →
      exec (.check 3 w silent) s = .next (s.regLocked w (Reg.LCK_CMD 3) 1) ∧ exec (.started 3 w ok) s = .next (s.regLocked w (Reg.LCK_CMD 3) 2)) ∧
  (∀ (n : Fin 4) (s : State),
      s.pairState n = PairSt.RUN ∨ s.pairState n = PairSt.ARBITRATE ∨ s.pairState n = PairSt.RESTART →
      exec (.parity n) s = .next (((s.classify n 3 9).failPair n true).attachWaiting n)) ∧
  (∀ (n : Fin 4) (half : Fin 2) (s : State),
      s.pairState n = PairSt.RUN ∨ s.pairState n = PairSt.SOLO ∨ s.pairState n = PairSt.RESTART →
      exec (.tcmDue n half) s = .next ((s.classify n 2 0xA).failPair n false)) ∧
  (∀ (n : Fin 4) (s : State), s.pairState n = PairSt.SPLIT → exec (.tcmDue n 0) s =
      .next (((s.modCp n fun c => { c with halfFailed := c.halfFailed ||| 1 }).classify n 2 0xA).failPair n false) ∧
      exec (.tcmDue n 1) s = .next ((s.modCp n fun c => { c with halfFailed := c.halfFailed ||| 2 }).classify n 2 0xA)) ∧
  (∀ (n : Fin 4) (s : State), s.flag (Fld.LCK_STATUS_DEBUG n) = false → s.pairState n ≠ PairSt.ARBITRATE →
      exec (.debugAttach n) s = .next (s.attach n)) ∧
  (∀ (n : Fin 4) (s : State), s.flag (Fld.LCK_STATUS_DEBUG n) = false → s.pairState n = PairSt.ARBITRATE →
      exec (.debugAttach n) s = .next (s.modCp n fun c => { c with debugWaits := true })) ∧
  (∀ (n : Fin 4) (s : State),
      exec (.machineTimer n) s = .next (s.modCp n fun c => { c with timerIrq := decide (s.mtimecmp n ≤ s.now) })) ∧
  (∀ (s : State),
      exec .mtimeLoRead s = .next ((s.setReg Reg.LCK_MTIME_LO (s.weft.setWidth 32)).setReg Reg.LCK_MTIME_HI ((s.weft >>> 32).setWidth 32)))

/-- Doorbells, chains, signals and the life of a ring. R517, R518, R520 to R526, R533. A tail beyond the ring, or one that
falls back, is discarded and counted with a RING_ERROR; the same tail changes nothing; another makes the slots up to
it visible in an enabled ring, starts the time of a chain that one of them opens, and the ring processor serves. A
fetch moves the head; a descriptor with FENCE waits for the earlier ones and one for CP_0 for room in its queue. An
open chain whose last descriptor is not visible completes CHAIN_TIMEOUT once its time has passed, and before that
nothing happens. A head beyond the entries written is discarded with a RING_ERROR; another frees the slots up to it.
The signal timer signals once ITIME has run. ENABLE starts a ring with both pointers 0 and the phase 1 and lets go
what waited; DISABLE ends the fetching, and of a CQ drops and counts what waits for it; an error sets ERR of an
enabled ring. -/
def Obligations.HostRings : Prop :=
  (∀ (n : Fin 16) (tail : BitVec 12) (l : List Slot) (s : State), s.doorbellsOpen = true →
      s.doorbell.sqSize n.val ≤ tail.toNat → exec (.sqTail n tail l) s =
      .next ((s.doorbell.incSat (Fld.HIF_SQ_STAT_DBERR n.val)).ringErrorEvent n)) ∧
  (∀ (n : Fin 16) (tail : BitVec 12) (l : List Slot) (s : State) (u : State), s.doorbellsOpen = true → s.doorbell = u →
      (tail.toNat + u.sqSize n.val - u.fld (Fld.HIF_SQ_PTR_HEAD n.val)) % u.sqSize n.val < (u.fld (Fld.HIF_SQ_PTR_TAIL n.val) + u.sqSize n.val - u.fld (Fld.HIF_SQ_PTR_HEAD n.val)) % u.sqSize n.val →
      exec (.sqTail n tail l) s = .next ((u.incSat (Fld.HIF_SQ_STAT_DBERR n.val)).ringErrorEvent n)) ∧
  (∀ (n : Fin 16) (tail : BitVec 12) (l : List Slot) (s : State) (u : State), s.doorbellsOpen = true → s.doorbell = u →
      tail.toNat < u.sqSize n.val → tail.toNat = u.fld (Fld.HIF_SQ_PTR_TAIL n.val) → exec (.sqTail n tail l) s = .next u) ∧
  (∀ (n : Fin 16) (tail : BitVec 12) (l : List Slot) (new : List Slot) (s : State) (u : State), s.doorbellsOpen = true →
      s.doorbell = u → tail.toNat < u.sqSize n.val → tail.toNat ≠ u.fld (Fld.HIF_SQ_PTR_TAIL n.val) →
      ¬ (tail.toNat + u.sqSize n.val - u.fld (Fld.HIF_SQ_PTR_HEAD n.val)) % u.sqSize n.val < (u.fld (Fld.HIF_SQ_PTR_TAIL n.val) + u.sqSize n.val - u.fld (Fld.HIF_SQ_PTR_HEAD n.val)) % u.sqSize n.val →
      l.take ((tail.toNat + u.sqSize n.val - u.fld (Fld.HIF_SQ_PTR_HEAD n.val)) % u.sqSize n.val - (u.fld (Fld.HIF_SQ_PTR_TAIL n.val) + u.sqSize n.val - u.fld (Fld.HIF_SQ_PTR_HEAD n.val)) % u.sqSize n.val) = new →
      u.flag (Fld.HIF_SQ_CFG_ENABLE n.val) = true → exec (.sqTail n tail l) s =
      .next ((when (new.any fun d => d.chain && d.chainSeq == 0) (·.startTimer (.chain n)) (u.setFld (Fld.HIF_SQ_PTR_TAIL n.val) tail.toNat)).modSq n
      fun q => { q with waiting := q.waiting ++ new }).serve) ∧
  (∀ (n : Fin 16) (tail : BitVec 12) (l : List Slot) (s : State) (u : State), s.doorbellsOpen = true → s.doorbell = u →
      tail.toNat < u.sqSize n.val → tail.toNat ≠ u.fld (Fld.HIF_SQ_PTR_TAIL n.val) →
      ¬ (tail.toNat + u.sqSize n.val - u.fld (Fld.HIF_SQ_PTR_HEAD n.val)) % u.sqSize n.val < (u.fld (Fld.HIF_SQ_PTR_TAIL n.val) + u.sqSize n.val - u.fld (Fld.HIF_SQ_PTR_HEAD n.val)) % u.sqSize n.val →
      u.flag (Fld.HIF_SQ_CFG_ENABLE n.val) = false →
      exec (.sqTail n tail l) s = .next (u.setFld (Fld.HIF_SQ_PTR_TAIL n.val) tail.toNat)) ∧
  (∀ (n : Fin 16) (d : Slot) (s : State), s.hif.sq[n].chain = none → d.chain = false → byCp0 d.opcode.toNat = false →
      s.fetch n d =
      (s.setFld (Fld.HIF_SQ_PTR_HEAD n.val) ((s.fld (Fld.HIF_SQ_PTR_HEAD n.val) + 1) % s.sqSize n.val)).modSq n fun q => { q with due := q.due + 1 }) ∧
  (∀ (n : Fin 16) (d : Slot) (s : State), d.fence = true → s.hif.sq[n].chain = none → 0 < s.hif.sq[n].due →
      s.canFetch n d = false) ∧
  (∀ (n : Fin 16) (d : Slot) (s : State), byCp0 d.opcode.toNat = true → 64 ≤ s.hif.fwq.length → s.canFetch n d = false) ∧
  (∀ (n : Fin 16) (s u : State), (s.hif.sq.toList.all fun q => q.waiting.isEmpty) = false →
      forAll (List.finRange 16) (fun n t => t.countStall n) s = u →
      ((List.range 16).map fun k => Fin.ofNat 16 (u.hif.turn.val + k)).find? u.mayFetch = some n →
      s.serve = { State.burst n 8 u with hif := { (State.burst n 8 u).hif with turn := Fin.ofNat 16 (n.val + 1) } }) ∧
  (∀ (n : Fin 16) (c : OpenChain) (s : State), s.hif.sq[n].chain = some c → c.visible s.hif.sq[n].waiting = false →
      s.overdue (.chain n) ((s.parNat 10 32 0 * 1000 : Nat) : Rat) = true → exec (.chainTimeout n) s =
      .next (((s.completeSlot n c.opcode c.cid St.CHAIN_TIMEOUT).incSat (Fld.HIF_SQ_STAT_CHAINTO n.val)).setChain n none)) ∧
  (∀ (n : Fin 16) (s : State),
      s.hif.sq[n].chain = none ∨ s.overdue (.chain n) ((s.parNat 10 32 0 * 1000 : Nat) : Rat) = false →
      exec (.chainTimeout n) s = .next s) ∧
  (∀ (n : Fin 16) (head : BitVec 12) (s : State), s.doorbellsOpen = true → s.doorbell.cqSize n.val ≤ head.toNat →
      exec (.cqHead n head) s = .next (s.doorbell.ringErrorEvent n)) ∧
  (∀ (n : Fin 16) (head : BitVec 12) (s : State) (u : State) (v : State), s.doorbellsOpen = true → s.doorbell = u →
      head.toNat < u.cqSize n.val →
      ¬ (u.fld (Fld.HIF_CQ_PTR_TAIL n.val) + u.cqSize n.val - u.fld (Fld.HIF_CQ_PTR_HEAD n.val)) % u.cqSize n.val < (head.toNat + u.cqSize n.val - u.fld (Fld.HIF_CQ_PTR_HEAD n.val)) % u.cqSize n.val →
      (u.setFld (Fld.HIF_CQ_PTR_HEAD n.val) head.toNat).modCq n (fun c => { c with entries := c.entries.drop ((head.toNat + u.cqSize n.val - u.fld (Fld.HIF_CQ_PTR_HEAD n.val)) % u.cqSize n.val) }) = v →
      exec (.cqHead n head) s = .next ((v.setFlag (Fld.HIF_CQ_CFG_FULL n.val) (v.cqFull n.val)).cqDrain n)) ∧
  (∀ (n : Fin 16) (s : State), s.hif.cq[n].timer = true →
      0 < s.hif.cq[n].unsignal ∧ s.hif.cq[n].firstAt + 1000 * s.fld (Fld.HIF_CQ_CFG_ITIME n.val) ≤ s.sys.poweredNs →
      exec (.cqSignalTimer n) s = .next (s.cqSignal n)) ∧
  (∀ (n : Fin 16) (s : State),
      s.hif.cq[n].timer = false ∨ ¬ (0 < s.hif.cq[n].unsignal ∧ s.hif.cq[n].firstAt + 1000 * s.fld (Fld.HIF_CQ_CFG_ITIME n.val) ≤ s.sys.poweredNs) →
      exec (.cqSignalTimer n) s = .next s) ∧
  (∀ (w : Writer) (n : Fin 16) (s : State), s.writable w (Reg.HIF_SQ_CFG n.val) = true →
      exec (.ringEnable w (.sq n)) s = .next (((s.setFlag (Fld.HIF_SQ_CFG_ENABLE n.val) true).startSq n).releaseHeld n) ∧
      exec (.ringDisable w (.sq n)) s = .next (s.setFlag (Fld.HIF_SQ_CFG_ENABLE n.val) false)) ∧
  (∀ (w : Writer) (n : Fin 16) (s : State), s.writable w (Reg.HIF_CQ_CFG n.val) = true →
      exec (.ringEnable w (.cq n)) s = .next (((s.setFlag (Fld.HIF_CQ_CFG_ENABLE n.val) true).startCq n).cqDrain n) ∧
      exec (.ringDisable w (.cq n)) s = .next (((s.setFlag (Fld.HIF_CQ_CFG_ENABLE n.val) false).modCq n fun c => { c with backlog := [] }).setFld (Fld.HIF_CQ_STAT_DROP n.val)
      (min (s.fld (Fld.HIF_CQ_STAT_DROP n.val) + s.hif.cq[n].backlog.length) 0xFFFF))) ∧
  (∀ (n : Fin 16) (s : State),
      (s.startSq n).fld (Fld.HIF_SQ_PTR_HEAD n.val) = 0 ∧ (s.startSq n).fld (Fld.HIF_SQ_PTR_TAIL n.val) = 0 ∧
      (s.startCq n).fld (Fld.HIF_CQ_PTR_HEAD n.val) = 0 ∧ (s.startCq n).fld (Fld.HIF_CQ_PTR_TAIL n.val) = 0 ∧ (s.startCq n).flag (Fld.HIF_CQ_PTR_PHASE n.val) = true) ∧
  (∀ (n : Fin 16) (s : State), s.flag (Fld.HIF_SQ_CFG_ENABLE n.val) = true →
      exec (.ringError (.sq n)) s = .next ((s.setFlag (Fld.HIF_SQ_CFG_ERR n.val) true).ringErrorEvent n)) ∧
  (∀ (n : Fin 16) (s : State), s.flag (Fld.HIF_CQ_CFG_ENABLE n.val) = true →
      exec (.ringError (.cq n)) s = .next ((s.setFlag (Fld.HIF_CQ_CFG_ERR n.val) true).ringErrorEvent n))

/-- The ring commands of the device itself: NOP, user opcodes, captures, the journal and the STO path test. R435, R494,
R514, R527, R528. NOP completes SUCCESS, an undefined opcode and a user opcode without a handler BAD_OPCODE; what a
handler answers is a free value. A capture with good operands is armed, takes its samples and completes with them, or
DMA_ERROR where its buffer fails. A read of the journal copies the entries and completes; a disabled journal gives
UNIT_FAILED and an index beyond it BAD_FIELD. The STO path test completes SUCCESS or STO_FAIL. -/
def Obligations.HostCommands : Prop :=
  (∀ (h : Desc) (s : State), s.takes h 0x01 = true → exec (.nop h) s = .next (s.complete h 0x01 St.SUCCESS)) ∧
  (∀ (h : Desc) (op : Byte) (s : State) (r : State), s.takes h op.toNat = true → s.taken h (op.toNat) = r →
      0x40 ≤ op.toNat → op.toNat ≤ 0x7F → exec (.userOpcode h op true) s = .next
      (((((((r.freeNat.2).freeNat.2).freeWord.2).freeWord.2).freeWord.2).freeWord.2).complete h op.toNat (r.freeNat.1 % 256) (r.freeNat.2.freeNat.1 % 256)
      [r.freeNat.2.freeNat.2.freeWord.1, r.freeNat.2.freeNat.2.freeWord.2.freeWord.1, r.freeNat.2.freeNat.2.freeWord.2.freeWord.2.freeWord.1,
      r.freeNat.2.freeNat.2.freeWord.2.freeWord.2.freeWord.2.freeWord.1])) ∧
  (∀ (h : Desc) (op : Byte) (s : State) (r : State), s.takes h op.toNat = true → s.taken h (op.toNat) = r →
      0x40 ≤ op.toNat → op.toNat ≤ 0x7F → exec (.userOpcode h op false) s = .next (r.complete h op.toNat St.BAD_OPCODE)) ∧
  (∀ (h : Desc) (op : Byte) (s : State) (r : State), s.takes h op.toNat = true → s.taken h (op.toNat) = r →
      knownOpcode op.toNat = false → exec (.badOpcode h op) s = .next (r.complete h op.toNat St.BAD_OPCODE)) ∧
  (∀ (h : Desc) (buf : BitVec 64) (m : Word) (per : BitVec 16) (l : List Word) (s : State), s.takes h 0x0C = true →
      0 < h.sub.toNat → h.sub.toNat ≤ 8 → l.length = h.sub.toNat → (l.all fun a => isRegisterAddr a.toNat) = true →
      exec (.scopeArm h buf m per l) s = .next ({ s with
      hif := { s.hif with scopes := s.hif.scopes ++ [{ h := h, buffer := buf, samples := m, period := per, regs := l, t0 := s.sys.poweredNs, got := [] }] } } : State)) ∧
  (∀ (h : Desc) (buf : BitVec 64) (m : Word) (per : BitVec 16) (l : List Word) (s : State), s.takes h 0x0C = true →
      ¬ (0 < h.sub.toNat ∧ h.sub.toNat ≤ 8 ∧ l.length = h.sub.toNat ∧ (l.all fun a => isRegisterAddr a.toNat) = true) →
      exec (.scopeArm h buf m per l) s = .next (s.complete h 0x0C St.BAD_FIELD)) ∧
  (∀ (c : Scope) (s : State) (u : State), s.awake = true → s.hif.scopes.find? Scope.whole = some c →
      ({ s with hif := { s.hif with scopes := s.hif.scopes.erase c } } : State) = u → exec (.scopeCaptureDone true) s =
      .next ((State.scopeWrite c c.got.reverse 0 u).complete c.h 0x0C St.SUCCESS 0 [BitVec.ofNat 32 (c.got.length / c.regs.length)]) ∧
      exec (.scopeCaptureDone false) s = .next (u.complete c.h 0x0C St.DMA_ERROR)) ∧
  (∀ (h : Desc) (buf : BitVec 64) (a k : BitVec 16) (s : State) (r : State), s.takes h 0x0D = true → s.taken h 0x0D = r →
      r.flag Fld.SVC_JSTAT_DISABLED = false → a.toNat < journalSize → 0 < k.toNat → k.toNat ≤ journalSize →
      exec (.logRead h buf a k true) s =
      .next ((forAll (List.range k.toNat) (fun i t => t.logCopy h buf a.toNat i) r).complete h 0x0D St.SUCCESS 0
      [k.setWidth 32, BitVec.ofNat 32 (forAll (List.range k.toNat) (fun i t => t.logCopy h buf a.toNat i) r).journalIndex])) ∧
  (∀ (h : Desc) (buf : BitVec 64) (a k : BitVec 16) (s : State) (r : State), s.takes h 0x0D = true → s.taken h 0x0D = r →
      r.flag Fld.SVC_JSTAT_DISABLED = false → a.toNat < journalSize → 0 < k.toNat → k.toNat ≤ journalSize →
      exec (.logRead h buf a k false) s = .next (r.complete h 0x0D St.DMA_ERROR)) ∧
  (∀ (h : Desc) (buf : BitVec 64) (a k : BitVec 16) (ok : Bool) (s : State) (r : State), s.takes h 0x0D = true →
      s.taken h 0x0D = r → r.flag Fld.SVC_JSTAT_DISABLED = false →
      journalSize ≤ a.toNat ∨ k.toNat = 0 ∨ journalSize < k.toNat →
      exec (.logRead h buf a k ok) s = .next (r.complete h 0x0D St.BAD_FIELD)) ∧
  (∀ (h : Desc) (buf : BitVec 64) (a k : BitVec 16) (ok : Bool) (s : State) (r : State), s.takes h 0x0D = true →
      s.taken h 0x0D = r → r.flag Fld.SVC_JSTAT_DISABLED = true →
      exec (.logRead h buf a k ok) s = .next (r.complete h 0x0D St.UNIT_FAILED)) ∧
  (∀ (h : Desc) (g : Option (Fin 28)) (i : Option StoInput) (s : State), s.takes h 0x1A = true → s.stoTestStatus = none →
      exec (.stoTest h g i) s =
      .next (((s.stoTestRun g i).2.complete h 0x1A (if (s.stoTestRun g i).1 then St.SUCCESS else St.STO_FAIL)).settle)) ∧
  (∀ (h : Desc) (g : Option (Fin 28)) (i : Option StoInput) (st : Nat) (s : State), s.takes h 0x1A = true →
      s.stoTestStatus = some st → exec (.stoTest h g i) s = .next (s.complete h 0x1A st))

/-- Images and flash operations by the host, its watchdog, its configuration requests and the RTC. R7, R90, R103, R512,
R524, R534, R535, R607, R608, R637. An image write marks the other image and completes with its flash operation; a
commit that passes clears the failure of the image, records its version and, with SUB bit 0, prefers it; another gives
IMAGE_FAIL. A flash operation that ends takes its effect and raises source 11. The host is lost once no doorbell has
come for longer than the watchdog, and not before. A configuration request is retried in Dawn and answered after it. A
written RTC count waits for the next tick of 32.768 kHz (State.rtcTick). -/
def Obligations.HostImagesAndWatchdog : Prop :=
  (∀ (h : Desc) (src : BitVec 64) (off len : Word) (ur b : Bool) (s : State) (r : State), s.takes h 0x1B = true →
      s.taken h 0x1B = r → r.imageDenied = false → len.toNat ≠ 0 → len.toNat ≤ 0x10000 → len.toNat % 4096 = 0 →
      off.toNat % 4096 = 0 → (ur && r.sys.flashBusy == some (.refresh (.image r.otherImage))) = false →
      exec (.imageWrite h src off len ur true b) s =
      .next (({ r with
      sys := { r.sys with flashBusy := some (r.sys.flashBusy.getD .imageBlock) }
      images := r.images.set (imageIx r.otherImage) { r.images[imageIx r.otherImage] with partly := true } } : State).addFlight h 0x1B (if b then 1 else 0)) ∧
      exec (.imageWrite h src off len ur false b) s = .next (r.complete h 0x1B St.DMA_ERROR)) ∧
  (∀ (h : Desc) (src : BitVec 64) (off len : Word) (ok b : Bool) (s : State) (r : State), s.takes h 0x1B = true →
      s.taken h 0x1B = r → r.imageDenied = false → len.toNat ≠ 0 → len.toNat ≤ 0x10000 → len.toNat % 4096 = 0 →
      off.toNat % 4096 = 0 → r.sys.flashBusy = some (.refresh (.image r.otherImage)) →
      exec (.imageWrite h src off len true ok b) s = .next (r.complete h 0x1B St.BUSY)) ∧
  (∀ (h : Desc) (src : BitVec 64) (off len : Word) (ur ok b : Bool) (s : State) (r : State), s.takes h 0x1B = true →
      s.taken h 0x1B = r → r.imageDenied = false →
      len.toNat = 0 ∨ 0x10000 < len.toNat ∨ len.toNat % 4096 ≠ 0 ∨ off.toNat % 4096 ≠ 0 →
      exec (.imageWrite h src off len ur ok b) s = .next (r.complete h 0x1B St.BAD_FIELD)) ∧
  (∀ (h : Desc) (src : BitVec 64) (off len : Word) (ur ok b : Bool) (s : State) (r : State), s.takes h 0x1B = true →
      s.taken h 0x1B = r → r.imageDenied = true →
      exec (.imageWrite h src off len ur ok b) s = .next (r.complete h 0x1B St.MODE_DENIED)) ∧
  (∀ (h : Desc) (sg hd fits : Bool) (v : BitVec 16) (s : State) (r : State), s.takes h 0x1C = true → s.taken h 0x1C = r →
      r.imageDenied = true → exec (.imageCommit h sg hd fits v) s = .next (r.complete h 0x1C St.MODE_DENIED)) ∧
  (∀ (h : Desc) (sg hd fits : Bool) (v : BitVec 16) (s : State) (r : State), s.takes h 0x1C = true → s.taken h 0x1C = r →
      r.imageDenied = false → r.imageOk r.otherImage sg hd fits v = false →
      exec (.imageCommit h sg hd fits v) s = .next ((r.setFlag (imageFail r.otherImage) true).complete h 0x1C St.IMAGE_FAIL)) ∧
  (∀ (h : Desc) (sg hd fits : Bool) (v : BitVec 16) (u : State) (s : State) (r : State), s.takes h 0x1C = true →
      s.taken h 0x1C = r → r.imageDenied = false → r.imageOk r.otherImage sg hd fits v = true →
      ({ r.setFlag (imageFail r.otherImage) false with images := r.images.set (imageIx r.otherImage) { r.images[imageIx r.otherImage] with svn := v } } : State) = u →
      exec (.imageCommit h sg hd fits v) s =
      .next ((if h.sub.getLsbD 0 then ({ u with sys := { u.sys with preferFlash := r.otherImage } } : State).setFlag Fld.SYS_BOOT_PREFER r.otherImage else u).complete h 0x1C St.SUCCESS)) ∧
  (∀ (op : FlashOp) (ok : Bool) (s : State), s.awake = true → s.flashRuns op = true →
      exec (.flashOperationComplete op ok) s = .next
      ((if (s.flashEffect op ok).sys.flashBusy == some op then { s.flashEffect op ok with sys := { (s.flashEffect op ok).sys with flashBusy := none } } else s.flashEffect op ok).irq 11).nextRefresh) ∧
  (∀ (s : State), s.awake = true → s.parNat 10 30 0 ≠ 0 →
      s.overdue .hostLost ((s.parNat 10 30 0 * 1_000_000 : Nat) : Rat) = true → exec .hostLost s = .next s.hostLost) ∧
  (∀ (s : State), s.parNat 10 30 0 = 0 ∨ s.overdue .hostLost ((s.parNat 10 30 0 * 1_000_000 : Nat) : Rat) = false →
      exec .hostLost s = .next s) ∧
  (∀ (off : BitVec 12) (s : State), s.endpointUp = true → s.mode ≠ .dawn ∨ s.dawnFailed = true →
      exec (.configRequest off) s = .next { (s.configWord off).2 with hif := { (s.configWord off).2.hif with cfgReply := some (.word (s.configWord off).1) } }) ∧
  (∀ (off : BitVec 12) (s : State), s.endpointUp = true → s.mode = .dawn → s.dawnFailed = false →
      exec (.configRequest off) s = .next { s with hif := { s.hif with cfgReply := some .retry } }) ∧
  (∀ (off : BitVec 12) (s : State), s.endpointUp = false → exec (.configRequest off) s = .next s) ∧
  (∀ (w : Writer) (sec : Word) (s : State), s.writable w Reg.PMU_RTC = true →
      exec (.rtcWrite w sec) s = .next { s with sys := { s.sys with rtcSet := some sec } }) ∧
  (∀ (sec : Word) (s : State), s.awake = true → s.sys.refreshDue = false →
      s.rtcTick sec = (({ s with sys := { s.sys with rtcNs := 0, rtcSet := none } } : State).setReg Reg.PMU_RTC sec).setFlag Fld.PMU_NIGHT_RTC_VALID true) ∧
  (∀ (sec : Word) (s : State), s.awake = true → s.sys.refreshDue = true →
      s.rtcTick sec = ((({ s with sys := { s.sys with rtcNs := 0, rtcSet := none } } : State).setReg Reg.PMU_RTC sec).setFlag Fld.PMU_NIGHT_RTC_VALID true).refreshCheck)

/-- Reading and writing parameters, selecting and storing a profile. R23, R78, R80, R92, R100, R453, R454, R528, R529,
R640, R641. A read of one to four existing parameters returns their values in order, and otherwise names the first
entry that does not exist. A write of one to seven entries changes nothing unless every entry passes, and names the
first that does not; then it writes all and completes, or starts the sealing where one of them is the staged CRC. A
profile is selected or stored with every axis STOPPED or no profile active, and otherwise refused with NOT_STOPPED; a
slot that is not valid or uses an unavailable set gives NO_PROFILE; a select or store refused for mode shows in
REQ_RES; a store completes with its flash write. -/
def Obligations.ParametersAndProfiles : Prop :=
  (∀ (h : Desc) (es : List ParamId) (s : State), s.takes h 0x02 = true → h.sub.toNat = es.length → 1 ≤ es.length →
      es.length ≤ 4 → (es.findIdx? fun p => (s.paramValue p).isNone) = none →
      exec (.paramRead h es) s = .next ((forAll es (fun p t => t.markRead p) s).complete h 0x02 St.SUCCESS 0 (es.filterMap s.paramValue))) ∧
  (∀ (h : Desc) (es : List ParamId) (k : Nat) (s : State), s.takes h 0x02 = true → h.sub.toNat = es.length →
      1 ≤ es.length → es.length ≤ 4 → (es.findIdx? fun p => (s.paramValue p).isNone) = some k →
      exec (.paramRead h es) s = .next (s.complete h 0x02 St.PARAM_UNKNOWN k)) ∧
  (∀ (h : Desc) (es : List (ParamId × Word)) (s : State), s.takes h 0x03 = true → h.sub.toNat = es.length → 1 ≤ es.length →
      es.length ≤ 7 → s.firstRefused s 0 es = none → sealCrcOf es = none →
      exec (.paramWrite h es) s = .next ((forAll es (fun e t => t.writeEntry e) s).complete h 0x03 St.SUCCESS).settle) ∧
  (∀ (h : Desc) (es : List (ParamId × Word)) (crc : Word) (s : State), s.takes h 0x03 = true → h.sub.toNat = es.length →
      1 ≤ es.length → es.length ≤ 7 → s.firstRefused s 0 es = none → sealCrcOf es = some crc →
      exec (.paramWrite h es) s = .next ((forAll es (fun e t => t.writeEntry e) s).sealStart h crc)) ∧
  (∀ (h : Desc) (es : List (ParamId × Word)) (k st : Nat) (s : State), s.takes h 0x03 = true → h.sub.toNat = es.length →
      1 ≤ es.length → es.length ≤ 7 → s.firstRefused s 0 es = some (k, st) →
      exec (.paramWrite h es) s = .next (s.complete h 0x03 st k)) ∧
  (∀ (h : Desc) (n : Fin 4) (u : State) (s : State) (r : State), s.takes h 0x07 = true → s.taken h 0x07 = r →
      r.selectRefusal h = none → profileIx h = some n → (r.profileActive && !r.allStopped) = false →
      r.discardStaging St.SEAL_FAIL = u → u.slots[n].valid = true → u.setsFree u.slots[n] = true → exec (.profileSelect h) s =
      .next (((u.activate n).portEnable.chooseParent).complete h 0x07 St.SUCCESS).settle) ∧
  (∀ (h : Desc) (n : Fin 4) (u : State) (s : State) (r : State), s.takes h 0x07 = true → s.taken h 0x07 = r →
      r.selectRefusal h = none → profileIx h = some n → (r.profileActive && !r.allStopped) = false →
      r.discardStaging St.SEAL_FAIL = u → (u.slots[n].valid && u.setsFree u.slots[n]) = false → u.profileActive = true →
      exec (.profileSelect h) s = .next (u.complete h 0x07 St.NO_PROFILE)) ∧
  (∀ (h : Desc) (n : Fin 4) (u : State) (s : State) (r : State), s.takes h 0x07 = true → s.taken h 0x07 = r →
      r.selectRefusal h = none → profileIx h = some n → (r.profileActive && !r.allStopped) = false →
      r.discardStaging St.SEAL_FAIL = u → (u.slots[n].valid && u.setsFree u.slots[n]) = false → u.profileActive = false →
      exec (.profileSelect h) s = .next (((u.rejectLoad n).complete h 0x07 St.NO_PROFILE).settle)) ∧
  (∀ (h : Desc) (n : Fin 4) (s : State) (r : State), s.takes h 0x07 = true → s.taken h 0x07 = r →
      r.selectRefusal h = none → profileIx h = some n → (r.profileActive && !r.allStopped) = true →
      exec (.profileSelect h) s = .next (r.complete h 0x07 St.NOT_STOPPED) ∧ exec (.profileStore h) s = .next (r.complete h 0x07 St.NOT_STOPPED)) ∧
  (∀ (h : Desc) (n : Fin 4) (s : State) (r : State), s.takes h 0x07 = true → s.taken h 0x07 = r →
      r.selectRefusal h = none → profileIx h = some n → (r.profileActive && !r.allStopped) = false →
      r.sys.flashBusy ≠ some (.refresh (.profile n)) → exec (.profileStore h) s = .next ({ r with
      sys := { r.sys with flashBusy := some (r.sys.flashBusy.getD (.profileStore n)) }
      hif := { r.hif with inFlight := r.hif.inFlight ++ [{ h := h, opcode := 0x07, inst := n.val }] } } : State)) ∧
  (∀ (h : Desc) (n : Fin 4) (s : State) (r : State), s.takes h 0x07 = true → s.taken h 0x07 = r →
      r.selectRefusal h = none → profileIx h = some n → (r.profileActive && !r.allStopped) = false →
      r.sys.flashBusy = some (.refresh (.profile n)) → exec (.profileStore h) s = .next (r.complete h 0x07 St.BUSY)) ∧
  (∀ (h : Desc) (st : Nat) (s : State) (r : State), s.takes h 0x07 = true → s.taken h 0x07 = r →
      r.selectRefusal h = some st → st ≠ St.MODE_DENIED →
      exec (.profileSelect h) s = .next (r.complete h 0x07 st) ∧ exec (.profileStore h) s = .next (r.complete h 0x07 st)) ∧
  (∀ (h : Desc) (s : State) (r : State), s.takes h 0x07 = true → s.taken h 0x07 = r →
      r.selectRefusal h = some St.MODE_DENIED →
      exec (.profileSelect h) s = .next ((r.reqRes 2).complete h 0x07 St.MODE_DENIED) ∧ exec (.profileStore h) s = .next ((r.reqRes 2).complete h 0x07 St.MODE_DENIED))

/-- FUNC_REINIT of a ring, a CAN controller, a Weft port, a feedback port and a lane. R265, R391, R528, R530, R547, R584,
R605, R609. A unit that exists and is not in use is reinitialised, with the journal entry RECOVER 2, and the command
completes, that of a lane with its known-answer test; a loopback of a feedback port that fails gives UNIT_FAILED; a
ring cannot reinitialise itself and an index outside the unit's range is BAD_FIELD; a unit that failed at Dawn gives
UNIT_FAILED and one in use IN_USE (for a lane the status is the model's choice, log entry 25). -/
def Obligations.FunctionReinit : Prop :=
  (∀ (h : Desc) (s : State) (r : State), s.takes h 0x18 = true → s.taken h 0x18 = r → h.index.toNat < 16 →
      h.sq.val ≠ h.index.toNat →
      exec (.funcReinitSq h) s = .next ((((r.journalFw 0x010A 2 (BitVec.ofNat 32 1) (BitVec.ofNat 32 h.index.toNat))).reinitSq (Fin.ofNat 16 h.index.toNat)).complete h 0x18 St.SUCCESS)) ∧
  (∀ (h : Desc) (s : State) (r : State), s.takes h 0x18 = true → s.taken h 0x18 = r → h.index.toNat < 16 →
      exec (.funcReinitCq h) s = .next ((((r.journalFw 0x010A 2 (BitVec.ofNat 32 2) (BitVec.ofNat 32 h.index.toNat))).reinitCq (Fin.ofNat 16 h.index.toNat)).complete h 0x18 St.SUCCESS)) ∧
  (∀ (h : Desc) (s : State) (r : State), s.takes h 0x18 = true → s.taken h 0x18 = r → h.index.toNat < 4 →
      r.bstFailed Fld.BST_FAIL_CAN h.index.toNat = false →
      exec (.funcReinitCan h) s = .next ((((r.journalFw 0x010A 2 (BitVec.ofNat 32 3) (BitVec.ofNat 32 h.index.toNat))).reinitCan (Fin.ofNat 4 h.index.toNat)).complete h 0x18 St.SUCCESS)) ∧
  (∀ (h : Desc) (s : State) (r : State), s.takes h 0x18 = true → s.taken h 0x18 = r → h.index.toNat < 4 →
      r.bstFailed Fld.BST_FAIL_CAN h.index.toNat = true → exec (.funcReinitCan h) s = .next (r.complete h 0x18 St.UNIT_FAILED)) ∧
  (∀ (h : Desc) (s : State) (r : State), s.takes h 0x18 = true → s.taken h 0x18 = r → h.index.toNat < 4 →
      r.lstate (Fin.ofNat 4 h.index.toNat) ≠ 4 →
      ((r.journalFw 0x010A 2 (BitVec.ofNat 32 4) (BitVec.ofNat 32 h.index.toNat))).lstate (Fin.ofNat 4 h.index.toNat) ≠ 0 →
      exec (.funcReinitWeftPort h) s = .next (((((r.journalFw 0x010A 2 (BitVec.ofNat 32 4) (BitVec.ofNat 32 h.index.toNat))).toTrain (Fin.ofNat 4 h.index.toNat)).complete h 0x18 St.SUCCESS).settle)) ∧
  (∀ (h : Desc) (s : State) (r : State), s.takes h 0x18 = true → s.taken h 0x18 = r → h.index.toNat < 4 →
      r.lstate (Fin.ofNat 4 h.index.toNat) ≠ 4 →
      ((r.journalFw 0x010A 2 (BitVec.ofNat 32 4) (BitVec.ofNat 32 h.index.toNat))).lstate (Fin.ofNat 4 h.index.toNat) = 0 →
      exec (.funcReinitWeftPort h) s = .next (((r.journalFw 0x010A 2 (BitVec.ofNat 32 4) (BitVec.ofNat 32 h.index.toNat))).complete h 0x18 St.SUCCESS).settle) ∧
  (∀ (h : Desc) (s : State) (r : State), s.takes h 0x18 = true → s.taken h 0x18 = r → h.index.toNat < 4 →
      r.lstate (Fin.ofNat 4 h.index.toNat) = 4 → exec (.funcReinitWeftPort h) s = .next (r.complete h 0x18 St.UNIT_FAILED)) ∧
  (∀ (h : Desc) (ok : Bool) (s : State) (r : State), s.takes h 0x18 = true → s.taken h 0x18 = r → h.index.toNat < 4 →
      r.portRefusal (Fin.ofNat 4 h.index.toNat) = none → exec (.funcReinitFeedbackPort h ok) s =
      .next ((((r.journalFw 0x010A 2 (BitVec.ofNat 32 5) (BitVec.ofNat 32 h.index.toNat)).reinitPort (Fin.ofNat 4 h.index.toNat)).complete h 0x18
      (if ok then St.SUCCESS else St.UNIT_FAILED)).settle)) ∧
  (∀ (h : Desc) (ok : Bool) (st : Nat) (s : State) (r : State), s.takes h 0x18 = true → s.taken h 0x18 = r →
      h.index.toNat < 4 → r.portRefusal (Fin.ofNat 4 h.index.toNat) = some st →
      exec (.funcReinitFeedbackPort h ok) s = .next (r.complete h 0x18 st)) ∧
  (∀ (h : Desc) (s : State) (r : State), s.takes h 0x18 = true → s.taken h 0x18 = r → h.index.toNat < 4 →
      r.flag (Fld.LOOM_FAULT_UNAVAIL (Fin.ofNat 4 h.index.toNat)) = false →
      r.bstFailed Fld.BST_FAIL_LANE h.index.toNat = false → r.setFree (Fin.ofNat 4 h.index.toNat) = true →
      exec (.funcReinitLane h) s = .next ((((r.journalFw 0x010A 2 (BitVec.ofNat 32 6) (BitVec.ofNat 32 h.index.toNat))).reinitLane h (Fin.ofNat 4 h.index.toNat)).settle)) ∧
  (∀ (h : Desc) (s : State) (r : State), s.takes h 0x18 = true → s.taken h 0x18 = r → h.index.toNat < 4 →
      r.flag (Fld.LOOM_FAULT_UNAVAIL (Fin.ofNat 4 h.index.toNat)) = false →
      r.bstFailed Fld.BST_FAIL_LANE h.index.toNat = false → r.setFree (Fin.ofNat 4 h.index.toNat) = false →
      exec (.funcReinitLane h) s = .next (r.complete h 0x18 St.IN_USE)) ∧
  (∀ (h : Desc) (s : State) (r : State), s.takes h 0x18 = true → s.taken h 0x18 = r → h.index.toNat < 4 →
      r.flag (Fld.LOOM_FAULT_UNAVAIL (Fin.ofNat 4 h.index.toNat)) = true ∨ r.bstFailed Fld.BST_FAIL_LANE h.index.toNat = true →
      exec (.funcReinitLane h) s = .next (r.complete h 0x18 St.UNIT_FAILED)) ∧
  (∀ (h : Desc) (ok : Bool) (s : State) (r : State), s.takes h 0x18 = true → s.taken h 0x18 = r → 4 ≤ h.index.toNat →
      exec (.funcReinitCan h) s = .next (r.complete h 0x18 St.BAD_FIELD) ∧ exec (.funcReinitWeftPort h) s = .next (r.complete h 0x18 St.BAD_FIELD) ∧
      exec (.funcReinitFeedbackPort h ok) s = .next (r.complete h 0x18 St.BAD_FIELD) ∧ exec (.funcReinitLane h) s = .next (r.complete h 0x18 St.BAD_FIELD)) ∧
  (∀ (h : Desc) (s : State) (r : State), s.takes h 0x18 = true → s.taken h 0x18 = r → 16 ≤ h.index.toNat →
      exec (.funcReinitSq h) s = .next (r.complete h 0x18 St.BAD_FIELD) ∧ exec (.funcReinitCq h) s = .next (r.complete h 0x18 St.BAD_FIELD)) ∧
  (∀ (h : Desc) (s : State) (r : State), s.takes h 0x18 = true → s.taken h 0x18 = r → h.sq.val = h.index.toNat →
      exec (.funcReinitSq h) s = .next (r.complete h 0x18 St.BAD_FIELD))

/-- A register write stores what its access code allows, and the rest of the address space. R8, R22, R626 to R629: a plain
register takes its RW bits and clears the W1C bits written with 1, and keeps the others; an unassigned address,
another size and a locked register take nothing; system SRAM takes bytes of any size. -/
def Obligations.RegisterAccess : Prop :=
  (∀ (w : Writer) (a v hw : Word) (row : RegRow) (s : State), s.awake = true → 0x4000_0000 ≤ a.toNat →
      a.toNat < 0x4100_0000 → a.toNat % 4 = 0 → regRow a.toNat = some row → s.deaf a.toNat = false →
      actOn w row a.toNat v s = none → s.writeRefused w a.toNat = false → row.rwl = 0 → s.closed row a.toNat = false →
      exec (.registerWrite w a v 4 hw) s =
      .next ((s.setReg a.toNat ((((s.reg a.toNat &&& ~~~row.rw) ||| (v &&& row.rw)) &&& ~~~(v &&& row.w1c &&& ~~~hw)) &&& row.there a.toNat)).afterStore row
      a.toNat)) ∧
  (∀ (w : Writer) (a v hw : Word) (s : State), s.awake = true → 0x4000_0000 ≤ a.toNat → a.toNat < 0x4100_0000 →
      a.toNat % 4 = 0 → regRow a.toNat = none → exec (.registerWrite w a v 4 hw) s = .next s ∧ s.readReg a.toNat = 0) ∧
  (∀ (a v hw : Word) (k : Nat) (s : State), s.awake = true → 0x4000_0000 ≤ a.toNat → a.toNat < 0x4100_0000 →
      k ≠ 4 ∨ a.toNat % 4 ≠ 0 → exec (.registerWrite .host a v k hw) s = .next (s.incSat Fld.HIF_CNT_BADACC)) ∧
  (∀ (w : Writer) (a v hw : Word) (k : Nat) (s : State), s.awake = true → 0x1000_0000 ≤ a.toNat → a.toNat < 0x1080_0000 →
      w ≠ .console → exec (.registerWrite w a v k hw) s = .next (s.sramWrite (a.toNat - 0x1000_0000) (lowBytes v k))) ∧
  (∀ (s : State) (a : Nat) (r : RegRow), regRow a = some r → s.hidden a = false → (r.base == Reg.FBI_CPT 0) = false →
      s.readReg a = s.reg a)

/-- Training of the ports and the addresses of the node. R7, R545 to R547, R549, R552, R553. A port in TRAIN counts clean
training sets, starts the count again on a broken one, and after 64 with LOCK becomes ACTIVE, or LOOP where the
partner is this node; a training set, a lost lock or the silence of three hello periods takes it back to TRAIN, and
before that time nothing happens; RETRAIN counts a period without success. A claim or defence of another node is taken
by its rule (State.claimRx), and one of this node changes nothing; the third claim of a candidate unopposed takes the
address, a defence repeats it, and the wait after a lost contest claims again. -/
def Obligations.WeftNode : Prop :=
  (∀ (p : Fin 4) (m : ClaimMsg) (s : State),
      exec (.claim p m) s = .next (s.claimRx 3 p m).settle ∧ exec (.defend p m) s = .next (s.claimRx 4 p m).settle) ∧
  (∀ (p : Fin 4) (k : Nat) (m : ClaimMsg) (s : State), m.uid = Config.uid ∨ s.linkUp p = false → s.claimRx k p m = s) ∧
  (∀ (p : Fin 4) (k : Nat) (m : ClaimMsg) (s : State) (c : Bool × State), s.linkUp p = true → m.uid ≠ Config.uid →
      (s.modPort p fun q => { q with heardAt := s.sys.poweredNs }).seenCast m.uid 0 m.pkt = c → c.1 = true → s.claimRx k p m = c.2) ∧
  (∀ (s : State), s.awake = true → s.fld Fld.WFT_NODE_ASTATE = 1 → s.wft.claims < 3 →
      exec .claimTimer s = .next ((s.modWft fun w => { w with claims := w.claims + 1 }).announce 3 s.wft.cand)) ∧
  (∀ (s : State), s.awake = true → s.fld Fld.WFT_NODE_ASTATE = 1 → ¬s.wft.claims < 3 →
      exec .claimTimer s = .next ((s.setFld Fld.WFT_NODE_ASTATE 2).reroute fun t => t.setFld Fld.WFT_NODE_ADDR t.wft.cand.toNat)) ∧
  (∀ (s : State), s.awake = true → s.fld Fld.WFT_NODE_ASTATE = 2 → exec .defendTimer s = .next (s.announce 4 s.nodeAddr)) ∧
  (∀ (s : State), s.awake = true → s.fld Fld.WFT_NODE_ASTATE = 3 → exec .conflictWait s = .next (s.claimStart s.wft.cand)) ∧
  (∀ (p : Fin 4) (uid : Time) (a : Byte) (lock clean : Bool) (s : State), s.awake = true → s.lstate p = 1 →
      (if clean then s.wft.port[p].trainN + 1 else 0) < 64 ∨ lock = false → exec (.trainingSet p uid a lock clean) s =
      .next (s.modPort p fun q => { q with trainN := (if clean then s.wft.port[p].trainN + 1 else 0) })) ∧
  (∀ (p : Fin 4) (a : Byte) (s : State), s.awake = true → s.lstate p = 1 → 63 ≤ s.wft.port[p].trainN →
      Completes (.trainingSet p Config.uid a true true) s fun t => t.lstate p = 3) ∧
  (∀ (p : Fin 4) (uid : Time) (a : Byte) (s : State), s.awake = true → s.lstate p = 1 → 63 ≤ s.wft.port[p].trainN →
      uid ≠ Config.uid → s.fld Fld.WFT_NODE_ASTATE ≠ 0 →
      Completes (.trainingSet p uid a true true) s fun t => t.lstate p = 2 ∧ t.reg (Reg.WFT_P_PEER_LO p) = uid.setWidth 32 ∧ t.wft.port[p].tokens = 344) ∧
  (∀ (p : Fin 4) (uid : Time) (a : Byte) (lock clean : Bool) (s : State), s.awake = true →
      s.lstate p = 2 ∨ s.lstate p = 3 → exec (.trainingSet p uid a lock clean) s = .next (s.toTrain p).settle) ∧
  (∀ (p : Fin 4) (s : State), s.awake = true → s.lstate p = 1 →
      exec (.retrain p) s = .next ((s.incSat (Fld.WFT_P_STATE_RETRAIN p)).modPort p fun q => { q with trainN := 0 })) ∧
  (∀ (p : Fin 4) (k : Nat) (s : State), s.awake = true → s.lstate p = 2 ∨ s.lstate p = 3 →
      exec (.weftLink p k) s = .next ((s.addSat (Fld.WFT_P_ERR_CODE p) k).toTrain p).settle) ∧
  (∀ (p : Fin 4) (s : State), s.awake = true → s.lstate p = 2 ∨ s.lstate p = 3 →
      (s.wft.port[p].heardAt : Rat) + 3000 * s.p36 20 < (s.sys.poweredNs : Rat) →
      exec (.helloTimeout p) s = .next (s.toTrain p).settle) ∧
  (∀ (p : Fin 4) (s : State), ¬ ((s.wft.port[p].heardAt : Rat) + 3000 * s.p36 20 < (s.sys.poweredNs : Rat)) →
      exec (.helloTimeout p) s = .next s)

/-- Hellos and routes of the node. R549, R554, R555, R559, R564. A hello records the neighbour and its cost, a route the
costs of the port; both choose the parent or the routes again. Routes leave on every ACTIVE port, and the costs of a
port without a route for four periods lapse, and only then. -/
def Obligations.HellosAndRoutes : Prop :=
  (∀ (p : Fin 4) (m : HelloMsg) (s : State), s.awake = true → s.linkUp p = true →
      exec (.hello p m) s = .next ((((((s.modPort p fun q => { q with heardAt := s.sys.poweredNs }).learnUid m.uid m.addr).modPort p fun q => { q with hello := some m }).setFld
      (Fld.WFT_P_STATE_PEER_ADDR p) m.addr.toNat).reroute fun t => if m.addr == 0 then t else t.setCost m.addr.toNat p 1).chooseParent.settle)) ∧
  (∀ (p : Fin 4) (l : List (BitVec 5)) (s : State), s.awake = true → s.linkUp p = true →
      exec (.route p l) s = .next (((s.modPort p fun q => { q with heardAt := s.sys.poweredNs }).modPort p fun q => { q with rtAt := s.sys.poweredNs }).reroute fun t => forAll (List.range 254)
      (fun k u => u.setCost (k + 1) p (((l[k]?).map fun m => m.toNat).getD 16 + 1)) t).settle) ∧
  (∀ (s : State), s.awake = true → exec .routeSend s = .next (forAll s.upPorts (fun p t => t.sendRoute p) s)) ∧
  (∀ (p : Fin 4) (s : State), s.awake = true →
      (s.wft.port[p].rtAt : Rat) + 4_000_000 * s.p36 21 < (s.sys.poweredNs : Rat) →
      exec (.routeAge p) s = .next (s.reroute fun t => t.modPort p fun q => { q with cost := [] }).settle) ∧
  (∀ (p : Fin 4) (s : State), ¬ ((s.wft.port[p].rtAt : Rat) + 4_000_000 * s.p36 21 < (s.sys.poweredNs : Rat)) →
      exec (.routeAge p) s = .next s)

/-- Frames, fragments, contexts, echoes and WEFT_SEND. R7, R548 to R551, R555, R558, R560, R563, R576. A good frame on an
ACTIVE port is heard and taken by its kind and destination; one with a bad CRC and a broken one are counted and
dropped; another port takes nothing. A partial packet whose next fragment is overdue is dropped and counted, and not
before; an unpinned context unused for longer than CTX_AGE is freed, and only such a one. An echo request for this
node is answered and one for another forwarded; an answer to no ping changes nothing, one to a ping of the console
starts the next round or ends the ping with its shortest and longest round trip. A sent frame frees its port for the
next. WEFT_SEND is refused with BAD_FIELD for operands outside their ranges and with BUSY and the detail of its
obstacle (1 the queue, 2 no context, 3 no route, 4 no address), or queued whole. -/
def Obligations.WeftTransport : Prop :=
  (∀ (p : Fin 4) (f : WFrame) (s : State), s.awake = true → s.linkUp p = true →
      exec (.data p (.good f)) s = .next ((s.modPort p fun q => { q with heardAt := s.sys.poweredNs }).dataRx p f).settle ∧ exec (.data p .badCrc) s = .next (s.incSat (Fld.WFT_P_ERR_CRC p)) ∧
      exec (.data p .broken) s = .next (s.incSat (Fld.WFT_P_ERR_PARTIAL p))) ∧
  (∀ (p : Fin 4) (f : WFrame) (s : State), f.kind = 1 → f.dst ≠ 255 →
      s.dataRx p f = if f.dst = 0 ∨ f.dst = s.nodeAddr then s.deliverFrame f else s.forward [f]) ∧
  (∀ (p : Fin 4) (r : FrameRx) (s : State), s.linkUp p = false → exec (.data p r) s = .next s) ∧
  (∀ (a : Byte) (k : BitVec 2) (s : State), s.awake = true →
      (s.wft.ctx.any fun c => c.addr == a && c.cls == k && s.fragLate c) = true →
      exec (.fragTmo a k) s = .next ((s.modCtx a k fun c => { c with part := none, gone := c.part.map fun q => q.1 }).incSat Fld.WFT_CNT2_REASM)) ∧
  (∀ (a : Byte) (k : BitVec 2) (s : State), (s.wft.ctx.any fun c => c.addr == a && c.cls == k && s.fragLate c) = false →
      exec (.fragTmo a k) s = .next s) ∧
  (∀ (a : Byte) (k : BitVec 2) (s : State), s.awake = true → exec (.ctxAge a k) s = .next (s.modWft fun w =>
      { w with ctx := w.ctx.filter fun c => c.pinned || c.addr != a || c.cls != k || decide ((s.sys.poweredNs : Rat) ≤ (c.heard : Rat) + 1_000_000_000 * s.p36 25) }).ctxLive) ∧
  (∀ (p : Fin 4) (q : Packet) (s : State) (u : State), s.awake = true → s.linkUp p = true →
      (s.modPort p fun q => { q with heardAt := s.sys.poweredNs }) = u → q.dst = u.nodeAddr → q.dst ≠ 0 →
      exec (.echoReq p q) s = .next (u.sendEcho 10 q.src q.payload)) ∧
  (∀ (p : Fin 4) (q : Packet) (s : State) (u : State), s.awake = true → s.linkUp p = true →
      (s.modPort p fun q => { q with heardAt := s.sys.poweredNs }) = u → q.dst ≠ u.nodeAddr ∨ q.dst = 0 →
      exec (.echoReq p q) s = .next (u.forward (u.echoFrames 9 q)) ∧ exec (.echoResp p q) s = .next (u.forward (u.echoFrames 10 q))) ∧
  (∀ (p : Fin 4) (q : Packet) (s : State) (u : State), s.awake = true → s.linkUp p = true →
      (s.modPort p fun q => { q with heardAt := s.sys.poweredNs }) = u → q.dst = u.nodeAddr → q.dst ≠ 0 →
      (u.wft.ping.any fun g => g.addr == q.src) = false → exec (.echoResp p q) s = .next u) ∧
  (∀ (p : Fin 4) (q : Packet) (g : Ping) (s : State) (u : State), s.awake = true → s.linkUp p = true →
      (s.modPort p fun q => { q with heardAt := s.sys.poweredNs }) = u → q.dst = u.nodeAddr → q.dst ≠ 0 →
      u.wft.ping = some g → g.addr = q.src → g.left ≤ 1 → exec (.echoResp p q) s =
      .next (({ (u.modWft fun w => { w with ping := none }) with con := { u.con with busy := false } } : State).reply
      [.data [("min", (((u.weft.toNat - g.t0.toNat) :: g.rtts).foldl min (u.weft.toNat - g.t0.toNat) : Nat)),
      ("max", (((u.weft.toNat - g.t0.toNat) :: g.rtts).foldl max 0 : Nat))]])) ∧
  (∀ (p : Fin 4) (q : Packet) (g : Ping) (s : State) (u : State), s.awake = true → s.linkUp p = true →
      (s.modPort p fun q => { q with heardAt := s.sys.poweredNs }) = u → q.dst = u.nodeAddr → q.dst ≠ 0 →
      u.wft.ping = some g → g.addr = q.src → 1 < g.left → exec (.echoResp p q) s = .next ((u.modWft fun w =>
      { w with ping := some { g with left := g.left - 1, t0 := u.weft, rtts := (u.weft.toNat - g.t0.toNat) :: g.rtts } }).sendEcho 9 g.addr pingBody)) ∧
  (∀ (p : Fin 4) (s : State), exec (.egressFrameSent p) s = .next ((s.modPort p fun q => { q with tx := none }).portPoll p)) ∧
  (∀ (h : Desc) (l : List Byte) (s : State), s.takes h 0x11 = true →
      ¬ ((h.sub.toNat = 2 ∨ h.sub.toNat = 3) ∧ 0 < h.index.toNat ∧ h.index.toNat ≤ 254 ∧ 0 < l.length ∧ l.length ≤ 892) →
      exec (.weftSend h l) s = .next (s.complete h 0x11 St.BAD_FIELD)) ∧
  (∀ (h : Desc) (l : List Byte) (s : State), s.takes h 0x11 = true → (h.sub.toNat = 2 ∨ h.sub.toNat = 3) →
      0 < h.index.toNat → h.index.toNat ≤ 254 → 0 < l.length → l.length ≤ 892 → s.nodeAddr = 0 →
      exec (.weftSend h l) s = .next (s.complete h 0x11 St.BUSY 4)) ∧
  (∀ (h : Desc) (l : List Byte) (s : State), s.takes h 0x11 = true → (h.sub.toNat = 2 ∨ h.sub.toNat = 3) →
      0 < h.index.toNat → h.index.toNat ≤ 254 → 0 < l.length → l.length ≤ 892 → s.nodeAddr ≠ 0 →
      16 ≤ s.metric h.index.toNat ∨ h.index.toNat = s.nodeAddr.toNat →
      exec (.weftSend h l) s = .next (s.complete h 0x11 St.BUSY 3)) ∧
  (∀ (h : Desc) (l : List Byte) (s : State), s.takes h 0x11 = true → (h.sub.toNat = 2 ∨ h.sub.toNat = 3) →
      0 < h.index.toNat → h.index.toNat ≤ 254 → 0 < l.length → l.length ≤ 892 → s.nodeAddr ≠ 0 →
      s.metric h.index.toNat < 16 → h.index.toNat ≠ s.nodeAddr.toNat →
      s.ctxFor (BitVec.ofNat 8 h.index.toNat) (BitVec.ofNat 2 h.sub.toNat) false = none →
      exec (.weftSend h l) s = .next ((s.incSat Fld.WFT_CTX_FAILS).complete h 0x11 St.BUSY 2)) ∧
  (∀ (h : Desc) (l : List Byte) (c : Ctx) (s : State) (u : State), s.takes h 0x11 = true →
      (h.sub.toNat = 2 ∨ h.sub.toNat = 3) → 0 < h.index.toNat → h.index.toNat ≤ 254 → 0 < l.length → l.length ≤ 892 →
      s.nodeAddr ≠ 0 → s.metric h.index.toNat < 16 → h.index.toNat ≠ s.nodeAddr.toNat →
      s.ctxFor (BitVec.ofNat 8 h.index.toNat) (BitVec.ofNat 2 h.sub.toNat) false = some (c, u) →
      12 < ((if h.sub.toNat = 2 then s.wft.port[s.routeA h.index.toNat].q2 else s.wft.port[s.routeA h.index.toNat].q3).length + (fragments (s.ownFrame 1 h.sub.toNat (BitVec.ofNat 8 h.index.toNat) c.txPkt) l).length) →
      exec (.weftSend h l) s = .next (s.complete h 0x11 St.BUSY 1)) ∧
  (∀ (h : Desc) (l : List Byte) (c : Ctx) (s : State) (u : State), s.takes h 0x11 = true →
      (h.sub.toNat = 2 ∨ h.sub.toNat = 3) → 0 < h.index.toNat → h.index.toNat ≤ 254 → 0 < l.length → l.length ≤ 892 →
      s.nodeAddr ≠ 0 → s.metric h.index.toNat < 16 → h.index.toNat ≠ s.nodeAddr.toNat →
      s.ctxFor (BitVec.ofNat 8 h.index.toNat) (BitVec.ofNat 2 h.sub.toNat) false = some (c, u) →
      ((if h.sub.toNat = 2 then s.wft.port[s.routeA h.index.toNat].q2 else s.wft.port[s.routeA h.index.toNat].q3).length + (fragments (s.ownFrame 1 h.sub.toNat (BitVec.ofNat 8 h.index.toNat) c.txPkt) l).length) ≤ 12 →
      exec (.weftSend h l) s =
      .next ((forAll (fragments (s.ownFrame 1 h.sub.toNat (BitVec.ofNat 8 h.index.toNat) c.txPkt) l) (fun f t => t.enqueue (s.routeA h.index.toNat) f)
      (u.modCtx (BitVec.ofNat 8 h.index.toNat) (BitVec.ofNat 2 h.sub.toNat) fun c => { c with txPkt := c.txPkt + 1, heard := s.sys.poweredNs })).complete h 0x11 St.SUCCESS))

/-- Hellos, syncs and delay measurement of Weft time. R7, R549, R561, R564 to R567. A node that is not synchronised sends
no SYNC; a synchronised one sends it on every ACTIVE port but its parent's, as grandmaster with the next number and
otherwise with the number of its parent. Hellos and delay requests leave on every ACTIVE port; a delay request is
answered with its arrival time, and an answer that was asked for enters the mean of the last eight delays, after which
the parent is chosen again; one not asked for changes nothing more. A SYNC is heard and its number taken where it is
ahead; from the parent it gives the offset, on which the node acts once the first eight of a new parent are averaged.
A parent is lost, counted and chosen anew once no SYNC of it has come for longer than 4 × SYNC_T, and not before. -/
def Obligations.WeftTime : Prop :=
  (∀ (s : State), s.awake = true → s.synced = false → exec .syncSend s = .next s) ∧
  (∀ (s : State) (u : State), s.awake = true → s.synced = true →
      (s.modWft fun w => { w with seq := match s.wft.parent with | none => w.seq + 1 | some p => s.wft.port[p].seq.getD w.seq }) = u →
      exec .syncSend s =
      .next (forAll ((u.takePkt 0).2.upPorts.filter fun p => u.wft.parent != some p)
      (fun p t => t.originate p { t.ownFrame 6 0 0 (u.takePkt 0).1 with
      payload := timeBytes u.gmUid ++ [BitVec.ofNat 8 (u.fld Fld.WFT_SYNC_GM_PRIO), BitVec.ofNat 8 (u.fld Fld.WFT_SYNC_STEPS)] ++
      wordBytes u.wft.seq }) (u.takePkt 0).2)) ∧
  (∀ (s : State), s.awake = true → exec .helloSend s =
      .next (forAll (s.takePkt 1).2.upPorts (fun p t => t.originate p { t.ownFrame 2 1 0 (s.takePkt 1).1 with
      payload := timeBytes Config.uid ++
      [t.nodeAddr, BitVec.ofNat 8 (t.fld Fld.WFT_NODE_ASTATE), BitVec.ofNat 8 (t.fld Fld.WFT_SYNC_SSTATE),
      BitVec.ofNat 8 (t.fld Fld.WFT_SYNC_STEPS), BitVec.ofNat 8 (t.fld Fld.WFT_SYNC_GM_PRIO)] ++
      timeBytes t.gmUid ++ timeBytes t.parentUid ++ [if t.flag (Fld.WFT_P_STATE_DELAY_OK p) then 1 else 0] }) (s.takePkt 1).2) ∧
      exec .delayReqSend s =
      .next (forAll (s.takePkt 0).2.upPorts (fun p t => t.originate p (t.ownFrame 7 0 0 (s.takePkt 0).1)) (s.takePkt 0).2)) ∧
  (∀ (p : Fin 4) (s : State) (u : State), s.awake = true → s.linkUp p = true →
      (s.modPort p fun q => { q with heardAt := s.sys.poweredNs }) = u → exec (.delayReq p) s =
      .next ((u.takePkt 0).2.originate p { u.ownFrame 8 0 0 (u.takePkt 0).1 with payload := timeBytes u.weft })) ∧
  (∀ (p : Fin 4) (x y t1 : Time) (ds : List Rat) (s : State) (u : State), s.awake = true → s.linkUp p = true →
      (s.modPort p fun q => { q with heardAt := s.sys.poweredNs }) = u → u.wft.port[p].reqT = some t1 →
      ((((u.weft.toNat : Rat) - t1.toNat) - ((y.toNat : Rat) - x.toNat)) / 2 :: u.wft.port[p].delays).take 8 = ds →
      exec (.delayResp p x y) s =
      .next ((((u.modPort p fun q => { q with delays := ds, reqT := none }).setFld (Fld.WFT_P_DELAY_D p) (clampInt 0 0xFFFF (quantise (10 * (ds.foldl (· + ·) 0 / (ds.length : Rat))))).toNat).setFlag
      (Fld.WFT_P_STATE_DELAY_OK p) (ds.length == 8)).chooseParent).settle) ∧
  (∀ (p : Fin 4) (x y : Time) (s : State) (u : State), s.awake = true → s.linkUp p = true →
      (s.modPort p fun q => { q with heardAt := s.sys.poweredNs }) = u → u.wft.port[p].reqT = none →
      exec (.delayResp p x y) s = .next u) ∧
  (∀ (p : Fin 4) (m : SyncMsg) (s : State) (u : State), s.awake = true → s.linkUp p = true →
      ((s.modPort p fun q => { q with heardAt := s.sys.poweredNs }).modPort p fun q => { q with seq := (if (s.wft.port[p].seq.all fun q => decide (0 < (m.seq - q).toInt)) then some m.seq else q.seq), seqAt := (if (s.wft.port[p].seq.all fun q => decide (0 < (m.seq - q).toInt)) then s.sys.poweredNs else q.seqAt), syncAt := s.sys.poweredNs }).chooseParent = u →
      u.wft.parent ≠ some p → exec (.sync p m) s = .next u.settle) ∧
  (∀ (p : Fin 4) (m : SyncMsg) (d : Rat) (s : State) (u : State) (v : State), s.awake = true → s.linkUp p = true →
      ((s.modPort p fun q => { q with heardAt := s.sys.poweredNs }).modPort p fun q => { q with seq := (if (s.wft.port[p].seq.all fun q => decide (0 < (m.seq - q).toInt)) then some m.seq else q.seq), seqAt := (if (s.wft.port[p].seq.all fun q => decide (0 < (m.seq - q).toInt)) then s.sys.poweredNs else q.seqAt), syncAt := s.sys.poweredNs }).chooseParent = u →
      u.wft.parent = some p →
      (s.weft.toNat : Rat) - ((m.ts.toNat : Rat) + (if u.wft.port[p].delays.length = 0 then 0 else u.wft.port[p].delays.foldl (· + ·) 0 / (u.wft.port[p].delays.length : Rat)) + u.par 36 3 p.val) = d →
      (u.modWft fun w => { w with offset := d, wins := if absRat d ≤ u.p36 23 then w.wins + 1 else 0 }).setReg Reg.WFT_OFFSET
        (toS32 (clampInt (-(2 ^ 31)) (2 ^ 31 - 1) (quantise d))) = v →
      v.wft.newN = 0 → exec (.sync p m) s = .next (v.onOffset d).settle) ∧
  (∀ (p : Fin 4) (m : SyncMsg) (d : Rat) (s : State) (u : State) (v : State) (z : State), s.awake = true →
      s.linkUp p = true →
      ((s.modPort p fun q => { q with heardAt := s.sys.poweredNs }).modPort p fun q => { q with seq := (if (s.wft.port[p].seq.all fun q => decide (0 < (m.seq - q).toInt)) then some m.seq else q.seq), seqAt := (if (s.wft.port[p].seq.all fun q => decide (0 < (m.seq - q).toInt)) then s.sys.poweredNs else q.seqAt), syncAt := s.sys.poweredNs }).chooseParent = u →
      u.wft.parent = some p →
      (s.weft.toNat : Rat) - ((m.ts.toNat : Rat) + (if u.wft.port[p].delays.length = 0 then 0 else u.wft.port[p].delays.foldl (· + ·) 0 / (u.wft.port[p].delays.length : Rat)) + u.par 36 3 p.val) = d →
      (u.modWft fun w => { w with offset := d, wins := if absRat d ≤ u.p36 23 then w.wins + 1 else 0 }).setReg Reg.WFT_OFFSET
        (toS32 (clampInt (-(2 ^ 31)) (2 ^ 31 - 1) (quantise d))) = v →
      v.wft.newN ≠ 0 → (v.modWft fun w => { w with newN := w.newN - 1, newSum := w.newSum + d }) = z →
      exec (.sync p m) s = .next (if z.wft.newN = 0 then z.onOffset (z.wft.newSum / 8) else z).settle) ∧
  (∀ (p : Fin 4) (s : State), s.awake = true → s.wft.parent = some p →
      s.wft.port[p].syncAt + 4 * s.syncNs < s.sys.poweredNs →
      exec .parentLoss s = .next (s.modPort p fun q => { q with seq := none }).parentLost.settle) ∧
  (∀ (p : Fin 4) (s : State), s.wft.parent = some p → ¬ (s.wft.port[p].syncAt + 4 * s.syncNs < s.sys.poweredNs) →
      exec .parentLoss s = .next s) ∧
  (∀ (s : State), s.wft.parent = none → exec .parentLoss s = .next s)

/-- Frames received and sent, errors, bus-off, and the commands of the controllers. R577 to R585. A controller on the bus
takes a frame: its counter falls, the frame goes to the safety island or through the filters to the FIFO, and the next
start of frame chooses again; it takes none in loopback, none in FD format without FD_EN, and none off the bus. A
frame sent frees its buffer and lowers TEC. A lost arbitration leaves the frame pending; an error counts by its kind,
TEC above 255 is bus-off; a passive acknowledge error counts nothing. CAN_BUS_ON brings a controller in bus-off back
with both counters clear. ABORT frees a pending buffer at once, and one in transmission with its attempt; TB_0 of a
safety controller is not touched. POP takes the head of the FIFO. A protocol exception is counted and the controller
integrates again. CAN_SEND loads a free buffer, or is refused with BAD_FIELD or BUSY. TX_DOMINANT_TIMEOUT changes
nothing here. -/
def Obligations.CanFd : Prop :=
  (∀ (c : Fin 4) (f : CanRx) (s : State), s.awake = true → s.canOn c = true → s.canMode c ≠ 2 →
      (f.fdf && !s.flag (Fld.CAN_CFG_FD_EN c)) = false → s.can[c].recN ≤ 127 →
      exec (.canFrameRx c f) s = .next (((((s.modCan c fun k => { k with recN := k.recN - 1 }).canErrState c).canReceive c f).canAttemptFailed c).canPoll c)) ∧
  (∀ (c : Fin 4) (f : CanRx) (s : State), s.awake = true → s.canOn c = true → s.canMode c ≠ 2 →
      (f.fdf && !s.flag (Fld.CAN_CFG_FD_EN c)) = false → 127 < s.can[c].recN →
      exec (.canFrameRx c f) s = .next (((((s.freeNat.2.modCan c fun k => { k with recN := 119 + s.freeNat.1 % 9 }).canErrState c).canReceive c f).canAttemptFailed c).canPoll c)) ∧
  (∀ (c : Fin 4) (f : CanRx) (s : State),
      s.canOn c = false ∨ s.canMode c = 2 ∨ (f.fdf && !s.flag (Fld.CAN_CFG_FD_EN c)) = true → exec (.canFrameRx c f) s = .next s) ∧
  (∀ (c : Fin 4) (e : CanErr) (s : State), s.canOn c = false →
      exec (.canError c e) s = .next s ∧ exec (.protocolException c) s = .next s) ∧
  (∀ (c : Fin 4) (b : Fin 3) (f : CanTx) (s : State), s.canActive c = some b → s.can[c].tb[b] = some f → s.canMode c ≠ 2 →
      Completes (.canTxDone c) s fun t => t.can[c].tecN = s.can[c].tecN - 1 ∧ t.can[c].tb[b] = none ∧
      (t.fld (Fld.CAN_TXST_DONE c)).testBit b.val = true) ∧
  (∀ (c : Fin 4) (s : State), s.canActive c = none → exec (.canTxDone c) s = .next s) ∧
  (∀ (c : Fin 4) (s : State),
      exec (.arbitrationLost c) s = .next (s.canAttemptFailed c) ∧ exec (.txDominantTimeout c) s = .next s) ∧
  (∀ (c : Fin 4) (s : State), s.awake = true → s.canOn c = true →
      exec (.canError c (.receive true)) s = .next ((((s.modCan c fun k => { k with recN := k.recN + 8 }).canErrState c).canAttemptFailed c).canPoll c) ∧
      exec (.canError c (.receive false)) s = .next ((((s.modCan c fun k => { k with recN := k.recN + 1 }).canErrState c).canAttemptFailed c).canPoll c) ∧
      exec (.canError c .passiveAck) s = .next ((s.canAttemptFailed c).canPoll c)) ∧
  (∀ (c : Fin 4) (bit : Bool) (s : State) (u : State) (v : State), s.awake = true → s.canOn c = true →
      (match (if bit then s.idClash c else s).canActive c with | some b => (if bit then s.idClash c else s).canDelay c b | none => (if bit then s.idClash c else s)) = u →
      ((u.modCan c fun k => { k with tecN := k.tecN + 8 }).canAttemptFailed c).canErrState c = v →
      exec (.canError c (.transmit bit)) s = .next (if 255 < v.can[c].tecN then v.busOff c else v.canPoll c)) ∧
  (∀ (c : Fin 4) (s : State), s.fld (Fld.CAN_STATUS_STATE c) = 2 →
      Completes (.canBusOn c) s fun t => t.fld (Fld.CAN_STATUS_STATE c) = 0 ∧ t.can[c].tecN = 0 ∧ t.can[c].recN = 0 ∧
      t.fld (Fld.CAN_STATUS_TEC c) = 0 ∧ t.fld (Fld.CAN_STATUS_REC c) = 0) ∧
  (∀ (c : Fin 4) (s : State), s.fld (Fld.CAN_STATUS_STATE c) ≠ 2 → exec (.canBusOn c) s = .next s) ∧
  (∀ (w : Writer) (c : Fin 4) (m : BitVec 3) (s : State), s.writable w (Reg.CAN_TXCTRL c) = true →
      exec (.abort w c m) s = .next (forAll three (fun b t =>
      if m.getLsbD b.val = false ∨ (b.val = 0 ∧ t.flag (Fld.CAN_CFG_SAFETY c) = true) then t
      else if (t.fld (Fld.CAN_TXST_ACTIVE c)).testBit b.val then t.modCan c fun k => { k with aborts := k.aborts ||| (1#3 <<< b.val) }
      else if (t.fld (Fld.CAN_TXST_PEND c)).testBit b.val then t.canFree c b
      else t) s)) ∧
  (∀ (w : Writer) (c : Fin 4) (s : State), s.writable w (Reg.CAN_RXCTRL c) = true →
      exec (.pop w c) s = .next ((s.modCan c fun k => { k with fifo := k.fifo.tail }).canWindow c)) ∧
  (∀ (c : Fin 4) (s : State), s.awake = true → s.canOn c = true → exec (.protocolException c) s =
      .next ((((s.setFlag (Fld.CAN_STATUS_PXE c) true).incSat (Fld.CAN_CNT_PXE_N c)).canAttemptFailed c).setFld (Fld.CAN_STATUS_STATE c) 3)) ∧
  (∀ (c : Fin 4) (s : State), s.awake = true → s.flag (Fld.CAN_CFG_ENABLE c) = true → s.fld (Fld.CAN_STATUS_STATE c) = 3 →
      exec (.canIntegration c) s =
      .next ((((s.setFlag (Fld.CAN_STATUS_PXE c) false).setFld (Fld.CAN_STATUS_STATE c) 0).canErrState c).canPoll c)) ∧
  (∀ (h : Desc) (f : CanTx) (s : State), s.takes h 0x10 = true →
      ¬ (h.index.toNat < 4 ∧ h.sub.toNat < 3 ∧ f.dlc.toNat < 16) → exec (.canSend h f) s = .next (s.complete h 0x10 St.BAD_FIELD)) ∧
  (∀ (h : Desc) (f : CanTx) (s : State), s.takes h 0x10 = true → h.index.toNat < 4 → h.sub.toNat < 3 → f.dlc.toNat < 16 →
      (f.fdf && !s.flag (Fld.CAN_CFG_FD_EN (Fin.ofNat 4 h.index.toNat))) = true →
      exec (.canSend h f) s = .next (s.complete h 0x10 St.BAD_FIELD)) ∧
  (∀ (h : Desc) (f : CanTx) (s : State), s.takes h 0x10 = true → h.index.toNat < 4 → h.sub.toNat < 3 → f.dlc.toNat < 16 →
      (f.fdf && !s.flag (Fld.CAN_CFG_FD_EN (Fin.ofNat 4 h.index.toNat))) = false →
      ((h.sub.toNat == 0 && s.flag (Fld.CAN_CFG_SAFETY (Fin.ofNat 4 h.index.toNat))) || (s.fld (Fld.CAN_TXST_PEND (Fin.ofNat 4 h.index.toNat))).testBit h.sub.toNat) = true →
      exec (.canSend h f) s = .next (s.complete h 0x10 St.BUSY)) ∧
  (∀ (h : Desc) (f : CanTx) (s : State), s.takes h 0x10 = true → h.index.toNat < 4 → h.sub.toNat < 3 → f.dlc.toNat < 16 →
      (f.fdf && !s.flag (Fld.CAN_CFG_FD_EN (Fin.ofNat 4 h.index.toNat))) = false →
      ((h.sub.toNat == 0 && s.flag (Fld.CAN_CFG_SAFETY (Fin.ofNat 4 h.index.toNat))) || (s.fld (Fld.CAN_TXST_PEND (Fin.ofNat 4 h.index.toNat))).testBit h.sub.toNat) = false →
      exec (.canSend h f) s =
      .next ((s.canLoad (Fin.ofNat 4 h.index.toNat) (Fin.ofNat 3 h.sub.toNat) f).complete h 0x10 St.SUCCESS))

/-- The evaluation of the sensors every 1 ms. R592 to R599. Once the device has reached READY since its reset and outside
DAWN, every evaluation evaluates the 38 sensors, forms k_th of each axis, the throttle and the summary bits; it
changes no parameter and not Weft time. In DAWN, and in a HOLD entered from it, nothing is evaluated. The factor of an
axis rises by at most 1/10,000 per evaluation and stays at most 1; where the sensors ask for less it falls at once. -/
def Obligations.Thermal : Prop :=
  (∀ (die : Vector Rat 4) (gate : Vector Rat 28) (board : Vector Rat 2) (s : State), s.awake = true → s.mode ≠ .dawn →
      s.sys.readied = true → Settles (.thmEvaluation die gate board) s fun u => u.params = s.params ∧ u.weft = s.weft) ∧
  (∀ (die : Vector Rat 4) (gate : Vector Rat 28) (board : Vector Rat 2) (s : State), s.awake = true → s.mode ≠ .dawn →
      s.sys.readied = true → exec (.thmEvaluation die gate board) s = .next (((forAll four (fun a t => t.kthEval a)
      (forAll (List.finRange 38) (fun i t =>
      if i.val < 4 then t.sensorEval i die[Fin.ofNat 4 i.val]
      else if i.val < 32 then t.sensorEval i gate[Fin.ofNat 28 (i.val - 4)]
      else if i.val < 36 then t.sensorEval i (t.ntcTemp (Fin.ofNat 4 (i.val - 32)))
      else t.sensorEval i board[Fin.ofNat 2 (i.val - 36)]) s)).throttle).thmSummary.settle)) ∧
  (∀ (die : Vector Rat 4) (gate : Vector Rat 28) (board : Vector Rat 2) (s : State),
      s.mode = .dawn ∨ s.sys.readied = false → exec (.thmEvaluation die gate board) s = .next s) ∧
  (∀ (a : Fin 4) (s : State), s.thm.kth[a] ≤ 1 →
      (s.kthEval a).thm.kth[a] ≤ s.thm.kth[a] + 1 / 10000 ∧ (s.kthEval a).thm.kth[a] ≤ 1 ∧ (s.kthEval a).regs = s.regs) ∧
  (∀ (a : Fin 4) (k : Rat) (s : State), ((s.axisSensors a).map s.sensorK).foldl min 1 = k → k ≤ s.thm.kth[a] →
      (s.kthEval a).thm.kth[a] = k)

/-- Characters, aborts, and the commands of the console. R9, R56, R95, R97, R98, R99, R509, R610 to R614. A character is
echoed, starts the idle time anew and is acted on; 0x03 and CONSOLE_ABORT abort, and a line feed after a carriage
return only echoes. A command that may run takes its line; what it then does and answers is stated on the state with
the line taken. status, rd and the retry of a Dawn are served with the hardware subset too, every other command only
with CP_0 firmware, and without it answers ERR UNKNOWN. rd reads 1 to 16 words, with the straps live, and refuses
another range; wr writes under the access code in READY and SERVICE, with a journal entry, and answers LOCKED where
the write is refused; par reads or writes one entry; log shows up to 64 entries, or UNIT_FAILED on a disabled journal;
atest selects a quantity in range, else none. The mode requests answer by their result; reset asks for rung 3 with the
right key. -/
def Obligations.Console : Prop :=
  (∀ (c : Byte) (s : State) (u : State), s.awake = true → (s.say (.echo c)).startTimer .idle = u → c ≠ 0x03 → c ≠ 0x0A →
      c ≠ 0x0D → exec (.consoleChar c) s = .next (({ u with con := { u.con with lastCR := false } } : State).conText c).rxLevel) ∧
  (∀ (s : State) (u : State), s.awake = true → (s.say (.echo 0x0D)).startTimer .idle = u →
      exec (.consoleChar 0x0D) s = .next (({ u with con := { u.con with lastCR := true } } : State).endLine).rxLevel) ∧
  (∀ (s : State) (u : State), s.awake = true → (s.say (.echo 0x0A)).startTimer .idle = u →
      exec (.consoleChar 0x0A) s = .next (if u.con.lastCR then ({ u with con := { u.con with lastCR := false } } : State) else (({ u with con := { u.con with lastCR := false } } : State).endLine).rxLevel)) ∧
  (∀ (s : State) (u : State), s.awake = true → (s.say (.echo 0x03)).startTimer .idle = u →
      exec (.consoleChar 0x03) s = .next ({ u with con := { u.con with lastCR := false } } : State).conAbort) ∧
  (∀ (s : State), s.awake = true → exec .consoleAbort s = .next (s.startTimer .idle).conAbort) ∧
  (∀ (s : State), s.conFree true = true → s.takeLine.dawnFailed = true → Serves .status s fun t => t.reply [t.failLine]) ∧
  (∀ (s : State), s.conFree true = true → s.takeLine.dawnFailed = false →
      Serves .status s fun t => t.reply [.data [("MODE", t.fld Fld.SYS_MODE_MODE), ("prev", t.fld Fld.SYS_MODE_PREV), ("hold", t.fld Fld.SYS_MODE_HOLD_CAUSE),
      ("prof", t.profileCode), ("fault", if t.faultNLow then 1 else 0), ("dawn", (t.reg Reg.SYS_DAWN).toNat), ("t", (t.weft.toNat : Int))]]) ∧
  (∀ (a : Word) (n : Nat) (pins : BitVec 5) (s : State) (r : State), s.conFree true = true → 0 < n → n ≤ 16 →
      isRegisterAddr a.toNat = true → a.toNat + 4 * n ≤ 0x41000000 →
      s.takeLine.setFld ⟨Reg.SYS_STRAP, 8, 5⟩ pins.toNat = r → Serves (.rd a n pins) s fun _ =>
      (r.busReads a.toNat n).2.reply [.data ((r.busReads a.toNat n).1.map fun w => ("", (w.toNat : Int)))]) ∧
  (∀ (a : Word) (n : Nat) (pins : BitVec 5) (s : State), s.conFree true = true →
      ¬ (0 < n ∧ n ≤ 16 ∧ isRegisterAddr a.toNat = true ∧ a.toNat + 4 * n ≤ 0x41000000) →
      Serves (.rd a n pins) s fun t => (t.setFld ⟨Reg.SYS_STRAP, 8, 5⟩ pins.toNat).replyErr "RANGE") ∧
  (∀ (a v hw : Word) (s : State), s.conFree false = true → (s.takeLine.mode = .ready ∨ s.takeLine.mode = .service) →
      isRegisterAddr a.toNat = true → s.takeLine.conLocked a.toNat = false → Serves (.wr a v hw) s fun t =>
      ((Res.stateOr (t.writeReg .console a.toNat v hw) t).journal 0x010B 0 a v).reply []) ∧
  (∀ (a v hw : Word) (s : State), s.conFree false = true → (s.takeLine.mode = .ready ∨ s.takeLine.mode = .service) →
      isRegisterAddr a.toNat = true → s.takeLine.conLocked a.toNat = true → Serves (.wr a v hw) s fun t =>
      (Res.stateOr (t.writeReg .console a.toNat v hw) t).replyErr "LOCKED") ∧
  (∀ (a v hw : Word) (s : State), s.conFree false = true → (s.takeLine.mode = .ready ∨ s.takeLine.mode = .service) →
      isRegisterAddr a.toNat = false → Serves (.wr a v hw) s fun t => t.replyErr "RANGE") ∧
  (∀ (a v hw : Word) (s : State), s.conFree false = true → ¬ (s.takeLine.mode = .ready ∨ s.takeLine.mode = .service) →
      Serves (.wr a v hw) s fun t => t.replyErr "MODE") ∧
  (∀ (p : ParamId) (s : State), s.conFree false = true →
      Serves (.par p none) s fun t => Res.stateOr (execParamRead (conDesc 0 1) [p] t) t) ∧
  (∀ (p : ParamId) (v : Word) (s : State), s.conFree false = true → s.takeLine.mode = .hold →
      Serves (.par p (some v)) s fun t => t.replyErr "MODE") ∧
  (∀ (p : ParamId) (v : Word) (s : State), s.conFree false = true → s.takeLine.mode ≠ .hold →
      s.takeLine.firstRefused s.takeLine 0 [(p, v)] = none → Serves (.par p (some v)) s fun t =>
      (Res.stateOr (execParamWrite (conDesc 0 1) [(p, v)] t) t).journal 0x010B 0 (p.inst ++ p.item ++ p.group) v) ∧
  (∀ (p : ParamId) (v : Word) (e : Nat × Nat) (s : State), s.conFree false = true → s.takeLine.mode ≠ .hold →
      s.takeLine.firstRefused s.takeLine 0 [(p, v)] = some e →
      Serves (.par p (some v)) s fun t => Res.stateOr (execParamWrite (conDesc 0 1) [(p, v)] t) t) ∧
  (∀ (n : Option Nat) (s : State), s.conFree false = true → s.takeLine.flag Fld.SVC_JSTAT_DISABLED = false → 0 < n.getD 8 →
      n.getD 8 ≤ 64 → Serves (.log n) s fun t => t.reply ((t.jr.entries.take (n.getD 8)).reverse.map fun e => .entry e.1 e.2)) ∧
  (∀ (q : Word) (n : Option Nat) (s : State), s.conFree false = true → s.takeLine.flag Fld.SVC_JSTAT_DISABLED = false →
      0 < n.getD 8 → n.getD 8 ≤ 64 →
      Serves (.logSeq q n) s fun t => t.reply ((t.jr.entries.filter fun e => decide ((e.1 - q).toNat < n.getD 8)).reverse.map fun e => .entry e.1 e.2)) ∧
  (∀ (q : Word) (n : Option Nat) (s : State), s.conFree false = true → s.takeLine.flag Fld.SVC_JSTAT_DISABLED = true →
      Serves (.log n) s (fun t => t.say (.status St.UNIT_FAILED)) ∧ Serves (.logSeq q n) s (fun t => t.say (.status St.UNIT_FAILED))) ∧
  (∀ (q : Word) (n : Option Nat) (s : State), s.conFree false = true → s.takeLine.flag Fld.SVC_JSTAT_DISABLED = false →
      n.getD 8 = 0 ∨ 64 < n.getD 8 →
      Serves (.log n) s (fun t => t.replyErr "RANGE") ∧ Serves (.logSeq q n) s (fun t => t.replyErr "RANGE")) ∧
  (∀ (q : AtestQ) (s : State), s.conFree false = true → s.takeLine.atestOk q = true →
      Serves (.atest q) s fun t => (t.select (some q)).reply []) ∧
  (∀ (q : AtestQ) (s : State), s.conFree false = true → s.takeLine.atestOk q = false →
      Serves (.atest q) s fun t => (t.select none).replyErr "MODE") ∧
  (∀ (s : State), s.conFree false = true →
      Serves .atestOff s (fun t => (t.select none).reply []) ∧ Serves .service s (fun t => t.requestService.modeReply) ∧ Serves .serviceExit s (fun t => t.requestLeave.modeReply)) ∧
  (∀ (s : State), s.conFree false = true → s.takeLine.mode ≠ .dusk → Serves .dusk s fun t => (t.requestDusk true).modeReply) ∧
  (∀ (s : State), s.conFree false = true → s.takeLine.mode = .dusk → Serves .dusk s fun t => t.reply []) ∧
  (∀ (s : State), s.conFree true = true → s.takeLine.dawnFailed = true → Serves .dawnRetry s fun t => (t.reply []).resetNow 7) ∧
  (∀ (s : State), s.conFree true = true → s.takeLine.dawnFailed = false → Serves .dawnRetry s fun t => t.replyErr "MODE") ∧
  (∀ (hard : Bool) (s : State), s.conFree false = true → hard = true ∨ s.takeLine.allStopped = true →
      Serves (.reset 0xD5E7 hard) s fun t => (t.reply []).requestReset 3) ∧
  (∀ (s : State), s.conFree false = true → s.takeLine.allStopped = false →
      Serves (.reset 0xD5E7 false) s fun t => t.say (.status St.NOT_STOPPED)) ∧
  (∀ (k : Word) (hard : Bool) (s : State), s.conFree false = true → k ≠ 0xD5E7 →
      Serves (.reset k hard) s fun t => t.replyErr "RANGE") ∧
  (∀ (s : State), s.awake = true → s.con.busy = false → s.takeLine.flag Fld.SVC_STATUS_HWONLY = true →
      Serves .service s (fun t => t.replyErr "UNKNOWN") ∧ Serves .dusk s (fun t => t.replyErr "UNKNOWN"))

/-- The gate-switching tests of SERVICE start, and reach their own end. R29, R143, R176, R200, R304, R404, R423, R616. A
test starts in SERVICE with STO_A, STO_B and EN high and no other one running; outside SERVICE, and without one of the
three, it answers ERR MODE, beside another test ERR BUSY. It begins at once where it uses no set or the clocks of its
set run, and otherwise with their restart; what each then does is its first action. gdc pulse has a width of 1 µs to
100 µs, pwm run duties from 0 to 1, and a chop test needs V_dc from 20 V to 59 V and a chopper (its ERR MODE with
R_BRAKE 0 and that of prg jog with F_START 0 are the model's choices, log entries 59 and 17). gdc dead makes its first
transition once the high side is on, and the second 20 µs after it. TEST_END gives the reply and stops the test once
it is over, and before that changes nothing. -/
def Obligations.GateSwitchingTests : Prop :=
  (∀ (n : Fin 28) (us : Nat) (s : State), s.conFree false = true → s.takeLine.mayTest = true → 0 < us → us ≤ 100 →
      Serves (.gdcPulse n us) s fun t => (t.testing (.gdcPulse n us) (some (chanSet n)) false).testBegin.settle) ∧
  (∀ (n : Fin 28) (us : Nat) (s : State), s.conFree false = true → us = 0 ∨ 100 < us →
      Serves (.gdcPulse n us) s fun t => t.replyErr "RANGE") ∧
  (∀ (h : Fin 12) (s : State), s.conFree false = true → s.takeLine.mayTest = true →
      Serves (.gdcDead h) s fun t => (t.testing (.gdcDead h 0 0) (some (Fin.ofNat 4 (h.val / 3))) false).testBegin.settle) ∧
  (∀ (x : Fin 4) (v : Rat) (s : State), s.conFree false = true → s.takeLine.mayTest = true → 20 ≤ s.takeLine.psp[x].vdc →
      s.takeLine.psp[x].vdc ≤ 59 → s.takeLine.fld (Fld.PSP_CHOP_RB x) ≠ 0 →
      Serves (.chopTest x v) s fun t => (t.testing (.chopTest v) (some x) false).testBegin.settle) ∧
  (∀ (x : Fin 4) (v : Rat) (s : State), s.conFree false = true →
      ¬ (20 ≤ s.takeLine.psp[x].vdc ∧ s.takeLine.psp[x].vdc ≤ 59 ∧ s.takeLine.fld (Fld.PSP_CHOP_RB x) ≠ 0) →
      Serves (.chopTest x v) s fun t => t.replyErr "MODE") ∧
  (∀ (x : Fin 4) (du dv dw : Rat) (s : State), s.conFree false = true → s.takeLine.mayTest = true → (0 ≤ du ∧ du ≤ 1) →
      (0 ≤ dv ∧ dv ≤ 1) → (0 ≤ dw ∧ dw ≤ 1) → s.takeLine.setState x = .block →
      Serves (.pwmRun x du dv dw) s fun t => (t.testing (.pwmRun du dv dw) (some x) true).testBegin.settle) ∧
  (∀ (x : Fin 4) (du dv dw : Rat) (s : State), s.conFree false = true →
      ¬ ((0 ≤ du ∧ du ≤ 1) ∧ (0 ≤ dv ∧ dv ≤ 1) ∧ (0 ≤ dw ∧ dw ≤ 1)) → Serves (.pwmRun x du dv dw) s fun t => t.replyErr "RANGE") ∧
  (∀ (x : Fin 4) (du dv dw : Rat) (s : State), s.conFree false = true → (0 ≤ du ∧ du ≤ 1) → (0 ≤ dv ∧ dv ≤ 1) →
      (0 ≤ dw ∧ dw ≤ 1) → s.takeLine.setState x ≠ .block → Serves (.pwmRun x du dv dw) s fun t => t.replyErr "MODE") ∧
  (∀ (a : Fin 4) (l q : Rat) (s : State), s.conFree false = true → s.takeLine.mayTest = true →
      s.takeLine.axisExists a = true → s.takeLine.source_ a = 2 → s.takeLine.machine a ≠ 2 → s.takeLine.atRest a = true →
      Serves (.posInj a l q) s fun t => (t.testing (.posInj a l q) (some (t.axisLane a)) false).testBegin.settle) ∧
  (∀ (a : Fin 4) (l q : Rat) (s : State), s.conFree false = true →
      ¬ (s.takeLine.axisExists a = true ∧ s.takeLine.source_ a = 2 ∧ s.takeLine.machine a ≠ 2 ∧ s.takeLine.atRest a = true) →
      Serves (.posInj a l q) s fun t => t.replyErr "MODE") ∧
  (∀ (n : Fin 4) (v w : Word) (s : State), s.conFree false = true → s.takeLine.mayTest = true →
      Serves (.fbiCmp n v w) s fun t => (t.testing (.fbiCmp n v w) none false).testBegin.settle) ∧
  (∀ (c : Fin 8) (n : Int) (s : State), s.conFree false = true → s.takeLine.mayTest = true → isStep c = true →
      s.takeLine.p32 34 c ≠ 0 → Serves (.prgJog c n) s fun t => (t.testing (.prgJog c n) none false).testBegin.settle) ∧
  (∀ (c : Fin 8) (n : Int) (s : State), s.conFree false = true → isStep c = false ∨ s.takeLine.p32 34 c = 0 →
      Serves (.prgJog c n) s fun t => t.replyErr "MODE") ∧
  (∀ (h : Fin 12) (n : Fin 4) (v w : Word) (s : State), s.conFree false = true → s.takeLine.mode ≠ .service →
      Serves (.gdcDead h) s (fun t => t.replyErr "MODE") ∧ Serves (.fbiCmp n v w) s (fun t => t.replyErr "MODE")) ∧
  (∀ (h : Fin 12) (n : Fin 4) (v w : Word) (s : State), s.conFree false = true → s.takeLine.mode = .service →
      s.takeLine.con.test.isSome = true →
      Serves (.gdcDead h) s (fun t => t.replyErr "BUSY") ∧ Serves (.fbiCmp n v w) s (fun t => t.replyErr "BUSY")) ∧
  (∀ (h : Fin 12) (n : Fin 4) (v w : Word) (s : State), s.conFree false = true → s.takeLine.mode = .service →
      s.takeLine.con.test = none → (s.takeLine.stoBothHigh && s.takeLine.flag Fld.PSP_REQ_EN) = false →
      Serves (.gdcDead h) s (fun t => t.replyErr "MODE") ∧ Serves (.fbiCmp n v w) s (fun t => t.replyErr "MODE")) ∧
  (∀ (k : GateTestKind) (x : Option (Fin 4)) (s : State), s.con.test = some (k, x) → s.con.begun = false →
      (x.any fun (y : Fin 4) => !s.clocksRun y) = false →
      s.testBegin = ({ s with con := { s.con with begun := true } } : State).testAct k x) ∧
  (∀ (k : GateTestKind) (x : Option (Fin 4)) (s : State), s.con.test = some (k, x) →
      s.con.begun = true ∨ (x.any fun (y : Fin 4) => !s.clocksRun y) = true → s.testBegin = s) ∧
  (∀ (n : Fin 28) (us : Nat) (x : Option (Fin 4)) (s : State), n.val < 24 →
      s.testAct (.gdcPulse n us) x = (s.setFld Fld.SVC_STATUS_HOLDM 1).requestOn n) ∧
  (∀ (n : Fin 28) (us : Nat) (x : Option (Fin 4)) (s : State), 24 ≤ n.val →
      s.testAct (.gdcPulse n us) x = (s.setFld Fld.SVC_STATUS_HOLDM 1).chopControl (chanSet n)) ∧
  (∀ (x : Option (Fin 4)) (y : Fin 4) (h : Fin 12) (v : Rat) (n : Fin 4) (a : Word) (w : Word) (c : Fin 8) (z : Int) (s : State),
      s.testAct (.gdcDead h 0 0) x = s.requestOn (hbChans h).1 ∧ s.testAct (.chopTest v) (some y) = s.chopControl y ∧
      s.testAct (.fbiCmp n a w) x = (s.setReg (Reg.FBI_CMPSP n) w).cmpPut n a ∧ s.testAct (.prgJog c z) x = s.modPrg c fun p => { p with jog := z }) ∧
  (∀ (x : Fin 4) (du dv dw : Rat) (c : Cmp3) (s : State),
      ({ u := s.dutyCompare x du, v := s.dutyCompare x dv, w := s.dutyCompare x dw } : Cmp3) = c →
      s.testAct (.pwmRun du dv dw) (some x) = (s.modPwm x fun p => { p with duties := some c, active := false, first := true }).reply [.data (s.windowReport x c)]) ∧
  (∀ (a : Fin 4) (l q : Rat) (x : Fin 4) (s : State),
      s.testAct (.posInj a l q) (some x) = (s.setFlag (Fld.POS_STATUS_INJ_ON a) true).modPwm x fun p => { p with active := false, first := true }) ∧
  (∀ (k : GateTestKind) (x : Option (Fin 4)) (s : State), s.con.test = some (k, x) → s.testOver = true →
      exec .testEnd s = .next ((s.testReply k x).stopTest.settle).conNext) ∧
  (∀ (s : State), s.testOver = false ∨ s.con.test = none → exec .testEnd s = .next s) ∧
  (∀ (h : Fin 12) (t0 : Nat) (x : Option (Fin 4)) (s : State), s.con.test = some (.gdcDead h 0 t0, x) →
      s.gc[(hbChans h).1].cmd = true → s.deadPoll =
      ((({ s with con := { s.con with test := some (.gdcDead h 1 s.sys.poweredNs, x) } } : State).chanOff (hbChans h).1).requestOn (hbChans h).2)) ∧
  (∀ (h : Fin 12) (t0 : Nat) (x : Option (Fin 4)) (s : State), s.con.test = some (.gdcDead h 1 t0, x) →
      t0 + 20000 ≤ s.sys.poweredNs → s.deadPoll =
      ((({ s with con := { s.con with test := some (.gdcDead h 2 t0, x) } } : State).chanOff (hbChans h).2).requestOn (hbChans h).1))

/-- The field tests that show the registers of a block. The reply is the named registers as the bus reads them (R22, R143,
R176, R200, R233, R273, R304, R328, R362, R404, R423, R461, R488, R543, R576, R591), then OK; nothing else changes. -/
def Obligations.RegisterViews : Prop :=
  (∀ (n : Fin 28) (s : State), s.conFree false = true →
      Serves (.gdc n) s (fun t => t.showRegs [("STATUS", Reg.GDC_STATUS n), ("FAULT", Reg.GDC_FAULT n), ("TCONF", Reg.GDC_TCONF n)])) ∧
  (∀ (x : Fin 4) (s : State), s.conFree false = true →
      Serves (.psp x) s (fun t => t.showRegs [("STATE", Reg.PSP_STATE x), ("FAULT", Reg.PSP_FAULT x), ("CHOPST", Reg.PSP_CHOPST x), ("REQ", Reg.PSP_REQ)]) ∧
      Serves (.pwm x) s (fun t => t.showRegs [("CFG", Reg.PWM_CFG x), ("PHASE", Reg.PWM_PHASE x), ("STATUS", Reg.PWM_STATUS x), ("CNT", Reg.PWM_CNT x)]) ∧
      Serves (.mfe x) s (fun t => t.showRegs [("STATUS", Reg.MFE_STATUS x), ("FAULT", Reg.MFE_FAULT x), ("VDC", Reg.MFE_VDC x), ("NTC", Reg.MFE_NTC x)]) ∧
      Serves (.loom x) s (fun t => t.showRegs [("CFG", Reg.LOOM_CFG x), ("STATUS", Reg.LOOM_STATUS x), ("FAULT", Reg.LOOM_FAULT x), ("ECC", Reg.LOOM_ECC x), ("TIME", Reg.LOOM_TIME x)])) ∧
  (∀ (a : Fin 4) (s : State), s.conFree false = true →
      Serves (.pos a) s (fun t => t.showRegs [("STATUS", Reg.POS_STATUS a), ("FAULT", Reg.POS_FAULT a), ("ANGLE", Reg.POS_ANGLE a), ("SPEED", Reg.POS_SPEED a), ("START", Reg.POS_START a)]) ∧
      Serves (.spd a) s (fun t => t.showRegs [("STATE", Reg.SPD_STATE a), ("FAULT", Reg.SPD_FAULT a), ("FACT", Reg.SPD_FACT a), ("CNT", Reg.SPD_CNT a), ("LAST", Reg.SPD_LAST a)]) ∧
      Serves (.spdLim a) s (fun t => t.showRegs [("TLPOS", Reg.SPD_TLPOS a), ("TLNEG", Reg.SPD_TLNEG a), ("FACT", Reg.SPD_FACT a)]) ∧
      Serves (.lsh a) s (fun t => t.showRegs [("CFG", Reg.LSH_CFG a), ("STATE", Reg.LSH_STATE a), ("MAP", Reg.LSH_MAP a), ("CNT", Reg.LSH_CNT a), ("REFUSE", Reg.LSH_REFUSE a)])) ∧
  (∀ (a : Fin 4) (s : State), s.conFree false = true →
      Serves (.sfiAx a) s (fun t => t.showRegs [("STATE", Reg.SFI_AX_STATE a), ("FAULT", Reg.SFI_AX_FAULT a), ("NSAFE", Reg.SFI_AX_NSAFE a), ("HSAFE", Reg.SFI_AX_HSAFE a)])) ∧
  (∀ (n : Fin 4) (s : State), s.conFree false = true →
      Serves (.fbi n) s (fun t => t.showRegs [("CFG", Reg.FBI_CFG n), ("STATUS", Reg.FBI_STATUS n), ("FAULT", Reg.FBI_FAULT n), ("POS", Reg.FBI_POS n), ("TURN", Reg.FBI_TURN n), ("SPEED", Reg.FBI_SPEED n)])) ∧
  (∀ (m : Fin 4) (s : State), s.conFree false = true →
      Serves (.pt m) s (fun t => t.showRegs [("CFG", Reg.PT_CFG m), ("EMU", Reg.PT_EMU m), ("STATUS", Reg.PT_STATUS m)])) ∧
  (∀ (c : Fin 8) (s : State), s.conFree false = true →
      Serves (.prg c) s (fun t => t.showRegs [("STATE", Reg.PRG_STATE c), ("TARGET", Reg.PRG_TARGET c), ("COUNT", Reg.PRG_COUNT c), ("LAG", Reg.PRG_LAG c), ("DEV", Reg.PRG_DEV c)])) ∧
  (∀ (s : State), s.conFree false = true →
      Serves .sfi s (fun t => t.showRegs [("STATUS", Reg.SFI_STATUS), ("SEAL", Reg.SFI_SEAL), ("SEALINFO", Reg.SFI_SEALINFO)]) ∧
      Serves .si s (fun t => t.showRegs [("STATE", Reg.SFI_SI_STATE), ("FAULT", Reg.SFI_SI_FAULT)]) ∧
      Serves .so s (fun t => t.showRegs [("STATE", Reg.SFI_SO_STATE), ("FAULT", Reg.SFI_SO_FAULT)]) ∧
      Serves .hif s (fun t => t.showRegs [("CFG", Reg.HIF_CFG), ("STATUS", Reg.HIF_STATUS), ("CNT", Reg.HIF_CNT)])) ∧
  (∀ (s : State), s.conFree false = true →
      Serves .wft s (fun t => t.showRegs [("NODE", Reg.WFT_NODE), ("SYNC", Reg.WFT_SYNC), ("OFFSET", Reg.WFT_OFFSET), ("CTX", Reg.WFT_CTX), ("CNT", Reg.WFT_CNT), ("CNT2", Reg.WFT_CNT2)])) ∧
  (∀ (n : Fin 16) (s : State), s.conFree false = true →
      Serves (.hifSq n) s (fun t => t.showRegs [("CFG", Reg.HIF_SQ_CFG n), ("PTR", Reg.HIF_SQ_PTR n), ("STAT", Reg.HIF_SQ_STAT n)]) ∧
      Serves (.hifCq n) s (fun t => t.showRegs [("CFG", Reg.HIF_CQ_CFG n), ("PTR", Reg.HIF_CQ_PTR n), ("STAT", Reg.HIF_CQ_STAT n)])) ∧
  (∀ (p : Fin 4) (s : State), s.conFree false = true →
      Serves (.wftPort p) s (fun t => t.showRegs [("STATE", Reg.WFT_P_STATE p), ("PEER_LO", Reg.WFT_P_PEER_LO p), ("PEER_HI", Reg.WFT_P_PEER_HI p), ("DELAY", Reg.WFT_P_DELAY p), ("ERR", Reg.WFT_P_ERR p), ("UTIL", Reg.WFT_P_UTIL p)])) ∧
  (∀ (c : Fin 4) (s : State), s.conFree false = true →
      Serves (.can c) s (fun t => t.showRegs [("CFG", Reg.CAN_CFG c), ("STATUS", Reg.CAN_STATUS c), ("CNT", Reg.CAN_CNT c), ("CLASHID", Reg.CAN_CLASHID c), ("TXST", Reg.CAN_TXST c), ("RXST", Reg.CAN_RXST c)]))

/-- The other field tests of the power blocks. R130, R143, R176, R200, R205, R207, R233, R264. Each test answers at once
with what it finds, or keeps the console until its measurement answers: the gate self-test, mfe zero and loom kat do
the latter. In another mode than its own, or without what it needs, it answers ERR MODE, and outside the range of an
operand ERR RANGE. What only a measurement gives is an operand or a free value. -/
def Obligations.BlockFieldTests : Prop :=
  (∀ (n : Fin 28) (s : State), s.conFree false = true →
      (s.takeLine.mode = .ready ∨ s.takeLine.mode = .service ∨ s.takeLine.mode = .run) →
      (s.takeLine.gateTestStart n).flag (Fld.GDC_TESTRES_BUSY n) = true → Serves (.gdcSelftest n) s fun t =>
      { t.gateTestStart n with con := { (t.gateTestStart n).con with busy := true, gateTest := some n } }) ∧
  (∀ (n : Fin 28) (s : State), s.conFree false = true →
      (s.takeLine.mode = .ready ∨ s.takeLine.mode = .service ∨ s.takeLine.mode = .run) →
      (s.takeLine.gateTestStart n).flag (Fld.GDC_TESTRES_BUSY n) = false →
      Serves (.gdcSelftest n) s fun t => (t.gateTestStart n).replyErr "MODE") ∧
  (∀ (n : Fin 28) (s : State), s.conFree false = true →
      ¬ (s.takeLine.mode = .ready ∨ s.takeLine.mode = .service ∨ s.takeLine.mode = .run) →
      Serves (.gdcSelftest n) s fun t => t.replyErr "MODE") ∧
  (∀ (x : Fin 4) (v w : Rat) (s : State), s.conFree false = true →
      (s.takeLine.mode = .ready ∨ s.takeLine.mode = .service) → s.takeLine.setState x = .block →
      Serves (.pspSctest x v w) s fun t => t.passReply
      (within v ((max 0x14 (min 0xF0 (t.fld (Fld.PSP_SC_TH x))) : Nat) : Rat) (1 / 50) && within w (t.level (Fld.PSP_OV3UV_OV3 x)) (1 / 50))
      [("SC", quantise v), ("OV3", quantise w)]) ∧
  (∀ (x : Fin 4) (v w : Rat) (s : State), s.conFree false = true →
      (¬ (s.takeLine.mode = .ready ∨ s.takeLine.mode = .service)) ∨ s.takeLine.setState x ≠ .block →
      Serves (.pspSctest x v w) s fun t => t.replyErr "MODE") ∧
  (∀ (x : Fin 4) (s : State), s.conFree false = true →
      Serves (.cross x) s fun t => t.reply [.data [("CROSS", t.fld (Fld.PSP_STATE_CROSS x)), ("SRC", t.fld (Fld.PSP_STATE_CROSS_SRC x)),
      ("f_el", quantise (t.felNow x * 10)), ("V_LL", quantise (t.psp[x].vll * 10))]]) ∧
  (∀ (x : Fin 4) (node : Byte) (s : State), s.conFree false = true →
      ((s.takeLine.ownerAxis x).any fun (a : Fin 4) => s.takeLine.isShared a) = true → Serves (.pwmSkew x node) s fun t =>
      t.freeRat.2.reply [.data [("node", node.toNat), ("skew", quantise t.freeRat.1)]]) ∧
  (∀ (x : Fin 4) (node : Byte) (s : State), s.conFree false = true →
      ((s.takeLine.ownerAxis x).any fun (a : Fin 4) => s.takeLine.isShared a) = false →
      Serves (.pwmSkew x node) s fun t => t.replyErr "MODE") ∧
  (∀ (x : Fin 4) (s : State), s.conFree false = true → (s.takeLine.mode = .ready ∨ s.takeLine.mode = .service) →
      s.takeLine.setFree x = true → Serves (.mfeZero x) s fun t => (t.beginOffsets x true).conBusy.settle) ∧
  (∀ (x : Fin 4) (s : State), s.conFree false = true →
      (¬ (s.takeLine.mode = .ready ∨ s.takeLine.mode = .service)) ∨ s.takeLine.setFree x = false →
      Serves (.mfeZero x) s fun t => t.replyErr "MODE") ∧
  (∀ (x : Fin 4) (s : State), s.conFree false = true → s.takeLine.mode ≠ .service ∨ s.takeLine.pwmRuns x = false →
      Serves (.mfeXc x) s fun t => t.replyErr "MODE") ∧
  (∀ (x : Fin 4) (s : State), s.conFree false = true → s.takeLine.mode = .service → s.takeLine.pwmRuns x = true →
      s.takeLine.mfe[x].recon = none → Serves (.mfeXc x) s fun t => t.replyErr "FAIL") ∧
  (∀ (x : Fin 4) (r : Recon) (s : State), s.conFree false = true → s.takeLine.mode = .service →
      s.takeLine.pwmRuns x = true → s.takeLine.mfe[x].recon = some r → Serves (.mfeXc x) s fun t =>
      let p := t.mfe[x].reconPs
      let q (v : Rat) : Int := quantise (v * 10)
      t.passReply (three.all fun k => decide (absRat (r.amps.at k - p.at k) ≤ (max 1 (t.fld (Fld.MFE_XC_XCTH x)) : Nat)))
      [("PS_U", q p.u), ("PS_V", q p.v), ("PS_W", q p.w), ("SH_U", q r.amps.u), ("SH_V", q r.amps.v), ("SH_W", q r.amps.w),
      ("D_U", q (r.amps.u - p.u)), ("D_V", q (r.amps.v - p.v)), ("D_W", q (r.amps.w - p.w))]) ∧
  (∀ (s : State), s.conFree false = true → s.takeLine.noneActive = true →
      Serves .mfeSupplyOn s fun t => t.supplyRestart.reply [.data [("ON", 1)]]) ∧
  (∀ (s : State), s.conFree false = true → s.takeLine.noneActive = false → Serves .mfeSupplyOn s fun t => t.replyErr "MODE") ∧
  (∀ (x : Fin 4) (s : State), s.conFree false = true → s.takeLine.setState x ≠ .run →
      Serves (.loomKat x) s fun t => ((t.katRequest x).modLane x fun l => { l with katCon := true }).conBusy.settle) ∧
  (∀ (x : Fin 4) (s : State), s.conFree false = true → s.takeLine.setState x = .run →
      Serves (.loomKat x) s fun t => t.replyErr "MODE") ∧
  (∀ (x : Fin 4) (s : State), s.conFree false = true →
      Serves (.loomTime x) s fun t => t.reply [.data [("PEAK", 25 * t.fld (Fld.LOOM_TIME_PEAK x))]])

/-- The other field tests of rotor position, load sharing, the feedback ports and the motion channels. R273, R282, R293,
R304, R336, R362, R391, R404, R423. Each test answers at once with what it finds, or keeps the console until its
measurement answers: pos term, pos learn and fbi watch do the latter. In another mode than its own, or without what it
needs, it answers ERR MODE, and outside the range of an operand ERR RANGE. What only a measurement gives is an operand
or a free value. -/
def Obligations.MotionFieldTests : Prop :=
  (∀ (a : Fin 4) (s : State), s.conFree false = true → s.takeLine.axisExists a = true →
      ((s.takeLine.axisSets a).all fun x => s.takeLine.setState x == .block) = true →
      Serves (.posTerm a) s fun t => (t.modPos a fun p =>
      { p with meas := some { t0 := t.weft, prev := none, adv := 0, det := true, vab := DQ.zero, con := true } }).conBusy) ∧
  (∀ (a : Fin 4) (s : State), s.conFree false = true →
      ¬ (s.takeLine.axisExists a = true ∧ ((s.takeLine.axisSets a).all fun x => s.takeLine.setState x == .block) = true) →
      Serves (.posTerm a) s fun t => t.replyErr "MODE") ∧
  (∀ (a : Fin 4) (s : State), s.conFree false = true → s.takeLine.mode = .run → s.takeLine.learnOk a = true →
      Serves (.posLearn a) s fun t => ((t.learn a).modPos a fun p => { p with conLearn := true }).conBusy) ∧
  (∀ (a : Fin 4) (s : State), s.conFree false = true → s.takeLine.mode = .run → s.takeLine.learnOk a = false →
      Serves (.posLearn a) s fun t => (t.learn a).replyErr "MODE") ∧
  (∀ (a : Fin 4) (s : State), s.conFree false = true → s.takeLine.mode ≠ .run → Serves (.posLearn a) s fun t => t.replyErr "MODE") ∧
  (∀ (a : Fin 4) (s : State), s.conFree false = true →
      Serves (.lshMembers a) s fun t => t.reply (if t.isShared a then (List.finRange 16).filterMap fun m => t.memberLine a m else [])) ∧
  (∀ (a : Fin 4) (n : Nat) (s : State), s.conFree false = true → 0 < n → n ≤ 10 → s.takeLine.mode = .ready →
      s.takeLine.isShared a = true → s.takeLine.allJoined a = true →
      Serves (.lshDrop a n) s fun t => (t.modLsh a fun g => { g with drop := n }).reply []) ∧
  (∀ (a : Fin 4) (n : Nat) (s : State), s.conFree false = true → 0 < n → n ≤ 10 →
      ¬ (s.takeLine.mode = .ready ∧ s.takeLine.isShared a = true ∧ s.takeLine.allJoined a = true) →
      Serves (.lshDrop a n) s fun t => t.replyErr "MODE") ∧
  (∀ (a : Fin 4) (n : Nat) (s : State), s.conFree false = true → n = 0 ∨ 10 < n →
      Serves (.lshDrop a n) s fun t => t.replyErr "RANGE") ∧
  (∀ (n : Fin 4) (s : State), s.conFree false = true →
      Serves (.fbiWatch n) s fun t => { t.say (t.watchLine n) with con := { (t.say (t.watchLine n)).con with busy := true, watch := some n } }) ∧
  (∀ (n : Fin 4) (ok : Bool) (s : State), s.conFree false = true →
      (s.takeLine.mode = .ready ∨ s.takeLine.mode = .service) → s.takeLine.portRefusal n = none →
      Serves (.fbiLoop n ok) s fun t => t.passReply ok []) ∧
  (∀ (n : Fin 4) (ok : Bool) (st : Nat) (s : State), s.conFree false = true →
      (s.takeLine.mode = .ready ∨ s.takeLine.mode = .service) → s.takeLine.portRefusal n = some st →
      Serves (.fbiLoop n ok) s fun t => t.say (.status st)) ∧
  (∀ (n : Fin 4) (ok : Bool) (s : State), s.conFree false = true →
      ¬ (s.takeLine.mode = .ready ∨ s.takeLine.mode = .service) → Serves (.fbiLoop n ok) s fun t => t.replyErr "MODE") ∧
  (∀ (c : Fin 8) (s : State), s.conFree false = true →
      Serves (.prgLim c) s fun t => t.reply [.data [("LIM_POS", t.fld (Fld.PRG_STATE_LIM_POS c)), ("LIM_NEG", t.fld (Fld.PRG_STATE_LIM_NEG c))]])

/-- The other field tests of the island, the pairs, the host, the Weft, CAN and the sensors. R88, R435, R453, R461, R472,
R488, R499, R510, R543, R547, R549, R576, R591, R602. Each test answers at once with what it finds, or keeps the
console until its answer comes, as a ping and the reinit of a port do. sfi test runs the STO path test or answers why
not; sfi list and sfi seal need an open staging; lck check a pair in RUN; hif nop an enabled ring in READY, RUN or
SERVICE; wft ping an address and at least one round; wft reinit a port that has not failed, and (the model's choice,
log entry 59) is not DISABLED; can loop a controller off the bus. Otherwise they answer ERR MODE, UNIT_FAILED of a
failed port, and ERR RANGE for a ping of no round. What only a measurement gives is an operand or a free value. -/
def Obligations.SystemFieldTests : Prop :=
  (∀ (s : State), s.conFree false = true →
      Serves .sfiSto s fun t => t.reply [.data [("STO_A", t.fld Fld.SFI_STATUS_STO_A), ("STO_B", t.fld Fld.SFI_STATUS_STO_B),
      ("STO_HW", t.fld Fld.PSP_REQ_STO_HW), ("ENABLE", ((List.range 24).foldl (fun m n => m + (if t.flag (Fld.GDC_STATUS_ENABLE n) then 2 ^ n else 0)) 0 : Nat))]]) ∧
  (∀ (g : Option (Fin 28)) (i : Option StoInput) (s : State), s.conFree false = true → s.takeLine.stoTestStatus = none →
      Serves (.sfiTest g i) s fun t => (if (t.stoTestRun g i).1 then (t.stoTestRun g i).2.reply [.data [("PASS", 1)]]
      else (t.stoTestRun g i).2.say (.status St.STO_FAIL)).settle) ∧
  (∀ (g : Option (Fin 28)) (i : Option StoInput) (st : Nat) (s : State), s.conFree false = true →
      s.takeLine.stoTestStatus = some st →
      Serves (.sfiTest g i) s fun t => if st = St.MODE_DENIED then t.replyErr "MODE" else t.say (.status st)) ∧
  (∀ (crc : Word) (s : State), s.conFree false = true → s.takeLine.isl.staging = none →
      Serves .sfiList s (fun t => t.replyErr "MODE") ∧ Serves (.sfiSeal crc) s (fun t => t.replyErr "MODE")) ∧
  (∀ (g : Staging) (s : State), s.conFree false = true → s.takeLine.isl.staging = some g →
      Serves .sfiList s fun t => (t.setStaging { g with readBack := safetyKeys }).reply ((safetyKeys.map fun (k : Nat) =>
      Line.data [("id", k), ("value", (sparseGet paramDefault g.staged k).toNat),
      ("changed", if sparseGet paramDefault g.staged k == sparseGet paramDefault g.sealed k then 0 else 1)]) ++ [.data [("CRC", (safetyCrc g.staged).toNat)]])) ∧
  (∀ (crc : Word) (g : Staging) (s : State), s.conFree false = true → s.takeLine.isl.staging = some g →
      s.takeLine.sealFail g crc = none → Serves (.sfiSeal crc) s fun t => t.sealStart (conDesc 0 1) crc) ∧
  (∀ (crc : Word) (w : String) (g : Staging) (s : State), s.conFree false = true → s.takeLine.isl.staging = some g →
      s.takeLine.sealFail g crc = some w → Serves (.sfiSeal crc) s fun t => (t.say (.data [(w, 1)])).sealStart (conDesc 0 1) crc) ∧
  (∀ (k : Fin 32) (s : State), s.conFree false = true →
      Serves (.sc k) s fun t => t.reply [t.regLine [("STATE", Reg.SFI_SC_STATE k), ("CNT", Reg.SFI_SC_CNT k), ("RX", Reg.SFI_SC_RX k)],
      .data [("PAIRS", bytesNat ((t.sc[k].last.drop 14).take 2)), ("AXES", bytesNat ((t.sc[k].last.drop 16).take 4))]]) ∧
  (∀ (s : State), s.conFree false = true →
      Serves .lck s fun t => t.reply (four.map fun n => t.regLine [("STATUS", Reg.LCK_STATUS n), ("EVENT", Reg.LCK_EVENT n), ("CNT", Reg.LCK_CNT n)])) ∧
  (∀ (n : Fin 4) (b : Bool) (s : State), s.conFree false = true → s.takeLine.pairState n = PairSt.RUN →
      Serves (.lckCheck n b) s fun t => (t.selfCheck n b).passReply (!b)
      [("CHK_OK", (t.selfCheck n b).fld (Fld.LCK_STATUS_CHK_OK n)), ("CHECKS", (t.selfCheck n b).fld (Fld.LCK_CNT_CHECKS n))]) ∧
  (∀ (n : Fin 4) (b : Bool) (s : State), s.conFree false = true → s.takeLine.pairState n ≠ PairSt.RUN →
      Serves (.lckCheck n b) s fun t => t.replyErr "MODE") ∧
  (∀ (n : Fin 4) (s : State), s.conFree false = true →
      Serves (.lckHist n) s fun t => t.reply (((t.jr.entries.takeWhile fun e => e.2.code != 0x0100).filter fun e =>
      e.2.code == 0x0500 && e.2.unit.toNat == n.val).reverse.map fun e => .entry e.1 e.2)) ∧
  (∀ (n : Fin 16) (s : State), s.conFree false = true →
      ((s.takeLine.mode = .ready ∨ s.takeLine.mode = .run ∨ s.takeLine.mode = .service) ∧ s.takeLine.flag (Fld.HIF_SQ_CFG_ENABLE n) = true) →
      Serves (.hifNop n) s fun t => t.freeNat.2.reply [.data [("t", t.freeNat.1)]]) ∧
  (∀ (n : Fin 16) (s : State), s.conFree false = true →
      ¬ ((s.takeLine.mode = .ready ∨ s.takeLine.mode = .run ∨ s.takeLine.mode = .service) ∧ s.takeLine.flag (Fld.HIF_SQ_CFG_ENABLE n) = true) →
      Serves (.hifNop n) s fun t => t.replyErr "MODE") ∧
  (∀ (a : Byte) (s : State), s.conFree false = true →
      Serves (.wftRoute a) s fun t => t.reply [.data [("METRIC", t.metric a.toNat), ("PORT_A", (t.routeA a.toNat).val),
      ("PORT_B", (t.routeB a.toNat).val), ("SHARED", if t.sharedRoute a.toNat then 1 else 0)]]) ∧
  (∀ (a : Byte) (n : Nat) (s : State), s.conFree false = true → 0 < n → s.takeLine.nodeAddr ≠ 0 →
      Serves (.wftPing a n) s fun t =>
      ((t.modWft fun w => { w with ping := some { addr := a, left := n, t0 := t.weft, rtts := [] } }).sendEcho 9 a pingBody).conBusy) ∧
  (∀ (a : Byte) (n : Nat) (s : State), s.conFree false = true → 0 < n → s.takeLine.nodeAddr = 0 →
      Serves (.wftPing a n) s fun t => t.replyErr "MODE") ∧
  (∀ (a : Byte) (s : State), s.conFree false = true → Serves (.wftPing a 0) s fun t => t.replyErr "RANGE") ∧
  (∀ (p : Fin 4) (s : State), s.conFree false = true → (s.takeLine.mode = .ready ∨ s.takeLine.mode = .service) →
      s.takeLine.lstate p ≠ 4 → s.takeLine.lstate p ≠ 0 → Serves (.wftReinit p) s fun t =>
      { (t.journalFw 0x010A 2 4 (BitVec.ofNat 32 p.val)).toTrain p with
      con := { ((t.journalFw 0x010A 2 4 (BitVec.ofNat 32 p.val)).toTrain p).con with busy := true, wftWait := some p } }.settle) ∧
  (∀ (p : Fin 4) (s : State), s.conFree false = true → (s.takeLine.mode = .ready ∨ s.takeLine.mode = .service) →
      s.takeLine.lstate p = 4 → Serves (.wftReinit p) s fun t => t.say (.status St.UNIT_FAILED)) ∧
  (∀ (p : Fin 4) (s : State), s.conFree false = true →
      (¬ (s.takeLine.mode = .ready ∨ s.takeLine.mode = .service)) ∨ s.takeLine.lstate p = 0 →
      Serves (.wftReinit p) s fun t => t.replyErr "MODE") ∧
  (∀ (c : Fin 4) (ok : Bool) (s : State), s.conFree false = true →
      (s.takeLine.mode = .ready ∨ s.takeLine.mode = .service) → s.takeLine.flag (Fld.CAN_CFG_ENABLE c) = false →
      Serves (.canLoop c ok) s fun t => t.passReply ok []) ∧
  (∀ (c : Fin 4) (ok : Bool) (s : State), s.conFree false = true →
      (¬ (s.takeLine.mode = .ready ∨ s.takeLine.mode = .service)) ∨ s.takeLine.flag (Fld.CAN_CFG_ENABLE c) = true →
      Serves (.canLoop c ok) s fun t => t.replyErr "MODE") ∧
  (∀ (c : Fin 4) (s : State), s.conFree false = true →
      Serves (.canRx c) s fun t => t.reply [t.regLine [("ID", Reg.CAN_RX_ID c), ("CTL", Reg.CAN_RX_CTL c), ("TIME", Reg.CAN_RX_TIME c)],
      t.regLine ((List.range 16).map fun k => ("D", Reg.CAN_RX_DATA c k))]) ∧
  (∀ (s : State), s.conFree false = true → Serves .thm s fun t => t.reply (t.regLine [("STATUS", Reg.THM_STATUS)] ::
      (List.range 38).map fun (i : Nat) => .data [("i", i), ("TEMP", t.fld (Fld.THM_T_TEMP i)), ("LVL", t.fld (Fld.THM_T_LVL i))]))

/-- ATEST_P carries the quantity selected at its scale, and 0 V with none or out of range. R143, R166, R176, R200, R304,
R614, R615. While gdc pulse runs the output is GS / 10 of its channel. Otherwise it is 0 V with no selection and where
the quantity is out of range for the state; the path zero reads 0 V, the reference 2.000 V, VP of a channel with its
own supply at its code and SC_TH at the level in force, each a tenth of the volts, an angle with 2.000 V for a turn,
and the duty of pwm run as commanded (the model's choice where a limit changes the compare, log entry 59). What only
the analogue side has (phys) is a premise on nothing here. -/
def Obligations.AtestOutput : Prop :=
  (∀ (phys : AtestQ → Rat) (n : Fin 28) (s : State), s.pulsed = some n → s.atestOut phys = s.gc[n].gs / 10) ∧
  (∀ (phys : AtestQ → Rat) (s : State), s.pulsed = none → s.con.atest = none → s.atestOut phys = 0) ∧
  (∀ (phys : AtestQ → Rat) (q : AtestQ) (s : State), s.pulsed = none → s.con.atest = some q → s.atestOk q = false →
      s.atestOut phys = 0) ∧
  (∀ (phys : AtestQ → Rat) (s : State), s.pulsed = none → s.con.atest = some .zero → s.atestOut phys = 0) ∧
  (∀ (phys : AtestQ → Rat) (s : State), s.pulsed = none → s.con.atest = some .ref → s.atestOut phys = 2) ∧
  (∀ (phys : AtestQ → Rat) (x : Fin 4) (k : Fin 3) (c : Cmp3) (s : State), s.pulsed = none →
      s.con.atest = some (.pwmDuty x k) → s.pwmRuns x = true → s.pwm[x].duties = some c →
      s.atestOut phys = 2 * (1 - (c.at k : Rat) / (s.fullScale x : Rat))) ∧
  (∀ (phys : AtestQ → Rat) (n : Fin 28) (s : State), s.pulsed = none → s.con.atest = some (.gdcVp n) →
      s.islandsOf (chanSet n) = true → s.flag (Fld.GDC_CFG_SUPPLY n) = false →
      s.atestOut phys = (12 + (min 0x10 (s.fld (Fld.GDC_CFG_VP n)) : Nat) / 2) / 10) ∧
  (∀ (phys : AtestQ → Rat) (n : Fin 28) (s : State), s.pulsed = none → s.con.atest = some (.gdcVp n) →
      s.islandsOf (chanSet n) = true → s.flag (Fld.GDC_CFG_SUPPLY n) = true → s.atestOut phys = phys (.gdcVp n) / 10) ∧
  (∀ (phys : AtestQ → Rat) (x : Fin 4) (s : State), s.pulsed = none → s.con.atest = some (.pspScth x) →
      s.islandsOf x = true → s.atestOut phys = ((max 0x14 (min 0xF0 (s.fld (Fld.PSP_SC_TH x))) : Nat) : Rat) / 100) ∧
  (∀ (phys : AtestQ → Rat) (a : Fin 4) (s : State), s.pulsed = none → s.con.atest = some (.posTheta a) →
      s.axisExists a = true → s.flag (Fld.POS_STATUS_VALID a) = true →
      s.atestOut phys = 2 * (s.fld (Fld.POS_ANGLE_THETA a) : Rat) / 65536)

/-- A step runs the command at the front of the queue with the rest of the queue; with no command waiting a nanosecond
passes. The queue of waiting commands is the model's own form of a block that is commanded from outside (log entry 5):
a step takes the command in front and answers what it comes to on the state without it; while none waits, one
nanosecond passes. The host's machine is this step, from the state after reset. -/
def Obligations.QueueStep : Prop :=
  (∀ (c : Instr) (r : List Instr) (s : State), s.pending = c :: r →
      step s = exec c { s with pending := r } ∧ Sys2Proof.core.step s = step s) ∧
  (∀ (s : State), s.pending = [] → step s = .next s.tick) ∧
  (∀ (n w : Nat) (s : State), s.withFetchWord n w = s ∧ Sys2Proof.core.reset = State.reset)

/-- The state after reset: every register at the value its table gives, nothing waiting, nothing listed. Every register
reads its reset value right after reset, at its documented address; these are values that the spec gives. The
registers without a documented reset value are the model's choice (log entry 2) and are not named here. -/
def Obligations.ResetState : Prop :=
  (∀ (a : Nat), State.reset.reg a = resetWord a) ∧
  (∀ (n : Fin 4),
      State.reset.reg (0x4040_0000 + 0x100 * n.val) = 0x0819_54C2 ∧ State.reset.reg (0x4003_0000 + 0x40 * n.val) = 0 ∧
      State.reset.reg (0x4003_0004 + 0x40 * n.val) = 0x00F0_0000 ∧ State.reset.reg (0x4003_0020 + 0x40 * n.val) = 0xFFFF_FFFF ∧
      State.reset.reg (0x4003_0024 + 0x40 * n.val) = 0xFFFF_FFFF ∧ State.reset.reg (0x4038_0000 + 0x100 * n.val) = 0x6000_0000) ∧
  (∀ (n : Fin 4),
      State.reset.reg (0x4078_0004 + 0x1000 * n.val) = 0x007E_3E1F ∧ State.reset.reg (0x4078_0008 + 0x1000 * n.val) = 0x001C_9900 ∧
      State.reset.reg (0x4078_000C + 0x1000 * n.val) = 3 ∧ State.reset.reg (0x4012_0000 + 0x100 * n.val) = 0x000C_0296 ∧
      State.reset.reg (0x4012_0010 + 0x100 * n.val) = 0x0014_0000) ∧
  (State.reset.reg 0x4060_0000 = 0x0FFE ∧ State.reset.reg 0x4050_0000 = 8 ∧ State.reset.pending = [] ∧ State.reset.sram = [])

/-- After reset the banks are in canonical form and no half-bridge has both switches on. The two invariants that every
step keeps (BanksStayCanonical, InterlockHolds) hold in the state after reset. The canonical form of the banks is the
model's own (log entry 1). -/
def Obligations.ResetInvariants : Prop :=
  (State.reset.banksWf ∧ State.reset.interlocked)

/-- Every step keeps the registers, the parameters, the stored profiles, the device record and the system SRAM in
canonical form. Whatever command is taken, and while time passes, each sparse bank keeps strictly rising keys and
lists no entry that equals what an unlisted key reads as, so that equal contents are equal data. The form is the
model's own (log entry 1). -/
def Obligations.BanksStayCanonical : Prop :=
  (∀ (s t : State), s.banksWf → step s = .next t → t.banksWf)

/-- No step commands both switches of a half-bridge on. The interlock of R114 and R115 over every command and over time:
if in no half-bridge the on commands of both switches stand past the interlock, then after any step in none of them
they do. -/
def Obligations.InterlockHolds : Prop :=
  (∀ (s t : State), s.interlocked → step s = .next t → t.interlocked)

/-- No command adds to the queue, takes from it or reorders it. Over all commands: what exec answers has the queue it was
given, so that a step takes exactly the front command and leaves the rest in order. The queue is the model's own (log
entry 5); a command stands for what reaches the device from outside. -/
def Obligations.CommandsComeFromOutside : Prop :=
  (∀ (c : Instr) (s : State) (t : State), exec c s = .next t → t.pending = s.pending) ∧
  (∀ (c : Instr) (r : List Instr) (s : State) (t : State), s.pending = c :: r → step s = .next t → t.pending = r)

/-- A write that R10 refuses is discarded, and journalled with the register address and the writer. R10: a write to an RWL
register outside the conditions of R8, and any write to the SFI block from CP_0 to CP_2 or from the host, leaves the
register unchanged and is recorded as REG_LOCKED (code 0x0108) in the controller's queue with the writer as its unit,
the address as its first data word and the value written as its second. A disabled journal records nothing (R607), and
the entry takes a place of the 64 that the queue has (R608): both are premises of the second part. -/
def Obligations.LockedWrites : Prop :=
  (∀ (w : Writer) (a v hw : Word) (row : RegRow) (s : State), s.awake = true → a.toNat % 4 = 0 → 0x4000_0000 ≤ a.toNat →
      a.toNat < 0x4100_0000 → regRow a.toNat = some row →
      (row.rwl ≠ 0 ∧ s.rwlFree a.toNat = false) ∨ (0x4050_0000 ≤ a.toNat ∧ a.toNat < 0x4060_0000 ∧ (w = .host ∨ w = .pair 0 ∨ w = .pair 1 ∨ w = .pair 2)) →
      exec (.registerWrite w a v 4 hw) s = .next (s.regLocked w a.toNat v) ∧ (s.regLocked w a.toNat v).reg a.toNat = s.reg a.toNat) ∧
  (∀ (w : Writer) (a v : Word) (s : State), s.flag Fld.SVC_JSTAT_DISABLED = false → s.jr.queue.length < 64 →
      ∃ e ∈ (s.regLocked w a.toNat v).jr.queue, e.code = 0x0108 ∧ e.unit = BitVec.ofNat 8 (writerCode w) ∧ e.d0 = a ∧ e.d1 = v ∧
      (s.regLocked w a.toNat v).jr.queue.length = s.jr.queue.length + 1)

/-- The registers of CP_3, and the interrupt enables and timer compares of every pair, take writes only from their own
pair. R506: a write to a register of CP_3 by any requester other than CP_3, and a write to LCK_CP_n_IRQEN or
LCK_CP_n_MTIMECMP by any requester other than pair n, is discarded and journalled as REG_LOCKED; the pair itself is
let through. -/
def Obligations.PairRegisters : Prop :=
  (∀ (w : Writer) (a v hw : Word) (row : RegRow) (s : State), s.awake = true → a.toNat % 4 = 0 → 0x4003_00C0 ≤ a.toNat →
      a.toNat < 0x4003_0100 → regRow a.toNat = some row → w ≠ .pair 3 →
      exec (.registerWrite w a v 4 hw) s = .next (s.regLocked w a.toNat v)) ∧
  (∀ (w : Writer) (n : Fin 4) (a v hw : Word) (s : State), s.awake = true →
      a.toNat = Reg.LCK_IRQEN n ∨ a.toNat = Reg.LCK_MTIMECMP_LO n ∨ a.toNat = Reg.LCK_MTIMECMP_HI n → w ≠ .pair n →
      exec (.registerWrite w a v 4 hw) s = .next (s.regLocked w a.toNat v)) ∧
  (∀ (n : Fin 4) (a v hw : Word) (row : RegRow) (s : State), s.awake = true → s.deaf a.toNat = false →
      a.toNat = Reg.LCK_IRQEN n ∨ a.toNat = Reg.LCK_MTIMECMP_LO n ∨ a.toNat = Reg.LCK_MTIMECMP_HI n →
      regRow a.toNat = some row → exec (.registerWrite (.pair n) a v 4 hw) s =
      .next ((s.setReg a.toNat (row.stored (s.reg a.toNat) v hw &&& row.there a.toNat)).afterStore row a.toNat))

/-- The third TRANSIENT within one hour is permanent with cause RATE; TRANS_H counts the TRANSIENTs of the hour. R500:
with three good answers a mismatch is a TRANSIENT, stamped in powered time, unless its stamp lies no more than 3,600 s
(to the nanosecond, the bound included) after that of the second-last TRANSIENT of the pair: then it is permanent with
cause RATE and the pair does not restart. TRANS_H counts the TRANSIENTs of the last 3,600 s, up to the 15 that its
four bits hold; it is counted at every nanosecond that passes. -/
def Obligations.TransientRate : Prop :=
  (∀ (n : Fin 4) (u : Nat) (s : State), s.pairState n = PairSt.ARBITRATE → s.cp[n].stamps[1]? = some u →
      s.sys.poweredNs ≤ u + 3_600_000_000_000 → Completes (.classification n true true true) s fun t =>
      t.fld (Fld.LCK_EVENT_CLASS n) = 2 ∧ t.fld (Fld.LCK_EVENT_CAUSE n) = 4 ∧ t.flag (Fld.LCK_STATUS_FAILED n) = true ∧ t.pairState n = PairSt.FAILED) ∧
  (∀ (n : Fin 4) (s : State), s.pairState n = PairSt.ARBITRATE →
      (∀ u, s.cp[n].stamps[1]? = some u → u + 3_600_000_000_000 < s.sys.poweredNs) →
      Completes (.classification n true true true) s fun t =>
      t.cp[n].stamps = s.sys.poweredNs :: s.cp[n].stamps ∧ t.fld (Fld.LCK_EVENT_CLASS n) = 1) ∧
  (∀ (n : Fin 4) (s : State), s.pairState n = PairSt.ARBITRATE →
      (∀ u, s.cp[n].stamps[1]? = some u → u + 3_600_000_000_000 < s.sys.poweredNs) → s.cp[n].debugWaits = false →
      Completes (.classification n true true true) s fun t => t.pairState n = PairSt.RESTART) ∧
  (∀ (n : Fin 4) (s : State),
      s.tickTransients.fld (Fld.LCK_CNT_TRANS_H n) = min (s.cp[n].stamps.filter fun k => decide (s.sys.poweredNs ≤ k + 3_600_000_000_000)).length 15)

/-- Bytes written to system SRAM read back, every other byte reads as before, and nothing else changes. The frame of a
write to system SRAM: every byte outside the stored bytes reads as before, a stored byte inside the 8 MB reads as it
was written, bytes beyond the end are dropped (log entry 1), and no register, parameter or stored profile changes. -/
def Obligations.SystemSram : Prop :=
  (∀ (s : State) (off : Nat) (l : List Byte) (a : Nat), a < off ∨ off + l.length ≤ a →
      sparseGet sramEmpty (s.sramWrite off l).sram a = sparseGet sramEmpty s.sram a) ∧
  (∀ (s : State) (off : Nat) (l : List Byte) (k : Nat), k < l.length → off + k < 0x80_0000 →
      sparseGet sramEmpty (s.sramWrite off l).sram (off + k) = l.getD k 0) ∧
  (∀ (s : State) (off : Nat) (l : List Byte),
      (s.sramWrite off l).regs = s.regs ∧ s.sameStore (s.sramWrite off l) ∧ (s.sramWrite off l).pending = s.pending) ∧
  (∀ (w : Writer) (a v hw : Word) (k : Nat) (s : State), s.awake = true → 0x1000_0000 ≤ a.toNat → a.toNat < 0x1080_0000 →
      w ≠ .console → exec (.registerWrite w a v k hw) s = .next (s.sramWrite (a.toNat - 0x1000_0000) (lowBytes v k)))

/-- What one nanosecond alone does: powered time, the RTC second, the wake timer and Weft time. R25, R83, R637, R638:
while no command waits a nanosecond passes. Powered time runs while the +24 V supply is present, the RTC counts a
second at every 1,000,000,000th, in every mode but DEEP NIGHT unless the Night domain has lost its supply; a written
count takes effect at the next tick of 32.768 kHz and restarts the second; the wake timer runs in NIGHT. Where no
written count waits, no register but PMU_RTC, PMU_WAKE and SFI_STATUS changes with this time alone; all that changes
while the device is not awake is this and, during a Dawn, the time since its zero event. While it is awake with its
400 MHz clock, Weft time, the hour of TRANSIENTs, the ports, the trace, the rings, gdc dead and the console follow.
That an idle step is one nanosecond is the model's choice (log entry 5). -/
def Obligations.TimeAlone : Prop :=
  (∀ (s : State), s.pending = [] → s.awake = false → step s = .next s.tickNight.tickDawn) ∧
  (∀ (s : State), s.pending = [] → s.awake = true → s.flag Fld.SYS_CLK_PLL400 = false → step s = .next s.tickNight.tickDawn) ∧
  (∀ (s : State), s.pending = [] → s.awake = true → s.flag Fld.SYS_CLK_PLL400 = true → s.sys.rtcSet = none →
      step s = .next s.tickNight.tickDawn.tickWeft.tickTransients.tickPorts.scopeSample.serve.deadPoll.conPoll) ∧
  (∀ (s : State),
      s.tickNight.sys.poweredNs = (if s.sys.vinPresent then s.sys.poweredNs + 1 else s.sys.poweredNs) ∧ s.tickNight.weft = s.weft ∧
      s.sameStore s.tickNight ∧ s.tickNight.sram = s.sram ∧ s.tickNight.gc = s.gc) ∧
  (∀ (s : State), s.mode ≠ .deepNight → s.sys.nightDead = false → s.sys.rtcSet = none → s.sys.rtcNs = 999_999_999 →
      s.tickNight.reg Reg.PMU_RTC = s.reg Reg.PMU_RTC + 1 ∧ s.tickNight.sys.rtcNs = 0) ∧
  (∀ (s : State), s.mode ≠ .deepNight → s.sys.nightDead = false → s.sys.rtcNs < 999_999_999 →
      s.sys.rtcSet = none ∨ rtcTickAt s.sys.rtcNs = false →
      s.tickNight.reg Reg.PMU_RTC = s.reg Reg.PMU_RTC ∧ s.tickNight.sys.rtcNs = s.sys.rtcNs + 1 ∧ s.tickNight.sys.rtcSet = s.sys.rtcSet) ∧
  (∀ (v : Word) (s : State), s.mode ≠ .deepNight → s.sys.nightDead = false → s.sys.rtcSet = some v →
      rtcTickAt s.sys.rtcNs = true →
      s.tickNight.reg Reg.PMU_RTC = v ∧ s.tickNight.sys.rtcNs = 0 ∧ s.tickNight.sys.rtcSet = none ∧ s.tickNight.flag Fld.PMU_NIGHT_RTC_VALID = true) ∧
  (∀ (s : State), s.mode = .deepNight ∨ s.sys.nightDead = true →
      s.tickNight.reg Reg.PMU_RTC = s.reg Reg.PMU_RTC ∧ s.tickNight.sys.rtcNs = s.sys.rtcNs) ∧
  (∀ (s : State), s.wft.rate = 0 → s.wft.frac = 0 →
      s.tickWeft.weft = s.weft + 1 ∧ s.tickWeft.wft.frac = 0 ∧ s.tickWeft.regs = s.regs) ∧
  (∀ (s : State) (a : Nat), s.sys.rtcSet = none → a ≠ Reg.PMU_RTC → a ≠ Reg.PMU_WAKE → a ≠ Reg.SFI_STATUS →
      s.tickNight.reg a = s.reg a) ∧
  (∀ (s : State), s.mode = .night → s.flag Fld.PMU_WAKE_RUN = true → s.tickNight.sys.wakeNs = s.sys.wakeNs + 1 ∧
      s.tickNight.fld Fld.PMU_WAKE_REMAIN = (s.par 10 22 0 - ((s.sys.wakeNs + 1 : Nat) : Rat) / 60_000_000_000).floor.toNat % 2 ^ 20)

/-- Every command answers a next state, whatever the state and its operands. None of the commands of the table ends the
machine: each of them, in every state and with every operand, answers a next state, also where it has no effect there
(an expiry before its time, a command turned away with a status or an error line). Where each takes its own effect the
statements of its family say. -/
def Obligations.NoCommandStops : Prop :=
  (∀ (c : Instr) (s : State), ∃ t, exec c s = .next t)
end

