-- ==== Sys2Proof/Laws/State.lean ====
section
/-! SUPPORT. What each update of the state leaves as it was: one lemma per field per update, each true by unfolding the
update once. -/

namespace Sys2Proof.Machine

section
variable (s : State) (a : Nat) (w : Word)
@[simp] theorem State.setReg_pending : (s.setReg a w).pending = s.pending := rfl
@[simp] theorem State.setReg_fresh : (s.setReg a w).fresh = s.fresh := rfl
@[simp] theorem State.setReg_weft : (s.setReg a w).weft = s.weft := rfl
@[simp] theorem State.setReg_params : (s.setReg a w).params = s.params := rfl
@[simp] theorem State.setReg_topology : (s.setReg a w).topology = s.topology := rfl
@[simp] theorem State.setReg_classW : (s.setReg a w).classW = s.classW := rfl
@[simp] theorem State.setReg_slots : (s.setReg a w).slots = s.slots := rfl
@[simp] theorem State.setReg_images : (s.setReg a w).images = s.images := rfl
@[simp] theorem State.setReg_sys : (s.setReg a w).sys = s.sys := rfl
@[simp] theorem State.setReg_jr : (s.setReg a w).jr = s.jr := rfl
@[simp] theorem State.setReg_con : (s.setReg a w).con = s.con := rfl
@[simp] theorem State.setReg_gc : (s.setReg a w).gc = s.gc := rfl
@[simp] theorem State.setReg_conflict : (s.setReg a w).conflict = s.conflict := rfl
@[simp] theorem State.setReg_shoot : (s.setReg a w).shoot = s.shoot := rfl
@[simp] theorem State.setReg_psp : (s.setReg a w).psp = s.psp := rfl
@[simp] theorem State.setReg_sfiSto : (s.setReg a w).sfiSto = s.sfiSto := rfl
@[simp] theorem State.setReg_sfiAsc : (s.setReg a w).sfiAsc = s.sfiAsc := rfl
@[simp] theorem State.setReg_cp : (s.setReg a w).cp = s.cp := rfl
@[simp] theorem State.setReg_hif : (s.setReg a w).hif = s.hif := rfl
@[simp] theorem State.setReg_sram : (s.setReg a w).sram = s.sram := rfl
@[simp] theorem State.setReg_pwm : (s.setReg a w).pwm = s.pwm := rfl
@[simp] theorem State.setReg_mfe : (s.setReg a w).mfe = s.mfe := rfl
@[simp] theorem State.setReg_railsUp : (s.setReg a w).railsUp = s.railsUp := rfl
@[simp] theorem State.setReg_lane : (s.setReg a w).lane = s.lane := rfl
@[simp] theorem State.setReg_pos : (s.setReg a w).pos = s.pos := rfl
@[simp] theorem State.setReg_spd : (s.setReg a w).spd = s.spd := rfl
@[simp] theorem State.setReg_lsh : (s.setReg a w).lsh = s.lsh := rfl
@[simp] theorem State.setReg_fb : (s.setReg a w).fb = s.fb := rfl
@[simp] theorem State.setReg_pt : (s.setReg a w).pt = s.pt := rfl
@[simp] theorem State.setReg_prg : (s.setReg a w).prg = s.prg := rfl
@[simp] theorem State.setReg_lim : (s.setReg a w).lim = s.lim := rfl
@[simp] theorem State.setReg_isl : (s.setReg a w).isl = s.isl := rfl
@[simp] theorem State.setReg_sfa : (s.setReg a w).sfa = s.sfa := rfl
@[simp] theorem State.setReg_sfs : (s.setReg a w).sfs = s.sfs := rfl
@[simp] theorem State.setReg_si : (s.setReg a w).si = s.si := rfl
@[simp] theorem State.setReg_sip : (s.setReg a w).sip = s.sip := rfl
@[simp] theorem State.setReg_tst : (s.setReg a w).tst = s.tst := rfl
@[simp] theorem State.setReg_so : (s.setReg a w).so = s.so := rfl
@[simp] theorem State.setReg_sc : (s.setReg a w).sc = s.sc := rfl
@[simp] theorem State.setReg_wft : (s.setReg a w).wft = s.wft := rfl
@[simp] theorem State.setReg_can : (s.setReg a w).can = s.can := rfl
@[simp] theorem State.setReg_thm : (s.setReg a w).thm = s.thm := rfl
@[simp] theorem State.setReg_timers : (s.setReg a w).timers = s.timers := rfl
end

section
variable (s : State) (g i n : Nat) (w : Word)
@[simp] theorem State.setPar_pending : (s.setPar g i n w).pending = s.pending := rfl
@[simp] theorem State.setPar_fresh : (s.setPar g i n w).fresh = s.fresh := rfl
@[simp] theorem State.setPar_weft : (s.setPar g i n w).weft = s.weft := rfl
@[simp] theorem State.setPar_regs : (s.setPar g i n w).regs = s.regs := rfl
@[simp] theorem State.setPar_topology : (s.setPar g i n w).topology = s.topology := rfl
@[simp] theorem State.setPar_classW : (s.setPar g i n w).classW = s.classW := rfl
@[simp] theorem State.setPar_slots : (s.setPar g i n w).slots = s.slots := rfl
@[simp] theorem State.setPar_images : (s.setPar g i n w).images = s.images := rfl
@[simp] theorem State.setPar_sys : (s.setPar g i n w).sys = s.sys := rfl
@[simp] theorem State.setPar_jr : (s.setPar g i n w).jr = s.jr := rfl
@[simp] theorem State.setPar_con : (s.setPar g i n w).con = s.con := rfl
@[simp] theorem State.setPar_gc : (s.setPar g i n w).gc = s.gc := rfl
@[simp] theorem State.setPar_conflict : (s.setPar g i n w).conflict = s.conflict := rfl
@[simp] theorem State.setPar_shoot : (s.setPar g i n w).shoot = s.shoot := rfl
@[simp] theorem State.setPar_psp : (s.setPar g i n w).psp = s.psp := rfl
@[simp] theorem State.setPar_sfiSto : (s.setPar g i n w).sfiSto = s.sfiSto := rfl
@[simp] theorem State.setPar_sfiAsc : (s.setPar g i n w).sfiAsc = s.sfiAsc := rfl
@[simp] theorem State.setPar_cp : (s.setPar g i n w).cp = s.cp := rfl
@[simp] theorem State.setPar_hif : (s.setPar g i n w).hif = s.hif := rfl
@[simp] theorem State.setPar_sram : (s.setPar g i n w).sram = s.sram := rfl
@[simp] theorem State.setPar_pwm : (s.setPar g i n w).pwm = s.pwm := rfl
@[simp] theorem State.setPar_mfe : (s.setPar g i n w).mfe = s.mfe := rfl
@[simp] theorem State.setPar_railsUp : (s.setPar g i n w).railsUp = s.railsUp := rfl
@[simp] theorem State.setPar_lane : (s.setPar g i n w).lane = s.lane := rfl
@[simp] theorem State.setPar_pos : (s.setPar g i n w).pos = s.pos := rfl
@[simp] theorem State.setPar_spd : (s.setPar g i n w).spd = s.spd := rfl
@[simp] theorem State.setPar_lsh : (s.setPar g i n w).lsh = s.lsh := rfl
@[simp] theorem State.setPar_fb : (s.setPar g i n w).fb = s.fb := rfl
@[simp] theorem State.setPar_pt : (s.setPar g i n w).pt = s.pt := rfl
@[simp] theorem State.setPar_prg : (s.setPar g i n w).prg = s.prg := rfl
@[simp] theorem State.setPar_lim : (s.setPar g i n w).lim = s.lim := rfl
@[simp] theorem State.setPar_isl : (s.setPar g i n w).isl = s.isl := rfl
@[simp] theorem State.setPar_sfa : (s.setPar g i n w).sfa = s.sfa := rfl
@[simp] theorem State.setPar_sfs : (s.setPar g i n w).sfs = s.sfs := rfl
@[simp] theorem State.setPar_si : (s.setPar g i n w).si = s.si := rfl
@[simp] theorem State.setPar_sip : (s.setPar g i n w).sip = s.sip := rfl
@[simp] theorem State.setPar_tst : (s.setPar g i n w).tst = s.tst := rfl
@[simp] theorem State.setPar_so : (s.setPar g i n w).so = s.so := rfl
@[simp] theorem State.setPar_sc : (s.setPar g i n w).sc = s.sc := rfl
@[simp] theorem State.setPar_wft : (s.setPar g i n w).wft = s.wft := rfl
@[simp] theorem State.setPar_can : (s.setPar g i n w).can = s.can := rfl
@[simp] theorem State.setPar_thm : (s.setPar g i n w).thm = s.thm := rfl
@[simp] theorem State.setPar_timers : (s.setPar g i n w).timers = s.timers := rfl
end

section
variable (s : State) (x : Fin 4) (f : PwmSet → PwmSet)
@[simp] theorem State.modPwm_pending : (s.modPwm x f).pending = s.pending := rfl
@[simp] theorem State.modPwm_fresh : (s.modPwm x f).fresh = s.fresh := rfl
@[simp] theorem State.modPwm_weft : (s.modPwm x f).weft = s.weft := rfl
@[simp] theorem State.modPwm_regs : (s.modPwm x f).regs = s.regs := rfl
@[simp] theorem State.modPwm_params : (s.modPwm x f).params = s.params := rfl
@[simp] theorem State.modPwm_topology : (s.modPwm x f).topology = s.topology := rfl
@[simp] theorem State.modPwm_classW : (s.modPwm x f).classW = s.classW := rfl
@[simp] theorem State.modPwm_slots : (s.modPwm x f).slots = s.slots := rfl
@[simp] theorem State.modPwm_images : (s.modPwm x f).images = s.images := rfl
@[simp] theorem State.modPwm_sys : (s.modPwm x f).sys = s.sys := rfl
@[simp] theorem State.modPwm_jr : (s.modPwm x f).jr = s.jr := rfl
@[simp] theorem State.modPwm_con : (s.modPwm x f).con = s.con := rfl
@[simp] theorem State.modPwm_gc : (s.modPwm x f).gc = s.gc := rfl
@[simp] theorem State.modPwm_conflict : (s.modPwm x f).conflict = s.conflict := rfl
@[simp] theorem State.modPwm_shoot : (s.modPwm x f).shoot = s.shoot := rfl
@[simp] theorem State.modPwm_psp : (s.modPwm x f).psp = s.psp := rfl
@[simp] theorem State.modPwm_sfiSto : (s.modPwm x f).sfiSto = s.sfiSto := rfl
@[simp] theorem State.modPwm_sfiAsc : (s.modPwm x f).sfiAsc = s.sfiAsc := rfl
@[simp] theorem State.modPwm_cp : (s.modPwm x f).cp = s.cp := rfl
@[simp] theorem State.modPwm_hif : (s.modPwm x f).hif = s.hif := rfl
@[simp] theorem State.modPwm_sram : (s.modPwm x f).sram = s.sram := rfl
@[simp] theorem State.modPwm_mfe : (s.modPwm x f).mfe = s.mfe := rfl
@[simp] theorem State.modPwm_railsUp : (s.modPwm x f).railsUp = s.railsUp := rfl
@[simp] theorem State.modPwm_lane : (s.modPwm x f).lane = s.lane := rfl
@[simp] theorem State.modPwm_pos : (s.modPwm x f).pos = s.pos := rfl
@[simp] theorem State.modPwm_spd : (s.modPwm x f).spd = s.spd := rfl
@[simp] theorem State.modPwm_lsh : (s.modPwm x f).lsh = s.lsh := rfl
@[simp] theorem State.modPwm_fb : (s.modPwm x f).fb = s.fb := rfl
@[simp] theorem State.modPwm_pt : (s.modPwm x f).pt = s.pt := rfl
@[simp] theorem State.modPwm_prg : (s.modPwm x f).prg = s.prg := rfl
@[simp] theorem State.modPwm_lim : (s.modPwm x f).lim = s.lim := rfl
@[simp] theorem State.modPwm_isl : (s.modPwm x f).isl = s.isl := rfl
@[simp] theorem State.modPwm_sfa : (s.modPwm x f).sfa = s.sfa := rfl
@[simp] theorem State.modPwm_sfs : (s.modPwm x f).sfs = s.sfs := rfl
@[simp] theorem State.modPwm_si : (s.modPwm x f).si = s.si := rfl
@[simp] theorem State.modPwm_sip : (s.modPwm x f).sip = s.sip := rfl
@[simp] theorem State.modPwm_tst : (s.modPwm x f).tst = s.tst := rfl
@[simp] theorem State.modPwm_so : (s.modPwm x f).so = s.so := rfl
@[simp] theorem State.modPwm_sc : (s.modPwm x f).sc = s.sc := rfl
@[simp] theorem State.modPwm_wft : (s.modPwm x f).wft = s.wft := rfl
@[simp] theorem State.modPwm_can : (s.modPwm x f).can = s.can := rfl
@[simp] theorem State.modPwm_thm : (s.modPwm x f).thm = s.thm := rfl
@[simp] theorem State.modPwm_timers : (s.modPwm x f).timers = s.timers := rfl
end

section
variable (s : State) (x : Fin 4) (f : MfeSet → MfeSet)
@[simp] theorem State.modMfe_pending : (s.modMfe x f).pending = s.pending := rfl
@[simp] theorem State.modMfe_fresh : (s.modMfe x f).fresh = s.fresh := rfl
@[simp] theorem State.modMfe_weft : (s.modMfe x f).weft = s.weft := rfl
@[simp] theorem State.modMfe_regs : (s.modMfe x f).regs = s.regs := rfl
@[simp] theorem State.modMfe_params : (s.modMfe x f).params = s.params := rfl
@[simp] theorem State.modMfe_topology : (s.modMfe x f).topology = s.topology := rfl
@[simp] theorem State.modMfe_classW : (s.modMfe x f).classW = s.classW := rfl
@[simp] theorem State.modMfe_slots : (s.modMfe x f).slots = s.slots := rfl
@[simp] theorem State.modMfe_images : (s.modMfe x f).images = s.images := rfl
@[simp] theorem State.modMfe_sys : (s.modMfe x f).sys = s.sys := rfl
@[simp] theorem State.modMfe_jr : (s.modMfe x f).jr = s.jr := rfl
@[simp] theorem State.modMfe_con : (s.modMfe x f).con = s.con := rfl
@[simp] theorem State.modMfe_gc : (s.modMfe x f).gc = s.gc := rfl
@[simp] theorem State.modMfe_conflict : (s.modMfe x f).conflict = s.conflict := rfl
@[simp] theorem State.modMfe_shoot : (s.modMfe x f).shoot = s.shoot := rfl
@[simp] theorem State.modMfe_psp : (s.modMfe x f).psp = s.psp := rfl
@[simp] theorem State.modMfe_sfiSto : (s.modMfe x f).sfiSto = s.sfiSto := rfl
@[simp] theorem State.modMfe_sfiAsc : (s.modMfe x f).sfiAsc = s.sfiAsc := rfl
@[simp] theorem State.modMfe_cp : (s.modMfe x f).cp = s.cp := rfl
@[simp] theorem State.modMfe_hif : (s.modMfe x f).hif = s.hif := rfl
@[simp] theorem State.modMfe_sram : (s.modMfe x f).sram = s.sram := rfl
@[simp] theorem State.modMfe_pwm : (s.modMfe x f).pwm = s.pwm := rfl
@[simp] theorem State.modMfe_railsUp : (s.modMfe x f).railsUp = s.railsUp := rfl
@[simp] theorem State.modMfe_lane : (s.modMfe x f).lane = s.lane := rfl
@[simp] theorem State.modMfe_pos : (s.modMfe x f).pos = s.pos := rfl
@[simp] theorem State.modMfe_spd : (s.modMfe x f).spd = s.spd := rfl
@[simp] theorem State.modMfe_lsh : (s.modMfe x f).lsh = s.lsh := rfl
@[simp] theorem State.modMfe_fb : (s.modMfe x f).fb = s.fb := rfl
@[simp] theorem State.modMfe_pt : (s.modMfe x f).pt = s.pt := rfl
@[simp] theorem State.modMfe_prg : (s.modMfe x f).prg = s.prg := rfl
@[simp] theorem State.modMfe_lim : (s.modMfe x f).lim = s.lim := rfl
@[simp] theorem State.modMfe_isl : (s.modMfe x f).isl = s.isl := rfl
@[simp] theorem State.modMfe_sfa : (s.modMfe x f).sfa = s.sfa := rfl
@[simp] theorem State.modMfe_sfs : (s.modMfe x f).sfs = s.sfs := rfl
@[simp] theorem State.modMfe_si : (s.modMfe x f).si = s.si := rfl
@[simp] theorem State.modMfe_sip : (s.modMfe x f).sip = s.sip := rfl
@[simp] theorem State.modMfe_tst : (s.modMfe x f).tst = s.tst := rfl
@[simp] theorem State.modMfe_so : (s.modMfe x f).so = s.so := rfl
@[simp] theorem State.modMfe_sc : (s.modMfe x f).sc = s.sc := rfl
@[simp] theorem State.modMfe_wft : (s.modMfe x f).wft = s.wft := rfl
@[simp] theorem State.modMfe_can : (s.modMfe x f).can = s.can := rfl
@[simp] theorem State.modMfe_thm : (s.modMfe x f).thm = s.thm := rfl
@[simp] theorem State.modMfe_timers : (s.modMfe x f).timers = s.timers := rfl
end

section
variable (s : State) (x : Fin 4) (f : Lane → Lane)
@[simp] theorem State.modLane_pending : (s.modLane x f).pending = s.pending := rfl
@[simp] theorem State.modLane_fresh : (s.modLane x f).fresh = s.fresh := rfl
@[simp] theorem State.modLane_weft : (s.modLane x f).weft = s.weft := rfl
@[simp] theorem State.modLane_regs : (s.modLane x f).regs = s.regs := rfl
@[simp] theorem State.modLane_params : (s.modLane x f).params = s.params := rfl
@[simp] theorem State.modLane_topology : (s.modLane x f).topology = s.topology := rfl
@[simp] theorem State.modLane_classW : (s.modLane x f).classW = s.classW := rfl
@[simp] theorem State.modLane_slots : (s.modLane x f).slots = s.slots := rfl
@[simp] theorem State.modLane_images : (s.modLane x f).images = s.images := rfl
@[simp] theorem State.modLane_sys : (s.modLane x f).sys = s.sys := rfl
@[simp] theorem State.modLane_jr : (s.modLane x f).jr = s.jr := rfl
@[simp] theorem State.modLane_con : (s.modLane x f).con = s.con := rfl
@[simp] theorem State.modLane_gc : (s.modLane x f).gc = s.gc := rfl
@[simp] theorem State.modLane_conflict : (s.modLane x f).conflict = s.conflict := rfl
@[simp] theorem State.modLane_shoot : (s.modLane x f).shoot = s.shoot := rfl
@[simp] theorem State.modLane_psp : (s.modLane x f).psp = s.psp := rfl
@[simp] theorem State.modLane_sfiSto : (s.modLane x f).sfiSto = s.sfiSto := rfl
@[simp] theorem State.modLane_sfiAsc : (s.modLane x f).sfiAsc = s.sfiAsc := rfl
@[simp] theorem State.modLane_cp : (s.modLane x f).cp = s.cp := rfl
@[simp] theorem State.modLane_hif : (s.modLane x f).hif = s.hif := rfl
@[simp] theorem State.modLane_sram : (s.modLane x f).sram = s.sram := rfl
@[simp] theorem State.modLane_pwm : (s.modLane x f).pwm = s.pwm := rfl
@[simp] theorem State.modLane_mfe : (s.modLane x f).mfe = s.mfe := rfl
@[simp] theorem State.modLane_railsUp : (s.modLane x f).railsUp = s.railsUp := rfl
@[simp] theorem State.modLane_pos : (s.modLane x f).pos = s.pos := rfl
@[simp] theorem State.modLane_spd : (s.modLane x f).spd = s.spd := rfl
@[simp] theorem State.modLane_lsh : (s.modLane x f).lsh = s.lsh := rfl
@[simp] theorem State.modLane_fb : (s.modLane x f).fb = s.fb := rfl
@[simp] theorem State.modLane_pt : (s.modLane x f).pt = s.pt := rfl
@[simp] theorem State.modLane_prg : (s.modLane x f).prg = s.prg := rfl
@[simp] theorem State.modLane_lim : (s.modLane x f).lim = s.lim := rfl
@[simp] theorem State.modLane_isl : (s.modLane x f).isl = s.isl := rfl
@[simp] theorem State.modLane_sfa : (s.modLane x f).sfa = s.sfa := rfl
@[simp] theorem State.modLane_sfs : (s.modLane x f).sfs = s.sfs := rfl
@[simp] theorem State.modLane_si : (s.modLane x f).si = s.si := rfl
@[simp] theorem State.modLane_sip : (s.modLane x f).sip = s.sip := rfl
@[simp] theorem State.modLane_tst : (s.modLane x f).tst = s.tst := rfl
@[simp] theorem State.modLane_so : (s.modLane x f).so = s.so := rfl
@[simp] theorem State.modLane_sc : (s.modLane x f).sc = s.sc := rfl
@[simp] theorem State.modLane_wft : (s.modLane x f).wft = s.wft := rfl
@[simp] theorem State.modLane_can : (s.modLane x f).can = s.can := rfl
@[simp] theorem State.modLane_thm : (s.modLane x f).thm = s.thm := rfl
@[simp] theorem State.modLane_timers : (s.modLane x f).timers = s.timers := rfl
end

section
variable (s : State) (x : Fin 4) (f : PosAx → PosAx)
@[simp] theorem State.modPos_pending : (s.modPos x f).pending = s.pending := rfl
@[simp] theorem State.modPos_fresh : (s.modPos x f).fresh = s.fresh := rfl
@[simp] theorem State.modPos_weft : (s.modPos x f).weft = s.weft := rfl
@[simp] theorem State.modPos_regs : (s.modPos x f).regs = s.regs := rfl
@[simp] theorem State.modPos_params : (s.modPos x f).params = s.params := rfl
@[simp] theorem State.modPos_topology : (s.modPos x f).topology = s.topology := rfl
@[simp] theorem State.modPos_classW : (s.modPos x f).classW = s.classW := rfl
@[simp] theorem State.modPos_slots : (s.modPos x f).slots = s.slots := rfl
@[simp] theorem State.modPos_images : (s.modPos x f).images = s.images := rfl
@[simp] theorem State.modPos_sys : (s.modPos x f).sys = s.sys := rfl
@[simp] theorem State.modPos_jr : (s.modPos x f).jr = s.jr := rfl
@[simp] theorem State.modPos_con : (s.modPos x f).con = s.con := rfl
@[simp] theorem State.modPos_gc : (s.modPos x f).gc = s.gc := rfl
@[simp] theorem State.modPos_conflict : (s.modPos x f).conflict = s.conflict := rfl
@[simp] theorem State.modPos_shoot : (s.modPos x f).shoot = s.shoot := rfl
@[simp] theorem State.modPos_psp : (s.modPos x f).psp = s.psp := rfl
@[simp] theorem State.modPos_sfiSto : (s.modPos x f).sfiSto = s.sfiSto := rfl
@[simp] theorem State.modPos_sfiAsc : (s.modPos x f).sfiAsc = s.sfiAsc := rfl
@[simp] theorem State.modPos_cp : (s.modPos x f).cp = s.cp := rfl
@[simp] theorem State.modPos_hif : (s.modPos x f).hif = s.hif := rfl
@[simp] theorem State.modPos_sram : (s.modPos x f).sram = s.sram := rfl
@[simp] theorem State.modPos_pwm : (s.modPos x f).pwm = s.pwm := rfl
@[simp] theorem State.modPos_mfe : (s.modPos x f).mfe = s.mfe := rfl
@[simp] theorem State.modPos_railsUp : (s.modPos x f).railsUp = s.railsUp := rfl
@[simp] theorem State.modPos_lane : (s.modPos x f).lane = s.lane := rfl
@[simp] theorem State.modPos_spd : (s.modPos x f).spd = s.spd := rfl
@[simp] theorem State.modPos_lsh : (s.modPos x f).lsh = s.lsh := rfl
@[simp] theorem State.modPos_fb : (s.modPos x f).fb = s.fb := rfl
@[simp] theorem State.modPos_pt : (s.modPos x f).pt = s.pt := rfl
@[simp] theorem State.modPos_prg : (s.modPos x f).prg = s.prg := rfl
@[simp] theorem State.modPos_lim : (s.modPos x f).lim = s.lim := rfl
@[simp] theorem State.modPos_isl : (s.modPos x f).isl = s.isl := rfl
@[simp] theorem State.modPos_sfa : (s.modPos x f).sfa = s.sfa := rfl
@[simp] theorem State.modPos_sfs : (s.modPos x f).sfs = s.sfs := rfl
@[simp] theorem State.modPos_si : (s.modPos x f).si = s.si := rfl
@[simp] theorem State.modPos_sip : (s.modPos x f).sip = s.sip := rfl
@[simp] theorem State.modPos_tst : (s.modPos x f).tst = s.tst := rfl
@[simp] theorem State.modPos_so : (s.modPos x f).so = s.so := rfl
@[simp] theorem State.modPos_sc : (s.modPos x f).sc = s.sc := rfl
@[simp] theorem State.modPos_wft : (s.modPos x f).wft = s.wft := rfl
@[simp] theorem State.modPos_can : (s.modPos x f).can = s.can := rfl
@[simp] theorem State.modPos_thm : (s.modPos x f).thm = s.thm := rfl
@[simp] theorem State.modPos_timers : (s.modPos x f).timers = s.timers := rfl
end

section
variable (s : State) (x : Fin 4) (f : SpdAx → SpdAx)
@[simp] theorem State.modSpd_pending : (s.modSpd x f).pending = s.pending := rfl
@[simp] theorem State.modSpd_fresh : (s.modSpd x f).fresh = s.fresh := rfl
@[simp] theorem State.modSpd_weft : (s.modSpd x f).weft = s.weft := rfl
@[simp] theorem State.modSpd_regs : (s.modSpd x f).regs = s.regs := rfl
@[simp] theorem State.modSpd_params : (s.modSpd x f).params = s.params := rfl
@[simp] theorem State.modSpd_topology : (s.modSpd x f).topology = s.topology := rfl
@[simp] theorem State.modSpd_classW : (s.modSpd x f).classW = s.classW := rfl
@[simp] theorem State.modSpd_slots : (s.modSpd x f).slots = s.slots := rfl
@[simp] theorem State.modSpd_images : (s.modSpd x f).images = s.images := rfl
@[simp] theorem State.modSpd_sys : (s.modSpd x f).sys = s.sys := rfl
@[simp] theorem State.modSpd_jr : (s.modSpd x f).jr = s.jr := rfl
@[simp] theorem State.modSpd_con : (s.modSpd x f).con = s.con := rfl
@[simp] theorem State.modSpd_gc : (s.modSpd x f).gc = s.gc := rfl
@[simp] theorem State.modSpd_conflict : (s.modSpd x f).conflict = s.conflict := rfl
@[simp] theorem State.modSpd_shoot : (s.modSpd x f).shoot = s.shoot := rfl
@[simp] theorem State.modSpd_psp : (s.modSpd x f).psp = s.psp := rfl
@[simp] theorem State.modSpd_sfiSto : (s.modSpd x f).sfiSto = s.sfiSto := rfl
@[simp] theorem State.modSpd_sfiAsc : (s.modSpd x f).sfiAsc = s.sfiAsc := rfl
@[simp] theorem State.modSpd_cp : (s.modSpd x f).cp = s.cp := rfl
@[simp] theorem State.modSpd_hif : (s.modSpd x f).hif = s.hif := rfl
@[simp] theorem State.modSpd_sram : (s.modSpd x f).sram = s.sram := rfl
@[simp] theorem State.modSpd_pwm : (s.modSpd x f).pwm = s.pwm := rfl
@[simp] theorem State.modSpd_mfe : (s.modSpd x f).mfe = s.mfe := rfl
@[simp] theorem State.modSpd_railsUp : (s.modSpd x f).railsUp = s.railsUp := rfl
@[simp] theorem State.modSpd_lane : (s.modSpd x f).lane = s.lane := rfl
@[simp] theorem State.modSpd_pos : (s.modSpd x f).pos = s.pos := rfl
@[simp] theorem State.modSpd_lsh : (s.modSpd x f).lsh = s.lsh := rfl
@[simp] theorem State.modSpd_fb : (s.modSpd x f).fb = s.fb := rfl
@[simp] theorem State.modSpd_pt : (s.modSpd x f).pt = s.pt := rfl
@[simp] theorem State.modSpd_prg : (s.modSpd x f).prg = s.prg := rfl
@[simp] theorem State.modSpd_lim : (s.modSpd x f).lim = s.lim := rfl
@[simp] theorem State.modSpd_isl : (s.modSpd x f).isl = s.isl := rfl
@[simp] theorem State.modSpd_sfa : (s.modSpd x f).sfa = s.sfa := rfl
@[simp] theorem State.modSpd_sfs : (s.modSpd x f).sfs = s.sfs := rfl
@[simp] theorem State.modSpd_si : (s.modSpd x f).si = s.si := rfl
@[simp] theorem State.modSpd_sip : (s.modSpd x f).sip = s.sip := rfl
@[simp] theorem State.modSpd_tst : (s.modSpd x f).tst = s.tst := rfl
@[simp] theorem State.modSpd_so : (s.modSpd x f).so = s.so := rfl
@[simp] theorem State.modSpd_sc : (s.modSpd x f).sc = s.sc := rfl
@[simp] theorem State.modSpd_wft : (s.modSpd x f).wft = s.wft := rfl
@[simp] theorem State.modSpd_can : (s.modSpd x f).can = s.can := rfl
@[simp] theorem State.modSpd_thm : (s.modSpd x f).thm = s.thm := rfl
@[simp] theorem State.modSpd_timers : (s.modSpd x f).timers = s.timers := rfl
end

section
variable (s : State) (x : Fin 28) (f : GateChan → GateChan)
@[simp] theorem State.modGc_pending : (s.modGc x f).pending = s.pending := rfl
@[simp] theorem State.modGc_fresh : (s.modGc x f).fresh = s.fresh := rfl
@[simp] theorem State.modGc_weft : (s.modGc x f).weft = s.weft := rfl
@[simp] theorem State.modGc_regs : (s.modGc x f).regs = s.regs := rfl
@[simp] theorem State.modGc_params : (s.modGc x f).params = s.params := rfl
@[simp] theorem State.modGc_topology : (s.modGc x f).topology = s.topology := rfl
@[simp] theorem State.modGc_classW : (s.modGc x f).classW = s.classW := rfl
@[simp] theorem State.modGc_slots : (s.modGc x f).slots = s.slots := rfl
@[simp] theorem State.modGc_images : (s.modGc x f).images = s.images := rfl
@[simp] theorem State.modGc_sys : (s.modGc x f).sys = s.sys := rfl
@[simp] theorem State.modGc_jr : (s.modGc x f).jr = s.jr := rfl
@[simp] theorem State.modGc_con : (s.modGc x f).con = s.con := rfl
@[simp] theorem State.modGc_conflict : (s.modGc x f).conflict = s.conflict := rfl
@[simp] theorem State.modGc_shoot : (s.modGc x f).shoot = s.shoot := rfl
@[simp] theorem State.modGc_psp : (s.modGc x f).psp = s.psp := rfl
@[simp] theorem State.modGc_sfiSto : (s.modGc x f).sfiSto = s.sfiSto := rfl
@[simp] theorem State.modGc_sfiAsc : (s.modGc x f).sfiAsc = s.sfiAsc := rfl
@[simp] theorem State.modGc_cp : (s.modGc x f).cp = s.cp := rfl
@[simp] theorem State.modGc_hif : (s.modGc x f).hif = s.hif := rfl
@[simp] theorem State.modGc_sram : (s.modGc x f).sram = s.sram := rfl
@[simp] theorem State.modGc_pwm : (s.modGc x f).pwm = s.pwm := rfl
@[simp] theorem State.modGc_mfe : (s.modGc x f).mfe = s.mfe := rfl
@[simp] theorem State.modGc_railsUp : (s.modGc x f).railsUp = s.railsUp := rfl
@[simp] theorem State.modGc_lane : (s.modGc x f).lane = s.lane := rfl
@[simp] theorem State.modGc_pos : (s.modGc x f).pos = s.pos := rfl
@[simp] theorem State.modGc_spd : (s.modGc x f).spd = s.spd := rfl
@[simp] theorem State.modGc_lsh : (s.modGc x f).lsh = s.lsh := rfl
@[simp] theorem State.modGc_fb : (s.modGc x f).fb = s.fb := rfl
@[simp] theorem State.modGc_pt : (s.modGc x f).pt = s.pt := rfl
@[simp] theorem State.modGc_prg : (s.modGc x f).prg = s.prg := rfl
@[simp] theorem State.modGc_lim : (s.modGc x f).lim = s.lim := rfl
@[simp] theorem State.modGc_isl : (s.modGc x f).isl = s.isl := rfl
@[simp] theorem State.modGc_sfa : (s.modGc x f).sfa = s.sfa := rfl
@[simp] theorem State.modGc_sfs : (s.modGc x f).sfs = s.sfs := rfl
@[simp] theorem State.modGc_si : (s.modGc x f).si = s.si := rfl
@[simp] theorem State.modGc_sip : (s.modGc x f).sip = s.sip := rfl
@[simp] theorem State.modGc_tst : (s.modGc x f).tst = s.tst := rfl
@[simp] theorem State.modGc_so : (s.modGc x f).so = s.so := rfl
@[simp] theorem State.modGc_sc : (s.modGc x f).sc = s.sc := rfl
@[simp] theorem State.modGc_wft : (s.modGc x f).wft = s.wft := rfl
@[simp] theorem State.modGc_can : (s.modGc x f).can = s.can := rfl
@[simp] theorem State.modGc_thm : (s.modGc x f).thm = s.thm := rfl
@[simp] theorem State.modGc_timers : (s.modGc x f).timers = s.timers := rfl
end

section
variable (s : State) (x : Fin 4) (f : PspSet → PspSet)
@[simp] theorem State.modPsp_pending : (s.modPsp x f).pending = s.pending := rfl
@[simp] theorem State.modPsp_fresh : (s.modPsp x f).fresh = s.fresh := rfl
@[simp] theorem State.modPsp_weft : (s.modPsp x f).weft = s.weft := rfl
@[simp] theorem State.modPsp_regs : (s.modPsp x f).regs = s.regs := rfl
@[simp] theorem State.modPsp_params : (s.modPsp x f).params = s.params := rfl
@[simp] theorem State.modPsp_topology : (s.modPsp x f).topology = s.topology := rfl
@[simp] theorem State.modPsp_classW : (s.modPsp x f).classW = s.classW := rfl
@[simp] theorem State.modPsp_slots : (s.modPsp x f).slots = s.slots := rfl
@[simp] theorem State.modPsp_images : (s.modPsp x f).images = s.images := rfl
@[simp] theorem State.modPsp_sys : (s.modPsp x f).sys = s.sys := rfl
@[simp] theorem State.modPsp_jr : (s.modPsp x f).jr = s.jr := rfl
@[simp] theorem State.modPsp_con : (s.modPsp x f).con = s.con := rfl
@[simp] theorem State.modPsp_gc : (s.modPsp x f).gc = s.gc := rfl
@[simp] theorem State.modPsp_conflict : (s.modPsp x f).conflict = s.conflict := rfl
@[simp] theorem State.modPsp_shoot : (s.modPsp x f).shoot = s.shoot := rfl
@[simp] theorem State.modPsp_sfiSto : (s.modPsp x f).sfiSto = s.sfiSto := rfl
@[simp] theorem State.modPsp_sfiAsc : (s.modPsp x f).sfiAsc = s.sfiAsc := rfl
@[simp] theorem State.modPsp_cp : (s.modPsp x f).cp = s.cp := rfl
@[simp] theorem State.modPsp_hif : (s.modPsp x f).hif = s.hif := rfl
@[simp] theorem State.modPsp_sram : (s.modPsp x f).sram = s.sram := rfl
@[simp] theorem State.modPsp_pwm : (s.modPsp x f).pwm = s.pwm := rfl
@[simp] theorem State.modPsp_mfe : (s.modPsp x f).mfe = s.mfe := rfl
@[simp] theorem State.modPsp_railsUp : (s.modPsp x f).railsUp = s.railsUp := rfl
@[simp] theorem State.modPsp_lane : (s.modPsp x f).lane = s.lane := rfl
@[simp] theorem State.modPsp_pos : (s.modPsp x f).pos = s.pos := rfl
@[simp] theorem State.modPsp_spd : (s.modPsp x f).spd = s.spd := rfl
@[simp] theorem State.modPsp_lsh : (s.modPsp x f).lsh = s.lsh := rfl
@[simp] theorem State.modPsp_fb : (s.modPsp x f).fb = s.fb := rfl
@[simp] theorem State.modPsp_pt : (s.modPsp x f).pt = s.pt := rfl
@[simp] theorem State.modPsp_prg : (s.modPsp x f).prg = s.prg := rfl
@[simp] theorem State.modPsp_lim : (s.modPsp x f).lim = s.lim := rfl
@[simp] theorem State.modPsp_isl : (s.modPsp x f).isl = s.isl := rfl
@[simp] theorem State.modPsp_sfa : (s.modPsp x f).sfa = s.sfa := rfl
@[simp] theorem State.modPsp_sfs : (s.modPsp x f).sfs = s.sfs := rfl
@[simp] theorem State.modPsp_si : (s.modPsp x f).si = s.si := rfl
@[simp] theorem State.modPsp_sip : (s.modPsp x f).sip = s.sip := rfl
@[simp] theorem State.modPsp_tst : (s.modPsp x f).tst = s.tst := rfl
@[simp] theorem State.modPsp_so : (s.modPsp x f).so = s.so := rfl
@[simp] theorem State.modPsp_sc : (s.modPsp x f).sc = s.sc := rfl
@[simp] theorem State.modPsp_wft : (s.modPsp x f).wft = s.wft := rfl
@[simp] theorem State.modPsp_can : (s.modPsp x f).can = s.can := rfl
@[simp] theorem State.modPsp_thm : (s.modPsp x f).thm = s.thm := rfl
@[simp] theorem State.modPsp_timers : (s.modPsp x f).timers = s.timers := rfl
end

section
variable (s : State) (x : Fin 8) (f : PrgCh → PrgCh)
@[simp] theorem State.modPrg_pending : (s.modPrg x f).pending = s.pending := rfl
@[simp] theorem State.modPrg_fresh : (s.modPrg x f).fresh = s.fresh := rfl
@[simp] theorem State.modPrg_weft : (s.modPrg x f).weft = s.weft := rfl
@[simp] theorem State.modPrg_regs : (s.modPrg x f).regs = s.regs := rfl
@[simp] theorem State.modPrg_params : (s.modPrg x f).params = s.params := rfl
@[simp] theorem State.modPrg_topology : (s.modPrg x f).topology = s.topology := rfl
@[simp] theorem State.modPrg_classW : (s.modPrg x f).classW = s.classW := rfl
@[simp] theorem State.modPrg_slots : (s.modPrg x f).slots = s.slots := rfl
@[simp] theorem State.modPrg_images : (s.modPrg x f).images = s.images := rfl
@[simp] theorem State.modPrg_sys : (s.modPrg x f).sys = s.sys := rfl
@[simp] theorem State.modPrg_jr : (s.modPrg x f).jr = s.jr := rfl
@[simp] theorem State.modPrg_con : (s.modPrg x f).con = s.con := rfl
@[simp] theorem State.modPrg_gc : (s.modPrg x f).gc = s.gc := rfl
@[simp] theorem State.modPrg_conflict : (s.modPrg x f).conflict = s.conflict := rfl
@[simp] theorem State.modPrg_shoot : (s.modPrg x f).shoot = s.shoot := rfl
@[simp] theorem State.modPrg_psp : (s.modPrg x f).psp = s.psp := rfl
@[simp] theorem State.modPrg_sfiSto : (s.modPrg x f).sfiSto = s.sfiSto := rfl
@[simp] theorem State.modPrg_sfiAsc : (s.modPrg x f).sfiAsc = s.sfiAsc := rfl
@[simp] theorem State.modPrg_cp : (s.modPrg x f).cp = s.cp := rfl
@[simp] theorem State.modPrg_hif : (s.modPrg x f).hif = s.hif := rfl
@[simp] theorem State.modPrg_sram : (s.modPrg x f).sram = s.sram := rfl
@[simp] theorem State.modPrg_pwm : (s.modPrg x f).pwm = s.pwm := rfl
@[simp] theorem State.modPrg_mfe : (s.modPrg x f).mfe = s.mfe := rfl
@[simp] theorem State.modPrg_railsUp : (s.modPrg x f).railsUp = s.railsUp := rfl
@[simp] theorem State.modPrg_lane : (s.modPrg x f).lane = s.lane := rfl
@[simp] theorem State.modPrg_pos : (s.modPrg x f).pos = s.pos := rfl
@[simp] theorem State.modPrg_spd : (s.modPrg x f).spd = s.spd := rfl
@[simp] theorem State.modPrg_lsh : (s.modPrg x f).lsh = s.lsh := rfl
@[simp] theorem State.modPrg_fb : (s.modPrg x f).fb = s.fb := rfl
@[simp] theorem State.modPrg_pt : (s.modPrg x f).pt = s.pt := rfl
@[simp] theorem State.modPrg_lim : (s.modPrg x f).lim = s.lim := rfl
@[simp] theorem State.modPrg_isl : (s.modPrg x f).isl = s.isl := rfl
@[simp] theorem State.modPrg_sfa : (s.modPrg x f).sfa = s.sfa := rfl
@[simp] theorem State.modPrg_sfs : (s.modPrg x f).sfs = s.sfs := rfl
@[simp] theorem State.modPrg_si : (s.modPrg x f).si = s.si := rfl
@[simp] theorem State.modPrg_sip : (s.modPrg x f).sip = s.sip := rfl
@[simp] theorem State.modPrg_tst : (s.modPrg x f).tst = s.tst := rfl
@[simp] theorem State.modPrg_so : (s.modPrg x f).so = s.so := rfl
@[simp] theorem State.modPrg_sc : (s.modPrg x f).sc = s.sc := rfl
@[simp] theorem State.modPrg_wft : (s.modPrg x f).wft = s.wft := rfl
@[simp] theorem State.modPrg_can : (s.modPrg x f).can = s.can := rfl
@[simp] theorem State.modPrg_thm : (s.modPrg x f).thm = s.thm := rfl
@[simp] theorem State.modPrg_timers : (s.modPrg x f).timers = s.timers := rfl
end

section
variable (s : State) (x : Fin 4) (f : SfAxis → SfAxis)
@[simp] theorem State.modSfa_pending : (s.modSfa x f).pending = s.pending := rfl
@[simp] theorem State.modSfa_fresh : (s.modSfa x f).fresh = s.fresh := rfl
@[simp] theorem State.modSfa_weft : (s.modSfa x f).weft = s.weft := rfl
@[simp] theorem State.modSfa_regs : (s.modSfa x f).regs = s.regs := rfl
@[simp] theorem State.modSfa_params : (s.modSfa x f).params = s.params := rfl
@[simp] theorem State.modSfa_topology : (s.modSfa x f).topology = s.topology := rfl
@[simp] theorem State.modSfa_classW : (s.modSfa x f).classW = s.classW := rfl
@[simp] theorem State.modSfa_slots : (s.modSfa x f).slots = s.slots := rfl
@[simp] theorem State.modSfa_images : (s.modSfa x f).images = s.images := rfl
@[simp] theorem State.modSfa_sys : (s.modSfa x f).sys = s.sys := rfl
@[simp] theorem State.modSfa_jr : (s.modSfa x f).jr = s.jr := rfl
@[simp] theorem State.modSfa_con : (s.modSfa x f).con = s.con := rfl
@[simp] theorem State.modSfa_gc : (s.modSfa x f).gc = s.gc := rfl
@[simp] theorem State.modSfa_conflict : (s.modSfa x f).conflict = s.conflict := rfl
@[simp] theorem State.modSfa_shoot : (s.modSfa x f).shoot = s.shoot := rfl
@[simp] theorem State.modSfa_psp : (s.modSfa x f).psp = s.psp := rfl
@[simp] theorem State.modSfa_sfiSto : (s.modSfa x f).sfiSto = s.sfiSto := rfl
@[simp] theorem State.modSfa_sfiAsc : (s.modSfa x f).sfiAsc = s.sfiAsc := rfl
@[simp] theorem State.modSfa_cp : (s.modSfa x f).cp = s.cp := rfl
@[simp] theorem State.modSfa_hif : (s.modSfa x f).hif = s.hif := rfl
@[simp] theorem State.modSfa_sram : (s.modSfa x f).sram = s.sram := rfl
@[simp] theorem State.modSfa_pwm : (s.modSfa x f).pwm = s.pwm := rfl
@[simp] theorem State.modSfa_mfe : (s.modSfa x f).mfe = s.mfe := rfl
@[simp] theorem State.modSfa_railsUp : (s.modSfa x f).railsUp = s.railsUp := rfl
@[simp] theorem State.modSfa_lane : (s.modSfa x f).lane = s.lane := rfl
@[simp] theorem State.modSfa_pos : (s.modSfa x f).pos = s.pos := rfl
@[simp] theorem State.modSfa_spd : (s.modSfa x f).spd = s.spd := rfl
@[simp] theorem State.modSfa_lsh : (s.modSfa x f).lsh = s.lsh := rfl
@[simp] theorem State.modSfa_fb : (s.modSfa x f).fb = s.fb := rfl
@[simp] theorem State.modSfa_pt : (s.modSfa x f).pt = s.pt := rfl
@[simp] theorem State.modSfa_prg : (s.modSfa x f).prg = s.prg := rfl
@[simp] theorem State.modSfa_lim : (s.modSfa x f).lim = s.lim := rfl
@[simp] theorem State.modSfa_isl : (s.modSfa x f).isl = s.isl := rfl
@[simp] theorem State.modSfa_sfs : (s.modSfa x f).sfs = s.sfs := rfl
@[simp] theorem State.modSfa_si : (s.modSfa x f).si = s.si := rfl
@[simp] theorem State.modSfa_sip : (s.modSfa x f).sip = s.sip := rfl
@[simp] theorem State.modSfa_tst : (s.modSfa x f).tst = s.tst := rfl
@[simp] theorem State.modSfa_so : (s.modSfa x f).so = s.so := rfl
@[simp] theorem State.modSfa_sc : (s.modSfa x f).sc = s.sc := rfl
@[simp] theorem State.modSfa_wft : (s.modSfa x f).wft = s.wft := rfl
@[simp] theorem State.modSfa_can : (s.modSfa x f).can = s.can := rfl
@[simp] theorem State.modSfa_thm : (s.modSfa x f).thm = s.thm := rfl
@[simp] theorem State.modSfa_timers : (s.modSfa x f).timers = s.timers := rfl
end

section
variable (s : State) (x : Fin 16) (f : SfIn → SfIn)
@[simp] theorem State.modSi_pending : (s.modSi x f).pending = s.pending := rfl
@[simp] theorem State.modSi_fresh : (s.modSi x f).fresh = s.fresh := rfl
@[simp] theorem State.modSi_weft : (s.modSi x f).weft = s.weft := rfl
@[simp] theorem State.modSi_regs : (s.modSi x f).regs = s.regs := rfl
@[simp] theorem State.modSi_params : (s.modSi x f).params = s.params := rfl
@[simp] theorem State.modSi_topology : (s.modSi x f).topology = s.topology := rfl
@[simp] theorem State.modSi_classW : (s.modSi x f).classW = s.classW := rfl
@[simp] theorem State.modSi_slots : (s.modSi x f).slots = s.slots := rfl
@[simp] theorem State.modSi_images : (s.modSi x f).images = s.images := rfl
@[simp] theorem State.modSi_sys : (s.modSi x f).sys = s.sys := rfl
@[simp] theorem State.modSi_jr : (s.modSi x f).jr = s.jr := rfl
@[simp] theorem State.modSi_con : (s.modSi x f).con = s.con := rfl
@[simp] theorem State.modSi_gc : (s.modSi x f).gc = s.gc := rfl
@[simp] theorem State.modSi_conflict : (s.modSi x f).conflict = s.conflict := rfl
@[simp] theorem State.modSi_shoot : (s.modSi x f).shoot = s.shoot := rfl
@[simp] theorem State.modSi_psp : (s.modSi x f).psp = s.psp := rfl
@[simp] theorem State.modSi_sfiSto : (s.modSi x f).sfiSto = s.sfiSto := rfl
@[simp] theorem State.modSi_sfiAsc : (s.modSi x f).sfiAsc = s.sfiAsc := rfl
@[simp] theorem State.modSi_cp : (s.modSi x f).cp = s.cp := rfl
@[simp] theorem State.modSi_hif : (s.modSi x f).hif = s.hif := rfl
@[simp] theorem State.modSi_sram : (s.modSi x f).sram = s.sram := rfl
@[simp] theorem State.modSi_pwm : (s.modSi x f).pwm = s.pwm := rfl
@[simp] theorem State.modSi_mfe : (s.modSi x f).mfe = s.mfe := rfl
@[simp] theorem State.modSi_railsUp : (s.modSi x f).railsUp = s.railsUp := rfl
@[simp] theorem State.modSi_lane : (s.modSi x f).lane = s.lane := rfl
@[simp] theorem State.modSi_pos : (s.modSi x f).pos = s.pos := rfl
@[simp] theorem State.modSi_spd : (s.modSi x f).spd = s.spd := rfl
@[simp] theorem State.modSi_lsh : (s.modSi x f).lsh = s.lsh := rfl
@[simp] theorem State.modSi_fb : (s.modSi x f).fb = s.fb := rfl
@[simp] theorem State.modSi_pt : (s.modSi x f).pt = s.pt := rfl
@[simp] theorem State.modSi_prg : (s.modSi x f).prg = s.prg := rfl
@[simp] theorem State.modSi_lim : (s.modSi x f).lim = s.lim := rfl
@[simp] theorem State.modSi_isl : (s.modSi x f).isl = s.isl := rfl
@[simp] theorem State.modSi_sfa : (s.modSi x f).sfa = s.sfa := rfl
@[simp] theorem State.modSi_sfs : (s.modSi x f).sfs = s.sfs := rfl
@[simp] theorem State.modSi_sip : (s.modSi x f).sip = s.sip := rfl
@[simp] theorem State.modSi_tst : (s.modSi x f).tst = s.tst := rfl
@[simp] theorem State.modSi_so : (s.modSi x f).so = s.so := rfl
@[simp] theorem State.modSi_sc : (s.modSi x f).sc = s.sc := rfl
@[simp] theorem State.modSi_wft : (s.modSi x f).wft = s.wft := rfl
@[simp] theorem State.modSi_can : (s.modSi x f).can = s.can := rfl
@[simp] theorem State.modSi_thm : (s.modSi x f).thm = s.thm := rfl
@[simp] theorem State.modSi_timers : (s.modSi x f).timers = s.timers := rfl
end

section
variable (s : State) (x : Fin 32) (f : Conn → Conn)
@[simp] theorem State.modSc_pending : (s.modSc x f).pending = s.pending := rfl
@[simp] theorem State.modSc_fresh : (s.modSc x f).fresh = s.fresh := rfl
@[simp] theorem State.modSc_weft : (s.modSc x f).weft = s.weft := rfl
@[simp] theorem State.modSc_regs : (s.modSc x f).regs = s.regs := rfl
@[simp] theorem State.modSc_params : (s.modSc x f).params = s.params := rfl
@[simp] theorem State.modSc_topology : (s.modSc x f).topology = s.topology := rfl
@[simp] theorem State.modSc_classW : (s.modSc x f).classW = s.classW := rfl
@[simp] theorem State.modSc_slots : (s.modSc x f).slots = s.slots := rfl
@[simp] theorem State.modSc_images : (s.modSc x f).images = s.images := rfl
@[simp] theorem State.modSc_sys : (s.modSc x f).sys = s.sys := rfl
@[simp] theorem State.modSc_jr : (s.modSc x f).jr = s.jr := rfl
@[simp] theorem State.modSc_con : (s.modSc x f).con = s.con := rfl
@[simp] theorem State.modSc_gc : (s.modSc x f).gc = s.gc := rfl
@[simp] theorem State.modSc_conflict : (s.modSc x f).conflict = s.conflict := rfl
@[simp] theorem State.modSc_shoot : (s.modSc x f).shoot = s.shoot := rfl
@[simp] theorem State.modSc_psp : (s.modSc x f).psp = s.psp := rfl
@[simp] theorem State.modSc_sfiSto : (s.modSc x f).sfiSto = s.sfiSto := rfl
@[simp] theorem State.modSc_sfiAsc : (s.modSc x f).sfiAsc = s.sfiAsc := rfl
@[simp] theorem State.modSc_cp : (s.modSc x f).cp = s.cp := rfl
@[simp] theorem State.modSc_hif : (s.modSc x f).hif = s.hif := rfl
@[simp] theorem State.modSc_sram : (s.modSc x f).sram = s.sram := rfl
@[simp] theorem State.modSc_pwm : (s.modSc x f).pwm = s.pwm := rfl
@[simp] theorem State.modSc_mfe : (s.modSc x f).mfe = s.mfe := rfl
@[simp] theorem State.modSc_railsUp : (s.modSc x f).railsUp = s.railsUp := rfl
@[simp] theorem State.modSc_lane : (s.modSc x f).lane = s.lane := rfl
@[simp] theorem State.modSc_pos : (s.modSc x f).pos = s.pos := rfl
@[simp] theorem State.modSc_spd : (s.modSc x f).spd = s.spd := rfl
@[simp] theorem State.modSc_lsh : (s.modSc x f).lsh = s.lsh := rfl
@[simp] theorem State.modSc_fb : (s.modSc x f).fb = s.fb := rfl
@[simp] theorem State.modSc_pt : (s.modSc x f).pt = s.pt := rfl
@[simp] theorem State.modSc_prg : (s.modSc x f).prg = s.prg := rfl
@[simp] theorem State.modSc_lim : (s.modSc x f).lim = s.lim := rfl
@[simp] theorem State.modSc_isl : (s.modSc x f).isl = s.isl := rfl
@[simp] theorem State.modSc_sfa : (s.modSc x f).sfa = s.sfa := rfl
@[simp] theorem State.modSc_sfs : (s.modSc x f).sfs = s.sfs := rfl
@[simp] theorem State.modSc_si : (s.modSc x f).si = s.si := rfl
@[simp] theorem State.modSc_sip : (s.modSc x f).sip = s.sip := rfl
@[simp] theorem State.modSc_tst : (s.modSc x f).tst = s.tst := rfl
@[simp] theorem State.modSc_so : (s.modSc x f).so = s.so := rfl
@[simp] theorem State.modSc_wft : (s.modSc x f).wft = s.wft := rfl
@[simp] theorem State.modSc_can : (s.modSc x f).can = s.can := rfl
@[simp] theorem State.modSc_thm : (s.modSc x f).thm = s.thm := rfl
@[simp] theorem State.modSc_timers : (s.modSc x f).timers = s.timers := rfl
end

section
variable (s : State) (x : Fin 4) (f : CorePair → CorePair)
@[simp] theorem State.modCp_pending : (s.modCp x f).pending = s.pending := rfl
@[simp] theorem State.modCp_fresh : (s.modCp x f).fresh = s.fresh := rfl
@[simp] theorem State.modCp_weft : (s.modCp x f).weft = s.weft := rfl
@[simp] theorem State.modCp_regs : (s.modCp x f).regs = s.regs := rfl
@[simp] theorem State.modCp_params : (s.modCp x f).params = s.params := rfl
@[simp] theorem State.modCp_topology : (s.modCp x f).topology = s.topology := rfl
@[simp] theorem State.modCp_classW : (s.modCp x f).classW = s.classW := rfl
@[simp] theorem State.modCp_slots : (s.modCp x f).slots = s.slots := rfl
@[simp] theorem State.modCp_images : (s.modCp x f).images = s.images := rfl
@[simp] theorem State.modCp_sys : (s.modCp x f).sys = s.sys := rfl
@[simp] theorem State.modCp_jr : (s.modCp x f).jr = s.jr := rfl
@[simp] theorem State.modCp_con : (s.modCp x f).con = s.con := rfl
@[simp] theorem State.modCp_gc : (s.modCp x f).gc = s.gc := rfl
@[simp] theorem State.modCp_conflict : (s.modCp x f).conflict = s.conflict := rfl
@[simp] theorem State.modCp_shoot : (s.modCp x f).shoot = s.shoot := rfl
@[simp] theorem State.modCp_psp : (s.modCp x f).psp = s.psp := rfl
@[simp] theorem State.modCp_sfiSto : (s.modCp x f).sfiSto = s.sfiSto := rfl
@[simp] theorem State.modCp_sfiAsc : (s.modCp x f).sfiAsc = s.sfiAsc := rfl
@[simp] theorem State.modCp_hif : (s.modCp x f).hif = s.hif := rfl
@[simp] theorem State.modCp_sram : (s.modCp x f).sram = s.sram := rfl
@[simp] theorem State.modCp_pwm : (s.modCp x f).pwm = s.pwm := rfl
@[simp] theorem State.modCp_mfe : (s.modCp x f).mfe = s.mfe := rfl
@[simp] theorem State.modCp_railsUp : (s.modCp x f).railsUp = s.railsUp := rfl
@[simp] theorem State.modCp_lane : (s.modCp x f).lane = s.lane := rfl
@[simp] theorem State.modCp_pos : (s.modCp x f).pos = s.pos := rfl
@[simp] theorem State.modCp_spd : (s.modCp x f).spd = s.spd := rfl
@[simp] theorem State.modCp_lsh : (s.modCp x f).lsh = s.lsh := rfl
@[simp] theorem State.modCp_fb : (s.modCp x f).fb = s.fb := rfl
@[simp] theorem State.modCp_pt : (s.modCp x f).pt = s.pt := rfl
@[simp] theorem State.modCp_prg : (s.modCp x f).prg = s.prg := rfl
@[simp] theorem State.modCp_lim : (s.modCp x f).lim = s.lim := rfl
@[simp] theorem State.modCp_isl : (s.modCp x f).isl = s.isl := rfl
@[simp] theorem State.modCp_sfa : (s.modCp x f).sfa = s.sfa := rfl
@[simp] theorem State.modCp_sfs : (s.modCp x f).sfs = s.sfs := rfl
@[simp] theorem State.modCp_si : (s.modCp x f).si = s.si := rfl
@[simp] theorem State.modCp_sip : (s.modCp x f).sip = s.sip := rfl
@[simp] theorem State.modCp_tst : (s.modCp x f).tst = s.tst := rfl
@[simp] theorem State.modCp_so : (s.modCp x f).so = s.so := rfl
@[simp] theorem State.modCp_sc : (s.modCp x f).sc = s.sc := rfl
@[simp] theorem State.modCp_wft : (s.modCp x f).wft = s.wft := rfl
@[simp] theorem State.modCp_can : (s.modCp x f).can = s.can := rfl
@[simp] theorem State.modCp_thm : (s.modCp x f).thm = s.thm := rfl
@[simp] theorem State.modCp_timers : (s.modCp x f).timers = s.timers := rfl
end

section
variable (s : State) (x : Fin 4) (f : FbPort → FbPort)
@[simp] theorem State.modFb_pending : (s.modFb x f).pending = s.pending := rfl
@[simp] theorem State.modFb_fresh : (s.modFb x f).fresh = s.fresh := rfl
@[simp] theorem State.modFb_weft : (s.modFb x f).weft = s.weft := rfl
@[simp] theorem State.modFb_regs : (s.modFb x f).regs = s.regs := rfl
@[simp] theorem State.modFb_params : (s.modFb x f).params = s.params := rfl
@[simp] theorem State.modFb_topology : (s.modFb x f).topology = s.topology := rfl
@[simp] theorem State.modFb_classW : (s.modFb x f).classW = s.classW := rfl
@[simp] theorem State.modFb_slots : (s.modFb x f).slots = s.slots := rfl
@[simp] theorem State.modFb_images : (s.modFb x f).images = s.images := rfl
@[simp] theorem State.modFb_sys : (s.modFb x f).sys = s.sys := rfl
@[simp] theorem State.modFb_jr : (s.modFb x f).jr = s.jr := rfl
@[simp] theorem State.modFb_con : (s.modFb x f).con = s.con := rfl
@[simp] theorem State.modFb_gc : (s.modFb x f).gc = s.gc := rfl
@[simp] theorem State.modFb_conflict : (s.modFb x f).conflict = s.conflict := rfl
@[simp] theorem State.modFb_shoot : (s.modFb x f).shoot = s.shoot := rfl
@[simp] theorem State.modFb_psp : (s.modFb x f).psp = s.psp := rfl
@[simp] theorem State.modFb_sfiSto : (s.modFb x f).sfiSto = s.sfiSto := rfl
@[simp] theorem State.modFb_sfiAsc : (s.modFb x f).sfiAsc = s.sfiAsc := rfl
@[simp] theorem State.modFb_cp : (s.modFb x f).cp = s.cp := rfl
@[simp] theorem State.modFb_hif : (s.modFb x f).hif = s.hif := rfl
@[simp] theorem State.modFb_sram : (s.modFb x f).sram = s.sram := rfl
@[simp] theorem State.modFb_pwm : (s.modFb x f).pwm = s.pwm := rfl
@[simp] theorem State.modFb_mfe : (s.modFb x f).mfe = s.mfe := rfl
@[simp] theorem State.modFb_railsUp : (s.modFb x f).railsUp = s.railsUp := rfl
@[simp] theorem State.modFb_lane : (s.modFb x f).lane = s.lane := rfl
@[simp] theorem State.modFb_pos : (s.modFb x f).pos = s.pos := rfl
@[simp] theorem State.modFb_spd : (s.modFb x f).spd = s.spd := rfl
@[simp] theorem State.modFb_lsh : (s.modFb x f).lsh = s.lsh := rfl
@[simp] theorem State.modFb_pt : (s.modFb x f).pt = s.pt := rfl
@[simp] theorem State.modFb_prg : (s.modFb x f).prg = s.prg := rfl
@[simp] theorem State.modFb_lim : (s.modFb x f).lim = s.lim := rfl
@[simp] theorem State.modFb_isl : (s.modFb x f).isl = s.isl := rfl
@[simp] theorem State.modFb_sfa : (s.modFb x f).sfa = s.sfa := rfl
@[simp] theorem State.modFb_sfs : (s.modFb x f).sfs = s.sfs := rfl
@[simp] theorem State.modFb_si : (s.modFb x f).si = s.si := rfl
@[simp] theorem State.modFb_sip : (s.modFb x f).sip = s.sip := rfl
@[simp] theorem State.modFb_tst : (s.modFb x f).tst = s.tst := rfl
@[simp] theorem State.modFb_so : (s.modFb x f).so = s.so := rfl
@[simp] theorem State.modFb_sc : (s.modFb x f).sc = s.sc := rfl
@[simp] theorem State.modFb_wft : (s.modFb x f).wft = s.wft := rfl
@[simp] theorem State.modFb_can : (s.modFb x f).can = s.can := rfl
@[simp] theorem State.modFb_thm : (s.modFb x f).thm = s.thm := rfl
@[simp] theorem State.modFb_timers : (s.modFb x f).timers = s.timers := rfl
end

section
variable (s : State) (x : Fin 4) (f : LshAx → LshAx)
@[simp] theorem State.modLsh_pending : (s.modLsh x f).pending = s.pending := rfl
@[simp] theorem State.modLsh_fresh : (s.modLsh x f).fresh = s.fresh := rfl
@[simp] theorem State.modLsh_weft : (s.modLsh x f).weft = s.weft := rfl
@[simp] theorem State.modLsh_regs : (s.modLsh x f).regs = s.regs := rfl
@[simp] theorem State.modLsh_params : (s.modLsh x f).params = s.params := rfl
@[simp] theorem State.modLsh_topology : (s.modLsh x f).topology = s.topology := rfl
@[simp] theorem State.modLsh_classW : (s.modLsh x f).classW = s.classW := rfl
@[simp] theorem State.modLsh_slots : (s.modLsh x f).slots = s.slots := rfl
@[simp] theorem State.modLsh_images : (s.modLsh x f).images = s.images := rfl
@[simp] theorem State.modLsh_sys : (s.modLsh x f).sys = s.sys := rfl
@[simp] theorem State.modLsh_jr : (s.modLsh x f).jr = s.jr := rfl
@[simp] theorem State.modLsh_con : (s.modLsh x f).con = s.con := rfl
@[simp] theorem State.modLsh_gc : (s.modLsh x f).gc = s.gc := rfl
@[simp] theorem State.modLsh_conflict : (s.modLsh x f).conflict = s.conflict := rfl
@[simp] theorem State.modLsh_shoot : (s.modLsh x f).shoot = s.shoot := rfl
@[simp] theorem State.modLsh_psp : (s.modLsh x f).psp = s.psp := rfl
@[simp] theorem State.modLsh_sfiSto : (s.modLsh x f).sfiSto = s.sfiSto := rfl
@[simp] theorem State.modLsh_sfiAsc : (s.modLsh x f).sfiAsc = s.sfiAsc := rfl
@[simp] theorem State.modLsh_cp : (s.modLsh x f).cp = s.cp := rfl
@[simp] theorem State.modLsh_hif : (s.modLsh x f).hif = s.hif := rfl
@[simp] theorem State.modLsh_sram : (s.modLsh x f).sram = s.sram := rfl
@[simp] theorem State.modLsh_pwm : (s.modLsh x f).pwm = s.pwm := rfl
@[simp] theorem State.modLsh_mfe : (s.modLsh x f).mfe = s.mfe := rfl
@[simp] theorem State.modLsh_railsUp : (s.modLsh x f).railsUp = s.railsUp := rfl
@[simp] theorem State.modLsh_lane : (s.modLsh x f).lane = s.lane := rfl
@[simp] theorem State.modLsh_pos : (s.modLsh x f).pos = s.pos := rfl
@[simp] theorem State.modLsh_spd : (s.modLsh x f).spd = s.spd := rfl
@[simp] theorem State.modLsh_fb : (s.modLsh x f).fb = s.fb := rfl
@[simp] theorem State.modLsh_pt : (s.modLsh x f).pt = s.pt := rfl
@[simp] theorem State.modLsh_prg : (s.modLsh x f).prg = s.prg := rfl
@[simp] theorem State.modLsh_lim : (s.modLsh x f).lim = s.lim := rfl
@[simp] theorem State.modLsh_isl : (s.modLsh x f).isl = s.isl := rfl
@[simp] theorem State.modLsh_sfa : (s.modLsh x f).sfa = s.sfa := rfl
@[simp] theorem State.modLsh_sfs : (s.modLsh x f).sfs = s.sfs := rfl
@[simp] theorem State.modLsh_si : (s.modLsh x f).si = s.si := rfl
@[simp] theorem State.modLsh_sip : (s.modLsh x f).sip = s.sip := rfl
@[simp] theorem State.modLsh_tst : (s.modLsh x f).tst = s.tst := rfl
@[simp] theorem State.modLsh_so : (s.modLsh x f).so = s.so := rfl
@[simp] theorem State.modLsh_sc : (s.modLsh x f).sc = s.sc := rfl
@[simp] theorem State.modLsh_wft : (s.modLsh x f).wft = s.wft := rfl
@[simp] theorem State.modLsh_can : (s.modLsh x f).can = s.can := rfl
@[simp] theorem State.modLsh_thm : (s.modLsh x f).thm = s.thm := rfl
@[simp] theorem State.modLsh_timers : (s.modLsh x f).timers = s.timers := rfl
end

section
variable (s : State) (x : Fin 4) (f : CanCtl → CanCtl)
@[simp] theorem State.modCan_pending : (s.modCan x f).pending = s.pending := rfl
@[simp] theorem State.modCan_fresh : (s.modCan x f).fresh = s.fresh := rfl
@[simp] theorem State.modCan_weft : (s.modCan x f).weft = s.weft := rfl
@[simp] theorem State.modCan_regs : (s.modCan x f).regs = s.regs := rfl
@[simp] theorem State.modCan_params : (s.modCan x f).params = s.params := rfl
@[simp] theorem State.modCan_topology : (s.modCan x f).topology = s.topology := rfl
@[simp] theorem State.modCan_classW : (s.modCan x f).classW = s.classW := rfl
@[simp] theorem State.modCan_slots : (s.modCan x f).slots = s.slots := rfl
@[simp] theorem State.modCan_images : (s.modCan x f).images = s.images := rfl
@[simp] theorem State.modCan_sys : (s.modCan x f).sys = s.sys := rfl
@[simp] theorem State.modCan_jr : (s.modCan x f).jr = s.jr := rfl
@[simp] theorem State.modCan_con : (s.modCan x f).con = s.con := rfl
@[simp] theorem State.modCan_gc : (s.modCan x f).gc = s.gc := rfl
@[simp] theorem State.modCan_conflict : (s.modCan x f).conflict = s.conflict := rfl
@[simp] theorem State.modCan_shoot : (s.modCan x f).shoot = s.shoot := rfl
@[simp] theorem State.modCan_psp : (s.modCan x f).psp = s.psp := rfl
@[simp] theorem State.modCan_sfiSto : (s.modCan x f).sfiSto = s.sfiSto := rfl
@[simp] theorem State.modCan_sfiAsc : (s.modCan x f).sfiAsc = s.sfiAsc := rfl
@[simp] theorem State.modCan_cp : (s.modCan x f).cp = s.cp := rfl
@[simp] theorem State.modCan_hif : (s.modCan x f).hif = s.hif := rfl
@[simp] theorem State.modCan_sram : (s.modCan x f).sram = s.sram := rfl
@[simp] theorem State.modCan_pwm : (s.modCan x f).pwm = s.pwm := rfl
@[simp] theorem State.modCan_mfe : (s.modCan x f).mfe = s.mfe := rfl
@[simp] theorem State.modCan_railsUp : (s.modCan x f).railsUp = s.railsUp := rfl
@[simp] theorem State.modCan_lane : (s.modCan x f).lane = s.lane := rfl
@[simp] theorem State.modCan_pos : (s.modCan x f).pos = s.pos := rfl
@[simp] theorem State.modCan_spd : (s.modCan x f).spd = s.spd := rfl
@[simp] theorem State.modCan_lsh : (s.modCan x f).lsh = s.lsh := rfl
@[simp] theorem State.modCan_fb : (s.modCan x f).fb = s.fb := rfl
@[simp] theorem State.modCan_pt : (s.modCan x f).pt = s.pt := rfl
@[simp] theorem State.modCan_prg : (s.modCan x f).prg = s.prg := rfl
@[simp] theorem State.modCan_lim : (s.modCan x f).lim = s.lim := rfl
@[simp] theorem State.modCan_isl : (s.modCan x f).isl = s.isl := rfl
@[simp] theorem State.modCan_sfa : (s.modCan x f).sfa = s.sfa := rfl
@[simp] theorem State.modCan_sfs : (s.modCan x f).sfs = s.sfs := rfl
@[simp] theorem State.modCan_si : (s.modCan x f).si = s.si := rfl
@[simp] theorem State.modCan_sip : (s.modCan x f).sip = s.sip := rfl
@[simp] theorem State.modCan_tst : (s.modCan x f).tst = s.tst := rfl
@[simp] theorem State.modCan_so : (s.modCan x f).so = s.so := rfl
@[simp] theorem State.modCan_sc : (s.modCan x f).sc = s.sc := rfl
@[simp] theorem State.modCan_wft : (s.modCan x f).wft = s.wft := rfl
@[simp] theorem State.modCan_thm : (s.modCan x f).thm = s.thm := rfl
@[simp] theorem State.modCan_timers : (s.modCan x f).timers = s.timers := rfl
end

section
variable (s : State) (x : Fin 16) (f : CplRing → CplRing)
@[simp] theorem State.modCq_pending : (s.modCq x f).pending = s.pending := rfl
@[simp] theorem State.modCq_fresh : (s.modCq x f).fresh = s.fresh := rfl
@[simp] theorem State.modCq_weft : (s.modCq x f).weft = s.weft := rfl
@[simp] theorem State.modCq_regs : (s.modCq x f).regs = s.regs := rfl
@[simp] theorem State.modCq_params : (s.modCq x f).params = s.params := rfl
@[simp] theorem State.modCq_topology : (s.modCq x f).topology = s.topology := rfl
@[simp] theorem State.modCq_classW : (s.modCq x f).classW = s.classW := rfl
@[simp] theorem State.modCq_slots : (s.modCq x f).slots = s.slots := rfl
@[simp] theorem State.modCq_images : (s.modCq x f).images = s.images := rfl
@[simp] theorem State.modCq_sys : (s.modCq x f).sys = s.sys := rfl
@[simp] theorem State.modCq_jr : (s.modCq x f).jr = s.jr := rfl
@[simp] theorem State.modCq_con : (s.modCq x f).con = s.con := rfl
@[simp] theorem State.modCq_gc : (s.modCq x f).gc = s.gc := rfl
@[simp] theorem State.modCq_conflict : (s.modCq x f).conflict = s.conflict := rfl
@[simp] theorem State.modCq_shoot : (s.modCq x f).shoot = s.shoot := rfl
@[simp] theorem State.modCq_psp : (s.modCq x f).psp = s.psp := rfl
@[simp] theorem State.modCq_sfiSto : (s.modCq x f).sfiSto = s.sfiSto := rfl
@[simp] theorem State.modCq_sfiAsc : (s.modCq x f).sfiAsc = s.sfiAsc := rfl
@[simp] theorem State.modCq_cp : (s.modCq x f).cp = s.cp := rfl
@[simp] theorem State.modCq_sram : (s.modCq x f).sram = s.sram := rfl
@[simp] theorem State.modCq_pwm : (s.modCq x f).pwm = s.pwm := rfl
@[simp] theorem State.modCq_mfe : (s.modCq x f).mfe = s.mfe := rfl
@[simp] theorem State.modCq_railsUp : (s.modCq x f).railsUp = s.railsUp := rfl
@[simp] theorem State.modCq_lane : (s.modCq x f).lane = s.lane := rfl
@[simp] theorem State.modCq_pos : (s.modCq x f).pos = s.pos := rfl
@[simp] theorem State.modCq_spd : (s.modCq x f).spd = s.spd := rfl
@[simp] theorem State.modCq_lsh : (s.modCq x f).lsh = s.lsh := rfl
@[simp] theorem State.modCq_fb : (s.modCq x f).fb = s.fb := rfl
@[simp] theorem State.modCq_pt : (s.modCq x f).pt = s.pt := rfl
@[simp] theorem State.modCq_prg : (s.modCq x f).prg = s.prg := rfl
@[simp] theorem State.modCq_lim : (s.modCq x f).lim = s.lim := rfl
@[simp] theorem State.modCq_isl : (s.modCq x f).isl = s.isl := rfl
@[simp] theorem State.modCq_sfa : (s.modCq x f).sfa = s.sfa := rfl
@[simp] theorem State.modCq_sfs : (s.modCq x f).sfs = s.sfs := rfl
@[simp] theorem State.modCq_si : (s.modCq x f).si = s.si := rfl
@[simp] theorem State.modCq_sip : (s.modCq x f).sip = s.sip := rfl
@[simp] theorem State.modCq_tst : (s.modCq x f).tst = s.tst := rfl
@[simp] theorem State.modCq_so : (s.modCq x f).so = s.so := rfl
@[simp] theorem State.modCq_sc : (s.modCq x f).sc = s.sc := rfl
@[simp] theorem State.modCq_wft : (s.modCq x f).wft = s.wft := rfl
@[simp] theorem State.modCq_can : (s.modCq x f).can = s.can := rfl
@[simp] theorem State.modCq_thm : (s.modCq x f).thm = s.thm := rfl
@[simp] theorem State.modCq_timers : (s.modCq x f).timers = s.timers := rfl
end

section
variable (s : State) (x : Fin 16) (f : SubRing → SubRing)
@[simp] theorem State.modSq_pending : (s.modSq x f).pending = s.pending := rfl
@[simp] theorem State.modSq_fresh : (s.modSq x f).fresh = s.fresh := rfl
@[simp] theorem State.modSq_weft : (s.modSq x f).weft = s.weft := rfl
@[simp] theorem State.modSq_regs : (s.modSq x f).regs = s.regs := rfl
@[simp] theorem State.modSq_params : (s.modSq x f).params = s.params := rfl
@[simp] theorem State.modSq_topology : (s.modSq x f).topology = s.topology := rfl
@[simp] theorem State.modSq_classW : (s.modSq x f).classW = s.classW := rfl
@[simp] theorem State.modSq_slots : (s.modSq x f).slots = s.slots := rfl
@[simp] theorem State.modSq_images : (s.modSq x f).images = s.images := rfl
@[simp] theorem State.modSq_sys : (s.modSq x f).sys = s.sys := rfl
@[simp] theorem State.modSq_jr : (s.modSq x f).jr = s.jr := rfl
@[simp] theorem State.modSq_con : (s.modSq x f).con = s.con := rfl
@[simp] theorem State.modSq_gc : (s.modSq x f).gc = s.gc := rfl
@[simp] theorem State.modSq_conflict : (s.modSq x f).conflict = s.conflict := rfl
@[simp] theorem State.modSq_shoot : (s.modSq x f).shoot = s.shoot := rfl
@[simp] theorem State.modSq_psp : (s.modSq x f).psp = s.psp := rfl
@[simp] theorem State.modSq_sfiSto : (s.modSq x f).sfiSto = s.sfiSto := rfl
@[simp] theorem State.modSq_sfiAsc : (s.modSq x f).sfiAsc = s.sfiAsc := rfl
@[simp] theorem State.modSq_cp : (s.modSq x f).cp = s.cp := rfl
@[simp] theorem State.modSq_sram : (s.modSq x f).sram = s.sram := rfl
@[simp] theorem State.modSq_pwm : (s.modSq x f).pwm = s.pwm := rfl
@[simp] theorem State.modSq_mfe : (s.modSq x f).mfe = s.mfe := rfl
@[simp] theorem State.modSq_railsUp : (s.modSq x f).railsUp = s.railsUp := rfl
@[simp] theorem State.modSq_lane : (s.modSq x f).lane = s.lane := rfl
@[simp] theorem State.modSq_pos : (s.modSq x f).pos = s.pos := rfl
@[simp] theorem State.modSq_spd : (s.modSq x f).spd = s.spd := rfl
@[simp] theorem State.modSq_lsh : (s.modSq x f).lsh = s.lsh := rfl
@[simp] theorem State.modSq_fb : (s.modSq x f).fb = s.fb := rfl
@[simp] theorem State.modSq_pt : (s.modSq x f).pt = s.pt := rfl
@[simp] theorem State.modSq_prg : (s.modSq x f).prg = s.prg := rfl
@[simp] theorem State.modSq_lim : (s.modSq x f).lim = s.lim := rfl
@[simp] theorem State.modSq_isl : (s.modSq x f).isl = s.isl := rfl
@[simp] theorem State.modSq_sfa : (s.modSq x f).sfa = s.sfa := rfl
@[simp] theorem State.modSq_sfs : (s.modSq x f).sfs = s.sfs := rfl
@[simp] theorem State.modSq_si : (s.modSq x f).si = s.si := rfl
@[simp] theorem State.modSq_sip : (s.modSq x f).sip = s.sip := rfl
@[simp] theorem State.modSq_tst : (s.modSq x f).tst = s.tst := rfl
@[simp] theorem State.modSq_so : (s.modSq x f).so = s.so := rfl
@[simp] theorem State.modSq_sc : (s.modSq x f).sc = s.sc := rfl
@[simp] theorem State.modSq_wft : (s.modSq x f).wft = s.wft := rfl
@[simp] theorem State.modSq_can : (s.modSq x f).can = s.can := rfl
@[simp] theorem State.modSq_thm : (s.modSq x f).thm = s.thm := rfl
@[simp] theorem State.modSq_timers : (s.modSq x f).timers = s.timers := rfl
end

section
variable (s : State) (x : Fin 4) (f : WPort → WPort)
@[simp] theorem State.modPort_pending : (s.modPort x f).pending = s.pending := rfl
@[simp] theorem State.modPort_fresh : (s.modPort x f).fresh = s.fresh := rfl
@[simp] theorem State.modPort_weft : (s.modPort x f).weft = s.weft := rfl
@[simp] theorem State.modPort_regs : (s.modPort x f).regs = s.regs := rfl
@[simp] theorem State.modPort_params : (s.modPort x f).params = s.params := rfl
@[simp] theorem State.modPort_topology : (s.modPort x f).topology = s.topology := rfl
@[simp] theorem State.modPort_classW : (s.modPort x f).classW = s.classW := rfl
@[simp] theorem State.modPort_slots : (s.modPort x f).slots = s.slots := rfl
@[simp] theorem State.modPort_images : (s.modPort x f).images = s.images := rfl
@[simp] theorem State.modPort_sys : (s.modPort x f).sys = s.sys := rfl
@[simp] theorem State.modPort_jr : (s.modPort x f).jr = s.jr := rfl
@[simp] theorem State.modPort_con : (s.modPort x f).con = s.con := rfl
@[simp] theorem State.modPort_gc : (s.modPort x f).gc = s.gc := rfl
@[simp] theorem State.modPort_conflict : (s.modPort x f).conflict = s.conflict := rfl
@[simp] theorem State.modPort_shoot : (s.modPort x f).shoot = s.shoot := rfl
@[simp] theorem State.modPort_psp : (s.modPort x f).psp = s.psp := rfl
@[simp] theorem State.modPort_sfiSto : (s.modPort x f).sfiSto = s.sfiSto := rfl
@[simp] theorem State.modPort_sfiAsc : (s.modPort x f).sfiAsc = s.sfiAsc := rfl
@[simp] theorem State.modPort_cp : (s.modPort x f).cp = s.cp := rfl
@[simp] theorem State.modPort_hif : (s.modPort x f).hif = s.hif := rfl
@[simp] theorem State.modPort_sram : (s.modPort x f).sram = s.sram := rfl
@[simp] theorem State.modPort_pwm : (s.modPort x f).pwm = s.pwm := rfl
@[simp] theorem State.modPort_mfe : (s.modPort x f).mfe = s.mfe := rfl
@[simp] theorem State.modPort_railsUp : (s.modPort x f).railsUp = s.railsUp := rfl
@[simp] theorem State.modPort_lane : (s.modPort x f).lane = s.lane := rfl
@[simp] theorem State.modPort_pos : (s.modPort x f).pos = s.pos := rfl
@[simp] theorem State.modPort_spd : (s.modPort x f).spd = s.spd := rfl
@[simp] theorem State.modPort_lsh : (s.modPort x f).lsh = s.lsh := rfl
@[simp] theorem State.modPort_fb : (s.modPort x f).fb = s.fb := rfl
@[simp] theorem State.modPort_pt : (s.modPort x f).pt = s.pt := rfl
@[simp] theorem State.modPort_prg : (s.modPort x f).prg = s.prg := rfl
@[simp] theorem State.modPort_lim : (s.modPort x f).lim = s.lim := rfl
@[simp] theorem State.modPort_isl : (s.modPort x f).isl = s.isl := rfl
@[simp] theorem State.modPort_sfa : (s.modPort x f).sfa = s.sfa := rfl
@[simp] theorem State.modPort_sfs : (s.modPort x f).sfs = s.sfs := rfl
@[simp] theorem State.modPort_si : (s.modPort x f).si = s.si := rfl
@[simp] theorem State.modPort_sip : (s.modPort x f).sip = s.sip := rfl
@[simp] theorem State.modPort_tst : (s.modPort x f).tst = s.tst := rfl
@[simp] theorem State.modPort_so : (s.modPort x f).so = s.so := rfl
@[simp] theorem State.modPort_sc : (s.modPort x f).sc = s.sc := rfl
@[simp] theorem State.modPort_can : (s.modPort x f).can = s.can := rfl
@[simp] theorem State.modPort_thm : (s.modPort x f).thm = s.thm := rfl
@[simp] theorem State.modPort_timers : (s.modPort x f).timers = s.timers := rfl
end

section
variable (s : State) (f : Weft → Weft)
@[simp] theorem State.modWft_pending : (s.modWft f).pending = s.pending := rfl
@[simp] theorem State.modWft_fresh : (s.modWft f).fresh = s.fresh := rfl
@[simp] theorem State.modWft_weft : (s.modWft f).weft = s.weft := rfl
@[simp] theorem State.modWft_regs : (s.modWft f).regs = s.regs := rfl
@[simp] theorem State.modWft_params : (s.modWft f).params = s.params := rfl
@[simp] theorem State.modWft_topology : (s.modWft f).topology = s.topology := rfl
@[simp] theorem State.modWft_classW : (s.modWft f).classW = s.classW := rfl
@[simp] theorem State.modWft_slots : (s.modWft f).slots = s.slots := rfl
@[simp] theorem State.modWft_images : (s.modWft f).images = s.images := rfl
@[simp] theorem State.modWft_sys : (s.modWft f).sys = s.sys := rfl
@[simp] theorem State.modWft_jr : (s.modWft f).jr = s.jr := rfl
@[simp] theorem State.modWft_con : (s.modWft f).con = s.con := rfl
@[simp] theorem State.modWft_gc : (s.modWft f).gc = s.gc := rfl
@[simp] theorem State.modWft_conflict : (s.modWft f).conflict = s.conflict := rfl
@[simp] theorem State.modWft_shoot : (s.modWft f).shoot = s.shoot := rfl
@[simp] theorem State.modWft_psp : (s.modWft f).psp = s.psp := rfl
@[simp] theorem State.modWft_sfiSto : (s.modWft f).sfiSto = s.sfiSto := rfl
@[simp] theorem State.modWft_sfiAsc : (s.modWft f).sfiAsc = s.sfiAsc := rfl
@[simp] theorem State.modWft_cp : (s.modWft f).cp = s.cp := rfl
@[simp] theorem State.modWft_hif : (s.modWft f).hif = s.hif := rfl
@[simp] theorem State.modWft_sram : (s.modWft f).sram = s.sram := rfl
@[simp] theorem State.modWft_pwm : (s.modWft f).pwm = s.pwm := rfl
@[simp] theorem State.modWft_mfe : (s.modWft f).mfe = s.mfe := rfl
@[simp] theorem State.modWft_railsUp : (s.modWft f).railsUp = s.railsUp := rfl
@[simp] theorem State.modWft_lane : (s.modWft f).lane = s.lane := rfl
@[simp] theorem State.modWft_pos : (s.modWft f).pos = s.pos := rfl
@[simp] theorem State.modWft_spd : (s.modWft f).spd = s.spd := rfl
@[simp] theorem State.modWft_lsh : (s.modWft f).lsh = s.lsh := rfl
@[simp] theorem State.modWft_fb : (s.modWft f).fb = s.fb := rfl
@[simp] theorem State.modWft_pt : (s.modWft f).pt = s.pt := rfl
@[simp] theorem State.modWft_prg : (s.modWft f).prg = s.prg := rfl
@[simp] theorem State.modWft_lim : (s.modWft f).lim = s.lim := rfl
@[simp] theorem State.modWft_isl : (s.modWft f).isl = s.isl := rfl
@[simp] theorem State.modWft_sfa : (s.modWft f).sfa = s.sfa := rfl
@[simp] theorem State.modWft_sfs : (s.modWft f).sfs = s.sfs := rfl
@[simp] theorem State.modWft_si : (s.modWft f).si = s.si := rfl
@[simp] theorem State.modWft_sip : (s.modWft f).sip = s.sip := rfl
@[simp] theorem State.modWft_tst : (s.modWft f).tst = s.tst := rfl
@[simp] theorem State.modWft_so : (s.modWft f).so = s.so := rfl
@[simp] theorem State.modWft_sc : (s.modWft f).sc = s.sc := rfl
@[simp] theorem State.modWft_can : (s.modWft f).can = s.can := rfl
@[simp] theorem State.modWft_thm : (s.modWft f).thm = s.thm := rfl
@[simp] theorem State.modWft_timers : (s.modWft f).timers = s.timers := rfl
end

section
variable (s : State) (x : Fin 38) (f : Sensor → Sensor)
@[simp] theorem State.modSensor_pending : (s.modSensor x f).pending = s.pending := rfl
@[simp] theorem State.modSensor_fresh : (s.modSensor x f).fresh = s.fresh := rfl
@[simp] theorem State.modSensor_weft : (s.modSensor x f).weft = s.weft := rfl
@[simp] theorem State.modSensor_regs : (s.modSensor x f).regs = s.regs := rfl
@[simp] theorem State.modSensor_params : (s.modSensor x f).params = s.params := rfl
@[simp] theorem State.modSensor_topology : (s.modSensor x f).topology = s.topology := rfl
@[simp] theorem State.modSensor_classW : (s.modSensor x f).classW = s.classW := rfl
@[simp] theorem State.modSensor_slots : (s.modSensor x f).slots = s.slots := rfl
@[simp] theorem State.modSensor_images : (s.modSensor x f).images = s.images := rfl
@[simp] theorem State.modSensor_sys : (s.modSensor x f).sys = s.sys := rfl
@[simp] theorem State.modSensor_jr : (s.modSensor x f).jr = s.jr := rfl
@[simp] theorem State.modSensor_con : (s.modSensor x f).con = s.con := rfl
@[simp] theorem State.modSensor_gc : (s.modSensor x f).gc = s.gc := rfl
@[simp] theorem State.modSensor_conflict : (s.modSensor x f).conflict = s.conflict := rfl
@[simp] theorem State.modSensor_shoot : (s.modSensor x f).shoot = s.shoot := rfl
@[simp] theorem State.modSensor_psp : (s.modSensor x f).psp = s.psp := rfl
@[simp] theorem State.modSensor_sfiSto : (s.modSensor x f).sfiSto = s.sfiSto := rfl
@[simp] theorem State.modSensor_sfiAsc : (s.modSensor x f).sfiAsc = s.sfiAsc := rfl
@[simp] theorem State.modSensor_cp : (s.modSensor x f).cp = s.cp := rfl
@[simp] theorem State.modSensor_hif : (s.modSensor x f).hif = s.hif := rfl
@[simp] theorem State.modSensor_sram : (s.modSensor x f).sram = s.sram := rfl
@[simp] theorem State.modSensor_pwm : (s.modSensor x f).pwm = s.pwm := rfl
@[simp] theorem State.modSensor_mfe : (s.modSensor x f).mfe = s.mfe := rfl
@[simp] theorem State.modSensor_railsUp : (s.modSensor x f).railsUp = s.railsUp := rfl
@[simp] theorem State.modSensor_lane : (s.modSensor x f).lane = s.lane := rfl
@[simp] theorem State.modSensor_pos : (s.modSensor x f).pos = s.pos := rfl
@[simp] theorem State.modSensor_spd : (s.modSensor x f).spd = s.spd := rfl
@[simp] theorem State.modSensor_lsh : (s.modSensor x f).lsh = s.lsh := rfl
@[simp] theorem State.modSensor_fb : (s.modSensor x f).fb = s.fb := rfl
@[simp] theorem State.modSensor_pt : (s.modSensor x f).pt = s.pt := rfl
@[simp] theorem State.modSensor_prg : (s.modSensor x f).prg = s.prg := rfl
@[simp] theorem State.modSensor_lim : (s.modSensor x f).lim = s.lim := rfl
@[simp] theorem State.modSensor_isl : (s.modSensor x f).isl = s.isl := rfl
@[simp] theorem State.modSensor_sfa : (s.modSensor x f).sfa = s.sfa := rfl
@[simp] theorem State.modSensor_sfs : (s.modSensor x f).sfs = s.sfs := rfl
@[simp] theorem State.modSensor_si : (s.modSensor x f).si = s.si := rfl
@[simp] theorem State.modSensor_sip : (s.modSensor x f).sip = s.sip := rfl
@[simp] theorem State.modSensor_tst : (s.modSensor x f).tst = s.tst := rfl
@[simp] theorem State.modSensor_so : (s.modSensor x f).so = s.so := rfl
@[simp] theorem State.modSensor_sc : (s.modSensor x f).sc = s.sc := rfl
@[simp] theorem State.modSensor_wft : (s.modSensor x f).wft = s.wft := rfl
@[simp] theorem State.modSensor_can : (s.modSensor x f).can = s.can := rfl
@[simp] theorem State.modSensor_timers : (s.modSensor x f).timers = s.timers := rfl
end

section
variable (s : State) (l : Line)
@[simp] theorem State.say_pending : (s.say l).pending = s.pending := rfl
@[simp] theorem State.say_fresh : (s.say l).fresh = s.fresh := rfl
@[simp] theorem State.say_weft : (s.say l).weft = s.weft := rfl
@[simp] theorem State.say_regs : (s.say l).regs = s.regs := rfl
@[simp] theorem State.say_params : (s.say l).params = s.params := rfl
@[simp] theorem State.say_topology : (s.say l).topology = s.topology := rfl
@[simp] theorem State.say_classW : (s.say l).classW = s.classW := rfl
@[simp] theorem State.say_slots : (s.say l).slots = s.slots := rfl
@[simp] theorem State.say_images : (s.say l).images = s.images := rfl
@[simp] theorem State.say_sys : (s.say l).sys = s.sys := rfl
@[simp] theorem State.say_jr : (s.say l).jr = s.jr := rfl
@[simp] theorem State.say_gc : (s.say l).gc = s.gc := rfl
@[simp] theorem State.say_conflict : (s.say l).conflict = s.conflict := rfl
@[simp] theorem State.say_shoot : (s.say l).shoot = s.shoot := rfl
@[simp] theorem State.say_psp : (s.say l).psp = s.psp := rfl
@[simp] theorem State.say_sfiSto : (s.say l).sfiSto = s.sfiSto := rfl
@[simp] theorem State.say_sfiAsc : (s.say l).sfiAsc = s.sfiAsc := rfl
@[simp] theorem State.say_cp : (s.say l).cp = s.cp := rfl
@[simp] theorem State.say_hif : (s.say l).hif = s.hif := rfl
@[simp] theorem State.say_sram : (s.say l).sram = s.sram := rfl
@[simp] theorem State.say_pwm : (s.say l).pwm = s.pwm := rfl
@[simp] theorem State.say_mfe : (s.say l).mfe = s.mfe := rfl
@[simp] theorem State.say_railsUp : (s.say l).railsUp = s.railsUp := rfl
@[simp] theorem State.say_lane : (s.say l).lane = s.lane := rfl
@[simp] theorem State.say_pos : (s.say l).pos = s.pos := rfl
@[simp] theorem State.say_spd : (s.say l).spd = s.spd := rfl
@[simp] theorem State.say_lsh : (s.say l).lsh = s.lsh := rfl
@[simp] theorem State.say_fb : (s.say l).fb = s.fb := rfl
@[simp] theorem State.say_pt : (s.say l).pt = s.pt := rfl
@[simp] theorem State.say_prg : (s.say l).prg = s.prg := rfl
@[simp] theorem State.say_lim : (s.say l).lim = s.lim := rfl
@[simp] theorem State.say_isl : (s.say l).isl = s.isl := rfl
@[simp] theorem State.say_sfa : (s.say l).sfa = s.sfa := rfl
@[simp] theorem State.say_sfs : (s.say l).sfs = s.sfs := rfl
@[simp] theorem State.say_si : (s.say l).si = s.si := rfl
@[simp] theorem State.say_sip : (s.say l).sip = s.sip := rfl
@[simp] theorem State.say_tst : (s.say l).tst = s.tst := rfl
@[simp] theorem State.say_so : (s.say l).so = s.so := rfl
@[simp] theorem State.say_sc : (s.say l).sc = s.sc := rfl
@[simp] theorem State.say_wft : (s.say l).wft = s.wft := rfl
@[simp] theorem State.say_can : (s.say l).can = s.can := rfl
@[simp] theorem State.say_thm : (s.say l).thm = s.thm := rfl
@[simp] theorem State.say_timers : (s.say l).timers = s.timers := rfl
end

@[simp] theorem State.setReg_parWord (s : State) (a : Nat) (w : Word) (g' i' n' : Nat) : (s.setReg a w).parWord g' i' n' = s.parWord g' i' n' := rfl
@[simp] theorem State.setReg_par (s : State) (a : Nat) (w : Word) (g' i' n' : Nat) : (s.setReg a w).par g' i' n' = s.par g' i' n' := rfl
@[simp] theorem State.setPar_reg (s : State) (g i n : Nat) (w : Word) (k : Nat) : (s.setPar g i n w).reg k = s.reg k := rfl
@[simp] theorem State.setPar_fld (s : State) (g i n : Nat) (w : Word) (k : Field) : (s.setPar g i n w).fld k = s.fld k := rfl
@[simp] theorem State.setPar_flag (s : State) (g i n : Nat) (w : Word) (k : Field) : (s.setPar g i n w).flag k = s.flag k := rfl
@[simp] theorem State.modPwm_reg (s : State) (x : Fin 4) (f : PwmSet → PwmSet) (k : Nat) : (s.modPwm x f).reg k = s.reg k := rfl
@[simp] theorem State.modPwm_fld (s : State) (x : Fin 4) (f : PwmSet → PwmSet) (k : Field) : (s.modPwm x f).fld k = s.fld k := rfl
@[simp] theorem State.modPwm_flag (s : State) (x : Fin 4) (f : PwmSet → PwmSet) (k : Field) : (s.modPwm x f).flag k = s.flag k := rfl
@[simp] theorem State.modPwm_parWord (s : State) (x : Fin 4) (f : PwmSet → PwmSet) (g' i' n' : Nat) : (s.modPwm x f).parWord g' i' n' = s.parWord g' i' n' := rfl
@[simp] theorem State.modPwm_par (s : State) (x : Fin 4) (f : PwmSet → PwmSet) (g' i' n' : Nat) : (s.modPwm x f).par g' i' n' = s.par g' i' n' := rfl
@[simp] theorem State.modMfe_reg (s : State) (x : Fin 4) (f : MfeSet → MfeSet) (k : Nat) : (s.modMfe x f).reg k = s.reg k := rfl
@[simp] theorem State.modMfe_fld (s : State) (x : Fin 4) (f : MfeSet → MfeSet) (k : Field) : (s.modMfe x f).fld k = s.fld k := rfl
@[simp] theorem State.modMfe_flag (s : State) (x : Fin 4) (f : MfeSet → MfeSet) (k : Field) : (s.modMfe x f).flag k = s.flag k := rfl
@[simp] theorem State.modMfe_parWord (s : State) (x : Fin 4) (f : MfeSet → MfeSet) (g' i' n' : Nat) : (s.modMfe x f).parWord g' i' n' = s.parWord g' i' n' := rfl
@[simp] theorem State.modMfe_par (s : State) (x : Fin 4) (f : MfeSet → MfeSet) (g' i' n' : Nat) : (s.modMfe x f).par g' i' n' = s.par g' i' n' := rfl
@[simp] theorem State.modLane_reg (s : State) (x : Fin 4) (f : Lane → Lane) (k : Nat) : (s.modLane x f).reg k = s.reg k := rfl
@[simp] theorem State.modLane_fld (s : State) (x : Fin 4) (f : Lane → Lane) (k : Field) : (s.modLane x f).fld k = s.fld k := rfl
@[simp] theorem State.modLane_flag (s : State) (x : Fin 4) (f : Lane → Lane) (k : Field) : (s.modLane x f).flag k = s.flag k := rfl
@[simp] theorem State.modLane_parWord (s : State) (x : Fin 4) (f : Lane → Lane) (g' i' n' : Nat) : (s.modLane x f).parWord g' i' n' = s.parWord g' i' n' := rfl
@[simp] theorem State.modLane_par (s : State) (x : Fin 4) (f : Lane → Lane) (g' i' n' : Nat) : (s.modLane x f).par g' i' n' = s.par g' i' n' := rfl
@[simp] theorem State.modPos_reg (s : State) (x : Fin 4) (f : PosAx → PosAx) (k : Nat) : (s.modPos x f).reg k = s.reg k := rfl
@[simp] theorem State.modPos_fld (s : State) (x : Fin 4) (f : PosAx → PosAx) (k : Field) : (s.modPos x f).fld k = s.fld k := rfl
@[simp] theorem State.modPos_flag (s : State) (x : Fin 4) (f : PosAx → PosAx) (k : Field) : (s.modPos x f).flag k = s.flag k := rfl
@[simp] theorem State.modPos_parWord (s : State) (x : Fin 4) (f : PosAx → PosAx) (g' i' n' : Nat) : (s.modPos x f).parWord g' i' n' = s.parWord g' i' n' := rfl
@[simp] theorem State.modPos_par (s : State) (x : Fin 4) (f : PosAx → PosAx) (g' i' n' : Nat) : (s.modPos x f).par g' i' n' = s.par g' i' n' := rfl
@[simp] theorem State.modSpd_reg (s : State) (x : Fin 4) (f : SpdAx → SpdAx) (k : Nat) : (s.modSpd x f).reg k = s.reg k := rfl
@[simp] theorem State.modSpd_fld (s : State) (x : Fin 4) (f : SpdAx → SpdAx) (k : Field) : (s.modSpd x f).fld k = s.fld k := rfl
@[simp] theorem State.modSpd_flag (s : State) (x : Fin 4) (f : SpdAx → SpdAx) (k : Field) : (s.modSpd x f).flag k = s.flag k := rfl
@[simp] theorem State.modSpd_parWord (s : State) (x : Fin 4) (f : SpdAx → SpdAx) (g' i' n' : Nat) : (s.modSpd x f).parWord g' i' n' = s.parWord g' i' n' := rfl
@[simp] theorem State.modSpd_par (s : State) (x : Fin 4) (f : SpdAx → SpdAx) (g' i' n' : Nat) : (s.modSpd x f).par g' i' n' = s.par g' i' n' := rfl
@[simp] theorem State.modGc_reg (s : State) (x : Fin 28) (f : GateChan → GateChan) (k : Nat) : (s.modGc x f).reg k = s.reg k := rfl
@[simp] theorem State.modGc_fld (s : State) (x : Fin 28) (f : GateChan → GateChan) (k : Field) : (s.modGc x f).fld k = s.fld k := rfl
@[simp] theorem State.modGc_flag (s : State) (x : Fin 28) (f : GateChan → GateChan) (k : Field) : (s.modGc x f).flag k = s.flag k := rfl
@[simp] theorem State.modGc_parWord (s : State) (x : Fin 28) (f : GateChan → GateChan) (g' i' n' : Nat) : (s.modGc x f).parWord g' i' n' = s.parWord g' i' n' := rfl
@[simp] theorem State.modGc_par (s : State) (x : Fin 28) (f : GateChan → GateChan) (g' i' n' : Nat) : (s.modGc x f).par g' i' n' = s.par g' i' n' := rfl
@[simp] theorem State.modPsp_reg (s : State) (x : Fin 4) (f : PspSet → PspSet) (k : Nat) : (s.modPsp x f).reg k = s.reg k := rfl
@[simp] theorem State.modPsp_fld (s : State) (x : Fin 4) (f : PspSet → PspSet) (k : Field) : (s.modPsp x f).fld k = s.fld k := rfl
@[simp] theorem State.modPsp_flag (s : State) (x : Fin 4) (f : PspSet → PspSet) (k : Field) : (s.modPsp x f).flag k = s.flag k := rfl
@[simp] theorem State.modPsp_parWord (s : State) (x : Fin 4) (f : PspSet → PspSet) (g' i' n' : Nat) : (s.modPsp x f).parWord g' i' n' = s.parWord g' i' n' := rfl
@[simp] theorem State.modPsp_par (s : State) (x : Fin 4) (f : PspSet → PspSet) (g' i' n' : Nat) : (s.modPsp x f).par g' i' n' = s.par g' i' n' := rfl
@[simp] theorem State.modPrg_reg (s : State) (x : Fin 8) (f : PrgCh → PrgCh) (k : Nat) : (s.modPrg x f).reg k = s.reg k := rfl
@[simp] theorem State.modPrg_fld (s : State) (x : Fin 8) (f : PrgCh → PrgCh) (k : Field) : (s.modPrg x f).fld k = s.fld k := rfl
@[simp] theorem State.modPrg_flag (s : State) (x : Fin 8) (f : PrgCh → PrgCh) (k : Field) : (s.modPrg x f).flag k = s.flag k := rfl
@[simp] theorem State.modPrg_parWord (s : State) (x : Fin 8) (f : PrgCh → PrgCh) (g' i' n' : Nat) : (s.modPrg x f).parWord g' i' n' = s.parWord g' i' n' := rfl
@[simp] theorem State.modPrg_par (s : State) (x : Fin 8) (f : PrgCh → PrgCh) (g' i' n' : Nat) : (s.modPrg x f).par g' i' n' = s.par g' i' n' := rfl
@[simp] theorem State.modSfa_reg (s : State) (x : Fin 4) (f : SfAxis → SfAxis) (k : Nat) : (s.modSfa x f).reg k = s.reg k := rfl
@[simp] theorem State.modSfa_fld (s : State) (x : Fin 4) (f : SfAxis → SfAxis) (k : Field) : (s.modSfa x f).fld k = s.fld k := rfl
@[simp] theorem State.modSfa_flag (s : State) (x : Fin 4) (f : SfAxis → SfAxis) (k : Field) : (s.modSfa x f).flag k = s.flag k := rfl
@[simp] theorem State.modSfa_parWord (s : State) (x : Fin 4) (f : SfAxis → SfAxis) (g' i' n' : Nat) : (s.modSfa x f).parWord g' i' n' = s.parWord g' i' n' := rfl
@[simp] theorem State.modSfa_par (s : State) (x : Fin 4) (f : SfAxis → SfAxis) (g' i' n' : Nat) : (s.modSfa x f).par g' i' n' = s.par g' i' n' := rfl
@[simp] theorem State.modSi_reg (s : State) (x : Fin 16) (f : SfIn → SfIn) (k : Nat) : (s.modSi x f).reg k = s.reg k := rfl
@[simp] theorem State.modSi_fld (s : State) (x : Fin 16) (f : SfIn → SfIn) (k : Field) : (s.modSi x f).fld k = s.fld k := rfl
@[simp] theorem State.modSi_flag (s : State) (x : Fin 16) (f : SfIn → SfIn) (k : Field) : (s.modSi x f).flag k = s.flag k := rfl
@[simp] theorem State.modSi_parWord (s : State) (x : Fin 16) (f : SfIn → SfIn) (g' i' n' : Nat) : (s.modSi x f).parWord g' i' n' = s.parWord g' i' n' := rfl
@[simp] theorem State.modSi_par (s : State) (x : Fin 16) (f : SfIn → SfIn) (g' i' n' : Nat) : (s.modSi x f).par g' i' n' = s.par g' i' n' := rfl
@[simp] theorem State.modSc_reg (s : State) (x : Fin 32) (f : Conn → Conn) (k : Nat) : (s.modSc x f).reg k = s.reg k := rfl
@[simp] theorem State.modSc_fld (s : State) (x : Fin 32) (f : Conn → Conn) (k : Field) : (s.modSc x f).fld k = s.fld k := rfl
@[simp] theorem State.modSc_flag (s : State) (x : Fin 32) (f : Conn → Conn) (k : Field) : (s.modSc x f).flag k = s.flag k := rfl
@[simp] theorem State.modSc_parWord (s : State) (x : Fin 32) (f : Conn → Conn) (g' i' n' : Nat) : (s.modSc x f).parWord g' i' n' = s.parWord g' i' n' := rfl
@[simp] theorem State.modSc_par (s : State) (x : Fin 32) (f : Conn → Conn) (g' i' n' : Nat) : (s.modSc x f).par g' i' n' = s.par g' i' n' := rfl
@[simp] theorem State.modCp_reg (s : State) (x : Fin 4) (f : CorePair → CorePair) (k : Nat) : (s.modCp x f).reg k = s.reg k := rfl
@[simp] theorem State.modCp_fld (s : State) (x : Fin 4) (f : CorePair → CorePair) (k : Field) : (s.modCp x f).fld k = s.fld k := rfl
@[simp] theorem State.modCp_flag (s : State) (x : Fin 4) (f : CorePair → CorePair) (k : Field) : (s.modCp x f).flag k = s.flag k := rfl
@[simp] theorem State.modCp_parWord (s : State) (x : Fin 4) (f : CorePair → CorePair) (g' i' n' : Nat) : (s.modCp x f).parWord g' i' n' = s.parWord g' i' n' := rfl
@[simp] theorem State.modCp_par (s : State) (x : Fin 4) (f : CorePair → CorePair) (g' i' n' : Nat) : (s.modCp x f).par g' i' n' = s.par g' i' n' := rfl
@[simp] theorem State.modFb_reg (s : State) (x : Fin 4) (f : FbPort → FbPort) (k : Nat) : (s.modFb x f).reg k = s.reg k := rfl
@[simp] theorem State.modFb_fld (s : State) (x : Fin 4) (f : FbPort → FbPort) (k : Field) : (s.modFb x f).fld k = s.fld k := rfl
@[simp] theorem State.modFb_flag (s : State) (x : Fin 4) (f : FbPort → FbPort) (k : Field) : (s.modFb x f).flag k = s.flag k := rfl
@[simp] theorem State.modFb_parWord (s : State) (x : Fin 4) (f : FbPort → FbPort) (g' i' n' : Nat) : (s.modFb x f).parWord g' i' n' = s.parWord g' i' n' := rfl
@[simp] theorem State.modFb_par (s : State) (x : Fin 4) (f : FbPort → FbPort) (g' i' n' : Nat) : (s.modFb x f).par g' i' n' = s.par g' i' n' := rfl
@[simp] theorem State.modLsh_reg (s : State) (x : Fin 4) (f : LshAx → LshAx) (k : Nat) : (s.modLsh x f).reg k = s.reg k := rfl
@[simp] theorem State.modLsh_fld (s : State) (x : Fin 4) (f : LshAx → LshAx) (k : Field) : (s.modLsh x f).fld k = s.fld k := rfl
@[simp] theorem State.modLsh_flag (s : State) (x : Fin 4) (f : LshAx → LshAx) (k : Field) : (s.modLsh x f).flag k = s.flag k := rfl
@[simp] theorem State.modLsh_parWord (s : State) (x : Fin 4) (f : LshAx → LshAx) (g' i' n' : Nat) : (s.modLsh x f).parWord g' i' n' = s.parWord g' i' n' := rfl
@[simp] theorem State.modLsh_par (s : State) (x : Fin 4) (f : LshAx → LshAx) (g' i' n' : Nat) : (s.modLsh x f).par g' i' n' = s.par g' i' n' := rfl
@[simp] theorem State.modCan_reg (s : State) (x : Fin 4) (f : CanCtl → CanCtl) (k : Nat) : (s.modCan x f).reg k = s.reg k := rfl
@[simp] theorem State.modCan_fld (s : State) (x : Fin 4) (f : CanCtl → CanCtl) (k : Field) : (s.modCan x f).fld k = s.fld k := rfl
@[simp] theorem State.modCan_flag (s : State) (x : Fin 4) (f : CanCtl → CanCtl) (k : Field) : (s.modCan x f).flag k = s.flag k := rfl
@[simp] theorem State.modCan_parWord (s : State) (x : Fin 4) (f : CanCtl → CanCtl) (g' i' n' : Nat) : (s.modCan x f).parWord g' i' n' = s.parWord g' i' n' := rfl
@[simp] theorem State.modCan_par (s : State) (x : Fin 4) (f : CanCtl → CanCtl) (g' i' n' : Nat) : (s.modCan x f).par g' i' n' = s.par g' i' n' := rfl
@[simp] theorem State.modCq_reg (s : State) (x : Fin 16) (f : CplRing → CplRing) (k : Nat) : (s.modCq x f).reg k = s.reg k := rfl
@[simp] theorem State.modCq_fld (s : State) (x : Fin 16) (f : CplRing → CplRing) (k : Field) : (s.modCq x f).fld k = s.fld k := rfl
@[simp] theorem State.modCq_flag (s : State) (x : Fin 16) (f : CplRing → CplRing) (k : Field) : (s.modCq x f).flag k = s.flag k := rfl
@[simp] theorem State.modCq_parWord (s : State) (x : Fin 16) (f : CplRing → CplRing) (g' i' n' : Nat) : (s.modCq x f).parWord g' i' n' = s.parWord g' i' n' := rfl
@[simp] theorem State.modCq_par (s : State) (x : Fin 16) (f : CplRing → CplRing) (g' i' n' : Nat) : (s.modCq x f).par g' i' n' = s.par g' i' n' := rfl
@[simp] theorem State.modSq_reg (s : State) (x : Fin 16) (f : SubRing → SubRing) (k : Nat) : (s.modSq x f).reg k = s.reg k := rfl
@[simp] theorem State.modSq_fld (s : State) (x : Fin 16) (f : SubRing → SubRing) (k : Field) : (s.modSq x f).fld k = s.fld k := rfl
@[simp] theorem State.modSq_flag (s : State) (x : Fin 16) (f : SubRing → SubRing) (k : Field) : (s.modSq x f).flag k = s.flag k := rfl
@[simp] theorem State.modSq_parWord (s : State) (x : Fin 16) (f : SubRing → SubRing) (g' i' n' : Nat) : (s.modSq x f).parWord g' i' n' = s.parWord g' i' n' := rfl
@[simp] theorem State.modSq_par (s : State) (x : Fin 16) (f : SubRing → SubRing) (g' i' n' : Nat) : (s.modSq x f).par g' i' n' = s.par g' i' n' := rfl
@[simp] theorem State.modPort_reg (s : State) (x : Fin 4) (f : WPort → WPort) (k : Nat) : (s.modPort x f).reg k = s.reg k := rfl
@[simp] theorem State.modPort_fld (s : State) (x : Fin 4) (f : WPort → WPort) (k : Field) : (s.modPort x f).fld k = s.fld k := rfl
@[simp] theorem State.modPort_flag (s : State) (x : Fin 4) (f : WPort → WPort) (k : Field) : (s.modPort x f).flag k = s.flag k := rfl
@[simp] theorem State.modPort_parWord (s : State) (x : Fin 4) (f : WPort → WPort) (g' i' n' : Nat) : (s.modPort x f).parWord g' i' n' = s.parWord g' i' n' := rfl
@[simp] theorem State.modPort_par (s : State) (x : Fin 4) (f : WPort → WPort) (g' i' n' : Nat) : (s.modPort x f).par g' i' n' = s.par g' i' n' := rfl
@[simp] theorem State.modWft_reg (s : State) (f : Weft → Weft) (k : Nat) : (s.modWft f).reg k = s.reg k := rfl
@[simp] theorem State.modWft_fld (s : State) (f : Weft → Weft) (k : Field) : (s.modWft f).fld k = s.fld k := rfl
@[simp] theorem State.modWft_flag (s : State) (f : Weft → Weft) (k : Field) : (s.modWft f).flag k = s.flag k := rfl
@[simp] theorem State.modWft_parWord (s : State) (f : Weft → Weft) (g' i' n' : Nat) : (s.modWft f).parWord g' i' n' = s.parWord g' i' n' := rfl
@[simp] theorem State.modWft_par (s : State) (f : Weft → Weft) (g' i' n' : Nat) : (s.modWft f).par g' i' n' = s.par g' i' n' := rfl
@[simp] theorem State.modSensor_reg (s : State) (x : Fin 38) (f : Sensor → Sensor) (k : Nat) : (s.modSensor x f).reg k = s.reg k := rfl
@[simp] theorem State.modSensor_fld (s : State) (x : Fin 38) (f : Sensor → Sensor) (k : Field) : (s.modSensor x f).fld k = s.fld k := rfl
@[simp] theorem State.modSensor_flag (s : State) (x : Fin 38) (f : Sensor → Sensor) (k : Field) : (s.modSensor x f).flag k = s.flag k := rfl
@[simp] theorem State.modSensor_parWord (s : State) (x : Fin 38) (f : Sensor → Sensor) (g' i' n' : Nat) : (s.modSensor x f).parWord g' i' n' = s.parWord g' i' n' := rfl
@[simp] theorem State.modSensor_par (s : State) (x : Fin 38) (f : Sensor → Sensor) (g' i' n' : Nat) : (s.modSensor x f).par g' i' n' = s.par g' i' n' := rfl
@[simp] theorem State.say_reg (s : State) (l : Line) (k : Nat) : (s.say l).reg k = s.reg k := rfl
@[simp] theorem State.say_fld (s : State) (l : Line) (k : Field) : (s.say l).fld k = s.fld k := rfl
@[simp] theorem State.say_flag (s : State) (l : Line) (k : Field) : (s.say l).flag k = s.flag k := rfl
@[simp] theorem State.say_parWord (s : State) (l : Line) (g' i' n' : Nat) : (s.say l).parWord g' i' n' = s.parWord g' i' n' := rfl
@[simp] theorem State.say_par (s : State) (l : Line) (g' i' n' : Nat) : (s.say l).par g' i' n' = s.par g' i' n' := rfl

section
variable (s : State) (f : Field) (v : Nat)
@[simp] theorem State.setFld_pending : (s.setFld f v).pending = s.pending := rfl
@[simp] theorem State.setFld_fresh : (s.setFld f v).fresh = s.fresh := rfl
@[simp] theorem State.setFld_weft : (s.setFld f v).weft = s.weft := rfl
@[simp] theorem State.setFld_params : (s.setFld f v).params = s.params := rfl
@[simp] theorem State.setFld_topology : (s.setFld f v).topology = s.topology := rfl
@[simp] theorem State.setFld_classW : (s.setFld f v).classW = s.classW := rfl
@[simp] theorem State.setFld_slots : (s.setFld f v).slots = s.slots := rfl
@[simp] theorem State.setFld_images : (s.setFld f v).images = s.images := rfl
@[simp] theorem State.setFld_sys : (s.setFld f v).sys = s.sys := rfl
@[simp] theorem State.setFld_jr : (s.setFld f v).jr = s.jr := rfl
@[simp] theorem State.setFld_con : (s.setFld f v).con = s.con := rfl
@[simp] theorem State.setFld_gc : (s.setFld f v).gc = s.gc := rfl
@[simp] theorem State.setFld_conflict : (s.setFld f v).conflict = s.conflict := rfl
@[simp] theorem State.setFld_shoot : (s.setFld f v).shoot = s.shoot := rfl
@[simp] theorem State.setFld_psp : (s.setFld f v).psp = s.psp := rfl
@[simp] theorem State.setFld_sfiSto : (s.setFld f v).sfiSto = s.sfiSto := rfl
@[simp] theorem State.setFld_sfiAsc : (s.setFld f v).sfiAsc = s.sfiAsc := rfl
@[simp] theorem State.setFld_cp : (s.setFld f v).cp = s.cp := rfl
@[simp] theorem State.setFld_hif : (s.setFld f v).hif = s.hif := rfl
@[simp] theorem State.setFld_sram : (s.setFld f v).sram = s.sram := rfl
@[simp] theorem State.setFld_pwm : (s.setFld f v).pwm = s.pwm := rfl
@[simp] theorem State.setFld_mfe : (s.setFld f v).mfe = s.mfe := rfl
@[simp] theorem State.setFld_railsUp : (s.setFld f v).railsUp = s.railsUp := rfl
@[simp] theorem State.setFld_lane : (s.setFld f v).lane = s.lane := rfl
@[simp] theorem State.setFld_pos : (s.setFld f v).pos = s.pos := rfl
@[simp] theorem State.setFld_spd : (s.setFld f v).spd = s.spd := rfl
@[simp] theorem State.setFld_lsh : (s.setFld f v).lsh = s.lsh := rfl
@[simp] theorem State.setFld_fb : (s.setFld f v).fb = s.fb := rfl
@[simp] theorem State.setFld_pt : (s.setFld f v).pt = s.pt := rfl
@[simp] theorem State.setFld_prg : (s.setFld f v).prg = s.prg := rfl
@[simp] theorem State.setFld_lim : (s.setFld f v).lim = s.lim := rfl
@[simp] theorem State.setFld_isl : (s.setFld f v).isl = s.isl := rfl
@[simp] theorem State.setFld_sfa : (s.setFld f v).sfa = s.sfa := rfl
@[simp] theorem State.setFld_sfs : (s.setFld f v).sfs = s.sfs := rfl
@[simp] theorem State.setFld_si : (s.setFld f v).si = s.si := rfl
@[simp] theorem State.setFld_sip : (s.setFld f v).sip = s.sip := rfl
@[simp] theorem State.setFld_tst : (s.setFld f v).tst = s.tst := rfl
@[simp] theorem State.setFld_so : (s.setFld f v).so = s.so := rfl
@[simp] theorem State.setFld_sc : (s.setFld f v).sc = s.sc := rfl
@[simp] theorem State.setFld_wft : (s.setFld f v).wft = s.wft := rfl
@[simp] theorem State.setFld_can : (s.setFld f v).can = s.can := rfl
@[simp] theorem State.setFld_thm : (s.setFld f v).thm = s.thm := rfl
@[simp] theorem State.setFld_timers : (s.setFld f v).timers = s.timers := rfl
end

section
variable (s : State) (f : Field) (b : Bool)
@[simp] theorem State.setFlag_pending : (s.setFlag f b).pending = s.pending := rfl
@[simp] theorem State.setFlag_fresh : (s.setFlag f b).fresh = s.fresh := rfl
@[simp] theorem State.setFlag_weft : (s.setFlag f b).weft = s.weft := rfl
@[simp] theorem State.setFlag_params : (s.setFlag f b).params = s.params := rfl
@[simp] theorem State.setFlag_topology : (s.setFlag f b).topology = s.topology := rfl
@[simp] theorem State.setFlag_classW : (s.setFlag f b).classW = s.classW := rfl
@[simp] theorem State.setFlag_slots : (s.setFlag f b).slots = s.slots := rfl
@[simp] theorem State.setFlag_images : (s.setFlag f b).images = s.images := rfl
@[simp] theorem State.setFlag_sys : (s.setFlag f b).sys = s.sys := rfl
@[simp] theorem State.setFlag_jr : (s.setFlag f b).jr = s.jr := rfl
@[simp] theorem State.setFlag_con : (s.setFlag f b).con = s.con := rfl
@[simp] theorem State.setFlag_gc : (s.setFlag f b).gc = s.gc := rfl
@[simp] theorem State.setFlag_conflict : (s.setFlag f b).conflict = s.conflict := rfl
@[simp] theorem State.setFlag_shoot : (s.setFlag f b).shoot = s.shoot := rfl
@[simp] theorem State.setFlag_psp : (s.setFlag f b).psp = s.psp := rfl
@[simp] theorem State.setFlag_sfiSto : (s.setFlag f b).sfiSto = s.sfiSto := rfl
@[simp] theorem State.setFlag_sfiAsc : (s.setFlag f b).sfiAsc = s.sfiAsc := rfl
@[simp] theorem State.setFlag_cp : (s.setFlag f b).cp = s.cp := rfl
@[simp] theorem State.setFlag_hif : (s.setFlag f b).hif = s.hif := rfl
@[simp] theorem State.setFlag_sram : (s.setFlag f b).sram = s.sram := rfl
@[simp] theorem State.setFlag_pwm : (s.setFlag f b).pwm = s.pwm := rfl
@[simp] theorem State.setFlag_mfe : (s.setFlag f b).mfe = s.mfe := rfl
@[simp] theorem State.setFlag_railsUp : (s.setFlag f b).railsUp = s.railsUp := rfl
@[simp] theorem State.setFlag_lane : (s.setFlag f b).lane = s.lane := rfl
@[simp] theorem State.setFlag_pos : (s.setFlag f b).pos = s.pos := rfl
@[simp] theorem State.setFlag_spd : (s.setFlag f b).spd = s.spd := rfl
@[simp] theorem State.setFlag_lsh : (s.setFlag f b).lsh = s.lsh := rfl
@[simp] theorem State.setFlag_fb : (s.setFlag f b).fb = s.fb := rfl
@[simp] theorem State.setFlag_pt : (s.setFlag f b).pt = s.pt := rfl
@[simp] theorem State.setFlag_prg : (s.setFlag f b).prg = s.prg := rfl
@[simp] theorem State.setFlag_lim : (s.setFlag f b).lim = s.lim := rfl
@[simp] theorem State.setFlag_isl : (s.setFlag f b).isl = s.isl := rfl
@[simp] theorem State.setFlag_sfa : (s.setFlag f b).sfa = s.sfa := rfl
@[simp] theorem State.setFlag_sfs : (s.setFlag f b).sfs = s.sfs := rfl
@[simp] theorem State.setFlag_si : (s.setFlag f b).si = s.si := rfl
@[simp] theorem State.setFlag_sip : (s.setFlag f b).sip = s.sip := rfl
@[simp] theorem State.setFlag_tst : (s.setFlag f b).tst = s.tst := rfl
@[simp] theorem State.setFlag_so : (s.setFlag f b).so = s.so := rfl
@[simp] theorem State.setFlag_sc : (s.setFlag f b).sc = s.sc := rfl
@[simp] theorem State.setFlag_wft : (s.setFlag f b).wft = s.wft := rfl
@[simp] theorem State.setFlag_can : (s.setFlag f b).can = s.can := rfl
@[simp] theorem State.setFlag_thm : (s.setFlag f b).thm = s.thm := rfl
@[simp] theorem State.setFlag_timers : (s.setFlag f b).timers = s.timers := rfl
end

end Sys2Proof.Machine
end

