-- ==== Sys2Proof/Laws/Sparse.lean ====
section
/-! SUPPORT. Sparse banks: a read after a write, and that every operation on a bank keeps the canonical form. -/

namespace Sys2Proof.Machine

variable {β : Type} [DecidableEq β] (d : Nat → β)

omit [DecidableEq β] in
theorem sparseGet_drop_same (b : List (Nat × β)) (k : Nat) : sparseGet d (sparseDrop k b) k = d k := by
  induction b with
  | nil => rfl
  | cons e r ih =>
    obtain ⟨a, v⟩ := e
    by_cases h : a = k
    · simpa [sparseDrop, h] using ih
    · simpa [sparseDrop, sparseGet, h] using ih

omit [DecidableEq β] in
theorem sparseGet_drop_other (b : List (Nat × β)) {k j : Nat} (h : j ≠ k) :
    sparseGet d (sparseDrop k b) j = sparseGet d b j := by
  induction b with
  | nil => rfl
  | cons e r ih =>
    obtain ⟨a, v⟩ := e
    by_cases hk : a = k
    · have hj : a ≠ j := fun e => h (e.symm.trans hk)
      simpa [sparseDrop, sparseGet, hk, hj, h.symm] using ih
    · by_cases hj : a = j
      · subst hj; simp [sparseDrop, sparseGet, hk]
      · simpa [sparseDrop, sparseGet, hk, hj] using ih

omit [DecidableEq β] in
theorem sparseGet_insert_other (b : List (Nat × β)) {k j : Nat} (v : β) (h : j ≠ k) :
    sparseGet d (sparseInsert k v b) j = sparseGet d b j := by
  induction b with
  | nil => simp [sparseInsert, sparseGet, h.symm]
  | cons e r ih =>
    obtain ⟨a, w⟩ := e
    by_cases hk : k < a
    · simp [sparseInsert, sparseGet, hk, h.symm]
    · by_cases hj : a = j
      · subst hj; simp [sparseInsert, sparseGet, hk]
      · simpa [sparseInsert, sparseGet, hk, hj] using ih

omit [DecidableEq β] in
theorem sparseGet_insert_same (b : List (Nat × β)) {k : Nat} (v : β) (h : ∀ e ∈ b, e.1 ≠ k) :
    sparseGet d (sparseInsert k v b) k = v := by
  induction b with
  | nil => simp [sparseInsert, sparseGet]
  | cons e r ih =>
    obtain ⟨a, w⟩ := e
    have ha : a ≠ k := h (a, w) (by simp)
    by_cases hk : k < a
    · simp [sparseInsert, sparseGet, hk]
    · simpa [sparseInsert, sparseGet, hk, ha] using ih fun e he => h e (by simp [he])

omit [DecidableEq β] in
theorem mem_sparseDrop {b : List (Nat × β)} {k : Nat} {e : Nat × β} (h : e ∈ sparseDrop k b) : e ∈ b ∧ e.1 ≠ k := by
  induction b with
  | nil => simp [sparseDrop] at h
  | cons x r ih =>
    obtain ⟨a, v⟩ := x
    by_cases hk : a = k
    · simp only [sparseDrop, hk, if_true] at h
      exact ⟨List.mem_cons_of_mem _ (ih h).1, (ih h).2⟩
    · simp only [sparseDrop, hk, if_false, List.mem_cons] at h
      rcases h with rfl | h
      · exact ⟨by simp, hk⟩
      · exact ⟨List.mem_cons_of_mem _ (ih h).1, (ih h).2⟩

omit [DecidableEq β] in
theorem mem_sparseInsert {b : List (Nat × β)} {k : Nat} {v : β} {e : Nat × β} (h : e ∈ sparseInsert k v b) :
    e = (k, v) ∨ e ∈ b := by
  induction b with
  | nil => simpa [sparseInsert] using h
  | cons x r ih =>
    obtain ⟨a, w⟩ := x
    by_cases hk : k < a
    · simpa [sparseInsert, hk] using h
    · simp only [sparseInsert, hk, if_false, List.mem_cons] at h
      rcases h with rfl | h
      · simp
      · rcases ih h with h | h <;> simp [h]

/-- A read after a write to the same key gives the value written. -/
theorem sparseGet_put_same (b : List (Nat × β)) (k : Nat) (v : β) : sparseGet d (sparsePut d b k v) k = v := by
  by_cases h : v = d k
  · subst h; simp [sparsePut, sparseGet_drop_same]
  · simp only [sparsePut, h, if_false]
    exact sparseGet_insert_same d _ v fun e he => (mem_sparseDrop he).2

/-- A write leaves every other key as it was. -/
theorem sparseGet_put_other (b : List (Nat × β)) {k j : Nat} (v : β) (h : j ≠ k) :
    sparseGet d (sparsePut d b k v) j = sparseGet d b j := by
  by_cases hv : v = d k
  · simp [sparsePut, hv, sparseGet_drop_other d b h]
  · simp only [sparsePut, hv, if_false]
    rw [sparseGet_insert_other d _ v h, sparseGet_drop_other d b h]

theorem sparseWf_drop {b : List (Nat × β)} (k : Nat) (h : sparseWf d b = true) : sparseWf d (sparseDrop k b) = true := by
  induction b with
  | nil => rfl
  | cons x r ih =>
    obtain ⟨a, v⟩ := x
    simp only [sparseWf, Bool.and_eq_true, List.all_eq_true, decide_eq_true_eq] at h
    by_cases hk : a = k
    · simpa [sparseDrop, hk] using ih h.2
    · simp only [sparseDrop, hk, if_false, sparseWf, Bool.and_eq_true, List.all_eq_true, decide_eq_true_eq]
      exact ⟨⟨h.1.1, fun e he => h.1.2 e (mem_sparseDrop he).1⟩, ih h.2⟩

theorem sparseWf_insert {b : List (Nat × β)} {k : Nat} {v : β} (hv : v ≠ d k) (hk : ∀ e ∈ b, e.1 ≠ k)
    (h : sparseWf d b = true) : sparseWf d (sparseInsert k v b) = true := by
  induction b with
  | nil => simp [sparseInsert, sparseWf, hv]
  | cons x r ih =>
    obtain ⟨a, w⟩ := x
    have ha : a ≠ k := hk (a, w) (by simp)
    have hr : ∀ e ∈ r, e.1 ≠ k := fun e he => hk e (by simp [he])
    have h0 := h
    simp only [sparseWf, Bool.and_eq_true, List.all_eq_true, decide_eq_true_eq] at h
    by_cases hlt : k < a
    · simp only [sparseInsert, hlt, if_true]
      rw [sparseWf]
      simp only [Bool.and_eq_true, List.all_eq_true, decide_eq_true_eq]
      refine ⟨⟨hv, fun e he => ?_⟩, h0⟩
      rcases List.mem_cons.1 he with rfl | he
      · exact hlt
      · exact hlt.trans (h.1.2 e he)
    · simp only [sparseInsert, hlt, if_false, sparseWf, Bool.and_eq_true, List.all_eq_true, decide_eq_true_eq]
      refine ⟨⟨h.1.1, fun e he => ?_⟩, ih hr h.2⟩
      rcases mem_sparseInsert he with rfl | he
      · show a < k
        omega
      · exact h.1.2 e he

/-- A write keeps the canonical form. -/
theorem sparseWf_put {b : List (Nat × β)} (k : Nat) (v : β) (h : sparseWf d b = true) :
    sparseWf d (sparsePut d b k v) = true := by
  by_cases hv : v = d k
  · simpa [sparsePut, hv] using sparseWf_drop d k h
  · simp only [sparsePut, hv, if_false]
    exact sparseWf_insert d hv (fun e he => (mem_sparseDrop he).2) (sparseWf_drop d k h)

/-- A part of a canonical bank is canonical. -/
theorem sparseWf_filter {b : List (Nat × β)} (p : Nat × β → Bool) (h : sparseWf d b = true) :
    sparseWf d (b.filter p) = true := by
  induction b with
  | nil => rfl
  | cons x r ih =>
    obtain ⟨a, v⟩ := x
    simp only [sparseWf, Bool.and_eq_true, List.all_eq_true, decide_eq_true_eq] at h
    by_cases hp : p (a, v) = true
    · simp only [List.filter_cons, hp, if_true, sparseWf, Bool.and_eq_true, List.all_eq_true, decide_eq_true_eq]
      exact ⟨⟨h.1.1, fun e he => h.1.2 e (List.mem_filter.1 he).1⟩, ih h.2⟩
    · simpa [List.filter_cons, hp] using ih h.2

/-! ## The registers, the parameters and the system SRAM -/

/-- Storing a register keeps the register bank canonical. -/
theorem State.setReg_wf (s : State) (a : Nat) (w : Word) (h : Bank.wfRegs s.regs = true) :
    Bank.wfRegs (s.setReg a w).regs = true := sparseWf_put resetWord a w h

/-- Storing a parameter keeps the working copy canonical. -/
theorem State.setPar_wf (s : State) (g i n : Nat) (w : Word) (h : Bank.wfParams s.params = true) :
    Bank.wfParams (s.setPar g i n w).params = true := sparseWf_put paramDefault (paramKey g i n) w h

/-- Writing bytes keeps the memory canonical. -/
theorem State.sramWrite_wf (l : List Byte) : ∀ (s : State) (a : Nat), Memory.wf s.sram = true →
    Memory.wf (s.sramWrite a l).sram = true := by
  induction l with
  | nil => intro s a h; exact h
  | cons b r ih =>
    intro s a h
    rw [State.sramWrite]
    refine ih _ _ ?_
    split
    · exact sparseWf_put sramEmpty a b h
    · exact h

/-- Writing bytes changes nothing but the SRAM. -/
theorem State.sramWrite_eq (l : List Byte) : ∀ (s : State) (a : Nat), ∃ m, s.sramWrite a l = { s with sram := m } := by
  induction l with
  | nil => intro s a; exact ⟨s.sram, rfl⟩
  | cons b r ih =>
    intro s a
    obtain ⟨m, hm⟩ := ih (if a < 0x80_0000 then { s with sram := sparsePut sramEmpty s.sram a b } else s) (a + 1)
    refine ⟨m, ?_⟩
    rw [State.sramWrite, hm]
    split <;> rfl

/-- A byte outside the bytes written reads as before. -/
theorem State.sramWrite_other (l : List Byte) : ∀ (s : State) (a k : Nat), (k < a ∨ a + l.length ≤ k) →
    sparseGet sramEmpty (s.sramWrite a l).sram k = sparseGet sramEmpty s.sram k := by
  induction l with
  | nil => intro s a k _; rfl
  | cons b r ih =>
    intro s a k h
    have hk : k ≠ a := by simp only [List.length_cons] at h; omega
    rw [State.sramWrite, ih _ _ _ (by simp only [List.length_cons] at h; omega)]
    split
    · exact sparseGet_put_other sramEmpty s.sram b hk
    · rfl

end Sys2Proof.Machine
end

