-- ==== Sys2Proof/Laws/Fields.lean ====
section
/-! SUPPORT. Registers and their fields: what a read gives after a write of the same field, of another field of the
same register, and of another register. -/

namespace Sys2Proof.Machine

@[simp] theorem State.reg_setReg (s : State) (a : Nat) (w : Word) : (s.setReg a w).reg a = w :=
  sparseGet_put_same resetWord s.regs a w

theorem State.reg_setReg_other (s : State) {a k : Nat} (w : Word) (h : k ≠ a) : (s.setReg a w).reg k = s.reg k :=
  sparseGet_put_other resetWord s.regs w h

theorem State.parWord_setPar (s : State) (g i n : Nat) (w : Word) : (s.setPar g i n w).parWord g i n = w :=
  sparseGet_put_same paramDefault s.params _ w

theorem getLsbD_ones (n i : Nat) : (ones n).getLsbD i = (decide (i < 32) && decide (i < n)) := by
  simp [ones, BitVec.getLsbD_ofNat, Nat.testBit_two_pow_sub_one]

/-- A field reads back what was put into it. -/
theorem fieldGet_put (w : Word) {lo n v : Nat} (hn : lo + n ≤ 32) (hv : v < 2 ^ n) : fieldGet (fieldPut w lo n v) lo n = v := by
  have h32 : v < 2 ^ 32 := lt_of_lt_of_le hv (Nat.pow_le_pow_right (by norm_num) (by omega))
  have : ((fieldPut w lo n v) >>> lo) &&& ones n = BitVec.ofNat 32 v := by
    apply BitVec.eq_of_getLsbD_eq
    intro i hi
    simp only [fieldPut, BitVec.getLsbD_and, BitVec.getLsbD_ushiftRight, BitVec.getLsbD_or,
      BitVec.getLsbD_not, BitVec.getLsbD_shiftLeft, getLsbD_ones, BitVec.getLsbD_ofNat]
    by_cases hin : i < n
    · have h1 : lo + i < 32 := by omega
      have h2 : ¬ lo + i < lo := by omega
      have h3 : lo + i - lo = i := by omega
      simp [hin, hi, h1, h2, h3]
    · have hb : v.testBit i = false := Nat.testBit_lt_two_pow (lt_of_lt_of_le hv (Nat.pow_le_pow_right (by norm_num) (by omega)))
      simp [hin, hb]
  rw [fieldGet, this, BitVec.toNat_ofNat, Nat.mod_eq_of_lt h32]

/-- A field does not change when another field of the word is put. -/
theorem fieldGet_put_other (w : Word) {lo n lo' n' v : Nat} (h : lo + n ≤ lo' ∨ lo' + n' ≤ lo) :
    fieldGet (fieldPut w lo' n' v) lo n = fieldGet w lo n := by
  have : ((fieldPut w lo' n' v) >>> lo) &&& ones n = (w >>> lo) &&& ones n := by
    apply BitVec.eq_of_getLsbD_eq
    intro i hi
    simp only [fieldPut, BitVec.getLsbD_and, BitVec.getLsbD_ushiftRight, BitVec.getLsbD_or,
      BitVec.getLsbD_not, BitVec.getLsbD_shiftLeft, getLsbD_ones, BitVec.getLsbD_ofNat]
    by_cases hin : i < n
    · by_cases h32 : lo + i < 32
      · have h3 : (decide (lo + i < lo') || !decide (lo + i - lo' < n')) = true := by
          rcases h with h | h
          · simp [show lo + i < lo' by omega]
          · simp only [Bool.or_eq_true, decide_eq_true_eq, Bool.not_eq_true', decide_eq_false_iff_not]
            by_cases hl : lo + i < lo'
            · exact Or.inl hl
            · exact Or.inr (by omega)
        rcases Bool.or_eq_true _ _ |>.mp h3 with h4 | h4
        · simp [h32, hin, hi, of_decide_eq_true h4]
        · have h5 : ¬ (lo + i - lo' < n') := by simpa using h4
          simp [h32, hin, hi, h5]
      · have : w.getLsbD (lo + i) = false := BitVec.getLsbD_of_ge _ _ (by omega)
        simp [h32, this]
    · simp [hin]
  simp only [fieldGet, this]

theorem State.reg_setFld (s : State) (f : Field) (v : Nat) :
    (s.setFld f v).reg f.addr = fieldPut (s.reg f.addr) f.lo f.width v := by simp [State.setFld]

theorem State.reg_setFld_other (s : State) {f : Field} {k : Nat} (v : Nat) (h : k ≠ f.addr) : (s.setFld f v).reg k = s.reg k :=
  s.reg_setReg_other _ h

/-- A field reads back what was stored in it. -/
theorem State.fld_setFld (s : State) {f : Field} {v : Nat} (hf : f.lo + f.width ≤ 32) (hv : v < 2 ^ f.width) :
    (s.setFld f v).fld f = v := by
  rw [State.fld, State.reg_setFld]; exact fieldGet_put _ hf hv

/-- A field of another register keeps its value. -/
theorem State.fld_setFld_reg (s : State) {f g : Field} (v : Nat) (h : g.addr ≠ f.addr) : (s.setFld f v).fld g = s.fld g := by
  simp only [State.fld, State.reg_setFld_other s v h]

/-- Another field of the same register keeps its value. -/
theorem State.fld_setFld_bits (s : State) {f g : Field} (v : Nat) (ha : g.addr = f.addr)
    (h : g.lo + g.width ≤ f.lo ∨ f.lo + f.width ≤ g.lo) : (s.setFld f v).fld g = s.fld g := by
  have := s.reg_setFld f v
  simp only [State.fld, ha, this]
  exact fieldGet_put_other _ h

/-- Another field keeps its value, whichever register it belongs to. -/
theorem State.fld_setFld_other (s : State) {f g : Field} (v : Nat)
    (h : g.addr ≠ f.addr ∨ g.lo + g.width ≤ f.lo ∨ f.lo + f.width ≤ g.lo) : (s.setFld f v).fld g = s.fld g := by
  by_cases ha : g.addr = f.addr
  · rcases h with h | h
    · exact absurd ha h
    · exact s.fld_setFld_bits v ha h
  · exact s.fld_setFld_reg v ha

/-- A flag reads back what was stored in it. -/
theorem State.flag_setFlag (s : State) {f : Field} (b : Bool) (hf : f.lo + f.width ≤ 32) (hw : 0 < f.width) :
    (s.setFlag f b).flag f = b := by
  have h : (if b then 1 else 0) < 2 ^ f.width := by
    have := Nat.pow_le_pow_right (n := 2) (by norm_num) hw
    split <;> omega
  simp only [State.flag, State.setFlag, s.fld_setFld hf h]
  cases b <;> rfl

/-- Another flag keeps its value. -/
theorem State.flag_setFld_other (s : State) {f g : Field} (v : Nat)
    (h : g.addr ≠ f.addr ∨ g.lo + g.width ≤ f.lo ∨ f.lo + f.width ≤ g.lo) : (s.setFld f v).flag g = s.flag g := by
  simp only [State.flag, s.fld_setFld_other v h]

end Sys2Proof.Machine
end

