-- ==== Sys2Proof/Laws/Arms.lean ====
section
/-! SUPPORT. Each arm of the dispatch: what a command does is its meaning. -/

namespace Sys2Proof.Machine

variable (s : State)

@[simp] theorem exec_lockoutTrip (supplies : BitVec 6) (vinPresent : Bool) : exec (.lockoutTrip supplies vinPresent) s = execLockoutTrip supplies vinPresent s := rfl
@[simp] theorem exec_lockoutFlushEnd (vinPresent : Bool) : exec (.lockoutFlushEnd vinPresent) s = execLockoutFlushEnd vinPresent s := rfl
@[simp] theorem exec_lockoutRelease : exec (.lockoutRelease) s = execLockoutRelease s := rfl
@[simp] theorem exec_resetNAssert : exec (.resetNAssert) s = execResetNAssert s := rfl
@[simp] theorem exec_resetNRelease : exec (.resetNRelease) s = execResetNRelease s := rfl
@[simp] theorem exec_wakeN (samples : Nat) (lowUs : Nat) : exec (.wakeN samples lowUs) s = execWakeN samples lowUs s := rfl
@[simp] theorem exec_wakeTimer : exec (.wakeTimer) s = execWakeTimer s := rfl
@[simp] theorem exec_vinReturn : exec (.vinReturn) s = execVinReturn s := rfl
@[simp] theorem exec_deepNightEntry : exec (.deepNightEntry) s = execDeepNightEntry s := rfl
@[simp] theorem exec_vbatCheck (vbat : Rat) : exec (.vbatCheck vbat) s = execVbatCheck vbat s := rfl
@[simp] theorem exec_nightDomainLoss (vbat : Rat) : exec (.nightDomainLoss vbat) s = execNightDomainLoss vbat s := rfl
@[simp] theorem exec_perstNAssert : exec (.perstNAssert) s = execPerstNAssert s := rfl
@[simp] theorem exec_linkDown : exec (.linkDown) s = execLinkDown s := rfl
@[simp] theorem exec_functionLevelReset : exec (.functionLevelReset) s = execFunctionLevelReset s := rfl
@[simp] theorem exec_enFall : exec (.enFall) s = execEnFall s := rfl
@[simp] theorem exec_enRise (lowUs : Nat) (sc : BitVec 4) (oc : BitVec 12) : exec (.enRise lowUs sc oc) s = execEnRise lowUs sc oc s := rfl
@[simp] theorem exec_pllLock (pll : Pll) : exec (.pllLock pll) s = execPllLock pll s := rfl
@[simp] theorem exec_pllLockTimeout (pll : Pll) : exec (.pllLockTimeout pll) s = execPllLockTimeout pll s := rfl
@[simp] theorem exec_strapSample (prof0 prof1 split0 split1 split2 : BitVec 8) : exec (.strapSample prof0 prof1 split0 split1 split2) s = execStrapSample prof0 prof1 split0 split1 split2 s := rfl
@[simp] theorem exec_islandGroupStart (x : Fin 4) (up : BitVec 9) : exec (.islandGroupStart x up) s = execIslandGroupStart x up s := rfl
@[simp] theorem exec_islandGroupTimeout (x : Fin 4) : exec (.islandGroupTimeout x) s = execIslandGroupTimeout x s := rfl
@[simp] theorem exec_bistSlotEnd (slot : Fin 4) (fails : List BistUnit) : exec (.bistSlotEnd slot fails) s = execBistSlotEnd slot fails s := rfl
@[simp] theorem exec_imageCheckDone (sigOk headerOk fits : Bool) (svn : BitVec 16) : exec (.imageCheckDone sigOk headerOk fits svn) s = execImageCheckDone sigOk headerOk fits svn s := rfl
@[simp] theorem exec_bootSectionComplete (n : Fin 4) : exec (.bootSectionComplete n) s = execBootSectionComplete n s := rfl
@[simp] theorem exec_imageStartDeadline : exec (.imageStartDeadline) s = execImageStartDeadline s := rfl
@[simp] theorem exec_profileLoad : exec (.profileLoad) s = execProfileLoad s := rfl
@[simp] theorem exec_stoPathTest (gateFail : Option (Fin 28)) (inputFail : Option StoInput) : exec (.stoPathTest gateFail inputFail) s = execStoPathTest gateFail inputFail s := rfl
@[simp] theorem exec_deferredStoTest (inputFail : Option StoInput) : exec (.deferredStoTest inputFail) s = execDeferredStoTest inputFail s := rfl
@[simp] theorem exec_deferredSetStoTest (x : Fin 4) (gateFail : Option (Fin 28)) : exec (.deferredSetStoTest x gateFail) s = execDeferredSetStoTest x gateFail s := rfl
@[simp] theorem exec_flashRefresh (u : FlashUnit) : exec (.flashRefresh u) s = execFlashRefresh u s := rfl
@[simp] theorem exec_refreshDeferTimeout : exec (.refreshDeferTimeout) s = execRefreshDeferTimeout s := rfl
@[simp] theorem exec_journalRewrite : exec (.journalRewrite) s = execJournalRewrite s := rfl
@[simp] theorem exec_modereqDusk (w : Writer) : exec (.modereqDusk w) s = execModereqDusk w s := rfl
@[simp] theorem exec_modereqServiceEnter (w : Writer) : exec (.modereqServiceEnter w) s = execModereqServiceEnter w s := rfl
@[simp] theorem exec_modereqServiceLeave (w : Writer) : exec (.modereqServiceLeave w) s = execModereqServiceLeave w s := rfl
@[simp] theorem exec_serviceIdle : exec (.serviceIdle) s = execServiceIdle s := rfl
@[simp] theorem exec_duskStopMax : exec (.duskStopMax) s = execDuskStopMax s := rfl
@[simp] theorem exec_duskFlushDone : exec (.duskFlushDone) s = execDuskFlushDone s := rfl
@[simp] theorem exec_duskWaitCross : exec (.duskWaitCross) s = execDuskWaitCross s := rfl
@[simp] theorem exec_pwmEdge (x : Fin 4) (k : Fin 3) (corrupt : Option (Option Bool × Option Bool)) : exec (.pwmEdge x k corrupt) s = execPwmEdge x k corrupt s := rfl
@[simp] theorem exec_islandCommand (n : Fin 28) (gs : Rat) : exec (.islandCommand n gs) s = execIslandCommand n gs s := rfl
@[simp] theorem exec_segmentChange (n : Fin 28) (gs : Rat) : exec (.segmentChange n gs) s = execSegmentChange n gs s := rfl
@[simp] theorem exec_clampEngage (n : Fin 28) (gs : Rat) : exec (.clampEngage n gs) s = execClampEngage n gs s := rfl
@[simp] theorem exec_confirmedOff (n : Fin 28) (frame : Option Bool) (gs : Rat) : exec (.confirmedOff n frame gs) s = execConfirmedOff n frame gs s := rfl
@[simp] theorem exec_interlockRelease (n : Fin 24) : exec (.interlockRelease n) s = execInterlockRelease n s := rfl
@[simp] theorem exec_offTimeout (n : Fin 24) : exec (.offTimeout n) s = execOffTimeout n s := rfl
@[simp] theorem exec_plateauArm (n : Fin 28) : exec (.plateauArm n) s = execPlateauArm n s := rfl
@[simp] theorem exec_plateauLow (n : Fin 28) (gs : Rat) : exec (.plateauLow n gs) s = execPlateauLow n gs s := rfl
@[simp] theorem exec_islandLinkLoss (n : Fin 28) : exec (.islandLinkLoss n) s = execIslandLinkLoss n s := rfl
@[simp] theorem exec_linkLost (n : Fin 28) : exec (.linkLost n) s = execLinkLost n s := rfl
@[simp] theorem exec_ssiLinkLost (x : Fin 4) (data : Bool) : exec (.ssiLinkLost x data) s = execSsiLinkLost x data s := rfl
@[simp] theorem exec_gdcTestStart (n : Fin 28) : exec (.gdcTestStart n) s = execGdcTestStart n s := rfl
@[simp] theorem exec_gdcTestDone (n : Fin 28) (r : GateTest) : exec (.gdcTestDone n r) s = execGdcTestDone n r s := rfl
@[simp] theorem exec_blankingEnd (x : Fin 4) (comparator : Bool) : exec (.blankingEnd x comparator) s = execBlankingEnd x comparator s := rfl
@[simp] theorem exec_scTrip (x : Fin 4) : exec (.scTrip x) s = execScTrip x s := rfl
@[simp] theorem exec_scDwellEnd (x : Fin 4) : exec (.scDwellEnd x) s = execScDwellEnd x s := rfl
@[simp] theorem exec_ocTrip (x : Fin 4) (k : Fin 3) : exec (.ocTrip x k) s = execOcTrip x k s := rfl
@[simp] theorem exec_ov3Trip (x : Fin 4) : exec (.ov3Trip x) s = execOv3Trip x s := rfl
@[simp] theorem exec_ov3FlagClear (x : Fin 4) : exec (.ov3FlagClear x) s = execOv3FlagClear x s := rfl
@[simp] theorem exec_ov3Hold (x : Fin 4) : exec (.ov3Hold x) s = execOv3Hold x s := rfl
@[simp] theorem exec_dcLinkSample (x : Fin 4) (v : Rat) (check : Option Rat) : exec (.dcLinkSample x v check) s = execDcLinkSample x v check s := rfl
@[simp] theorem exec_ov2React (x : Fin 4) : exec (.ov2React x) s = execOv2React x s := rfl
@[simp] theorem exec_uv (x : Fin 4) : exec (.uv x) s = execUv x s := rfl
@[simp] theorem exec_chopCheck (x : Fin 4) (before : Vector Rat 8) (after : List Rat) : exec (.chopCheck x before after) s = execChopCheck x before after s := rfl
@[simp] theorem exec_chopShort (x : Fin 4) (samples : List Rat) : exec (.chopShort x samples) s = execChopShort x samples s := rfl
@[simp] theorem exec_chopMinTime (x : Fin 4) : exec (.chopMinTime x) s = execChopMinTime x s := rfl
@[simp] theorem exec_terminalSample (x : Fin 4) (u v w : Rat) (flag : Bool) : exec (.terminalSample x u v w flag) s = execTerminalSample x u v w flag s := rfl
@[simp] theorem exec_crossOpenStart (x : Fin 4) (u v w : Rat) : exec (.crossOpenStart x u v w) s = execCrossOpenStart x u v w s := rfl
@[simp] theorem exec_updateBoundary (x : Fin 4) (peak : Bool) (shunt : Vector Rat 8) : exec (.updateBoundary x peak shunt) s = execUpdateBoundary x peak shunt s := rfl
@[simp] theorem exec_safetyGap (x : Fin 4) : exec (.safetyGap x) s = execSafetyGap x s := rfl
@[simp] theorem exec_updateRequest (x : Fin 4) : exec (.updateRequest x) s = execUpdateRequest x s := rfl
@[simp] theorem exec_phaseWrite (w : Writer) (x : Fin 4) (phase : BitVec 8) : exec (.phaseWrite w x phase) s = execPhaseWrite w x phase s := rfl
@[simp] theorem exec_inlineTrigger (x : Fin 4) : exec (.inlineTrigger x) s = execInlineTrigger x s := rfl
@[simp] theorem exec_shuntTrigger (x : Fin 4) (b : Bool) (v : Vector Rat 4) (ps : Raw3) : exec (.shuntTrigger x b v ps) s = execShuntTrigger x b v ps s := rfl
@[simp] theorem exec_inlineDelivery (x : Fin 4) (ps : Raw3) (busy : BitVec 16) (err : Option LaneErr) : exec (.inlineDelivery x ps busy err) s = execInlineDelivery x ps busy err s := rfl
@[simp] theorem exec_stuck (x : Fin 4) (k : Fin 3) : exec (.stuck x k) s = execStuck x k s := rfl
@[simp] theorem exec_sdclk (x : Fin 4) : exec (.sdclk x) s = execSdclk x s := rfl
@[simp] theorem exec_sdInputRecover (x : Fin 4) (k : Fin 3) : exec (.sdInputRecover x k) s = execSdInputRecover x k s := rfl
@[simp] theorem exec_sensorSupplyOverload : exec (.sensorSupplyOverload) s = execSensorSupplyOverload s := rfl
@[simp] theorem exec_mfeSupplyRestart (w : Writer) : exec (.mfeSupplyRestart w) s = execMfeSupplyRestart w s := rfl
@[simp] theorem exec_sensorSupplyUp : exec (.sensorSupplyUp) s = execSensorSupplyUp s := rfl
@[simp] theorem exec_offsetMeasurementEnd (x : Fin 4) (vals : List (Time × Raw3)) : exec (.offsetMeasurementEnd x vals) s = execOffsetMeasurementEnd x vals s := rfl
@[simp] theorem exec_ground (x : Fin 4) : exec (.ground x) s = execGround x s := rfl
@[simp] theorem exec_dcDiverge (x : Fin 4) : exec (.dcDiverge x) s = execDcDiverge x s := rfl
@[simp] theorem exec_dcDivergeClear (x : Fin 4) : exec (.dcDivergeClear x) s = execDcDivergeClear x s := rfl
@[simp] theorem exec_shuntOffsetTrack (x : Fin 4) (v : Rat) : exec (.shuntOffsetTrack x v) s = execShuntOffsetTrack x v s := rfl
@[simp] theorem exec_ntcSample (x : Fin 4) (volts : Rat) : exec (.ntcSample x volts) s = execNtcSample x volts s := rfl
@[simp] theorem exec_overrun (x : Fin 4) : exec (.overrun x) s = execOverrun x s := rfl
@[simp] theorem exec_loomScrub (addr : BitVec 16) (hit : ScrubHit) : exec (.loomScrub addr hit) s = execLoomScrub addr hit s := rfl
@[simp] theorem exec_laneParamReload (x : Fin 4) : exec (.laneParamReload x) s = execLaneParamReload x s := rfl
@[simp] theorem exec_kat (w : Writer) (x : Fin 4) : exec (.kat w x) s = execKat w x s := rfl
@[simp] theorem exec_katDone (x : Fin 4) (pass : Bool) : exec (.katDone x pass) s = execKatDone x pass s := rfl
@[simp] theorem exec_setClockRestart (x : Fin 4) : exec (.setClockRestart x) s = execSetClockRestart x s := rfl
@[simp] theorem exec_injectionPeriodEnd (a : Fin 4) : exec (.injectionPeriodEnd a) s = execInjectionPeriodEnd a s := rfl
@[simp] theorem exec_injectionStop (a : Fin 4) : exec (.injectionStop a) s = execInjectionStop a s := rfl
@[simp] theorem exec_polarityPulseEnd (a : Fin 4) (ripple : Rat) : exec (.polarityPulseEnd a ripple) s = execPolarityPulseEnd a ripple s := rfl
@[simp] theorem exec_lockLost (a : Fin 4) : exec (.lockLost a) s = execLockLost a s := rfl
@[simp] theorem exec_zeroUpd (a : Fin 4) : exec (.zeroUpd a) s = execZeroUpd a s := rfl
@[simp] theorem exec_terminalMeasurementStart (a : Fin 4) : exec (.terminalMeasurementStart a) s = execTerminalMeasurementStart a s := rfl
@[simp] theorem exec_terminalMeasurementSample (a : Fin 4) : exec (.terminalMeasurementSample a) s = execTerminalMeasurementSample a s := rfl
@[simp] theorem exec_terminalMeasurementEnd (a : Fin 4) : exec (.terminalMeasurementEnd a) s = execTerminalMeasurementEnd a s := rfl
@[simp] theorem exec_resumeRampEnd (a : Fin 4) : exec (.resumeRampEnd a) s = execResumeRampEnd a s := rfl
@[simp] theorem exec_attemptReset (a : Fin 4) : exec (.attemptReset a) s = execAttemptReset a s := rfl
@[simp] theorem exec_startTmo (a : Fin 4) : exec (.startTmo a) s = execStartTmo a s := rfl
@[simp] theorem exec_learn (w : Writer) (a : Fin 4) : exec (.learn w a) s = execLearn w a s := rfl
@[simp] theorem exec_learnAbort (w : Writer) (a : Fin 4) : exec (.learnAbort w a) s = execLearnAbort w a s := rfl
@[simp] theorem exec_speedLoopPeriod (a : Fin 4) : exec (.speedLoopPeriod a) s = execSpeedLoopPeriod a s := rfl
@[simp] theorem exec_positionLoopTick (a : Fin 4) : exec (.positionLoopTick a) s = execPositionLoopTick a s := rfl
@[simp] theorem exec_zeroSpeed (a : Fin 4) : exec (.zeroSpeed a) s = execZeroSpeed a s := rfl
@[simp] theorem exec_holdZeroEnd (a : Fin 4) : exec (.holdZeroEnd a) s = execHoldZeroEnd a s := rfl
@[simp] theorem exec_tOffRampEnd (a : Fin 4) : exec (.tOffRampEnd a) s = execTOffRampEnd a s := rfl
@[simp] theorem exec_stopTmo (a : Fin 4) : exec (.stopTmo a) s = execStopTmo a s := rfl
@[simp] theorem exec_overspeed (a : Fin 4) : exec (.overspeed a) s = execOverspeed a s := rfl
@[simp] theorem exec_shockWindowEnd (a : Fin 4) : exec (.shockWindowEnd a) s = execShockWindowEnd a s := rfl
@[simp] theorem exec_slack (a : Fin 4) : exec (.slack a) s = execSlack a s := rfl
@[simp] theorem exec_ventEnd (a : Fin 4) : exec (.ventEnd a) s = execVentEnd a s := rfl
@[simp] theorem exec_heaveStall (a : Fin 4) : exec (.heaveStall a) s = execHeaveStall a s := rfl
@[simp] theorem exec_shedCycleStart : exec (.shedCycleStart) s = execShedCycleStart s := rfl
@[simp] theorem exec_shedSlot (a : Fin 4) : exec (.shedSlot a) s = execShedSlot a s := rfl
@[simp] theorem exec_leadFrame (f : LeadFrame) : exec (.leadFrame f) s = execLeadFrame f s := rfl
@[simp] theorem exec_report (r : MemberReport) : exec (.report r) s = execReport r s := rfl
@[simp] theorem exec_faultNotice (m : Notice) : exec (.faultNotice m) s = execFaultNotice m s := rfl
@[simp] theorem exec_shedApply (a : Fin 4) : exec (.shedApply a) s = execShedApply a s := rfl
@[simp] theorem exec_shareRampEnd (a : Fin 4) : exec (.shareRampEnd a) s = execShareRampEnd a s := rfl
@[simp] theorem exec_portSample (n : Fin 4) (v : Analog) : exec (.portSample n v) s = execPortSample n v s := rfl
@[simp] theorem exec_encoderEdge (n : Fin 4) (la lb : Bool) : exec (.encoderEdge n la lb) s = execEncoderEdge n la lb s := rfl
@[simp] theorem exec_indexMark (n : Fin 4) : exec (.indexMark n) s = execIndexMark n s := rfl
@[simp] theorem exec_stepInputEdge (n : Fin 4) (high : Bool) : exec (.stepInputEdge n high) s = execStepInputEdge n high s := rfl
@[simp] theorem exec_serialReadRequest (n : Fin 4) : exec (.serialReadRequest n) s = execSerialReadRequest n s := rfl
@[simp] theorem exec_serialWord (n : Fin 4) (v : SerialIn) : exec (.serialWord n v) s = execSerialWord n v s := rfl
@[simp] theorem exec_speedWindowEnd (n : Fin 4) (v : Analog) : exec (.speedWindowEnd n v) s = execSpeedWindowEnd n v s := rfl
@[simp] theorem exec_amp (n : Fin 4) : exec (.amp n) s = execAmp n s := rfl
@[simp] theorem exec_wire (n : Fin 4) : exec (.wire n) s = execWire n s := rfl
@[simp] theorem exec_exc (n : Fin 4) : exec (.exc n) s = execExc n s := rfl
@[simp] theorem exec_fbSupply (k : Fin 2) : exec (.fbSupply k) s = execFbSupply k s := rfl
@[simp] theorem exec_cmpWrite (w : Writer) (n : Fin 4) (value : Word) : exec (.cmpWrite w n value) s = execCmpWrite w n value s := rfl
@[simp] theorem exec_load (w : Writer) (n : Fin 4) : exec (.load w n) s = execLoad w n s := rfl
@[simp] theorem exec_loadZ (w : Writer) (n : Fin 4) : exec (.loadZ w n) s = execLoadZ w n s := rfl
@[simp] theorem exec_turnZero (w : Writer) (n : Fin 4) : exec (.turnZero w n) s = execTurnZero w n s := rfl
@[simp] theorem exec_cmpDisarm (w : Writer) (n : Fin 4) : exec (.cmpDisarm w n) s = execCmpDisarm w n s := rfl
@[simp] theorem exec_cmpPulseEnd (n : Fin 4) : exec (.cmpPulseEnd n) s = execCmpPulseEnd n s := rfl
@[simp] theorem exec_profileEvaluation (c : Fin 8) : exec (.profileEvaluation c) s = execProfileEvaluation c s := rfl
@[simp] theorem exec_limit (n : Fin 4) (neg reached : Bool) : exec (.limit n neg reached) s = execLimit n neg reached s := rfl
@[simp] theorem exec_stall (c : Fin 8) : exec (.stall c) s = execStall c s := rfl
@[simp] theorem exec_refCheck (c : Fin 8) : exec (.refCheck c) s = execRefCheck c s := rfl
@[simp] theorem exec_halt (w : Writer) (c : Fin 8) : exec (.halt w c) s = execHalt w c s := rfl
@[simp] theorem exec_engage (w : Writer) (c : Fin 8) : exec (.engage w c) s = execEngage w c s := rfl
@[simp] theorem exec_disengage (w : Writer) (c : Fin 8) : exec (.disengage w c) s = execDisengage w c s := rfl
@[simp] theorem exec_setPos (w : Writer) (c : Fin 8) : exec (.setPos w c) s = execSetPos w c s := rfl
@[simp] theorem exec_safetyCycle (clockOk : Bool) (stillEnabled : List (Fin 24)) : exec (.safetyCycle clockOk stillEnabled) s = execSafetyCycle clockOk stillEnabled s := rfl
@[simp] theorem exec_stoInputFall (inp : StoInput) : exec (.stoInputFall inp) s = execStoInputFall inp s := rfl
@[simp] theorem exec_stoInputRise (inp : StoInput) : exec (.stoInputRise inp) s = execStoInputRise inp s := rfl
@[simp] theorem exec_stoDisc : exec (.stoDisc) s = execStoDisc s := rfl
@[simp] theorem exec_tSs1 (a : Fin 4) : exec (.tSs1 a) s = execTSs1 a s := rfl
@[simp] theorem exec_tStoAfterSbc (a : Fin 4) : exec (.tStoAfterSbc a) s = execTStoAfterSbc a s := rfl
@[simp] theorem exec_tSlsEntry (a : Fin 4) : exec (.tSlsEntry a) s = execTSlsEntry a s := rfl
@[simp] theorem exec_stoTestDue : exec (.stoTestDue) s = execStoTestDue s := rfl
@[simp] theorem exec_stoTestOverdue : exec (.stoTestOverdue) s = execStoTestOverdue s := rfl
@[simp] theorem exec_safetyCycleOverrun : exec (.safetyCycleOverrun) s = execSafetyCycleOverrun s := rfl
@[simp] theorem exec_sealCheck (intact : Bool) : exec (.sealCheck intact) s = execSealCheck intact s := rfl
@[simp] theorem exec_islandScrub (double : Bool) : exec (.islandScrub double) s = execIslandScrub double s := rfl
@[simp] theorem exec_stageOpen (h : Desc) (target : Word) : exec (.stageOpen h target) s = execStageOpen h target s := rfl
@[simp] theorem exec_sealStaging (h : Desc) (crc : Word) : exec (.sealStaging h crc) s = execSeal h crc s := rfl
@[simp] theorem exec_sealFlashDone (written : Bool) : exec (.sealFlashDone written) s = execSealFlashDone written s := rfl
@[simp] theorem exec_stageAbort (h : Desc) : exec (.stageAbort h) s = execStageAbort h s := rfl
@[simp] theorem exec_stagingTimeout : exec (.stagingTimeout) s = execStagingTimeout s := rfl
@[simp] theorem exec_safeInputSample (levels : BitVec 16) (outs : BitVec 8) : exec (.safeInputSample levels outs) s = execSafeInputSample levels outs s := rfl
@[simp] theorem exec_siFilterPass (n : Fin 16) (level : Bool) : exec (.siFilterPass n level) s = execSiFilterPass n level s := rfl
@[simp] theorem exec_disc (n : Fin 8) : exec (.disc n) s = execDisc n s := rfl
@[simp] theorem exec_testPulse (k : Fin 4) (starts : Bool) : exec (.testPulse k starts) s = execTestPulse k starts s := rfl
@[simp] theorem exec_stOvl (k : Fin 4) : exec (.stOvl k) s = execStOvl k s := rfl
@[simp] theorem exec_stRetry (k : Fin 4) : exec (.stRetry k) s = execStRetry k s := rfl
@[simp] theorem exec_outputPulse (n : Fin 8) (starts : Bool) : exec (.outputPulse n starts) s = execOutputPulse n starts s := rfl
@[simp] theorem exec_overload (n : Fin 4) : exec (.overload n) s = execOverload n s := rfl
@[simp] theorem exec_supply (low : Bool) : exec (.supply low) s = execSupply low s := rfl
@[simp] theorem exec_safetyFrameTx (k : Fin 32) : exec (.safetyFrameTx k) s = execSafetyFrameTx k s := rfl
@[simp] theorem exec_safetyFrameCopy (k : Fin 32) (routeB : Bool) (bytes : List Byte) : exec (.safetyFrameCopy k routeB bytes) s = execSafetyFrameCopy k routeB bytes s := rfl
@[simp] theorem exec_single (k : Fin 32) : exec (.single k) s = execSingle k s := rfl
@[simp] theorem exec_wdExp (k : Fin 32) : exec (.wdExp k) s = execWdExp k s := rfl
@[simp] theorem exec_lockstepMismatch (n : Fin 4) (group : Fin 8) (pc : Word) : exec (.lockstepMismatch n group pc) s = execLockstepMismatch n group pc s := rfl
@[simp] theorem exec_classification (n : Fin 4) (primaryOk shadowOk checkerOk : Bool) : exec (.classification n primaryOk shadowOk checkerOk) s = execClassification n primaryOk shadowOk checkerOk s := rfl
@[simp] theorem exec_started (n : Fin 4) (w : Writer) (copyOk : Bool) : exec (.started n w copyOk) s = execStarted n w copyOk s := rfl
@[simp] theorem exec_restartTmo (n : Fin 4) : exec (.restartTmo n) s = execRestartTmo n s := rfl
@[simp] theorem exec_checkerSelfCheck (n : Fin 4) (silent : Bool) : exec (.checkerSelfCheck n silent) s = execCheckerSelfCheck n silent s := rfl
@[simp] theorem exec_check (n : Fin 4) (w : Writer) (silent : Bool) : exec (.check n w silent) s = execCheck n w silent s := rfl
@[simp] theorem exec_parity (n : Fin 4) : exec (.parity n) s = execParity n s := rfl
@[simp] theorem exec_tcmDue (n : Fin 4) (half : Fin 2) : exec (.tcmDue n half) s = execTcmDue n half s := rfl
@[simp] theorem exec_debugAttach (n : Fin 4) : exec (.debugAttach n) s = execDebugAttach n s := rfl
@[simp] theorem exec_machineTimer (n : Fin 4) : exec (.machineTimer n) s = execMachineTimer n s := rfl
@[simp] theorem exec_mtimeLoRead : exec (.mtimeLoRead) s = execMtimeLoRead s := rfl
@[simp] theorem exec_sqTail (n : Fin 16) (tail : BitVec 12) (slots : List Slot) : exec (.sqTail n tail slots) s = execSqTail n tail slots s := rfl
@[simp] theorem exec_cqHead (n : Fin 16) (head : BitVec 12) : exec (.cqHead n head) s = execCqHead n head s := rfl
@[simp] theorem exec_ringEnable (w : Writer) (r : Ring) : exec (.ringEnable w r) s = execRingEnable w r s := rfl
@[simp] theorem exec_ringDisable (w : Writer) (r : Ring) : exec (.ringDisable w r) s = execRingDisable w r s := rfl
@[simp] theorem exec_nop (h : Desc) : exec (.nop h) s = execNop h s := rfl
@[simp] theorem exec_paramRead (h : Desc) (es : List ParamId) : exec (.paramRead h es) s = execParamRead h es s := rfl
@[simp] theorem exec_paramWrite (h : Desc) (es : List (ParamId × Word)) : exec (.paramWrite h es) s = execParamWrite h es s := rfl
@[simp] theorem exec_refSet (h : Desc) (value : Word) : exec (.refSet h value) s = execRefSet h value s := rfl
@[simp] theorem exec_move (h : Desc) (target : BitVec 64) : exec (.move h target) s = execMove h target s := rfl
@[simp] theorem exec_stop (h : Desc) : exec (.stop h) s = execStop h s := rfl
@[simp] theorem exec_profileSelect (h : Desc) : exec (.profileSelect h) s = execProfileSelect h s := rfl
@[simp] theorem exec_profileStore (h : Desc) : exec (.profileStore h) s = execProfileStore h s := rfl
@[simp] theorem exec_axisEnable (h : Desc) : exec (.axisEnable h) s = execAxisEnable h s := rfl
@[simp] theorem exec_axisDisable (h : Desc) : exec (.axisDisable h) s = execAxisDisable h s := rfl
@[simp] theorem exec_scopeArm (h : Desc) (buffer : BitVec 64) (samples : Word) (period : BitVec 16) (regs : List Word) : exec (.scopeArm h buffer samples period regs) s = execScopeArm h buffer samples period regs s := rfl
@[simp] theorem exec_scopeCaptureDone (dmaOk : Bool) : exec (.scopeCaptureDone dmaOk) s = execScopeCaptureDone dmaOk s := rfl
@[simp] theorem exec_logRead (h : Desc) (buffer : BitVec 64) (first count : BitVec 16) (dmaOk : Bool) : exec (.logRead h buffer first count dmaOk) s = execLogRead h buffer first count dmaOk s := rfl
@[simp] theorem exec_canSend (h : Desc) (f : CanTx) : exec (.canSend h f) s = execCanSend h f s := rfl
@[simp] theorem exec_weftSend (h : Desc) (bytes : List Byte) : exec (.weftSend h bytes) s = execWeftSend h bytes s := rfl
@[simp] theorem exec_funcReinitSq (h : Desc) : exec (.funcReinitSq h) s = execFuncReinitSq h s := rfl
@[simp] theorem exec_funcReinitCq (h : Desc) : exec (.funcReinitCq h) s = execFuncReinitCq h s := rfl
@[simp] theorem exec_funcReinitCan (h : Desc) : exec (.funcReinitCan h) s = execFuncReinitCan h s := rfl
@[simp] theorem exec_funcReinitWeftPort (h : Desc) : exec (.funcReinitWeftPort h) s = execFuncReinitWeftPort h s := rfl
@[simp] theorem exec_funcReinitFeedbackPort (h : Desc) (loopOk : Bool) : exec (.funcReinitFeedbackPort h loopOk) s = execFuncReinitFeedbackPort h loopOk s := rfl
@[simp] theorem exec_funcReinitLane (h : Desc) : exec (.funcReinitLane h) s = execFuncReinitLane h s := rfl
@[simp] theorem exec_deviceReset (h : Desc) (key : Word) : exec (.deviceReset h key) s = execDeviceReset h key s := rfl
@[simp] theorem exec_sysReset (w : Writer) (value : Word) : exec (.sysReset w value) s = execSysReset w value s := rfl
@[simp] theorem exec_resetStart : exec (.resetStart) s = execResetStart s := rfl
@[simp] theorem exec_stoTest (h : Desc) (gateFail : Option (Fin 28)) (inputFail : Option StoInput) : exec (.stoTest h gateFail inputFail) s = execStoTest h gateFail inputFail s := rfl
@[simp] theorem exec_imageWrite (h : Desc) (source : BitVec 64) (offset length : Word) (underRefresh dmaOk verified : Bool) : exec (.imageWrite h source offset length underRefresh dmaOk verified) s = execImageWrite h source offset length underRefresh dmaOk verified s := rfl
@[simp] theorem exec_imageCommit (h : Desc) (sigOk headerOk fits : Bool) (svn : BitVec 16) : exec (.imageCommit h sigOk headerOk fits svn) s = execImageCommit h sigOk headerOk fits svn s := rfl
@[simp] theorem exec_heaveStream (h : Desc) (es : List HeaveEntry) : exec (.heaveStream h es) s = execHeaveStream h es s := rfl
@[simp] theorem exec_userOpcode (h : Desc) (opcode : Byte) (handler : Bool) : exec (.userOpcode h opcode handler) s = execUserOpcode h opcode handler s := rfl
@[simp] theorem exec_badOpcode (h : Desc) (opcode : Byte) : exec (.badOpcode h opcode) s = execBadOpcode h opcode s := rfl
@[simp] theorem exec_chainTimeout (n : Fin 16) : exec (.chainTimeout n) s = execChainTimeout n s := rfl
@[simp] theorem exec_cqSignalTimer (n : Fin 16) : exec (.cqSignalTimer n) s = execCqSignalTimer n s := rfl
@[simp] theorem exec_ringError (r : Ring) : exec (.ringError r) s = execRingError r s := rfl
@[simp] theorem exec_hostLost : exec (.hostLost) s = execHostLost s := rfl
@[simp] theorem exec_configRequest (offset : BitVec 12) : exec (.configRequest offset) s = execConfigRequest offset s := rfl
@[simp] theorem exec_rtcWrite (w : Writer) (sec : Word) : exec (.rtcWrite w sec) s = execRtcWrite w sec s := rfl
@[simp] theorem exec_registerWrite (w : Writer) (addr value : Word) (size : Nat) (hw : Word) : exec (.registerWrite w addr value size hw) s = execRegisterWrite w addr value size hw s := rfl
@[simp] theorem exec_trainingSet (p : Fin 4) (uid : Time) (addr : Byte) (lock clean : Bool) : exec (.trainingSet p uid addr lock clean) s = execTrainingSet p uid addr lock clean s := rfl
@[simp] theorem exec_retrain (p : Fin 4) : exec (.retrain p) s = execRetrain p s := rfl
@[simp] theorem exec_weftLink (p : Fin 4) (codes : Nat) : exec (.weftLink p codes) s = execWeftLink p codes s := rfl
@[simp] theorem exec_helloTimeout (p : Fin 4) : exec (.helloTimeout p) s = execHelloTimeout p s := rfl
@[simp] theorem exec_hello (p : Fin 4) (m : HelloMsg) : exec (.hello p m) s = execHello p m s := rfl
@[simp] theorem exec_helloSend : exec (.helloSend) s = execHelloSend s := rfl
@[simp] theorem exec_claim (p : Fin 4) (m : ClaimMsg) : exec (.claim p m) s = execClaim p m s := rfl
@[simp] theorem exec_defend (p : Fin 4) (m : ClaimMsg) : exec (.defend p m) s = execDefend p m s := rfl
@[simp] theorem exec_claimTimer : exec (.claimTimer) s = execClaimTimer s := rfl
@[simp] theorem exec_defendTimer : exec (.defendTimer) s = execDefendTimer s := rfl
@[simp] theorem exec_route (p : Fin 4) (metrics : List (BitVec 5)) : exec (.route p metrics) s = execRoute p metrics s := rfl
@[simp] theorem exec_routeSend : exec (.routeSend) s = execRouteSend s := rfl
@[simp] theorem exec_routeAge (p : Fin 4) : exec (.routeAge p) s = execRouteAge p s := rfl
@[simp] theorem exec_data (p : Fin 4) (r : FrameRx) : exec (.data p r) s = execData p r s := rfl
@[simp] theorem exec_fragTmo (src : Byte) (cls : BitVec 2) : exec (.fragTmo src cls) s = execFragTmo src cls s := rfl
@[simp] theorem exec_sync (p : Fin 4) (m : SyncMsg) : exec (.sync p m) s = execSync p m s := rfl
@[simp] theorem exec_syncSend : exec (.syncSend) s = execSyncSend s := rfl
@[simp] theorem exec_delayReq (p : Fin 4) : exec (.delayReq p) s = execDelayReq p s := rfl
@[simp] theorem exec_delayReqSend : exec (.delayReqSend) s = execDelayReqSend s := rfl
@[simp] theorem exec_delayResp (p : Fin 4) (arrival departure : Time) : exec (.delayResp p arrival departure) s = execDelayResp p arrival departure s := rfl
@[simp] theorem exec_echoReq (p : Fin 4) (q : Packet) : exec (.echoReq p q) s = execEchoReq p q s := rfl
@[simp] theorem exec_echoResp (p : Fin 4) (q : Packet) : exec (.echoResp p q) s = execEchoResp p q s := rfl
@[simp] theorem exec_parentLoss : exec (.parentLoss) s = execParentLoss s := rfl
@[simp] theorem exec_ctxAge (addr : Byte) (cls : BitVec 2) : exec (.ctxAge addr cls) s = execCtxAge addr cls s := rfl
@[simp] theorem exec_canFrameRx (c : Fin 4) (f : CanRx) : exec (.canFrameRx c f) s = execCanFrameRx c f s := rfl
@[simp] theorem exec_canTxDone (c : Fin 4) : exec (.canTxDone c) s = execCanTxDone c s := rfl
@[simp] theorem exec_arbitrationLost (c : Fin 4) : exec (.arbitrationLost c) s = execArbitrationLost c s := rfl
@[simp] theorem exec_canError (c : Fin 4) (e : CanErr) : exec (.canError c e) s = execCanError c e s := rfl
@[simp] theorem exec_canBusOn (c : Fin 4) : exec (.canBusOn c) s = execCanBusOn c s := rfl
@[simp] theorem exec_txDominantTimeout (c : Fin 4) : exec (.txDominantTimeout c) s = execTxDominantTimeout c s := rfl
@[simp] theorem exec_abort (w : Writer) (c : Fin 4) (bufs : BitVec 3) : exec (.abort w c bufs) s = execAbort w c bufs s := rfl
@[simp] theorem exec_pop (w : Writer) (c : Fin 4) : exec (.pop w c) s = execPop w c s := rfl
@[simp] theorem exec_thmEvaluation (die : Vector Rat 4) (gate : Vector Rat 28) (board : Vector Rat 2) : exec (.thmEvaluation die gate board) s = execThmEvaluation die gate board s := rfl
@[simp] theorem exec_journalWrite : exec (.journalWrite) s = execJournalWrite s := rfl
@[simp] theorem exec_consoleChar (c : Byte) : exec (.consoleChar c) s = execConsoleChar c s := rfl
@[simp] theorem exec_consoleAbort : exec (.consoleAbort) s = execConsoleAbort s := rfl
@[simp] theorem exec_status : exec (.status) s = execStatus s := rfl
@[simp] theorem exec_rd (addr : Word) (n : Nat) (pins : BitVec 5) : exec (.rd addr n pins) s = execRd addr n pins s := rfl
@[simp] theorem exec_wr (addr value hw : Word) : exec (.wr addr value hw) s = execWr addr value hw s := rfl
@[simp] theorem exec_par (p : ParamId) (value : Option Word) : exec (.par p value) s = execPar p value s := rfl
@[simp] theorem exec_log (n : Option Nat) : exec (.log n) s = execLog n s := rfl
@[simp] theorem exec_logSeq (seq : Word) (n : Option Nat) : exec (.logSeq seq n) s = execLogSeq seq n s := rfl
@[simp] theorem exec_atest (q : AtestQ) : exec (.atest q) s = execAtest q s := rfl
@[simp] theorem exec_atestOff : exec (.atestOff) s = execAtestOff s := rfl
@[simp] theorem exec_service : exec (.service) s = execService s := rfl
@[simp] theorem exec_serviceExit : exec (.serviceExit) s = execServiceExit s := rfl
@[simp] theorem exec_dusk : exec (.dusk) s = execDusk s := rfl
@[simp] theorem exec_dawnRetry : exec (.dawnRetry) s = execDawnRetry s := rfl
@[simp] theorem exec_reset (key : Word) (hard : Bool) : exec (.reset key hard) s = execReset key hard s := rfl
@[simp] theorem exec_gdc (n : Fin 28) : exec (.gdc n) s = execGdc n s := rfl
@[simp] theorem exec_gdcSelftest (n : Fin 28) : exec (.gdcSelftest n) s = execGdcSelftest n s := rfl
@[simp] theorem exec_gdcPulse (n : Fin 28) (us : Nat) : exec (.gdcPulse n us) s = execGdcPulse n us s := rfl
@[simp] theorem exec_gdcDead (h : Fin 12) : exec (.gdcDead h) s = execGdcDead h s := rfl
@[simp] theorem exec_psp (x : Fin 4) : exec (.psp x) s = execPsp x s := rfl
@[simp] theorem exec_pspSctest (x : Fin 4) (sc ov3 : Rat) : exec (.pspSctest x sc ov3) s = execPspSctest x sc ov3 s := rfl
@[simp] theorem exec_chopTest (x : Fin 4) (step : Rat) : exec (.chopTest x step) s = execChopTest x step s := rfl
@[simp] theorem exec_cross (x : Fin 4) : exec (.cross x) s = execCross x s := rfl
@[simp] theorem exec_pwm (x : Fin 4) : exec (.pwm x) s = execPwm x s := rfl
@[simp] theorem exec_pwmSkew (x : Fin 4) (node : Byte) : exec (.pwmSkew x node) s = execPwmSkew x node s := rfl
@[simp] theorem exec_pwmRun (x : Fin 4) (du dv dw : Rat) : exec (.pwmRun x du dv dw) s = execPwmRun x du dv dw s := rfl
@[simp] theorem exec_mfe (x : Fin 4) : exec (.mfe x) s = execMfe x s := rfl
@[simp] theorem exec_mfeZero (x : Fin 4) : exec (.mfeZero x) s = execMfeZero x s := rfl
@[simp] theorem exec_mfeXc (x : Fin 4) : exec (.mfeXc x) s = execMfeXc x s := rfl
@[simp] theorem exec_mfeSupplyOn : exec (.mfeSupplyOn) s = execMfeSupplyOn s := rfl
@[simp] theorem exec_loom (x : Fin 4) : exec (.loom x) s = execLoom x s := rfl
@[simp] theorem exec_loomKat (x : Fin 4) : exec (.loomKat x) s = execLoomKat x s := rfl
@[simp] theorem exec_loomTime (x : Fin 4) : exec (.loomTime x) s = execLoomTime x s := rfl
@[simp] theorem exec_pos (a : Fin 4) : exec (.pos a) s = execPos a s := rfl
@[simp] theorem exec_posTerm (a : Fin 4) : exec (.posTerm a) s = execPosTerm a s := rfl
@[simp] theorem exec_posInj (a : Fin 4) (ldh lqh : Rat) : exec (.posInj a ldh lqh) s = execPosInj a ldh lqh s := rfl
@[simp] theorem exec_posLearn (a : Fin 4) : exec (.posLearn a) s = execPosLearn a s := rfl
@[simp] theorem exec_spd (a : Fin 4) : exec (.spd a) s = execSpd a s := rfl
@[simp] theorem exec_spdLim (a : Fin 4) : exec (.spdLim a) s = execSpdLim a s := rfl
@[simp] theorem exec_lsh (a : Fin 4) : exec (.lsh a) s = execLsh a s := rfl
@[simp] theorem exec_lshMembers (a : Fin 4) : exec (.lshMembers a) s = execLshMembers a s := rfl
@[simp] theorem exec_lshDrop (a : Fin 4) (n : Nat) : exec (.lshDrop a n) s = execLshDrop a n s := rfl
@[simp] theorem exec_fbi (n : Fin 4) : exec (.fbi n) s = execFbi n s := rfl
@[simp] theorem exec_fbiWatch (n : Fin 4) : exec (.fbiWatch n) s = execFbiWatch n s := rfl
@[simp] theorem exec_fbiLoop (n : Fin 4) (ok : Bool) : exec (.fbiLoop n ok) s = execFbiLoop n ok s := rfl
@[simp] theorem exec_fbiCmp (n : Fin 4) (value spacing : Word) : exec (.fbiCmp n value spacing) s = execFbiCmp n value spacing s := rfl
@[simp] theorem exec_pt (m : Fin 4) : exec (.pt m) s = execPt m s := rfl
@[simp] theorem exec_prg (c : Fin 8) : exec (.prg c) s = execPrg c s := rfl
@[simp] theorem exec_prgLim (c : Fin 8) : exec (.prgLim c) s = execPrgLim c s := rfl
@[simp] theorem exec_prgJog (c : Fin 8) (n : Int) : exec (.prgJog c n) s = execPrgJog c n s := rfl
@[simp] theorem exec_sfi : exec (.sfi) s = execSfi s := rfl
@[simp] theorem exec_sfiAx (a : Fin 4) : exec (.sfiAx a) s = execSfiAx a s := rfl
@[simp] theorem exec_sfiSto : exec (.sfiSto) s = execSfiSto s := rfl
@[simp] theorem exec_sfiTest (gateFail : Option (Fin 28)) (inputFail : Option StoInput) : exec (.sfiTest gateFail inputFail) s = execSfiTest gateFail inputFail s := rfl
@[simp] theorem exec_sfiList : exec (.sfiList) s = execSfiList s := rfl
@[simp] theorem exec_sfiSeal (crc : Word) : exec (.sfiSeal crc) s = execSfiSeal crc s := rfl
@[simp] theorem exec_si : exec (.si) s = execSi s := rfl
@[simp] theorem exec_so : exec (.so) s = execSo s := rfl
@[simp] theorem exec_sc (k : Fin 32) : exec (.sc k) s = execSc k s := rfl
@[simp] theorem exec_lck : exec (.lck) s = execLck s := rfl
@[simp] theorem exec_lckCheck (n : Fin 4) (silent : Bool) : exec (.lckCheck n silent) s = execLckCheck n silent s := rfl
@[simp] theorem exec_lckHist (n : Fin 4) : exec (.lckHist n) s = execLckHist n s := rfl
@[simp] theorem exec_hif : exec (.hif) s = execHif s := rfl
@[simp] theorem exec_hifSq (n : Fin 16) : exec (.hifSq n) s = execHifSq n s := rfl
@[simp] theorem exec_hifCq (n : Fin 16) : exec (.hifCq n) s = execHifCq n s := rfl
@[simp] theorem exec_hifNop (n : Fin 16) : exec (.hifNop n) s = execHifNop n s := rfl
@[simp] theorem exec_wft : exec (.wft) s = execWft s := rfl
@[simp] theorem exec_wftPort (p : Fin 4) : exec (.wftPort p) s = execWftPort p s := rfl
@[simp] theorem exec_wftRoute (addr : Byte) : exec (.wftRoute addr) s = execWftRoute addr s := rfl
@[simp] theorem exec_wftPing (addr : Byte) (n : Nat) : exec (.wftPing addr n) s = execWftPing addr n s := rfl
@[simp] theorem exec_wftReinit (p : Fin 4) : exec (.wftReinit p) s = execWftReinit p s := rfl
@[simp] theorem exec_can (c : Fin 4) : exec (.can c) s = execCan c s := rfl
@[simp] theorem exec_canLoop (c : Fin 4) (ok : Bool) : exec (.canLoop c ok) s = execCanLoop c ok s := rfl
@[simp] theorem exec_canRx (c : Fin 4) : exec (.canRx c) s = execCanRx c s := rfl
@[simp] theorem exec_thm : exec (.thm) s = execThm s := rfl
@[simp] theorem exec_perstNRelease : exec (.perstNRelease) s = execPerstNRelease s := rfl
@[simp] theorem exec_linkUp (speed width : BitVec 2) : exec (.linkUp speed width) s = execLinkUp speed width s := rfl
@[simp] theorem exec_flashOperationComplete (op : FlashOp) (ok : Bool) : exec (.flashOperationComplete op ok) s = execFlashOperationComplete op ok s := rfl
@[simp] theorem exec_testEnd : exec (.testEnd) s = execTestEnd s := rfl
@[simp] theorem exec_egressFrameSent (p : Fin 4) : exec (.egressFrameSent p) s = execEgressFrameSent p s := rfl
@[simp] theorem exec_conflictWait : exec (.conflictWait) s = execConflictWait s := rfl
@[simp] theorem exec_protocolException (c : Fin 4) : exec (.protocolException c) s = execProtocolException c s := rfl
@[simp] theorem exec_canIntegration (c : Fin 4) : exec (.canIntegration c) s = execCanIntegration c s := rfl

end Sys2Proof.Machine
end

