-- ==== Sys2Proof/Laws/Guards.lean ====
section
/-! SUPPORT. What the shared guards do: a descriptor, a register write and a console command that are let through run their
own rules. -/

namespace Sys2Proof.Machine

/-- The level of an interrupt source shows in the pending registers alone (R494). -/
theorem State.fld_setIrq_other (s : State) (k : Nat) (b : Bool) {g : Field} (hp : ∀ n : Fin 4, g.addr ≠ Reg.LCK_IRQPEND n) :
    (s.setIrq k b).fld g = s.fld g := by
  simp only [State.setIrq, forAll, four, List.foldl_cons, List.foldl_nil]
  rw [State.fld_setFld_reg _ _ (hp 3), State.fld_setFld_reg _ _ (hp 2), State.fld_setFld_reg _ _ (hp 1),
    State.fld_setFld_reg _ _ (hp 0)]

/-- Taking a descriptor out of the firmware queue changes HIF_STATUS and the pending interrupts alone. -/
theorem State.fld_takeFw_other (s : State) (h : Desc) (op : Nat) {g : Field} (hs : g.addr ≠ Reg.HIF_STATUS)
    (hp : ∀ n : Fin 4, g.addr ≠ Reg.LCK_IRQPEND n) : (s.takeFw h op).fld g = s.fld g := by
  unfold State.takeFw
  split
  · rw [State.putFwq, State.fld_setIrq_other _ _ _ hp, State.fld_setFld_reg _ _ hs]
    rfl
  · rfl

theorem State.fld_taken_other (s : State) (h : Desc) (op : Nat) {g : Field} (hs : g.addr ≠ Reg.HIF_STATUS)
    (hp : ∀ n : Fin 4, g.addr ≠ Reg.LCK_IRQPEND n) : (s.taken h op).fld g = s.fld g := by
  unfold State.taken when
  split
  · exact s.fld_takeFw_other h op hs hp
  · rfl

theorem State.taken_plain {s : State} {h : Desc} {op : Nat} (hb : byCp0 op = false) : s.taken h op = s := by
  simp [State.taken, when, hb]

theorem State.dispatch_takes {s : State} {h : Desc} {op : Nat} (f : State → State) (ht : s.takes h op = true) :
    s.dispatch h op f = .next (f (s.taken h op)) := by
  have hm : (s.taken h op).mode = s.mode := by
    rw [State.mode, State.mode, s.fld_taken_other h op (by decide) (by decide)]
  have hf : (s.taken h op).flag (Fld.LCK_STATUS_FAILED 0) = s.flag (Fld.LCK_STATUS_FAILED 0) := by
    rw [State.flag, State.flag, s.fld_taken_other h op (by decide) (by decide)]
  simp only [State.takes, Bool.and_eq_true, Bool.not_eq_true'] at ht
  obtain ⟨⟨⟨⟨h1, h2⟩, h5⟩, h3⟩, h4⟩ := ht
  simp only [State.dispatch, h1, h2, h3, h4, h5, hm, hf]
  rfl

theorem State.access_writable {s : State} {w : Writer} {a : Nat} (v : Word) (f : State → State)
    (hw : s.writable w a = true) : s.access w a v f = .next (f s) := by
  simp only [State.writable, Bool.and_eq_true, Bool.not_eq_true'] at hw
  obtain ⟨⟨h1, h2⟩, h3⟩ := hw
  simp only [State.access, h1, h2, h3]
  rfl

/-- A barred write is refused and journalled as REG_LOCKED (R10, R629). -/
theorem State.access_barred {s : State} {w : Writer} {a : Nat} (v : Word) (f : State → State) (h1 : s.awake = true)
    (h2 : s.deaf a = false) (h3 : s.barred w = true) : s.access w a v f = .next (s.regLocked w a v) := by
  simp only [State.access, h1, h2, h3]
  rfl

theorem State.takeLine_awake (s : State) : s.takeLine.flag Fld.SVC_STATUS_HWONLY = s.flag Fld.SVC_STATUS_HWONLY := by
  unfold State.takeLine
  split
  · rw [State.rxLevel, State.flag, State.fld_setIrq_other _ _ _ (by decide), State.fld_setFld_other _ _ (by decide)]
    rfl
  · rfl

theorem State.conRun_free {s : State} {hw : Bool} (f : State → State) (h : s.conFree hw = true) :
    s.conRun hw f = .next (f s.takeLine).conNext := by
  simp only [State.conFree, Bool.and_eq_true, Bool.not_eq_true', Bool.or_eq_true] at h
  obtain ⟨⟨h1, h2⟩, h3⟩ := h
  have h4 : (s.takeLine.flag Fld.SVC_STATUS_HWONLY && !hw) = false := by
    rw [State.takeLine_awake]
    rcases h3 with h3 | h3 <;> simp [h3]
  simp only [State.conRun, h1, h2, h4]
  rfl

/-- A guarded write goes on in every case: it is dropped, journalled, or takes its rules (R10, R629). -/
theorem State.access_next (s : State) (w : Writer) (a : Nat) (v : Word) (f : State → State) :
    ∃ t, s.access w a v f = .next t := by
  unfold State.access
  split <;> (try split) <;> (try split) <;> exact ⟨_, rfl⟩

/-- A descriptor goes on in every case: it waits, is answered, or takes its rules (R497, R529, R530). -/
theorem State.dispatch_next (s : State) (h : Desc) (op : Nat) (f : State → State) : ∃ t, s.dispatch h op f = .next t := by
  unfold State.dispatch
  split <;> (try (dsimp only; split)) <;> (try split) <;> exact ⟨_, rfl⟩

/-- A console command goes on in every case (R611, R612). -/
theorem State.conRun_next (s : State) (hw : Bool) (f : State → State) : ∃ t, s.conRun hw f = .next t := by
  unfold State.conRun
  split <;> exact ⟨_, rfl⟩

end Sys2Proof.Machine
end

