-- ==== Sys2Proof/Laws/Steady.lean ====
section
/-! SUPPORT. What every operation keeps: the canonical form of the banks, the interlock of the half-bridges and the queue
of commands. Here the relation itself, how it passes through the forms that the operations are written in, and the few
operations that touch a bank, a gate command or a stored profile. -/

namespace Sys2Proof.Machine

/-- A state keeps what another one has: canonical banks (log entry 1), the interlock (R114, R115), and its queue. -/
def Steady (s0 s : State) : Prop :=
  (s0.banksWf → s.banksWf) ∧ (s0.interlocked → s.interlocked) ∧ s.pending = s0.pending

/-- The same of an answer that carries a value. -/
def SteadyOut {α : Type} (s0 : State) (p : α × State) : Prop := Steady s0 p.2

/-- The same of an answer that carries two values. -/
def SteadyTri {α β : Type} (s0 : State) (p : α × β × State) : Prop := Steady s0 p.2.2

/-- The same of an answer that there may not be. -/
def SteadyOpt {α : Type} (s0 : State) (p : Option (α × State)) : Prop := ∀ a t, p = some (a, t) → Steady s0 t

/-- The same of a command: of the next state, where it answers one. -/
def SteadyRes (s0 : State) (r : Res) : Prop := ∀ t, r = .next t → Steady s0 t

/-- The same of a command that a register may stand for. -/
def SteadyActs (s0 : State) (r : Option Res) : Prop := ∀ t, r = some t → SteadyRes s0 t

theorem Steady.refl (s : State) : Steady s s := ⟨id, id, rfl⟩

theorem Steady.trans {s t u : State} (h : Steady s t) (g : Steady t u) : Steady s u :=
  ⟨g.1 ∘ h.1, g.2.1 ∘ h.2.1, g.2.2.trans h.2.2⟩

/-- A change of anything but the banks, the gate channels and the queue. -/
theorem Steady.same {s0 s t : State} (h : Steady s0 s) (h1 : t.regs = s.regs) (h2 : t.params = s.params)
    (h3 : t.sys.record = s.sys.record) (h4 : t.slots = s.slots) (h5 : t.sram = s.sram) (h6 : t.gc = s.gc)
    (h7 : t.pending = s.pending) : Steady s0 t := by
  simpa only [Steady, State.banksWf, State.interlocked, h1, h2, h3, h4, h5, h6, h7] using h

/-- A change of the banks that keeps them canonical. -/
theorem Steady.banks {s0 s t : State} (h : Steady s0 s) (hb : s.banksWf → t.banksWf) (h6 : t.gc = s.gc)
    (h7 : t.pending = s.pending) : Steady s0 t :=
  ⟨hb ∘ h.1, by simpa only [State.interlocked, h6] using h.2.1, h7.trans h.2.2⟩

theorem Steady.ite {s0 a b : State} {c : Prop} [Decidable c] (ha : Steady s0 a) (hb : Steady s0 b) :
    Steady s0 (if c then a else b) := by split <;> assumption

theorem SteadyOut.ite {α : Type} {s0 : State} {a b : α × State} {c : Prop} [Decidable c] (ha : SteadyOut s0 a)
    (hb : SteadyOut s0 b) : SteadyOut s0 (if c then a else b) := by split <;> assumption

theorem SteadyTri.ite {α β : Type} {s0 : State} {a b : α × β × State} {c : Prop} [Decidable c] (ha : SteadyTri s0 a)
    (hb : SteadyTri s0 b) : SteadyTri s0 (if c then a else b) := by split <;> assumption

theorem SteadyOpt.ite {α : Type} {s0 : State} {a b : Option (α × State)} {c : Prop} [Decidable c] (ha : SteadyOpt s0 a)
    (hb : SteadyOpt s0 b) : SteadyOpt s0 (if c then a else b) := by split <;> assumption

theorem SteadyRes.ite {s0 : State} {a b : Res} {c : Prop} [Decidable c] (ha : SteadyRes s0 a) (hb : SteadyRes s0 b) :
    SteadyRes s0 (if c then a else b) := by split <;> assumption

theorem SteadyActs.ite {s0 : State} {a b : Option Res} {c : Prop} [Decidable c] (ha : SteadyActs s0 a)
    (hb : SteadyActs s0 b) : SteadyActs s0 (if c then a else b) := by split <;> assumption

theorem SteadyOut.mk {α : Type} {s0 t : State} {a : α} (h : Steady s0 t) : SteadyOut s0 (a, t) := h

theorem SteadyOut.snd {α : Type} {s0 : State} {p : α × State} (h : SteadyOut s0 p) : Steady s0 p.2 := h

theorem SteadyOut.of_eq {α : Type} {s0 t : State} {a : α} {p : α × State} (q : p = (a, t)) (h : SteadyOut s0 p) :
    Steady s0 t := by subst q; exact h

theorem SteadyTri.mk {α β : Type} {s0 t : State} {a : α} {b : β} (h : Steady s0 t) : SteadyTri s0 (a, b, t) := h

theorem SteadyTri.snd {α β : Type} {s0 : State} {p : α × β × State} (h : SteadyTri s0 p) : Steady s0 p.2.2 := h

theorem SteadyOpt.mk {α : Type} {s0 t : State} {a : α} (h : Steady s0 t) : SteadyOpt s0 (some (a, t)) := by
  rintro _ _ ⟨⟩; exact h

theorem SteadyOpt.none {α : Type} {s0 : State} : SteadyOpt s0 (none : Option (α × State)) := fun _ _ h => nomatch h

theorem SteadyOpt.of_eq {α : Type} {s0 t : State} {a : α} {p : Option (α × State)} (q : p = some (a, t))
    (h : SteadyOpt s0 p) : Steady s0 t := h a t q

theorem SteadyRes.next {s0 t : State} (h : Steady s0 t) : SteadyRes s0 (.next t) := by
  rintro _ ⟨⟩; exact h

theorem SteadyRes.getD {s0 : State} {o : Option Res} {r : Res} (ho : SteadyActs s0 o) (hr : SteadyRes s0 r) :
    SteadyRes s0 (o.getD r) := by
  cases o with
  | none => exact hr
  | some x => exact ho x rfl

theorem SteadyActs.mk {s0 : State} {r : Res} (h : SteadyRes s0 r) : SteadyActs s0 (some r) := by
  rintro _ ⟨⟩; exact h

theorem SteadyActs.none {s0 : State} : SteadyActs s0 none := fun _ h => nomatch h

theorem SteadyActs.map {α : Type} {s0 : State} {f : α → Res} {o : Option α} (h : ∀ a, SteadyRes s0 (f a)) :
    SteadyActs s0 (o.map f) := by
  cases o with
  | none => exact SteadyActs.none
  | some a => exact SteadyActs.mk (h a)

theorem id_steady {s0 s : State} (h : Steady s0 s) : Steady s0 (id s) := h

theorem foldl_steady {α : Type} {s0 : State} {l : List α} {f : State → α → State} {s : State}
    (hf : ∀ t a, Steady s0 t → Steady s0 (f t a)) (h : Steady s0 s) : Steady s0 (l.foldl f s) := by
  induction l generalizing s with
  | nil => exact h
  | cons a r ih => exact ih (hf s a h)

theorem foldl_keeps {α β : Type} {P : β → Prop} {l : List α} {f : β → α → β} {b : β} (hf : ∀ b a, P b → P (f b a))
    (h : P b) : P (l.foldl f b) := by
  induction l generalizing b with
  | nil => exact h
  | cons a r ih => exact ih (hf b a h)

theorem foldl_steadyOut {α β : Type} {s0 : State} {l : List α} {f : β × State → α → β × State} {p : β × State}
    (hf : ∀ t a, SteadyOut s0 t → SteadyOut s0 (f t a)) (h : SteadyOut s0 p) : SteadyOut s0 (l.foldl f p) := by
  induction l generalizing p with
  | nil => exact h
  | cons a r ih => exact ih (hf p a h)

theorem forAll_steady {α : Type} {s0 : State} {l : List α} {f : α → State → State} {s : State}
    (hf : ∀ a t, Steady s0 t → Steady s0 (f a t)) (h : Steady s0 s) : Steady s0 (forAll l f s) :=
  foldl_steady (fun t a ht => hf a t ht) h

theorem when_steady {s0 : State} {c : Bool} {f : State → State} {s : State} (hf : ∀ t, Steady s0 t → Steady s0 (f t))
    (h : Steady s0 s) : Steady s0 (when c f s) := Steady.ite (hf s h) h

theorem Res.stateOr_steady {s0 : State} {r : Res} {s : State} (hr : SteadyRes s0 r) (h : Steady s0 s) :
    Steady s0 (r.stateOr s) := by
  cases r with
  | next t => exact hr t rfl
  | fault e => exact h
  | refused e => exact h

theorem Res.andThen_steady {s0 : State} {r : Res} {f : State → Res} (hr : SteadyRes s0 r)
    (hf : ∀ t, Steady s0 t → SteadyRes s0 (f t)) : SteadyRes s0 (r.andThen f) := by
  cases r with
  | next t => exact hf t (hr t rfl)
  | fault e => exact fun _ h => nomatch h
  | refused e => exact fun _ h => nomatch h

/-! ## The banks -/

theorem sparsePut_foldl_wf {β α : Type} [DecidableEq β] {d : Nat → β} {l : List α} {k : α → Nat} {v : α → β}
    {b : List (Nat × β)} (h : sparseWf d b = true) :
    sparseWf d (l.foldl (fun acc e => sparsePut d acc (k e) (v e)) b) = true := by
  induction l generalizing b with
  | nil => exact h
  | cons a r ih => exact ih (sparseWf_put d (k a) (v a) h)

theorem State.setReg_steady {s0 s : State} {a : Nat} {w : Word} (h : Steady s0 s) : Steady s0 (s.setReg a w) :=
  h.banks (fun ⟨h1, h2⟩ => ⟨sparseWf_put resetWord a w h1, h2⟩) rfl rfl

theorem State.setPar_steady {s0 s : State} {g i n : Nat} {w : Word} (h : Steady s0 s) : Steady s0 (s.setPar g i n w) :=
  h.banks (fun ⟨h1, h2, h3⟩ => ⟨h1, sparseWf_put paramDefault _ w h2, h3⟩) rfl rfl

theorem State.sramWrite_steady {s0 s : State} {a : Nat} {l : List Byte} (h : Steady s0 s) :
    Steady s0 (s.sramWrite a l) := by
  obtain ⟨m, e⟩ := State.sramWrite_eq l s a
  have hm := State.sramWrite_wf l s a
  rw [e] at hm ⊢
  exact h.banks (fun ⟨h1, h2, h3, h4, h5⟩ => ⟨h1, h2, h3, h4, hm h5⟩) rfl rfl

/-- A profile written into its slot with a canonical bank. -/
theorem State.setSlot_steady {s0 s : State} {n : Fin 4} {p : Profile} (h : Steady s0 s)
    (hp : s.banksWf → Bank.wfParams p.params = true) : Steady s0 { s with slots := s.slots.set n p } := by
  refine h.banks (fun hb => ⟨hb.1, hb.2.1, hb.2.2.1, fun q => ?_, hb.2.2.2.2⟩) rfl rfl
  by_cases hq : n.val = q.val
  · simpa [Vector.getElem_set, hq] using hp hb
  · simpa [Vector.getElem_set, hq] using hb.2.2.2.1 q

/-- The working copy replaced by a canonical bank. -/
theorem State.setParams_steady {s0 s : State} {b : Bank} (h : Steady s0 s)
    (hp : s.banksWf → Bank.wfParams b = true) : Steady s0 { s with params := b } :=
  h.banks (fun hb => ⟨hb.1, hp hb, hb.2.2⟩) rfl rfl

/-! ## The gate commands -/

/-- A change of the gate channels that turns none on. -/
theorem Steady.gates {s0 s t : State} (h : Steady s0 s) (h1 : t.regs = s.regs) (h2 : t.params = s.params)
    (h3 : t.sys.record = s.sys.record) (h4 : t.slots = s.slots) (h5 : t.sram = s.sram)
    (h6 : s.interlocked → t.interlocked) (h7 : t.pending = s.pending) : Steady s0 t :=
  ⟨by simpa only [State.banksWf, h1, h2, h3, h4, h5] using h.1, h6 ∘ h.2.1, h7.trans h.2.2⟩

theorem State.modGc_steady {s0 s : State} {n : Fin 28} {f : GateChan → GateChan} (h : Steady s0 s)
    (hf : ∀ g, (f g).cmd = true → g.cmd = true) : Steady s0 (s.modGc n f) := by
  refine h.gates rfl rfl rfl rfl rfl (fun hi x k hb => hi x k ?_) rfl
  have key (m : Fin 28) (hm : (s.modGc n f).gc[m].cmd = true) : s.gc[m].cmd = true := by
    by_cases hn : n.val = m.val
    · have : n = m := Fin.ext hn
      subst this
      exact hf _ (by simpa [State.modGc] using hm)
    · simpa [State.modGc, Vector.getElem_set, hn] using hm
  exact ⟨key _ hb.1, key _ hb.2⟩

end Sys2Proof.Machine
end

