-- ==== Sys2Proof/Laws/SteadyOps.lean ====
section
/-! SUPPORT. Machine/Ops.lean: what each operation keeps (Laws/Steady.lean). -/

namespace Sys2Proof.Machine

theorem State.setFld_steady {s0 s : State} {f v} (hs : Steady s0 s) :
    Steady s0 (State.setFld s f v) := by
  delta State.setFld
  exact State.setReg_steady hs

theorem State.incSat_steady {s0 s : State} {f} (hs : Steady s0 s) :
    Steady s0 (State.incSat s f) := by
  delta State.incSat
  exact State.setFld_steady hs

theorem State.setIrq_steady {s0 s : State} {k b} (hs : Steady s0 s) :
    Steady s0 (State.setIrq s k b) := by
  delta State.setIrq
  exact forAll_steady (fun t1 t2 ht2 => State.setFld_steady ht2) hs

theorem State.irq_steady {s0 s : State} {k} (hs : Steady s0 s) :
    Steady s0 (State.irq s k) := by
  delta State.irq
  exact State.setIrq_steady hs

theorem State.journalFull_steady {s0 s : State} {code unit hw d0 d1} (hs : Steady s0 s) :
    Steady s0 (State.journalFull s code unit hw d0 d1) := by
  delta State.journalFull
  refine Steady.ite hs ?_
  refine Steady.ite ?_ ?_
  · exact State.incSat_steady (Steady.same hs rfl rfl rfl rfl rfl rfl rfl)
  · extract_lets +onlyGivenNames -merge x1
    extract_lets +onlyGivenNames -merge x2
    exact State.irq_steady (State.setFld_steady (Steady.same hs rfl rfl rfl rfl rfl rfl rfl))

theorem State.journal_steady {s0 s : State} {code unit d0 d1} (hs : Steady s0 s) :
    Steady s0 (State.journal s code unit d0 d1) := by
  delta State.journal
  exact State.journalFull_steady hs

theorem State.regLocked_steady {s0 s : State} {w addr value} (hs : Steady s0 s) :
    Steady s0 (State.regLocked s w addr value) := by
  delta State.regLocked
  exact State.journal_steady hs

theorem State.access_steady {s0 s : State} {w a value} {f : State → State} (hs : Steady s0 s) (hf : ∀ t0, Steady s0 t0 → Steady s0 (f t0)) :
    SteadyRes s0 (State.access s w a value f) := by
  delta State.access
  refine SteadyRes.ite (SteadyRes.next hs) ?_
  refine SteadyRes.ite (SteadyRes.next (State.regLocked_steady hs)) ?_
  exact SteadyRes.ite (SteadyRes.next hs) (SteadyRes.next (hf _ hs))

theorem State.reply_steady {s0 s : State} {ls} (hs : Steady s0 s) :
    Steady s0 (State.reply s ls) := by
  delta State.reply
  exact Steady.same hs rfl rfl rfl rfl rfl rfl rfl

theorem State.say_steady {s0 s : State} {l} (hs : Steady s0 s) :
    Steady s0 (State.say s l) := by
  delta State.say
  exact Steady.same hs rfl rfl rfl rfl rfl rfl rfl

theorem State.modSq_steady {s0 s : State} {n f} (hs : Steady s0 s) :
    Steady s0 (State.modSq s n f) := by
  delta State.modSq
  exact Steady.same hs rfl rfl rfl rfl rfl rfl rfl

theorem State.modCq_steady {s0 s : State} {n f} (hs : Steady s0 s) :
    Steady s0 (State.modCq s n f) := by
  delta State.modCq
  exact Steady.same hs rfl rfl rfl rfl rfl rfl rfl

theorem State.incWrap_steady {s0 s : State} {f} (hs : Steady s0 s) :
    Steady s0 (State.incWrap s f) := by
  delta State.incWrap
  exact State.setFld_steady hs

theorem State.setFlag_steady {s0 s : State} {f b} (hs : Steady s0 s) :
    Steady s0 (State.setFlag s f b) := by
  delta State.setFlag
  exact State.setFld_steady hs

theorem State.msix_steady {s0 s : State} {vec} (hs : Steady s0 s) :
    Steady s0 (State.msix s vec) := by
  delta State.msix
  exact Steady.ite (State.setFld_steady hs) (Steady.same hs rfl rfl rfl rfl rfl rfl rfl)

theorem State.cqSignal_steady {s0 s : State} {n} (hs : Steady s0 s) :
    Steady s0 (State.cqSignal s n) := by
  delta State.cqSignal
  extract_lets +onlyGivenNames -merge x1 x2
  have h2 : Steady s0 x2 := State.modCq_steady hs
  clear_value x2
  exact Steady.ite (State.setFlag_steady h2) (State.msix_steady h2)

theorem State.cqWrite_steady {s0 s : State} {n e} (hs : Steady s0 s) :
    Steady s0 (State.cqWrite s n e) := by
  delta State.cqWrite
  extract_lets +onlyGivenNames -merge x1 x2 x3 x4 x5 x6
  have h6 : Steady s0 x6 := when_steady (fun t7 ht7 => State.incWrap_steady ht7) hs
  clear_value x6
  extract_lets +onlyGivenNames -merge x8 x9
  have h9 : Steady s0 x9 := when_steady (fun t10 ht10 => State.sramWrite_steady ht10) h6
  clear_value x9
  extract_lets +onlyGivenNames -merge x11
  have h11 : Steady s0 x11 := State.setFld_steady (State.modCq_steady h9)
  clear_value x11
  extract_lets +onlyGivenNames -merge x12
  have h12 : Steady s0 x12 := when_steady (fun t13 ht13 => State.setFlag_steady ht13) h11
  clear_value x12
  extract_lets +onlyGivenNames -merge x14
  have h14 : Steady s0 x14 := State.setFlag_steady h12
  clear_value x14
  refine Steady.ite h14 ?_
  extract_lets +onlyGivenNames -merge x15 x16
  have h16 : Steady s0 x16 := State.modCq_steady h14
  clear_value x16
  exact Steady.ite (State.cqSignal_steady h16) h16

theorem State.cqPush_steady {s0 s : State} {n e} (hs : Steady s0 s) :
    Steady s0 (State.cqPush s n e) := by
  delta State.cqPush
  refine Steady.ite (State.incSat_steady hs) ?_
  refine Steady.ite ?_ (State.cqWrite_steady hs)
  extract_lets +onlyGivenNames -merge x1
  have h1 : Steady s0 x1 := when_steady (fun t2 ht2 => State.incSat_steady ht2) hs
  clear_value x1
  exact State.modCq_steady h1

theorem State.complete_steady {s0 s : State} {h opcode status detail data} (hs : Steady s0 s) :
    Steady s0 (State.complete s h opcode status detail data) := by
  delta State.complete
  refine Steady.ite (Steady.ite (State.reply_steady hs) (State.say_steady hs)) ?_
  extract_lets +onlyGivenNames -merge x1 x2 x3
  have h3 : Steady s0 x3 := State.modSq_steady hs
  clear_value x3
  exact Steady.ite (State.modSq_steady h3) (State.cqPush_steady h3)

theorem State.event_steady {s0 s : State} {code data} (hs : Steady s0 s) :
    Steady s0 (State.event s code data) := by
  delta State.event
  extract_lets +onlyGivenNames -merge x1
  refine Steady.ite hs ?_
  extract_lets +onlyGivenNames -merge x2
  refine Steady.ite (State.incSat_steady hs) ?_
  refine Steady.ite ?_ (State.cqWrite_steady hs)
  exact State.incSat_steady (Steady.same hs rfl rfl rfl rfl rfl rfl rfl)

theorem State.freeBool_steady {s0 s : State} (hs : Steady s0 s) :
    SteadyOut s0 (State.freeBool s) := by
  delta State.freeBool
  exact SteadyOut.mk (Steady.same hs rfl rfl rfl rfl rfl rfl rfl)

theorem State.freeNat_steady {s0 s : State} (hs : Steady s0 s) :
    SteadyOut s0 (State.freeNat s) := by
  delta State.freeNat
  exact SteadyOut.mk (Steady.same hs rfl rfl rfl rfl rfl rfl rfl)

theorem State.freeRat_steady {s0 s : State} (hs : Steady s0 s) :
    SteadyOut s0 (State.freeRat s) := by
  delta State.freeRat
  exact SteadyOut.mk (Steady.same hs rfl rfl rfl rfl rfl rfl rfl)

theorem State.freeTime_steady {s0 s : State} (hs : Steady s0 s) :
    SteadyOut s0 (State.freeTime s) := by
  delta State.freeTime
  exact SteadyOut.mk (Steady.same hs rfl rfl rfl rfl rfl rfl rfl)

theorem State.freeWord_steady {s0 s : State} (hs : Steady s0 s) :
    SteadyOut s0 (State.freeWord s) := by
  delta State.freeWord
  exact SteadyOut.mk (Steady.same hs rfl rfl rfl rfl rfl rfl rfl)

theorem State.journalFw_steady {s0 s : State} {code unit d0 d1} (hs : Steady s0 s) :
    Steady s0 (State.journalFw s code unit d0 d1) := by
  delta State.journalFw
  exact State.journalFull_steady hs

theorem State.modLane_steady {s0 s : State} {x f} (hs : Steady s0 s) :
    Steady s0 (State.modLane s x f) := by
  delta State.modLane
  exact Steady.same hs rfl rfl rfl rfl rfl rfl rfl

theorem State.modMfe_steady {s0 s : State} {x f} (hs : Steady s0 s) :
    Steady s0 (State.modMfe s x f) := by
  delta State.modMfe
  exact Steady.same hs rfl rfl rfl rfl rfl rfl rfl

theorem State.modPos_steady {s0 s : State} {a f} (hs : Steady s0 s) :
    Steady s0 (State.modPos s a f) := by
  delta State.modPos
  exact Steady.same hs rfl rfl rfl rfl rfl rfl rfl

theorem State.modPwm_steady {s0 s : State} {x f} (hs : Steady s0 s) :
    Steady s0 (State.modPwm s x f) := by
  delta State.modPwm
  exact Steady.same hs rfl rfl rfl rfl rfl rfl rfl

theorem State.modSpd_steady {s0 s : State} {a f} (hs : Steady s0 s) :
    Steady s0 (State.modSpd s a f) := by
  delta State.modSpd
  exact Steady.same hs rfl rfl rfl rfl rfl rfl rfl

theorem State.replyErr_steady {s0 s : State} {w} (hs : Steady s0 s) :
    Steady s0 (State.replyErr s w) := by
  delta State.replyErr
  exact State.say_steady hs

theorem State.setSfld_steady {s0 s : State} {f v} (hs : Steady s0 s) :
    Steady s0 (State.setSfld s f v) := by
  delta State.setSfld
  exact State.setFld_steady hs

end Sys2Proof.Machine
end

