-- ==== Sys2Proof/Laws/SteadyDescriptor.lean ====
section
/-! SUPPORT. Machine/Descriptor.lean: what each operation keeps (Laws/Steady.lean). -/

namespace Sys2Proof.Machine

theorem State.putFwq_steady {s0 s : State} {l} (hs : Steady s0 s) :
    Steady s0 (State.putFwq s l) := by
  delta State.putFwq
  exact State.setIrq_steady (State.setFld_steady (Steady.same hs rfl rfl rfl rfl rfl rfl rfl))

theorem State.takeFw_steady {s0 s : State} {h op} (hs : Steady s0 s) :
    Steady s0 (State.takeFw s h op) := by
  delta State.takeFw
  split
  · exact State.putFwq_steady hs
  · exact hs

theorem State.taken_steady {s0 s : State} {h op} (hs : Steady s0 s) :
    Steady s0 (State.taken s h op) := by
  delta State.taken
  exact when_steady (fun t1 ht1 => State.takeFw_steady ht1) hs

theorem State.reqRes_steady {s0 s : State} {r} (hs : Steady s0 s) :
    Steady s0 (State.reqRes s r) := by
  delta State.reqRes
  exact State.setFld_steady hs

theorem State.refuse_steady {s0 s : State} {h op status} (hs : Steady s0 s) :
    Steady s0 (State.refuse s h op status) := by
  delta State.refuse
  exact State.complete_steady (when_steady (fun t1 ht1 => State.reqRes_steady ht1) hs)

theorem State.dispatch_steady {s0 s : State} {h op} {f : State → State} (hs : Steady s0 s) (hf : ∀ t0, Steady s0 t0 → Steady s0 (f t0)) :
    SteadyRes s0 (State.dispatch s h op f) := by
  delta State.dispatch
  refine SteadyRes.ite (SteadyRes.next hs) ?_
  extract_lets +onlyGivenNames -merge x1
  have h1 : Steady s0 x1 := State.taken_steady hs
  clear_value x1
  refine SteadyRes.ite (SteadyRes.next (State.refuse_steady h1)) ?_
  exact SteadyRes.ite (SteadyRes.next (State.complete_steady h1)) (SteadyRes.next (hf _ h1))

end Sys2Proof.Machine
end

