-- ==== Sys2Proof/Laws/SteadyCanBase.lean ====
section
/-! SUPPORT. Machine/CanBase.lean: what each operation keeps (Laws/Steady.lean). -/

namespace Sys2Proof.Machine

theorem State.modCan_steady {s0 s : State} {c f} (hs : Steady s0 s) :
    Steady s0 (State.modCan s c f) := by
  delta State.modCan
  exact Steady.same hs rfl rfl rfl rfl rfl rfl rfl

theorem State.canFree_steady {s0 s : State} {c b} (hs : Steady s0 s) :
    Steady s0 (State.canFree s c b) := by
  delta State.canFree
  extract_lets +onlyGivenNames -merge x1
  have h1 : Steady s0 x1 := State.modCan_steady hs
  clear_value x1
  extract_lets +onlyGivenNames -merge x2
  have h2 : ∀ t0 t1, Steady s0 t1 → Steady s0 (x2 t0 t1) := by
    unfold x2
    exact fun t3 t4 ht4 => State.setFld_steady ht4
  clear_value x2
  exact h2 _ _ (h2 _ _ h1)

theorem State.canPoll_steady {s0 s : State} {c} (hs : Steady s0 s) :
    Steady s0 (State.canPoll s c) := by
  delta State.canPoll
  refine Steady.ite hs ?_
  split
  · exact State.modCan_steady (State.setFld_steady hs)
  · exact hs

theorem State.canLoad_steady {s0 s : State} {c b f} (hs : Steady s0 s) :
    Steady s0 (State.canLoad s c b f) := by
  delta State.canLoad
  extract_lets +onlyGivenNames -merge x1
  have h1 : Steady s0 x1 := State.modCan_steady hs
  clear_value x1
  exact State.canPoll_steady (State.setFld_steady h1)

theorem State.canSafety_steady {s0 s : State} {c} (hs : Steady s0 s) :
    Steady s0 (State.canSafety s c) := by
  delta State.canSafety
  exact State.setFlag_steady hs

theorem State.canSafetyTx_steady {s0 s : State} {c ident body} (hs : Steady s0 s) :
    Steady s0 (State.canSafetyTx s c ident body) := by
  delta State.canSafetyTx
  extract_lets +onlyGivenNames -merge x1
  exact Steady.ite hs (State.canLoad_steady hs)

theorem State.canWindow_steady {s0 s : State} {c} (hs : Steady s0 s) :
    Steady s0 (State.canWindow s c) := by
  delta State.canWindow
  extract_lets +onlyGivenNames -merge x1 x2
  have h2 : Steady s0 x2 := State.setFld_steady hs
  clear_value x2
  extract_lets +onlyGivenNames -merge x3
  have h3 : Steady s0 x3 := by
    unfold x3
    split
    · refine forAll_steady (fun t4 t5 ht5 => State.setReg_steady ht5) ?_
      exact State.setReg_steady (State.setReg_steady (State.setReg_steady h2))
    · extract_lets +onlyGivenNames -merge x6
      extract_lets +onlyGivenNames -merge x7
      have h7 : Steady s0 x7 := State.setFld_steady (State.setFlag_steady (State.setFlag_steady h2))
      clear_value x7
      extract_lets +onlyGivenNames -merge x8
      have h8 : Steady s0 x8 := State.setFlag_steady (State.setFlag_steady (State.setFlag_steady h7))
      clear_value x8
      extract_lets +onlyGivenNames -merge x9
      have h9 : Steady s0 x9 := State.setFld_steady (State.setFld_steady h8)
      clear_value x9
      extract_lets +onlyGivenNames -merge x10
      have h10 : Steady s0 x10 := State.setReg_steady h9
      clear_value x10
      exact forAll_steady (fun t11 t12 ht12 => State.setReg_steady ht12) h10
  clear_value x3
  exact State.setIrq_steady h3

end Sys2Proof.Machine
end

