-- ==== Sys2Proof/Laws/SteadyWeftBase.lean ====
section
/-! SUPPORT. Machine/WeftBase.lean: what each operation keeps (Laws/Steady.lean). -/

namespace Sys2Proof.Machine

theorem State.modPort_steady {s0 s : State} {p f} (hs : Steady s0 s) :
    Steady s0 (State.modPort s p f) := by
  delta State.modPort
  exact Steady.same hs rfl rfl rfl rfl rfl rfl rfl

theorem State.portPoll_steady {s0 s : State} {p} (hs : Steady s0 s) :
    Steady s0 (State.portPoll s p) := by
  delta State.portPoll
  extract_lets +onlyGivenNames -merge x1
  refine Steady.ite hs ?_
  split
  · exact hs
  · extract_lets +onlyGivenNames -merge x2
    extract_lets +onlyGivenNames -merge x3 x4
    exact State.modPort_steady hs

theorem State.enqueue_steady {s0 s : State} {p f} (hs : Steady s0 s) :
    Steady s0 (State.enqueue s p f) := by
  delta State.enqueue
  refine Steady.ite hs ?_
  extract_lets +onlyGivenNames -merge x1
  refine Steady.ite ?_ ?_
  · exact Steady.ite (State.incSat_steady hs) (State.portPoll_steady (State.modPort_steady hs))
  · extract_lets +onlyGivenNames -merge x2
    extract_lets +onlyGivenNames -merge x3 x4
    refine Steady.ite (State.incSat_steady (State.modPort_steady hs)) ?_
    refine Steady.ite ?_ ?_
    · exact State.portPoll_steady (State.modPort_steady hs)
    · exact State.portPoll_steady (State.modPort_steady hs)

theorem State.originate0_steady {s0 s : State} {p f} (hs : Steady s0 s) :
    Steady s0 (State.originate0 s p f) := by
  delta State.originate0
  extract_lets +onlyGivenNames -merge x1 x2 x3 x4
  exact Steady.ite (State.incSat_steady hs) (State.enqueue_steady (State.modPort_steady hs))

theorem State.originate1_steady {s0 s : State} {p f} (hs : Steady s0 s) :
    Steady s0 (State.originate1 s p f) := by
  delta State.originate1
  extract_lets +onlyGivenNames -merge x1 x2 x3
  exact Steady.ite (State.modPort_steady hs) (State.enqueue_steady (State.modPort_steady hs))

theorem State.originate_steady {s0 s : State} {p f} (hs : Steady s0 s) :
    Steady s0 (State.originate s p f) := by
  delta State.originate
  split
  · exact State.originate0_steady hs
  · exact State.originate1_steady hs
  · exact State.enqueue_steady hs

theorem State.broadcast_steady {s0 s : State} {fs} (hs : Steady s0 s) :
    Steady s0 (State.broadcast s fs) := by
  delta State.broadcast
  refine forAll_steady ?_ hs
  intro t1 t2 ht2
  exact forAll_steady (fun t3 t4 ht4 => State.originate_steady ht4) ht2

theorem State.modWft_steady {s0 s : State} {f} (hs : Steady s0 s) :
    Steady s0 (State.modWft s f) := by
  delta State.modWft
  exact Steady.same hs rfl rfl rfl rfl rfl rfl rfl

theorem State.ctxLive_steady {s0 s : State} (hs : Steady s0 s) :
    Steady s0 (State.ctxLive s) := by
  delta State.ctxLive
  exact State.setFld_steady (State.setFld_steady hs)

theorem State.ctxFor_steady {s0 s : State} {addr cls pinned conn} (hs : Steady s0 s) :
    SteadyOpt s0 (State.ctxFor s addr cls pinned conn) := by
  delta State.ctxFor
  extract_lets +onlyGivenNames -merge x1
  split
  · exact SteadyOpt.mk (Steady.ite (State.ctxLive_steady (State.modWft_steady hs)) hs)
  · extract_lets +onlyGivenNames -merge x2
    refine SteadyOpt.ite ?_ ?_
    · exact SteadyOpt.mk (State.ctxLive_steady (State.modWft_steady hs))
    · split
      · exact SteadyOpt.mk (State.ctxLive_steady (State.modWft_steady hs))
      · exact SteadyOpt.none

theorem State.modCtx_steady {s0 s : State} {addr cls f conn} (hs : Steady s0 s) :
    Steady s0 (State.modCtx s addr cls f conn) := by
  delta State.modCtx
  exact State.modWft_steady hs

theorem State.pinContexts_steady {s0 s : State} (hs : Steady s0 s) :
    Steady s0 (State.pinContexts s) := by
  delta State.pinContexts
  extract_lets +onlyGivenNames -merge x1
  have h1 : Steady s0 x1 := State.modWft_steady hs
  clear_value x1
  refine State.ctxLive_steady ?_
  refine forAll_steady ?_ h1
  intro t2 t3 ht3
  refine Steady.ite ht3 ?_
  split
  · rename_i _ y4 q4
    have h4 := SteadyOpt.of_eq q4 (State.ctxFor_steady ht3)
    exact h4
  · exact State.incSat_steady ht3

theorem State.takePkt_steady {s0 s : State} {cls} (hs : Steady s0 s) :
    SteadyOut s0 (State.takePkt s cls) := by
  delta State.takePkt
  extract_lets +onlyGivenNames -merge x1
  exact SteadyOut.mk (State.modWft_steady hs)

theorem State.sendClass0_steady {s0 s : State} {body} (hs : Steady s0 s) :
    Steady s0 (State.sendClass0 s body) := by
  delta State.sendClass0
  refine Steady.ite hs ?_
  extract_lets +onlyGivenNames -merge x1
  have h1 : SteadyOut s0 x1 := State.takePkt_steady hs
  clear_value x1
  extract_lets +onlyGivenNames -merge x2 x3
  exact State.broadcast_steady (SteadyOut.snd h1)

theorem State.sendSafety_steady {s0 s : State} {k dst b body} (hs : Steady s0 s) :
    Steady s0 (State.sendSafety s k dst b body) := by
  delta State.sendSafety
  refine Steady.ite hs ?_
  split
  · exact State.incSat_steady hs
  · rename_i _ y1 q1
    have h1 := SteadyOpt.of_eq q1 (State.ctxFor_steady hs)
    extract_lets +onlyGivenNames -merge x2 x3 x4
    have h4 : Steady s0 x4 := State.modCtx_steady h1
    clear_value x4
    exact State.originate_steady h4

theorem State.setCost_steady {s0 s : State} {a p c} (hs : Steady s0 s) :
    Steady s0 (State.setCost s a p c) := by
  delta State.setCost
  exact State.modPort_steady hs

theorem State.weftLive_steady {s0 s : State} (hs : Steady s0 s) :
    Steady s0 (State.weftLive s) := by
  delta State.weftLive
  extract_lets +onlyGivenNames -merge x1 x2
  have h2 : Steady s0 x2 := when_steady (fun t3 ht3 => State.setFld_steady ht3) hs
  clear_value x2
  extract_lets +onlyGivenNames -merge x4
  have h4 : Steady s0 x4 := State.setFld_steady h2
  clear_value x4
  extract_lets +onlyGivenNames -merge x5
  have h5 : Steady s0 x5 := State.setFld_steady (State.setFld_steady h4)
  clear_value x5
  exact State.setFlag_steady (State.setFld_steady h5)

end Sys2Proof.Machine
end

