-- ==== Sys2Proof/Laws/SteadySafeState.lean ====
section
/-! SUPPORT. Machine/SafeState.lean: what each operation keeps (Laws/Steady.lean). -/

namespace Sys2Proof.Machine

theorem State.abortTests_steady {s0 s : State} {x} (hs : Steady s0 s) :
    Steady s0 (State.abortTests s x) := by
  delta State.abortTests
  refine forAll_steady ?_ hs
  intro t1 t2 ht2
  exact Steady.ite (State.setFlag_steady (State.setFlag_steady ht2)) ht2

theorem State.islandRequest_steady {s0 s : State} {x} (hs : Steady s0 s) :
    Steady s0 (State.islandRequest s x) := by
  delta State.islandRequest
  extract_lets +onlyGivenNames -merge x1 x2
  refine Steady.ite (Steady.same hs rfl rfl rfl rfl rfl rfl rfl) ?_
  refine Steady.ite ?_ ?_
  · exact Steady.same hs rfl rfl rfl rfl rfl rfl rfl
  · exact Steady.same hs rfl rfl rfl rfl rfl rfl rfl

theorem State.forceOff_steady {s0 s : State} {n} (hs : Steady s0 s) :
    Steady s0 (State.forceOff s n) := by
  delta State.forceOff
  extract_lets +onlyGivenNames -merge x1
  exact State.setFld_steady (State.modGc_steady hs (fun _ h => h))

theorem State.followEnable_steady {s0 s : State} {x} (hs : Steady s0 s) :
    Steady s0 (State.followEnable s x) := by
  delta State.followEnable
  extract_lets +onlyGivenNames -merge x1
  refine Steady.ite ?_ ?_
  · extract_lets +onlyGivenNames -merge x2
    extract_lets +onlyGivenNames -merge x3
    have h3 : Steady s0 x3 := Steady.same hs rfl rfl rfl rfl rfl rfl rfl
    clear_value x3
    extract_lets +onlyGivenNames -merge x4
    have h4 : Steady s0 x4 := forAll_steady (fun t5 t6 ht6 => State.setFlag_steady ht6) h3
    clear_value x4
    exact forAll_steady (fun t7 t8 ht8 => State.forceOff_steady ht8) h4
  · refine Steady.ite ?_ hs
    extract_lets +onlyGivenNames -merge x9 x10
    have h10 : Steady s0 x10 := Steady.same hs rfl rfl rfl rfl rfl rfl rfl
    clear_value x10
    exact Steady.ite (forAll_steady (fun t11 t12 ht12 => State.setFlag_steady ht12) h10) h10

theorem State.dropOffsets_steady {s0 s : State} {a} (hs : Steady s0 s) :
    Steady s0 (State.dropOffsets s a) := by
  delta State.dropOffsets
  refine forAll_steady ?_ hs
  intro t1 t2 ht2
  refine Steady.ite ht2 ?_
  extract_lets +onlyGivenNames -merge x3 x4
  have h4 : Steady s0 x4 := State.modMfe_steady ht2
  clear_value x4
  exact Steady.ite (State.replyErr_steady (Steady.same h4 rfl rfl rfl rfl rfl rfl rfl)) h4

theorem State.finish_steady {s0 s : State} {pick status detail} (hs : Steady s0 s) :
    Steady s0 (State.finish s pick status detail) := by
  delta State.finish
  extract_lets +onlyGivenNames -merge x1 x2 x3
  have h3 : Steady s0 x3 := Steady.same hs rfl rfl rfl rfl rfl rfl rfl
  clear_value x3
  exact forAll_steady (fun t4 t5 ht5 => State.complete_steady ht5) h3

theorem State.finishEnable_steady {s0 s : State} {a status detail} (hs : Steady s0 s) :
    Steady s0 (State.finishEnable s a status detail) := by
  delta State.finishEnable
  exact State.finish_steady hs

theorem State.endStart_steady {s0 s : State} {a result} (hs : Steady s0 s) :
    Steady s0 (State.endStart s a result) := by
  delta State.endStart
  refine Steady.ite hs ?_
  extract_lets +onlyGivenNames -merge x1
  have h1 : Steady s0 x1 := State.modPos_steady hs
  clear_value x1
  extract_lets +onlyGivenNames -merge x2
  have h2 : Steady s0 x2 := forAll_steady (fun t3 t4 ht4 => State.modPwm_steady ht4) h1
  clear_value x2
  extract_lets +onlyGivenNames -merge x5
  have h5 : Steady s0 x5 := State.setFld_steady (State.setFld_steady h2)
  clear_value x5
  extract_lets +onlyGivenNames -merge x6
  have h6 : Steady s0 x6 := State.setFlag_steady h5
  clear_value x6
  extract_lets +onlyGivenNames -merge x7
  have h7 : Steady s0 x7 := State.journal_steady h6
  clear_value x7
  exact State.finishEnable_steady h7

theorem State.endShock_steady {s0 s : State} {a} (hs : Steady s0 s) :
    Steady s0 (State.endShock s a) := by
  delta State.endShock
  split
  · exact hs
  · extract_lets +onlyGivenNames -merge x1
    extract_lets +onlyGivenNames -merge x2 x3
    have h3 : Steady s0 x3 := State.modSpd_steady hs
    clear_value x3
    exact State.setFld_steady (State.setFlag_steady h3)

theorem State.endVent_steady {s0 s : State} {a} (hs : Steady s0 s) :
    Steady s0 (State.endVent s a) := by
  delta State.endVent
  split
  · exact hs
  · extract_lets +onlyGivenNames -merge x1
    extract_lets +onlyGivenNames -merge x2 x3 x4
    have h4 : Steady s0 x4 := State.modSpd_steady hs
    clear_value x4
    extract_lets +onlyGivenNames -merge x5
    have h5 : Steady s0 x5 := State.setFlag_steady (State.setFlag_steady h4)
    clear_value x5
    exact State.setFld_steady h5

theorem State.axisIdle_steady {s0 s : State} {a} (hs : Steady s0 s) :
    Steady s0 (State.axisIdle s a) := by
  delta State.axisIdle
  extract_lets +onlyGivenNames -merge x1
  have h1 : Steady s0 x1 := State.endVent_steady (State.endShock_steady hs)
  clear_value x1
  extract_lets +onlyGivenNames -merge x2
  have h2 : Steady s0 x2 := State.modSpd_steady h1
  clear_value x2
  extract_lets +onlyGivenNames -merge x3
  have h3 : Steady s0 x3 := State.setFlag_steady (State.setFld_steady h2)
  clear_value x3
  extract_lets +onlyGivenNames -merge x4
  have h4 : Steady s0 x4 := forAll_steady (fun t5 t6 ht6 => State.setFlag_steady ht6) h3
  clear_value x4
  extract_lets +onlyGivenNames -merge x7
  have h7 : Steady s0 x7 := Steady.ite h4 (forAll_steady (fun t8 t9 ht9 => State.setFld_steady ht9) h4)
  clear_value x7
  extract_lets +onlyGivenNames -merge x10
  have h10 : Steady s0 x10 := forAll_steady (fun t11 t12 ht12 => State.setReg_steady ht12) h7
  clear_value x10
  extract_lets +onlyGivenNames -merge x13
  have h13 : Steady s0 x13 := forAll_steady (fun t14 t15 ht15 => State.modPwm_steady ht15) h10
  clear_value x13
  exact State.modPos_steady h13

theorem State.mapCopy_steady {s0 s : State} {a : Fin 4} (h : Steady s0 s) : Steady s0 (s.mapCopy a) := by
  delta State.mapCopy
  split
  · exact h
  · extract_lets +onlyGivenNames put all x1 x2
    have hw (b : Bank) (hb : Bank.wfParams b = true) : Bank.wfParams (all b) = true := by
      exact foldl_keeps (P := fun b => Bank.wfParams b = true)
        (fun _ _ h => sparseWf_put paramDefault _ _ (sparseWf_put paramDefault _ _ h)) hb
    clear_value all
    have h1 : Steady s0 x1 := State.setParams_steady h fun hb => hw _ hb.2.1
    clear_value x1
    have h2 : Steady s0 x2 := by
      unfold x2
      split
      · exact State.setSlot_steady h1 fun hb => hw _ (hb.2.2.2.1 _)
      · exact h1
    clear_value x2
    exact State.setFlag_steady (State.modPos_steady h2)

theorem State.setAxis_steady {s0 s : State} {a v} (hs : Steady s0 s) :
    Steady s0 (State.setAxis s a v) := by
  delta State.setAxis
  extract_lets +onlyGivenNames -merge x1
  refine Steady.ite hs ?_
  extract_lets +onlyGivenNames -merge x2 x3
  have h3 : Steady s0 x3 := State.irq_steady (State.setFld_steady hs)
  clear_value x3
  extract_lets +onlyGivenNames -merge x4
  have h4 : Steady s0 x4 := State.event_steady h3
  clear_value x4
  extract_lets +onlyGivenNames -merge x5
  have h5 : Steady s0 x5 := State.setFlag_steady h4
  clear_value x5
  extract_lets +onlyGivenNames -merge x6 x7
  have h7 : Steady s0 x7 := when_steady (fun t8 ht8 => State.setFld_steady (State.modPos_steady ht8)) h5
  clear_value x7
  refine Steady.ite h7 ?_
  extract_lets +onlyGivenNames -merge x9
  have h9 : Steady s0 x9 := State.modSpd_steady h7
  clear_value x9
  extract_lets +onlyGivenNames -merge x10
  have h10 : Steady s0 x10 := when_steady (fun t11 ht11 => State.dropOffsets_steady ht11) h9
  clear_value x10
  extract_lets +onlyGivenNames -merge x12
  have h12 : Steady s0 x12 := State.axisIdle_steady (State.endStart_steady h10)
  clear_value x12
  exact Steady.ite (State.mapCopy_steady h12) h12

theorem State.axisFault_steady {s0 s : State} {a bit} (hs : Steady s0 s) :
    Steady s0 (State.axisFault s a bit) := by
  delta State.axisFault
  extract_lets +onlyGivenNames -merge x1
  have h1 : Steady s0 x1 := State.setFld_steady hs
  clear_value x1
  extract_lets +onlyGivenNames -merge x2 x3
  have h3 : Steady s0 x3 := when_steady (fun t4 ht4 => State.modPos_steady ht4) h1
  clear_value x3
  exact when_steady (fun t5 ht5 => State.setAxis_steady ht5) h3

theorem State.endSeries_steady {s0 s : State} {a} (hs : Steady s0 s) :
    Steady s0 (State.endSeries s a) := by
  delta State.endSeries
  exact State.axisFault_steady (State.modPos_steady hs)

theorem State.axisDisable_steady {s0 s : State} {a} (hs : Steady s0 s) :
    Steady s0 (State.axisDisable s a) := by
  delta State.axisDisable
  exact Steady.ite (State.endSeries_steady hs) (when_steady (fun t1 ht1 => State.setAxis_steady ht1) hs)

theorem State.applySto_steady {s0 s : State} (hs : Steady s0 s) :
    Steady s0 (State.applySto s) := by
  delta State.applySto
  extract_lets +onlyGivenNames -merge x1
  have h1 : Steady s0 x1 := forAll_steady (fun t2 t3 ht3 => State.followEnable_steady (State.islandRequest_steady ht3)) hs
  clear_value x1
  extract_lets +onlyGivenNames -merge x4
  have h4 : Steady s0 x4 := State.setFlag_steady (State.setFlag_steady h1)
  clear_value x4
  refine forAll_steady ?_ h4
  intro t5 t6 ht6
  extract_lets +onlyGivenNames -merge x7 x8
  have h8 : Steady s0 x8 := State.setFlag_steady ht6
  clear_value x8
  exact Steady.ite (State.axisDisable_steady h8) h8

theorem State.putSetState_steady {s0 s : State} {x v} (hs : Steady s0 s) :
    Steady s0 (State.putSetState s x v) := by
  delta State.putSetState
  exact State.setFld_steady hs

theorem State.ascCheck_steady {s0 s : State} {x} (hs : Steady s0 s) :
    Steady s0 (State.ascCheck s x) := by
  delta State.ascCheck
  extract_lets +onlyGivenNames -merge x1
  exact Steady.ite (State.putSetState_steady hs) hs

theorem State.beginOffsets_steady {s0 s : State} {x con} (hs : Steady s0 s) :
    Steady s0 (State.beginOffsets s x con) := by
  delta State.beginOffsets
  extract_lets +onlyGivenNames -merge x1
  exact State.modMfe_steady hs

theorem State.modPrg_steady {s0 s : State} {c f} (hs : Steady s0 s) :
    Steady s0 (State.modPrg s c f) := by
  delta State.modPrg
  exact Steady.same hs rfl rfl rfl rfl rfl rfl rfl

theorem State.prgStop_steady {s0 s : State} {c k halts} (hs : Steady s0 s) :
    Steady s0 (State.prgStop s c k halts) := by
  delta State.prgStop
  extract_lets +onlyGivenNames -merge x1
  have h1 : Steady s0 x1 := State.modPrg_steady hs
  clear_value x1
  extract_lets +onlyGivenNames -merge x2 x3
  exact Steady.ite (State.setFlag_steady (State.modPrg_steady h1)) h1

theorem State.softStop_steady {s0 s : State} {c} (hs : Steady s0 s) :
    Steady s0 (State.softStop s c) := by
  delta State.softStop
  exact Steady.ite hs (State.setFlag_steady hs)

theorem State.startTimer_steady {s0 s : State} {k} (hs : Steady s0 s) :
    Steady s0 (State.startTimer s k) := by
  delta State.startTimer
  exact Steady.same hs rfl rfl rfl rfl rfl rfl rfl

theorem State.enterStopping_steady {s0 s : State} {a quick still} (hs : Steady s0 s) :
    Steady s0 (State.enterStopping s a quick still) := by
  delta State.enterStopping
  extract_lets +onlyGivenNames -merge x1 x2 x3
  have h3 : Steady s0 x3 := State.modSpd_steady (State.endVent_steady hs)
  clear_value x3
  exact State.setAxis_steady (State.startTimer_steady (State.setReg_steady h3))

theorem State.beginStop_steady {s0 s : State} {a quick} (hs : Steady s0 s) :
    Steady s0 (State.beginStop s a quick) := by
  delta State.beginStop
  extract_lets +onlyGivenNames -merge x1 x2 x3 x4
  refine Steady.ite (State.modSpd_steady hs) ?_
  refine Steady.ite ?_ ?_
  · extract_lets +onlyGivenNames -merge x5
    have h5 : Steady s0 x5 := when_steady (fun t6 ht6 => State.softStop_steady (State.prgStop_steady ht6)) hs
    clear_value x5
    exact State.enterStopping_steady h5
  · refine Steady.ite ?_ hs
    extract_lets +onlyGivenNames -merge x7
    have h7 : Steady s0 x7 := when_steady (fun t8 ht8 => State.softStop_steady (State.prgStop_steady ht8)) hs
    clear_value x7
    exact State.modSpd_steady h7

theorem State.modPsp_steady {s0 s : State} {x f} (hs : Steady s0 s) :
    Steady s0 (State.modPsp s x f) := by
  delta State.modPsp
  exact Steady.same hs rfl rfl rfl rfl rfl rfl rfl

theorem State.edge_steady {s0 s : State} {n} (hs : Steady s0 s) :
    Steady s0 (State.edge s n) := by
  delta State.edge
  exact State.modPsp_steady hs

theorem State.chanOff_steady {s0 s : State} {n} (hs : Steady s0 s) :
    Steady s0 (State.chanOff s n) := by
  delta State.chanOff
  extract_lets +onlyGivenNames -merge x1 x2 x3
  have h3 : Steady s0 x3 := State.setFlag_steady hs
  clear_value x3
  extract_lets +onlyGivenNames -merge x4
  have h4 : Steady s0 x4 := Steady.ite (Steady.same h3 rfl rfl rfl rfl rfl rfl rfl) (State.setFlag_steady h3)
  clear_value x4
  extract_lets +onlyGivenNames -merge x5
  have h5 : Steady s0 x5 := State.modGc_steady h4 (fun _ h => nomatch h)
  clear_value x5
  exact when_steady (fun t6 ht6 => State.edge_steady ht6) h5

theorem State.chopperOn_steady {s0 s : State} {x : Fin 4} (hs : Steady s0 s) : Steady s0 (s.chopperOn x) := by
  delta State.chopperOn
  extract_lets +onlyGivenNames -merge x1
  refine Steady.ite hs ?_
  have h : Steady s0 (s.setFlag (Fld.PSP_STATE_CHOP_ON x) true) := State.setFlag_steady hs
  refine State.edge_steady (h.gates rfl rfl rfl rfl rfl (fun hi y k hb => hi y k ?_) rfl)
  have h1 : x1.val = 24 + x.val := Nat.mod_eq_of_lt (by omega)
  have h2 : (hiChan y k).val = 6 * y.val + 2 * k.val := Nat.mod_eq_of_lt (by omega)
  have h3 : (loChan y k).val = 6 * y.val + 2 * k.val + 1 := Nat.mod_eq_of_lt (by omega)
  have h4 : x1.val ≠ (hiChan y k).val := by omega
  have h5 : x1.val ≠ (loChan y k).val := by omega
  simpa [State.modGc, Vector.getElem_set, h4, h5] using hb

theorem State.chopSwitch_steady {s0 s : State} {x on} (hs : Steady s0 s) :
    Steady s0 (State.chopSwitch s x on) := by
  delta State.chopSwitch
  extract_lets +onlyGivenNames -merge x1
  refine Steady.ite hs ?_
  extract_lets +onlyGivenNames -merge x2
  have h2 : Steady s0 x2 := State.modPsp_steady hs
  clear_value x2
  exact Steady.ite (State.chopperOn_steady h2) (State.chanOff_steady h2)

theorem State.chopControl_steady {s0 s : State} {x} (hs : Steady s0 s) :
    Steady s0 (State.chopControl s x) := by
  delta State.chopControl
  extract_lets +onlyGivenNames -merge x1 x2 x3
  refine Steady.ite (Steady.ite (State.chopSwitch_steady hs) hs) ?_
  refine Steady.ite ?_ ?_
  · exact Steady.ite hs (State.chopSwitch_steady (State.modPsp_steady hs))
  · refine Steady.ite (Steady.ite (State.chopSwitch_steady hs) hs) ?_
    refine Steady.ite (State.modPsp_steady hs) ?_
    refine Steady.ite hs ?_
    exact Steady.ite (State.chopSwitch_steady hs) (Steady.ite (State.chopSwitch_steady hs) hs)

theorem State.cutJog_steady {s0 s : State} (hs : Steady s0 s) :
    Steady s0 (State.cutJog s) := by
  delta State.cutJog
  split
  · exact State.modPrg_steady hs
  · exact hs

theorem State.dropZero_steady {s0 s : State} {x} (hs : Steady s0 s) :
    Steady s0 (State.dropZero s x) := by
  delta State.dropZero
  extract_lets +onlyGivenNames -merge x1
  exact State.modMfe_steady hs

theorem State.phasesOff_steady {s0 s : State} {x} (hs : Steady s0 s) :
    Steady s0 (State.phasesOff s x) := by
  delta State.phasesOff
  exact forAll_steady (fun t1 t2 ht2 => State.chanOff_steady ht2) hs

theorem State.stopTest_steady {s0 s : State} (hs : Steady s0 s) :
    Steady s0 (State.stopTest s) := by
  delta State.stopTest
  split
  · exact hs
  · extract_lets +onlyGivenNames -merge x1
    extract_lets +onlyGivenNames -merge x2
    have h2 : Steady s0 x2 := Steady.same hs rfl rfl rfl rfl rfl rfl rfl
    clear_value x2
    extract_lets +onlyGivenNames -merge x3
    have h3 : Steady s0 x3 := by
      unfold x3
      split
      · exact State.setFlag_steady h2
      · exact h2
    clear_value x3
    extract_lets +onlyGivenNames -merge x4
    have h4 : Steady s0 x4 := State.setFld_steady (State.setFlag_steady h3)
    clear_value x4
    split
    · extract_lets +onlyGivenNames -merge x5
      have h5 : Steady s0 x5 := State.modPwm_steady h4
      clear_value x5
      exact State.chopControl_steady (when_steady (fun t6 ht6 => State.phasesOff_steady ht6) h5)
    · exact h4

theorem State.endTest_steady {s0 s : State} {w} (hs : Steady s0 s) :
    Steady s0 (State.endTest s w) := by
  delta State.endTest
  exact Steady.ite (State.replyErr_steady (State.stopTest_steady (State.cutJog_steady hs))) hs

theorem State.placeCarrier_steady {s0 s : State} {x} (hs : Steady s0 s) :
    Steady s0 (State.placeCarrier s x) := by
  delta State.placeCarrier
  extract_lets +onlyGivenNames -merge x1 x2
  exact State.setFlag_steady (State.modPwm_steady hs)

theorem State.stepOffset_steady {s0 s : State} {x} (hs : Steady s0 s) :
    Steady s0 (State.stepOffset s x) := by
  delta State.stepOffset
  extract_lets +onlyGivenNames -merge x1 x2
  have h2 : Steady s0 x2 := State.setFlag_steady (State.modPwm_steady hs)
  clear_value x2
  exact Steady.ite (State.placeCarrier_steady h2) h2

theorem State.markFrame_steady {s0 s : State} {n b} (hs : Steady s0 s) :
    Steady s0 (State.markFrame s n b) := by
  delta State.markFrame
  refine Steady.ite hs ?_
  extract_lets +onlyGivenNames -merge x1
  exact State.setFlag_steady (State.modGc_steady hs (fun _ h => h))

theorem State.setMarker_steady {s0 s : State} {x b} (hs : Steady s0 s) :
    Steady s0 (State.setMarker s x b) := by
  delta State.setMarker
  exact forAll_steady (fun t1 t2 ht2 => State.markFrame_steady ht2) hs

theorem State.shootEvent_steady {s0 s : State} {h simul} (hs : Steady s0 s) :
    Steady s0 (State.shootEvent s h simul) := by
  delta State.shootEvent
  extract_lets +onlyGivenNames -merge x1 x2
  have h2 : Steady s0 x2 := State.setFld_steady (State.incSat_steady hs)
  clear_value x2
  extract_lets +onlyGivenNames -merge x3
  have h3 : Steady s0 x3 := State.setFlag_steady h2
  clear_value x3
  extract_lets +onlyGivenNames -merge x4 x5 x6
  have h6 : Steady s0 x6 := Steady.same h3 rfl rfl rfl rfl rfl rfl rfl
  clear_value x6
  extract_lets +onlyGivenNames -merge x7 x8 x9 x10 x11
  have h11 : Steady s0 x11 := by
    unfold x11
    refine when_steady ?_ h6
    intro t12 ht12
    extract_lets +onlyGivenNames -merge x13
    have h13 : Steady s0 x13 := State.setFlag_steady ht12
    clear_value x13
    extract_lets +onlyGivenNames -merge x14
    have h14 : Steady s0 x14 := State.setFlag_steady h13
    clear_value x14
    exact State.setFlag_steady h14
  clear_value x11
  exact State.journal_steady h11

theorem State.requestOn_steady {s0 s : State} {n} (hs : Steady s0 s) :
    Steady s0 (State.requestOn s n) := by
  delta State.requestOn
  refine Steady.ite hs ?_
  extract_lets +onlyGivenNames -merge x1 x2 x3
  have h3 : Steady s0 x3 := State.setFlag_steady (State.modGc_steady hs (fun _ h => h))
  clear_value x3
  exact Steady.ite (State.shootEvent_steady (Steady.same h3 rfl rfl rfl rfl rfl rfl rfl)) h3

theorem State.enterSet_steady {s0 s : State} {x v} (hs : Steady s0 s) :
    Steady s0 (State.enterSet s x v) := by
  delta State.enterSet
  extract_lets +onlyGivenNames -merge x1
  have h1 : Steady s0 x1 := when_steady (fun t2 ht2 => State.setFlag_steady ht2) hs
  clear_value x1
  extract_lets +onlyGivenNames -merge x3
  have h3 : Steady s0 x3 := when_steady (fun t4 ht4 => State.stepOffset_steady ht4) h1
  clear_value x3
  extract_lets +onlyGivenNames -merge x5
  have h5 : Steady s0 x5 := State.setFlag_steady h3
  clear_value x5
  split
  · exact State.putSetState_steady (State.setMarker_steady h5)
  · exact State.putSetState_steady (State.setMarker_steady (State.phasesOff_steady h5))
  · refine State.putSetState_steady ?_
    exact State.setMarker_steady (State.phasesOff_steady (State.abortTests_steady h5))
  · refine State.putSetState_steady ?_
    exact State.chopControl_steady (State.setMarker_steady (State.phasesOff_steady h5))
  · extract_lets +onlyGivenNames -merge x6
    have h6 : Steady s0 x6 := State.putSetState_steady (State.abortTests_steady h5)
    clear_value x6
    extract_lets +onlyGivenNames -merge x7
    have h7 : Steady s0 x7 := forAll_steady (fun t8 t9 ht9 => State.chanOff_steady ht9) h6
    clear_value x7
    extract_lets +onlyGivenNames -merge x10
    have h10 : Steady s0 x10 := forAll_steady (fun t11 t12 ht12 => State.requestOn_steady ht12) h7
    clear_value x10
    exact State.ascCheck_steady (State.setMarker_steady h10)
  · extract_lets +onlyGivenNames -merge x13
    have h13 : Steady s0 x13 := State.putSetState_steady (State.abortTests_steady h5)
    clear_value x13
    extract_lets +onlyGivenNames -merge x14
    have h14 : Steady s0 x14 := forAll_steady (fun t15 t16 ht16 => State.chanOff_steady ht16) h13
    clear_value x14
    extract_lets +onlyGivenNames -merge x17
    have h17 : Steady s0 x17 := forAll_steady (fun t18 t19 ht19 => State.requestOn_steady ht19) h14
    clear_value x17
    exact State.ascCheck_steady (State.setMarker_steady h17)

theorem State.faultNotice_steady {s0 s : State} {a fault} (hs : Steady s0 s) :
    Steady s0 (State.faultNotice s a fault) := by
  delta State.faultNotice
  exact Steady.ite hs (State.sendClass0_steady hs)

theorem State.reportSetFault_steady {s0 s : State} {x} (hs : Steady s0 s) :
    Steady s0 (State.reportSetFault s x) := by
  delta State.reportSetFault
  extract_lets +onlyGivenNames -merge x1
  exact State.irq_steady (State.event_steady (State.journal_steady hs))

theorem State.latchSet_steady {s0 s : State} {x l} (hs : Steady s0 s) :
    Steady s0 (State.latchSet s x l) := by
  delta State.latchSet
  extract_lets +onlyGivenNames -merge x1 x2
  refine Steady.ite hs ?_
  extract_lets +onlyGivenNames -merge x3
  have h3 : Steady s0 x3 := State.endTest_steady (State.reportSetFault_steady (State.setReg_steady hs))
  clear_value x3
  extract_lets +onlyGivenNames -merge x4
  have h4 : Steady s0 x4 := by
    unfold x4
    refine forAll_steady ?_ h3
    intro t5 t6 ht6
    exact Steady.ite ht6 (State.reportSetFault_steady (State.setFlag_steady ht6))
  clear_value x4
  split
  · extract_lets +onlyGivenNames -merge x7
    exact State.axisFault_steady (when_steady (fun t8 ht8 => State.faultNotice_steady ht8) h4)
  · exact h4

theorem State.latchGate_steady {s0 s : State} {n} (hs : Steady s0 s) :
    Steady s0 (State.latchGate s n) := by
  delta State.latchGate
  extract_lets +onlyGivenNames -merge x1 x2
  exact State.latchSet_steady (State.setFld_steady hs)

theorem State.gateFault_steady {s0 s : State} {n f} (hs : Steady s0 s) :
    Steady s0 (State.gateFault s n f) := by
  delta State.gateFault
  exact State.latchGate_steady (State.setFlag_steady hs)

theorem State.setMode_steady {s0 s : State} {m} (hs : Steady s0 s) :
    Steady s0 (State.setMode s m) := by
  delta State.setMode
  extract_lets +onlyGivenNames -merge x1 x2
  have h2 : Steady s0 x2 := State.setFld_steady (State.setFld_steady hs)
  clear_value x2
  extract_lets +onlyGivenNames -merge x3
  have h3 : Steady s0 x3 := State.say_steady (State.event_steady h2)
  clear_value x3
  extract_lets +onlyGivenNames -merge x4 x5
  have h5 : Steady s0 x5 := Steady.same h3 rfl rfl rfl rfl rfl rfl rfl
  clear_value x5
  refine Steady.ite ?_ h5
  exact forAll_steady (fun t6 t7 ht7 => when_steady (fun t8 ht8 => State.setAxis_steady ht8) ht7) h5

theorem State.latchHold_steady {s0 s : State} {cause detail} (hs : Steady s0 s) :
    Steady s0 (State.latchHold s cause detail) := by
  delta State.latchHold
  refine Steady.ite ?_ hs
  extract_lets +onlyGivenNames -merge x1
  have h1 : Steady s0 x1 := State.setFlag_steady (State.setFld_steady hs)
  clear_value x1
  extract_lets +onlyGivenNames -merge x2
  have h2 : Steady s0 x2 := forAll_steady (fun t3 t4 ht4 => State.modPsp_steady ht4) h1
  clear_value x2
  extract_lets +onlyGivenNames -merge x5
  have h5 : Steady s0 x5 := State.journal_steady h2
  clear_value x5
  extract_lets +onlyGivenNames -merge x6 x7
  have h7 : Steady s0 x7 := Steady.same h5 rfl rfl rfl rfl rfl rfl rfl
  clear_value x7
  exact State.setMode_steady (State.endTest_steady h7)

theorem State.leaveService_steady {s0 s : State} (hs : Steady s0 s) :
    Steady s0 (State.leaveService s) := by
  delta State.leaveService
  exact Steady.ite (State.setMode_steady (State.endTest_steady hs)) hs

theorem State.newAsks_steady {s0 s : State} {x} (hs : Steady s0 s) :
    Steady s0 (State.newAsks s x) := by
  delta State.newAsks
  extract_lets +onlyGivenNames -merge x1
  exact State.modPsp_steady (when_steady (fun t2 ht2 => State.abortTests_steady ht2) hs)

theorem State.sense_steady {s0 s : State} {n gs} (hs : Steady s0 s) :
    Steady s0 (State.sense s n gs) := by
  delta State.sense
  exact State.setFlag_steady (State.setFlag_steady (State.modGc_steady hs (fun _ h => h)))

theorem State.senseAgain_steady {s0 s : State} {n} (hs : Steady s0 s) :
    Steady s0 (State.senseAgain s n) := by
  delta State.senseAgain
  exact Steady.ite (State.sense_steady hs) hs

theorem State.settleSet_steady {s0 s : State} {x} (hs : Steady s0 s) :
    Steady s0 (State.settleSet s x) := by
  delta State.settleSet
  extract_lets +onlyGivenNames -merge x1
  have h1 : Steady s0 x1 := State.newAsks_steady hs
  clear_value x1
  extract_lets +onlyGivenNames -merge x2
  have h2 : Steady s0 x2 := when_steady (fun t3 ht3 => State.modPsp_steady ht3) h1
  clear_value x2
  split
  · exact Steady.ite (State.enterSet_steady h2) h2
  · exact Steady.ite h2 (State.enterSet_steady h2)
  · exact Steady.ite h2 (State.enterSet_steady h2)

theorem State.shootCheck_steady {s0 s : State} {x} (hs : Steady s0 s) :
    Steady s0 (State.shootCheck s x) := by
  delta State.shootCheck
  exact when_steady (fun t1 ht1 => State.latchSet_steady ht1) hs

theorem State.stopTimer_steady {s0 s : State} {k} (hs : Steady s0 s) :
    Steady s0 (State.stopTimer s k) := by
  delta State.stopTimer
  exact Steady.same hs rfl rfl rfl rfl rfl rfl rfl

theorem State.timeWhile_steady {s0 s : State} {k on} (hs : Steady s0 s) :
    Steady s0 (State.timeWhile s k on) := by
  delta State.timeWhile
  exact Steady.ite (State.stopTimer_steady hs) (Steady.ite hs (State.startTimer_steady hs))

theorem State.writePhase_steady {s0 s : State} {x phase} (hs : Steady s0 s) :
    Steady s0 (State.writePhase s x phase) := by
  delta State.writePhase
  extract_lets +onlyGivenNames -merge x1
  have h1 : Steady s0 x1 := State.setFld_steady hs
  clear_value x1
  exact Steady.ite (State.setFlag_steady h1) (State.stepOffset_steady h1)

end Sys2Proof.Machine
end

