-- ==== Sys2Proof/Laws/SteadyMember.lean ====
section
/-! SUPPORT. Machine/Member.lean: what each operation keeps (Laws/Steady.lean). -/

namespace Sys2Proof.Machine

theorem State.joinPhase_steady {s0 s : State} {x} (hs : Steady s0 s) :
    Steady s0 (State.joinPhase s x) := by
  delta State.joinPhase
  exact State.writePhase_steady hs

theorem State.interleave_steady {s0 s : State} {a} (hs : Steady s0 s) :
    Steady s0 (State.interleave s a) := by
  delta State.interleave
  exact forAll_steady (fun t1 t2 ht2 => State.joinPhase_steady ht2) hs

theorem State.modLsh_steady {s0 s : State} {a f} (hs : Steady s0 s) :
    Steady s0 (State.modLsh s a f) := by
  delta State.modLsh
  exact Steady.same hs rfl rfl rfl rfl rfl rfl rfl

theorem State.setTm_steady {s0 s : State} {a t} (hs : Steady s0 s) :
    Steady s0 (State.setTm s a t) := by
  delta State.setTm
  exact State.setReg_steady (State.modLsh_steady hs)

theorem State.memberPoll_steady {s0 s : State} {a} (hs : Steady s0 s) :
    Steady s0 (State.memberPoll s a) := by
  delta State.memberPoll
  extract_lets +onlyGivenNames -merge x1 x2 x3
  have h3 : ∀ t0 t1, Steady s0 t1 → Steady s0 (x3 t0 t1) := by
    unfold x3
    exact fun t4 t5 ht5 => State.setFld_steady ht5
  clear_value x3
  refine Steady.ite hs ?_
  refine Steady.ite (h3 _ _ hs) ?_
  refine Steady.ite (h3 _ _ hs) ?_
  refine Steady.ite (h3 _ _ hs) ?_
  refine Steady.ite (State.interleave_steady (h3 _ _ hs)) ?_
  refine Steady.ite ?_ (Steady.ite (h3 _ _ hs) hs)
  exact State.interleave_steady (State.setTm_steady (State.modLsh_steady (h3 _ _ hs)))

end Sys2Proof.Machine
end

