-- ==== Sys2Proof/Laws/SteadyStart.lean ====
section
/-! SUPPORT. Machine/Start.lean: what each operation keeps (Laws/Steady.lean). -/

namespace Sys2Proof.Machine

theorem State.failStart_steady {s0 s : State} {a result} (hs : Steady s0 s) :
    Steady s0 (State.failStart s a result) := by
  delta State.failStart
  split
  · exact hs
  · extract_lets +onlyGivenNames -merge x1
    have h1 : Steady s0 x1 := State.endStart_steady hs
    clear_value x1
    refine Steady.ite (State.setAxis_steady h1) ?_
    extract_lets +onlyGivenNames -merge x2
    have h2 : Steady s0 x2 := State.setAxis_steady h1
    clear_value x2
    refine Steady.ite ?_ ?_
    · extract_lets +onlyGivenNames -merge x3
      have h3 : Steady s0 x3 := State.modPos_steady h2
      clear_value x3
      exact State.setAxis_steady (State.setFlag_steady h3)
    · extract_lets +onlyGivenNames -merge x4
      have h4 : Steady s0 x4 := State.incSat_steady h2
      clear_value x4
      exact State.setFld_steady (State.modPos_steady h4)

theorem State.beginStart_steady {s0 s : State} {a relock} (hs : Steady s0 s) :
    Steady s0 (State.beginStart s a relock) := by
  delta State.beginStart
  extract_lets +onlyGivenNames -merge x1 x2 x3
  have h3 : Steady s0 x3 := State.startTimer_steady (State.setAxis_steady hs)
  clear_value x3
  extract_lets +onlyGivenNames -merge x4
  have h4 : Steady s0 x4 := State.modPos_steady h3
  clear_value x4
  extract_lets +onlyGivenNames -merge x5
  have h5 : Steady s0 x5 := State.setFlag_steady (State.setFlag_steady h4)
  clear_value x5
  extract_lets +onlyGivenNames -merge x6
  have h6 : Steady s0 x6 := forAll_steady (fun t7 t8 ht8 => State.setFlag_steady (State.beginOffsets_steady ht8)) h5
  clear_value x6
  extract_lets +onlyGivenNames -merge x9
  have h9 : Steady s0 x9 := Steady.ite h5 (State.setFld_steady h6)
  clear_value x9
  refine Steady.ite (State.setFld_steady (State.setFld_steady h9)) ?_
  refine Steady.ite ?_ (State.setFld_steady h9)
  exact Steady.ite (State.failStart_steady h9) (State.setFld_steady (State.modPos_steady h9))

theorem State.completeStart_steady {s0 s : State} {a st result} (hs : Steady s0 s) :
    Steady s0 (State.completeStart s a st result) := by
  delta State.completeStart
  extract_lets +onlyGivenNames -merge x1 x2
  have h2 : Steady s0 x2 := State.setFld_steady (State.setFld_steady hs)
  clear_value x2
  extract_lets +onlyGivenNames -merge x3
  have h3 : Steady s0 x3 := State.setReg_steady h2
  clear_value x3
  extract_lets +onlyGivenNames -merge x4
  have h4 : Steady s0 x4 := State.setFlag_steady h3
  clear_value x4
  extract_lets +onlyGivenNames -merge x5
  have h5 : Steady s0 x5 := State.modPos_steady h4
  clear_value x5
  extract_lets +onlyGivenNames -merge x6 x7
  have h7 : Steady s0 x7 := State.modSpd_steady h5
  clear_value x7
  extract_lets +onlyGivenNames -merge x8
  have h8 : Steady s0 x8 := by
    unfold x8
    refine when_steady ?_ h7
    intro t9 ht9
    exact State.setFld_steady (State.setFlag_steady (State.incSat_steady ht9))
  clear_value x8
  exact State.finishEnable_steady (State.setAxis_steady h8)

theorem State.lockCross_steady {s0 s : State} {a crossed} (hs : Steady s0 s) :
    Steady s0 (State.lockCross s a crossed) := by
  delta State.lockCross
  extract_lets +onlyGivenNames -merge x1
  have h1 : Steady s0 x1 := State.modPos_steady (State.setFlag_steady hs)
  clear_value x1
  exact State.axisFault_steady (forAll_steady (fun t2 t3 ht3 => State.latchSet_steady ht3) h1)

theorem State.loseLock_steady {s0 s : State} {a} (hs : Steady s0 s) :
    Steady s0 (State.loseLock s a) := by
  delta State.loseLock
  extract_lets +onlyGivenNames -merge x1 x2 x3
  have h3 : Steady s0 x3 := State.setFlag_steady (State.incSat_steady hs)
  clear_value x3
  extract_lets +onlyGivenNames -merge x4
  have h4 : Steady s0 x4 := State.modPos_steady h3
  clear_value x4
  refine Steady.ite (State.lockCross_steady h4) ?_
  refine Steady.ite ?_ ?_
  · split
    · exact Steady.ite (State.failStart_steady h4) (State.axisFault_steady (State.endStart_steady h4))
    · exact State.axisFault_steady h4
  · extract_lets +onlyGivenNames -merge x5
    extract_lets +onlyGivenNames -merge x6
    refine Steady.ite ?_ ?_
    · exact State.setAxis_steady (State.axisFault_steady (State.setFlag_steady h4))
    · extract_lets +onlyGivenNames -merge x7
      have h7 : Steady s0 x7 := State.incSat_steady h4
      clear_value x7
      extract_lets +onlyGivenNames -merge x8
      have h8 : Steady s0 x8 := State.modPos_steady h7
      clear_value x8
      exact State.setFld_steady h8

theorem State.putEstimate_steady {s0 s : State} {a th w} (hs : Steady s0 s) :
    Steady s0 (State.putEstimate s a th w) := by
  delta State.putEstimate
  extract_lets +onlyGivenNames -merge x1 x2
  have h2 : Steady s0 x2 := State.modPos_steady hs
  clear_value x2
  extract_lets +onlyGivenNames -merge x3
  have h3 : Steady s0 x3 := State.setFld_steady h2
  clear_value x3
  extract_lets +onlyGivenNames -merge x4
  have h4 : Steady s0 x4 := State.setReg_steady h3
  clear_value x4
  exact State.setFlag_steady h4

theorem State.requestRun_steady {s0 s : State} {a} (hs : Steady s0 s) :
    Steady s0 (State.requestRun s a) := by
  delta State.requestRun
  exact forAll_steady (fun t1 t2 ht2 => Steady.ite ht2 (State.modPwm_steady ht2)) hs

theorem State.startPoll_steady {s0 s : State} {a} (hs : Steady s0 s) :
    Steady s0 (State.startPoll s a) := by
  delta State.startPoll
  split
  · exact hs
  · refine Steady.ite ?_ ?_
    · refine Steady.ite hs ?_
      refine Steady.ite ?_ (State.failStart_steady hs)
      extract_lets +onlyGivenNames -merge x1 x2 x3
      have h3 : Steady s0 x3 := State.modPos_steady hs
      clear_value x3
      exact State.putEstimate_steady h3
    · extract_lets +onlyGivenNames -merge x4
      split
      · extract_lets +onlyGivenNames -merge x5
        refine Steady.ite hs ?_
        refine Steady.ite (State.setFld_steady hs) ?_
        refine Steady.ite (Steady.ite (State.completeStart_steady hs) hs) ?_
        exact State.setFld_steady (State.requestRun_steady hs)
      · exact Steady.ite (State.requestRun_steady hs) hs

end Sys2Proof.Machine
end

