-- ==== Sys2Proof/Laws/SteadySettle.lean ====
section
/-! SUPPORT. Machine/Settle.lean: what each operation keeps (Laws/Steady.lean). -/

namespace Sys2Proof.Machine

theorem State.discardStaging_steady {s0 s : State} {status} (hs : Steady s0 s) :
    Steady s0 (State.discardStaging s status) := by
  delta State.discardStaging
  split
  · exact hs
  · extract_lets +onlyGivenNames -merge x1
    extract_lets +onlyGivenNames -merge x2
    have h2 : Steady s0 x2 := Steady.same hs rfl rfl rfl rfl rfl rfl rfl
    clear_value x2
    extract_lets +onlyGivenNames -merge x3
    have h3 : Steady s0 x3 := State.setFld_steady (State.setFld_steady (State.setReg_steady h2))
    clear_value x3
    extract_lets +onlyGivenNames -merge x4
    have h4 : Steady s0 x4 := State.setFlag_steady h3
    clear_value x4
    split
    · exact State.complete_steady h4
    · exact h4

theorem State.gateClocks_steady {s0 s : State} (hs : Steady s0 s) :
    Steady s0 (State.gateClocks s) := by
  delta State.gateClocks
  refine forAll_steady ?_ hs
  intro t1 t2 ht2
  exact when_steady (fun t3 ht3 => State.setFlag_steady (State.setFld_steady ht3)) ht2

theorem State.katPoll_steady {s0 s : State} (hs : Steady s0 s) :
    Steady s0 (State.katPoll s) := by
  delta State.katPoll
  refine forAll_steady ?_ hs
  intro t1 t2 ht2
  exact when_steady (fun t3 ht3 => State.setFlag_steady (State.modLane_steady ht3)) ht2

theorem State.mfeLive_steady {s0 s : State} {x} (hs : Steady s0 s) :
    Steady s0 (State.mfeLive s x) := by
  delta State.mfeLive
  extract_lets +onlyGivenNames -merge x1 x2 x3 x4
  have h4 : Steady s0 x4 := State.setFlag_steady (State.setFld_steady hs)
  clear_value x4
  extract_lets +onlyGivenNames -merge x5
  have h5 : Steady s0 x5 := State.setFlag_steady h4
  clear_value x5
  extract_lets +onlyGivenNames -merge x6
  have h6 : Steady s0 x6 := State.setFlag_steady h5
  clear_value x6
  extract_lets +onlyGivenNames -merge x7
  have h7 : Steady s0 x7 := State.setFld_steady h6
  clear_value x7
  exact State.setFld_steady h7

theorem State.seriesPoll_steady {s0 s : State} {a} (hs : Steady s0 s) :
    Steady s0 (State.seriesPoll s a) := by
  delta State.seriesPoll
  refine Steady.ite hs ?_
  extract_lets +onlyGivenNames -merge x1 x2
  exact Steady.ite (State.lockCross_steady hs) (Steady.ite (State.endSeries_steady hs) hs)

theorem State.settle_steady {s0 s : State} (hs : Steady s0 s) :
    Steady s0 (State.settle s) := by
  delta State.settle
  refine Steady.ite hs ?_
  extract_lets +onlyGivenNames -merge x1
  have h1 : Steady s0 x1 := by
    unfold x1
    refine forAll_steady ?_ (State.applySto_steady hs)
    intro t2 t3 ht3
    exact State.startPoll_steady (State.seriesPoll_steady ht3)
  clear_value x1
  extract_lets +onlyGivenNames -merge x4
  have h4 : Steady s0 x4 := by
    unfold x4
    refine State.katPoll_steady ?_
    exact State.gateClocks_steady (forAll_steady (fun t5 t6 ht6 => State.settleSet_steady ht6) h1)
  clear_value x4
  extract_lets +onlyGivenNames -merge x7
  have h7 : Steady s0 x7 := forAll_steady (fun t8 t9 ht9 => State.mfeLive_steady ht9) h4
  clear_value x7
  extract_lets +onlyGivenNames -merge x10
  have h10 : Steady s0 x10 := when_steady (fun t11 ht11 => State.discardStaging_steady ht11) h7
  clear_value x10
  extract_lets +onlyGivenNames -merge x12
  have h12 : Steady s0 x12 := forAll_steady (fun t13 t14 ht14 => State.memberPoll_steady ht14) (State.setFlag_steady h10)
  clear_value x12
  exact Steady.ite (State.setMode_steady h12) h12

theorem State.terminalIn_steady {s0 s : State} {x u v w} (hs : Steady s0 s) :
    Steady s0 (State.terminalIn s x u v w) := by
  delta State.terminalIn
  extract_lets +onlyGivenNames -merge x1 x2
  exact State.modPsp_steady hs

end Sys2Proof.Machine
end

