-- ==== Sys2Proof/Laws/SteadyIsland.lean ====
section
/-! SUPPORT. Machine/Island.lean: what each operation keeps (Laws/Steady.lean). -/

namespace Sys2Proof.Machine

theorem State.stoPath_steady {s0 s : State} {unit} (hs : Steady s0 s) :
    Steady s0 (State.stoPath s unit) := by
  delta State.stoPath
  extract_lets +onlyGivenNames -merge x1
  have h1 : Steady s0 x1 := State.setFlag_steady hs
  clear_value x1
  exact State.latchHold_steady (State.journalFw_steady h1)

theorem State.stillEnabled_steady {s0 s : State} {n} (hs : Steady s0 s) :
    Steady s0 (State.stillEnabled s n) := by
  delta State.stillEnabled
  extract_lets +onlyGivenNames -merge x1
  exact State.stoPath_steady (State.modGc_steady (State.setFlag_steady hs) (fun _ h => h))

theorem State.checkEnable_steady {s0 s : State} {x still} (hs : Steady s0 s) :
    Steady s0 (State.checkEnable s x still) := by
  delta State.checkEnable
  split
  · refine Steady.ite ?_ hs
    extract_lets +onlyGivenNames -merge x1 x2
    have h2 : Steady s0 x2 := Steady.same hs rfl rfl rfl rfl rfl rfl rfl
    clear_value x2
    exact forAll_steady (fun t3 t4 ht4 => State.stillEnabled_steady ht4) h2
  · exact hs

theorem State.commandOutput_steady {s0 s : State} {i} (hs : Steady s0 s) :
    Steady s0 (State.commandOutput s i) := by
  delta State.commandOutput
  extract_lets +onlyGivenNames -merge x1 x2
  refine Steady.ite hs ?_
  extract_lets +onlyGivenNames -merge x3 x4
  have h4 : Steady s0 x4 := State.setFld_steady hs
  clear_value x4
  extract_lets +onlyGivenNames -merge x5
  have h5 : Steady s0 x5 := State.setFld_steady h4
  clear_value x5
  exact Steady.same h5 rfl rfl rfl rfl rfl rfl rfl

theorem State.modSfa_steady {s0 s : State} {a f} (hs : Steady s0 s) :
    Steady s0 (State.modSfa s a f) := by
  delta State.modSfa
  exact Steady.same hs rfl rfl rfl rfl rfl rfl rfl

theorem State.sfiAny_steady {s0 s : State} {a} (hs : Steady s0 s) :
    Steady s0 (State.sfiAny s a) := by
  delta State.sfiAny
  exact State.setFlag_steady hs

theorem State.violate_steady {s0 s : State} {a f} (hs : Steady s0 s) :
    Steady s0 (State.violate s a f) := by
  delta State.violate
  refine Steady.ite hs ?_
  extract_lets +onlyGivenNames -merge x1
  have h1 : Steady s0 x1 := State.sfiAny_steady (State.setFlag_steady hs)
  clear_value x1
  exact State.journalFw_steady h1

theorem State.cyclePort_steady {s0 s : State} {a} (hs : Steady s0 s) :
    Steady s0 (State.cyclePort s a) := by
  delta State.cyclePort
  split
  · exact State.modSfa_steady hs
  · extract_lets +onlyGivenNames -merge x1
    extract_lets +onlyGivenNames -merge x2 x3 x4
    have h4 : Steady s0 x4 := State.modSfa_steady hs
    clear_value x4
    extract_lets +onlyGivenNames -merge x5
    have h5 : Steady s0 x5 := State.setReg_steady h4
    clear_value x5
    extract_lets +onlyGivenNames -merge x6
    have h6 : Steady s0 x6 := State.setReg_steady h5
    clear_value x6
    extract_lets +onlyGivenNames -merge x7 x8
    exact Steady.ite (State.modSfa_steady (State.violate_steady h6)) h6

theorem State.cycleShunt_steady {s0 s : State} {a} (hs : Steady s0 s) :
    Steady s0 (State.cycleShunt s a) := by
  delta State.cycleShunt
  extract_lets +onlyGivenNames -merge x1 x2 x3 x4
  have h4 : Steady s0 x4 := when_steady (fun t5 ht5 => State.violate_steady ht5) hs
  clear_value x4
  extract_lets +onlyGivenNames -merge x6
  have h6 : Steady s0 x6 := when_steady (fun t7 ht7 => State.violate_steady ht7) h4
  clear_value x6
  exact forAll_steady (fun t8 t9 ht9 => Steady.same ht9 rfl rfl rfl rfl rfl rfl rfl) h6

theorem State.cycleSls_steady {s0 s : State} {a} (hs : Steady s0 s) :
    Steady s0 (State.cycleSls s a) := by
  delta State.cycleSls
  extract_lets +onlyGivenNames -merge x1
  split
  · exact State.setFlag_steady (State.setFlag_steady hs)
  · refine Steady.ite (State.modSfa_steady hs) ?_
    extract_lets +onlyGivenNames -merge x2 x3 x4
    have h4 : Steady s0 x4 := State.setFld_steady (State.setFlag_steady hs)
    clear_value x4
    extract_lets +onlyGivenNames -merge x5
    have h5 : Steady s0 x5 := Steady.ite (State.modSfa_steady (State.setFlag_steady (State.startTimer_steady h4))) h4
    clear_value x5
    extract_lets +onlyGivenNames -merge x6
    have h6 : Steady s0 x6 := Steady.ite (State.setFlag_steady h5) h5
    clear_value x6
    exact Steady.ite (State.violate_steady h6) h6

theorem State.cycleSlp_steady {s0 s : State} {a} (hs : Steady s0 s) :
    Steady s0 (State.cycleSlp s a) := by
  delta State.cycleSlp
  refine Steady.ite (State.setFlag_steady hs) ?_
  refine Steady.ite (State.modSfa_steady hs) ?_
  extract_lets +onlyGivenNames -merge x1
  have h1 : Steady s0 x1 := State.setFlag_steady hs
  clear_value x1
  extract_lets +onlyGivenNames -merge x2 x3 x4 x5 x6
  exact Steady.ite (State.violate_steady h1) h1

theorem State.cycleSdi_steady {s0 s : State} {a} (hs : Steady s0 s) :
    Steady s0 (State.cycleSdi s a) := by
  delta State.cycleSdi
  extract_lets +onlyGivenNames -merge x1 x2
  refine Steady.ite (State.modSfa_steady (State.setFlag_steady hs)) ?_
  refine Steady.ite (State.modSfa_steady hs) ?_
  extract_lets +onlyGivenNames -merge x3 x4 x5 x6 x7 x8
  have h8 : Steady s0 x8 := State.modSfa_steady hs
  clear_value x8
  extract_lets +onlyGivenNames -merge x9 x10
  have h10 : Steady s0 x10 := State.setFlag_steady (State.setFlag_steady h8)
  clear_value x10
  extract_lets +onlyGivenNames -merge x11
  split
  · exact h10
  · extract_lets +onlyGivenNames -merge x12
    extract_lets +onlyGivenNames -merge x13
    have h13 : Steady s0 x13 := State.modSfa_steady h10
    clear_value x13
    exact Steady.ite (State.violate_steady h13) h13

theorem State.stopRequest_steady {s0 s : State} {a} (hs : Steady s0 s) :
    Steady s0 (State.stopRequest s a) := by
  delta State.stopRequest
  exact State.beginStop_steady hs

theorem State.endSs1_steady {s0 s : State} {a} (hs : Steady s0 s) :
    Steady s0 (State.endSs1 s a) := by
  delta State.endSs1
  exact State.modSfa_steady (State.setFlag_steady hs)

theorem State.cycleSs1_steady {s0 s : State} {a} (hs : Steady s0 s) :
    Steady s0 (State.cycleSs1 s a) := by
  delta State.cycleSs1
  extract_lets +onlyGivenNames -merge x1 x2 x3
  have h3 : Steady s0 x3 := by
    unfold x3
    refine Steady.ite ?_ (Steady.ite (State.endSs1_steady hs) hs)
    refine Steady.ite (State.modSfa_steady hs) ?_
    exact State.stopRequest_steady (State.modSfa_steady (State.setFlag_steady hs))
  clear_value x3
  split
  · exact Steady.ite (Steady.ite (State.violate_steady h3) (Steady.ite (State.modSfa_steady h3) h3)) h3
  · exact Steady.ite (State.modSfa_steady h3) h3

theorem State.demandSto_steady {s0 s : State} {a} (hs : Steady s0 s) :
    Steady s0 (State.demandSto s a) := by
  delta State.demandSto
  refine Steady.ite hs ?_
  extract_lets +onlyGivenNames -merge x1
  have h1 : Steady s0 x1 := State.endSs1_steady hs
  clear_value x1
  refine Steady.ite ?_ (State.setFlag_steady h1)
  exact State.setFlag_steady (State.modSfa_steady (State.startTimer_steady h1))

theorem State.cycleSto_steady {s0 s : State} {a} (hs : Steady s0 s) :
    Steady s0 (State.cycleSto s a) := by
  delta State.cycleSto
  extract_lets +onlyGivenNames -merge x1
  have h1 : Steady s0 x1 := Steady.ite (State.demandSto_steady hs) (State.modSfa_steady (State.setFlag_steady hs))
  clear_value x1
  extract_lets +onlyGivenNames -merge x2 x3
  exact State.setFlag_steady h1

theorem State.cycleBrake_steady {s0 s : State} {a} (hs : Steady s0 s) :
    Steady s0 (State.cycleBrake s a) := by
  delta State.cycleBrake
  extract_lets +onlyGivenNames -merge x1 x2
  exact State.setFlag_steady hs

theorem State.cycleAxis_steady {s0 s : State} {a} (hs : Steady s0 s) :
    Steady s0 (State.cycleAxis s a) := by
  delta State.cycleAxis
  refine Steady.ite hs ?_
  extract_lets +onlyGivenNames -merge x1
  have h1 : Steady s0 x1 := State.cycleShunt_steady (State.cyclePort_steady hs)
  clear_value x1
  extract_lets +onlyGivenNames -merge x2
  have h2 : Steady s0 x2 := State.setFlag_steady (State.setFlag_steady h1)
  clear_value x2
  extract_lets +onlyGivenNames -merge x3
  have h3 : Steady s0 x3 := State.setFlag_steady h2
  clear_value x3
  extract_lets +onlyGivenNames -merge x4
  have h4 : Steady s0 x4 := by
    unfold x4
    refine Steady.ite ?_ ?_
    · exact State.sfiAny_steady (State.setFlag_steady h3)
    · exact State.sfiAny_steady (State.setFlag_steady h3)
  clear_value x4
  extract_lets +onlyGivenNames -merge x5
  have h5 : Steady s0 x5 := State.cycleSs1_steady (State.cycleSdi_steady (State.cycleSlp_steady (State.cycleSls_steady h4)))
  clear_value x5
  exact State.cycleBrake_steady (State.cycleSto_steady h5)

theorem State.hwSto_steady {s0 s : State} (hs : Steady s0 s) :
    Steady s0 (State.hwSto s) := by
  delta State.hwSto
  extract_lets +onlyGivenNames -merge x1 x2 x3
  have h3 : Steady s0 x3 := State.setFlag_steady (State.setFlag_steady hs)
  clear_value x3
  extract_lets +onlyGivenNames -merge x4
  have h4 : Steady s0 x4 := State.timeWhile_steady h3
  clear_value x4
  exact Steady.same h4 rfl rfl rfl rfl rfl rfl rfl

theorem State.islandFault_steady {s0 s : State} {cause detail} (hs : Steady s0 s) :
    Steady s0 (State.islandFault s cause detail) := by
  delta State.islandFault
  extract_lets +onlyGivenNames -merge x1 x2
  have h2 : Steady s0 x2 := State.latchHold_steady (Steady.same hs rfl rfl rfl rfl rfl rfl rfl)
  clear_value x2
  extract_lets +onlyGivenNames -merge x3
  have h3 : Steady s0 x3 := forAll_steady (fun t4 t5 ht5 => State.cycleBrake_steady (State.setFlag_steady ht5)) h2
  clear_value x3
  exact State.settle_steady (forAll_steady (fun t6 t7 ht7 => State.commandOutput_steady ht7) h3)

theorem State.siPair_steady {s0 s : State} {i} (hs : Steady s0 s) :
    Steady s0 (State.siPair s i) := by
  delta State.siPair
  extract_lets +onlyGivenNames -merge x1 x2 x3 x4 x5 x6
  have h6 : Steady s0 x6 := State.setFld_steady hs
  clear_value x6
  extract_lets +onlyGivenNames -merge x7
  have h7 : Steady s0 x7 := State.setFld_steady h6
  clear_value x7
  extract_lets +onlyGivenNames -merge x8 x9 x10 x11 x12
  exact State.timeWhile_steady (Steady.same h7 rfl rfl rfl rfl rfl rfl rfl)

theorem State.modSc_steady {s0 s : State} {k f} (hs : Steady s0 s) :
    Steady s0 (State.modSc s k f) := by
  delta State.modSc
  exact Steady.same hs rfl rfl rfl rfl rfl rfl rfl

theorem State.scInvalid_steady {s0 s : State} {k} (hs : Steady s0 s) :
    Steady s0 (State.scInvalid s k) := by
  delta State.scInvalid
  exact State.modSc_steady (State.setFlag_steady hs)

theorem State.scLoad_steady {s0 s : State} {k} (hs : Steady s0 s) :
    Steady s0 (State.scLoad s k) := by
  delta State.scLoad
  exact State.modSc_steady (State.scInvalid_steady (State.setFlag_steady hs))

theorem State.loadIsland_steady {s0 s : State} (hs : Steady s0 s) :
    Steady s0 (State.loadIsland s) := by
  delta State.loadIsland
  extract_lets +onlyGivenNames -merge x1
  have h1 : Steady s0 x1 := forAll_steady (fun t2 t3 ht3 => State.modSfa_steady ht3) hs
  clear_value x1
  refine forAll_steady (fun t4 t5 ht5 => State.siPair_steady ht5) ?_
  exact forAll_steady (fun t6 t7 ht7 => State.scLoad_steady ht7) h1

theorem State.routeWatch_steady {s0 s : State} (hs : Steady s0 s) :
    Steady s0 (State.routeWatch s) := by
  delta State.routeWatch
  refine forAll_steady ?_ hs
  intro t1 t2 ht2
  exact Steady.ite (State.scInvalid_steady (State.setFlag_steady ht2)) ht2

theorem State.stagingRise_steady {s0 s : State} (hs : Steady s0 s) :
    Steady s0 (State.stagingRise s) := by
  delta State.stagingRise
  exact Steady.same hs rfl rfl rfl rfl rfl rfl rfl

theorem execIslandScrub_steady {s0 : State} {double} {s : State} (hs : Steady s0 s) :
    SteadyRes s0 (execIslandScrub double s) := by
  delta execIslandScrub
  exact SteadyRes.ite (SteadyRes.next (State.islandFault_steady hs)) (SteadyRes.next hs)

theorem execSafetyCycle_steady {s0 : State} {clockOk stillEnabled} {s : State} (hs : Steady s0 s) :
    SteadyRes s0 (execSafetyCycle clockOk stillEnabled s) := by
  delta execSafetyCycle
  extract_lets +onlyGivenNames -merge x1
  have h1 : Steady s0 x1 := when_steady (fun t2 ht2 => State.setFlag_steady ht2) hs
  clear_value x1
  refine SteadyRes.ite (SteadyRes.next h1) ?_
  refine SteadyRes.ite (SteadyRes.next (State.islandFault_steady h1)) ?_
  extract_lets +onlyGivenNames -merge x3
  have h3 : Steady s0 x3 := forAll_steady (fun t4 t5 ht5 => State.checkEnable_steady ht5) (State.routeWatch_steady h1)
  clear_value x3
  extract_lets +onlyGivenNames -merge x6
  have h6 : Steady s0 x6 := forAll_steady (fun t7 t8 ht8 => State.cycleAxis_steady ht8) h3
  clear_value x6
  extract_lets +onlyGivenNames -merge x9
  have h9 : Steady s0 x9 := forAll_steady (fun t10 t11 ht11 => State.commandOutput_steady ht11) h6
  clear_value x9
  exact SteadyRes.next (State.settle_steady (State.setFlag_steady h9))

theorem execSafetyCycleOverrun_steady {s0 s : State} (hs : Steady s0 s) :
    SteadyRes s0 (execSafetyCycleOverrun s) := by
  delta execSafetyCycleOverrun
  refine SteadyRes.ite ?_ (SteadyRes.next hs)
  exact SteadyRes.next (State.islandFault_steady (State.setFlag_steady hs))

theorem execSealCheck_steady {s0 : State} {intact} {s : State} (hs : Steady s0 s) :
    SteadyRes s0 (execSealCheck intact s) := by
  delta execSealCheck
  exact SteadyRes.ite (SteadyRes.next (State.islandFault_steady hs)) (SteadyRes.next hs)

theorem execStoDisc_steady {s0 s : State} (hs : Steady s0 s) :
    SteadyRes s0 (execStoDisc s) := by
  delta execStoDisc
  refine SteadyRes.ite ?_ (SteadyRes.next hs)
  refine SteadyRes.next ?_
  exact State.settle_steady (State.setFlag_steady (Steady.same hs rfl rfl rfl rfl rfl rfl rfl))

theorem execStoInputFall_steady {s0 : State} {i} {s : State} (hs : Steady s0 s) :
    SteadyRes s0 (execStoInputFall i s) := by
  delta execStoInputFall
  exact SteadyRes.next (State.settle_steady (State.hwSto_steady (State.setFlag_steady hs)))

theorem execStoInputRise_steady {s0 : State} {i} {s : State} (hs : Steady s0 s) :
    SteadyRes s0 (execStoInputRise i s) := by
  delta execStoInputRise
  refine SteadyRes.next ?_
  exact State.settle_steady (State.stagingRise_steady (State.hwSto_steady (State.setFlag_steady hs)))

theorem execStoTestDue_steady {s0 s : State} (hs : Steady s0 s) :
    SteadyRes s0 (execStoTestDue s) := by
  delta execStoTestDue
  extract_lets +onlyGivenNames -merge x1 x2
  have h2 : Steady s0 x2 := State.setFld_steady (State.setFlag_steady hs)
  clear_value x2
  extract_lets +onlyGivenNames -merge x3 x4
  have h4 : Steady s0 x4 := Steady.same h2 rfl rfl rfl rfl rfl rfl rfl
  clear_value x4
  exact SteadyRes.next (State.event_steady (State.journalFw_steady h4))

theorem execStoTestOverdue_steady {s0 s : State} (hs : Steady s0 s) :
    SteadyRes s0 (execStoTestOverdue s) := by
  delta execStoTestOverdue
  extract_lets +onlyGivenNames -merge x1 x2
  have h2 : Steady s0 x2 := State.setFld_steady (State.setFlag_steady hs)
  clear_value x2
  extract_lets +onlyGivenNames -merge x3 x4
  have h4 : Steady s0 x4 := Steady.same h2 rfl rfl rfl rfl rfl rfl rfl
  clear_value x4
  exact SteadyRes.next (State.event_steady (State.journalFw_steady h4))

theorem execTSlsEntry_steady {s0 : State} {a} {s : State} (hs : Steady s0 s) :
    SteadyRes s0 (execTSlsEntry a s) := by
  delta execTSlsEntry
  exact SteadyRes.ite (SteadyRes.next (State.setFlag_steady hs)) (SteadyRes.next hs)

theorem execTSs1_steady {s0 : State} {a} {s : State} (hs : Steady s0 s) :
    SteadyRes s0 (execTSs1 a s) := by
  delta execTSs1
  extract_lets +onlyGivenNames -merge x1
  refine SteadyRes.ite ?_ (SteadyRes.next hs)
  refine SteadyRes.next ?_
  exact State.settle_steady (State.cycleBrake_steady (State.demandSto_steady (State.modSfa_steady hs)))

theorem execTStoAfterSbc_steady {s0 : State} {a} {s : State} (hs : Steady s0 s) :
    SteadyRes s0 (execTStoAfterSbc a s) := by
  delta execTStoAfterSbc
  refine SteadyRes.ite ?_ (SteadyRes.next hs)
  exact SteadyRes.next (State.settle_steady (State.setFlag_steady (State.modSfa_steady hs)))

end Sys2Proof.Machine
end

