-- ==== Sys2Proof/Laws/SteadySafeIo.lean ====
section
/-! SUPPORT. Machine/SafeIo.lean: what each operation keeps (Laws/Steady.lean). -/

namespace Sys2Proof.Machine

theorem State.outputFault_steady {s0 s : State} {i bit} (hs : Steady s0 s) :
    Steady s0 (State.outputFault s i bit) := by
  delta State.outputFault
  extract_lets +onlyGivenNames -merge x1
  have h1 : Steady s0 x1 := State.commandOutput_steady (State.setFld_steady hs)
  clear_value x1
  refine forAll_steady ?_ h1
  intro t2 t3 ht3
  exact Steady.ite (State.cycleBrake_steady (State.demandSto_steady (State.violate_steady ht3))) ht3

theorem State.judge_steady {s0 s : State} {i on reads at_} (hs : Steady s0 s) :
    Steady s0 (State.judge s i on reads at_) := by
  delta State.judge
  exact Steady.ite hs (State.outputFault_steady hs)

theorem State.judgePair_steady {s0 s : State} {i outs} (hs : Steady s0 s) :
    Steady s0 (State.judgePair s i outs) := by
  delta State.judgePair
  extract_lets +onlyGivenNames -merge x1 x2
  have h2 : Steady s0 x2 := State.judge_steady hs
  clear_value x2
  exact State.judge_steady h2

theorem State.modSi_steady {s0 s : State} {n f} (hs : Steady s0 s) :
    Steady s0 (State.modSi s n f) := by
  delta State.modSi
  exact Steady.same hs rfl rfl rfl rfl rfl rfl rfl

theorem State.pulseCheck_steady {s0 s : State} {n off} (hs : Steady s0 s) :
    Steady s0 (State.pulseCheck s n off) := by
  delta State.pulseCheck
  refine Steady.ite ?_ (State.modSi_steady hs)
  exact State.siPair_steady (State.setFld_steady (State.modSi_steady hs))

theorem State.routeOut_steady {s0 s : State} {route k l} (hs : Steady s0 s) :
    Steady s0 (State.routeOut s route k l) := by
  delta State.routeOut
  exact Steady.ite (State.sendSafety_steady hs) (State.canSafetyTx_steady hs)

theorem State.scAccept_steady {s0 s : State} {k l} (hs : Steady s0 s) :
    Steady s0 (State.scAccept s k l) := by
  delta State.scAccept
  extract_lets +onlyGivenNames -merge x1
  have h1 : Steady s0 x1 := State.setFld_steady (State.setFld_steady hs)
  clear_value x1
  extract_lets +onlyGivenNames -merge x2 x3
  have h3 : Steady s0 x3 := State.modSc_steady h1
  clear_value x3
  exact Steady.ite (State.setFlag_steady h3) h3

theorem State.safetyCopy_steady {s0 s : State} {k routeB bytes} (hs : Steady s0 s) :
    Steady s0 (State.safetyCopy s k routeB bytes) := by
  delta State.safetyCopy
  refine Steady.ite hs ?_
  split
  · exact State.incSat_steady hs
  · extract_lets +onlyGivenNames -merge x1
    extract_lets +onlyGivenNames -merge x2
    split
    · exact State.modSc_steady hs
    · extract_lets +onlyGivenNames -merge x3
      have h3 : Steady s0 x3 := State.modSc_steady hs
      clear_value x3
      exact Steady.ite (State.scAccept_steady h3) (State.scInvalid_steady (State.setFlag_steady h3))

theorem State.sampleInputs_steady {s0 s : State} {levels} (hs : Steady s0 s) :
    Steady s0 (State.sampleInputs s levels) := by
  delta State.sampleInputs
  extract_lets +onlyGivenNames -merge x1 x2
  refine forAll_steady ?_ hs
  intro t3 t4 ht4
  extract_lets +onlyGivenNames -merge x5 x6
  exact State.modSi_steady ht4

theorem execDisc_steady {s0 : State} {i} {s : State} (hs : Steady s0 s) :
    SteadyRes s0 (execDisc i s) := by
  delta execDisc
  refine SteadyRes.ite ?_ (SteadyRes.next hs)
  extract_lets +onlyGivenNames -merge x1
  have h1 : Steady s0 x1 := Steady.same hs rfl rfl rfl rfl rfl rfl rfl
  clear_value x1
  exact SteadyRes.next (State.siPair_steady (State.setFld_steady h1))

theorem execOutputPulse_steady {s0 : State} {n starts} {s : State} (hs : Steady s0 s) :
    SteadyRes s0 (execOutputPulse n starts s) := by
  delta execOutputPulse
  extract_lets +onlyGivenNames -merge x1
  refine SteadyRes.ite (SteadyRes.next hs) ?_
  extract_lets +onlyGivenNames -merge x2 x3 x4
  exact SteadyRes.next (State.setFld_steady (Steady.same hs rfl rfl rfl rfl rfl rfl rfl))

theorem execOverload_steady {s0 : State} {i} {s : State} (hs : Steady s0 s) :
    SteadyRes s0 (execOverload i s) := by
  delta execOverload
  refine SteadyRes.ite ?_ (SteadyRes.next hs)
  exact SteadyRes.next (State.settle_steady (State.outputFault_steady hs))

theorem execSafeInputSample_steady {s0 : State} {levels outs} {s : State} (hs : Steady s0 s) :
    SteadyRes s0 (execSafeInputSample levels outs s) := by
  delta execSafeInputSample
  refine SteadyRes.ite (SteadyRes.next hs) ?_
  extract_lets +onlyGivenNames -merge x1 x2
  have h2 : Steady s0 x2 := State.setFld_steady (State.sampleInputs_steady hs)
  clear_value x2
  refine SteadyRes.ite (SteadyRes.next h2) ?_
  refine SteadyRes.next ?_
  exact State.settle_steady (forAll_steady (fun t3 t4 ht4 => State.judgePair_steady ht4) h2)

theorem execSafetyFrameCopy_steady {s0 : State} {k routeB bytes} {s : State} (hs : Steady s0 s) :
    SteadyRes s0 (execSafetyFrameCopy k routeB bytes s) := by
  delta execSafetyFrameCopy
  exact SteadyRes.next (State.safetyCopy_steady hs)

theorem execSafetyFrameTx_steady {s0 : State} {k} {s : State} (hs : Steady s0 s) :
    SteadyRes s0 (execSafetyFrameTx k s) := by
  delta execSafetyFrameTx
  refine SteadyRes.ite (SteadyRes.next hs) ?_
  extract_lets +onlyGivenNames -merge x1 x2 x3 x4 x5
  have h5 : Steady s0 x5 := State.setFld_steady (State.setFld_steady (State.setFlag_steady hs))
  clear_value x5
  extract_lets +onlyGivenNames -merge x6
  have h6 : Steady s0 x6 := State.modSc_steady h5
  clear_value x6
  exact SteadyRes.next (State.routeOut_steady (State.routeOut_steady h6))

theorem execSiFilterPass_steady {s0 : State} {n level} {s : State} (hs : Steady s0 s) :
    SteadyRes s0 (execSiFilterPass n level s) := by
  delta execSiFilterPass
  refine SteadyRes.ite (SteadyRes.next hs) ?_
  exact SteadyRes.next (State.siPair_steady (State.setFld_steady hs))

theorem execSingle_steady {s0 : State} {k} {s : State} (hs : Steady s0 s) :
    SteadyRes s0 (execSingle k s) := by
  delta execSingle
  exact SteadyRes.ite (SteadyRes.next hs) (SteadyRes.next (State.incSat_steady (State.modSc_steady hs)))

theorem execStOvl_steady {s0 : State} {k} {s : State} (hs : Steady s0 s) :
    SteadyRes s0 (execStOvl k s) := by
  delta execStOvl
  extract_lets +onlyGivenNames -merge x1 x2
  have h2 : Steady s0 x2 := Steady.same hs rfl rfl rfl rfl rfl rfl rfl
  clear_value x2
  exact SteadyRes.next (State.setFld_steady h2)

theorem execStRetry_steady {s0 : State} {k} {s : State} (hs : Steady s0 s) :
    SteadyRes s0 (execStRetry k s) := by
  delta execStRetry
  exact SteadyRes.ite (SteadyRes.next (Steady.same hs rfl rfl rfl rfl rfl rfl rfl)) (SteadyRes.next hs)

theorem execSupply_steady {s0 : State} {low} {s : State} (hs : Steady s0 s) :
    SteadyRes s0 (execSupply low s) := by
  delta execSupply
  extract_lets +onlyGivenNames -merge x1
  have h1 : Steady s0 x1 := State.setFlag_steady hs
  clear_value x1
  refine SteadyRes.ite ?_ (SteadyRes.next h1)
  extract_lets +onlyGivenNames -merge x2
  refine SteadyRes.next ?_
  exact State.settle_steady (forAll_steady (fun t3 t4 ht4 => State.outputFault_steady ht4) h1)

theorem execTestPulse_steady {s0 : State} {k starts} {s : State} (hs : Steady s0 s) :
    SteadyRes s0 (execTestPulse k starts s) := by
  delta execTestPulse
  extract_lets +onlyGivenNames -merge x1 x2
  refine SteadyRes.ite (SteadyRes.next hs) ?_
  refine SteadyRes.ite ?_ ?_
  · extract_lets +onlyGivenNames -merge x3
    extract_lets +onlyGivenNames -merge x4
    have h4 : Steady s0 x4 := Steady.same hs rfl rfl rfl rfl rfl rfl rfl
    clear_value x4
    exact SteadyRes.next (forAll_steady (fun t5 t6 ht6 => State.modSi_steady ht6) h4)
  · extract_lets +onlyGivenNames -merge x7
    extract_lets +onlyGivenNames -merge x8
    have h8 : Steady s0 x8 := Steady.same hs rfl rfl rfl rfl rfl rfl rfl
    clear_value x8
    exact SteadyRes.next (forAll_steady (fun t9 t10 ht10 => State.pulseCheck_steady ht10) h8)

theorem execWdExp_steady {s0 : State} {k} {s : State} (hs : Steady s0 s) :
    SteadyRes s0 (execWdExp k s) := by
  delta execWdExp
  extract_lets +onlyGivenNames -merge x1
  refine SteadyRes.ite ?_ (SteadyRes.next hs)
  exact SteadyRes.next (State.scInvalid_steady (State.setFlag_steady hs))

end Sys2Proof.Machine
end

