-- ==== Sys2Proof/Laws/SteadyCan.lean ====
section
/-! SUPPORT. Machine/Can.lean: what each operation keeps (Laws/Steady.lean). -/

namespace Sys2Proof.Machine

theorem State.busOff_steady {s0 s : State} {c} (hs : Steady s0 s) :
    Steady s0 (State.busOff s c) := by
  delta State.busOff
  extract_lets +onlyGivenNames -merge x1
  have h1 : Steady s0 x1 := State.incSat_steady (State.setFld_steady hs)
  clear_value x1
  exact State.journal_steady h1

theorem State.canAttemptFailed_steady {s0 s : State} {c} (hs : Steady s0 s) :
    Steady s0 (State.canAttemptFailed s c) := by
  delta State.canAttemptFailed
  split
  · exact hs
  · exact Steady.ite (State.canFree_steady hs) (State.setFld_steady hs)

theorem State.canDelay_steady {s0 s : State} {c b} (hs : Steady s0 s) :
    Steady s0 (State.canDelay s c b) := by
  delta State.canDelay
  extract_lets +onlyGivenNames -merge x1
  have h1 : SteadyOut s0 x1 := State.freeNat_steady hs
  clear_value x1
  exact Steady.ite (State.setFld_steady (SteadyOut.snd h1)) hs

theorem State.canErrState_steady {s0 s : State} {c} (hs : Steady s0 s) :
    Steady s0 (State.canErrState s c) := by
  delta State.canErrState
  extract_lets +onlyGivenNames -merge x1 x2
  have h2 : Steady s0 x2 := State.setFld_steady (State.setFld_steady hs)
  clear_value x2
  exact Steady.ite (State.setFld_steady h2) h2

theorem State.canReceive_steady {s0 s : State} {c f} (hs : Steady s0 s) :
    Steady s0 (State.canReceive s c f) := by
  delta State.canReceive
  extract_lets +onlyGivenNames -merge x1
  refine Steady.ite ?_ ?_
  · exact forAll_steady (fun t2 t3 ht3 => State.safetyCopy_steady ht3) hs
  · split
    · exact hs
    · refine Steady.ite hs ?_
      exact Steady.ite (State.incSat_steady hs) (State.canWindow_steady (State.modCan_steady hs))

theorem State.clashNote_steady {s0 s : State} {c} (hs : Steady s0 s) :
    Steady s0 (State.clashNote s c) := by
  delta State.clashNote
  exact Steady.ite (State.journal_steady (State.modCan_steady hs)) hs

theorem State.idClash_steady {s0 s : State} {c} (hs : Steady s0 s) :
    Steady s0 (State.idClash s c) := by
  delta State.idClash
  split
  · exact hs
  · split
    · exact hs
    · extract_lets +onlyGivenNames -merge x1
      extract_lets +onlyGivenNames -merge x2
      have h2 : Steady s0 x2 := State.setFlag_steady (State.incSat_steady hs)
      clear_value x2
      extract_lets +onlyGivenNames -merge x3
      have h3 : Steady s0 x3 := State.setFld_steady h2
      clear_value x3
      exact State.clashNote_steady h3

theorem execAbort_steady {s0 : State} {w c bufs} {s : State} (hs : Steady s0 s) :
    SteadyRes s0 (execAbort w c bufs s) := by
  delta execAbort
  refine State.access_steady hs ?_
  intro t1 ht1
  refine forAll_steady ?_ ht1
  intro t2 t3 ht3
  refine Steady.ite ht3 ?_
  exact Steady.ite (State.modCan_steady ht3) (Steady.ite (State.canFree_steady ht3) ht3)

theorem execArbitrationLost_steady {s0 : State} {c} {s : State} (hs : Steady s0 s) :
    SteadyRes s0 (execArbitrationLost c s) := by
  delta execArbitrationLost
  exact SteadyRes.next (State.canAttemptFailed_steady hs)

theorem execCanBusOn_steady {s0 : State} {c} {s : State} (hs : Steady s0 s) :
    SteadyRes s0 (execCanBusOn c s) := by
  delta execCanBusOn
  refine SteadyRes.ite (SteadyRes.next hs) ?_
  extract_lets +onlyGivenNames -merge x1
  have h1 : Steady s0 x1 := State.modCan_steady (State.setFld_steady hs)
  clear_value x1
  extract_lets +onlyGivenNames -merge x2
  have h2 : Steady s0 x2 := State.canErrState_steady h1
  clear_value x2
  exact SteadyRes.next (State.canPoll_steady (State.journal_steady h2))

theorem execCanError_steady {s0 : State} {c e} {s : State} (hs : Steady s0 s) :
    SteadyRes s0 (execCanError c e s) := by
  delta execCanError
  refine SteadyRes.ite (SteadyRes.next hs) ?_
  split
  · extract_lets +onlyGivenNames -merge x1
    have h1 : Steady s0 x1 := Steady.ite (State.idClash_steady hs) hs
    extract_lets +onlyGivenNames -merge x2
    have h2 : Steady s0 x2 := by
      unfold x2
      split
      · exact State.canDelay_steady h1
      · exact h1
    extract_lets +onlyGivenNames -merge x3
    have h3 : Steady s0 x3 := State.canAttemptFailed_steady (State.modCan_steady h2)
    extract_lets +onlyGivenNames -merge x4
    have h4 : Steady s0 x4 := State.canErrState_steady h3
    refine SteadyRes.ite (SteadyRes.next (State.busOff_steady h4)) ?_
    exact SteadyRes.next (State.canPoll_steady h4)
  · extract_lets +onlyGivenNames -merge x5
    have h5 : Steady s0 x5 := State.modCan_steady hs
    refine SteadyRes.next ?_
    exact State.canPoll_steady (State.canAttemptFailed_steady (State.canErrState_steady h5))
  · exact SteadyRes.next (State.canPoll_steady (State.canAttemptFailed_steady hs))

theorem execCanFrameRx_steady {s0 : State} {c f} {s : State} (hs : Steady s0 s) :
    SteadyRes s0 (execCanFrameRx c f s) := by
  delta execCanFrameRx
  refine SteadyRes.ite (SteadyRes.next hs) ?_
  extract_lets +onlyGivenNames -merge x1 x2
  have h2 : SteadyOut s0 x2 := State.freeNat_steady hs
  clear_value x2
  extract_lets +onlyGivenNames -merge x3
  have h3 : Steady s0 x3 := Steady.ite (State.modCan_steady (SteadyOut.snd h2)) (State.modCan_steady hs)
  clear_value x3
  refine SteadyRes.next ?_
  refine State.canPoll_steady ?_
  exact State.canAttemptFailed_steady (State.canReceive_steady (State.canErrState_steady h3))

theorem execCanIntegration_steady {s0 : State} {c} {s : State} (hs : Steady s0 s) :
    SteadyRes s0 (execCanIntegration c s) := by
  delta execCanIntegration
  refine SteadyRes.ite (SteadyRes.next hs) ?_
  extract_lets +onlyGivenNames -merge x1
  have h1 : Steady s0 x1 := State.setFld_steady (State.setFlag_steady hs)
  clear_value x1
  exact SteadyRes.next (State.canPoll_steady (State.canErrState_steady h1))

theorem execCanSend_steady {s0 : State} {h f} {s : State} (hs : Steady s0 s) :
    SteadyRes s0 (execCanSend h f s) := by
  delta execCanSend
  refine State.dispatch_steady hs ?_
  intro t1 ht1
  refine Steady.ite (State.complete_steady ht1) ?_
  extract_lets +onlyGivenNames -merge x2 x3 x4
  refine Steady.ite (State.complete_steady ht1) ?_
  exact Steady.ite (State.complete_steady ht1) (State.complete_steady (State.canLoad_steady ht1))

theorem execCanTxDone_steady {s0 : State} {c} {s : State} (hs : Steady s0 s) :
    SteadyRes s0 (execCanTxDone c s) := by
  delta execCanTxDone
  split
  · exact SteadyRes.next hs
  · extract_lets +onlyGivenNames -merge x1
    extract_lets +onlyGivenNames -merge x2
    have h2 : Steady s0 x2 := State.canFree_steady (State.canDelay_steady hs)
    clear_value x2
    extract_lets +onlyGivenNames -merge x3
    have h3 : Steady s0 x3 := State.setFld_steady h2
    clear_value x3
    extract_lets +onlyGivenNames -merge x4
    have h4 : Steady s0 x4 := State.canErrState_steady (State.modCan_steady h3)
    clear_value x4
    clear_value x1
    split
    · exact SteadyRes.next (State.canPoll_steady h4)
    · extract_lets +onlyGivenNames -merge x5
      extract_lets +onlyGivenNames -merge x6 x7
      have h7 : Steady s0 x7 := Steady.ite (State.canReceive_steady h4) h4
      clear_value x7
      exact SteadyRes.next (State.canPoll_steady h7)

theorem execPop_steady {s0 : State} {w c} {s : State} (hs : Steady s0 s) :
    SteadyRes s0 (execPop w c s) := by
  delta execPop
  exact State.access_steady hs (fun t1 ht1 => State.canWindow_steady (State.modCan_steady ht1))

theorem execProtocolException_steady {s0 : State} {c} {s : State} (hs : Steady s0 s) :
    SteadyRes s0 (execProtocolException c s) := by
  delta execProtocolException
  refine SteadyRes.ite (SteadyRes.next hs) ?_
  extract_lets +onlyGivenNames -merge x1
  have h1 : Steady s0 x1 := State.incSat_steady (State.setFlag_steady hs)
  clear_value x1
  exact SteadyRes.next (State.setFld_steady (State.canAttemptFailed_steady h1))

theorem execTxDominantTimeout_steady {s0 : State} {a0} {s : State} (hs : Steady s0 s) :
    SteadyRes s0 (execTxDominantTimeout a0 s) := by
  delta execTxDominantTimeout
  exact SteadyRes.next hs

end Sys2Proof.Machine
end

