-- ==== Sys2Proof/Laws/SteadySpd.lean ====
section
/-! SUPPORT. Machine/Spd.lean: what each operation keeps (Laws/Steady.lean). -/

namespace Sys2Proof.Machine

theorem State.disableNow_steady {s0 s : State} {a} (hs : Steady s0 s) :
    Steady s0 (State.disableNow s a) := by
  delta State.disableNow
  extract_lets +onlyGivenNames -merge x1
  refine Steady.ite (State.endSeries_steady hs) ?_
  extract_lets +onlyGivenNames -merge x2
  have h2 : Steady s0 x2 := State.modPos_steady hs
  clear_value x2
  exact when_steady (fun t3 ht3 => State.setAxis_steady ht3) h2

theorem State.followLoop_steady {s0 s : State} {a} (hs : Steady s0 s) :
    Steady s0 (State.followLoop s a) := by
  delta State.followLoop
  extract_lets +onlyGivenNames -merge x1 x2 x3 x4
  have h4 : Steady s0 x4 := State.modSpd_steady hs
  clear_value x4
  exact State.setReg_steady (State.setReg_steady h4)

theorem State.heaveFade_steady {s0 s : State} {a} (hs : Steady s0 s) :
    Steady s0 (State.heaveFade s a) := by
  delta State.heaveFade
  extract_lets +onlyGivenNames -merge x1 x2
  exact Steady.ite hs (State.setFlag_steady (State.modSpd_steady hs))

theorem State.heave_steady {s0 s : State} {a} (hs : Steady s0 s) :
    Steady s0 (State.heave s a) := by
  delta State.heave
  extract_lets +onlyGivenNames -merge x1 x2 x3 x4 x5
  have h5 : Steady s0 x5 := State.modSpd_steady hs
  clear_value x5
  extract_lets +onlyGivenNames -merge x6
  have h6 : Steady s0 x6 := Steady.ite (State.heaveFade_steady h5) h5
  clear_value x6
  extract_lets +onlyGivenNames -merge x7 x8 x9 x10 x11
  clear_value x11
  clear_value x10
  split
  · extract_lets +onlyGivenNames -merge x12
    extract_lets +onlyGivenNames -merge x13 x14
    have h14 : Steady s0 x14 := State.modSpd_steady h6
    clear_value x14
    exact State.setFlag_steady (State.setFlag_steady h14)
  · split
    · extract_lets +onlyGivenNames -merge x15
      refine Steady.ite ?_ (State.modSpd_steady h6)
      exact State.modSpd_steady (forAll_steady (fun t16 t17 ht17 => State.setFlag_steady ht17) h6)
    · exact Steady.ite (State.modSpd_steady h6) h6

theorem State.issue_steady {s0 s : State} {a l nRef t clamped} (hs : Steady s0 s) :
    Steady s0 (State.issue s a l nRef t clamped) := by
  delta State.issue
  extract_lets +onlyGivenNames -merge x1 x2
  have h2 : Steady s0 x2 := State.modSpd_steady hs
  clear_value x2
  extract_lets +onlyGivenNames -merge x3
  have h3 : Steady s0 x3 := State.setReg_steady (State.setReg_steady h2)
  clear_value x3
  extract_lets +onlyGivenNames -merge x4
  have h4 : Steady s0 x4 := State.setReg_steady (State.setReg_steady h3)
  clear_value x4
  extract_lets +onlyGivenNames -merge x5
  have h5 : Steady s0 x5 := State.setReg_steady (State.setReg_steady h4)
  clear_value x5
  extract_lets +onlyGivenNames -merge x6
  have h6 : Steady s0 x6 := State.setFlag_steady (State.setFlag_steady h5)
  clear_value x6
  exact State.setFlag_steady (State.setFld_steady h6)

theorem State.regenRamp_steady {s0 s : State} {a} (hs : Steady s0 s) :
    SteadyOut s0 (State.regenRamp s a) := by
  delta State.regenRamp
  extract_lets +onlyGivenNames -merge x1 x2
  have h2 : Steady s0 x2 := by
    unfold x2
    refine forAll_steady ?_ hs
    intro t3 t4 ht4
    extract_lets +onlyGivenNames -merge x5 x6
    exact State.modPsp_steady ht4
  clear_value x2
  exact SteadyOut.mk h2

theorem State.latchFactors_steady {s0 s : State} {a} (hs : Steady s0 s) :
    Steady s0 (State.latchFactors s a) := by
  delta State.latchFactors
  extract_lets +onlyGivenNames -merge x1
  split
  · rename_i _ y2 q2
    have h2 := SteadyOut.of_eq q2 (State.regenRamp_steady hs)
    extract_lets +onlyGivenNames -merge x3
    have h3 : Steady s0 x3 := State.modSpd_steady h2
    clear_value x3
    extract_lets +onlyGivenNames -merge x4 x5
    have h5 : Steady s0 x5 := State.setFld_steady (State.setFld_steady h3)
    clear_value x5
    extract_lets +onlyGivenNames -merge x6
    have h6 : Steady s0 x6 := State.setFld_steady h5
    clear_value x6
    extract_lets +onlyGivenNames -merge x7
    have h7 : Steady s0 x7 := State.setFlag_steady (State.setFlag_steady h6)
    clear_value x7
    exact State.setFlag_steady h7

theorem State.latchLoad_steady {s0 s : State} {a} (hs : Steady s0 s) :
    Steady s0 (State.latchLoad s a) := by
  delta State.latchLoad
  extract_lets +onlyGivenNames -merge x1 x2 x3
  exact State.modSpd_steady hs

theorem State.limiter_steady {s0 s : State} {a l nLim tm ff} (hs : Steady s0 s) :
    SteadyOut s0 (State.limiter s a l nLim tm ff) := by
  delta State.limiter
  extract_lets +onlyGivenNames -merge x1 x2 x3 x4 x5 x6 x7
  have h7 : Steady s0 x7 := State.setFlag_steady (State.modSpd_steady hs)
  clear_value x7
  exact SteadyOut.mk h7

theorem State.ownRef_steady {s0 s : State} {a} (hs : Steady s0 s) :
    Steady s0 (State.ownRef s a) := by
  delta State.ownRef
  exact Steady.ite (State.modSpd_steady hs) hs

theorem State.ramp_steady {s0 s : State} {a} (hs : Steady s0 s) :
    Steady s0 (State.ramp s a) := by
  delta State.ramp
  extract_lets +onlyGivenNames -merge x1 x2 x3 x4 x5 x6 x7 x8 x9 x10 x11 x12 x13 x14 x15 x16
  extract_lets +onlyGivenNames -merge x17 x18 x19
  exact State.modSpd_steady hs

theorem State.slackWatch_steady {s0 s : State} {a} (hs : Steady s0 s) :
    Steady s0 (State.slackWatch s a) := by
  delta State.slackWatch
  refine Steady.ite hs ?_
  extract_lets +onlyGivenNames -merge x1 x2 x3 x4 x5
  have h5 : Steady s0 x5 := State.modSpd_steady hs
  clear_value x5
  exact when_steady (fun t6 ht6 => State.setFlag_steady ht6) h5

theorem State.snatch_steady {s0 s : State} {a} (hs : Steady s0 s) :
    Steady s0 (State.snatch s a) := by
  delta State.snatch
  refine Steady.ite hs ?_
  extract_lets +onlyGivenNames -merge x1 x2 x3 x4 x5 x6 x7
  have h7 : Steady s0 x7 := State.modSpd_steady hs
  clear_value x7
  refine Steady.ite h7 ?_
  extract_lets +onlyGivenNames -merge x8
  have h8 : Steady s0 x8 := State.incSat_steady h7
  clear_value x8
  extract_lets +onlyGivenNames -merge x9
  refine Steady.ite ?_ ?_
  · extract_lets +onlyGivenNames -merge x10
    have h10 : SteadyOut s0 x10 := State.freeNat_steady h8
    clear_value x10
    exact State.journal_steady (SteadyOut.snd h10)
  · extract_lets +onlyGivenNames -merge x11
    have h11 : Steady s0 x11 := State.modSpd_steady (State.ownRef_steady h8)
    clear_value x11
    exact State.setFlag_steady (State.setFlag_steady h11)

theorem State.speedFilter_steady {s0 s : State} {a} (hs : Steady s0 s) :
    Steady s0 (State.speedFilter s a) := by
  delta State.speedFilter
  extract_lets +onlyGivenNames -merge x1 x2 x3 x4
  have h4 : Steady s0 x4 := State.modSpd_steady hs
  clear_value x4
  extract_lets +onlyGivenNames -merge x5 x6
  exact State.setReg_steady (State.modSpd_steady h4)

theorem State.ventWatch_steady {s0 s : State} {a} (hs : Steady s0 s) :
    Steady s0 (State.ventWatch s a) := by
  delta State.ventWatch
  extract_lets +onlyGivenNames -merge x1 x2 x3
  split
  · extract_lets +onlyGivenNames -merge x4
    exact State.modSpd_steady hs
  · refine Steady.ite hs ?_
    extract_lets +onlyGivenNames -merge x5 x6 x7 x8 x9
    refine Steady.ite ?_ hs
    extract_lets +onlyGivenNames -merge x10
    have h10 : Steady s0 x10 := State.modSpd_steady hs
    clear_value x10
    exact State.incSat_steady (State.setFlag_steady h10)

theorem State.torqueOut_steady {s0 s : State} {a l nRef ff} (hs : Steady s0 s) :
    SteadyTri s0 (State.torqueOut s a l nRef ff) := by
  delta State.torqueOut
  extract_lets +onlyGivenNames -merge x1 x2 x3 x4 x5
  have h5 : Steady s0 x5 := State.setFlag_steady hs
  clear_value x5
  extract_lets +onlyGivenNames -merge x6
  split
  · extract_lets +onlyGivenNames -merge x7
    refine SteadyTri.ite ?_ (SteadyTri.mk (State.setFlag_steady h5))
    extract_lets +onlyGivenNames -merge x8
    have h8 : SteadyOut s0 x8 := State.limiter_steady h5
    clear_value x8
    exact SteadyTri.mk (SteadyOut.snd h8)
  · extract_lets +onlyGivenNames -merge x9
    have h9 : Steady s0 x9 := Steady.ite (State.modSpd_steady h5) h5
    clear_value x9
    split
    · extract_lets +onlyGivenNames -merge x10
      extract_lets +onlyGivenNames -merge x11
      have h11 : SteadyOut s0 x11 := State.limiter_steady h9
      clear_value x11
      exact SteadyTri.mk (SteadyOut.snd h11)
    · refine SteadyTri.ite ?_ ?_
      · extract_lets +onlyGivenNames -merge x12
        extract_lets +onlyGivenNames -merge x13
        have h13 : SteadyOut s0 x13 := State.limiter_steady h9
        clear_value x13
        exact SteadyTri.mk (State.modSpd_steady (SteadyOut.snd h13))
      · extract_lets +onlyGivenNames -merge x14
        have h14 : Steady s0 x14 := State.setFlag_steady h9
        clear_value x14
        refine SteadyTri.ite ?_ ?_
        · extract_lets +onlyGivenNames -merge x15
          have h15 : SteadyOut s0 x15 := SteadyOut.ite (State.freeBool_steady h14) (SteadyOut.mk h14)
          clear_value x15
          exact SteadyTri.mk (SteadyOut.snd h15)
        · extract_lets +onlyGivenNames -merge x16
          extract_lets +onlyGivenNames -merge x17
          exact SteadyTri.mk (State.modSpd_steady h14)

theorem State.zeroWatch_steady {s0 s : State} {a} (hs : Steady s0 s) :
    Steady s0 (State.zeroWatch s a) := by
  delta State.zeroWatch
  refine Steady.ite hs ?_
  extract_lets +onlyGivenNames -merge x1 x2 x3 x4
  exact State.modSpd_steady hs

theorem State.speedLoop_steady {s0 s : State} {a} (hs : Steady s0 s) :
    Steady s0 (State.speedLoop s a) := by
  delta State.speedLoop
  extract_lets +onlyGivenNames -merge x1
  have h1 : Steady s0 x1 := State.ventWatch_steady (State.slackWatch_steady (State.snatch_steady hs))
  clear_value x1
  extract_lets +onlyGivenNames -merge x2 x3 x4 x5 x6
  have h6 : Steady s0 x6 := State.modSpd_steady h1
  clear_value x6
  extract_lets +onlyGivenNames -merge x7
  have h7 : Steady s0 x7 := State.heave_steady h6
  clear_value x7
  extract_lets +onlyGivenNames -merge x8 x9
  have h9 : Steady s0 x9 := Steady.ite (State.modSpd_steady h7) (Steady.ite h7 (State.ramp_steady h7))
  clear_value x9
  extract_lets +onlyGivenNames -merge x10
  have h10 : Steady s0 x10 := State.modSpd_steady h9
  clear_value x10
  extract_lets +onlyGivenNames -merge x11 x12 x13 x14 x15 x16
  have h16 : SteadyTri s0 x16 := State.torqueOut_steady h10
  clear_value x16
  exact State.zeroWatch_steady (State.issue_steady (SteadyTri.snd h16))

theorem State.stopNow_steady {s0 s : State} {a quick} (hs : Steady s0 s) :
    Steady s0 (State.stopNow s a quick) := by
  delta State.stopNow
  refine Steady.ite ?_ (State.beginStop_steady hs)
  refine Steady.ite ?_ (State.setAxis_steady (State.endStart_steady hs))
  exact State.endSeries_steady (State.endStart_steady hs)

theorem State.stopAxis_steady {s0 s : State} {h a} (hs : Steady s0 s) :
    Steady s0 (State.stopAxis s h a) := by
  delta State.stopAxis
  refine Steady.ite (State.complete_steady hs) ?_
  extract_lets +onlyGivenNames -merge x1
  have h1 : Steady s0 x1 := State.stopNow_steady hs
  clear_value x1
  extract_lets +onlyGivenNames -merge x2 x3
  have h3 : Steady s0 x3 := Steady.ite (Steady.same h1 rfl rfl rfl rfl rfl rfl rfl) h1
  clear_value x3
  exact State.complete_steady (State.settle_steady h3)

theorem execAxisDisable_steady {s0 : State} {h} {s : State} (hs : Steady s0 s) :
    SteadyRes s0 (execAxisDisable h s) := by
  delta execAxisDisable
  refine State.dispatch_steady hs ?_
  intro t1 ht1
  split
  · exact State.complete_steady ht1
  · refine Steady.ite ?_ ?_
    · extract_lets +onlyGivenNames -merge x2
      extract_lets +onlyGivenNames -merge x3 x4
      have h4 : Steady s0 x4 := Steady.same ht1 rfl rfl rfl rfl rfl rfl rfl
      clear_value x4
      exact Steady.same h4 rfl rfl rfl rfl rfl rfl rfl
    · exact State.complete_steady (State.settle_steady (State.disableNow_steady ht1))

theorem execAxisEnable_steady {s0 : State} {h} {s : State} (hs : Steady s0 s) :
    SteadyRes s0 (execAxisEnable h s) := by
  delta execAxisEnable
  refine State.dispatch_steady hs ?_
  intro t1 ht1
  split
  · exact State.refuse_steady ht1
  · extract_lets +onlyGivenNames -merge x2
    have h2 : Steady s0 x2 := when_steady (fun t3 ht3 => State.setMode_steady ht3) (State.reqRes_steady ht1)
    clear_value x2
    extract_lets +onlyGivenNames -merge x4 x5 x6
    have h6 : Steady s0 x6 := Steady.same h2 rfl rfl rfl rfl rfl rfl rfl
    clear_value x6
    extract_lets +onlyGivenNames -merge x7 x8
    have h8 : Steady s0 x8 := Steady.ite (Steady.same h6 rfl rfl rfl rfl rfl rfl rfl) h6
    clear_value x8
    exact State.settle_steady (State.beginStart_steady h8)
  · exact State.complete_steady ht1

theorem execHeaveStall_steady {s0 : State} {a} {s : State} (hs : Steady s0 s) :
    SteadyRes s0 (execHeaveStall a s) := by
  delta execHeaveStall
  refine SteadyRes.ite ?_ (SteadyRes.next hs)
  exact SteadyRes.next (State.incSat_steady (State.modSpd_steady (State.heaveFade_steady hs)))

theorem execHeaveStream_steady {s0 : State} {h es} {s : State} (hs : Steady s0 s) :
    SteadyRes s0 (execHeaveStream h es s) := by
  delta execHeaveStream
  refine State.dispatch_steady hs ?_
  intro t1 ht1
  split
  · exact State.complete_steady ht1
  · refine Steady.ite (State.complete_steady ht1) ?_
    refine Steady.ite (State.complete_steady ht1) ?_
    refine Steady.ite (State.complete_steady ht1) ?_
    extract_lets +onlyGivenNames -merge x2 x3
    have h3 : Steady s0 x3 := by
      unfold x3
      refine forAll_steady ?_ ht1
      intro t4 t5 ht5
      exact Steady.ite (State.incSat_steady ht5) (State.modSpd_steady ht5)
    clear_value x3
    exact State.complete_steady h3

theorem execHoldZeroEnd_steady {s0 : State} {a} {s : State} (hs : Steady s0 s) :
    SteadyRes s0 (execHoldZeroEnd a s) := by
  delta execHoldZeroEnd
  refine SteadyRes.ite ?_ (SteadyRes.next hs)
  exact SteadyRes.next (State.settle_steady (State.setAxis_steady hs))

theorem execOverspeed_steady {s0 : State} {a} {s : State} (hs : Steady s0 s) :
    SteadyRes s0 (execOverspeed a s) := by
  delta execOverspeed
  refine SteadyRes.ite ?_ (SteadyRes.next hs)
  exact SteadyRes.next (State.settle_steady (State.axisFault_steady hs))

theorem execPositionLoopTick_steady {s0 : State} {a} {s : State} (hs : Steady s0 s) :
    SteadyRes s0 (execPositionLoopTick a s) := by
  delta execPositionLoopTick
  extract_lets +onlyGivenNames -merge x1
  refine SteadyRes.ite (SteadyRes.next hs) ?_
  extract_lets +onlyGivenNames -merge x2 x3 x4 x5 x6 x7 x8 x9 x10 x11
  exact SteadyRes.next (State.modSpd_steady hs)

theorem execRefSet_steady {s0 : State} {h value} {s : State} (hs : Steady s0 s) :
    SteadyRes s0 (execRefSet h value s) := by
  delta execRefSet
  refine State.dispatch_steady hs ?_
  intro t1 ht1
  split
  · extract_lets +onlyGivenNames -merge x2
    refine Steady.ite (State.complete_steady ht1) ?_
    refine Steady.ite (State.complete_steady ht1) ?_
    refine Steady.ite (State.complete_steady ht1) ?_
    refine Steady.ite (State.complete_steady ht1) ?_
    extract_lets +onlyGivenNames -merge x3 x4 x5 x6
    have h6 : Steady s0 x6 := State.modSpd_steady ht1
    clear_value x6
    extract_lets +onlyGivenNames -merge x7
    have h7 : Steady s0 x7 := when_steady (fun t8 ht8 => State.setReg_steady ht8) h6
    clear_value x7
    exact State.complete_steady h7
  · exact State.complete_steady ht1

theorem execShockWindowEnd_steady {s0 : State} {a} {s : State} (hs : Steady s0 s) :
    SteadyRes s0 (execShockWindowEnd a s) := by
  delta execShockWindowEnd
  refine SteadyRes.ite (SteadyRes.next hs) ?_
  extract_lets +onlyGivenNames -merge x1 x2 x3
  have h3 : Steady s0 x3 := State.modSpd_steady (State.endShock_steady hs)
  clear_value x3
  clear_value x2
  split
  · exact SteadyRes.next h3
  · exact SteadyRes.next (State.settle_steady (State.beginStop_steady h3))

theorem execSlack_steady {s0 : State} {a} {s : State} (hs : Steady s0 s) :
    SteadyRes s0 (execSlack a s) := by
  delta execSlack
  refine SteadyRes.ite (SteadyRes.next hs) ?_
  extract_lets +onlyGivenNames -merge x1
  have h1 : Steady s0 x1 := State.incSat_steady (State.setFlag_steady hs)
  clear_value x1
  split
  · extract_lets +onlyGivenNames -merge x2
    have h2 : SteadyOut s0 x2 := State.freeNat_steady h1
    clear_value x2
    exact SteadyRes.next (State.journal_steady (SteadyOut.snd h2))
  · exact SteadyRes.next (State.settle_steady (State.beginStop_steady h1))
  · refine SteadyRes.ite ?_ (SteadyRes.next h1)
    exact SteadyRes.next (State.modSpd_steady (State.ownRef_steady h1))

theorem execSpeedLoopPeriod_steady {s0 : State} {a} {s : State} (hs : Steady s0 s) :
    SteadyRes s0 (execSpeedLoopPeriod a s) := by
  delta execSpeedLoopPeriod
  refine SteadyRes.ite (SteadyRes.next hs) ?_
  extract_lets +onlyGivenNames -merge x1
  have h1 : Steady s0 x1 := by
    unfold x1
    refine State.modSpd_steady ?_
    exact State.latchLoad_steady (State.latchFactors_steady (State.speedFilter_steady hs))
  clear_value x1
  extract_lets +onlyGivenNames -merge x2
  refine SteadyRes.ite (SteadyRes.next h1) ?_
  refine SteadyRes.ite ?_ (SteadyRes.next (State.speedLoop_steady h1))
  exact SteadyRes.next (State.followLoop_steady h1)

theorem execStopTmo_steady {s0 : State} {a} {s : State} (hs : Steady s0 s) :
    SteadyRes s0 (execStopTmo a s) := by
  delta execStopTmo
  refine SteadyRes.ite ?_ (SteadyRes.next hs)
  exact SteadyRes.next (State.settle_steady (State.axisFault_steady hs))

theorem execTOffRampEnd_steady {s0 : State} {a} {s : State} (hs : Steady s0 s) :
    SteadyRes s0 (execTOffRampEnd a s) := by
  delta execTOffRampEnd
  extract_lets +onlyGivenNames -merge x1
  refine SteadyRes.ite ?_ (SteadyRes.next hs)
  exact SteadyRes.next (State.settle_steady (State.setAxis_steady hs))

theorem execVentEnd_steady {s0 : State} {a} {s : State} (hs : Steady s0 s) :
    SteadyRes s0 (execVentEnd a s) := by
  delta execVentEnd
  extract_lets +onlyGivenNames -merge x1
  exact SteadyRes.next (when_steady (fun t2 ht2 => State.endVent_steady ht2) hs)

theorem execZeroSpeed_steady {s0 : State} {a} {s : State} (hs : Steady s0 s) :
    SteadyRes s0 (execZeroSpeed a s) := by
  delta execZeroSpeed
  extract_lets +onlyGivenNames -merge x1
  refine SteadyRes.ite (SteadyRes.next hs) ?_
  refine SteadyRes.ite ?_ (SteadyRes.next (State.modSpd_steady hs))
  exact SteadyRes.next (State.settle_steady (State.setAxis_steady hs))

end Sys2Proof.Machine
end

