-- ==== Sys2Proof/Laws/SteadyPrg.lean ====
section
/-! SUPPORT. Machine/Prg.lean: what each operation keeps (Laws/Steady.lean). -/

namespace Sys2Proof.Machine

theorem State.gearEnd_steady {s0 s : State} {c} (hs : Steady s0 s) :
    Steady s0 (State.gearEnd s c) := by
  delta State.gearEnd
  refine Steady.ite hs ?_
  extract_lets +onlyGivenNames -merge x1 x2
  have h2 : Steady s0 x2 := State.setFlag_steady (State.setFlag_steady hs)
  clear_value x2
  exact State.setFlag_steady (State.modPrg_steady h2)

theorem State.hardStop_steady {s0 s : State} {c halts} (hs : Steady s0 s) :
    Steady s0 (State.hardStop s c halts) := by
  delta State.hardStop
  extract_lets +onlyGivenNames -merge x1
  have h1 : Steady s0 x1 := State.setFlag_steady (State.gearEnd_steady hs)
  clear_value x1
  refine Steady.ite (State.prgStop_steady (State.modPrg_steady h1)) ?_
  extract_lets +onlyGivenNames -merge x2 x3 x4 x5
  have h5 : Steady s0 x5 := State.modPrg_steady h1
  clear_value x5
  extract_lets +onlyGivenNames -merge x6
  have h6 : Steady s0 x6 := State.setFlag_steady (State.setFlag_steady h5)
  clear_value x6
  exact when_steady (fun t7 ht7 => State.setFlag_steady ht7) h6

theorem State.devLatch_steady {s0 s : State} {c} (hs : Steady s0 s) :
    Steady s0 (State.devLatch s c) := by
  delta State.devLatch
  extract_lets +onlyGivenNames -merge x1
  have h1 : Steady s0 x1 := State.journal_steady (State.setFlag_steady hs)
  clear_value x1
  refine Steady.ite ?_ (State.beginStop_steady h1)
  extract_lets +onlyGivenNames -merge x2 x3
  have h3 : Steady s0 x3 := State.setFlag_steady (State.hardStop_steady h1)
  clear_value x3
  exact State.modPrg_steady h3

theorem State.devSample_steady {s0 s : State} {c} (hs : Steady s0 s) :
    Steady s0 (State.devSample s c) := by
  delta State.devSample
  split
  · exact State.setReg_steady (State.modPrg_steady hs)
  · extract_lets +onlyGivenNames -merge x1
    extract_lets +onlyGivenNames -merge x2 x3
    exact State.setReg_steady (State.modPrg_steady hs)

theorem State.emit_steady {s0 s : State} {c n fmax} (hs : Steady s0 s) :
    Steady s0 (State.emit s c n fmax) := by
  delta State.emit
  extract_lets +onlyGivenNames -merge x1 x2 x3 x4 x5 x6 x7 x8 x9 x10
  have h10 : Steady s0 x10 := State.modPrg_steady hs
  clear_value x10
  exact State.setReg_steady h10

theorem State.engage_steady {s0 s : State} {c} (hs : Steady s0 s) :
    Steady s0 (State.engage s c) := by
  delta State.engage
  extract_lets +onlyGivenNames -merge x1
  refine Steady.ite (State.journal_steady hs) ?_
  extract_lets +onlyGivenNames -merge x2 x3 x4 x5 x6
  have h6 : Steady s0 x6 := State.modPrg_steady hs
  clear_value x6
  exact State.setFlag_steady (State.setFlag_steady h6)

theorem State.stopChan_steady {s0 s : State} {c k halts} (hs : Steady s0 s) :
    Steady s0 (State.stopChan s c k halts) := by
  delta State.stopChan
  split
  · exact State.hardStop_steady hs
  · refine Steady.ite (State.setFlag_steady (State.gearEnd_steady hs)) ?_
    exact Steady.ite hs (State.softStop_steady (State.prgStop_steady hs))

theorem State.limStop_steady {s0 s : State} {c} (hs : Steady s0 s) :
    Steady s0 (State.limStop s c) := by
  delta State.limStop
  exact State.stopChan_steady hs

theorem State.limHold_steady {s0 s : State} {c} (hs : Steady s0 s) :
    Steady s0 (State.limHold s c) := by
  delta State.limHold
  extract_lets +onlyGivenNames -merge x1 x2
  exact Steady.ite (State.limStop_steady hs) hs

theorem State.planStop_steady {s0 s : State} {c quick} (hs : Steady s0 s) :
    Steady s0 (State.planStop s c quick) := by
  delta State.planStop
  extract_lets +onlyGivenNames -merge x1 x2
  exact State.modPrg_steady hs

theorem State.stopDone_steady {s0 s : State} {c} (hs : Steady s0 s) :
    Steady s0 (State.stopDone s c) := by
  delta State.stopDone
  extract_lets +onlyGivenNames -merge x1 x2 x3
  have h3 : Steady s0 x3 := State.modPrg_steady hs
  clear_value x3
  extract_lets +onlyGivenNames -merge x4
  have h4 : Steady s0 x4 := State.setFlag_steady (State.setFlag_steady h3)
  clear_value x4
  extract_lets +onlyGivenNames -merge x5
  exact Steady.ite (State.enterStopping_steady h4) (Steady.ite (State.modSpd_steady h4) h4)

theorem State.planMove_steady {s0 s : State} {c} (hs : Steady s0 s) :
    Steady s0 (State.planMove s c) := by
  delta State.planMove
  extract_lets +onlyGivenNames -merge x1 x2 x3
  have h3 : Steady s0 x3 := State.modPrg_steady hs
  clear_value x3
  exact when_steady (fun t4 ht4 => State.setFlag_steady ht4) h3

theorem State.moveDone_steady {s0 s : State} {c} (hs : Steady s0 s) :
    Steady s0 (State.moveDone s c) := by
  delta State.moveDone
  extract_lets +onlyGivenNames -merge x1
  have h1 : Steady s0 x1 := State.modPrg_steady hs
  clear_value x1
  extract_lets +onlyGivenNames -merge x2
  have h2 : Steady s0 x2 := State.setFlag_steady (State.setFlag_steady h1)
  clear_value x2
  exact State.irq_steady (State.event_steady h2)

theorem State.putProfile_steady {s0 s : State} {c} (hs : Steady s0 s) :
    Steady s0 (State.putProfile s c) := by
  delta State.putProfile
  extract_lets +onlyGivenNames -merge x1
  exact State.setReg_steady (State.setReg_steady hs)

theorem State.evalCurve_steady {s0 s : State} {c} (hs : Steady s0 s) :
    Steady s0 (State.evalCurve s c) := by
  delta State.evalCurve
  extract_lets +onlyGivenNames -merge x1 x2 x3 x4 x5
  have h5 : Steady s0 x5 := State.modPrg_steady hs
  clear_value x5
  extract_lets +onlyGivenNames -merge x6
  have h6 : Steady s0 x6 := State.limHold_steady h5
  clear_value x6
  extract_lets +onlyGivenNames -merge x7 x8 x9
  have h9 : Steady s0 x9 := State.modPrg_steady h6
  clear_value x9
  extract_lets +onlyGivenNames -merge x10
  have h10 : Steady s0 x10 := by
    unfold x10
    refine Steady.ite ?_ ?_
    · split
      · extract_lets +onlyGivenNames -merge x11
        have h11 : Steady s0 x11 := State.planStop_steady h6
        clear_value x11
        exact Steady.ite (State.stopDone_steady h11) h11
      · exact State.planMove_steady h6
    · refine Steady.ite ?_ h6
      refine Steady.ite (State.stopDone_steady h9) ?_
      exact Steady.ite (State.planMove_steady h9) (State.moveDone_steady h9)
  clear_value x10
  exact State.putProfile_steady h10

theorem State.evalPulse_steady {s0 s : State} {c n} (hs : Steady s0 s) :
    Steady s0 (State.evalPulse s c n) := by
  delta State.evalPulse
  extract_lets +onlyGivenNames -merge x1 x2 x3 x4 x5 x6 x7 x8 x9
  refine Steady.ite (State.evalCurve_steady hs) ?_
  extract_lets +onlyGivenNames -merge x10
  have h10 : Steady s0 x10 := State.modPrg_steady hs
  clear_value x10
  extract_lets +onlyGivenNames -merge x11
  have h11 : Steady s0 x11 := State.setReg_steady (State.setFlag_steady h10)
  clear_value x11
  exact State.putProfile_steady h11

theorem State.jogSample_steady {s0 s : State} {c} (hs : Steady s0 s) :
    Steady s0 (State.jogSample s c) := by
  delta State.jogSample
  extract_lets +onlyGivenNames -merge x1
  refine Steady.ite (State.modPrg_steady hs) ?_
  extract_lets +onlyGivenNames -merge x2 x3
  have h3 : Steady s0 x3 := State.emit_steady hs
  clear_value x3
  extract_lets +onlyGivenNames -merge x4
  exact State.modPrg_steady h3

theorem State.limReached_steady {s0 s : State} {c neg} (hs : Steady s0 s) :
    Steady s0 (State.limReached s c neg) := by
  delta State.limReached
  extract_lets +onlyGivenNames -merge x1
  have h1 : Steady s0 x1 := State.journal_steady hs
  clear_value x1
  refine Steady.ite h1 ?_
  exact Steady.ite (State.limStop_steady h1) (when_steady (fun t2 ht2 => State.modSpd_steady ht2) h1)

theorem State.limShow_steady {s0 s : State} {c} (hs : Steady s0 s) :
    Steady s0 (State.limShow s c) := by
  delta State.limShow
  extract_lets +onlyGivenNames -merge x1 x2 x3 x4 x5 x6
  have h6 : Steady s0 x6 := State.setFlag_steady (State.setFlag_steady hs)
  clear_value x6
  extract_lets +onlyGivenNames -merge x7
  have h7 : Steady s0 x7 := State.setFlag_steady h6
  clear_value x7
  extract_lets +onlyGivenNames -merge x8
  have h8 : Steady s0 x8 := State.setFlag_steady (State.setFlag_steady h7)
  clear_value x8
  refine when_steady (fun t9 ht9 => State.limReached_steady ht9) ?_
  exact when_steady (fun t10 ht10 => State.limReached_steady ht10) h8

theorem State.limAll_steady {s0 s : State} (hs : Steady s0 s) :
    Steady s0 (State.limAll s) := by
  delta State.limAll
  exact forAll_steady (fun t1 t2 ht2 => State.limShow_steady ht2) hs

theorem State.prgCmd_steady {s0 s : State} {w c bit} (hs : Steady s0 s) :
    SteadyRes s0 (State.prgCmd s w c bit) := by
  delta State.prgCmd
  exact State.access_steady hs (fun t1 ht1 => Steady.ite (State.modPrg_steady ht1) ht1)

theorem State.setPos_steady {s0 s : State} {c} (hs : Steady s0 s) :
    Steady s0 (State.setPos s c) := by
  delta State.setPos
  extract_lets +onlyGivenNames -merge x1 x2 x3 x4
  have h4 : Steady s0 x4 := State.setReg_steady hs
  clear_value x4
  extract_lets +onlyGivenNames -merge x5
  have h5 : Steady s0 x5 := State.modPrg_steady h4
  clear_value x5
  exact forAll_steady (fun t6 t7 ht7 => State.setFlag_steady ht7) h5

theorem State.stepGoal_steady {s0 s : State} {c} (hs : Steady s0 s) :
    SteadyOut s0 (State.stepGoal s c) := by
  delta State.stepGoal
  split
  · exact SteadyOut.mk hs
  · refine SteadyOut.ite (SteadyOut.mk hs) ?_
    extract_lets +onlyGivenNames -merge x1
    refine SteadyOut.ite ?_ ?_
    · exact SteadyOut.mk (State.setFlag_steady (State.setFlag_steady hs))
    · refine SteadyOut.ite ?_ ?_
      · exact SteadyOut.mk (State.gearEnd_steady (State.setFlag_steady hs))
      · extract_lets +onlyGivenNames -merge x2
        extract_lets +onlyGivenNames -merge x3 x4 x5
        have h5 : Steady s0 x5 := State.setFlag_steady (State.modPrg_steady hs)
        clear_value x5
        exact SteadyOut.mk (State.setReg_steady h5)
  · exact SteadyOut.mk hs

theorem State.takeCommands_steady {s0 s : State} {c} (hs : Steady s0 s) :
    Steady s0 (State.takeCommands s c) := by
  delta State.takeCommands
  extract_lets +onlyGivenNames -merge x1 x2
  have h2 : Steady s0 x2 := State.modPrg_steady hs
  clear_value x2
  extract_lets +onlyGivenNames -merge x3
  have h3 : Steady s0 x3 := when_steady (fun t4 ht4 => State.hardStop_steady ht4) h2
  clear_value x3
  extract_lets +onlyGivenNames -merge x5
  have h5 : Steady s0 x5 := when_steady (fun t6 ht6 => State.gearEnd_steady ht6) h3
  clear_value x5
  extract_lets +onlyGivenNames -merge x7
  have h7 : Steady s0 x7 := when_steady (fun t8 ht8 => State.setPos_steady ht8) h5
  clear_value x7
  exact when_steady (fun t9 ht9 => State.engage_steady ht9) h7

theorem State.stepSample_steady {s0 s : State} {c} (hs : Steady s0 s) :
    Steady s0 (State.stepSample s c) := by
  delta State.stepSample
  extract_lets +onlyGivenNames -merge x1
  have h1 : Steady s0 x1 := State.takeCommands_steady hs
  clear_value x1
  refine Steady.ite (State.jogSample_steady h1) ?_
  split
  · rename_i y2 q2
    have h2 := SteadyOut.of_eq q2 (State.stepGoal_steady h1)
    extract_lets +onlyGivenNames -merge x3 x4 x5
    exact State.setFld_steady (State.modPrg_steady h2)
  · rename_i _ y6 q6
    have h6 := SteadyOut.of_eq q6 (State.stepGoal_steady h1)
    extract_lets +onlyGivenNames -merge x7
    refine Steady.ite (State.limStop_steady h6) ?_
    extract_lets +onlyGivenNames -merge x8
    have h8 : Steady s0 x8 := State.emit_steady h6
    clear_value x8
    extract_lets +onlyGivenNames -merge x9 x10
    have h10 : Steady s0 x10 := State.setFld_steady h8
    clear_value x10
    exact Steady.ite (State.hardStop_steady (State.setFlag_steady h10)) h10

theorem execDisengage_steady {s0 : State} {w c} {s : State} (hs : Steady s0 s) :
    SteadyRes s0 (execDisengage w c s) := by
  delta execDisengage
  exact State.prgCmd_steady hs

theorem execEngage_steady {s0 : State} {w c} {s : State} (hs : Steady s0 s) :
    SteadyRes s0 (execEngage w c s) := by
  delta execEngage
  exact State.prgCmd_steady hs

theorem execHalt_steady {s0 : State} {w c} {s : State} (hs : Steady s0 s) :
    SteadyRes s0 (execHalt w c s) := by
  delta execHalt
  exact State.prgCmd_steady hs

theorem execLimit_steady {s0 : State} {n neg reached} {s : State} (hs : Steady s0 s) :
    SteadyRes s0 (execLimit n neg reached s) := by
  delta execLimit
  extract_lets +onlyGivenNames -merge x1 x2
  have h2 : Steady s0 x2 := Steady.same hs rfl rfl rfl rfl rfl rfl rfl
  clear_value x2
  refine SteadyRes.ite ?_ (SteadyRes.next h2)
  exact SteadyRes.next (State.settle_steady (State.limAll_steady h2))

theorem execMove_steady {s0 : State} {h target} {s : State} (hs : Steady s0 s) :
    SteadyRes s0 (execMove h target s) := by
  delta execMove
  refine State.dispatch_steady hs ?_
  intro t1 ht1
  split
  · exact State.complete_steady ht1
  · extract_lets +onlyGivenNames -merge x2
    extract_lets +onlyGivenNames -merge x3 x4
    split
    · exact State.complete_steady ht1
    · extract_lets +onlyGivenNames -merge x5
      extract_lets +onlyGivenNames -merge x6 x7
      have h7 : Steady s0 x7 := State.modPrg_steady ht1
      clear_value x7
      extract_lets +onlyGivenNames -merge x8
      have h8 : Steady s0 x8 := when_steady (fun t9 ht9 => State.modSpd_steady ht9) h7
      clear_value x8
      extract_lets +onlyGivenNames -merge x10
      have h10 : Steady s0 x10 := forAll_steady (fun t11 t12 ht12 => State.setFlag_steady ht12) h8
      clear_value x10
      extract_lets +onlyGivenNames -merge x13
      have h13 : Steady s0 x13 := State.setReg_steady (State.setFlag_steady h10)
      clear_value x13
      exact State.complete_steady h13

theorem execProfileEvaluation_steady {s0 : State} {c} {s : State} (hs : Steady s0 s) :
    SteadyRes s0 (execProfileEvaluation c s) := by
  delta execProfileEvaluation
  refine SteadyRes.ite (SteadyRes.next hs) ?_
  refine SteadyRes.ite ?_ ?_
  · exact SteadyRes.ite (SteadyRes.next (State.evalCurve_steady hs)) (SteadyRes.next hs)
  · refine SteadyRes.ite (SteadyRes.next hs) ?_
    extract_lets +onlyGivenNames -merge x1 x2
    refine SteadyRes.ite ?_ ?_
    · split
      · exact SteadyRes.next (State.settle_steady (State.evalPulse_steady hs))
      · exact SteadyRes.next (State.settle_steady (State.evalCurve_steady hs))
    · extract_lets +onlyGivenNames -merge x3
      extract_lets +onlyGivenNames -merge x4 x5
      have h5 : Steady s0 x5 := State.modPrg_steady hs
      clear_value x5
      extract_lets +onlyGivenNames -merge x6
      have h6 : Steady s0 x6 := State.setFlag_steady (State.setFlag_steady h5)
      clear_value x6
      exact SteadyRes.next (State.putProfile_steady h6)

theorem execRefCheck_steady {s0 : State} {c} {s : State} (hs : Steady s0 s) :
    SteadyRes s0 (execRefCheck c s) := by
  delta execRefCheck
  refine SteadyRes.ite (SteadyRes.next hs) ?_
  extract_lets +onlyGivenNames -merge x1
  have h1 : Steady s0 x1 := State.modPrg_steady hs
  clear_value x1
  split
  · refine SteadyRes.ite (SteadyRes.next (State.setFlag_steady h1)) ?_
    exact SteadyRes.next (State.journal_steady (State.setFlag_steady h1))
  · exact SteadyRes.next h1

theorem execSetPos_steady {s0 : State} {w c} {s : State} (hs : Steady s0 s) :
    SteadyRes s0 (execSetPos w c s) := by
  delta execSetPos
  exact State.prgCmd_steady hs

theorem execStall_steady {s0 : State} {c} {s : State} (hs : Steady s0 s) :
    SteadyRes s0 (execStall c s) := by
  delta execStall
  refine SteadyRes.ite ?_ (SteadyRes.next hs)
  exact SteadyRes.next (State.settle_steady (State.devLatch_steady hs))

theorem execStop_steady {s0 : State} {h} {s : State} (hs : Steady s0 s) :
    SteadyRes s0 (execStop h s) := by
  delta execStop
  refine State.dispatch_steady hs ?_
  intro t1 ht1
  split
  · exact State.complete_steady ht1
  · refine Steady.ite (State.complete_steady (State.stopChan_steady ht1)) ?_
    split
    · exact State.stopAxis_steady ht1
    · exact State.complete_steady ht1

end Sys2Proof.Machine
end

