-- ==== Sys2Proof/Laws/SteadyFbi.lean ====
section
/-! SUPPORT. Machine/Fbi.lean: what each operation keeps (Laws/Steady.lean). -/

namespace Sys2Proof.Machine

theorem State.fbFault_steady {s0 s : State} {n f} (hs : Steady s0 s) :
    Steady s0 (State.fbFault s n f) := by
  delta State.fbFault
  exact State.setFlag_steady (State.setFlag_steady hs)

theorem State.ampLatch_steady {s0 s : State} {n} (hs : Steady s0 s) :
    Steady s0 (State.ampLatch s n) := by
  delta State.ampLatch
  exact when_steady (fun t1 ht1 => State.fbFault_steady ht1) hs

theorem State.modFb_steady {s0 s : State} {n f} (hs : Steady s0 s) :
    Steady s0 (State.modFb s n f) := by
  delta State.modFb
  exact Steady.same hs rfl rfl rfl rfl rfl rfl rfl

theorem State.ampSample_steady {s0 s : State} {n v} (hs : Steady s0 s) :
    Steady s0 (State.ampSample s n v) := by
  delta State.ampSample
  extract_lets +onlyGivenNames -merge x1 x2
  have h2 : Steady s0 x2 := State.modFb_steady hs
  clear_value x2
  refine Steady.ite (State.setFlag_steady h2) ?_
  extract_lets +onlyGivenNames -merge x3 x4 x5
  exact State.ampLatch_steady (State.modFb_steady (State.setFlag_steady h2))

theorem State.cmpAdvance_steady {s0 s : State} {n p} (hs : Steady s0 s) :
    Steady s0 (State.cmpAdvance s n p) := by
  delta State.cmpAdvance
  extract_lets +onlyGivenNames -merge x1 x2 x3 x4
  exact State.setFld_steady (State.setReg_steady hs)

theorem State.cmpHit_steady {s0 s : State} {n} (hs : Steady s0 s) :
    Steady s0 (State.cmpHit s n) := by
  delta State.cmpHit
  extract_lets +onlyGivenNames -merge x1 x2
  have h2 : Steady s0 x2 := State.setReg_steady (State.setReg_steady (State.incSat_steady hs))
  clear_value x2
  extract_lets +onlyGivenNames -merge x3
  have h3 : Steady s0 x3 := by
    unfold x3
    split
    · exact Steady.ite (State.say_steady h2) h2
    · exact h2
  clear_value x3
  extract_lets +onlyGivenNames -merge x4
  have h4 : Steady s0 x4 := Steady.ite (State.modFb_steady h3) h3
  clear_value x4
  exact Steady.ite (State.irq_steady (State.event_steady h4)) h4

theorem State.cmpOff_steady {s0 s : State} {n} (hs : Steady s0 s) :
    Steady s0 (State.cmpOff s n) := by
  delta State.cmpOff
  exact State.setFlag_steady (State.setFlag_steady hs)

theorem State.cmpCheck_steady {s0 s : State} {n p written hit} (hs : Steady s0 s) :
    Steady s0 (State.cmpCheck s n p written hit) := by
  delta State.cmpCheck
  refine Steady.ite hs ?_
  extract_lets +onlyGivenNames -merge x1 x2 x3
  have h3 : Steady s0 x3 := State.modFb_steady hs
  clear_value x3
  refine Steady.ite (State.setFlag_steady h3) ?_
  refine Steady.ite (State.journal_steady (State.setFlag_steady h3)) ?_
  refine Steady.ite (State.modFb_steady h3) ?_
  extract_lets +onlyGivenNames -merge x4
  have h4 : Steady s0 x4 := State.cmpHit_steady h3
  clear_value x4
  exact Steady.ite (State.cmpOff_steady h4) (State.cmpAdvance_steady (State.setFlag_steady h4))

theorem State.cmpPut_steady {s0 s : State} {n v} (hs : Steady s0 s) :
    Steady s0 (State.cmpPut s n v) := by
  delta State.cmpPut
  extract_lets +onlyGivenNames -merge x1
  exact State.modFb_steady (State.setReg_steady hs)

theorem State.cmpSample_steady {s0 s : State} {n p p1 preset} (hs : Steady s0 s) :
    Steady s0 (State.cmpSample s n p p1 preset) := by
  delta State.cmpSample
  extract_lets +onlyGivenNames -merge x1 x2 x3
  have h3 : Steady s0 x3 := by
    unfold x3
    split
    · exact State.setReg_steady hs
    · exact hs
  clear_value x3
  extract_lets +onlyGivenNames -merge x4 x5 x6 x7 x8 x9
  have h9 : Steady s0 x9 := State.modFb_steady h3
  clear_value x9
  extract_lets +onlyGivenNames -merge x10
  have h10 : Steady s0 x10 := State.setFlag_steady (State.cmpHit_steady h9)
  clear_value x10
  extract_lets +onlyGivenNames -merge x11
  have h11 : Steady s0 x11 := by
    unfold x11
    refine Steady.ite h9 ?_
    refine Steady.ite (State.cmpOff_steady h10) ?_
    exact Steady.ite (State.cmpAdvance_steady h10) (State.setReg_steady h10)
  clear_value x11
  extract_lets +onlyGivenNames -merge x12 x13
  have h13 : Steady s0 x13 := when_steady (fun t14 ht14 => State.setFlag_steady (State.setReg_steady ht14)) h11
  clear_value x13
  extract_lets +onlyGivenNames -merge x15
  have h15 : Steady s0 x15 := Steady.ite (State.cmpCheck_steady h13) h13
  clear_value x15
  exact Steady.ite (State.modFb_steady (State.cmpOff_steady h15)) h15

theorem State.portOff_steady {s0 s : State} {n} (hs : Steady s0 s) :
    Steady s0 (State.portOff s n) := by
  delta State.portOff
  extract_lets +onlyGivenNames -merge x1
  have h1 : Steady s0 x1 := forAll_steady (fun t2 t3 ht3 => State.setReg_steady ht3) hs
  clear_value x1
  exact State.setReg_steady h1

theorem State.setRaw_steady {s0 s : State} {n r} (hs : Steady s0 s) :
    Steady s0 (State.setRaw s n r) := by
  delta State.setRaw
  extract_lets +onlyGivenNames -merge x1
  exact State.modFb_steady hs

theorem shortest_steady {s0 s : State} {d m} (hs : Steady s0 s) :
    SteadyOut s0 (shortest s d m) := by
  delta shortest
  extract_lets +onlyGivenNames -merge x1
  refine SteadyOut.ite (SteadyOut.mk hs) ?_
  refine SteadyOut.ite (SteadyOut.mk hs) ?_
  extract_lets +onlyGivenNames -merge x2
  have h2 : SteadyOut s0 x2 := State.freeBool_steady hs
  clear_value x2
  exact SteadyOut.mk (SteadyOut.snd h2)

theorem State.takeAnalog_steady {s0 s : State} {n v} (hs : Steady s0 s) :
    Steady s0 (State.takeAnalog s n v) := by
  delta State.takeAnalog
  refine Steady.ite ?_ ?_
  · split
    · exact State.setRaw_steady hs
    · exact State.fbFault_steady hs
  · refine Steady.ite ?_ hs
    extract_lets +onlyGivenNames -merge x1
    split
    · refine Steady.ite hs ?_
      extract_lets +onlyGivenNames -merge x2
      have h2 : Steady s0 x2 := State.modFb_steady hs
      clear_value x2
      exact State.setFlag_steady h2
    · extract_lets +onlyGivenNames -merge x3
      have h3 : SteadyOut s0 x3 := shortest_steady hs
      clear_value x3
      exact State.modFb_steady (State.setRaw_steady (SteadyOut.snd h3))

theorem State.signalSample_steady {s0 s : State} {n v} (hs : Steady s0 s) :
    Steady s0 (State.signalSample s n v) := by
  delta State.signalSample
  extract_lets +onlyGivenNames -merge x1 x2 x3
  have h3 : Steady s0 x3 := State.modFb_steady hs
  clear_value x3
  exact when_steady (fun t4 ht4 => State.fbFault_steady ht4) h3

theorem State.putPos_steady {s0 s : State} {n} (hs : Steady s0 s) :
    SteadyOut s0 (State.putPos s n) := by
  delta State.putPos
  extract_lets +onlyGivenNames -merge x1 x2 x3 x4 x5
  have h5 : Steady s0 x5 := State.setFlag_steady (State.setFlag_steady hs)
  clear_value x5
  exact SteadyOut.mk (State.setReg_steady h5)

theorem State.portSample_steady {s0 s : State} {n v} (hs : Steady s0 s) :
    Steady s0 (State.portSample s n v) := by
  delta State.portSample
  refine Steady.ite (State.portOff_steady hs) ?_
  extract_lets +onlyGivenNames -merge x1
  have h1 : Steady s0 x1 := State.signalSample_steady (State.ampSample_steady (State.takeAnalog_steady hs))
  clear_value x1
  extract_lets +onlyGivenNames -merge x2
  have h2 : SteadyOut s0 x2 := State.putPos_steady h1
  clear_value x2
  extract_lets +onlyGivenNames -merge x3 x4 x5
  have h5 : Steady s0 x5 := Steady.ite (State.modFb_steady (SteadyOut.snd h2)) (State.modFb_steady (SteadyOut.snd h2))
  clear_value x5
  extract_lets +onlyGivenNames -merge x6
  have h6 : Steady s0 x6 := Steady.ite (State.setFlag_steady (State.modFb_steady h5)) h5
  clear_value x6
  extract_lets +onlyGivenNames -merge x7
  have h7 : SteadyOut s0 x7 := State.putPos_steady h6
  clear_value x7
  extract_lets +onlyGivenNames -merge x8
  have h8 : Steady s0 x8 := State.cmpSample_steady (SteadyOut.snd h7)
  clear_value x8
  extract_lets +onlyGivenNames -merge x9
  have h9 : Steady s0 x9 := State.setReg_steady h8
  clear_value x9
  extract_lets +onlyGivenNames -merge x10
  have h10 : Steady s0 x10 := State.setFlag_steady h9
  clear_value x10
  exact State.setFlag_steady h10

theorem State.ptPins_steady {s0 s : State} {m} (hs : Steady s0 s) :
    Steady s0 (State.ptPins s m) := by
  delta State.ptPins
  exact Steady.same hs rfl rfl rfl rfl rfl rfl rfl

theorem State.ptFollow_steady {s0 s : State} {n} (hs : Steady s0 s) :
    Steady s0 (State.ptFollow s n) := by
  delta State.ptFollow
  exact forAll_steady (fun t1 t2 ht2 => Steady.ite (State.ptPins_steady ht2) ht2) hs

theorem State.ptStop_steady {s0 s : State} {m} (hs : Steady s0 s) :
    Steady s0 (State.ptStop s m) := by
  delta State.ptStop
  extract_lets +onlyGivenNames -merge x1
  have h1 : Steady s0 x1 := Steady.same hs rfl rfl rfl rfl rfl rfl rfl
  clear_value x1
  exact State.setFld_steady (State.setFlag_steady h1)

theorem State.ptTarget_steady {s0 s : State} {m} (hs : Steady s0 s) :
    SteadyTri s0 (State.ptTarget s m) := by
  delta State.ptTarget
  extract_lets +onlyGivenNames -merge x1 x2
  refine SteadyTri.ite ?_ ?_
  · extract_lets +onlyGivenNames -merge x3
    extract_lets +onlyGivenNames -merge x4
    exact SteadyTri.mk hs
  · extract_lets +onlyGivenNames -merge x5
    extract_lets +onlyGivenNames -merge x6 x7 x8 x9 x10 x11 x12 x13 x14
    have h14 : Steady s0 x14 := Steady.ite (Steady.same hs rfl rfl rfl rfl rfl rfl rfl) hs
    clear_value x14
    extract_lets +onlyGivenNames -merge x15
    exact SteadyTri.mk h14

theorem State.ptSample_steady {s0 s : State} {m} (hs : Steady s0 s) :
    Steady s0 (State.ptSample s m) := by
  delta State.ptSample
  extract_lets +onlyGivenNames -merge x1
  split
  · exact State.ptPins_steady (State.setFlag_steady (State.ptStop_steady hs))
  · extract_lets +onlyGivenNames -merge x2
    have h2 : SteadyTri s0 x2 := State.ptTarget_steady hs
    clear_value x2
    extract_lets +onlyGivenNames -merge x3
    have h3 : Steady s0 x3 := State.setFlag_steady (SteadyTri.snd h2)
    clear_value x3
    extract_lets +onlyGivenNames -merge x4
    refine Steady.ite (State.ptPins_steady (State.setFlag_steady h3)) ?_
    refine Steady.ite ?_ ?_
    · extract_lets +onlyGivenNames -merge x5
      extract_lets +onlyGivenNames -merge x6
      have h6 : Steady s0 x6 := Steady.same h3 rfl rfl rfl rfl rfl rfl rfl
      clear_value x6
      extract_lets +onlyGivenNames -merge x7
      have h7 : Steady s0 x7 := State.setFld_steady (State.setFlag_steady h6)
      clear_value x7
      exact State.ptPins_steady (when_steady (fun t8 ht8 => State.setFlag_steady ht8) h7)
    · extract_lets +onlyGivenNames -merge x9
      extract_lets +onlyGivenNames -merge x10 x11 x12 x13 x14 x15 x16 x17 x18
      have h18 : Steady s0 x18 := Steady.same h3 rfl rfl rfl rfl rfl rfl rfl
      clear_value x18
      extract_lets +onlyGivenNames -merge x19
      have h19 : Steady s0 x19 := State.setFld_steady h18
      clear_value x19
      exact State.ptPins_steady (when_steady (fun t20 ht20 => State.setFlag_steady ht20) h19)
  · exact State.ptPins_steady (State.setFlag_steady (State.ptStop_steady hs))

theorem execAmp_steady {s0 : State} {n} {s : State} (hs : Steady s0 s) :
    SteadyRes s0 (execAmp n s) := by
  delta execAmp
  exact SteadyRes.next (State.ampLatch_steady hs)

theorem execCmpDisarm_steady {s0 : State} {w n} {s : State} (hs : Steady s0 s) :
    SteadyRes s0 (execCmpDisarm w n s) := by
  delta execCmpDisarm
  exact State.access_steady hs (fun t1 ht1 => State.modFb_steady ht1)

theorem execCmpPulseEnd_steady {s0 : State} {n} {s : State} (hs : Steady s0 s) :
    SteadyRes s0 (execCmpPulseEnd n s) := by
  delta execCmpPulseEnd
  extract_lets +onlyGivenNames -merge x1
  have h1 : Steady s0 x1 := State.modFb_steady hs
  clear_value x1
  exact SteadyRes.next (Steady.ite (State.ptPins_steady h1) h1)

theorem execCmpWrite_steady {s0 : State} {w n value} {s : State} (hs : Steady s0 s) :
    SteadyRes s0 (execCmpWrite w n value s) := by
  delta execCmpWrite
  exact State.access_steady hs (fun t1 ht1 => State.cmpPut_steady ht1)

theorem execEncoderEdge_steady {s0 : State} {n la lb} {s : State} (hs : Steady s0 s) :
    SteadyRes s0 (execEncoderEdge n la lb s) := by
  delta execEncoderEdge
  extract_lets +onlyGivenNames -merge x1 x2
  refine SteadyRes.ite (SteadyRes.next hs) ?_
  extract_lets +onlyGivenNames -merge x3
  have h3 : Steady s0 x3 := State.ptFollow_steady (State.modFb_steady hs)
  clear_value x3
  refine SteadyRes.ite ?_ ?_
  · split
    · exact SteadyRes.next (State.setRaw_steady h3)
    · exact SteadyRes.next (State.fbFault_steady h3)
  · refine SteadyRes.ite ?_ (SteadyRes.next hs)
    split
    · exact SteadyRes.next (State.modFb_steady h3)
    · exact SteadyRes.next (State.modFb_steady h3)
    · exact SteadyRes.next (State.fbFault_steady h3)
    · exact SteadyRes.next h3

theorem execExc_steady {s0 : State} {n} {s : State} (hs : Steady s0 s) :
    SteadyRes s0 (execExc n s) := by
  delta execExc
  refine SteadyRes.ite ?_ (SteadyRes.next hs)
  exact SteadyRes.next (State.fbFault_steady (State.modFb_steady hs))

theorem execFbSupply_steady {s0 : State} {k} {s : State} (hs : Steady s0 s) :
    SteadyRes s0 (execFbSupply k s) := by
  delta execFbSupply
  refine SteadyRes.ite (SteadyRes.next hs) ?_
  extract_lets +onlyGivenNames -merge x1
  have h1 : Steady s0 x1 := forAll_steady (fun t2 t3 ht3 => State.fbFault_steady (State.modFb_steady ht3)) hs
  clear_value x1
  exact SteadyRes.next (State.journal_steady h1)

theorem execIndexMark_steady {s0 : State} {n} {s : State} (hs : Steady s0 s) :
    SteadyRes s0 (execIndexMark n s) := by
  delta execIndexMark
  extract_lets +onlyGivenNames -merge x1
  refine SteadyRes.ite (SteadyRes.next hs) ?_
  extract_lets +onlyGivenNames -merge x2 x3 x4 x5
  have h5 : Steady s0 x5 := State.ptFollow_steady (State.modFb_steady hs)
  clear_value x5
  extract_lets +onlyGivenNames -merge x6
  have h6 : Steady s0 x6 := State.setFlag_steady (State.setReg_steady h5)
  clear_value x6
  extract_lets +onlyGivenNames -merge x7
  have h7 : Steady s0 x7 := when_steady (fun t8 ht8 => State.modFb_steady ht8) h6
  clear_value x7
  refine SteadyRes.ite ?_ (SteadyRes.next h7)
  exact SteadyRes.next (State.setFlag_steady (State.modFb_steady h7))

theorem execLoad_steady {s0 : State} {w n} {s : State} (hs : Steady s0 s) :
    SteadyRes s0 (execLoad w n s) := by
  delta execLoad
  refine State.access_steady hs ?_
  intro t1 ht1
  exact Steady.ite (State.setFlag_steady ht1) (State.modFb_steady (State.setFlag_steady ht1))

theorem execLoadZ_steady {s0 : State} {w n} {s : State} (hs : Steady s0 s) :
    SteadyRes s0 (execLoadZ w n s) := by
  delta execLoadZ
  refine State.access_steady hs ?_
  intro t1 ht1
  exact Steady.ite (State.setFlag_steady ht1) (State.modFb_steady (State.setFlag_steady ht1))

theorem execPortSample_steady {s0 : State} {n v} {s : State} (hs : Steady s0 s) :
    SteadyRes s0 (execPortSample n v s) := by
  delta execPortSample
  refine SteadyRes.ite (SteadyRes.next hs) ?_
  extract_lets +onlyGivenNames -merge x1 x2
  have h2 : Steady s0 x2 := State.stepSample_steady (State.ptSample_steady (State.portSample_steady hs))
  clear_value x2
  exact SteadyRes.next (State.devSample_steady (State.devSample_steady h2))

theorem execSerialReadRequest_steady {s0 : State} {n} {s : State} (hs : Steady s0 s) :
    SteadyRes s0 (execSerialReadRequest n s) := by
  delta execSerialReadRequest
  extract_lets +onlyGivenNames -merge x1
  refine SteadyRes.ite (SteadyRes.next hs) ?_
  extract_lets +onlyGivenNames -merge x2 x3 x4 x5
  have h5 : Steady s0 x5 := State.modFb_steady hs
  clear_value x5
  extract_lets +onlyGivenNames -merge x6
  refine SteadyRes.ite (SteadyRes.next h5) ?_
  extract_lets +onlyGivenNames -merge x7 x8
  exact SteadyRes.next (State.modFb_steady h5)

theorem execSerialWord_steady {s0 : State} {n v} {s : State} (hs : Steady s0 s) :
    SteadyRes s0 (execSerialWord n v s) := by
  delta execSerialWord
  extract_lets +onlyGivenNames -merge x1 x2
  split
  · exact SteadyRes.next hs
  · refine SteadyRes.ite (SteadyRes.next hs) ?_
    extract_lets +onlyGivenNames -merge x3 x4 x5 x6
    have h6 : SteadyOut s0 x6 := shortest_steady hs
    clear_value x6
    extract_lets +onlyGivenNames -merge x7 x8 x9 x10
    have h10 : Steady s0 x10 := State.modFb_steady (SteadyOut.snd h6)
    clear_value x10
    extract_lets +onlyGivenNames -merge x11
    have h11 : Steady s0 x11 := Steady.ite (State.setFlag_steady h10) h10
    clear_value x11
    refine SteadyRes.ite ?_ ?_
    · exact SteadyRes.next (State.incSat_steady (State.incSat_steady (State.setFlag_steady h11)))
    · extract_lets +onlyGivenNames -merge x12
      have h12 : Steady s0 x12 := State.setRaw_steady h11
      clear_value x12
      extract_lets +onlyGivenNames -merge x13 x14
      have h14 : Steady s0 x14 := State.modFb_steady h12
      clear_value x14
      extract_lets +onlyGivenNames -merge x15
      have h15 : Steady s0 x15 := State.setFld_steady (State.setFlag_steady h14)
      clear_value x15
      extract_lets +onlyGivenNames -merge x16
      have h16 : Steady s0 x16 := Steady.ite (State.setFlag_steady h15) h15
      clear_value x16
      exact SteadyRes.next (State.setFlag_steady h16)

theorem execSpeedWindowEnd_steady {s0 : State} {n v} {s : State} (hs : Steady s0 s) :
    SteadyRes s0 (execSpeedWindowEnd n v s) := by
  delta execSpeedWindowEnd
  extract_lets +onlyGivenNames -merge x1
  refine SteadyRes.ite (SteadyRes.next hs) ?_
  extract_lets +onlyGivenNames -merge x2
  have h2 : Steady s0 x2 := State.takeAnalog_steady hs
  clear_value x2
  extract_lets +onlyGivenNames -merge x3 x4 x5 x6 x7 x8 x9 x10 x11 x12 x13 x14
  have h14 : Steady s0 x14 := State.setFlag_steady (State.setReg_steady h2)
  clear_value x14
  extract_lets +onlyGivenNames -merge x15
  have h15 : Steady s0 x15 := State.setFlag_steady h14
  clear_value x15
  extract_lets +onlyGivenNames -merge x16
  have h16 : Steady s0 x16 := State.setFlag_steady (State.setFlag_steady h15)
  clear_value x16
  extract_lets +onlyGivenNames -merge x17
  have h17 : Steady s0 x17 := Steady.ite (State.setFlag_steady h16) (State.setReg_steady h16)
  clear_value x17
  extract_lets +onlyGivenNames -merge x18
  have h18 : Steady s0 x18 := Steady.ite (State.setReg_steady h17) h17
  clear_value x18
  exact SteadyRes.next (State.modFb_steady h18)

theorem execStepInputEdge_steady {s0 : State} {n high} {s : State} (hs : Steady s0 s) :
    SteadyRes s0 (execStepInputEdge n high s) := by
  delta execStepInputEdge
  exact SteadyRes.ite (SteadyRes.next (State.setRaw_steady hs)) (SteadyRes.next hs)

theorem execTurnZero_steady {s0 : State} {w n} {s : State} (hs : Steady s0 s) :
    SteadyRes s0 (execTurnZero w n s) := by
  delta execTurnZero
  refine State.access_steady hs ?_
  intro t1 ht1
  exact Steady.ite (State.setFlag_steady ht1) (State.modFb_steady (State.setFlag_steady ht1))

theorem execWire_steady {s0 : State} {n} {s : State} (hs : Steady s0 s) :
    SteadyRes s0 (execWire n s) := by
  delta execWire
  extract_lets +onlyGivenNames -merge x1
  refine SteadyRes.ite ?_ (SteadyRes.next hs)
  exact SteadyRes.next (State.fbFault_steady (State.modFb_steady hs))

end Sys2Proof.Machine
end

