-- ==== Sys2Proof/Laws/SteadyGates.lean ====
section
/-! SUPPORT. Machine/Gates.lean: what each operation keeps (Laws/Steady.lean). -/

namespace Sys2Proof.Machine

theorem State.frameIn_steady {s0 s : State} {n} (hs : Steady s0 s) :
    Steady s0 (State.frameIn s n) := by
  delta State.frameIn
  extract_lets +onlyGivenNames -merge x1 x2
  have h2 : Steady s0 x2 := State.modGc_steady (State.setFlag_steady hs) (fun _ h => h)
  clear_value x2
  exact State.ascCheck_steady (when_steady (fun t3 ht3 => State.markFrame_steady ht3) h2)

theorem State.gateReply_steady {s0 s : State} {n} (hs : Steady s0 s) :
    Steady s0 (State.gateReply s n) := by
  delta State.gateReply
  refine Steady.ite hs ?_
  extract_lets +onlyGivenNames -merge x1 x2
  have h2 : Steady s0 x2 := Steady.same hs rfl rfl rfl rfl rfl rfl rfl
  clear_value x2
  exact Steady.ite (State.reply_steady h2) (State.replyErr_steady h2)

theorem State.gateTestStart_steady {s0 s : State} {n} (hs : Steady s0 s) :
    Steady s0 (State.gateTestStart s n) := by
  delta State.gateTestStart
  extract_lets +onlyGivenNames -merge x1 x2
  have h2 : Steady s0 x2 := State.setReg_steady hs
  clear_value x2
  exact Steady.ite (State.chanOff_steady (State.setFlag_steady h2)) (State.setFlag_steady h2)

theorem State.openEnds_steady {s0 s : State} {x} (hs : Steady s0 s) :
    Steady s0 (State.openEnds s x) := by
  delta State.openEnds
  exact State.modPsp_steady hs

theorem State.unconfirm_steady {s0 s : State} {n} (hs : Steady s0 s) :
    Steady s0 (State.unconfirm s n) := by
  delta State.unconfirm
  extract_lets +onlyGivenNames -merge x1
  have h1 : Steady s0 x1 := State.modGc_steady (State.setFlag_steady hs) (fun _ h => h)
  clear_value x1
  exact Steady.ite (State.openEnds_steady h1) h1

theorem execClampEngage_steady {s0 : State} {n gs} {s : State} (hs : Steady s0 s) :
    SteadyRes s0 (execClampEngage n gs s) := by
  delta execClampEngage
  exact SteadyRes.ite (SteadyRes.next (State.setFlag_steady hs)) (SteadyRes.next hs)

theorem execConfirmedOff_steady {s0 : State} {n frame gs} {s : State} (hs : Steady s0 s) :
    SteadyRes s0 (execConfirmedOff n frame gs s) := by
  delta execConfirmedOff
  split
  · exact SteadyRes.next (State.unconfirm_steady hs)
  · extract_lets +onlyGivenNames -merge x1
    extract_lets +onlyGivenNames -merge x2 x3 x4
    have h4 : Steady s0 x4 := State.frameIn_steady (State.sense_steady hs)
    clear_value x4
    refine SteadyRes.ite ?_ (SteadyRes.next (State.unconfirm_steady h4))
    extract_lets +onlyGivenNames -merge x5
    have h5 : Steady s0 x5 := State.modGc_steady (State.setFlag_steady h4) (fun _ h => h)
    clear_value x5
    refine SteadyRes.ite ?_ (SteadyRes.next h5)
    extract_lets +onlyGivenNames -merge x6
    exact SteadyRes.next (State.setFld_steady (State.setFld_steady h5))

theorem execGdcTestDone_steady {s0 : State} {n r} {s : State} (hs : Steady s0 s) :
    SteadyRes s0 (execGdcTestDone n r s) := by
  delta execGdcTestDone
  refine SteadyRes.ite (SteadyRes.next hs) ?_
  extract_lets +onlyGivenNames -merge x1
  have h1 : Steady s0 x1 := State.setFlag_steady (State.setFlag_steady hs)
  clear_value x1
  extract_lets +onlyGivenNames -merge x2
  have h2 : Steady s0 x2 := State.setFlag_steady (State.setFlag_steady h1)
  clear_value x2
  extract_lets +onlyGivenNames -merge x3
  have h3 : Steady s0 x3 := State.setFlag_steady (State.setFlag_steady h2)
  clear_value x3
  refine SteadyRes.ite ?_ ?_
  · refine SteadyRes.next ?_
    refine State.settle_steady ?_
    exact State.gateReply_steady (State.gateFault_steady (State.modGc_steady h3 (fun _ h => h)))
  · refine SteadyRes.next ?_
    exact State.gateReply_steady (State.modGc_steady (State.setFlag_steady h3) (fun _ h => h))

theorem execGdcTestStart_steady {s0 : State} {n} {s : State} (hs : Steady s0 s) :
    SteadyRes s0 (execGdcTestStart n s) := by
  delta execGdcTestStart
  exact SteadyRes.next (State.gateTestStart_steady hs)

/-- An on command passes the interlock only where the companion's is off (R115). -/
theorem State.release_interlocked {s : State} {n : Fin 28} (hn : n.val < 24) (hc : s.gc[companion n].cmd = false)
    (hi : s.interlocked) : (s.modGc n fun g => { g with cmd := true }).interlocked := by
  intro y k hb
  have hcv : (companion n).val = if n.val % 2 = 0 then n.val + 1 else n.val - 1 := by
    unfold companion
    split
    · exact Nat.mod_eq_of_lt (by omega)
    · exact Nat.mod_eq_of_lt (by omega)
  have h2 : (hiChan y k).val = 6 * y.val + 2 * k.val := Nat.mod_eq_of_lt (by omega)
  have h3 : (loChan y k).val = 6 * y.val + 2 * k.val + 1 := Nat.mod_eq_of_lt (by omega)
  have hoff (m : Fin 28) (hm : m.val ≠ n.val) (hon : (s.modGc n fun g => { g with cmd := true }).gc[m].cmd = true) :
      s.gc[m].cmd = true := by
    simpa [State.modGc, Vector.getElem_set, Ne.symm hm] using hon
  by_cases h4 : (hiChan y k).val = n.val
  · have h5 : (companion n).val = (loChan y k).val := by rw [hcv]; split <;> omega
    have h6 := hoff (loChan y k) (by omega) hb.2
    rw [show loChan y k = companion n from Fin.ext h5.symm, hc] at h6
    cases h6
  · have h6 := hoff _ h4 hb.1
    by_cases h5 : (loChan y k).val = n.val
    · have h7 : (companion n).val = (hiChan y k).val := by rw [hcv]; split <;> omega
      rw [show hiChan y k = companion n from Fin.ext h7.symm, hc] at h6
      cases h6
    · exact hi y k ⟨h6, hoff _ h5 hb.2⟩

theorem execInterlockRelease_steady {s0 : State} {n : Fin 24} {s : State} (h : Steady s0 s) :
    SteadyRes s0 (execInterlockRelease n s) := by
  delta execInterlockRelease
  extract_lets +onlyGivenNames m
  split
  · rename_i hc
    simp only [Bool.and_eq_true] at hc
    have hc : s.gc[companion m].cmd = false := by
      have h := hc.1.2
      simp only [State.released, Bool.and_eq_true, Bool.not_eq_true'] at h
      exact h.1.1.1
    have hm : m.val < 24 := n.isLt
    extract_lets +onlyGivenNames s1 s2
    have h1 : Steady s0 s1 := State.setFlag_steady h
    have hc1 : s1.gc[companion m].cmd = false := hc
    clear_value s1
    have h2 : Steady s0 s2 := h1.same rfl rfl rfl rfl rfl rfl rfl
    have hc2 : s2.gc[companion m].cmd = false := hc1
    clear_value s2
    exact SteadyRes.next (State.settle_steady (State.ascCheck_steady (State.edge_steady
      (h2.gates rfl rfl rfl rfl rfl (State.release_interlocked hm hc2) rfl))))
  · exact SteadyRes.next h

theorem execIslandCommand_steady {s0 : State} {n gs} {s : State} (hs : Steady s0 s) :
    SteadyRes s0 (execIslandCommand n gs s) := by
  delta execIslandCommand
  extract_lets +onlyGivenNames -merge x1 x2
  have h2 : Steady s0 x2 := State.setFld_steady (State.setFlag_steady hs)
  clear_value x2
  extract_lets +onlyGivenNames -merge x3
  have h3 : Steady s0 x3 := State.sense_steady h2
  clear_value x3
  extract_lets +onlyGivenNames -merge x4
  refine SteadyRes.ite ?_ ?_
  · extract_lets +onlyGivenNames -merge x5
    have h5 : Steady s0 x5 := State.setFlag_steady (State.setFlag_steady h3)
    clear_value x5
    extract_lets +onlyGivenNames -merge x6
    have h6 : Steady s0 x6 := State.modGc_steady h5 (fun _ h => h)
    clear_value x6
    extract_lets +onlyGivenNames -merge x7
    have h7 : Steady s0 x7 := Steady.ite (State.openEnds_steady h6) h6
    clear_value x7
    exact SteadyRes.next (State.settle_steady (State.ascCheck_steady h7))
  · exact SteadyRes.next (State.settle_steady (State.modGc_steady h3 (fun _ h => h)))

theorem execIslandLinkLoss_steady {s0 : State} {n} {s : State} (hs : Steady s0 s) :
    SteadyRes s0 (execIslandLinkLoss n s) := by
  delta execIslandLinkLoss
  extract_lets +onlyGivenNames -merge x1 x2 x3
  have h3 : Steady s0 x3 := when_steady (fun t4 ht4 => State.setFlag_steady ht4) hs
  clear_value x3
  exact SteadyRes.ite (SteadyRes.next h3) (SteadyRes.next (State.forceOff_steady h3))

theorem execLinkLost_steady {s0 : State} {n} {s : State} (hs : Steady s0 s) :
    SteadyRes s0 (execLinkLost n s) := by
  delta execLinkLost
  extract_lets +onlyGivenNames -merge x1
  have h1 : Steady s0 x1 := State.modGc_steady (State.unconfirm_steady (State.setFlag_steady hs)) (fun _ h => h)
  clear_value x1
  exact SteadyRes.next (State.settle_steady (State.gateFault_steady h1))

theorem execOffTimeout_steady {s0 : State} {n} {s : State} (hs : Steady s0 s) :
    SteadyRes s0 (execOffTimeout n s) := by
  delta execOffTimeout
  extract_lets +onlyGivenNames -merge x1
  refine SteadyRes.ite ?_ (SteadyRes.next hs)
  extract_lets +onlyGivenNames -merge x2
  have h2 : Steady s0 x2 := State.modGc_steady hs (fun _ h => h)
  clear_value x2
  extract_lets +onlyGivenNames -merge x3 x4
  have h4 : Steady s0 x4 := Steady.ite h2 (State.setFlag_steady (State.modGc_steady h2 (fun _ h => h)))
  clear_value x4
  exact SteadyRes.next (State.settle_steady (State.gateFault_steady h4))

theorem execPlateauArm_steady {s0 : State} {n} {s : State} (hs : Steady s0 s) :
    SteadyRes s0 (execPlateauArm n s) := by
  delta execPlateauArm
  exact SteadyRes.ite (SteadyRes.next (State.modGc_steady hs (fun _ h => h))) (SteadyRes.next hs)

theorem execPlateauLow_steady {s0 : State} {n gs} {s : State} (hs : Steady s0 s) :
    SteadyRes s0 (execPlateauLow n gs s) := by
  delta execPlateauLow
  extract_lets +onlyGivenNames -merge x1
  have h1 : Steady s0 x1 := State.sense_steady hs
  clear_value x1
  refine SteadyRes.ite ?_ (SteadyRes.next h1)
  exact SteadyRes.next (State.settle_steady (State.gateFault_steady h1))

theorem execSegmentChange_steady {s0 : State} {n gs} {s : State} (hs : Steady s0 s) :
    SteadyRes s0 (execSegmentChange n gs s) := by
  delta execSegmentChange
  extract_lets +onlyGivenNames -merge x1 x2
  exact SteadyRes.next (State.sense_steady (State.setFld_steady hs))

theorem execSsiLinkLost_steady {s0 : State} {x data} {s : State} (hs : Steady s0 s) :
    SteadyRes s0 (execSsiLinkLost x data s) := by
  delta execSsiLinkLost
  extract_lets +onlyGivenNames -merge x1
  have h1 : Steady s0 x1 := State.modPsp_steady hs
  clear_value x1
  exact SteadyRes.next (State.settle_steady (State.latchSet_steady h1))

end Sys2Proof.Machine
end

