-- ==== Sys2Proof/Laws/SteadyProfileMap.lean ====
section
/-! SUPPORT. Machine/ProfileMap.lean: what each operation keeps (Laws/Steady.lean). -/

namespace Sys2Proof.Machine

theorem State.canRestate_steady {s0 s : State} {c was} (hs : Steady s0 s) :
    Steady s0 (State.canRestate s c was) := by
  delta State.canRestate
  refine Steady.ite hs ?_
  extract_lets +onlyGivenNames -merge x1 x2
  have h2 : Steady s0 x2 := Steady.ite (State.canAttemptFailed_steady hs) hs
  clear_value x2
  exact State.setFld_steady (State.setFlag_steady h2)

theorem State.clearAxis_steady {s0 s : State} {a} (hs : Steady s0 s) :
    Steady s0 (State.clearAxis s a) := by
  delta State.clearAxis
  exact forAll_steady (fun t1 t2 ht2 => State.setReg_steady ht2) hs

theorem State.loadLane_steady {s0 s : State} {a x} (hs : Steady s0 s) :
    Steady s0 (State.loadLane s a x) := by
  delta State.loadLane
  extract_lets +onlyGivenNames -merge x1
  have h1 : Steady s0 x1 := State.setFld_steady hs
  clear_value x1
  extract_lets +onlyGivenNames -merge x2
  have h2 : Steady s0 x2 := State.setFld_steady h1
  clear_value x2
  extract_lets +onlyGivenNames -merge x3
  have h3 : Steady s0 x3 := State.setFld_steady h2
  clear_value x3
  extract_lets +onlyGivenNames -merge x4
  have h4 : Steady s0 x4 := State.setFlag_steady h3
  clear_value x4
  extract_lets +onlyGivenNames -merge x5
  have h5 : Steady s0 x5 := State.setFlag_steady h4
  clear_value x5
  exact State.setFld_steady h5

theorem State.loadAxis_steady {s0 s : State} {a} (hs : Steady s0 s) :
    Steady s0 (State.loadAxis s a) := by
  delta State.loadAxis
  extract_lets +onlyGivenNames -merge x1 x2
  have h2 : Steady s0 x2 := State.setFld_steady hs
  clear_value x2
  extract_lets +onlyGivenNames -merge x3
  have h3 : Steady s0 x3 := State.setFlag_steady h2
  clear_value x3
  extract_lets +onlyGivenNames -merge x4
  have h4 : Steady s0 x4 := State.setFld_steady h3
  clear_value x4
  extract_lets +onlyGivenNames -merge x5
  have h5 : Steady s0 x5 := State.setFld_steady h4
  clear_value x5
  exact forAll_steady (fun t6 t7 ht7 => State.loadLane_steady (State.setFlag_steady ht7)) h5

theorem State.loadParam_steady {s0 s : State} {g i inst} (hs : Steady s0 s) :
    Steady s0 (State.loadParam s g i inst) := by
  delta State.loadParam
  refine Steady.ite hs ?_
  extract_lets +onlyGivenNames -merge x1
  have h1 : Steady s0 x1 := by
    unfold x1
    split
    · exact State.setSfld_steady hs
    · exact hs
  clear_value x1
  extract_lets +onlyGivenNames -merge x2
  have h2 : Steady s0 x2 := when_steady (fun t3 ht3 => forAll_steady (fun t4 t5 ht5 => State.setFlag_steady ht5) ht3) h1
  clear_value x2
  split
  · exact when_steady (fun t6 ht6 => State.loadAxis_steady ht6) h2
  · exact h2

theorem State.loadCan_steady {s0 s : State} {c} (hs : Steady s0 s) :
    Steady s0 (State.loadCan s c) := by
  delta State.loadCan
  refine Steady.ite hs ?_
  extract_lets +onlyGivenNames -merge x1 x2
  have h2 : Steady s0 x2 := by
    unfold x2
    refine forAll_steady ?_ hs
    intro t3 t4 ht4
    exact forAll_steady (fun t5 t6 ht6 => State.loadParam_steady ht6) ht4
  clear_value x2
  exact State.canSafety_steady (State.canRestate_steady h2)

theorem State.loadWeights_steady {s0 s : State} {a} (hs : Steady s0 s) :
    Steady s0 (State.loadWeights s a) := by
  delta State.loadWeights
  extract_lets +onlyGivenNames -merge x1
  have h1 : Steady s0 x1 := forAll_steady (fun t2 t3 ht3 => State.setFld_steady ht3) hs
  clear_value x1
  exact forAll_steady (fun t4 t5 ht5 => State.setFld_steady ht5) h1

theorem State.loadRegisters_steady {s0 s : State} (hs : Steady s0 s) :
    Steady s0 (State.loadRegisters s) := by
  delta State.loadRegisters
  extract_lets +onlyGivenNames -merge x1
  have h1 : Steady s0 x1 := forAll_steady (fun t2 t3 ht3 => when_steady (fun t4 ht4 => State.clearAxis_steady ht4) ht3) hs
  clear_value x1
  extract_lets +onlyGivenNames -merge x5
  have h5 : Steady s0 x5 := by
    unfold x5
    refine forAll_steady ?_ h1
    intro t6 t7 ht7
    split
    · refine forAll_steady ?_ ht7
      intro t8 t9 ht9
      exact forAll_steady (fun t10 t11 ht11 => State.loadParam_steady ht11) ht9
    · exact ht7
  clear_value x5
  extract_lets +onlyGivenNames -merge x12
  have h12 : Steady s0 x12 := forAll_steady (fun t13 t14 ht14 => State.loadParam_steady ht14) h5
  clear_value x12
  extract_lets +onlyGivenNames -merge x15
  have h15 : Steady s0 x15 := by
    unfold x15
    refine forAll_steady ?_ h12
    intro t16 t17 ht17
    exact when_steady (fun t18 ht18 => State.loadWeights_steady (State.loadAxis_steady ht18)) ht17
  clear_value x15
  exact forAll_steady (fun t19 t20 ht20 => State.loadCan_steady ht20) h15

end Sys2Proof.Machine
end

