-- ==== Sys2Proof/Laws/SteadySealing.lean ====
section
/-! SUPPORT. Machine/Sealing.lean: what each operation keeps (Laws/Steady.lean). -/

namespace Sys2Proof.Machine

theorem State.sealFailed_steady {s0 s : State} {h} (hs : Steady s0 s) :
    Steady s0 (State.sealFailed s h) := by
  delta State.sealFailed
  extract_lets +onlyGivenNames -merge x1 x2
  have h2 : Steady s0 x2 := by
    unfold x2
    split
    · exact Steady.same hs rfl rfl rfl rfl rfl rfl rfl
    · exact hs
  clear_value x2
  exact State.complete_steady (State.setFld_steady h2)

theorem withSafety_wf {b st : Bank} (h : Bank.wfParams b = true) : Bank.wfParams (withSafety b st) = true :=
  sparsePut_foldl_wf (sparseWf_filter paramDefault _ h)

theorem State.sealSlot_steady {s0 s : State} {g : Staging} {crc : Word} (h : Steady s0 s) :
    Steady s0 (s.sealSlot g crc) := by
  delta State.sealSlot
  extract_lets +onlyGivenNames x1 x2 x3 x4
  have hw : s.banksWf → Bank.wfParams x2 = true := fun hb => withSafety_wf (by
    unfold State.targetParams
    split
    · exact hb.2.1
    · exact hb.2.2.2.1 _)
  have h4 : Steady s0 x4 := State.setSlot_steady h hw
  clear_value x4
  refine Steady.ite ?_ h4
  extract_lets +onlyGivenNames x5
  have h5 : Steady s0 x5 := State.setParams_steady h4 fun hb => withSafety_wf hb.2.1
  clear_value x5
  exact forAll_steady (fun c t ht => State.canSafety_steady ht)
    (State.setFlag_steady (State.setReg_steady (State.loadIsland_steady (State.pinContexts_steady h5))))

theorem State.showStaging_steady {s0 s : State} {g} (hs : Steady s0 s) :
    Steady s0 (State.showStaging s g) := by
  delta State.showStaging
  extract_lets +onlyGivenNames -merge x1 x2 x3
  have h3 : Steady s0 x3 := State.setReg_steady hs
  clear_value x3
  extract_lets +onlyGivenNames -merge x4
  have h4 : Steady s0 x4 := State.setFld_steady h3
  clear_value x4
  exact State.setFld_steady h4

theorem State.setStaging_steady {s0 s : State} {g} (hs : Steady s0 s) :
    Steady s0 (State.setStaging s g) := by
  delta State.setStaging
  exact State.showStaging_steady (State.setFlag_steady (Steady.same hs rfl rfl rfl rfl rfl rfl rfl))

theorem State.sealStart_steady {s0 s : State} {h crc} (hs : Steady s0 s) :
    Steady s0 (State.sealStart s h crc) := by
  delta State.sealStart
  split
  · exact State.complete_steady hs
  · refine Steady.ite (State.complete_steady hs) ?_
    refine Steady.ite (State.complete_steady hs) ?_
    refine Steady.ite (State.discardStaging_steady (State.sealFailed_steady hs)) ?_
    exact Steady.ite (State.sealFailed_steady hs) (State.setStaging_steady hs)

theorem State.stageOpen_steady {s0 s : State} {t} (hs : Steady s0 s) :
    Steady s0 (State.stageOpen s t) := by
  delta State.stageOpen
  extract_lets +onlyGivenNames -merge x1
  exact State.setStaging_steady (State.startTimer_steady hs)

theorem State.stageRead_steady {s0 s : State} {g key} (hs : Steady s0 s) :
    Steady s0 (State.stageRead s g key) := by
  delta State.stageRead
  exact State.setStaging_steady hs

theorem State.stageWrite_steady {s0 s : State} {g key w} (hs : Steady s0 s) :
    Steady s0 (State.stageWrite s g key w) := by
  delta State.stageWrite
  exact State.setStaging_steady (State.startTimer_steady hs)

theorem execSeal_steady {s0 : State} {h crc} {s : State} (hs : Steady s0 s) :
    SteadyRes s0 (execSeal h crc s) := by
  delta execSeal
  exact State.dispatch_steady hs (fun t1 ht1 => State.sealStart_steady ht1)

theorem execSealFlashDone_steady {s0 : State} {written} {s : State} (hs : Steady s0 s) :
    SteadyRes s0 (execSealFlashDone written s) := by
  delta execSealFlashDone
  split
  · exact SteadyRes.next hs
  · split
    · exact SteadyRes.next hs
    · refine SteadyRes.ite (SteadyRes.next (State.sealFailed_steady hs)) ?_
      extract_lets +onlyGivenNames -merge x1 x2 x3
      have h3 : Steady s0 x3 := State.sealSlot_steady hs
      clear_value x3
      extract_lets +onlyGivenNames -merge x4
      have h4 : Steady s0 x4 := State.incSat_steady h3
      clear_value x4
      extract_lets +onlyGivenNames -merge x5 x6
      have h6 : Steady s0 x6 := Steady.same h4 rfl rfl rfl rfl rfl rfl rfl
      clear_value x6
      extract_lets +onlyGivenNames -merge x7
      have h7 : Steady s0 x7 := State.setFlag_steady (State.setFld_steady (State.setReg_steady h6))
      clear_value x7
      exact SteadyRes.next (State.settle_steady (State.complete_steady (State.journalFw_steady h7)))

theorem execStageAbort_steady {s0 : State} {h} {s : State} (hs : Steady s0 s) :
    SteadyRes s0 (execStageAbort h s) := by
  delta execStageAbort
  exact State.dispatch_steady hs (fun t1 ht1 => State.complete_steady (State.discardStaging_steady ht1))

theorem execStageOpen_steady {s0 : State} {h target} {s : State} (hs : Steady s0 s) :
    SteadyRes s0 (execStageOpen h target s) := by
  delta execStageOpen
  refine State.dispatch_steady hs ?_
  intro t1 ht1
  extract_lets +onlyGivenNames -merge x2
  exact Steady.ite (State.complete_steady (State.stageOpen_steady ht1)) (State.complete_steady ht1)

theorem execStagingTimeout_steady {s0 s : State} (hs : Steady s0 s) :
    SteadyRes s0 (execStagingTimeout s) := by
  delta execStagingTimeout
  exact SteadyRes.ite (SteadyRes.next (State.discardStaging_steady hs)) (SteadyRes.next hs)

end Sys2Proof.Machine
end

