-- ==== Sys2Proof/Laws/SteadyLsh.lean ====
section
/-! SUPPORT. Machine/Lsh.lean: what each operation keeps (Laws/Steady.lean). -/

namespace Sys2Proof.Machine

theorem State.adoptMembers_steady {s0 s : State} {a handed} (hs : Steady s0 s) :
    Steady s0 (State.adoptMembers s a handed) := by
  delta State.adoptMembers
  extract_lets +onlyGivenNames -merge x1
  split
  · exact hs
  · exact State.modLsh_steady hs

theorem State.modMember_steady {s0 s : State} {a m f} (hs : Steady s0 s) :
    Steady s0 (State.modMember s a m f) := by
  delta State.modMember
  exact State.modLsh_steady hs

theorem State.seeRampOut_steady {s0 s : State} {a m} (hs : Steady s0 s) :
    Steady s0 (State.seeRampOut s a m) := by
  delta State.seeRampOut
  exact Steady.ite hs (State.modMember_steady (State.incSat_steady hs))

theorem State.mapSeen_steady {s0 s : State} {a f} (hs : Steady s0 s) :
    Steady s0 (State.mapSeen s a f) := by
  delta State.mapSeen
  refine forAll_steady ?_ hs
  intro t1 t2 ht2
  exact Steady.ite (State.modMember_steady ht2) (Steady.ite (State.seeRampOut_steady ht2) ht2)

theorem State.applyFrame_steady {s0 s : State} {a f} (hs : Steady s0 s) :
    Steady s0 (State.applyFrame s a f) := by
  delta State.applyFrame
  extract_lets +onlyGivenNames -merge x1 x2 x3 x4 x5
  have h5 : Steady s0 x5 := State.modLsh_steady hs
  clear_value x5
  extract_lets +onlyGivenNames -merge x6
  have h6 : Steady s0 x6 := State.setReg_steady (State.setReg_steady h5)
  clear_value x6
  extract_lets +onlyGivenNames -merge x7
  have h7 : Steady s0 x7 := Steady.ite h6 (State.setTm_steady h6)
  clear_value x7
  extract_lets +onlyGivenNames -merge x8
  have h8 : Steady s0 x8 := State.setFlag_steady h7
  clear_value x8
  extract_lets +onlyGivenNames -merge x9
  have h9 : Steady s0 x9 := Steady.ite h8 (State.mapSeen_steady h8)
  clear_value x9
  exact State.setFld_steady (State.setFld_steady h9)

theorem State.endDisable_steady {s0 s : State} {a} (hs : Steady s0 s) :
    Steady s0 (State.endDisable s a) := by
  delta State.endDisable
  extract_lets +onlyGivenNames -merge x1 x2 x3
  have h3 : Steady s0 x3 := State.modLsh_steady (State.disableNow_steady hs)
  clear_value x3
  extract_lets +onlyGivenNames -merge x4 x5
  have h5 : Steady s0 x5 := Steady.same h3 rfl rfl rfl rfl rfl rfl rfl
  clear_value x5
  exact forAll_steady (fun t6 t7 ht7 => State.complete_steady ht7) h5

theorem State.applyOwn_steady {s0 s : State} {a} (hs : Steady s0 s) :
    Steady s0 (State.applyOwn s a) := by
  delta State.applyOwn
  split
  · exact hs
  · extract_lets +onlyGivenNames -merge x1
    have h1 : Steady s0 x1 := State.applyFrame_steady hs
    clear_value x1
    exact Steady.ite (State.endDisable_steady h1) h1

theorem State.shareLost_steady {s0 s : State} {a} (hs : Steady s0 s) :
    Steady s0 (State.shareLost s a) := by
  delta State.shareLost
  extract_lets +onlyGivenNames -merge x1
  have h1 : Steady s0 x1 := State.setTm_steady (State.modLsh_steady (State.axisFault_steady hs))
  clear_value x1
  extract_lets +onlyGivenNames -merge x2
  have h2 : Steady s0 x2 := State.setReg_steady h1
  clear_value x2
  extract_lets +onlyGivenNames -merge x3
  have h3 : Steady s0 x3 := State.setReg_steady h2
  clear_value x3
  exact State.setFld_steady h3

theorem State.bitWatch_steady {s0 s : State} {a f} (hs : Steady s0 s) :
    Steady s0 (State.bitWatch s a f) := by
  delta State.bitWatch
  extract_lets +onlyGivenNames -merge x1 x2
  have h2 : Steady s0 x2 := State.modLsh_steady hs
  clear_value x2
  exact Steady.ite (State.shareLost_steady h2) h2

theorem State.capWatch_steady {s0 s : State} {a} (hs : Steady s0 s) :
    Steady s0 (State.capWatch s a) := by
  delta State.capWatch
  extract_lets +onlyGivenNames -merge x1
  refine Steady.ite (State.modLsh_steady hs) ?_
  extract_lets +onlyGivenNames -merge x2
  have h2 : Steady s0 x2 := State.modLsh_steady hs
  clear_value x2
  refine Steady.ite ?_ h2
  extract_lets +onlyGivenNames -merge x3
  have h3 : Steady s0 x3 := State.beginStop_steady (State.journal_steady h2)
  clear_value x3
  exact State.modLsh_steady h3

theorem State.composeLead_steady {s0 s : State} {a} (hs : Steady s0 s) :
    Steady s0 (State.composeLead s a) := by
  delta State.composeLead
  extract_lets +onlyGivenNames -merge x1 x2 x3 x4 x5 x6
  have h6 : Steady s0 x6 := State.setFld_steady (State.setFld_steady hs)
  clear_value x6
  exact State.modLsh_steady h6

theorem State.cycleLatch_steady {s0 s : State} {a} (hs : Steady s0 s) :
    Steady s0 (State.cycleLatch s a) := by
  delta State.cycleLatch
  extract_lets +onlyGivenNames -merge x1
  exact State.modLsh_steady hs

theorem State.cycleTake_steady {s0 s : State} {a} (hs : Steady s0 s) :
    Steady s0 (State.cycleTake s a) := by
  delta State.cycleTake
  extract_lets +onlyGivenNames -merge x1
  have h1 : Steady s0 x1 := State.modLsh_steady hs
  clear_value x1
  extract_lets +onlyGivenNames -merge x2
  have h2 : Steady s0 x2 := State.setFld_steady h1
  clear_value x2
  exact State.setFlag_steady h2

theorem State.dropLead_steady {s0 s : State} {a} (hs : Steady s0 s) :
    Steady s0 (State.dropLead s a) := by
  delta State.dropLead
  extract_lets +onlyGivenNames -merge x1
  have h1 : Steady s0 x1 := when_steady (fun t2 ht2 => State.endDisable_steady ht2) hs
  clear_value x1
  extract_lets +onlyGivenNames -merge x3
  have h3 : Steady s0 x3 := State.setFlag_steady (State.setFlag_steady (State.setFld_steady h1))
  clear_value x3
  extract_lets +onlyGivenNames -merge x4
  have h4 : Steady s0 x4 := State.modLsh_steady h3
  clear_value x4
  exact State.setFld_steady (State.setReg_steady h4)

theorem State.groupContexts_steady {s0 s : State} {a : Fin 4} (h : Steady s0 s) : SteadyOut s0 (s.groupContexts a) := by
  delta State.groupContexts
  refine foldl_steadyOut (fun t r ht => ?_) (SteadyOut.mk h)
  split
  · rename_i _ y q
    exact SteadyOut.mk (SteadyOpt.of_eq q (State.ctxFor_steady ht))
  · exact SteadyOut.mk (State.incSat_steady ht)

theorem State.heard_steady {s0 s : State} {a idx node} (hs : Steady s0 s) :
    Steady s0 (State.heard s a idx node) := by
  delta State.heard
  extract_lets +onlyGivenNames -merge x1 x2
  have h2 : Steady s0 x2 := State.modLsh_steady hs
  clear_value x2
  exact State.modMember_steady h2

theorem State.memberStep_steady {s0 s : State} {a m} (hs : Steady s0 s) :
    Steady s0 (State.memberStep s a m) := by
  delta State.memberStep
  extract_lets +onlyGivenNames -merge x1 x2
  have h2 : Steady s0 x2 := Steady.ite hs (State.modMember_steady hs)
  clear_value x2
  extract_lets +onlyGivenNames -merge x3 x4 x5 x6 x7
  have h7 : Steady s0 x7 := when_steady (fun t8 ht8 => State.seeRampOut_steady ht8) h2
  clear_value x7
  extract_lets +onlyGivenNames -merge x9
  have h9 : Steady s0 x9 := when_steady (fun t10 ht10 => State.journal_steady ht10) h7
  clear_value x9
  extract_lets +onlyGivenNames -merge x11 x12
  exact State.modMember_steady h9

theorem State.shares_steady {s0 s : State} {a} (hs : Steady s0 s) :
    Steady s0 (State.shares s a) := by
  delta State.shares
  extract_lets +onlyGivenNames -merge x1 x2 x3 x4 x5 x6 x7 x8 x9 x10 x11 x12 x13 x14 x15 x16
  extract_lets +onlyGivenNames -merge x17 x18 x19 x20 x21 x22 x23 x24 x25
  have h25 : Steady s0 x25 := Steady.same hs rfl rfl rfl rfl rfl rfl rfl
  clear_value x25
  extract_lets +onlyGivenNames -merge x26
  have h26 : Steady s0 x26 := State.modLsh_steady h25
  clear_value x26
  extract_lets +onlyGivenNames -merge x27
  have h27 : Steady s0 x27 := State.setFlag_steady (State.setFlag_steady h26)
  clear_value x27
  exact State.setReg_steady (State.setReg_steady h27)

theorem State.leadCycle_steady {s0 s : State} {a} (hs : Steady s0 s) :
    Steady s0 (State.leadCycle s a) := by
  delta State.leadCycle
  extract_lets +onlyGivenNames -merge x1
  have h1 : Steady s0 x1 := forAll_steady (fun t2 t3 ht3 => State.memberStep_steady ht3) hs
  clear_value x1
  exact State.composeLead_steady (State.capWatch_steady (State.shares_steady h1))

theorem State.leadFrameRx_steady {s0 s : State} {f} (hs : Steady s0 s) :
    Steady s0 (State.leadFrameRx s f) := by
  delta State.leadFrameRx
  refine Steady.ite hs ?_
  refine forAll_steady ?_ hs
  intro t1 t2 ht2
  refine Steady.ite ht2 ?_
  extract_lets +onlyGivenNames -merge x3
  have h3 : Steady s0 x3 := State.heard_steady ht2
  clear_value x3
  exact Steady.ite h3 (State.modLsh_steady (when_steady (fun t4 ht4 => State.dropLead_steady ht4) h3))

theorem State.memberFault_steady {s0 s : State} {a m fault} (hs : Steady s0 s) :
    Steady s0 (State.memberFault s a m fault) := by
  delta State.memberFault
  extract_lets +onlyGivenNames -merge x1
  have h1 : Steady s0 x1 := State.modMember_steady hs
  clear_value x1
  refine Steady.ite ?_ h1
  exact forAll_steady (fun t2 t3 ht3 => State.latchSet_steady ht3) (State.modLsh_steady h1)

theorem State.noticeRx_steady {s0 s : State} {m} (hs : Steady s0 s) :
    Steady s0 (State.noticeRx s m) := by
  delta State.noticeRx
  refine Steady.ite hs ?_
  refine forAll_steady ?_ hs
  intro t1 t2 ht2
  extract_lets +onlyGivenNames -merge x3
  exact State.memberFault_steady (State.modMember_steady ht2)

theorem State.obey_steady {s0 s : State} {a f} (hs : Steady s0 s) :
    Steady s0 (State.obey s a f) := by
  delta State.obey
  extract_lets +onlyGivenNames -merge x1
  refine Steady.ite (State.disableNow_steady hs) ?_
  refine Steady.ite ?_ ?_
  · refine Steady.ite ?_ hs
    exact State.beginStart_steady (when_steady (fun t2 ht2 => State.setMode_steady ht2) hs)
  · refine Steady.ite ?_ ?_
    · exact when_steady (fun t3 ht3 => State.axisDisable_steady ht3) hs
    · exact Steady.ite (State.setAxis_steady (State.startTimer_steady hs)) hs

theorem State.rampSelf_steady {s0 s : State} {a} (hs : Steady s0 s) :
    Steady s0 (State.rampSelf s a) := by
  delta State.rampSelf
  refine Steady.ite hs ?_
  extract_lets +onlyGivenNames -merge x1 x2
  have h2 : Steady s0 x2 := State.setFld_steady (State.modLsh_steady hs)
  clear_value x2
  exact State.seeRampOut_steady h2

theorem State.rampTm_steady {s0 s : State} {a} (hs : Steady s0 s) :
    Steady s0 (State.rampTm s a) := by
  delta State.rampTm
  split
  · exact hs
  · exact State.setTm_steady hs

theorem State.reportRx_steady {s0 s : State} {r} (hs : Steady s0 s) :
    Steady s0 (State.reportRx s r) := by
  delta State.reportRx
  refine Steady.ite hs ?_
  refine forAll_steady ?_ hs
  intro t1 t2 ht2
  extract_lets +onlyGivenNames -merge x3 x4
  have h4 : Steady s0 x4 := State.modMember_steady (State.heard_steady ht2)
  clear_value x4
  extract_lets +onlyGivenNames -merge x5
  have h5 : Steady s0 x5 := when_steady (fun t6 ht6 => State.seeRampOut_steady ht6) h4
  clear_value x5
  extract_lets +onlyGivenNames -merge x7
  exact Steady.ite h5 (State.memberFault_steady h5)

theorem State.takeLead_steady {s0 s : State} {a} (hs : Steady s0 s) :
    Steady s0 (State.takeLead s a) := by
  delta State.takeLead
  extract_lets +onlyGivenNames -merge x1 x2 x3
  have h3 : Steady s0 x3 := when_steady (fun t4 ht4 => State.incSat_steady ht4) hs
  clear_value x3
  extract_lets +onlyGivenNames -merge x5 x6
  have h6 : Steady s0 x6 := when_steady (fun t7 ht7 => State.adoptMembers_steady ht7) h3
  clear_value x6
  extract_lets +onlyGivenNames -merge x8
  have h8 : Steady s0 x8 := by
    unfold x8
    clear_value x1
    split
    · exact when_steady (fun t9 ht9 => State.seeRampOut_steady ht9) h6
    · exact h6
  clear_value x8
  extract_lets +onlyGivenNames -merge x10
  have h10 : Steady s0 x10 := State.setFld_steady (State.setFld_steady h8)
  clear_value x10
  extract_lets +onlyGivenNames -merge x11
  have h11 : Steady s0 x11 := State.modLsh_steady h10
  clear_value x11
  extract_lets +onlyGivenNames -merge x12
  have h12 : Steady s0 x12 := State.setFld_steady (State.setFlag_steady h11)
  clear_value x12
  exact Steady.ite (State.modSpd_steady (State.enterStopping_steady h12)) h12

theorem State.role_steady {s0 s : State} {a} (hs : Steady s0 s) :
    Steady s0 (State.role s a) := by
  delta State.role
  extract_lets +onlyGivenNames -merge x1 x2 x3
  have h3 : Steady s0 x3 := State.modLsh_steady hs
  clear_value x3
  refine Steady.ite ?_ (Steady.ite (State.takeLead_steady h3) h3)
  refine Steady.ite (State.modLsh_steady (State.dropLead_steady h3)) ?_
  refine Steady.ite (State.dropLead_steady h3) ?_
  extract_lets +onlyGivenNames -merge x4
  exact State.modLsh_steady h3

theorem State.seek_steady {s0 s : State} {a} (hs : Steady s0 s) :
    Steady s0 (State.seek s a) := by
  delta State.seek
  refine Steady.ite hs ?_
  extract_lets +onlyGivenNames -merge x1
  have h1 : SteadyOut s0 x1 := State.groupContexts_steady hs
  clear_value x1
  extract_lets +onlyGivenNames -merge x2
  refine Steady.ite ?_ ?_
  · exact State.interleave_steady (State.setFld_steady (SteadyOut.snd h1))
  · extract_lets +onlyGivenNames -merge x3
    have h3 : Steady s0 x3 := State.setFld_steady (State.setFld_steady (SteadyOut.snd h1))
    clear_value x3
    exact Steady.ite (State.journal_steady (State.modLsh_steady h3)) h3

theorem State.sendFrame_steady {s0 s : State} {a body} (hs : Steady s0 s) :
    Steady s0 (State.sendFrame s a body) := by
  delta State.sendFrame
  exact State.sendClass0_steady (State.modLsh_steady hs)

theorem State.withLead_steady {s0 s : State} {a f} (hs : Steady s0 s) :
    Steady s0 (State.withLead s a f) := by
  delta State.withLead
  extract_lets +onlyGivenNames -merge x1 x2
  have h2 : Steady s0 x2 := when_steady (fun t3 ht3 => State.incSat_steady ht3) hs
  clear_value x2
  extract_lets +onlyGivenNames -merge x4
  have h4 : Steady s0 x4 := State.setFld_steady (State.setFld_steady h2)
  clear_value x4
  extract_lets +onlyGivenNames -merge x5
  have h5 : Steady s0 x5 := State.setFlag_steady (State.setFld_steady h4)
  clear_value x5
  extract_lets +onlyGivenNames -merge x6
  have h6 : Steady s0 x6 := State.modLsh_steady h5
  clear_value x6
  exact Steady.ite h6 (State.applyFrame_steady (State.obey_steady (State.bitWatch_steady h6)))

theorem State.withoutLead_steady {s0 s : State} {a} (hs : Steady s0 s) :
    Steady s0 (State.withoutLead s a) := by
  delta State.withoutLead
  extract_lets +onlyGivenNames -merge x1
  have h1 : Steady s0 x1 := State.modLsh_steady hs
  clear_value x1
  refine Steady.ite h1 ?_
  extract_lets +onlyGivenNames -merge x2
  have h2 : Steady s0 x2 := State.incSat_steady (State.setFld_steady h1)
  clear_value x2
  extract_lets +onlyGivenNames -merge x3
  have h3 : Steady s0 x3 := State.setFlag_steady h2
  clear_value x3
  extract_lets +onlyGivenNames -merge x4
  have h4 : Steady s0 x4 := when_steady (fun t5 ht5 => State.setFld_steady ht5) h3
  clear_value x4
  exact Steady.ite (State.rampSelf_steady h4) h4

theorem execFaultNotice_steady {s0 : State} {m} {s : State} (hs : Steady s0 s) :
    SteadyRes s0 (execFaultNotice m s) := by
  delta execFaultNotice
  refine SteadyRes.ite ?_ (SteadyRes.next hs)
  exact SteadyRes.next (State.settle_steady (State.noticeRx_steady hs))

theorem execLeadFrame_steady {s0 : State} {f} {s : State} (hs : Steady s0 s) :
    SteadyRes s0 (execLeadFrame f s) := by
  delta execLeadFrame
  refine SteadyRes.ite ?_ (SteadyRes.next hs)
  exact SteadyRes.next (State.settle_steady (State.leadFrameRx_steady hs))

theorem execReport_steady {s0 : State} {r} {s : State} (hs : Steady s0 s) :
    SteadyRes s0 (execReport r s) := by
  delta execReport
  refine SteadyRes.ite ?_ (SteadyRes.next hs)
  exact SteadyRes.next (State.settle_steady (State.reportRx_steady hs))

theorem execShareRampEnd_steady {s0 : State} {a} {s : State} (hs : Steady s0 s) :
    SteadyRes s0 (execShareRampEnd a s) := by
  delta execShareRampEnd
  refine SteadyRes.ite ?_ (SteadyRes.next hs)
  exact SteadyRes.next (State.settle_steady (State.shareLost_steady hs))

theorem execShedApply_steady {s0 : State} {a} {s : State} (hs : Steady s0 s) :
    SteadyRes s0 (execShedApply a s) := by
  delta execShedApply
  refine SteadyRes.ite (SteadyRes.next hs) ?_
  extract_lets +onlyGivenNames -merge x1
  have h1 : Steady s0 x1 := State.memberPoll_steady (State.modLsh_steady hs)
  clear_value x1
  extract_lets +onlyGivenNames -merge x2
  have h2 : Steady s0 x2 := when_steady (fun t3 ht3 => State.modLsh_steady (State.rampSelf_steady ht3)) h1
  clear_value x2
  extract_lets +onlyGivenNames -merge x4
  have h4 : Steady s0 x4 := by
    unfold x4
    refine Steady.ite (State.applyOwn_steady h2) ?_
    split
    · exact State.withLead_steady h2
    · exact State.withoutLead_steady (when_steady (fun t5 ht5 => State.endDisable_steady ht5) h2)
  clear_value x4
  exact SteadyRes.next (State.settle_steady (State.memberPoll_steady (State.rampTm_steady h4)))

theorem execShedCycleStart_steady {s0 s : State} (hs : Steady s0 s) :
    SteadyRes s0 (execShedCycleStart s) := by
  delta execShedCycleStart
  refine SteadyRes.ite (SteadyRes.next hs) ?_
  extract_lets +onlyGivenNames -merge x1
  have h1 : Steady s0 x1 := by
    unfold x1
    refine forAll_steady ?_ hs
    intro t2 t3 ht3
    extract_lets +onlyGivenNames -merge x4
    have h4 : Steady s0 x4 := by
      unfold x4
      refine State.role_steady ?_
      refine State.cycleLatch_steady ?_
      exact State.seek_steady (State.cycleTake_steady (State.memberPoll_steady ht3))
    clear_value x4
    exact Steady.ite (State.leadCycle_steady h4) h4
  clear_value x1
  exact SteadyRes.next (State.settle_steady h1)

theorem execShedSlot_steady {s0 : State} {a} {s : State} (hs : Steady s0 s) :
    SteadyRes s0 (execShedSlot a s) := by
  delta execShedSlot
  refine SteadyRes.ite (SteadyRes.next hs) ?_
  refine SteadyRes.ite (SteadyRes.next (State.modLsh_steady hs)) ?_
  refine SteadyRes.ite (SteadyRes.next hs) ?_
  refine SteadyRes.ite ?_ ?_
  · split
    · exact SteadyRes.next (State.sendFrame_steady hs)
    · exact SteadyRes.next hs
  · split
    · exact SteadyRes.next (State.sendFrame_steady hs)
    · exact SteadyRes.next hs

end Sys2Proof.Machine
end

