-- ==== Sys2Proof/Laws/SteadyWeft.lean ====
section
/-! SUPPORT. Machine/Weft.lean: what each operation keeps (Laws/Steady.lean). -/

namespace Sys2Proof.Machine

theorem State.addSat_steady {s0 s : State} {f n} (hs : Steady s0 s) :
    Steady s0 (State.addSat s f n) := by
  delta State.addSat
  exact State.setFld_steady hs

theorem State.seenCast_steady {s0 s : State} {uid src pkt} (hs : Steady s0 s) :
    SteadyOut s0 (State.seenCast s uid src pkt) := by
  delta State.seenCast
  extract_lets +onlyGivenNames -merge x1 x2 x3
  exact SteadyOut.mk (State.modWft_steady hs)

theorem State.announce_steady {s0 s : State} {kind addr} (hs : Steady s0 s) :
    Steady s0 (State.announce s kind addr) := by
  delta State.announce
  extract_lets +onlyGivenNames -merge x1
  have h1 : SteadyOut s0 x1 := State.takePkt_steady hs
  clear_value x1
  extract_lets +onlyGivenNames -merge x2
  exact State.broadcast_steady (SteadyOut.snd (State.seenCast_steady (SteadyOut.snd h1)))

theorem State.showParent_steady {s0 s : State} {o} (hs : Steady s0 s) :
    Steady s0 (State.showParent s o) := by
  delta State.showParent
  exact forAll_steady (fun t1 t2 ht2 => State.setFlag_steady ht2) hs

theorem State.follow_steady {s0 s : State} {p h} (hs : Steady s0 s) :
    Steady s0 (State.follow s p h) := by
  delta State.follow
  extract_lets +onlyGivenNames -merge x1
  have h1 : Steady s0 x1 := Steady.ite hs (State.modWft_steady hs)
  clear_value x1
  extract_lets +onlyGivenNames -merge x2
  have h2 : Steady s0 x2 := when_steady (fun t3 ht3 => State.setFld_steady ht3) h1
  clear_value x2
  extract_lets +onlyGivenNames -merge x4
  have h4 : Steady s0 x4 := State.setFld_steady (State.setFlag_steady h2)
  clear_value x4
  extract_lets +onlyGivenNames -merge x5
  have h5 : Steady s0 x5 := State.setFld_steady (State.setFld_steady h4)
  clear_value x5
  exact State.showParent_steady (State.setFld_steady h5)

theorem State.chooseParent_steady {s0 s : State} (hs : Steady s0 s) :
    Steady s0 (State.chooseParent s) := by
  delta State.chooseParent
  extract_lets +onlyGivenNames -merge x1 x2
  have h2 : ∀ t0, Steady s0 t0 → Steady s0 (x2 t0) := by
    unfold x2
    intro t3 ht3
    extract_lets +onlyGivenNames -merge x4
    have h4 : Steady s0 x4 := State.showParent_steady (State.modWft_steady ht3)
    clear_value x4
    extract_lets +onlyGivenNames -merge x5
    have h5 : Steady s0 x5 := State.setFld_steady (State.setFlag_steady h4)
    clear_value x5
    extract_lets +onlyGivenNames -merge x6
    have h6 : Steady s0 x6 := State.setFld_steady (State.setFld_steady h5)
    clear_value x6
    exact State.setFld_steady (State.setFld_steady h6)
  clear_value x2
  split
  · exact Steady.ite (h2 _ hs) (State.follow_steady hs)
  · refine Steady.ite (h2 _ hs) ?_
    extract_lets +onlyGivenNames -merge x7
    have h7 : Steady s0 x7 := State.showParent_steady (State.modWft_steady hs)
    clear_value x7
    extract_lets +onlyGivenNames -merge x8
    have h8 : Steady s0 x8 := State.setFld_steady (State.setFlag_steady h7)
    clear_value x8
    extract_lets +onlyGivenNames -merge x9
    have h9 : Steady s0 x9 := State.setFld_steady (State.setFld_steady h8)
    clear_value x9
    exact State.setFld_steady (State.setFld_steady h9)

theorem State.heardOn_steady {s0 s : State} {p} (hs : Steady s0 s) :
    Steady s0 (State.heardOn s p) := by
  delta State.heardOn
  extract_lets +onlyGivenNames -merge x1
  exact State.modPort_steady hs

theorem State.flood_steady {s0 s : State} {from_ fs} (hs : Steady s0 s) :
    Steady s0 (State.flood s from_ fs) := by
  delta State.flood
  refine Steady.ite (State.addSat_steady hs) ?_
  refine forAll_steady ?_ hs
  intro t1 t2 ht2
  exact forAll_steady (fun t3 t4 ht4 => State.enqueue_steady ht4) ht2

theorem State.learnUid_steady {s0 s : State} {uid addr} (hs : Steady s0 s) :
    Steady s0 (State.learnUid s uid addr) := by
  delta State.learnUid
  exact Steady.ite hs (State.modWft_steady hs)

theorem State.sendRoute_steady {s0 s : State} {p} (hs : Steady s0 s) :
    Steady s0 (State.sendRoute s p) := by
  delta State.sendRoute
  extract_lets +onlyGivenNames -merge x1
  have h1 : Steady s0 x1 := State.modPort_steady hs
  clear_value x1
  refine Steady.ite h1 ?_
  extract_lets +onlyGivenNames -merge x2 x3 x4
  have h4 : SteadyOut s0 x4 := State.takePkt_steady h1
  clear_value x4
  exact forAll_steady (fun t5 t6 ht6 => State.originate_steady ht6) (SteadyOut.snd h4)

theorem State.duePoll_steady {s0 s : State} {p} (hs : Steady s0 s) :
    Steady s0 (State.duePoll s p) := by
  delta State.duePoll
  extract_lets +onlyGivenNames -merge x1 x2 x3
  exact Steady.ite (State.sendRoute_steady (State.modPort_steady hs)) hs

theorem State.reroute_steady {s0 s : State} {f : State → State} (hs : Steady s0 s) (hf : ∀ t0, Steady s0 t0 → Steady s0 (f t0)) :
    Steady s0 (State.reroute s f) := by
  delta State.reroute
  extract_lets +onlyGivenNames -merge x1 x2
  have h2 : Steady s0 x2 := hf _ hs
  clear_value x2
  extract_lets +onlyGivenNames -merge x3
  have h3 : Steady s0 x3 := by
    unfold x3
    refine Steady.ite h2 ?_
    exact forAll_steady (fun t4 t5 ht5 => State.duePoll_steady (State.modPort_steady ht5)) h2
  clear_value x3
  exact State.routeWatch_steady (State.weftLive_steady h3)

theorem State.claimStart_steady {s0 s : State} {cand} (hs : Steady s0 s) :
    Steady s0 (State.claimStart s cand) := by
  delta State.claimStart
  extract_lets +onlyGivenNames -merge x1
  have h1 : Steady s0 x1 := State.setFlag_steady (State.setFld_steady hs)
  clear_value x1
  exact State.announce_steady (State.modWft_steady h1)

theorem State.contestLost_steady {s0 s : State} {addr winner} (hs : Steady s0 s) :
    Steady s0 (State.contestLost s addr winner) := by
  delta State.contestLost
  extract_lets +onlyGivenNames -merge x1 x2
  have h2 : Steady s0 x2 := State.incSat_steady (State.journal_steady hs)
  clear_value x2
  extract_lets +onlyGivenNames -merge x3 x4
  have h4 : Steady s0 x4 := by
    unfold x4
    refine Steady.ite ?_ hs
    refine State.reroute_steady ?_ (fun t5 ht5 => State.setFld_steady ht5)
    exact State.ctxLive_steady (State.modWft_steady h2)
  clear_value x4
  exact Steady.ite (State.setFld_steady (State.modWft_steady h4)) (State.claimStart_steady h4)

theorem State.claimRx_steady {s0 s : State} {kind p m} (hs : Steady s0 s) :
    Steady s0 (State.claimRx s kind p m) := by
  delta State.claimRx
  refine Steady.ite hs ?_
  extract_lets +onlyGivenNames -merge x1
  have h1 : SteadyOut s0 x1 := State.seenCast_steady (State.heardOn_steady hs)
  clear_value x1
  refine Steady.ite (SteadyOut.snd h1) ?_
  extract_lets +onlyGivenNames -merge x2 x3 x4 x5
  have h5 : Steady s0 x5 := State.learnUid_steady (State.flood_steady (SteadyOut.snd h1))
  clear_value x5
  extract_lets +onlyGivenNames -merge x6 x7
  refine Steady.ite ?_ h5
  exact Steady.ite (Steady.ite (State.announce_steady h5) h5) (State.contestLost_steady h5)

theorem State.heardFrom_steady {s0 s : State} {f} (hs : Steady s0 s) :
    Steady s0 (State.heardFrom s f) := by
  delta State.heardFrom
  extract_lets +onlyGivenNames -merge x1
  exact State.modWft_steady hs

theorem State.deliver0_steady {s0 s : State} {l} (hs : Steady s0 s) :
    Steady s0 (State.deliver0 s l) := by
  delta State.deliver0
  extract_lets +onlyGivenNames -merge x1 x2
  split
  · exact State.leadFrameRx_steady hs
  · exact State.reportRx_steady hs
  · exact State.noticeRx_steady hs
  · exact hs

theorem State.deliver1_steady {s0 s : State} {routeB l} (hs : Steady s0 s) :
    Steady s0 (State.deliver1 s routeB l) := by
  delta State.deliver1
  extract_lets +onlyGivenNames -merge x1
  refine forAll_steady ?_ hs
  intro t2 t3 ht3
  refine Steady.ite ht3 ?_
  exact Steady.ite (State.safetyCopy_steady ht3) (Steady.ite (State.safetyCopy_steady ht3) ht3)

theorem State.packetDone_steady {s0 s : State} {src cls pkt rx l} (hs : Steady s0 s) :
    Steady s0 (State.packetDone s src cls pkt rx l) := by
  delta State.packetDone
  extract_lets +onlyGivenNames -merge x1
  have h1 : Steady s0 x1 := State.modCtx_steady hs
  clear_value x1
  extract_lets +onlyGivenNames -merge x2 x3
  refine Steady.ite h1 ?_
  refine Steady.ite (State.incSat_steady h1) ?_
  refine Steady.ite (State.incSat_steady h1) ?_
  extract_lets +onlyGivenNames -merge x4
  have h4 : Steady s0 x4 := State.modCtx_steady h1
  clear_value x4
  exact State.irq_steady (State.modWft_steady h4)

theorem State.deliver23_steady {s0 s : State} {f} (hs : Steady s0 s) :
    Steady s0 (State.deliver23 s f) := by
  delta State.deliver23
  split
  · exact State.incSat_steady hs
  · rename_i _ y1 q1
    have h1 := SteadyOpt.of_eq q1 (State.ctxFor_steady hs)
    extract_lets +onlyGivenNames -merge x2 x3
    have h3 : Steady s0 x3 := State.modCtx_steady h1
    clear_value x3
    extract_lets +onlyGivenNames -merge x4 x5
    have h5 : Steady s0 x5 := when_steady (fun t6 ht6 => State.modCtx_steady ht6) h3
    clear_value x5
    extract_lets +onlyGivenNames -merge x7
    clear_value x7
    split
    · exact h5
    · exact Steady.ite (State.packetDone_steady (State.modCtx_steady h5)) (State.modCtx_steady h5)

theorem State.deliverFrame_steady {s0 s : State} {f} (hs : Steady s0 s) :
    Steady s0 (State.deliverFrame s f) := by
  delta State.deliverFrame
  extract_lets +onlyGivenNames -merge x1
  have h1 : Steady s0 x1 := when_steady (fun t2 ht2 => State.heardFrom_steady ht2) hs
  clear_value x1
  refine Steady.ite (State.deliver0_steady h1) ?_
  exact Steady.ite (State.deliver1_steady h1) (State.deliver23_steady h1)

theorem State.forward_steady {s0 s : State} {fs} (hs : Steady s0 s) :
    Steady s0 (State.forward s fs) := by
  delta State.forward
  split
  · exact hs
  · refine Steady.ite (State.addSat_steady hs) ?_
    refine Steady.ite (State.addSat_steady hs) ?_
    extract_lets +onlyGivenNames -merge x1
    exact forAll_steady (fun t2 t3 ht3 => State.enqueue_steady ht3) hs

theorem State.dataRx_steady {s0 s : State} {p f} (hs : Steady s0 s) :
    Steady s0 (State.dataRx s p f) := by
  delta State.dataRx
  refine Steady.ite (Steady.ite (State.incSat_steady hs) hs) ?_
  refine Steady.ite ?_ ?_
  · refine Steady.ite hs ?_
    extract_lets +onlyGivenNames -merge x1
    have h1 : SteadyOut s0 x1 := State.seenCast_steady hs
    clear_value x1
    refine Steady.ite (SteadyOut.snd h1) ?_
    exact State.deliverFrame_steady (State.flood_steady (SteadyOut.snd h1))
  · exact Steady.ite (State.deliverFrame_steady hs) (State.forward_steady hs)

theorem State.parentLost_steady {s0 s : State} (hs : Steady s0 s) :
    Steady s0 (State.parentLost s) := by
  delta State.parentLost
  exact State.chooseParent_steady (State.incSat_steady hs)

theorem State.leaveActive_steady {s0 s : State} {p} (hs : Steady s0 s) :
    Steady s0 (State.leaveActive s p) := by
  delta State.leaveActive
  extract_lets +onlyGivenNames -merge x1 x2
  have h2 : Steady s0 x2 := State.addSat_steady hs
  clear_value x2
  extract_lets +onlyGivenNames -merge x3
  have h3 : Steady s0 x3 := State.addSat_steady h2
  clear_value x3
  extract_lets +onlyGivenNames -merge x4
  have h4 : Steady s0 x4 := State.setFld_steady (State.incSat_steady h3)
  clear_value x4
  extract_lets +onlyGivenNames -merge x5
  have h5 : Steady s0 x5 := State.setFlag_steady h4
  clear_value x5
  extract_lets +onlyGivenNames -merge x6
  have h6 : Steady s0 x6 := State.reroute_steady h5 (fun t7 ht7 => State.modPort_steady ht7)
  clear_value x6
  extract_lets +onlyGivenNames -merge x8
  have h8 : Steady s0 x8 := State.journal_steady h6
  clear_value x8
  exact Steady.ite (State.parentLost_steady h8) h8

theorem State.stepTime_steady {s0 s : State} {offset} (hs : Steady s0 s) :
    Steady s0 (State.stepTime s offset) := by
  delta State.stepTime
  extract_lets +onlyGivenNames -merge x1 x2 x3
  have h3 : Steady s0 x3 := Steady.same hs rfl rfl rfl rfl rfl rfl rfl
  clear_value x3
  extract_lets +onlyGivenNames -merge x4
  have h4 : Steady s0 x4 := State.modWft_steady h3
  clear_value x4
  extract_lets +onlyGivenNames -merge x5
  have h5 : Steady s0 x5 := forAll_steady (fun t6 t7 ht7 => State.modPort_steady ht7) h4
  clear_value x5
  extract_lets +onlyGivenNames -merge x8
  have h8 : Steady s0 x8 := by
    unfold x8
    refine forAll_steady ?_ h5
    intro t9 t10 ht10
    exact when_steady (fun t11 ht11 => State.placeCarrier_steady ht11) ht10
  clear_value x8
  exact State.journal_steady (State.incSat_steady h8)

theorem State.slew_steady {s0 s : State} (hs : Steady s0 s) :
    Steady s0 (State.slew s) := by
  delta State.slew
  extract_lets +onlyGivenNames -merge x1
  have h1 : SteadyOut s0 x1 := State.freeRat_steady hs
  clear_value x1
  exact State.modWft_steady (SteadyOut.snd h1)

theorem State.onOffset_steady {s0 s : State} {offset} (hs : Steady s0 s) :
    Steady s0 (State.onOffset s offset) := by
  delta State.onOffset
  extract_lets +onlyGivenNames -merge x1 x2 x3 x4
  have h4 : Steady s0 x4 := Steady.ite (State.stepTime_steady hs) (State.slew_steady hs)
  clear_value x4
  exact Steady.ite (Steady.ite (State.setFld_steady h4) h4) (Steady.ite h4 (State.setFld_steady h4))

theorem State.toTrain_steady {s0 s : State} {p} (hs : Steady s0 s) :
    Steady s0 (State.toTrain s p) := by
  delta State.toTrain
  exact Steady.ite (State.leaveActive_steady hs) (State.modPort_steady (State.setFld_steady hs))

theorem State.portEnable_steady {s0 s : State} (hs : Steady s0 s) :
    Steady s0 (State.portEnable s) := by
  delta State.portEnable
  extract_lets +onlyGivenNames -merge x1
  refine forAll_steady ?_ hs
  intro t2 t3 ht3
  extract_lets +onlyGivenNames -merge x4
  refine Steady.ite ht3 ?_
  refine Steady.ite (Steady.ite (State.toTrain_steady ht3) ht3) ?_
  exact Steady.ite ht3 (State.setFld_steady (State.toTrain_steady ht3))

theorem State.sendEcho_steady {s0 s : State} {kind dst body} (hs : Steady s0 s) :
    Steady s0 (State.sendEcho s kind dst body) := by
  delta State.sendEcho
  refine Steady.ite hs ?_
  extract_lets +onlyGivenNames -merge x1
  have h1 : SteadyOut s0 x1 := State.takePkt_steady hs
  clear_value x1
  exact forAll_steady (fun t2 t3 ht3 => State.originate_steady ht3) (SteadyOut.snd h1)

theorem execClaim_steady {s0 : State} {p m} {s : State} (hs : Steady s0 s) :
    SteadyRes s0 (execClaim p m s) := by
  delta execClaim
  exact SteadyRes.next (State.settle_steady (State.claimRx_steady hs))

theorem execClaimTimer_steady {s0 s : State} (hs : Steady s0 s) :
    SteadyRes s0 (execClaimTimer s) := by
  delta execClaimTimer
  refine SteadyRes.ite (SteadyRes.next hs) ?_
  refine SteadyRes.ite ?_ ?_
  · exact SteadyRes.next (State.announce_steady (State.modWft_steady hs))
  · refine SteadyRes.next ?_
    exact State.reroute_steady (State.setFld_steady hs) (fun t1 ht1 => State.setFld_steady ht1)

theorem execConflictWait_steady {s0 s : State} (hs : Steady s0 s) :
    SteadyRes s0 (execConflictWait s) := by
  delta execConflictWait
  exact SteadyRes.ite (SteadyRes.next (State.claimStart_steady hs)) (SteadyRes.next hs)

theorem execCtxAge_steady {s0 : State} {addr cls} {s : State} (hs : Steady s0 s) :
    SteadyRes s0 (execCtxAge addr cls s) := by
  delta execCtxAge
  extract_lets +onlyGivenNames -merge x1
  refine SteadyRes.ite ?_ (SteadyRes.next hs)
  exact SteadyRes.next (State.ctxLive_steady (State.modWft_steady hs))

theorem execData_steady {s0 : State} {p r} {s : State} (hs : Steady s0 s) :
    SteadyRes s0 (execData p r s) := by
  delta execData
  refine SteadyRes.ite (SteadyRes.next hs) ?_
  split
  · exact SteadyRes.next (State.incSat_steady hs)
  · exact SteadyRes.next (State.incSat_steady hs)
  · exact SteadyRes.next (State.settle_steady (State.dataRx_steady (State.heardOn_steady hs)))

theorem execDefend_steady {s0 : State} {p m} {s : State} (hs : Steady s0 s) :
    SteadyRes s0 (execDefend p m s) := by
  delta execDefend
  exact SteadyRes.next (State.settle_steady (State.claimRx_steady hs))

theorem execDefendTimer_steady {s0 s : State} (hs : Steady s0 s) :
    SteadyRes s0 (execDefendTimer s) := by
  delta execDefendTimer
  exact SteadyRes.ite (SteadyRes.next (State.announce_steady hs)) (SteadyRes.next hs)

theorem execDelayReq_steady {s0 : State} {p} {s : State} (hs : Steady s0 s) :
    SteadyRes s0 (execDelayReq p s) := by
  delta execDelayReq
  extract_lets +onlyGivenNames -merge x1
  have h1 : Steady s0 x1 := when_steady (fun t2 ht2 => State.heardOn_steady ht2) hs
  clear_value x1
  refine SteadyRes.ite (SteadyRes.next h1) ?_
  extract_lets +onlyGivenNames -merge x3
  have h3 : SteadyOut s0 x3 := State.takePkt_steady h1
  clear_value x3
  exact SteadyRes.next (State.originate_steady (SteadyOut.snd h3))

theorem execDelayReqSend_steady {s0 s : State} (hs : Steady s0 s) :
    SteadyRes s0 (execDelayReqSend s) := by
  delta execDelayReqSend
  refine SteadyRes.ite (SteadyRes.next hs) ?_
  extract_lets +onlyGivenNames -merge x1
  have h1 : SteadyOut s0 x1 := State.takePkt_steady hs
  clear_value x1
  exact SteadyRes.next (forAll_steady (fun t2 t3 ht3 => State.originate_steady ht3) (SteadyOut.snd h1))

theorem execDelayResp_steady {s0 : State} {p arrival departure} {s : State} (hs : Steady s0 s) :
    SteadyRes s0 (execDelayResp p arrival departure s) := by
  delta execDelayResp
  extract_lets +onlyGivenNames -merge x1
  have h1 : Steady s0 x1 := when_steady (fun t2 ht2 => State.heardOn_steady ht2) hs
  clear_value x1
  refine SteadyRes.ite (SteadyRes.next h1) ?_
  split
  · exact SteadyRes.next h1
  · extract_lets +onlyGivenNames -merge x3
    extract_lets +onlyGivenNames -merge x4 x5
    have h5 : Steady s0 x5 := State.modPort_steady h1
    clear_value x5
    extract_lets +onlyGivenNames -merge x6 x7 x8
    have h8 : Steady s0 x8 := State.setFld_steady h5
    clear_value x8
    exact SteadyRes.next (State.settle_steady (State.chooseParent_steady (State.setFlag_steady h8)))

theorem execEchoReq_steady {s0 : State} {p q} {s : State} (hs : Steady s0 s) :
    SteadyRes s0 (execEchoReq p q s) := by
  delta execEchoReq
  extract_lets +onlyGivenNames -merge x1
  have h1 : Steady s0 x1 := when_steady (fun t2 ht2 => State.heardOn_steady ht2) hs
  clear_value x1
  refine SteadyRes.ite (SteadyRes.next h1) ?_
  refine SteadyRes.ite ?_ (SteadyRes.next (State.forward_steady h1))
  exact SteadyRes.next (State.sendEcho_steady h1)

theorem execEchoResp_steady {s0 : State} {p q} {s : State} (hs : Steady s0 s) :
    SteadyRes s0 (execEchoResp p q s) := by
  delta execEchoResp
  extract_lets +onlyGivenNames -merge x1
  have h1 : Steady s0 x1 := when_steady (fun t2 ht2 => State.heardOn_steady ht2) hs
  clear_value x1
  refine SteadyRes.ite (SteadyRes.next h1) ?_
  refine SteadyRes.ite ?_ (SteadyRes.next (State.forward_steady h1))
  split
  · exact SteadyRes.next h1
  · refine SteadyRes.ite (SteadyRes.next h1) ?_
    extract_lets +onlyGivenNames -merge x3 x4
    refine SteadyRes.ite ?_ ?_
    · extract_lets +onlyGivenNames -merge x5
      extract_lets +onlyGivenNames -merge x6 x7
      have h7 : Steady s0 x7 := State.modWft_steady h1
      clear_value x7
      exact SteadyRes.next (State.reply_steady (Steady.same h7 rfl rfl rfl rfl rfl rfl rfl))
    · extract_lets +onlyGivenNames -merge x8
      have h8 : Steady s0 x8 := State.modWft_steady h1
      clear_value x8
      exact SteadyRes.next (State.sendEcho_steady h8)

theorem execEgressFrameSent_steady {s0 : State} {p} {s : State} (hs : Steady s0 s) :
    SteadyRes s0 (execEgressFrameSent p s) := by
  delta execEgressFrameSent
  exact SteadyRes.next (State.portPoll_steady (State.modPort_steady hs))

theorem execFragTmo_steady {s0 : State} {src cls} {s : State} (hs : Steady s0 s) :
    SteadyRes s0 (execFragTmo src cls s) := by
  delta execFragTmo
  refine SteadyRes.ite ?_ (SteadyRes.next hs)
  exact SteadyRes.next (State.incSat_steady (State.modCtx_steady hs))

theorem execHello_steady {s0 : State} {p m} {s : State} (hs : Steady s0 s) :
    SteadyRes s0 (execHello p m s) := by
  delta execHello
  refine SteadyRes.ite (SteadyRes.next hs) ?_
  extract_lets +onlyGivenNames -merge x1
  have h1 : Steady s0 x1 := State.modPort_steady (State.learnUid_steady (State.heardOn_steady hs))
  clear_value x1
  extract_lets +onlyGivenNames -merge x2
  have h2 : Steady s0 x2 := State.setFld_steady h1
  clear_value x2
  extract_lets +onlyGivenNames -merge x3
  have h3 : Steady s0 x3 := State.reroute_steady h2 (fun t4 ht4 => Steady.ite ht4 (State.setCost_steady ht4))
  clear_value x3
  exact SteadyRes.next (State.settle_steady (State.chooseParent_steady h3))

theorem execHelloSend_steady {s0 s : State} (hs : Steady s0 s) :
    SteadyRes s0 (execHelloSend s) := by
  delta execHelloSend
  refine SteadyRes.ite (SteadyRes.next hs) ?_
  extract_lets +onlyGivenNames -merge x1
  have h1 : SteadyOut s0 x1 := State.takePkt_steady hs
  clear_value x1
  refine SteadyRes.next ?_
  refine forAll_steady ?_ (SteadyOut.snd h1)
  intro t2 t3 ht3
  extract_lets +onlyGivenNames -merge x4
  exact State.originate_steady ht3

theorem execHelloTimeout_steady {s0 : State} {p} {s : State} (hs : Steady s0 s) :
    SteadyRes s0 (execHelloTimeout p s) := by
  delta execHelloTimeout
  extract_lets +onlyGivenNames -merge x1
  refine SteadyRes.ite ?_ (SteadyRes.next hs)
  exact SteadyRes.next (State.settle_steady (State.toTrain_steady hs))

theorem execParentLoss_steady {s0 s : State} (hs : Steady s0 s) :
    SteadyRes s0 (execParentLoss s) := by
  delta execParentLoss
  split
  · refine SteadyRes.ite ?_ (SteadyRes.next hs)
    exact SteadyRes.next (State.settle_steady (State.parentLost_steady (State.modPort_steady hs)))
  · exact SteadyRes.next hs

theorem execRetrain_steady {s0 : State} {p} {s : State} (hs : Steady s0 s) :
    SteadyRes s0 (execRetrain p s) := by
  delta execRetrain
  refine SteadyRes.ite ?_ (SteadyRes.next hs)
  exact SteadyRes.next (State.modPort_steady (State.incSat_steady hs))

theorem execRoute_steady {s0 : State} {p metrics} {s : State} (hs : Steady s0 s) :
    SteadyRes s0 (execRoute p metrics s) := by
  delta execRoute
  refine SteadyRes.ite (SteadyRes.next hs) ?_
  extract_lets +onlyGivenNames -merge x1
  refine SteadyRes.next ?_
  refine State.settle_steady ?_
  refine State.reroute_steady (State.modPort_steady (State.heardOn_steady hs)) ?_
  intro t2 ht2
  exact forAll_steady (fun t3 t4 ht4 => State.setCost_steady ht4) ht2

theorem execRouteAge_steady {s0 : State} {p} {s : State} (hs : Steady s0 s) :
    SteadyRes s0 (execRouteAge p s) := by
  delta execRouteAge
  extract_lets +onlyGivenNames -merge x1
  refine SteadyRes.ite ?_ (SteadyRes.next hs)
  refine SteadyRes.next ?_
  exact State.settle_steady (State.reroute_steady hs (fun t2 ht2 => State.modPort_steady ht2))

theorem execRouteSend_steady {s0 s : State} (hs : Steady s0 s) :
    SteadyRes s0 (execRouteSend s) := by
  delta execRouteSend
  refine SteadyRes.ite ?_ (SteadyRes.next hs)
  exact SteadyRes.next (forAll_steady (fun t1 t2 ht2 => State.sendRoute_steady ht2) hs)

theorem execSync_steady {s0 : State} {p m} {s : State} (hs : Steady s0 s) :
    SteadyRes s0 (execSync p m s) := by
  delta execSync
  refine SteadyRes.ite (SteadyRes.next hs) ?_
  extract_lets +onlyGivenNames -merge x1 x2 x3 x4
  have h4 : Steady s0 x4 := State.modPort_steady (State.heardOn_steady hs)
  clear_value x4
  extract_lets +onlyGivenNames -merge x5
  have h5 : Steady s0 x5 := State.chooseParent_steady h4
  clear_value x5
  refine SteadyRes.ite (SteadyRes.next (State.settle_steady h5)) ?_
  extract_lets +onlyGivenNames -merge x6 x7 x8 x9 x10
  have h10 : Steady s0 x10 := State.modWft_steady h5
  clear_value x10
  extract_lets +onlyGivenNames -merge x11
  have h11 : Steady s0 x11 := State.setReg_steady h10
  clear_value x11
  refine SteadyRes.ite ?_ ?_
  · exact SteadyRes.next (State.settle_steady (State.onOffset_steady h11))
  · extract_lets +onlyGivenNames -merge x12
    have h12 : Steady s0 x12 := State.modWft_steady h11
    clear_value x12
    refine SteadyRes.ite ?_ (SteadyRes.next (State.settle_steady h12))
    exact SteadyRes.next (State.settle_steady (State.onOffset_steady h12))

theorem execSyncSend_steady {s0 s : State} (hs : Steady s0 s) :
    SteadyRes s0 (execSyncSend s) := by
  delta execSyncSend
  refine SteadyRes.ite (SteadyRes.next hs) ?_
  extract_lets +onlyGivenNames -merge x1
  have h1 : Steady s0 x1 := by
    unfold x1
    split
    · exact State.modWft_steady hs
    · exact State.modWft_steady hs
  clear_value x1
  extract_lets +onlyGivenNames -merge x2
  have h2 : SteadyOut s0 x2 := State.takePkt_steady h1
  clear_value x2
  extract_lets +onlyGivenNames -merge x3
  exact SteadyRes.next (forAll_steady (fun t4 t5 ht5 => State.originate_steady ht5) (SteadyOut.snd h2))

theorem execTrainingSet_steady {s0 : State} {p uid a2 lock clean} {s : State} (hs : Steady s0 s) :
    SteadyRes s0 (execTrainingSet p uid a2 lock clean s) := by
  delta execTrainingSet
  extract_lets +onlyGivenNames -merge x1
  refine SteadyRes.ite (SteadyRes.next hs) ?_
  refine SteadyRes.ite ?_ ?_
  · exact SteadyRes.next (State.settle_steady (State.toTrain_steady hs))
  · extract_lets +onlyGivenNames -merge x2
    extract_lets +onlyGivenNames -merge x3
    have h3 : Steady s0 x3 := State.modPort_steady hs
    clear_value x3
    refine SteadyRes.ite (SteadyRes.next h3) ?_
    extract_lets +onlyGivenNames -merge x4
    have h4 : Steady s0 x4 := State.setReg_steady (State.setReg_steady h3)
    clear_value x4
    extract_lets +onlyGivenNames -merge x5
    have h5 : Steady s0 x5 := State.heardOn_steady h4
    clear_value x5
    refine SteadyRes.ite (SteadyRes.next (State.setFld_steady h5)) ?_
    extract_lets +onlyGivenNames -merge x6 x7
    have h7 : Steady s0 x7 := State.modPort_steady (State.setFld_steady h5)
    clear_value x7
    extract_lets +onlyGivenNames -merge x8
    have h8 : Steady s0 x8 := Steady.ite (State.claimStart_steady h7) h7
    clear_value x8
    exact SteadyRes.next (State.weftLive_steady (State.duePoll_steady (State.modPort_steady h8)))

theorem execWeftLink_steady {s0 : State} {p codes} {s : State} (hs : Steady s0 s) :
    SteadyRes s0 (execWeftLink p codes s) := by
  delta execWeftLink
  refine SteadyRes.ite ?_ (SteadyRes.next hs)
  exact SteadyRes.next (State.settle_steady (State.toTrain_steady (State.addSat_steady hs)))

theorem execWeftSend_steady {s0 : State} {h bytes} {s : State} (hs : Steady s0 s) :
    SteadyRes s0 (execWeftSend h bytes s) := by
  delta execWeftSend
  refine State.dispatch_steady hs ?_
  intro t1 ht1
  extract_lets +onlyGivenNames -merge x2 x3 x4
  have h4 : ∀ t0 t1, Steady s0 t1 → Steady s0 (x4 t0 t1) := by
    unfold x4
    exact fun t5 t6 ht6 => State.complete_steady ht6
  clear_value x4
  refine Steady.ite (State.complete_steady ht1) ?_
  refine Steady.ite (h4 _ _ ht1) ?_
  refine Steady.ite (h4 _ _ ht1) ?_
  extract_lets +onlyGivenNames -merge x7
  split
  · exact h4 _ _ (State.incSat_steady ht1)
  · rename_i _ y8 q8
    have h8 := SteadyOpt.of_eq q8 (State.ctxFor_steady ht1)
    extract_lets +onlyGivenNames -merge x9 x10 x11
    refine Steady.ite (h4 _ _ ht1) ?_
    extract_lets +onlyGivenNames -merge x12 x13
    have h13 : Steady s0 x13 := State.modCtx_steady h8
    clear_value x13
    exact State.complete_steady (forAll_steady (fun t14 t15 ht15 => State.enqueue_steady ht15) h13)

end Sys2Proof.Machine
end

