-- ==== Sys2Proof/Laws/SteadyParamAccess.lean ====
section
/-! SUPPORT. Machine/ParamAccess.lean: what each operation keeps (Laws/Steady.lean). -/

namespace Sys2Proof.Machine

theorem State.draftWrite_steady {s0 s : State} {e} (hs : Steady s0 s) :
    Steady s0 (State.draftWrite s e) := by
  delta State.draftWrite
  split
  · exact hs
  · extract_lets +onlyGivenNames -merge x1
    refine Steady.ite ?_ (State.setPar_steady hs)
    refine Steady.ite (State.stageOpen_steady hs) ?_
    refine Steady.ite hs ?_
    refine Steady.ite (Steady.same hs rfl rfl rfl rfl rfl rfl rfl) ?_
    split
    · exact State.stageWrite_steady hs
    · exact hs

theorem State.markRead_steady {s0 s : State} {p} (hs : Steady s0 s) :
    Steady s0 (State.markRead s p) := by
  delta State.markRead
  split
  · exact Steady.ite (State.stageRead_steady hs) hs
  · exact hs

theorem State.paramActs_steady {s0 s : State} {g i inst} (hs : Steady s0 s) :
    Steady s0 (State.paramActs s g i inst) := by
  delta State.paramActs
  refine Steady.ite (State.senseAgain_steady hs) ?_
  refine Steady.ite (State.stepOffset_steady hs) ?_
  refine Steady.ite (State.joinPhase_steady hs) ?_
  refine Steady.ite (State.limAll_steady hs) ?_
  exact Steady.ite (State.portEnable_steady hs) (Steady.ite (State.canRestate_steady hs) hs)

theorem State.setRecord_steady {s0 s : State} {y : Sys} (h : Steady s0 s)
    (hy : s.banksWf → Bank.wfParams y.record = true) : Steady s0 { s with sys := y } :=
  h.banks (fun hb => ⟨hb.1, hb.2.1, hy hb, hb.2.2.2⟩) rfl rfl

theorem State.writeEntry_steady {s0 s : State} {e} (hs : Steady s0 s) :
    Steady s0 (State.writeEntry s e) := by
  delta State.writeEntry
  split
  · exact hs
  · extract_lets +onlyGivenNames -merge x1
    extract_lets +onlyGivenNames -merge x2
    refine Steady.ite ?_ ?_
    · exact Steady.ite (State.discardStaging_steady hs) (State.draftWrite_steady hs)
    · extract_lets +onlyGivenNames -merge x3
      have h3 : Steady s0 x3 := State.draftWrite_steady hs
      clear_value x3
      exact Steady.ite (State.paramActs_steady (State.loadParam_steady h3)) h3

theorem execParamRead_steady {s0 : State} {h es} {s : State} (hs : Steady s0 s) :
    SteadyRes s0 (execParamRead h es s) := by
  delta execParamRead
  refine State.dispatch_steady hs ?_
  intro t1 ht1
  refine Steady.ite (State.complete_steady ht1) ?_
  split
  · exact State.complete_steady ht1
  · extract_lets +onlyGivenNames -merge x2
    exact State.complete_steady (forAll_steady (fun t3 t4 ht4 => State.markRead_steady ht4) ht1)

theorem execParamWrite_steady {s0 : State} {h es} {s : State} (hs : Steady s0 s) :
    SteadyRes s0 (execParamWrite h es s) := by
  delta execParamWrite
  refine State.dispatch_steady hs ?_
  intro t1 ht1
  refine Steady.ite (State.complete_steady ht1) ?_
  split
  · exact State.complete_steady ht1
  · extract_lets +onlyGivenNames -merge x2
    have h2 : Steady s0 x2 := forAll_steady (fun t3 t4 ht4 => State.writeEntry_steady ht4) ht1
    clear_value x2
    split
    · exact State.sealStart_steady h2
    · exact State.settle_steady (State.complete_steady h2)

end Sys2Proof.Machine
end

