-- ==== Sys2Proof/Laws/SteadyProfiles.lean ====
section
/-! SUPPORT. Machine/Profiles.lean: what each operation keeps (Laws/Steady.lean). -/

namespace Sys2Proof.Machine

theorem State.takeSlot_steady {s0 s : State} {n : Fin 4} (h : Steady s0 s) : Steady s0 (s.takeSlot n) :=
  h.banks (fun hb => ⟨hb.1, sparsePut_foldl_wf (sparseWf_filter paramDefault _ hb.2.1), hb.2.2⟩) rfl rfl

theorem State.freshBlocks_steady {s0 s : State} (hs : Steady s0 s) :
    Steady s0 (State.freshBlocks s) := by
  delta State.freshBlocks
  extract_lets +onlyGivenNames -merge x1
  have h1 : Steady s0 x1 := forAll_steady (fun t2 t3 ht3 => State.stepOffset_steady (State.modPwm_steady ht3)) hs
  clear_value x1
  extract_lets +onlyGivenNames -merge x4 x5
  have h5 : Steady s0 x5 := Steady.same h1 rfl rfl rfl rfl rfl rfl rfl
  clear_value x5
  extract_lets +onlyGivenNames -merge x6
  have h6 : Steady s0 x6 := by
    unfold x6
    refine forAll_steady ?_ h5
    intro t7 t8 ht8
    exact forAll_steady (fun t9 t10 ht10 => State.setReg_steady ht10) ht8
  clear_value x6
  extract_lets +onlyGivenNames -merge x11 x12
  have h12 : Steady s0 x12 := by
    unfold x12
    refine forAll_steady ?_ (Steady.same h6 rfl rfl rfl rfl rfl rfl rfl)
    intro t13 t14 ht14
    exact State.modLane_steady ht14
  clear_value x12
  extract_lets +onlyGivenNames -merge x15
  have h15 : Steady s0 x15 := by
    unfold x15
    refine forAll_steady ?_ h12
    intro t16 t17 ht17
    exact when_steady (fun t18 ht18 => State.modLsh_steady ht18) ht17
  clear_value x15
  exact forAll_steady (fun t19 t20 ht20 => State.modPos_steady ht20) h15

theorem State.activate_steady {s0 s : State} {n} (hs : Steady s0 s) :
    Steady s0 (State.activate s n) := by
  delta State.activate
  extract_lets +onlyGivenNames -merge x1 x2
  have h2 : Steady s0 x2 := State.takeSlot_steady hs
  clear_value x2
  extract_lets +onlyGivenNames -merge x3 x4
  have h4 : Steady s0 x4 := Steady.same h2 rfl rfl rfl rfl rfl rfl rfl
  clear_value x4
  extract_lets +onlyGivenNames -merge x5
  have h5 : Steady s0 x5 := State.setFlag_steady h4
  clear_value x5
  extract_lets +onlyGivenNames -merge x6
  have h6 : Steady s0 x6 := forAll_steady (fun t7 t8 ht8 => State.setFlag_steady ht8) h5
  clear_value x6
  extract_lets +onlyGivenNames -merge x9
  have h9 : Steady s0 x9 := by
    unfold x9
    refine forAll_steady (fun t10 t11 ht11 => State.senseAgain_steady ht11) ?_
    refine State.limAll_steady ?_
    refine State.routeWatch_steady ?_
    refine State.loadIsland_steady ?_
    exact State.pinContexts_steady (State.freshBlocks_steady (State.loadRegisters_steady h6))
  clear_value x9
  exact State.setFlag_steady (State.setReg_steady h9)

theorem State.rejectLoad_steady {s0 s : State} {n} (hs : Steady s0 s) :
    Steady s0 (State.rejectLoad s n) := by
  delta State.rejectLoad
  extract_lets +onlyGivenNames -merge x1 x2
  have h2 : Steady s0 x2 := State.takeSlot_steady hs
  clear_value x2
  extract_lets +onlyGivenNames -merge x3 x4
  have h4 : Steady s0 x4 := Steady.same h2 rfl rfl rfl rfl rfl rfl rfl
  clear_value x4
  extract_lets +onlyGivenNames -merge x5
  have h5 : Steady s0 x5 := State.setFlag_steady h4
  clear_value x5
  extract_lets +onlyGivenNames -merge x6
  have h6 : Steady s0 x6 := by
    unfold x6
    refine forAll_steady ?_ h5
    intro t7 t8 ht8
    exact when_steady (fun t9 ht9 => State.setFlag_steady ht9) (State.setFlag_steady ht8)
  clear_value x6
  exact State.irq_steady (State.pinContexts_steady h6)

theorem State.loadOrReject_steady {s0 s : State} {n} (hs : Steady s0 s) :
    Steady s0 (State.loadOrReject s n) := by
  delta State.loadOrReject
  extract_lets +onlyGivenNames -merge x1
  exact Steady.ite (State.activate_steady hs) (State.rejectLoad_steady hs)

theorem State.workProfile_wf {s : State} (h : s.banksWf) : Bank.wfParams s.workProfile.params = true :=
  sparseWf_filter paramDefault _ h.2.1

theorem execProfileSelect_steady {s0 : State} {h} {s : State} (hs : Steady s0 s) :
    SteadyRes s0 (execProfileSelect h s) := by
  delta execProfileSelect
  refine State.dispatch_steady hs ?_
  intro t1 ht1
  split
  · exact State.refuse_steady ht1
  · exact State.complete_steady ht1
  · refine Steady.ite (State.complete_steady ht1) ?_
    extract_lets +onlyGivenNames -merge x2
    have h2 : Steady s0 x2 := State.discardStaging_steady ht1
    clear_value x2
    extract_lets +onlyGivenNames -merge x3
    refine Steady.ite ?_ ?_
    · extract_lets +onlyGivenNames -merge x4
      have h4 : Steady s0 x4 := State.chooseParent_steady (State.portEnable_steady (State.activate_steady h2))
      clear_value x4
      exact State.settle_steady (State.complete_steady h4)
    · refine Steady.ite (State.complete_steady h2) ?_
      exact State.settle_steady (State.complete_steady (State.loadOrReject_steady h2))

theorem execProfileStore_steady {s0 : State} {h} {s : State} (hs : Steady s0 s) :
    SteadyRes s0 (execProfileStore h s) := by
  delta execProfileStore
  refine State.dispatch_steady hs ?_
  intro t1 ht1
  split
  · exact State.refuse_steady ht1
  · exact State.complete_steady ht1
  · refine Steady.ite (State.complete_steady ht1) ?_
    exact Steady.ite (State.complete_steady ht1) (Steady.same ht1 rfl rfl rfl rfl rfl rfl rfl)

end Sys2Proof.Machine
end

