-- ==== Sys2Proof/Laws/SteadyCorePairs.lean ====
section
/-! SUPPORT. Machine/CorePairs.lean: what each operation keeps (Laws/Steady.lean). -/

namespace Sys2Proof.Machine

theorem State.abandonSequences_steady {s0 s : State} (hs : Steady s0 s) :
    Steady s0 (State.abandonSequences s) := by
  delta State.abandonSequences
  extract_lets +onlyGivenNames -merge x1
  have h1 : Steady s0 x1 := by
    unfold x1
    refine forAll_steady ?_ hs
    intro t2 t3 ht3
    exact when_steady (fun t4 ht4 => State.setFld_steady (State.setFlag_steady ht4)) ht3
  clear_value x1
  exact State.discardStaging_steady (Steady.same h1 rfl rfl rfl rfl rfl rfl rfl)

theorem State.modCp_steady {s0 s : State} {n f} (hs : Steady s0 s) :
    Steady s0 (State.modCp s n f) := by
  delta State.modCp
  exact Steady.same hs rfl rfl rfl rfl rfl rfl rfl

theorem State.attach_steady {s0 s : State} {n} (hs : Steady s0 s) :
    Steady s0 (State.attach s n) := by
  delta State.attach
  extract_lets +onlyGivenNames -merge x1
  have h1 : Steady s0 x1 := State.modCp_steady (State.setFlag_steady hs)
  clear_value x1
  extract_lets +onlyGivenNames -merge x2
  have h2 : Steady s0 x2 := State.journal_steady h1
  clear_value x2
  refine Steady.ite h2 ?_
  extract_lets +onlyGivenNames -merge x3
  have h3 : Steady s0 x3 := when_steady (fun t4 ht4 => State.setFlag_steady ht4) h2
  clear_value x3
  extract_lets +onlyGivenNames -merge x5
  have h5 : Steady s0 x5 := when_steady (fun t6 ht6 => State.setFld_steady ht6) (State.setFlag_steady h3)
  clear_value x5
  exact Steady.ite (State.islandFault_steady (State.journal_steady h5)) h5

theorem State.throttlePair_steady {s0 s : State} {n} (hs : Steady s0 s) :
    Steady s0 (State.throttlePair s n) := by
  delta State.throttlePair
  refine Steady.ite hs ?_
  extract_lets +onlyGivenNames -merge x1
  exact State.setFlag_steady (State.setFld_steady hs)

theorem State.attachWaiting_steady {s0 s : State} {n} (hs : Steady s0 s) :
    Steady s0 (State.attachWaiting s n) := by
  delta State.attachWaiting
  extract_lets +onlyGivenNames -merge x1
  have h1 : Steady s0 x1 := State.throttlePair_steady hs
  clear_value x1
  exact Steady.ite (State.attach_steady h1) h1

theorem State.classify_steady {s0 s : State} {n cls cause} (hs : Steady s0 s) :
    Steady s0 (State.classify s n cls cause) := by
  delta State.classify
  extract_lets +onlyGivenNames -merge x1
  have h1 : Steady s0 x1 := State.setFld_steady (State.setFld_steady hs)
  clear_value x1
  extract_lets +onlyGivenNames -merge x2
  have h2 : Steady s0 x2 := State.journal_steady h1
  clear_value x2
  extract_lets +onlyGivenNames -merge x3
  have h3 : Steady s0 x3 := State.event_steady h2
  clear_value x3
  exact forAll_steady (fun t4 t5 ht5 => State.setFld_steady ht5) h3

theorem State.dawnStarted_steady {s0 s : State} {n} (hs : Steady s0 s) :
    Steady s0 (State.dawnStarted s n) := by
  delta State.dawnStarted
  extract_lets +onlyGivenNames -merge x1 x2
  have h2 : Steady s0 x2 := Steady.same hs rfl rfl rfl rfl rfl rfl rfl
  clear_value x2
  extract_lets +onlyGivenNames -merge x3
  have h3 : Steady s0 x3 := when_steady (fun t4 ht4 => State.setFlag_steady ht4) h2
  clear_value x3
  refine Steady.ite (State.setFld_steady h3) ?_
  exact Steady.ite (State.setFld_steady h3) (State.setFlag_steady (State.setFld_steady h3))

theorem State.failInFlight_steady {s0 s : State} {pick status} (hs : Steady s0 s) :
    Steady s0 (State.failInFlight s pick status) := by
  delta State.failInFlight
  extract_lets +onlyGivenNames -merge x1 x2 x3
  have h3 : Steady s0 x3 := Steady.same hs rfl rfl rfl rfl rfl rfl rfl
  clear_value x3
  exact forAll_steady (fun t4 t5 ht5 => State.complete_steady ht5) h3

theorem State.hostLost_steady {s0 s : State} (hs : Steady s0 s) :
    Steady s0 (State.hostLost s) := by
  delta State.hostLost
  refine Steady.ite hs ?_
  extract_lets +onlyGivenNames -merge x1 x2
  have h2 : Steady s0 x2 := State.journal_steady (State.setFlag_steady hs)
  clear_value x2
  extract_lets +onlyGivenNames -merge x3
  have h3 : Steady s0 x3 := by
    unfold x3
    refine forAll_steady ?_ h2
    intro t4 t5 ht5
    refine Steady.ite ?_ ht5
    exact Steady.ite (State.beginStop_steady ht5) (Steady.ite (State.axisDisable_steady ht5) ht5)
  clear_value x3
  exact State.settle_steady h3

theorem State.failPair_steady {s0 s : State} {n checker} (hs : Steady s0 s) :
    Steady s0 (State.failPair s n checker) := by
  delta State.failPair
  extract_lets +onlyGivenNames -merge x1
  have h1 : Steady s0 x1 := State.setFlag_steady (State.setFlag_steady (State.setFld_steady hs))
  clear_value x1
  split
  · exact State.setFlag_steady (State.failInFlight_steady h1)
  · exact State.failInFlight_steady (State.abandonSequences_steady h1)
  · exact Steady.ite (State.hostLost_steady h1) h1
  · exact State.islandFault_steady h1

theorem State.restoreIsland_steady {s0 s : State} {copyOk} (hs : Steady s0 s) :
    Steady s0 (State.restoreIsland s copyOk) := by
  delta State.restoreIsland
  exact Steady.ite (Steady.same hs rfl rfl rfl rfl rfl rfl rfl) (State.islandFault_steady hs)

theorem State.selfCheck_steady {s0 s : State} {n silent} (hs : Steady s0 s) :
    Steady s0 (State.selfCheck s n silent) := by
  delta State.selfCheck
  refine Steady.ite ?_ (State.incWrap_steady (State.setFlag_steady hs))
  exact State.failPair_steady (State.classify_steady (State.setFlag_steady hs))

theorem execCheck_steady {s0 : State} {n w silent} {s : State} (hs : Steady s0 s) :
    SteadyRes s0 (execCheck n w silent s) := by
  delta execCheck
  refine SteadyRes.ite (SteadyRes.next (State.regLocked_steady hs)) ?_
  exact SteadyRes.ite (SteadyRes.next (State.selfCheck_steady hs)) (SteadyRes.next hs)

theorem execCheckerSelfCheck_steady {s0 : State} {n silent} {s : State} (hs : Steady s0 s) :
    SteadyRes s0 (execCheckerSelfCheck n silent s) := by
  delta execCheckerSelfCheck
  exact SteadyRes.ite (SteadyRes.next (State.selfCheck_steady hs)) (SteadyRes.next hs)

theorem execClassification_steady {s0 : State} {n primaryOk shadowOk checkerOk} {s : State} (hs : Steady s0 s) :
    SteadyRes s0 (execClassification n primaryOk shadowOk checkerOk s) := by
  delta execClassification
  refine SteadyRes.ite (SteadyRes.next hs) ?_
  refine SteadyRes.ite ?_ ?_
  · extract_lets +onlyGivenNames -merge x1
    extract_lets +onlyGivenNames -merge x2
    refine SteadyRes.ite ?_ ?_
    · exact SteadyRes.next (State.attachWaiting_steady (State.failPair_steady (State.classify_steady hs)))
    · extract_lets +onlyGivenNames -merge x3
      have h3 : Steady s0 x3 := State.modCp_steady hs
      clear_value x3
      extract_lets +onlyGivenNames -merge x4 x5
      have h5 : Steady s0 x5 := State.setFld_steady (State.incSat_steady h3)
      clear_value x5
      extract_lets +onlyGivenNames -merge x6
      have h6 : Steady s0 x6 := when_steady (fun t7 ht7 => State.setFld_steady ht7) h5
      clear_value x6
      extract_lets +onlyGivenNames -merge x8
      have h8 : Steady s0 x8 := State.setFld_steady (State.classify_steady h6)
      clear_value x8
      extract_lets +onlyGivenNames -merge x9
      have h9 : Steady s0 x9 := when_steady (fun t10 ht10 => State.failInFlight_steady ht10) h8
      clear_value x9
      extract_lets +onlyGivenNames -merge x11
      have h11 : Steady s0 x11 := when_steady (fun t12 ht12 => State.abandonSequences_steady ht12) h9
      clear_value x11
      exact SteadyRes.next (State.attachWaiting_steady h11)
  · extract_lets +onlyGivenNames -merge x13
    extract_lets +onlyGivenNames -merge x14
    exact SteadyRes.next (State.attachWaiting_steady (State.failPair_steady (State.classify_steady hs)))

theorem execDebugAttach_steady {s0 : State} {n} {s : State} (hs : Steady s0 s) :
    SteadyRes s0 (execDebugAttach n s) := by
  delta execDebugAttach
  refine SteadyRes.ite (SteadyRes.next hs) ?_
  exact SteadyRes.ite (SteadyRes.next (State.modCp_steady hs)) (SteadyRes.next (State.attach_steady hs))

theorem execLockstepMismatch_steady {s0 : State} {n group pc} {s : State} (hs : Steady s0 s) :
    SteadyRes s0 (execLockstepMismatch n group pc s) := by
  delta execLockstepMismatch
  extract_lets +onlyGivenNames -merge x1
  refine SteadyRes.ite ?_ (SteadyRes.next hs)
  extract_lets +onlyGivenNames -merge x2
  have h2 : Steady s0 x2 := State.setReg_steady (State.setFld_steady hs)
  clear_value x2
  refine SteadyRes.ite ?_ ?_
  · exact SteadyRes.next (State.attachWaiting_steady (State.failPair_steady (State.classify_steady h2)))
  · extract_lets +onlyGivenNames -merge x3
    have h3 : Steady s0 x3 := State.startTimer_steady (State.setFlag_steady (State.setFld_steady h2))
    clear_value x3
    extract_lets +onlyGivenNames -merge x4 x5
    have h5 : Steady s0 x5 := when_steady (fun t6 ht6 => State.setFlag_steady ht6) h3
    clear_value x5
    refine SteadyRes.next ?_
    refine when_steady ?_ h5
    intro t7 ht7
    exact State.setFlag_steady (Steady.same ht7 rfl rfl rfl rfl rfl rfl rfl)

theorem execMachineTimer_steady {s0 : State} {n} {s : State} (hs : Steady s0 s) :
    SteadyRes s0 (execMachineTimer n s) := by
  delta execMachineTimer
  exact SteadyRes.next (State.modCp_steady hs)

theorem execMtimeLoRead_steady {s0 s : State} (hs : Steady s0 s) :
    SteadyRes s0 (execMtimeLoRead s) := by
  delta execMtimeLoRead
  exact SteadyRes.next (State.setReg_steady (State.setReg_steady hs))

theorem execParity_steady {s0 : State} {n} {s : State} (hs : Steady s0 s) :
    SteadyRes s0 (execParity n s) := by
  delta execParity
  extract_lets +onlyGivenNames -merge x1
  refine SteadyRes.ite ?_ (SteadyRes.next hs)
  exact SteadyRes.next (State.attachWaiting_steady (State.failPair_steady (State.classify_steady hs)))

theorem execRestartTmo_steady {s0 : State} {n} {s : State} (hs : Steady s0 s) :
    SteadyRes s0 (execRestartTmo n s) := by
  delta execRestartTmo
  refine SteadyRes.ite ?_ (SteadyRes.next hs)
  exact SteadyRes.next (State.failPair_steady (State.classify_steady hs))

theorem execStarted_steady {s0 : State} {n w copyOk} {s : State} (hs : Steady s0 s) :
    SteadyRes s0 (execStarted n w copyOk s) := by
  delta execStarted
  refine SteadyRes.ite (SteadyRes.next (State.regLocked_steady hs)) ?_
  refine SteadyRes.ite (SteadyRes.next hs) ?_
  refine SteadyRes.ite ?_ ?_
  · extract_lets +onlyGivenNames -merge x1
    have h1 : Steady s0 x1 := State.setFlag_steady (State.setFld_steady hs)
    clear_value x1
    extract_lets +onlyGivenNames -merge x2
    have h2 : Steady s0 x2 := when_steady (fun t3 ht3 => State.setFlag_steady ht3) h1
    clear_value x2
    exact SteadyRes.next (when_steady (fun t4 ht4 => State.restoreIsland_steady ht4) h2)
  · refine SteadyRes.ite (SteadyRes.next (State.dawnStarted_steady hs)) ?_
    refine SteadyRes.ite ?_ (SteadyRes.next hs)
    exact SteadyRes.next (State.restoreIsland_steady (State.setFlag_steady hs))

theorem execTcmDue_steady {s0 : State} {n half} {s : State} (hs : Steady s0 s) :
    SteadyRes s0 (execTcmDue n half s) := by
  delta execTcmDue
  extract_lets +onlyGivenNames -merge x1
  refine SteadyRes.ite ?_ ?_
  · extract_lets +onlyGivenNames -merge x2
    have h2 : Steady s0 x2 := State.modCp_steady hs
    clear_value x2
    refine SteadyRes.ite ?_ (SteadyRes.next (State.classify_steady h2))
    exact SteadyRes.next (State.failPair_steady (State.classify_steady h2))
  · refine SteadyRes.ite ?_ (SteadyRes.next hs)
    exact SteadyRes.next (State.failPair_steady (State.classify_steady hs))

end Sys2Proof.Machine
end

