-- ==== Sys2Proof/Laws/SteadyJournal.lean ====
section
/-! SUPPORT. Machine/Journal.lean: what each operation keeps (Laws/Steady.lean). -/

namespace Sys2Proof.Machine

theorem State.reportLost_steady {s0 s : State} (hs : Steady s0 s) :
    Steady s0 (State.reportLost s) := by
  delta State.reportLost
  refine Steady.ite hs ?_
  extract_lets +onlyGivenNames -merge x1
  exact State.journal_steady (Steady.same hs rfl rfl rfl rfl rfl rfl rfl)

theorem State.journalOut_steady {s0 s : State} (hs : Steady s0 s) :
    Steady s0 (State.journalOut s) := by
  delta State.journalOut
  refine Steady.ite hs ?_
  split
  · exact hs
  · extract_lets +onlyGivenNames -merge x1
    extract_lets +onlyGivenNames -merge x2 x3
    have h3 : Steady s0 x3 := Steady.same hs rfl rfl rfl rfl rfl rfl rfl
    clear_value x3
    extract_lets +onlyGivenNames -merge x4
    have h4 : Steady s0 x4 := State.setFld_steady (State.setReg_steady h3)
    clear_value x4
    extract_lets +onlyGivenNames -merge x5
    have h5 : Steady s0 x5 := State.reportLost_steady h4
    clear_value x5
    exact State.event_steady (State.setIrq_steady h5)

theorem State.journalFlush_steady {s0 s : State} (hs : Steady s0 s) :
    Steady s0 (State.journalFlush s) := by
  delta State.journalFlush
  exact foldl_steady (fun t1 t2 ht1 => State.journalOut_steady ht1) hs

theorem execJournalWrite_steady {s0 s : State} (hs : Steady s0 s) :
    SteadyRes s0 (execJournalWrite s) := by
  delta execJournalWrite
  exact SteadyRes.ite (SteadyRes.next hs) (SteadyRes.next (State.journalOut_steady hs))

end Sys2Proof.Machine
end

