-- ==== Sys2Proof/Laws/SteadyReset.lean ====
section
/-! SUPPORT. Machine/Reset.lean: what each operation keeps (Laws/Steady.lean). -/

namespace Sys2Proof.Machine

theorem State.awaitSupply_steady {s0 s : State} (hs : Steady s0 s) :
    Steady s0 (State.awaitSupply s) := by
  delta State.awaitSupply
  extract_lets +onlyGivenNames -merge x1
  have h1 : Steady s0 x1 := State.setFld_steady hs
  clear_value x1
  exact Steady.same h1 rfl rfl rfl rfl rfl rfl rfl

theorem State.breakFlash_steady {s0 s : State} (h : Steady s0 s) : Steady s0 s.breakFlash := by
  delta State.breakFlash
  extract_lets +onlyGivenNames -merge x1 y1 x2 spoil x3
  have h2 : Steady s0 x2 := Steady.ite (h.same rfl rfl rfl rfl rfl rfl rfl) h
  clear_value x2
  have hs (n : Fin 4) (t : State) (ht : Steady s0 t) : Steady s0 (spoil n t) := by
    unfold spoil
    have hf := SteadyOut.snd (State.freeBool_steady ht)
    exact Steady.ite (State.setSlot_steady hf fun hb => hb.2.2.2.1 _) hf
  clear_value spoil
  have h3 : Steady s0 x3 := by
    unfold x3
    split
    · exact hs _ _ h2
    · exact h2
  clear_value x3
  split
  · exact Steady.ite (hs _ _ h3) h3
  · exact h3

theorem State.countTrip_steady {s0 s : State} {supplies} (hs : Steady s0 s) :
    Steady s0 (State.countTrip s supplies) := by
  delta State.countTrip
  extract_lets +onlyGivenNames -merge x1
  have h1 : Steady s0 x1 := State.setFld_steady (State.incSat_steady hs)
  clear_value x1
  exact State.journal_steady h1

/-- After reset every gate is commanded off. -/
theorem State.reset_gate (n : Fin 28) : State.reset.gc[n].cmd = false := by simp [State.reset, GateChan.reset]

theorem State.deviceReset_steady {s0 s : State} (h : Steady s0 s) : Steady s0 s.deviceReset := by
  delta State.deviceReset
  extract_lets +onlyGivenNames -merge r y1 y2 y3 t
  have ht : Steady s0 t :=
    ⟨fun hb => ⟨rfl, (h.1 hb).2.2.1, (h.1 hb).2.2.1, (h.1 hb).2.2.2.1, rfl⟩, fun _ x k hb =>
      absurd ((State.reset_gate (hiChan x k)).symm.trans hb.1) Bool.false_ne_true, h.2.2⟩
  clear_value t
  exact State.setFld_steady (forAll_steady (fun f u hu => State.setFld_steady hu) ht)

theorem State.startWakeTimer_steady {s0 s : State} (hs : Steady s0 s) :
    Steady s0 (State.startWakeTimer s) := by
  delta State.startWakeTimer
  extract_lets +onlyGivenNames -merge x1 x2
  have h2 : Steady s0 x2 := State.setFld_steady (State.setFlag_steady hs)
  exact Steady.same h2 rfl rfl rfl rfl rfl rfl rfl

theorem State.wake_steady {s0 s : State} {source} (hs : Steady s0 s) :
    Steady s0 (State.wake s source) := by
  delta State.wake
  extract_lets +onlyGivenNames -merge x1 x2
  have h2 : Steady s0 x2 := State.setReg_steady (State.setFld_steady hs)
  clear_value x2
  extract_lets +onlyGivenNames -merge x3
  have h3 : Steady s0 x3 := State.setFld_steady h2
  clear_value x3
  exact Steady.same h3 rfl rfl rfl rfl rfl rfl rfl

theorem State.enterNight_steady {s0 s : State} {onVbat dusk} (hs : Steady s0 s) :
    Steady s0 (State.enterNight s onVbat dusk) := by
  delta State.enterNight
  extract_lets +onlyGivenNames -merge x1
  have h1 : Steady s0 x1 := State.deviceReset_steady hs
  clear_value x1
  refine Steady.ite (State.awaitSupply_steady h1) ?_
  extract_lets +onlyGivenNames -merge x2
  have h2 : Steady s0 x2 := State.setFlag_steady (State.setFld_steady h1)
  clear_value x2
  extract_lets +onlyGivenNames -merge x3
  have h3 : Steady s0 x3 := State.startWakeTimer_steady (State.setFlag_steady h2)
  clear_value x3
  extract_lets +onlyGivenNames -merge x4 x5
  have h5 : Steady s0 x5 := Steady.same h3 rfl rfl rfl rfl rfl rfl rfl
  clear_value x5
  split
  · exact State.wake_steady h5
  · exact h5

theorem State.linkOff_steady {s0 s : State} (hs : Steady s0 s) :
    Steady s0 (State.linkOff s) := by
  delta State.linkOff
  exact State.setFld_steady (State.setFld_steady (State.setFlag_steady hs))

theorem State.loseNight_steady {s0 s : State} (hs : Steady s0 s) :
    Steady s0 (State.loseNight s) := by
  delta State.loseNight
  extract_lets +onlyGivenNames -merge x1
  have h1 : Steady s0 x1 := forAll_steady (fun t2 t3 ht3 => State.setReg_steady ht3) hs
  clear_value x1
  extract_lets +onlyGivenNames -merge x4 x5
  have h5 : Steady s0 x5 := Steady.same h1 rfl rfl rfl rfl rfl rfl rfl
  clear_value x5
  exact Steady.ite (State.awaitSupply_steady h5) h5

theorem State.nightAgain_steady {s0 s : State} {vinPresent} (hs : Steady s0 s) :
    Steady s0 (State.nightAgain s vinPresent) := by
  delta State.nightAgain
  refine Steady.ite (State.awaitSupply_steady hs) ?_
  extract_lets +onlyGivenNames -merge x1 x2
  have h2 : Steady s0 x2 := Steady.same hs rfl rfl rfl rfl rfl rfl rfl
  clear_value x2
  split
  · exact State.wake_steady h2
  · exact h2

theorem State.pcieLost_steady {s0 s : State} (hs : Steady s0 s) :
    Steady s0 (State.pcieLost s) := by
  delta State.pcieLost
  exact Steady.ite hs (State.hostLost_steady hs)

theorem State.requestReset_steady {s0 s : State} {cause} (hs : Steady s0 s) :
    Steady s0 (State.requestReset s cause) := by
  delta State.requestReset
  exact Steady.same hs rfl rfl rfl rfl rfl rfl rfl

theorem State.startDawn_steady {s0 s : State} {cause} (hs : Steady s0 s) :
    Steady s0 (State.startDawn s cause) := by
  delta State.startDawn
  extract_lets +onlyGivenNames -merge x1 x2
  have h2 : Steady s0 x2 := Steady.same hs rfl rfl rfl rfl rfl rfl rfl
  clear_value x2
  extract_lets +onlyGivenNames -merge x3
  have h3 : Steady s0 x3 := State.setFld_steady h2
  clear_value x3
  extract_lets +onlyGivenNames -merge x4
  have h4 : Steady s0 x4 := State.setFld_steady (State.setFlag_steady h3)
  clear_value x4
  extract_lets +onlyGivenNames -merge x5
  have h5 : Steady s0 x5 := State.setReg_steady (State.setReg_steady h4)
  clear_value x5
  extract_lets +onlyGivenNames -merge x6
  have h6 : Steady s0 x6 := State.setFlag_steady h5
  clear_value x6
  exact when_steady (fun t7 ht7 => State.say_steady ht7) h6

theorem State.resetNow_steady {s0 s : State} {cause} (hs : Steady s0 s) :
    Steady s0 (State.resetNow s cause) := by
  delta State.resetNow
  extract_lets +onlyGivenNames -merge x1
  have h1 : Steady s0 x1 := State.deviceReset_steady (State.journal_steady hs)
  clear_value x1
  exact Steady.ite (State.startDawn_steady h1) (Steady.same h1 rfl rfl rfl rfl rfl rfl rfl)

theorem State.resetRings_steady {s0 s : State} (hs : Steady s0 s) :
    Steady s0 (State.resetRings s) := by
  delta State.resetRings
  extract_lets +onlyGivenNames -merge x1
  have h1 : Steady s0 x1 := forAll_steady (fun t2 t3 ht3 => forAll_steady (fun t4 t5 ht5 => State.setReg_steady ht5) ht3) hs
  clear_value x1
  extract_lets +onlyGivenNames -merge x6
  have h6 : Steady s0 x6 := by
    unfold x6
    refine forAll_steady ?_ h1
    intro t7 t8 ht8
    exact forAll_steady (fun t9 t10 ht10 => State.setReg_steady ht10) ht8
  clear_value x6
  extract_lets +onlyGivenNames -merge x11
  have h11 : Steady s0 x11 := State.putFwq_steady (State.setReg_steady h6)
  clear_value x11
  exact Steady.same h11 rfl rfl rfl rfl rfl rfl rfl

theorem State.wakeOrLatch_steady {s0 s : State} {source} (hs : Steady s0 s) :
    Steady s0 (State.wakeOrLatch s source) := by
  delta State.wakeOrLatch
  exact Steady.ite (Steady.same hs rfl rfl rfl rfl rfl rfl rfl) (Steady.ite (State.wake_steady hs) hs)

theorem execDeepNightEntry_steady {s0 s : State} (hs : Steady s0 s) :
    SteadyRes s0 (execDeepNightEntry s) := by
  delta execDeepNightEntry
  refine SteadyRes.ite ?_ (SteadyRes.next hs)
  extract_lets +onlyGivenNames -merge x1
  have h1 : Steady s0 x1 := State.setFlag_steady (State.setFlag_steady hs)
  clear_value x1
  exact SteadyRes.next (State.setFld_steady (State.setReg_steady h1))

theorem execDeviceReset_steady {s0 : State} {h key} {s : State} (hs : Steady s0 s) :
    SteadyRes s0 (execDeviceReset h key s) := by
  delta execDeviceReset
  refine State.dispatch_steady hs ?_
  intro t1 ht1
  refine Steady.ite (State.complete_steady ht1) ?_
  exact Steady.ite (State.complete_steady ht1) (State.requestReset_steady (State.complete_steady ht1))

theorem execFunctionLevelReset_steady {s0 s : State} (hs : Steady s0 s) :
    SteadyRes s0 (execFunctionLevelReset s) := by
  delta execFunctionLevelReset
  refine SteadyRes.ite ?_ (SteadyRes.next hs)
  exact SteadyRes.next (State.requestReset_steady (State.pcieLost_steady (State.linkOff_steady hs)))

theorem execLinkDown_steady {s0 s : State} (hs : Steady s0 s) :
    SteadyRes s0 (execLinkDown s) := by
  delta execLinkDown
  exact SteadyRes.next (Steady.ite (State.pcieLost_steady (State.linkOff_steady hs)) hs)

theorem execLinkUp_steady {s0 : State} {speed width} {s : State} (hs : Steady s0 s) :
    SteadyRes s0 (execLinkUp speed width s) := by
  delta execLinkUp
  refine SteadyRes.ite ?_ (SteadyRes.next hs)
  exact SteadyRes.next (State.setFld_steady (State.setFld_steady (State.setFlag_steady hs)))

theorem execLockoutFlushEnd_steady {s0 : State} {vinPresent} {s : State} (hs : Steady s0 s) :
    SteadyRes s0 (execLockoutFlushEnd vinPresent s) := by
  delta execLockoutFlushEnd
  refine SteadyRes.ite (SteadyRes.next hs) ?_
  extract_lets +onlyGivenNames -merge x1
  have h1 : Steady s0 x1 := State.journalFlush_steady hs
  clear_value x1
  extract_lets +onlyGivenNames -merge x2 x3
  have h3 : Steady s0 x3 := Steady.same h1 rfl rfl rfl rfl rfl rfl rfl
  clear_value x3
  refine SteadyRes.ite (SteadyRes.next (State.nightAgain_steady h3)) ?_
  refine SteadyRes.ite ?_ (SteadyRes.next (State.enterNight_steady h3))
  exact SteadyRes.next (Steady.same h3 rfl rfl rfl rfl rfl rfl rfl)

theorem execLockoutRelease_steady {s0 s : State} (hs : Steady s0 s) :
    SteadyRes s0 (execLockoutRelease s) := by
  delta execLockoutRelease
  refine SteadyRes.ite (SteadyRes.next hs) ?_
  extract_lets +onlyGivenNames -merge x1 x2
  have h2 : Steady s0 x2 := Steady.same hs rfl rfl rfl rfl rfl rfl rfl
  clear_value x2
  exact SteadyRes.next (Steady.ite h2 (State.startDawn_steady h2))

theorem execLockoutTrip_steady {s0 : State} {supplies vinPresent} {s : State} (hs : Steady s0 s) :
    SteadyRes s0 (execLockoutTrip supplies vinPresent s) := by
  delta execLockoutTrip
  extract_lets +onlyGivenNames -merge x1 x2
  have h2 : Steady s0 x2 := Steady.same hs rfl rfl rfl rfl rfl rfl rfl
  clear_value x2
  split
  · refine SteadyRes.ite ?_ (SteadyRes.next h2)
    extract_lets +onlyGivenNames -merge x3
    have h3 : Steady s0 x3 := State.countTrip_steady h2
    clear_value x3
    exact SteadyRes.next (Steady.same h3 rfl rfl rfl rfl rfl rfl rfl)
  · exact SteadyRes.next h2
  · extract_lets +onlyGivenNames -merge x4
    have h4 : Steady s0 x4 := State.deviceReset_steady (State.breakFlash_steady (State.countTrip_steady h2))
    clear_value x4
    exact SteadyRes.next (Steady.same h4 rfl rfl rfl rfl rfl rfl rfl)

theorem execNightDomainLoss_steady {s0 : State} {vbat} {s : State} (hs : Steady s0 s) :
    SteadyRes s0 (execNightDomainLoss vbat s) := by
  delta execNightDomainLoss
  refine SteadyRes.ite (SteadyRes.next hs) ?_
  refine SteadyRes.ite (SteadyRes.next (State.loseNight_steady hs)) ?_
  extract_lets +onlyGivenNames -merge x1
  have h1 : SteadyOut s0 x1 := State.freeBool_steady hs
  clear_value x1
  exact SteadyRes.next (Steady.ite (State.loseNight_steady (SteadyOut.snd h1)) (SteadyOut.snd h1))

theorem execPerstNAssert_steady {s0 s : State} (hs : Steady s0 s) :
    SteadyRes s0 (execPerstNAssert s) := by
  delta execPerstNAssert
  extract_lets +onlyGivenNames -merge x1 x2
  have h2 : Steady s0 x2 := Steady.same hs rfl rfl rfl rfl rfl rfl rfl
  clear_value x2
  refine SteadyRes.next ?_
  exact Steady.ite (State.pcieLost_steady (State.linkOff_steady (State.resetRings_steady h2))) h2

theorem execPerstNRelease_steady {s0 s : State} (hs : Steady s0 s) :
    SteadyRes s0 (execPerstNRelease s) := by
  delta execPerstNRelease
  exact SteadyRes.next (Steady.same hs rfl rfl rfl rfl rfl rfl rfl)

theorem execResetNAssert_steady {s0 s : State} (hs : Steady s0 s) :
    SteadyRes s0 (execResetNAssert s) := by
  delta execResetNAssert
  extract_lets +onlyGivenNames -merge x1 x2 x3 x4
  have h4 : Steady s0 x4 := Steady.same hs rfl rfl rfl rfl rfl rfl rfl
  clear_value x4
  exact SteadyRes.next (Steady.ite (State.resetNow_steady h4) h4)

theorem execResetNRelease_steady {s0 s : State} (hs : Steady s0 s) :
    SteadyRes s0 (execResetNRelease s) := by
  delta execResetNRelease
  extract_lets +onlyGivenNames -merge x1 x2
  have h2 : Steady s0 x2 := Steady.same hs rfl rfl rfl rfl rfl rfl rfl
  clear_value x2
  exact SteadyRes.next (Steady.ite (State.startDawn_steady h2) h2)

theorem execResetStart_steady {s0 s : State} (hs : Steady s0 s) :
    SteadyRes s0 (execResetStart s) := by
  delta execResetStart
  split
  · exact SteadyRes.next (Steady.ite (State.resetNow_steady hs) hs)
  · exact SteadyRes.next hs

theorem execSysReset_steady {s0 : State} {w value} {s : State} (hs : Steady s0 s) :
    SteadyRes s0 (execSysReset w value s) := by
  delta execSysReset
  refine State.access_steady hs ?_
  intro t1 ht1
  refine Steady.ite (State.regLocked_steady ht1) ?_
  exact Steady.ite (State.setFld_steady ht1) (State.requestReset_steady ht1)

theorem execVbatCheck_steady {s0 : State} {vbat} {s : State} (hs : Steady s0 s) :
    SteadyRes s0 (execVbatCheck vbat s) := by
  delta execVbatCheck
  extract_lets +onlyGivenNames -merge x1 x2 x3 x4
  have h4 : Steady s0 x4 := Steady.same hs rfl rfl rfl rfl rfl rfl rfl
  clear_value x4
  exact SteadyRes.ite (SteadyRes.next h4) (SteadyRes.next (State.setFlag_steady h4))

theorem execVinReturn_steady {s0 s : State} (hs : Steady s0 s) :
    SteadyRes s0 (execVinReturn s) := by
  delta execVinReturn
  extract_lets +onlyGivenNames -merge x1 x2
  have h2 : Steady s0 x2 := Steady.same hs rfl rfl rfl rfl rfl rfl rfl
  clear_value x2
  refine SteadyRes.ite (SteadyRes.next h2) ?_
  refine SteadyRes.ite (SteadyRes.next h2) ?_
  refine SteadyRes.ite (SteadyRes.next (State.wake_steady h2)) ?_
  extract_lets +onlyGivenNames -merge x3 x4
  have h4 : Steady s0 x4 := when_steady (fun t5 ht5 => State.startWakeTimer_steady ht5) (State.setFld_steady h2)
  clear_value x4
  exact SteadyRes.next (Steady.same h4 rfl rfl rfl rfl rfl rfl rfl)

theorem execWakeN_steady {s0 : State} {samples lowUs} {s : State} (hs : Steady s0 s) :
    SteadyRes s0 (execWakeN samples lowUs s) := by
  delta execWakeN
  refine SteadyRes.ite ?_ ?_
  · refine SteadyRes.ite (SteadyRes.next (State.wake_steady hs)) ?_
    refine SteadyRes.ite (SteadyRes.next hs) ?_
    extract_lets +onlyGivenNames -merge x1
    have h1 : SteadyOut s0 x1 := State.freeBool_steady hs
    clear_value x1
    exact SteadyRes.next (Steady.ite (State.wake_steady (SteadyOut.snd h1)) (SteadyOut.snd h1))
  · exact SteadyRes.ite (SteadyRes.next (State.wakeOrLatch_steady hs)) (SteadyRes.next hs)

theorem execWakeTimer_steady {s0 s : State} (hs : Steady s0 s) :
    SteadyRes s0 (execWakeTimer s) := by
  delta execWakeTimer
  exact SteadyRes.ite (SteadyRes.next (State.wakeOrLatch_steady hs)) (SteadyRes.next hs)

end Sys2Proof.Machine
end

