-- ==== Sys2Proof/Laws/SteadyDawn.lean ====
section
/-! SUPPORT. Machine/Dawn.lean: what each operation keeps (Laws/Steady.lean). -/

namespace Sys2Proof.Machine

theorem State.pairFailed_steady {s0 s : State} {n} (hs : Steady s0 s) :
    Steady s0 (State.pairFailed s n) := by
  delta State.pairFailed
  extract_lets +onlyGivenNames -merge x1
  have h1 : Steady s0 x1 := State.setFld_steady hs
  clear_value x1
  exact State.setFlag_steady (State.setFld_steady h1)

theorem State.setUnavailable_steady {s0 s : State} {x} (hs : Steady s0 s) :
    Steady s0 (State.setUnavailable s x) := by
  delta State.setUnavailable
  exact State.setFld_steady hs

theorem State.bistMark_steady {s0 s : State} {x} (hs : Steady s0 s) :
    Steady s0 (State.bistMark s x) := by
  delta State.bistMark
  split
  · exact State.pairFailed_steady hs
  · exact State.pairFailed_steady hs
  · exact State.setFlag_steady (State.setFlag_steady hs)
  · exact State.setFld_steady hs
  · exact State.setFlag_steady (State.setFld_steady hs)
  · exact State.setFld_steady (State.setFld_steady hs)
  · exact State.setFld_steady hs
  · exact State.setUnavailable_steady (State.setFld_steady hs)
  · exact State.setUnavailable_steady hs
  · exact State.setUnavailable_steady hs
  · exact hs

theorem State.dawnUnit_steady {s0 s : State} {unit} (hs : Steady s0 s) :
    Steady s0 (State.dawnUnit s unit) := by
  delta State.dawnUnit
  exact State.journal_steady (State.setFlag_steady hs)

theorem State.bistFail_steady {s0 s : State} {u} (hs : Steady s0 s) :
    Steady s0 (State.bistFail s u) := by
  delta State.bistFail
  extract_lets +onlyGivenNames -merge x1
  have h1 : Steady s0 x1 := State.bistMark_steady hs
  clear_value x1
  exact Steady.ite h1 (State.dawnUnit_steady h1)

theorem State.dawnEntry_steady {s0 s : State} (hs : Steady s0 s) :
    Steady s0 (State.dawnEntry s) := by
  delta State.dawnEntry
  exact State.journal_steady hs

theorem State.dawnFail_steady {s0 s : State} {cause unit} (hs : Steady s0 s) :
    Steady s0 (State.dawnFail s cause unit) := by
  delta State.dawnFail
  extract_lets +onlyGivenNames -merge x1
  have h1 : Steady s0 x1 := when_steady (fun t2 ht2 => State.dawnEntry_steady ht2) hs
  clear_value x1
  extract_lets +onlyGivenNames -merge x3
  have h3 : Steady s0 x3 := State.setFlag_steady (State.setFld_steady (State.setFld_steady h1))
  clear_value x3
  extract_lets +onlyGivenNames -merge x4
  have h4 : Steady s0 x4 := when_steady (fun t5 ht5 => State.journal_steady ht5) h3
  clear_value x4
  exact State.settle_steady (State.say_steady h4)

theorem State.endFlash_steady {s0 s : State} (h : Steady s0 s) : Steady s0 s.endFlash := by
  delta State.endFlash
  extract_lets +onlyGivenNames x1
  have h1 : Steady s0 x1 := by
    unfold x1
    split
    · exact State.setSlot_steady h State.workProfile_wf
    · exact h
  clear_value x1
  exact State.setRecord_steady h1 fun hb => sparseWf_filter paramDefault _ hb.2.1

theorem State.enterDusk_steady {s0 s : State} (hs : Steady s0 s) :
    Steady s0 (State.enterDusk s) := by
  delta State.enterDusk
  extract_lets +onlyGivenNames -merge x1
  have h1 : Steady s0 x1 := State.startTimer_steady (State.setMode_steady (State.reqRes_steady hs))
  clear_value x1
  refine State.settle_steady ?_
  exact forAll_steady (fun t2 t3 ht3 => when_steady (fun t4 ht4 => State.stopNow_steady ht4) ht3) h1

theorem State.modeReq_steady {s0 s : State} {w code} {f : State → State} (hs : Steady s0 s) (hf : ∀ t0, Steady s0 t0 → Steady s0 (f t0)) :
    SteadyRes s0 (State.modeReq s w code f) := by
  delta State.modeReq
  exact State.access_steady hs (fun t1 ht1 => hf _ ht1)

theorem State.nextRefresh_steady {s0 s : State} (hs : Steady s0 s) :
    Steady s0 (State.nextRefresh s) := by
  delta State.nextRefresh
  refine Steady.ite hs ?_
  split
  · extract_lets +onlyGivenNames -merge x1
    exact Steady.same hs rfl rfl rfl rfl rfl rfl rfl
  · exact hs

theorem State.reach_steady {s0 s : State} {k} (hs : Steady s0 s) :
    Steady s0 (State.reach s k) := by
  delta State.reach
  exact State.setFld_steady hs

theorem State.refreshCheck_steady {s0 s : State} (hs : Steady s0 s) :
    Steady s0 (State.refreshCheck s) := by
  delta State.refreshCheck
  refine Steady.ite hs ?_
  refine Steady.ite ?_ ?_
  · exact State.nextRefresh_steady (Steady.same hs rfl rfl rfl rfl rfl rfl rfl)
  · exact State.nextRefresh_steady (Steady.same hs rfl rfl rfl rfl rfl rfl rfl)

theorem State.requestDusk_steady {s0 s : State} {console} (hs : Steady s0 s) :
    Steady s0 (State.requestDusk s console) := by
  delta State.requestDusk
  exact Steady.ite hs (Steady.ite (State.enterDusk_steady hs) (State.reqRes_steady hs))

theorem State.requestLeave_steady {s0 s : State} (hs : Steady s0 s) :
    Steady s0 (State.requestLeave s) := by
  delta State.requestLeave
  refine Steady.ite ?_ (State.reqRes_steady hs)
  exact State.settle_steady (State.leaveService_steady (State.reqRes_steady hs))

theorem State.requestService_steady {s0 s : State} (hs : Steady s0 s) :
    Steady s0 (State.requestService s) := by
  delta State.requestService
  extract_lets +onlyGivenNames -merge x1
  refine Steady.ite ?_ (State.reqRes_steady hs)
  exact State.settle_steady (State.startTimer_steady (State.setMode_steady (State.reqRes_steady hs)))

theorem State.stoTestPassed_steady {s0 s : State} (hs : Steady s0 s) :
    Steady s0 (State.stoTestPassed s) := by
  delta State.stoTestPassed
  refine Steady.ite hs ?_
  extract_lets +onlyGivenNames -merge x1
  have h1 : Steady s0 x1 := State.setFlag_steady (State.setFlag_steady (State.setFld_steady hs))
  clear_value x1
  exact Steady.same h1 rfl rfl rfl rfl rfl rfl rfl

theorem execBistSlotEnd_steady {s0 : State} {slot fails} {s : State} (hs : Steady s0 s) :
    SteadyRes s0 (execBistSlotEnd slot fails s) := by
  delta execBistSlotEnd
  refine SteadyRes.ite (SteadyRes.next hs) ?_
  extract_lets +onlyGivenNames -merge x1 x2 x3
  have h3 : Steady s0 x3 := Steady.ite (Steady.same hs rfl rfl rfl rfl rfl rfl rfl) hs
  clear_value x3
  extract_lets +onlyGivenNames -merge x4
  have h4 : Steady s0 x4 := forAll_steady (fun t5 t6 ht6 => State.bistFail_steady ht6) h3
  clear_value x4
  split
  · exact SteadyRes.next (State.dawnFail_steady h4)
  · extract_lets +onlyGivenNames -merge x7
    extract_lets +onlyGivenNames -merge x8
    have h8 : Steady s0 x8 := Steady.ite (Steady.same h4 rfl rfl rfl rfl rfl rfl rfl) h4
    clear_value x8
    exact SteadyRes.next (State.settle_steady (State.reach_steady h8))

theorem execBootSectionComplete_steady {s0 : State} {n} {s : State} (hs : Steady s0 s) :
    SteadyRes s0 (execBootSectionComplete n s) := by
  delta execBootSectionComplete
  exact SteadyRes.ite (SteadyRes.next (Steady.same hs rfl rfl rfl rfl rfl rfl rfl)) (SteadyRes.next hs)

theorem execDeferredSetStoTest_steady {s0 : State} {x gateFail} {s : State} (hs : Steady s0 s) :
    SteadyRes s0 (execDeferredSetStoTest x gateFail s) := by
  delta execDeferredSetStoTest
  refine SteadyRes.ite (SteadyRes.next hs) ?_
  split
  · exact SteadyRes.next (State.settle_steady (State.stoPath_steady hs))
  · extract_lets +onlyGivenNames -merge x1
    refine SteadyRes.next ?_
    exact State.settle_steady (State.stoTestPassed_steady (Steady.same hs rfl rfl rfl rfl rfl rfl rfl))

theorem execDeferredStoTest_steady {s0 : State} {inputFail} {s : State} (hs : Steady s0 s) :
    SteadyRes s0 (execDeferredStoTest inputFail s) := by
  delta execDeferredStoTest
  refine SteadyRes.ite (SteadyRes.next hs) ?_
  split
  · exact SteadyRes.next (State.settle_steady (State.stoPath_steady hs))
  · refine SteadyRes.next ?_
    exact State.settle_steady (State.stoTestPassed_steady (Steady.same hs rfl rfl rfl rfl rfl rfl rfl))

theorem execDuskFlushDone_steady {s0 s : State} (hs : Steady s0 s) :
    SteadyRes s0 (execDuskFlushDone s) := by
  delta execDuskFlushDone
  refine SteadyRes.ite ?_ (SteadyRes.next hs)
  refine SteadyRes.next ?_
  refine State.enterNight_steady ?_
  exact State.journalFlush_steady (State.journalFw_steady (State.endFlash_steady hs))

theorem execDuskStopMax_steady {s0 s : State} (hs : Steady s0 s) :
    SteadyRes s0 (execDuskStopMax s) := by
  delta execDuskStopMax
  refine SteadyRes.ite ?_ (SteadyRes.next hs)
  refine SteadyRes.next ?_
  exact State.settle_steady (forAll_steady (fun t1 t2 ht2 => State.axisDisable_steady ht2) hs)

theorem execDuskWaitCross_steady {s0 s : State} (hs : Steady s0 s) :
    SteadyRes s0 (execDuskWaitCross s) := by
  delta execDuskWaitCross
  split
  · exact SteadyRes.next (Steady.ite (State.journal_steady hs) hs)
  · exact SteadyRes.next hs

theorem execFlashRefresh_steady {s0 : State} {u} {s : State} (hs : Steady s0 s) :
    SteadyRes s0 (execFlashRefresh u s) := by
  delta execFlashRefresh
  refine SteadyRes.ite (SteadyRes.next hs) ?_
  exact SteadyRes.next (State.nextRefresh_steady (Steady.same hs rfl rfl rfl rfl rfl rfl rfl))

theorem execImageCheckDone_steady {s0 : State} {sigOk headerOk fits svn} {s : State} (hs : Steady s0 s) :
    SteadyRes s0 (execImageCheckDone sigOk headerOk fits svn s) := by
  delta execImageCheckDone
  split
  · exact SteadyRes.next hs
  · refine SteadyRes.ite (SteadyRes.next hs) ?_
    extract_lets +onlyGivenNames -merge x1
    refine SteadyRes.ite ?_ ?_
    · extract_lets +onlyGivenNames -merge x2
      have h2 : Steady s0 x2 := State.setFld_steady (State.setFlag_steady hs)
      clear_value x2
      extract_lets +onlyGivenNames -merge x3 x4 x5
      have h5 : Steady s0 x5 := Steady.same h2 rfl rfl rfl rfl rfl rfl rfl
      clear_value x5
      refine SteadyRes.ite (SteadyRes.next h5) ?_
      extract_lets +onlyGivenNames -merge x6
      have h6 : Steady s0 x6 := State.setFlag_steady h5
      clear_value x6
      exact SteadyRes.next (State.journal_steady h6)
    · extract_lets +onlyGivenNames -merge x7
      have h7 : Steady s0 x7 := State.setFlag_steady hs
      clear_value x7
      refine SteadyRes.ite ?_ ?_
      · exact SteadyRes.next (Steady.same h7 rfl rfl rfl rfl rfl rfl rfl)
      · exact SteadyRes.next (State.dawnFail_steady (Steady.same h7 rfl rfl rfl rfl rfl rfl rfl))

theorem execImageStartDeadline_steady {s0 s : State} (hs : Steady s0 s) :
    SteadyRes s0 (execImageStartDeadline s) := by
  delta execImageStartDeadline
  refine SteadyRes.ite (SteadyRes.next hs) ?_
  extract_lets +onlyGivenNames -merge x1 x2
  have h2 : Steady s0 x2 := forAll_steady (fun t3 t4 ht4 => State.dawnUnit_steady (State.pairFailed_steady ht4)) hs
  clear_value x2
  refine SteadyRes.ite ?_ ?_
  · exact SteadyRes.next (State.dawnFail_steady (State.pairFailed_steady h2))
  · refine SteadyRes.ite ?_ (SteadyRes.next h2)
    exact SteadyRes.next (State.dawnFail_steady (State.pairFailed_steady h2))

theorem execIslandGroupStart_steady {s0 : State} {x up} {s : State} (hs : Steady s0 s) :
    SteadyRes s0 (execIslandGroupStart x up s) := by
  delta execIslandGroupStart
  refine SteadyRes.ite (SteadyRes.next hs) ?_
  extract_lets +onlyGivenNames -merge x1 x2
  have h2 : Steady s0 x2 := Steady.same hs rfl rfl rfl rfl rfl rfl rfl
  clear_value x2
  extract_lets +onlyGivenNames -merge x3
  have h3 : Steady s0 x3 := forAll_steady (fun t4 t5 ht5 => State.setFlag_steady ht5) h2
  clear_value x3
  extract_lets +onlyGivenNames -merge x6 x7
  have h7 : Steady s0 x7 := forAll_steady (fun t8 t9 ht9 => State.modGc_steady ht9 (fun _ h => h)) h3
  clear_value x7
  extract_lets +onlyGivenNames -merge x10
  have h10 : Steady s0 x10 := State.modPsp_steady h7
  clear_value x10
  exact SteadyRes.next (State.settle_steady (State.reach_steady h10))

theorem execIslandGroupTimeout_steady {s0 : State} {x} {s : State} (hs : Steady s0 s) :
    SteadyRes s0 (execIslandGroupTimeout x s) := by
  delta execIslandGroupTimeout
  refine SteadyRes.ite (SteadyRes.next hs) ?_
  split
  · exact SteadyRes.next (State.dawnUnit_steady (State.setUnavailable_steady hs))
  · exact SteadyRes.next hs

theorem execJournalRewrite_steady {s0 s : State} (hs : Steady s0 s) :
    SteadyRes s0 (execJournalRewrite s) := by
  delta execJournalRewrite
  exact SteadyRes.next hs

theorem execModereqDusk_steady {s0 : State} {w} {s : State} (hs : Steady s0 s) :
    SteadyRes s0 (execModereqDusk w s) := by
  delta execModereqDusk
  exact State.modeReq_steady hs (fun t1 ht1 => State.requestDusk_steady ht1)

theorem execModereqServiceEnter_steady {s0 : State} {w} {s : State} (hs : Steady s0 s) :
    SteadyRes s0 (execModereqServiceEnter w s) := by
  delta execModereqServiceEnter
  exact State.modeReq_steady hs (fun t1 ht1 => State.requestService_steady ht1)

theorem execModereqServiceLeave_steady {s0 : State} {w} {s : State} (hs : Steady s0 s) :
    SteadyRes s0 (execModereqServiceLeave w s) := by
  delta execModereqServiceLeave
  exact State.modeReq_steady hs (fun t1 ht1 => State.requestLeave_steady ht1)

theorem execPllLock_steady {s0 : State} {p} {s : State} (hs : Steady s0 s) :
    SteadyRes s0 (execPllLock p s) := by
  delta execPllLock
  refine SteadyRes.ite (SteadyRes.next hs) ?_
  extract_lets +onlyGivenNames -merge x1
  have h1 : Steady s0 x1 := State.setFlag_steady (State.setFlag_steady hs)
  clear_value x1
  extract_lets +onlyGivenNames -merge x2 x3
  have h3 : Steady s0 x3 := Steady.ite (Steady.same h1 rfl rfl rfl rfl rfl rfl rfl) h1
  clear_value x3
  exact SteadyRes.ite (SteadyRes.next (State.reach_steady h3)) (SteadyRes.next h3)

theorem execPllLockTimeout_steady {s0 : State} {p} {s : State} (hs : Steady s0 s) :
    SteadyRes s0 (execPllLockTimeout p s) := by
  delta execPllLockTimeout
  refine SteadyRes.ite (SteadyRes.next hs) ?_
  extract_lets +onlyGivenNames -merge x1
  have h1 : Steady s0 x1 := State.setFlag_steady hs
  clear_value x1
  refine SteadyRes.ite (SteadyRes.next (State.dawnFail_steady h1)) ?_
  exact SteadyRes.next (Steady.same h1 rfl rfl rfl rfl rfl rfl rfl)

theorem execProfileLoad_steady {s0 s : State} (hs : Steady s0 s) :
    SteadyRes s0 (execProfileLoad s) := by
  delta execProfileLoad
  refine SteadyRes.ite (SteadyRes.next hs) ?_
  extract_lets +onlyGivenNames -merge x1
  have h1 : Steady s0 x1 := State.reach_steady hs
  clear_value x1
  extract_lets +onlyGivenNames -merge x2 x3
  have h3 : Steady s0 x3 := Steady.ite (State.rejectLoad_steady h1) (State.loadOrReject_steady h1)
  clear_value x3
  extract_lets +onlyGivenNames -merge x4 x5
  have h5 : Steady s0 x5 := Steady.same h3 rfl rfl rfl rfl rfl rfl rfl
  clear_value x5
  exact SteadyRes.next (State.settle_steady (State.modWft_steady h5))

theorem execRefreshDeferTimeout_steady {s0 s : State} (hs : Steady s0 s) :
    SteadyRes s0 (execRefreshDeferTimeout s) := by
  delta execRefreshDeferTimeout
  refine SteadyRes.ite ?_ (SteadyRes.next hs)
  exact SteadyRes.next (State.nextRefresh_steady (Steady.same hs rfl rfl rfl rfl rfl rfl rfl))

theorem execServiceIdle_steady {s0 s : State} (hs : Steady s0 s) :
    SteadyRes s0 (execServiceIdle s) := by
  delta execServiceIdle
  exact SteadyRes.next (Steady.ite (State.settle_steady (State.leaveService_steady hs)) hs)

theorem execStoPathTest_steady {s0 : State} {gateFail inputFail} {s : State} (hs : Steady s0 s) :
    SteadyRes s0 (execStoPathTest gateFail inputFail s) := by
  delta execStoPathTest
  refine SteadyRes.ite (SteadyRes.next hs) ?_
  extract_lets +onlyGivenNames -merge x1
  have h1 : Steady s0 x1 := State.reach_steady hs
  clear_value x1
  extract_lets +onlyGivenNames -merge x2 x3 x4 x5
  have h5 : Steady s0 x5 := Steady.same h1 rfl rfl rfl rfl rfl rfl rfl
  clear_value x5
  extract_lets +onlyGivenNames -merge x6
  clear_value x6
  split
  · exact SteadyRes.next (State.dawnFail_steady h5)
  · extract_lets +onlyGivenNames -merge x7
    have h7 : Steady s0 x7 := State.setMode_steady (State.reach_steady (State.stoTestPassed_steady h5))
    clear_value x7
    extract_lets +onlyGivenNames -merge x8 x9
    have h9 : Steady s0 x9 := State.chooseParent_steady (State.portEnable_steady (Steady.same h7 rfl rfl rfl rfl rfl rfl rfl))
    clear_value x9
    exact SteadyRes.next (State.settle_steady (State.refreshCheck_steady h9))

theorem execStrapSample_steady {s0 : State} {prof0 prof1 split0 split1 split2} {s : State} (hs : Steady s0 s) :
    SteadyRes s0 (execStrapSample prof0 prof1 split0 split1 split2 s) := by
  delta execStrapSample
  refine SteadyRes.ite (SteadyRes.next hs) ?_
  extract_lets +onlyGivenNames -merge x1 x2 x3 x4
  have h4 : Steady s0 x4 := State.setFld_steady hs
  clear_value x4
  extract_lets +onlyGivenNames -merge x5
  have h5 : Steady s0 x5 := State.reach_steady h4
  clear_value x5
  refine SteadyRes.ite ?_ ?_
  · extract_lets +onlyGivenNames -merge x6
    have h6 : Steady s0 x6 := State.setFld_steady h5
    clear_value x6
    extract_lets +onlyGivenNames -merge x7
    have h7 : Steady s0 x7 := forAll_steady (fun t8 t9 ht9 => State.setFlag_steady ht9) h6
    clear_value x7
    exact SteadyRes.next (State.dawnEntry_steady h7)
  · exact SteadyRes.next (State.dawnFail_steady (State.dawnEntry_steady h5))

end Sys2Proof.Machine
end

