-- ==== Sys2Proof/Laws/SteadyHostCmds.lean ====
section
/-! SUPPORT. Machine/HostCmds.lean: what each operation keeps (Laws/Steady.lean). -/

namespace Sys2Proof.Machine

theorem State.addFlight_steady {s0 s : State} {h op inst} (hs : Steady s0 s) :
    Steady s0 (State.addFlight s h op inst) := by
  delta State.addFlight
  exact Steady.same hs rfl rfl rfl rfl rfl rfl rfl

theorem State.bufWrite_steady {s0 s : State} {h base off w} (hs : Steady s0 s) :
    Steady s0 (State.bufWrite s h base off w) := by
  delta State.bufWrite
  exact Steady.ite (State.sramWrite_steady hs) (Steady.same hs rfl rfl rfl rfl rfl rfl rfl)

theorem State.bufWords_steady {s0 s : State} {h : Desc} {base : BitVec 64} {off : Nat} {l : List Word} (hs : Steady s0 s) :
    Steady s0 (s.bufWords h base off l) := by
  induction l generalizing s off with
  | nil => exact hs
  | cons w r ih => exact ih (State.bufWrite_steady hs)

theorem State.configWord_steady {s0 s : State} {offset} (hs : Steady s0 s) :
    SteadyOut s0 (State.configWord s offset) := by
  delta State.configWord
  exact SteadyOut.ite (SteadyOut.mk hs) (SteadyOut.ite (SteadyOut.mk hs) (State.freeWord_steady hs))

theorem State.dropFlights_steady {s0 s : State} {op pick} (hs : Steady s0 s) :
    Steady s0 (State.dropFlights s op pick) := by
  delta State.dropFlights
  exact Steady.same hs rfl rfl rfl rfl rfl rfl rfl

theorem State.flashEnds_steady {s0 s : State} {op pick ok} (hs : Steady s0 s) :
    Steady s0 (State.flashEnds s op pick ok) := by
  delta State.flashEnds
  extract_lets +onlyGivenNames -merge x1
  refine forAll_steady ?_ (State.dropFlights_steady hs)
  intro t2 t3 ht3
  refine Steady.ite (State.complete_steady ht3) ?_
  extract_lets +onlyGivenNames -merge x4
  have h4 : SteadyOut s0 x4 := State.freeNat_steady ht3
  clear_value x4
  exact State.complete_steady (SteadyOut.snd h4)

theorem State.flashEffect_steady {s0 s : State} {op : FlashOp} {ok : Bool} (h : Steady s0 s) :
    Steady s0 (s.flashEffect op ok) := by
  delta State.flashEffect
  split
  · extract_lets +onlyGivenNames -merge x1 x2 y1 x3
    have h3 : Steady s0 x3 := Steady.ite (h.same rfl rfl rfl rfl rfl rfl rfl) h
    exact State.flashEnds_steady h3
  · extract_lets +onlyGivenNames x1
    have h1 : Steady s0 x1 := Steady.ite (State.setSlot_steady h State.workProfile_wf) h
    exact State.flashEnds_steady h1
  · exact Steady.ite (State.setRecord_steady h fun hb => sparseWf_filter paramDefault _ hb.2.1) h
  · exact Steady.ite (h.same rfl rfl rfl rfl rfl rfl rfl) h

theorem State.liveStraps_steady {s0 s : State} (hs : Steady s0 s) :
    Steady s0 (State.liveStraps s) := by
  delta State.liveStraps
  extract_lets +onlyGivenNames -merge x1
  have h1 : SteadyOut s0 x1 := State.freeWord_steady hs
  clear_value x1
  exact State.setFld_steady (SteadyOut.snd h1)

theorem State.logCopy_steady {s0 : State} {h buffer first i} {s : State} (hs : Steady s0 s) :
    Steady s0 (State.logCopy h buffer first i s) := by
  delta State.logCopy
  split
  · exact State.bufWords_steady hs
  · refine forAll_steady ?_ hs
    intro t1 t2 ht2
    extract_lets +onlyGivenNames -merge x3
    have h3 : SteadyOut s0 x3 := State.freeWord_steady ht2
    clear_value x3
    exact State.bufWrite_steady (SteadyOut.snd h3)

theorem State.rtcTick_steady {s0 s : State} {sec} (hs : Steady s0 s) :
    Steady s0 (State.rtcTick s sec) := by
  delta State.rtcTick
  extract_lets +onlyGivenNames -merge x1 x2
  have h2 : Steady s0 x2 := Steady.same hs rfl rfl rfl rfl rfl rfl rfl
  clear_value x2
  refine when_steady (fun t3 ht3 => State.refreshCheck_steady ht3) ?_
  exact State.setFlag_steady (State.setReg_steady h2)

theorem State.rtcCount_steady {s0 s : State} (hs : Steady s0 s) :
    Steady s0 (State.rtcCount s) := by
  delta State.rtcCount
  split
  · exact State.rtcTick_steady hs
  · refine Steady.ite (Steady.same hs rfl rfl rfl rfl rfl rfl rfl) ?_
    exact State.setReg_steady (Steady.same hs rfl rfl rfl rfl rfl rfl rfl)

theorem State.scopeSample_steady {s0 s : State} (hs : Steady s0 s) :
    Steady s0 (State.scopeSample s) := by
  delta State.scopeSample
  extract_lets +onlyGivenNames -merge x1
  have h1 : Steady s0 x1 := when_steady (fun t2 ht2 => State.liveStraps_steady ht2) hs
  clear_value x1
  extract_lets +onlyGivenNames -merge x3
  exact Steady.same h1 rfl rfl rfl rfl rfl rfl rfl

theorem State.scopeWrite_steady {c : Scope} {l : List Word} {k : Nat} {s0 s : State} (hs : Steady s0 s) :
    Steady s0 (State.scopeWrite c l k s) := by
  induction l generalizing s k with
  | nil => exact hs
  | cons w r ih => exact ih (State.bufWrite_steady hs)

theorem State.stoTestRun_steady {s0 s : State} {gateFail inputFail} (hs : Steady s0 s) :
    SteadyOut s0 (State.stoTestRun s gateFail inputFail) := by
  delta State.stoTestRun
  split
  · exact SteadyOut.mk (State.stoPath_steady hs)
  · exact SteadyOut.mk (State.stoPath_steady hs)
  · exact SteadyOut.mk (State.stoTestPassed_steady (Steady.same hs rfl rfl rfl rfl rfl rfl rfl))

theorem execBadOpcode_steady {s0 : State} {h opcode} {s : State} (hs : Steady s0 s) :
    SteadyRes s0 (execBadOpcode h opcode s) := by
  delta execBadOpcode
  refine SteadyRes.ite (SteadyRes.next hs) ?_
  exact State.dispatch_steady hs (fun t1 ht1 => State.complete_steady ht1)

theorem execConfigRequest_steady {s0 : State} {offset} {s : State} (hs : Steady s0 s) :
    SteadyRes s0 (execConfigRequest offset s) := by
  delta execConfigRequest
  refine SteadyRes.ite (SteadyRes.next hs) ?_
  refine SteadyRes.ite ?_ ?_
  · exact SteadyRes.next (Steady.same hs rfl rfl rfl rfl rfl rfl rfl)
  · extract_lets +onlyGivenNames -merge x1
    have h1 : SteadyOut s0 x1 := State.configWord_steady hs
    clear_value x1
    refine SteadyRes.next ?_
    extract_lets +onlyGivenNames -merge x2
    have h2 : Steady s0 x2 := SteadyOut.snd h1
    clear_value x2
    exact Steady.same h2 rfl rfl rfl rfl rfl rfl rfl

theorem execFlashOperationComplete_steady {s0 : State} {op ok} {s : State} (hs : Steady s0 s) :
    SteadyRes s0 (execFlashOperationComplete op ok s) := by
  delta execFlashOperationComplete
  refine SteadyRes.ite (SteadyRes.next hs) ?_
  extract_lets +onlyGivenNames -merge x1
  have h1 : Steady s0 x1 := State.flashEffect_steady hs
  clear_value x1
  extract_lets +onlyGivenNames -merge x2 x3
  have h3 : Steady s0 x3 := Steady.ite (Steady.same h1 rfl rfl rfl rfl rfl rfl rfl) h1
  clear_value x3
  exact SteadyRes.next (State.nextRefresh_steady (State.irq_steady h3))

theorem execHostLost_steady {s0 s : State} (hs : Steady s0 s) :
    SteadyRes s0 (execHostLost s) := by
  delta execHostLost
  extract_lets +onlyGivenNames -merge x1
  exact SteadyRes.ite (SteadyRes.next (State.hostLost_steady hs)) (SteadyRes.next hs)

theorem execImageCommit_steady {s0 : State} {h sigOk headerOk fits svn} {s : State} (hs : Steady s0 s) :
    SteadyRes s0 (execImageCommit h sigOk headerOk fits svn s) := by
  delta execImageCommit
  refine State.dispatch_steady hs ?_
  intro t1 ht1
  refine Steady.ite (State.complete_steady ht1) ?_
  extract_lets +onlyGivenNames -merge x2
  refine Steady.ite ?_ (State.complete_steady (State.setFlag_steady ht1))
  extract_lets +onlyGivenNames -merge x3
  have h3 : Steady s0 x3 := State.setFlag_steady ht1
  clear_value x3
  extract_lets +onlyGivenNames -merge x4 x5
  have h5 : Steady s0 x5 := Steady.same h3 rfl rfl rfl rfl rfl rfl rfl
  clear_value x5
  extract_lets +onlyGivenNames -merge x6
  have h6 : Steady s0 x6 := by
    unfold x6
    refine when_steady ?_ h5
    intro t7 ht7
    exact State.setFlag_steady (Steady.same ht7 rfl rfl rfl rfl rfl rfl rfl)
  clear_value x6
  exact State.complete_steady h6

theorem execImageWrite_steady {s0 : State} {h a1 offset length underRefresh dmaOk verified} {s : State} (hs : Steady s0 s) :
    SteadyRes s0 (execImageWrite h a1 offset length underRefresh dmaOk verified s) := by
  delta execImageWrite
  refine State.dispatch_steady hs ?_
  intro t1 ht1
  refine Steady.ite (State.complete_steady ht1) ?_
  refine Steady.ite (State.complete_steady ht1) ?_
  refine Steady.ite (State.complete_steady ht1) ?_
  refine Steady.ite (State.complete_steady ht1) ?_
  extract_lets +onlyGivenNames -merge x2 x3 x4 x5
  have h5 : Steady s0 x5 := Steady.same ht1 rfl rfl rfl rfl rfl rfl rfl
  clear_value x5
  exact State.addFlight_steady h5

theorem execLogRead_steady {s0 : State} {h buffer first count dmaOk} {s : State} (hs : Steady s0 s) :
    SteadyRes s0 (execLogRead h buffer first count dmaOk s) := by
  delta execLogRead
  refine State.dispatch_steady hs ?_
  intro t1 ht1
  refine Steady.ite (State.complete_steady ht1) ?_
  refine Steady.ite (State.complete_steady ht1) ?_
  refine Steady.ite (State.complete_steady ht1) ?_
  extract_lets +onlyGivenNames -merge x2
  have h2 : Steady s0 x2 := forAll_steady (fun t3 t4 ht4 => State.logCopy_steady ht4) ht1
  clear_value x2
  exact State.complete_steady h2

theorem execNop_steady {s0 : State} {h} {s : State} (hs : Steady s0 s) :
    SteadyRes s0 (execNop h s) := by
  delta execNop
  exact State.dispatch_steady hs (fun t1 ht1 => State.complete_steady ht1)

theorem execRtcWrite_steady {s0 : State} {w sec} {s : State} (hs : Steady s0 s) :
    SteadyRes s0 (execRtcWrite w sec s) := by
  delta execRtcWrite
  exact State.access_steady hs (fun t1 ht1 => Steady.same ht1 rfl rfl rfl rfl rfl rfl rfl)

theorem execScopeArm_steady {s0 : State} {h buffer samples period regs} {s : State} (hs : Steady s0 s) :
    SteadyRes s0 (execScopeArm h buffer samples period regs s) := by
  delta execScopeArm
  refine State.dispatch_steady hs ?_
  intro t1 ht1
  exact Steady.ite (State.complete_steady ht1) (Steady.same ht1 rfl rfl rfl rfl rfl rfl rfl)

theorem execScopeCaptureDone_steady {s0 : State} {dmaOk} {s : State} (hs : Steady s0 s) :
    SteadyRes s0 (execScopeCaptureDone dmaOk s) := by
  delta execScopeCaptureDone
  split
  · exact SteadyRes.next hs
  · extract_lets +onlyGivenNames -merge x1
    extract_lets +onlyGivenNames -merge x2
    have h2 : Steady s0 x2 := Steady.same hs rfl rfl rfl rfl rfl rfl rfl
    clear_value x2
    refine SteadyRes.ite (SteadyRes.next hs) ?_
    refine SteadyRes.ite (SteadyRes.next (State.complete_steady h2)) ?_
    extract_lets +onlyGivenNames -merge x3
    have h3 : Steady s0 x3 := h2
    clear_value x3
    extract_lets +onlyGivenNames -merge x4
    have h4 : Steady s0 x4 := State.scopeWrite_steady h3
    clear_value x4
    exact SteadyRes.next (State.complete_steady h4)

theorem execStoTest_steady {s0 : State} {h gateFail inputFail} {s : State} (hs : Steady s0 s) :
    SteadyRes s0 (execStoTest h gateFail inputFail s) := by
  delta execStoTest
  refine State.dispatch_steady hs ?_
  intro t1 ht1
  split
  · exact State.complete_steady ht1
  · extract_lets +onlyGivenNames -merge x2
    have h2 : SteadyOut s0 x2 := State.stoTestRun_steady ht1
    clear_value x2
    exact State.settle_steady (State.complete_steady (SteadyOut.snd h2))

theorem execUserOpcode_steady {s0 : State} {h opcode handler} {s : State} (hs : Steady s0 s) :
    SteadyRes s0 (execUserOpcode h opcode handler s) := by
  delta execUserOpcode
  refine State.dispatch_steady hs ?_
  intro t1 ht1
  refine Steady.ite (State.complete_steady ht1) ?_
  split
  · rename_i _ y2 q2
    have h2 := SteadyOut.of_eq q2 (State.freeNat_steady ht1)
    split
    · rename_i _ y3 q3
      have h3 := SteadyOut.of_eq q3 (State.freeNat_steady h2)
      split
      · rename_i _ y4 q4
        have h4 := SteadyOut.of_eq q4 (State.freeWord_steady h3)
        split
        · rename_i _ y5 q5
          have h5 := SteadyOut.of_eq q5 (State.freeWord_steady h4)
          split
          · rename_i _ y6 q6
            have h6 := SteadyOut.of_eq q6 (State.freeWord_steady h5)
            split
            · rename_i _ y7 q7
              have h7 := SteadyOut.of_eq q7 (State.freeWord_steady h6)
              exact State.complete_steady h7

end Sys2Proof.Machine
end

