-- ==== Sys2Proof/Laws/SteadyLane.lean ====
section
/-! SUPPORT. Machine/Lane.lean: what each operation keeps (Laws/Steady.lean). -/

namespace Sys2Proof.Machine

theorem State.laneFault_steady {s0 s : State} {x f reload} (hs : Steady s0 s) :
    Steady s0 (State.laneFault s x f reload) := by
  delta State.laneFault
  extract_lets +onlyGivenNames -merge x1
  have h1 : Steady s0 x1 := State.setFlag_steady (State.setFlag_steady (State.setFlag_steady hs))
  clear_value x1
  extract_lets +onlyGivenNames -merge x2
  have h2 : Steady s0 x2 := State.modLane_steady h1
  clear_value x2
  exact State.latchSet_steady h2

theorem State.eccDue_steady {s0 s : State} {x addr shared} (hs : Steady s0 s) :
    Steady s0 (State.eccDue s x addr shared) := by
  delta State.eccDue
  extract_lets +onlyGivenNames -merge x1
  have h1 : Steady s0 x1 := State.setFld_steady hs
  clear_value x1
  refine Steady.ite ?_ ?_
  · extract_lets +onlyGivenNames -merge x2
    have h2 : Steady s0 x2 := forAll_steady (fun t3 t4 ht4 => State.laneFault_steady (State.setFlag_steady ht4)) h1
    clear_value x2
    split
    · exact State.axisFault_steady h2
    · exact h2
  · refine Steady.ite ?_ (State.laneFault_steady h1)
    exact forAll_steady (fun t5 t6 ht6 => State.laneFault_steady ht6) h1

theorem State.katAnswer_steady {s0 s : State} {x pass} (hs : Steady s0 s) :
    Steady s0 (State.katAnswer s x pass) := by
  delta State.katAnswer
  extract_lets +onlyGivenNames -merge x1 x2
  have h2 : Steady s0 x2 := State.modLane_steady hs
  clear_value x2
  extract_lets +onlyGivenNames -merge x3
  have h3 : Steady s0 x3 := by
    unfold x3
    split
    · exact State.finish_steady h2
    · exact h2
  clear_value x3
  refine Steady.ite ?_ h3
  extract_lets +onlyGivenNames -merge x4 x5
  have h5 : Steady s0 x5 := Steady.same h3 rfl rfl rfl rfl rfl rfl rfl
  clear_value x5
  exact Steady.ite (State.reply_steady h5) (State.replyErr_steady h5)

theorem State.katRequest_steady {s0 s : State} {x} (hs : Steady s0 s) :
    Steady s0 (State.katRequest s x) := by
  delta State.katRequest
  exact Steady.ite (State.setFlag_steady hs) (State.modLane_steady (State.setFlag_steady hs))

theorem State.lateLane_steady {s0 s : State} {x} (hs : Steady s0 s) :
    Steady s0 (State.lateLane s x) := by
  delta State.lateLane
  exact Steady.ite (State.laneFault_steady hs) (State.incSat_steady hs)

theorem execKat_steady {s0 : State} {w x} {s : State} (hs : Steady s0 s) :
    SteadyRes s0 (execKat w x s) := by
  delta execKat
  exact State.access_steady hs (fun t1 ht1 => State.settle_steady (State.katRequest_steady ht1))

theorem execKatDone_steady {s0 : State} {x pass} {s : State} (hs : Steady s0 s) :
    SteadyRes s0 (execKatDone x pass s) := by
  delta execKatDone
  refine SteadyRes.ite (SteadyRes.next hs) ?_
  extract_lets +onlyGivenNames -merge x1
  have h1 : Steady s0 x1 := State.setFlag_steady (State.setFlag_steady hs)
  clear_value x1
  refine SteadyRes.ite ?_ ?_
  · extract_lets +onlyGivenNames -merge x2
    extract_lets +onlyGivenNames -merge x3
    have h3 : Steady s0 x3 := State.setReg_steady h1
    clear_value x3
    extract_lets +onlyGivenNames -merge x4
    have h4 : Steady s0 x4 := State.setFlag_steady h3
    clear_value x4
    extract_lets +onlyGivenNames -merge x5
    have h5 : Steady s0 x5 := State.modLane_steady h4
    clear_value x5
    exact SteadyRes.next (State.settle_steady (State.katAnswer_steady h5))
  · extract_lets +onlyGivenNames -merge x6
    extract_lets +onlyGivenNames -merge x7
    have h7 : Steady s0 x7 := State.laneFault_steady (State.modLane_steady h1)
    clear_value x7
    refine SteadyRes.ite (SteadyRes.next (State.settle_steady h7)) ?_
    extract_lets +onlyGivenNames -merge x8
    have h8 : Steady s0 x8 := State.modLane_steady (State.setFlag_steady h7)
    clear_value x8
    extract_lets +onlyGivenNames -merge x9
    have h9 : Steady s0 x9 := by
      unfold x9
      split
      · exact State.axisFault_steady h8
      · exact h8
    clear_value x9
    exact SteadyRes.next (State.settle_steady (State.katAnswer_steady h9))

theorem execLaneParamReload_steady {s0 : State} {x} {s : State} (hs : Steady s0 s) :
    SteadyRes s0 (execLaneParamReload x s) := by
  delta execLaneParamReload
  refine SteadyRes.ite ?_ (SteadyRes.next hs)
  exact SteadyRes.next (State.settle_steady (State.modLane_steady hs))

theorem execLoomScrub_steady {s0 : State} {addr hit} {s : State} (hs : Steady s0 s) :
    SteadyRes s0 (execLoomScrub addr hit s) := by
  delta execLoomScrub
  split
  · exact SteadyRes.next hs
  · exact SteadyRes.next (State.incSat_steady hs)
  · extract_lets +onlyGivenNames -merge x1
    have h1 : Steady s0 x1 := State.modLane_steady (State.setFld_steady hs)
    clear_value x1
    exact SteadyRes.next (State.journal_steady h1)

theorem execOverrun_steady {s0 : State} {x} {s : State} (hs : Steady s0 s) :
    SteadyRes s0 (execOverrun x s) := by
  delta execOverrun
  refine SteadyRes.ite ?_ (SteadyRes.next hs)
  exact SteadyRes.next (State.settle_steady (State.laneFault_steady hs))

end Sys2Proof.Machine
end

