-- ==== Sys2Proof/Laws/SteadyMfe.lean ====
section
/-! SUPPORT. Machine/Mfe.lean: what each operation keeps (Laws/Steady.lean). -/

namespace Sys2Proof.Machine

theorem State.clearSetLatches_steady {s0 s : State} {x} (hs : Steady s0 s) :
    Steady s0 (State.clearSetLatches s x) := by
  delta State.clearSetLatches
  extract_lets +onlyGivenNames -merge x1 x2
  have h2 : Steady s0 x2 := when_steady (fun t3 ht3 => State.setFlag_steady ht3) hs
  clear_value x2
  extract_lets +onlyGivenNames -merge x4
  have h4 : Steady s0 x4 := when_steady (fun t5 ht5 => State.setFlag_steady ht5) h2
  clear_value x4
  exact when_steady (fun t6 ht6 => State.setFlag_steady ht6) h4

theorem State.enterFallback_steady {s0 s : State} {x k} (hs : Steady s0 s) :
    Steady s0 (State.enterFallback s x k) := by
  delta State.enterFallback
  extract_lets +onlyGivenNames -merge x1
  have h1 : Steady s0 x1 := by
    unfold x1
    refine forAll_steady ?_ hs
    intro t2 t3 ht3
    extract_lets +onlyGivenNames -merge x4
    have h4 : Steady s0 x4 := State.setFlag_steady (State.setFlag_steady ht3)
    clear_value x4
    exact State.modMfe_steady h4
  clear_value x1
  exact State.journal_steady h1

theorem State.latchMeas_steady {s0 s : State} {x why} (hs : Steady s0 s) :
    Steady s0 (State.latchMeas s x why) := by
  delta State.latchMeas
  exact Steady.ite (State.latchSet_steady (State.modMfe_steady hs)) hs

theorem State.inputLost_steady {s0 s : State} {x k} (hs : Steady s0 s) :
    Steady s0 (State.inputLost s x k) := by
  delta State.inputLost
  exact Steady.ite hs (Steady.ite (State.enterFallback_steady hs) (State.latchMeas_steady hs))

theorem State.invalidate_steady {s0 s : State} {x m} (hs : Steady s0 s) :
    Steady s0 (State.invalidate s x m) := by
  delta State.invalidate
  extract_lets +onlyGivenNames -merge x1 x2 x3
  have h3 : Steady s0 x3 := State.modMfe_steady hs
  clear_value x3
  exact Steady.ite h3 (State.inputLost_steady h3)

theorem State.crossFail_steady {s0 s : State} {x sum} (hs : Steady s0 s) :
    Steady s0 (State.crossFail s x sum) := by
  delta State.crossFail
  extract_lets +onlyGivenNames -merge x1
  have h1 : Steady s0 x1 := State.incSat_steady hs
  clear_value x1
  extract_lets +onlyGivenNames -merge x2
  refine Steady.ite (State.modMfe_steady h1) ?_
  extract_lets +onlyGivenNames -merge x3
  have h3 : Steady s0 x3 := State.setFlag_steady (State.modMfe_steady h1)
  clear_value x3
  exact Steady.ite (State.setFlag_steady h3) (State.invalidate_steady h3)

theorem State.crossCheck_steady {s0 s : State} {x o r a b} (hs : Steady s0 s) :
    Steady s0 (State.crossCheck s x o r a b) := by
  delta State.crossCheck
  extract_lets +onlyGivenNames -merge x1 x2
  exact Steady.ite (State.crossFail_steady hs) (State.modMfe_steady hs)

theorem State.inlineOne_steady {s0 s : State} {x k r} (hs : Steady s0 s) :
    SteadyOut s0 (State.inlineOne s x k r) := by
  delta State.inlineOne
  exact SteadyOut.ite (SteadyOut.mk hs) (State.freeRat_steady hs)

theorem State.inlineAmps_steady {s0 s : State} {x ps} (hs : Steady s0 s) :
    SteadyOut s0 (State.inlineAmps s x ps) := by
  delta State.inlineAmps
  split
  · rename_i _ y1 q1
    have h1 := SteadyOut.of_eq q1 (SteadyOut.ite (State.inlineOne_steady hs) (SteadyOut.mk hs))
    split
    · rename_i _ y2 q2
      have h2 := SteadyOut.of_eq q2 (SteadyOut.ite (State.inlineOne_steady h1) (SteadyOut.mk h1))
      split
      · rename_i _ y3 q3
        have h3 := SteadyOut.of_eq q3 (SteadyOut.ite (State.inlineOne_steady h2) (SteadyOut.mk h2))
        extract_lets +onlyGivenNames -merge x4
        exact SteadyOut.mk h3

theorem State.leaveFallback_steady {s0 s : State} {a} (hs : Steady s0 s) :
    Steady s0 (State.leaveFallback s a) := by
  delta State.leaveFallback
  refine forAll_steady ?_ hs
  intro t1 t2 ht2
  extract_lets +onlyGivenNames -merge x3
  have h3 : Steady s0 x3 := State.setFlag_steady (State.setFlag_steady ht2)
  clear_value x3
  exact State.modMfe_steady h3

theorem State.measFail_steady {s0 s : State} {a} (hs : Steady s0 s) :
    Steady s0 (State.measFail s a) := by
  delta State.measFail
  extract_lets +onlyGivenNames -merge x1
  have h1 : Steady s0 x1 := State.modPos_steady hs
  clear_value x1
  exact State.setAxis_steady (State.finishEnable_steady (State.setFld_steady h1))

theorem State.measDecide_steady {s0 s : State} {a} (hs : Steady s0 s) :
    Steady s0 (State.measDecide s a) := by
  delta State.measDecide
  extract_lets +onlyGivenNames -merge x1
  refine Steady.ite (State.measFail_steady hs) ?_
  refine Steady.ite (State.leaveFallback_steady hs) ?_
  split
  · exact hs
  · exact Steady.ite (State.measFail_steady hs) (Steady.ite hs (State.enterFallback_steady hs))

theorem State.measureOffset_steady {s0 s : State} {x k enable o} (hs : Steady s0 s) :
    Steady s0 (State.measureOffset s x k enable o) := by
  delta State.measureOffset
  refine Steady.ite hs ?_
  extract_lets +onlyGivenNames -merge x1 x2
  split
  · exact State.modMfe_steady (State.setFld_steady hs)
  · refine Steady.ite (State.modMfe_steady (State.setFld_steady hs)) ?_
    refine Steady.ite (State.modMfe_steady hs) ?_
    extract_lets +onlyGivenNames -merge x3
    have h3 : Steady s0 x3 := State.modMfe_steady hs
    clear_value x3
    refine Steady.ite h3 ?_
    extract_lets +onlyGivenNames -merge x4
    have h4 : Steady s0 x4 := forAll_steady (fun t5 t6 ht6 => State.setFld_steady ht6) h3
    clear_value x4
    exact State.modMfe_steady h4

theorem State.zeroReply_steady {s0 s : State} {x o} (hs : Steady s0 s) :
    Steady s0 (State.zeroReply s x o) := by
  delta State.zeroReply
  extract_lets +onlyGivenNames -merge x1
  have h1 : Steady s0 x1 := State.modMfe_steady hs
  extract_lets +onlyGivenNames -merge x2 x3
  have h3 : Steady s0 x3 := Steady.same h1 rfl rfl rfl rfl rfl rfl rfl
  extract_lets +onlyGivenNames -merge x4 x5
  exact Steady.ite (State.reply_steady h3) (State.replyErr_steady (State.say_steady h3))

theorem State.offsetsEnd_steady {s0 s : State} {x l starting} (hs : Steady s0 s) :
    Steady s0 (State.offsetsEnd s x l starting) := by
  delta State.offsetsEnd
  extract_lets +onlyGivenNames -merge x1 x2
  have h2 : Steady s0 x2 := forAll_steady (fun t3 t4 ht4 => State.measureOffset_steady ht4) hs
  clear_value x2
  extract_lets +onlyGivenNames -merge x5
  have h5 : Steady s0 x5 := State.modMfe_steady (when_steady (fun t6 ht6 => State.clearSetLatches_steady ht6) h2)
  clear_value x5
  exact when_steady (fun t7 ht7 => State.zeroReply_steady ht7) h5

theorem State.supplyRestart_steady {s0 s : State} (hs : Steady s0 s) :
    Steady s0 (State.supplyRestart s) := by
  delta State.supplyRestart
  exact Steady.same hs rfl rfl rfl rfl rfl rfl rfl

theorem State.trackOffset_steady {s0 s : State} {x v} (hs : Steady s0 s) :
    Steady s0 (State.trackOffset s x v) := by
  delta State.trackOffset
  extract_lets +onlyGivenNames -merge x1
  have h1 : Steady s0 x1 := State.modMfe_steady hs
  clear_value x1
  exact Steady.same h1 rfl rfl rfl rfl rfl rfl rfl

theorem execDcDiverge_steady {s0 : State} {x} {s : State} (hs : Steady s0 s) :
    SteadyRes s0 (execDcDiverge x s) := by
  delta execDcDiverge
  refine SteadyRes.ite (SteadyRes.next hs) ?_
  exact SteadyRes.next (State.settle_steady (State.latchMeas_steady (State.setFlag_steady hs)))

theorem execDcDivergeClear_steady {s0 : State} {x} {s : State} (hs : Steady s0 s) :
    SteadyRes s0 (execDcDivergeClear x s) := by
  delta execDcDivergeClear
  exact SteadyRes.ite (SteadyRes.next (State.setFlag_steady hs)) (SteadyRes.next hs)

theorem execGround_steady {s0 : State} {x} {s : State} (hs : Steady s0 s) :
    SteadyRes s0 (execGround x s) := by
  delta execGround
  refine SteadyRes.ite ?_ (SteadyRes.next hs)
  extract_lets +onlyGivenNames -merge x1
  have h1 : Steady s0 x1 := State.setFlag_steady hs
  clear_value x1
  split
  · exact SteadyRes.next (Steady.ite (State.settle_steady (State.axisFault_steady h1)) h1)
  · exact SteadyRes.next h1

theorem execMfeSupplyRestart_steady {s0 : State} {w} {s : State} (hs : Steady s0 s) :
    SteadyRes s0 (execMfeSupplyRestart w s) := by
  delta execMfeSupplyRestart
  refine State.access_steady hs ?_
  intro t1 ht1
  exact Steady.ite (State.supplyRestart_steady ht1) (State.regLocked_steady ht1)

theorem execNtcSample_steady {s0 : State} {x volts} {s : State} (hs : Steady s0 s) :
    SteadyRes s0 (execNtcSample x volts s) := by
  delta execNtcSample
  extract_lets +onlyGivenNames -merge x1 x2
  have h2 : Steady s0 x2 := State.modMfe_steady hs
  clear_value x2
  extract_lets +onlyGivenNames -merge x3 x4
  have h4 : Steady s0 x4 := State.setFlag_steady (State.setFlag_steady h2)
  clear_value x4
  exact SteadyRes.next (State.setFld_steady h4)

theorem execOffsetMeasurementEnd_steady {s0 : State} {x vals} {s : State} (hs : Steady s0 s) :
    SteadyRes s0 (execOffsetMeasurementEnd x vals s) := by
  delta execOffsetMeasurementEnd
  split
  · extract_lets +onlyGivenNames -merge x1
    extract_lets +onlyGivenNames -merge x2 x3
    have h3 : Steady s0 x3 := State.offsetsEnd_steady hs
    clear_value x3
    clear_value x1
    split
    · refine SteadyRes.ite ?_ (SteadyRes.next (State.settle_steady h3))
      exact SteadyRes.next (State.settle_steady (State.measDecide_steady h3))
    · exact SteadyRes.next (State.settle_steady h3)
  · exact SteadyRes.next hs

theorem execSdInputRecover_steady {s0 : State} {x k} {s : State} (hs : Steady s0 s) :
    SteadyRes s0 (execSdInputRecover x k s) := by
  delta execSdInputRecover
  refine SteadyRes.ite ?_ (SteadyRes.next hs)
  extract_lets +onlyGivenNames -merge x1 x2
  exact SteadyRes.next (State.settle_steady (State.modMfe_steady hs))

theorem execSdclk_steady {s0 : State} {x} {s : State} (hs : Steady s0 s) :
    SteadyRes s0 (execSdclk x s) := by
  delta execSdclk
  refine SteadyRes.ite ?_ (SteadyRes.next hs)
  extract_lets +onlyGivenNames -merge x1 x2
  have h2 : Steady s0 x2 := State.setFlag_steady (State.modMfe_steady hs)
  clear_value x2
  exact SteadyRes.next (State.settle_steady (State.invalidate_steady h2))

theorem execSensorSupplyOverload_steady {s0 s : State} (hs : Steady s0 s) :
    SteadyRes s0 (execSensorSupplyOverload s) := by
  delta execSensorSupplyOverload
  extract_lets +onlyGivenNames -merge x1
  have h1 : Steady s0 x1 := State.setFlag_steady (State.setFlag_steady (Steady.same hs rfl rfl rfl rfl rfl rfl rfl))
  clear_value x1
  extract_lets +onlyGivenNames -merge x2
  have h2 : Steady s0 x2 := forAll_steady (fun t3 t4 ht4 => State.setFlag_steady ht4) h1
  clear_value x2
  refine SteadyRes.next ?_
  exact State.settle_steady (forAll_steady (fun t5 t6 ht6 => State.invalidate_steady ht6) h2)

theorem execSensorSupplyUp_steady {s0 s : State} (hs : Steady s0 s) :
    SteadyRes s0 (execSensorSupplyUp s) := by
  delta execSensorSupplyUp
  refine SteadyRes.ite (SteadyRes.next hs) ?_
  extract_lets +onlyGivenNames -merge x1
  have h1 : Steady s0 x1 := State.setFlag_steady (State.setFlag_steady (Steady.same hs rfl rfl rfl rfl rfl rfl rfl))
  clear_value x1
  extract_lets +onlyGivenNames -merge x2
  have h2 : Steady s0 x2 := by
    unfold x2
    refine forAll_steady ?_ h1
    intro t3 t4 ht4
    extract_lets +onlyGivenNames -merge x5 x6 x7
    exact State.modMfe_steady ht4
  clear_value x2
  exact SteadyRes.next (State.settle_steady h2)

theorem execShuntOffsetTrack_steady {s0 : State} {x v} {s : State} (hs : Steady s0 s) :
    SteadyRes s0 (execShuntOffsetTrack x v s) := by
  delta execShuntOffsetTrack
  extract_lets +onlyGivenNames -merge x1 x2
  exact SteadyRes.ite (SteadyRes.next (State.trackOffset_steady hs)) (SteadyRes.next hs)

theorem execStuck_steady {s0 : State} {x k} {s : State} (hs : Steady s0 s) :
    SteadyRes s0 (execStuck x k s) := by
  delta execStuck
  refine SteadyRes.ite ?_ (SteadyRes.next hs)
  extract_lets +onlyGivenNames -merge x1
  have h1 : Steady s0 x1 := State.setFld_steady (State.modMfe_steady hs)
  clear_value x1
  exact SteadyRes.next (State.settle_steady (State.invalidate_steady h1))

end Sys2Proof.Machine
end

