-- ==== Sys2Proof/Laws/SteadyPos.lean ====
section
/-! SUPPORT. Machine/Pos.lean: what each operation keeps (Laws/Steady.lean). -/

namespace Sys2Proof.Machine

theorem State.ascUpdate_steady {s0 s : State} {a} (hs : Steady s0 s) :
    Steady s0 (State.ascUpdate s a) := by
  delta State.ascUpdate
  extract_lets +onlyGivenNames -merge x1 x2 x3 x4 x5 x6 x7
  have h7 : Steady s0 x7 := State.modPos_steady hs
  clear_value x7
  extract_lets +onlyGivenNames -merge x8
  exact State.setFld_steady (State.setFlag_steady (State.putEstimate_steady h7))

theorem State.bemfUpdate_steady {s0 s : State} {a} (hs : Steady s0 s) :
    Steady s0 (State.bemfUpdate s a) := by
  delta State.bemfUpdate
  extract_lets +onlyGivenNames -merge x1 x2 x3
  exact State.modPos_steady hs

theorem State.putLambda_steady {s0 s : State} {a l} (hs : Steady s0 s) :
    Steady s0 (State.putLambda s a l) := by
  delta State.putLambda
  extract_lets +onlyGivenNames -merge x1
  have h1 : Steady s0 x1 := State.modPos_steady hs
  clear_value x1
  exact State.setFlag_steady (State.setFld_steady h1)

theorem State.startInjection_steady {s0 s : State} {a th w} (hs : Steady s0 s) :
    Steady s0 (State.startInjection s a th w) := by
  delta State.startInjection
  exact State.setFlag_steady (State.modPos_steady hs)

theorem State.blendUpdate_steady {s0 s : State} {a} (hs : Steady s0 s) :
    Steady s0 (State.blendUpdate s a) := by
  delta State.blendUpdate
  extract_lets +onlyGivenNames -merge x1 x2 x3
  have h3 : Steady s0 x3 := State.bemfUpdate_steady hs
  clear_value x3
  extract_lets +onlyGivenNames -merge x4
  have h4 : Steady s0 x4 := State.modPos_steady h3
  clear_value x4
  extract_lets +onlyGivenNames -merge x5 x6 x7 x8 x9 x10
  have h10 : Steady s0 x10 := State.putLambda_steady (State.putEstimate_steady h4)
  clear_value x10
  extract_lets +onlyGivenNames -merge x11
  have h11 : Steady s0 x11 := State.setFld_steady h10
  clear_value x11
  extract_lets +onlyGivenNames -merge x12
  have h12 : Steady s0 x12 := Steady.ite (State.modPos_steady h11) h11
  clear_value x12
  refine Steady.ite ?_ h12
  extract_lets +onlyGivenNames -merge x13
  exact State.startInjection_steady h12

theorem State.coastUpdate_steady {s0 s : State} {a} (hs : Steady s0 s) :
    Steady s0 (State.coastUpdate s a) := by
  delta State.coastUpdate
  extract_lets +onlyGivenNames -merge x1 x2
  exact State.putEstimate_steady hs

theorem State.fluxUpdate_steady {s0 s : State} {a} (hs : Steady s0 s) :
    Steady s0 (State.fluxUpdate s a) := by
  delta State.fluxUpdate
  extract_lets +onlyGivenNames -merge x1 x2 x3 x4 x5 x6
  exact State.modPos_steady hs

theorem State.observerUpdate_steady {s0 s : State} {a} (hs : Steady s0 s) :
    Steady s0 (State.observerUpdate s a) := by
  delta State.observerUpdate
  exact Steady.ite (State.fluxUpdate_steady hs) (State.bemfUpdate_steady hs)

theorem State.portEstimate_steady {s0 s : State} {a} (hs : Steady s0 s) :
    Steady s0 (State.portEstimate s a) := by
  delta State.portEstimate
  extract_lets +onlyGivenNames -merge x1 x2 x3 x4
  exact State.setFlag_steady (State.setFld_steady (State.putEstimate_steady hs))

theorem State.feedbackUpdate_steady {s0 s : State} {a} (hs : Steady s0 s) :
    Steady s0 (State.feedbackUpdate s a) := by
  delta State.feedbackUpdate
  extract_lets +onlyGivenNames -merge x1
  have h1 : Steady s0 x1 := State.portEstimate_steady hs
  clear_value x1
  extract_lets +onlyGivenNames -merge x2
  refine Steady.ite ?_ h1
  extract_lets +onlyGivenNames -merge x3
  have h3 : Steady s0 x3 := State.observerUpdate_steady h1
  clear_value x3
  exact Steady.ite (State.modPos_steady h3) h3

theorem State.seedUpdate_steady {s0 s : State} {a} (hs : Steady s0 s) :
    Steady s0 (State.seedUpdate s a) := by
  delta State.seedUpdate
  extract_lets +onlyGivenNames -merge x1 x2
  have h2 : Steady s0 x2 := State.modPos_steady hs
  clear_value x2
  exact State.coastUpdate_steady h2

theorem State.openLoopUpdate_steady {s0 s : State} {a} (hs : Steady s0 s) :
    Steady s0 (State.openLoopUpdate s a) := by
  delta State.openLoopUpdate
  extract_lets +onlyGivenNames -merge x1 x2
  have h2 : Steady s0 x2 := State.fluxUpdate_steady hs
  extract_lets +onlyGivenNames -merge x3 x4 x5 x6 x7 x8
  have h8 : Steady s0 x8 := State.putLambda_steady (State.putEstimate_steady h2)
  clear_value x8
  extract_lets +onlyGivenNames -merge x9
  have h9 : Steady s0 x9 := State.setFlag_steady h8
  clear_value x9
  exact State.setFld_steady h9

theorem State.estimateUpdate_steady {s0 s : State} {a} (hs : Steady s0 s) :
    Steady s0 (State.estimateUpdate s a) := by
  delta State.estimateUpdate
  extract_lets +onlyGivenNames -merge x1
  refine Steady.ite (State.coastUpdate_steady hs) ?_
  refine Steady.ite (State.ascUpdate_steady hs) ?_
  refine Steady.ite hs ?_
  refine Steady.ite ?_ ?_
  · refine Steady.ite ?_ ?_
    · extract_lets +onlyGivenNames -merge x2
      have h2 : Steady s0 x2 := State.observerUpdate_steady hs
      clear_value x2
      exact State.putEstimate_steady h2
    · exact Steady.ite (State.coastUpdate_steady hs) (State.feedbackUpdate_steady hs)
  · refine Steady.ite (Steady.ite (State.seedUpdate_steady hs) hs) ?_
    exact Steady.ite (State.openLoopUpdate_steady hs) (State.blendUpdate_steady hs)

theorem State.injectionPeriod_steady {s0 s : State} {a} (hs : Steady s0 s) :
    Steady s0 (State.injectionPeriod s a) := by
  delta State.injectionPeriod
  extract_lets +onlyGivenNames -merge x1 x2 x3 x4 x5 x6 x7 x8 x9 x10 x11 x12 x13
  exact State.modPos_steady hs

theorem State.learn_steady {s0 s : State} {a} (hs : Steady s0 s) :
    Steady s0 (State.learn s a) := by
  delta State.learn
  refine Steady.ite ?_ (State.setFlag_steady hs)
  extract_lets +onlyGivenNames -merge x1
  have h1 : Steady s0 x1 := State.setFlag_steady (State.setFlag_steady hs)
  clear_value x1
  extract_lets +onlyGivenNames -merge x2
  have h2 : Steady s0 x2 := State.modPos_steady (State.setFld_steady h1)
  clear_value x2
  refine Steady.ite h2 ?_
  extract_lets +onlyGivenNames -merge x3
  exact State.startInjection_steady h2

theorem State.learnPeriod_steady {s0 s : State} {a} (hs : Steady s0 s) :
    Steady s0 (State.learnPeriod s a) := by
  delta State.learnPeriod
  refine Steady.ite hs ?_
  extract_lets +onlyGivenNames -merge x1 x2 x3 x4 x5 x6
  have h6 : Steady s0 x6 := State.modPos_steady hs
  clear_value x6
  refine Steady.ite h6 ?_
  extract_lets +onlyGivenNames -merge x7
  have h7 : Steady s0 x7 := State.setFlag_steady (State.setFld_steady h6)
  clear_value x7
  split
  · rename_i _ y8 q8
    have h8 := SteadyOut.of_eq q8 (State.freeRat_steady h7)
    extract_lets +onlyGivenNames -merge x9
    exact State.modPos_steady h8

theorem State.lockUpdate_steady {s0 s : State} {a} (hs : Steady s0 s) :
    Steady s0 (State.lockUpdate s a) := by
  delta State.lockUpdate
  refine Steady.ite hs ?_
  extract_lets +onlyGivenNames -merge x1 x2 x3 x4 x5 x6
  have h6 : Steady s0 x6 := State.setSfld_steady hs
  clear_value x6
  extract_lets +onlyGivenNames -merge x7
  have h7 : Steady s0 x7 := State.setFlag_steady h6
  clear_value x7
  exact State.modPos_steady h7

theorem State.termReply_steady {s0 s : State} {m moving w th} (hs : Steady s0 s) :
    Steady s0 (State.termReply s m moving w th) := by
  delta State.termReply
  extract_lets +onlyGivenNames -merge x1 x2
  have h2 : Steady s0 x2 := Steady.same hs rfl rfl rfl rfl rfl rfl rfl
  clear_value x2
  exact State.reply_steady h2

theorem State.seedFlux_steady {s0 s : State} {a x th psi} (hs : Steady s0 s) :
    Steady s0 (State.seedFlux s a x th psi) := by
  delta State.seedFlux
  extract_lets +onlyGivenNames -merge x1 x2
  exact State.modLane_steady hs

theorem State.seedMoving_steady {s0 s : State} {a m th w} (hs : Steady s0 s) :
    Steady s0 (State.seedMoving s a m th w) := by
  delta State.seedMoving
  extract_lets +onlyGivenNames -merge x1 x2 x3
  have h3 : Steady s0 x3 := State.modPos_steady hs
  clear_value x3
  extract_lets +onlyGivenNames -merge x4
  have h4 : Steady s0 x4 := State.modPos_steady (State.putEstimate_steady h3)
  clear_value x4
  extract_lets +onlyGivenNames -merge x5
  have h5 : Steady s0 x5 := State.setFlag_steady (State.setFlag_steady h4)
  clear_value x5
  extract_lets +onlyGivenNames -merge x6
  have h6 : Steady s0 x6 := State.putLambda_steady (State.setFld_steady h5)
  clear_value x6
  extract_lets +onlyGivenNames -merge x7
  have h7 : Steady s0 x7 := when_steady (fun t8 ht8 => forAll_steady (fun t9 t10 ht10 => State.seedFlux_steady ht10) ht8) h6
  clear_value x7
  exact State.setFld_steady h7

theorem State.measMoving_steady {s0 s : State} {a m} (hs : Steady s0 s) :
    Steady s0 (State.measMoving s a m) := by
  delta State.measMoving
  extract_lets +onlyGivenNames -merge x1 x2 x3
  refine Steady.ite (State.termReply_steady (State.modPos_steady hs)) ?_
  extract_lets +onlyGivenNames -merge x4
  have h4 : Steady s0 x4 := State.setFld_steady hs
  clear_value x4
  extract_lets +onlyGivenNames -merge x5
  have h5 : Steady s0 x5 := Steady.ite (State.beginStart_steady h4) h4
  clear_value x5
  split
  · exact h5
  · extract_lets +onlyGivenNames -merge x6
    have h6 : Steady s0 x6 := State.modPos_steady h5
    clear_value x6
    exact Steady.ite (State.failStart_steady h6) (State.seedMoving_steady (State.modPos_steady h6))

theorem State.measSlow_steady {s0 s : State} {a m} (hs : Steady s0 s) :
    Steady s0 (State.measSlow s a m) := by
  delta State.measSlow
  refine Steady.ite (State.termReply_steady (State.modPos_steady hs)) ?_
  extract_lets +onlyGivenNames -merge x1
  have h1 : Steady s0 x1 := State.setFld_steady hs
  clear_value x1
  extract_lets +onlyGivenNames -merge x2
  have h2 : Steady s0 x2 := Steady.ite (State.beginStart_steady h1) h1
  clear_value x2
  split
  · exact h2
  · extract_lets +onlyGivenNames -merge x3
    extract_lets +onlyGivenNames -merge x4 x5 x6 x7
    have h7 : Steady s0 x7 := State.modPos_steady h2
    clear_value x7
    extract_lets +onlyGivenNames -merge x8
    have h8 : Steady s0 x8 := State.setFlag_steady (State.putEstimate_steady h7)
    clear_value x8
    extract_lets +onlyGivenNames -merge x9
    have h9 : Steady s0 x9 := State.setFld_steady (State.putLambda_steady h8)
    clear_value x9
    exact State.setFld_steady h9

theorem State.portUpdate_steady {s0 s : State} {a} (hs : Steady s0 s) :
    Steady s0 (State.portUpdate s a) := by
  delta State.portUpdate
  refine Steady.ite hs ?_
  extract_lets +onlyGivenNames -merge x1 x2 x3 x4 x5 x6
  have h6 : Steady s0 x6 := State.modPos_steady hs
  clear_value x6
  refine Steady.ite h6 ?_
  extract_lets +onlyGivenNames -merge x7
  have h7 : Steady s0 x7 := State.setFlag_steady h6
  clear_value x7
  refine Steady.ite ?_ (State.loseLock_steady (State.setFlag_steady h7))
  exact State.putLambda_steady (State.setFld_steady (State.setFlag_steady h7))

theorem State.posUpdate_steady {s0 s : State} {a injected} (hs : Steady s0 s) :
    Steady s0 (State.posUpdate s a injected) := by
  delta State.posUpdate
  extract_lets +onlyGivenNames -merge x1 x2
  have h2 : Steady s0 x2 := State.estimateUpdate_steady (State.portUpdate_steady hs)
  extract_lets +onlyGivenNames -merge x3 x4
  have h4 : Steady s0 x4 := when_steady (fun t5 ht5 => State.setFld_steady (State.startInjection_steady ht5)) h2
  extract_lets +onlyGivenNames -merge x6 x7 x8
  have h8 : Steady s0 x8 := State.lockUpdate_steady h4
  extract_lets +onlyGivenNames -merge x9 x10
  exact State.modPos_steady h8

theorem State.searchFound_steady {s0 s : State} {a st f} (hs : Steady s0 s) :
    Steady s0 (State.searchFound s a st f) := by
  delta State.searchFound
  extract_lets +onlyGivenNames -merge x1 x2
  have h2 : Steady s0 x2 := State.modPos_steady hs
  extract_lets +onlyGivenNames -merge x3
  have h3 : Steady s0 x3 := State.setFld_steady h2
  extract_lets +onlyGivenNames -merge x4
  have h4 : Steady s0 x4 := State.modPos_steady (State.putEstimate_steady h3)
  clear_value x4
  extract_lets +onlyGivenNames -merge x5
  have h5 : Steady s0 x5 := State.setFlag_steady h4
  clear_value x5
  exact State.setFld_steady (State.setFlag_steady h5)

theorem State.searchUpdate_steady {s0 s : State} {x} (hs : Steady s0 s) :
    Steady s0 (State.searchUpdate s x) := by
  delta State.searchUpdate
  split
  · exact hs
  · split
    · exact hs
    · refine Steady.ite hs ?_
      extract_lets +onlyGivenNames -merge x1 x2 x3 x4 x5 x6 x7
      refine Steady.ite (State.searchFound_steady hs) ?_
      extract_lets +onlyGivenNames -merge x8 x9
      have h9 : Steady s0 x9 := State.modPos_steady hs
      clear_value x9
      exact Steady.ite (State.failStart_steady (State.setFld_steady h9)) h9

theorem State.stopInjection_steady {s0 s : State} {a} (hs : Steady s0 s) :
    Steady s0 (State.stopInjection s a) := by
  delta State.stopInjection
  exact State.setFlag_steady (State.modPos_steady hs)

theorem execAttemptReset_steady {s0 : State} {a} {s : State} (hs : Steady s0 s) :
    SteadyRes s0 (execAttemptReset a s) := by
  delta execAttemptReset
  exact SteadyRes.ite (SteadyRes.next (State.setFld_steady hs)) (SteadyRes.next hs)

theorem execInjectionPeriodEnd_steady {s0 : State} {a} {s : State} (hs : Steady s0 s) :
    SteadyRes s0 (execInjectionPeriodEnd a s) := by
  delta execInjectionPeriodEnd
  refine SteadyRes.ite ?_ (SteadyRes.next hs)
  extract_lets +onlyGivenNames -merge x1
  have h1 : Steady s0 x1 := State.learnPeriod_steady (State.injectionPeriod_steady hs)
  clear_value x1
  extract_lets +onlyGivenNames -merge x2
  split
  · refine SteadyRes.ite ?_ (SteadyRes.next h1)
    refine SteadyRes.ite ?_ ?_
    · extract_lets +onlyGivenNames -merge x3
      exact SteadyRes.next (State.settle_steady (State.setFld_steady (State.modPos_steady h1)))
    · refine SteadyRes.ite ?_ (SteadyRes.next h1)
      exact SteadyRes.next (State.settle_steady (State.failStart_steady h1))
  · exact SteadyRes.next h1

theorem execInjectionStop_steady {s0 : State} {a} {s : State} (hs : Steady s0 s) :
    SteadyRes s0 (execInjectionStop a s) := by
  delta execInjectionStop
  exact SteadyRes.ite (SteadyRes.next (State.stopInjection_steady hs)) (SteadyRes.next hs)

theorem execLearn_steady {s0 : State} {w a} {s : State} (hs : Steady s0 s) :
    SteadyRes s0 (execLearn w a s) := by
  delta execLearn
  exact State.access_steady hs (fun t1 ht1 => Steady.ite ht1 (State.learn_steady ht1))

theorem execLearnAbort_steady {s0 : State} {w a} {s : State} (hs : Steady s0 s) :
    SteadyRes s0 (execLearnAbort w a s) := by
  delta execLearnAbort
  refine State.access_steady hs ?_
  intro t1 ht1
  extract_lets +onlyGivenNames -merge x2
  have h2 : Steady s0 x2 := State.setFlag_steady (State.setFlag_steady ht1)
  clear_value x2
  exact State.setFld_steady (State.modPos_steady h2)

theorem execLockLost_steady {s0 : State} {a} {s : State} (hs : Steady s0 s) :
    SteadyRes s0 (execLockLost a s) := by
  delta execLockLost
  refine SteadyRes.ite ?_ (SteadyRes.next hs)
  extract_lets +onlyGivenNames -merge x1 x2
  have h2 : Steady s0 x2 := State.setFlag_steady (State.setFlag_steady (State.setFlag_steady hs))
  clear_value x2
  exact SteadyRes.next (State.settle_steady (State.loseLock_steady h2))

theorem execPolarityPulseEnd_steady {s0 : State} {a ripple} {s : State} (hs : Steady s0 s) :
    SteadyRes s0 (execPolarityPulseEnd a ripple s) := by
  delta execPolarityPulseEnd
  extract_lets +onlyGivenNames -merge x1
  split
  · exact SteadyRes.next hs
  · refine SteadyRes.ite ?_ ?_
    · extract_lets +onlyGivenNames -merge x2
      exact SteadyRes.next (State.modPos_steady hs)
    · refine SteadyRes.ite ?_ (SteadyRes.next hs)
      extract_lets +onlyGivenNames -merge x3 x4
      refine SteadyRes.ite ?_ ?_
      · exact SteadyRes.next (State.settle_steady (State.failStart_steady hs))
      · extract_lets +onlyGivenNames -merge x5
        have h5 : Steady s0 x5 := State.modPos_steady hs
        clear_value x5
        exact SteadyRes.next (State.settle_steady (State.setFld_steady (State.setFlag_steady h5)))

theorem execResumeRampEnd_steady {s0 : State} {a} {s : State} (hs : Steady s0 s) :
    SteadyRes s0 (execResumeRampEnd a s) := by
  delta execResumeRampEnd
  refine SteadyRes.ite ?_ (SteadyRes.next hs)
  exact SteadyRes.next (State.setFld_steady (State.setFlag_steady (State.modSpd_steady hs)))

theorem execStartTmo_steady {s0 : State} {a} {s : State} (hs : Steady s0 s) :
    SteadyRes s0 (execStartTmo a s) := by
  delta execStartTmo
  split
  · exact SteadyRes.next hs
  · refine SteadyRes.ite (SteadyRes.next hs) ?_
    refine SteadyRes.ite ?_ ?_
    · exact SteadyRes.next (State.settle_steady (State.failStart_steady hs))
    · refine SteadyRes.ite ?_ (SteadyRes.next hs)
      extract_lets +onlyGivenNames -merge x1
      have h1 : SteadyOut s0 x1 := State.freeNat_steady hs
      clear_value x1
      exact SteadyRes.next (State.settle_steady (State.failStart_steady (SteadyOut.snd h1)))

theorem execTerminalMeasurementEnd_steady {s0 : State} {a} {s : State} (hs : Steady s0 s) :
    SteadyRes s0 (execTerminalMeasurementEnd a s) := by
  delta execTerminalMeasurementEnd
  split
  · exact SteadyRes.next hs
  · extract_lets +onlyGivenNames -merge x1
    refine SteadyRes.next ?_
    exact State.settle_steady (Steady.ite (State.measMoving_steady hs) (State.measSlow_steady hs))

theorem execTerminalMeasurementSample_steady {s0 : State} {a} {s : State} (hs : Steady s0 s) :
    SteadyRes s0 (execTerminalMeasurementSample a s) := by
  delta execTerminalMeasurementSample
  split
  · exact SteadyRes.next hs
  · extract_lets +onlyGivenNames -merge x1
    refine SteadyRes.ite ?_ (SteadyRes.next (State.modPos_steady hs))
    exact SteadyRes.next (State.settle_steady (State.measMoving_steady hs))

theorem execTerminalMeasurementStart_steady {s0 : State} {a} {s : State} (hs : Steady s0 s) :
    SteadyRes s0 (execTerminalMeasurementStart a s) := by
  delta execTerminalMeasurementStart
  extract_lets +onlyGivenNames -merge x1
  refine SteadyRes.ite ?_ (SteadyRes.next hs)
  extract_lets +onlyGivenNames -merge x2 x3
  have h3 : Steady s0 x3 := State.modPos_steady hs
  clear_value x3
  exact SteadyRes.next (Steady.ite h3 (State.setFld_steady h3))

theorem execZeroUpd_steady {s0 : State} {a} {s : State} (hs : Steady s0 s) :
    SteadyRes s0 (execZeroUpd a s) := by
  delta execZeroUpd
  refine SteadyRes.ite ?_ (SteadyRes.next hs)
  exact SteadyRes.next (State.settle_steady (State.axisFault_steady hs))

end Sys2Proof.Machine
end

