-- ==== Sys2Proof/Laws/SteadyProtection.lean ====
section
/-! SUPPORT. Machine/Protection.lean: what each operation keeps (Laws/Steady.lean). -/

namespace Sys2Proof.Machine

theorem State.bandValue_steady {s0 s : State} {x v band} (hs : Steady s0 s) :
    Steady s0 (State.bandValue s x v band) := by
  delta State.bandValue
  extract_lets +onlyGivenNames -merge x1
  refine Steady.ite (State.modPsp_steady hs) ?_
  refine Steady.ite ?_ hs
  split
  · exact State.modPsp_steady hs
  · extract_lets +onlyGivenNames -merge x2
    extract_lets +onlyGivenNames -merge x3
    exact State.setFld_steady (State.modPsp_steady hs)

theorem State.compareCross_steady {s0 s : State} {x} (hs : Steady s0 s) :
    Steady s0 (State.compareCross s x) := by
  delta State.compareCross
  refine Steady.ite hs ?_
  extract_lets +onlyGivenNames -merge x1 x2 x3
  have h3 : Steady s0 x3 := State.modPsp_steady hs
  clear_value x3
  exact Steady.ite (State.setFlag_steady h3) (Steady.ite (State.setFlag_steady h3) h3)

theorem State.dataFrame_steady {s0 s : State} {x} (hs : Steady s0 s) :
    Steady s0 (State.dataFrame s x) := by
  delta State.dataFrame
  extract_lets +onlyGivenNames -merge x1
  exact State.modPsp_steady hs

theorem State.flagFrame_steady {s0 s : State} {x} (hs : Steady s0 s) :
    Steady s0 (State.flagFrame s x) := by
  delta State.flagFrame
  extract_lets +onlyGivenNames -merge x1
  exact State.modPsp_steady hs

theorem State.followSrc_steady {s0 s : State} {x} (hs : Steady s0 s) :
    Steady s0 (State.followSrc s x) := by
  delta State.followSrc
  extract_lets +onlyGivenNames -merge x1
  exact Steady.ite hs (State.setFld_steady (State.modPsp_steady hs))

theorem State.latchOv2_steady {s0 s : State} {x} (hs : Steady s0 s) :
    Steady s0 (State.latchOv2 s x) := by
  delta State.latchOv2
  exact State.latchSet_steady (State.setFlag_steady hs)

theorem State.linkIn_steady {s0 s : State} {x v check} (hs : Steady s0 s) :
    Steady s0 (State.linkIn s x v check) := by
  delta State.linkIn
  extract_lets +onlyGivenNames -merge x1 x2
  have h2 : Steady s0 x2 := State.modPsp_steady (State.dataFrame_steady hs)
  clear_value x2
  exact State.setFld_steady h2

theorem State.linkLevels_steady {s0 s : State} {x v} (hs : Steady s0 s) :
    Steady s0 (State.linkLevels s x v) := by
  delta State.linkLevels
  extract_lets +onlyGivenNames -merge x1 x2
  have h2 : Steady s0 x2 := State.setFlag_steady (State.setFlag_steady hs)
  clear_value x2
  extract_lets +onlyGivenNames -merge x3
  have h3 : Steady s0 x3 := by
    unfold x3
    refine Steady.ite ?_ (Steady.ite (State.modPsp_steady h2) hs)
    exact State.modPsp_steady (State.setFlag_steady hs)
  clear_value x3
  extract_lets +onlyGivenNames -merge x4
  have h4 : Steady s0 x4 := State.setFlag_steady h3
  clear_value x4
  extract_lets +onlyGivenNames -merge x5
  exact State.timeWhile_steady (State.setFlag_steady h4)

theorem State.markCross_steady {s0 s : State} {x before} (hs : Steady s0 s) :
    Steady s0 (State.markCross s x before) := by
  delta State.markCross
  extract_lets +onlyGivenNames -merge x1
  exact Steady.ite (State.modMfe_steady hs) hs

theorem State.openValue_steady {s0 s : State} {x v} (hs : Steady s0 s) :
    Steady s0 (State.openValue s x v) := by
  delta State.openValue
  extract_lets +onlyGivenNames -merge x1 x2
  exact State.modPsp_steady hs

theorem State.ov2_steady {s0 s : State} {x} (hs : Steady s0 s) :
    Steady s0 (State.ov2 s x) := by
  delta State.ov2
  split
  · refine Steady.ite ?_ (State.latchSet_steady hs)
    exact Steady.ite hs (State.modPsp_steady (State.startTimer_steady (State.setFlag_steady hs)))
  · exact State.latchSet_steady hs

theorem State.startDwell_steady {s0 s : State} {x} (hs : Steady s0 s) :
    Steady s0 (State.startDwell s x) := by
  delta State.startDwell
  extract_lets +onlyGivenNames -merge x1
  have h1 : Steady s0 x1 := when_steady (fun t2 ht2 => State.chopSwitch_steady ht2) hs
  clear_value x1
  exact State.modPsp_steady (forAll_steady (fun t3 t4 ht4 => State.chanOff_steady ht4) h1)

theorem State.termTaken_steady {s0 s : State} {x u v w flag} (hs : Steady s0 s) :
    Steady s0 (State.termTaken s x u v w flag) := by
  delta State.termTaken
  refine State.followSrc_steady ?_
  refine State.terminalIn_steady ?_
  exact when_steady (fun t1 ht1 => State.flagFrame_steady ht1) (State.dataFrame_steady hs)

theorem execBlankingEnd_steady {s0 : State} {x comparator} {s : State} (hs : Steady s0 s) :
    SteadyRes s0 (execBlankingEnd x comparator s) := by
  delta execBlankingEnd
  exact SteadyRes.next (State.modPsp_steady hs)

theorem execChopCheck_steady {s0 : State} {x before after} {s : State} (hs : Steady s0 s) :
    SteadyRes s0 (execChopCheck x before after s) := by
  delta execChopCheck
  split
  · exact SteadyRes.next hs
  · extract_lets +onlyGivenNames -merge x1
    have h1 : Steady s0 x1 := State.modPsp_steady hs
    clear_value x1
    refine SteadyRes.ite (SteadyRes.next (State.incSat_steady h1)) ?_
    extract_lets +onlyGivenNames -merge x2
    refine SteadyRes.ite ?_ ?_
    · exact SteadyRes.next (State.setFlag_steady (State.setFlag_steady h1))
    · extract_lets +onlyGivenNames -merge x3
      have h3 : Steady s0 x3 := State.setFlag_steady (State.setFlag_steady h1)
      clear_value x3
      exact SteadyRes.next (State.setFlag_steady h3)

theorem execChopMinTime_steady {s0 : State} {x} {s : State} (hs : Steady s0 s) :
    SteadyRes s0 (execChopMinTime x s) := by
  delta execChopMinTime
  exact SteadyRes.next (State.chopControl_steady (State.modPsp_steady hs))

theorem execChopShort_steady {s0 : State} {x samples} {s : State} (hs : Steady s0 s) :
    SteadyRes s0 (execChopShort x samples s) := by
  delta execChopShort
  extract_lets +onlyGivenNames -merge x1 x2 x3 x4
  refine SteadyRes.ite ?_ (SteadyRes.next hs)
  exact SteadyRes.next (State.journal_steady (State.setFlag_steady hs))

theorem execCrossOpenStart_steady {s0 : State} {x u v w} {s : State} (hs : Steady s0 s) :
    SteadyRes s0 (execCrossOpenStart x u v w s) := by
  delta execCrossOpenStart
  refine SteadyRes.ite ?_ (SteadyRes.next hs)
  extract_lets +onlyGivenNames -merge x1
  have h1 : Steady s0 x1 := State.modPsp_steady hs
  clear_value x1
  extract_lets +onlyGivenNames -merge x2
  have h2 : Steady s0 x2 := State.openValue_steady (State.setFld_steady h1)
  clear_value x2
  exact SteadyRes.next (State.settle_steady (State.compareCross_steady h2))

theorem execDcLinkSample_steady {s0 : State} {x v check} {s : State} (hs : Steady s0 s) :
    SteadyRes s0 (execDcLinkSample x v check s) := by
  delta execDcLinkSample
  extract_lets +onlyGivenNames -merge x1 x2
  have h2 : Steady s0 x2 := State.linkIn_steady hs
  clear_value x2
  refine SteadyRes.ite (SteadyRes.next h2) ?_
  extract_lets +onlyGivenNames -merge x3
  have h3 : Steady s0 x3 := State.chopControl_steady (State.linkLevels_steady h2)
  clear_value x3
  extract_lets +onlyGivenNames -merge x4
  have h4 : Steady s0 x4 := Steady.ite (State.ov2_steady h3) h3
  clear_value x4
  extract_lets +onlyGivenNames -merge x5
  have h5 : Steady s0 x5 := State.compareCross_steady (State.followSrc_steady h4)
  clear_value x5
  extract_lets +onlyGivenNames -merge x6
  have h6 : Steady s0 x6 := Steady.ite (State.leaveService_steady h5) h5
  clear_value x6
  exact SteadyRes.next (State.settle_steady h6)

theorem execOcTrip_steady {s0 : State} {x k} {s : State} (hs : Steady s0 s) :
    SteadyRes s0 (execOcTrip x k s) := by
  delta execOcTrip
  refine SteadyRes.ite (SteadyRes.next hs) ?_
  refine SteadyRes.ite (SteadyRes.next (State.incSat_steady hs)) ?_
  exact SteadyRes.next (State.settle_steady (State.startDwell_steady (State.latchSet_steady hs)))

theorem execOv2React_steady {s0 : State} {x} {s : State} (hs : Steady s0 s) :
    SteadyRes s0 (execOv2React x s) := by
  delta execOv2React
  refine SteadyRes.ite ?_ (SteadyRes.next hs)
  exact SteadyRes.next (State.settle_steady (State.latchOv2_steady hs))

theorem execOv3FlagClear_steady {s0 : State} {x} {s : State} (hs : Steady s0 s) :
    SteadyRes s0 (execOv3FlagClear x s) := by
  delta execOv3FlagClear
  exact SteadyRes.next (State.settle_steady (State.flagFrame_steady (State.setFlag_steady hs)))

theorem execOv3Hold_steady {s0 : State} {x} {s : State} (hs : Steady s0 s) :
    SteadyRes s0 (execOv3Hold x s) := by
  delta execOv3Hold
  refine SteadyRes.ite ?_ (SteadyRes.next hs)
  exact SteadyRes.next (State.settle_steady (State.latchHold_steady (State.latchSet_steady hs)))

theorem execOv3Trip_steady {s0 : State} {x} {s : State} (hs : Steady s0 s) :
    SteadyRes s0 (execOv3Trip x s) := by
  delta execOv3Trip
  refine SteadyRes.ite (SteadyRes.next hs) ?_
  extract_lets +onlyGivenNames -merge x1
  have h1 : Steady s0 x1 := State.flagFrame_steady (State.setFlag_steady hs)
  clear_value x1
  extract_lets +onlyGivenNames -merge x2 x3 x4
  have h4 : Steady s0 x4 := when_steady (fun t5 ht5 => forAll_steady (fun t6 t7 ht7 => State.setFlag_steady ht7) ht5) h1
  clear_value x4
  extract_lets +onlyGivenNames -merge x8
  have h8 : Steady s0 x8 := Steady.ite (State.journal_steady (State.setFlag_steady (State.setFld_steady h4))) h1
  clear_value x8
  extract_lets +onlyGivenNames -merge x9 x10
  have h10 : Steady s0 x10 := forAll_steady (fun t11 t12 ht12 => State.setFlag_steady ht12) h8
  clear_value x10
  extract_lets +onlyGivenNames -merge x13
  have h13 : Steady s0 x13 := Steady.ite (State.latchSet_steady h10) (State.latchSet_steady h10)
  clear_value x13
  extract_lets +onlyGivenNames -merge x14
  have h14 : Steady s0 x14 := forAll_steady (fun t15 t16 ht16 => State.latchSet_steady ht16) h13
  clear_value x14
  exact SteadyRes.next (State.settle_steady h14)

theorem execScDwellEnd_steady {s0 : State} {x} {s : State} (hs : Steady s0 s) :
    SteadyRes s0 (execScDwellEnd x s) := by
  delta execScDwellEnd
  refine SteadyRes.ite ?_ (SteadyRes.next hs)
  exact SteadyRes.next (State.settle_steady (State.chopControl_steady (State.modPsp_steady hs)))

theorem execScTrip_steady {s0 : State} {x} {s : State} (hs : Steady s0 s) :
    SteadyRes s0 (execScTrip x s) := by
  delta execScTrip
  refine SteadyRes.ite (SteadyRes.next hs) ?_
  refine SteadyRes.ite ?_ ?_
  · extract_lets +onlyGivenNames -merge x1
    have h1 : Steady s0 x1 := State.latchSet_steady hs
    clear_value x1
    refine SteadyRes.next ?_
    exact Steady.ite (State.settle_steady (State.latchHold_steady h1)) (State.settle_steady h1)
  · exact SteadyRes.next (State.settle_steady (State.startDwell_steady (State.latchSet_steady hs)))

theorem execTerminalSample_steady {s0 : State} {x u v w flag} {s : State} (hs : Steady s0 s) :
    SteadyRes s0 (execTerminalSample x u v w flag s) := by
  delta execTerminalSample
  extract_lets +onlyGivenNames -merge x1
  have h1 : Steady s0 x1 := State.termTaken_steady hs
  clear_value x1
  extract_lets +onlyGivenNames -merge x2 x3 x4 x5
  have h5 : Steady s0 x5 := by
    unfold x5
    split
    · exact Steady.ite (State.openValue_steady h1) h1
    · exact State.markCross_steady (State.bandValue_steady h1)
    · exact State.modPsp_steady h1
  clear_value x5
  exact SteadyRes.next (State.settle_steady (State.compareCross_steady h5))

theorem execUv_steady {s0 : State} {x} {s : State} (hs : Steady s0 s) :
    SteadyRes s0 (execUv x s) := by
  delta execUv
  refine SteadyRes.ite ?_ (SteadyRes.next hs)
  exact SteadyRes.next (State.settle_steady (State.latchSet_steady hs))

end Sys2Proof.Machine
end

