-- ==== Sys2Proof/Laws/SteadyPwm.lean ====
section
/-! SUPPORT. Machine/Pwm.lean: what each operation keeps (Laws/Steady.lean). -/

namespace Sys2Proof.Machine

theorem State.adjustPhase_steady {s0 s : State} {x cf} (hs : Steady s0 s) :
    Steady s0 (State.adjustPhase s x cf) := by
  delta State.adjustPhase
  refine Steady.ite (State.modPwm_steady hs) ?_
  extract_lets +onlyGivenNames -merge x1 x2 x3 x4 x5
  split
  · rename_i _ y6 q6
    have h6 := SteadyOut.of_eq q6 (SteadyOut.ite (State.freeBool_steady hs) (SteadyOut.mk hs))
    extract_lets +onlyGivenNames -merge x7 x8 x9
    refine Steady.ite (State.modPwm_steady h6) ?_
    extract_lets +onlyGivenNames -merge x10
    exact State.setFlag_steady (State.modPwm_steady h6)

theorem State.edgeAsk_steady {s0 s : State} {n ask} (hs : Steady s0 s) :
    Steady s0 (State.edgeAsk s n ask) := by
  delta State.edgeAsk
  split
  · exact hs
  · exact State.requestOn_steady hs
  · exact State.chanOff_steady hs

theorem State.askPair_steady {s0 s : State} {x k hi lo} (hs : Steady s0 s) :
    Steady s0 (State.askPair s x k hi lo) := by
  delta State.askPair
  refine Steady.ite ?_ ?_
  · extract_lets +onlyGivenNames -merge x1
    extract_lets +onlyGivenNames -merge x2
    have h2 : Steady s0 x2 := forAll_steady (fun t3 t4 ht4 => State.setFlag_steady (State.modGc_steady ht4 (fun _ h => h))) hs
    clear_value x2
    exact Steady.ite h2 (State.shootEvent_steady (Steady.same h2 rfl rfl rfl rfl rfl rfl rfl))
  · extract_lets +onlyGivenNames -merge x5
    have h5 : Steady s0 x5 := Steady.ite (State.edgeAsk_steady hs) hs
    clear_value x5
    extract_lets +onlyGivenNames -merge x6
    have h6 : Steady s0 x6 := Steady.ite (State.edgeAsk_steady h5) h5
    clear_value x6
    extract_lets +onlyGivenNames -merge x7
    have h7 : Steady s0 x7 := Steady.ite (State.edgeAsk_steady h6) h6
    clear_value x7
    exact Steady.ite (State.edgeAsk_steady h7) h7

theorem State.requestLevel_steady {s0 s : State} {x k high} (hs : Steady s0 s) :
    Steady s0 (State.requestLevel s x k high) := by
  delta State.requestLevel
  extract_lets +onlyGivenNames -merge x1 x2 x3
  have h3 : Steady s0 x3 := when_steady (fun t4 ht4 => State.chanOff_steady ht4) hs
  clear_value x3
  exact when_steady (fun t5 ht5 => State.requestOn_steady ht5) h3

theorem State.boundaryLevels_steady {s0 s : State} {x peak} (hs : Steady s0 s) :
    Steady s0 (State.boundaryLevels s x peak) := by
  delta State.boundaryLevels
  refine Steady.ite hs ?_
  extract_lets +onlyGivenNames -merge x1 x2 x3
  exact forAll_steady (fun t4 t5 ht5 => State.requestLevel_steady ht5) hs

theorem State.setFull_steady {s0 s : State} {x k b} (hs : Steady s0 s) :
    Steady s0 (State.setFull s x k b) := by
  delta State.setFull
  exact State.setFld_steady hs

theorem State.clampSet_steady {s0 s : State} {x c} (hs : Steady s0 s) :
    SteadyOut s0 (State.clampSet s x c) := by
  delta State.clampSet
  extract_lets +onlyGivenNames -merge x1
  exact SteadyOut.mk (forAll_steady (fun t2 t3 ht3 => State.setFull_steady ht3) hs)

theorem State.islandGap_steady {s0 s : State} {x} (hs : Steady s0 s) :
    Steady s0 (State.islandGap s x) := by
  delta State.islandGap
  extract_lets +onlyGivenNames -merge x1
  exact Steady.ite (Steady.same hs rfl rfl rfl rfl rfl rfl rfl) hs

theorem State.islandWindow_steady {s0 s : State} {x v} (hs : Steady s0 s) :
    Steady s0 (State.islandWindow s x v) := by
  delta State.islandWindow
  split
  · exact hs
  · refine Steady.ite hs ?_
    extract_lets +onlyGivenNames -merge x1 x2 x3 x4 x5
    exact Steady.same hs rfl rfl rfl rfl rfl rfl rfl

theorem State.lateUpdate_steady {s0 s : State} {x} (hs : Steady s0 s) :
    Steady s0 (State.lateUpdate s x) := by
  delta State.lateUpdate
  exact State.lateLane_steady (State.setFlag_steady (State.incSat_steady hs))

theorem State.loadFall_steady {s0 s : State} {x c} (hs : Steady s0 s) :
    Steady s0 (State.loadFall s x c) := by
  delta State.loadFall
  extract_lets +onlyGivenNames -merge x1 x2
  exact forAll_steady (fun t3 t4 ht4 => State.setSfld_steady ht4) hs

theorem State.loadRise_steady {s0 s : State} {x c} (hs : Steady s0 s) :
    Steady s0 (State.loadRise s x c) := by
  delta State.loadRise
  extract_lets +onlyGivenNames -merge x1 x2
  split
  · extract_lets +onlyGivenNames -merge x3
    extract_lets +onlyGivenNames -merge x4 x5 x6 x7 x8 x9 x10 x11 x12
    have h12 : Steady s0 x12 := forAll_steady (fun t13 t14 ht14 => State.setSfld_steady ht14) hs
    clear_value x12
    extract_lets +onlyGivenNames -merge x15
    have h15 : Steady s0 x15 := forAll_steady (fun t16 t17 ht17 => State.setFld_steady ht17) h12
    clear_value x15
    exact State.modPwm_steady h15

theorem State.loadValley_steady {s0 s : State} {x sh} (hs : Steady s0 s) :
    Steady s0 (State.loadValley s x sh) := by
  delta State.loadValley
  extract_lets +onlyGivenNames -merge x1 x2 x3
  have h3 : Steady s0 x3 := when_steady (fun t4 ht4 => State.modPwm_steady (State.setFld_steady ht4)) hs
  clear_value x3
  extract_lets +onlyGivenNames -merge x5
  have h5 : Steady s0 x5 := State.loadRise_steady h3
  clear_value x5
  exact Steady.ite h5 (State.loadFall_steady h5)

theorem State.markWindows_steady {s0 s : State} {x} (hs : Steady s0 s) :
    Steady s0 (State.markWindows s x) := by
  delta State.markWindows
  extract_lets +onlyGivenNames -merge x1 x2
  have h2 : Steady s0 x2 := State.setFlag_steady (State.setFlag_steady hs)
  clear_value x2
  extract_lets +onlyGivenNames -merge x3
  have h3 : Steady s0 x3 := when_steady (fun t4 ht4 => State.incSat_steady ht4) h2
  clear_value x3
  exact when_steady (fun t5 ht5 => State.incSat_steady ht5) h3

theorem State.processSet_steady {s0 s : State} {x c} (hs : Steady s0 s) :
    SteadyOut s0 (State.processSet s x c) := by
  delta State.processSet
  extract_lets +onlyGivenNames -merge x1 x2 x3
  have h3 : Steady s0 x3 := State.setFlag_steady hs
  clear_value x3
  extract_lets +onlyGivenNames -merge x4 x5
  have h5 : Steady s0 x5 := State.setFlag_steady h3
  clear_value x5
  extract_lets +onlyGivenNames -merge x6
  have h6 : SteadyOut s0 x6 := State.clampSet_steady h5
  clear_value x6
  exact SteadyOut.mk (SteadyOut.snd h6)

theorem State.ready_steady {s0 s : State} {x} (hs : Steady s0 s) :
    SteadyOut s0 (State.ready s x) := by
  delta State.ready
  split
  · extract_lets +onlyGivenNames -merge x1
    have h1 : SteadyOut s0 x1 := State.processSet_steady hs
    clear_value x1
    exact SteadyOut.mk (SteadyOut.snd h1)
  · exact SteadyOut.mk (State.modPwm_steady hs)

theorem State.peak_steady {s0 s : State} {x} (hs : Steady s0 s) :
    Steady s0 (State.peak s x) := by
  delta State.peak
  extract_lets +onlyGivenNames -merge x1
  have h1 : Steady s0 x1 := State.setFlag_steady hs
  clear_value x1
  extract_lets +onlyGivenNames -merge x2
  have h2 : Steady s0 x2 := by
    unfold x2
    refine Steady.ite ?_ h1
    split
    · rename_i _ y3 q3
      have h3 := SteadyOut.of_eq q3 (State.ready_steady (State.islandGap_steady h1))
      split
      · exact State.lateUpdate_steady h3
      · exact State.setFlag_steady (State.modPwm_steady (State.loadFall_steady h3))
  clear_value x2
  exact State.boundaryLevels_steady h2

theorem State.periodEnd_steady {s0 s : State} {x shunt} (hs : Steady s0 s) :
    Steady s0 (State.periodEnd s x shunt) := by
  delta State.periodEnd
  extract_lets +onlyGivenNames -merge x1 x2
  have h2 : Steady s0 x2 := Steady.same hs rfl rfl rfl rfl rfl rfl rfl
  clear_value x2
  extract_lets +onlyGivenNames -merge x3 x4
  have h4 : Steady s0 x4 := Steady.ite (State.bandValue_steady h2) h2
  clear_value x4
  extract_lets +onlyGivenNames -merge x5
  have h5 : Steady s0 x5 := State.modPsp_steady h4
  clear_value x5
  extract_lets +onlyGivenNames -merge x6
  have h6 : Steady s0 x6 := when_steady (fun t7 ht7 => State.trackOffset_steady ht7) h5
  clear_value x6
  extract_lets +onlyGivenNames -merge x8
  exact Steady.same h6 rfl rfl rfl rfl rfl rfl rfl

theorem State.reconClass_steady {s0 s : State} {x b} (hs : Steady s0 s) :
    Steady s0 (State.reconClass s x b) := by
  delta State.reconClass
  extract_lets +onlyGivenNames -merge x1 x2
  split
  · extract_lets +onlyGivenNames -merge x3
    extract_lets +onlyGivenNames -merge x4
    have h4 : Steady s0 x4 := State.setFld_steady (State.setFld_steady hs)
    clear_value x4
    extract_lets +onlyGivenNames -merge x5 x6
    have h6 : Steady s0 x6 := State.modMfe_steady h4
    clear_value x6
    exact Steady.ite (State.crossCheck_steady h6) h6
  · extract_lets +onlyGivenNames -merge x7
    have h7 : Steady s0 x7 := State.setFld_steady (State.setFld_steady hs)
    clear_value x7
    exact State.incSat_steady (State.modMfe_steady h7)
  · extract_lets +onlyGivenNames -merge x8
    have h8 : Steady s0 x8 := State.setFld_steady (State.setFld_steady hs)
    clear_value x8
    exact State.incSat_steady (State.modMfe_steady h8)
  · exact State.modMfe_steady (State.setFld_steady (State.setFld_steady hs))

theorem State.releaseRun_steady {s0 s : State} {x} (hs : Steady s0 s) :
    Steady s0 (State.releaseRun s x) := by
  delta State.releaseRun
  extract_lets +onlyGivenNames -merge x1
  refine Steady.ite hs ?_
  extract_lets +onlyGivenNames -merge x2
  have h2 : Steady s0 x2 := State.setFlag_steady (State.enterSet_steady hs)
  clear_value x2
  exact State.modPwm_steady (State.setFld_steady h2)

theorem State.valley_steady {s0 s : State} {x shunt} (hs : Steady s0 s) :
    Steady s0 (State.valley s x shunt) := by
  delta State.valley
  extract_lets +onlyGivenNames -merge x1 x2
  have h2 : Steady s0 x2 := State.markWindows_steady (State.periodEnd_steady (State.islandGap_steady hs))
  clear_value x2
  extract_lets +onlyGivenNames -merge x3 x4
  have h4 : Steady s0 x4 := Steady.same h2 rfl rfl rfl rfl rfl rfl rfl
  clear_value x4
  extract_lets +onlyGivenNames -merge x5
  have h5 : Steady s0 x5 := State.placeCarrier_steady h4
  clear_value x5
  split
  · rename_i _ y6 q6
    have h6 := SteadyOut.of_eq q6 (State.ready_steady h5)
    extract_lets +onlyGivenNames -merge x7
    have h7 : Steady s0 x7 := when_steady (fun t8 ht8 => State.setFlag_steady (State.modPwm_steady ht8)) h6
    clear_value x7
    extract_lets +onlyGivenNames -merge x9
    have h9 : Steady s0 x9 := State.releaseRun_steady h7
    clear_value x9
    extract_lets +onlyGivenNames -merge x10
    have h10 : Steady s0 x10 := by
      unfold x10
      split
      · exact State.lateUpdate_steady h9
      · exact State.loadValley_steady h9
    clear_value x10
    exact State.boundaryLevels_steady (State.adjustPhase_steady h10)

theorem execPhaseWrite_steady {s0 : State} {w x phase} {s : State} (hs : Steady s0 s) :
    SteadyRes s0 (execPhaseWrite w x phase s) := by
  delta execPhaseWrite
  exact State.access_steady hs (fun t1 ht1 => State.writePhase_steady ht1)

theorem execPwmEdge_steady {s0 : State} {x k corrupt} {s : State} (hs : Steady s0 s) :
    SteadyRes s0 (execPwmEdge x k corrupt s) := by
  delta execPwmEdge
  refine SteadyRes.ite (SteadyRes.next hs) ?_
  split
  · exact SteadyRes.next (State.settle_steady (State.shootCheck_steady (State.askPair_steady hs)))
  · refine SteadyRes.ite ?_ (SteadyRes.next hs)
    extract_lets +onlyGivenNames -merge x1
    exact SteadyRes.next (State.settle_steady (State.shootCheck_steady (State.askPair_steady hs)))

theorem execSafetyGap_steady {s0 : State} {x} {s : State} (hs : Steady s0 s) :
    SteadyRes s0 (execSafetyGap x s) := by
  delta execSafetyGap
  exact SteadyRes.ite (SteadyRes.next (Steady.same hs rfl rfl rfl rfl rfl rfl rfl)) (SteadyRes.next hs)

theorem execShuntTrigger_steady {s0 : State} {x b v ps} {s : State} (hs : Steady s0 s) :
    SteadyRes s0 (execShuntTrigger x b v ps s) := by
  delta execShuntTrigger
  refine SteadyRes.ite (SteadyRes.next hs) ?_
  extract_lets +onlyGivenNames -merge x1 x2 x3 x4
  have h4 : Steady s0 x4 := Steady.ite hs (State.islandWindow_steady hs)
  clear_value x4
  refine SteadyRes.ite ?_ ?_
  · refine SteadyRes.next ?_
    exact State.settle_steady (Steady.ite (State.reconClass_steady h4) (State.modMfe_steady h4))
  · split
    · rename_i _ y5 q5
      have h5 := SteadyOut.of_eq q5 (State.inlineAmps_steady h4)
      extract_lets +onlyGivenNames -merge x6
      refine SteadyRes.next ?_
      exact State.settle_steady (Steady.ite (State.reconClass_steady h5) (State.modMfe_steady h5))

theorem execUpdateBoundary_steady {s0 : State} {x peak shunt} {s : State} (hs : Steady s0 s) :
    SteadyRes s0 (execUpdateBoundary x peak shunt s) := by
  delta execUpdateBoundary
  refine SteadyRes.ite (SteadyRes.next hs) ?_
  extract_lets +onlyGivenNames -merge x1
  have h1 : Steady s0 x1 := Steady.ite (State.peak_steady hs) (State.valley_steady hs)
  clear_value x1
  extract_lets +onlyGivenNames -merge x2
  have h2 : Steady s0 x2 := Steady.ite h1 (State.searchUpdate_steady h1)
  clear_value x2
  exact SteadyRes.next (State.settle_steady (State.shootCheck_steady h2))

theorem execUpdateRequest_steady {s0 : State} {x} {s : State} (hs : Steady s0 s) :
    SteadyRes s0 (execUpdateRequest x s) := by
  delta execUpdateRequest
  split
  · exact SteadyRes.next hs
  · refine SteadyRes.ite (SteadyRes.next hs) ?_
    extract_lets +onlyGivenNames -merge x1
    have h1 : SteadyOut s0 x1 := State.processSet_steady hs
    clear_value x1
    exact SteadyRes.next (State.modPwm_steady (SteadyOut.snd h1))

end Sys2Proof.Machine
end

