-- ==== Sys2Proof/Laws/SteadyRings.lean ====
section
/-! SUPPORT. Machine/Rings.lean: what each operation keeps (Laws/Steady.lean). -/

namespace Sys2Proof.Machine

theorem State.joinFw_steady {s0 s : State} {n d} (hs : Steady s0 s) :
    Steady s0 (State.joinFw s n d) := by
  delta State.joinFw
  exact when_steady (fun t1 ht1 => State.putFwq_steady ht1) hs

theorem State.completeSlot_steady {s0 s : State} {n op cid status} (hs : Steady s0 s) :
    Steady s0 (State.completeSlot s n op cid status) := by
  delta State.completeSlot
  exact State.complete_steady hs

theorem State.setChain_steady {s0 s : State} {n c} (hs : Steady s0 s) :
    Steady s0 (State.setChain s n c) := by
  delta State.setChain
  exact State.setFlag_steady (State.modSq_steady hs)

theorem State.fetchAlone_steady {s0 s : State} {n d} (hs : Steady s0 s) :
    Steady s0 (State.fetchAlone s n d) := by
  delta State.fetchAlone
  extract_lets +onlyGivenNames -merge x1
  have h1 : Steady s0 x1 := State.modSq_steady hs
  clear_value x1
  refine Steady.ite (State.joinFw_steady h1) ?_
  refine Steady.ite (State.incSat_steady (State.completeSlot_steady h1)) ?_
  exact Steady.ite (State.setChain_steady h1) (State.completeSlot_steady h1)

theorem State.fetch_steady {s0 s : State} {n d} (hs : Steady s0 s) :
    Steady s0 (State.fetch s n d) := by
  delta State.fetch
  extract_lets +onlyGivenNames -merge x1
  have h1 : Steady s0 x1 := State.setFld_steady hs
  clear_value x1
  split
  · exact State.fetchAlone_steady h1
  · refine Steady.ite ?_ ?_
    · exact Steady.ite (State.joinFw_steady (State.setChain_steady h1)) (State.setChain_steady h1)
    · exact State.fetchAlone_steady (State.setChain_steady (State.completeSlot_steady h1))

theorem State.burst_steady {s0 s : State} {n : Fin 16} {k : Nat} (hs : Steady s0 s) : Steady s0 (State.burst n k s) := by
  induction k generalizing s with
  | zero => exact hs
  | succ k ih =>
    simp only [State.burst]
    split
    · exact hs
    · exact Steady.ite (ih (State.fetch_steady (State.modSq_steady hs))) hs

theorem State.countStall_steady {s0 s : State} {n} (hs : Steady s0 s) :
    Steady s0 (State.countStall s n) := by
  delta State.countStall
  extract_lets +onlyGivenNames -merge x1
  exact when_steady (fun t2 ht2 => State.modCq_steady (State.incSat_steady ht2)) hs

theorem State.cqDrain1_steady {s0 s : State} {n} (hs : Steady s0 s) :
    Steady s0 (State.cqDrain1 s n) := by
  delta State.cqDrain1
  split
  · exact hs
  · exact Steady.ite hs (State.cqWrite_steady (State.modCq_steady hs))

theorem State.cqDrain_steady {s0 s : State} {n} (hs : Steady s0 s) :
    Steady s0 (State.cqDrain s n) := by
  delta State.cqDrain
  extract_lets +onlyGivenNames -merge x1
  have h1 : Steady s0 x1 := foldl_steady (fun t2 t3 ht2 => State.cqDrain1_steady ht2) hs
  clear_value x1
  extract_lets +onlyGivenNames -merge x4
  have h4 : Steady s0 x4 := State.modCq_steady h1
  clear_value x4
  refine Steady.ite ?_ h4
  extract_lets +onlyGivenNames -merge x5
  exact State.event_steady (Steady.same h4 rfl rfl rfl rfl rfl rfl rfl)

theorem State.doorbell_steady {s0 s : State} (hs : Steady s0 s) :
    Steady s0 (State.doorbell s) := by
  delta State.doorbell
  exact State.startTimer_steady (State.setFlag_steady hs)

theorem State.startCq_steady {s0 s : State} {n} (hs : Steady s0 s) :
    Steady s0 (State.startCq s n) := by
  delta State.startCq
  extract_lets +onlyGivenNames -merge x1
  have h1 : Steady s0 x1 := State.setFlag_steady (State.setReg_steady hs)
  clear_value x1
  extract_lets +onlyGivenNames -merge x2
  have h2 : Steady s0 x2 := State.setFlag_steady (State.setFlag_steady h1)
  clear_value x2
  exact State.modCq_steady h2

theorem State.reinitCq_steady {s0 s : State} {n} (hs : Steady s0 s) :
    Steady s0 (State.reinitCq s n) := by
  delta State.reinitCq
  exact State.cqDrain_steady (State.startCq_steady hs)

theorem State.startSq_steady {s0 s : State} {n} (hs : Steady s0 s) :
    Steady s0 (State.startSq s n) := by
  delta State.startSq
  extract_lets +onlyGivenNames -merge x1
  have h1 : Steady s0 x1 := State.modSq_steady hs
  clear_value x1
  exact State.setChain_steady (State.setFlag_steady (State.setReg_steady h1))

theorem State.releaseHeld_steady {s0 s : State} {n} (hs : Steady s0 s) :
    Steady s0 (State.releaseHeld s n) := by
  delta State.releaseHeld
  extract_lets +onlyGivenNames -merge x1 x2
  have h2 : Steady s0 x2 := State.modSq_steady hs
  clear_value x2
  exact forAll_steady (fun t3 t4 ht4 => State.cqPush_steady ht4) h2

theorem State.reinitSq_steady {s0 s : State} {n} (hs : Steady s0 s) :
    Steady s0 (State.reinitSq s n) := by
  delta State.reinitSq
  extract_lets +onlyGivenNames -merge x1
  have h1 : Steady s0 x1 := State.finish_steady hs
  clear_value x1
  extract_lets +onlyGivenNames -merge x2 x3 x4
  have h4 : Steady s0 x4 := Steady.same h1 rfl rfl rfl rfl rfl rfl rfl
  clear_value x4
  extract_lets +onlyGivenNames -merge x5
  have h5 : Steady s0 x5 := forAll_steady (fun t6 t7 ht7 => State.complete_steady ht7) h4
  clear_value x5
  extract_lets +onlyGivenNames -merge x8
  have h8 : Steady s0 x8 := State.modSq_steady h5
  clear_value x8
  exact State.releaseHeld_steady (State.startSq_steady h8)

theorem State.ringErrorEvent_steady {s0 s : State} {n} (hs : Steady s0 s) :
    Steady s0 (State.ringErrorEvent s n) := by
  delta State.ringErrorEvent
  extract_lets +onlyGivenNames -merge x1
  have h1 : SteadyOut s0 x1 := State.freeWord_steady hs
  clear_value x1
  exact State.event_steady (SteadyOut.snd h1)

theorem State.ringWrite_steady {s0 s : State} {w r value} {f : State → State} (hs : Steady s0 s) (hf : ∀ t0, Steady s0 t0 → Steady s0 (f t0)) :
    SteadyRes s0 (State.ringWrite s w r value f) := by
  delta State.ringWrite
  exact State.access_steady hs (fun t1 ht1 => hf _ ht1)

theorem State.serve_steady {s0 s : State} (hs : Steady s0 s) :
    Steady s0 (State.serve s) := by
  delta State.serve
  refine Steady.ite hs ?_
  extract_lets +onlyGivenNames -merge x1
  have h1 : Steady s0 x1 := forAll_steady (fun t2 t3 ht3 => State.countStall_steady ht3) hs
  clear_value x1
  split
  · exact h1
  · extract_lets +onlyGivenNames -merge x4
    have h4 : Steady s0 x4 := State.burst_steady h1
    clear_value x4
    exact Steady.same h4 rfl rfl rfl rfl rfl rfl rfl

theorem execChainTimeout_steady {s0 : State} {n} {s : State} (hs : Steady s0 s) :
    SteadyRes s0 (execChainTimeout n s) := by
  delta execChainTimeout
  split
  · exact SteadyRes.next hs
  · refine SteadyRes.ite (SteadyRes.next hs) ?_
    exact SteadyRes.next (State.setChain_steady (State.incSat_steady (State.completeSlot_steady hs)))

theorem execCqHead_steady {s0 : State} {n head} {s : State} (hs : Steady s0 s) :
    SteadyRes s0 (execCqHead n head s) := by
  delta execCqHead
  refine SteadyRes.ite (SteadyRes.next hs) ?_
  extract_lets +onlyGivenNames -merge x1
  have h1 : Steady s0 x1 := State.doorbell_steady hs
  clear_value x1
  extract_lets +onlyGivenNames -merge x2 x3 x4 x5
  refine SteadyRes.ite (SteadyRes.next (State.ringErrorEvent_steady h1)) ?_
  extract_lets +onlyGivenNames -merge x6
  have h6 : Steady s0 x6 := State.setFld_steady h1
  clear_value x6
  extract_lets +onlyGivenNames -merge x7
  have h7 : Steady s0 x7 := State.modCq_steady h6
  clear_value x7
  exact SteadyRes.next (State.cqDrain_steady (State.setFlag_steady h7))

theorem execCqSignalTimer_steady {s0 : State} {n} {s : State} (hs : Steady s0 s) :
    SteadyRes s0 (execCqSignalTimer n s) := by
  delta execCqSignalTimer
  extract_lets +onlyGivenNames -merge x1
  exact SteadyRes.ite (SteadyRes.next (State.cqSignal_steady hs)) (SteadyRes.next hs)

theorem execRingDisable_steady {s0 : State} {w r} {s : State} (hs : Steady s0 s) :
    SteadyRes s0 (execRingDisable w r s) := by
  delta execRingDisable
  refine State.ringWrite_steady hs ?_
  intro t1 ht1
  split
  · exact State.setFlag_steady ht1
  · extract_lets +onlyGivenNames -merge x2
    extract_lets +onlyGivenNames -merge x3
    have h3 : Steady s0 x3 := State.modCq_steady (State.setFlag_steady ht1)
    clear_value x3
    exact State.setFld_steady h3

theorem execRingEnable_steady {s0 : State} {w r} {s : State} (hs : Steady s0 s) :
    SteadyRes s0 (execRingEnable w r s) := by
  delta execRingEnable
  refine State.ringWrite_steady hs ?_
  intro t1 ht1
  split
  · exact State.releaseHeld_steady (State.startSq_steady (State.setFlag_steady ht1))
  · exact State.cqDrain_steady (State.startCq_steady (State.setFlag_steady ht1))

theorem execRingError_steady {s0 : State} {r} {s : State} (hs : Steady s0 s) :
    SteadyRes s0 (execRingError r s) := by
  delta execRingError
  split
  · refine SteadyRes.ite ?_ (SteadyRes.next hs)
    exact SteadyRes.next (State.ringErrorEvent_steady (State.setFlag_steady hs))
  · refine SteadyRes.ite ?_ (SteadyRes.next hs)
    exact SteadyRes.next (State.ringErrorEvent_steady (State.setFlag_steady hs))

theorem execSqTail_steady {s0 : State} {n tail slots} {s : State} (hs : Steady s0 s) :
    SteadyRes s0 (execSqTail n tail slots s) := by
  delta execSqTail
  refine SteadyRes.ite (SteadyRes.next hs) ?_
  extract_lets +onlyGivenNames -merge x1
  have h1 : Steady s0 x1 := State.doorbell_steady hs
  clear_value x1
  extract_lets +onlyGivenNames -merge x2 x3 x4 x5
  refine SteadyRes.ite ?_ ?_
  · exact SteadyRes.next (State.ringErrorEvent_steady (State.incSat_steady h1))
  · refine SteadyRes.ite (SteadyRes.next h1) ?_
    extract_lets +onlyGivenNames -merge x6
    have h6 : Steady s0 x6 := State.setFld_steady h1
    clear_value x6
    extract_lets +onlyGivenNames -merge x7
    refine SteadyRes.ite ?_ (SteadyRes.next h6)
    extract_lets +onlyGivenNames -merge x8
    have h8 : Steady s0 x8 := when_steady (fun t9 ht9 => State.startTimer_steady ht9) h6
    clear_value x8
    exact SteadyRes.next (State.serve_steady (State.modSq_steady h8))

end Sys2Proof.Machine
end

