-- ==== Sys2Proof/Laws/SteadyRegWrite.lean ====
section
/-! SUPPORT. Machine/RegWrite.lean: what each operation keeps (Laws/Steady.lean). -/

namespace Sys2Proof.Machine

theorem State.afterStore_steady {s0 s : State} {row a} (hs : Steady s0 s) :
    Steady s0 (State.afterStore s row a) := by
  delta State.afterStore
  refine Steady.ite (Steady.same hs rfl rfl rfl rfl rfl rfl rfl) ?_
  refine Steady.ite ?_ ?_
  · split
    · exact State.modCp_steady hs
    · exact hs
  · refine Steady.ite ?_ ?_
    · extract_lets +onlyGivenNames -merge x1
      exact Steady.ite (State.msix_steady (State.setFld_steady hs)) hs
    · refine Steady.ite ?_ ?_
      · extract_lets +onlyGivenNames -merge x2
        exact State.senseAgain_steady hs
      · refine Steady.ite (State.stepOffset_steady hs) ?_
        refine Steady.ite (State.mfeLive_steady hs) ?_
        exact Steady.ite (State.weftLive_steady hs) (Steady.ite (State.canRestate_steady hs) hs)

theorem State.storeReg_steady {s0 s : State} {row a v hw} (hs : Steady s0 s) :
    Steady s0 (State.storeReg s row a v hw) := by
  delta State.storeReg
  exact Steady.ite hs (State.afterStore_steady (State.setReg_steady hs))

theorem onBit_steady {s0 : State} {v k} {f : State → Res} {s : State} (hf : ∀ t0, Steady s0 t0 → SteadyRes s0 (f t0)) (hs : Steady s0 s) :
    SteadyRes s0 (onBit v k f s) := by
  delta onBit
  exact SteadyRes.ite (hf _ hs) (SteadyRes.next hs)

theorem lckCmd_steady {s0 : State} {w n v} {s : State} (hs : Steady s0 s) :
    SteadyRes s0 (lckCmd w n v s) := by
  delta lckCmd
  split
  · rename_i _ y1 q1
    have h1 := SteadyOut.of_eq q1 (State.freeBool_steady hs)
    split
    · rename_i _ y2 q2
      have h2 := SteadyOut.of_eq q2 (State.freeBool_steady h1)
      refine SteadyRes.ite (SteadyRes.next (State.regLocked_steady h2)) ?_
      refine Res.andThen_steady (onBit_steady (fun t3 ht3 => execStarted_steady ht3) h2) ?_
      intro t4 ht4
      exact onBit_steady (fun t5 ht5 => execCheck_steady ht5) ht4

theorem fbiCtrl_steady {s0 : State} {w n v} {s : State} (hs : Steady s0 s) :
    SteadyRes s0 (fbiCtrl w n v s) := by
  delta fbiCtrl
  extract_lets +onlyGivenNames -merge x1
  have h1 : SteadyRes s0 x1 := by
    unfold x1
    refine Res.andThen_steady (onBit_steady (fun t2 ht2 => execLoad_steady ht2) hs) ?_
    intro t3 ht3
    exact onBit_steady (fun t4 ht4 => execLoadZ_steady ht4) ht3
  clear_value x1
  refine Res.andThen_steady ?_ ?_
  · exact Res.andThen_steady h1 (fun t5 ht5 => onBit_steady (fun t6 ht6 => execTurnZero_steady ht6) ht5)
  · intro t7 ht7
    exact onBit_steady (fun t8 ht8 => execCmpDisarm_steady ht8) ht7

theorem prgCtrl_steady {s0 : State} {w c v} {s : State} (hs : Steady s0 s) :
    SteadyRes s0 (prgCtrl w c v s) := by
  delta prgCtrl
  extract_lets +onlyGivenNames -merge x1
  have h1 : SteadyRes s0 x1 := by
    unfold x1
    refine Res.andThen_steady (onBit_steady (fun t2 ht2 => execHalt_steady ht2) hs) ?_
    intro t3 ht3
    exact onBit_steady (fun t4 ht4 => execDisengage_steady ht4) ht3
  clear_value x1
  refine Res.andThen_steady ?_ ?_
  · exact Res.andThen_steady h1 (fun t5 ht5 => onBit_steady (fun t6 ht6 => execSetPos_steady ht6) ht5)
  · intro t7 ht7
    exact onBit_steady (fun t8 ht8 => execEngage_steady ht8) ht7

theorem doorbellWrite_steady {s0 : State} {w a v} {s : State} (hs : Steady s0 s) :
    SteadyRes s0 (doorbellWrite w a v s) := by
  delta doorbellWrite
  extract_lets +onlyGivenNames -merge x1 x2 x3 x4
  have h4 : SteadyRes s0 x4 := SteadyRes.ite (execSqTail_steady hs) (execCqHead_steady hs)
  clear_value x4
  extract_lets +onlyGivenNames -merge x5
  refine Res.andThen_steady h4 ?_
  intro t6 ht6
  extract_lets +onlyGivenNames -merge x7
  have h7 : Steady s0 x7 := Steady.same ht6 rfl rfl rfl rfl rfl rfl rfl
  clear_value x7
  exact SteadyRes.next (Steady.ite ht6 (State.setFlag_steady h7))

theorem ringCfgWrite_steady {s0 : State} {w row r v} {s : State} (hs : Steady s0 s) :
    SteadyRes s0 (ringCfgWrite w row r v s) := by
  delta ringCfgWrite
  refine Res.andThen_steady ?_ ?_
  · refine State.access_steady hs ?_
    intro t1 ht1
    extract_lets +onlyGivenNames -merge x2 x3 x4
    exact State.setReg_steady ht1
  · intro t5 ht5
    refine SteadyRes.ite (SteadyRes.next ht5) ?_
    refine SteadyRes.ite (execRingEnable_steady ht5) ?_
    exact SteadyRes.ite (execRingDisable_steady ht5) (SteadyRes.next ht5)

theorem actOn_steady {s0 : State} {w row a v} {s : State} (hs : Steady s0 s) :
    SteadyActs s0 (actOn w row a v s) := by
  delta actOn
  extract_lets +onlyGivenNames -merge x1
  refine SteadyActs.ite (SteadyActs.mk (execSysReset_steady hs)) ?_
  refine SteadyActs.ite ?_ ?_
  · refine SteadyActs.mk ?_
    refine SteadyRes.ite (execModereqDusk_steady hs) ?_
    refine SteadyRes.ite (execModereqServiceEnter_steady hs) ?_
    exact SteadyRes.ite (execModereqServiceLeave_steady hs) (SteadyRes.next hs)
  · refine SteadyActs.ite (SteadyActs.mk (execRtcWrite_steady hs)) ?_
    refine SteadyActs.ite (SteadyActs.map (fun t2 => lckCmd_steady hs)) ?_
    refine SteadyActs.ite ?_ ?_
    · refine SteadyActs.mk ?_
      exact State.access_steady hs (fun t3 ht3 => Steady.ite (State.gateTestStart_steady ht3) ht3)
    · refine SteadyActs.ite (SteadyActs.mk (execPhaseWrite_steady hs)) ?_
      refine SteadyActs.ite ?_ ?_
      · exact SteadyActs.mk (onBit_steady (fun t4 ht4 => execMfeSupplyRestart_steady ht4) hs)
      · refine SteadyActs.ite ?_ ?_
        · exact SteadyActs.mk (onBit_steady (fun t5 ht5 => execKat_steady ht5) hs)
        · refine SteadyActs.ite ?_ ?_
          · refine SteadyActs.mk ?_
            refine Res.andThen_steady (onBit_steady (fun t6 ht6 => execLearnAbort_steady ht6) hs) ?_
            intro t7 ht7
            exact onBit_steady (fun t8 ht8 => execLearn_steady ht8) ht7
          · refine SteadyActs.ite (SteadyActs.mk (fbiCtrl_steady hs)) ?_
            refine SteadyActs.ite (SteadyActs.mk (execCmpWrite_steady hs)) ?_
            refine SteadyActs.ite (SteadyActs.mk (prgCtrl_steady hs)) ?_
            refine SteadyActs.ite ?_ ?_
            · refine SteadyActs.mk ?_
              exact SteadyRes.ite (State.access_steady hs (fun t9 ht9 => id_steady ht9)) (doorbellWrite_steady hs)
            · refine SteadyActs.ite (SteadyActs.mk (execAbort_steady hs)) ?_
              refine SteadyActs.ite ?_ ?_
              · exact SteadyActs.mk (onBit_steady (fun t10 ht10 => execPop_steady ht10) hs)
              · exact SteadyActs.ite (SteadyActs.map (fun t11 => ringCfgWrite_steady hs)) SteadyActs.none

theorem State.writeReg_steady {s0 s : State} {w a v hw} (hs : Steady s0 s) :
    SteadyRes s0 (State.writeReg s w a v hw) := by
  delta State.writeReg
  split
  · exact SteadyRes.next hs
  · refine SteadyRes.ite (SteadyRes.next (State.regLocked_steady hs)) ?_
    refine SteadyRes.ite (SteadyRes.next hs) ?_
    exact SteadyRes.getD (actOn_steady hs) (SteadyRes.next (State.storeReg_steady hs))

theorem execRegisterWrite_steady {s0 : State} {w addr value size hw} {s : State} (hs : Steady s0 s) :
    SteadyRes s0 (execRegisterWrite w addr value size hw s) := by
  delta execRegisterWrite
  extract_lets +onlyGivenNames -merge x1
  refine SteadyRes.ite (SteadyRes.next hs) ?_
  refine SteadyRes.ite (SteadyRes.next (State.sramWrite_steady hs)) ?_
  refine SteadyRes.ite (SteadyRes.next hs) ?_
  refine SteadyRes.ite ?_ (State.writeReg_steady hs)
  exact SteadyRes.next (Steady.ite (State.incSat_steady hs) hs)

end Sys2Proof.Machine
end

