-- ==== Sys2Proof/Laws/SteadyConsole.lean ====
section
/-! SUPPORT. Machine/Console.lean: what each operation keeps (Laws/Steady.lean). -/

namespace Sys2Proof.Machine

theorem State.busRead_steady {s0 s : State} {a} (hs : Steady s0 s) :
    SteadyOut s0 (State.busRead s a) := by
  delta State.busRead
  refine SteadyOut.ite ?_ (SteadyOut.mk hs)
  extract_lets +onlyGivenNames -merge x1
  have h1 : Steady s0 x1 := State.setReg_steady (State.setReg_steady hs)
  clear_value x1
  exact SteadyOut.mk h1

theorem State.busReads_steady {s0 s : State} {a n : Nat} (hs : Steady s0 s) : SteadyOut s0 (s.busReads a n) := by
  induction n generalizing s a with
  | zero => exact hs
  | succ n ih => exact SteadyOut.mk (ih (SteadyOut.snd (State.busRead_steady hs)))

theorem State.rxLevel_steady {s0 s : State} (hs : Steady s0 s) :
    Steady s0 (State.rxLevel s) := by
  delta State.rxLevel
  exact State.setIrq_steady (State.setFld_steady hs)

theorem State.conNext1_steady {s0 s : State} (hs : Steady s0 s) :
    Steady s0 (State.conNext1 s) := by
  delta State.conNext1
  refine Steady.ite hs ?_
  split
  · exact State.rxLevel_steady (State.replyErr_steady (Steady.same hs rfl rfl rfl rfl rfl rfl rfl))
  · refine Steady.ite hs ?_
    exact State.rxLevel_steady (State.replyErr_steady (Steady.same hs rfl rfl rfl rfl rfl rfl rfl))
  · exact hs

theorem State.conNext_steady {s0 s : State} (hs : Steady s0 s) :
    Steady s0 (State.conNext s) := by
  delta State.conNext
  exact foldl_steady (fun t1 t2 ht1 => State.conNext1_steady ht1) hs

theorem State.conAbort_steady {s0 s : State} (hs : Steady s0 s) :
    Steady s0 (State.conAbort s) := by
  delta State.conAbort
  refine Steady.ite ?_ ?_
  · exact State.conNext_steady (State.settle_steady (State.endTest_steady hs))
  · extract_lets +onlyGivenNames -merge x1
    extract_lets +onlyGivenNames -merge x2
    have h2 : Steady s0 x2 := Steady.same hs rfl rfl rfl rfl rfl rfl rfl
    clear_value x2
    extract_lets +onlyGivenNames -merge x3
    have h3 : Steady s0 x3 := State.modWft_steady h2
    clear_value x3
    extract_lets +onlyGivenNames -merge x4
    have h4 : Steady s0 x4 := forAll_steady (fun t5 t6 ht6 => State.modLane_steady ht6) h3
    clear_value x4
    extract_lets +onlyGivenNames -merge x7
    have h7 : Steady s0 x7 := forAll_steady (fun t8 t9 ht9 => when_steady (fun t10 ht10 => State.dropZero_steady ht10) ht9) h4
    clear_value x7
    extract_lets +onlyGivenNames -merge x11
    have h11 : Steady s0 x11 := forAll_steady (fun t12 t13 ht13 => State.modPos_steady ht13) h7
    clear_value x11
    exact State.conNext_steady (State.replyErr_steady h11)

theorem State.takeLine_steady {s0 s : State} (hs : Steady s0 s) :
    Steady s0 (State.takeLine s) := by
  delta State.takeLine
  split
  · exact State.rxLevel_steady (Steady.same hs rfl rfl rfl rfl rfl rfl rfl)
  · exact hs

theorem State.conRun_steady {s0 s : State} {hw} {f : State → State} (hs : Steady s0 s) (hf : ∀ t0, Steady s0 t0 → Steady s0 (f t0)) :
    SteadyRes s0 (State.conRun s hw f) := by
  delta State.conRun
  refine SteadyRes.ite (SteadyRes.next hs) ?_
  extract_lets +onlyGivenNames -merge x1
  have h1 : Steady s0 x1 := State.takeLine_steady hs
  clear_value x1
  exact SteadyRes.next (State.conNext_steady (Steady.ite (State.replyErr_steady h1) (hf _ h1)))

theorem State.conText_steady {s0 s : State} {c} (hs : Steady s0 s) :
    Steady s0 (State.conText s c) := by
  delta State.conText
  refine Steady.ite (Steady.same hs rfl rfl rfl rfl rfl rfl rfl) ?_
  refine Steady.ite (Steady.same hs rfl rfl rfl rfl rfl rfl rfl) ?_
  refine Steady.ite ?_ ?_
  · exact Steady.same hs rfl rfl rfl rfl rfl rfl rfl
  · exact Steady.same hs rfl rfl rfl rfl rfl rfl rfl

theorem State.endLine_steady {s0 s : State} (hs : Steady s0 s) :
    Steady s0 (State.endLine s) := by
  delta State.endLine
  extract_lets +onlyGivenNames -merge x1 x2 x3
  have h3 : Steady s0 x3 := Steady.same hs rfl rfl rfl rfl rfl rfl rfl
  clear_value x3
  exact State.conNext_steady h3

theorem State.inModes_steady {s0 s : State} {ms} {f : State → State} (hs : Steady s0 s) (hf : ∀ t0, Steady s0 t0 → Steady s0 (f t0)) :
    Steady s0 (State.inModes s ms f) := by
  delta State.inModes
  exact Steady.ite (hf _ hs) (State.replyErr_steady hs)

theorem State.modeReply_steady {s0 s : State} (hs : Steady s0 s) :
    Steady s0 (State.modeReply s) := by
  delta State.modeReply
  extract_lets +onlyGivenNames -merge x1
  exact Steady.ite (State.reply_steady hs) (Steady.ite (State.say_steady hs) (State.replyErr_steady hs))

theorem State.select_steady {s0 s : State} {q} (hs : Steady s0 s) :
    Steady s0 (State.select s q) := by
  delta State.select
  extract_lets +onlyGivenNames -merge x1 x2
  have h2 : Steady s0 x2 := State.setFlag_steady (Steady.same hs rfl rfl rfl rfl rfl rfl rfl)
  clear_value x2
  exact State.setFld_steady h2

theorem State.showRegs_steady {s0 s : State} {l} (hs : Steady s0 s) :
    Steady s0 (State.showRegs s l) := by
  delta State.showRegs
  exact State.reply_steady hs

theorem execAtest_steady {s0 : State} {q} {s : State} (hs : Steady s0 s) :
    SteadyRes s0 (execAtest q s) := by
  delta execAtest
  refine State.conRun_steady hs ?_
  intro t1 ht1
  refine Steady.ite (State.reply_steady (State.select_steady ht1)) ?_
  exact State.replyErr_steady (State.select_steady ht1)

theorem execAtestOff_steady {s0 s : State} (hs : Steady s0 s) :
    SteadyRes s0 (execAtestOff s) := by
  delta execAtestOff
  exact State.conRun_steady hs (fun t1 ht1 => State.reply_steady (State.select_steady ht1))

theorem execConsoleAbort_steady {s0 s : State} (hs : Steady s0 s) :
    SteadyRes s0 (execConsoleAbort s) := by
  delta execConsoleAbort
  refine SteadyRes.ite ?_ (SteadyRes.next hs)
  exact SteadyRes.next (State.conAbort_steady (State.startTimer_steady hs))

theorem execConsoleChar_steady {s0 : State} {c} {s : State} (hs : Steady s0 s) :
    SteadyRes s0 (execConsoleChar c s) := by
  delta execConsoleChar
  refine SteadyRes.ite (SteadyRes.next hs) ?_
  extract_lets +onlyGivenNames -merge x1
  have h1 : Steady s0 x1 := State.startTimer_steady (State.say_steady hs)
  clear_value x1
  extract_lets +onlyGivenNames -merge x2 x3 x4
  have h4 : Steady s0 x4 := Steady.same h1 rfl rfl rfl rfl rfl rfl rfl
  clear_value x4
  refine SteadyRes.ite (SteadyRes.next (State.conAbort_steady h4)) ?_
  refine SteadyRes.ite (SteadyRes.next h4) ?_
  refine SteadyRes.ite ?_ ?_
  · exact SteadyRes.next (State.rxLevel_steady (State.endLine_steady h4))
  · exact SteadyRes.next (State.rxLevel_steady (State.conText_steady h4))

theorem execDawnRetry_steady {s0 s : State} (hs : Steady s0 s) :
    SteadyRes s0 (execDawnRetry s) := by
  delta execDawnRetry
  refine State.conRun_steady hs ?_
  intro t1 ht1
  exact Steady.ite (State.resetNow_steady (State.reply_steady ht1)) (State.replyErr_steady ht1)

theorem execDusk_steady {s0 s : State} (hs : Steady s0 s) :
    SteadyRes s0 (execDusk s) := by
  delta execDusk
  refine State.conRun_steady hs ?_
  intro t1 ht1
  exact Steady.ite (State.reply_steady ht1) (State.modeReply_steady (State.requestDusk_steady ht1))

theorem execLog_steady {s0 : State} {n} {s : State} (hs : Steady s0 s) :
    SteadyRes s0 (execLog n s) := by
  delta execLog
  refine State.conRun_steady hs ?_
  intro t1 ht1
  extract_lets +onlyGivenNames -merge x2
  refine Steady.ite (State.say_steady ht1) ?_
  exact Steady.ite (State.replyErr_steady ht1) (State.reply_steady ht1)

theorem execLogSeq_steady {s0 : State} {seq n} {s : State} (hs : Steady s0 s) :
    SteadyRes s0 (execLogSeq seq n s) := by
  delta execLogSeq
  refine State.conRun_steady hs ?_
  intro t1 ht1
  extract_lets +onlyGivenNames -merge x2
  refine Steady.ite (State.say_steady ht1) ?_
  refine Steady.ite (State.replyErr_steady ht1) ?_
  extract_lets +onlyGivenNames -merge x3
  exact State.reply_steady ht1

theorem execPar_steady {s0 : State} {p value} {s : State} (hs : Steady s0 s) :
    SteadyRes s0 (execPar p value s) := by
  delta execPar
  refine State.conRun_steady hs ?_
  intro t1 ht1
  split
  · exact Res.stateOr_steady (execParamRead_steady ht1) ht1
  · refine Steady.ite (State.replyErr_steady ht1) ?_
    extract_lets +onlyGivenNames -merge x2 x3
    have h3 : Steady s0 x3 := Res.stateOr_steady (execParamWrite_steady ht1) ht1
    clear_value x3
    exact when_steady (fun t4 ht4 => State.journal_steady ht4) h3

theorem execRd_steady {s0 : State} {addr n pins} {s : State} (hs : Steady s0 s) :
    SteadyRes s0 (execRd addr n pins s) := by
  delta execRd
  refine State.conRun_steady hs ?_
  intro t1 ht1
  extract_lets +onlyGivenNames -merge x2
  have h2 : Steady s0 x2 := State.setFld_steady ht1
  clear_value x2
  refine Steady.ite (State.replyErr_steady h2) ?_
  extract_lets +onlyGivenNames -merge x3
  have h3 : SteadyOut s0 x3 := State.busReads_steady h2
  clear_value x3
  exact State.reply_steady (SteadyOut.snd h3)

theorem execReset_steady {s0 : State} {key hard} {s : State} (hs : Steady s0 s) :
    SteadyRes s0 (execReset key hard s) := by
  delta execReset
  refine State.conRun_steady hs ?_
  intro t1 ht1
  refine Steady.ite (State.replyErr_steady ht1) ?_
  exact Steady.ite (State.say_steady ht1) (State.requestReset_steady (State.reply_steady ht1))

theorem execService_steady {s0 s : State} (hs : Steady s0 s) :
    SteadyRes s0 (execService s) := by
  delta execService
  exact State.conRun_steady hs (fun t1 ht1 => State.modeReply_steady (State.requestService_steady ht1))

theorem execServiceExit_steady {s0 s : State} (hs : Steady s0 s) :
    SteadyRes s0 (execServiceExit s) := by
  delta execServiceExit
  exact State.conRun_steady hs (fun t1 ht1 => State.modeReply_steady (State.requestLeave_steady ht1))

theorem execStatus_steady {s0 s : State} (hs : Steady s0 s) :
    SteadyRes s0 (execStatus s) := by
  delta execStatus
  refine State.conRun_steady hs ?_
  intro t1 ht1
  exact Steady.ite (State.reply_steady ht1) (State.reply_steady ht1)

theorem execWr_steady {s0 : State} {addr value hw} {s : State} (hs : Steady s0 s) :
    SteadyRes s0 (execWr addr value hw s) := by
  delta execWr
  refine State.conRun_steady hs ?_
  intro t1 ht1
  refine State.inModes_steady ht1 ?_
  intro t2 ht2
  refine Steady.ite (State.replyErr_steady ht2) ?_
  extract_lets +onlyGivenNames -merge x3 x4
  have h4 : Steady s0 x4 := Res.stateOr_steady (State.writeReg_steady ht2) ht2
  clear_value x4
  exact Steady.ite (State.replyErr_steady h4) (State.reply_steady (State.journal_steady h4))

end Sys2Proof.Machine
end

