-- ==== Sys2Proof/Laws/SteadyEn.lean ====
section
/-! SUPPORT. Machine/En.lean: what each operation keeps (Laws/Steady.lean). -/

namespace Sys2Proof.Machine

theorem State.clearAxisBit_steady {s0 s : State} {x} (hs : Steady s0 s) :
    Steady s0 (State.clearAxisBit s x) := by
  delta State.clearAxisBit
  extract_lets +onlyGivenNames -merge x1 x2
  refine Steady.ite hs ?_
  extract_lets +onlyGivenNames -merge x3
  have h3 : Steady s0 x3 := State.setFlag_steady hs
  clear_value x3
  split
  · exact Steady.same h3 rfl rfl rfl rfl rfl rfl rfl
  · exact h3

theorem State.clearAxisFaults_steady {s0 s : State} {a} (hs : Steady s0 s) :
    Steady s0 (State.clearAxisFaults s a) := by
  delta State.clearAxisFaults
  refine Steady.ite hs ?_
  extract_lets +onlyGivenNames -merge x1 x2 x3
  have h3 : Steady s0 x3 := when_steady (fun t4 ht4 => State.setFlag_steady ht4) hs
  clear_value x3
  extract_lets +onlyGivenNames -merge x5
  have h5 : Steady s0 x5 := when_steady (fun t6 ht6 => State.setFlag_steady ht6) h3
  clear_value x5
  extract_lets +onlyGivenNames -merge x7
  have h7 : Steady s0 x7 := when_steady (fun t8 ht8 => State.setFlag_steady ht8) h5
  clear_value x7
  extract_lets +onlyGivenNames -merge x9
  have h9 : Steady s0 x9 := when_steady (fun t10 ht10 => State.setFlag_steady ht10) h7
  clear_value x9
  extract_lets +onlyGivenNames -merge x11
  have h11 : Steady s0 x11 := State.setFlag_steady (State.setFlag_steady h9)
  clear_value x11
  extract_lets +onlyGivenNames -merge x12
  exact Steady.ite (State.setAxis_steady h11) h11

theorem State.clearConns_steady {s0 s : State} (hs : Steady s0 s) :
    Steady s0 (State.clearConns s) := by
  delta State.clearConns
  refine forAll_steady ?_ hs
  intro t1 t2 ht2
  exact Steady.ite (State.setFlag_steady (State.setFlag_steady (State.setFlag_steady ht2))) ht2

theorem State.clearDev_steady {s0 s : State} {c} (hs : Steady s0 s) :
    Steady s0 (State.clearDev s c) := by
  delta State.clearDev
  exact Steady.ite (State.setFlag_steady hs) hs

theorem State.clearGate_steady {s0 s : State} {n} (hs : Steady s0 s) :
    Steady s0 (State.clearGate s n) := by
  delta State.clearGate
  extract_lets +onlyGivenNames -merge x1
  have h1 : Steady s0 x1 := State.setFlag_steady hs
  clear_value x1
  extract_lets +onlyGivenNames -merge x2
  have h2 : Steady s0 x2 := when_steady (fun t3 ht3 => State.setFlag_steady ht3) h1
  clear_value x2
  extract_lets +onlyGivenNames -merge x4 x5
  have h5 : Steady s0 x5 := when_steady (fun t6 ht6 => State.setFlag_steady ht6) h2
  clear_value x5
  extract_lets +onlyGivenNames -merge x7
  have h7 : Steady s0 x7 := when_steady (fun t8 ht8 => State.setFlag_steady ht8) h5
  clear_value x7
  extract_lets +onlyGivenNames -merge x9
  exact State.setFld_steady h7

theorem State.clearGates_steady {s0 s : State} (hs : Steady s0 s) :
    Steady s0 (State.clearGates s) := by
  delta State.clearGates
  extract_lets +onlyGivenNames -merge x1
  have h1 : Steady s0 x1 := forAll_steady (fun t2 t3 ht3 => State.clearGate_steady ht3) hs
  clear_value x1
  exact forAll_steady (fun t4 t5 ht5 => State.setFlag_steady ht5) h1

theorem State.clearSet_steady {s0 s : State} {x sc oc} (hs : Steady s0 s) :
    Steady s0 (State.clearSet s x sc oc) := by
  delta State.clearSet
  extract_lets +onlyGivenNames -merge x1 x2
  have h2 : Steady s0 x2 := State.setReg_steady hs
  clear_value x2
  extract_lets +onlyGivenNames -merge x3 x4
  have h4 : Steady s0 x4 := when_steady (fun t5 ht5 => State.modPsp_steady ht5) h2
  clear_value x4
  exact Steady.ite h4 (State.setFlag_steady (State.modMfe_steady h4))

theorem State.clearSets_steady {s0 s : State} {sc oc} (hs : Steady s0 s) :
    Steady s0 (State.clearSets s sc oc) := by
  delta State.clearSets
  extract_lets +onlyGivenNames -merge x1 x2
  have h2 : Steady s0 x2 := forAll_steady (fun t3 t4 ht4 => State.clearSet_steady ht4) hs
  clear_value x2
  extract_lets +onlyGivenNames -merge x5
  have h5 : Steady s0 x5 := forAll_steady (fun t6 t7 ht7 => State.clearAxisBit_steady ht7) h2
  clear_value x5
  extract_lets +onlyGivenNames -merge x8
  have h8 : Steady s0 x8 := forAll_steady (fun t9 t10 ht10 => Steady.ite ht10 (State.faultNotice_steady ht10)) h5
  clear_value x8
  exact State.setIrq_steady h8

theorem State.clearPort_steady {s0 s : State} {n} (hs : Steady s0 s) :
    Steady s0 (State.clearPort s n) := by
  delta State.clearPort
  extract_lets +onlyGivenNames -merge x1
  have h1 : Steady s0 x1 := when_steady (fun t2 ht2 => State.setFlag_steady ht2) hs
  clear_value x1
  extract_lets +onlyGivenNames -merge x3
  have h3 : Steady s0 x3 := State.setFlag_steady h1
  clear_value x3
  extract_lets +onlyGivenNames -merge x4
  have h4 : Steady s0 x4 := when_steady (fun t5 ht5 => State.setFlag_steady ht5) h3
  clear_value x4
  extract_lets +onlyGivenNames -merge x6
  have h6 : Steady s0 x6 := when_steady (fun t7 ht7 => State.setFlag_steady ht7) h4
  clear_value x6
  exact State.setFlag_steady h6

theorem State.clearStoDisc_steady {s0 s : State} (hs : Steady s0 s) :
    Steady s0 (State.clearStoDisc s) := by
  delta State.clearStoDisc
  exact Steady.ite (State.setFlag_steady hs) hs

theorem State.clearInputs_steady {s0 s : State} (hs : Steady s0 s) :
    Steady s0 (State.clearInputs s) := by
  delta State.clearInputs
  extract_lets +onlyGivenNames -merge x1
  have h1 : Steady s0 x1 := forAll_steady (fun t2 t3 ht3 => when_steady (fun t4 ht4 => State.setFld_steady ht4) ht3) hs
  clear_value x1
  extract_lets +onlyGivenNames -merge x5
  have h5 : Steady s0 x5 := forAll_steady (fun t6 t7 ht7 => when_steady (fun t8 ht8 => State.setFld_steady ht8) ht7) h1
  clear_value x5
  extract_lets +onlyGivenNames -merge x9
  have h9 : Steady s0 x9 := by
    unfold x9
    refine forAll_steady ?_ h5
    intro t10 t11 ht11
    extract_lets +onlyGivenNames -merge x12
    exact when_steady (fun t13 ht13 => State.setFld_steady ht13) ht11
  clear_value x9
  exact forAll_steady (fun t14 t15 ht15 => State.siPair_steady ht15) h9

theorem State.clearOutputs_steady {s0 s : State} (hs : Steady s0 s) :
    Steady s0 (State.clearOutputs s) := by
  delta State.clearOutputs
  refine forAll_steady ?_ hs
  intro t1 t2 ht2
  extract_lets +onlyGivenNames -merge x3 x4 x5
  have h5 : Steady s0 x5 := when_steady (fun t6 ht6 => State.setFld_steady ht6) ht2
  clear_value x5
  exact when_steady (fun t7 ht7 => State.setFld_steady ht7) h5

theorem State.clearViolations_steady {s0 s : State} {a} (hs : Steady s0 s) :
    Steady s0 (State.clearViolations s a) := by
  delta State.clearViolations
  extract_lets +onlyGivenNames -merge x1
  have h1 : ∀ t0 t1 t2, Steady s0 t2 → Steady s0 (x1 t0 t1 t2) := by
    unfold x1
    exact fun t2 t3 t4 ht4 => Steady.ite (State.setFlag_steady ht4) ht4
  clear_value x1
  extract_lets +onlyGivenNames -merge x5 x6
  have h6 : Steady s0 x6 := h1 _ _ _ hs
  clear_value x6
  extract_lets +onlyGivenNames -merge x7
  have h7 : Steady s0 x7 := h1 _ _ _ h6
  clear_value x7
  extract_lets +onlyGivenNames -merge x8
  have h8 : Steady s0 x8 := h1 _ _ _ h7
  clear_value x8
  extract_lets +onlyGivenNames -merge x9
  have h9 : Steady s0 x9 := h1 _ _ _ h8
  clear_value x9
  extract_lets +onlyGivenNames -merge x10
  have h10 : Steady s0 x10 := State.setFlag_steady (State.setFlag_steady h9)
  clear_value x10
  extract_lets +onlyGivenNames -merge x11
  have h11 : Steady s0 x11 := h1 _ _ _ h10
  clear_value x11
  extract_lets +onlyGivenNames -merge x12
  have h12 : Steady s0 x12 := State.modSfa_steady (State.setFlag_steady h11)
  clear_value x12
  extract_lets +onlyGivenNames -merge x13 x14 x15
  have h15 : Steady s0 x15 := Steady.ite (Steady.same h12 rfl rfl rfl rfl rfl rfl rfl) h11
  clear_value x15
  exact State.sfiAny_steady h15

theorem State.clearFaults_steady {s0 s : State} {sc oc} (hs : Steady s0 s) :
    Steady s0 (State.clearFaults s sc oc) := by
  delta State.clearFaults
  extract_lets +onlyGivenNames -merge x1
  have h1 : Steady s0 x1 := State.clearSets_steady (State.clearGates_steady hs)
  clear_value x1
  extract_lets +onlyGivenNames -merge x2
  have h2 : Steady s0 x2 := forAll_steady (fun t3 t4 ht4 => State.clearPort_steady ht4) h1
  clear_value x2
  extract_lets +onlyGivenNames -merge x5
  have h5 : Steady s0 x5 := forAll_steady (fun t6 t7 ht7 => State.clearDev_steady ht7) h2
  clear_value x5
  extract_lets +onlyGivenNames -merge x8
  have h8 : Steady s0 x8 := by
    unfold x8
    refine State.clearConns_steady ?_
    exact State.clearOutputs_steady (State.clearInputs_steady (State.clearStoDisc_steady h5))
  clear_value x8
  extract_lets +onlyGivenNames -merge x9
  have h9 : Steady s0 x9 := forAll_steady (fun t10 t11 ht11 => State.clearViolations_steady ht11) h8
  clear_value x9
  exact forAll_steady (fun t12 t13 ht13 => State.clearAxisFaults_steady ht13) h9

theorem State.putEn_steady {s0 s : State} {b} (hs : Steady s0 s) :
    Steady s0 (State.putEn s b) := by
  delta State.putEn
  exact State.setFlag_steady (State.setFlag_steady hs)

theorem execEnFall_steady {s0 s : State} (hs : Steady s0 s) :
    SteadyRes s0 (execEnFall s) := by
  delta execEnFall
  extract_lets +onlyGivenNames -merge x1
  have h1 : Steady s0 x1 := State.putEn_steady hs
  clear_value x1
  refine SteadyRes.ite ?_ (SteadyRes.next h1)
  refine SteadyRes.next ?_
  refine State.settle_steady ?_
  exact State.endTest_steady (forAll_steady (fun t2 t3 ht3 => State.axisDisable_steady ht3) h1)

theorem execEnRise_steady {s0 : State} {lowUs sc oc} {s : State} (hs : Steady s0 s) :
    SteadyRes s0 (execEnRise lowUs sc oc s) := by
  delta execEnRise
  extract_lets +onlyGivenNames -merge x1
  have h1 : Steady s0 x1 := State.putEn_steady hs
  clear_value x1
  refine SteadyRes.ite (SteadyRes.next h1) ?_
  refine SteadyRes.ite (SteadyRes.next (State.settle_steady h1)) ?_
  exact SteadyRes.next (State.settle_steady (State.clearFaults_steady h1))

end Sys2Proof.Machine
end

