-- ==== Sys2Proof/Laws/SteadyFieldTests.lean ====
section
/-! SUPPORT. Machine/FieldTests.lean: what each operation keeps (Laws/Steady.lean). -/

namespace Sys2Proof.Machine

theorem State.conBusy_steady {s0 s : State} (hs : Steady s0 s) :
    Steady s0 (State.conBusy s) := by
  delta State.conBusy
  exact Steady.same hs rfl rfl rfl rfl rfl rfl rfl

theorem State.conPoll_steady {s0 s : State} (hs : Steady s0 s) :
    Steady s0 (State.conPoll s) := by
  delta State.conPoll
  extract_lets +onlyGivenNames -merge x1
  have h1 : Steady s0 x1 := by
    unfold x1
    split
    · exact Steady.ite hs (State.gateReply_steady hs)
    · exact hs
  clear_value x1
  extract_lets +onlyGivenNames -merge x2
  have h2 : Steady s0 x2 := by
    unfold x2
    refine forAll_steady ?_ h1
    intro t3 t4 ht4
    refine Steady.ite ht4 ?_
    refine Steady.ite ?_ (Steady.ite (State.say_steady ht4) ht4)
    extract_lets +onlyGivenNames -merge x5
    have h5 : Steady s0 x5 := State.modPos_steady ht4
    clear_value x5
    exact State.reply_steady (Steady.same h5 rfl rfl rfl rfl rfl rfl rfl)
  clear_value x2
  extract_lets +onlyGivenNames -merge x6 x7
  have h7 : Steady s0 x7 := by
    unfold x7
    split
    · exact Steady.ite (State.reply_steady (Steady.same h2 rfl rfl rfl rfl rfl rfl rfl)) h2
    · exact h2
  clear_value x7
  extract_lets +onlyGivenNames -merge x8
  have h8 : Steady s0 x8 := by
    unfold x8
    split
    · exact Steady.ite (State.say_steady h7) h7
    · exact h7
  clear_value x8
  exact State.conNext_steady h8

theorem State.deadPoll_steady {s0 s : State} (hs : Steady s0 s) :
    Steady s0 (State.deadPoll s) := by
  delta State.deadPoll
  split
  · split
    · extract_lets +onlyGivenNames -merge x1
      refine Steady.ite ?_ ?_
      · extract_lets +onlyGivenNames -merge x2
        extract_lets +onlyGivenNames -merge x3
        have h3 : Steady s0 x3 := Steady.same hs rfl rfl rfl rfl rfl rfl rfl
        clear_value x3
        exact State.requestOn_steady (State.chanOff_steady h3)
      · refine Steady.ite ?_ hs
        extract_lets +onlyGivenNames -merge x4 x5
        have h5 : Steady s0 x5 := Steady.same hs rfl rfl rfl rfl rfl rfl rfl
        clear_value x5
        exact State.requestOn_steady (State.chanOff_steady h5)
  · exact hs

theorem State.deadReply_steady {s0 s : State} {n} (hs : Steady s0 s) :
    SteadyOut s0 (State.deadReply s n) := by
  delta State.deadReply
  extract_lets +onlyGivenNames -merge x1
  have h1 : SteadyOut s0 x1 := State.freeNat_steady hs
  clear_value x1
  extract_lets +onlyGivenNames -merge x2
  exact SteadyOut.mk (SteadyOut.snd h1)

theorem State.freeTimes_steady {s0 s : State} {n : Nat} (hs : Steady s0 s) : SteadyOut s0 (s.freeTimes n) := by
  induction n generalizing s with
  | zero => exact hs
  | succ n ih => exact SteadyOut.mk (ih (SteadyOut.snd (State.freeNat_steady hs)))

theorem State.passReply_steady {s0 s : State} {pass l} (hs : Steady s0 s) :
    Steady s0 (State.passReply s pass l) := by
  delta State.passReply
  exact Steady.ite (State.reply_steady hs) (State.replyErr_steady (State.say_steady hs))

theorem State.testAct_steady {s0 s : State} {k x} (hs : Steady s0 s) :
    Steady s0 (State.testAct s k x) := by
  delta State.testAct
  split
  · extract_lets +onlyGivenNames -merge x1
    have h1 : Steady s0 x1 := State.setFld_steady hs
    clear_value x1
    exact Steady.ite (State.requestOn_steady h1) (State.chopControl_steady h1)
  · exact State.requestOn_steady hs
  · extract_lets +onlyGivenNames -merge x2
    exact State.reply_steady (State.modPwm_steady hs)
  · exact State.chopControl_steady hs
  · exact State.modPwm_steady (State.setFlag_steady hs)
  · exact State.modPrg_steady hs
  · exact State.cmpPut_steady (State.setReg_steady hs)
  · exact hs

theorem State.testBegin_steady {s0 s : State} (hs : Steady s0 s) :
    Steady s0 (State.testBegin s) := by
  delta State.testBegin
  split
  · exact Steady.ite hs (State.testAct_steady (Steady.same hs rfl rfl rfl rfl rfl rfl rfl))
  · exact hs

theorem State.testReply_steady {s0 s : State} {k x} (hs : Steady s0 s) :
    Steady s0 (State.testReply s k x) := by
  delta State.testReply
  split
  · extract_lets +onlyGivenNames -merge x1
    have h1 : SteadyOut s0 x1 := State.freeTimes_steady hs
    clear_value x1
    exact State.reply_steady (SteadyOut.snd h1)
  · split
    · extract_lets +onlyGivenNames -merge x2
      extract_lets +onlyGivenNames -merge x3
      have h3 : SteadyOut s0 x3 := State.deadReply_steady hs
      clear_value x3
      extract_lets +onlyGivenNames -merge x4
      have h4 : SteadyOut s0 x4 := State.deadReply_steady (SteadyOut.snd h3)
      clear_value x4
      exact State.reply_steady (SteadyOut.snd h4)
  · extract_lets +onlyGivenNames -merge x5
    exact State.passReply_steady hs
  · extract_lets +onlyGivenNames -merge x6
    have h6 : SteadyOut s0 x6 := State.freeTimes_steady hs
    clear_value x6
    extract_lets +onlyGivenNames -merge x7
    exact State.passReply_steady (SteadyOut.snd h6)
  · extract_lets +onlyGivenNames -merge x8
    extract_lets +onlyGivenNames -merge x9
    exact State.passReply_steady hs
  · exact State.reply_steady hs
  · exact hs

theorem State.testStart_steady {s0 s : State} {k x runsOn} (hs : Steady s0 s) :
    Steady s0 (State.testStart s k x runsOn) := by
  delta State.testStart
  refine Steady.ite (State.replyErr_steady hs) ?_
  refine Steady.ite (State.replyErr_steady hs) ?_
  refine Steady.ite (State.replyErr_steady hs) ?_
  extract_lets +onlyGivenNames -merge x1 x2
  have h2 : Steady s0 x2 := Steady.same hs rfl rfl rfl rfl rfl rfl rfl
  clear_value x2
  exact State.settle_steady (State.testBegin_steady (State.setFlag_steady h2))

theorem execCan_steady {s0 : State} {c} {s : State} (hs : Steady s0 s) :
    SteadyRes s0 (execCan c s) := by
  delta execCan
  exact State.conRun_steady hs (fun t1 ht1 => State.showRegs_steady ht1)

theorem execCanLoop_steady {s0 : State} {c ok} {s : State} (hs : Steady s0 s) :
    SteadyRes s0 (execCanLoop c ok s) := by
  delta execCanLoop
  refine State.conRun_steady hs ?_
  intro t1 ht1
  refine State.inModes_steady ht1 ?_
  intro t2 ht2
  exact Steady.ite (State.replyErr_steady ht2) (State.passReply_steady ht2)

theorem execCanRx_steady {s0 : State} {c} {s : State} (hs : Steady s0 s) :
    SteadyRes s0 (execCanRx c s) := by
  delta execCanRx
  exact State.conRun_steady hs (fun t1 ht1 => State.reply_steady ht1)

theorem execChopTest_steady {s0 : State} {x step} {s : State} (hs : Steady s0 s) :
    SteadyRes s0 (execChopTest x step s) := by
  delta execChopTest
  refine State.conRun_steady hs ?_
  intro t1 ht1
  exact Steady.ite (State.replyErr_steady ht1) (State.testStart_steady ht1)

theorem execCross_steady {s0 : State} {x} {s : State} (hs : Steady s0 s) :
    SteadyRes s0 (execCross x s) := by
  delta execCross
  exact State.conRun_steady hs (fun t1 ht1 => State.reply_steady ht1)

theorem execFbi_steady {s0 : State} {n} {s : State} (hs : Steady s0 s) :
    SteadyRes s0 (execFbi n s) := by
  delta execFbi
  exact State.conRun_steady hs (fun t1 ht1 => State.showRegs_steady ht1)

theorem execFbiCmp_steady {s0 : State} {n value spacing} {s : State} (hs : Steady s0 s) :
    SteadyRes s0 (execFbiCmp n value spacing s) := by
  delta execFbiCmp
  exact State.conRun_steady hs (fun t1 ht1 => State.testStart_steady ht1)

theorem execFbiLoop_steady {s0 : State} {n ok} {s : State} (hs : Steady s0 s) :
    SteadyRes s0 (execFbiLoop n ok s) := by
  delta execFbiLoop
  refine State.conRun_steady hs ?_
  intro t1 ht1
  refine State.inModes_steady ht1 ?_
  intro t2 ht2
  split
  · exact State.say_steady ht2
  · exact State.passReply_steady ht2

theorem execFbiWatch_steady {s0 : State} {n} {s : State} (hs : Steady s0 s) :
    SteadyRes s0 (execFbiWatch n s) := by
  delta execFbiWatch
  refine State.conRun_steady hs ?_
  intro t1 ht1
  extract_lets +onlyGivenNames -merge x2
  have h2 : Steady s0 x2 := State.say_steady ht1
  clear_value x2
  exact Steady.same h2 rfl rfl rfl rfl rfl rfl rfl

theorem execGdc_steady {s0 : State} {n} {s : State} (hs : Steady s0 s) :
    SteadyRes s0 (execGdc n s) := by
  delta execGdc
  exact State.conRun_steady hs (fun t1 ht1 => State.showRegs_steady ht1)

theorem execGdcDead_steady {s0 : State} {h} {s : State} (hs : Steady s0 s) :
    SteadyRes s0 (execGdcDead h s) := by
  delta execGdcDead
  exact State.conRun_steady hs (fun t1 ht1 => State.testStart_steady ht1)

theorem execGdcPulse_steady {s0 : State} {n us} {s : State} (hs : Steady s0 s) :
    SteadyRes s0 (execGdcPulse n us s) := by
  delta execGdcPulse
  refine State.conRun_steady hs ?_
  intro t1 ht1
  exact Steady.ite (State.replyErr_steady ht1) (State.testStart_steady ht1)

theorem execGdcSelftest_steady {s0 : State} {n} {s : State} (hs : Steady s0 s) :
    SteadyRes s0 (execGdcSelftest n s) := by
  delta execGdcSelftest
  refine State.conRun_steady hs ?_
  intro t1 ht1
  refine State.inModes_steady ht1 ?_
  intro t2 ht2
  extract_lets +onlyGivenNames -merge x3
  have h3 : Steady s0 x3 := State.gateTestStart_steady ht2
  clear_value x3
  exact Steady.ite (Steady.same h3 rfl rfl rfl rfl rfl rfl rfl) (State.replyErr_steady h3)

theorem execHif_steady {s0 s : State} (hs : Steady s0 s) :
    SteadyRes s0 (execHif s) := by
  delta execHif
  exact State.conRun_steady hs (fun t1 ht1 => State.showRegs_steady ht1)

theorem execHifCq_steady {s0 : State} {n} {s : State} (hs : Steady s0 s) :
    SteadyRes s0 (execHifCq n s) := by
  delta execHifCq
  exact State.conRun_steady hs (fun t1 ht1 => State.showRegs_steady ht1)

theorem execHifNop_steady {s0 : State} {n} {s : State} (hs : Steady s0 s) :
    SteadyRes s0 (execHifNop n s) := by
  delta execHifNop
  refine State.conRun_steady hs ?_
  intro t1 ht1
  refine Steady.ite (State.replyErr_steady ht1) ?_
  extract_lets +onlyGivenNames -merge x2
  have h2 : SteadyOut s0 x2 := State.freeNat_steady ht1
  clear_value x2
  exact State.reply_steady (SteadyOut.snd h2)

theorem execHifSq_steady {s0 : State} {n} {s : State} (hs : Steady s0 s) :
    SteadyRes s0 (execHifSq n s) := by
  delta execHifSq
  exact State.conRun_steady hs (fun t1 ht1 => State.showRegs_steady ht1)

theorem execLck_steady {s0 s : State} (hs : Steady s0 s) :
    SteadyRes s0 (execLck s) := by
  delta execLck
  exact State.conRun_steady hs (fun t1 ht1 => State.reply_steady ht1)

theorem execLckCheck_steady {s0 : State} {n silent} {s : State} (hs : Steady s0 s) :
    SteadyRes s0 (execLckCheck n silent s) := by
  delta execLckCheck
  refine State.conRun_steady hs ?_
  intro t1 ht1
  refine Steady.ite (State.replyErr_steady ht1) ?_
  extract_lets +onlyGivenNames -merge x2
  have h2 : Steady s0 x2 := State.selfCheck_steady ht1
  clear_value x2
  exact State.passReply_steady h2

theorem execLckHist_steady {s0 : State} {n} {s : State} (hs : Steady s0 s) :
    SteadyRes s0 (execLckHist n s) := by
  delta execLckHist
  refine State.conRun_steady hs ?_
  intro t1 ht1
  extract_lets +onlyGivenNames -merge x2 x3
  exact State.reply_steady ht1

theorem execLoom_steady {s0 : State} {x} {s : State} (hs : Steady s0 s) :
    SteadyRes s0 (execLoom x s) := by
  delta execLoom
  exact State.conRun_steady hs (fun t1 ht1 => State.showRegs_steady ht1)

theorem execLoomKat_steady {s0 : State} {x} {s : State} (hs : Steady s0 s) :
    SteadyRes s0 (execLoomKat x s) := by
  delta execLoomKat
  refine State.conRun_steady hs ?_
  intro t1 ht1
  refine Steady.ite (State.replyErr_steady ht1) ?_
  exact State.settle_steady (State.conBusy_steady (State.modLane_steady (State.katRequest_steady ht1)))

theorem execLoomTime_steady {s0 : State} {x} {s : State} (hs : Steady s0 s) :
    SteadyRes s0 (execLoomTime x s) := by
  delta execLoomTime
  exact State.conRun_steady hs (fun t1 ht1 => State.reply_steady ht1)

theorem execLsh_steady {s0 : State} {a} {s : State} (hs : Steady s0 s) :
    SteadyRes s0 (execLsh a s) := by
  delta execLsh
  exact State.conRun_steady hs (fun t1 ht1 => State.showRegs_steady ht1)

theorem execLshDrop_steady {s0 : State} {a n} {s : State} (hs : Steady s0 s) :
    SteadyRes s0 (execLshDrop a n s) := by
  delta execLshDrop
  refine State.conRun_steady hs ?_
  intro t1 ht1
  refine Steady.ite (State.replyErr_steady ht1) ?_
  exact Steady.ite (State.replyErr_steady ht1) (State.reply_steady (State.modLsh_steady ht1))

theorem execLshMembers_steady {s0 : State} {a} {s : State} (hs : Steady s0 s) :
    SteadyRes s0 (execLshMembers a s) := by
  delta execLshMembers
  exact State.conRun_steady hs (fun t1 ht1 => State.reply_steady ht1)

theorem execMfe_steady {s0 : State} {x} {s : State} (hs : Steady s0 s) :
    SteadyRes s0 (execMfe x s) := by
  delta execMfe
  exact State.conRun_steady hs (fun t1 ht1 => State.showRegs_steady ht1)

theorem execMfeSupplyOn_steady {s0 s : State} (hs : Steady s0 s) :
    SteadyRes s0 (execMfeSupplyOn s) := by
  delta execMfeSupplyOn
  refine State.conRun_steady hs ?_
  intro t1 ht1
  exact Steady.ite (State.reply_steady (State.supplyRestart_steady ht1)) (State.replyErr_steady ht1)

theorem execMfeXc_steady {s0 : State} {x} {s : State} (hs : Steady s0 s) :
    SteadyRes s0 (execMfeXc x s) := by
  delta execMfeXc
  refine State.conRun_steady hs ?_
  intro t1 ht1
  refine Steady.ite (State.replyErr_steady ht1) ?_
  split
  · exact State.replyErr_steady ht1
  · extract_lets +onlyGivenNames -merge x2
    extract_lets +onlyGivenNames -merge x3 x4
    exact State.passReply_steady ht1

theorem execMfeZero_steady {s0 : State} {x} {s : State} (hs : Steady s0 s) :
    SteadyRes s0 (execMfeZero x s) := by
  delta execMfeZero
  refine State.conRun_steady hs ?_
  intro t1 ht1
  refine State.inModes_steady ht1 ?_
  intro t2 ht2
  refine Steady.ite ?_ (State.replyErr_steady ht2)
  exact State.settle_steady (State.conBusy_steady (State.beginOffsets_steady ht2))

theorem execPos_steady {s0 : State} {a} {s : State} (hs : Steady s0 s) :
    SteadyRes s0 (execPos a s) := by
  delta execPos
  exact State.conRun_steady hs (fun t1 ht1 => State.showRegs_steady ht1)

theorem execPosInj_steady {s0 : State} {a ldh lqh} {s : State} (hs : Steady s0 s) :
    SteadyRes s0 (execPosInj a ldh lqh s) := by
  delta execPosInj
  refine State.conRun_steady hs ?_
  intro t1 ht1
  exact Steady.ite (State.replyErr_steady ht1) (State.testStart_steady ht1)

theorem execPosLearn_steady {s0 : State} {a} {s : State} (hs : Steady s0 s) :
    SteadyRes s0 (execPosLearn a s) := by
  delta execPosLearn
  refine State.conRun_steady hs ?_
  intro t1 ht1
  refine Steady.ite (State.replyErr_steady ht1) ?_
  refine Steady.ite (State.replyErr_steady (State.learn_steady ht1)) ?_
  exact State.conBusy_steady (State.modPos_steady (State.learn_steady ht1))

theorem execPosTerm_steady {s0 : State} {a} {s : State} (hs : Steady s0 s) :
    SteadyRes s0 (execPosTerm a s) := by
  delta execPosTerm
  refine State.conRun_steady hs ?_
  intro t1 ht1
  refine Steady.ite (State.replyErr_steady ht1) ?_
  extract_lets +onlyGivenNames -merge x2
  exact State.conBusy_steady (State.modPos_steady ht1)

theorem execPrg_steady {s0 : State} {c} {s : State} (hs : Steady s0 s) :
    SteadyRes s0 (execPrg c s) := by
  delta execPrg
  exact State.conRun_steady hs (fun t1 ht1 => State.showRegs_steady ht1)

theorem execPrgJog_steady {s0 : State} {c n} {s : State} (hs : Steady s0 s) :
    SteadyRes s0 (execPrgJog c n s) := by
  delta execPrgJog
  refine State.conRun_steady hs ?_
  intro t1 ht1
  exact Steady.ite (State.testStart_steady ht1) (State.replyErr_steady ht1)

theorem execPrgLim_steady {s0 : State} {c} {s : State} (hs : Steady s0 s) :
    SteadyRes s0 (execPrgLim c s) := by
  delta execPrgLim
  exact State.conRun_steady hs (fun t1 ht1 => State.reply_steady ht1)

theorem execPsp_steady {s0 : State} {x} {s : State} (hs : Steady s0 s) :
    SteadyRes s0 (execPsp x s) := by
  delta execPsp
  exact State.conRun_steady hs (fun t1 ht1 => State.showRegs_steady ht1)

theorem execPspSctest_steady {s0 : State} {x sc ov3} {s : State} (hs : Steady s0 s) :
    SteadyRes s0 (execPspSctest x sc ov3 s) := by
  delta execPspSctest
  refine State.conRun_steady hs ?_
  intro t1 ht1
  refine State.inModes_steady ht1 ?_
  intro t2 ht2
  refine Steady.ite (State.replyErr_steady ht2) ?_
  extract_lets +onlyGivenNames -merge x3
  exact State.passReply_steady ht2

theorem execPt_steady {s0 : State} {m} {s : State} (hs : Steady s0 s) :
    SteadyRes s0 (execPt m s) := by
  delta execPt
  exact State.conRun_steady hs (fun t1 ht1 => State.showRegs_steady ht1)

theorem execPwm_steady {s0 : State} {x} {s : State} (hs : Steady s0 s) :
    SteadyRes s0 (execPwm x s) := by
  delta execPwm
  exact State.conRun_steady hs (fun t1 ht1 => State.showRegs_steady ht1)

theorem execPwmRun_steady {s0 : State} {x du dv dw} {s : State} (hs : Steady s0 s) :
    SteadyRes s0 (execPwmRun x du dv dw s) := by
  delta execPwmRun
  refine State.conRun_steady hs ?_
  intro t1 ht1
  refine Steady.ite (State.replyErr_steady ht1) ?_
  exact Steady.ite (State.replyErr_steady ht1) (State.testStart_steady ht1)

theorem execPwmSkew_steady {s0 : State} {x node} {s : State} (hs : Steady s0 s) :
    SteadyRes s0 (execPwmSkew x node s) := by
  delta execPwmSkew
  refine State.conRun_steady hs ?_
  intro t1 ht1
  refine Steady.ite ?_ (State.replyErr_steady ht1)
  extract_lets +onlyGivenNames -merge x2
  have h2 : SteadyOut s0 x2 := State.freeRat_steady ht1
  clear_value x2
  exact State.reply_steady (SteadyOut.snd h2)

theorem execSc_steady {s0 : State} {k} {s : State} (hs : Steady s0 s) :
    SteadyRes s0 (execSc k s) := by
  delta execSc
  refine State.conRun_steady hs ?_
  intro t1 ht1
  extract_lets +onlyGivenNames -merge x2
  exact State.reply_steady ht1

theorem execSetClockRestart_steady {s0 : State} {x} {s : State} (hs : Steady s0 s) :
    SteadyRes s0 (execSetClockRestart x s) := by
  delta execSetClockRestart
  refine SteadyRes.ite ?_ (SteadyRes.next hs)
  extract_lets +onlyGivenNames -merge x1
  have h1 : Steady s0 x1 := State.stepOffset_steady (State.setFld_steady hs)
  clear_value x1
  extract_lets +onlyGivenNames -merge x2
  have h2 : Steady s0 x2 := State.modPwm_steady h1
  clear_value x2
  extract_lets +onlyGivenNames -merge x3
  have h3 : Steady s0 x3 := when_steady (fun t4 ht4 => State.beginOffsets_steady ht4) h2
  clear_value x3
  extract_lets +onlyGivenNames -merge x5 x6
  have h6 : Steady s0 x6 := Steady.same h3 rfl rfl rfl rfl rfl rfl rfl
  clear_value x6
  exact SteadyRes.next (State.settle_steady (State.testBegin_steady h6))

theorem execSfi_steady {s0 s : State} (hs : Steady s0 s) :
    SteadyRes s0 (execSfi s) := by
  delta execSfi
  exact State.conRun_steady hs (fun t1 ht1 => State.showRegs_steady ht1)

theorem execSfiAx_steady {s0 : State} {a} {s : State} (hs : Steady s0 s) :
    SteadyRes s0 (execSfiAx a s) := by
  delta execSfiAx
  exact State.conRun_steady hs (fun t1 ht1 => State.showRegs_steady ht1)

theorem execSfiList_steady {s0 s : State} (hs : Steady s0 s) :
    SteadyRes s0 (execSfiList s) := by
  delta execSfiList
  refine State.conRun_steady hs ?_
  intro t1 ht1
  split
  · exact State.replyErr_steady ht1
  · extract_lets +onlyGivenNames -merge x2
    exact State.reply_steady (State.setStaging_steady ht1)

theorem execSfiSeal_steady {s0 : State} {crc} {s : State} (hs : Steady s0 s) :
    SteadyRes s0 (execSfiSeal crc s) := by
  delta execSfiSeal
  refine State.conRun_steady hs ?_
  intro t1 ht1
  split
  · exact State.replyErr_steady ht1
  · extract_lets +onlyGivenNames -merge x2
    have h2 : Steady s0 x2 := by
      unfold x2
      split
      · exact State.say_steady ht1
      · exact ht1
    clear_value x2
    exact State.sealStart_steady h2

theorem execSfiSto_steady {s0 s : State} (hs : Steady s0 s) :
    SteadyRes s0 (execSfiSto s) := by
  delta execSfiSto
  refine State.conRun_steady hs ?_
  intro t1 ht1
  extract_lets +onlyGivenNames -merge x2
  exact State.reply_steady ht1

theorem execSfiTest_steady {s0 : State} {gateFail inputFail} {s : State} (hs : Steady s0 s) :
    SteadyRes s0 (execSfiTest gateFail inputFail s) := by
  delta execSfiTest
  refine State.conRun_steady hs ?_
  intro t1 ht1
  split
  · exact Steady.ite (State.replyErr_steady ht1) (State.say_steady ht1)
  · extract_lets +onlyGivenNames -merge x2
    have h2 : SteadyOut s0 x2 := State.stoTestRun_steady ht1
    clear_value x2
    refine State.settle_steady ?_
    exact Steady.ite (State.reply_steady (SteadyOut.snd h2)) (State.say_steady (SteadyOut.snd h2))

theorem execSi_steady {s0 s : State} (hs : Steady s0 s) :
    SteadyRes s0 (execSi s) := by
  delta execSi
  exact State.conRun_steady hs (fun t1 ht1 => State.showRegs_steady ht1)

theorem execSo_steady {s0 s : State} (hs : Steady s0 s) :
    SteadyRes s0 (execSo s) := by
  delta execSo
  exact State.conRun_steady hs (fun t1 ht1 => State.showRegs_steady ht1)

theorem execSpd_steady {s0 : State} {a} {s : State} (hs : Steady s0 s) :
    SteadyRes s0 (execSpd a s) := by
  delta execSpd
  exact State.conRun_steady hs (fun t1 ht1 => State.showRegs_steady ht1)

theorem execSpdLim_steady {s0 : State} {a} {s : State} (hs : Steady s0 s) :
    SteadyRes s0 (execSpdLim a s) := by
  delta execSpdLim
  exact State.conRun_steady hs (fun t1 ht1 => State.showRegs_steady ht1)

theorem execTestEnd_steady {s0 s : State} (hs : Steady s0 s) :
    SteadyRes s0 (execTestEnd s) := by
  delta execTestEnd
  split
  · exact SteadyRes.next hs
  · refine SteadyRes.next ?_
    refine Steady.ite ?_ hs
    exact State.conNext_steady (State.settle_steady (State.stopTest_steady (State.testReply_steady hs)))

theorem execThm_steady {s0 s : State} (hs : Steady s0 s) :
    SteadyRes s0 (execThm s) := by
  delta execThm
  exact State.conRun_steady hs (fun t1 ht1 => State.reply_steady ht1)

theorem execWft_steady {s0 s : State} (hs : Steady s0 s) :
    SteadyRes s0 (execWft s) := by
  delta execWft
  exact State.conRun_steady hs (fun t1 ht1 => State.showRegs_steady ht1)

theorem execWftPing_steady {s0 : State} {addr n} {s : State} (hs : Steady s0 s) :
    SteadyRes s0 (execWftPing addr n s) := by
  delta execWftPing
  refine State.conRun_steady hs ?_
  intro t1 ht1
  refine Steady.ite (State.replyErr_steady ht1) ?_
  refine Steady.ite (State.replyErr_steady ht1) ?_
  extract_lets +onlyGivenNames -merge x2 x3
  have h3 : Steady s0 x3 := State.modWft_steady ht1
  clear_value x3
  exact State.conBusy_steady (State.sendEcho_steady h3)

theorem execWftPort_steady {s0 : State} {p} {s : State} (hs : Steady s0 s) :
    SteadyRes s0 (execWftPort p s) := by
  delta execWftPort
  exact State.conRun_steady hs (fun t1 ht1 => State.showRegs_steady ht1)

theorem execWftReinit_steady {s0 : State} {p} {s : State} (hs : Steady s0 s) :
    SteadyRes s0 (execWftReinit p s) := by
  delta execWftReinit
  refine State.conRun_steady hs ?_
  intro t1 ht1
  refine State.inModes_steady ht1 ?_
  intro t2 ht2
  refine Steady.ite (State.say_steady ht2) ?_
  refine Steady.ite (State.replyErr_steady ht2) ?_
  extract_lets +onlyGivenNames -merge x3
  have h3 : Steady s0 x3 := State.toTrain_steady (State.journalFw_steady ht2)
  clear_value x3
  exact State.settle_steady (Steady.same h3 rfl rfl rfl rfl rfl rfl rfl)

theorem execWftRoute_steady {s0 : State} {addr} {s : State} (hs : Steady s0 s) :
    SteadyRes s0 (execWftRoute addr s) := by
  delta execWftRoute
  refine State.conRun_steady hs ?_
  intro t1 ht1
  extract_lets +onlyGivenNames -merge x2
  exact State.reply_steady ht1

end Sys2Proof.Machine
end

