-- ==== Sys2Proof/Laws/SteadyLoom.lean ====
section
/-! SUPPORT. Machine/Loom.lean: what each operation keeps (Laws/Steady.lean). -/

namespace Sys2Proof.Machine

theorem State.atUpdate_steady {s0 s : State} {x} (hs : Steady s0 s) :
    Steady s0 (State.atUpdate s x) := by
  delta State.atUpdate
  refine Steady.ite hs ?_
  refine Steady.ite ?_ ?_
  · extract_lets +onlyGivenNames -merge x1
    have h1 : Steady s0 x1 := State.setFlag_steady hs
    clear_value x1
    split
    · exact State.loadValley_steady h1
    · exact h1
  · extract_lets +onlyGivenNames -merge x2
    have h2 : Steady s0 x2 := State.setFlag_steady hs
    clear_value x2
    split
    · exact State.loadFall_steady h2
    · exact h2

theorem State.satCheck_steady {s0 s : State} {x ps} (hs : Steady s0 s) :
    Steady s0 (State.satCheck s x ps) := by
  delta State.satCheck
  refine forAll_steady ?_ hs
  intro t1 t2 ht2
  refine Steady.ite ht2 ?_
  extract_lets +onlyGivenNames -merge x3 x4
  have h4 : Steady s0 x4 := State.modMfe_steady ht2
  clear_value x4
  refine Steady.ite (State.invalidate_steady (State.setFld_steady h4)) ?_
  extract_lets +onlyGivenNames -merge x5
  exact when_steady (fun t6 ht6 => State.modMfe_steady ht6) h4

theorem State.fallbackAmps_steady {s0 s : State} {x} (hs : Steady s0 s) :
    SteadyOut s0 (State.fallbackAmps s x) := by
  delta State.fallbackAmps
  extract_lets +onlyGivenNames -merge x1 x2
  clear_value x2
  split
  · exact SteadyOut.mk (State.modMfe_steady hs)
  · extract_lets +onlyGivenNames -merge x3
    extract_lets +onlyGivenNames -merge x4
    have h4 : Steady s0 x4 := State.incSat_steady (State.modMfe_steady hs)
    clear_value x4
    refine SteadyOut.ite ?_ (SteadyOut.mk h4)
    exact SteadyOut.mk (State.latchMeas_steady (State.setFlag_steady h4))

theorem State.deliver_steady {s0 s : State} {x ps} (hs : Steady s0 s) :
    SteadyOut s0 (State.deliver s x ps) := by
  delta State.deliver
  extract_lets +onlyGivenNames -merge x1
  have h1 : Steady s0 x1 := State.satCheck_steady hs
  clear_value x1
  split
  · rename_i _ y2 q2
    have h2 : Steady s0 y2 := by
      refine SteadyOut.of_eq q2 ?_
      refine SteadyOut.ite (State.fallbackAmps_steady h1) ?_
      split
      · rename_i _ y3 q3
        have h3 := SteadyOut.of_eq q3 (State.inlineAmps_steady h1)
        exact SteadyOut.mk (State.modMfe_steady h3)
    extract_lets +onlyGivenNames -merge x4 x5
    have h5 : Steady s0 x5 := forAll_steady (fun t6 t7 ht7 => State.setReg_steady ht7) h2
    clear_value x5
    extract_lets +onlyGivenNames -merge x8 x9
    exact SteadyOut.mk (State.modMfe_steady (State.setFlag_steady h5))

theorem State.fluxObserver_steady {s0 s : State} {a x inp c} (hs : Steady s0 s) :
    Steady s0 (State.fluxObserver s a x inp c) := by
  delta State.fluxObserver
  refine Steady.ite (State.setFlag_steady hs) ?_
  extract_lets +onlyGivenNames -merge x1 x2 x3 x4 x5 x6 x7 x8 x9 x10 x11 x12 x13 x14 x15 x16
  extract_lets +onlyGivenNames -merge x17 x18 x19 x20 x21 x22 x23 x24 x25 x26 x27
  have h27 : Steady s0 x27 := State.modLane_steady hs
  clear_value x27
  extract_lets +onlyGivenNames -merge x28
  have h28 : Steady s0 x28 := State.setReg_steady h27
  clear_value x28
  exact when_steady (fun t29 ht29 => State.setFlag_steady ht29) h28

theorem State.identUpdate_steady {s0 s : State} {a x} (hs : Steady s0 s) :
    Steady s0 (State.identUpdate s a x) := by
  delta State.identUpdate
  extract_lets +onlyGivenNames -merge x1
  refine Steady.ite hs ?_
  extract_lets +onlyGivenNames -merge x2 x3
  split
  · rename_i _ y4 q4
    have h4 := SteadyOut.of_eq q4 (State.freeRat_steady hs)
    extract_lets +onlyGivenNames -merge x5
    exact State.modPwm_steady h4

theorem State.lanePos_steady {s0 s : State} {a x inp c} (hs : Steady s0 s) :
    Steady s0 (State.lanePos s a x inp c) := by
  delta State.lanePos
  extract_lets +onlyGivenNames -merge x1 x2 x3 x4 x5 x6 x7 x8 x9 x10 x11 x12
  have h12 : Steady s0 x12 := State.modLane_steady hs
  clear_value x12
  exact Steady.ite (State.modPos_steady h12) h12

theorem State.laneReport_steady {s0 s : State} {x inp c te busy} (hs : Steady s0 s) :
    Steady s0 (State.laneReport s x inp c te busy) := by
  delta State.laneReport
  extract_lets +onlyGivenNames -merge x1
  have h1 : Steady s0 x1 := State.setReg_steady (State.setReg_steady hs)
  clear_value x1
  extract_lets +onlyGivenNames -merge x2
  have h2 : Steady s0 x2 := State.setReg_steady (State.setReg_steady h1)
  clear_value x2
  extract_lets +onlyGivenNames -merge x3
  have h3 : Steady s0 x3 := State.setReg_steady (State.setReg_steady h2)
  clear_value x3
  extract_lets +onlyGivenNames -merge x4
  have h4 : Steady s0 x4 := State.setReg_steady (State.setReg_steady h3)
  clear_value x4
  extract_lets +onlyGivenNames -merge x5
  have h5 : Steady s0 x5 := State.setReg_steady h4
  clear_value x5
  extract_lets +onlyGivenNames -merge x6
  have h6 : Steady s0 x6 := State.setFlag_steady (State.setFlag_steady h5)
  clear_value x6
  extract_lets +onlyGivenNames -merge x7
  have h7 : Steady s0 x7 := State.setFlag_steady (State.setFlag_steady h6)
  clear_value x7
  extract_lets +onlyGivenNames -merge x8
  have h8 : Steady s0 x8 := State.setFlag_steady (State.setFlag_steady h7)
  clear_value x8
  extract_lets +onlyGivenNames -merge x9
  have h9 : Steady s0 x9 := State.setFlag_steady (State.setFlag_steady h8)
  clear_value x9
  extract_lets +onlyGivenNames -merge x10 x11
  have h11 : Steady s0 x11 := State.setFlag_steady (State.setFlag_steady h9)
  clear_value x11
  extract_lets +onlyGivenNames -merge x12
  have h12 : Steady s0 x12 := State.setFld_steady h11
  clear_value x12
  exact State.setFld_steady h12

theorem State.loadObserver_steady {s0 s : State} {a x inp} (hs : Steady s0 s) :
    Steady s0 (State.loadObserver s a x inp) := by
  delta State.loadObserver
  refine Steady.ite (State.setReg_steady hs) ?_
  extract_lets +onlyGivenNames -merge x1 x2 x3 x4 x5 x6 x7 x8 x9 x10
  have h10 : Steady s0 x10 := State.modLane_steady hs
  clear_value x10
  exact State.setReg_steady h10

theorem State.staleCheck_steady {s0 s : State} {a x} (hs : Steady s0 s) :
    Steady s0 (State.staleCheck s a x) := by
  delta State.staleCheck
  extract_lets +onlyGivenNames -merge x1 x2
  exact Steady.ite (forAll_steady (fun t3 t4 ht4 => State.laneFault_steady ht4) hs) hs

theorem State.laneUpdate_steady {s0 s : State} {a x inp fresh busy request} (hs : Steady s0 s) :
    Steady s0 (State.laneUpdate s a x inp fresh busy request) := by
  delta State.laneUpdate
  extract_lets +onlyGivenNames -merge x1 x2 x3
  have h3 : Steady s0 x3 := State.laneReport_steady hs
  clear_value x3
  extract_lets +onlyGivenNames -merge x4
  have h4 : Steady s0 x4 := Steady.ite (State.modPwm_steady h3) h3
  clear_value x4
  extract_lets +onlyGivenNames -merge x5
  have h5 : Steady s0 x5 := State.lanePos_steady h4
  clear_value x5
  extract_lets +onlyGivenNames -merge x6
  have h6 : Steady s0 x6 := State.fluxObserver_steady h5
  clear_value x6
  extract_lets +onlyGivenNames -merge x7 x8 x9 x10 x11 x12 x13 x14 x15
  have h15 : Steady s0 x15 := State.modLane_steady h6
  clear_value x15
  extract_lets +onlyGivenNames -merge x16
  have h16 : Steady s0 x16 := State.loadObserver_steady h15
  clear_value x16
  extract_lets +onlyGivenNames -merge x17
  have h17 : Steady s0 x17 := Steady.ite (State.posUpdate_steady h16) h16
  clear_value x17
  exact State.staleCheck_steady (State.identUpdate_steady h17)

theorem State.latchLane_steady {s0 s : State} {a x} (hs : Steady s0 s) :
    Steady s0 (State.latchLane s a x) := by
  delta State.latchLane
  extract_lets +onlyGivenNames -merge x1
  have h1 : Steady s0 x1 := Steady.ite (State.portEstimate_steady hs) hs
  clear_value x1
  extract_lets +onlyGivenNames -merge x2 x3 x4 x5
  exact State.modLane_steady h1

theorem execInlineDelivery_steady {s0 : State} {x ps busy err} {s : State} (hs : Steady s0 s) :
    SteadyRes s0 (execInlineDelivery x ps busy err s) := by
  delta execInlineDelivery
  refine SteadyRes.ite (SteadyRes.next hs) ?_
  split
  · rename_i _ y1 q1
    have h1 := SteadyOut.of_eq q1 (State.deliver_steady hs)
    split
    · refine SteadyRes.ite (SteadyRes.next (State.settle_steady h1)) ?_
      refine SteadyRes.ite ?_ ?_
      · exact SteadyRes.next (State.settle_steady (State.laneFault_steady h1))
      · split
        · exact SteadyRes.next (State.settle_steady (State.laneUpdate_steady h1))
        · exact SteadyRes.next (State.settle_steady (State.laneUpdate_steady (State.incSat_steady h1)))
        · exact SteadyRes.next (State.settle_steady (State.laneFault_steady h1))
        · exact SteadyRes.next (State.settle_steady (State.eccDue_steady h1))
    · exact SteadyRes.next (State.settle_steady h1)

theorem execInlineTrigger_steady {s0 : State} {x} {s : State} (hs : Steady s0 s) :
    SteadyRes s0 (execInlineTrigger x s) := by
  delta execInlineTrigger
  refine SteadyRes.ite (SteadyRes.next hs) ?_
  extract_lets +onlyGivenNames -merge x1 x2
  have h2 : Steady s0 x2 := State.modMfe_steady hs
  clear_value x2
  split
  · exact SteadyRes.next h2
  · exact SteadyRes.next (Steady.ite h2 (State.latchLane_steady h2))

end Sys2Proof.Machine
end

