-- ==== Sys2Proof/Laws/SteadyReinit.lean ====
section
/-! SUPPORT. Machine/Reinit.lean: what each operation keeps (Laws/Steady.lean). -/

namespace Sys2Proof.Machine

theorem State.reinit_steady {s0 s : State} {h code count refuse} {f : State → State} (hs : Steady s0 s) (hf : ∀ t0, Steady s0 t0 → Steady s0 (f t0)) :
    SteadyRes s0 (State.reinit s h code count refuse f) := by
  delta State.reinit
  refine State.dispatch_steady hs ?_
  intro t1 ht1
  refine Steady.ite (State.complete_steady ht1) ?_
  split
  · exact State.complete_steady ht1
  · exact hf _ (State.journalFw_steady ht1)

theorem State.reinitCan_steady {s0 s : State} {c} (hs : Steady s0 s) :
    Steady s0 (State.reinitCan s c) := by
  delta State.reinitCan
  extract_lets +onlyGivenNames -merge x1
  have h1 : Steady s0 x1 := State.setFlag_steady hs
  clear_value x1
  extract_lets +onlyGivenNames -merge x2 x3
  have h3 : Steady s0 x3 := State.modCan_steady h1
  clear_value x3
  extract_lets +onlyGivenNames -merge x4
  have h4 : Steady s0 x4 := State.canWindow_steady (State.setFld_steady (State.setFld_steady h3))
  clear_value x4
  extract_lets +onlyGivenNames -merge x5
  have h5 : Steady s0 x5 := State.canErrState_steady (State.setFld_steady (State.setFlag_steady h4))
  clear_value x5
  exact Steady.ite (State.loadCan_steady h5) h5

theorem State.reinitLane_steady {s0 s : State} {h x} (hs : Steady s0 s) :
    Steady s0 (State.reinitLane s h x) := by
  delta State.reinitLane
  extract_lets +onlyGivenNames -merge x1
  have h1 : Steady s0 x1 := by
    unfold x1
    split
    · exact State.loadLane_steady hs
    · exact hs
  clear_value x1
  extract_lets +onlyGivenNames -merge x2
  have h2 : Steady s0 x2 := State.setFlag_steady (State.setFld_steady h1)
  clear_value x2
  extract_lets +onlyGivenNames -merge x3
  have h3 : Steady s0 x3 := State.setFlag_steady h2
  clear_value x3
  extract_lets +onlyGivenNames -merge x4 x5
  have h5 : Steady s0 x5 := State.modLane_steady h3
  clear_value x5
  exact Steady.same h5 rfl rfl rfl rfl rfl rfl rfl

theorem State.reinitPort_steady {s0 s : State} {n} (hs : Steady s0 s) :
    Steady s0 (State.reinitPort s n) := by
  delta State.reinitPort
  extract_lets +onlyGivenNames -merge x1
  have h1 : Steady s0 x1 := by
    unfold x1
    refine Steady.ite ?_ hs
    refine forAll_steady ?_ hs
    intro t2 t3 ht3
    exact forAll_steady (fun t4 t5 ht5 => State.loadParam_steady ht5) ht3
  clear_value x1
  extract_lets +onlyGivenNames -merge x6
  have h6 : Steady s0 x6 := by
    unfold x6
    refine forAll_steady ?_ h1
    intro t7 t8 ht8
    extract_lets +onlyGivenNames -merge x9
    have h9 : Steady s0 x9 := State.setFlag_steady (State.modFb_steady ht8)
    clear_value x9
    exact State.setFlag_steady h9
  clear_value x6
  extract_lets +onlyGivenNames -merge x10
  have h10 : Steady s0 x10 := State.setFlag_steady (State.setReg_steady h6)
  clear_value x10
  extract_lets +onlyGivenNames -merge x11
  have h11 : Steady s0 x11 := State.setFlag_steady (State.setFlag_steady (State.setFld_steady h10))
  clear_value x11
  extract_lets +onlyGivenNames -merge x12
  have h12 : Steady s0 x12 := State.setFlag_steady h11
  clear_value x12
  exact State.modFb_steady h12

theorem execFuncReinitCan_steady {s0 : State} {h} {s : State} (hs : Steady s0 s) :
    SteadyRes s0 (execFuncReinitCan h s) := by
  delta execFuncReinitCan
  exact State.reinit_steady hs (fun t1 ht1 => State.complete_steady (State.reinitCan_steady ht1))

theorem execFuncReinitCq_steady {s0 : State} {h} {s : State} (hs : Steady s0 s) :
    SteadyRes s0 (execFuncReinitCq h s) := by
  delta execFuncReinitCq
  exact State.reinit_steady hs (fun t1 ht1 => State.complete_steady (State.reinitCq_steady ht1))

theorem execFuncReinitFeedbackPort_steady {s0 : State} {h loopOk} {s : State} (hs : Steady s0 s) :
    SteadyRes s0 (execFuncReinitFeedbackPort h loopOk s) := by
  delta execFuncReinitFeedbackPort
  refine State.reinit_steady hs ?_
  intro t1 ht1
  exact State.settle_steady (State.complete_steady (State.reinitPort_steady ht1))

theorem execFuncReinitLane_steady {s0 : State} {h} {s : State} (hs : Steady s0 s) :
    SteadyRes s0 (execFuncReinitLane h s) := by
  delta execFuncReinitLane
  exact State.reinit_steady hs (fun t1 ht1 => State.settle_steady (State.reinitLane_steady ht1))

theorem execFuncReinitSq_steady {s0 : State} {h} {s : State} (hs : Steady s0 s) :
    SteadyRes s0 (execFuncReinitSq h s) := by
  delta execFuncReinitSq
  exact State.reinit_steady hs (fun t1 ht1 => State.complete_steady (State.reinitSq_steady ht1))

theorem execFuncReinitWeftPort_steady {s0 : State} {h} {s : State} (hs : Steady s0 s) :
    SteadyRes s0 (execFuncReinitWeftPort h s) := by
  delta execFuncReinitWeftPort
  refine State.reinit_steady hs ?_
  intro t1 ht1
  extract_lets +onlyGivenNames -merge x2
  exact State.settle_steady (State.complete_steady (Steady.ite ht1 (State.toTrain_steady ht1)))

end Sys2Proof.Machine
end

