-- ==== Sys2Proof/Laws/SteadyThm.lean ====
section
/-! SUPPORT. Machine/Thm.lean: what each operation keeps (Laws/Steady.lean). -/

namespace Sys2Proof.Machine

theorem State.kthEval_steady {s0 s : State} {a} (hs : Steady s0 s) :
    Steady s0 (State.kthEval s a) := by
  delta State.kthEval
  extract_lets +onlyGivenNames -merge x1 x2
  exact Steady.same hs rfl rfl rfl rfl rfl rfl rfl

theorem State.modSensor_steady {s0 s : State} {i f} (hs : Steady s0 s) :
    Steady s0 (State.modSensor s i f) := by
  delta State.modSensor
  exact Steady.same hs rfl rfl rfl rfl rfl rfl rfl

theorem State.sensorFail_steady {s0 s : State} {i fitted} (hs : Steady s0 s) :
    Steady s0 (State.sensorFail s i fitted) := by
  delta State.sensorFail
  extract_lets +onlyGivenNames -merge x1
  have h1 : Steady s0 x1 := State.setFld_steady (State.setFlag_steady (State.setFlag_steady hs))
  clear_value x1
  exact Steady.ite h1 (State.journal_steady (State.modSensor_steady h1))

theorem State.sensorRise_steady {s0 s : State} {i t} (hs : Steady s0 s) :
    Steady s0 (State.sensorRise s i t) := by
  delta State.sensorRise
  split
  · exact hs
  · extract_lets +onlyGivenNames -merge x1
    exact Steady.ite (State.setFlag_steady hs) (Steady.ite (State.setFlag_steady hs) hs)

theorem State.sensorLevel_steady {s0 s : State} {i t} (hs : Steady s0 s) :
    Steady s0 (State.sensorLevel s i t) := by
  delta State.sensorLevel
  extract_lets +onlyGivenNames -merge x1 x2 x3
  have h3 : Steady s0 x3 := State.setFld_steady hs
  clear_value x3
  refine Steady.ite h3 ?_
  extract_lets +onlyGivenNames -merge x4
  have h4 : Steady s0 x4 := when_steady (fun t5 ht5 => State.setFlag_steady ht5) h3
  clear_value x4
  exact State.irq_steady (State.journal_steady h4)

theorem State.sensorEval_steady {s0 s : State} {i t} (hs : Steady s0 s) :
    Steady s0 (State.sensorEval s i t) := by
  delta State.sensorEval
  refine Steady.ite (State.sensorFail_steady hs) ?_
  extract_lets +onlyGivenNames -merge x1
  have h1 : Steady s0 x1 := State.setSfld_steady hs
  clear_value x1
  refine Steady.ite ?_ (State.modSensor_steady (State.sensorFail_steady h1))
  refine State.modSensor_steady ?_
  exact State.sensorLevel_steady (State.sensorRise_steady (State.setFlag_steady h1))

theorem State.thmSummary_steady {s0 s : State} (hs : Steady s0 s) :
    Steady s0 (State.thmSummary s) := by
  delta State.thmSummary
  extract_lets +onlyGivenNames -merge x1 x2
  have h2 : Steady s0 x2 := by
    unfold x2
    split
    · exact State.setFld_steady hs
    · exact hs
  clear_value x2
  extract_lets +onlyGivenNames -merge x3
  have h3 : Steady s0 x3 := State.setFlag_steady (State.setFlag_steady h2)
  clear_value x3
  extract_lets +onlyGivenNames -merge x4
  have h4 : Steady s0 x4 := State.setFlag_steady (State.setFlag_steady h3)
  clear_value x4
  exact State.setFlag_steady h4

theorem State.throttle_steady {s0 s : State} (hs : Steady s0 s) :
    Steady s0 (State.throttle s) := by
  delta State.throttle
  extract_lets +onlyGivenNames -merge x1 x2
  have h2 : Steady s0 x2 := State.setFld_steady hs
  clear_value x2
  exact forAll_steady (fun t3 t4 ht4 => Steady.ite ht4 (State.throttlePair_steady ht4)) h2

theorem execThmEvaluation_steady {s0 : State} {die gate board} {s : State} (hs : Steady s0 s) :
    SteadyRes s0 (execThmEvaluation die gate board s) := by
  delta execThmEvaluation
  refine SteadyRes.ite (SteadyRes.next hs) ?_
  extract_lets +onlyGivenNames -merge x1
  have h1 : Steady s0 x1 := by
    unfold x1
    refine forAll_steady ?_ hs
    intro t2 t3 ht3
    split
    · exact State.sensorEval_steady ht3
    · exact State.sensorEval_steady ht3
    · exact State.sensorEval_steady ht3
    · exact State.sensorEval_steady ht3
  clear_value x1
  refine SteadyRes.next ?_
  refine State.settle_steady ?_
  refine State.thmSummary_steady ?_
  exact State.throttle_steady (forAll_steady (fun t4 t5 ht5 => State.kthEval_steady ht5) h1)

end Sys2Proof.Machine
end

