-- ==== Sys2Proof/Laws/SteadyTick.lean ====
section
/-! SUPPORT. Machine/Tick.lean: what each operation keeps (Laws/Steady.lean). -/

namespace Sys2Proof.Machine

theorem State.tickNight_steady {s0 s : State} (hs : Steady s0 s) :
    Steady s0 (State.tickNight s) := by
  delta State.tickNight
  extract_lets +onlyGivenNames -merge x1 x2
  have h2 : Steady s0 x2 := when_steady (fun t3 ht3 => Steady.same ht3 rfl rfl rfl rfl rfl rfl rfl) hs
  clear_value x2
  extract_lets +onlyGivenNames -merge x4
  have h4 : Steady s0 x4 := when_steady (fun t5 ht5 => State.rtcCount_steady ht5) h2
  clear_value x4
  extract_lets +onlyGivenNames -merge x6
  have h6 : Steady s0 x6 := by
    unfold x6
    refine when_steady ?_ h4
    intro t7 ht7
    extract_lets +onlyGivenNames -merge x8 x9
    exact State.setFld_steady (Steady.same ht7 rfl rfl rfl rfl rfl rfl rfl)
  clear_value x6
  extract_lets +onlyGivenNames -merge x10
  have h10 : Steady s0 x10 := when_steady (fun t11 ht11 => Steady.same ht11 rfl rfl rfl rfl rfl rfl rfl) h6
  clear_value x10
  refine when_steady ?_ h10
  intro t12 ht12
  refine Steady.ite (Steady.same ht12 rfl rfl rfl rfl rfl rfl rfl) ?_
  exact State.incSat_steady (Steady.same ht12 rfl rfl rfl rfl rfl rfl rfl)

theorem State.tickDawn_steady {s0 s : State} (hs : Steady s0 s) :
    Steady s0 (State.tickDawn s) := by
  delta State.tickDawn
  exact when_steady (fun t1 ht1 => Steady.same ht1 rfl rfl rfl rfl rfl rfl rfl) hs

theorem State.tickWeft_steady {s0 s : State} (hs : Steady s0 s) :
    Steady s0 (State.tickWeft s) := by
  delta State.tickWeft
  extract_lets +onlyGivenNames -merge x1 x2
  exact Steady.same hs rfl rfl rfl rfl rfl rfl rfl

theorem State.tickTransients_steady {s0 s : State} (hs : Steady s0 s) :
    Steady s0 (State.tickTransients s) := by
  delta State.tickTransients
  refine forAll_steady ?_ hs
  intro t1 t2 ht2
  extract_lets +onlyGivenNames -merge x3 x4
  have h4 : Steady s0 x4 := State.setFld_steady ht2
  clear_value x4
  exact when_steady (fun t5 ht5 => State.setFld_steady ht5) h4

theorem State.tickUtil_steady {s0 s : State} {p} (hs : Steady s0 s) :
    Steady s0 (State.tickUtil s p) := by
  delta State.tickUtil
  extract_lets +onlyGivenNames -merge x1
  exact State.modPort_steady (State.setFld_steady hs)

theorem State.tickPorts_steady {s0 s : State} (hs : Steady s0 s) :
    Steady s0 (State.tickPorts s) := by
  delta State.tickPorts
  extract_lets +onlyGivenNames -merge x1
  have h1 : Steady s0 x1 := when_steady (fun t2 ht2 => forAll_steady (fun t3 t4 ht4 => State.tickUtil_steady ht4) ht2) hs
  clear_value x1
  exact forAll_steady (fun t5 t6 ht6 => State.portPoll_steady (State.duePoll_steady ht6)) h1

theorem State.tick_steady {s0 s : State} (hs : Steady s0 s) :
    Steady s0 (State.tick s) := by
  delta State.tick
  extract_lets +onlyGivenNames -merge x1
  have h1 : Steady s0 x1 := State.tickDawn_steady (State.tickNight_steady hs)
  clear_value x1
  refine Steady.ite ?_ h1
  refine State.conPoll_steady ?_
  refine State.deadPoll_steady ?_
  refine State.serve_steady ?_
  refine State.scopeSample_steady ?_
  exact State.tickPorts_steady (State.tickTransients_steady (State.tickWeft_steady h1))

end Sys2Proof.Machine
end

