-- ==== Sys2Proof/WellFormed.lean ====
section
/-! DEFINITION. Which commands can occur: what a frame, a descriptor or a bus access has room for. The types of the
operands say the rest. -/

namespace Sys2Proof

/-- The bytes of a CAN frame that its DLC stands for (ISO 11898-1, which R577 names). -/
def dlcBytes (fdf : Bool) (dlc : Nat) : Nat :=
  if dlc ≤ 8 then dlc
  else if !fdf then 8
  else if dlc ≤ 12 then 8 + 4 * (dlc - 8)
  else 32 + 16 * (dlc - 13)

/-- A received CAN frame carries the bytes its DLC stands for; a remote frame of classical CAN carries none. -/
def CanRx.fits (f : CanRx) : Bool :=
  f.data.length == if f.rtr then 0 else dlcBytes f.fdf f.dlc.toNat

/-- A Weft frame carries at most 64 bytes (R548). -/
def FrameRx.fits : FrameRx → Bool
  | .good f => decide (f.payload.length ≤ 64)
  | .badCrc => true
  | .broken => true

/-- Whether a command can occur. -/
def Instr.wellFormed : Instr → Bool
  | .lockoutTrip _ _ => true
  | .lockoutFlushEnd _ => true
  | .lockoutRelease => true
  | .resetNAssert => true
  | .resetNRelease => true
  | .wakeN _ _ => true
  | .wakeTimer => true
  | .vinReturn => true
  | .deepNightEntry => true
  | .vbatCheck _ => true
  | .nightDomainLoss _ => true
  | .perstNAssert => true
  | .linkDown => true
  | .functionLevelReset => true
  | .enFall => true
  | .enRise _ _ _ => true
  | .pllLock _ => true
  | .pllLockTimeout _ => true
  | .strapSample _ _ _ _ _ => true
  | .islandGroupStart _ _ => true
  | .islandGroupTimeout _ => true
  | .bistSlotEnd _ fails => decide fails.Nodup
  | .imageCheckDone _ _ _ _ => true
  | .bootSectionComplete _ => true
  | .imageStartDeadline => true
  | .profileLoad => true
  | .stoPathTest _ _ => true
  | .deferredStoTest _ => true
  | .deferredSetStoTest _ _ => true
  | .flashRefresh _ => true
  | .refreshDeferTimeout => true
  | .journalRewrite => true
  | .modereqDusk _ => true
  | .modereqServiceEnter _ => true
  | .modereqServiceLeave _ => true
  | .serviceIdle => true
  | .duskStopMax => true
  | .duskFlushDone => true
  | .duskWaitCross => true
  | .pwmEdge _ _ _ => true
  | .islandCommand _ _ => true
  | .segmentChange _ _ => true
  | .clampEngage _ _ => true
  | .confirmedOff _ _ _ => true
  | .interlockRelease _ => true
  | .offTimeout _ => true
  | .plateauArm _ => true
  | .plateauLow _ _ => true
  | .islandLinkLoss _ => true
  | .linkLost _ => true
  | .ssiLinkLost _ _ => true
  | .gdcTestStart _ => true
  | .gdcTestDone _ _ => true
  | .blankingEnd _ _ => true
  | .scTrip _ => true
  | .scDwellEnd _ => true
  | .ocTrip _ _ => true
  | .ov3Trip _ => true
  | .ov3FlagClear _ => true
  | .ov3Hold _ => true
  | .dcLinkSample _ _ _ => true
  | .ov2React _ => true
  | .uv _ => true
  | .chopCheck _ _ after => decide (after.length ≤ 201)
  | .chopShort _ samples => decide (samples.length = 40)
  | .chopMinTime _ => true
  | .terminalSample _ _ _ _ _ => true
  | .crossOpenStart _ _ _ _ => true
  | .updateBoundary _ _ _ => true
  | .safetyGap _ => true
  | .updateRequest _ => true
  | .phaseWrite _ _ _ => true
  | .inlineTrigger _ => true
  | .shuntTrigger _ _ _ _ => true
  | .inlineDelivery _ _ _ _ => true
  | .stuck _ _ => true
  | .sdclk _ => true
  | .sdInputRecover _ _ => true
  | .sensorSupplyOverload => true
  | .mfeSupplyRestart _ => true
  | .sensorSupplyUp => true
  | .offsetMeasurementEnd _ _ => true
  | .ground _ => true
  | .dcDiverge _ => true
  | .dcDivergeClear _ => true
  | .shuntOffsetTrack _ _ => true
  | .ntcSample _ _ => true
  | .overrun _ => true
  | .loomScrub _ _ => true
  | .laneParamReload _ => true
  | .kat _ _ => true
  | .katDone _ _ => true
  | .setClockRestart _ => true
  | .injectionPeriodEnd _ => true
  | .injectionStop _ => true
  | .polarityPulseEnd _ _ => true
  | .lockLost _ => true
  | .zeroUpd _ => true
  | .terminalMeasurementStart _ => true
  | .terminalMeasurementSample _ => true
  | .terminalMeasurementEnd _ => true
  | .resumeRampEnd _ => true
  | .attemptReset _ => true
  | .startTmo _ => true
  | .learn _ _ => true
  | .learnAbort _ _ => true
  | .speedLoopPeriod _ => true
  | .positionLoopTick _ => true
  | .zeroSpeed _ => true
  | .holdZeroEnd _ => true
  | .tOffRampEnd _ => true
  | .stopTmo _ => true
  | .overspeed _ => true
  | .shockWindowEnd _ => true
  | .slack _ => true
  | .ventEnd _ => true
  | .heaveStall _ => true
  | .shedCycleStart => true
  | .shedSlot _ => true
  | .leadFrame f => f.share.length == 16
  | .report _ => true
  | .faultNotice _ => true
  | .shedApply _ => true
  | .shareRampEnd _ => true
  | .portSample _ _ => true
  | .encoderEdge _ _ _ => true
  | .indexMark _ => true
  | .stepInputEdge _ _ => true
  | .serialReadRequest _ => true
  | .serialWord _ _ => true
  | .speedWindowEnd _ _ => true
  | .amp _ => true
  | .wire _ => true
  | .exc _ => true
  | .fbSupply _ => true
  | .cmpWrite _ _ _ => true
  | .load _ _ => true
  | .loadZ _ _ => true
  | .turnZero _ _ => true
  | .cmpDisarm _ _ => true
  | .cmpPulseEnd _ => true
  | .profileEvaluation _ => true
  | .limit _ _ _ => true
  | .stall _ => true
  | .refCheck _ => true
  | .halt _ _ => true
  | .engage _ _ => true
  | .disengage _ _ => true
  | .setPos _ _ => true
  | .safetyCycle _ gates => decide gates.Nodup
  | .stoInputFall _ => true
  | .stoInputRise _ => true
  | .stoDisc => true
  | .tSs1 _ => true
  | .tStoAfterSbc _ => true
  | .tSlsEntry _ => true
  | .stoTestDue => true
  | .stoTestOverdue => true
  | .safetyCycleOverrun => true
  | .sealCheck _ => true
  | .islandScrub _ => true
  | .stageOpen _ _ => true
  | .sealStaging _ _ => true
  | .sealFlashDone _ => true
  | .stageAbort _ => true
  | .stagingTimeout => true
  | .safeInputSample _ _ => true
  | .siFilterPass _ _ => true
  | .disc _ => true
  | .testPulse _ _ => true
  | .stOvl _ => true
  | .stRetry _ => true
  | .outputPulse _ _ => true
  | .overload _ => true
  | .supply _ => true
  | .safetyFrameTx _ => true
  | .safetyFrameCopy _ _ bytes => bytes.length == 32
  | .single _ => true
  | .wdExp _ => true
  | .lockstepMismatch _ _ _ => true
  | .classification _ _ _ _ => true
  | .started _ _ _ => true
  | .restartTmo _ => true
  | .checkerSelfCheck _ _ => true
  | .check _ _ _ => true
  | .parity _ => true
  | .tcmDue _ _ => true
  | .debugAttach _ => true
  | .machineTimer _ => true
  | .mtimeLoRead => true
  | .sqTail _ _ slots => decide (slots.length < 4096)
  | .cqHead _ _ => true
  | .ringEnable _ _ => true
  | .ringDisable _ _ => true
  | .nop _ => true
  | .paramRead _ es => decide (es.length ≤ 7)
  | .paramWrite _ es => decide (es.length ≤ 7)
  | .refSet _ _ => true
  | .move _ _ => true
  | .stop _ => true
  | .profileSelect _ => true
  | .profileStore _ => true
  | .axisEnable _ => true
  | .axisDisable _ => true
  | .scopeArm _ _ _ _ regs => decide (regs.length ≤ 8)
  | .scopeCaptureDone _ => true
  | .logRead _ _ _ _ _ => true
  | .canSend _ f => decide (f.data.length ≤ 64)
  | .weftSend _ bytes => decide (bytes.length ≤ 892)
  | .funcReinitSq _ => true
  | .funcReinitCq _ => true
  | .funcReinitCan _ => true
  | .funcReinitWeftPort _ => true
  | .funcReinitFeedbackPort _ _ => true
  | .funcReinitLane _ => true
  | .deviceReset _ _ => true
  | .sysReset _ _ => true
  | .resetStart => true
  | .stoTest _ _ _ => true
  | .imageWrite _ _ _ _ _ _ _ => true
  | .imageCommit _ _ _ _ _ => true
  | .heaveStream _ es => decide (es.length ≤ 3)
  | .userOpcode _ _ _ => true
  | .badOpcode _ _ => true
  | .chainTimeout _ => true
  | .cqSignalTimer _ => true
  | .ringError _ => true
  | .hostLost => true
  | .configRequest _ => true
  | .rtcWrite _ _ => true
  | .registerWrite _ _ _ size _ => size == 1 || size == 2 || size == 4
  | .trainingSet _ _ _ _ _ => true
  | .retrain _ => true
  | .weftLink _ _ => true
  | .helloTimeout _ => true
  | .hello _ _ => true
  | .helloSend => true
  | .claim _ _ => true
  | .defend _ _ => true
  | .claimTimer => true
  | .defendTimer => true
  | .route _ metrics => metrics.length == 254
  | .routeSend => true
  | .routeAge _ => true
  | .data _ r => r.fits
  | .fragTmo _ _ => true
  | .sync _ _ => true
  | .syncSend => true
  | .delayReq _ => true
  | .delayReqSend => true
  | .delayResp _ _ _ => true
  | .echoReq _ q => decide (q.payload.length ≤ 892)
  | .echoResp _ q => decide (q.payload.length ≤ 892)
  | .parentLoss => true
  | .ctxAge _ _ => true
  | .canFrameRx _ f => f.fits
  | .canTxDone _ => true
  | .arbitrationLost _ => true
  | .canError _ _ => true
  | .canBusOn _ => true
  | .txDominantTimeout _ => true
  | .abort _ _ _ => true
  | .pop _ _ => true
  | .thmEvaluation _ _ _ => true
  | .journalWrite => true
  | .consoleChar _ => true
  | .consoleAbort => true
  | .status => true
  | .rd _ _ _ => true
  | .wr _ _ _ => true
  | .par _ _ => true
  | .log _ => true
  | .logSeq _ _ => true
  | .atest _ => true
  | .atestOff => true
  | .service => true
  | .serviceExit => true
  | .dusk => true
  | .dawnRetry => true
  | .reset _ _ => true
  | .gdc _ => true
  | .gdcSelftest _ => true
  | .gdcPulse _ _ => true
  | .gdcDead _ => true
  | .psp _ => true
  | .pspSctest _ _ _ => true
  | .chopTest _ _ => true
  | .cross _ => true
  | .pwm _ => true
  | .pwmSkew _ _ => true
  | .pwmRun _ _ _ _ => true
  | .mfe _ => true
  | .mfeZero _ => true
  | .mfeXc _ => true
  | .mfeSupplyOn => true
  | .loom _ => true
  | .loomKat _ => true
  | .loomTime _ => true
  | .pos _ => true
  | .posTerm _ => true
  | .posInj _ _ _ => true
  | .posLearn _ => true
  | .spd _ => true
  | .spdLim _ => true
  | .lsh _ => true
  | .lshMembers _ => true
  | .lshDrop _ _ => true
  | .fbi _ => true
  | .fbiWatch _ => true
  | .fbiLoop _ _ => true
  | .fbiCmp _ _ _ => true
  | .pt _ => true
  | .prg _ => true
  | .prgLim _ => true
  | .prgJog _ _ => true
  | .sfi => true
  | .sfiAx _ => true
  | .sfiSto => true
  | .sfiTest _ _ => true
  | .sfiList => true
  | .sfiSeal _ => true
  | .si => true
  | .so => true
  | .sc _ => true
  | .lck => true
  | .lckCheck _ _ => true
  | .lckHist _ => true
  | .hif => true
  | .hifSq _ => true
  | .hifCq _ => true
  | .hifNop _ => true
  | .wft => true
  | .wftPort _ => true
  | .wftRoute _ => true
  | .wftPing _ _ => true
  | .wftReinit _ => true
  | .can _ => true
  | .canLoop _ _ => true
  | .canRx _ => true
  | .thm => true
  | .perstNRelease => true
  | .linkUp _ _ => true
  | .flashOperationComplete _ _ => true
  | .testEnd => true
  | .egressFrameSent _ => true
  | .conflictWait => true
  | .protocolException _ => true
  | .canIntegration _ => true

end Sys2Proof
end

