-- ==== Sys2Proof/Tests/Slice0.lean ====
section
/-! SUPPORT. Tests: for every check of WellFormed a command that it refuses, a few of the spec's worked examples, and for
every statement that has premises a state and operands that meet them. -/

section
set_option Elab.async false
set_option linter.unusedVariables false

namespace Sys2Proof.Tests
open Sys2Proof Sys2Proof.Machine

/-! ## States for the tests -/

/-- A device in a mode, awake, its lock-out released. -/
def W.inMode (m : Mode) : State :=
  ({ State.reset with sys := { State.reset.sys with inReset := false, lockout := .released } } : State).setFld Fld.SYS_MODE_MODE m.code

/-- A device in READY. -/
def W.ready : State := W.inMode .ready

/-- A device whose journal flushes after a trip of the lock-out. -/
def W.flushing : State := { State.reset with sys := { State.reset.sys with lockout := .flushing } }

/-- A NIGHT on +24V whose supply has tripped. -/
def W.nightFlush : State := W.flushing.setFld Fld.SYS_MODE_MODE Mode.night.code

/-- A device held in reset by RESET_N with its supplies good. -/
def W.held : State := { State.reset with sys := { State.reset.sys with lockout := .released, resetLow := true } }

/-- A device with an accepted reset. -/
def W.resetAsked : State := { W.ready with sys := { W.ready.sys with resetReq := some 4 } }

/-- A device in RUN with profile 0 active and axis 0 RUNNING. -/
def W.running : State :=
  let s := (W.inMode .run).setFld (Fld.SPD_STATE_STATE 0) 2
  { s with sys := { s.sys with active := some 0 } }

/-- A device in NIGHT on VBAT with the wake timer running. -/
def W.night : State :=
  let s := (W.inMode .night).setFlag Fld.PMU_WAKE_RUN true
  { s with sys := { s.sys with lockout := .off, nightOnVbat := true, vinPresent := false } }

/-- The same with P10.020 at 24 h. -/
def W.onVbat : State := W.night.setPar 10 20 0 0x41C00000

/-- The same after 25 hours. -/
def W.longNight : State := { W.onVbat with sys := { W.onVbat.sys with vbatNs := 90_000_000_000_000 } }

/-- A NIGHT on VBAT after a Dusk. -/
def W.afterDusk : State := W.onVbat.setFlag Fld.PMU_NIGHT_ORIGIN true

/-- A NIGHT with P10.022 at 1 minute. -/
def W.timer : State := W.night.setPar 10 22 0 0x3F800000

/-- A NIGHT whose domain has lost its contents. -/
def W.deadNight : State := { W.night with sys := { W.night.sys with nightDead := true } }

/-- A device in DEEP NIGHT. -/
def W.deep : State := W.inMode .deepNight

/-- A descriptor of the console ring. -/
def W.desc (index sub : BitVec 8) : Desc :=
  { sq := 16, cid := 1, index := index, sub := sub, silent := false, quick := false, hard := false, absolute := false, chained := false }

/-- A running Dawn at a step. -/
def W.dawn (k : Nat) : State := (W.inMode .dawn).reach k

/-- A Dawn with the 800 MHz PLL locked. -/
def W.pll800 : State := (W.dawn 0).setFlag Fld.SYS_CLK_PLL800 true

/-- A Dawn whose 400 MHz PLL has failed once. -/
def W.tried : State := { W.dawn 0 with sys := { (W.dawn 0).sys with pllTries := 1 } }

/-- A Dawn in which the island group of set 0 has started with no channel up. -/
def W.groupDown : State := { W.dawn 4 with sys := { (W.dawn 4).sys with islandsUp := 1 } }

/-- A Dawn whose image has been loaded. -/
def W.imageLoaded : State := { W.dawn 6 with sys := { (W.dawn 6).sys with imageOk := true } }

/-- A Dawn in which every pair but CP_0 has started. -/
def W.noCp0 : State := { W.dawn 7 with sys := { (W.dawn 7).sys with pairStarted := 14 } }

/-- A Dawn in which every pair but CP_3 has started. -/
def W.noCp3 : State := { W.dawn 7 with sys := { (W.dawn 7).sys with pairStarted := 7 } }

/-- SERVICE without a console character for 1,000 s. -/
def W.idle : State := { W.inMode .service with sys := { (W.inMode .service).sys with poweredNs := 1_000_000_000_000 }, timers := [(.idle, 0)] }

/-- A Dusk of 1,000 s. -/
def W.longDusk : State := { W.inMode .dusk with sys := { (W.inMode .dusk).sys with poweredNs := 1_000_000_000_000 }, timers := [(.dusk, 0)] }

/-- A Dawn about to load its profile. -/
def W.loading : State := { W.dawn 8 with sys := { (W.dawn 8).sys with pairStarted := 15 } }

/-- A device in READY with the deferred parts of the STO path test due. -/
def W.deferred : State :=
  let s := ((W.ready.setFld (Fld.PSP_STATE_STATE 0) 1).setFlag Fld.SFI_STATUS_STO_A true).setFlag Fld.SFI_STATUS_STO_B true
  { s with sys := { s.sys with stoInputsDeferred := true, stoSetDeferred := 1 } }

/-- A Dusk whose last step runs. -/
def W.duskEnd : State := forAll four (fun x t => t.setFld (Fld.PSP_STATE_STATE x) 1) (W.inMode .dusk)

/-- A Dusk that waits for CROSS of set 2. -/
def W.duskCross : State := (W.inMode .dusk).setFlag (Fld.PSP_STATE_CROSS 2) true

/-- A device whose refresh check waits for the RTC. -/
def W.refreshDue : State := { W.ready with sys := { W.ready.sys with refreshDue := true } }

/-- A device whose host is local firmware. -/
def W.localHost : State := W.ready.setFlag Fld.HIF_CFG_LOCAL true

/-- A Dawn that checks image A. -/
def W.imageTry : State := { W.dawn 5 with sys := { (W.dawn 5).sys with imageTry := some false } }

/-- A Dawn that checks image B after image A has failed. -/
def W.imageTryB : State := { W.dawn 5 with sys := { (W.dawn 5).sys with imageTry := some true } }

/-- A Dawn at the STO path test with both inputs high. -/
def W.stoTest : State := ((W.dawn 9).setFlag Fld.SFI_STATUS_STO_A true).setFlag Fld.SFI_STATUS_STO_B true

/-- A device in READY whose profile has been loaded at Dawn and whose islands are up. -/
def W.loaded : State := { W.ready with sys := { W.ready.sys with profileLoaded := true, islandsUp := 15, active := some 0 } }

/-- W.loaded after a millisecond with power. -/
def W.older : State := { W.loaded with sys := { W.loaded.sys with poweredNs := 1_000_000 } }

/-- Channel 0 asks for on while channel 1 is off and confirmed off. -/
def W.asking : State := (W.older.modGc 0 fun g => { g with request := true }).modGc 1 fun g => { g with confOff := true }

/-- A set in RUN. -/
def W.owned : State := W.loaded.setFld (Fld.PSP_STATE_STATE 0) 0

/-- A set in BLOCK whose axis is STOPPED. -/
def W.stopped : State := W.loaded.setFld (Fld.PSP_STATE_STATE 0) 1

/-- Phase U of set 0 in RUN with its counter at the compare. -/
def W.edge : State :=
  ((W.owned.setFlag (Fld.PWM_STATUS_RUN_REL 0) true).setFld (Fld.PWM_CMPR_CMP 0 0) 1).modPwm 0 fun p => { p with active := true, start := -1 }

/-- Channel 0 waits for its confirmation. -/
def W.awaiting : State := (W.loaded.modGc 0 fun g => { g with awaitConf := true }).modGc 1 fun g => { g with cmd := true }

/-- The same after T_CONF_MAX. -/
def W.late : State := (W.older.modGc 0 fun g => { g with awaitConf := true }).modGc 1 fun g => { g with cmd := true }

/-- The plateau check of channel 0 is about to be armed. -/
def W.arming : State := W.loaded.modGc 0 fun g => { g with armTimer := true }

/-- The plateau check of channel 0 is armed. -/
def W.armed : State := W.loaded.modGc 0 fun g => { g with armed := true }

/-- Set 0 in ASC with CROSS set. -/
def W.ascCross : State := (W.loaded.setFld (Fld.PSP_STATE_STATE 0) 4).setFlag (Fld.PSP_STATE_CROSS 0) true

/-- Phase U of set 0 with its comparator enabled and its input fitted and valid. -/
def W.ocReady : State := (W.loaded.setFld (Fld.PSP_OC_EN 0) 1).setFld (Fld.MFE_CFG_FIT 0) 1

/-- Axis 0 RUNNING below UV. -/
def W.underVolt : State := ((W.loaded.setFld (Fld.SPD_STATE_STATE 0) 2).setFlag (Fld.PSP_STATE_UV_LVL 0) true)

/-- A phase gate of set 0 commanded on. -/
def W.cmdOn : State := W.loaded.modGc 0 fun g => { g with cmd := true, gateOn := true }

/-- Every phase gate of set 0 reported off. -/
def W.allOff : State := forAll (phaseChans 0) (fun n t => (t.modGc n fun g => { g with confOff := true }).setFlag (Fld.GDC_STATUS_LINK n) true) W.loaded

/-- Set 0 in BLOCK with a chopper that has been off for a millisecond. -/
def W.chopIdle : State := ((W.older.setFld (Fld.PSP_STATE_STATE 0) 1).setFld (Fld.PSP_CHOP_RB 0) 1000).setFld (Fld.MFE_SHUNT_RSH 0) 1000

/-- The same with a chopper check that waits for a step of 100 A. -/
def W.chopping : State := W.chopIdle.modPsp 0 fun q => { q with chopCheck := some { expected := 100, void := false } }

/-- A set without a chopper whose OV2 stands at 0 V. -/
def W.linkHigh : State := W.loaded.setFld (Fld.PSP_OV12_OV2 0) 0

/-- The clocks of set 0 run. -/
def W.clocks : State := W.loaded.setFld ⟨Reg.SYS_CLK, 0, 1⟩ 1

/-- Set 0 with a sigma-delta input on phase U and running clocks. -/
def W.sigma : State := (W.clocks.setFld (Fld.MFE_CFG_FIT 0) 1).setFld (Fld.MFE_CFG_SD 0) 1

/-- The known-answer test of lane 0 runs. -/
def W.katBusy : State := W.loaded.setFlag (Fld.LOOM_STATUS_KAT_BUSY 0) true

/-- Three in-line values of 0 V. -/
def W.raw : Raw3 :=
  let p : InlineRaw := { codes := Vector.replicate 8 0, bits := Vector.ofFn fun k => k.val % 2 == 0 }
  { u := p, v := p, w := p }

theorem W.ntc_range (v : Rat) (hv : 0 ≤ v) : v * 9_995 ≤ ntcOhms v false ∧ ntcOhms v false ≤ v * 10_005 := by
  have h : ∀ z : Int, -500 ≤ clampInt (-500) 500 z ∧ clampInt (-500) 500 z ≤ 500 := fun z => by unfold clampInt; omega
  obtain ⟨h1, h2⟩ := h (Config.ntcStep (v * 10_000))
  have h1 : (-500 : Rat) ≤ (clampInt (-500) 500 (Config.ntcStep (v * 10_000)) : Rat) := by exact_mod_cast h1
  have h2 : (clampInt (-500) 500 (Config.ntcStep (v * 10_000)) : Rat) ≤ 500 := by exact_mod_cast h2
  simp only [ntcOhms, Bool.false_eq_true, if_false]
  constructor <;> nlinarith

/-- Set 0 at its peak. -/
def W.atPeak : State := W.clocks.modPwm 0 fun p => { p with start := -(W.clocks.fullScale 0) }

/-- Set 0 with two updates per period at its peak. -/
def W.dual : State := W.atPeak.setFlag (Fld.PWM_CFG_DUAL 0) true

/-- Set 0 at a valley. -/
def W.atValley : State := W.clocks.setFlag (Fld.PWM_STATUS_HALF 0) true

/-- Set 0 with both triggers of its shunt windows at the valley. -/
def W.window : State := ((W.clocks.setFld (Fld.MFE_SHUNT_RSH 0) 1000).modPwm 0 fun p => { p with active := true, missA := false, missB := false })

/-- The offset measurement of set 0 runs. -/
def W.zeroing : State := (W.clocks.setFld (Fld.PSP_STATE_STATE 0) 1).modMfe 0 fun m => { m with ofsRun := true }

/-- The same in a start of axis 0. -/
def W.startZero : State := W.zeroing.setFld (Fld.SPD_STATE_STATE 0) 1

/-- A compare set on its way to PWM channel 0. -/
def W.sentSet : State := W.clocks.modPwm 0 fun p => { p with sent := some { u := 1, v := 2, w := 3 } }

/-- Lane 0 with its inputs latched. -/
def W.latched : State := W.clocks.latchLane 0 0

/-- The safety island has missed 33 windows of set 0. -/
def W.gap : State :=
  let s : State := { W.loaded with sys := { W.loaded.sys with pairStarted := 15 } }
  { s with sfs := s.sfs.set 0 { s.sfs[0] with gap := 33 } }

/-- Axis 0 RUNNING with a ground-fault level standing. -/
def W.ground : State :=
  ((W.loaded.setFld (Fld.SPD_STATE_STATE 0) 2).setFlag (Fld.MFE_STATUS_GF_LVL 0) true).setFld (Fld.MFE_CFG_FIT 0) 7

/-- The two DC-link measurements of set 0 apart. -/
def W.diverge : State := W.ready.modPsp 0 fun p => { p with vdc := 100, tvHist := [(0, 600)] }

/-- Axis 0 in a state, with profile 0 active in RUN. -/
def W.axis (k : Nat) : State := W.loaded.setFld Fld.SYS_MODE_MODE 4 |>.setFld (Fld.SPD_STATE_STATE 0) k

/-- Axis 0 STOPPING with its zero-speed time running. -/
def W.atZero : State := (W.axis 3).modSpd 0 fun p => { p with zeroAt := some 0 }

/-- Axis 0 STOPPING with zero held. -/
def W.zeroHeld : State := (W.axis 3).modSpd 0 fun p => { p with hold := true }

/-- Axis 0 STOPPING with its torque ramping off. -/
def W.rampOff : State := (W.axis 3).modSpd 0 fun p => { p with offT0 := some 0 }

/-- Axis 0 RUNNING with a shock window open. -/
def W.shock : State := (W.axis 2).modSpd 0 fun p => { p with shock := some { t0 := 0, since := none } }

/-- Axis 0 injecting with its period full, at a speed above HO_HIGH. -/
def W.injecting : State := ((W.axis 2).setFlag (Fld.POS_STATUS_INJ_ON 0) true).modPos 0 fun p => { p with injN := 1000 }

/-- Axis 0 in its first polarity pulse. -/
def W.pulse : State :=
  (W.axis 1).modPos 0 fun p =>
    { p with start := some { relock := false, asc := false, result := none, search := false, still := true }, pulse := 1 }

/-- Axis 0 waiting for its terminal measurement with its gates confirmed off. -/
def W.measuring : State :=
  (forAll (phaseChans 0) (fun n t => t.modGc n fun g => { g with confOff := true }) ((W.axis 1).setFld (Fld.POS_CFG_SRC 0) 2)).modPos 0 fun p =>
    { p with start := some { relock := false, asc := false, result := none, search := false, still := false } }

/-- Axis 0 with a terminal measurement that has lost its voltage. -/
def W.sampled : State := (W.axis 1).modPos 0 fun p => { p with meas := some { t0 := 0, prev := none, adv := 0, det := false, vab := DQ.zero, con := false } }

/-- Axis 0 starting from ASC with CROSS still set. -/
def W.fromAsc : State :=
  ((W.axis 1).setFlag (Fld.PSP_STATE_CROSS 0) true).modPos 0 fun p =>
    { p with start := some { relock := false, asc := true, result := none, search := false, still := true } }

/-- Axis 0 RUNNING with slack found and SLACK_ACT 1. -/
def W.slackStop : State := ((W.axis 2).setFld (Fld.SPD_CFG_SLACK_ACT 0) 1).modSpd 0 fun p => { p with slackAt := some 0 }

/-- Axis 0 RUNNING in a ventilation ride-through. -/
def W.vent : State := (W.axis 2).modSpd 0 fun p => { p with vent := some { tPre := 0, pPre := 0, t0 := 0, since := none } }

/-- Axis 0 STOPPED with nothing that refuses its start. -/
def W.startable : State :=
  ((((W.axis 0).setFlag Fld.PSP_REQ_EN true).setFld (Fld.MFE_CFG_FIT 0) 7).modPsp 0 fun p => { p with vdc := 600, dcCheck := 600 })

/-- Axis 0 of class W with heave feedforward enabled, 1,000 ns after the lock of the PLL. -/
def W.heave : State := { (W.axis 2).setFlag (Fld.SPD_CFG_HEAVE_EN 0) true with classW := 1, weft := 1000 }


/-- The same with N_MAX of the blending at 0. -/
def W.slowHf : State := W.injecting.setPar 22 10 0 0

theorem W.absRat_nonneg (q : Rat) : 0 ≤ absRat q := by
  unfold absRat; split <;> linarith

/-- Port 0 with a type, profile 0 active. -/
def W.port (t : Nat) : State := W.loaded.setFld (Fld.FBI_CFG_TYPE 0) t

/-- A sample that shows nothing. -/
def W.still : Analog := { sin := 0, cos := 0, ang := 0, freq := 0, wireOk := true }

/-- A good serial word. -/
def W.serial : SerialIn := { bits := 5, check := 0, lineOk := true, startOk := true, nE := true, nW := true }

/-- Port 0 of type SSI waiting for its word. -/
def W.asked : State := (W.port 3).modFb 0 fun p => { p with reqAt := some 7 }

/-- Port 0 serving a running position loop. -/
def W.posLoop : State :=
  (((W.axis 2).setFld (Fld.FBI_CFG_TYPE 0) 1).setFld (Fld.SPD_CFG_MODE 0) 1).setFld (Fld.POS_CFG_SRC 0) 1

/-- Step channel 4 in profile mode. -/
def W.step : State := W.loaded.setPar 32 30 4 0x3F800000

/-- Axis 0 RUNNING in POSITION mode with its reference from port 1. -/
def W.pulseRef : State := W.posLoop.setPar 32 50 0 0x3F800000

/-- Step channel 4 with the limit pair of axis 0. -/
def W.limit : State := (W.step.setPar 32 21 4 0).setPar 32 20 4 0x3F800000

/-- Step channel 4 before its reference check. -/
def W.refCheck : State := (W.step.setPar 32 12 4 0).modPrg 4 fun p => { p with checkAt := some 0 }

/-- W.loaded after a thousand seconds with power. -/
def W.aged : State := { W.loaded with sys := { W.loaded.sys with poweredNs := 1_000_000_000_000 } }

/-- A device with a timer that started at 0. -/
def W.timed (k : Timer) (s : State) : State := { s with timers := [(k, 0)] }

/-- Axis 0 RUNNING below UV for a thousand seconds. -/
def W.agedUnder : State := (W.aged.setFld (Fld.SPD_STATE_STATE 0) 2).setFlag (Fld.PSP_STATE_UV_LVL 0) true

/-- Channel 1 with a marker that has just changed. -/
def W.marked (b : Bool) : State := (W.ready.setFlag (Fld.GDC_STATUS_ASC_MARK 1) b).modGc 1 fun g => { g with markAt := some 0 }

/-- Set 0 with all gates off and CROSS from OPEN. -/
def W.openCross : State := (W.allOff.modPsp 0 fun p => { p with openOk := true, src := 0 }).setFld (Fld.PSP_STATE_CROSS_SRC 0) 0

/-- A device a thousand seconds of Weft time later. -/
def W.later (s : State) : State := { s with weft := 1_000_000_000_000 }

/-- A device whose START_TMO on axis 0, or another timer, has run for a thousand seconds. -/
def W.startTmo (s : State) : State := { s with sys := { s.sys with poweredNs := 1_000_000_000_000 }, timers := (.start 0, 0) :: s.timers }

/-- The lead of a shared axis in its start. -/
def W.leadStart : State :=
  (((W.axis 1).setFlag (Fld.LSH_CFG_SHARED 0) true).setFld (Fld.LSH_STATE_ROLE 0) 1).modPos 0 fun p =>
    { p with start := some { relock := false, asc := false, result := none, search := false, still := true } }

/-- Port 0 of type SSI with a word in the window before and one in this one. -/
def W.words : State :=
  ((W.port 3).modFb 0 fun p => { p with winWord := some (0, 0), word := some 5, wordAt := 1000, h := 5 }).setReg (Reg.FBI_CPT 0) 4096

/-- Axis 0 a shared member in time with the fabric. -/
def W.member : State :=
  let s := ((W.loaded.setFlag (Fld.LSH_CFG_SHARED 0) true).setFld (Fld.LSH_STATE_MSTATE 0) 2).setFld Fld.WFT_SYNC_SSTATE 2
  s.modLsh 0 fun g =>
    { g with
      mine := some
        { group := 0, node := 5, cycle := 0, idx := 1, mstate := 2, flags := 0, sig := 0, te := 0, n := 0, did := 0, kth := 0, hops := 0, mofs := 0,
          seen := 0 } }

/-- Axis 0 the lead of its group in time with the fabric. -/
def W.lead : State :=
  (W.member.setFld (Fld.LSH_STATE_ROLE 0) 1).modLsh 0 fun g =>
    { g with
      lead := some
        { group := 0, node := 5, cycle := 0, idx := 1, cmd := 0, active := 0, sig := 0, tRef := 0, nRef := 0, nCmd := 0, teAx := 0, didMin := 0,
          share := [], flags := 0 } }

/-- The same as a follower that has heard the lead of the cycle. -/
def W.led : State :=
  W.member.modLsh 0 fun g =>
    { g with
      leads :=
        [{ group := 0, node := 5, cycle := 0, idx := 1, cmd := 0, active := 0, sig := 0, tRef := 0, nRef := 0, nCmd := 0, teAx := 0, didMin := 0,
           share := [], flags := 0 }] }

/-- The member out of time. -/
def W.unsynced : State := W.member.setFld Fld.WFT_SYNC_SSTATE 0

/-- The member ramping out. -/
def W.rampOut : State := (W.member.setFld (Fld.LSH_STATE_MSTATE 0) 5).modLsh 0 fun g => { g with ramp := some (0, 0) }

/-- A running safety island. -/
def W.island : State := { W.loaded with sys := { W.loaded.sys with pairStarted := 15 } }

/-- The same after a thousand seconds with power. -/
def W.agedIsland : State := { W.island with sys := { W.island.sys with poweredNs := 1_000_000_000_000 } }

/-- Input pair 0 in use with one channel clear. -/
def W.discrepant : State := (W.island.setPar 44 1 0 0x3F800000).setFld ⟨Reg.SFI_SI_STATE, 16, 1⟩ 1

/-- Test source 0 switched off. -/
def W.overloaded : State := { W.island with tst := W.island.tst.set 0 { W.island.tst[0] with off := true } }

/-- The supply of the outputs low. -/
def W.vsLow : State := W.island.setFlag Fld.SFI_SO_STATE_VS_LOW true

/-- Output pair 0 energised. -/
def W.energised : State := W.island.setFld Fld.SFI_SO_STATE_CMD 1

/-- A safety frame whose only partner waits. -/
def W.frame : List Byte :=
  let s := W.island.setPar 44 30 0 0x40000000
  let body := [BitVec.ofNat 8 (s.parNat 44 32 0), BitVec.ofNat 8 s.safeAddr] ++ halfBytes (s.parNat 44 31 0) ++ [0, 0, 1, 0] ++ List.replicate 20 0
  body ++ wordBytes (s.safeCode 0 body)

/-- Other bytes of the same SEQ. -/
def W.otherFrame : List Byte := []

/-- Connection 0 receiving, with a copy waiting on route A. -/
def W.receiving : State :=
  (((W.island.setPar 44 30 0 0x40000000).setFld Fld.WFT_SYNC_SSTATE 2).modSc 0 fun c => { c with first := [{ bytes := W.frame, routeB := false, at_ := 0 }] })

/-- Connection 0 with one frame accepted. -/
def W.secondFrame : State := W.island.modSc 0 fun c => { c with good := 1 }

/-- A device that meets the conditions of staging. -/
def W.mayStage : State := { W.ready with sys := { W.ready.sys with pairStarted := 15 } }

/-- An open staging of profile 1. -/
def W.stagingG : Staging := { target := 1, sealed := [], staged := [], readBack := [], sealing := none, rose := false }

/-- A device with the staging open. -/
def W.staging : State := { W.mayStage with isl := { W.mayStage.isl with staging := some W.stagingG } }

/-- The same with both STO inputs low and a set that can be sealed. -/
def W.sealable : State := W.staging

theorem W.sealable_set :
    Sys2Proof.Machine.sealable (W.sealable.targetParams W.stagingG.target) W.stagingG.staged W.sealable.slots[W.stagingG.target].classW = true := by decide +kernel

theorem W.sealable_sto : W.sealable.stoBothLow = true := by decide +kernel

theorem W.sealable_ok : W.sealable.stagingOk = true := by decide +kernel

theorem W.sealable_read : readBackOk W.stagingG = true := by
  have h : W.stagingG.staged = W.stagingG.sealed := rfl
  simp only [readBackOk, h, beq_self_eq_true, Bool.true_or, List.all_eq_true, implies_true]

theorem W.staging_fresh : W.sealable.overdue .staging stagingNs = false := by decide +kernel

theorem W.sealFail_none : W.sealable.sealFail W.stagingG (safetyCrc W.stagingG.staged) = none := by
  simp only [State.sealFail, bne_self_eq_false, W.sealable_read, W.sealable_ok, W.sealable_sto, W.sealable_set, W.staging_fresh, Bool.not_true, Bool.false_eq_true,
    if_false]

theorem W.sealFail_crc : (W.staging.sealFail W.stagingG (safetyCrc W.stagingG.staged + 1)).isSome = true := by
  have h : W.staging.overdue .staging stagingNs = false := by decide +kernel
  have key : ∀ c : Word, c ≠ safetyCrc W.stagingG.staged → (W.staging.sealFail W.stagingG c).isSome = true := by
    intro c hc
    unfold State.sealFail
    rw [if_neg (by simp [h]), if_pos (by simpa using hc)]
    rfl
  exact key _ (by simp)

/-- The same with its flash write running. -/
def W.sealing : State := { W.staging with isl := { W.staging.isl with staging := some { W.stagingG with sealing := some (W.desc 0 0) } } }

/-- Pair 0 to 2 in a state of LCK. -/
def W.pair (k : Nat) : State := forAll [0, 1, 2] (fun (n : Fin 4) t => t.setFld (Fld.LCK_STATUS_STATE n) k) W.loaded

/-- SQ_0 and CQ_0 enabled. -/
def W.ring : State := (W.ready.setFlag (Fld.HIF_SQ_CFG_ENABLE 0) true).setFlag (Fld.HIF_CQ_CFG_ENABLE 0) true

/-- The same with a descriptor that waits. -/
def W.waiting : State :=
  W.ring.modSq 0 fun q => { q with waiting := [{ opcode := 1, cid := 1, chain := false, chainLen := 0, chainSeq := 0, fence := false }] }

/-- An armed capture. -/
def W.scope : Scope :=
  { h := W.desc 0 1, buffer := 0, samples := 4, period := 1, regs := [0x40000000], t0 := 0, got := [] }

/-- A capture of no sample. -/
def W.wholeScope : Scope :=
  { h := W.desc 0 1, buffer := 0, samples := 0, period := 1, regs := [0x40000000], t0 := 0, got := [] }

/-- A device with a capture whose last sample has been taken. -/
def W.captured : State := { W.ready with hif := { W.ready.hif with scopes := [W.scope, W.wholeScope] } }

/-- A device ready for STO_TEST. -/
def W.mayTest : State := (W.ready.setFlag Fld.SFI_STATUS_STO_A true).setFlag Fld.SFI_STATUS_STO_B true

theorem W.imageOk : W.ready.imageOk W.ready.otherImage true true true 0xFFFF = true := by
  have h : W.ready.fld ⟨Reg.SYS_SVN, 0, 16⟩ ≤ 0xFFFF := by
    unfold State.fld fieldGet
    rw [BitVec.toNat_and]
    exact Nat.and_le_right
  have h2 : W.ready.images[imageIx W.ready.otherImage].partly = false := by decide +kernel
  simp only [State.imageOk, h2]
  simpa using h

/-- A device whose record is being written. -/
def W.recordWrite : State := { W.ready with sys := { W.ready.sys with flashBusy := some .deviceRecord } }

/-- A device that watches its host. -/
def W.hostWatch : State := W.ready.setPar 10 30 0 0x3F800000

/-- A parameter of the device. -/
def W.p10 : ParamId := { group := 10, item := 22, inst := 0 }

/-- The parameters of a profile with one motor on four sets: P16.037, P19.001 and P19.011 of every set; P20.004, P20.011 to P20.014 and P20.030;
P22.001 and P22.004; P24.004 and P24.011; P30.001 and P30.004. -/
def W.bank : Bank :=
  [(4105472, 0x3F800000), (4105473, 0x3F800000), (4105474, 0x3F800000), (4105475, 0x3F800000), (4864256, 0x40E00000), (4864257, 0x40E00000),
    (4864258, 0x40E00000), (4864259, 0x40E00000), (4866816, 0x3F800000), (4866817, 0x3F800000), (4866818, 0x3F800000), (4866819, 0x3F800000),
    (5121024, 0x3F800000), (5122816, 0x3F800000), (5123072, 0x3F800000), (5123328, 0x3F800000), (5123584, 0x3F800000), (5127680, 0x3F800000),
    (5632256, 0x3F800000), (5633024, 0x45800000), (6145024, 0x42C80000), (6146816, 0x3F800000), (7680256, 0x3F800000), (7681024, 0x1000)]

/-- A valid stored profile. -/
def W.profile : Profile :=
  { stored := true, crcOk := true, sealed := true, sealCrc := safetyCrc W.bank, seals := 1, sealTime := 0, topology := .m1, classW := 0,
    params := W.bank }

theorem W.profile_axes :
    (four.all fun a =>
      !W.profile.topology.has a ||
        (let c : Pars := fun g i x => bankPar W.profile.params g i x
         let xs := (W.profile.topology.sets a).map (·.val)
         setsValid c xs && machineValid c xs (W.profile.topology == .p1) a.val && sourceValid c xs (W.profile.classW.getLsbD a.val) a.val
           && motionValid c (W.profile.classW.getLsbD a.val) a.val && shareValid c a.val)) = true := by decide +kernel

theorem W.profile_ports :
    ((List.range 4).all (serialValid fun g i x => bankPar W.profile.params g i x)
      && limitsValid (fun g i x => bankPar W.profile.params g i x) (fun a => W.profile.topology.has (Fin.ofNat 4 a))) = true := by
  decide +kernel

theorem W.profile_valid : W.profile.valid = true := by
  have h1 := W.profile_axes
  have h2 := W.profile_ports
  simp only [Bool.and_eq_true] at h2
  have h3 : (W.profile.sealCrc == safetyCrc W.profile.params) = true := beq_self_eq_true (safetyCrc W.bank)
  have h4 : (W.profile.stored && W.profile.crcOk && W.profile.sealed) = true := rfl
  simp only [Profile.valid, h1, h2.1, h2.2, h3, h4, Bool.and_true]

/-- The profile stored in slot 1. -/
def W.slotted : State := { W.loaded with slots := W.loaded.slots.set 1 W.profile }

/-- Port 0 ACTIVE and the node at address 9. -/
def W.up : State :=
  ((W.ready.setFld (Fld.WFT_P_STATE_LSTATE 0) 2).setFld Fld.WFT_NODE_ASTATE 2).setFld Fld.WFT_NODE_ADDR 9

/-- The node claiming. -/
def W.claiming : State := W.up.setFld Fld.WFT_NODE_ASTATE 1

/-- Port 0 training. -/
def W.training : State := W.up.setFld (Fld.WFT_P_STATE_LSTATE 0) 1

/-- A packet of node 5 partly received. -/
def W.partly : State :=
  W.up.modWft fun w => { w with
    ctx := [{ addr := 5, cls := 2, uid := none, txPkt := 0, rxPkt := none, part := some (1, 1, [1]), heard := 0, pinned := false, conn := none, gone := none, partAt := 0 }] }

/-- A ping of node 5. -/
def W.ping : Ping := { addr := 5, left := 2, t0 := 0, rtts := [] }

/-- Node 5 reached through port 0. -/
def W.routed : State := W.up.setCost 5 0 1

/-- What a synchronised neighbour announces. -/
def W.gm : HelloMsg :=
  { uid := 7, addr := 9, astate := 2, sstate := 3, steps := 0, gmPrio := 1, gmUid := 7, parentUid := Config.uid + 1, delayOk := true }

/-- Port 0 leads to a synchronised neighbour that is this node's parent. -/
def W.slave : State :=
  (((W.up.modWft fun w => { w with dawn := (W.up.setPar 36 12 0 0x437F0000).params }).setFlag (Fld.WFT_P_STATE_DELAY_OK 0) true).modWft fun w => { w with parent := some 0, newN := 0 }).modPort 0 fun q =>
    { q with hello := some W.gm }

theorem W.gm_other : (W.gm.parentUid != Config.uid) = true := by
  simp [W.gm]

/-- The same with its SYNC just received. -/
def W.heardSync : State :=
  (W.slave.modPort 0 fun q => { q with heardAt := W.slave.sys.poweredNs }).modPort 0 fun q =>
    { q with seq := some 1, seqAt := W.slave.sys.poweredNs, syncAt := W.slave.sys.poweredNs }

theorem W.heardSync_cand : W.heardSync.candidate 0 = some W.gm := by
  have hq : W.heardSync.wft.port[(0 : Fin 4)].hello = some W.gm := rfl
  have h2 : (W.heardSync.linkUp 0 && 2 ≤ W.gm.sstate.toNat) = true := by decide +kernel
  have h3 : (W.heardSync.flag (Fld.WFT_P_STATE_DELAY_OK (0 : Fin 4)) && W.heardSync.wft.port[(0 : Fin 4)].seq.isSome
    && decide (W.heardSync.sys.poweredNs ≤ W.heardSync.wft.port[(0 : Fin 4)].seqAt + 4 * W.heardSync.syncNs)) = true := by decide +kernel
  simp only [Bool.and_eq_true] at h2 h3
  simp only [State.candidate, hq, h2.1, h2.2, W.gm_other, h3.1.1, h3.1.2, h3.2, Bool.and_self, if_true]

theorem W.heardSync_best : W.heardSync.bestParent = some (0, W.gm) := by
  have h1 : W.heardSync.candidate 1 = none := rfl
  have h2 : W.heardSync.candidate 2 = none := rfl
  have h3 : W.heardSync.candidate 3 = none := rfl
  simp only [State.bestParent, four, List.foldl, W.heardSync_cand, h1, h2, h3]

theorem W.heardSync_parent : W.heardSync.chooseParent.wft.parent = some 0 := by
  have hp : (W.heardSync.p36 12).floor.toNat = 255 := by decide +kernel
  simp only [State.chooseParent, W.heardSync_best, hp]
  rfl

theorem W.heardSync_newN : W.heardSync.chooseParent.wft.newN = 0 := by
  have hp : (W.heardSync.p36 12).floor.toNat = 255 := by decide +kernel
  simp only [State.chooseParent, W.heardSync_best, hp]
  rfl

theorem W.heardSync_eq :
    (((W.slave.modPort 0 fun q => { q with heardAt := W.slave.sys.poweredNs }).modPort 0 fun q =>
      { q with seq := (if (W.slave.wft.port[(0 : Fin 4)].seq.all fun q => decide (0 < ((1 : Word) - q).toInt)) then some 1 else q.seq), seqAt := (if (W.slave.wft.port[(0 : Fin 4)].seq.all fun q => decide (0 < ((1 : Word) - q).toInt)) then W.slave.sys.poweredNs else q.seqAt), syncAt := W.slave.sys.poweredNs }).chooseParent) = W.heardSync.chooseParent := by
  have h : (W.slave.wft.port[(0 : Fin 4)].seq.all fun q => decide (0 < ((1 : Word) - q).toInt)) = true := by decide +kernel
  simp only [h, if_true]
  rfl

/-- The same with no parent yet. -/
def W.newSlave : State := W.slave.modWft fun w => { w with parent := none }

/-- The same with a SYNC just received. -/
def W.newHeard : State :=
  (W.newSlave.modPort 0 fun q => { q with heardAt := W.newSlave.sys.poweredNs }).modPort 0 fun q =>
    { q with seq := some 1, seqAt := W.newSlave.sys.poweredNs, syncAt := W.newSlave.sys.poweredNs }

theorem W.newHeard_cand : W.newHeard.candidate 0 = some W.gm := by
  have hq : W.newHeard.wft.port[(0 : Fin 4)].hello = some W.gm := rfl
  have h2 : (W.newHeard.linkUp 0 && 2 ≤ W.gm.sstate.toNat) = true := by decide +kernel
  have h3 : (W.newHeard.flag (Fld.WFT_P_STATE_DELAY_OK (0 : Fin 4)) && W.newHeard.wft.port[(0 : Fin 4)].seq.isSome
    && decide (W.newHeard.sys.poweredNs ≤ W.newHeard.wft.port[(0 : Fin 4)].seqAt + 4 * W.newHeard.syncNs)) = true := by decide +kernel
  simp only [Bool.and_eq_true] at h2 h3
  simp only [State.candidate, hq, h2.1, h2.2, W.gm_other, h3.1.1, h3.1.2, h3.2, Bool.and_self, if_true]

theorem W.newHeard_best : W.newHeard.bestParent = some (0, W.gm) := by
  have h1 : W.newHeard.candidate 1 = none := rfl
  have h2 : W.newHeard.candidate 2 = none := rfl
  have h3 : W.newHeard.candidate 3 = none := rfl
  simp only [State.bestParent, four, List.foldl, W.newHeard_cand, h1, h2, h3]

theorem W.newHeard_parent : W.newHeard.chooseParent.wft.parent = some 0 := by
  have hp : (W.newHeard.p36 12).floor.toNat = 255 := by decide +kernel
  simp only [State.chooseParent, W.newHeard_best, hp]
  rfl

theorem W.newHeard_newN : W.newHeard.chooseParent.wft.newN = 8 := by
  have hp : (W.newHeard.p36 12).floor.toNat = 255 := by decide +kernel
  simp only [State.chooseParent, W.newHeard_best, hp]
  rfl

theorem W.newHeard_eq :
    (((W.newSlave.modPort 0 fun q => { q with heardAt := W.newSlave.sys.poweredNs }).modPort 0 fun q =>
      { q with seq := (if (W.newSlave.wft.port[(0 : Fin 4)].seq.all fun q => decide (0 < ((1 : Word) - q).toInt)) then some 1 else q.seq), seqAt := (if (W.newSlave.wft.port[(0 : Fin 4)].seq.all fun q => decide (0 < ((1 : Word) - q).toInt)) then W.newSlave.sys.poweredNs else q.seqAt), syncAt := W.newSlave.sys.poweredNs }).chooseParent) = W.newHeard.chooseParent := by
  have h : (W.newSlave.wft.port[(0 : Fin 4)].seq.all fun q => decide (0 < ((1 : Word) - q).toInt)) = true := by decide +kernel
  simp only [h, if_true]
  rfl

/-- Controller 0 on the bus. -/
def W.bus : State := (W.ready.setFlag (Fld.CAN_CFG_ENABLE 0) true).setFld (Fld.CAN_STATUS_STATE 0) 0

/-- Controller 0 sending the frame of its first buffer. -/
def W.sending : State :=
  ((W.bus.setFld (Fld.CAN_TXST_ACTIVE 0) 1).setFld (Fld.CAN_TXST_PEND 0) 1).modCan 0 fun k => { k with
    tb := k.tb.set 0 (some { ident := 5, dlc := 0, fdf := false, brs := false, data := [] }) }

/-- A Dawn that has stopped. -/
def W.failed : State := (W.dawn 3).setFlag Fld.SYS_DAWN_FAILED true

/-- SERVICE with STO_A, STO_B and EN high. -/
def W.bench : State :=
  ((({ W.loaded with sys := { W.loaded.sys with pairStarted := 15 } } : State).setFld Fld.SYS_MODE_MODE 6).setFlag Fld.SFI_STATUS_STO_A true |>.setFlag
    Fld.SFI_STATUS_STO_B true |>.setFlag Fld.PSP_REQ_EN true) |>.setFld (Fld.PSP_STATE_STATE 0) 1

/-- The same with a chopper at 30 V. -/
def W.benchChop : State := (W.bench.setFld (Fld.PSP_CHOP_RB 0) 1000).modPsp 0 fun p => { p with vdc := 30 }

/-- The same with a sensorless axis. -/
def W.benchHf : State := W.bench.setFld (Fld.POS_CFG_SRC 0) 2

theorem W.atRest : W.benchHf.takeLine.atRest 0 = true := by
  have h : W.benchHf.takeLine.spd[(0 : Fin 4)].nf = 0 := by decide +kernel
  have h0 : toRpm 0 = 0 := by simp [toRpm]
  have h1 : decide (absRat 0 ≤ W.benchHf.takeLine.par 24 6 0) = true := by decide +kernel
  have h2 : decide (W.benchHf.takeLine.termSq 0 < W.benchHf.takeLine.par 22 40 0 * W.benchHf.takeLine.par 22 40 0) = true := by
    decide +kernel
  rw [State.atRest, h, h0]
  exact Bool.and_eq_true _ _ ▸ ⟨h1, h2⟩

/-- gdc dead of HB_0 runs. -/
def W.deadTest : State := W.bench.testing (.gdcDead 0 0 0) (some 0) false

/-- A running pwm run on set 0. -/
def W.tested : State :=
  let s := W.bench.testing (.pwmRun 0 0 0) (some 0) true
  { s with con := { s.con with begun := true } }

/-- The same before its first reconstruction. -/
def W.xc : State := W.tested

/-- The same after a reconstruction. -/
def W.xcDone : State := W.xc.modMfe 0 fun m => { m with recon := some { amps := { u := 0, v := 0, w := 0 }, tA := 0, tB := 0 } }

/-- Axis 0 ready to learn its port. -/
def W.learner : State :=
  (((((W.axis 2).setFld Fld.SYS_MODE_MODE 4).setFld (Fld.POS_CFG_SRC 0) 2).setFld (Fld.POS_STATUS_LAMBDA 0) 128).setPar 22 10 0 0).modPos 0
    fun p => { p with lam := 1 }

theorem W.learnOk : W.learner.takeLine.learnOk 0 = true := by
  have h1 : W.learner.takeLine.hoHigh 0 = 0 := by decide +kernel
  have h2 : W.learner.takeLine.absRpm 0 = 0 := by
    have : W.learner.takeLine.pos[(0 : Fin 4)].w = 0 := by decide +kernel
    simp only [State.absRpm, State.rpmOf, this]
    simp [absRat]
  have h3 : (W.learner.takeLine.axisExists 0 && W.learner.takeLine.source_ 0 == 2 && W.learner.takeLine.machine 0 != 2 &&
      W.learner.takeLine.axState 0 == AxSt.RUNNING) = true := by decide +kernel
  have h6 : W.learner.takeLine.pos[(0 : Fin 4)].lam = 1 := by decide +kernel
  have h4 : W.learner.takeLine.axisFallback 0 = false := by decide +kernel
  simp only [Bool.and_eq_true] at h3
  simp only [State.learnOk, State.learnBand, h1, h2, h3, h4, h6]
  decide +kernel

theorem W.sealFail_line : W.staging.takeLine.sealFail W.stagingG (safetyCrc W.stagingG.staged) = none := by
  have h : W.staging.takeLine = W.sealable := by decide +kernel
  rw [h]; exact W.sealFail_none

theorem W.pair_fresh (u : Nat) (h : (W.pair 2).cp[(2 : Fin 4)].stamps[1]? = some u) : u + 3_600_000_000_000 < (W.pair 2).sys.poweredNs := by
  have e : (W.pair 2).cp[(2 : Fin 4)].stamps[1]? = none := by decide +kernel
  rw [e] at h; cases h

/-- The islands of every set started. -/
def W.supplied : State := { W.ready with sys := { W.ready.sys with islandsUp := 15 } }

theorem W.reset_banks : State.reset.banksWf := ⟨by decide, by decide, by decide, by decide, by decide⟩

theorem W.reset_interlocked : State.reset.interlocked := by unfold State.interlocked; decide

/-- Pairs 0 to 2 in a state of LCK a thousand seconds with power later. -/
def W.agedPair (k : Nat) : State := { W.pair k with sys := { (W.pair k).sys with poweredNs := 1_000_000_000_000 } }

/-- A device that watches its host, a thousand seconds with power later. -/
def W.hostAged : State := { W.hostWatch with sys := { W.hostWatch.sys with poweredNs := 1_000_000_000_000 } }

/-- W.up a thousand seconds with power later. -/
def W.agedUp : State := { W.up with sys := { W.up.sys with poweredNs := 1_000_000_000_000 } }

/-- W.up after the broadcast of a claim of the next UID. -/
def W.seen : State := W.up.modWft fun w => { w with casts := [(Config.uid + 1, 0, 1, 0)] }

theorem W.seen_hit :
    ((W.seen.modPort 0 fun q => { q with heardAt := W.seen.sys.poweredNs }).seenCast (Config.uid + 1) 0 1).1 = true := by
  have h : (W.seen.modPort 0 fun q => { q with heardAt := W.seen.sys.poweredNs }).wft.casts = [(Config.uid + 1, 0, 1, 0)] := rfl
  have hp : (W.seen.modPort 0 fun q => { q with heardAt := W.seen.sys.poweredNs }).sys.poweredNs = 0 := rfl
  simp only [State.seenCast, h, hp]
  simp

/-- A packet of node 5 whose next fragment is overdue. -/
def W.partlyOld : State := { W.partly with sys := { W.partly.sys with poweredNs := 1_000_000_000_000 } }

/-- Node 5 reached, with every context pinned to others. -/
def W.fullCtx : State :=
  W.routed.modWft fun w => { w with
    ctx := List.replicate 256 { addr := 7, cls := 1, uid := none, txPkt := 0, rxPkt := none, part := none, heard := 0, pinned := true, conn := some 0,
                                gone := none, partAt := 0 } }

theorem W.noCtx : W.fullCtx.ctxFor 5 2 false = none := by decide +kernel

/-- Node 5 reached, with a full queue of class 2. -/
def W.fullQ : State :=
  W.routed.modPort 0 fun q => { q with
    q2 := List.replicate 12 { kind := 1, cls := 2, routeB := false, dst := 9, src := 5, hops := 0, frag := 0, last := true, pkt := 1, ts := 0, payload := [] } }

/-- A device that has reached READY. -/
def W.readied : State := { W.ready with sys := { W.ready.sys with readied := true } }

/-- SERVICE with an F_START on step channel 4. -/
def W.benchJog : State := W.bench.setPar 32 34 4 0x42C80000

/-- SERVICE with a pwm run on set 0 during which the console takes other commands. -/
def W.running2 : State := W.tested

/-- SERVICE with a gdc pulse on channel 0 that has begun. -/
def W.pulsing : State :=
  let s := W.bench.testing (.gdcPulse 0 5) (some 0) false
  { s with con := { s.con with begun := true } }

/-- A staging whose time has passed. -/
def W.stagingLate : State := W.timed .staging { W.staging with sys := { W.staging.sys with poweredNs := 10_000_000_000_000 } }

theorem W.stagingLate_fail : W.stagingLate.takeLine.sealFail W.stagingG (safetyCrc W.stagingG.staged) = some "TIMEOUT" := by
  have h : W.stagingLate.takeLine.overdue .staging stagingNs = true := by decide +kernel
  simp only [State.sealFail, h, if_true]

/-! ## Commands that cannot occur -/

theorem smoke_wf_bist : (Instr.bistSlotEnd 0 [.sram true, .sram true]).wellFormed = false := by decide
theorem smoke_wf_lead : (Instr.leadFrame
    { group := 0, node := 5, cycle := 0, idx := 1, cmd := 0, active := 0, sig := 0, tRef := 0, nRef := 0, nCmd := 0, teAx := 0, didMin := 0,
      share := [], flags := 0 }).wellFormed = false := by decide
theorem smoke_wf_cycle : (Instr.safetyCycle true [3, 3]).wellFormed = false := by decide
theorem smoke_wf_safety_frame : (Instr.safetyFrameCopy 0 false [1, 2]).wellFormed = false := by decide
theorem smoke_wf_tail : (Instr.sqTail 0 0 (List.replicate 4096
    { opcode := 1, cid := 1, chain := false, chainLen := 0, chainSeq := 0, fence := false })).wellFormed = false := by decide +kernel
theorem smoke_wf_read : (Instr.paramRead (W.desc 0 1) (List.replicate 8 { group := 10, item := 0, inst := 0 })).wellFormed = false := by decide
theorem smoke_wf_write : (Instr.paramWrite (W.desc 0 1) (List.replicate 8 ({ group := 10, item := 0, inst := 0 }, 0))).wellFormed = false := by decide
theorem smoke_wf_scope : (Instr.scopeArm (W.desc 0 1) 0 4 1 (List.replicate 9 0)).wellFormed = false := by decide
theorem smoke_wf_can_send : (Instr.canSend (W.desc 0 1)
    { ident := 0, dlc := 15, fdf := true, brs := false, data := List.replicate 65 0 }).wellFormed = false := by decide
theorem smoke_wf_weft_send : (Instr.weftSend (W.desc 0 1) (List.replicate 893 0)).wellFormed = false := by decide +kernel
theorem smoke_wf_heave : (Instr.heaveStream (W.desc 0 1) (List.replicate 4 { time := 0, speed := 0, accel := 0 })).wellFormed = false := by decide
theorem smoke_wf_access : (Instr.registerWrite .host 0x40000000 0 3 0).wellFormed = false := by decide
theorem smoke_wf_route : (Instr.route 0 [1, 2]).wellFormed = false := by decide
theorem smoke_wf_echo_req : (Instr.echoReq 0
    { cls := 2, routeB := false, dst := 1, src := 2, hops := 0, pkt := 0, payload := List.replicate 893 0 }).wellFormed = false := by decide +kernel
theorem smoke_wf_echo_resp : (Instr.echoResp 0
    { cls := 2, routeB := false, dst := 1, src := 2, hops := 0, pkt := 0, payload := List.replicate 893 0 }).wellFormed = false := by decide +kernel
theorem smoke_wf_can_rx : (Instr.canFrameRx 0
    { ide := false, rtr := false, id := 5, fdf := false, brs := false, esi := false, dlc := 8, data := [1, 2], sof := 0 }).wellFormed = false := by decide

/-! ## Worked examples of the spec -/

/-- 24_address_map.md, one host's view of the map: SYS_ID reads 0xE120_0343. -/
theorem test_sys_id : W.ready.readReg 0x4000_0000 = 0xE120_0343 := by decide +kernel

/-- 24_address_map.md: a read at BAR 0 offset 0x100 is unassigned and reads 0. -/
theorem test_unassigned : W.ready.readReg 0x4000_0100 = 0 := by decide +kernel

/-- 24_address_map.md: a host write to SFI_SC_3_STATE is refused as REG_LOCKED, with writer 0x10. -/
theorem test_host_sfi_write :
    (match execRegisterWrite .host 0x4050_0430 1 4 0 W.ready with
      | .next t => decide (t = W.ready.journal 0x0108 0x10 0x4050_0430 1)
      | _ => false) = true := by decide +kernel

/-- 17_core_pairs_lockstep.md: after the transient in the register-file write data, LCK_CP_3_EVENT reads 0x1040_0000. -/
theorem test_transient_event :
    (match execLockstepMismatch 3 4 0 (W.loaded.setFld (Fld.LCK_STATUS_STATE 3) PairSt.RUN) with
      | .next s => match execClassification 3 true true true s with
        | .next t => t.reg 0x4003_00C4 == 0x1040_0000
        | _ => false
      | _ => false) = true := by decide +kernel

/-- 07_pwm_timing.md: the narrow window of SET_0. PWM_SET_0_CMPR_0 reads 0x0002_4D10 and PWM_SET_0_CMPF_0 0x0002_5670. -/
theorem test_narrow_window :
    (((W.ready.setReg (Reg.PWM_CFG 0) 0xC001_86A0).loadRise 0 { u := 152000, v := 154000, w := 248000 }).loadFall 0
        { u := 152000, v := 154000, w := 248000 }).reg (Reg.PWM_CMPR 0 0) = 0x0002_4D10 ∧
      (((W.ready.setReg (Reg.PWM_CFG 0) 0xC001_86A0).loadRise 0 { u := 152000, v := 154000, w := 248000 }).loadFall 0
        { u := 152000, v := 154000, w := 248000 }).reg (Reg.PWM_CMPF 0 0) = 0x0002_5670 := by decide +kernel

/-- 18_host_rings.md: the completion of the ramp change begins 42 00 00 00 06 00 03 00. -/
theorem test_completion_bytes :
    (((W.ring.setFld (Fld.HIF_SQ_PTR_HEAD 0) 6).complete { W.desc 0 1 with sq := 0, cid := 0x42 } 3 0).hif.cq[(0 : Fin 16)].entries.map
      fun e => e.bytes.take 8) = [[0x42, 0, 0, 0, 6, 0, 3, 0]] := by decide +kernel

/-- CRC-32C of the nine digits is 0xE306_9283, the check value its definition publishes. -/
theorem test_crc32c : crc32c [0x31, 0x32, 0x33, 0x34, 0x35, 0x36, 0x37, 0x38, 0x39] = 0xE306_9283 := by decide +kernel

/-! ## Witnesses of the statements -/

theorem wit_ResetSequence_0 : ∃ (supplies : BitVec 6) (vin : Bool) (s : State), (s.sys.lockout = .filtering ∨ s.sys.lockout = .released) :=
  ⟨1, true, State.reset, by decide +kernel⟩

theorem wit_ResetSequence_1 : ∃ (s : State), (s.sys.lockout = .flushing) ∧ (s.journalFlush.mode ≠ .night) :=
  ⟨W.flushing, by decide +kernel, by decide +kernel⟩

theorem wit_ResetSequence_2 : ∃ (s : State), (s.sys.lockout = .flushing) ∧ (s.journalFlush.mode ≠ .night) :=
  ⟨W.flushing, by decide +kernel, by decide +kernel⟩

theorem wit_ResetSequence_3 : ∃ (vin : Bool) (s : State), (s.sys.lockout = .flushing) ∧ (s.journalFlush.mode = .night) :=
  ⟨true, W.nightFlush, by decide +kernel, by decide +kernel⟩

theorem wit_ResetSequence_4 : ∃ (s : State), (s.sys.lockout = .filtering) ∧ (s.sys.resetLow = false) :=
  ⟨State.reset, by decide +kernel, by decide +kernel⟩

theorem wit_ResetSequence_5 : ∃ (s : State), (s.awake = true) ∧ (s.sys.resetLow = false) :=
  ⟨W.ready, by decide +kernel, by decide +kernel⟩

theorem wit_ResetSequence_6 : ∃ (s : State), (s.sys.inReset = true) ∧ (s.sys.lockout = .released) :=
  ⟨W.held, by decide +kernel, by decide +kernel⟩

theorem wit_ResetSequence_7 : ∃ (c : BitVec 8) (s : State), (s.awake = true) ∧ (s.sys.resetReq = some c) :=
  ⟨4, W.resetAsked, by decide +kernel, by decide +kernel⟩

theorem wit_ResetSequence_8 : ∃ (w : Writer) (s : State), (s.writable w Reg.SYS_RESET = true) ∧ (s.allStopped = true) :=
  ⟨.host, W.ready, by decide +kernel, by decide +kernel⟩

theorem wit_ResetSequence_9 : ∃ (w : Writer) (s : State), (s.writable w Reg.SYS_RESET = true) ∧ (s.allStopped = false) :=
  ⟨.host, W.running, by decide +kernel, by decide +kernel⟩

theorem wit_ResetSequence_10 : ∃ (h : Desc) (s : State), (s.takes h 0x19 = true) ∧ (h.hard = true ∨ s.allStopped = true) :=
  ⟨W.desc 0 0, W.ready, by decide +kernel, by decide +kernel⟩

theorem wit_ResetSequence_11 : ∃ (s : State), (s.awake = true) :=
  ⟨W.ready, by decide +kernel⟩

theorem wit_NightAndWake_0 : ∃ (samples lowUs : Nat) (s : State), (s.mode = .night) ∧ (s.sys.inReset = false) ∧ (s.sys.lockout ≠ .flushing) ∧ (33 ≤ samples) :=
  ⟨33, 0, W.night, by decide +kernel, by decide +kernel, by decide +kernel, by decide +kernel⟩

theorem wit_NightAndWake_1 : ∃ (samples lowUs : Nat) (s : State), (s.mode ≠ .deepNight) ∧ (samples < 33) :=
  ⟨32, 0, W.night, by decide +kernel, by decide +kernel⟩

theorem wit_NightAndWake_2 : ∃ (samples lowUs : Nat) (s : State), (s.mode = .deepNight) ∧ (2000 ≤ lowUs) :=
  ⟨0, 2000, W.deep, by decide +kernel, by decide +kernel⟩

theorem wit_NightAndWake_3 : ∃ (samples lowUs : Nat) (s : State), (s.mode = .deepNight) ∧ (lowUs < 500) :=
  ⟨0, 499, W.deep, by decide +kernel, by decide +kernel⟩

theorem wit_NightAndWake_4 : ∃ (s : State), (s.mode = .night) ∧ (s.sys.inReset = false) ∧ (s.sys.lockout ≠ .flushing) ∧ (s.flag Fld.PMU_WAKE_RUN = true) ∧ (s.par 10 22 0 * 60_000_000_000 ≤ (s.sys.wakeNs : Rat)) :=
  ⟨W.night, by decide +kernel, by decide +kernel, by decide +kernel, by decide +kernel, by decide +kernel⟩

theorem wit_NightAndWake_5 : ∃ (s : State), ((s.sys.wakeNs : Rat) < s.par 10 22 0 * 60_000_000_000) :=
  ⟨W.timer, by decide +kernel⟩

theorem wit_NightAndWake_6 : ∃ (samples lowUs : Nat) (s : State), (s.mode ≠ .deepNight) ∧ (s.enteringNight = true) ∧ (33 ≤ samples) :=
  ⟨33, 0, W.flushing, by decide +kernel, by decide +kernel, by decide +kernel⟩

theorem wit_NightAndWake_7 : ∃ (s : State), (s.sys.lockout = .off) ∧ (s.mode = .night → s.sys.nightOnVbat = true) ∧ (s.flag Fld.PMU_NIGHT_ORIGIN = false) :=
  ⟨W.onVbat, by decide +kernel, fun _ => by decide +kernel, by decide +kernel⟩

theorem wit_NightAndWake_8 : ∃ (s : State), (s.sys.lockout = .off) ∧ (s.mode = .night) ∧ (s.sys.nightOnVbat = true) ∧ (s.flag Fld.PMU_NIGHT_ORIGIN = true) :=
  ⟨W.afterDusk, by decide +kernel, by decide +kernel, by decide +kernel, by decide +kernel⟩

theorem wit_NightAndWake_9 : ∃ (s : State), (s.mode = .night) ∧ (s.sys.inReset = false) ∧ (s.sys.nightOnVbat = true) ∧ (s.parOn 10 20 0 = true) ∧ (s.par 10 20 0 * 3_600_000_000_000 < (s.sys.vbatNs : Rat)) :=
  ⟨W.longNight, by decide +kernel, by decide +kernel, by decide +kernel, by decide +kernel, by decide +kernel⟩

theorem wit_NightAndWake_10 : ∃ (s : State), ((s.sys.vbatNs : Rat) ≤ s.par 10 20 0 * 3_600_000_000_000) :=
  ⟨W.onVbat, by decide +kernel⟩

theorem wit_NightAndWake_11 : ∃ (vbat : Rat) (s : State), (s.mode ≠ .deepNight) ∧ (s.sys.nightDead = false ∨ 11 / 5 ≤ vbat) :=
  ⟨3, W.night, by decide +kernel, Or.inl (by decide +kernel)⟩

theorem wit_NightAndWake_12 : ∃ (vbat : Rat) (s : State), (s.mode ≠ .deepNight) ∧ (s.sys.nightDead = true) ∧ (vbat < 11 / 5) :=
  ⟨1, W.deadNight, by decide +kernel, by decide +kernel, by decide +kernel⟩

theorem wit_NightAndWake_13 : ∃ (vbat : Rat) (s : State), (s.sys.vinPresent = true ∨ 11 / 5 ≤ vbat) :=
  ⟨3, W.onVbat, Or.inr (by norm_num)⟩

theorem wit_NightAndWake_14 : ∃ (vbat : Rat) (s : State), (s.sys.vinPresent = false) ∧ (vbat < 3 / 2) :=
  ⟨1, W.onVbat, by decide +kernel, by decide +kernel⟩

theorem wit_DawnSteps_0 : ∃ (p : Pll) (s : State), (s.dawning = true) ∧ (s.flag (pllField p) = false) :=
  ⟨.pll400, W.pll800, by decide +kernel, by decide +kernel⟩

theorem wit_DawnSteps_1 : ∃ (p : Pll) (s : State), (s.dawning = true) ∧ (s.flag (pllField p) = false) ∧ (s.sys.pllTries.testBit (pllBit p) = false) :=
  ⟨.pll400, W.dawn 0, by decide +kernel, by decide +kernel, by decide +kernel⟩

theorem wit_DawnSteps_2 : ∃ (p : Pll) (s : State), (s.dawning = true) ∧ (s.flag (pllField p) = false) ∧ (s.sys.pllTries.testBit (pllBit p) = true) :=
  ⟨.pll400, W.tried, by decide +kernel, by decide +kernel, by decide +kernel⟩

theorem wit_DawnSteps_3 : ∃ (a b c d e : Bool) (s : State), (s.dawning = true) ∧ (s.dawnStep = 1) :=
  ⟨false, true, false, true, false, W.dawn 1, by decide +kernel, by decide +kernel⟩

theorem wit_DawnSteps_4 : ∃ (a b c d e : BitVec 8) (s : State), (s.dawning = true) ∧ (s.dawnStep = 1) ∧ (∃ v ∈ [a, b, c, d, e], v ≠ 0 ∧ v ≠ 0xFF) :=
  ⟨1, 0, 0, 0, 0, W.dawn 1, by decide +kernel, by decide +kernel, ⟨1, by decide +kernel, by decide, by decide⟩⟩

theorem wit_DawnSteps_5 : ∃ (x : Fin 4) (up : BitVec 9) (s : State), (s.dawning = true) ∧ (2 ≤ s.dawnStep) ∧ (s.dawnStep ≤ 4) :=
  ⟨3, 0x1FF, W.dawn 3, by decide +kernel, by decide +kernel, by decide +kernel⟩

theorem wit_DawnSteps_6 : ∃ (x : Fin 4) (unit : Nat) (s : State), (s.dawning = true) ∧ (s.sys.islandsUp.getLsbD x.val = true) ∧ (s.groupDown x = some unit) :=
  ⟨0, 0, W.groupDown, by decide +kernel, by decide +kernel, by decide +kernel⟩

theorem wit_DawnSteps_7 : ∃ (slot : Fin 4) (fails : List BistUnit) (s : State), (s.dawning = true) ∧ (s.dawnStep = 4 + slot.val) ∧ (((fails.filter fun u => bistSlot u == slot.val).findSome? bistFatal) = none) :=
  ⟨1, [], W.dawn 5, by decide +kernel, by decide +kernel, by decide +kernel⟩

theorem wit_DawnSteps_8 : ∃ (slot : Fin 4) (fails : List BistUnit) (cause unit : Nat) (s : State), (s.dawning = true) ∧ (s.dawnStep = 4 + slot.val) ∧ (((fails.filter fun u => bistSlot u == slot.val).findSome? bistFatal) = some (cause, unit)) :=
  ⟨0, [.logic 0], 0x10, 0, W.dawn 4, by decide +kernel, by decide +kernel, by decide +kernel⟩

theorem wit_DawnImages_0 : ∃ (b sig header fits : Bool) (svn : BitVec 16) (s : State), (s.sys.imageTry = some b) ∧ (s.dawning = true) ∧ (s.imageOk b sig header fits svn = true) :=
  ⟨false, true, true, true, 0, W.imageTry, by decide +kernel, by decide +kernel, by decide +kernel⟩

theorem wit_DawnImages_1 : ∃ (b sig header fits : Bool) (svn : BitVec 16) (s : State), (s.sys.imageTry = some b) ∧ (s.dawning = true) ∧ (s.flag Fld.SYS_BOOT_PREFER = b) ∧ (s.imageOk b sig header fits svn = false) :=
  ⟨false, false, true, true, 0, W.imageTry, by decide +kernel, by decide +kernel, by decide +kernel, by decide +kernel⟩

theorem wit_DawnImages_2 : ∃ (b sig header fits : Bool) (svn : BitVec 16) (s : State), (s.sys.imageTry = some b) ∧ (s.dawning = true) ∧ (s.flag Fld.SYS_BOOT_PREFER = !b) ∧ (s.imageOk b sig header fits svn = false) :=
  ⟨true, false, true, true, 0, W.imageTryB, by decide +kernel, by decide +kernel, by decide +kernel, by decide +kernel⟩

theorem wit_DawnImages_3 : ∃ (n : Fin 4) (s : State), (s.dawning = true) ∧ (s.sys.imageOk = true) :=
  ⟨2, W.imageLoaded, by decide +kernel, by decide +kernel⟩

theorem wit_DawnImages_4 : ∃ (s : State), (s.dawning = true) ∧ (s.notStarted = [0]) :=
  ⟨W.noCp0, by decide +kernel, by decide +kernel⟩

theorem wit_DawnImages_5 : ∃ (s : State), (s.dawning = true) ∧ (s.notStarted = [3]) :=
  ⟨W.noCp3, by decide +kernel, by decide +kernel⟩

theorem wit_DawnImages_6 : ∃ (s : State), (s.dawning = true) ∧ (s.dawnStep = 8) ∧ (s.sys.pairStarted.getLsbD 0 = true) ∧ (s.sys.pairStarted.getLsbD 3 = true) :=
  ⟨W.loading, by decide +kernel, by decide +kernel, by decide +kernel, by decide +kernel⟩

theorem wit_DawnImages_7 : ∃ (s : State), (s.dawning = true) ∧ (s.dawnStep = 9) ∧ (s.stoBothHigh = true) ∧ ((∀ x, s.inAsc x = false)) :=
  ⟨W.stoTest, by decide +kernel, by decide +kernel, by decide +kernel, by decide +kernel⟩

theorem wit_DawnImages_8 : ∃ (n : Fin 28) (i : Option StoInput) (s : State), (s.dawning = true) ∧ (s.dawnStep = 9) ∧ ((∀ x, s.inAsc x = false)) :=
  ⟨5, none, W.stoTest, by decide +kernel, by decide +kernel, by decide +kernel⟩

theorem wit_DawnImages_9 : ∃ (s : State), (s.awake = true) ∧ (s.mode ≠ .dawn) ∧ (s.sys.stoInputsDeferred = true) ∧ (s.stoBothHigh = true) :=
  ⟨W.deferred, by decide +kernel, by decide +kernel, by decide +kernel, by decide +kernel⟩

theorem wit_DawnImages_10 : ∃ (x : Fin 4) (s : State), (s.awake = true) ∧ (s.mode ≠ .dawn) ∧ (s.sys.stoSetDeferred.getLsbD x.val = true) ∧ (s.inPulseBlock x = true) ∧ (s.setFree x = true) :=
  ⟨0, W.deferred, by decide +kernel, by decide +kernel, by decide +kernel, by decide +kernel, by decide +kernel⟩

theorem wit_ModeRequests_0 : ∃ (w : Writer) (s : State), (s.writable w Reg.SYS_MODEREQ = true) ∧ (s.mode = .ready ∨ s.mode = .run) :=
  ⟨.host, W.ready, by decide +kernel, Or.inl (by decide +kernel)⟩

theorem wit_ModeRequests_1 : ∃ (w : Writer) (s : State), (s.writable w Reg.SYS_MODEREQ = true) ∧ (s.mode = .dusk) :=
  ⟨.host, W.inMode .dusk, by decide +kernel, by decide +kernel⟩

theorem wit_ModeRequests_2 : ∃ (w : Writer) (s : State), (s.writable w Reg.SYS_MODEREQ = true) ∧ (s.mode ≠ .ready) ∧ (s.mode ≠ .run) ∧ (s.mode ≠ .dusk) :=
  ⟨.host, W.inMode .hold, by decide +kernel, by decide +kernel, by decide +kernel, by decide +kernel⟩

theorem wit_ModeRequests_3 : ∃ (w : Writer) (s : State), (s.writable w Reg.SYS_MODEREQ = true) ∧ (s.serviceResult = 1) :=
  ⟨.host, W.ready, by decide +kernel, by decide +kernel⟩

theorem wit_ModeRequests_4 : ∃ (w : Writer) (s : State), (s.writable w Reg.SYS_MODEREQ = true) ∧ (s.serviceResult ≠ 1) :=
  ⟨.host, W.running, by decide +kernel, by decide +kernel⟩

theorem wit_ModeRequests_6 : ∃ (w : Writer) (s : State), (s.writable w Reg.SYS_MODEREQ = true) ∧ (s.mode = .service) :=
  ⟨.host, W.inMode .service, by decide +kernel, by decide +kernel⟩

theorem wit_ModeRequests_7 : ∃ (s : State), (s.mode = .service) ∧ (s.overdue .idle (s.par 60 10 0 * 1_000_000_000) = true) :=
  ⟨W.idle, by decide +kernel, by decide +kernel⟩

theorem wit_ModeRequests_8 : ∃ (s : State), (s.overdue .idle (s.par 60 10 0 * 1_000_000_000) = false) :=
  ⟨W.ready, by decide +kernel⟩

theorem wit_ModeRequests_9 : ∃ (s : State), (s.mode = .dusk) ∧ (s.overdue .dusk (s.par 10 21 0 * 1_000_000_000) = true) :=
  ⟨W.longDusk, by decide +kernel, by decide +kernel⟩

theorem wit_ModeRequests_10 : ∃ (s : State), (s.overdue .dusk (s.par 10 21 0 * 1_000_000_000) = false) :=
  ⟨W.ready, by decide +kernel⟩

theorem wit_ModeRequests_11 : ∃ (s : State), (s.duskReady = true) :=
  ⟨W.duskEnd, by decide +kernel⟩

theorem wit_ModeRequests_12 : ∃ (x : Fin 4) (s : State), (s.mode = .dusk) ∧ (four.find? (fun x => s.cross x) = some x) :=
  ⟨2, W.duskCross, by decide +kernel, by decide +kernel⟩

theorem wit_EnInput_0 : ∃ (s : State), (s.awake = true) :=
  ⟨W.ready, by decide +kernel⟩

theorem wit_EnInput_1 : ∃ (lowUs : Nat) (sc : BitVec 4) (oc : BitVec 12) (s : State), (s.awake = true) ∧ (s.mode ≠ .hold) ∧ (10 ≤ lowUs) :=
  ⟨10, 0, 0, W.ready, by decide +kernel, by decide +kernel, by decide +kernel⟩

theorem wit_EnInput_2 : ∃ (lowUs : Nat) (sc : BitVec 4) (oc : BitVec 12) (s : State), (s.awake = true) ∧ (s.mode = .hold ∨ lowUs < 10) :=
  ⟨10, 0, 0, W.inMode .hold, by decide +kernel, Or.inl (by decide +kernel)⟩

theorem wit_FlashAndJournal_0 : ∃ (u : FlashUnit) (s : State), (s.awake = true) ∧ (s.flag (Fld.LCK_STATUS_FAILED 1) = false) :=
  ⟨.image false, W.ready, by decide +kernel, by decide +kernel⟩

theorem wit_FlashAndJournal_1 : ∃ (u : FlashUnit) (s : State), (s.awake = true) ∧ (s.mode ≠ .dawn) ∧ (s.mode ≠ .dusk) ∧ (s.flag (Fld.LCK_STATUS_FAILED 1) = false) ∧ (s.sys.flashBusy = none) ∧ (s.sys.refreshWant = 0) :=
  ⟨.image false, W.ready, by decide +kernel, by decide +kernel, by decide +kernel, by decide +kernel, by decide +kernel, by decide +kernel⟩

theorem wit_FlashAndJournal_2 : ∃ (s : State), (s.awake = true) ∧ (s.sys.refreshDue = true) ∧ (s.flag Fld.PMU_NIGHT_RTC_VALID = false) ∧ (s.flag (Fld.LCK_STATUS_FAILED 1) = false) :=
  ⟨W.refreshDue, by decide +kernel, by decide +kernel, by decide +kernel, by decide +kernel⟩

theorem wit_FlashAndJournal_4 : ∃ (s : State), (s.sys.lockout ≠ .off) :=
  ⟨W.ready, by decide +kernel⟩

theorem wit_PcieLink_0 : ∃ (s : State), (s.awake = true) :=
  ⟨W.ready, by decide +kernel⟩

theorem wit_PcieLink_2 : ∃ (s : State), (s.awake = true) :=
  ⟨W.ready, by decide +kernel⟩

theorem wit_PcieLink_3 : ∃ (speed width : BitVec 2) (s : State), (s.awake = true) ∧ (s.hif.perstLow = false) ∧ (s.dawnFailed = false) :=
  ⟨1, 0, W.ready, by decide +kernel, by decide +kernel, by decide +kernel⟩

theorem wit_PcieLink_4 : ∃ (s : State), (s.flag Fld.HIF_CFG_LOCAL = true) :=
  ⟨W.localHost, by decide +kernel⟩

theorem wit_PcieLink_5 : ∃ (s : State), (s.flag Fld.HIF_CFG_LOCAL = false) :=
  ⟨W.ready, by decide +kernel⟩

theorem wit_GateCommands_0 : ∃ (x : Fin 4) (k : Fin 3) (hi lo : Option Bool) (s : State), (s.gateOwned x = true) :=
  ⟨0, 0, none, none, W.owned, by decide +kernel⟩

theorem wit_GateCommands_1 : ∃ (x : Fin 4) (k : Fin 3) (s : State), (s.gateOwned x = true) ∧ (s.pwmDrives x = true) ∧ (s.pwm[x].active = true) ∧ (s.crosses x k = true) :=
  ⟨0, 0, W.edge, by decide +kernel, by decide +kernel, by decide +kernel, by decide +kernel⟩

theorem wit_GateCommands_3 : ∃ (x : Fin 4) (k : Fin 3) (c : Option (Option Bool × Option Bool)) (s : State), (s.gateOwned x = false) :=
  ⟨0, 0, none, W.stopped, by decide +kernel⟩

theorem wit_GateCommands_4 : ∃ (n : Fin 24) (s : State), (s.gc[(n.castLE (by decide) : Fin 28)].request = true) ∧ (s.gc[(n.castLE (by decide) : Fin 28)].cmd = false) ∧ (s.gc[companion (n.castLE (by decide))].request = false) ∧ (s.released (n.castLE (by decide)) = true) ∧ (s.gateTesting (n.castLE (by decide)) = false) :=
  ⟨0, W.asking, by decide +kernel, by decide +kernel, by decide +kernel, by decide +kernel, by decide +kernel⟩

theorem wit_GateCommands_5 : ∃ (n : Fin 24) (s : State), (s.gc[companion (n.castLE (by decide))].confOff = false) :=
  ⟨2, W.asking, by decide +kernel⟩

theorem wit_GateCommands_6 : ∃ (n : Fin 28) (gs : Rat) (s : State), (s.gc[n].cmd = false) :=
  ⟨0, 0, W.ready, by decide +kernel⟩

theorem wit_GateCommands_7 : ∃ (n : Fin 28) (gs : Rat) (s : State), (s.gc[n].cmd = true) :=
  ⟨0, 0, W.cmdOn, by decide +kernel⟩

theorem wit_GateCommands_9 : ∃ (n : Fin 28) (gs : Rat) (s : State), (s.flag (Fld.GDC_CFG_CLAMP_EN n) = true) ∧ (s.flag (Fld.GDC_STATUS_CMD n) = false) ∧ (gs < s.vClamp n) :=
  ⟨0, -9, W.ready.setFlag (Fld.GDC_CFG_CLAMP_EN 0) true, by decide +kernel, by decide +kernel, by decide +kernel⟩

theorem wit_GateCommands_10 : ∃ (n : Fin 28) (gs : Rat) (s : State), (s.flag (Fld.GDC_CFG_CLAMP_EN n) = false ∨ s.flag (Fld.GDC_STATUS_CMD n) = true ∨ s.vClamp n ≤ gs) :=
  ⟨0, 9, W.ready, Or.inr (Or.inr (by decide +kernel))⟩

theorem wit_GateCommands_11 : ∃ (n : Fin 28) (gs : Rat) (s : State), (24 ≤ n.val ∨ s.gc[n].awaitConf = false) ∧ (gs < s.vOff n) ∧ (s.flag (Fld.GDC_STATUS_CMD n) = false) :=
  ⟨24, -9, W.ready, Or.inl (by decide), by decide +kernel, by decide +kernel⟩

theorem wit_GateCommands_12 : ∃ (n : Fin 28) (gs : Rat) (s : State), (n.val < 24) ∧ (s.gc[n].awaitConf = true) ∧ (gs < s.vOff n) ∧ (s.flag (Fld.GDC_STATUS_CMD n) = false) :=
  ⟨0, -9, W.awaiting, by decide +kernel, by decide +kernel, by decide +kernel, by decide +kernel⟩

theorem wit_GateCommands_14 : ∃ (n : Fin 24) (s : State), (s.gc[(n.castLE (by decide) : Fin 28)].awaitConf = true) ∧ (s.gc[(n.castLE (by decide) : Fin 28)].confOff = false) ∧ (s.gc[(n.castLE (by decide) : Fin 28)].offAt + s.tConfMax (n.castLE (by decide)) < s.sys.poweredNs) ∧ ((s.modGc (n.castLE (by decide)) fun g => { g with awaitConf := false }).gc[companion (n.castLE (by decide))].cmd = true) :=
  ⟨0, W.late, by decide +kernel, by decide +kernel, by decide +kernel, by decide +kernel⟩

theorem wit_GateCommands_15 : ∃ (n : Fin 24) (s : State), (s.gc[(n.castLE (by decide) : Fin 28)].awaitConf = true) ∧ (s.gc[(n.castLE (by decide) : Fin 28)].confOff = false) ∧ (s.gc[(n.castLE (by decide) : Fin 28)].offAt + s.tConfMax (n.castLE (by decide)) < s.sys.poweredNs) ∧ ((s.modGc (n.castLE (by decide)) fun g => { g with awaitConf := false }).gc[companion (n.castLE (by decide))].cmd = false) :=
  ⟨1, W.late.modGc 1 fun g => { g with awaitConf := true, cmd := false }, by decide +kernel, by decide +kernel, by decide +kernel, by decide +kernel⟩

theorem wit_GateCommands_16 : ∃ (n : Fin 24) (s : State), (s.gc[(n.castLE (by decide) : Fin 28)].confOff = true) :=
  ⟨0, W.loaded.modGc 0 fun g => { g with confOff := true }, by decide +kernel⟩

theorem wit_GateCommands_17 : ∃ (n : Fin 28) (s : State), (s.gc[n].armTimer = true) :=
  ⟨0, W.arming, by decide +kernel⟩

theorem wit_GateCommands_18 : ∃ (n : Fin 28) (gs : Rat) (s : State), ((s.sense n gs).gc[n].armed = true) ∧ (gs < (s.sense n gs).vOnMin n) :=
  ⟨0, 0, W.armed, by decide +kernel, by decide +kernel⟩

theorem wit_GateLinksAndTests_0 : ∃ (n : Fin 28) (s : State), ((s.gc[n].markAt.any fun (t : Nat) => decide (s.sys.poweredNs < t + 800)) = false) ∧ (s.flag (Fld.GDC_STATUS_ASC_MARK n) = false) :=
  ⟨1, W.ready, by decide +kernel, by decide +kernel⟩

theorem wit_GateLinksAndTests_1 : ∃ (n : Fin 28) (s : State), ((s.gc[n].markAt.any fun (t : Nat) => decide (s.sys.poweredNs < t + 800)) = false) ∧ (s.flag (Fld.GDC_STATUS_ASC_MARK n) = true) ∧ (n.val < 24 ∧ n.val % 2 = 1) :=
  ⟨1, W.ready.setFlag (Fld.GDC_STATUS_ASC_MARK 1) true, by decide +kernel, by decide +kernel, by decide +kernel⟩

theorem wit_GateLinksAndTests_2 : ∃ (n : Fin 28) (s : State), ((s.gc[n].markAt.any fun (t : Nat) => decide (s.sys.poweredNs < t + 800)) = true) ∧ (s.flag (Fld.GDC_STATUS_ASC_MARK n) = true) :=
  ⟨1, W.marked true, by decide +kernel, by decide +kernel⟩

theorem wit_GateLinksAndTests_3 : ∃ (n : Fin 28) (s : State), ((s.gc[n].markAt.any fun (t : Nat) => decide (s.sys.poweredNs < t + 800)) = true) ∧ (s.flag (Fld.GDC_STATUS_ASC_MARK n) = false) ∧ (n.val < 24 ∧ n.val % 2 = 1) :=
  ⟨1, W.marked false, by decide +kernel, by decide +kernel, by decide +kernel⟩

theorem wit_GateLinksAndTests_7 : ∃ (n : Fin 28) (s : State), (s.inPulseBlock (chanSet n) = true) ∧ (s.setFree (chanSet n) = true) :=
  ⟨0, W.stopped, by decide +kernel, by decide +kernel⟩

theorem wit_GateLinksAndTests_8 : ∃ (n : Fin 28) (s : State), (s.inPulseBlock (chanSet n) = false ∨ s.setFree (chanSet n) = false) :=
  ⟨0, W.owned, Or.inl (by decide +kernel)⟩

theorem wit_GateLinksAndTests_9 : ∃ (n : Fin 28) (s : State), (s.flag (Fld.GDC_TESTRES_BUSY n) = true) :=
  ⟨0, W.ready.setFlag (Fld.GDC_TESTRES_BUSY 0) true, by decide +kernel⟩

theorem wit_GateLinksAndTests_10 : ∃ (n : Fin 28) (a b c d : Bool) (s : State), (s.flag (Fld.GDC_TESTRES_BUSY n) = true) ∧ ((a || b || c || d) = true) :=
  ⟨0, true, false, false, false, W.ready.setFlag (Fld.GDC_TESTRES_BUSY 0) true, by decide +kernel, by decide +kernel⟩

theorem wit_PowerStageProtection_1 : ∃ (x : Fin 4) (s : State), (s.sys.profileLoaded = true) ∧ (s.psp[x].blanking = false) ∧ (s.countsAsc x = false) :=
  ⟨0, W.loaded, by decide +kernel, by decide +kernel, by decide +kernel⟩

theorem wit_PowerStageProtection_2 : ∃ (x : Fin 4) (s : State), (s.sys.profileLoaded = true) ∧ (s.psp[x].blanking = false) ∧ (s.countsAsc x = true) ∧ ((s.latchSet x [SF.SC_IN_ASC]).cross x = true) :=
  ⟨0, W.ascCross, by decide +kernel, by decide +kernel, by decide +kernel, by decide +kernel⟩

theorem wit_PowerStageProtection_3 : ∃ (x : Fin 4) (s : State), (s.sys.profileLoaded = true) ∧ (s.psp[x].blanking = false) ∧ (s.countsAsc x = true) ∧ ((s.latchSet x [SF.SC_IN_ASC]).cross x = false) :=
  ⟨0, W.ascCross.setFlag (Fld.PSP_STATE_CROSS 0) false, by decide +kernel, by decide +kernel, by decide +kernel, by decide +kernel⟩

theorem wit_PowerStageProtection_4 : ∃ (x : Fin 4) (s : State), (s.psp[x].dwell = true) :=
  ⟨0, W.ready.modPsp 0 fun p => { p with dwell := true }, by decide +kernel⟩

theorem wit_PowerStageProtection_5 : ∃ (x : Fin 4) (k : Fin 3) (s : State), (s.sys.profileLoaded = true) ∧ ((s.fld (Fld.PSP_OC_EN x)).testBit k.val = true) ∧ (s.inputValid x k = true) ∧ (s.inAsc x = false) :=
  ⟨0, 0, W.ocReady, by decide +kernel, by decide +kernel, by decide +kernel, by decide +kernel⟩

theorem wit_PowerStageProtection_6 : ∃ (x : Fin 4) (k : Fin 3) (s : State), (s.sys.profileLoaded = true) ∧ ((s.fld (Fld.PSP_OC_EN x)).testBit k.val = true) ∧ (s.inputValid x k = true) ∧ (s.inAsc x = true) :=
  ⟨0, 0, W.ocReady.setFld (Fld.PSP_STATE_STATE 0) 4, by decide +kernel, by decide +kernel, by decide +kernel, by decide +kernel⟩

theorem wit_PowerStageProtection_8 : ∃ (x : Fin 4) (s : State), (s.sys.islandsUp.getLsbD x.val = false) :=
  ⟨0, W.ready, by decide +kernel⟩

theorem wit_PowerStageProtection_9 : ∃ (x : Fin 4) (s : State), (s.sys.islandsUp.getLsbD x.val = true) ∧ (s.mode ≠ .dawn) ∧ ((∀ y : Fin 4, s.flag (Fld.PSP_STATE_OV2_PEND y) = false)) :=
  ⟨0, W.loaded, by decide +kernel, by decide +kernel, by decide +kernel⟩

theorem wit_PowerStageProtection_10 : ∃ (x : Fin 4) (s : State), (s.sys.islandsUp.getLsbD x.val = true) ∧ (s.mode ≠ .dawn) ∧ (s.flag (Fld.PSP_STATE_OV2_PEND x) = true) ∧ (s.siblings x = []) :=
  ⟨0, W.loaded.setFlag (Fld.PSP_STATE_OV2_PEND 0) true, by decide +kernel, by decide +kernel, by decide +kernel, by decide +kernel⟩

theorem wit_PowerStageProtection_11 : ∃ (x : Fin 4) (s : State), (s.flag (Fld.PSP_STATE_OV3_LVL x) = true) ∧ (s.countsAsc x = true) ∧ (s.mode ≠ .dawn) :=
  ⟨0, W.ascCross.setFlag (Fld.PSP_STATE_OV3_LVL 0) true, by decide +kernel, by decide +kernel, by decide +kernel⟩

theorem wit_PowerStageProtection_12 : ∃ (x : Fin 4) (s : State), (s.flag (Fld.PSP_STATE_OV2_PEND x) = true) ∧ (s.overdue (.ov2 x) (s.sbcAsc x * 1_000_000) = true) :=
  ⟨0, W.timed (.ov2 0) (W.aged.setFlag (Fld.PSP_STATE_OV2_PEND 0) true), by decide +kernel, by decide +kernel⟩

theorem wit_PowerStageProtection_13 : ∃ (x : Fin 4) (s : State), (s.overdue (.ov2 x) (s.sbcAsc x * 1_000_000) = false) :=
  ⟨0, W.ready, by decide +kernel⟩

theorem wit_PowerStageProtection_14 : ∃ (x : Fin 4) (s : State), (s.sys.profileLoaded = true) ∧ (s.setActive x = true) ∧ (s.flag (Fld.PSP_STATE_UV_LVL x) = true) ∧ (s.overdue (.uv x) (s.par 16 24 x.val * 1_000_000) = true) :=
  ⟨0, W.timed (.uv 0) W.agedUnder, by decide +kernel, by decide +kernel, by decide +kernel, by decide +kernel⟩

theorem wit_PowerStageProtection_15 : ∃ (x : Fin 4) (s : State), (s.overdue (.uv x) (s.par 16 24 x.val * 1_000_000) = false) :=
  ⟨0, W.ready, by decide +kernel⟩

theorem wit_LinkCrossAndChopper_0 : ∃ (x : Fin 4) (v : Rat) (check : Option Rat) (s : State), (s.sys.profileLoaded = false) :=
  ⟨0, 1, some 2, W.ready, by decide +kernel⟩

theorem wit_LinkCrossAndChopper_1 : ∃ (x : Fin 4) (v : Rat) (check : Option Rat) (s a b c : State), (s.sys.profileLoaded = true) ∧ (a = ((s.linkIn x (linkVolts v) check).linkLevels x (linkVolts v)).chopControl x) ∧ (b = (if a.ov2Asks x then a.ov2 x else a)) ∧ (c = (b.followSrc x).compareCross x) :=
  ⟨0, 1, none, W.linkHigh, _, _, _, by decide +kernel, rfl, rfl, rfl⟩

theorem wit_LinkCrossAndChopper_3 : ∃ (x : Fin 4) (u v w : Rat) (s : State), (s.allOff x = false) :=
  ⟨0, 1, 2, 3, W.cmdOn, by decide +kernel⟩

theorem wit_LinkCrossAndChopper_4 : ∃ (x : Fin 4) (u v w : Rat) (s : State), (s.allOff x = true) :=
  ⟨0, 1, 2, 3, W.allOff, by decide +kernel⟩

theorem wit_LinkCrossAndChopper_5 : ∃ (x : Fin 4) (u v w : Rat) (flag : Bool) (s : State), ((s.termTaken x u v w flag).psp[x].src = 2) :=
  ⟨0, 1, 2, 3, true, W.ascCross, by decide +kernel⟩

theorem wit_LinkCrossAndChopper_6 : ∃ (x : Fin 4) (u v w : Rat) (flag : Bool) (s : State), ((s.termTaken x u v w flag).psp[x].src = 1) :=
  ⟨0, 1, 2, 3, true, W.loaded, by decide +kernel⟩

theorem wit_LinkCrossAndChopper_7 : ∃ (x : Fin 4) (u v w : Rat) (flag : Bool) (s : State), ((s.termTaken x u v w flag).psp[x].src = 0) ∧ ((s.termTaken x u v w flag).fld (Fld.PSP_STATE_CROSS_SRC x) = 0) :=
  ⟨0, 1, 2, 3, true, W.openCross, by decide +kernel, by decide +kernel⟩

theorem wit_LinkCrossAndChopper_8 : ∃ (x : Fin 4) (before : Vector Rat 8) (after : List Rat) (e : Rat) (s : State), (s.psp[x].chopCheck = some { expected := e, void := true }) :=
  ⟨0, Vector.replicate 8 0, [1], 10, W.ready.modPsp 0 fun q => { q with chopCheck := some { expected := 10, void := true } }, by decide +kernel⟩

theorem wit_LinkCrossAndChopper_9 : ∃ (x : Fin 4) (before : Vector Rat 8) (after : List Rat) (e : Rat) (s : State), (s.psp[x].chopCheck = some { expected := e, void := false }) ∧ (∃ i ∈ (s.modPsp x fun q => { q with chopCheck := none }).chopSteps x before after, e * 7 / 10 ≤ i ∧ i ≤ e * 13 / 10) :=
  ⟨0, Vector.replicate 8 0, [0.1], 100, W.chopping, by decide +kernel, ⟨_, List.mem_singleton_self _, by decide +kernel⟩⟩

theorem wit_LinkCrossAndChopper_10 : ∃ (x : Fin 4) (before : Vector Rat 8) (after : List Rat) (e : Rat) (s : State), (s.psp[x].chopCheck = some { expected := e, void := false }) ∧ (∀ i ∈ (s.modPsp x fun q => { q with chopCheck := none }).chopSteps x before after, i < e * 7 / 10) :=
  ⟨0, Vector.replicate 8 0, [], 100, W.chopping, by decide +kernel, fun _ h => nomatch h⟩

theorem wit_LinkCrossAndChopper_11 : ∃ (x : Fin 4) (v : Rat) (l : List Rat) (s : State), (s.sys.profileLoaded = true) ∧ (s.setState x = .block) ∧ (s.phasesTested x = false) ∧ (s.gc[chopChan x].cmd = false) ∧ (s.gc[chopChan x].offAt + 5000 ≤ s.sys.poweredNs) ∧ ((s.fld (Fld.PSP_CHOP_RB x) : Rat) / 1000 ≠ 0) ∧ (∀ w ∈ v :: l, s.psp[x].vdc / (2 * ((s.fld (Fld.PSP_CHOP_RB x) : Rat) / 1000)) < (shuntVolts w - s.mfe[x].shOfs) / s.rShunt x) :=
  ⟨0, 1, [], W.chopIdle, by decide +kernel, by decide +kernel, by decide +kernel, by decide +kernel, by decide +kernel, by decide +kernel, fun w h => by rw [List.mem_singleton.1 h]; decide +kernel⟩

theorem wit_PwmAndSampling_0 : ∃ (x : Fin 4) (b : Bool) (v8 : Vector Rat 8) (v4 : Vector Rat 4) (ps : Raw3) (s : State), (s.clocksRun x = false) :=
  ⟨0, true, Vector.replicate 8 0, Vector.replicate 4 0, W.raw, W.ready, by decide +kernel⟩

theorem wit_PwmAndSampling_1 : ∃ (x : Fin 4) (v : Vector Rat 8) (s : State), (s.clocksRun x = true) ∧ (s.atBoundary x false = true) :=
  ⟨0, Vector.replicate 8 0, W.atValley, by decide +kernel, by decide +kernel⟩

theorem wit_PwmAndSampling_2 : ∃ (x : Fin 4) (v : Vector Rat 8) (s : State), (s.clocksRun x = true) ∧ (s.atBoundary x true = true) ∧ ((s.peak x).flag (Fld.PWM_CFG_DUAL x) = true) :=
  ⟨0, Vector.replicate 8 0, W.dual, by decide +kernel, by decide +kernel, by decide +kernel⟩

theorem wit_PwmAndSampling_3 : ∃ (x : Fin 4) (v : Vector Rat 8) (s : State), (s.clocksRun x = true) ∧ (s.atBoundary x true = true) ∧ ((s.peak x).flag (Fld.PWM_CFG_DUAL x) = false) :=
  ⟨0, Vector.replicate 8 0, W.atPeak, by decide +kernel, by decide +kernel, by decide +kernel⟩

theorem wit_PwmAndSampling_4 : ∃ (x : Fin 4) (c : Cmp3) (s : State), (s.pwm[x].sent = some c) ∧ (s.clocksRun x = true) :=
  ⟨0, { u := 1, v := 2, w := 3 }, W.sentSet, by decide +kernel, by decide +kernel⟩

theorem wit_PwmAndSampling_5 : ∃ (w : Writer) (x : Fin 4) (phase : BitVec 8) (s : State), (s.writable w (Reg.PWM_PHASE x) = true) :=
  ⟨.host, 0, 1, W.loaded, by decide +kernel⟩

theorem wit_PwmAndSampling_6 : ∃ (x : Fin 4) (a : Fin 4) (s : State), (s.clocksRun x = true) ∧ (s.atSample x = true) ∧ (s.ownerAxis x = some a) ∧ (s.flag (Fld.LOOM_STATUS_FAULTED x) = false) :=
  ⟨0, 0, W.clocks, by decide +kernel, by decide +kernel, by decide +kernel, by decide +kernel⟩

theorem wit_PwmAndSampling_7 : ∃ (x : Fin 4) (v : Vector Rat 4) (ps : Raw3) (s : State), (s.clocksRun x = true) ∧ (s.atWindow x false = true) ∧ (s.windowMissing x false = false) ∧ (s.fld (Fld.MFE_SHUNT_RSH x) ≠ 0) :=
  ⟨0, Vector.replicate 4 0, W.raw, W.window, by decide +kernel, by decide +kernel, by decide +kernel, by decide +kernel⟩

theorem wit_PwmAndSampling_8 : ∃ (x : Fin 4) (v : Vector Rat 4) (ps : Raw3) (s : State), (s.clocksRun x = true) ∧ (s.atWindow x true = true) ∧ (s.windowMissing x true = false) ∧ (s.fld (Fld.MFE_SHUNT_RSH x) ≠ 0) :=
  ⟨0, Vector.replicate 4 0, W.raw, W.window, by decide +kernel, by decide +kernel, by decide +kernel, by decide +kernel⟩

theorem wit_PwmAndSampling_9 : ∃ (x : Fin 4) (v : Vector Rat 4) (ps : Raw3) (s : State), (s.clocksRun x = true) ∧ (s.atWindow x true = true) ∧ (s.windowMissing x true = true) :=
  ⟨0, Vector.replicate 4 0, W.raw, W.clocks, by decide +kernel, by decide +kernel, by decide +kernel⟩

theorem wit_PwmAndSampling_10 : ∃ (x : Fin 4) (a : Fin 4) (ps : Raw3) (busy : BitVec 16) (inp : LaneIn) (s : State), (s.clocksRun x = true) ∧ (busy.toNat ≤ 0x2D0) ∧ ((s.deliver x ps).2.ownerAxis x = some a) ∧ ((s.deliver x ps).2.lane[x].inp = some inp) ∧ ((s.deliver x ps).2.flag (Fld.LOOM_STATUS_FAULTED x) = false) :=
  ⟨0, 0, W.raw, 0, _, W.latched, by decide +kernel, by decide +kernel, by decide +kernel, rfl, by decide +kernel⟩

theorem wit_PwmAndSampling_11 : ∃ (x : Fin 4) (a : Fin 4) (ps : Raw3) (busy : BitVec 16) (err : Option LaneErr) (inp : LaneIn) (s : State), (s.clocksRun x = true) ∧ ((s.deliver x ps).2.ownerAxis x = some a) ∧ ((s.deliver x ps).2.lane[x].inp = some inp) ∧ ((s.deliver x ps).2.flag (Fld.LOOM_STATUS_FAULTED x) = false) ∧ (0x2D0 < busy.toNat) :=
  ⟨0, 0, W.raw, 0x2D1, none, _, W.latched, by decide +kernel, by decide +kernel, rfl, by decide +kernel, by decide +kernel⟩

theorem wit_PwmAndSampling_12 : ∃ (x : Fin 4) (a : Fin 4) (ps : Raw3) (busy : BitVec 16) (inp : LaneIn) (s : State), (s.clocksRun x = true) ∧ ((s.deliver x ps).2.ownerAxis x = some a) ∧ ((s.deliver x ps).2.lane[x].inp = some inp) ∧ ((s.deliver x ps).2.flag (Fld.LOOM_STATUS_FAULTED x) = false) ∧ (busy.toNat ≤ 0x2D0) :=
  ⟨0, 0, W.raw, 0, _, W.latched, by decide +kernel, by decide +kernel, rfl, by decide +kernel, by decide +kernel⟩

theorem wit_PwmAndSampling_13 : ∃ (x : Fin 4) (b : Bool) (v : Vector Rat 4) (ps : Raw3) (s : State), (s.clocksRun x = true) ∧ (s.atWindow x b = true) ∧ (s.windowMissing x b = false) ∧ (s.fld (Fld.MFE_SHUNT_RSH x) = 0) :=
  ⟨0, false, Vector.replicate 4 0, W.raw, W.window.setFld (Fld.MFE_SHUNT_RSH 0) 0, by decide +kernel, by decide +kernel, by decide +kernel, by decide +kernel⟩

theorem wit_PwmAndSampling_14 : ∃ (x : Fin 4) (a : Fin 4) (s : State), (s.ownerAxis x = some a) ∧ (s.islandRuns = true) ∧ (33 ≤ s.sfs[x].gap) :=
  ⟨0, 0, W.gap, by decide +kernel, by decide +kernel, by decide +kernel⟩

theorem wit_MeasurementEvents_0 : ∃ (x : Fin 4) (k : Fin 3) (s : State), (s.clocksRun x = true) ∧ (s.fitted x k = true) ∧ (s.sdMode x k = true) :=
  ⟨0, 0, W.sigma, by decide +kernel, by decide +kernel, by decide +kernel⟩

theorem wit_MeasurementEvents_1 : ∃ (x : Fin 4) (s : State), (s.clocksRun x = true) ∧ (s.anySd x = true) :=
  ⟨0, W.sigma, by decide +kernel, by decide +kernel⟩

theorem wit_MeasurementEvents_2 : ∃ (x : Fin 4) (k : Fin 3) (s : State), (s.clocksRun x = true) ∧ (s.fitted x k = true) ∧ (s.sdMode x k = true) ∧ ((s.fld (Fld.MFE_FAULT_OFS x)).testBit k.val = true ∨ s.flag (Fld.MFE_FAULT_XCHECK x) = true ∧ s.flag (Fld.MFE_FAULT_SHUNT_SUSPECT x) = false) :=
  ⟨0, 0, W.sigma.setFlag (Fld.MFE_FAULT_XCHECK 0) true, by decide +kernel, by decide +kernel, by decide +kernel, Or.inr (by decide +kernel)⟩

theorem wit_MeasurementEvents_3 : ∃ (x : Fin 4) (k : Fin 3) (s : State), (s.clocksRun x = true) ∧ (s.fitted x k = true) ∧ (s.sdMode x k = true) ∧ ((s.fld (Fld.MFE_FAULT_OFS x)).testBit k.val = false) ∧ (s.flag (Fld.MFE_FAULT_XCHECK x) = false ∨ s.flag (Fld.MFE_FAULT_SHUNT_SUSPECT x) = true) :=
  ⟨0, 0, W.sigma, by decide +kernel, by decide +kernel, by decide +kernel, by decide +kernel, Or.inl (by decide +kernel)⟩

theorem wit_MeasurementEvents_5 : ∃ (w : Writer) (s : State), (s.writable w Reg.MFE_SUPPLY = true) ∧ (s.noneActive = true) :=
  ⟨.host, W.ready, by decide +kernel, by decide +kernel⟩

theorem wit_MeasurementEvents_6 : ∃ (w : Writer) (s : State), (s.writable w Reg.MFE_SUPPLY = true) ∧ (s.noneActive = false) :=
  ⟨.host, W.running, by decide +kernel, by decide +kernel⟩

theorem wit_MeasurementEvents_7 : ∃ (s : State), (s.railsUp = true) :=
  ⟨{ W.ready with railsUp := true }, by decide +kernel⟩

theorem wit_MeasurementEvents_8 : ∃ (x : Fin 4) (vals : List (Time × Raw3)) (l : Option (List Raw3)) (s : State), (s.mfe[x].ofsRun = true) ∧ (s.clocksRun x = true) ∧ (s.offsetSpan x vals = some l) ∧ ((s.ownerAxis x).any (fun a => s.axState a == AxSt.STARTING) = false) :=
  ⟨0, List.replicate 64 (0, W.raw), _, W.zeroing, by decide +kernel, by decide +kernel, rfl, by decide +kernel⟩

theorem wit_MeasurementEvents_9 : ∃ (x : Fin 4) (a : Fin 4) (vals : List (Time × Raw3)) (l : Option (List Raw3)) (s : State), (s.mfe[x].ofsRun = true) ∧ (s.clocksRun x = true) ∧ (s.offsetSpan x vals = some l) ∧ (s.ownerAxis x = some a) ∧ (s.axState a = AxSt.STARTING) ∧ (((s.offsetsEnd x l true).axisSets a).any (fun y => (s.offsetsEnd x l true).mfe[y].ofsRun) = false) :=
  ⟨0, 0, List.replicate 64 (0, W.raw), _, W.startZero, by decide +kernel, by decide +kernel, rfl, by decide +kernel, by decide +kernel, by decide +kernel⟩

theorem wit_MeasurementEvents_10 : ∃ (x : Fin 4) (a : Fin 4) (s : State), (s.flag (Fld.MFE_STATUS_GF_LVL x) = true) ∧ (s.gfTh x ≠ 0) ∧ (s.inFallback x = false) ∧ (s.allValid x = true) ∧ (s.fld (Fld.MFE_CFG_FIT x) = 7) ∧ (s.ownerAxis x = some a) ∧ (s.axActive a = true) :=
  ⟨0, 0, W.ground, by decide +kernel, by decide +kernel, by decide +kernel, by decide +kernel, by decide +kernel, by decide +kernel, by decide +kernel⟩

theorem wit_MeasurementEvents_11 : ∃ (x : Fin 4) (s : State), (s.dcAgree x = false) :=
  ⟨0, W.diverge, by decide +kernel⟩

theorem wit_MeasurementEvents_12 : ∃ (x : Fin 4) (s : State), (s.dcAgree x = true) :=
  ⟨0, W.ready, by decide +kernel⟩

theorem wit_MeasurementEvents_13 : ∃ (x : Fin 4) (v : Rat) (s : State), (s.countsAsc x = true ∨ s.setState x = .block ∧ s.gc[chopChan x].offAt + 5000 ≤ s.sys.poweredNs) ∧ (s.gc[chopChan x].cmd = false) :=
  ⟨0, 0, W.chopIdle, by decide +kernel, by decide +kernel⟩

theorem wit_MeasurementEvents_14 : ∃ (x : Fin 4) (volts : Rat) (s : State), (100_000 < ntcOhms volts s.mfe[x].ntcLow) :=
  ⟨0, 100_001, W.ready, by have h : (100_001 : Rat) * 9_995 ≤ ntcOhms 100_001 W.ready.mfe[(0 : Fin 4)].ntcLow := (W.ntc_range 100_001 (by decide)).1; linarith⟩

theorem wit_MeasurementEvents_15 : ∃ (x : Fin 4) (volts : Rat) (s : State), (0 ≤ ntcOhms volts s.mfe[x].ntcLow) ∧ (ntcOhms volts s.mfe[x].ntcLow ≤ 100_000) :=
  ⟨0, 1, W.ready, by have h : (1 : Rat) * 9_995 ≤ ntcOhms 1 W.ready.mfe[(0 : Fin 4)].ntcLow := (W.ntc_range 1 (by decide)).1; linarith, by have h : ntcOhms 1 W.ready.mfe[(0 : Fin 4)].ntcLow ≤ (1 : Rat) * 10_005 := (W.ntc_range 1 (by decide)).2; linarith⟩

theorem wit_LaneTests_0 : ∃ (x : Fin 4) (s : State), (s.clocksRun x = true) :=
  ⟨0, W.clocks, by decide +kernel⟩

theorem wit_LaneTests_2 : ∃ (x : Fin 4) (s : State), (s.lane[x].reload = true) :=
  ⟨0, W.ready.modLane 0 fun l => { l with reload := true }, by decide +kernel⟩

theorem wit_LaneTests_3 : ∃ (w : Writer) (x : Fin 4) (s : State), (s.writable w (Reg.LOOM_CMD x) = true) ∧ (s.setState x ≠ .run) :=
  ⟨.host, 0, W.stopped, by decide +kernel, by decide +kernel⟩

theorem wit_LaneTests_4 : ∃ (w : Writer) (x : Fin 4) (s : State), (s.writable w (Reg.LOOM_CMD x) = true) ∧ (s.setState x = .run) :=
  ⟨.host, 0, W.owned, by decide +kernel, by decide +kernel⟩

theorem wit_LaneTests_5 : ∃ (x : Fin 4) (s : State), (s.flag (Fld.LOOM_STATUS_KAT_BUSY x) = true) ∧ (s.flag (Fld.LOOM_FAULT_UNAVAIL x) = false) :=
  ⟨0, W.katBusy, by decide +kernel, by decide +kernel⟩

theorem wit_LaneTests_6 : ∃ (x : Fin 4) (s : State), (s.flag (Fld.LOOM_STATUS_KAT_BUSY x) = true) :=
  ⟨0, W.katBusy, by decide +kernel⟩

theorem wit_LaneTests_7 : ∃ (x : Fin 4) (s : State), (s.flag (Fld.LOOM_STATUS_KAT_BUSY x) = false) :=
  ⟨0, W.ready, by decide +kernel⟩

theorem wit_LaneTests_8 : ∃ (x : Fin 4) (s : State), (s.clockNeeded x = true) ∧ (s.clocksRun x = false) :=
  ⟨0, W.ready.modLane 0 fun l => { l with katWant := true }, by decide +kernel, by decide +kernel⟩

theorem wit_RotorPosition_0 : ∃ (a : Fin 4) (s : State), (s.flag (Fld.POS_STATUS_INJ_ON a) = true) ∧ (2 * s.injDiv a ≤ s.pos[a].injN) ∧ (((s.injectionPeriod a).learnPeriod a).pos[a].start = none) :=
  ⟨0, W.injecting, by decide +kernel, by decide +kernel, by decide +kernel⟩

theorem wit_RotorPosition_1 : ∃ (a : Fin 4) (s : State), (s.flag (Fld.POS_STATUS_INJ_ON a) = true) ∧ (s.hoHigh a ≤ s.absRpm a) ∧ (s.flag (Fld.POS_MAP_LEARNING a) = false) :=
  ⟨0, W.slowHf, by decide +kernel, by rw [show W.slowHf.hoHigh 0 = 0 by decide +kernel]; exact W.absRat_nonneg _, by decide +kernel⟩

theorem wit_RotorPosition_2 : ∃ (a : Fin 4) (ripple : Rat) (st : Start) (s : State), (s.pos[a].start = some st) ∧ (s.pos[a].pulse = 1) :=
  ⟨0, 1, { relock := false, asc := false, result := none, search := false, still := true }, W.pulse, by decide +kernel, by decide +kernel⟩

theorem wit_RotorPosition_3 : ∃ (a : Fin 4) (ripple : Rat) (st : Start) (s : State), (s.pos[a].start = some st) ∧ (s.pos[a].pulse = 2) ∧ (¬ s.pos[a].ripP * 102 / 100 < ripple) ∧ (¬ ripple * 102 / 100 < s.pos[a].ripP) :=
  ⟨0, 0, { relock := false, asc := false, result := none, search := false, still := true }, W.pulse.modPos 0 fun p => { p with pulse := 2 }, by decide +kernel, by decide +kernel, by decide +kernel, by decide +kernel⟩

theorem wit_RotorPosition_4 : ∃ (a : Fin 4) (ripple : Rat) (st : Start) (s : State), (s.pos[a].start = some st) ∧ (s.pos[a].pulse = 2) ∧ (s.pos[a].ripP * 102 / 100 < ripple) ∧ (¬ ripple * 102 / 100 < s.pos[a].ripP) :=
  ⟨0, 2, { relock := false, asc := false, result := none, search := false, still := true }, W.pulse.modPos 0 fun p => { p with pulse := 2, ripP := 1 }, by decide +kernel, by decide +kernel, by decide +kernel, by decide +kernel⟩

theorem wit_RotorPosition_5 : ∃ (a : Fin 4) (s : State), (s.axActive a = true) ∧ (4 ≤ s.pos[a].outN) :=
  ⟨0, (W.axis 2).modPos 0 fun p => { p with outN := 4 }, by decide +kernel, by decide +kernel⟩

theorem wit_RotorPosition_6 : ∃ (a : Fin 4) (ripple : Rat) (st : Start) (s : State), (s.pos[a].start = some st) ∧ (s.pos[a].pulse = 2) ∧ (ripple * 102 / 100 < s.pos[a].ripP) ∧ (¬ s.pos[a].ripP * 102 / 100 < ripple) :=
  ⟨0, 1, { relock := false, asc := false, result := none, search := false, still := true }, W.pulse.modPos 0 fun p => { p with pulse := 2, ripP := 2 }, by decide +kernel, by decide +kernel, by decide +kernel, by decide +kernel⟩

theorem wit_RotorPosition_7 : ∃ (a : Fin 4) (s : State), (s.pos[a].coast = true) ∧ (s.axActive a = true) :=
  ⟨0, (W.axis 2).modPos 0 fun p => { p with coast := true }, by decide +kernel, by decide +kernel⟩

theorem wit_StartAndLearning_0 : ∃ (a : Fin 4) (s : State), (s.axisExists a = true) ∧ (s.gatesOff a = true) ∧ (s.wantsMeasure a = true) ∧ (s.pos[a].meas = none) :=
  ⟨0, W.measuring, by decide +kernel, by decide +kernel, by decide +kernel, by decide +kernel⟩

theorem wit_StartAndLearning_1 : ∃ (a : Fin 4) (m : Meas) (s : State), (s.pos[a].meas = some m) :=
  ⟨0, { t0 := 0, prev := none, adv := 0, det := false, vab := DQ.zero, con := false }, W.sampled, by decide +kernel⟩

theorem wit_StartAndLearning_2 : ∃ (a : Fin 4) (s : State), ((s.spd[a].krsT0.any fun t => decide (s.par 22 43 a.val / 1000 ≤ s.since t)) = false) :=
  ⟨0, W.ready, by decide +kernel⟩

theorem wit_StartAndLearning_3 : ∃ (a : Fin 4) (s : State), (s.flag (Fld.SPD_STATE_RESUME a) = true) ∧ ((s.spd[a].krsT0.any fun t => decide (s.par 22 43 a.val / 1000 ≤ s.since t)) = true) :=
  ⟨0, (W.later W.loaded).setFlag (Fld.SPD_STATE_RESUME 0) true |>.modSpd 0 fun p => { p with krsT0 := some 0 }, by decide +kernel, by decide +kernel⟩

theorem wit_StartAndLearning_4 : ∃ (a : Fin 4) (s : State), (s.axState a = AxSt.RUNNING) ∧ (s.flag (Fld.POS_STATUS_LOCKED a) = true) ∧ (s.pos[a].coast = false) :=
  ⟨0, (W.axis 2).setFlag (Fld.POS_STATUS_LOCKED 0) true, by decide +kernel, by decide +kernel, by decide +kernel⟩

theorem wit_StartAndLearning_5 : ∃ (a : Fin 4) (s : State), (s.overdue (.start a) (s.par 22 42 a.val * 1_000_000_000) = false) :=
  ⟨0, W.ready, by decide +kernel⟩

theorem wit_StartAndLearning_6 : ∃ (a : Fin 4) (st : Start) (s : State), (s.overdue (.start a) (s.par 22 42 a.val * 1_000_000_000) = true) ∧ (s.pos[a].start = some st) ∧ (st.asc = true) ∧ (st.result = none) ∧ ((s.axisSets a).any (fun x => s.cross x) = true) :=
  ⟨0, { relock := false, asc := true, result := none, search := false, still := true }, W.startTmo W.fromAsc, by decide +kernel, by decide +kernel, by decide +kernel, by decide +kernel, by decide +kernel⟩

theorem wit_StartAndLearning_7 : ∃ (a : Fin 4) (st : Start) (s : State), (s.overdue (.start a) (s.par 22 42 a.val * 1_000_000_000) = true) ∧ (s.pos[a].start = some st) ∧ (st.asc = false ∨ st.result ≠ none) ∧ (s.isShared a = true) ∧ (s.isFollower a = false) ∧ (st.relock = false) :=
  ⟨0, { relock := false, asc := false, result := none, search := false, still := true }, W.startTmo W.leadStart, by decide +kernel, by decide +kernel, Or.inl rfl, by decide +kernel, by decide +kernel, by decide +kernel⟩

theorem wit_StartAndLearning_8 : ∃ (w : Writer) (a : Fin 4) (s : State), (s.writable w (Reg.POS_CMD a) = true) ∧ (s.flag (Fld.LCK_STATUS_FAILED 1) = false) :=
  ⟨.host, 0, W.loaded, by decide +kernel, by decide +kernel⟩

theorem wit_StartAndLearning_9 : ∃ (w : Writer) (a : Fin 4) (s : State), (s.writable w (Reg.POS_CMD a) = true) :=
  ⟨.host, 0, W.loaded, by decide +kernel⟩

theorem wit_SpeedLoop_0 : ∃ (a : Fin 4) (s : State), (s.awake = true) ∧ (s.axisExists a = true) ∧ (s.axState a = AxSt.RUNNING ∨ s.axState a = AxSt.STOPPING) ∧ (s.isFollower a = false) :=
  ⟨0, W.axis 2, by decide +kernel, by decide +kernel, Or.inl (by decide +kernel), by decide +kernel⟩

theorem wit_SpeedLoop_1 : ∃ (a : Fin 4) (s : State), (s.awake = true) ∧ (s.axisExists a = true) ∧ (s.axState a = AxSt.RUNNING ∨ s.axState a = AxSt.STOPPING) ∧ (s.isFollower a = true) :=
  ⟨0, (W.axis 2).setFlag (Fld.LSH_CFG_SHARED 0) true, by decide +kernel, by decide +kernel, Or.inl (by decide +kernel), by decide +kernel⟩

theorem wit_SpeedLoop_2 : ∃ (a : Fin 4) (s : State), (s.awake = true) ∧ (s.axisExists a = true) ∧ (s.axState a = AxSt.STOPPED) :=
  ⟨0, W.axis 0, by decide +kernel, by decide +kernel, by decide +kernel⟩

theorem wit_SpeedLoop_3 : ∃ (a : Fin 4) (n : Rat) (s : State), (s.awake = true) ∧ (s.axisExists a = true) ∧ (s.fld (Fld.SPD_CFG_MODE a) = 1) ∧ (s.axState a = AxSt.RUNNING ∨ s.axState a = AxSt.STOPPING) ∧ (s.isFollower a = false) ∧ (s.encCounts a ≠ 0) ∧ (n = s.p24 41 a * (60 * (s.prg[axisChan a].v + s.prg[axisChan a].a * s.prgAge (axisChan a)) / s.encCounts a) +
        s.p24 40 a * ((nearest (s.profNow (axisChan a)) - s.portPos (s.commPort a) : Int) : Rat) * 60 / s.encCounts a) :=
  ⟨0, _, ((W.axis 2).setFld (Fld.SPD_CFG_MODE 0) 1).setPar 22 4 0 0x45800000, by decide +kernel, by decide +kernel, by decide +kernel, Or.inl (by decide +kernel), by decide +kernel, by decide +kernel, rfl⟩

theorem wit_SpeedLoop_4 : ∃ (a : Fin 4) (s : State), (s.axState a ≠ AxSt.STOPPING ∨ s.spd[a].hold = true ∨ (s.spd[a].zeroAt.any fun t => decide (s.p24 7 a / 1000 < s.since t)) = false) :=
  ⟨0, W.axis 2, Or.inl (by decide +kernel)⟩

theorem wit_SpeedLoop_5 : ∃ (a : Fin 4) (s : State), (s.axState a = AxSt.STOPPING) ∧ ((s.spd[a].zeroAt.any fun t => decide (s.p24 7 a / 1000 < s.since t)) = true) ∧ (s.spd[a].hold = false) ∧ (s.p24 27 a = 0) :=
  ⟨0, (W.later W.atZero).setPar 24 27 0 0, by decide +kernel, by decide +kernel, by decide +kernel, by decide +kernel⟩

theorem wit_SpeedLoop_6 : ∃ (a : Fin 4) (s : State), (s.axState a = AxSt.STOPPING) ∧ ((s.spd[a].zeroAt.any fun t => decide (s.p24 7 a / 1000 < s.since t)) = true) ∧ (s.spd[a].hold = false) ∧ (s.p24 27 a ≠ 0) :=
  ⟨0, (W.later W.atZero).setPar 24 27 0 0x3F800000, by decide +kernel, by decide +kernel, by decide +kernel, by decide +kernel⟩

theorem wit_SpeedLoop_7 : ∃ (a : Fin 4) (s : State), (s.axState a = AxSt.STOPPING) ∧ (s.spd[a].hold = true) :=
  ⟨0, W.zeroHeld, by decide +kernel, by decide +kernel⟩

theorem wit_SpeedLoop_8 : ∃ (a : Fin 4) (s : State), (s.axState a = AxSt.STOPPING) ∧ ((s.spd[a].offT0.any fun t => decide (s.p24 25 a ≤ s.since t)) = true) :=
  ⟨0, W.later W.rampOff, by decide +kernel, by decide +kernel⟩

theorem wit_SpeedLoop_9 : ∃ (a : Fin 4) (s : State), ((s.spd[a].offT0.any fun t => decide (s.p24 25 a ≤ s.since t)) = false) :=
  ⟨0, W.rampOff, by decide +kernel⟩

theorem wit_SpeedLoop_10 : ∃ (a : Fin 4) (s : State), (s.axState a = AxSt.STOPPING) ∧ (s.overdue (.stop a) (s.p24 26 a * 1_000_000_000) = true) :=
  ⟨0, W.startTmo (W.timed (.stop 0) (W.axis 3)), by decide +kernel, by decide +kernel⟩

theorem wit_SpeedLoop_11 : ∃ (a : Fin 4) (s : State), (s.overdue (.stop a) (s.p24 26 a * 1_000_000_000) = false) :=
  ⟨0, W.axis 3, by decide +kernel⟩

theorem wit_SpeedLoop_12 : ∃ (a : Fin 4) (s : State), (4 ≤ s.spd[a].overN) :=
  ⟨0, (W.axis 2).modSpd 0 fun p => { p with overN := 4 }, by decide +kernel⟩

theorem wit_SpeedLoop_13 : ∃ (a : Fin 4) (s : State), (s.shockOver a = false) :=
  ⟨0, W.ready, by decide +kernel⟩

theorem wit_SpeedLoop_14 : ∃ (a : Fin 4) (s : State), (s.shockOver a = true) ∧ (s.spd[a].pendStop = none) :=
  ⟨0, W.later W.shock, by decide +kernel, by decide +kernel⟩

theorem wit_SpeedLoop_15 : ∃ (a : Fin 4) (quick : Bool) (s : State), (s.shockOver a = true) ∧ (s.spd[a].pendStop = some quick) :=
  ⟨0, true, W.later (W.shock.modSpd 0 fun q => { q with pendStop := some true }), by decide +kernel, by decide +kernel⟩

theorem wit_SpeedLoop_16 : ∃ (a : Fin 4) (s : State), ((s.spd[a].slackAt.any fun t => decide (s.p26 12 a / 1000 < s.since t)) = false ∨ s.flag (Fld.SPD_STATE_SLACK a) = true) :=
  ⟨0, W.ready, Or.inl (by decide +kernel)⟩

theorem wit_SpeedLoop_17 : ∃ (a : Fin 4) (s : State) (u : State), ((s.spd[a].slackAt.any fun t => decide (s.p26 12 a / 1000 < s.since t)) = true) ∧ (s.flag (Fld.SPD_STATE_SLACK a) = false) ∧ (u = (s.setFlag (Fld.SPD_STATE_SLACK a) true).incSat (Fld.SPD_CNT_SLACK a)) ∧ (u.fld (Fld.SPD_CFG_SLACK_ACT a) = 0) :=
  ⟨0, W.later (W.slackStop.setFld (Fld.SPD_CFG_SLACK_ACT 0) 0), ((W.later (W.slackStop.setFld (Fld.SPD_CFG_SLACK_ACT 0) 0)).setFlag (Fld.SPD_STATE_SLACK 0) true).incSat (Fld.SPD_CNT_SLACK 0), by decide +kernel, by decide +kernel, rfl, by decide +kernel⟩

theorem wit_SpeedLoop_18 : ∃ (a : Fin 4) (s : State) (u : State), ((s.spd[a].slackAt.any fun t => decide (s.p26 12 a / 1000 < s.since t)) = true) ∧ (s.flag (Fld.SPD_STATE_SLACK a) = false) ∧ (u = (s.setFlag (Fld.SPD_STATE_SLACK a) true).incSat (Fld.SPD_CNT_SLACK a)) ∧ (u.fld (Fld.SPD_CFG_SLACK_ACT a) = 1) :=
  ⟨0, W.later (W.slackStop), ((W.later (W.slackStop)).setFlag (Fld.SPD_STATE_SLACK 0) true).incSat (Fld.SPD_CNT_SLACK 0), by decide +kernel, by decide +kernel, rfl, by decide +kernel⟩

theorem wit_SpeedLoop_19 : ∃ (a : Fin 4) (s : State) (u : State), ((s.spd[a].slackAt.any fun t => decide (s.p26 12 a / 1000 < s.since t)) = true) ∧ (s.flag (Fld.SPD_STATE_SLACK a) = false) ∧ (u = (s.setFlag (Fld.SPD_STATE_SLACK a) true).incSat (Fld.SPD_CNT_SLACK a)) ∧ (2 ≤ u.fld (Fld.SPD_CFG_SLACK_ACT a)) ∧ (u.axState a = AxSt.RUNNING) :=
  ⟨0, W.later (W.slackStop.setFld (Fld.SPD_CFG_SLACK_ACT 0) 2), ((W.later (W.slackStop.setFld (Fld.SPD_CFG_SLACK_ACT 0) 2)).setFlag (Fld.SPD_STATE_SLACK 0) true).incSat (Fld.SPD_CNT_SLACK 0), by decide +kernel, by decide +kernel, rfl, by decide +kernel, by decide +kernel⟩

theorem wit_SpeedLoop_20 : ∃ (a : Fin 4) (s : State), ((s.spd[a].vent.any fun v => (v.since.any fun t => decide (s.p26 27 a / 1000 < s.since t)) || decide (s.p26 28 a < s.since v.t0)) = true) :=
  ⟨0, W.later W.vent, by decide +kernel⟩

theorem wit_SpeedLoop_21 : ∃ (a : Fin 4) (s : State), ((s.spd[a].vent.any fun v => (v.since.any fun t => decide (s.p26 27 a / 1000 < s.since t)) || decide (s.p26 28 a < s.since v.t0)) = false) :=
  ⟨0, W.ready, by decide +kernel⟩

theorem wit_SpeedLoop_22 : ∃ (a : Fin 4) (s : State), ((s.spd[a].hvStall.any fun t => decide (s.p24 52 a / 1000 < s.since t)) = true) ∧ (s.spd[a].hvFade = none) :=
  ⟨0, (W.later (W.axis 2)).modSpd 0 fun p => { p with hvStall := some 0 }, by decide +kernel, by decide +kernel⟩

theorem wit_SpeedLoop_23 : ∃ (a : Fin 4) (s : State), ((s.spd[a].hvStall.any fun t => decide (s.p24 52 a / 1000 < s.since t)) = false) :=
  ⟨0, W.ready, by decide +kernel⟩

theorem wit_MotionCommands_0 : ∃ (h : Desc) (a : Fin 4) (v : Rat) (value : Word) (s : State), (s.takes h 0x04 = true) ∧ (s.axisOf h = some a) ∧ (f32ToRat value = some v) ∧ (h.sub.toNat = 0) ∧ (s.isFollower a = false) ∧ (s.fld (Fld.SPD_CFG_MODE a) = 0) ∧ (s.axState a ≠ AxSt.STOPPING) :=
  ⟨W.desc 0 0, 0, 1, 0x3F800000, W.axis 2, by decide +kernel, by decide +kernel, by decide +kernel, by decide +kernel, by decide +kernel, by decide +kernel, by decide +kernel⟩

theorem wit_MotionCommands_1 : ∃ (h : Desc) (a : Fin 4) (v : Rat) (value : Word) (s : State), (s.takes h 0x04 = true) ∧ (s.axisOf h = some a) ∧ (f32ToRat value = some v) ∧ (h.sub.toNat = 0) ∧ (s.isFollower a = false) ∧ (s.fld (Fld.SPD_CFG_MODE a) = 0) ∧ (s.axState a = AxSt.STOPPING) :=
  ⟨W.desc 0 0, 0, 1, 0x3F800000, W.axis 3, by decide +kernel, by decide +kernel, by decide +kernel, by decide +kernel, by decide +kernel, by decide +kernel, by decide +kernel⟩

theorem wit_MotionCommands_2 : ∃ (h : Desc) (a : Fin 4) (v : Rat) (value : Word) (s : State), (s.takes h 0x04 = true) ∧ (s.axisOf h = some a) ∧ (f32ToRat value = some v) ∧ (h.sub.toNat = 1) ∧ (s.isFollower a = false) ∧ (s.fld (Fld.SPD_CFG_MODE a) = 2) ∧ (s.axState a ≠ AxSt.STOPPING) :=
  ⟨W.desc 0 1, 0, 1, 0x3F800000, (W.axis 2).setFld (Fld.SPD_CFG_MODE 0) 2, by decide +kernel, by decide +kernel, by decide +kernel, by decide +kernel, by decide +kernel, by decide +kernel, by decide +kernel⟩

theorem wit_MotionCommands_3 : ∃ (h : Desc) (a : Fin 4) (v : Rat) (value : Word) (s : State), (s.takes h 0x04 = true) ∧ (s.axisOf h = some a) ∧ (f32ToRat value = some v) ∧ (h.sub.toNat ≤ 1) ∧ (s.isFollower a = true) :=
  ⟨W.desc 0 0, 0, 1, 0x3F800000, (W.axis 2).setFlag (Fld.LSH_CFG_SHARED 0) true, by decide +kernel, by decide +kernel, by decide +kernel, by decide +kernel, by decide +kernel⟩

theorem wit_MotionCommands_4 : ∃ (h : Desc) (a : Fin 4) (v : Rat) (value : Word) (s : State), (s.takes h 0x04 = true) ∧ (s.axisOf h = some a) ∧ (f32ToRat value = some v) ∧ (h.sub.toNat ≤ 1) ∧ (s.isFollower a = false) ∧ (s.axState a ≠ AxSt.STOPPING) ∧ (s.fld (Fld.SPD_CFG_MODE a) ≠ 2 * h.sub.toNat) :=
  ⟨W.desc 0 1, 0, 1, 0x3F800000, W.axis 2, by decide +kernel, by decide +kernel, by decide +kernel, by decide +kernel, by decide +kernel, by decide +kernel, by decide +kernel⟩

theorem wit_MotionCommands_5 : ∃ (h : Desc) (s : State), (s.takes h 0x08 = true) ∧ (s.enableRefusal h = some St.MODE_DENIED) :=
  ⟨W.desc 0 0, W.inMode .service, by decide +kernel, by decide +kernel⟩

theorem wit_MotionCommands_6 : ∃ (h : Desc) (st : Nat) (s : State), (s.takes h 0x08 = true) ∧ (s.enableRefusal h = some st) ∧ (st ≠ St.MODE_DENIED) :=
  ⟨W.desc 0 0, St.NO_PROFILE, W.ready, by decide +kernel, by decide +kernel, by decide⟩

theorem wit_MotionCommands_7 : ∃ (h : Desc) (a : Fin 4) (s : State), (s.takes h 0x08 = true) ∧ (s.enableRefusal h = none) ∧ (s.axisOf h = some a) ∧ (s.mode = .run) ∧ ((s.reqRes 1).isShared a = false) :=
  ⟨W.desc 0 0, 0, W.startable, by decide +kernel, by decide +kernel, by decide +kernel, by decide +kernel, by decide +kernel⟩

theorem wit_MotionCommands_8 : ∃ (h : Desc) (a : Fin 4) (s : State), (s.takes h 0x08 = true) ∧ (s.enableRefusal h = none) ∧ (s.axisOf h = some a) ∧ (s.mode = .ready) ∧ (((s.reqRes 1).setMode .run).isShared a = false) :=
  ⟨W.desc 0 0, 0, W.startable.setFld Fld.SYS_MODE_MODE 3, by decide +kernel, by decide +kernel, by decide +kernel, by decide +kernel, by decide +kernel⟩

theorem wit_MotionCommands_9 : ∃ (h : Desc) (a : Fin 4) (s : State), (s.takes h 0x08 = true) ∧ (s.enableRefusal h = none) ∧ (s.axisOf h = some a) ∧ (s.mode = .run) ∧ ((s.reqRes 1).isShared a = true) ∧ ((s.reqRes 1).isFollower a = false) :=
  ⟨W.desc 0 0, 0, W.startable.setFlag (Fld.LSH_CFG_SHARED 0) true |>.setFld (Fld.LSH_STATE_ROLE 0) 1, by decide +kernel, by decide +kernel, by decide +kernel, by decide +kernel, by decide +kernel, by decide +kernel⟩

theorem wit_MotionCommands_10 : ∃ (h : Desc) (a : Fin 4) (s : State), (s.takes h 0x09 = true) ∧ (s.axisOf h = some a) ∧ (s.isShared a = true) ∧ (s.isFollower a = false) ∧ (s.axActive a = true) :=
  ⟨W.desc 0 0, 0, (W.axis 2).setFlag (Fld.LSH_CFG_SHARED 0) true |>.setFld (Fld.LSH_STATE_ROLE 0) 1, by decide +kernel, by decide +kernel, by decide +kernel, by decide +kernel, by decide +kernel⟩

theorem wit_MotionCommands_11 : ∃ (h : Desc) (a : Fin 4) (s : State), (s.takes h 0x09 = true) ∧ (s.axisOf h = some a) ∧ (s.isShared a = false) :=
  ⟨W.desc 0 0, 0, W.axis 2, by decide +kernel, by decide +kernel, by decide +kernel⟩

theorem wit_MotionCommands_12 : ∃ (h : Desc) (s : State), (s.takes h 0x09 = true) ∧ (s.axisOf h = none) :=
  ⟨W.desc 9 0, W.axis 2, by decide +kernel, by decide +kernel⟩

theorem wit_MotionCommands_13 : ∃ (h : Desc) (a : Fin 4) (e : HeaveEntry) (s : State), (s.takes h 0x20 = true) ∧ (s.axisOf h = some a) ∧ (h.sub = 1) ∧ (s.isFollower a = false) ∧ (s.heaveOn a = true) ∧ (e.time.toNat < s.weft.toNat) :=
  ⟨W.desc 0 1, 0, { time := 999, speed := 0, accel := 0 }, W.heave, by decide +kernel, by decide +kernel, by decide +kernel, by decide +kernel, by decide +kernel, by decide +kernel⟩

theorem wit_MotionCommands_14 : ∃ (h : Desc) (a : Fin 4) (es : List HeaveEntry) (s : State), (s.takes h 0x20 = true) ∧ (s.axisOf h = some a) ∧ (0 < h.sub.toNat) ∧ (h.sub.toNat ≤ 3) ∧ (s.isFollower a = false) ∧ (s.heaveOn a = true) ∧ ((∀ e ∈ es, s.weft.toNat ≤ e.time.toNat)) :=
  ⟨W.desc 0 1, 0, [{ time := 1001, speed := 0, accel := 0 }], W.heave, by decide +kernel, by decide +kernel, by decide +kernel, by decide +kernel, by decide +kernel, by decide +kernel, by decide +kernel⟩

theorem wit_FeedbackPorts_0 : ∃ (n : Fin 4) (a b : Bool) (k : Int) (s : State) (u : State), (s.awake = true) ∧ (s.portType n = 1) ∧ (u = (s.modFb n fun q => { q with la := a, lb := b, lz := false }).ptFollow n) ∧ (quadStep s.fb[n].la s.fb[n].lb a b = some k) :=
  ⟨0, true, false, 1, W.port 1, (((W.port 1).modFb 0 fun q => { q with la := true, lb := false, lz := false }).ptFollow 0), by decide +kernel, by decide +kernel, rfl, by decide +kernel⟩

theorem wit_FeedbackPorts_1 : ∃ (n : Fin 4) (a b : Bool) (s : State) (u : State), (s.awake = true) ∧ (s.portType n = 1) ∧ (u = (s.modFb n fun q => { q with la := a, lb := b, lz := false }).ptFollow n) ∧ (quadStep s.fb[n].la s.fb[n].lb a b = none) :=
  ⟨0, true, true, W.port 1, (((W.port 1).modFb 0 fun q => { q with la := true, lb := true, lz := false }).ptFollow 0), by decide +kernel, by decide +kernel, rfl, by decide +kernel⟩

theorem wit_FeedbackPorts_2 : ∃ (n : Fin 4) (a b : Bool) (s : State) (u : State), (s.awake = true) ∧ (s.portType n = 2) ∧ (u = (s.modFb n fun q => { q with la := a, lb := b, lz := false }).ptFollow n) ∧ ((quadrantOf a b + 4 - quadrantOf s.fb[n].la s.fb[n].lb) % 4 = 1) :=
  ⟨0, false, true, W.port 2, (((W.port 2).modFb 0 fun q => { q with la := false, lb := true, lz := false }).ptFollow 0), by decide +kernel, by decide +kernel, rfl, by decide +kernel⟩

theorem wit_FeedbackPorts_3 : ∃ (n : Fin 4) (a b : Bool) (s : State) (u : State), (s.awake = true) ∧ (s.portType n = 2) ∧ (u = (s.modFb n fun q => { q with la := a, lb := b, lz := false }).ptFollow n) ∧ ((quadrantOf a b + 4 - quadrantOf s.fb[n].la s.fb[n].lb) % 4 = 3) :=
  ⟨0, true, false, W.port 2, (((W.port 2).modFb 0 fun q => { q with la := true, lb := false, lz := false }).ptFollow 0), by decide +kernel, by decide +kernel, rfl, by decide +kernel⟩

theorem wit_FeedbackPorts_4 : ∃ (n : Fin 4) (a b : Bool) (s : State) (u : State), (s.awake = true) ∧ (s.portType n = 2) ∧ (u = (s.modFb n fun q => { q with la := a, lb := b, lz := false }).ptFollow n) ∧ ((quadrantOf a b + 4 - quadrantOf s.fb[n].la s.fb[n].lb) % 4 = 2) :=
  ⟨0, true, true, W.port 2, (((W.port 2).modFb 0 fun q => { q with la := true, lb := true, lz := false }).ptFollow 0), by decide +kernel, by decide +kernel, rfl, by decide +kernel⟩

theorem wit_FeedbackPorts_5 : ∃ (n : Fin 4) (up : Bool) (s : State), (s.awake = true) ∧ (s.portType n = 6) :=
  ⟨0, true, W.port 6, by decide +kernel, by decide +kernel⟩

theorem wit_FeedbackPorts_6 : ∃ (n : Fin 4) (v : Analog) (s : State), (s.awake = true) :=
  ⟨0, W.still, W.port 1, by decide +kernel⟩

theorem wit_FeedbackPorts_7 : ∃ (n : Fin 4) (at_ : Int) (s : State), (s.awake = true) ∧ (s.portType n = 1 ∨ s.portType n = 2) ∧ (at_ = (if s.portType n = 2 then (if s.fb[n].neg then 1 else 0) + s.fb[n].per * (2 ^ s.interp n : Nat) else s.fb[n].h)) :=
  ⟨0, 0, W.port 1, by decide +kernel, Or.inl (by decide +kernel), by decide +kernel⟩

theorem wit_FeedbackPorts_8 : ∃ (n : Fin 4) (v : Analog) (f : FbPort) (s : State), (s.awake = true) ∧ (s.portType n = 1 ∨ s.portType n = 2 ∨ s.portType n = 5 ∨ s.portType n = 6) ∧ (f = (s.takeAnalog n v).fb[n]) :=
  ⟨0, W.still, ((W.port 1).takeAnalog 0 W.still).fb[(0 : Fin 4)], (W.port 1), by decide +kernel, Or.inl (by decide +kernel), rfl⟩

theorem wit_FeedbackPorts_9 : ∃ (n : Fin 4) (v : Analog) (f : FbPort) (s : State), (s.awake = true) ∧ (s.portType n = 1 ∨ s.portType n = 2 ∨ s.portType n = 5 ∨ s.portType n = 6) ∧ (f = (s.takeAnalog n v).fb[n]) ∧ (f.h ≠ f.hStart) ∧ (s.cpt n ≠ 0) ∧ (s.speedWindow n ≠ 0) :=
  ⟨0, W.still, ((((W.port 1).modFb 0 fun p => { p with h := 5 }).setReg (Reg.FBI_CPT 0) 4096).takeAnalog 0 W.still).fb[(0 : Fin 4)], (((W.port 1).modFb 0 fun p => { p with h := 5 }).setReg (Reg.FBI_CPT 0) 4096), by decide +kernel, Or.inl (by decide +kernel), rfl, by decide +kernel, by decide +kernel, by decide +kernel⟩

theorem wit_FeedbackPorts_10 : ∃ (n : Fin 4) (v : Analog) (h : Int) (ts : Time) (s : State), (s.awake = true) ∧ (s.portType n = 3 ∨ s.portType n = 4) ∧ (s.fb[n].winWord = some (h, ts)) ∧ (s.fb[n].word ≠ none) ∧ (s.fb[n].wordAt ≠ ts) ∧ (s.fb[n].h ≠ h) ∧ (s.cpt n ≠ 0) ∧ (ts.toNat < s.fb[n].wordAt.toNat) :=
  ⟨0, W.still, 0, 0, W.words, by decide +kernel, Or.inl (by decide +kernel), by decide +kernel, by decide +kernel, by decide +kernel, by decide +kernel, by decide +kernel, by decide +kernel⟩

theorem wit_FeedbackPorts_11 : ∃ (n : Fin 4) (s : State), (s.awake = true) ∧ (s.portType n = 3 ∨ s.portType n = 4) ∧ ((s.fb[n].clkAt.any fun e => decide (s.weft.toNat < e.toNat + max 1 (s.fld (Fld.FBI_SER_MONO n)) * 1000)) = false) :=
  ⟨0, W.port 3, by decide +kernel, Or.inl (by decide +kernel), by decide +kernel⟩

theorem wit_FeedbackPorts_12 : ∃ (n : Fin 4) (s : State), (s.awake = true) ∧ (s.portType n = 3 ∨ s.portType n = 4) ∧ ((s.fb[n].clkAt.any fun e => decide (s.weft.toNat < e.toNat + max 1 (s.fld (Fld.FBI_SER_MONO n)) * 1000)) = true) :=
  ⟨0, (W.port 3).modFb 0 fun p => { p with clkAt := some 0 }, by decide +kernel, Or.inl (by decide +kernel), by decide +kernel⟩

theorem wit_FeedbackPorts_13 : ∃ (n : Fin 4) (v : SerialIn) (ts : BitVec 64) (s : State), (s.awake = true) ∧ (s.portType n = 3 ∨ s.portType n = 4 ∧ v.startOk = true ∧ v.nE = true) ∧ (s.fb[n].reqAt = some ts) ∧ (v.lineOk = true) ∧ (s.checkOk n v = true) ∧ (s.fb[n].word = none ∨ s.fb[n].anew = true ∨ s.fld (Fld.FBI_JUMP_MAX n) = 0) :=
  ⟨0, W.serial, 7, W.asked, by decide +kernel, Or.inl (by decide +kernel), by decide +kernel, by decide +kernel, by decide +kernel, Or.inl (by decide +kernel)⟩

theorem wit_FeedbackPorts_14 : ∃ (n : Fin 4) (v : SerialIn) (ts : BitVec 64) (s : State), (s.awake = true) ∧ (s.portType n = 3 ∨ s.portType n = 4) ∧ (s.fb[n].reqAt = some ts) ∧ (v.lineOk = false ∨ s.checkOk n v = false) :=
  ⟨0, { W.serial with lineOk := false }, 7, W.asked, by decide +kernel, Or.inl (by decide +kernel), by decide +kernel, Or.inl rfl⟩

theorem wit_FeedbackPorts_15 : ∃ (n : Fin 4) (s : State), (s.ampOn n = true) ∧ (max 1 (s.fld (Fld.FBI_AMP_FILT n)) < s.fb[n].ampN) :=
  ⟨0, ((W.port 2).setFlag (Fld.FBI_CFG_AMP_EN 0) true).modFb 0 fun p => { p with ampN := 300 }, by decide +kernel, by decide +kernel⟩

theorem wit_FeedbackPorts_16 : ∃ (n : Fin 4) (s : State), (s.awake = true) ∧ (s.portType n = 1 ∨ s.portType n = 3 ∨ s.portType n = 4 ∨ s.portType n = 6) :=
  ⟨0, W.port 1, by decide +kernel, by decide +kernel⟩

theorem wit_FeedbackPorts_17 : ∃ (n : Fin 4) (s : State), (s.awake = true) ∧ (s.portType n = 5) :=
  ⟨0, W.port 5, by decide +kernel, by decide +kernel⟩

theorem wit_FeedbackPorts_18 : ∃ (k : Fin 2) (s : State), (s.awake = true) :=
  ⟨0, W.loaded, by decide +kernel⟩

theorem wit_PortCommands_0 : ∃ (w : Writer) (n : Fin 4) (v : Word) (s : State), (s.writable w (Reg.FBI_CMP n) = true) :=
  ⟨.host, 0, 5, W.port 1, by decide +kernel⟩

theorem wit_PortCommands_1 : ∃ (w : Writer) (n : Fin 4) (s : State), (s.writable w (Reg.FBI_CTRL n) = true) ∧ (s.presetBarred n = true) :=
  ⟨.host, 0, W.posLoop, by decide +kernel, by decide +kernel⟩

theorem wit_PortCommands_2 : ∃ (w : Writer) (n : Fin 4) (s : State), (s.writable w (Reg.FBI_CTRL n) = true) ∧ (s.presetBarred n = false) :=
  ⟨.host, 0, W.port 1, by decide +kernel, by decide +kernel⟩

theorem wit_PortCommands_3 : ∃ (w : Writer) (n : Fin 4) (s : State), (s.writable w (Reg.FBI_CTRL n) = true) ∧ ((s.portUsed n fun a => s.axState a == AxSt.RUNNING || s.axState a == AxSt.STOPPING) = false) :=
  ⟨.host, 0, W.port 1, by decide +kernel, by decide +kernel⟩

theorem wit_PortCommands_4 : ∃ (w : Writer) (n : Fin 4) (s : State), (s.writable w (Reg.FBI_CTRL n) = true) ∧ ((s.portUsed n fun a => s.axState a == AxSt.RUNNING || s.axState a == AxSt.STOPPING) = true) :=
  ⟨.host, 0, W.posLoop, by decide +kernel, by decide +kernel⟩

theorem wit_PortCommands_5 : ∃ (w : Writer) (n : Fin 4) (s : State), (s.writable w (Reg.FBI_CTRL n) = true) :=
  ⟨.host, 0, W.port 1, by decide +kernel⟩

theorem wit_MotionChannels_0 : ∃ (c : Fin 8) (s : State), (s.awake = true) ∧ (isStep c = true) ∧ (s.stepSource c = 1) :=
  ⟨4, W.step, by decide +kernel, by decide +kernel, by decide +kernel⟩

theorem wit_MotionChannels_1 : ∃ (c : Fin 8) (n : Fin 4) (s : State), (s.awake = true) ∧ (isStep c = false) ∧ (s.posMode c = true) ∧ (s.isFollower (chanAxis c) = false) ∧ (s.axState (chanAxis c) = AxSt.RUNNING) ∧ (s.portItem 50 c = some n) :=
  ⟨0, 1, W.pulseRef, by decide +kernel, by decide +kernel, by decide +kernel, by decide +kernel, by decide +kernel, by decide +kernel⟩

theorem wit_MotionChannels_2 : ∃ (c : Fin 8) (s : State), (s.awake = true) ∧ (isStep c = true) ∧ (s.stepSource c ≠ 1) :=
  ⟨4, W.step.setPar 32 30 4 0, by decide +kernel, by decide +kernel, by decide +kernel⟩

theorem wit_MotionChannels_3 : ∃ (c : Fin 8) (s : State), (s.awake = true) ∧ (isStep c = false) ∧ (s.posMode c = true) ∧ (s.isFollower (chanAxis c) = false) ∧ (s.axState (chanAxis c) = AxSt.RUNNING ∨ s.axState (chanAxis c) = AxSt.STOPPING) ∧ (s.portItem 50 c = none) :=
  ⟨0, W.posLoop, by decide +kernel, by decide +kernel, by decide +kernel, by decide +kernel, Or.inl (by decide +kernel), by decide +kernel⟩

theorem wit_MotionChannels_4 : ∃ (c : Fin 8) (s : State), (s.awake = true) ∧ (isStep c = false) ∧ (s.posMode c = true) ∧ (s.isFollower (chanAxis c) = false) ∧ (s.axState (chanAxis c) ≠ AxSt.RUNNING) ∧ (s.axState (chanAxis c) ≠ AxSt.STOPPING) :=
  ⟨0, W.posLoop.setFld (Fld.SPD_STATE_STATE 0) 0, by decide +kernel, by decide +kernel, by decide +kernel, by decide +kernel, by decide +kernel, by decide +kernel⟩

theorem wit_MotionChannels_5 : ∃ (n : Fin 4) (neg reached : Bool) (s : State), (s.awake = true) :=
  ⟨0, false, true, W.limit, by decide +kernel⟩

theorem wit_MotionChannels_7 : ∃ (c : Fin 8) (s : State), (s.prg[c].devAt.isSome = true) ∧ (s.flag (Fld.PRG_STATE_DEV c) = false) :=
  ⟨4, W.step.modPrg 4 fun p => { p with devAt := some 0 }, by decide +kernel, by decide +kernel⟩

theorem wit_MotionChannels_8 : ∃ (c : Fin 8) (s : State), ((s.prg[c].checkAt.any fun t => decide (1 / 10 ≤ s.since t)) = false) :=
  ⟨4, W.refCheck, by decide +kernel⟩

theorem wit_MotionChannels_9 : ∃ (c : Fin 8) (d : Int) (s : State), ((s.prg[c].checkAt.any fun t => decide (1 / 10 ≤ s.since t)) = true) ∧ ((s.modPrg c fun p => { p with checkAt := none }).deviation c = some d) ∧ (absRat (d : Rat) ≤ (s.modPrg c fun p => { p with checkAt := none }).p32 10 c) :=
  ⟨4, 0, W.later W.refCheck, by decide +kernel, by decide +kernel, by decide +kernel⟩

theorem wit_MotionChannels_10 : ∃ (c : Fin 8) (d : Int) (s : State), ((s.prg[c].checkAt.any fun t => decide (1 / 10 ≤ s.since t)) = true) ∧ ((s.modPrg c fun p => { p with checkAt := none }).deviation c = some d) ∧ ((s.modPrg c fun p => { p with checkAt := none }).p32 10 c < absRat (d : Rat)) :=
  ⟨4, 5, (W.later W.refCheck).setReg (Reg.PRG_COUNT 4) 5, by decide +kernel, by decide +kernel, by decide +kernel⟩

theorem wit_MotionChannels_11 : ∃ (w : Writer) (c : Fin 8) (s : State), (s.writable w (Reg.PRG_CTRL c) = true) ∧ (isStep c = true) :=
  ⟨.host, 4, W.step, by decide +kernel, by decide +kernel⟩

theorem wit_MotionChannels_12 : ∃ (c : Fin 8) (s : State), (s.prg[c].cmd = 1) :=
  ⟨4, W.step.modPrg 4 fun p => { p with cmd := 1 }, by decide +kernel⟩

theorem wit_MotionChannels_13 : ∃ (c : Fin 8) (s : State), (s.prg[c].cmd = 2) :=
  ⟨4, W.step.modPrg 4 fun p => { p with cmd := 2 }, by decide +kernel⟩

theorem wit_MotionChannels_14 : ∃ (c : Fin 8) (s : State), (s.prg[c].cmd = 4) :=
  ⟨4, W.step.modPrg 4 fun p => { p with cmd := 4 }, by decide +kernel⟩

theorem wit_MotionChannels_15 : ∃ (c : Fin 8) (s : State), (s.prg[c].cmd = 8) ∧ (s.flag (Fld.PRG_STATE_MOVING c) = false) :=
  ⟨4, W.step.modPrg 4 fun p => { p with cmd := 8 }, by decide +kernel, by decide +kernel⟩

theorem wit_MotionChannels_16 : ∃ (c : Fin 8) (s : State), ((s.takeCommands c).stepSource c = 0) ∧ ((s.takeCommands c).prg[c].jog = 0) :=
  ⟨4, W.step.setPar 32 30 4 0, by decide +kernel, by decide +kernel⟩

theorem wit_MotionChannels_17 : ∃ (w : Writer) (c : Fin 8) (s : State), (s.writable w (Reg.PRG_CTRL c) = true) ∧ (isStep c = false) :=
  ⟨.host, 0, W.step, by decide +kernel, by decide +kernel⟩

theorem wit_MotionChannels_18 : ∃ (h : Desc) (c : Fin 8) (target : BitVec 64) (goal : Int) (s : State), (s.takes h 0x05 = true) ∧ (descChan h = some c) ∧ (goal = nearest ((if h.absolute then 0 else if s.prg[c].rest then s.prg[c].p else (s.prg[c].goal : Rat)) + (target.toInt : Rat) / (2 ^ 32 : Nat) * s.p32 1 c)) ∧ (s.moveRefusal c goal = none) ∧ (isStep c = true) :=
  ⟨W.desc 4 0, 4, 0, 0, W.step, by decide +kernel, by decide +kernel, by decide +kernel, by decide +kernel, by decide +kernel⟩

theorem wit_MotionChannels_19 : ∃ (h : Desc) (c : Fin 8) (target : BitVec 64) (goal : Int) (s : State), (s.takes h 0x05 = true) ∧ (descChan h = some c) ∧ (goal = nearest ((if h.absolute then 0 else if s.prg[c].rest then s.prg[c].p else (s.prg[c].goal : Rat)) + (target.toInt : Rat) / (2 ^ 32 : Nat) * s.p32 1 c)) ∧ (s.moveRefusal c goal = none) ∧ (isStep c = false) :=
  ⟨W.desc 0 0, 0, 0, 0, W.posLoop, by decide +kernel, by decide +kernel, by decide +kernel, by decide +kernel, by decide +kernel⟩

theorem wit_MotionChannels_20 : ∃ (h : Desc) (c : Fin 8) (target : BitVec 64) (goal : Int) (st : Nat) (s : State), (s.takes h 0x05 = true) ∧ (descChan h = some c) ∧ (goal = nearest ((if h.absolute then 0 else if s.prg[c].rest then s.prg[c].p else (s.prg[c].goal : Rat)) + (target.toInt : Rat) / (2 ^ 32 : Nat) * s.p32 1 c)) ∧ (s.moveRefusal c goal = some st) :=
  ⟨W.desc 0 0, 0, 0, 0, St.MODE_DENIED, W.axis 2, by decide +kernel, by decide +kernel, by decide +kernel, by decide +kernel⟩

theorem wit_MotionChannels_21 : ∃ (h : Desc) (c : Fin 8) (s : State), (s.takes h 0x06 = true) ∧ (descChan h = some c) ∧ (isStep c = true) :=
  ⟨W.desc 4 0, 4, W.step, by decide +kernel, by decide +kernel, by decide +kernel⟩

theorem wit_MotionChannels_22 : ∃ (h : Desc) (c : Fin 8) (a : Fin 4) (s : State), (s.takes h 0x06 = true) ∧ (descChan h = some c) ∧ (isStep c = false) ∧ (s.axisOf h = some a) :=
  ⟨W.desc 0 0, 0, 0, W.axis 2, by decide +kernel, by decide +kernel, by decide +kernel, by decide +kernel⟩

theorem wit_MotionChannels_23 : ∃ (h : Desc) (a : Fin 4) (s : State), (s.isFollower a = false) ∧ (s.axState a ≠ AxSt.STARTING) ∧ (s.isShared a = false) :=
  ⟨W.desc 0 0, 0, W.axis 2, by decide +kernel, by decide +kernel, by decide +kernel⟩

theorem wit_LoadSharing_0 : ∃ (s : State), (s.awake = true) :=
  ⟨W.loaded, by decide +kernel⟩

theorem wit_LoadSharing_1 : ∃ (a : Fin 4) (r : MemberReport) (s : State), (s.awake = true) ∧ (s.axisExists a = true) ∧ (s.isShared a = true) ∧ (s.lsh[a].drop = 0) ∧ (s.synced = true) ∧ (s.leads a = false) ∧ (s.lsh[a].mine = some r) :=
  ⟨0, { group := 0, node := 5, cycle := 0, idx := 1, mstate := 2, flags := 0, sig := 0, te := 0, n := 0, did := 0, kth := 0, hops := 0, mofs := 0, seen := 0 }, W.member, by decide +kernel, by decide +kernel, by decide +kernel, by decide +kernel, by decide +kernel, by decide +kernel, by decide +kernel⟩

theorem wit_LoadSharing_2 : ∃ (a : Fin 4) (f : LeadFrame) (s : State), (s.awake = true) ∧ (s.axisExists a = true) ∧ (s.isShared a = true) ∧ (s.lsh[a].drop = 0) ∧ (s.synced = true) ∧ (s.leads a = true) ∧ (s.lsh[a].lead = some f) :=
  ⟨0, { group := 0, node := 5, cycle := 0, idx := 1, cmd := 0, active := 0, sig := 0, tRef := 0, nRef := 0, nCmd := 0, teAx := 0, didMin := 0, share := [], flags := 0 }, W.lead, by decide +kernel, by decide +kernel, by decide +kernel, by decide +kernel, by decide +kernel, by decide +kernel, by decide +kernel⟩

theorem wit_LoadSharing_3 : ∃ (f : LeadFrame) (r : MemberReport) (n : Notice) (s : State), (s.awake = true) :=
  ⟨{ group := 0, node := 5, cycle := 0, idx := 1, cmd := 0, active := 0, sig := 0, tRef := 0, nRef := 0, nCmd := 0, teAx := 0, didMin := 0, share := [], flags := 0 }, { group := 0, node := 5, cycle := 0, idx := 1, mstate := 2, flags := 0, sig := 0, te := 0, n := 0, did := 0, kth := 0, hops := 0, mofs := 0, seen := 0 }, { group := 0, node := 5, cycle := 0, idx := 1, fault := true }, W.loaded, by decide +kernel⟩

theorem wit_LoadSharing_4 : ∃ (f : LeadFrame) (r : MemberReport) (n : Notice) (s : State), (f.node = s.nodeAddr) ∧ (r.node = s.nodeAddr) ∧ (n.node = s.nodeAddr) :=
  ⟨{ group := 0, node := W.loaded.nodeAddr, cycle := 0, idx := 1, cmd := 0, active := 0, sig := 0, tRef := 0, nRef := 0, nCmd := 0, teAx := 0, didMin := 0, share := [], flags := 0 }, { group := 0, node := W.loaded.nodeAddr, cycle := 0, idx := 1, mstate := 2, flags := 0, sig := 0, te := 0, n := 0, did := 0, kth := 0, hops := 0, mofs := 0, seen := 0 }, { group := 0, node := W.loaded.nodeAddr, cycle := 0, idx := 1, fault := true }, W.loaded, by decide +kernel, by decide +kernel, by decide +kernel⟩

theorem wit_LoadSharing_5 : ∃ (a : Fin 4) (s : State), (s.awake = true) ∧ (s.axisExists a = true) ∧ (s.isShared a = true) ∧ (0 < s.lsh[a].drop) :=
  ⟨0, W.member.modLsh 0 fun g => { g with drop := 1 }, by decide +kernel, by decide +kernel, by decide +kernel, by decide +kernel⟩

theorem wit_LoadSharing_6 : ∃ (a : Fin 4) (s : State), (s.lsh[a].drop = 0) ∧ (s.synced = false) :=
  ⟨0, W.unsynced, by decide +kernel, by decide +kernel⟩

theorem wit_LoadSharing_7 : ∃ (a : Fin 4) (r : MemberReport) (s : State), (s.awake = true) ∧ (s.axisExists a = true) ∧ (s.isShared a = true) ∧ (s.lsh[a].mine = some r) ∧ (((s.modLsh a fun g => { g with applied := true }).memberPoll a).lsh[a].parted = false) ∧ (((s.modLsh a fun g => { g with applied := true }).memberPoll a).synced = false) :=
  ⟨0, { group := 0, node := 5, cycle := 0, idx := 1, mstate := 2, flags := 0, sig := 0, te := 0, n := 0, did := 0, kth := 0, hops := 0, mofs := 0, seen := 0 }, W.unsynced, by decide +kernel, by decide +kernel, by decide +kernel, by decide +kernel, by decide +kernel, by decide +kernel⟩

theorem wit_LoadSharing_8 : ∃ (a : Fin 4) (r : MemberReport) (s : State), (s.awake = true) ∧ (s.axisExists a = true) ∧ (s.isShared a = true) ∧ (s.lsh[a].mine = some r) ∧ (((s.modLsh a fun g => { g with applied := true }).memberPoll a).lsh[a].parted = false) ∧ (((s.modLsh a fun g => { g with applied := true }).memberPoll a).leads a = true) ∧ (((s.modLsh a fun g => { g with applied := true }).memberPoll a).synced = true) :=
  ⟨0, { group := 0, node := 5, cycle := 0, idx := 1, mstate := 2, flags := 0, sig := 0, te := 0, n := 0, did := 0, kth := 0, hops := 0, mofs := 0, seen := 0 }, W.lead, by decide +kernel, by decide +kernel, by decide +kernel, by decide +kernel, by decide +kernel, by decide +kernel, by decide +kernel⟩

theorem wit_LoadSharing_9 : ∃ (a : Fin 4) (r : MemberReport) (f : LeadFrame) (s : State), (s.awake = true) ∧ (s.axisExists a = true) ∧ (s.isShared a = true) ∧ (s.lsh[a].mine = some r) ∧ (((s.modLsh a fun g => { g with applied := true }).memberPoll a).lsh[a].parted = false) ∧ (((s.modLsh a fun g => { g with applied := true }).memberPoll a).leads a = false) ∧ (((s.modLsh a fun g => { g with applied := true }).memberPoll a).synced = true) ∧ (pickLead ((s.modLsh a fun g => { g with applied := true }).memberPoll a).lsh[a].leads = some f) :=
  ⟨0, { group := 0, node := 5, cycle := 0, idx := 1, mstate := 2, flags := 0, sig := 0, te := 0, n := 0, did := 0, kth := 0, hops := 0, mofs := 0, seen := 0 }, { group := 0, node := 5, cycle := 0, idx := 1, cmd := 0, active := 0, sig := 0, tRef := 0, nRef := 0, nCmd := 0, teAx := 0, didMin := 0, share := [], flags := 0 }, W.led, by decide +kernel, by decide +kernel, by decide +kernel, by decide +kernel, by decide +kernel, by decide +kernel, by decide +kernel, by decide +kernel⟩

theorem wit_LoadSharing_10 : ∃ (a : Fin 4) (r : MemberReport) (s : State), (s.awake = true) ∧ (s.axisExists a = true) ∧ (s.isShared a = true) ∧ (s.lsh[a].mine = some r) ∧ (((s.modLsh a fun g => { g with applied := true }).memberPoll a).lsh[a].parted = false) ∧ (((s.modLsh a fun g => { g with applied := true }).memberPoll a).leads a = false) ∧ (((s.modLsh a fun g => { g with applied := true }).memberPoll a).synced = true) ∧ (pickLead ((s.modLsh a fun g => { g with applied := true }).memberPoll a).lsh[a].leads = none) :=
  ⟨0, { group := 0, node := 5, cycle := 0, idx := 1, mstate := 2, flags := 0, sig := 0, te := 0, n := 0, did := 0, kth := 0, hops := 0, mofs := 0, seen := 0 }, W.member, by decide +kernel, by decide +kernel, by decide +kernel, by decide +kernel, by decide +kernel, by decide +kernel, by decide +kernel, by decide +kernel⟩

theorem wit_LoadSharing_11 : ∃ (a : Fin 4) (s : State), (s.mstate a ≠ 5 ∨ s.lsh[a].ramp = none) :=
  ⟨0, W.member, Or.inl (by decide +kernel)⟩

theorem wit_LoadSharing_12 : ∃ (a : Fin 4) (s : State), (s.mstate a = 5) ∧ (s.lsh[a].ramp.isSome = true) :=
  ⟨0, W.rampOut, by decide +kernel, by decide +kernel⟩

theorem wit_SafetyIsland_0 : ∃ (off : List (Fin 24)) (s : State), (s.flag Fld.SFI_STATUS_SUSPENDED = false) ∧ (s.islandRuns = true) :=
  ⟨[], W.island, by decide +kernel, by decide +kernel⟩

theorem wit_SafetyIsland_1 : ∃ (off : List (Fin 24)) (s : State), (s.flag Fld.SFI_STATUS_SUSPENDED = false) ∧ (s.islandRuns = true) :=
  ⟨[], W.island, by decide +kernel, by decide +kernel⟩

theorem wit_SafetyIsland_3 : ∃ (s : State), (s.flag Fld.SFI_STATUS_STO_A = false ∨ s.flag Fld.SFI_STATUS_STO_B = false) :=
  ⟨W.loaded, by decide +kernel⟩

theorem wit_SafetyIsland_4 : ∃ (s : State), (s.flag Fld.SFI_STATUS_STO_A = true) ∧ (s.flag Fld.SFI_STATUS_STO_B = true) :=
  ⟨W.deferred, by decide +kernel, by decide +kernel⟩

theorem wit_SafetyIsland_5 : ∃ (s : State), (s.flag Fld.SFI_STATUS_STO_A ≠ s.flag Fld.SFI_STATUS_STO_B) ∧ (s.islandRuns = true) ∧ (s.overdue .stoDisc (s.par 40 2 0 * 1_000_000) = true) :=
  ⟨W.timed .stoDisc (W.agedIsland.setFlag Fld.SFI_STATUS_STO_A true), by decide +kernel, by decide +kernel, by decide +kernel⟩

theorem wit_SafetyIsland_6 : ∃ (s : State), (s.overdue .stoDisc (s.par 40 2 0 * 1_000_000) = false) :=
  ⟨W.ready, by decide +kernel⟩

theorem wit_SafetyIsland_7 : ∃ (a : Fin 4) (s : State), (s.islandRuns = true) ∧ (s.flag (Fld.SFI_AX_STATE_SS1 a) = true) ∧ ((s.sfa[a].ss1Since.any fun (t : Nat) => decide ((t : Rat) + s.par 40 11 a.val * 1_000_000 < (s.sys.poweredNs : Rat))) = true) :=
  ⟨0, (W.agedIsland.setFlag (Fld.SFI_AX_STATE_SS1 0) true).modSfa 0 fun f => { f with ss1Since := some 0 }, by decide +kernel, by decide +kernel, by decide +kernel⟩

theorem wit_SafetyIsland_8 : ∃ (a : Fin 4) (s : State), ((s.sfa[a].ss1Since.any fun (t : Nat) => decide ((t : Rat) + s.par 40 11 a.val * 1_000_000 < (s.sys.poweredNs : Rat))) = false) :=
  ⟨0, W.ready, by decide +kernel⟩

theorem wit_SafetyIsland_9 : ∃ (a : Fin 4) (s : State), (s.islandRuns = true) ∧ (s.sfa[a].stoWait = true) ∧ (s.ran (.stoDelay a) (s.par 40 21 a.val * 1_000_000) = true) :=
  ⟨0, W.timed (.stoDelay 0) (W.agedIsland.modSfa 0 fun f => { f with stoWait := true }), by decide +kernel, by decide +kernel, by decide +kernel⟩

theorem wit_SafetyIsland_10 : ∃ (a : Fin 4) (s : State), (s.ran (.stoDelay a) (s.par 40 21 a.val * 1_000_000) = false) :=
  ⟨0, W.ready, by decide +kernel⟩

theorem wit_SafetyIsland_11 : ∃ (a : Fin 4) (s : State), (s.islandRuns = true) ∧ (s.ran (.slsEntry a) (s.par 41 11 a.val * 1_000_000) = true) :=
  ⟨0, W.timed (.slsEntry 0) W.agedIsland, by decide +kernel, by decide +kernel⟩

theorem wit_SafetyIsland_12 : ∃ (a : Fin 4) (s : State), (s.ran (.slsEntry a) (s.par 41 11 a.val * 1_000_000) = false) :=
  ⟨0, W.ready, by decide +kernel⟩

theorem wit_SafetyIsland_13 : ∃ (d : Nat) (s : State), (d = s.parNat 40 3 0 - 1) :=
  ⟨W.ready.parNat 40 3 0 - 1, W.ready, rfl⟩

theorem wit_SafetyIsland_14 : ∃ (d : Nat) (s : State), (d = s.parNat 40 3 0) :=
  ⟨W.ready.parNat 40 3 0, W.ready, rfl⟩

theorem wit_SafetyIsland_15 : ∃ (s : State), (s.islandRuns = true) ∧ (s.profileActive = true) :=
  ⟨W.island, by decide +kernel, by decide +kernel⟩

theorem wit_SafeInputsAndOutputs_0 : ∃ (n : Fin 16) (level : Bool) (s : State), (s.islandRuns = true) :=
  ⟨0, true, W.island, by decide +kernel⟩

theorem wit_SafeInputsAndOutputs_1 : ∃ (i : Fin 8) (s : State), (s.overdue (.disc i) (s.par 44 2 i.val * 1_000_000) = false) :=
  ⟨0, W.ready, by decide +kernel⟩

theorem wit_SafeInputsAndOutputs_2 : ∃ (i : Fin 8) (s : State), (s.islandRuns = true) ∧ (s.siMode i ≠ 0) ∧ (s.siClear i false ≠ s.siClear i true) ∧ (s.overdue (.disc i) (s.par 44 2 i.val * 1_000_000) = true) :=
  ⟨0, W.timed (.disc 0) { W.discrepant with sys := W.agedIsland.sys }, by decide +kernel, by decide +kernel, by decide +kernel, by decide +kernel⟩

theorem wit_SafeInputsAndOutputs_3 : ∃ (k : Fin 4) (s : State), (s.islandRuns = true) :=
  ⟨0, W.island, by decide +kernel⟩

theorem wit_SafeInputsAndOutputs_4 : ∃ (k : Fin 4) (s : State), (s.islandRuns = true) :=
  ⟨0, W.island, by decide +kernel⟩

theorem wit_SafeInputsAndOutputs_5 : ∃ (n : Fin 16) (b : Bool) (s : State), ((s.si[n].allHigh || b) = true) :=
  ⟨0, true, W.island, by simp⟩

theorem wit_SafeInputsAndOutputs_6 : ∃ (n : Fin 16) (b : Bool) (s : State), ((s.si[n].allHigh || b) = false) :=
  ⟨0, false, W.island, by decide +kernel⟩

theorem wit_SafeInputsAndOutputs_8 : ∃ (k : Fin 4) (s : State), (s.tst[k].off = true) :=
  ⟨0, W.overloaded, by decide +kernel⟩

theorem wit_SafeInputsAndOutputs_9 : ∃ (levels : BitVec 16) (outs : BitVec 8) (s : State), (s.islandRuns = true) ∧ (s.flag Fld.SFI_SO_STATE_VS_LOW = true) :=
  ⟨0, 0, W.vsLow, by decide +kernel, by decide +kernel⟩

theorem wit_SafeInputsAndOutputs_10 : ∃ (levels : BitVec 16) (outs : BitVec 8) (s : State), (s.islandRuns = true) ∧ (s.flag Fld.SFI_SO_STATE_VS_LOW = false) :=
  ⟨0, 0, W.island, by decide +kernel, by decide +kernel⟩

theorem wit_SafeInputsAndOutputs_12 : ∃ (i : Fin 4) (outs : BitVec 8) (s : State), (outs.getLsbD (2 * i.val) = s.so[i].hi) ∧ (outs.getLsbD (2 * i.val + 1) = s.so[i].lo) :=
  ⟨0, 0, W.island, by decide +kernel, by decide +kernel⟩

theorem wit_SafeInputsAndOutputs_13 : ∃ (i : Fin 4) (outs : BitVec 8) (s : State), (s.sys.poweredNs < s.so[i].hiAt + 100_000) ∧ (s.sys.poweredNs < s.so[i].loAt + 100_000) :=
  ⟨0, 0, W.energised, by decide +kernel, by decide +kernel⟩

theorem wit_SafeInputsAndOutputs_14 : ∃ (i : Fin 4) (on reads : Bool) (k : Nat) (s : State), (k + 100_000 ≤ s.sys.poweredNs) ∧ (on ≠ reads) :=
  ⟨0, false, true, 0, W.agedIsland, by decide +kernel, by decide +kernel⟩

theorem wit_SafeInputsAndOutputs_15 : ∃ (n : Fin 16) (level : Bool) (i : Fin 8) (k : Fin 4) (b : Bool) (l : BitVec 16) (outs : BitVec 8) (m : Fin 8) (p : Fin 4) (s : State), (s.islandRuns = false) :=
  ⟨0, true, 0, 0, true, 0, 0, 0, 0, W.loaded, by decide +kernel⟩

theorem wit_SafeInputsAndOutputs_16 : ∃ (n : Fin 8) (b : Bool) (i : Fin 4) (s : State), (s.islandRuns = true) ∧ (i = Fin.ofNat 4 (n.val / 2)) ∧ ((s.fld Fld.SFI_SO_STATE_CMD).testBit i.val = true) :=
  ⟨0, true, 0, W.energised, by decide +kernel, by decide +kernel, by decide +kernel⟩

theorem wit_SafeInputsAndOutputs_17 : ∃ (i : Fin 4) (s : State), (s.islandRuns = true) :=
  ⟨0, W.island, by decide +kernel⟩

theorem wit_SafeInputsAndOutputs_19 : ∃ (s : State), ((s.setFlag Fld.SFI_SO_STATE_VS_LOW true).islandRuns = false) :=
  ⟨W.loaded, by decide +kernel⟩

theorem wit_SafeInputsAndOutputs_20 : ∃ (s : State), ((s.setFlag Fld.SFI_SO_STATE_VS_LOW true).islandRuns = true) :=
  ⟨W.island, by decide +kernel⟩

theorem wit_SafetyFrames_0 : ∃ (k : Fin 32) (s : State), (s.islandRuns = true) ∧ (s.parNat 44 30 k.val = 1) :=
  ⟨0, W.island.setPar 44 30 0 0x3F800000, by decide +kernel, by decide +kernel⟩

theorem wit_SafetyFrames_1 : ∃ (k : Fin 32) (b : Bool) (l : List Byte) (f : Field) (s : State), (s.islandRuns = true) ∧ (s.parNat 44 30 k.val = 2) ∧ (s.scCheck k l = some f) :=
  ⟨0, true, [], Fld.SFI_SC_CNT_BADCRC 0, W.receiving, by decide +kernel, by decide +kernel, by decide +kernel⟩

theorem wit_SafetyFrames_2 : ∃ (k : Fin 32) (b : Bool) (l : List Byte) (s : State), (s.islandRuns = true) ∧ (s.parNat 44 30 k.val = 2) ∧ (s.scCheck k l = none) ∧ (s.sc[k].first.find? (fun e => e.routeB != b && half e.bytes 4 == half l 4 && !s.windowOver k e) = none) :=
  ⟨0, false, W.frame, W.receiving, by decide +kernel, by decide +kernel, by decide +kernel, by decide +kernel⟩

theorem wit_SafetyFrames_3 : ∃ (k : Fin 32) (b : Bool) (l : List Byte) (e : FirstCopy) (s : State), (s.islandRuns = true) ∧ (s.parNat 44 30 k.val = 2) ∧ (s.scCheck k l = none) ∧ (s.sc[k].first.find? (fun e => e.routeB != b && half e.bytes 4 == half l 4 && !s.windowOver k e) = some e) ∧ (e.bytes = l) :=
  ⟨0, true, W.frame, { bytes := W.frame, routeB := false, at_ := 0 }, W.receiving, by decide +kernel, by decide +kernel, by decide +kernel, by decide +kernel, by decide +kernel⟩

theorem wit_SafetyFrames_4 : ∃ (k : Fin 32) (b : Bool) (l : List Byte) (e : FirstCopy) (s : State), (s.islandRuns = true) ∧ (s.parNat 44 30 k.val = 2) ∧ (s.scCheck k l = none) ∧ (s.sc[k].first.find? (fun e => e.routeB != b && half e.bytes 4 == half l 4 && !s.windowOver k e) = some e) ∧ (e.bytes ≠ l) :=
  ⟨0, true, W.frame, { bytes := W.otherFrame, routeB := false, at_ := 0 }, W.receiving.modSc 0 fun c => { c with first := [{ bytes := W.otherFrame, routeB := false, at_ := 0 }] }, by decide +kernel, by decide +kernel, by decide +kernel, by decide +kernel, by decide +kernel⟩

theorem wit_SafetyFrames_5 : ∃ (k : Fin 32) (s : State), (s.islandRuns = false ∨ s.sc[k].first.head?.any (s.windowOver k) = false) :=
  ⟨0, W.loaded, Or.inl (by decide +kernel)⟩

theorem wit_SafetyFrames_6 : ∃ (k : Fin 32) (s : State), (s.islandRuns = false ∨ s.sc[k].wd = false ∨ (s.sys.poweredNs : Rat) ≤ (s.sc[k].wdAt : Rat) + s.par 44 37 k.val * 1_000_000) :=
  ⟨0, W.loaded, Or.inl (by decide +kernel)⟩

theorem wit_SafetyFrames_7 : ∃ (k : Fin 32) (l : List Byte) (s : State), (s.sc[k].good = 0) :=
  ⟨0, [], W.loaded, by decide +kernel⟩

theorem wit_SafetyFrames_8 : ∃ (k : Fin 32) (l : List Byte) (s : State), (s.sc[k].good = 1) ∧ (s.flag (Fld.SFI_SC_STATE_ROUTE k) = false) :=
  ⟨0, [], W.secondFrame, by decide +kernel, by decide +kernel⟩

theorem wit_SafetyFrames_9 : ∃ (k : Fin 32) (s : State), (s.islandRuns = true) ∧ (s.sc[k].first.head?.any (s.windowOver k) = true) :=
  ⟨0, W.agedIsland.modSc 0 fun c => { c with first := [{ bytes := [], routeB := true, at_ := 0 }] }, by decide +kernel, by decide +kernel⟩

theorem wit_SafetyFrames_10 : ∃ (k : Fin 32) (s : State), (s.islandRuns = true) ∧ (s.sc[k].wd = true) ∧ ((s.sc[k].wdAt : Rat) + s.par 44 37 k.val * 1_000_000 < (s.sys.poweredNs : Rat)) :=
  ⟨0, W.agedIsland.modSc 0 fun c => { c with wd := true }, by decide +kernel, by decide +kernel, by decide +kernel⟩

theorem wit_Sealing_0 : ∃ (h : Desc) (v : Word) (s : State), (s.takes h 0x03 = true) ∧ (v.toNat < 4) ∧ (s.isl.staging = none) ∧ (s.stagingOk = true) :=
  ⟨W.desc 0 0, 1, W.mayStage, by decide +kernel, by decide +kernel, by decide +kernel, by decide +kernel⟩

theorem wit_Sealing_2 : ∃ (h : Desc) (v : Word) (s : State), (s.takes h 0x03 = true) ∧ (4 ≤ v.toNat) :=
  ⟨W.desc 0 0, 4, W.mayStage, by decide +kernel, by decide +kernel⟩

theorem wit_Sealing_3 : ∃ (h : Desc) (v : Word) (s : State), (s.takes h 0x03 = true) ∧ (v.toNat < 4) ∧ (s.isl.staging.isSome = true) :=
  ⟨W.desc 0 0, 1, W.staging, by decide +kernel, by decide +kernel, by decide +kernel⟩

theorem wit_Sealing_4 : ∃ (h : Desc) (crc : Word) (g : Staging) (s : State), (s.takes h 0x03 = true) ∧ (s.isl.staging = some g) ∧ (g.sealing = none) ∧ (s.flag (Fld.LCK_STATUS_FAILED 1) = false) ∧ (s.sealFail g crc = none) :=
  ⟨W.desc 0 0, safetyCrc W.stagingG.staged, W.stagingG, W.sealable, by decide +kernel, by decide +kernel, by decide +kernel, by decide +kernel, W.sealFail_none⟩

theorem wit_Sealing_5 : ∃ (h : Desc) (crc : Word) (g : Staging) (s : State), (s.takes h 0x03 = true) ∧ (s.isl.staging = some g) ∧ ((s.sealFail g crc).isSome = true) ∧ (s.overdue .staging stagingNs = false) ∧ (g.sealing = none) ∧ (s.flag (Fld.LCK_STATUS_FAILED 1) = false) :=
  ⟨W.desc 0 0, safetyCrc W.stagingG.staged + 1, W.stagingG, W.staging, by decide +kernel, by decide +kernel, W.sealFail_crc, W.staging_fresh, by decide +kernel, by decide +kernel⟩

theorem wit_Sealing_6 : ∃ (h : Desc) (g : Staging) (s : State), (s.isl.staging = some g) ∧ (g.sealing = some h) ∧ (g.rose = false) ∧ (s.stoBothLow = true) ∧ (s.stagingOk = true) :=
  ⟨W.desc 0 0, { W.stagingG with sealing := some (W.desc 0 0) }, W.sealing, by decide +kernel, by decide +kernel, by decide +kernel, by decide +kernel, by decide +kernel⟩

theorem wit_Sealing_7 : ∃ (h : Desc) (g : Staging) (s : State), (s.isl.staging = some g) ∧ (g.sealing = some h) :=
  ⟨W.desc 0 0, { W.stagingG with sealing := some (W.desc 0 0) }, W.sealing, by decide +kernel, by decide +kernel⟩

theorem wit_Sealing_8 : ∃ (h : Desc) (g : Staging) (s : State), (s.isl.staging = some g) ∧ (g.sealing = some h) ∧ (g.rose = true ∨ s.stoBothLow = false ∨ s.stagingOk = false) :=
  ⟨W.desc 0 0, { W.stagingG with sealing := some (W.desc 0 0), rose := true }, { W.staging with isl := { W.staging.isl with staging := some { W.stagingG with sealing := some (W.desc 0 0), rose := true } } }, by decide +kernel, by decide +kernel, Or.inl rfl⟩

theorem wit_Sealing_9 : ∃ (h : Desc) (s : State), (s.takes h 0x03 = true) :=
  ⟨W.desc 0 0, W.staging, by decide +kernel⟩

theorem wit_Sealing_10 : ∃ (s : State), (s.overdue .staging stagingNs = true) :=
  ⟨W.timed .staging { W.staging with sys := W.agedIsland.sys }, by decide +kernel⟩

theorem wit_Sealing_11 : ∃ (s : State), (s.overdue .staging stagingNs = false) :=
  ⟨W.ready, by decide +kernel⟩

theorem wit_CorePairs_0 : ∃ (n : Fin 4) (g : Fin 8) (pc : Word) (s : State), (s.pairState n = PairSt.RUN) ∧ (n ≠ 0) ∧ (n ≠ 3) :=
  ⟨1, 5, 1, W.pair 1, by decide +kernel, by decide +kernel, by decide +kernel⟩

theorem wit_CorePairs_1 : ∃ (g : Fin 8) (pc : Word) (s : State), (s.pairState 0 = PairSt.RUN) :=
  ⟨5, 1, W.pair 1, by decide +kernel⟩

theorem wit_CorePairs_2 : ∃ (g : Fin 8) (pc : Word) (s : State) (u : State), (s.pairState 3 = PairSt.RUN) ∧ (((((s.setFld (Fld.LCK_EVENT_SOURCE 3) g.val).setReg (Reg.LCK_MISPC 3) pc).setFld (Fld.LCK_STATUS_STATE 3) PairSt.ARBITRATE).setFlag (Fld.LCK_STATUS_SAFE 3) false).startTimer (.restart 3) = u) :=
  ⟨5, 1, (W.loaded.setFld (Fld.LCK_STATUS_STATE 3) 1), _, by decide +kernel, rfl⟩

theorem wit_CorePairs_3 : ∃ (n : Fin 4) (g : Fin 8) (pc : Word) (s : State), (s.pairState n = PairSt.RESTART) :=
  ⟨0, 1, 5, W.pair 3, by decide +kernel⟩

theorem wit_CorePairs_4 : ∃ (n : Fin 4) (g : Fin 8) (pc : Word) (s : State), (s.pairState n ≠ PairSt.RUN) ∧ (s.pairState n ≠ PairSt.RESTART) :=
  ⟨0, 1, 5, W.pair 2, by decide +kernel, by decide +kernel⟩

theorem wit_CorePairs_5 : ∃ (n : Fin 4) (s : State), (s.pairState n = PairSt.ARBITRATE) ∧ ((s.cp[n].stamps[1]?.any fun (t : Nat) => decide (s.sys.poweredNs ≤ t + 3_600_000_000_000)) = true) :=
  ⟨0, (W.pair 2).modCp 0 fun c => { c with stamps := [0, 0] }, by decide +kernel, by decide +kernel⟩

theorem wit_CorePairs_6 : ∃ (n : Fin 4) (s : State) (u : State) (v : State), (s.pairState n = PairSt.ARBITRATE) ∧ ((s.cp[n].stamps[1]?.any fun (t : Nat) => decide (s.sys.poweredNs ≤ t + 3_600_000_000_000)) = false) ∧ (s.modCp n (fun c => { c with stamps := s.sys.poweredNs :: c.stamps }) = u) ∧ (((u.incSat (Fld.LCK_CNT_TRANS n)).setFld (Fld.LCK_CNT_TRANS_H n) (min (u.cp[n].stamps.filter fun t => decide (s.sys.poweredNs ≤ t + 3_600_000_000_000)).length 15)) = v) :=
  ⟨2, W.pair 2, _, _, by decide +kernel, by decide +kernel, rfl, rfl⟩

theorem wit_CorePairs_7 : ∃ (n : Fin 4) (c : Bool) (s : State), (s.pairState n = PairSt.ARBITRATE) :=
  ⟨0, true, W.pair 2, by decide +kernel⟩

theorem wit_CorePairs_8 : ∃ (n : Fin 4) (b : Bool) (s : State), (s.pairState n = PairSt.RESTART) ∧ (s.barred (.pair n) = false) :=
  ⟨0, true, W.pair 3, by decide +kernel, by decide +kernel⟩

theorem wit_CorePairs_10 : ∃ (n : Fin 4) (s : State), (s.pairState n = PairSt.RESTART) ∧ (s.overdue (.restart n) 4_000_000 = true) :=
  ⟨0, W.timed (.restart 0) (W.agedPair 3), by decide +kernel, by decide +kernel⟩

theorem wit_CorePairs_11 : ∃ (n : Fin 4) (s : State), (s.pairState n ≠ PairSt.RESTART ∨ s.overdue (.restart n) 4_000_000 = false) :=
  ⟨0, W.pair 1, Or.inl (by decide +kernel)⟩

theorem wit_CorePairs_12 : ∃ (n : Fin 4) (silent : Bool) (s : State), (s.pairState n = PairSt.RUN) ∧ (s.barred (.pair n) = false) :=
  ⟨0, true, W.pair 1, by decide +kernel, by decide +kernel⟩

theorem wit_CorePairs_14 : ∃ (w : Writer) (silent ok : Bool) (s : State), (w ≠ .pair 3) :=
  ⟨.host, true, true, W.loaded, by decide +kernel⟩

theorem wit_CorePairs_15 : ∃ (n : Fin 4) (s : State), (s.pairState n = PairSt.RUN ∨ s.pairState n = PairSt.ARBITRATE ∨ s.pairState n = PairSt.RESTART) :=
  ⟨0, W.pair 1, Or.inl (by decide +kernel)⟩

theorem wit_CorePairs_16 : ∃ (n : Fin 4) (half : Fin 2) (s : State), (s.pairState n = PairSt.RUN ∨ s.pairState n = PairSt.SOLO ∨ s.pairState n = PairSt.RESTART) :=
  ⟨0, 0, W.pair 1, Or.inl (by decide +kernel)⟩

theorem wit_CorePairs_17 : ∃ (n : Fin 4) (s : State), (s.pairState n = PairSt.SPLIT) :=
  ⟨0, W.pair 5, by decide +kernel⟩

theorem wit_CorePairs_18 : ∃ (n : Fin 4) (s : State), (s.flag (Fld.LCK_STATUS_DEBUG n) = false) ∧ (s.pairState n ≠ PairSt.ARBITRATE) :=
  ⟨0, W.pair 1, by decide +kernel, by decide +kernel⟩

theorem wit_CorePairs_19 : ∃ (n : Fin 4) (s : State), (s.flag (Fld.LCK_STATUS_DEBUG n) = false) ∧ (s.pairState n = PairSt.ARBITRATE) :=
  ⟨0, W.pair 2, by decide +kernel, by decide +kernel⟩

theorem wit_HostRings_0 : ∃ (n : Fin 16) (tail : BitVec 12) (l : List Slot) (s : State), (s.doorbellsOpen = true) ∧ (s.doorbell.sqSize n.val ≤ tail.toNat) :=
  ⟨0, 100, [], W.ring, by decide +kernel, by decide +kernel⟩

theorem wit_HostRings_1 : ∃ (n : Fin 16) (tail : BitVec 12) (l : List Slot) (s : State) (u : State), (s.doorbellsOpen = true) ∧ (s.doorbell = u) ∧ ((tail.toNat + u.sqSize n.val - u.fld (Fld.HIF_SQ_PTR_HEAD n.val)) % u.sqSize n.val < (u.fld (Fld.HIF_SQ_PTR_TAIL n.val) + u.sqSize n.val - u.fld (Fld.HIF_SQ_PTR_HEAD n.val)) % u.sqSize n.val) :=
  ⟨0, 1, [], (W.ring.setFld (Fld.HIF_SQ_CFG_SIZE 0) 3).setFld (Fld.HIF_SQ_PTR_TAIL 0) 2, _, by decide +kernel, rfl, by decide +kernel⟩

theorem wit_HostRings_2 : ∃ (n : Fin 16) (tail : BitVec 12) (l : List Slot) (s : State) (u : State), (s.doorbellsOpen = true) ∧ (s.doorbell = u) ∧ (tail.toNat < u.sqSize n.val) ∧ (tail.toNat = u.fld (Fld.HIF_SQ_PTR_TAIL n.val)) :=
  ⟨0, 0, [], W.ring, _, by decide +kernel, rfl, by decide +kernel, by decide +kernel⟩

theorem wit_HostRings_3 : ∃ (n : Fin 16) (tail : BitVec 12) (l : List Slot) (new : List Slot) (s : State) (u : State), (s.doorbellsOpen = true) ∧ (s.doorbell = u) ∧ (tail.toNat < u.sqSize n.val) ∧ (tail.toNat ≠ u.fld (Fld.HIF_SQ_PTR_TAIL n.val)) ∧ (¬ (tail.toNat + u.sqSize n.val - u.fld (Fld.HIF_SQ_PTR_HEAD n.val)) % u.sqSize n.val < (u.fld (Fld.HIF_SQ_PTR_TAIL n.val) + u.sqSize n.val - u.fld (Fld.HIF_SQ_PTR_HEAD n.val)) % u.sqSize n.val) ∧ (l.take ((tail.toNat + u.sqSize n.val - u.fld (Fld.HIF_SQ_PTR_HEAD n.val)) % u.sqSize n.val - (u.fld (Fld.HIF_SQ_PTR_TAIL n.val) + u.sqSize n.val - u.fld (Fld.HIF_SQ_PTR_HEAD n.val)) % u.sqSize n.val) = new) ∧ (u.flag (Fld.HIF_SQ_CFG_ENABLE n.val) = true) :=
  ⟨0, 1, [], _, W.ring, _, by decide +kernel, rfl, by decide +kernel, by decide +kernel, by decide +kernel, rfl, by decide +kernel⟩

theorem wit_HostRings_4 : ∃ (n : Fin 16) (tail : BitVec 12) (l : List Slot) (s : State) (u : State), (s.doorbellsOpen = true) ∧ (s.doorbell = u) ∧ (tail.toNat < u.sqSize n.val) ∧ (tail.toNat ≠ u.fld (Fld.HIF_SQ_PTR_TAIL n.val)) ∧ (¬ (tail.toNat + u.sqSize n.val - u.fld (Fld.HIF_SQ_PTR_HEAD n.val)) % u.sqSize n.val < (u.fld (Fld.HIF_SQ_PTR_TAIL n.val) + u.sqSize n.val - u.fld (Fld.HIF_SQ_PTR_HEAD n.val)) % u.sqSize n.val) ∧ (u.flag (Fld.HIF_SQ_CFG_ENABLE n.val) = false) :=
  ⟨0, 1, [], W.ready, _, by decide +kernel, rfl, by decide +kernel, by decide +kernel, by decide +kernel, by decide +kernel⟩

theorem wit_HostRings_5 : ∃ (n : Fin 16) (d : Slot) (s : State), (s.hif.sq[n].chain = none) ∧ (d.chain = false) ∧ (byCp0 d.opcode.toNat = false) :=
  ⟨0, { opcode := 1, cid := 1, chain := false, chainLen := 0, chainSeq := 0, fence := false }, W.ring, by decide +kernel, by decide +kernel, by decide +kernel⟩

theorem wit_HostRings_6 : ∃ (n : Fin 16) (d : Slot) (s : State), (d.fence = true) ∧ (s.hif.sq[n].chain = none) ∧ (0 < s.hif.sq[n].due) :=
  ⟨0, { opcode := 1, cid := 1, chain := false, chainLen := 0, chainSeq := 0, fence := true }, W.ring.modSq 0 fun q => { q with due := 1 }, by decide +kernel, by decide +kernel, by decide +kernel⟩

theorem wit_HostRings_7 : ∃ (n : Fin 16) (d : Slot) (s : State), (byCp0 d.opcode.toNat = true) ∧ (64 ≤ s.hif.fwq.length) :=
  ⟨0, { opcode := 0x40, cid := 1, chain := false, chainLen := 0, chainSeq := 0, fence := false }, { W.ring with hif := { W.ring.hif with fwq := List.replicate 64 { sq := 0, opcode := 0x40, cid := 0 } } }, by decide +kernel, by decide +kernel⟩

theorem wit_HostRings_8 : ∃ (n : Fin 16) (s u : State), ((s.hif.sq.toList.all fun q => q.waiting.isEmpty) = false) ∧ (forAll (List.finRange 16) (fun n t => t.countStall n) s = u) ∧ (((List.range 16).map fun k => Fin.ofNat 16 (u.hif.turn.val + k)).find? u.mayFetch = some n) :=
  ⟨0, W.waiting, _, by decide +kernel, rfl, by decide +kernel⟩

theorem wit_HostRings_9 : ∃ (n : Fin 16) (c : OpenChain) (s : State), (s.hif.sq[n].chain = some c) ∧ (c.visible s.hif.sq[n].waiting = false) ∧ (s.overdue (.chain n) ((s.parNat 10 32 0 * 1000 : Nat) : Rat) = true) :=
  ⟨0, { opcode := 0x11, cid := 1, len := 2, got := 1 }, W.timed (.chain 0) (W.aged.setChain 0 (some { opcode := 0x11, cid := 1, len := 2, got := 1 })), by decide +kernel, by decide +kernel, by decide +kernel⟩

theorem wit_HostRings_10 : ∃ (n : Fin 16) (s : State), (s.hif.sq[n].chain = none ∨ s.overdue (.chain n) ((s.parNat 10 32 0 * 1000 : Nat) : Rat) = false) :=
  ⟨0, W.ring, Or.inl (by decide +kernel)⟩

theorem wit_HostRings_11 : ∃ (n : Fin 16) (head : BitVec 12) (s : State), (s.doorbellsOpen = true) ∧ (s.doorbell.cqSize n.val ≤ head.toNat) :=
  ⟨0, 100, W.ring, by decide +kernel, by decide +kernel⟩

theorem wit_HostRings_12 : ∃ (n : Fin 16) (head : BitVec 12) (s : State) (u : State) (v : State), (s.doorbellsOpen = true) ∧ (s.doorbell = u) ∧ (head.toNat < u.cqSize n.val) ∧ (¬ (u.fld (Fld.HIF_CQ_PTR_TAIL n.val) + u.cqSize n.val - u.fld (Fld.HIF_CQ_PTR_HEAD n.val)) % u.cqSize n.val < (head.toNat + u.cqSize n.val - u.fld (Fld.HIF_CQ_PTR_HEAD n.val)) % u.cqSize n.val) ∧ ((u.setFld (Fld.HIF_CQ_PTR_HEAD n.val) head.toNat).modCq n (fun c => { c with entries := c.entries.drop ((head.toNat + u.cqSize n.val - u.fld (Fld.HIF_CQ_PTR_HEAD n.val)) % u.cqSize n.val) }) = v) :=
  ⟨0, 0, W.ring, _, _, by decide +kernel, rfl, by decide +kernel, by decide +kernel, rfl⟩

theorem wit_HostRings_13 : ∃ (n : Fin 16) (s : State), (s.hif.cq[n].timer = true) ∧ (0 < s.hif.cq[n].unsignal ∧ s.hif.cq[n].firstAt + 1000 * s.fld (Fld.HIF_CQ_CFG_ITIME n.val) ≤ s.sys.poweredNs) :=
  ⟨0, W.ring.modCq 0 fun c => { c with timer := true, unsignal := 1 }, by decide +kernel, by decide +kernel⟩

theorem wit_HostRings_14 : ∃ (n : Fin 16) (s : State), (s.hif.cq[n].timer = false ∨ ¬ (0 < s.hif.cq[n].unsignal ∧ s.hif.cq[n].firstAt + 1000 * s.fld (Fld.HIF_CQ_CFG_ITIME n.val) ≤ s.sys.poweredNs)) :=
  ⟨0, W.ring, Or.inl (by decide +kernel)⟩

theorem wit_HostRings_15 : ∃ (w : Writer) (n : Fin 16) (s : State), (s.writable w (Reg.HIF_SQ_CFG n.val) = true) :=
  ⟨.host, 0, W.ring, by decide +kernel⟩

theorem wit_HostRings_16 : ∃ (w : Writer) (n : Fin 16) (s : State), (s.writable w (Reg.HIF_CQ_CFG n.val) = true) :=
  ⟨.host, 0, W.ring, by decide +kernel⟩

theorem wit_HostRings_18 : ∃ (n : Fin 16) (s : State), (s.flag (Fld.HIF_SQ_CFG_ENABLE n.val) = true) :=
  ⟨0, W.ring, by decide +kernel⟩

theorem wit_HostRings_19 : ∃ (n : Fin 16) (s : State), (s.flag (Fld.HIF_CQ_CFG_ENABLE n.val) = true) :=
  ⟨0, W.ring, by decide +kernel⟩

theorem wit_HostCommands_0 : ∃ (h : Desc) (s : State), (s.takes h 0x01 = true) :=
  ⟨W.desc 0 0, W.ready, by decide +kernel⟩

theorem wit_HostCommands_1 : ∃ (h : Desc) (op : Byte) (s : State) (r : State), (s.takes h op.toNat = true) ∧ (s.taken h (op.toNat) = r) ∧ (0x40 ≤ op.toNat) ∧ (op.toNat ≤ 0x7F) :=
  ⟨W.desc 0 0, 0x40, W.ready, (W.ready).taken (W.desc 0 0) ((0x40 : Byte).toNat), by decide +kernel, rfl, by decide +kernel, by decide +kernel⟩

theorem wit_HostCommands_2 : ∃ (h : Desc) (op : Byte) (s : State) (r : State), (s.takes h op.toNat = true) ∧ (s.taken h (op.toNat) = r) ∧ (0x40 ≤ op.toNat) ∧ (op.toNat ≤ 0x7F) :=
  ⟨W.desc 0 0, 0x40, W.ready, (W.ready).taken (W.desc 0 0) ((0x40 : Byte).toNat), by decide +kernel, rfl, by decide +kernel, by decide +kernel⟩

theorem wit_HostCommands_3 : ∃ (h : Desc) (op : Byte) (s : State) (r : State), (s.takes h op.toNat = true) ∧ (s.taken h (op.toNat) = r) ∧ (knownOpcode op.toNat = false) :=
  ⟨W.desc 0 0, 0x30, W.ready, (W.ready).taken (W.desc 0 0) ((0x30 : Byte).toNat), by decide +kernel, rfl, by decide +kernel⟩

theorem wit_HostCommands_4 : ∃ (h : Desc) (buf : BitVec 64) (m : Word) (per : BitVec 16) (l : List Word) (s : State), (s.takes h 0x0C = true) ∧ (0 < h.sub.toNat) ∧ (h.sub.toNat ≤ 8) ∧ (l.length = h.sub.toNat) ∧ ((l.all fun a => isRegisterAddr a.toNat) = true) :=
  ⟨W.desc 0 1, 0, 4, 1, [0x40000000], W.ready, by decide +kernel, by decide +kernel, by decide +kernel, by decide +kernel, by decide +kernel⟩

theorem wit_HostCommands_5 : ∃ (h : Desc) (buf : BitVec 64) (m : Word) (per : BitVec 16) (l : List Word) (s : State), (s.takes h 0x0C = true) ∧ (¬ (0 < h.sub.toNat ∧ h.sub.toNat ≤ 8 ∧ l.length = h.sub.toNat ∧ (l.all fun a => isRegisterAddr a.toNat) = true)) :=
  ⟨W.desc 0 0, 0, 4, 1, [], W.ready, by decide +kernel, by decide +kernel⟩

theorem wit_HostCommands_6 : ∃ (c : Scope) (s : State) (u : State), (s.awake = true) ∧ (s.hif.scopes.find? Scope.whole = some c) ∧ (({ s with hif := { s.hif with scopes := s.hif.scopes.erase c } } : State) = u) :=
  ⟨W.wholeScope, W.captured, _, by decide +kernel, by decide +kernel, rfl⟩

theorem wit_HostCommands_7 : ∃ (h : Desc) (buf : BitVec 64) (a k : BitVec 16) (s : State) (r : State), (s.takes h 0x0D = true) ∧ (s.taken h 0x0D = r) ∧ (r.flag Fld.SVC_JSTAT_DISABLED = false) ∧ (a.toNat < journalSize) ∧ (0 < k.toNat) ∧ (k.toNat ≤ journalSize) :=
  ⟨W.desc 0 0, 0, 0, 1, W.ready, (W.ready).taken (W.desc 0 0) 0x0D, by decide +kernel, rfl, by decide +kernel, by decide +kernel, by decide +kernel, by decide +kernel⟩

theorem wit_HostCommands_8 : ∃ (h : Desc) (buf : BitVec 64) (a k : BitVec 16) (s : State) (r : State), (s.takes h 0x0D = true) ∧ (s.taken h 0x0D = r) ∧ (r.flag Fld.SVC_JSTAT_DISABLED = false) ∧ (a.toNat < journalSize) ∧ (0 < k.toNat) ∧ (k.toNat ≤ journalSize) :=
  ⟨W.desc 0 0, 0, 0, 1, W.ready, (W.ready).taken (W.desc 0 0) 0x0D, by decide +kernel, rfl, by decide +kernel, by decide +kernel, by decide +kernel, by decide +kernel⟩

theorem wit_HostCommands_9 : ∃ (h : Desc) (buf : BitVec 64) (a k : BitVec 16) (ok : Bool) (s : State) (r : State), (s.takes h 0x0D = true) ∧ (s.taken h 0x0D = r) ∧ (r.flag Fld.SVC_JSTAT_DISABLED = false) ∧ (journalSize ≤ a.toNat ∨ k.toNat = 0 ∨ journalSize < k.toNat) :=
  ⟨W.desc 0 0, 0, 0, 0, true, W.ready, (W.ready).taken (W.desc 0 0) 0x0D, by decide +kernel, rfl, by decide +kernel, Or.inr (Or.inl rfl)⟩

theorem wit_HostCommands_10 : ∃ (h : Desc) (buf : BitVec 64) (a k : BitVec 16) (ok : Bool) (s : State) (r : State), (s.takes h 0x0D = true) ∧ (s.taken h 0x0D = r) ∧ (r.flag Fld.SVC_JSTAT_DISABLED = true) :=
  ⟨W.desc 0 0, 0, 0, 0, true, W.ready.setFlag Fld.SVC_JSTAT_DISABLED true, (W.ready.setFlag Fld.SVC_JSTAT_DISABLED true).taken (W.desc 0 0) 0x0D, by decide +kernel, rfl, by decide +kernel⟩

theorem wit_HostCommands_11 : ∃ (h : Desc) (g : Option (Fin 28)) (i : Option StoInput) (s : State), (s.takes h 0x1A = true) ∧ (s.stoTestStatus = none) :=
  ⟨W.desc 0 0, none, none, W.mayTest, by decide +kernel, by decide +kernel⟩

theorem wit_HostCommands_12 : ∃ (h : Desc) (g : Option (Fin 28)) (i : Option StoInput) (st : Nat) (s : State), (s.takes h 0x1A = true) ∧ (s.stoTestStatus = some st) :=
  ⟨W.desc 0 0, none, none, _, W.ready, by decide +kernel, rfl⟩

theorem wit_HostImagesAndWatchdog_0 : ∃ (h : Desc) (src : BitVec 64) (off len : Word) (ur b : Bool) (s : State) (r : State), (s.takes h 0x1B = true) ∧ (s.taken h 0x1B = r) ∧ (r.imageDenied = false) ∧ (len.toNat ≠ 0) ∧ (len.toNat ≤ 0x10000) ∧ (len.toNat % 4096 = 0) ∧ (off.toNat % 4096 = 0) ∧ ((ur && r.sys.flashBusy == some (.refresh (.image r.otherImage))) = false) :=
  ⟨W.desc 0 0, 0, 0, 0x1000, false, true, W.ready, (W.ready).taken (W.desc 0 0) 0x1B, by decide +kernel, rfl, by decide +kernel, by decide +kernel, by decide +kernel, by decide +kernel, by decide +kernel, by decide +kernel⟩

theorem wit_HostImagesAndWatchdog_1 : ∃ (h : Desc) (src : BitVec 64) (off len : Word) (ok b : Bool) (s : State) (r : State), (s.takes h 0x1B = true) ∧ (s.taken h 0x1B = r) ∧ (r.imageDenied = false) ∧ (len.toNat ≠ 0) ∧ (len.toNat ≤ 0x10000) ∧ (len.toNat % 4096 = 0) ∧ (off.toNat % 4096 = 0) ∧ (r.sys.flashBusy = some (.refresh (.image r.otherImage))) :=
  ⟨W.desc 0 0, 0, 0, 0x1000, true, true, { W.ready with sys := { W.ready.sys with flashBusy := some (.refresh (.image W.ready.otherImage)) } }, ({ W.ready with sys := { W.ready.sys with flashBusy := some (.refresh (.image W.ready.otherImage)) } }).taken (W.desc 0 0) 0x1B, by decide +kernel, rfl, by decide +kernel, by decide +kernel, by decide +kernel, by decide +kernel, by decide +kernel, by decide +kernel⟩

theorem wit_HostImagesAndWatchdog_2 : ∃ (h : Desc) (src : BitVec 64) (off len : Word) (ur ok b : Bool) (s : State) (r : State), (s.takes h 0x1B = true) ∧ (s.taken h 0x1B = r) ∧ (r.imageDenied = false) ∧ (len.toNat = 0 ∨ 0x10000 < len.toNat ∨ len.toNat % 4096 ≠ 0 ∨ off.toNat % 4096 ≠ 0) :=
  ⟨W.desc 0 0, 0, 0, 0, true, true, true, W.ready, (W.ready).taken (W.desc 0 0) 0x1B, by decide +kernel, rfl, by decide +kernel, Or.inl rfl⟩

theorem wit_HostImagesAndWatchdog_3 : ∃ (h : Desc) (src : BitVec 64) (off len : Word) (ur ok b : Bool) (s : State) (r : State), (s.takes h 0x1B = true) ∧ (s.taken h 0x1B = r) ∧ (r.imageDenied = true) :=
  ⟨W.desc 0 0, 0, 0, 0, true, true, true, W.inMode .service, (W.inMode .service).taken (W.desc 0 0) 0x1B, by decide +kernel, rfl, by decide +kernel⟩

theorem wit_HostImagesAndWatchdog_4 : ∃ (h : Desc) (sg hd fits : Bool) (v : BitVec 16) (s : State) (r : State), (s.takes h 0x1C = true) ∧ (s.taken h 0x1C = r) ∧ (r.imageDenied = true) :=
  ⟨W.desc 0 0, true, true, true, 1, W.inMode .service, (W.inMode .service).taken (W.desc 0 0) 0x1C, by decide +kernel, rfl, by decide +kernel⟩

theorem wit_HostImagesAndWatchdog_5 : ∃ (h : Desc) (sg hd fits : Bool) (v : BitVec 16) (s : State) (r : State), (s.takes h 0x1C = true) ∧ (s.taken h 0x1C = r) ∧ (r.imageDenied = false) ∧ (r.imageOk r.otherImage sg hd fits v = false) :=
  ⟨W.desc 0 0, false, true, true, 1, W.ready, (W.ready).taken (W.desc 0 0) 0x1C, by decide +kernel, rfl, by decide +kernel, by decide +kernel⟩

theorem wit_HostImagesAndWatchdog_6 : ∃ (h : Desc) (sg hd fits : Bool) (v : BitVec 16) (u : State) (s : State) (r : State), (s.takes h 0x1C = true) ∧ (s.taken h 0x1C = r) ∧ (r.imageDenied = false) ∧ (r.imageOk r.otherImage sg hd fits v = true) ∧ (({ r.setFlag (imageFail r.otherImage) false with images := r.images.set (imageIx r.otherImage) { r.images[imageIx r.otherImage] with svn := v } } : State) = u) :=
  ⟨W.desc 0 1, true, true, true, 0xFFFF, _, W.ready, (W.ready).taken (W.desc 0 1) 0x1C, by decide +kernel, rfl, by decide +kernel, W.imageOk, rfl⟩

theorem wit_HostImagesAndWatchdog_7 : ∃ (op : FlashOp) (ok : Bool) (s : State), (s.awake = true) ∧ (s.flashRuns op = true) :=
  ⟨.deviceRecord, true, W.recordWrite, by decide +kernel, by decide +kernel⟩

theorem wit_HostImagesAndWatchdog_8 : ∃ (s : State), (s.awake = true) ∧ (s.parNat 10 30 0 ≠ 0) ∧ (s.overdue .hostLost ((s.parNat 10 30 0 * 1_000_000 : Nat) : Rat) = true) :=
  ⟨W.timed .hostLost W.hostAged, by decide +kernel, by decide +kernel, by decide +kernel⟩

theorem wit_HostImagesAndWatchdog_9 : ∃ (s : State), (s.parNat 10 30 0 = 0 ∨ s.overdue .hostLost ((s.parNat 10 30 0 * 1_000_000 : Nat) : Rat) = false) :=
  ⟨W.hostWatch, Or.inr (by decide +kernel)⟩

theorem wit_HostImagesAndWatchdog_10 : ∃ (off : BitVec 12) (s : State), (s.endpointUp = true) ∧ (s.mode ≠ .dawn ∨ s.dawnFailed = true) :=
  ⟨0, W.ready, by decide +kernel, Or.inl (by decide +kernel)⟩

theorem wit_HostImagesAndWatchdog_11 : ∃ (off : BitVec 12) (s : State), (s.endpointUp = true) ∧ (s.mode = .dawn) ∧ (s.dawnFailed = false) :=
  ⟨0, W.dawn 3, by decide +kernel, by decide +kernel, by decide +kernel⟩

theorem wit_HostImagesAndWatchdog_12 : ∃ (off : BitVec 12) (s : State), (s.endpointUp = false) :=
  ⟨0, W.held, by decide +kernel⟩

theorem wit_HostImagesAndWatchdog_13 : ∃ (w : Writer) (sec : Word) (s : State), (s.writable w Reg.PMU_RTC = true) :=
  ⟨.host, 7, W.ready, by decide +kernel⟩

theorem wit_HostImagesAndWatchdog_14 : ∃ (sec : Word) (s : State), (s.awake = true) ∧ (s.sys.refreshDue = false) :=
  ⟨7, W.ready, by decide +kernel, by decide +kernel⟩

theorem wit_HostImagesAndWatchdog_15 : ∃ (sec : Word) (s : State), (s.awake = true) ∧ (s.sys.refreshDue = true) :=
  ⟨7, W.refreshDue, by decide +kernel, by decide +kernel⟩

theorem wit_ParametersAndProfiles_0 : ∃ (h : Desc) (es : List ParamId) (s : State), (s.takes h 0x02 = true) ∧ (h.sub.toNat = es.length) ∧ (1 ≤ es.length) ∧ (es.length ≤ 4) ∧ ((es.findIdx? fun p => (s.paramValue p).isNone) = none) :=
  ⟨W.desc 0 1, [W.p10], W.ready, by decide +kernel, by decide +kernel, by decide +kernel, by decide +kernel, by decide +kernel⟩

theorem wit_ParametersAndProfiles_1 : ∃ (h : Desc) (es : List ParamId) (k : Nat) (s : State), (s.takes h 0x02 = true) ∧ (h.sub.toNat = es.length) ∧ (1 ≤ es.length) ∧ (es.length ≤ 4) ∧ ((es.findIdx? fun p => (s.paramValue p).isNone) = some k) :=
  ⟨W.desc 0 1, [{ group := 200, item := 1, inst := 0 }], 0, W.ready, by decide +kernel, by decide +kernel, by decide +kernel, by decide +kernel, by decide +kernel⟩

theorem wit_ParametersAndProfiles_2 : ∃ (h : Desc) (es : List (ParamId × Word)) (s : State), (s.takes h 0x03 = true) ∧ (h.sub.toNat = es.length) ∧ (1 ≤ es.length) ∧ (es.length ≤ 7) ∧ (s.firstRefused s 0 es = none) ∧ (sealCrcOf es = none) :=
  ⟨W.desc 0 1, [(W.p10, 0x42C80000)], W.ready, by decide +kernel, by decide +kernel, by decide +kernel, by decide +kernel, by decide +kernel, by decide +kernel⟩

theorem wit_ParametersAndProfiles_3 : ∃ (h : Desc) (es : List (ParamId × Word)) (crc : Word) (s : State), (s.takes h 0x03 = true) ∧ (h.sub.toNat = es.length) ∧ (1 ≤ es.length) ∧ (es.length ≤ 7) ∧ (s.firstRefused s 0 es = none) ∧ (sealCrcOf es = some crc) :=
  ⟨W.desc 0 1, [({ group := 40, item := 901, inst := 0 }, 5)], 5, W.ready, by decide +kernel, by decide +kernel, by decide +kernel, by decide +kernel, by decide +kernel, by decide +kernel⟩

theorem wit_ParametersAndProfiles_4 : ∃ (h : Desc) (es : List (ParamId × Word)) (k st : Nat) (s : State), (s.takes h 0x03 = true) ∧ (h.sub.toNat = es.length) ∧ (1 ≤ es.length) ∧ (es.length ≤ 7) ∧ (s.firstRefused s 0 es = some (k, st)) :=
  ⟨W.desc 0 2, [(W.p10,0x42C80000),({group:=200,item:=1,inst:=0},0)], 1, St.PARAM_UNKNOWN, W.ready, by decide +kernel, by decide +kernel, by decide +kernel, by decide +kernel, by decide +kernel⟩

theorem wit_ParametersAndProfiles_5 : ∃ (h : Desc) (n : Fin 4) (u : State) (s : State) (r : State), (s.takes h 0x07 = true) ∧ (s.taken h 0x07 = r) ∧ (r.selectRefusal h = none) ∧ (profileIx h = some n) ∧ ((r.profileActive && !r.allStopped) = false) ∧ (r.discardStaging St.SEAL_FAIL = u) ∧ (u.slots[n].valid = true) ∧ (u.setsFree u.slots[n] = true) :=
  ⟨W.desc 1 0, 1, _, W.slotted, (W.slotted).taken (W.desc 1 0) 0x07, by decide +kernel, rfl, by decide +kernel, by decide +kernel, by decide +kernel, rfl, W.profile_valid, by decide +kernel⟩

theorem wit_ParametersAndProfiles_6 : ∃ (h : Desc) (n : Fin 4) (u : State) (s : State) (r : State), (s.takes h 0x07 = true) ∧ (s.taken h 0x07 = r) ∧ (r.selectRefusal h = none) ∧ (profileIx h = some n) ∧ ((r.profileActive && !r.allStopped) = false) ∧ (r.discardStaging St.SEAL_FAIL = u) ∧ ((u.slots[n].valid && u.setsFree u.slots[n]) = false) ∧ (u.profileActive = true) :=
  ⟨W.desc 1 0, 1, _, W.loaded, (W.loaded).taken (W.desc 1 0) 0x07, by decide +kernel, rfl, by decide +kernel, by decide +kernel, by decide +kernel, rfl, by decide +kernel, by decide +kernel⟩

theorem wit_ParametersAndProfiles_7 : ∃ (h : Desc) (n : Fin 4) (u : State) (s : State) (r : State), (s.takes h 0x07 = true) ∧ (s.taken h 0x07 = r) ∧ (r.selectRefusal h = none) ∧ (profileIx h = some n) ∧ ((r.profileActive && !r.allStopped) = false) ∧ (r.discardStaging St.SEAL_FAIL = u) ∧ ((u.slots[n].valid && u.setsFree u.slots[n]) = false) ∧ (u.profileActive = false) :=
  ⟨W.desc 1 0, 1, _, W.ready, (W.ready).taken (W.desc 1 0) 0x07, by decide +kernel, rfl, by decide +kernel, by decide +kernel, by decide +kernel, rfl, by decide +kernel, by decide +kernel⟩

theorem wit_ParametersAndProfiles_8 : ∃ (h : Desc) (n : Fin 4) (s : State) (r : State), (s.takes h 0x07 = true) ∧ (s.taken h 0x07 = r) ∧ (r.selectRefusal h = none) ∧ (profileIx h = some n) ∧ ((r.profileActive && !r.allStopped) = true) :=
  ⟨W.desc 1 0, 1, W.axis 2, (W.axis 2).taken (W.desc 1 0) 0x07, by decide +kernel, rfl, by decide +kernel, by decide +kernel, by decide +kernel⟩

theorem wit_ParametersAndProfiles_9 : ∃ (h : Desc) (n : Fin 4) (s : State) (r : State), (s.takes h 0x07 = true) ∧ (s.taken h 0x07 = r) ∧ (r.selectRefusal h = none) ∧ (profileIx h = some n) ∧ ((r.profileActive && !r.allStopped) = false) ∧ (r.sys.flashBusy ≠ some (.refresh (.profile n))) :=
  ⟨W.desc 1 1, 1, W.ready, (W.ready).taken (W.desc 1 1) 0x07, by decide +kernel, rfl, by decide +kernel, by decide +kernel, by decide +kernel, by decide +kernel⟩

theorem wit_ParametersAndProfiles_10 : ∃ (h : Desc) (n : Fin 4) (s : State) (r : State), (s.takes h 0x07 = true) ∧ (s.taken h 0x07 = r) ∧ (r.selectRefusal h = none) ∧ (profileIx h = some n) ∧ ((r.profileActive && !r.allStopped) = false) ∧ (r.sys.flashBusy = some (.refresh (.profile n))) :=
  ⟨W.desc 1 1, 1, { W.ready with sys := { W.ready.sys with flashBusy := some (.refresh (.profile 1)) } }, ({ W.ready with sys := { W.ready.sys with flashBusy := some (.refresh (.profile 1)) } }).taken (W.desc 1 1) 0x07, by decide +kernel, rfl, by decide +kernel, by decide +kernel, by decide +kernel, by decide +kernel⟩

theorem wit_ParametersAndProfiles_11 : ∃ (h : Desc) (st : Nat) (s : State) (r : State), (s.takes h 0x07 = true) ∧ (s.taken h 0x07 = r) ∧ (r.selectRefusal h = some st) ∧ (st ≠ St.MODE_DENIED) :=
  ⟨W.desc 9 0, _, W.ready, (W.ready).taken (W.desc 9 0) 0x07, by decide +kernel, rfl, rfl, by decide +kernel⟩

theorem wit_ParametersAndProfiles_12 : ∃ (h : Desc) (s : State) (r : State), (s.takes h 0x07 = true) ∧ (s.taken h 0x07 = r) ∧ (r.selectRefusal h = some St.MODE_DENIED) :=
  ⟨W.desc 1 0, W.inMode .dusk, (W.inMode .dusk).taken (W.desc 1 0) 0x07, by decide +kernel, rfl, by decide +kernel⟩

theorem wit_FunctionReinit_0 : ∃ (h : Desc) (s : State) (r : State), (s.takes h 0x18 = true) ∧ (s.taken h 0x18 = r) ∧ (h.index.toNat < 16) ∧ (h.sq.val ≠ h.index.toNat) :=
  ⟨W.desc 1 0, W.ready, (W.ready).taken (W.desc 1 0) 0x18, by decide +kernel, rfl, by decide +kernel, by decide +kernel⟩

theorem wit_FunctionReinit_1 : ∃ (h : Desc) (s : State) (r : State), (s.takes h 0x18 = true) ∧ (s.taken h 0x18 = r) ∧ (h.index.toNat < 16) :=
  ⟨W.desc 1 0, W.ready, (W.ready).taken (W.desc 1 0) 0x18, by decide +kernel, rfl, by decide +kernel⟩

theorem wit_FunctionReinit_2 : ∃ (h : Desc) (s : State) (r : State), (s.takes h 0x18 = true) ∧ (s.taken h 0x18 = r) ∧ (h.index.toNat < 4) ∧ (r.bstFailed Fld.BST_FAIL_CAN h.index.toNat = false) :=
  ⟨W.desc 1 0, W.ready, (W.ready).taken (W.desc 1 0) 0x18, by decide +kernel, rfl, by decide +kernel, by decide +kernel⟩

theorem wit_FunctionReinit_3 : ∃ (h : Desc) (s : State) (r : State), (s.takes h 0x18 = true) ∧ (s.taken h 0x18 = r) ∧ (h.index.toNat < 4) ∧ (r.bstFailed Fld.BST_FAIL_CAN h.index.toNat = true) :=
  ⟨W.desc 1 0, W.ready.setFld Fld.BST_FAIL_CAN 0xF, (W.ready.setFld Fld.BST_FAIL_CAN 0xF).taken (W.desc 1 0) 0x18, by decide +kernel, rfl, by decide +kernel, by decide +kernel⟩

theorem wit_FunctionReinit_4 : ∃ (h : Desc) (s : State) (r : State), (s.takes h 0x18 = true) ∧ (s.taken h 0x18 = r) ∧ (h.index.toNat < 4) ∧ (r.lstate (Fin.ofNat 4 h.index.toNat) ≠ 4) ∧ (((r.journalFw 0x010A 2 (BitVec.ofNat 32 4) (BitVec.ofNat 32 h.index.toNat))).lstate (Fin.ofNat 4 h.index.toNat) ≠ 0) :=
  ⟨W.desc 1 0, W.ready.setFld (Fld.WFT_P_STATE_LSTATE 1) 3, (W.ready.setFld (Fld.WFT_P_STATE_LSTATE 1) 3).taken (W.desc 1 0) 0x18, by decide +kernel, rfl, by decide +kernel, by decide +kernel, by decide +kernel⟩

theorem wit_FunctionReinit_5 : ∃ (h : Desc) (s : State) (r : State), (s.takes h 0x18 = true) ∧ (s.taken h 0x18 = r) ∧ (h.index.toNat < 4) ∧ (r.lstate (Fin.ofNat 4 h.index.toNat) ≠ 4) ∧ (((r.journalFw 0x010A 2 (BitVec.ofNat 32 4) (BitVec.ofNat 32 h.index.toNat))).lstate (Fin.ofNat 4 h.index.toNat) = 0) :=
  ⟨W.desc 1 0, W.ready, (W.ready).taken (W.desc 1 0) 0x18, by decide +kernel, rfl, by decide +kernel, by decide +kernel, by decide +kernel⟩

theorem wit_FunctionReinit_6 : ∃ (h : Desc) (s : State) (r : State), (s.takes h 0x18 = true) ∧ (s.taken h 0x18 = r) ∧ (h.index.toNat < 4) ∧ (r.lstate (Fin.ofNat 4 h.index.toNat) = 4) :=
  ⟨W.desc 1 0, W.ready.setFld (Fld.WFT_P_STATE_LSTATE 1) 4, (W.ready.setFld (Fld.WFT_P_STATE_LSTATE 1) 4).taken (W.desc 1 0) 0x18, by decide +kernel, rfl, by decide +kernel, by decide +kernel⟩

theorem wit_FunctionReinit_7 : ∃ (h : Desc) (ok : Bool) (s : State) (r : State), (s.takes h 0x18 = true) ∧ (s.taken h 0x18 = r) ∧ (h.index.toNat < 4) ∧ (r.portRefusal (Fin.ofNat 4 h.index.toNat) = none) :=
  ⟨W.desc 1 0, true, W.ready, (W.ready).taken (W.desc 1 0) 0x18, by decide +kernel, rfl, by decide +kernel, by decide +kernel⟩

theorem wit_FunctionReinit_8 : ∃ (h : Desc) (ok : Bool) (st : Nat) (s : State) (r : State), (s.takes h 0x18 = true) ∧ (s.taken h 0x18 = r) ∧ (h.index.toNat < 4) ∧ (r.portRefusal (Fin.ofNat 4 h.index.toNat) = some st) :=
  ⟨W.desc 0 0, true, St.IN_USE, W.posLoop, (W.posLoop).taken (W.desc 0 0) 0x18, by decide +kernel, rfl, by decide +kernel, by decide +kernel⟩

theorem wit_FunctionReinit_9 : ∃ (h : Desc) (s : State) (r : State), (s.takes h 0x18 = true) ∧ (s.taken h 0x18 = r) ∧ (h.index.toNat < 4) ∧ (r.flag (Fld.LOOM_FAULT_UNAVAIL (Fin.ofNat 4 h.index.toNat)) = false) ∧ (r.bstFailed Fld.BST_FAIL_LANE h.index.toNat = false) ∧ (r.setFree (Fin.ofNat 4 h.index.toNat) = true) :=
  ⟨W.desc 1 0, W.ready, (W.ready).taken (W.desc 1 0) 0x18, by decide +kernel, rfl, by decide +kernel, by decide +kernel, by decide +kernel, by decide +kernel⟩

theorem wit_FunctionReinit_10 : ∃ (h : Desc) (s : State) (r : State), (s.takes h 0x18 = true) ∧ (s.taken h 0x18 = r) ∧ (h.index.toNat < 4) ∧ (r.flag (Fld.LOOM_FAULT_UNAVAIL (Fin.ofNat 4 h.index.toNat)) = false) ∧ (r.bstFailed Fld.BST_FAIL_LANE h.index.toNat = false) ∧ (r.setFree (Fin.ofNat 4 h.index.toNat) = false) :=
  ⟨W.desc 0 0, W.axis 2, (W.axis 2).taken (W.desc 0 0) 0x18, by decide +kernel, rfl, by decide +kernel, by decide +kernel, by decide +kernel, by decide +kernel⟩

theorem wit_FunctionReinit_11 : ∃ (h : Desc) (s : State) (r : State), (s.takes h 0x18 = true) ∧ (s.taken h 0x18 = r) ∧ (h.index.toNat < 4) ∧ (r.flag (Fld.LOOM_FAULT_UNAVAIL (Fin.ofNat 4 h.index.toNat)) = true ∨ r.bstFailed Fld.BST_FAIL_LANE h.index.toNat = true) :=
  ⟨W.desc 0 0, W.ready.setFlag (Fld.LOOM_FAULT_UNAVAIL 0) true, (W.ready.setFlag (Fld.LOOM_FAULT_UNAVAIL 0) true).taken (W.desc 0 0) 0x18, by decide +kernel, rfl, by decide +kernel, Or.inl rfl⟩

theorem wit_FunctionReinit_12 : ∃ (h : Desc) (ok : Bool) (s : State) (r : State), (s.takes h 0x18 = true) ∧ (s.taken h 0x18 = r) ∧ (4 ≤ h.index.toNat) :=
  ⟨W.desc 4 0, true, W.ready, (W.ready).taken (W.desc 4 0) 0x18, by decide +kernel, rfl, by decide +kernel⟩

theorem wit_FunctionReinit_13 : ∃ (h : Desc) (s : State) (r : State), (s.takes h 0x18 = true) ∧ (s.taken h 0x18 = r) ∧ (16 ≤ h.index.toNat) :=
  ⟨W.desc 16 0, W.ready, (W.ready).taken (W.desc 16 0) 0x18, by decide +kernel, rfl, by decide +kernel⟩

theorem wit_FunctionReinit_14 : ∃ (h : Desc) (s : State) (r : State), (s.takes h 0x18 = true) ∧ (s.taken h 0x18 = r) ∧ (h.sq.val = h.index.toNat) :=
  ⟨{ W.desc 0 0 with sq := 0 }, W.ring, (W.ring).taken ({ W.desc 0 0 with sq := 0 }) 0x18, by decide +kernel, rfl, by decide +kernel⟩

theorem wit_RegisterAccess_0 : ∃ (w : Writer) (a v hw : Word) (row : RegRow) (s : State), (s.awake = true) ∧ (0x4000_0000 ≤ a.toNat) ∧ (a.toNat < 0x4100_0000) ∧ (a.toNat % 4 = 0) ∧ (regRow a.toNat = some row) ∧ (s.deaf a.toNat = false) ∧ (actOn w row a.toNat v s = none) ∧ (s.writeRefused w a.toNat = false) ∧ (row.rwl = 0) ∧ (s.closed row a.toNat = false) :=
  ⟨.host, 0x40600000, 5, 0, _, W.ready, by decide +kernel, by decide +kernel, by decide +kernel, by decide +kernel, rfl, by decide +kernel, by decide +kernel, by decide +kernel, by decide +kernel, by decide +kernel⟩

theorem wit_RegisterAccess_1 : ∃ (w : Writer) (a v hw : Word) (s : State), (s.awake = true) ∧ (0x4000_0000 ≤ a.toNat) ∧ (a.toNat < 0x4100_0000) ∧ (a.toNat % 4 = 0) ∧ (regRow a.toNat = none) :=
  ⟨.host, 0x40FF0000, 1, 0, W.ready, by decide +kernel, by decide +kernel, by decide +kernel, by decide +kernel, by decide +kernel⟩

theorem wit_RegisterAccess_2 : ∃ (a v hw : Word) (k : Nat) (s : State), (s.awake = true) ∧ (0x4000_0000 ≤ a.toNat) ∧ (a.toNat < 0x4100_0000) ∧ (k ≠ 4 ∨ a.toNat % 4 ≠ 0) :=
  ⟨0x40600001, 1, 0, 4, W.ready, by decide +kernel, by decide +kernel, by decide +kernel, by decide +kernel⟩

theorem wit_RegisterAccess_3 : ∃ (w : Writer) (a v hw : Word) (k : Nat) (s : State), (s.awake = true) ∧ (0x1000_0000 ≤ a.toNat) ∧ (a.toNat < 0x1080_0000) ∧ (w ≠ .console) :=
  ⟨.host, 0x10000000, 5, 0, 1, W.ready, by decide +kernel, by decide +kernel, by decide +kernel, by decide +kernel⟩

theorem wit_RegisterAccess_4 : ∃ (s : State) (a : Nat) (r : RegRow), (regRow a = some r) ∧ (s.hidden a = false) ∧ ((r.base == Reg.FBI_CPT 0) = false) :=
  ⟨W.ready, 0x40600000, _, rfl, by decide +kernel, by decide +kernel⟩

theorem wit_WeftNode_1 : ∃ (p : Fin 4) (k : Nat) (m : ClaimMsg) (s : State), (m.uid = Config.uid ∨ s.linkUp p = false) :=
  ⟨0, 3, { src := 5, hops := 0, pkt := 1, uid := Config.uid, addr := 9, lock := false, astate := 1 }, W.up, Or.inl rfl⟩

theorem wit_WeftNode_2 : ∃ (p : Fin 4) (k : Nat) (m : ClaimMsg) (s : State) (c : Bool × State), (s.linkUp p = true) ∧ (m.uid ≠ Config.uid) ∧ ((s.modPort p fun q => { q with heardAt := s.sys.poweredNs }).seenCast m.uid 0 m.pkt = c) ∧ (c.1 = true) :=
  ⟨0, 3, { src := 5, hops := 0, pkt := 1, uid := Config.uid + 1, addr := 9, lock := false, astate := 1 }, W.seen, _, by decide +kernel, by simp, rfl, W.seen_hit⟩

theorem wit_WeftNode_3 : ∃ (s : State), (s.awake = true) ∧ (s.fld Fld.WFT_NODE_ASTATE = 1) ∧ (s.wft.claims < 3) :=
  ⟨W.claiming, by decide +kernel, by decide +kernel, by decide +kernel⟩

theorem wit_WeftNode_4 : ∃ (s : State), (s.awake = true) ∧ (s.fld Fld.WFT_NODE_ASTATE = 1) ∧ (¬s.wft.claims < 3) :=
  ⟨W.claiming.modWft fun w => { w with claims := 3 }, by decide +kernel, by decide +kernel, by decide +kernel⟩

theorem wit_WeftNode_5 : ∃ (s : State), (s.awake = true) ∧ (s.fld Fld.WFT_NODE_ASTATE = 2) :=
  ⟨W.up, by decide +kernel, by decide +kernel⟩

theorem wit_WeftNode_6 : ∃ (s : State), (s.awake = true) ∧ (s.fld Fld.WFT_NODE_ASTATE = 3) :=
  ⟨W.up.setFld Fld.WFT_NODE_ASTATE 3, by decide +kernel, by decide +kernel⟩

theorem wit_WeftNode_7 : ∃ (p : Fin 4) (uid : Time) (a : Byte) (lock clean : Bool) (s : State), (s.awake = true) ∧ (s.lstate p = 1) ∧ ((if clean then s.wft.port[p].trainN + 1 else 0) < 64 ∨ lock = false) :=
  ⟨0, 7, 5, true, true, W.training, by decide +kernel, by decide +kernel, Or.inl (by decide +kernel)⟩

theorem wit_WeftNode_8 : ∃ (p : Fin 4) (a : Byte) (s : State), (s.awake = true) ∧ (s.lstate p = 1) ∧ (63 ≤ s.wft.port[p].trainN) :=
  ⟨0, 5, W.training.modPort 0 fun q => { q with trainN := 63 }, by decide +kernel, by decide +kernel, by decide +kernel⟩

theorem wit_WeftNode_9 : ∃ (p : Fin 4) (uid : Time) (a : Byte) (s : State), (s.awake = true) ∧ (s.lstate p = 1) ∧ (63 ≤ s.wft.port[p].trainN) ∧ (uid ≠ Config.uid) ∧ (s.fld Fld.WFT_NODE_ASTATE ≠ 0) :=
  ⟨0, Config.uid + 1, 5, W.training.modPort 0 fun q => { q with trainN := 63 }, by decide +kernel, by decide +kernel, by decide +kernel, by simp, by decide +kernel⟩

theorem wit_WeftNode_10 : ∃ (p : Fin 4) (uid : Time) (a : Byte) (lock clean : Bool) (s : State), (s.awake = true) ∧ (s.lstate p = 2 ∨ s.lstate p = 3) :=
  ⟨0, 7, 5, true, true, W.up, by decide +kernel, Or.inl (by decide +kernel)⟩

theorem wit_WeftNode_11 : ∃ (p : Fin 4) (s : State), (s.awake = true) ∧ (s.lstate p = 1) :=
  ⟨0, W.training, by decide +kernel, by decide +kernel⟩

theorem wit_WeftNode_12 : ∃ (p : Fin 4) (k : Nat) (s : State), (s.awake = true) ∧ (s.lstate p = 2 ∨ s.lstate p = 3) :=
  ⟨0, 1, W.up, by decide +kernel, Or.inl (by decide +kernel)⟩

theorem wit_WeftNode_13 : ∃ (p : Fin 4) (s : State), (s.awake = true) ∧ (s.lstate p = 2 ∨ s.lstate p = 3) ∧ ((s.wft.port[p].heardAt : Rat) + 3000 * s.p36 20 < (s.sys.poweredNs : Rat)) :=
  ⟨0, W.agedUp, by decide +kernel, Or.inl (by decide +kernel), by decide +kernel⟩

theorem wit_WeftNode_14 : ∃ (p : Fin 4) (s : State), (¬ ((s.wft.port[p].heardAt : Rat) + 3000 * s.p36 20 < (s.sys.poweredNs : Rat))) :=
  ⟨0, W.ready, by decide +kernel⟩

theorem wit_HellosAndRoutes_0 : ∃ (p : Fin 4) (m : HelloMsg) (s : State), (s.awake = true) ∧ (s.linkUp p = true) :=
  ⟨0, { uid := 7, addr := 9, astate := 2, sstate := 0, steps := 0, gmPrio := 255, gmUid := 0, parentUid := 0, delayOk := false }, W.up, by decide +kernel, by decide +kernel⟩

theorem wit_HellosAndRoutes_1 : ∃ (p : Fin 4) (l : List (BitVec 5)) (s : State), (s.awake = true) ∧ (s.linkUp p = true) :=
  ⟨0, [], W.up, by decide +kernel, by decide +kernel⟩

theorem wit_HellosAndRoutes_2 : ∃ (s : State), (s.awake = true) :=
  ⟨W.up, by decide +kernel⟩

theorem wit_HellosAndRoutes_3 : ∃ (p : Fin 4) (s : State), (s.awake = true) ∧ ((s.wft.port[p].rtAt : Rat) + 4_000_000 * s.p36 21 < (s.sys.poweredNs : Rat)) :=
  ⟨0, W.agedUp, by decide +kernel, by decide +kernel⟩

theorem wit_HellosAndRoutes_4 : ∃ (p : Fin 4) (s : State), (¬ ((s.wft.port[p].rtAt : Rat) + 4_000_000 * s.p36 21 < (s.sys.poweredNs : Rat))) :=
  ⟨0, W.ready, by decide +kernel⟩

theorem wit_WeftTransport_0 : ∃ (p : Fin 4) (f : WFrame) (s : State), (s.awake = true) ∧ (s.linkUp p = true) :=
  ⟨0, { kind := 1, cls := 2, routeB := false, dst := 9, src := 5, hops := 0, frag := 0, last := true, pkt := 1, ts := 0, payload := [] }, W.up, by decide +kernel, by decide +kernel⟩

theorem wit_WeftTransport_1 : ∃ (p : Fin 4) (f : WFrame) (s : State), (f.kind = 1) ∧ (f.dst ≠ 255) :=
  ⟨0, { kind := 1, cls := 2, routeB := false, dst := 9, src := 5, hops := 0, frag := 0, last := true, pkt := 1, ts := 0, payload := [] }, W.up, by decide +kernel, by decide +kernel⟩

theorem wit_WeftTransport_2 : ∃ (p : Fin 4) (r : FrameRx) (s : State), (s.linkUp p = false) :=
  ⟨1, .badCrc, W.up, by decide +kernel⟩

theorem wit_WeftTransport_3 : ∃ (a : Byte) (k : BitVec 2) (s : State), (s.awake = true) ∧ ((s.wft.ctx.any fun c => c.addr == a && c.cls == k && s.fragLate c) = true) :=
  ⟨5, 2, W.partlyOld, by decide +kernel, by decide +kernel⟩

theorem wit_WeftTransport_4 : ∃ (a : Byte) (k : BitVec 2) (s : State), ((s.wft.ctx.any fun c => c.addr == a && c.cls == k && s.fragLate c) = false) :=
  ⟨5, 2, W.up, by decide +kernel⟩

theorem wit_WeftTransport_5 : ∃ (a : Byte) (k : BitVec 2) (s : State), (s.awake = true) :=
  ⟨5, 2, W.partly, by decide +kernel⟩

theorem wit_WeftTransport_6 : ∃ (p : Fin 4) (q : Packet) (s : State) (u : State), (s.awake = true) ∧ (s.linkUp p = true) ∧ ((s.modPort p fun q => { q with heardAt := s.sys.poweredNs }) = u) ∧ (q.dst = u.nodeAddr) ∧ (q.dst ≠ 0) :=
  ⟨0, { cls := 2, routeB := false, dst := 9, src := 5, hops := 0, pkt := 1, payload := [] }, W.up, _, by decide +kernel, by decide +kernel, rfl, by decide +kernel, by decide +kernel⟩

theorem wit_WeftTransport_7 : ∃ (p : Fin 4) (q : Packet) (s : State) (u : State), (s.awake = true) ∧ (s.linkUp p = true) ∧ ((s.modPort p fun q => { q with heardAt := s.sys.poweredNs }) = u) ∧ (q.dst ≠ u.nodeAddr ∨ q.dst = 0) :=
  ⟨0, { cls := 2, routeB := false, dst := 8, src := 5, hops := 0, pkt := 1, payload := [] }, W.up, _, by decide +kernel, by decide +kernel, rfl, Or.inl (by decide +kernel)⟩

theorem wit_WeftTransport_8 : ∃ (p : Fin 4) (q : Packet) (s : State) (u : State), (s.awake = true) ∧ (s.linkUp p = true) ∧ ((s.modPort p fun q => { q with heardAt := s.sys.poweredNs }) = u) ∧ (q.dst = u.nodeAddr) ∧ (q.dst ≠ 0) ∧ ((u.wft.ping.any fun g => g.addr == q.src) = false) :=
  ⟨0, { cls := 2, routeB := false, dst := 9, src := 5, hops := 0, pkt := 1, payload := [] }, W.up, _, by decide +kernel, by decide +kernel, rfl, by decide +kernel, by decide +kernel, by decide +kernel⟩

theorem wit_WeftTransport_9 : ∃ (p : Fin 4) (q : Packet) (g : Ping) (s : State) (u : State), (s.awake = true) ∧ (s.linkUp p = true) ∧ ((s.modPort p fun q => { q with heardAt := s.sys.poweredNs }) = u) ∧ (q.dst = u.nodeAddr) ∧ (q.dst ≠ 0) ∧ (u.wft.ping = some g) ∧ (g.addr = q.src) ∧ (g.left ≤ 1) :=
  ⟨0, { cls := 2, routeB := false, dst := 9, src := 5, hops := 0, pkt := 1, payload := [] }, { W.ping with left := 1 }, { W.up with wft := { W.up.wft with ping := some { W.ping with left := 1 } } }, _, by decide +kernel, by decide +kernel, rfl, by decide +kernel, by decide +kernel, by decide +kernel, by decide +kernel, by decide +kernel⟩

theorem wit_WeftTransport_10 : ∃ (p : Fin 4) (q : Packet) (g : Ping) (s : State) (u : State), (s.awake = true) ∧ (s.linkUp p = true) ∧ ((s.modPort p fun q => { q with heardAt := s.sys.poweredNs }) = u) ∧ (q.dst = u.nodeAddr) ∧ (q.dst ≠ 0) ∧ (u.wft.ping = some g) ∧ (g.addr = q.src) ∧ (1 < g.left) :=
  ⟨0, { cls := 2, routeB := false, dst := 9, src := 5, hops := 0, pkt := 1, payload := [] }, W.ping, { W.up with wft := { W.up.wft with ping := some W.ping } }, _, by decide +kernel, by decide +kernel, rfl, by decide +kernel, by decide +kernel, by decide +kernel, by decide +kernel, by decide +kernel⟩

theorem wit_WeftTransport_12 : ∃ (h : Desc) (l : List Byte) (s : State), (s.takes h 0x11 = true) ∧ (¬ ((h.sub.toNat = 2 ∨ h.sub.toNat = 3) ∧ 0 < h.index.toNat ∧ h.index.toNat ≤ 254 ∧ 0 < l.length ∧ l.length ≤ 892)) :=
  ⟨W.desc 5 1, [1], W.ready, by decide +kernel, by decide +kernel⟩

theorem wit_WeftTransport_13 : ∃ (h : Desc) (l : List Byte) (s : State), (s.takes h 0x11 = true) ∧ ((h.sub.toNat = 2 ∨ h.sub.toNat = 3)) ∧ (0 < h.index.toNat) ∧ (h.index.toNat ≤ 254) ∧ (0 < l.length) ∧ (l.length ≤ 892) ∧ (s.nodeAddr = 0) :=
  ⟨W.desc 5 2, [1], W.ready, by decide +kernel, by decide +kernel, by decide +kernel, by decide +kernel, by decide +kernel, by decide +kernel, by decide +kernel⟩

theorem wit_WeftTransport_14 : ∃ (h : Desc) (l : List Byte) (s : State), (s.takes h 0x11 = true) ∧ ((h.sub.toNat = 2 ∨ h.sub.toNat = 3)) ∧ (0 < h.index.toNat) ∧ (h.index.toNat ≤ 254) ∧ (0 < l.length) ∧ (l.length ≤ 892) ∧ (s.nodeAddr ≠ 0) ∧ (16 ≤ s.metric h.index.toNat ∨ h.index.toNat = s.nodeAddr.toNat) :=
  ⟨W.desc 5 2, [1], W.up, by decide +kernel, by decide +kernel, by decide +kernel, by decide +kernel, by decide +kernel, by decide +kernel, by decide +kernel, Or.inl (by decide +kernel)⟩

theorem wit_WeftTransport_15 : ∃ (h : Desc) (l : List Byte) (s : State), (s.takes h 0x11 = true) ∧ ((h.sub.toNat = 2 ∨ h.sub.toNat = 3)) ∧ (0 < h.index.toNat) ∧ (h.index.toNat ≤ 254) ∧ (0 < l.length) ∧ (l.length ≤ 892) ∧ (s.nodeAddr ≠ 0) ∧ (s.metric h.index.toNat < 16) ∧ (h.index.toNat ≠ s.nodeAddr.toNat) ∧ (s.ctxFor (BitVec.ofNat 8 h.index.toNat) (BitVec.ofNat 2 h.sub.toNat) false = none) :=
  ⟨W.desc 5 2, [1], W.fullCtx, by decide +kernel, by decide +kernel, by decide +kernel, by decide +kernel, by decide +kernel, by decide +kernel, by decide +kernel, by decide +kernel, by decide +kernel, W.noCtx⟩

theorem wit_WeftTransport_16 : ∃ (h : Desc) (l : List Byte) (c : Ctx) (s : State) (u : State), (s.takes h 0x11 = true) ∧ ((h.sub.toNat = 2 ∨ h.sub.toNat = 3)) ∧ (0 < h.index.toNat) ∧ (h.index.toNat ≤ 254) ∧ (0 < l.length) ∧ (l.length ≤ 892) ∧ (s.nodeAddr ≠ 0) ∧ (s.metric h.index.toNat < 16) ∧ (h.index.toNat ≠ s.nodeAddr.toNat) ∧ (s.ctxFor (BitVec.ofNat 8 h.index.toNat) (BitVec.ofNat 2 h.sub.toNat) false = some (c, u)) ∧ (12 < ((if h.sub.toNat = 2 then s.wft.port[s.routeA h.index.toNat].q2 else s.wft.port[s.routeA h.index.toNat].q3).length + (fragments (s.ownFrame 1 h.sub.toNat (BitVec.ofNat 8 h.index.toNat) c.txPkt) l).length)) :=
  ⟨W.desc 5 2, [1], _, W.fullQ, _, by decide +kernel, by decide +kernel, by decide +kernel, by decide +kernel, by decide +kernel, by decide +kernel, by decide +kernel, by decide +kernel, by decide +kernel, rfl, by decide +kernel⟩

theorem wit_WeftTransport_17 : ∃ (h : Desc) (l : List Byte) (c : Ctx) (s : State) (u : State), (s.takes h 0x11 = true) ∧ ((h.sub.toNat = 2 ∨ h.sub.toNat = 3)) ∧ (0 < h.index.toNat) ∧ (h.index.toNat ≤ 254) ∧ (0 < l.length) ∧ (l.length ≤ 892) ∧ (s.nodeAddr ≠ 0) ∧ (s.metric h.index.toNat < 16) ∧ (h.index.toNat ≠ s.nodeAddr.toNat) ∧ (s.ctxFor (BitVec.ofNat 8 h.index.toNat) (BitVec.ofNat 2 h.sub.toNat) false = some (c, u)) ∧ (((if h.sub.toNat = 2 then s.wft.port[s.routeA h.index.toNat].q2 else s.wft.port[s.routeA h.index.toNat].q3).length + (fragments (s.ownFrame 1 h.sub.toNat (BitVec.ofNat 8 h.index.toNat) c.txPkt) l).length) ≤ 12) :=
  ⟨W.desc 5 2, [1], _, W.routed, _, by decide +kernel, by decide +kernel, by decide +kernel, by decide +kernel, by decide +kernel, by decide +kernel, by decide +kernel, by decide +kernel, by decide +kernel, rfl, by decide +kernel⟩

theorem wit_WeftTime_0 : ∃ (s : State), (s.awake = true) ∧ (s.synced = false) :=
  ⟨W.up, by decide +kernel, by decide +kernel⟩

theorem wit_WeftTime_1 : ∃ (s : State) (u : State), (s.awake = true) ∧ (s.synced = true) ∧ ((s.modWft fun w => { w with seq := match s.wft.parent with | none => w.seq + 1 | some p => s.wft.port[p].seq.getD w.seq }) = u) :=
  ⟨W.up.setFld Fld.WFT_SYNC_SSTATE 2, _, by decide +kernel, by decide +kernel, rfl⟩

theorem wit_WeftTime_2 : ∃ (s : State), (s.awake = true) :=
  ⟨W.up, by decide +kernel⟩

theorem wit_WeftTime_3 : ∃ (p : Fin 4) (s : State) (u : State), (s.awake = true) ∧ (s.linkUp p = true) ∧ ((s.modPort p fun q => { q with heardAt := s.sys.poweredNs }) = u) :=
  ⟨0, W.up, _, by decide +kernel, by decide +kernel, rfl⟩

theorem wit_WeftTime_4 : ∃ (p : Fin 4) (x y t1 : Time) (ds : List Rat) (s : State) (u : State), (s.awake = true) ∧ (s.linkUp p = true) ∧ ((s.modPort p fun q => { q with heardAt := s.sys.poweredNs }) = u) ∧ (u.wft.port[p].reqT = some t1) ∧ (((((u.weft.toNat : Rat) - t1.toNat) - ((y.toNat : Rat) - x.toNat)) / 2 :: u.wft.port[p].delays).take 8 = ds) :=
  ⟨0, 5, 5, 5, _, W.up.modPort 0 fun q => { q with reqT := some 5 }, _, by decide +kernel, by decide +kernel, rfl, by decide +kernel, rfl⟩

theorem wit_WeftTime_5 : ∃ (p : Fin 4) (x y : Time) (s : State) (u : State), (s.awake = true) ∧ (s.linkUp p = true) ∧ ((s.modPort p fun q => { q with heardAt := s.sys.poweredNs }) = u) ∧ (u.wft.port[p].reqT = none) :=
  ⟨0, 5, 5, W.up, _, by decide +kernel, by decide +kernel, rfl, by decide +kernel⟩

theorem wit_WeftTime_6 : ∃ (p : Fin 4) (m : SyncMsg) (s : State) (u : State), (s.awake = true) ∧ (s.linkUp p = true) ∧ (((s.modPort p fun q => { q with heardAt := s.sys.poweredNs }).modPort p fun q => { q with seq := (if (s.wft.port[p].seq.all fun q => decide (0 < (m.seq - q).toInt)) then some m.seq else q.seq), seqAt := (if (s.wft.port[p].seq.all fun q => decide (0 < (m.seq - q).toInt)) then s.sys.poweredNs else q.seqAt), syncAt := s.sys.poweredNs }).chooseParent = u) ∧ (u.wft.parent ≠ some p) :=
  ⟨0, { ts := 5, gmUid := 7, gmPrio := 1, steps := 0, seq := 1 }, W.up, _, by decide +kernel, by decide +kernel, rfl, by decide +kernel⟩

theorem wit_WeftTime_7 : ∃ (p : Fin 4) (m : SyncMsg) (d : Rat) (s : State) (u : State) (v : State), (s.awake = true) ∧ (s.linkUp p = true) ∧ (((s.modPort p fun q => { q with heardAt := s.sys.poweredNs }).modPort p fun q => { q with seq := (if (s.wft.port[p].seq.all fun q => decide (0 < (m.seq - q).toInt)) then some m.seq else q.seq), seqAt := (if (s.wft.port[p].seq.all fun q => decide (0 < (m.seq - q).toInt)) then s.sys.poweredNs else q.seqAt), syncAt := s.sys.poweredNs }).chooseParent = u) ∧ (u.wft.parent = some p) ∧ ((s.weft.toNat : Rat) - ((m.ts.toNat : Rat) + (if u.wft.port[p].delays.length = 0 then 0 else u.wft.port[p].delays.foldl (· + ·) 0 / (u.wft.port[p].delays.length : Rat)) + u.par 36 3 p.val) = d) ∧ ((u.modWft fun w => { w with offset := d, wins := if absRat d ≤ u.p36 23 then w.wins + 1 else 0 }).setReg Reg.WFT_OFFSET
        (toS32 (clampInt (-(2 ^ 31)) (2 ^ 31 - 1) (quantise d))) = v) ∧ (v.wft.newN = 0) :=
  ⟨0, { ts := 5, gmUid := 7, gmPrio := 1, steps := 0, seq := 1 }, _, W.slave, W.heardSync.chooseParent, _, by decide +kernel, by decide +kernel, W.heardSync_eq, W.heardSync_parent, rfl, rfl, W.heardSync_newN⟩

theorem wit_WeftTime_8 : ∃ (p : Fin 4) (m : SyncMsg) (d : Rat) (s : State) (u : State) (v : State) (z : State), (s.awake = true) ∧ (s.linkUp p = true) ∧ (((s.modPort p fun q => { q with heardAt := s.sys.poweredNs }).modPort p fun q => { q with seq := (if (s.wft.port[p].seq.all fun q => decide (0 < (m.seq - q).toInt)) then some m.seq else q.seq), seqAt := (if (s.wft.port[p].seq.all fun q => decide (0 < (m.seq - q).toInt)) then s.sys.poweredNs else q.seqAt), syncAt := s.sys.poweredNs }).chooseParent = u) ∧ (u.wft.parent = some p) ∧ ((s.weft.toNat : Rat) - ((m.ts.toNat : Rat) + (if u.wft.port[p].delays.length = 0 then 0 else u.wft.port[p].delays.foldl (· + ·) 0 / (u.wft.port[p].delays.length : Rat)) + u.par 36 3 p.val) = d) ∧ ((u.modWft fun w => { w with offset := d, wins := if absRat d ≤ u.p36 23 then w.wins + 1 else 0 }).setReg Reg.WFT_OFFSET
        (toS32 (clampInt (-(2 ^ 31)) (2 ^ 31 - 1) (quantise d))) = v) ∧ (v.wft.newN ≠ 0) ∧ ((v.modWft fun w => { w with newN := w.newN - 1, newSum := w.newSum + d }) = z) :=
  ⟨0, { ts := 5, gmUid := 7, gmPrio := 1, steps := 0, seq := 1 }, _, W.newSlave, W.newHeard.chooseParent, _, _, by decide +kernel, by decide +kernel, W.newHeard_eq, W.newHeard_parent, rfl, rfl, fun h => absurd (W.newHeard_newN.symm.trans h) (by decide), rfl⟩

theorem wit_WeftTime_9 : ∃ (p : Fin 4) (s : State), (s.awake = true) ∧ (s.wft.parent = some p) ∧ (s.wft.port[p].syncAt + 4 * s.syncNs < s.sys.poweredNs) :=
  ⟨0, W.agedUp.modWft fun w => { w with parent := some 0 }, by decide +kernel, by decide +kernel, by decide +kernel⟩

theorem wit_WeftTime_10 : ∃ (p : Fin 4) (s : State), (s.wft.parent = some p) ∧ (¬ (s.wft.port[p].syncAt + 4 * s.syncNs < s.sys.poweredNs)) :=
  ⟨0, W.up.modWft fun w => { w with parent := some 0 }, by decide +kernel, by decide +kernel⟩

theorem wit_WeftTime_11 : ∃ (s : State), (s.wft.parent = none) :=
  ⟨W.up, by decide +kernel⟩

theorem wit_CanFd_0 : ∃ (c : Fin 4) (f : CanRx) (s : State), (s.awake = true) ∧ (s.canOn c = true) ∧ (s.canMode c ≠ 2) ∧ ((f.fdf && !s.flag (Fld.CAN_CFG_FD_EN c)) = false) ∧ (s.can[c].recN ≤ 127) :=
  ⟨0, { ide := false, rtr := false, id := 5, fdf := false, brs := false, esi := false, dlc := 0, data := [], sof := 0 }, W.bus, by decide +kernel, by decide +kernel, by decide +kernel, by decide +kernel, by decide +kernel⟩

theorem wit_CanFd_1 : ∃ (c : Fin 4) (f : CanRx) (s : State), (s.awake = true) ∧ (s.canOn c = true) ∧ (s.canMode c ≠ 2) ∧ ((f.fdf && !s.flag (Fld.CAN_CFG_FD_EN c)) = false) ∧ (127 < s.can[c].recN) :=
  ⟨0, { ide := false, rtr := false, id := 5, fdf := false, brs := false, esi := false, dlc := 0, data := [], sof := 0 }, W.bus.modCan 0 fun k => { k with recN := 130 }, by decide +kernel, by decide +kernel, by decide +kernel, by decide +kernel, by decide +kernel⟩

theorem wit_CanFd_2 : ∃ (c : Fin 4) (f : CanRx) (s : State), (s.canOn c = false ∨ s.canMode c = 2 ∨ (f.fdf && !s.flag (Fld.CAN_CFG_FD_EN c)) = true) :=
  ⟨1, { ide := false, rtr := false, id := 5, fdf := false, brs := false, esi := false, dlc := 0, data := [], sof := 0 }, W.bus, Or.inl (by decide +kernel)⟩

theorem wit_CanFd_3 : ∃ (c : Fin 4) (e : CanErr) (s : State), (s.canOn c = false) :=
  ⟨1, .passiveAck, W.bus, by decide +kernel⟩

theorem wit_CanFd_4 : ∃ (c : Fin 4) (b : Fin 3) (f : CanTx) (s : State), (s.canActive c = some b) ∧ (s.can[c].tb[b] = some f) ∧ (s.canMode c ≠ 2) :=
  ⟨0, 0, { ident := 5, dlc := 0, fdf := false, brs := false, data := [] }, W.sending, by decide +kernel, by decide +kernel, by decide +kernel⟩

theorem wit_CanFd_5 : ∃ (c : Fin 4) (s : State), (s.canActive c = none) :=
  ⟨0, W.bus, by decide +kernel⟩

theorem wit_CanFd_7 : ∃ (c : Fin 4) (s : State), (s.awake = true) ∧ (s.canOn c = true) :=
  ⟨0, W.bus, by decide +kernel, by decide +kernel⟩

theorem wit_CanFd_8 : ∃ (c : Fin 4) (bit : Bool) (s : State) (u : State) (v : State), (s.awake = true) ∧ (s.canOn c = true) ∧ ((match (if bit then s.idClash c else s).canActive c with | some b => (if bit then s.idClash c else s).canDelay c b | none => (if bit then s.idClash c else s)) = u) ∧ (((u.modCan c fun k => { k with tecN := k.tecN + 8 }).canAttemptFailed c).canErrState c = v) :=
  ⟨0, true, W.sending, _, _, by decide +kernel, by decide +kernel, rfl, rfl⟩

theorem wit_CanFd_9 : ∃ (c : Fin 4) (s : State), (s.fld (Fld.CAN_STATUS_STATE c) = 2) :=
  ⟨0, W.bus.setFld (Fld.CAN_STATUS_STATE 0) 2, by decide +kernel⟩

theorem wit_CanFd_10 : ∃ (c : Fin 4) (s : State), (s.fld (Fld.CAN_STATUS_STATE c) ≠ 2) :=
  ⟨0, W.bus, by decide +kernel⟩

theorem wit_CanFd_11 : ∃ (w : Writer) (c : Fin 4) (m : BitVec 3) (s : State), (s.writable w (Reg.CAN_TXCTRL c) = true) :=
  ⟨.host, 0, 2, W.bus.setFld (Fld.CAN_TXST_PEND 0) 2, by decide +kernel⟩

theorem wit_CanFd_12 : ∃ (w : Writer) (c : Fin 4) (s : State), (s.writable w (Reg.CAN_RXCTRL c) = true) :=
  ⟨.host, 0, W.bus, by decide +kernel⟩

theorem wit_CanFd_13 : ∃ (c : Fin 4) (s : State), (s.awake = true) ∧ (s.canOn c = true) :=
  ⟨0, W.bus, by decide +kernel, by decide +kernel⟩

theorem wit_CanFd_14 : ∃ (c : Fin 4) (s : State), (s.awake = true) ∧ (s.flag (Fld.CAN_CFG_ENABLE c) = true) ∧ (s.fld (Fld.CAN_STATUS_STATE c) = 3) :=
  ⟨0, W.bus.setFld (Fld.CAN_STATUS_STATE 0) 3, by decide +kernel, by decide +kernel, by decide +kernel⟩

theorem wit_CanFd_15 : ∃ (h : Desc) (f : CanTx) (s : State), (s.takes h 0x10 = true) ∧ (¬ (h.index.toNat < 4 ∧ h.sub.toNat < 3 ∧ f.dlc.toNat < 16)) :=
  ⟨W.desc 7 1, { ident := 5, dlc := 0, fdf := false, brs := false, data := [] }, W.bus, by decide +kernel, by decide +kernel⟩

theorem wit_CanFd_16 : ∃ (h : Desc) (f : CanTx) (s : State), (s.takes h 0x10 = true) ∧ (h.index.toNat < 4) ∧ (h.sub.toNat < 3) ∧ (f.dlc.toNat < 16) ∧ ((f.fdf && !s.flag (Fld.CAN_CFG_FD_EN (Fin.ofNat 4 h.index.toNat))) = true) :=
  ⟨W.desc 0 1, { ident := 5, dlc := 0, fdf := true, brs := false, data := [] }, W.bus, by decide +kernel, by decide +kernel, by decide +kernel, by decide +kernel, by decide +kernel⟩

theorem wit_CanFd_17 : ∃ (h : Desc) (f : CanTx) (s : State), (s.takes h 0x10 = true) ∧ (h.index.toNat < 4) ∧ (h.sub.toNat < 3) ∧ (f.dlc.toNat < 16) ∧ ((f.fdf && !s.flag (Fld.CAN_CFG_FD_EN (Fin.ofNat 4 h.index.toNat))) = false) ∧ (((h.sub.toNat == 0 && s.flag (Fld.CAN_CFG_SAFETY (Fin.ofNat 4 h.index.toNat))) || (s.fld (Fld.CAN_TXST_PEND (Fin.ofNat 4 h.index.toNat))).testBit h.sub.toNat) = true) :=
  ⟨W.desc 0 0, { ident := 5, dlc := 0, fdf := false, brs := false, data := [] }, W.sending, by decide +kernel, by decide +kernel, by decide +kernel, by decide +kernel, by decide +kernel, by decide +kernel⟩

theorem wit_CanFd_18 : ∃ (h : Desc) (f : CanTx) (s : State), (s.takes h 0x10 = true) ∧ (h.index.toNat < 4) ∧ (h.sub.toNat < 3) ∧ (f.dlc.toNat < 16) ∧ ((f.fdf && !s.flag (Fld.CAN_CFG_FD_EN (Fin.ofNat 4 h.index.toNat))) = false) ∧ (((h.sub.toNat == 0 && s.flag (Fld.CAN_CFG_SAFETY (Fin.ofNat 4 h.index.toNat))) || (s.fld (Fld.CAN_TXST_PEND (Fin.ofNat 4 h.index.toNat))).testBit h.sub.toNat) = false) :=
  ⟨W.desc 0 1, { ident := 5, dlc := 0, fdf := false, brs := false, data := [] }, W.bus, by decide +kernel, by decide +kernel, by decide +kernel, by decide +kernel, by decide +kernel, by decide +kernel⟩

theorem wit_Thermal_0 : ∃ (die : Vector Rat 4) (gate : Vector Rat 28) (board : Vector Rat 2) (s : State), (s.awake = true) ∧ (s.mode ≠ .dawn) ∧ (s.sys.readied = true) :=
  ⟨Vector.replicate 4 25, Vector.replicate 28 25, Vector.replicate 2 25, W.readied, by decide +kernel, by decide +kernel, by decide +kernel⟩

theorem wit_Thermal_1 : ∃ (die : Vector Rat 4) (gate : Vector Rat 28) (board : Vector Rat 2) (s : State), (s.awake = true) ∧ (s.mode ≠ .dawn) ∧ (s.sys.readied = true) :=
  ⟨Vector.replicate 4 25, Vector.replicate 28 25, Vector.replicate 2 25, W.readied, by decide +kernel, by decide +kernel, by decide +kernel⟩

theorem wit_Thermal_2 : ∃ (die : Vector Rat 4) (gate : Vector Rat 28) (board : Vector Rat 2) (s : State), (s.mode = .dawn ∨ s.sys.readied = false) :=
  ⟨Vector.replicate 4 25, Vector.replicate 28 25, Vector.replicate 2 25, W.dawn 3, Or.inl (by decide +kernel)⟩

theorem wit_Thermal_3 : ∃ (a : Fin 4) (s : State), (s.thm.kth[a] ≤ 1) :=
  ⟨0, W.ready, by decide +kernel⟩

theorem wit_Thermal_4 : ∃ (a : Fin 4) (k : Rat) (s : State), (((s.axisSensors a).map s.sensorK).foldl min 1 = k) ∧ (k ≤ s.thm.kth[a]) :=
  ⟨0, ((W.readied.axisSensors 0).map W.readied.sensorK).foldl min 1, W.readied, rfl, by decide +kernel⟩

theorem wit_Console_0 : ∃ (c : Byte) (s : State) (u : State), (s.awake = true) ∧ ((s.say (.echo c)).startTimer .idle = u) ∧ (c ≠ 0x03) ∧ (c ≠ 0x0A) ∧ (c ≠ 0x0D) :=
  ⟨0x41, W.ready, _, by decide +kernel, rfl, by decide +kernel, by decide +kernel, by decide +kernel⟩

theorem wit_Console_1 : ∃ (s : State) (u : State), (s.awake = true) ∧ ((s.say (.echo 0x0D)).startTimer .idle = u) :=
  ⟨W.ready, _, by decide +kernel, rfl⟩

theorem wit_Console_2 : ∃ (s : State) (u : State), (s.awake = true) ∧ ((s.say (.echo 0x0A)).startTimer .idle = u) :=
  ⟨W.ready, _, by decide +kernel, rfl⟩

theorem wit_Console_3 : ∃ (s : State) (u : State), (s.awake = true) ∧ ((s.say (.echo 0x03)).startTimer .idle = u) :=
  ⟨W.ready, _, by decide +kernel, rfl⟩

theorem wit_Console_4 : ∃ (s : State), (s.awake = true) :=
  ⟨W.ready, by decide +kernel⟩

theorem wit_Console_5 : ∃ (s : State), (s.conFree true = true) ∧ (s.takeLine.dawnFailed = true) :=
  ⟨W.failed, by decide +kernel, by decide +kernel⟩

theorem wit_Console_6 : ∃ (s : State), (s.conFree true = true) ∧ (s.takeLine.dawnFailed = false) :=
  ⟨W.ready, by decide +kernel, by decide +kernel⟩

theorem wit_Console_7 : ∃ (a : Word) (n : Nat) (pins : BitVec 5) (s : State) (r : State), (s.conFree true = true) ∧ (0 < n) ∧ (n ≤ 16) ∧ (isRegisterAddr a.toNat = true) ∧ (a.toNat + 4 * n ≤ 0x41000000) ∧ (s.takeLine.setFld ⟨Reg.SYS_STRAP, 8, 5⟩ pins.toNat = r) :=
  ⟨0x40000000, 1, 3, W.ready, _, by decide +kernel, by decide +kernel, by decide +kernel, by decide +kernel, by decide +kernel, rfl⟩

theorem wit_Console_8 : ∃ (a : Word) (n : Nat) (pins : BitVec 5) (s : State), (s.conFree true = true) ∧ (¬ (0 < n ∧ n ≤ 16 ∧ isRegisterAddr a.toNat = true ∧ a.toNat + 4 * n ≤ 0x41000000)) :=
  ⟨0x40000000, 0, 3, W.ready, by decide +kernel, by decide +kernel⟩

theorem wit_Console_9 : ∃ (a v hw : Word) (s : State), (s.conFree false = true) ∧ ((s.takeLine.mode = .ready ∨ s.takeLine.mode = .service)) ∧ (isRegisterAddr a.toNat = true) ∧ (s.takeLine.conLocked a.toNat = false) :=
  ⟨0x40600000, 5, 0, W.ready, by decide +kernel, Or.inl (by decide +kernel), by decide +kernel, by decide +kernel⟩

theorem wit_Console_10 : ∃ (a v hw : Word) (s : State), (s.conFree false = true) ∧ ((s.takeLine.mode = .ready ∨ s.takeLine.mode = .service)) ∧ (isRegisterAddr a.toNat = true) ∧ (s.takeLine.conLocked a.toNat = true) :=
  ⟨0x40500000, 5, 0, W.ready, by decide +kernel, Or.inl (by decide +kernel), by decide +kernel, by decide +kernel⟩

theorem wit_Console_11 : ∃ (a v hw : Word) (s : State), (s.conFree false = true) ∧ ((s.takeLine.mode = .ready ∨ s.takeLine.mode = .service)) ∧ (isRegisterAddr a.toNat = false) :=
  ⟨0x40600001, 5, 0, W.ready, by decide +kernel, Or.inl (by decide +kernel), by decide +kernel⟩

theorem wit_Console_12 : ∃ (a v hw : Word) (s : State), (s.conFree false = true) ∧ (¬ (s.takeLine.mode = .ready ∨ s.takeLine.mode = .service)) :=
  ⟨0x40600000, 5, 0, W.inMode .hold, by decide +kernel, by decide +kernel⟩

theorem wit_Console_13 : ∃ (p : ParamId) (s : State), (s.conFree false = true) :=
  ⟨W.p10, W.ready, by decide +kernel⟩

theorem wit_Console_14 : ∃ (p : ParamId) (v : Word) (s : State), (s.conFree false = true) ∧ (s.takeLine.mode = .hold) :=
  ⟨W.p10, 5, W.inMode .hold, by decide +kernel, by decide +kernel⟩

theorem wit_Console_15 : ∃ (p : ParamId) (v : Word) (s : State), (s.conFree false = true) ∧ (s.takeLine.mode ≠ .hold) ∧ (s.takeLine.firstRefused s.takeLine 0 [(p, v)] = none) :=
  ⟨W.p10, 0x42C80000, W.ready, by decide +kernel, by decide +kernel, by decide +kernel⟩

theorem wit_Console_16 : ∃ (p : ParamId) (v : Word) (e : Nat × Nat) (s : State), (s.conFree false = true) ∧ (s.takeLine.mode ≠ .hold) ∧ (s.takeLine.firstRefused s.takeLine 0 [(p, v)] = some e) :=
  ⟨{ group := 200, item := 1, inst := 0 }, 5, (0, St.PARAM_UNKNOWN), W.ready, by decide +kernel, by decide +kernel, by decide +kernel⟩

theorem wit_Console_17 : ∃ (n : Option Nat) (s : State), (s.conFree false = true) ∧ (s.takeLine.flag Fld.SVC_JSTAT_DISABLED = false) ∧ (0 < n.getD 8) ∧ (n.getD 8 ≤ 64) :=
  ⟨none, W.ready, by decide +kernel, by decide +kernel, by decide +kernel, by decide +kernel⟩

theorem wit_Console_18 : ∃ (q : Word) (n : Option Nat) (s : State), (s.conFree false = true) ∧ (s.takeLine.flag Fld.SVC_JSTAT_DISABLED = false) ∧ (0 < n.getD 8) ∧ (n.getD 8 ≤ 64) :=
  ⟨1, some 8, W.ready, by decide +kernel, by decide +kernel, by decide +kernel, by decide +kernel⟩

theorem wit_Console_19 : ∃ (q : Word) (n : Option Nat) (s : State), (s.conFree false = true) ∧ (s.takeLine.flag Fld.SVC_JSTAT_DISABLED = true) :=
  ⟨1, some 8, W.ready.setFlag Fld.SVC_JSTAT_DISABLED true, by decide +kernel, by decide +kernel⟩

theorem wit_Console_20 : ∃ (q : Word) (n : Option Nat) (s : State), (s.conFree false = true) ∧ (s.takeLine.flag Fld.SVC_JSTAT_DISABLED = false) ∧ (n.getD 8 = 0 ∨ 64 < n.getD 8) :=
  ⟨1, some 0, W.ready, by decide +kernel, by decide +kernel, Or.inl rfl⟩

theorem wit_Console_21 : ∃ (q : AtestQ) (s : State), (s.conFree false = true) ∧ (s.takeLine.atestOk q = true) :=
  ⟨.zero, W.ready, by decide +kernel, by decide +kernel⟩

theorem wit_Console_22 : ∃ (q : AtestQ) (s : State), (s.conFree false = true) ∧ (s.takeLine.atestOk q = false) :=
  ⟨.pwmDuty 0 0, W.ready, by decide +kernel, by decide +kernel⟩

theorem wit_Console_23 : ∃ (s : State), (s.conFree false = true) :=
  ⟨W.ready, by decide +kernel⟩

theorem wit_Console_24 : ∃ (s : State), (s.conFree false = true) ∧ (s.takeLine.mode ≠ .dusk) :=
  ⟨W.ready, by decide +kernel, by decide +kernel⟩

theorem wit_Console_25 : ∃ (s : State), (s.conFree false = true) ∧ (s.takeLine.mode = .dusk) :=
  ⟨W.inMode .dusk, by decide +kernel, by decide +kernel⟩

theorem wit_Console_26 : ∃ (s : State), (s.conFree true = true) ∧ (s.takeLine.dawnFailed = true) :=
  ⟨W.failed, by decide +kernel, by decide +kernel⟩

theorem wit_Console_27 : ∃ (s : State), (s.conFree true = true) ∧ (s.takeLine.dawnFailed = false) :=
  ⟨W.ready, by decide +kernel, by decide +kernel⟩

theorem wit_Console_28 : ∃ (hard : Bool) (s : State), (s.conFree false = true) ∧ (hard = true ∨ s.takeLine.allStopped = true) :=
  ⟨true, W.ready, by decide +kernel, by decide +kernel⟩

theorem wit_Console_29 : ∃ (s : State), (s.conFree false = true) ∧ (s.takeLine.allStopped = false) :=
  ⟨W.axis 2, by decide +kernel, by decide +kernel⟩

theorem wit_Console_30 : ∃ (k : Word) (hard : Bool) (s : State), (s.conFree false = true) ∧ (k ≠ 0xD5E7) :=
  ⟨0, true, W.ready, by decide +kernel, by decide +kernel⟩

theorem wit_Console_31 : ∃ (s : State), (s.awake = true) ∧ (s.con.busy = false) ∧ (s.takeLine.flag Fld.SVC_STATUS_HWONLY = true) :=
  ⟨W.ready.setFlag Fld.SVC_STATUS_HWONLY true, by decide +kernel, by decide +kernel, by decide +kernel⟩

theorem wit_GateSwitchingTests_0 : ∃ (n : Fin 28) (us : Nat) (s : State), (s.conFree false = true) ∧ (s.takeLine.mayTest = true) ∧ (0 < us) ∧ (us ≤ 100) :=
  ⟨0, 5, W.bench, by decide +kernel, by decide +kernel, by decide +kernel, by decide +kernel⟩

theorem wit_GateSwitchingTests_1 : ∃ (n : Fin 28) (us : Nat) (s : State), (s.conFree false = true) ∧ (us = 0 ∨ 100 < us) :=
  ⟨0, 0, W.bench, by decide +kernel, Or.inl rfl⟩

theorem wit_GateSwitchingTests_2 : ∃ (h : Fin 12) (s : State), (s.conFree false = true) ∧ (s.takeLine.mayTest = true) :=
  ⟨0, W.bench, by decide +kernel, by decide +kernel⟩

theorem wit_GateSwitchingTests_3 : ∃ (x : Fin 4) (v : Rat) (s : State), (s.conFree false = true) ∧ (s.takeLine.mayTest = true) ∧ (20 ≤ s.takeLine.psp[x].vdc) ∧ (s.takeLine.psp[x].vdc ≤ 59) ∧ (s.takeLine.fld (Fld.PSP_CHOP_RB x) ≠ 0) :=
  ⟨0, 1, W.benchChop, by decide +kernel, by decide +kernel, by decide +kernel, by decide +kernel, by decide +kernel⟩

theorem wit_GateSwitchingTests_4 : ∃ (x : Fin 4) (v : Rat) (s : State), (s.conFree false = true) ∧ (¬ (20 ≤ s.takeLine.psp[x].vdc ∧ s.takeLine.psp[x].vdc ≤ 59 ∧ s.takeLine.fld (Fld.PSP_CHOP_RB x) ≠ 0)) :=
  ⟨0, 1, W.bench, by decide +kernel, by decide +kernel⟩

theorem wit_GateSwitchingTests_5 : ∃ (x : Fin 4) (du dv dw : Rat) (s : State), (s.conFree false = true) ∧ (s.takeLine.mayTest = true) ∧ ((0 ≤ du ∧ du ≤ 1)) ∧ ((0 ≤ dv ∧ dv ≤ 1)) ∧ ((0 ≤ dw ∧ dw ≤ 1)) ∧ (s.takeLine.setState x = .block) :=
  ⟨0, 0, 0, 0, W.bench, by decide +kernel, by decide +kernel, by decide +kernel, by decide +kernel, by decide +kernel, by decide +kernel⟩

theorem wit_GateSwitchingTests_6 : ∃ (x : Fin 4) (du dv dw : Rat) (s : State), (s.conFree false = true) ∧ (¬ ((0 ≤ du ∧ du ≤ 1) ∧ (0 ≤ dv ∧ dv ≤ 1) ∧ (0 ≤ dw ∧ dw ≤ 1))) :=
  ⟨0, 2, 0, 0, W.bench, by decide +kernel, by decide +kernel⟩

theorem wit_GateSwitchingTests_7 : ∃ (x : Fin 4) (du dv dw : Rat) (s : State), (s.conFree false = true) ∧ ((0 ≤ du ∧ du ≤ 1)) ∧ ((0 ≤ dv ∧ dv ≤ 1)) ∧ ((0 ≤ dw ∧ dw ≤ 1)) ∧ (s.takeLine.setState x ≠ .block) :=
  ⟨0, 0, 0, 0, W.owned, by decide +kernel, by decide +kernel, by decide +kernel, by decide +kernel, by decide +kernel⟩

theorem wit_GateSwitchingTests_8 : ∃ (a : Fin 4) (l q : Rat) (s : State), (s.conFree false = true) ∧ (s.takeLine.mayTest = true) ∧ (s.takeLine.axisExists a = true) ∧ (s.takeLine.source_ a = 2) ∧ (s.takeLine.machine a ≠ 2) ∧ (s.takeLine.atRest a = true) :=
  ⟨0, 1, 1, W.benchHf, by decide +kernel, by decide +kernel, by decide +kernel, by decide +kernel, by decide +kernel, W.atRest⟩

theorem wit_GateSwitchingTests_9 : ∃ (a : Fin 4) (l q : Rat) (s : State), (s.conFree false = true) ∧ (¬ (s.takeLine.axisExists a = true ∧ s.takeLine.source_ a = 2 ∧ s.takeLine.machine a ≠ 2 ∧ s.takeLine.atRest a = true)) :=
  ⟨0, 1, 1, W.ready, by decide +kernel, by decide +kernel⟩

theorem wit_GateSwitchingTests_10 : ∃ (n : Fin 4) (v w : Word) (s : State), (s.conFree false = true) ∧ (s.takeLine.mayTest = true) :=
  ⟨0, 5, 1, W.bench, by decide +kernel, by decide +kernel⟩

theorem wit_GateSwitchingTests_11 : ∃ (c : Fin 8) (n : Int) (s : State), (s.conFree false = true) ∧ (s.takeLine.mayTest = true) ∧ (isStep c = true) ∧ (s.takeLine.p32 34 c ≠ 0) :=
  ⟨4, 5, W.benchJog, by decide +kernel, by decide +kernel, by decide +kernel, by decide +kernel⟩

theorem wit_GateSwitchingTests_12 : ∃ (c : Fin 8) (n : Int) (s : State), (s.conFree false = true) ∧ (isStep c = false ∨ s.takeLine.p32 34 c = 0) :=
  ⟨0, 5, W.bench, by decide +kernel, Or.inl rfl⟩

theorem wit_GateSwitchingTests_13 : ∃ (h : Fin 12) (n : Fin 4) (v w : Word) (s : State), (s.conFree false = true) ∧ (s.takeLine.mode ≠ .service) :=
  ⟨0, 0, 1, 1, W.ready, by decide +kernel, by decide +kernel⟩

theorem wit_GateSwitchingTests_14 : ∃ (h : Fin 12) (n : Fin 4) (v w : Word) (s : State), (s.conFree false = true) ∧ (s.takeLine.mode = .service) ∧ (s.takeLine.con.test.isSome = true) :=
  ⟨0, 0, 1, 1, W.running2, by decide +kernel, by decide +kernel, by decide +kernel⟩

theorem wit_GateSwitchingTests_15 : ∃ (h : Fin 12) (n : Fin 4) (v w : Word) (s : State), (s.conFree false = true) ∧ (s.takeLine.mode = .service) ∧ (s.takeLine.con.test = none) ∧ ((s.takeLine.stoBothHigh && s.takeLine.flag Fld.PSP_REQ_EN) = false) :=
  ⟨0, 0, 1, 1, W.inMode .service, by decide +kernel, by decide +kernel, by decide +kernel, by decide +kernel⟩

theorem wit_GateSwitchingTests_16 : ∃ (k : GateTestKind) (x : Option (Fin 4)) (s : State), (s.con.test = some (k, x)) ∧ (s.con.begun = false) ∧ ((x.any fun (y : Fin 4) => !s.clocksRun y) = false) :=
  ⟨.gdcPulse 0 5, none, W.bench.testing (.gdcPulse 0 5) none false, by decide +kernel, by decide +kernel, by decide +kernel⟩

theorem wit_GateSwitchingTests_17 : ∃ (k : GateTestKind) (x : Option (Fin 4)) (s : State), (s.con.test = some (k, x)) ∧ (s.con.begun = true ∨ (x.any fun (y : Fin 4) => !s.clocksRun y) = true) :=
  ⟨.gdcPulse 0 5, some 0, W.bench.testing (.gdcPulse 0 5) (some 0) false, by decide +kernel, Or.inr (by decide +kernel)⟩

theorem wit_GateSwitchingTests_18 : ∃ (n : Fin 28) (us : Nat) (x : Option (Fin 4)) (s : State), (n.val < 24) :=
  ⟨0, 5, none, W.bench, by decide +kernel⟩

theorem wit_GateSwitchingTests_19 : ∃ (n : Fin 28) (us : Nat) (x : Option (Fin 4)) (s : State), (24 ≤ n.val) :=
  ⟨24, 5, none, W.bench, by decide +kernel⟩

theorem wit_GateSwitchingTests_21 : ∃ (x : Fin 4) (du dv dw : Rat) (c : Cmp3) (s : State), (({ u := s.dutyCompare x du, v := s.dutyCompare x dv, w := s.dutyCompare x dw } : Cmp3) = c) :=
  ⟨0, 0, 0, 0, _, W.bench, rfl⟩

theorem wit_GateSwitchingTests_23 : ∃ (k : GateTestKind) (x : Option (Fin 4)) (s : State), (s.con.test = some (k, x)) ∧ (s.testOver = true) :=
  ⟨.pwmRun 0 0 0, some 0, W.tested, by decide +kernel, by decide +kernel⟩

theorem wit_GateSwitchingTests_24 : ∃ (s : State), (s.testOver = false ∨ s.con.test = none) :=
  ⟨W.deadTest, Or.inl (by decide +kernel)⟩

theorem wit_GateSwitchingTests_25 : ∃ (h : Fin 12) (t0 : Nat) (x : Option (Fin 4)) (s : State), (s.con.test = some (.gdcDead h 0 t0, x)) ∧ (s.gc[(hbChans h).1].cmd = true) :=
  ⟨0, 0, some 0, W.deadTest.modGc 0 fun g => { g with cmd := true }, by decide +kernel, by decide +kernel⟩

theorem wit_GateSwitchingTests_26 : ∃ (h : Fin 12) (t0 : Nat) (x : Option (Fin 4)) (s : State), (s.con.test = some (.gdcDead h 1 t0, x)) ∧ (t0 + 20000 ≤ s.sys.poweredNs) :=
  ⟨0, 0, some 0, { W.bench.testing (.gdcDead 0 1 0) (some 0) false with sys := { W.bench.sys with poweredNs := 20000 } }, by decide +kernel, by decide +kernel⟩

theorem wit_RegisterViews_0 : ∃ (n : Fin 28) (s : State), (s.conFree false = true) :=
  ⟨0, W.ready, by decide +kernel⟩

theorem wit_RegisterViews_1 : ∃ (x : Fin 4) (s : State), (s.conFree false = true) :=
  ⟨0, W.ready, by decide +kernel⟩

theorem wit_RegisterViews_2 : ∃ (a : Fin 4) (s : State), (s.conFree false = true) :=
  ⟨0, W.ready, by decide +kernel⟩

theorem wit_RegisterViews_3 : ∃ (a : Fin 4) (s : State), (s.conFree false = true) :=
  ⟨0, W.ready, by decide +kernel⟩

theorem wit_RegisterViews_4 : ∃ (n : Fin 4) (s : State), (s.conFree false = true) :=
  ⟨0, W.ready, by decide +kernel⟩

theorem wit_RegisterViews_5 : ∃ (m : Fin 4) (s : State), (s.conFree false = true) :=
  ⟨0, W.ready, by decide +kernel⟩

theorem wit_RegisterViews_6 : ∃ (c : Fin 8) (s : State), (s.conFree false = true) :=
  ⟨0, W.ready, by decide +kernel⟩

theorem wit_RegisterViews_7 : ∃ (s : State), (s.conFree false = true) :=
  ⟨W.ready, by decide +kernel⟩

theorem wit_RegisterViews_8 : ∃ (s : State), (s.conFree false = true) :=
  ⟨W.ready, by decide +kernel⟩

theorem wit_RegisterViews_9 : ∃ (n : Fin 16) (s : State), (s.conFree false = true) :=
  ⟨0, W.ready, by decide +kernel⟩

theorem wit_RegisterViews_10 : ∃ (p : Fin 4) (s : State), (s.conFree false = true) :=
  ⟨0, W.ready, by decide +kernel⟩

theorem wit_RegisterViews_11 : ∃ (c : Fin 4) (s : State), (s.conFree false = true) :=
  ⟨0, W.ready, by decide +kernel⟩

theorem wit_BlockFieldTests_0 : ∃ (n : Fin 28) (s : State), (s.conFree false = true) ∧ ((s.takeLine.mode = .ready ∨ s.takeLine.mode = .service ∨ s.takeLine.mode = .run)) ∧ ((s.takeLine.gateTestStart n).flag (Fld.GDC_TESTRES_BUSY n) = true) :=
  ⟨0, W.stopped, by decide +kernel, Or.inl (by decide +kernel), by decide +kernel⟩

theorem wit_BlockFieldTests_1 : ∃ (n : Fin 28) (s : State), (s.conFree false = true) ∧ ((s.takeLine.mode = .ready ∨ s.takeLine.mode = .service ∨ s.takeLine.mode = .run)) ∧ ((s.takeLine.gateTestStart n).flag (Fld.GDC_TESTRES_BUSY n) = false) :=
  ⟨0, W.owned, by decide +kernel, Or.inl (by decide +kernel), by decide +kernel⟩

theorem wit_BlockFieldTests_2 : ∃ (n : Fin 28) (s : State), (s.conFree false = true) ∧ (¬ (s.takeLine.mode = .ready ∨ s.takeLine.mode = .service ∨ s.takeLine.mode = .run)) :=
  ⟨0, W.inMode .hold, by decide +kernel, by decide +kernel⟩

theorem wit_BlockFieldTests_3 : ∃ (x : Fin 4) (v w : Rat) (s : State), (s.conFree false = true) ∧ ((s.takeLine.mode = .ready ∨ s.takeLine.mode = .service)) ∧ (s.takeLine.setState x = .block) :=
  ⟨0, 1, 1, W.stopped, by decide +kernel, Or.inl (by decide +kernel), by decide +kernel⟩

theorem wit_BlockFieldTests_4 : ∃ (x : Fin 4) (v w : Rat) (s : State), (s.conFree false = true) ∧ ((¬ (s.takeLine.mode = .ready ∨ s.takeLine.mode = .service)) ∨ s.takeLine.setState x ≠ .block) :=
  ⟨0, 1, 1, W.owned, by decide +kernel, Or.inr (by decide +kernel)⟩

theorem wit_BlockFieldTests_5 : ∃ (x : Fin 4) (s : State), (s.conFree false = true) :=
  ⟨0, W.ready, by decide +kernel⟩

theorem wit_BlockFieldTests_6 : ∃ (x : Fin 4) (node : Byte) (s : State), (s.conFree false = true) ∧ (((s.takeLine.ownerAxis x).any fun (a : Fin 4) => s.takeLine.isShared a) = true) :=
  ⟨0, 5, W.member, by decide +kernel, by decide +kernel⟩

theorem wit_BlockFieldTests_7 : ∃ (x : Fin 4) (node : Byte) (s : State), (s.conFree false = true) ∧ (((s.takeLine.ownerAxis x).any fun (a : Fin 4) => s.takeLine.isShared a) = false) :=
  ⟨0, 5, W.ready, by decide +kernel, by decide +kernel⟩

theorem wit_BlockFieldTests_8 : ∃ (x : Fin 4) (s : State), (s.conFree false = true) ∧ ((s.takeLine.mode = .ready ∨ s.takeLine.mode = .service)) ∧ (s.takeLine.setFree x = true) :=
  ⟨0, W.ready, by decide +kernel, Or.inl (by decide +kernel), by decide +kernel⟩

theorem wit_BlockFieldTests_9 : ∃ (x : Fin 4) (s : State), (s.conFree false = true) ∧ ((¬ (s.takeLine.mode = .ready ∨ s.takeLine.mode = .service)) ∨ s.takeLine.setFree x = false) :=
  ⟨0, W.axis 2, by decide +kernel, Or.inr (by decide +kernel)⟩

theorem wit_BlockFieldTests_10 : ∃ (x : Fin 4) (s : State), (s.conFree false = true) ∧ (s.takeLine.mode ≠ .service ∨ s.takeLine.pwmRuns x = false) :=
  ⟨0, W.ready, by decide +kernel, Or.inl (by decide +kernel)⟩

theorem wit_BlockFieldTests_11 : ∃ (x : Fin 4) (s : State), (s.conFree false = true) ∧ (s.takeLine.mode = .service) ∧ (s.takeLine.pwmRuns x = true) ∧ (s.takeLine.mfe[x].recon = none) :=
  ⟨0, W.xc, by decide +kernel, by decide +kernel, by decide +kernel, by decide +kernel⟩

theorem wit_BlockFieldTests_12 : ∃ (x : Fin 4) (r : Recon) (s : State), (s.conFree false = true) ∧ (s.takeLine.mode = .service) ∧ (s.takeLine.pwmRuns x = true) ∧ (s.takeLine.mfe[x].recon = some r) :=
  ⟨0, _, W.xcDone, by decide +kernel, by decide +kernel, by decide +kernel, rfl⟩

theorem wit_BlockFieldTests_13 : ∃ (s : State), (s.conFree false = true) ∧ (s.takeLine.noneActive = true) :=
  ⟨W.ready, by decide +kernel, by decide +kernel⟩

theorem wit_BlockFieldTests_14 : ∃ (s : State), (s.conFree false = true) ∧ (s.takeLine.noneActive = false) :=
  ⟨W.axis 2, by decide +kernel, by decide +kernel⟩

theorem wit_BlockFieldTests_15 : ∃ (x : Fin 4) (s : State), (s.conFree false = true) ∧ (s.takeLine.setState x ≠ .run) :=
  ⟨0, W.stopped, by decide +kernel, by decide +kernel⟩

theorem wit_BlockFieldTests_16 : ∃ (x : Fin 4) (s : State), (s.conFree false = true) ∧ (s.takeLine.setState x = .run) :=
  ⟨0, W.owned, by decide +kernel, by decide +kernel⟩

theorem wit_BlockFieldTests_17 : ∃ (x : Fin 4) (s : State), (s.conFree false = true) :=
  ⟨0, W.ready, by decide +kernel⟩

theorem wit_MotionFieldTests_0 : ∃ (a : Fin 4) (s : State), (s.conFree false = true) ∧ (s.takeLine.axisExists a = true) ∧ (((s.takeLine.axisSets a).all fun x => s.takeLine.setState x == .block) = true) :=
  ⟨0, W.stopped, by decide +kernel, by decide +kernel, by decide +kernel⟩

theorem wit_MotionFieldTests_1 : ∃ (a : Fin 4) (s : State), (s.conFree false = true) ∧ (¬ (s.takeLine.axisExists a = true ∧ ((s.takeLine.axisSets a).all fun x => s.takeLine.setState x == .block) = true)) :=
  ⟨0, W.ready, by decide +kernel, by decide +kernel⟩

theorem wit_MotionFieldTests_2 : ∃ (a : Fin 4) (s : State), (s.conFree false = true) ∧ (s.takeLine.mode = .run) ∧ (s.takeLine.learnOk a = true) :=
  ⟨0, W.learner, by decide +kernel, by decide +kernel, W.learnOk⟩

theorem wit_MotionFieldTests_3 : ∃ (a : Fin 4) (s : State), (s.conFree false = true) ∧ (s.takeLine.mode = .run) ∧ (s.takeLine.learnOk a = false) :=
  ⟨0, W.axis 0, by decide +kernel, by decide +kernel, by decide +kernel⟩

theorem wit_MotionFieldTests_4 : ∃ (a : Fin 4) (s : State), (s.conFree false = true) ∧ (s.takeLine.mode ≠ .run) :=
  ⟨0, W.ready, by decide +kernel, by decide +kernel⟩

theorem wit_MotionFieldTests_5 : ∃ (a : Fin 4) (s : State), (s.conFree false = true) :=
  ⟨0, W.ready, by decide +kernel⟩

theorem wit_MotionFieldTests_6 : ∃ (a : Fin 4) (n : Nat) (s : State), (s.conFree false = true) ∧ (0 < n) ∧ (n ≤ 10) ∧ (s.takeLine.mode = .ready) ∧ (s.takeLine.isShared a = true) ∧ (s.takeLine.allJoined a = true) :=
  ⟨0, 5, W.member, by decide +kernel, by decide +kernel, by decide +kernel, by decide +kernel, by decide +kernel, by decide +kernel⟩

theorem wit_MotionFieldTests_7 : ∃ (a : Fin 4) (n : Nat) (s : State), (s.conFree false = true) ∧ (0 < n) ∧ (n ≤ 10) ∧ (¬ (s.takeLine.mode = .ready ∧ s.takeLine.isShared a = true ∧ s.takeLine.allJoined a = true)) :=
  ⟨0, 5, W.ready, by decide +kernel, by decide +kernel, by decide +kernel, by decide +kernel⟩

theorem wit_MotionFieldTests_8 : ∃ (a : Fin 4) (n : Nat) (s : State), (s.conFree false = true) ∧ (n = 0 ∨ 10 < n) :=
  ⟨0, 0, W.ready, by decide +kernel, Or.inl rfl⟩

theorem wit_MotionFieldTests_9 : ∃ (n : Fin 4) (s : State), (s.conFree false = true) :=
  ⟨0, W.ready, by decide +kernel⟩

theorem wit_MotionFieldTests_10 : ∃ (n : Fin 4) (ok : Bool) (s : State), (s.conFree false = true) ∧ ((s.takeLine.mode = .ready ∨ s.takeLine.mode = .service)) ∧ (s.takeLine.portRefusal n = none) :=
  ⟨0, true, W.ready, by decide +kernel, Or.inl (by decide +kernel), by decide +kernel⟩

theorem wit_MotionFieldTests_11 : ∃ (n : Fin 4) (ok : Bool) (st : Nat) (s : State), (s.conFree false = true) ∧ ((s.takeLine.mode = .ready ∨ s.takeLine.mode = .service)) ∧ (s.takeLine.portRefusal n = some st) :=
  ⟨0, true, St.UNIT_FAILED, W.ready.setFld Fld.BST_FAIL_FB 15, by decide +kernel, Or.inl (by decide +kernel), by decide +kernel⟩

theorem wit_MotionFieldTests_12 : ∃ (n : Fin 4) (ok : Bool) (s : State), (s.conFree false = true) ∧ (¬ (s.takeLine.mode = .ready ∨ s.takeLine.mode = .service)) :=
  ⟨0, true, W.inMode .hold, by decide +kernel, by decide +kernel⟩

theorem wit_MotionFieldTests_13 : ∃ (c : Fin 8) (s : State), (s.conFree false = true) :=
  ⟨0, W.ready, by decide +kernel⟩

theorem wit_SystemFieldTests_0 : ∃ (s : State), (s.conFree false = true) :=
  ⟨W.ready, by decide +kernel⟩

theorem wit_SystemFieldTests_1 : ∃ (g : Option (Fin 28)) (i : Option StoInput) (s : State), (s.conFree false = true) ∧ (s.takeLine.stoTestStatus = none) :=
  ⟨none, none, W.mayTest, by decide +kernel, by decide +kernel⟩

theorem wit_SystemFieldTests_2 : ∃ (g : Option (Fin 28)) (i : Option StoInput) (st : Nat) (s : State), (s.conFree false = true) ∧ (s.takeLine.stoTestStatus = some st) :=
  ⟨none, none, St.STO_DEMANDED, W.ready, by decide +kernel, by decide +kernel⟩

theorem wit_SystemFieldTests_3 : ∃ (crc : Word) (s : State), (s.conFree false = true) ∧ (s.takeLine.isl.staging = none) :=
  ⟨5, W.ready, by decide +kernel, by decide +kernel⟩

theorem wit_SystemFieldTests_4 : ∃ (g : Staging) (s : State), (s.conFree false = true) ∧ (s.takeLine.isl.staging = some g) :=
  ⟨_, W.staging, by decide +kernel, rfl⟩

theorem wit_SystemFieldTests_5 : ∃ (crc : Word) (g : Staging) (s : State), (s.conFree false = true) ∧ (s.takeLine.isl.staging = some g) ∧ (s.takeLine.sealFail g crc = none) :=
  ⟨safetyCrc W.stagingG.staged, W.stagingG, W.staging, by decide +kernel, by decide +kernel, W.sealFail_line⟩

theorem wit_SystemFieldTests_6 : ∃ (crc : Word) (w : String) (g : Staging) (s : State), (s.conFree false = true) ∧ (s.takeLine.isl.staging = some g) ∧ (s.takeLine.sealFail g crc = some w) :=
  ⟨safetyCrc W.stagingG.staged, "TIMEOUT", W.stagingG, W.stagingLate, by decide +kernel, by decide +kernel, W.stagingLate_fail⟩

theorem wit_SystemFieldTests_7 : ∃ (k : Fin 32) (s : State), (s.conFree false = true) :=
  ⟨0, W.ready, by decide +kernel⟩

theorem wit_SystemFieldTests_8 : ∃ (s : State), (s.conFree false = true) :=
  ⟨W.ready, by decide +kernel⟩

theorem wit_SystemFieldTests_9 : ∃ (n : Fin 4) (b : Bool) (s : State), (s.conFree false = true) ∧ (s.takeLine.pairState n = PairSt.RUN) :=
  ⟨0, false, W.pair 1, by decide +kernel, by decide +kernel⟩

theorem wit_SystemFieldTests_10 : ∃ (n : Fin 4) (b : Bool) (s : State), (s.conFree false = true) ∧ (s.takeLine.pairState n ≠ PairSt.RUN) :=
  ⟨0, false, W.pair 2, by decide +kernel, by decide +kernel⟩

theorem wit_SystemFieldTests_11 : ∃ (n : Fin 4) (s : State), (s.conFree false = true) :=
  ⟨0, W.ready, by decide +kernel⟩

theorem wit_SystemFieldTests_12 : ∃ (n : Fin 16) (s : State), (s.conFree false = true) ∧ (((s.takeLine.mode = .ready ∨ s.takeLine.mode = .run ∨ s.takeLine.mode = .service) ∧ s.takeLine.flag (Fld.HIF_SQ_CFG_ENABLE n) = true)) :=
  ⟨0, W.ring, by decide +kernel, ⟨Or.inl (by decide +kernel), by decide +kernel⟩⟩

theorem wit_SystemFieldTests_13 : ∃ (n : Fin 16) (s : State), (s.conFree false = true) ∧ (¬ ((s.takeLine.mode = .ready ∨ s.takeLine.mode = .run ∨ s.takeLine.mode = .service) ∧ s.takeLine.flag (Fld.HIF_SQ_CFG_ENABLE n) = true)) :=
  ⟨0, W.ready, by decide +kernel, by decide +kernel⟩

theorem wit_SystemFieldTests_14 : ∃ (a : Byte) (s : State), (s.conFree false = true) :=
  ⟨5, W.ready, by decide +kernel⟩

theorem wit_SystemFieldTests_15 : ∃ (a : Byte) (n : Nat) (s : State), (s.conFree false = true) ∧ (0 < n) ∧ (s.takeLine.nodeAddr ≠ 0) :=
  ⟨5, 1, W.up, by decide +kernel, by decide +kernel, by decide +kernel⟩

theorem wit_SystemFieldTests_16 : ∃ (a : Byte) (n : Nat) (s : State), (s.conFree false = true) ∧ (0 < n) ∧ (s.takeLine.nodeAddr = 0) :=
  ⟨5, 1, W.ready, by decide +kernel, by decide +kernel, by decide +kernel⟩

theorem wit_SystemFieldTests_17 : ∃ (a : Byte) (s : State), (s.conFree false = true) :=
  ⟨5, W.ready, by decide +kernel⟩

theorem wit_SystemFieldTests_18 : ∃ (p : Fin 4) (s : State), (s.conFree false = true) ∧ ((s.takeLine.mode = .ready ∨ s.takeLine.mode = .service)) ∧ (s.takeLine.lstate p ≠ 4) ∧ (s.takeLine.lstate p ≠ 0) :=
  ⟨0, W.up, by decide +kernel, Or.inl (by decide +kernel), by decide +kernel, by decide +kernel⟩

theorem wit_SystemFieldTests_19 : ∃ (p : Fin 4) (s : State), (s.conFree false = true) ∧ ((s.takeLine.mode = .ready ∨ s.takeLine.mode = .service)) ∧ (s.takeLine.lstate p = 4) :=
  ⟨0, W.up.setFld (Fld.WFT_P_STATE_LSTATE 0) 4, by decide +kernel, Or.inl (by decide +kernel), by decide +kernel⟩

theorem wit_SystemFieldTests_20 : ∃ (p : Fin 4) (s : State), (s.conFree false = true) ∧ ((¬ (s.takeLine.mode = .ready ∨ s.takeLine.mode = .service)) ∨ s.takeLine.lstate p = 0) :=
  ⟨0, W.ready, by decide +kernel, Or.inr (by decide +kernel)⟩

theorem wit_SystemFieldTests_21 : ∃ (c : Fin 4) (ok : Bool) (s : State), (s.conFree false = true) ∧ ((s.takeLine.mode = .ready ∨ s.takeLine.mode = .service)) ∧ (s.takeLine.flag (Fld.CAN_CFG_ENABLE c) = false) :=
  ⟨0, true, W.ready, by decide +kernel, Or.inl (by decide +kernel), by decide +kernel⟩

theorem wit_SystemFieldTests_22 : ∃ (c : Fin 4) (ok : Bool) (s : State), (s.conFree false = true) ∧ ((¬ (s.takeLine.mode = .ready ∨ s.takeLine.mode = .service)) ∨ s.takeLine.flag (Fld.CAN_CFG_ENABLE c) = true) :=
  ⟨0, true, W.bus, by decide +kernel, Or.inr (by decide +kernel)⟩

theorem wit_SystemFieldTests_23 : ∃ (c : Fin 4) (s : State), (s.conFree false = true) :=
  ⟨0, W.ready, by decide +kernel⟩

theorem wit_SystemFieldTests_24 : ∃ (s : State), (s.conFree false = true) :=
  ⟨W.ready, by decide +kernel⟩

theorem wit_AtestOutput_0 : ∃ (phys : AtestQ → Rat) (n : Fin 28) (s : State), (s.pulsed = some n) :=
  ⟨fun _ => 0, 0, W.pulsing, by decide +kernel⟩

theorem wit_AtestOutput_1 : ∃ (phys : AtestQ → Rat) (s : State), (s.pulsed = none) ∧ (s.con.atest = none) :=
  ⟨fun _ => 0, W.ready, by decide +kernel, by decide +kernel⟩

theorem wit_AtestOutput_2 : ∃ (phys : AtestQ → Rat) (q : AtestQ) (s : State), (s.pulsed = none) ∧ (s.con.atest = some q) ∧ (s.atestOk q = false) :=
  ⟨fun _ => 0, .pwmDuty 0 0, W.ready.select (some (.pwmDuty 0 0)), by decide +kernel, by decide +kernel, by decide +kernel⟩

theorem wit_AtestOutput_3 : ∃ (phys : AtestQ → Rat) (s : State), (s.pulsed = none) ∧ (s.con.atest = some .zero) :=
  ⟨fun _ => 0, W.ready.select (some .zero), by decide +kernel, by decide +kernel⟩

theorem wit_AtestOutput_4 : ∃ (phys : AtestQ → Rat) (s : State), (s.pulsed = none) ∧ (s.con.atest = some .ref) :=
  ⟨fun _ => 0, W.ready.select (some .ref), by decide +kernel, by decide +kernel⟩

theorem wit_AtestOutput_5 : ∃ (phys : AtestQ → Rat) (x : Fin 4) (k : Fin 3) (c : Cmp3) (s : State), (s.pulsed = none) ∧ (s.con.atest = some (.pwmDuty x k)) ∧ (s.pwmRuns x = true) ∧ (s.pwm[x].duties = some c) :=
  ⟨fun _ => 0, 0, 1, _, W.tested.select (some (.pwmDuty 0 1)) |>.modPwm 0 fun p => { p with duties := some { u := 0, v := 5, w := 0 } }, by decide +kernel, by decide +kernel, by decide +kernel, rfl⟩

theorem wit_AtestOutput_6 : ∃ (phys : AtestQ → Rat) (n : Fin 28) (s : State), (s.pulsed = none) ∧ (s.con.atest = some (.gdcVp n)) ∧ (s.islandsOf (chanSet n) = true) ∧ (s.flag (Fld.GDC_CFG_SUPPLY n) = false) :=
  ⟨fun _ => 0, 0, W.supplied.select (some (.gdcVp 0)), by decide +kernel, by decide +kernel, by decide +kernel, by decide +kernel⟩

theorem wit_AtestOutput_7 : ∃ (phys : AtestQ → Rat) (n : Fin 28) (s : State), (s.pulsed = none) ∧ (s.con.atest = some (.gdcVp n)) ∧ (s.islandsOf (chanSet n) = true) ∧ (s.flag (Fld.GDC_CFG_SUPPLY n) = true) :=
  ⟨fun _ => 0, 0, (W.supplied.setFlag (Fld.GDC_CFG_SUPPLY 0) true).select (some (.gdcVp 0)), by decide +kernel, by decide +kernel, by decide +kernel, by decide +kernel⟩

theorem wit_AtestOutput_8 : ∃ (phys : AtestQ → Rat) (x : Fin 4) (s : State), (s.pulsed = none) ∧ (s.con.atest = some (.pspScth x)) ∧ (s.islandsOf x = true) :=
  ⟨fun _ => 0, 0, W.supplied.select (some (.pspScth 0)), by decide +kernel, by decide +kernel, by decide +kernel⟩

theorem wit_AtestOutput_9 : ∃ (phys : AtestQ → Rat) (a : Fin 4) (s : State), (s.pulsed = none) ∧ (s.con.atest = some (.posTheta a)) ∧ (s.axisExists a = true) ∧ (s.flag (Fld.POS_STATUS_VALID a) = true) :=
  ⟨fun _ => 0, 0, (W.stopped.select (some (.posTheta 0))).setFlag (Fld.POS_STATUS_VALID 0) true, by decide +kernel, by decide +kernel, by decide +kernel, by decide +kernel⟩

theorem wit_QueueStep_0 : ∃ (c : Instr) (r : List Instr) (s : State), (s.pending = c :: r) :=
  ⟨.nop (W.desc 0 0), [], { W.ready with pending := [.nop (W.desc 0 0)] }, rfl⟩

theorem wit_QueueStep_1 : ∃ (s : State), (s.pending = []) :=
  ⟨W.ready, rfl⟩

theorem wit_BanksStayCanonical_0 : ∃ (s t : State), (s.banksWf) ∧ (step s = .next t) :=
  ⟨State.reset, State.reset.tick, W.reset_banks, rfl⟩

theorem wit_InterlockHolds_0 : ∃ (s t : State), (s.interlocked) ∧ (step s = .next t) :=
  ⟨State.reset, State.reset.tick, W.reset_interlocked, rfl⟩

theorem wit_CommandsComeFromOutside_0 : ∃ (c : Instr) (s : State) (t : State), (exec c s = .next t) :=
  ⟨.mtimeLoRead, W.ready, (W.ready.setReg Reg.LCK_MTIME_LO (W.ready.weft.setWidth 32)).setReg Reg.LCK_MTIME_HI ((W.ready.weft >>> 32).setWidth 32), rfl⟩

theorem wit_CommandsComeFromOutside_1 : ∃ (c : Instr) (r : List Instr) (s : State) (t : State), (s.pending = c :: r) ∧ (step s = .next t) :=
  ⟨.mtimeLoRead, [], { W.ready with pending := [.mtimeLoRead] }, (W.ready.setReg Reg.LCK_MTIME_LO (W.ready.weft.setWidth 32)).setReg Reg.LCK_MTIME_HI ((W.ready.weft >>> 32).setWidth 32), rfl, rfl⟩

theorem wit_LockedWrites_0 : ∃ (w : Writer) (a v hw : Word) (row : RegRow) (s : State), (s.awake = true) ∧ (a.toNat % 4 = 0) ∧ (0x4000_0000 ≤ a.toNat) ∧ (a.toNat < 0x4100_0000) ∧ (regRow a.toNat = some row) ∧ ((row.rwl ≠ 0 ∧ s.rwlFree a.toNat = false) ∨ (0x4050_0000 ≤ a.toNat ∧ a.toNat < 0x4060_0000 ∧ (w = .host ∨ w = .pair 0 ∨ w = .pair 1 ∨ w = .pair 2))) :=
  ⟨.host, 0x40500000, 7, 0, _, W.ready, by decide +kernel, by decide +kernel, by decide +kernel, by decide +kernel, rfl, by decide +kernel⟩

theorem wit_LockedWrites_1 : ∃ (w : Writer) (a v : Word) (s : State), (s.flag Fld.SVC_JSTAT_DISABLED = false) ∧ (s.jr.queue.length < 64) :=
  ⟨.host, 0x40500000, 7, W.ready, by decide +kernel, by decide +kernel⟩

theorem wit_PairRegisters_0 : ∃ (w : Writer) (a v hw : Word) (row : RegRow) (s : State), (s.awake = true) ∧ (a.toNat % 4 = 0) ∧ (0x4003_00C0 ≤ a.toNat) ∧ (a.toNat < 0x4003_0100) ∧ (regRow a.toNat = some row) ∧ (w ≠ .pair 3) :=
  ⟨.host, 0x400300C8, 7, 0, _, W.ready, by decide +kernel, by decide +kernel, by decide +kernel, by decide +kernel, rfl, by decide +kernel⟩

theorem wit_PairRegisters_1 : ∃ (w : Writer) (n : Fin 4) (a v hw : Word) (s : State), (s.awake = true) ∧ (a.toNat = Reg.LCK_IRQEN n ∨ a.toNat = Reg.LCK_MTIMECMP_LO n ∨ a.toNat = Reg.LCK_MTIMECMP_HI n) ∧ (w ≠ .pair n) :=
  ⟨.host, 1, 0x40030054, 7, 0, W.ready, by decide +kernel, by decide +kernel, by decide +kernel⟩

theorem wit_PairRegisters_2 : ∃ (n : Fin 4) (a v hw : Word) (row : RegRow) (s : State), (s.awake = true) ∧ (s.deaf a.toNat = false) ∧ (a.toNat = Reg.LCK_IRQEN n ∨ a.toNat = Reg.LCK_MTIMECMP_LO n ∨ a.toNat = Reg.LCK_MTIMECMP_HI n) ∧ (regRow a.toNat = some row) :=
  ⟨1, 0x40030054, 7, 0, _, W.ready, by decide +kernel, by decide +kernel, by decide +kernel, rfl⟩

theorem wit_TransientRate_0 : ∃ (n : Fin 4) (u : Nat) (s : State), (s.pairState n = PairSt.ARBITRATE) ∧ (s.cp[n].stamps[1]? = some u) ∧ (s.sys.poweredNs ≤ u + 3_600_000_000_000) :=
  ⟨2, 0, (W.pair 2).modCp 2 fun c => { c with stamps := [0, 0] }, by decide +kernel, by decide +kernel, by decide +kernel⟩

theorem wit_TransientRate_1 : ∃ (n : Fin 4) (s : State), (s.pairState n = PairSt.ARBITRATE) ∧ (∀ u, s.cp[n].stamps[1]? = some u → u + 3_600_000_000_000 < s.sys.poweredNs) :=
  ⟨2, W.pair 2, by decide +kernel, W.pair_fresh⟩

theorem wit_TransientRate_2 : ∃ (n : Fin 4) (s : State), (s.pairState n = PairSt.ARBITRATE) ∧ (∀ u, s.cp[n].stamps[1]? = some u → u + 3_600_000_000_000 < s.sys.poweredNs) ∧ (s.cp[n].debugWaits = false) :=
  ⟨2, W.pair 2, by decide +kernel, W.pair_fresh, by decide +kernel⟩

theorem wit_SystemSram_0 : ∃ (s : State) (off : Nat) (l : List Byte) (a : Nat), (a < off ∨ off + l.length ≤ a) :=
  ⟨W.ready, 5, [1], 4, by decide +kernel⟩

theorem wit_SystemSram_1 : ∃ (s : State) (off : Nat) (l : List Byte) (k : Nat), (k < l.length) ∧ (off + k < 0x80_0000) :=
  ⟨W.ready, 5, [1], 0, by decide +kernel, by decide +kernel⟩

theorem wit_SystemSram_3 : ∃ (w : Writer) (a v hw : Word) (k : Nat) (s : State), (s.awake = true) ∧ (0x1000_0000 ≤ a.toNat) ∧ (a.toNat < 0x1080_0000) ∧ (w ≠ .console) :=
  ⟨.host, 0x10000000, 5, 0, 1, W.ready, by decide +kernel, by decide +kernel, by decide +kernel, by decide +kernel⟩

theorem wit_TimeAlone_0 : ∃ (s : State), (s.pending = []) ∧ (s.awake = false) :=
  ⟨W.deep, rfl, by decide +kernel⟩

theorem wit_TimeAlone_1 : ∃ (s : State), (s.pending = []) ∧ (s.awake = true) ∧ (s.flag Fld.SYS_CLK_PLL400 = false) :=
  ⟨W.ready.setFlag Fld.SYS_CLK_PLL400 false, rfl, by decide +kernel, by decide +kernel⟩

theorem wit_TimeAlone_2 : ∃ (s : State), (s.pending = []) ∧ (s.awake = true) ∧ (s.flag Fld.SYS_CLK_PLL400 = true) ∧ (s.sys.rtcSet = none) :=
  ⟨W.ready.setFlag Fld.SYS_CLK_PLL400 true, rfl, by decide +kernel, by decide +kernel, by decide +kernel⟩

theorem wit_TimeAlone_4 : ∃ (s : State), (s.mode ≠ .deepNight) ∧ (s.sys.nightDead = false) ∧ (s.sys.rtcSet = none) ∧ (s.sys.rtcNs = 999_999_999) :=
  ⟨{ W.night with sys := { W.night.sys with rtcNs := 999_999_999 } }, by decide +kernel, by decide +kernel, by decide +kernel, by decide +kernel⟩

theorem wit_TimeAlone_5 : ∃ (s : State), (s.mode ≠ .deepNight) ∧ (s.sys.nightDead = false) ∧ (s.sys.rtcNs < 999_999_999) ∧ (s.sys.rtcSet = none ∨ rtcTickAt s.sys.rtcNs = false) :=
  ⟨W.ready, by decide +kernel, by decide +kernel, by decide +kernel, Or.inl rfl⟩

theorem wit_TimeAlone_6 : ∃ (v : Word) (s : State), (s.mode ≠ .deepNight) ∧ (s.sys.nightDead = false) ∧ (s.sys.rtcSet = some v) ∧ (rtcTickAt s.sys.rtcNs = true) :=
  ⟨7, { W.ready with sys := { W.ready.sys with rtcSet := some 7, rtcNs := 30517 } }, by decide +kernel, by decide +kernel, by decide +kernel, by decide +kernel⟩

theorem wit_TimeAlone_7 : ∃ (s : State), (s.mode = .deepNight ∨ s.sys.nightDead = true) :=
  ⟨W.deep, by decide +kernel⟩

theorem wit_TimeAlone_8 : ∃ (s : State), (s.wft.rate = 0) ∧ (s.wft.frac = 0) :=
  ⟨W.ready, by decide +kernel, by decide +kernel⟩

theorem wit_TimeAlone_9 : ∃ (s : State) (a : Nat), (s.sys.rtcSet = none) ∧ (a ≠ Reg.PMU_RTC) ∧ (a ≠ Reg.PMU_WAKE) ∧ (a ≠ Reg.SFI_STATUS) :=
  ⟨W.ready, 0, by decide +kernel, by decide +kernel, by decide +kernel, by decide +kernel⟩

theorem wit_TimeAlone_10 : ∃ (s : State), (s.mode = .night) ∧ (s.flag Fld.PMU_WAKE_RUN = true) :=
  ⟨W.night, by decide +kernel, by decide +kernel⟩

end Sys2Proof.Tests

end
end

section
namespace Sys2Proof.Machine

/-! ## Reading a flag and the mode past the setting of another flag -/

/-- A flag of another register, or of other bits, keeps its value when a flag is set. -/
theorem State.flag_setFlag_other (s : State) {f g : Field} (b : Bool)
    (h : g.addr ≠ f.addr ∨ g.lo + g.width ≤ f.lo ∨ f.lo + f.width ≤ g.lo) : (s.setFlag f b).flag g = s.flag g :=
  s.flag_setFld_other _ h

/-- The mode does not depend on a flag of another register than SYS_MODE. -/
theorem State.mode_setFlag (s : State) {f : Field} (b : Bool) (h : Reg.SYS_MODE ≠ f.addr) : (s.setFlag f b).mode = s.mode := by
  rw [State.mode, State.mode, State.setFlag, s.fld_setFld_reg _ h]

end Sys2Proof.Machine
end

section
namespace Sys2Proof.Machine

/-! ## Safety frames: what a second frame accepted does where the routes share a port -/

/-- A receiving connection whose two routes share port 2, one frame before validity. Nothing has evaluated its routes
yet, so its flag ROUTE is still low. -/
def sharedConn : State :=
  let s := (((State.reset.setPar 44 30 0 0x40000000).setPar 44 32 0 2).setPar 44 33 0 0).setPar 44 34 0 1
  ((s.setFld Fld.WFT_NODE_ADDR 1).setCost 2 0 1).modSc 0 fun c => { c with good := 1 }

theorem sharedConn_good : sharedConn.sc[(0 : Fin 32)].good = 1 := by decide +kernel

theorem sharedConn_route : sharedConn.flag (Fld.SFI_SC_STATE_ROUTE 0) = false := by decide +kernel

/-- The second frame accepted does not make the connection valid: scAccept looks at the routes themselves (R477). -/
theorem sharedConn_scAccept_valid : (sharedConn.scAccept 0 []).flag (Fld.SFI_SC_STATE_VALID 0) = false := by decide +kernel

/-- Refutes O27: validity after the second frame accepted is tied to the flag ROUTE, but scAccept tests whether the
routes share a port now, which the flag shows only once the routes have been evaluated. -/
theorem not_safetyFrames : ¬ Obligations.SafetyFrames := by
  unfold Obligations.SafetyFrames
  intro h
  obtain ⟨-, -, -, -, -, -, -, -, hsecond, -⟩ := h
  have hvalid := hsecond 0 [] sharedConn sharedConn_good sharedConn_route
  exact Bool.false_ne_true (sharedConn_scAccept_valid.symm.trans hvalid)

end Sys2Proof.Machine
end

section
namespace Sys2Proof.Machine

/-! ## Protection of the power stages -/

theorem State.flag_ov3Level_pend (s : State) (x y : Fin 4) :
    ((s.setFlag (Fld.PSP_STATE_OV3_LVL x) true).flagFrame x).flag (Fld.PSP_STATE_OV2_PEND y) =
      s.flag (Fld.PSP_STATE_OV2_PEND y) := s.flag_setFlag_other true (.inr (by decide +revert))

theorem State.mode_ov3Level (s : State) (x : Fin 4) :
    ((s.setFlag (Fld.PSP_STATE_OV3_LVL x) true).flagFrame x).mode = s.mode := s.mode_setFlag true (by decide +revert)

theorem State.siblings_ov3Level (s : State) (x : Fin 4) :
    ((s.setFlag (Fld.PSP_STATE_OV3_LVL x) true).flagFrame x).siblings x = s.siblings x := rfl

/-- Settles O12, clause by clause: each is what the command of its event does under the clause's conditions. -/
theorem powerStageProtection : Obligations.PowerStageProtection := by
  unfold Obligations.PowerStageProtection
  refine ⟨fun _ _ _ => rfl, ?_, ?_, ?_, ?_, ?_, ?_, fun _ _ => rfl, ?_, ?_, ?_, ?_, ?_, ?_, ?_, ?_⟩
  · intro x s hp hb hc
    simp only [exec_scTrip, execScTrip, hp, hb, hc]
    rfl
  · intro x s hp hb hc hx
    simp only [exec_scTrip, execScTrip, hp, hb, hc, hx]
    rfl
  · intro x s hp hb hc hx
    simp only [exec_scTrip, execScTrip, hp, hb, hc, hx]
    rfl
  · intro x s hd
    simp only [exec_scDwellEnd, execScDwellEnd, hd, if_true]
  · intro x k s hp ho hv ha
    simp only [exec_ocTrip, execOcTrip, hp, ho, hv, ha]
    rfl
  · intro x k s hp ho hv ha
    simp only [exec_ocTrip, execOcTrip, hp, ho, hv, ha]
    rfl
  · intro x s hu
    simp only [exec_ov3Trip, execOv3Trip, hu]
    rfl
  · intro x s hu hm hn
    simp [execOv3Trip, s.mode_ov3Level, s.flag_ov3Level_pend, -BitVec.getLsbD_eq_getElem, hu, hm, hn, forAll]
  · intro x s hu hm hp hs
    simp [execOv3Trip, s.mode_ov3Level, s.flag_ov3Level_pend, s.siblings_ov3Level, -BitVec.getLsbD_eq_getElem, hu, hm, hp, hs, forAll]
  · intro x s hl hc hm
    simp [execOv3Hold, hl, hc, hm]
  · intro x s hp ho
    simp [execOv2React, hp, ho]
  · intro x s ho
    simp [execOv2React, ho]
  · intro x s hp ha hl ho
    simp [execUv, hp, ha, hl, ho]
  · intro x s ho
    simp [execUv, ho]

end Sys2Proof.Machine
end

section
namespace Sys2Proof.Machine

/-! ## What reports and the common evaluation leave of the island -/

/-- What a report to the host, the console or the journal, and the common evaluation (R162), leave of the island's own
state: SFI_STATUS, a staging that is not there, the seals of the slots, and the age of the STO path test. -/
structure Aside (s0 s : State) : Prop where
  status  : s.reg Reg.SFI_STATUS = s0.reg Reg.SFI_STATUS
  staging : s0.isl.staging = none → s.isl.staging = none
  crc     : ∀ n : Fin 4, s.slots[n].sealCrc = s0.slots[n].sealCrc
  sealed  : ∀ n : Fin 4, s.slots[n].sealed = s0.slots[n].sealed
  seals   : ∀ n : Fin 4, s.slots[n].seals = s0.slots[n].seals
  testNs  : s.sys.testNs = s0.sys.testNs

variable {s0 s t : State}

theorem Aside.refl (s : State) : Aside s s := ⟨rfl, id, fun _ => rfl, fun _ => rfl, fun _ => rfl, rfl⟩

theorem Aside.flag (h : Aside s0 s) {f : Field} (hf : f.addr = Reg.SFI_STATUS) : s.flag f = s0.flag f := by
  simp only [State.flag, State.fld, hf, h.status]

theorem Aside.fld (h : Aside s0 s) {f : Field} (hf : f.addr = Reg.SFI_STATUS) : s.fld f = s0.fld f := by
  simp only [State.fld, hf, h.status]

/-- A change of nothing that counts here. -/
theorem Aside.same (h : Aside s0 s) (hr : t.regs = s.regs) (hi : t.isl.staging = s.isl.staging) (hp : t.slots = s.slots)
    (hn : t.sys.testNs = s.sys.testNs) : Aside s0 t := by
  refine ⟨?_, ?_, ?_, ?_, ?_, ?_⟩
  · rw [← h.status, State.reg, State.reg, hr]
  · rw [hi]; exact h.staging
  · rw [hp]; exact h.crc
  · rw [hp]; exact h.sealed
  · rw [hp]; exact h.seals
  · rw [hn]; exact h.testNs

theorem Aside.ite {a b : State} {c : Prop} [Decidable c] (ha : Aside s0 a) (hb : Aside s0 b) : Aside s0 (if c then a else b) := by
  split <;> assumption

theorem Aside.whenever {c : Bool} {f : State → State} (hf : ∀ t, Aside s0 t → Aside s0 (f t)) (h : Aside s0 s) :
    Aside s0 (when c f s) := (hf s h).ite h

theorem Aside.each {α : Type} {l : List α} {f : α → State → State} (hf : ∀ a t, Aside s0 t → Aside s0 (f a t))
    (h : Aside s0 s) : Aside s0 (forAll l f s) := foldl_keeps (fun t a ht => hf a t ht) h

theorem Aside.setReg (h : Aside s0 s) {a : Nat} {w : Word} (ha : a ≠ Reg.SFI_STATUS) : Aside s0 (s.setReg a w) :=
  ⟨(s.reg_setReg_other w ha.symm).trans h.status, h.staging, h.crc, h.sealed, h.seals, h.testNs⟩

theorem Aside.setFld (h : Aside s0 s) {f : Field} {v : Nat} (ha : f.addr ≠ Reg.SFI_STATUS) : Aside s0 (s.setFld f v) :=
  h.setReg ha

theorem Aside.setFlag (h : Aside s0 s) {f : Field} {b : Bool} (ha : f.addr ≠ Reg.SFI_STATUS) : Aside s0 (s.setFlag f b) :=
  h.setReg ha

theorem Aside.incSat (h : Aside s0 s) {f : Field} (ha : f.addr ≠ Reg.SFI_STATUS) : Aside s0 (s.incSat f) := h.setReg ha

/-- A block of registers above SFI_STATUS does not hold it. -/
theorem addr_above {b n k : Nat} (h : Nat.blt Reg.SFI_STATUS b = true) : b + n * k ≠ Reg.SFI_STATUS := by
  have := Nat.blt_eq.mp h
  omega

/-- A block of registers that ends below SFI_STATUS does not hold it. -/
theorem addr_below {m b k : Nat} {n : Fin m} (h : (Nat.blt 0 k && Nat.ble (b + m * k) Reg.SFI_STATUS) = true) :
    b + n.val * k ≠ Reg.SFI_STATUS := by
  rw [Bool.and_eq_true, Nat.blt_eq, Nat.ble_eq] at h
  obtain ⟨hk, hb⟩ := h
  have := Nat.mul_lt_mul_of_pos_right n.isLt hk
  omega

theorem Aside.sramWrite (h : Aside s0 s) {a : Nat} {l : List Byte} : Aside s0 (s.sramWrite a l) := by
  obtain ⟨m, e⟩ := State.sramWrite_eq l s a
  rw [e]
  exact h.same rfl rfl rfl rfl

theorem Aside.setIrq (h : Aside s0 s) {k : Nat} {b : Bool} : Aside s0 (s.setIrq k b) :=
  Aside.each (fun _ _ ht => ht.setFld (addr_below rfl)) h

theorem Aside.journalFull (h : Aside s0 s) {code unit : Nat} {hw : Bool} {d0 d1 : Word} :
    Aside s0 (s.journalFull code unit hw d0 d1) := by
  refine h.ite (Aside.ite (Aside.incSat ?_ (by decide)) (Aside.setIrq (Aside.setFld ?_ (by decide))))
  all_goals exact h.same rfl rfl rfl rfl

theorem Aside.msix (h : Aside s0 s) {vec : Nat} : Aside s0 (s.msix vec) :=
  Aside.ite (h.setFld (show Reg.MSIX_PBA ≠ Reg.SFI_STATUS by decide)) (h.same rfl rfl rfl rfl)

theorem Aside.modSq (h : Aside s0 s) {n : Fin 16} {f : SubRing → SubRing} : Aside s0 (s.modSq n f) := h.same rfl rfl rfl rfl

theorem Aside.modCq (h : Aside s0 s) {n : Fin 16} {f : CplRing → CplRing} : Aside s0 (s.modCq n f) := h.same rfl rfl rfl rfl

theorem Aside.cqSignal (h : Aside s0 s) {n : Fin 16} : Aside s0 (s.cqSignal n) :=
  Aside.ite (h.modCq.setFlag (addr_below (n := Fin.ofNat 4 _) rfl)) h.modCq.msix

theorem Aside.cqWrite (h : Aside s0 s) {n : Fin 16} {e : Completion} : Aside s0 (s.cqWrite n e) := by
  unfold State.cqWrite
  extract_lets tail phase own head e u next v w x y now z
  have hu : Aside s0 u := h.whenever fun _ ht => ht.setFld (addr_above rfl)
  have hx : Aside s0 x := ((hu.whenever fun _ ht => ht.sramWrite).modCq.setFld (addr_above rfl)).whenever fun _ ht => ht.setFlag (addr_above rfl)
  have hy : Aside s0 y := hx.setFlag (addr_above rfl)
  exact hy.ite (Aside.ite hy.modCq.cqSignal hy.modCq)

theorem Aside.event (h : Aside s0 s) {code : Nat} {data : List Word} : Aside s0 (s.event code data) := by
  refine h.ite (Aside.ite (h.incSat (addr_above rfl)) (Aside.ite (Aside.incSat ?_ (by decide)) h.cqWrite))
  exact h.same rfl rfl rfl rfl

theorem Aside.journal (h : Aside s0 s) {code unit : Nat} {d0 d1 : Word} : Aside s0 (s.journal code unit d0 d1) := h.journalFull

theorem Aside.cqPush (h : Aside s0 s) {n : Fin 16} {e : Completion} : Aside s0 (s.cqPush n e) :=
  Aside.ite (h.incSat (addr_above rfl)) (Aside.ite (h.whenever fun _ ht => ht.incSat (addr_above rfl)).modCq h.cqWrite)

theorem Aside.say (h : Aside s0 s) {l : Line} : Aside s0 (s.say l) := h.same rfl rfl rfl rfl

theorem Aside.replyErr (h : Aside s0 s) {w : String} : Aside s0 (s.replyErr w) := h.say

theorem Aside.complete (h : Aside s0 s) {d : Desc} {opcode status detail : Nat} {data : List Word} :
    Aside s0 (s.complete d opcode status detail data) :=
  Aside.ite (Aside.ite (h.same rfl rfl rfl rfl) h.say) (Aside.ite h.modSq.modSq h.modSq.cqPush)

/-! ## Gates and the carrier -/

theorem Aside.modPwm (h : Aside s0 s) {x : Fin 4} {f : PwmSet → PwmSet} : Aside s0 (s.modPwm x f) := h.same rfl rfl rfl rfl

theorem Aside.modPsp (h : Aside s0 s) {x : Fin 4} {f : PspSet → PspSet} : Aside s0 (s.modPsp x f) := h.same rfl rfl rfl rfl

theorem Aside.modGc (h : Aside s0 s) {n : Fin 28} {f : GateChan → GateChan} : Aside s0 (s.modGc n f) := h.same rfl rfl rfl rfl

theorem Aside.modPos (h : Aside s0 s) {a : Fin 4} {f : PosAx → PosAx} : Aside s0 (s.modPos a f) := h.same rfl rfl rfl rfl

theorem Aside.modSpd (h : Aside s0 s) {a : Fin 4} {f : SpdAx → SpdAx} : Aside s0 (s.modSpd a f) := h.same rfl rfl rfl rfl

theorem Aside.modMfe (h : Aside s0 s) {x : Fin 4} {f : MfeSet → MfeSet} : Aside s0 (s.modMfe x f) := h.same rfl rfl rfl rfl

theorem Aside.placeCarrier (h : Aside s0 s) {x : Fin 4} : Aside s0 (s.placeCarrier x) := h.modPwm.setFlag (addr_below rfl)

theorem Aside.stepOffset (h : Aside s0 s) {x : Fin 4} : Aside s0 (s.stepOffset x) :=
  have hp := h.modPwm.setFlag (addr_below rfl)
  Aside.ite hp.placeCarrier hp

theorem Aside.writePhase (h : Aside s0 s) {x : Fin 4} {v : BitVec 8} : Aside s0 (s.writePhase x v) :=
  have hp := h.setFld (addr_below rfl)
  Aside.ite (hp.setFlag (addr_below rfl)) hp.stepOffset

theorem Aside.putSetState (h : Aside s0 s) {x : Fin 4} {v : SetState} : Aside s0 (s.putSetState x v) := h.setFld (addr_below rfl)

theorem Aside.chanOff (h : Aside s0 s) {n : Fin 28} : Aside s0 (s.chanOff n) := by
  have hh : Aside s0 (s.setFlag (Fld.GDC_STATUS_HELD n) false) := h.setFlag (addr_below rfl)
  refine Aside.whenever (fun _ ht => ht.modPsp) (Aside.modGc (Aside.ite ?_ (hh.setFlag (addr_below rfl))))
  exact hh.same rfl rfl rfl rfl

theorem Aside.phasesOff (h : Aside s0 s) {x : Fin 4} : Aside s0 (s.phasesOff x) := h.each fun _ _ ht => ht.chanOff

theorem Aside.chopperOn (h : Aside s0 s) {x : Fin 4} : Aside s0 (s.chopperOn x) :=
  h.ite (h.setFlag (addr_below rfl)).modGc.modPsp

theorem Aside.chopSwitch (h : Aside s0 s) {x : Fin 4} {on : Bool} : Aside s0 (s.chopSwitch x on) :=
  h.ite (h.modPsp.chopperOn.ite h.modPsp.chanOff)

theorem Aside.chopControl (h : Aside s0 s) {x : Fin 4} : Aside s0 (s.chopControl x) :=
  Aside.ite (h.chopSwitch.ite h) (Aside.ite (h.ite h.modPsp.chopSwitch) (Aside.ite (h.chopSwitch.ite h)
    (h.modPsp.ite (h.ite (h.chopSwitch.ite (h.chopSwitch.ite h))))))

theorem Aside.markFrame (h : Aside s0 s) {n : Fin 28} {b : Bool} : Aside s0 (s.markFrame n b) :=
  h.ite (h.modGc.setFlag (addr_below rfl))

theorem Aside.setMarker (h : Aside s0 s) {x : Fin 4} {b : Bool} : Aside s0 (s.setMarker x b) := h.each fun _ _ ht => ht.markFrame

theorem Aside.shootEvent (h : Aside s0 s) {n : Nat} {b : Bool} : Aside s0 (s.shootEvent n b) := by
  unfold State.shootEvent
  extract_lets x u v sh sh' w running per ms stood y
  have hv : Aside s0 v := ((h.incSat (addr_below rfl)).setFld (addr_below rfl)).setFlag (addr_below rfl)
  have hw : Aside s0 w := hv.same rfl rfl rfl rfl
  exact (hw.whenever fun _ ht => ((ht.setFlag (addr_below rfl)).setFlag (addr_below rfl)).setFlag (addr_below rfl)).journal

theorem Aside.requestOn (h : Aside s0 s) {n : Fin 28} : Aside s0 (s.requestOn n) := by
  have hr : Aside s0 ((s.modGc n fun g => { g with request := true }).setFlag (Fld.GDC_STATUS_HELD n) true) :=
    h.modGc.setFlag (addr_below rfl)
  refine h.ite (Aside.ite (Aside.shootEvent ?_) hr)
  exact hr.same rfl rfl rfl rfl

theorem Aside.ascCheck (h : Aside s0 s) {x : Fin 4} : Aside s0 (s.ascCheck x) := Aside.ite h.putSetState h

theorem Aside.abortTests (h : Aside s0 s) {x : Fin 4} : Aside s0 (s.abortTests x) :=
  h.each fun _ _ ht => Aside.ite ((ht.setFlag (addr_below rfl)).setFlag (addr_below rfl)) ht

theorem Aside.enterSet (h : Aside s0 s) {x : Fin 4} {v : SetState} : Aside s0 (s.enterSet x v) := by
  unfold State.enterSet
  extract_lets u w y z1 z2 z3
  have hy : Aside s0 y :=
    ((h.whenever fun _ ht => ht.setFlag (addr_below rfl)).whenever fun _ ht => ht.stepOffset).setFlag (addr_below rfl)
  have hz : Aside s0 z3 := (hy.abortTests.putSetState.each fun _ _ ht => ht.chanOff).each fun _ _ ht => ht.requestOn
  cases v with
  | run => exact hy.setMarker.putSetState
  | block => exact hy.phasesOff.setMarker.putSetState
  | sto => exact hy.abortTests.phasesOff.setMarker.putSetState
  | scOff => exact hy.phasesOff.setMarker.chopControl.putSetState
  | ascEntry | asc => exact hz.setMarker.ascCheck

theorem Aside.newAsks (h : Aside s0 s) {x : Fin 4} : Aside s0 (s.newAsks x) := by
  unfold State.newAsks
  exact (h.whenever fun _ ht => ht.abortTests).modPsp

theorem Aside.settleSet (h : Aside s0 s) {x : Fin 4} : Aside s0 (s.settleSet x) := by
  unfold State.settleSet
  extract_lets u v
  have hv : Aside s0 v := h.newAsks.whenever fun _ ht => ht.modPsp
  split
  · exact hv.enterSet.ite hv
  · exact hv.ite hv.enterSet
  · exact hv.ite hv.enterSet

/-! ## Axes -/

theorem Aside.finish (h : Aside s0 s) {pick : InFlight → Bool} {status detail : Nat} : Aside s0 (s.finish pick status detail) := by
  refine Aside.each (fun _ _ ht => ht.complete) ?_
  exact h.same rfl rfl rfl rfl

theorem Aside.endStart (h : Aside s0 s) {a : Fin 4} {result : Nat} : Aside s0 (s.endStart a result) :=
  h.ite (((((h.modPos.each fun _ _ ht => ht.modPwm).setFld (addr_below rfl)).setFld (addr_below rfl)).setFlag (addr_below rfl)).journal.finish)

theorem Aside.dropOffsets (h : Aside s0 s) {a : Fin 4} : Aside s0 (s.dropOffsets a) := by
  refine h.each fun x t ht => ht.ite (Aside.ite (Aside.replyErr ?_) ht.modMfe)
  exact (ht.modMfe (x := x) (f := fun m => { m with ofsRun := false, ofsCon := false })).same rfl rfl rfl rfl

theorem Aside.endVent (h : Aside s0 s) {a : Fin 4} : Aside s0 (s.endVent a) := by
  unfold State.endVent
  split
  · exact h
  · exact ((h.modSpd.setFlag (addr_below rfl)).setFlag (addr_below rfl)).setFld (addr_below rfl)

theorem Aside.endShock (h : Aside s0 s) {a : Fin 4} : Aside s0 (s.endShock a) := by
  unfold State.endShock
  split
  · exact h
  · exact (h.modSpd.setFlag (addr_below rfl)).setFld (addr_below rfl)

theorem Aside.setFlds (h : Aside s0 s) {l : List Field} {v : Nat} (hl : l.Forall fun f => f.addr ≠ Reg.SFI_STATUS) :
    Aside s0 (forAll l (fun f t => t.setFld f v) s) := by
  induction l generalizing s with
  | nil => exact h
  | cons f r ih =>
    rw [List.forall_cons] at hl
    exact ih (h.setFld hl.1) hl.2

theorem Aside.axisIdle (h : Aside s0 s) {a : Fin 4} : Aside s0 (s.axisIdle a) := by
  unfold State.axisIdle
  extract_lets u v w x y z q
  have hx : Aside s0 x := ((h.endShock.endVent.modSpd.setFld (addr_below rfl)).setFlag (addr_below rfl)).setFlds (v := 0)
    ⟨(addr_below rfl), (addr_below rfl), (addr_below rfl), (addr_below rfl), (addr_below rfl), (addr_below rfl), (addr_below rfl), (addr_below rfl), (addr_below rfl), (addr_below rfl), (addr_below rfl)⟩
  have hy : Aside s0 y := hx.ite (hx.setFlds ⟨(addr_below rfl), (addr_below rfl), (addr_below rfl), (addr_below rfl)⟩)
  have hz : Aside s0 z := ((hy.setReg (addr_below rfl)).setReg (addr_below rfl)).setReg (addr_below rfl)
  exact (hz.each fun _ _ ht => ht.modPwm).modPos

/-- A profile in its slot with other parameters has the seal it had. -/
theorem Aside.setSlotParams (h : Aside s0 s) {p : Fin 4} {b : Bank} :
    Aside s0 { s with slots := s.slots.set p { s.slots[p] with params := b } } := by
  have hs (n : Fin 4) : (s.slots.set p { s.slots[p] with params := b })[n] = { s.slots[n] with params := (s.slots.set p { s.slots[p] with params := b })[n].params } := by
    by_cases hn : p = n
    · subst hn; simp
    · simp [Fin.val_ne_of_ne hn]
  exact ⟨h.status, h.staging, fun n => (congrArg Profile.sealCrc (hs n)).trans (h.crc n),
    fun n => (congrArg Profile.sealed (hs n)).trans (h.sealed n), fun n => (congrArg Profile.seals (hs n)).trans (h.seals n), h.testNs⟩

theorem Aside.mapCopy (h : Aside s0 s) {a : Fin 4} : Aside s0 (s.mapCopy a) := by
  unfold State.mapCopy
  split
  · exact h
  · extract_lets put all u v
    refine Aside.setFlag (Aside.modPos ?_) (addr_below rfl)
    have hu : Aside s0 u := h.same rfl rfl rfl rfl
    unfold v
    split
    · exact hu.setSlotParams
    · exact hu

theorem Aside.setAxis (h : Aside s0 s) {a : Fin 4} {v : Nat} : Aside s0 (s.setAxis a v) := by
  unfold State.setAxis
  extract_lets old was u w x ends y z q r
  have hx : Aside s0 x := (h.setFld (addr_below rfl)).setIrq.event.setFlag (addr_below rfl)
  have hy : Aside s0 y := hx.whenever fun _ ht => ht.modPos.setFld (addr_below rfl)
  have hr : Aside s0 r := (hy.modSpd.whenever fun _ ht => ht.dropOffsets).endStart.axisIdle
  exact h.ite (hy.ite (hr.mapCopy.ite hr))

theorem Aside.axisFault (h : Aside s0 s) {a : Fin 4} {bit : Nat} : Aside s0 (s.axisFault a bit) :=
  Aside.whenever (fun _ ht => ht.setAxis) (Aside.whenever (fun _ ht => ht.modPos) (h.setFld (addr_below rfl)))

theorem Aside.endSeries (h : Aside s0 s) {a : Fin 4} : Aside s0 (s.endSeries a) := h.modPos.axisFault

theorem Aside.axisDisable (h : Aside s0 s) {a : Fin 4} : Aside s0 (s.axisDisable a) :=
  h.endSeries.ite (h.whenever fun _ ht => ht.setAxis)

/-! ## The Weft, faults of a set, and modes -/

theorem Aside.modPort (h : Aside s0 s) {p : Fin 4} {f : WPort → WPort} : Aside s0 (s.modPort p f) := h.same rfl rfl rfl rfl

theorem Aside.portPoll (h : Aside s0 s) {p : Fin 4} : Aside s0 (s.portPoll p) := by
  unfold State.portPoll
  extract_lets q
  refine h.ite ?_
  split
  · exact h
  · exact h.modPort

theorem Aside.enqueue (h : Aside s0 s) {p : Fin 4} {f : WFrame} : Aside s0 (s.enqueue p f) :=
  h.ite (Aside.ite ((h.incSat (addr_above rfl)).ite h.modPort.portPoll)
    ((h.modPort.incSat (addr_above rfl)).ite (h.modPort.portPoll.ite h.modPort.portPoll)))

theorem Aside.originate (h : Aside s0 s) {p : Fin 4} {f : WFrame} : Aside s0 (s.originate p f) := by
  unfold State.originate
  split
  · exact Aside.ite (h.incSat (by decide)) h.modPort.enqueue
  · exact Aside.ite h.modPort h.modPort.enqueue
  · exact h.enqueue

theorem Aside.sendClass0 (h : Aside s0 s) {body : List Byte} : Aside s0 (s.sendClass0 body) := by
  have hr : Aside s0 (s.takePkt 0).2 := h.same rfl rfl rfl rfl
  exact h.ite (hr.each fun _ _ ht => ht.each fun _ _ hu => hu.originate)

theorem Aside.faultNotice (h : Aside s0 s) {a : Fin 4} {b : Bool} : Aside s0 (s.faultNotice a b) := h.ite h.sendClass0

theorem Aside.reportSetFault (h : Aside s0 s) {x : Fin 4} : Aside s0 (s.reportSetFault x) := h.journal.event.setIrq

theorem Aside.cutJog (h : Aside s0 s) : Aside s0 s.cutJog := by
  unfold State.cutJog
  split
  · exact h.same rfl rfl rfl rfl
  · exact h

theorem Aside.stopTest (h : Aside s0 s) : Aside s0 s.stopTest := by
  unfold State.stopTest
  split
  · exact h
  · rename_i k x _
    extract_lets con u v w
    have hu : Aside s0 u := h.same rfl rfl rfl rfl
    have hv : Aside s0 v := by
      unfold v
      split
      · exact hu.setFlag (addr_below rfl)
      · exact hu
    have hw : Aside s0 w := (hv.setFlag (by decide)).setFld (by decide)
    cases x with
    | none => exact hw
    | some x => exact (hw.modPwm.whenever fun _ ht => ht.phasesOff).chopControl

theorem Aside.endTest (h : Aside s0 s) {w : String} : Aside s0 (s.endTest w) := h.cutJog.stopTest.replyErr.ite h

theorem Aside.latchSet (h : Aside s0 s) {x : Fin 4} {l : List Nat} : Aside s0 (s.latchSet x l) := by
  unfold State.latchSet
  extract_lets old new u v
  have hv : Aside s0 v := (h.setReg (addr_below rfl)).reportSetFault.endTest.each fun _ _ ht =>
    ht.ite (ht.setFlag (addr_below rfl)).reportSetFault
  refine h.ite ?_
  split
  · exact (hv.whenever fun _ ht => ht.faultNotice).axisFault
  · exact hv

theorem Aside.setMode (h : Aside s0 s) {m : Mode} : Aside s0 (s.setMode m) := by
  unfold State.setMode
  extract_lets old u v y w
  have hv : Aside s0 v := ((h.setFld (by decide)).setFld (by decide)).event.say
  have hw : Aside s0 w := hv.same rfl rfl rfl rfl
  exact Aside.ite (hw.each fun _ _ ht => ht.whenever fun _ hu => hu.setAxis) hw

/-! ## The STO demands and the starts -/

theorem Aside.forceOff (h : Aside s0 s) {n : Fin 28} : Aside s0 (s.forceOff n) := h.modGc.setFld (addr_below rfl)

theorem Aside.islandRequest (h : Aside s0 s) {x : Fin 4} : Aside s0 (s.islandRequest x) :=
  Aside.ite (h.same rfl rfl rfl rfl) (Aside.ite (h.same rfl rfl rfl rfl) (h.same rfl rfl rfl rfl))

theorem Aside.followEnable (h : Aside s0 s) {x : Fin 4} : Aside s0 (s.followEnable x) := by
  unfold State.followEnable
  extract_lets gone i u v w
  have hu : Aside s0 u := h.same rfl rfl rfl rfl
  have hw : Aside s0 w := h.same rfl rfl rfl rfl
  exact Aside.ite ((hu.each fun _ _ ht => ht.setFlag (addr_below rfl)).each fun _ _ ht => ht.forceOff)
    (Aside.ite (Aside.ite (hw.each fun _ _ ht => ht.setFlag (addr_below rfl)) hw) h)

theorem Aside.applySto (h : Aside s0 s) : Aside s0 s.applySto :=
  ((((h.each fun _ _ ht => ht.islandRequest.followEnable).setFlag (by decide)).setFlag (by decide)).each fun _ _ ht =>
    have hu := ht.setFlag (addr_above rfl)
    Aside.ite hu.axisDisable hu)

theorem Aside.putEstimate (h : Aside s0 s) {a : Fin 4} {th w : Rat} : Aside s0 (s.putEstimate a th w) :=
  ((h.modPos.setFld (addr_below rfl)).setReg (addr_below rfl)).setFlag (addr_below rfl)

theorem Aside.requestRun (h : Aside s0 s) {a : Fin 4} : Aside s0 (s.requestRun a) := h.each fun _ _ ht => ht.ite ht.modPwm

theorem Aside.completeStart (h : Aside s0 s) {a : Fin 4} {st : Start} {result : Nat} : Aside s0 (s.completeStart a st result) := by
  unfold State.completeStart
  extract_lets now u v w x pos y z
  have hy : Aside s0 y := ((((h.setFld (addr_below rfl)).setFld (addr_below rfl)).setReg (addr_below rfl)).setFlag (addr_below rfl)).modPos.modSpd
  exact (hy.whenever fun _ ht => ((ht.incSat (addr_below rfl)).setFlag (addr_below rfl)).setFld (addr_below rfl)).setAxis.finish

theorem Aside.failStart (h : Aside s0 s) {a : Fin 4} {result : Nat} : Aside s0 (s.failStart a result) := by
  unfold State.failStart
  split
  · exact h
  · extract_lets u v w x
    have hu : Aside s0 u := h.endStart
    have hv : Aside s0 v := hu.setAxis
    exact hu.setAxis.ite (Aside.ite (hv.modPos.setFlag (addr_below rfl)).setAxis ((hv.incSat (addr_below rfl)).modPos.setFld (addr_below rfl)))

theorem Aside.startPoll (h : Aside s0 s) {a : Fin 4} : Aside s0 (s.startPoll a) := by
  unfold State.startPoll
  split
  · exact h
  · refine Aside.ite (h.ite (Aside.ite h.modPos.putEstimate h.failStart)) ?_
    extract_lets all
    split
    · exact h.ite (Aside.ite (h.setFld (addr_below rfl)) (Aside.ite (h.completeStart.ite h) (h.requestRun.setFld (addr_below rfl))))
    · exact h.requestRun.ite h

theorem Aside.lockCross (h : Aside s0 s) {a : Fin 4} {l : List (Fin 4)} : Aside s0 (s.lockCross a l) :=
  ((h.setFlag (addr_below rfl)).modPos.each fun _ _ ht => ht.latchSet).axisFault

theorem Aside.seriesPoll (h : Aside s0 s) {a : Fin 4} : Aside s0 (s.seriesPoll a) :=
  h.ite (Aside.ite h.lockCross (h.endSeries.ite h))

/-! ## The common evaluation -/

theorem Aside.gateClocks (h : Aside s0 s) : Aside s0 s.gateClocks :=
  h.each fun _ _ ht => ht.whenever fun _ hu => (hu.setFld (show Reg.SYS_CLK ≠ _ by decide)).setFlag (addr_below rfl)

theorem Aside.katPoll (h : Aside s0 s) : Aside s0 s.katPoll := by
  refine h.each fun x t ht => ht.whenever fun u hu => Aside.setFlag ?_ (addr_below rfl)
  exact hu.same rfl rfl rfl rfl

theorem Aside.mfeLive (h : Aside s0 s) {x : Fin 4} : Aside s0 (s.mfeLive x) :=
  (((((h.setFld (addr_below rfl)).setFlag (addr_below rfl)).setFlag (addr_below rfl)).setFlag (addr_below rfl)).setFld (addr_below rfl)).setFld (addr_below rfl)

theorem Aside.memberPoll (h : Aside s0 s) {a : Fin 4} : Aside s0 (s.memberPoll a) := by
  have hput (v : Nat) : Aside s0 (s.setFld (Fld.LSH_STATE_MSTATE a) v) := h.setFld (addr_below rfl)
  have hjoin {t : State} (ht : Aside s0 t) : Aside s0 (t.interleave a) := ht.each fun _ _ hu => hu.writePhase
  have htm : Aside s0 (((s.setFld (Fld.LSH_STATE_MSTATE a) 2).modLsh a fun g => { g with offN := 0 }).setTm a 0) := by
    refine Aside.setReg ?_ (addr_below rfl)
    exact (hput 2).same rfl rfl rfl rfl
  exact h.ite ((hput 1).ite ((hput 3).ite ((hput 4).ite ((hjoin (hput 2)).ite ((hjoin htm).ite ((hput 1).ite h))))))

theorem Aside.settle (h : Aside s0 s) (hn : s0.isl.staging = none) : Aside s0 s.settle := by
  unfold State.settle
  extract_lets u v w x y
  have hw : Aside s0 w :=
    (((h.applySto.each fun _ _ ht => ht.seriesPoll.startPoll).each fun _ _ ht => ht.settleSet).gateClocks.katPoll).each
      fun _ _ ht => ht.mfeLive
  have hd (t : State) (ht : Aside s0 t) : Aside s0 (t.discardStaging St.SEAL_FAIL) := by
    rw [State.discardStaging, ht.staging hn]
    exact ht
  have hy : Aside s0 y := ((hw.whenever hd).setFlag (by decide)).each fun _ _ ht => ht.memberPoll
  exact h.ite (Aside.ite hy.setMode hy)

end Sys2Proof.Machine
end

section
namespace Sys2Proof.Machine

/-! ## The safety island -/

/-- The bits of SFI_STATUS that hwSto does not write. -/
theorem State.hwSto_sto (s : State) :
    s.hwSto.flag Fld.PSP_REQ_STO_HW = !(s.flag Fld.SFI_STATUS_STO_A && s.flag Fld.SFI_STATUS_STO_B) ∧
      s.hwSto.flag Fld.SFI_STATUS_STO_HW = !(s.flag Fld.SFI_STATUS_STO_A && s.flag Fld.SFI_STATUS_STO_B) := by
  unfold State.hwSto
  extract_lets gone low t u
  have ht : ∀ f, u.flag f = t.flag f := by
    intro f
    unfold u State.timeWhile
    split
    · rfl
    · split <;> rfl
  constructor
  · change u.flag _ = _
    rw [ht, State.flag_setFlag_other _ _ (by decide)]
    exact s.flag_setFlag gone (by decide) (by decide)
  · change u.flag _ = _
    rw [ht]
    exact State.flag_setFlag _ gone (by decide) (by decide)

/-- The STO path test is shown with its days and its age starts anew (R457). -/
def State.showTest (s : State) (f : Field) (days : Nat) : State :=
  let t := (s.setFlag f true).setFld Fld.SFI_STATUS_SINCE_TEST (min days 0xFF)
  { t with sys := { t.sys with testNs := 0 } }

/-- What leaves the island's own state leaves what is shown. -/
theorem Aside.showTest {s t : State} {f : Field} {days : Nat} (h : Aside (s.showTest f days) t) (hf : f.addr = Reg.SFI_STATUS)
    (hw : 0 < f.width) (hl : f.lo + f.width ≤ Fld.SFI_STATUS_SINCE_TEST.lo) :
    t.sys.testNs = 0 ∧ t.flag f = true ∧ t.fld Fld.SFI_STATUS_SINCE_TEST = min days 0xFF := by
  refine ⟨h.testNs, (h.flag hf).trans ?_, (h.fld rfl).trans ?_⟩
  · refine (State.flag_setFld_other _ _ (.inr (.inl hl))).trans (s.flag_setFlag true ?_ hw)
    exact hl.trans (by decide)
  · have hb : min days 0xFF < 2 ^ Fld.SFI_STATUS_SINCE_TEST.width := lt_of_le_of_lt (Nat.min_le_right ..) (by decide)
    exact (s.setFlag f true).fld_setFld (by decide) hb

/-- Settles O25, clause by clause. -/
theorem safetyIsland : Obligations.SafetyIsland := by
  unfold Obligations.SafetyIsland
  refine ⟨?_, ?_, fun _ _ => ⟨rfl, rfl⟩, ?_, ?_, ?_, ?_, ?_, ?_, ?_, ?_, ?_, ?_, ?_, ?_, ?_, fun _ _ _ => rfl⟩
  · intro off s hs hr
    simp [execSafetyCycle, when, hs, hr]
  · intro off s hs hr
    simp [execSafetyCycle, execSafetyCycleOverrun, execIslandScrub, when, hs, hr]
  · intro s h
    have hg : (!(s.flag Fld.SFI_STATUS_STO_A && s.flag Fld.SFI_STATUS_STO_B)) = true := by
      rcases h with h | h <;> simp [h]
    rw [← hg]
    exact s.hwSto_sto
  · intro s ha hb
    simpa [ha, hb] using s.hwSto_sto
  · intro s hd hr ho
    simp [execStoDisc, hd, hr, ho]
  · intro s ho
    simp [execStoDisc, ho]
  · intro a s hr hs ho
    simp only [exec_tSs1, execTSs1, hr, hs, ho]
    rfl
  · intro a s ho
    simp only [exec_tSs1, execTSs1, ho, Bool.and_false]
    rfl
  · intro a s hr hw ho
    simp only [exec_tStoAfterSbc, execTStoAfterSbc, hr, hw, ho]
    rfl
  · intro a s ho
    simp [execTStoAfterSbc, ho]
  · intro a s hr ho
    simp [execTSlsEntry, hr, ho]
  · intro a s ho
    simp [execTSlsEntry, ho]
  · rintro d s rfl
    exact ⟨_, rfl, (Aside.refl _).journalFull.event.showTest rfl (by decide) (by decide)⟩
  · rintro d s rfl
    exact ⟨_, rfl, (Aside.refl _).journalFull.event.showTest rfl (by decide) (by decide)⟩
  · intro s hr hp
    simp [execSealCheck, hr, hp]

end Sys2Proof.Machine
end

section
namespace Sys2Proof.Machine

/-! ## Sealing a safety parameter set -/

/-- The parameters, the stored profiles and the staging stand as they did. -/
structure SameSets (s0 s : State) : Prop where
  slots   : s.slots = s0.slots
  params  : s.params = s0.params
  staging : s.isl.staging = s0.isl.staging

variable {s0 s : State}

theorem SameSets.refl (s : State) : SameSets s s := ⟨rfl, rfl, rfl⟩

theorem SameSets.setReg (h : SameSets s0 s) {a : Nat} {w : Word} : SameSets s0 (s.setReg a w) := ⟨h.slots, h.params, h.staging⟩

theorem SameSets.setFld (h : SameSets s0 s) {f : Field} {v : Nat} : SameSets s0 (s.setFld f v) := h.setReg

theorem SameSets.setFlag (h : SameSets s0 s) {f : Field} {b : Bool} : SameSets s0 (s.setFlag f b) := h.setReg

theorem SameSets.incSat (h : SameSets s0 s) {f : Field} : SameSets s0 (s.incSat f) := h.setReg

theorem SameSets.ite {a b : State} {c : Prop} [Decidable c] (ha : SameSets s0 a) (hb : SameSets s0 b) :
    SameSets s0 (if c then a else b) := by split <;> assumption

theorem SameSets.each {α : Type} {l : List α} {f : α → State → State} (hf : ∀ a t, SameSets s0 t → SameSets s0 (f a t))
    (h : SameSets s0 s) : SameSets s0 (forAll l f s) := foldl_keeps (fun t a ht => hf a t ht) h

theorem SameSets.sramWrite (h : SameSets s0 s) {a : Nat} {l : List Byte} : SameSets s0 (s.sramWrite a l) := by
  obtain ⟨m, e⟩ := State.sramWrite_eq l s a
  rw [e]
  exact ⟨h.slots, h.params, h.staging⟩

theorem SameSets.msix (h : SameSets s0 s) {vec : Nat} : SameSets s0 (s.msix vec) :=
  SameSets.ite h.setFld ⟨h.slots, h.params, h.staging⟩

theorem SameSets.modSq (h : SameSets s0 s) {n : Fin 16} {f : SubRing → SubRing} : SameSets s0 (s.modSq n f) :=
  ⟨h.slots, h.params, h.staging⟩

theorem SameSets.modCq (h : SameSets s0 s) {n : Fin 16} {f : CplRing → CplRing} : SameSets s0 (s.modCq n f) :=
  ⟨h.slots, h.params, h.staging⟩

theorem SameSets.cqSignal (h : SameSets s0 s) {n : Fin 16} : SameSets s0 (s.cqSignal n) :=
  SameSets.ite h.modCq.setFlag h.modCq.msix

theorem SameSets.cqWrite (h : SameSets s0 s) {n : Fin 16} {e : Completion} : SameSets s0 (s.cqWrite n e) := by
  unfold State.cqWrite
  extract_lets tail phase own head e u next v w x y now z
  have hu : SameSets s0 u := h.setFld.ite h
  have hv : SameSets s0 v := hu.sramWrite.ite hu
  have hx : SameSets s0 x := SameSets.ite (hv.modCq.setFld (f := ⟨_, _, _⟩)).setFlag hv.modCq.setFld
  have hy : SameSets s0 y := hx.setFlag
  exact hy.ite (SameSets.ite hy.modCq.cqSignal hy.modCq)

theorem SameSets.cqPush (h : SameSets s0 s) {n : Fin 16} {e : Completion} : SameSets s0 (s.cqPush n e) :=
  SameSets.ite h.incSat (SameSets.ite (SameSets.modCq (h.incSat.ite h)) h.cqWrite)

theorem SameSets.complete (h : SameSets s0 s) {d : Desc} {opcode status detail : Nat} {data : List Word} :
    SameSets s0 (s.complete d opcode status detail data) :=
  SameSets.ite (SameSets.ite ⟨h.slots, h.params, h.staging⟩ ⟨h.slots, h.params, h.staging⟩)
    (SameSets.ite h.modSq.modSq h.modSq.cqPush)

/-! ### What sealing does to the slots -/

theorem SameSets.ctxLive (h : SameSets s0 s) : SameSets s0 s.ctxLive := h.setFld.setFld

theorem SameSets.modWft (h : SameSets s0 s) {f : Weft → Weft} : SameSets s0 (s.modWft f) := ⟨h.slots, h.params, h.staging⟩

theorem SameSets.ctxFor (h : SameSets s0 s) {a : Byte} {cls : BitVec 2} {p : Bool} {k : Option (Fin 32)} {r : Ctx × State}
    (hr : s.ctxFor a cls p k = some r) : SameSets s0 r.2 := by
  unfold State.ctxFor at hr
  extract_lets now c at hr
  split at hr
  · cases hr
    exact h.modWft.ctxLive.ite h
  · split at hr
    · cases hr
      exact h.modWft.ctxLive
    · split at hr
      · cases hr
        exact h.modWft.ctxLive
      · cases hr

theorem SameSets.pinContexts (h : SameSets s0 s) : SameSets s0 s.pinContexts := by
  refine SameSets.ctxLive (SameSets.each (fun k t ht => ht.ite ?_) h.modWft)
  split
  · next u hu => exact ht.ctxFor hu
  · exact ht.incSat

theorem SameSets.timeWhile (h : SameSets s0 s) {k : Timer} {on : Bool} : SameSets s0 (s.timeWhile k on) := by
  have ht (l : List (Timer × Nat)) : SameSets s0 { s with timers := l } := ⟨h.slots, h.params, h.staging⟩
  exact SameSets.ite (ht _) (h.ite (ht _))

theorem SameSets.siPair (h : SameSets s0 s) {i : Fin 8} : SameSets s0 (s.siPair i) := by
  unfold State.siPair
  extract_lets a b tf disc valid u v t filt p long q
  have hv : SameSets s0 v := h.setFld.setFld
  refine SameSets.timeWhile ?_
  clear_value v q
  exact ⟨hv.slots, hv.params, hv.staging⟩

theorem SameSets.modSfa (h : SameSets s0 s) {a : Fin 4} {f : SfAxis → SfAxis} : SameSets s0 (s.modSfa a f) :=
  ⟨h.slots, h.params, h.staging⟩

theorem SameSets.modSc (h : SameSets s0 s) {k : Fin 32} {f : Conn → Conn} : SameSets s0 (s.modSc k f) :=
  ⟨h.slots, h.params, h.staging⟩

theorem SameSets.scLoad (h : SameSets s0 s) {k : Fin 32} : SameSets s0 (s.scLoad k) := h.setFlag.setFlag.modSc.modSc

theorem SameSets.loadIsland (h : SameSets s0 s) : SameSets s0 s.loadIsland :=
  ((h.each fun _ _ ht => ht.modSfa).each fun _ _ ht => ht.scLoad).each fun _ _ ht => ht.siPair

/-- Sealing writes the target's slot with the staged set and its CRC, and counts the seal (R454). -/
theorem State.sealSlot_slot (s : State) (g : Staging) (crc : Word) :
    (s.sealSlot g crc).slots[g.target].sealCrc = crc ∧ (s.sealSlot g crc).slots[g.target].sealed = true ∧
      (s.sealSlot g crc).slots[g.target].seals = s.slots[g.target].seals + 1 := by
  have hs : (s.sealSlot g crc).slots = s.slots.set g.target { s.slots[g.target] with
      stored := true, crcOk := true, sealed := true, sealCrc := crc, seals := s.slots[g.target].seals + 1
      sealTime := s.reg Reg.PMU_RTC, params := withSafety (s.targetParams g.target) g.staged } := by
    unfold State.sealSlot
    extract_lets p b q u v
    split
    · exact (((SameSets.refl v).pinContexts.loadIsland.setReg.setFlag).each fun _ _ ht => ht.setFlag).slots
    · rfl
  simp [hs]

end Sys2Proof.Machine
end
section
namespace Sys2Proof.Machine

/-- A staging that is set stands; the slots and the parameters do not change. -/
theorem State.setStaging_sets (s : State) (g : Staging) :
    SameSets { s with isl := { s.isl with staging := some g } } (s.setStaging g) :=
  (SameSets.refl _).setFlag.setReg.setFld.setFld

/-- A staging opens on the safety part of its slot (R451). -/
theorem State.stageOpen_sets (s : State) (t : Fin 4) :
    let b := safetyPart s.slots[t].params
    (s.stageOpen t).isl.staging = some { target := t, sealed := b, staged := b, readBack := [], sealing := none, rose := false } ∧
      (s.stageOpen t).slots = s.slots ∧ (s.stageOpen t).params = s.params :=
  have h := (s.startTimer .staging).setStaging_sets _
  ⟨h.staging, h.slots, h.params⟩

/-- A staging that is discarded goes, and nothing else of the sets changes (R452). -/
theorem State.discardStaging_sets (s : State) (status : Nat) :
    (s.discardStaging status).isl.staging = none ∧ (s.discardStaging status).params = s.params ∧
      (s.discardStaging status).slots = s.slots := by
  unfold State.discardStaging
  split
  · next hs => exact ⟨hs, rfl, rfl⟩
  · extract_lets i u v w
    have hw : SameSets u w := (SameSets.refl u).setReg.setFld.setFld.setFlag
    split
    · exact ⟨hw.complete.staging, hw.complete.params, hw.complete.slots⟩
    · exact ⟨hw.staging, hw.params, hw.slots⟩

theorem State.sealFail_none_inTime {s : State} {g : Staging} {crc : Word} (h : s.sealFail g crc = none) :
    s.overdue .staging stagingNs = false := by
  by_contra hc
  rw [Bool.not_eq_false] at hc
  simp [State.sealFail, hc] at h

/-- The slot is sealed with the staged set, and the staging is closed (R454). -/
def State.sealIn (s : State) (g : Staging) : State :=
  let u := (s.sealSlot g (safetyCrc g.staged)).incSat Fld.SFI_SEALINFO_SEALS
  let v : State := { u with isl := { u.isl with staging := none } }
  ((v.setReg Reg.SFI_STAGE 0).setFld Fld.SFI_SEALINFO_STEP 4).setFlag Fld.SFI_STATUS_STAGE_OPEN false

theorem State.sealIn_slots (s : State) (g : Staging) : (s.sealIn g).slots = (s.sealSlot g (safetyCrc g.staged)).slots := rfl

theorem State.sealIn_stageOpen (s : State) (g : Staging) : (s.sealIn g).flag Fld.SFI_STATUS_STAGE_OPEN = false :=
  State.flag_setFlag _ false (by decide) (by decide)

/-- A written flash that may take effect seals the slot; then it is journalled, answered and evaluated. -/
theorem exec_sealFlashDone_seals {s : State} {g : Staging} {h : Desc} (hg : s.isl.staging = some g) (hh : g.sealing = some h)
    (hr : g.rose = false) (hl : s.stoBothLow = true) (ho : s.stagingOk = true) :
    exec (.sealFlashDone true) s = .next
      (((s.sealIn g).journalFw 0x0402 g.target.val (safetyCrc g.sealed) (safetyCrc g.staged)).complete h 0x03 St.SUCCESS 0
        (if 16 ≤ h.sq.val then [safetyCrc g.staged, BitVec.ofNat 32 ((s.sealIn g).fld Fld.SFI_SEALINFO_SEALS)] else [])).settle := by
  simp only [exec_sealFlashDone, execSealFlashDone, hg, hh, hr, hl, ho]
  rfl

/-- What leaves the island's own state leaves the seal that was set. -/
theorem Aside.sealIn {s t : State} {g : Staging} (h : Aside (s.sealIn g) t) :
    t.isl.staging = none ∧ t.slots[g.target].sealCrc = safetyCrc g.staged ∧ t.slots[g.target].sealed = true ∧
      t.slots[g.target].seals = s.slots[g.target].seals + 1 ∧ t.flag Fld.SFI_STATUS_STAGE_OPEN = false := by
  obtain ⟨hcrc, hsealed, hseals⟩ := s.sealSlot_slot g (safetyCrc g.staged)
  rw [← s.sealIn_slots] at hcrc hsealed hseals
  exact ⟨h.staging rfl, (h.crc _).trans hcrc, (h.sealed _).trans hsealed, (h.seals _).trans hseals,
    (h.flag rfl).trans (s.sealIn_stageOpen g)⟩

/-- Settles O28: a descriptor taken is answered by the staging or the sealing of its clause. -/
theorem sealing : Obligations.Sealing := by
  unfold Obligations.Sealing
  have htake {s : State} {h : Desc} (f : State → State) (ht : s.takes h 0x03 = true) : s.dispatch h 0x03 f = .next (f s) := by
    rw [State.dispatch_takes f ht, State.taken_plain rfl]
  refine ⟨?_, ?_, ?_, ?_, ?_, ?_, ?_, ?_, ?_, ?_, ?_, ?_, fun s => s.discardStaging_sets _⟩
  · intro h v s ht hv hn ho
    have hst : s.stageOpenStatus v = St.SUCCESS := by simp [State.stageOpenStatus, Nat.not_le.mpr hv, hn, ho]
    simp [execStageOpen, htake _ ht, hst]
  · intro t s
    exact s.stageOpen_sets t
  · intro h v s ht hv
    simp [execStageOpen, htake _ ht, State.stageOpenStatus, hv, St.PARAM_RANGE, St.SUCCESS]
  · intro h v s ht hv hn
    have hst : s.stageOpenStatus v = St.SEALED := by simp only [State.stageOpenStatus, Nat.not_le.mpr hv, hn]; rfl
    simp [execStageOpen, htake _ ht, hst, St.SEALED, St.SUCCESS]
  · intro h crc g s ht hg hn hf hok
    simp [execSeal, htake _ ht, State.sealStart, hg, hn, hf, hok, State.sealFail_none_inTime hok]
  · intro h crc g s ht hg hfail ho hn hf
    simp [execSeal, htake _ ht, State.sealStart, hg, hn, hf, ho, hfail]
  · intro h g s hg hh hr hl ho
    exact ⟨_, exec_sealFlashDone_seals hg hh hr hl ho, ((Aside.refl _).journalFull.complete.settle rfl).sealIn⟩
  · intro h g s hg hh
    simp [execSealFlashDone, hg, hh]
  · intro h g s hg hh hbad
    have hb : (!true || g.rose || !s.stoBothLow || !s.stagingOk) = true := by
      rcases hbad with hb | hb | hb <;> simp [hb]
    simp only [exec_sealFlashDone, execSealFlashDone, hg, hh, hb, if_true]
  · intro h s ht
    simp [execStageAbort, htake _ ht]
  · intro s ho
    simp [execStagingTimeout, ho]
  · intro s ho
    simp [execStagingTimeout, ho]

end Sys2Proof.Machine
end

section
namespace Sys2Proof.Machine

/-! ## Register writes -/

/-- A write to an address outside the register blocks, and to the system SRAM, is not one of these: of another address it
reaches the register table (R626). -/
theorem exec_registerWrite_register {w : Writer} {a v hw : Word} {s : State} (ha : s.awake = true) (hlo : 0x4000_0000 ≤ a.toNat)
    (hhi : a.toNat < 0x4100_0000) (hal : a.toNat % 4 = 0) : exec (.registerWrite w a v 4 hw) s = s.writeReg w a.toNat v hw := by
  have hsram : ¬ a.toNat < 0x1080_0000 := by omega
  simp [execRegisterWrite, ha, hsram, hal, Nat.not_lt.mpr hlo, Nat.not_le.mpr hhi]

/-- What a register takes of a write (R8, R11). -/
theorem State.writeReg_plain {w : Writer} {a : Nat} {v hw : Word} {row : RegRow} {s : State} (hrow : regRow a = some row)
    (hd : s.deaf a = false) (hact : actOn w row a v s = none) (hrf : s.writeRefused w a = false) (hl : row.rwl = 0) :
    s.writeReg w a v hw = .next (s.storeReg row a v hw) := by
  have hlock : s.writeLocked w row a = false := by simp [State.writeLocked, hrf, hl]
  simp [State.writeReg, hrow, hlock, hd, hact]

/-- Settles O35: the address, the size and the register's row decide what a write does. -/
theorem registerAccess : Obligations.RegisterAccess := by
  unfold Obligations.RegisterAccess
  refine ⟨?_, ?_, ?_, ?_, ?_⟩
  · intro w a v hw row s ha hlo hhi hal hrow hd hact hrf hl hc
    rw [exec_registerWrite_register ha hlo hhi hal, State.writeReg_plain hrow hd hact hrf hl]
    simp [State.storeReg, RegRow.stored, hc, hl]
  · intro w a v hw s ha hlo hhi hal hrow
    rw [exec_registerWrite_register ha hlo hhi hal]
    simp [State.writeReg, State.readReg, hrow]
  · intro a v hw k s ha hlo hhi hk
    have hsram : ¬ a.toNat < 0x1080_0000 := by omega
    simp [execRegisterWrite, ha, hsram, hk, Nat.not_lt.mpr hlo, Nat.not_le.mpr hhi]
  · intro w a v hw k s ha hlo hhi hw
    simp [execRegisterWrite, ha, hlo, hhi, hw]
  · intro s a r hr hh hb
    simp [State.readReg, hr, hh, hb]

end Sys2Proof.Machine
end

section
namespace Sys2Proof.Machine

/-! ## Every command goes on -/

/-- A command answers a next state. -/
def Goes (r : Res) : Prop := ∃ t, r = .next t

theorem Goes.next {t : State} : Goes (.next t) := ⟨t, rfl⟩

theorem Goes.ite {a b : Res} {c : Prop} [Decidable c] (ha : Goes a) (hb : Goes b) : Goes (if c then a else b) := by
  split <;> assumption

theorem Goes.access {s : State} {w : Writer} {a : Nat} {v : Word} {f : State → State} : Goes (s.access w a v f) :=
  s.access_next w a v f

theorem Goes.modeReq {s : State} {w : Writer} {v : Word} {f : State → State} : Goes (s.modeReq w v f) := Goes.access

theorem Goes.ringWrite {s : State} {w : Writer} {r : Ring} {v : Word} {f : State → State} : Goes (s.ringWrite w r v f) :=
  Goes.access

theorem Goes.dispatch {s : State} {h : Desc} {op : Nat} {f : State → State} : Goes (s.dispatch h op f) :=
  s.dispatch_next h op f

theorem Goes.conRun {s : State} {hw : Bool} {f : State → State} : Goes (s.conRun hw f) := s.conRun_next hw f

theorem Goes.andThen {r : Res} {f : State → Res} (hr : Goes r) (hf : ∀ t, Goes (f t)) : Goes (r.andThen f) := by
  obtain ⟨t, rfl⟩ := hr
  exact hf t

theorem Goes.onBit {v : Word} {k : Nat} {f : State → Res} {s : State} (hf : Goes (f s)) : Goes (onBit v k f s) :=
  hf.ite Goes.next

/-! ### Rules with choices of their own: each of their branches answers a next state -/

theorem execLockoutTrip_goes {supplies : BitVec 6} {vinPresent : Bool} {s : State} : Goes (execLockoutTrip supplies vinPresent s) := by
  unfold execLockoutTrip
  dsimp only
  (repeat' split) <;> exact Goes.next

theorem execWakeN_goes {samples : Nat} {lowUs : Nat} {s : State} : Goes (execWakeN samples lowUs s) := by
  unfold execWakeN
  dsimp only
  (repeat' split) <;> exact Goes.next

theorem execIslandGroupTimeout_goes {x : Fin 4} {s : State} : Goes (execIslandGroupTimeout x s) := by
  unfold execIslandGroupTimeout
  refine Goes.ite Goes.next ?_
  split <;> exact Goes.next

theorem execBistSlotEnd_goes {slot : Fin 4} {fails : List BistUnit} {s : State} : Goes (execBistSlotEnd slot fails s) := by
  unfold execBistSlotEnd
  dsimp only
  (repeat' split) <;> exact Goes.next

theorem execImageCheckDone_goes {sigOk headerOk fits : Bool} {svn : BitVec 16} {s : State} : Goes (execImageCheckDone sigOk headerOk fits svn s) := by
  unfold execImageCheckDone
  dsimp only
  (repeat' split) <;> exact Goes.next

theorem execStoPathTest_goes {gateFail : Option (Fin 28)} {inputFail : Option StoInput} {s : State} : Goes (execStoPathTest gateFail inputFail s) := by
  unfold execStoPathTest
  dsimp only
  (repeat' split) <;> exact Goes.next

theorem execDeferredStoTest_goes {inputFail : Option StoInput} {s : State} : Goes (execDeferredStoTest inputFail s) := by
  unfold execDeferredStoTest
  refine Goes.ite Goes.next ?_
  split <;> exact Goes.next

theorem execDeferredSetStoTest_goes {x : Fin 4} {gateFail : Option (Fin 28)} {s : State} : Goes (execDeferredSetStoTest x gateFail s) := by
  unfold execDeferredSetStoTest
  refine Goes.ite Goes.next ?_
  split <;> exact Goes.next

theorem execDuskWaitCross_goes  {s : State} : Goes (execDuskWaitCross s) := by
  unfold execDuskWaitCross
  split <;> exact Goes.next

theorem execPwmEdge_goes {x : Fin 4} {k : Fin 3} {corrupt : Option (Option Bool × Option Bool)} {s : State} : Goes (execPwmEdge x k corrupt s) := by
  unfold execPwmEdge
  dsimp only
  (repeat' split) <;> exact Goes.next

theorem execConfirmedOff_goes {n : Fin 28} {frame : Option Bool} {gs : Rat} {s : State} : Goes (execConfirmedOff n frame gs s) := by
  unfold execConfirmedOff
  dsimp only
  (repeat' split) <;> exact Goes.next

theorem execChopCheck_goes {x : Fin 4} {before : Vector Rat 8} {after : List Rat} {s : State} : Goes (execChopCheck x before after s) := by
  unfold execChopCheck
  dsimp only
  (repeat' split) <;> exact Goes.next

theorem execUpdateRequest_goes {x : Fin 4} {s : State} : Goes (execUpdateRequest x s) := by
  unfold execUpdateRequest
  split
  · exact Goes.next
  · exact Goes.ite Goes.next Goes.next

theorem execInlineTrigger_goes {x : Fin 4} {s : State} : Goes (execInlineTrigger x s) := by
  unfold execInlineTrigger
  dsimp only
  (repeat' split) <;> exact Goes.next

theorem execInlineDelivery_goes {x : Fin 4} {ps : Raw3} {busy : BitVec 16} {err : Option LaneErr} {s : State} : Goes (execInlineDelivery x ps busy err s) := by
  unfold execInlineDelivery
  dsimp only
  (repeat' split) <;> exact Goes.next

theorem execOffsetMeasurementEnd_goes {x : Fin 4} {vals : List (Time × Raw3)} {s : State} : Goes (execOffsetMeasurementEnd x vals s) := by
  unfold execOffsetMeasurementEnd
  dsimp only
  (repeat' split) <;> exact Goes.next

theorem execGround_goes {x : Fin 4} {s : State} : Goes (execGround x s) := by
  unfold execGround
  dsimp only
  (repeat' split) <;> exact Goes.next

theorem execLoomScrub_goes {addr : BitVec 16} {hit : ScrubHit} {s : State} : Goes (execLoomScrub addr hit s) := by
  unfold execLoomScrub
  split <;> exact Goes.next

theorem execInjectionPeriodEnd_goes {a : Fin 4} {s : State} : Goes (execInjectionPeriodEnd a s) := by
  unfold execInjectionPeriodEnd
  dsimp only
  (repeat' split) <;> exact Goes.next

theorem execPolarityPulseEnd_goes {a : Fin 4} {ripple : Rat} {s : State} : Goes (execPolarityPulseEnd a ripple s) := by
  unfold execPolarityPulseEnd
  dsimp only
  (repeat' split) <;> exact Goes.next

theorem execTerminalMeasurementSample_goes {a : Fin 4} {s : State} : Goes (execTerminalMeasurementSample a s) := by
  unfold execTerminalMeasurementSample
  split
  · exact Goes.next
  · exact Goes.ite Goes.next Goes.next

theorem execTerminalMeasurementEnd_goes {a : Fin 4} {s : State} : Goes (execTerminalMeasurementEnd a s) := by
  unfold execTerminalMeasurementEnd
  split <;> exact Goes.next

theorem execStartTmo_goes {a : Fin 4} {s : State} : Goes (execStartTmo a s) := by
  unfold execStartTmo
  dsimp only
  (repeat' split) <;> exact Goes.next

theorem execShockWindowEnd_goes {a : Fin 4} {s : State} : Goes (execShockWindowEnd a s) := by
  unfold execShockWindowEnd
  dsimp only
  (repeat' split) <;> exact Goes.next

theorem execSlack_goes {a : Fin 4} {s : State} : Goes (execSlack a s) := by
  unfold execSlack
  dsimp only
  (repeat' split) <;> exact Goes.next

theorem execShedSlot_goes {a : Fin 4} {s : State} : Goes (execShedSlot a s) := by
  unfold execShedSlot
  (repeat' split) <;> exact Goes.next

theorem execEncoderEdge_goes {n : Fin 4} {la lb : Bool} {s : State} : Goes (execEncoderEdge n la lb s) := by
  unfold execEncoderEdge
  dsimp only
  (repeat' split) <;> exact Goes.next

theorem execSerialWord_goes {n : Fin 4} {v : SerialIn} {s : State} : Goes (execSerialWord n v s) := by
  unfold execSerialWord
  dsimp only
  (repeat' split) <;> exact Goes.next

theorem execProfileEvaluation_goes {c : Fin 8} {s : State} : Goes (execProfileEvaluation c s) := by
  unfold execProfileEvaluation
  dsimp only
  (repeat' split) <;> exact Goes.next

theorem execRefCheck_goes {c : Fin 8} {s : State} : Goes (execRefCheck c s) := by
  unfold execRefCheck
  dsimp only
  (repeat' split) <;> exact Goes.next

theorem execSealFlashDone_goes {written : Bool} {s : State} : Goes (execSealFlashDone written s) := by
  unfold execSealFlashDone
  dsimp only
  (repeat' split) <;> exact Goes.next

theorem execClassification_goes {n : Fin 4} {primaryOk shadowOk checkerOk : Bool} {s : State} : Goes (execClassification n primaryOk shadowOk checkerOk s) := by
  unfold execClassification
  dsimp only
  (repeat' split) <;> exact Goes.next

theorem execStarted_goes {n : Fin 4} {w : Writer} {copyOk : Bool} {s : State} : Goes (execStarted n w copyOk s) := by
  unfold execStarted
  dsimp only
  (repeat' split) <;> exact Goes.next

theorem execTcmDue_goes {n : Fin 4} {half : Fin 2} {s : State} : Goes (execTcmDue n half s) := by
  unfold execTcmDue
  dsimp only
  (repeat' split) <;> exact Goes.next

theorem execScopeCaptureDone_goes {dmaOk : Bool} {s : State} : Goes (execScopeCaptureDone dmaOk s) := by
  unfold execScopeCaptureDone
  dsimp only
  (repeat' split) <;> exact Goes.next

theorem execResetStart_goes  {s : State} : Goes (execResetStart s) := by
  unfold execResetStart
  split <;> exact Goes.next

theorem execChainTimeout_goes {n : Fin 16} {s : State} : Goes (execChainTimeout n s) := by
  unfold execChainTimeout
  split
  · exact Goes.next
  · exact Goes.ite Goes.next Goes.next

theorem execRingError_goes {r : Ring} {s : State} : Goes (execRingError r s) := by
  unfold execRingError
  (repeat' split) <;> exact Goes.next

theorem execData_goes {p : Fin 4} {r : FrameRx} {s : State} : Goes (execData p r s) := by
  unfold execData
  refine Goes.ite Goes.next ?_
  split <;> exact Goes.next

theorem execDelayResp_goes {p : Fin 4} {arrival departure : Time} {s : State} : Goes (execDelayResp p arrival departure s) := by
  unfold execDelayResp
  refine Goes.ite Goes.next ?_
  split <;> exact Goes.next

theorem execEchoResp_goes {p : Fin 4} {q : Packet} {s : State} : Goes (execEchoResp p q s) := by
  unfold execEchoResp
  dsimp only
  (repeat' split) <;> exact Goes.next

theorem execParentLoss_goes  {s : State} : Goes (execParentLoss s) := by
  unfold execParentLoss
  (repeat' split) <;> exact Goes.next

theorem execCanTxDone_goes {c : Fin 4} {s : State} : Goes (execCanTxDone c s) := by
  unfold execCanTxDone
  dsimp only
  (repeat' split) <;> exact Goes.next

theorem execCanError_goes {c : Fin 4} {e : CanErr} {s : State} : Goes (execCanError c e s) := by
  unfold execCanError
  dsimp only
  (repeat' split) <;> exact Goes.next

theorem execTestEnd_goes  {s : State} : Goes (execTestEnd s) := by
  unfold execTestEnd
  split <;> exact Goes.next

/-! ### The registers that stand for a command -/

theorem execCheck_goes {n : Fin 4} {w : Writer} {silent : Bool} {s : State} : Goes (execCheck n w silent s) :=
  Goes.ite Goes.next (Goes.ite Goes.next Goes.next)

theorem lckCmd_goes {w : Writer} {n : Fin 4} {v : Word} {s : State} : Goes (lckCmd w n v s) :=
  Goes.ite Goes.next ((Goes.onBit execStarted_goes).andThen fun _ => Goes.onBit execCheck_goes)

theorem fbiCtrl_goes {w : Writer} {n : Fin 4} {v : Word} {s : State} : Goes (fbiCtrl w n v s) :=
  (((Goes.onBit Goes.access).andThen fun _ => Goes.onBit Goes.access).andThen fun _ => Goes.onBit Goes.access).andThen
    fun _ => Goes.onBit Goes.access

theorem prgCtrl_goes {w : Writer} {c : Fin 8} {v : Word} {s : State} : Goes (prgCtrl w c v s) :=
  (((Goes.onBit Goes.access).andThen fun _ => Goes.onBit Goes.access).andThen fun _ => Goes.onBit Goes.access).andThen
    fun _ => Goes.onBit Goes.access

theorem execSqTail_goes {n : Fin 16} {v : BitVec 12} {l : List Slot} {s : State} : Goes (execSqTail n v l s) :=
  Goes.ite Goes.next (Goes.ite Goes.next (Goes.ite Goes.next (Goes.ite Goes.next Goes.next)))

theorem execCqHead_goes {n : Fin 16} {v : BitVec 12} {s : State} : Goes (execCqHead n v s) :=
  Goes.ite Goes.next (Goes.ite Goes.next Goes.next)

theorem doorbellWrite_goes {w : Writer} {a : Nat} {v : Word} {s : State} : Goes (doorbellWrite w a v s) :=
  Goes.andThen (Goes.ite execSqTail_goes execCqHead_goes) fun _ => Goes.next

theorem ringCfgWrite_goes {w : Writer} {row : RegRow} {r : Ring} {v : Word} {s : State} : Goes (ringCfgWrite w row r v s) :=
  Goes.access.andThen fun _ => Goes.ite Goes.next (Goes.ite Goes.ringWrite (Goes.ite Goes.ringWrite Goes.next))

/-- A command that a register may stand for goes on. -/
def GoesActs (o : Option Res) : Prop := ∀ r, o = some r → Goes r

theorem GoesActs.some {r : Res} (h : Goes r) : GoesActs (some r) := by
  rintro _ ⟨⟩
  exact h

theorem GoesActs.map {α : Type} {o : Option α} {f : α → Res} (h : ∀ a, Goes (f a)) : GoesActs (o.map f) := by
  cases o with
  | none => rintro _ ⟨⟩
  | some a => exact GoesActs.some (h a)

theorem GoesActs.ite {a b : Option Res} {c : Prop} [Decidable c] (ha : GoesActs a) (hb : GoesActs b) :
    GoesActs (if c then a else b) := by split <;> assumption

theorem actOn_goes {w : Writer} {row : RegRow} {a : Nat} {v : Word} {s : State} : GoesActs (actOn w row a v s) := by
  unfold actOn
  extract_lets set
  have hdoor : Goes (if s.barred w then s.access w a v id else doorbellWrite w a v s) := Goes.access.ite doorbellWrite_goes
  have hmode : Goes (if v.toNat % 8 = 1 then execModereqDusk w s else if v.toNat % 8 = 2 then execModereqServiceEnter w s
      else if v.toNat % 8 = 3 then execModereqServiceLeave w s else .next s) :=
    Goes.modeReq.ite (Goes.modeReq.ite (Goes.modeReq.ite Goes.next))
  refine (GoesActs.some Goes.access).ite <| (GoesActs.some hmode).ite <| (GoesActs.some Goes.access).ite <|
    (GoesActs.map fun _ => lckCmd_goes).ite <| (GoesActs.some Goes.access).ite <| (GoesActs.some Goes.access).ite <|
    (GoesActs.some (Goes.onBit Goes.access)).ite <| (GoesActs.some (Goes.onBit Goes.access)).ite <|
    (GoesActs.some ((Goes.onBit Goes.access).andThen fun _ => Goes.onBit Goes.access)).ite <|
    (GoesActs.some fbiCtrl_goes).ite <| (GoesActs.some Goes.access).ite <| (GoesActs.some prgCtrl_goes).ite <|
    (GoesActs.some hdoor).ite <| (GoesActs.some Goes.access).ite <| (GoesActs.some (Goes.onBit Goes.access)).ite <|
    (GoesActs.map fun _ => ringCfgWrite_goes).ite ?_
  rintro _ ⟨⟩

theorem State.writeReg_goes {s : State} {w : Writer} {a : Nat} {v hw : Word} : Goes (s.writeReg w a v hw) := by
  unfold State.writeReg
  split
  · exact Goes.next
  · next row _ =>
    refine Goes.ite Goes.next (Goes.ite Goes.next ?_)
    cases ho : actOn w row a v s with
    | none => exact Goes.next
    | some r => exact actOn_goes r ho

theorem execRegisterWrite_goes {w : Writer} {a v hw : Word} {size : Nat} {s : State} : Goes (execRegisterWrite w a v size hw s) :=
  Goes.ite Goes.next (Goes.ite Goes.next (Goes.ite Goes.next (Goes.ite Goes.next State.writeReg_goes)))

/-- A command goes on: under the guard of a descriptor, of a register write or of the console; with no guard; under guards
of its own; or in every branch of its rule. -/
theorem exec_goes (c : Instr) (s : State) : Goes (exec c s) := by
  unfold exec
  cases c with
  | stageOpen | sealStaging | stageAbort | nop | paramRead | paramWrite | refSet | move | stop | profileSelect |
  profileStore | axisEnable | axisDisable | scopeArm | logRead | canSend | weftSend | deviceReset | stoTest |
  imageWrite | imageCommit | heaveStream | userOpcode =>
    exact Goes.dispatch
  | modereqServiceEnter | modereqServiceLeave | phaseWrite | mfeSupplyRestart | kat | learn | learnAbort |
  cmpWrite | load | loadZ | turnZero | cmpDisarm | halt | engage | disengage | setPos | sysReset | rtcWrite |
  abort | pop =>
    exact Goes.access
  | status | rd | wr | par | log | logSeq | atest | atestOff | service | serviceExit | dusk | dawnRetry | reset |
  gdc | gdcSelftest | gdcPulse | gdcDead | psp | pspSctest | chopTest | cross | pwm | pwmSkew | pwmRun | mfe |
  mfeZero | mfeXc | mfeSupplyOn | loom | loomKat | loomTime | pos | posTerm | posInj | posLearn | spd | spdLim |
  lsh | lshMembers | lshDrop | fbi | fbiWatch | fbiLoop | fbiCmp | pt | prg | prgLim | prgJog | sfi | sfiAx |
  sfiSto | sfiTest | sfiList | sfiSeal | si | so | sc | lck | lckCheck | lckHist | hif | hifSq | hifCq | hifNop |
  wft | wftPort | wftRoute | wftPing | wftReinit | can | canLoop | canRx | thm =>
    exact Goes.conRun
  | resetNAssert | resetNRelease | perstNAssert | linkDown | journalRewrite | serviceIdle | segmentChange |
  linkLost | ssiLinkLost | gdcTestStart | blankingEnd | ov3FlagClear | chopMinTime | terminalSample |
  sensorSupplyOverload | ntcSample | ventEnd | amp | cmpPulseEnd | stoInputFall | stoInputRise | stoTestDue |
  stoTestOverdue | stOvl | safetyFrameCopy | machineTimer | mtimeLoRead | claim | defend | arbitrationLost |
  txDominantTimeout | perstNRelease | egressFrameSent =>
    exact Goes.next
  | lockoutRelease | wakeTimer | deepNightEntry | vbatCheck | functionLevelReset | enFall | islandGroupStart |
  bootSectionComplete | profileLoad | flashRefresh | refreshDeferTimeout | duskStopMax | duskFlushDone |
  islandCommand | clampEngage | interlockRelease | offTimeout | plateauArm | plateauLow | islandLinkLoss |
  scDwellEnd | ov3Trip | ov3Hold | dcLinkSample | ov2React | uv | chopShort | crossOpenStart | updateBoundary |
  safetyGap | stuck | sdclk | sdInputRecover | sensorSupplyUp | dcDiverge | dcDivergeClear | shuntOffsetTrack |
  overrun | laneParamReload | setClockRestart | injectionStop | lockLost | zeroUpd | terminalMeasurementStart |
  resumeRampEnd | attemptReset | positionLoopTick | holdZeroEnd | tOffRampEnd | stopTmo | overspeed | heaveStall |
  shedCycleStart | leadFrame | report | faultNotice | shedApply | shareRampEnd | portSample | stepInputEdge |
  speedWindowEnd | wire | exc | fbSupply | limit | stall | stoDisc | tSs1 | tStoAfterSbc | tSlsEntry |
  safetyCycleOverrun | sealCheck | islandScrub | stagingTimeout | siFilterPass | disc | stRetry | outputPulse |
  overload | supply | safetyFrameTx | single | wdExp | restartTmo | checkerSelfCheck | parity | cqSignalTimer |
  hostLost | retrain | weftLink | helloTimeout | hello | helloSend | defendTimer | route | routeSend | routeAge |
  fragTmo | syncSend | delayReq | delayReqSend | ctxAge | canFrameRx | canBusOn | thmEvaluation | journalWrite |
  consoleAbort | linkUp | flashOperationComplete | conflictWait | protocolException | canIntegration =>
    exact Goes.ite Goes.next Goes.next
  | nightDomainLoss | enRise | pllLock | pllLockTimeout | strapSample | modereqDusk | gdcTestDone | scTrip |
  ocTrip | shuntTrigger | zeroSpeed | indexMark | serialReadRequest | safetyCycle | safeInputSample | testPulse |
  check | debugAttach | cqHead | configRequest | claimTimer | echoReq =>
    exact Goes.ite Goes.next (Goes.ite Goes.next Goes.next)
  | lockstepMismatch =>
    exact Goes.ite (Goes.ite Goes.next Goes.next) Goes.next
  | lockoutFlushEnd | vinReturn | imageStartDeadline | katDone | speedLoopPeriod | ringEnable | ringDisable |
  funcReinitSq | funcReinitCq | funcReinitCan | funcReinitWeftPort | funcReinitFeedbackPort | funcReinitLane =>
    exact Goes.ite Goes.next (Goes.ite Goes.next (Goes.ite Goes.next Goes.next))
  | sqTail | badOpcode | trainingSet | sync | consoleChar =>
    exact Goes.ite Goes.next (Goes.ite Goes.next (Goes.ite Goes.next (Goes.ite Goes.next Goes.next)))
  | registerWrite => exact execRegisterWrite_goes
  | lockoutTrip => exact execLockoutTrip_goes
  | wakeN => exact execWakeN_goes
  | islandGroupTimeout => exact execIslandGroupTimeout_goes
  | bistSlotEnd => exact execBistSlotEnd_goes
  | imageCheckDone => exact execImageCheckDone_goes
  | stoPathTest => exact execStoPathTest_goes
  | deferredStoTest => exact execDeferredStoTest_goes
  | deferredSetStoTest => exact execDeferredSetStoTest_goes
  | duskWaitCross => exact execDuskWaitCross_goes
  | pwmEdge => exact execPwmEdge_goes
  | confirmedOff => exact execConfirmedOff_goes
  | chopCheck => exact execChopCheck_goes
  | updateRequest => exact execUpdateRequest_goes
  | inlineTrigger => exact execInlineTrigger_goes
  | inlineDelivery => exact execInlineDelivery_goes
  | offsetMeasurementEnd => exact execOffsetMeasurementEnd_goes
  | ground => exact execGround_goes
  | loomScrub => exact execLoomScrub_goes
  | injectionPeriodEnd => exact execInjectionPeriodEnd_goes
  | polarityPulseEnd => exact execPolarityPulseEnd_goes
  | terminalMeasurementSample => exact execTerminalMeasurementSample_goes
  | terminalMeasurementEnd => exact execTerminalMeasurementEnd_goes
  | startTmo => exact execStartTmo_goes
  | shockWindowEnd => exact execShockWindowEnd_goes
  | slack => exact execSlack_goes
  | shedSlot => exact execShedSlot_goes
  | encoderEdge => exact execEncoderEdge_goes
  | serialWord => exact execSerialWord_goes
  | profileEvaluation => exact execProfileEvaluation_goes
  | refCheck => exact execRefCheck_goes
  | sealFlashDone => exact execSealFlashDone_goes
  | classification => exact execClassification_goes
  | started => exact execStarted_goes
  | tcmDue => exact execTcmDue_goes
  | scopeCaptureDone => exact execScopeCaptureDone_goes
  | resetStart => exact execResetStart_goes
  | chainTimeout => exact execChainTimeout_goes
  | ringError => exact execRingError_goes
  | data => exact execData_goes
  | delayResp => exact execDelayResp_goes
  | echoResp => exact execEchoResp_goes
  | parentLoss => exact execParentLoss_goes
  | canTxDone => exact execCanTxDone_goes
  | canError => exact execCanError_goes
  | testEnd => exact execTestEnd_goes

/-- Settles O60: every command goes on, whatever guards it. -/
theorem noCommandStops : Obligations.NoCommandStops := by
  unfold Obligations.NoCommandStops
  exact exec_goes

end Sys2Proof.Machine
end

section
namespace Sys2Proof.Machine

/-! ## Starts and learning -/

/-- Settles O18, clause by clause. -/
theorem startAndLearning : Obligations.StartAndLearning := by
  unfold Obligations.StartAndLearning
  refine ⟨?_, ?_, ?_, ?_, ?_, ?_, ?_, ?_, ?_, ?_⟩
  · intro a s he hg hw hm
    simp only [exec_terminalMeasurementStart, execTerminalMeasurementStart, he, hg, hw, hm]
    rfl
  · intro a m s hm
    constructor
    · simp only [exec_terminalMeasurementSample, execTerminalMeasurementSample, hm]
      split <;> rfl
    · simp only [exec_terminalMeasurementEnd, execTerminalMeasurementEnd, hm]
  · intro a s hr
    simp only [exec_resumeRampEnd, execResumeRampEnd, hr, Bool.and_false]
    rfl
  · intro a s hf hr
    simp only [exec_resumeRampEnd, execResumeRampEnd, hf, hr]
    rfl
  · intro a s hs hl hc
    simp only [exec_attemptReset, execAttemptReset, hs, hl, hc]
    rfl
  · intro a s ho
    simp only [exec_startTmo, execStartTmo, ho]
    split <;> rfl
  · intro a st s ho hs ha hr hc
    simp only [exec_startTmo, execStartTmo, ho, hs, ha, hr, hc]
    rfl
  · intro a st s ho hs hst hsh hf hr
    have hasc : (st.asc && st.result.isNone) = false := by
      rcases hst with h | h
      · simp [h]
      · simp [Option.isNone_eq_false_iff, Option.isSome_iff_ne_none, h]
    simp only [exec_startTmo, execStartTmo, ho, hs, hasc, hsh, hf, hr]
    rfl
  · intro w a s hw hf
    simp [execLearn, State.access_writable _ _ hw, hf]
  · intro w a s hw
    simp only [exec_learnAbort, execLearnAbort, State.access_writable _ _ hw]
    rfl

end Sys2Proof.Machine
end

section
namespace Sys2Proof.Machine

/-! ## The speed loop -/

theorem State.regs_regenRamp (s : State) (a : Fin 4) : (s.regenRamp a).2.regs = s.regs :=
  foldl_keeps (P := fun t : State => t.regs = s.regs) (fun _ _ ht => ht) rfl

/-- The factors of a period go into SPD_FACT and into the bits of SPD_STATE from DERATE on. -/
theorem State.fld_latchFactors (s : State) (a : Fin 4) {f : Field} (hf : f.addr ≠ Reg.SPD_FACT a)
    (hs : f.addr ≠ Reg.SPD_STATE a ∨ f.lo + f.width ≤ 4) : (s.latchFactors a).fld f = s.fld f := by
  have hst {n : Nat} (hn : 4 ≤ n) {w : Nat} :
      f.addr ≠ Reg.SPD_STATE a ∨ f.lo + f.width ≤ n ∨ n + w ≤ f.lo := hs.imp_right fun h => .inl (h.trans hn)
  unfold State.latchFactors
  extract_lets kth
  rcases hr : s.regenRamp a with ⟨krg, t⟩
  have ht : t.regs = s.regs := by simpa only [hr] using s.regs_regenRamp a
  dsimp only
  rw [State.setFlag, State.setFlag, State.setFlag, State.fld_setFld_other _ _ (hst (n := 6) (by decide)),
    State.fld_setFld_other _ _ (hst (n := 4) (by decide)), State.fld_setFld_other _ _ (hst (n := 5) (by decide)), State.fld_setFld_reg _ _ hf,
    State.fld_setFld_reg _ _ hf, State.fld_setFld_reg _ _ hf, State.fld, State.fld, State.reg, State.reg, State.modSpd_regs, ht]

theorem State.fld_speedFilter (s : State) (a : Fin 4) {f : Field} (hn : f.addr ≠ Reg.SPD_NACT a) :
    (s.speedFilter a).fld f = s.fld f := by
  unfold State.speedFilter
  extract_lets t tf w u n fast
  rw [State.fld, State.reg_setReg_other _ _ hn]
  rfl

/-- What a speed loop period does before its loop (R308, R311). -/
def State.speedPrelude (s : State) (a : Fin 4) : State :=
  (((s.speedFilter a).latchFactors a).latchLoad a).modSpd a fun q => { q with gone := false }

theorem State.regs_speedPrelude (s : State) (a : Fin 4) : (s.speedPrelude a).regs = ((s.speedFilter a).latchFactors a).regs := rfl

/-- It changes neither the state of the axis nor its part in a group. -/
theorem State.fld_speedPrelude (s : State) (a : Fin 4) {f : Field} (hn : f.addr ≠ Reg.SPD_NACT a) (hf : f.addr ≠ Reg.SPD_FACT a)
    (hs : f.addr ≠ Reg.SPD_STATE a ∨ f.lo + f.width ≤ 4) : (s.speedPrelude a).fld f = s.fld f := by
  rw [← s.fld_speedFilter a hn, ← (s.speedFilter a).fld_latchFactors a hf hs, State.fld, State.reg, s.regs_speedPrelude]
  rfl

theorem State.axState_speedPrelude (s : State) (a : Fin 4) : (s.speedPrelude a).axState a = s.axState a :=
  s.fld_speedPrelude a (by decide +revert) (by decide +revert) (.inr (by decide +revert))

theorem State.isFollower_speedPrelude (s : State) (a : Fin 4) : (s.speedPrelude a).isFollower a = s.isFollower a := by
  have hfld (f : Field) (h : f.addr ≠ Reg.SPD_NACT a ∧ f.addr ≠ Reg.SPD_FACT a ∧ f.addr ≠ Reg.SPD_STATE a) :
      (s.speedPrelude a).fld f = s.fld f := s.fld_speedPrelude a h.1 h.2.1 (.inl h.2.2)
  simp only [State.isFollower, State.isShared, State.flag, hfld (Fld.LSH_CFG_SHARED a) (by clear hfld; decide +revert),
    hfld (Fld.LSH_STATE_ROLE a) (by clear hfld; decide +revert)]

theorem exec_speedLoopPeriod_prelude {s : State} {a : Fin 4} (hw : s.awake = true) (he : s.axisExists a = true) :
    exec (.speedLoopPeriod a) s = .next (
      if s.axState a = AxSt.RUNNING ∨ s.axState a = AxSt.STOPPING then
        if s.isFollower a then (s.speedPrelude a).followLoop a else (s.speedPrelude a).speedLoop a
      else s.speedPrelude a) := by
  rw [exec_speedLoopPeriod, execSpeedLoopPeriod, hw, he]
  change (if !((s.speedPrelude a).axState a == AxSt.RUNNING || (s.speedPrelude a).axState a == AxSt.STOPPING) then
    Host.Outcome.next (s.speedPrelude a) else if (s.speedPrelude a).isFollower a then .next ((s.speedPrelude a).followLoop a)
      else .next ((s.speedPrelude a).speedLoop a)) = _
  rw [s.axState_speedPrelude, s.isFollower_speedPrelude]
  simp only [Bool.not_eq_true', Bool.or_eq_false_iff, beq_eq_false_iff_ne]
  by_cases hst : s.axState a = AxSt.RUNNING ∨ s.axState a = AxSt.STOPPING
  · rw [if_neg (by tauto), if_pos hst]
    split <;> rfl
  · rw [if_pos (by tauto), if_neg hst]

theorem State.modSpd_spd_same (s : State) (a : Fin 4) (f : SpdAx → SpdAx) : (s.modSpd a f).spd[a] = f s.spd[a] := by
  simp [State.modSpd]

/-- A shock window that ends (R317). -/
theorem State.endShock_open {s : State} {a : Fin 4} (h : s.spd[a].shock.isSome = true) :
    (s.endShock a).spd[a].shock = none ∧ (s.endShock a).spd[a].winEnd = some s.weft ∧
      (s.endShock a).flag (Fld.SPD_STATE_YIELD a) = false := by
  obtain ⟨w, hw⟩ := Option.isSome_iff_exists.mp h
  simp only [State.endShock, hw]
  refine ⟨?_, ?_, ?_⟩
  · simp only [State.setFld_spd, State.setFlag_spd, State.modSpd_spd_same]
  · simp only [State.setFld_spd, State.setFlag_spd, State.modSpd_spd_same]
  · rw [State.flag_setFld_other _ _ (.inl (by clear hw h; decide +revert))]
    exact State.flag_setFlag _ false (by clear hw h; decide +revert) (by clear hw h; decide +revert)

/-- A ventilation that ends (R319). -/
theorem State.endVent_open {s : State} {a : Fin 4} (h : s.spd[a].vent.isSome = true) :
    (s.endVent a).spd[a].vent = none ∧ (s.endVent a).flag (Fld.SPD_STATE_VENT a) = false ∧
      (s.endVent a).flag (Fld.SPD_STATE_VGUARD a) = false := by
  obtain ⟨v, hv⟩ := Option.isSome_iff_exists.mp h
  simp only [State.endVent, hv]
  refine ⟨?_, ?_, ?_⟩
  · simp only [State.setFld_spd, State.setFlag_spd, State.modSpd_spd_same]
  · rw [State.flag_setFld_other _ _ (.inl (by clear hv h; decide +revert)),
      State.flag_setFlag_other _ _ (.inr (by clear hv h; decide +revert))]
    exact State.flag_setFlag _ false (by clear hv h; decide +revert) (by clear hv h; decide +revert)
  · rw [State.flag_setFld_other _ _ (.inl (by clear hv h; decide +revert))]
    exact State.flag_setFlag _ false (by clear hv h; decide +revert) (by clear hv h; decide +revert)

theorem isSome_of_any {α : Type} {o : Option α} {p : α → Bool} (h : o.any p = true) : o.isSome = true := by
  cases o with
  | none => exact h
  | some _ => rfl

/-- Settles O19, clause by clause. -/
theorem speedLoop : Obligations.SpeedLoop := by
  unfold Obligations.SpeedLoop
  refine ⟨?_, ?_, ?_, ?_, ?_, ?_, ?_, ?_, ?_, ?_, ?_, ?_, ?_, ?_, ?_, ?_, ?_, ?_, ?_, ?_, ?_, ?_, ?_, ?_⟩
  · intro a s hw he hst hf
    rw [exec_speedLoopPeriod_prelude hw he, if_pos hst, if_neg (ne_true_of_eq_false hf)]
    rfl
  · intro a s hw he hst hf
    rw [exec_speedLoopPeriod_prelude hw he, if_pos hst, if_pos hf]
    rfl
  · intro a s hw he hst
    rw [exec_speedLoopPeriod_prelude hw he, if_neg (by rw [hst]; decide)]
    rfl
  · rintro a n s hw he hm hst hf hc rfl
    have hact : (s.axState a == AxSt.RUNNING || s.axState a == AxSt.STOPPING) = true := by simpa using hst
    simp only [exec_positionLoopTick, execPositionLoopTick, hw, he, hm, hact, hf, hc, if_false]
    simp
  · intro a s hr
    rcases hr with h | h | h
    · simp [execZeroSpeed, h]
    · simp only [exec_zeroSpeed, execZeroSpeed, h, Bool.or_true, Bool.true_or, if_true]
    · simp only [exec_zeroSpeed, execZeroSpeed, h, Bool.not_false, Bool.or_true, if_true]
  · intro a s hst hz hh hp
    simp only [exec_zeroSpeed, execZeroSpeed, hst, hz, hh, hp]
    rfl
  · intro a s hst hz hh hp
    simp only [exec_zeroSpeed, execZeroSpeed, hst, hz, hh, hp]
    rfl
  · intro a s hst hh
    simp only [exec_holdZeroEnd, execHoldZeroEnd, hst, hh]
    rfl
  · intro a s hst ho
    simp only [exec_tOffRampEnd, execTOffRampEnd, hst, ho]
    rfl
  · intro a s ho
    simp only [exec_tOffRampEnd, execTOffRampEnd, ho, Bool.and_false]
    rfl
  · intro a s hst ho
    simp only [exec_stopTmo, execStopTmo, hst, ho]
    rfl
  · intro a s ho
    simp only [exec_stopTmo, execStopTmo, ho, Bool.and_false]
    rfl
  · intro a s hn
    simp only [exec_overspeed, execOverspeed, hn, if_true]
  · intro a s ho
    simp only [exec_shockWindowEnd, execShockWindowEnd, ho]
    rfl
  · intro a s ho hp
    obtain ⟨hshock, hend, hyield⟩ := s.endShock_open (isSome_of_any ho)
    refine ⟨(s.endShock a).modSpd a fun q => { q with relAt := some (s.weft, s.p26 4 a), acc := 0 }, ?_, ?_, ?_, ?_, ?_⟩
    · simp only [exec_shockWindowEnd, execShockWindowEnd, ho, hp]
      rfl
    · rw [State.modSpd_spd_same, hshock]
    · rw [State.modSpd_spd_same, hend]
    · exact hyield
    · rw [State.modSpd_spd_same]
  · intro a quick s ho hp
    simp only [exec_shockWindowEnd, execShockWindowEnd, ho, hp]
    rfl
  · intro a s h
    rcases h with h | h
    · simp only [exec_slack, execSlack, h, Bool.not_false, Bool.or_true, if_true]
    · simp only [exec_slack, execSlack, h, Bool.true_or, if_true]
  · rintro a s u hd hs rfl hact
    simp only [exec_slack, execSlack, hd, hs, hact]
    rfl
  · rintro a s u hd hs rfl hact
    simp only [exec_slack, execSlack, hd, hs, hact]
    rfl
  · rintro a s u hd hs rfl hact hrun
    simp only [exec_slack, execSlack, hd, hs, Bool.not_true, Bool.or_self, Bool.false_eq_true, if_false]
    split
    · next h0 => rw [h0] at hact; omega
    · next h1 => rw [h1] at hact; omega
    · exact if_pos (beq_iff_eq.mpr hrun)
  · intro a s hd
    refine ⟨?_, s.endVent_open (isSome_of_any hd)⟩
    simp only [exec_ventEnd, execVentEnd, hd, when, if_true]
  · intro a s hd
    simp only [exec_ventEnd, execVentEnd, hd, when]
    rfl
  · intro a s hd hn
    simp only [exec_heaveStall, execHeaveStall, hd, hn]
    rfl
  · intro a s hd
    simp only [exec_heaveStall, execHeaveStall, hd, Bool.false_and]
    rfl

end Sys2Proof.Machine
end

section
namespace Sys2Proof.Machine

/-! ## Safe inputs and outputs -/

/-- A pass over a list leaves each of its members as its own step makes it, where no other step takes that back. -/
theorem forAll_each {α : Type} {P : α → State → Prop} {f : α → State → State} (hown : ∀ a t, P a (f a t))
    (hkeep : ∀ a b t, P a t → P a (f b t)) {l : List α} {a : α} (ha : a ∈ l) (s : State) : P a (forAll l f s) := by
  induction l generalizing s with
  | nil => cases ha
  | cons b r ih =>
    rcases List.mem_cons.mp ha with rfl | hr
    · exact foldl_keeps (P := P a) (b := f a s) (fun t b ht => hkeep a b t ht) (hown a s)
    · exact ih hr (f b s)

theorem State.modSi_si (s : State) (m n : Fin 16) (f : SfIn → SfIn) :
    (s.modSi m f).si[n] = if m = n then f s.si[n] else s.si[n] := by
  by_cases h : m = n
  · subst h
    simp [State.modSi]
  · simp [State.modSi, h, Fin.val_ne_of_ne h]

theorem mem_sixteen (n : Fin 16) : n ∈ sixteen := by decide +revert

/-- A sample shows the level of every input (R462). -/
theorem State.sampleInputs_raw (s : State) (levels : BitVec 16) (n : Fin 16) :
    (s.sampleInputs levels).si[n].raw = levels.getLsbD n.val := by
  refine forAll_each (P := fun (n : Fin 16) t => t.si[n].raw = levels.getLsbD n.val) (fun a t => ?_) (fun a b t ht => ?_) (mem_sixteen n) s
  · rw [State.modSi_si, if_pos rfl]
  · rw [State.modSi_si]
    split
    · next h => rw [h]
    · exact ht

/-- A test pulse that starts marks the inputs it feeds, and nothing else that a register or a source shows. -/
theorem State.markFed_keeps (s : State) (l : List (Fin 16)) :
    let t := forAll l (fun n t => t.modSi n fun i => { i with allHigh := true }) s
    t.tst = s.tst ∧ t.regs = s.regs :=
  foldl_keeps (P := fun t : State => t.tst = s.tst ∧ t.regs = s.regs) (fun _ _ ht => ht) ⟨rfl, rfl⟩

theorem State.markFed_allHigh (s : State) {l : List (Fin 16)} {n : Fin 16} (hn : n ∈ l) :
    (forAll l (fun n t => t.modSi n fun i => { i with allHigh := true }) s).si[n].allHigh = true := by
  refine forAll_each (P := fun (n : Fin 16) t => t.si[n].allHigh = true) (fun a t => ?_) (fun a b t ht => ?_) hn s
  · rw [State.modSi_si, if_pos rfl]
  · rw [State.modSi_si]
    split
    · rfl
    · exact ht

/-- A switch that agrees with its command, or whose command is younger than 100 µs, is left (R469). -/
theorem State.judge_leaves {s : State} {i : Fin 4} {on reads : Bool} {k : Nat}
    (h : s.sys.poweredNs < k + 100_000 ∨ on = reads) : s.judge i on reads k = s := by
  rcases h with h | h <;> simp [State.judge, h]

theorem State.judgePair_leaves {s : State} {i : Fin 4} {outs : BitVec 8}
    (hhi : s.sys.poweredNs < s.so[i].hiAt + 100_000 ∨ s.so[i].hi = outs.getLsbD (2 * i.val))
    (hlo : s.sys.poweredNs < s.so[i].loAt + 100_000 ∨ s.so[i].lo = outs.getLsbD (2 * i.val + 1)) : s.judgePair i outs = s := by
  unfold State.judgePair
  extract_lets o t
  have ht : t = s := State.judge_leaves hhi
  rw [ht]
  exact State.judge_leaves hlo

/-- The state in which the pulse of a test source has just started (R465). -/
def State.startPulse (s : State) (k : Fin 4) : State :=
  { s with tst := s.tst.set k { s.tst[k] with pulse := true, since := s.sys.poweredNs } }

theorem State.startPulse_tst (s : State) (k : Fin 4) :
    (s.startPulse k).tst[k].pulse = true ∧ (s.startPulse k).tst[k].since = s.sys.poweredNs := by
  simp [State.startPulse]

/-- Settles O26, clause by clause. -/
theorem safeInputsAndOutputs : Obligations.SafeInputsAndOutputs := by
  unfold Obligations.SafeInputsAndOutputs
  refine ⟨?_, ?_, ?_, ?_, ?_, ?_, ?_, fun _ _ => rfl, ?_, ?_, ?_, fun l s => s.sampleInputs_raw l, ?_, ?_, ?_, ?_, ?_, ?_, ?_, ?_, ?_⟩
  · intro n level s hr
    simp only [exec_siFilterPass, execSiFilterPass, hr]
    rfl
  · intro i s ho
    simp only [exec_disc, execDisc, ho, Bool.and_false]
    rfl
  · intro i s hr hm hc ho
    simp only [exec_disc, execDisc, hr, bne_iff_ne.mpr hm, bne_iff_ne.mpr hc, ho]
    rfl
  · intro k s hr
    let fed := sixteen.filter fun n => s.feeds n = k.val && s.siMode (pairOf n) != 0
    obtain ⟨htst, hregs⟩ := (s.startPulse k).markFed_keeps fed
    obtain ⟨hpulse, hsince⟩ := s.startPulse_tst k
    refine ⟨forAll fed (fun n t => t.modSi n fun i => { i with allHigh := true }) (s.startPulse k), ?_, ?_, ?_, hregs, ?_⟩
    · simp only [exec_testPulse, execTestPulse, hr]
      rfl
    · rw [htst, hpulse]
    · rw [htst, hsince]
    · rintro n ⟨hf, hm⟩
      exact State.markFed_allHigh _ (List.mem_filter.mpr ⟨mem_sixteen n, by simp [hf, hm]⟩)
  · intro k s hr
    simp only [exec_testPulse, execTestPulse, hr]
    rfl
  · intro n b s hb
    simp only [State.pulseCheck, hb, if_true]
  · intro n b s hb
    simp only [State.pulseCheck, hb]
    rfl
  · intro k s ho
    simp only [exec_stRetry, execStRetry, ho, if_true]
  · intro levels outs s hr hv
    refine ⟨(s.sampleInputs levels).setFld Fld.SFI_SO_STATE_READ outs.toNat, ?_, ?_, s.sampleInputs_raw levels⟩
    · simp only [exec_safeInputSample, execSafeInputSample, hr, hv]
      rfl
    · exact State.fld_setFld _ (by decide) outs.isLt
  · intro levels outs s hr hv
    simp only [exec_safeInputSample, execSafeInputSample, hr, hv]
    rfl
  · intro i outs s hhi hlo
    exact State.judgePair_leaves (.inr hhi.symm) (.inr hlo.symm)
  · intro i outs s hhi hlo
    exact State.judgePair_leaves (.inl hhi) (.inl hlo)
  · intro i on reads k s hk hne
    simp [State.judge, Nat.not_lt.mpr hk, hne]
  · intro n level i k b l outs m p s hr
    simp [execSiFilterPass, execDisc, execTestPulse, execSafeInputSample, execOutputPulse, execOverload, hr]
  · intro n b i s hr hi hc
    simp only [Completes, exec_outputPulse, execOutputPulse, ← hi, hr, hc]
    refine ⟨_, rfl, ?_, ?_, ?_⟩
    · refine State.fld_setFld _ (by dsimp only; omega) ?_
      exact (by decide +revert : (if b = true then 1 else 0) < 2 ^ 1)
    · intro h
      simp [h]
    · intro h
      simp [h]
  · intro i s hr
    simp only [exec_overload, execOverload, hr, if_true]
  · intro s
    rfl
  · intro s hr
    simp only [exec_supply, execSupply, hr]
    rfl
  · intro s hr
    simp only [exec_supply, execSupply, hr]
    rfl

end Sys2Proof.Machine
end

section
namespace Sys2Proof.Machine

/-! ## Core pairs -/

/-- A pair is no stranger to its own commands (R506). -/
theorem stranger_own (n : Fin 4) : (n == 3 && Writer.pair n != .pair 3) = false := by decide +revert

/-- A mismatch in RUN starts the arbitration (R498); what it sets besides depends on the pair. -/
theorem exec_lockstepMismatch_run {s : State} {n : Fin 4} (g : Fin 8) (pc : Word) (h : s.pairState n = PairSt.RUN) :
    let u := ((((s.setFld (Fld.LCK_EVENT_SOURCE n) g.val).setReg (Reg.LCK_MISPC n) pc).setFld (Fld.LCK_STATUS_STATE n)
      PairSt.ARBITRATE).setFlag (Fld.LCK_STATUS_SAFE n) false).startTimer (.restart n)
    exec (.lockstepMismatch n g pc) s = .next (when (n == 3) (fun t => { t with isl := { t.isl with saved := u.sfa } }.setFlag
      Fld.SFI_STATUS_SUSPENDED true) (when (n == 0) (·.setFlag Fld.SVC_STATUS_HWONLY true) u)) := by
  simp only [exec_lockstepMismatch, execLockstepMismatch, h]
  rfl

/-- Three good answers, where the last transient but one is older than an hour, restart the pair (R499, R500). -/
theorem exec_classification_transient {s u v : State} {n : Fin 4} (h : s.pairState n = PairSt.ARBITRATE)
    (hr : (s.cp[n].stamps[1]?.any fun (t : Nat) => decide (s.sys.poweredNs ≤ t + hourNs)) = false)
    (hu : s.modCp n (fun c => { c with stamps := s.sys.poweredNs :: c.stamps }) = u)
    (hv : (u.incSat (Fld.LCK_CNT_TRANS n)).setFld (Fld.LCK_CNT_TRANS_H n)
      (min (u.cp[n].stamps.filter fun t => decide (s.sys.poweredNs ≤ t + hourNs)).length 15) = v) :
    exec (.classification n true true true) s = .next ((when (n == 1) (·.abandonSequences)
      (when (n == 0) (·.failInFlight byCp0 St.UNIT_FAILED) (((when (n == 3) (·.setFld Fld.SFI_STATUS_TRANS_H
        (min (u.cp[n].stamps.filter fun t => decide (s.sys.poweredNs ≤ t + hourNs)).length 15)) v).classify n 1 0).setFld
          (Fld.LCK_STATUS_STATE n) PairSt.RESTART))).attachWaiting n) := by
  subst hu hv
  simp only [exec_classification, execClassification, h, hr]
  rfl

/-- A core that fails its self-test, or a checker that fails the injection, ends the pair (R499). -/
theorem exec_classification_fails {s : State} {n : Fin 4} {p q c : Bool} (h : s.pairState n = PairSt.ARBITRATE)
    (hf : (p && q && c) = false) : exec (.classification n p q c) s = .next (((s.classify n (if p && q then 3 else 2)
      (if !p && !q then 3 else if !p then 1 else if !q then 2 else 7)).failPair n (p && q)).attachWaiting n) := by
  simp only [exec_classification, execClassification, h, hf]
  rfl

/-- Settles O29, clause by clause. -/
theorem corePairs : Obligations.CorePairs := by
  unfold Obligations.CorePairs
  refine ⟨?_, ?_, ?_, ?_, ?_, ?_, ?_, ?_, ?_, fun _ => ⟨if_pos rfl, if_neg Bool.false_ne_true⟩, ?_, ?_, ?_, fun _ _ => ⟨if_pos rfl, if_neg Bool.false_ne_true⟩, ?_, ?_, ?_, ?_, ?_, ?_,
    fun _ _ => rfl, fun _ => rfl⟩
  · intro n g pc s h h0 h3
    rw [exec_lockstepMismatch_run g pc h, when, when, if_neg (by simpa using h3), if_neg (by simpa using h0)]
  · intro g pc s h
    exact exec_lockstepMismatch_run g pc h
  · rintro g pc s u h rfl
    exact exec_lockstepMismatch_run g pc h
  · intro n g pc s h
    simp only [exec_lockstepMismatch, execLockstepMismatch, h]
    rfl
  · intro n g pc s h1 h3
    simp [execLockstepMismatch, h1, h3]
  · intro n s h hr
    change (s.cp[n].stamps[1]?.any fun (t : Nat) => decide (s.sys.poweredNs ≤ t + hourNs)) = true at hr
    simp only [exec_classification, execClassification, h, hr]
    rfl
  · intro n s u v h hr hu hv
    exact exec_classification_transient h hr hu hv
  · intro n c s h
    exact ⟨exec_classification_fails h rfl, exec_classification_fails h rfl, exec_classification_fails h rfl,
      exec_classification_fails h rfl⟩
  · intro n b s h hb
    simp only [exec_started, execStarted, hb, stranger_own, h, bne_self_eq_false]
    rfl
  · intro n s h ho
    simp only [exec_restartTmo, execRestartTmo, h, ho]
    rfl
  · intro n s h
    rcases h with h | h
    · simp [execRestartTmo, h]
    · simp [execRestartTmo, h]
  · intro n silent s h hb
    simp only [exec_checkerSelfCheck, execCheckerSelfCheck, exec_check, execCheck, hb, stranger_own, h]
    exact ⟨rfl, rfl⟩
  · intro w silent ok s hw
    simp [execCheck, execStarted, hw]
  · intro n s h
    rcases h with h | h | h <;> simp only [exec_parity, execParity, h] <;> rfl
  · intro n half s h
    rcases h with h | h | h <;> simp only [exec_tcmDue, execTcmDue, h] <;> rfl
  · intro n s h
    simp only [exec_tcmDue, execTcmDue, h]
    exact ⟨rfl, rfl⟩
  · intro n s hd h
    simp [execDebugAttach, hd, h]
  · intro n s hd h
    simp only [exec_debugAttach, execDebugAttach, hd, h]
    rfl

end Sys2Proof.Machine
end

section
namespace Sys2Proof.Machine

/-! ## Images, flash operations, and the host -/

/-- What an IMAGE_WRITE does once it is taken (R534). -/
theorem exec_imageWrite_taken {h : Desc} {src : BitVec 64} {off len : Word} {ur ok b : Bool} {s r : State}
    (ht : s.takes h 0x1B = true) (hr : s.taken h 0x1B = r) : exec (.imageWrite h src off len ur ok b) s = .next (
      if r.imageDenied then r.complete h 0x1B St.MODE_DENIED
      else if len.toNat = 0 || 0x1_0000 < len.toNat || len.toNat % 4096 ≠ 0 || off.toNat % 4096 ≠ 0 then
        r.complete h 0x1B St.BAD_FIELD
      else if ur && r.sys.flashBusy == some (.refresh (.image r.otherImage)) then r.complete h 0x1B St.BUSY
      else if !ok then r.complete h 0x1B St.DMA_ERROR
      else ({ r with
        sys := { r.sys with flashBusy := some (r.sys.flashBusy.getD .imageBlock) }
        images := r.images.set (imageIx r.otherImage) { r.images[imageIx r.otherImage] with partly := true } } : State).addFlight
          h 0x1B (if b then 1 else 0)) := by
  rw [exec_imageWrite, execImageWrite, State.dispatch_takes _ ht, hr]

/-- What an IMAGE_COMMIT does once it is taken (R535). -/
theorem exec_imageCommit_taken {h : Desc} {sg hd fits : Bool} {v : BitVec 16} {s r : State} (ht : s.takes h 0x1C = true)
    (hr : s.taken h 0x1C = r) : exec (.imageCommit h sg hd fits v) s = .next (
      if r.imageDenied then r.complete h 0x1C St.MODE_DENIED
      else if r.imageOk r.otherImage sg hd fits v then
        (when (h.sub.getLsbD 0) (fun t => { t with sys := { t.sys with preferFlash := r.otherImage } }.setFlag
          Fld.SYS_BOOT_PREFER r.otherImage) { r.setFlag (imageFail r.otherImage) false with
            images := r.images.set (imageIx r.otherImage) { r.images[imageIx r.otherImage] with svn := v } }).complete h 0x1C St.SUCCESS
      else (r.setFlag (imageFail r.otherImage) true).complete h 0x1C St.IMAGE_FAIL) := by
  rw [exec_imageCommit, execImageCommit, State.dispatch_takes _ ht, hr]
  rfl

/-- Settles O32, clause by clause. -/
theorem hostImagesAndWatchdog : Obligations.HostImagesAndWatchdog := by
  unfold Obligations.HostImagesAndWatchdog
  refine ⟨?_, ?_, ?_, ?_, ?_, ?_, ?_, ?_, ?_, ?_, ?_, ?_, ?_, ?_, ?_, ?_⟩
  · intro h src off len ur b s r ht hr hd h0 hmax hl ho hb
    have hok : (decide (len.toNat = 0) || decide (0x1_0000 < len.toNat) || decide (len.toNat % 4096 ≠ 0) ||
        decide (off.toNat % 4096 ≠ 0)) = false := by simp [h0, Nat.not_lt.mpr hmax, hl, ho]
    constructor <;> simp only [exec_imageWrite_taken ht hr, hd, hok, hb] <;> rfl
  · intro h src off len ok b s r ht hr hd h0 hmax hl ho hb
    simp [exec_imageWrite_taken ht hr, hd, h0, Nat.not_lt.mpr hmax, hl, ho, hb, -exec_imageWrite]
  · intro h src off len ur ok b s r ht hr hd hbad
    have hbad' : (decide (len.toNat = 0) || decide (0x1_0000 < len.toNat) || decide (len.toNat % 4096 ≠ 0) ||
        decide (off.toNat % 4096 ≠ 0)) = true := by simpa [or_assoc] using hbad
    simp only [exec_imageWrite_taken ht hr, hd, hbad']
    rfl
  · intro h src off len ur ok b s r ht hr hd
    rw [exec_imageWrite_taken ht hr, if_pos hd]
  · intro h sg hd fits v s r ht hr hden
    rw [exec_imageCommit_taken ht hr, if_pos hden]
  · intro h sg hd fits v s r ht hr hden hok
    simp only [exec_imageCommit_taken ht hr, hden, hok]
    rfl
  · rintro h sg hd fits v u s r ht hr hden hok rfl
    simp only [exec_imageCommit_taken ht hr, hden, hok]
    rfl
  · intro op ok s hw hr
    simp only [exec_flashOperationComplete, execFlashOperationComplete, hw, hr]
    rfl
  · intro s hw hp ho
    simp only [exec_hostLost, execHostLost, hw, bne_iff_ne.mpr hp, ho]
    rfl
  · intro s h
    rcases h with h | h
    · simp [execHostLost, h]
    · simp only [exec_hostLost, execHostLost, h, Bool.and_false]
      rfl
  · intro off s hu hm
    have hgo : (s.mode == .dawn && !s.dawnFailed) = false := by
      rcases hm with h | h <;> simp [h]
    simp only [exec_configRequest, execConfigRequest, hu, hgo]
    rfl
  · intro off s hu hm hf
    simp only [exec_configRequest, execConfigRequest, hu, hm, hf]
    rfl
  · intro off s hu
    simp only [exec_configRequest, execConfigRequest, hu]
    rfl
  · intro w sec s hw
    rw [exec_rtcWrite, execRtcWrite, State.access_writable _ _ hw]
  · intro sec s hw hd
    have hc : (s.awake && s.sys.refreshDue) = false := by rw [hw, hd]; rfl
    exact if_neg (ne_true_of_eq_false hc)
  · intro sec s hw hd
    have hc : (s.awake && s.sys.refreshDue) = true := by rw [hw, hd]; rfl
    exact if_pos hc

end Sys2Proof.Machine
end

section
namespace Sys2Proof.Machine

/-! ## The state, the partner and the tokens of a port -/

/-- A port of the Weft keeps its state, the partner it shows, and its tokens. -/
structure PortKept (p : Fin 4) (s0 s : State) : Prop where
  state  : s.reg (Reg.WFT_P_STATE p) = s0.reg (Reg.WFT_P_STATE p)
  peer   : s.reg (Reg.WFT_P_PEER_LO p) = s0.reg (Reg.WFT_P_PEER_LO p)
  tokens : s.wft.port[p].tokens = s0.wft.port[p].tokens

theorem WPort.next_tokens {q r : WPort} {low : Bool} {f : WFrame} (h : q.next low = some (f, r)) : r.tokens = q.tokens := by
  unfold WPort.next at h
  repeat' split at h
  all_goals cases h
  all_goals rfl

theorem fragments_cls {b f : WFrame} {l : List Byte} (h : f ∈ fragments b l) : f.cls = b.cls := by
  obtain ⟨k, -, rfl⟩ := List.mem_map.mp h
  rfl

theorem State.modPort_port (s : State) (p r : Fin 4) (f : WPort → WPort) :
    (s.modPort r f).wft.port[p] = if r = p then f s.wft.port[p] else s.wft.port[p] := by
  by_cases h : r = p
  · subst h
    simp [State.modPort]
  · simp [State.modPort, h, Fin.val_ne_of_ne h]

theorem portRegs_ne_err (p : Fin 4) : Reg.WFT_P_STATE p ≠ Reg.WFT_P_ERR p ∧ Reg.WFT_P_PEER_LO p ≠ Reg.WFT_P_ERR p := by decide +revert

theorem portRegs_ne_util (p : Fin 4) : Reg.WFT_P_STATE p ≠ Reg.WFT_P_UTIL p ∧ Reg.WFT_P_PEER_LO p ≠ Reg.WFT_P_UTIL p := by decide +revert

theorem portRegs_ne_sync (p : Fin 4) : Reg.WFT_P_STATE p ≠ Reg.WFT_SYNC ∧ Reg.WFT_P_PEER_LO p ≠ Reg.WFT_SYNC := by decide +revert

theorem portRegs_ne_node (p : Fin 4) : Reg.WFT_P_STATE p ≠ Reg.WFT_NODE ∧ Reg.WFT_P_PEER_LO p ≠ Reg.WFT_NODE := by decide +revert

theorem portRegs_ne_route (p : Fin 4) : Reg.WFT_P_STATE p ≠ Reg.WFT_ROUTE ∧ Reg.WFT_P_PEER_LO p ≠ Reg.WFT_ROUTE := by decide +revert

section
variable {p : Fin 4} {s0 s : State}

theorem PortKept.refl (p : Fin 4) (s : State) : PortKept p s s := ⟨rfl, rfl, rfl⟩

theorem PortKept.ite {a b : State} {c : Prop} [Decidable c] (ha : PortKept p s0 a) (hb : PortKept p s0 b) :
    PortKept p s0 (if c then a else b) := by split <;> assumption

theorem PortKept.setReg (h : PortKept p s0 s) {a : Nat} {w : Word} (ha : Reg.WFT_P_STATE p ≠ a ∧ Reg.WFT_P_PEER_LO p ≠ a) :
    PortKept p s0 (s.setReg a w) :=
  ⟨(s.reg_setReg_other w ha.1).trans h.state, (s.reg_setReg_other w ha.2).trans h.peer, h.tokens⟩

theorem PortKept.setFld (h : PortKept p s0 s) {f : Field} {v : Nat}
    (ha : Reg.WFT_P_STATE p ≠ f.addr ∧ Reg.WFT_P_PEER_LO p ≠ f.addr) : PortKept p s0 (s.setFld f v) := h.setReg ha

theorem PortKept.modPort (h : PortKept p s0 s) {r : Fin 4} {f : WPort → WPort}
    (hf : (f s.wft.port[p]).tokens = s.wft.port[p].tokens) : PortKept p s0 (s.modPort r f) := by
  refine ⟨h.state, h.peer, ?_⟩
  rw [State.modPort_port, ← h.tokens]
  split
  · exact hf
  · rfl

theorem PortKept.portPoll (h : PortKept p s0 s) : PortKept p s0 (s.portPoll p) := by
  unfold State.portPoll
  extract_lets q
  refine h.ite ?_
  split
  · exact h
  · next hq =>
    have ht := WPort.next_tokens hq
    exact h.modPort ht

theorem PortKept.enqueue (h : PortKept p s0 s) {f : WFrame} : PortKept p s0 (s.enqueue p f) := by
  exact h.ite (PortKept.ite ((h.setFld (portRegs_ne_err p)).ite (h.modPort rfl).portPoll)
    (((h.modPort rfl).setFld (portRegs_ne_util p)).ite ((h.modPort rfl).portPoll.ite (h.modPort rfl).portPoll)))

/-- A frame of class 2 or 3 takes no tokens. -/
theorem PortKept.originate (h : PortKept p s0 s) {f : WFrame} (hf : f.cls = 2) : PortKept p s0 (s.originate p f) := by
  rw [State.originate, hf]
  exact h.enqueue

theorem PortKept.takePkt (h : PortKept p s0 s) {c : Fin 4} : PortKept p s0 (s.takePkt c).2 := ⟨h.state, h.peer, h.tokens⟩

theorem PortKept.eachMem {α : Type} {l : List α} {f : α → State → State} (hf : ∀ a ∈ l, ∀ t, PortKept p s0 t → PortKept p s0 (f a t))
    (h : PortKept p s0 s) : PortKept p s0 (forAll l f s) := by
  induction l generalizing s with
  | nil => exact h
  | cons a r ih => exact ih (fun b hb => hf b (List.mem_cons_of_mem a hb)) (hf a List.mem_cons_self s h)

theorem PortKept.sendRoute (h : PortKept p s0 s) : PortKept p s0 (s.sendRoute p) := by
  unfold State.sendRoute
  extract_lets u own body r
  have hu : PortKept p s0 u := h.modPort rfl
  exact hu.ite (PortKept.eachMem (fun f hf t ht => ht.originate (fragments_cls hf)) hu.takePkt)

theorem PortKept.duePoll (h : PortKept p s0 s) : PortKept p s0 (s.duePoll p) :=
  PortKept.ite (h.modPort rfl).sendRoute h

theorem PortKept.weftLive (h : PortKept p s0 s) : PortKept p s0 s.weftLive := by
  unfold State.weftLive
  extract_lets a u v w
  have hu : PortKept p s0 u := (h.setFld (portRegs_ne_sync p)).ite h
  have hv : PortKept p s0 v := hu.setFld (portRegs_ne_node p)
  have hw : PortKept p s0 w := (hv.setFld (portRegs_ne_route p)).setFld (portRegs_ne_route p)
  exact (hw.setFld (portRegs_ne_route p)).setFld (portRegs_ne_route p)

end

/-! ## The Weft node -/

/-- The port has trained: it shows its partner (R546). -/
def State.trainedBy (s : State) (p : Fin 4) (uid : Time) : State :=
  (((s.modPort p fun q => { q with trainN := s.wft.port[p].trainN + 1 }).setReg (Reg.WFT_P_PEER_LO p) (uid.setWidth 32)).setReg
    (Reg.WFT_P_PEER_HI p) ((uid >>> 32).setWidth 32)).heardOn p

/-- The state in which a port that has trained starts out ACTIVE (R546). -/
def State.trained (s : State) (p : Fin 4) (uid : Time) : State :=
  ((s.trainedBy p uid).setFld (Fld.WFT_P_STATE_LSTATE p) 2).modPort p fun q =>
    { q with tokens := 344, tokAt := s.sys.poweredNs, rtAt := s.sys.poweredNs }

theorem State.lstate_setFld (s : State) (p : Fin 4) {v : Nat} (h : v < 2 ^ 3) :
    (s.setFld (Fld.WFT_P_STATE_LSTATE p) v).lstate p = v :=
  State.fld_setFld _ (f := Fld.WFT_P_STATE_LSTATE p) (by clear h; decide +revert) h

theorem State.trained_port (s : State) (p : Fin 4) (uid : Time) : (s.trained p uid).lstate p = 2 ∧
    (s.trained p uid).reg (Reg.WFT_P_PEER_LO p) = uid.setWidth 32 ∧ (s.trained p uid).wft.port[p].tokens = 344 := by
  refine ⟨State.lstate_setFld _ p (by decide), ?_, ?_⟩
  · refine (State.reg_setReg_other _ _ (by decide +revert)).trans ?_
    refine (State.reg_setReg_other _ _ (by decide +revert)).trans ?_
    exact State.reg_setReg _ _ _
  · rw [State.trained, State.modPort_port, if_pos rfl]

theorem State.trained_astate (s : State) (p : Fin 4) (uid : Time) :
    (s.trained p uid).fld Fld.WFT_NODE_ASTATE = s.fld Fld.WFT_NODE_ASTATE := by
  refine congrArg (fieldGet · 18 2) ?_
  refine (State.reg_setReg_other _ _ (by decide +revert)).trans ?_
  refine (State.reg_setReg_other _ _ (by decide +revert)).trans ?_
  exact State.reg_setReg_other _ _ (by decide +revert)

/-- A port that has trained with another node sends its ROUTE (R554) and keeps what it starts out with. -/
theorem exec_trainingSet_active {s : State} {p : Fin 4} {uid : Time} {a : Byte} (hw : s.awake = true) (hl : s.lstate p = 1)
    (hn : 63 ≤ s.wft.port[p].trainN) (hu : uid ≠ Config.uid) (ha : s.fld Fld.WFT_NODE_ASTATE ≠ 0) :
    exec (.trainingSet p uid a true true) s =
      .next ((((s.trained p uid).modPort p fun q => { q with due := true }).duePoll p).weftLive) := by
  have hgo : (decide (s.wft.port[p].trainN + 1 < 64) || !true) = false := by simpa using Nat.succ_le_succ hn
  simp only [exec_trainingSet, execTrainingSet, hw, hl, if_true, hgo, hu]
  rw [← s.trained_astate p uid] at ha
  exact congrArg (fun t : State => Host.Outcome.next (((t.modPort p fun q => { q with due := true }).duePoll p).weftLive)) (if_neg ha)

/-- Settles O36, clause by clause. -/
theorem weftNode : Obligations.WeftNode := by
  unfold Obligations.WeftNode
  refine ⟨fun _ _ _ => ⟨rfl, rfl⟩, ?_, ?_, ?_, ?_, ?_, ?_, ?_, ?_, ?_, ?_, ?_, ?_, ?_, ?_⟩
  · intro p k m s h
    rcases h with h | h <;> simp [State.claimRx, h]
  · rintro p k m s c hl hu rfl hc
    simp only [State.claimRx, hl, beq_eq_false_iff_ne.mpr hu]
    exact if_pos hc
  · intro s hw ha hc
    simp [execClaimTimer, hw, ha, hc]
  · intro s hw ha hc
    simp [execClaimTimer, hw, ha, hc]
  · intro s hw ha
    simp [execDefendTimer, hw, ha]
  · intro s hw ha
    simp [execConflictWait, hw, ha]
  · intro p uid a lock clean s hw hl hn
    have hstay : (decide ((if clean then s.wft.port[p].trainN + 1 else 0) < 64) || !lock) = true := by
      rcases hn with h | h
      · simp only [h, decide_true, Bool.true_or]
      · simp [h]
    simp only [exec_trainingSet, execTrainingSet, hw, hl, hstay]
    rfl
  · intro p a s hw hl hn
    have hgo : (decide (s.wft.port[p].trainN + 1 < 64) || !true) = false := by simpa using Nat.succ_le_succ hn
    refine ⟨(s.trainedBy p Config.uid).setFld (Fld.WFT_P_STATE_LSTATE p) 3, ?_, State.lstate_setFld _ p (by decide)⟩
    simp only [exec_trainingSet, execTrainingSet, hw, hl, if_true, hgo]
    rfl
  · intro p uid a s hw hl hn hu ha
    have hk : PortKept p (s.trained p uid) (((s.trained p uid).modPort p fun q => { q with due := true }).duePoll p).weftLive :=
      ((PortKept.refl p _).modPort rfl).duePoll.weftLive
    obtain ⟨hst, hpeer, htok⟩ := s.trained_port p uid
    refine ⟨_, exec_trainingSet_active hw hl hn hu ha, ?_, hk.peer.trans hpeer, hk.tokens.trans htok⟩
    exact (congrArg (fieldGet · 0 3) hk.state).trans hst
  · intro p uid a lock clean s hw hl
    rcases hl with h | h <;> simp [execTrainingSet, hw, h]
  · intro p s hw hl
    simp [execRetrain, hw, hl]
  · intro p k s hw hl
    rcases hl with h | h <;> simp [execWeftLink, hw, h]
  · intro p s hw hl hd
    rcases hl with h | h <;> simp only [exec_helloTimeout, execHelloTimeout, hw, h, hd] <;> rfl
  · intro p s hd
    simp only [exec_helloTimeout, execHelloTimeout, hd, decide_false, Bool.and_false]
    rfl

end Sys2Proof.Machine
end

section
namespace Sys2Proof.Machine

/-! ## Weft transport -/

theorem when_true (f : State → State) (s : State) : when true f s = f s := rfl

theorem State.awake_heardOn (s : State) (p : Fin 4) : (s.heardOn p).awake = s.awake := rfl

theorem State.linkUp_heardOn (s : State) (p : Fin 4) : (s.heardOn p).linkUp p = s.linkUp p := rfl

theorem isOwn_true {a b : Byte} (h : a = b) (h0 : a ≠ 0) : (a == b && a != 0) = true := by
  rw [beq_iff_eq.mpr h, bne_iff_ne.mpr h0]
  rfl

theorem isOwn_false {a b : Byte} (h : a ≠ b ∨ a = 0) : (a == b && a != 0) = false := by
  rcases h with h | h <;> simp [h]

/-- An echo answer for this node that answers its ping ends a round of it (R576). -/
theorem exec_echoResp_ping {s : State} {p : Fin 4} {q : Packet} {g : Ping} (hw : s.awake = true) (hl : s.linkUp p = true)
    (hq : q.dst = (s.heardOn p).nodeAddr) (h0 : q.dst ≠ 0) (hp : (s.heardOn p).wft.ping = some g) (hg : g.addr = q.src) :
    exec (.echoResp p q) s = if g.left ≤ 1 then
      .next (({ ((s.heardOn p).modWft fun w => { w with ping := none }) with con := { (s.heardOn p).con with busy := false } } : State).reply
        [.data [("min", (((s.weft.toNat - g.t0.toNat) :: g.rtts).foldl min (s.weft.toNat - g.t0.toNat) : Nat)),
          ("max", (((s.weft.toNat - g.t0.toNat) :: g.rtts).foldl max 0 : Nat))]])
      else .next (((s.heardOn p).modWft fun w =>
        { w with ping := some { g with left := g.left - 1, t0 := s.weft, rtts := (s.weft.toNat - g.t0.toNat) :: g.rtts } }).sendEcho
          9 g.addr pingBody) := by
  have hne : (g.addr != q.src) = false := by rw [hg, bne_self_eq_false]
  simp only [exec_echoResp, execEchoResp, hl, when_true, State.awake_heardOn, State.linkUp_heardOn, hw, Bool.not_true,
    Bool.or_self, Bool.false_eq_true, if_false]
  rw [if_pos (isOwn_true hq h0), hp]
  simp only [hne]
  rfl

/-- One that answers no ping changes nothing more. -/
theorem exec_echoResp_stray {s : State} {p : Fin 4} {q : Packet} (hw : s.awake = true) (hl : s.linkUp p = true)
    (hq : q.dst = (s.heardOn p).nodeAddr) (h0 : q.dst ≠ 0) (hg : ((s.heardOn p).wft.ping.any fun g => g.addr == q.src) = false) :
    exec (.echoResp p q) s = .next (s.heardOn p) := by
  simp only [exec_echoResp, execEchoResp, hl, when_true, State.awake_heardOn, State.linkUp_heardOn, hw, Bool.not_true,
    Bool.or_self, Bool.false_eq_true, if_false]
  rw [if_pos (isOwn_true hq h0)]
  split
  · rfl
  · next g hp =>
    rw [hp, Option.any_some] at hg
    exact if_pos (by rw [bne, hg]; rfl)

/-- What a WEFT_SEND does once it is taken (R563). -/
theorem exec_weftSend_taken {h : Desc} {l : List Byte} {s : State} (ht : s.takes h 0x11 = true)
    (hok : (h.sub.toNat = 2 ∨ h.sub.toNat = 3) ∧ 0 < h.index.toNat ∧ h.index.toNat ≤ 254 ∧ 0 < l.length ∧ l.length ≤ 892) :
    exec (.weftSend h l) s = .next (
      if s.nodeAddr == 0 then s.complete h 0x11 St.BUSY 4
      else if 16 ≤ s.metric h.index.toNat ∨ h.index.toNat = s.nodeAddr.toNat then s.complete h 0x11 St.BUSY 3
      else match s.ctxFor (BitVec.ofNat 8 h.index.toNat) (BitVec.ofNat 2 h.sub.toNat) false with
        | none => (s.incSat Fld.WFT_CTX_FAILS).complete h 0x11 St.BUSY 2
        | some (c, u) =>
          if 12 < (if h.sub.toNat = 2 then s.wft.port[s.routeA h.index.toNat].q2 else s.wft.port[s.routeA h.index.toNat].q3).length +
              (fragments (s.ownFrame 1 h.sub.toNat (BitVec.ofNat 8 h.index.toNat) c.txPkt) l).length then s.complete h 0x11 St.BUSY 1
          else (forAll (fragments (s.ownFrame 1 h.sub.toNat (BitVec.ofNat 8 h.index.toNat) c.txPkt) l)
            (fun f t => t.enqueue (s.routeA h.index.toNat) f) (u.modCtx (BitVec.ofNat 8 h.index.toNat) (BitVec.ofNat 2 h.sub.toNat)
              fun c => { c with txPkt := c.txPkt + 1, heard := s.sys.poweredNs })).complete h 0x11 St.SUCCESS) := by
  obtain ⟨hcls, hlo, hhi, hl0, hl⟩ := hok
  have hgood : ¬ ((h.sub.toNat ≠ 2 ∧ h.sub.toNat ≠ 3) ∨ h.index.toNat = 0 ∨ 254 < h.index.toNat ∨ l.length = 0 ∨ 892 < l.length) := by
    omega
  rw [exec_weftSend, execWeftSend, State.dispatch_takes _ ht, State.taken_plain rfl]
  dsimp only
  refine congrArg Host.Outcome.next ((if_neg hgood).trans ?_)
  rcases s.ctxFor (BitVec.ofNat 8 h.index.toNat) (BitVec.ofNat 2 h.sub.toNat) false with _ | ⟨c, u⟩ <;> rfl

/-- Settles O38, clause by clause. -/
theorem weftTransport : Obligations.WeftTransport := by
  unfold Obligations.WeftTransport
  refine ⟨?_, ?_, ?_, ?_, ?_, ?_, ?_, ?_, ?_, ?_, ?_, fun _ _ => rfl, ?_, ?_, ?_, ?_, ?_, ?_⟩
  · intro p f s hw hl
    simp only [exec_data, execData, hw, hl]
    exact ⟨rfl, rfl, rfl⟩
  · intro p f s hk hd
    simp only [State.dataRx, hk, beq_eq_false_iff_ne.mpr hd, Bool.or_eq_true, beq_iff_eq]
    rfl
  · intro p r s hl
    simp [execData, hl]
  · intro a k s hw h
    simp only [exec_fragTmo, execFragTmo, hw, h]
    rfl
  · intro a k s h
    simp only [exec_fragTmo, execFragTmo, h, Bool.and_false]
    rfl
  · intro a k s hw
    simp only [exec_ctxAge, execCtxAge, hw, if_true]
  · rintro p q s u hw hl rfl hq h0
    simp only [exec_echoReq, execEchoReq, hl, when_true, State.awake_heardOn, State.linkUp_heardOn, hw]
    exact if_pos (isOwn_true hq h0)
  · rintro p q s u hw hl rfl hq
    simp only [exec_echoReq, execEchoReq, exec_echoResp, execEchoResp, hl, when_true, State.awake_heardOn, State.linkUp_heardOn, hw]
    exact ⟨if_neg (ne_true_of_eq_false (isOwn_false hq)), if_neg (ne_true_of_eq_false (isOwn_false hq))⟩
  · rintro p q s u hw hl rfl hq h0 hg
    exact exec_echoResp_stray hw hl hq h0 hg
  · rintro p q g s u hw hl rfl hq h0 hp hg hleft
    exact (exec_echoResp_ping hw hl hq h0 hp hg).trans (if_pos hleft)
  · rintro p q g s u hw hl rfl hq h0 hp hg hleft
    exact (exec_echoResp_ping hw hl hq h0 hp hg).trans (if_neg (Nat.not_le.mpr hleft))
  · intro h l s ht hbad
    have hb : (h.sub.toNat ≠ 2 ∧ h.sub.toNat ≠ 3) ∨ h.index.toNat = 0 ∨ 254 < h.index.toNat ∨ l.length = 0 ∨ 892 < l.length := by
      omega
    rw [exec_weftSend, execWeftSend, State.dispatch_takes _ ht, State.taken_plain rfl]
    exact congrArg Host.Outcome.next (if_pos hb)
  · intro h l s ht hcls hlo hhi hl0 hl ha
    rw [exec_weftSend_taken ht ⟨hcls, hlo, hhi, hl0, hl⟩, if_pos (beq_iff_eq.mpr ha)]
  · intro h l s ht hcls hlo hhi hl0 hl ha hm
    rw [exec_weftSend_taken ht ⟨hcls, hlo, hhi, hl0, hl⟩, if_neg (by simpa using ha), if_pos hm]
  · intro h l s ht hcls hlo hhi hl0 hl ha hm hown hc
    rw [exec_weftSend_taken ht ⟨hcls, hlo, hhi, hl0, hl⟩, if_neg (by simpa using ha), if_neg (by omega), hc]
  · intro h l c s u ht hcls hlo hhi hl0 hl ha hm hown hc hfull
    rw [exec_weftSend_taken ht ⟨hcls, hlo, hhi, hl0, hl⟩, if_neg (by simpa using ha), if_neg (by omega), hc]
    exact congrArg Host.Outcome.next (if_pos hfull)
  · intro h l c s u ht hcls hlo hhi hl0 hl ha hm hown hc hroom
    rw [exec_weftSend_taken ht ⟨hcls, hlo, hhi, hl0, hl⟩, if_neg (by simpa using ha), if_neg (by omega), hc]
    exact congrArg Host.Outcome.next (if_neg (Nat.not_lt.mpr hroom))

end Sys2Proof.Machine
end

section
namespace Sys2Proof.Machine

/-! ## Weft time -/

/-- A SYNC is heard and its number taken where it is ahead; then the parent is chosen (R564). -/
def State.syncHeard (s : State) (p : Fin 4) (m : SyncMsg) : State :=
  let ahead := s.wft.port[p].seq.all fun q => decide (0 < (m.seq - q).toInt)
  ((s.heardOn p).modPort p fun q =>
    { q with seq := if ahead then some m.seq else q.seq, seqAt := if ahead then s.sys.poweredNs else q.seqAt
             syncAt := s.sys.poweredNs }).chooseParent

/-- The offset that a SYNC of the parent gives (R565, R566). -/
def State.syncOffset (s u : State) (p : Fin 4) (m : SyncMsg) : Rat :=
  let ds := u.wft.port[p].delays
  (s.weft.toNat : Rat) - ((m.ts.toNat : Rat) + (if ds.length = 0 then 0 else ds.foldl (· + ·) 0 / (ds.length : Rat)) + u.par 36 3 p.val)

/-- The offset is kept and shown, and counted where it is within SYNC_WIN (R566). -/
def State.takeOffset (u : State) (d : Rat) : State :=
  (u.modWft fun w => { w with offset := d, wins := if absRat d ≤ u.p36 23 then w.wins + 1 else 0 }).setReg Reg.WFT_OFFSET
    (toS32 (clampInt (-(2 ^ 31)) (2 ^ 31 - 1) (quantise d)))

/-- One of the first eight offsets of a new parent (R566). -/
def State.averageOffset (v : State) (d : Rat) : State :=
  let z := v.modWft fun w => { w with newN := w.newN - 1, newSum := w.newSum + d }
  if z.wft.newN = 0 then z.onOffset (z.wft.newSum / 8) else z

theorem not_bne_of_eq {α : Type} [BEq α] [LawfulBEq α] {a b : α} (h : a = b) : ¬ (a != b) = true := by simp [h]

theorem next_settle_ite {c : Prop} [Decidable c] (a b : State) :
    (if c then .next a.settle else .next b.settle : Res) = .next (if c then a else b).settle := by split <;> rfl

/-- What a SYNC does (R564, R566). -/
theorem exec_sync_heard {s : State} {p : Fin 4} {m : SyncMsg} (hw : s.awake = true) (hl : s.linkUp p = true) :
    let u := s.syncHeard p m
    let v := u.takeOffset (s.syncOffset u p m)
    exec (.sync p m) s = if u.wft.parent != some p then .next u.settle
      else if v.wft.newN = 0 then .next (v.onOffset (s.syncOffset u p m)).settle
      else .next (v.averageOffset (s.syncOffset u p m)).settle := by
  simp only [exec_sync, execSync, hw, hl, Bool.not_true, Bool.or_self, Bool.false_eq_true, if_false, decide_eq_true_eq]
  exact if_congr Iff.rfl rfl (if_congr Iff.rfl rfl (next_settle_ite _ _))

/-- A delay that was asked for joins the last eight (R565). -/
theorem exec_delayResp_asked {s : State} {p : Fin 4} {x y t1 : Time} {ds : List Rat} (hw : s.awake = true) (hl : s.linkUp p = true)
    (hr : (s.heardOn p).wft.port[p].reqT = some t1)
    (hd : (((((s.heardOn p).weft.toNat : Rat) - t1.toNat) - ((y.toNat : Rat) - x.toNat)) / 2 :: (s.heardOn p).wft.port[p].delays).take 8 = ds) :
    exec (.delayResp p x y) s = .next (((((s.heardOn p).modPort p fun q => { q with delays := ds, reqT := none }).setFld
      (Fld.WFT_P_DELAY_D p) (clampInt 0 0xFFFF (quantise (10 * (ds.foldl (· + ·) 0 / (ds.length : Rat))))).toNat).setFlag
        (Fld.WFT_P_STATE_DELAY_OK p) (ds.length == 8)).chooseParent).settle := by
  have hds : ((s.heardOn p).modPort p fun q =>
      { q with delays := (((((s.heardOn p).weft.toNat : Rat) - t1.toNat) - ((y.toNat : Rat) - x.toNat)) / 2 :: q.delays).take 8, reqT := none }) =
      (s.heardOn p).modPort p fun q => { q with delays := ds, reqT := none } := by
    rw [← hd]
    rfl
  simp only [exec_delayResp, execDelayResp, hl, when_true, State.awake_heardOn, State.linkUp_heardOn, hw, hr, hds, State.modPort_port, if_true]
  rfl

/-- Settles O39, clause by clause. -/
theorem weftTime : Obligations.WeftTime := by
  unfold Obligations.WeftTime
  refine ⟨?_, ?_, ?_, ?_, ?_, ?_, ?_, ?_, ?_, ?_, ?_, ?_⟩
  · intro s hw hs
    simp [execSyncSend, hw, hs]
  · rintro s u hw hs rfl
    simp only [exec_syncSend, execSyncSend, hw, hs]
    cases hp : s.wft.parent <;> rfl
  · intro s hw
    simp only [exec_helloSend, execHelloSend, exec_delayReqSend, execDelayReqSend, hw]
    exact ⟨rfl, rfl⟩
  · rintro p s u hw hl rfl
    simp only [exec_delayReq, execDelayReq, hl, when_true, State.awake_heardOn, State.linkUp_heardOn, hw]
    rfl
  · rintro p x y t1 ds s u hw hl rfl hr hd
    exact exec_delayResp_asked hw hl hr hd
  · rintro p x y s u hw hl rfl hr
    simp only [exec_delayResp, execDelayResp, hl, when_true, State.awake_heardOn, State.linkUp_heardOn, hw,
      show (s.heardOn p).wft.port[p].reqT = none from hr]
    rfl
  · rintro p m s u hw hl rfl hp
    exact (exec_sync_heard hw hl).trans (if_pos (bne_iff_ne.mpr hp))
  · rintro p m d s u v hw hl rfl hp rfl rfl hn
    exact (exec_sync_heard hw hl).trans ((if_neg (not_bne_of_eq hp)).trans (if_pos hn))
  · rintro p m d s u v z hw hl rfl hp rfl rfl hn rfl
    exact (exec_sync_heard hw hl).trans ((if_neg (not_bne_of_eq hp)).trans (if_neg hn))
  · intro p s hw hp hd
    simp only [exec_parentLoss, execParentLoss, hp, hw, hd, decide_true]
    rfl
  · intro p s hp hd
    simp only [exec_parentLoss, execParentLoss, hp, hd, decide_false, Bool.and_false]
    rfl
  · intro s hp
    simp only [exec_parentLoss, execParentLoss, hp]

end Sys2Proof.Machine
end

section
namespace Sys2Proof.Machine

/-! ## The console -/

/-- A command that may run is served: what it does, on the state with its line taken. -/
theorem serves_conRun {c : Instr} {s : State} {hw : Bool} {f g : State → State} (hx : exec c s = s.conRun hw f)
    (h : s.conFree hw = true) (hg : f s.takeLine = g s.takeLine) : Serves c s g := by
  rw [Serves, hx, State.conRun_free f h, hg]

/-- A command that needs CP_0 firmware is unknown to the hardware subset (R612). -/
theorem serves_unknown {c : Instr} {s : State} {f : State → State} (hx : exec c s = s.conRun false f) (hw : s.awake = true)
    (hb : s.con.busy = false) (hh : s.takeLine.flag Fld.SVC_STATUS_HWONLY = true) : Serves c s fun t => t.replyErr "UNKNOWN" := by
  rw [Serves, hx]
  simp only [State.conRun, hw, hb, hh]
  rfl

/-- What a wr does where its mode is right (R613). -/
theorem serves_wr {a v hw : Word} {s : State} {g : State → State} (h : s.conFree false = true)
    (hm : s.takeLine.mode = .ready ∨ s.takeLine.mode = .service)
    (hg : (if !isRegisterAddr a.toNat then s.takeLine.replyErr "RANGE"
      else if s.takeLine.conLocked a.toNat then (Res.stateOr (s.takeLine.writeReg .console a.toNat v hw) s.takeLine).replyErr "LOCKED"
      else ((Res.stateOr (s.takeLine.writeReg .console a.toNat v hw) s.takeLine).journal 0x010B 0 a v).reply []) = g s.takeLine) :
    Serves (.wr a v hw) s g := by
  have hx : exec (.wr a v hw) s = s.conRun false _ := exec_wr ..
  refine serves_conRun hx h (Eq.trans ?_ hg)
  have hin : [Mode.ready, .service].contains s.takeLine.mode = true := by
    rcases hm with hm | hm <;> rw [hm] <;> rfl
  exact if_pos hin

/-- Settles O42, clause by clause. -/
theorem console : Obligations.Console := by
  unfold Obligations.Console
  refine ⟨?_, ?_, ?_, ?_, ?_, ?_, ?_, ?_, ?_, ?_, ?_, ?_, ?_, ?_, ?_, ?_, ?_, ?_, ?_, ?_, ?_, ?_, ?_, ?_, ?_, ?_, ?_, ?_, ?_, ?_,
    ?_, ?_⟩
  · rintro c s u hw rfl h3 hA hD
    simp only [exec_consoleChar, execConsoleChar, hw, h3, hA, hD, decide_false]
    rfl
  · rintro s u hw rfl
    simp only [exec_consoleChar, execConsoleChar, hw]
    rfl
  · intro s u hw hu
    simp only [exec_consoleChar, execConsoleChar, hw, hu]
    cases u.con.lastCR <;> rfl
  · rintro s u hw rfl
    simp only [exec_consoleChar, execConsoleChar, hw]
    rfl
  · intro s hw
    simp only [exec_consoleAbort, execConsoleAbort, hw, if_true]
  · intro s h hd
    refine serves_conRun (exec_status ..) h ?_
    exact (if_pos hd)
  · intro s h hd
    refine serves_conRun (exec_status ..) h ?_
    exact (if_neg (ne_true_of_eq_false hd))
  · rintro a n pins s r h h0 h16 ha hend rfl
    refine serves_conRun (exec_rd ..) h ?_
    refine (if_neg ?_)
    simp only [ha, Bool.or_eq_true, decide_eq_true_eq, Bool.not_true, Bool.false_eq_true, or_false]
    omega
  · intro a n pins s h hbad
    refine serves_conRun (exec_rd ..) h ?_
    refine (if_pos ?_)
    simp only [Bool.or_eq_true, decide_eq_true_eq, Bool.not_eq_true']
    by_contra hok
    rw [not_or, not_or, not_or, Bool.not_eq_false] at hok
    obtain ⟨⟨⟨h0, h16⟩, hreg⟩, hend⟩ := hok
    exact hbad ⟨by omega, by omega, hreg, by omega⟩
  · intro a v hw s h hm ha hl
    exact serves_wr h hm (by simp only [ha, hl]; rfl)
  · intro a v hw s h hm ha hl
    exact serves_wr h hm (by simp only [ha, hl]; rfl)
  · intro a v hw s h hm ha
    exact serves_wr h hm (by simp only [ha]; rfl)
  · intro a v hw s h hm
    refine serves_conRun (exec_wr ..) h ?_
    refine (if_neg ?_)
    simpa [List.contains_cons] using hm
  · intro p s h
    refine serves_conRun (exec_par ..) h ?_
    exact rfl
  · intro p v s h hm
    refine serves_conRun (exec_par ..) h ?_
    exact (if_pos (beq_iff_eq.mpr hm))
  · intro p v s h hm hr
    refine serves_conRun (exec_par ..) h ?_
    refine ((if_neg (by simpa using hm)).trans ?_)
    exact if_pos (Option.isNone_iff_eq_none.mpr hr)
  · intro p v e s h hm hr
    refine serves_conRun (exec_par ..) h ?_
    refine ((if_neg (by simpa using hm)).trans ?_)
    exact if_neg (by simp [hr])
  · intro n s h hd h0 h64
    refine serves_conRun (exec_log ..) h ?_
    refine ((if_neg (ne_true_of_eq_false hd)).trans (if_neg ?_))
    simp only [Bool.or_eq_true, decide_eq_true_eq]
    omega
  · intro q n s h hd h0 h64
    refine serves_conRun (exec_logSeq ..) h ?_
    refine ((if_neg (ne_true_of_eq_false hd)).trans (if_neg ?_))
    simp only [Bool.or_eq_true, decide_eq_true_eq]
    omega
  · intro q n s h hd
    constructor
    · refine serves_conRun (exec_log ..) h ?_
      exact if_pos hd
    · refine serves_conRun (exec_logSeq ..) h ?_
      exact if_pos hd
  · intro q n s h hd hn
    have hbad : (decide (n.getD 8 = 0) || decide (64 < n.getD 8)) = true := by simpa using hn
    constructor
    · refine serves_conRun (exec_log ..) h ?_
      exact (if_neg (ne_true_of_eq_false hd)).trans (if_pos hbad)
    · refine serves_conRun (exec_logSeq ..) h ?_
      exact (if_neg (ne_true_of_eq_false hd)).trans (if_pos hbad)
  · intro q s h ho
    refine serves_conRun (exec_atest ..) h ?_
    exact (if_pos ho)
  · intro q s h ho
    refine serves_conRun (exec_atest ..) h ?_
    exact (if_neg (ne_true_of_eq_false ho))
  · intro s h
    exact ⟨serves_conRun (exec_atestOff ..) h rfl, serves_conRun (exec_service ..) h rfl,
      serves_conRun (exec_serviceExit ..) h rfl⟩
  · intro s h hm
    refine serves_conRun (exec_dusk ..) h ?_
    exact (if_neg (by simpa using hm))
  · intro s h hm
    refine serves_conRun (exec_dusk ..) h ?_
    exact (if_pos (beq_iff_eq.mpr hm))
  · intro s h hd
    refine serves_conRun (exec_dawnRetry ..) h ?_
    exact (if_pos hd)
  · intro s h hd
    refine serves_conRun (exec_dawnRetry ..) h ?_
    exact (if_neg (ne_true_of_eq_false hd))
  · intro hard s h hs
    have hgo : ¬ (!hard && !s.takeLine.allStopped) = true := by
      rcases hs with hs | hs <;> simp [hs]
    refine serves_conRun (exec_reset ..) h ?_
    exact ((if_neg (by decide)).trans (if_neg hgo))
  · intro s h hs
    have hstop : (!false && !s.takeLine.allStopped) = true := by rw [hs]; rfl
    refine serves_conRun (exec_reset ..) h ?_
    exact ((if_neg (by decide)).trans (if_pos hstop))
  · intro k hard s h hk
    refine serves_conRun (exec_reset ..) h ?_
    exact (if_pos (bne_iff_ne.mpr hk))
  · intro s hw hb hh
    exact ⟨serves_unknown (exec_service ..) hw hb hh, serves_unknown (exec_dusk ..) hw hb hh⟩

end Sys2Proof.Machine
end

section
namespace Sys2Proof.Machine

/-! ## Parameters and profiles of the host -/

/-- What a PARAM_READ of as many entries as its SUB says does (R528, R529). -/
theorem exec_paramRead_taken {h : Desc} {es : List ParamId} {s : State} (ht : s.takes h 0x02 = true)
    (hn : h.sub.toNat = es.length) (h1 : 1 ≤ es.length) (h4 : es.length ≤ 4) : exec (.paramRead h es) s = .next (
      match es.findIdx? fun p => (s.paramValue p).isNone with
      | some k => s.complete h 0x02 St.PARAM_UNKNOWN k
      | none => (forAll es (fun p t => t.markRead p) s).complete h 0x02 St.SUCCESS 0 (es.filterMap s.paramValue)) := by
  have hgo : (decide (h.sub.toNat ≠ es.length) || decide (es.length = 0) || decide (4 < es.length)) = false := by
    simp [hn, Nat.ne_of_gt h1, h4]
  rw [exec_paramRead, execParamRead, State.dispatch_takes _ ht, State.taken_plain rfl]
  exact congrArg _ (if_neg (ne_true_of_eq_false hgo))

/-- What a PARAM_WRITE of as many entries as its SUB says does (R453, R529). -/
theorem exec_paramWrite_taken {h : Desc} {es : List (ParamId × Word)} {s : State} (ht : s.takes h 0x03 = true)
    (hn : h.sub.toNat = es.length) (h1 : 1 ≤ es.length) (h7 : es.length ≤ 7) : exec (.paramWrite h es) s = .next (
      match s.firstRefused s 0 es with
      | some (k, st) => s.complete h 0x03 st k
      | none =>
        match sealCrcOf es with
        | some crc => (forAll es (fun e t => t.writeEntry e) s).sealStart h crc
        | none => ((forAll es (fun e t => t.writeEntry e) s).complete h 0x03 St.SUCCESS).settle) := by
  have hgo : (decide (h.sub.toNat ≠ es.length) || decide (es.length = 0) || decide (7 < es.length)) = false := by
    simp [hn, Nat.ne_of_gt h1, h7]
  rw [exec_paramWrite, execParamWrite, State.dispatch_takes _ ht, State.taken_plain rfl]
  exact congrArg _ (if_neg (ne_true_of_eq_false hgo))

section Select
variable {h : Desc} {s r : State} (ht : s.takes h 0x07 = true) (hr : s.taken h 0x07 = r)
include ht hr

/-- A PROFILE_SELECT that is refused before its slot is looked at (R78, R80, R100). -/
theorem exec_profileSelect_refused {st : Nat} (hs : r.selectRefusal h = some st) :
    exec (.profileSelect h) s = .next (r.refuse h 0x07 st) ∧ exec (.profileStore h) s = .next (r.refuse h 0x07 st) := by
  constructor
  · rw [exec_profileSelect, execProfileSelect, State.dispatch_takes _ ht, hr]
    simp only [hs]
  · rw [exec_profileStore, execProfileStore, State.dispatch_takes _ ht, hr]
    simp only [hs]

variable {n : Fin 4} (hs : r.selectRefusal h = none) (hn : profileIx h = some n)
include hs hn

/-- What a PROFILE_SELECT of a slot that is not refused does (R23, R92). -/
theorem exec_profileSelect_taken : exec (.profileSelect h) s = .next (
      if r.profileActive && !r.allStopped then r.complete h 0x07 St.NOT_STOPPED
      else
        let u := r.discardStaging St.SEAL_FAIL
        if u.slots[n].valid && u.setsFree u.slots[n] then
          (((u.activate n).portEnable.chooseParent).complete h 0x07 St.SUCCESS).settle
        else if u.profileActive then u.complete h 0x07 St.NO_PROFILE
        else ((u.loadOrReject n).complete h 0x07 St.NO_PROFILE).settle) := by
  rw [exec_profileSelect, execProfileSelect, State.dispatch_takes _ ht, hr]
  simp only [hs, hn]

/-- What the storing of the working copy in a slot does (R23, R528). -/
theorem exec_profileStore_taken : exec (.profileStore h) s = .next (
      if r.profileActive && !r.allStopped then r.complete h 0x07 St.NOT_STOPPED
      else if r.sys.flashBusy == some (.refresh (.profile n)) then r.complete h 0x07 St.BUSY
      else { r with
        sys := { r.sys with flashBusy := some (r.sys.flashBusy.getD (.profileStore n)) }
        hif := { r.hif with inFlight := r.hif.inFlight ++ [{ h := h, opcode := 0x07, inst := n.val }] } }) := by
  rw [exec_profileStore, execProfileStore, State.dispatch_takes _ ht, hr]
  simp only [hs, hn]

end Select

/-- A slot that is not valid or uses an unavailable set is not loaded (R92). -/
theorem State.loadOrReject_bad {s : State} {n : Fin 4} (h : (s.slots[n].valid && s.setsFree s.slots[n]) = false) :
    s.loadOrReject n = s.rejectLoad n :=
  if_neg (ne_true_of_eq_false h)

/-- A PROFILE_SELECT refused for another reason than its mode leaves REQ_RES (R78, R100). -/
theorem State.refuse_select_plain (s : State) (h : Desc) {st : Nat} (hst : st ≠ St.MODE_DENIED) :
    s.refuse h 0x07 st = s.complete h 0x07 st := by
  rw [State.refuse, beq_false_of_ne hst]
  rfl

/-- Settles O33, clause by clause. -/
theorem parametersAndProfiles : Obligations.ParametersAndProfiles := by
  unfold Obligations.ParametersAndProfiles
  refine ⟨?_, ?_, ?_, ?_, ?_, ?_, ?_, ?_, ?_, ?_, ?_, ?_, ?_⟩
  · intro h es s ht hn h1 h4 hall
    rw [exec_paramRead_taken ht hn h1 h4, hall]
  · intro h es k s ht hn h1 h4 hk
    rw [exec_paramRead_taken ht hn h1 h4, hk]
  · intro h es s ht hn h1 h7 hall hcrc
    rw [exec_paramWrite_taken ht hn h1 h7, hall, hcrc]
  · intro h es crc s ht hn h1 h7 hall hcrc
    rw [exec_paramWrite_taken ht hn h1 h7, hall, hcrc]
  · intro h es k st s ht hn h1 h7 hk
    rw [exec_paramWrite_taken ht hn h1 h7, hk]
  · rintro h n u s r ht hr hs hn hstop rfl hv hf
    simp only [exec_profileSelect_taken ht hr hs hn, hstop, hv, hf]
    rfl
  · rintro h n u s r ht hr hs hn hstop rfl hbad ha
    simp only [exec_profileSelect_taken ht hr hs hn, hstop, hbad, ha]
    rfl
  · rintro h n u s r ht hr hs hn hstop rfl hbad ha
    simp only [exec_profileSelect_taken ht hr hs hn, hstop, hbad, ha, State.loadOrReject_bad hbad]
    rfl
  · intro h n s r ht hr hs hn hrun
    rw [exec_profileSelect_taken ht hr hs hn, exec_profileStore_taken ht hr hs hn, if_pos hrun, if_pos hrun]
    exact ⟨rfl, rfl⟩
  · intro h n s r ht hr hs hn hstop hb
    simp only [exec_profileStore_taken ht hr hs hn, hstop, beq_false_of_ne hb]
    rfl
  · intro h n s r ht hr hs hn hstop hb
    simp only [exec_profileStore_taken ht hr hs hn, hstop, hb, beq_self_eq_true]
    rfl
  · intro h st s r ht hr hs hst
    rw [← r.refuse_select_plain h hst]
    exact exec_profileSelect_refused ht hr hs
  · intro h s r ht hr hs
    exact exec_profileSelect_refused ht hr hs

end Sys2Proof.Machine
end

section
namespace Sys2Proof.Machine

/-! ## One nanosecond -/

/-- What the count of time leaves: everything beside the registers listed and the device's own counts. -/
structure TimeOnly (regs : List Nat) (s t : State) : Prop where
  rest    : t = { s with sys := t.sys, regs := t.regs }
  kept    : ∀ a, a ∉ regs → t.reg a = s.reg a
  inReset : t.sys.inReset = s.sys.inReset

/-- What follows the RTC in a nanosecond leaves the counts before it too. -/
structure AfterRtc (regs : List Nat) (s t : State) : Prop extends TimeOnly regs s t where
  powered : t.sys.poweredNs = s.sys.poweredNs
  rtcNs   : t.sys.rtcNs = s.sys.rtcNs
  rtcSet  : t.sys.rtcSet = s.sys.rtcSet

section Time
variable {s t u : State} {l k : List Nat}

theorem TimeOnly.refl (s : State) : TimeOnly l s s := ⟨rfl, fun _ _ => rfl, rfl⟩

theorem TimeOnly.trans (h : TimeOnly l s t) (g : TimeOnly k t u) : TimeOnly (l ++ k) s u where
  rest := by rw [g.rest, h.rest]
  kept a ha := by
    rw [List.mem_append, not_or] at ha
    exact (g.kept a ha.2).trans (h.kept a ha.1)
  inReset := g.inReset.trans h.inReset

theorem TimeOnly.reg (h : TimeOnly l s t) {a : Nat} (ha : a ∉ l) : t.reg a = s.reg a := h.kept a ha

theorem TimeOnly.fld (h : TimeOnly l s t) {f : Field} (hf : f.addr ∉ l) : t.fld f = s.fld f := by
  rw [State.fld, State.fld, h.reg hf]

theorem TimeOnly.flag (h : TimeOnly l s t) {f : Field} (hf : f.addr ∉ l) : t.flag f = s.flag f := by
  rw [State.flag, State.flag, h.fld hf]

theorem TimeOnly.mode (h : TimeOnly l s t) (hl : Reg.SYS_MODE ∉ l) : t.mode = s.mode := by
  rw [State.mode, State.mode, h.fld hl]

theorem TimeOnly.awake (h : TimeOnly l s t) (hl : Reg.SYS_MODE ∉ l) : t.awake = s.awake := by
  rw [State.awake, State.awake, h.inReset, h.mode hl]

theorem TimeOnly.weft (h : TimeOnly l s t) : t.weft = s.weft := by rw [h.rest]

theorem TimeOnly.sram (h : TimeOnly l s t) : t.sram = s.sram := by rw [h.rest]

theorem TimeOnly.gc (h : TimeOnly l s t) : t.gc = s.gc := by rw [h.rest]

theorem TimeOnly.sameStore (h : TimeOnly l s t) : s.sameStore t := by
  rw [h.rest]
  exact ⟨rfl, rfl, rfl, rfl, rfl⟩

theorem TimeOnly.par (h : TimeOnly l s t) (g i n : Nat) : t.par g i n = s.par g i n := by
  rw [h.rest]
  rfl

/-- A change of the device's own counts alone. -/
theorem TimeOnly.ofSys (y : Sys) (hy : y.inReset = s.sys.inReset := by rfl) : TimeOnly l s { s with sys := y } :=
  ⟨rfl, fun _ _ => rfl, hy⟩

theorem TimeOnly.setReg (h : TimeOnly l s t) {a : Nat} {w : Word} (ha : a ∈ l) : TimeOnly l s (t.setReg a w) where
  rest := by
    conv_lhs => rw [h.rest]
    rfl
  kept b hb := (t.reg_setReg_other w (ne_of_mem_of_not_mem ha hb).symm).trans (h.kept b hb)
  inReset := h.inReset

theorem TimeOnly.whenever {c : Bool} {f : State → State} (h : TimeOnly l s (f s)) : TimeOnly l s (when c f s) := by
  unfold when
  split
  · exact h
  · exact .refl s

theorem TimeOnly.setFld (h : TimeOnly l s t) {f : Field} {v : Nat} (hf : f.addr ∈ l) : TimeOnly l s (t.setFld f v) := h.setReg hf

theorem AfterRtc.refl (s : State) : AfterRtc l s s := ⟨.refl s, rfl, rfl, rfl⟩

theorem AfterRtc.whenever {c : Bool} {f : State → State} (h : AfterRtc l s (f s)) : AfterRtc l s (when c f s) := by
  unfold when
  split
  · exact h
  · exact .refl s

theorem AfterRtc.trans (h : AfterRtc l s t) (g : AfterRtc k t u) : AfterRtc (l ++ k) s u :=
  ⟨h.toTimeOnly.trans g.toTimeOnly, g.powered.trans h.powered, g.rtcNs.trans h.rtcNs, g.rtcSet.trans h.rtcSet⟩

/-! ### The parts of a nanosecond -/

/-- Whether the RTC counts: in every mode but DEEP NIGHT, unless the Night domain has no supply (R83, R646). -/
def State.rtcRuns (s : State) : Bool := s.mode != .deepNight && !s.sys.nightDead

/-- Powered time (R83, R500). -/
def State.tickPowered (s : State) : State :=
  when s.sys.vinPresent (fun t => { t with sys := { t.sys with poweredNs := t.sys.poweredNs + 1 } }) s

/-- The wake timer (R638). -/
def State.tickWake (s : State) : State :=
  when (s.mode == .night && s.flag Fld.PMU_WAKE_RUN) (fun t =>
      { t with sys := { t.sys with wakeNs := t.sys.wakeNs + 1 } }.setFld Fld.PMU_WAKE_REMAIN
        (t.par 10 22 0 - ((t.sys.wakeNs + 1 : Nat) : Rat) / 60_000_000_000).floor.toNat) s

/-- The time in NIGHT on VBAT (R77). -/
def State.tickVbat (s : State) : State :=
  when (s.mode == .night && s.sys.nightOnVbat) (fun t => { t with sys := { t.sys with vbatNs := t.sys.vbatNs + 1 } }) s

/-- The age of the STO path test in days and nanoseconds (R435). -/
def State.ageTest (s : State) : State :=
  if s.sys.testNs + 1 < 86_400_000_000_000 then { s with sys := { s.sys with testNs := s.sys.testNs + 1 } }
  else { s with sys := { s.sys with testNs := 0 } }.incSat Fld.SFI_STATUS_SINCE_TEST

/-- The age of the STO path test advances with the RTC, or with powered time while the RTC is not valid (R435). -/
def State.tickTest (rtc : Bool) (s : State) : State :=
  when (if s.flag Fld.PMU_NIGHT_RTC_VALID then rtc else s.sys.vinPresent) State.ageTest s

theorem State.tickPowered_eq (s : State) : s.tickPowered =
    { s with sys := { s.sys with poweredNs := if s.sys.vinPresent then s.sys.poweredNs + 1 else s.sys.poweredNs } } := by
  unfold State.tickPowered when
  split <;> rfl

theorem State.tickPowered_timeOnly (s : State) : TimeOnly [] s s.tickPowered := by
  rw [s.tickPowered_eq]
  exact .ofSys _

theorem State.tickWake_afterRtc (s : State) : AfterRtc [Reg.PMU_WAKE] s s.tickWake :=
  .whenever ⟨(TimeOnly.ofSys _).setFld List.mem_cons_self, rfl, rfl, rfl⟩

theorem State.tickVbat_eq (s : State) : s.tickVbat =
    { s with sys := { s.sys with vbatNs := if s.mode == .night && s.sys.nightOnVbat then s.sys.vbatNs + 1 else s.sys.vbatNs } } := by
  unfold State.tickVbat when
  split <;> rfl

theorem State.tickVbat_afterRtc (s : State) : AfterRtc [] s s.tickVbat := by
  rw [s.tickVbat_eq]
  exact ⟨.ofSys _, rfl, rfl, rfl⟩

theorem State.ageTest_afterRtc (s : State) : AfterRtc [Reg.SFI_STATUS] s s.ageTest := by
  unfold State.ageTest
  split
  · exact ⟨.ofSys _, rfl, rfl, rfl⟩
  · exact ⟨(TimeOnly.ofSys _).setFld List.mem_cons_self, rfl, rfl, rfl⟩

theorem State.ageTest_wakeNs (s : State) : s.ageTest.sys.wakeNs = s.sys.wakeNs := by
  unfold State.ageTest
  split <;> rfl

theorem State.tickTest_afterRtc (rtc : Bool) (s : State) : AfterRtc [Reg.SFI_STATUS] s (s.tickTest rtc) :=
  .whenever s.ageTest_afterRtc

theorem State.tickTest_wakeNs (rtc : Bool) (s : State) : (s.tickTest rtc).sys.wakeNs = s.sys.wakeNs := by
  unfold State.tickTest when
  rw [apply_ite State.sys, apply_ite Sys.wakeNs, s.ageTest_wakeNs, ite_self]

theorem State.afterRtc (rtc : Bool) (s : State) :
    AfterRtc [Reg.PMU_WAKE, Reg.SFI_STATUS] s (s.tickWake.tickVbat.tickTest rtc) :=
  (s.tickWake_afterRtc.trans s.tickWake.tickVbat_afterRtc).trans (s.tickWake.tickVbat.tickTest_afterRtc rtc)

/-! ### The RTC -/

/-- The counts of the RTC and of powered time do not change with a refresh check (R74). -/
theorem State.nextRefresh_eq (s : State) : ∃ w b, s.nextRefresh = { s with sys := { s.sys with refreshWant := w, flashBusy := b } } := by
  unfold State.nextRefresh
  split
  · exact ⟨_, _, rfl⟩
  · split <;> exact ⟨_, _, rfl⟩

theorem State.refreshCheck_eq (s : State) :
    ∃ d w b, s.refreshCheck = { s with sys := { s.sys with refreshDue := d, refreshWant := w, flashBusy := b } } := by
  unfold State.refreshCheck
  split
  · exact ⟨_, _, _, rfl⟩
  · split
    all_goals
      obtain ⟨w, b, e⟩ := State.nextRefresh_eq _
      exact ⟨_, _, _, e⟩

/-- The registers and counts once a written count has taken effect (R83, R637). -/
def State.rtcWritten (s : State) (v : Word) : State :=
  (({ s with sys := { s.sys with rtcNs := 0, rtcSet := none } } : State).setReg Reg.PMU_RTC v).setFlag Fld.PMU_NIGHT_RTC_VALID true

theorem State.rtcTick_when (s : State) (v : Word) :
    s.rtcTick v = when (s.awake && s.sys.refreshDue) State.refreshCheck (s.rtcWritten v) := rfl

theorem State.rtcTick_eq (s : State) (v : Word) : ∃ d w b, s.rtcTick v =
    (({ s with sys := { s.sys with rtcNs := 0, rtcSet := none, refreshDue := d, refreshWant := w, flashBusy := b } } : State).setReg
      Reg.PMU_RTC v).setFlag Fld.PMU_NIGHT_RTC_VALID true := by
  rw [State.rtcTick_when]
  unfold when
  split
  · obtain ⟨d, w, b, e⟩ := (s.rtcWritten v).refreshCheck_eq
    exact ⟨d, w, b, e⟩
  · exact ⟨_, _, _, rfl⟩

/-- No written count takes effect in this nanosecond of the RTC: none waits, or its tick does not come (R637). -/
def State.rtcPlain (s : State) : Prop := s.sys.rtcSet = none ∨ rtcTickAt s.sys.rtcNs = false

theorem State.rtcCount_plain (h : s.rtcPlain) : s.rtcCount =
    if s.sys.rtcNs + 1 < 1_000_000_000 then { s with sys := { s.sys with rtcNs := s.sys.rtcNs + 1 } }
    else { s with sys := { s.sys with rtcNs := 0 } }.setReg Reg.PMU_RTC (s.reg Reg.PMU_RTC + 1) := by
  unfold State.rtcCount
  split
  · next hv ht => rcases h with h | h <;> simp_all
  · rfl

theorem State.rtcCount_written {v : Word} (hv : s.sys.rtcSet = some v) (ht : rtcTickAt s.sys.rtcNs = true) :
    s.rtcCount = s.rtcTick v := by
  rw [State.rtcCount, hv, ht]

theorem State.rtcTick_timeOnly (s : State) (v : Word) : TimeOnly [Reg.PMU_RTC, Reg.PMU_NIGHT] s (s.rtcTick v) := by
  obtain ⟨d, w, b, e⟩ := s.rtcTick_eq v
  rw [e]
  exact ((TimeOnly.ofSys _).setReg List.mem_cons_self).setFld (List.mem_cons_of_mem _ List.mem_cons_self)

theorem State.rtcCount_timeOnly_plain (h : s.rtcPlain) : TimeOnly [Reg.PMU_RTC] s s.rtcCount := by
  rw [State.rtcCount_plain h]
  split
  · exact .ofSys _
  · exact (TimeOnly.ofSys { s.sys with rtcNs := 0 } rfl).setReg List.mem_cons_self

theorem State.rtcCount_timeOnly (s : State) : TimeOnly [Reg.PMU_RTC, Reg.PMU_NIGHT] s s.rtcCount := by
  by_cases h : s.rtcPlain
  · exact (State.rtcCount_timeOnly_plain h).trans (k := [Reg.PMU_NIGHT]) (.refl _)
  · rw [State.rtcPlain, not_or, ← ne_eq, Option.ne_none_iff_exists', Bool.not_eq_false] at h
    obtain ⟨⟨v, hv⟩, ht⟩ := h
    rw [State.rtcCount_written hv ht]
    exact s.rtcTick_timeOnly v

/-- The RTC leaves powered time and the wake timer. -/
theorem State.rtcCount_counts (s : State) :
    s.rtcCount.sys.poweredNs = s.sys.poweredNs ∧ s.rtcCount.sys.wakeNs = s.sys.wakeNs := by
  unfold State.rtcCount
  split
  · next v _ _ =>
    obtain ⟨d, w, b, e⟩ := s.rtcTick_eq v
    rw [e]
    exact ⟨rfl, rfl⟩
  · split <;> exact ⟨rfl, rfl⟩

/-- Powered time, and then the RTC where it runs (R83, R637). -/
def State.tickRtc (s : State) : State := when s.rtcRuns State.rtcCount s.tickPowered

theorem State.tickRtc_timeOnly (s : State) : TimeOnly [Reg.PMU_RTC, Reg.PMU_NIGHT] s s.tickRtc :=
  s.tickPowered_timeOnly.trans (.whenever s.tickPowered.rtcCount_timeOnly)

theorem State.tickRtc_counts (s : State) : s.tickRtc.sys.wakeNs = s.sys.wakeNs ∧
    s.tickRtc.sys.poweredNs = if s.sys.vinPresent then s.sys.poweredNs + 1 else s.sys.poweredNs := by
  obtain ⟨hp, hw⟩ := s.tickPowered.rtcCount_counts
  unfold State.tickRtc when
  split
  · rw [hp, hw, s.tickPowered_eq]
    exact ⟨rfl, rfl⟩
  · rw [s.tickPowered_eq]
    exact ⟨rfl, rfl⟩

/-! ### A nanosecond as a whole -/

theorem State.tickNight_parts (s : State) : s.tickNight = (s.tickRtc.tickWake.tickVbat).tickTest s.rtcRuns := rfl

theorem State.tickNight_afterRtc (s : State) : AfterRtc [Reg.PMU_WAKE, Reg.SFI_STATUS] s.tickRtc s.tickNight :=
  s.tickRtc.afterRtc s.rtcRuns

theorem State.tickNight_timeOnly (s : State) :
    TimeOnly [Reg.PMU_RTC, Reg.PMU_NIGHT, Reg.PMU_WAKE, Reg.SFI_STATUS] s s.tickNight :=
  s.tickRtc_timeOnly.trans s.tickNight_afterRtc.toTimeOnly

theorem State.tickNight_timeOnly_plain (h : s.sys.rtcSet = none) :
    TimeOnly [Reg.PMU_RTC, Reg.PMU_WAKE, Reg.SFI_STATUS] s s.tickNight :=
  have hplain : s.tickPowered.rtcPlain := .inl (by rw [s.tickPowered_eq, h])
  (s.tickPowered_timeOnly.trans (TimeOnly.whenever (c := s.rtcRuns) (State.rtcCount_timeOnly_plain hplain))).trans
    s.tickNight_afterRtc.toTimeOnly

theorem State.tickDawn_timeOnly (s : State) : TimeOnly [] s s.tickDawn := TimeOnly.whenever (.ofSys _)

/-- The registers that say whether the device is awake with its 400 MHz clock are not those of time. -/
theorem State.awake_time (s : State) : s.tickNight.tickDawn.awake = s.awake :=
  (s.tickNight_timeOnly.trans s.tickNight.tickDawn_timeOnly).awake (by decide)

theorem State.pll400_time (s : State) : s.tickNight.tickDawn.flag Fld.SYS_CLK_PLL400 = s.flag Fld.SYS_CLK_PLL400 :=
  (s.tickNight_timeOnly.trans s.tickNight.tickDawn_timeOnly).flag (by decide)

/-- With no command waiting a nanosecond passes (log entry 5). -/
theorem step_idle (h : s.pending = []) : step s = .next s.tick := by
  rw [step, h]

theorem State.tick_dark (h : (s.awake && s.flag Fld.SYS_CLK_PLL400) = false) : s.tick = s.tickNight.tickDawn := by
  rw [← s.awake_time, ← s.pll400_time] at h
  exact if_neg (ne_true_of_eq_false h)

theorem State.tick_clocked (h : (s.awake && s.flag Fld.SYS_CLK_PLL400) = true) :
    s.tick = s.tickNight.tickDawn.tickWeft.tickTransients.tickPorts.scopeSample.serve.deadPoll.conPoll := by
  rw [← s.awake_time, ← s.pll400_time] at h
  exact if_pos h

/-- What a nanosecond makes of the RTC where it runs. -/
theorem State.tickNight_rtc (hm : s.mode ≠ .deepNight) (hd : s.sys.nightDead = false) :
    AfterRtc [Reg.PMU_WAKE, Reg.SFI_STATUS] s.tickPowered.rtcCount s.tickNight := by
  have hrun : s.rtcRuns = true := by simp [State.rtcRuns, hm, hd]
  have h := s.tickNight_afterRtc
  rwa [State.tickRtc, hrun] at h

/-- Where the RTC stands still a nanosecond leaves it. -/
theorem State.tickNight_noRtc (hstop : s.mode = .deepNight ∨ s.sys.nightDead = true) :
    AfterRtc [Reg.PMU_WAKE, Reg.SFI_STATUS] s.tickPowered s.tickNight := by
  have hoff : s.rtcRuns = false := by rcases hstop with h | h <;> simp [State.rtcRuns, h]
  have h := s.tickNight_afterRtc
  rwa [State.tickRtc, hoff] at h

theorem State.reg_tickPowered (s : State) (a : Nat) : s.tickPowered.reg a = s.reg a := s.tickPowered_timeOnly.reg List.not_mem_nil

/-- A field takes the low bits of what is put into it. -/
theorem fieldGet_put_mod (w : Word) {lo n : Nat} (v : Nat) (hn : lo + n ≤ 32) : fieldGet (fieldPut w lo n v) lo n = v % 2 ^ n := by
  have hlow : BitVec.ofNat 32 v &&& ones n = BitVec.ofNat 32 (v % 2 ^ n) &&& ones n := by
    apply BitVec.eq_of_getLsbD_eq
    intro i hi
    simp only [BitVec.getLsbD_and, BitVec.getLsbD_ofNat, getLsbD_ones, Nat.testBit_mod_two_pow]
    by_cases h : i < n <;> simp [h]
  have hput : fieldPut w lo n v = fieldPut w lo n (v % 2 ^ n) := by rw [fieldPut, fieldPut, hlow]
  rw [hput]
  exact fieldGet_put w hn (Nat.mod_lt _ (Nat.two_pow_pos n))

theorem State.tickWake_night (hm : s.mode = .night) (hr : s.flag Fld.PMU_WAKE_RUN = true) :
    s.tickWake.sys.wakeNs = s.sys.wakeNs + 1 ∧ s.tickWake.fld Fld.PMU_WAKE_REMAIN =
      (s.par 10 22 0 - ((s.sys.wakeNs + 1 : Nat) : Rat) / 60_000_000_000).floor.toNat % 2 ^ 20 := by
  have hgo : (s.mode == .night && s.flag Fld.PMU_WAKE_RUN) = true := by rw [hm, hr]; rfl
  rw [State.tickWake, hgo]
  refine ⟨rfl, ?_⟩
  rw [when, if_pos rfl, State.fld, State.reg_setFld]
  exact fieldGet_put_mod _ _ (by decide)

end Time

/-- Settles O59: time touches only its own counts and registers (`TimeOnly`), and each count follows its part of the
nanosecond. -/
theorem timeAlone : Obligations.TimeAlone := by
  unfold Obligations.TimeAlone
  refine ⟨?_, ?_, ?_, ?_, ?_, ?_, ?_, ?_, ?_, ?_, ?_⟩
  · intro s hp ha
    rw [step_idle hp, State.tick_dark (by rw [ha]; rfl)]
  · intro s hp ha hc
    rw [step_idle hp, State.tick_dark (by rw [ha, hc]; rfl)]
  · intro s hp ha hc _
    rw [step_idle hp, State.tick_clocked (by rw [ha, hc]; rfl)]
  · intro s
    have h := s.tickNight_timeOnly
    exact ⟨s.tickNight_afterRtc.powered.trans s.tickRtc_counts.2, h.weft, h.sameStore, h.sram, h.gc⟩
  · intro s hm hd hset hns
    have h := State.tickNight_rtc hm hd
    have hset' : s.tickPowered.sys.rtcSet = none := by rw [s.tickPowered_eq, hset]
    have hns' : s.tickPowered.sys.rtcNs = 999_999_999 := by rw [s.tickPowered_eq, hns]
    rw [h.reg (by decide), h.rtcNs, State.rtcCount_plain (.inl hset'), hns', if_neg (by decide), State.reg_setReg, s.reg_tickPowered]
    exact ⟨rfl, rfl⟩
  · intro s hm hd hns hplain
    have h := State.tickNight_rtc hm hd
    have hplain' : s.tickPowered.rtcPlain := by
      rw [s.tickPowered_eq]
      exact hplain
    have hns' : s.tickPowered.sys.rtcNs + 1 < 1_000_000_000 := by
      rw [s.tickPowered_eq]
      exact Nat.succ_lt_succ hns
    rw [h.reg (by decide), h.rtcNs, h.rtcSet, State.rtcCount_plain hplain', if_pos hns', s.tickPowered_eq]
    exact ⟨rfl, rfl, rfl⟩
  · intro v s hm hd hset ht
    have h := State.tickNight_rtc hm hd
    have hset' : s.tickPowered.sys.rtcSet = some v := by rw [s.tickPowered_eq, hset]
    have ht' : rtcTickAt s.tickPowered.sys.rtcNs = true := by rw [s.tickPowered_eq, ht]
    obtain ⟨d, w, b, e⟩ := s.tickPowered.rtcTick_eq v
    rw [h.reg (by decide), h.rtcNs, h.rtcSet, h.flag (by decide), State.rtcCount_written hset' ht', e]
    refine ⟨?_, rfl, rfl, ?_⟩
    · exact (State.reg_setFld_other _ _ (by decide)).trans (State.reg_setReg _ _ _)
    · exact State.flag_setFlag _ true (by decide) (by decide)
  · intro s hstop
    have h := State.tickNight_noRtc hstop
    rw [h.reg (by decide), h.rtcNs, s.reg_tickPowered, s.tickPowered_eq]
    exact ⟨rfl, rfl⟩
  · intro s hr hf
    have hone : s.wft.frac + 1 + s.wft.rate / 1_000_000 = 1 := by rw [hr, hf]; norm_num
    have hfloor : (1 : Rat).floor = 1 := rfl
    simp [State.tickWeft, hone, hfloor]
  · intro s a hset hrtc hwake hsfi
    exact (State.tickNight_timeOnly_plain hset).reg (by simp [hrtc, hwake, hsfi])
  · intro s hm hr
    have hp := s.tickRtc_timeOnly
    obtain ⟨hns, hleft⟩ := State.tickWake_night ((hp.mode (by decide)).trans hm) ((hp.flag (by decide)).trans hr)
    rw [hp.par, s.tickRtc_counts.1] at hleft
    rw [s.tickRtc_counts.1] at hns
    rw [s.tickNight_parts, (State.tickTest_afterRtc _ _).fld (by decide), State.tickTest_wakeNs, State.tickVbat_eq]
    exact ⟨hns, hleft⟩

end Sys2Proof.Machine
end

section
namespace Sys2Proof.Machine

/-! ## A step takes the command in front -/

theorem step_command {s : State} {c : Instr} {r : List Instr} (h : s.pending = c :: r) :
    step s = exec c { s with pending := r } := by
  rw [step, h]

/-- No word spells a command (log entry 6). -/
theorem State.withFetchWord_eq (s : State) (n w : Nat) : s.withFetchWord n w = s := rfl

/-- Settles O49: the machine's step is `step`, which looks at the front of the queue. -/
theorem queueStep : Obligations.QueueStep :=
  ⟨fun _ _ _ h => ⟨step_command h, rfl⟩, fun _ h => step_idle h, fun n w s => ⟨s.withFetchWord_eq n w, rfl⟩⟩

end Sys2Proof.Machine
end

section
namespace Sys2Proof.Machine

/-! ## Update boundaries, windows and deliveries -/

/-- What a boundary comes to at its instant, with the clocks of the set running (R179, R182). -/
theorem exec_updateBoundary_at {x : Fin 4} {b : Bool} {v : Vector Rat 8} {s : State} (hc : s.clocksRun x = true)
    (ha : s.atBoundary x b = true) : exec (.updateBoundary x b v) s = .next (
      let t := if b then s.peak x else s.valley x v
      ((if b && !t.flag (Fld.PWM_CFG_DUAL x) then t else t.searchUpdate x).shootCheck x).settle) := by
  rw [exec_updateBoundary, execUpdateBoundary, hc, ha]
  rfl

/-- What a shunt trigger comes to in its nanosecond, with the clocks of the set running (R188, R446). -/
theorem exec_shuntTrigger_at {x : Fin 4} {b : Bool} {v : Vector Rat 4} {ps : Raw3} {s : State} (hc : s.clocksRun x = true)
    (ha : s.atWindow x b = true) : exec (.shuntTrigger x b v ps) s =
      if s.windowMissing x b || decide (s.fld (Fld.MFE_SHUNT_RSH x) = 0) then
        .next (let t := if s.windowMissing x b then s else s.islandWindow x (meanRat (v.toList.map shuntVolts))
          if b then t.reconClass x none else t.modMfe x fun m => { m with winA := none }).settle
      else
        .next (let r := (if s.windowMissing x b then s else s.islandWindow x (meanRat (v.toList.map shuntVolts))).inlineAmps x ps
          let w : WinVal := { i := (meanRat (v.toList.map shuntVolts) - r.2.mfe[x].shOfs) / r.2.rShunt x, t := r.2.weft, ps := r.1 }
          if b then r.2.reconClass x (some w) else r.2.modMfe x fun m => { m with winA := some w }).settle := by
  rw [exec_shuntTrigger, execShuntTrigger, hc, ha]
  rfl

/-- What the lane does with the currents of a delivery in time, by what its checks find (R260, R261). -/
def State.delivered (s : State) (a x : Fin 4) (inp : LaneIn) (fresh : Bool) (busy : BitVec 16) : Option LaneErr → State
  | none => s.laneUpdate a x inp fresh busy true
  | some .corrected => (s.incSat (Fld.LOOM_ECC_CE x)).laneUpdate a x inp fresh busy true
  | some .residue => s.laneFault x (Fld.LOOM_FAULT_RESIDUE x)
  | some (.double addr shared) => s.eccDue x addr shared

/-- What a delivery to a lane that runs comes to: OVERRUN beyond 1.8 µs, and otherwise the lane's own rules (R262). -/
theorem exec_inlineDelivery_runs {x a : Fin 4} {ps : Raw3} {busy : BitVec 16} (err : Option LaneErr) {inp : LaneIn} {s : State}
    (hc : s.clocksRun x = true) (ho : (s.deliver x ps).2.ownerAxis x = some a) (hi : (s.deliver x ps).2.lane[x].inp = some inp)
    (hf : (s.deliver x ps).2.flag (Fld.LOOM_STATUS_FAULTED x) = false) : exec (.inlineDelivery x ps busy err) s = .next
      (if 0x2D0 < busy.toNat then (s.deliver x ps).2.laneFault x (Fld.LOOM_FAULT_OVERRUN x)
        else (s.deliver x ps).2.delivered a x inp (s.deliver x ps).1 busy err).settle := by
  simp only [exec_inlineDelivery, execInlineDelivery, hc, ho, hi, hf, Bool.not_true, Bool.false_eq_true, if_false]
  split
  · rfl
  · cases err with
    | none => rfl
    | some e => cases e <;> rfl

/-- Settles O14, clause by clause. -/
theorem pwmAndSampling : Obligations.PwmAndSampling := by
  unfold Obligations.PwmAndSampling
  refine ⟨?_, ?_, ?_, ?_, ?_, ?_, ?_, ?_, ?_, ?_, ?_, ?_, ?_, ?_, ?_⟩
  · intro x b v8 v4 ps s hc
    simp only [exec_updateBoundary, execUpdateBoundary, exec_inlineTrigger, execInlineTrigger, exec_shuntTrigger, execShuntTrigger, hc,
      Bool.not_false, Bool.true_or, if_true, and_self]
  · intro x v s hc ha
    simp only [exec_updateBoundary_at hc ha, Bool.false_and, Bool.false_eq_true, if_false]
  · intro x v s hc ha hd
    simp only [exec_updateBoundary_at hc ha, if_true, hd]
    rfl
  · intro x v s hc ha hd
    simp only [exec_updateBoundary_at hc ha, if_true, hd]
    rfl
  · intro x c s hs hc
    simp only [exec_updateRequest, execUpdateRequest, hs, hc]
    rfl
  · intro w x phase s hw
    rw [exec_phaseWrite, execPhaseWrite, State.access_writable _ _ hw]
  · intro x a s hc ha ho hf
    have ho' : (s.modMfe x fun m => { m with sample := s.weft }).ownerAxis x = some a := ho
    have hf' : (s.modMfe x fun m => { m with sample := s.weft }).flag (Fld.LOOM_STATUS_FAULTED x) = false := hf
    simp only [exec_inlineTrigger, execInlineTrigger, hc, ha, ho', hf']
    rfl
  · intro x v ps s hc ha hm hr
    simp only [exec_shuntTrigger_at hc ha, hm, hr]
    rfl
  · intro x v ps s hc ha hm hr
    simp only [exec_shuntTrigger_at hc ha, hm, hr]
    rfl
  · intro x v ps s hc ha hm
    simp only [exec_shuntTrigger_at hc ha, hm]
    rfl
  · intro x a ps busy inp s hc hb ho hi hf
    rw [exec_inlineDelivery_runs none hc ho hi hf, if_neg (Nat.not_lt.mpr hb)]
    rfl
  · intro x a ps busy err inp s hc ho hi hf hb
    rw [exec_inlineDelivery_runs err hc ho hi hf, if_pos hb]
  · intro x a ps busy inp s hc ho hi hf hb
    have hrun (err : Option LaneErr) : exec (.inlineDelivery x ps busy err) s =
        .next ((s.deliver x ps).2.delivered a x inp (s.deliver x ps).1 busy err).settle := by
      rw [exec_inlineDelivery_runs err hc ho hi hf, if_neg (Nat.not_lt.mpr hb)]
    exact ⟨hrun (some .residue), hrun (some .corrected), fun addr shared => hrun (some (.double addr shared))⟩
  · intro x b v ps s hc ha hm hr
    simp only [exec_shuntTrigger_at hc ha, hm, hr]
    rfl
  · intro x a s ho hr hg
    simp only [exec_safetyGap, execSafetyGap, ho, hr, hg]
    rfl

end Sys2Proof.Machine
end

section
namespace Sys2Proof.Machine

/-! ## The gate-switching tests -/

/-- A test that may start is marked as running and begins (R29, R616). -/
theorem State.testStart_may {s : State} (k : GateTestKind) (x : Option (Fin 4)) (runsOn : Bool) (h : s.mayTest = true) :
    s.testStart k x runsOn = (s.testing k x runsOn).testBegin.settle := by
  simp only [State.mayTest, Bool.and_eq_true, beq_iff_eq, Option.isNone_iff_eq_none] at h
  obtain ⟨⟨⟨hm, ht⟩, hsto⟩, hen⟩ := h
  simp only [State.testStart, hm, ht, hsto, hen]
  rfl

/-- Outside SERVICE a test answers ERR MODE (R616). -/
theorem State.testStart_mode {s : State} (k : GateTestKind) (x : Option (Fin 4)) (runsOn : Bool) (h : s.mode ≠ .service) :
    s.testStart k x runsOn = s.replyErr "MODE" :=
  if_pos (bne_iff_ne.mpr h)

/-- Beside another test a test answers ERR BUSY (R616). -/
theorem State.testStart_busy {s : State} (k : GateTestKind) (x : Option (Fin 4)) (runsOn : Bool) (hm : s.mode = .service)
    (h : s.con.test.isSome = true) : s.testStart k x runsOn = s.replyErr "BUSY" := by
  simp only [State.testStart, hm, h]
  rfl

/-- With STO_A, STO_B or EN low a test answers ERR MODE (R616). -/
theorem State.testStart_low {s : State} (k : GateTestKind) (x : Option (Fin 4)) (runsOn : Bool) (hm : s.mode = .service)
    (ht : s.con.test = none) (h : (s.stoBothHigh && s.flag Fld.PSP_REQ_EN) = false) :
    s.testStart k x runsOn = s.replyErr "MODE" := by
  have hlow : (!s.stoBothHigh || !s.flag Fld.PSP_REQ_EN) = true := by rw [← Bool.not_and, h]; rfl
  simp only [State.testStart, hm, ht, hlow]
  rfl

/-- gdc dead and fbi cmp have no condition of their own: both are refused as any test is (R616). -/
theorem serves_testStart {s : State} {g : State → State} {h : Fin 12} {n : Fin 4} {v w : Word} (hf : s.conFree false = true)
    (hg : ∀ k x, s.takeLine.testStart k x false = g s.takeLine) : Serves (.gdcDead h) s g ∧ Serves (.fbiCmp n v w) s g :=
  ⟨serves_conRun (exec_gdcDead ..) hf (hg ..), serves_conRun (exec_fbiCmp ..) hf (hg ..)⟩

/-- A duty is out of range exactly where it is not between 0 and 1 (R200). -/
theorem dutyBad_iff (d : Rat) : (decide (d < 0) || decide (1 < d)) = true ↔ ¬ (0 ≤ d ∧ d ≤ 1) := by
  rw [Bool.or_eq_true, decide_eq_true_eq, decide_eq_true_eq, not_and_or, not_le, not_le]

theorem dutiesBad_iff (du dv dw : Rat) : ([du, dv, dw].any fun d => decide (d < 0) || decide (1 < d)) = true ↔
    ¬ ((0 ≤ du ∧ du ≤ 1) ∧ (0 ≤ dv ∧ dv ≤ 1) ∧ (0 ≤ dw ∧ dw ≤ 1)) := by
  rw [List.any_eq_true]
  simp only [dutyBad_iff, List.mem_cons, List.not_mem_nil, or_false, exists_eq_or_imp, exists_eq_left, not_and_or]

/-- chop test is refused exactly outside 20 V to 59 V, or without a brake resistor (R176). -/
theorem State.chopBad_iff (s : State) (x : Fin 4) :
    (decide (s.psp[x].vdc < 20) || decide (59 < s.psp[x].vdc) || decide (s.fld (Fld.PSP_CHOP_RB x) = 0)) = true ↔
      ¬ (20 ≤ s.psp[x].vdc ∧ s.psp[x].vdc ≤ 59 ∧ s.fld (Fld.PSP_CHOP_RB x) ≠ 0) := by
  rw [Bool.or_eq_true, Bool.or_eq_true, decide_eq_true_eq, decide_eq_true_eq, decide_eq_true_eq, not_and_or, not_and_or, not_le,
    not_le, not_not, or_assoc]

/-- pos inj is refused exactly where its axis is no sensorless permanent-magnet axis at rest (R304). -/
theorem State.injBad_iff (s : State) (a : Fin 4) :
    (!s.axisExists a || s.source_ a != 2 || s.machine a == 2 || !s.atRest a) = true ↔
      ¬ (s.axisExists a = true ∧ s.source_ a = 2 ∧ s.machine a ≠ 2 ∧ s.atRest a = true) := by
  simp only [Bool.or_eq_true, Bool.not_eq_true', bne_iff_ne, beq_iff_eq, not_and_or, ne_eq, not_not, Bool.not_eq_true, or_assoc]

/-- Settles O43: the start of each test comes to `testStart` under its own conditions, and the rest are its first action and its end. -/
theorem gateSwitchingTests : Obligations.GateSwitchingTests := by
  unfold Obligations.GateSwitchingTests
  refine ⟨?_, ?_, ?_, ?_, ?_, ?_, ?_, ?_, ?_, ?_, ?_, ?_, ?_, ?_, ?_, ?_, ?_, ?_, ?_, ?_, ?_, ?_, ?_, ?_, ?_, ?_, ?_⟩
  · intro n us s h hm h0 h100
    have hus : ¬ (decide (us = 0) || decide (100 < us)) = true := by simp; omega
    exact serves_conRun (exec_gdcPulse ..) h ((if_neg hus).trans (State.testStart_may _ _ _ hm))
  · intro n us s h hus
    exact serves_conRun (exec_gdcPulse ..) h (if_pos (by simpa using hus))
  · intro hb s h hm
    exact serves_conRun (exec_gdcDead ..) h (State.testStart_may _ _ _ hm)
  · intro x v s h hm hlo hhi hr
    have hgo := (not_congr (s.takeLine.chopBad_iff x)).mpr (not_not.mpr ⟨hlo, hhi, hr⟩)
    exact serves_conRun (exec_chopTest ..) h ((if_neg hgo).trans (State.testStart_may _ _ _ hm))
  · intro x v s h hbad
    exact serves_conRun (exec_chopTest ..) h (if_pos ((s.takeLine.chopBad_iff x).mpr hbad))
  · intro x du dv dw s h hm hu hv hw hset
    have hgo := (not_congr (dutiesBad_iff du dv dw)).mpr (not_not.mpr ⟨hu, hv, hw⟩)
    exact serves_conRun (exec_pwmRun ..) h
      ((if_neg hgo).trans ((if_neg (by simp [hset])).trans (State.testStart_may _ _ _ hm)))
  · intro x du dv dw s h hbad
    exact serves_conRun (exec_pwmRun ..) h (if_pos ((dutiesBad_iff du dv dw).mpr hbad))
  · intro x du dv dw s h hu hv hw hset
    have hgo := (not_congr (dutiesBad_iff du dv dw)).mpr (not_not.mpr ⟨hu, hv, hw⟩)
    exact serves_conRun (exec_pwmRun ..) h ((if_neg hgo).trans (if_pos (bne_iff_ne.mpr hset)))
  · intro a l q s h hm he hs hma hr
    have hgo := (not_congr (s.takeLine.injBad_iff a)).mpr (not_not.mpr ⟨he, hs, hma, hr⟩)
    exact serves_conRun (exec_posInj ..) h ((if_neg hgo).trans (State.testStart_may _ _ _ hm))
  · intro a l q s h hbad
    exact serves_conRun (exec_posInj ..) h (if_pos ((s.takeLine.injBad_iff a).mpr hbad))
  · intro n v w s h hm
    exact serves_conRun (exec_fbiCmp ..) h (State.testStart_may _ _ _ hm)
  · intro c n s h hm hst hf
    exact serves_conRun (exec_prgJog ..) h ((if_pos (by simp [hst, hf])).trans (State.testStart_may _ _ _ hm))
  · intro c n s h hbad
    exact serves_conRun (exec_prgJog ..) h (if_neg (by rcases hbad with hb | hb <;> simp [hb]))
  · intro hb n v w s h hm
    exact serves_testStart h fun k x => State.testStart_mode k x false hm
  · intro hb n v w s h hm ht
    exact serves_testStart h fun k x => State.testStart_busy k x false hm ht
  · intro hb n v w s h hm ht hlow
    exact serves_testStart h fun k x => State.testStart_low k x false hm ht hlow
  · intro k x s ht hb hc
    simp only [State.testBegin, ht, hb, hc]
    rfl
  · intro k x s ht hwait
    rw [State.testBegin, ht]
    exact if_pos (by rcases hwait with hw | hw <;> simp [hw])
  · intro n us x s hn
    exact if_pos hn
  · intro n us x s hn
    exact if_neg (Nat.not_lt.mpr hn)
  · intro x y h v n a w c z s
    exact ⟨rfl, rfl, rfl, rfl⟩
  · rintro x du dv dw c s rfl
    rfl
  · intro a l q x s
    rfl
  · intro k x s ht ho
    simp only [exec_testEnd, execTestEnd, ht, ho, if_true]
  · intro s h
    rw [exec_testEnd, execTestEnd]
    split
    · rfl
    · next ht =>
      have ho : s.testOver = false := h.resolve_right (by rw [ht]; exact Option.some_ne_none _)
      rw [if_neg (ne_true_of_eq_false ho)]
  · intro h t0 x s ht hc
    simp only [State.deadPoll, ht, hc]
    rfl
  · intro h t0 x s ht hc
    simp only [State.deadPoll, ht, decide_eq_true hc]
    rfl

end Sys2Proof.Machine
end

section
namespace Sys2Proof.Machine

/-! ## What set faults and axis faults leave of the registers -/

/-- The registers that the reports, a set fault and an axis fault may write: those of the LCK block, the status of a gate
channel, the faults of the channels of a set, those of the power stages and of the carrier, and the blocks from POS on. -/
inductive FaultReg : Nat → Prop
  | pairs {a : Nat} : 0x4003_0000 ≤ a → a < 0x4004_0000 → FaultReg a
  | gate (n : Nat) : FaultReg (Reg.GDC_STATUS n)
  | gateSet (x : Nat) : FaultReg (Reg.GDC_SET_FAULT x)
  | stage {a : Nat} : 0x4012_0000 ≤ a → a < 0x4020_0000 → FaultReg a
  | above {a : Nat} : 0x4030_0000 ≤ a → FaultReg a

theorem FaultReg.high {b n k : Nat} (h : Nat.ble 0x4030_0000 b = true) : FaultReg (b + n * k) :=
  .above ((Nat.le_of_ble_eq_true h).trans (Nat.le_add_right b _))

theorem FaultReg.power {m b k : Nat} {n : Fin m} (h : (Nat.ble 0x4012_0000 b && Nat.ble (b + m * k) 0x4020_0000 && Nat.blt 0 k) = true) :
    FaultReg (b + n.val * k) := by
  simp only [Bool.and_eq_true, Nat.ble_eq, Nat.blt_eq] at h
  obtain ⟨⟨hlo, hhi⟩, hk⟩ := h
  exact .stage (hlo.trans (Nat.le_add_right b _)) (by have := Nat.mul_lt_mul_of_pos_right n.isLt hk; omega)

theorem FaultReg.pair {b k : Nat} {n : Fin 4} (h : (Nat.ble 0x4003_0000 b && Nat.ble (b + 4 * k) 0x4004_0000 && Nat.blt 0 k) = true) :
    FaultReg (b + n.val * k) := by
  simp only [Bool.and_eq_true, Nat.ble_eq, Nat.blt_eq] at h
  obtain ⟨⟨hlo, hhi⟩, hk⟩ := h
  exact .pairs (hlo.trans (Nat.le_add_right b _)) (by have := Nat.mul_lt_mul_of_pos_right n.isLt hk; omega)

/-- The state keeps every register beside those, the device's own state, and what each channel's self-test has left (R128). -/
structure Calm (s0 s : State) : Prop where
  reg    : ∀ a, ¬ FaultReg a → s.reg a = s0.reg a
  sys    : s.sys = s0.sys
  passed : ∀ n : Fin 28, s.gc[n].testPassed = s0.gc[n].testPassed

section Calm
variable {s0 s t : State}

theorem Calm.refl (s : State) : Calm s s := ⟨fun _ _ => rfl, rfl, fun _ => rfl⟩

theorem Calm.fld (h : Calm s0 s) {f : Field} (hf : ¬ FaultReg f.addr) : s.fld f = s0.fld f := by
  rw [State.fld, State.fld, h.reg _ hf]

theorem Calm.flag (h : Calm s0 s) {f : Field} (hf : ¬ FaultReg f.addr) : s.flag f = s0.flag f := by
  rw [State.flag, State.flag, h.fld hf]

/-- A change of nothing that counts here. -/
theorem Calm.same (h : Calm s0 s) (hr : t.regs = s.regs) (hs : t.sys = s.sys) (hg : t.gc = s.gc) : Calm s0 t where
  reg a ha := by rw [← h.reg a ha, State.reg, State.reg, hr]
  sys := hs.trans h.sys
  passed n := by rw [hg]; exact h.passed n

theorem Calm.ite {a b : State} {c : Prop} [Decidable c] (ha : Calm s0 a) (hb : Calm s0 b) : Calm s0 (if c then a else b) := by
  split <;> assumption

theorem Calm.whenever {c : Bool} {f : State → State} (hf : ∀ t, Calm s0 t → Calm s0 (f t)) (h : Calm s0 s) :
    Calm s0 (when c f s) := (hf s h).ite h

theorem Calm.each {α : Type} {l : List α} {f : α → State → State} (hf : ∀ a t, Calm s0 t → Calm s0 (f a t))
    (h : Calm s0 s) : Calm s0 (forAll l f s) := foldl_keeps (fun t a ht => hf a t ht) h

theorem Calm.setReg (h : Calm s0 s) {a : Nat} {w : Word} (ha : FaultReg a) : Calm s0 (s.setReg a w) where
  reg b hb := (s.reg_setReg_other w (by rintro rfl; exact hb ha)).trans (h.reg b hb)
  sys := h.sys
  passed := h.passed

theorem Calm.setFld (h : Calm s0 s) {f : Field} {v : Nat} (ha : FaultReg f.addr) : Calm s0 (s.setFld f v) := h.setReg ha

theorem Calm.setFlag (h : Calm s0 s) {f : Field} {b : Bool} (ha : FaultReg f.addr) : Calm s0 (s.setFlag f b) := h.setReg ha

theorem Calm.incSat (h : Calm s0 s) {f : Field} (ha : FaultReg f.addr) : Calm s0 (s.incSat f) := h.setReg ha

theorem Calm.setFlags (h : Calm s0 s) {l : List Field} {b : Bool} (hl : ∀ f ∈ l, FaultReg f.addr) :
    Calm s0 (forAll l (fun f t => t.setFlag f b) s) := by
  induction l generalizing s with
  | nil => exact h
  | cons f r ih => exact ih (h.setFlag (hl f List.mem_cons_self)) fun g hg => hl g (List.mem_cons_of_mem f hg)

/-! ### Reports -/

theorem Calm.sramWrite (h : Calm s0 s) {a : Nat} {l : List Byte} : Calm s0 (s.sramWrite a l) := by
  obtain ⟨m, e⟩ := State.sramWrite_eq l s a
  rw [e]
  exact h.same rfl rfl rfl

theorem Calm.setIrq (h : Calm s0 s) {k : Nat} {b : Bool} : Calm s0 (s.setIrq k b) :=
  Calm.each (fun _ _ ht => ht.setFld (.pair rfl)) h

theorem Calm.journalFull (h : Calm s0 s) {code unit : Nat} {hw : Bool} {d0 d1 : Word} :
    Calm s0 (s.journalFull code unit hw d0 d1) := by
  refine h.ite (Calm.ite (Calm.incSat ?_ (.above (by decide))) (Calm.setIrq (Calm.setFld ?_ (.above (by decide)))))
  all_goals exact h.same rfl rfl rfl

theorem Calm.journal (h : Calm s0 s) {code unit : Nat} {d0 d1 : Word} : Calm s0 (s.journal code unit d0 d1) := h.journalFull

theorem Calm.msix (h : Calm s0 s) {vec : Nat} : Calm s0 (s.msix vec) :=
  Calm.ite (h.setFld (.above (show _ ≤ Reg.MSIX_PBA by decide))) (h.same rfl rfl rfl)

theorem Calm.modSq (h : Calm s0 s) {n : Fin 16} {f : SubRing → SubRing} : Calm s0 (s.modSq n f) := h.same rfl rfl rfl

theorem Calm.modCq (h : Calm s0 s) {n : Fin 16} {f : CplRing → CplRing} : Calm s0 (s.modCq n f) := h.same rfl rfl rfl

theorem Calm.cqSignal (h : Calm s0 s) {n : Fin 16} : Calm s0 (s.cqSignal n) :=
  Calm.ite (h.modCq.setFlag (.pair (n := Fin.ofNat 4 _) rfl)) h.modCq.msix

theorem Calm.cqWrite (h : Calm s0 s) {n : Fin 16} {e : Completion} : Calm s0 (s.cqWrite n e) := by
  unfold State.cqWrite
  extract_lets tail phase own head e u next v w x y now z
  have hu : Calm s0 u := h.whenever fun _ ht => ht.setFld (.high rfl)
  have hx : Calm s0 x := ((hu.whenever fun _ ht => ht.sramWrite).modCq.setFld (.high rfl)).whenever fun _ ht => ht.setFlag (.high rfl)
  have hy : Calm s0 y := hx.setFlag (.high rfl)
  exact hy.ite (Calm.ite hy.modCq.cqSignal hy.modCq)

theorem Calm.event (h : Calm s0 s) {code : Nat} {data : List Word} : Calm s0 (s.event code data) := by
  refine h.ite (Calm.ite (h.incSat (.high rfl)) (Calm.ite (Calm.incSat ?_ (.above (by decide))) h.cqWrite))
  exact h.same rfl rfl rfl

theorem Calm.cqPush (h : Calm s0 s) {n : Fin 16} {e : Completion} : Calm s0 (s.cqPush n e) :=
  Calm.ite (h.incSat (.high rfl)) (Calm.ite (h.whenever fun _ ht => ht.incSat (.high rfl)).modCq h.cqWrite)

theorem Calm.say (h : Calm s0 s) {l : Line} : Calm s0 (s.say l) := h.same rfl rfl rfl

theorem Calm.reply (h : Calm s0 s) {l : List Line} : Calm s0 (s.reply l) := h.same rfl rfl rfl

theorem Calm.replyErr (h : Calm s0 s) {w : String} : Calm s0 (s.replyErr w) := h.say

theorem Calm.complete (h : Calm s0 s) {d : Desc} {opcode status detail : Nat} {data : List Word} :
    Calm s0 (s.complete d opcode status detail data) :=
  Calm.ite (h.reply.ite h.say) (Calm.ite h.modSq.modSq h.modSq.cqPush)

theorem Calm.finish (h : Calm s0 s) {pick : InFlight → Bool} {status detail : Nat} : Calm s0 (s.finish pick status detail) := by
  refine Calm.each (fun _ _ ht => ht.complete) ?_
  exact h.same rfl rfl rfl

/-! ### Gates -/

theorem Calm.modPwm (h : Calm s0 s) {x : Fin 4} {f : PwmSet → PwmSet} : Calm s0 (s.modPwm x f) := h.same rfl rfl rfl

theorem Calm.modPsp (h : Calm s0 s) {x : Fin 4} {f : PspSet → PspSet} : Calm s0 (s.modPsp x f) := h.same rfl rfl rfl

theorem State.modGc_gc (s : State) (m n : Fin 28) (f : GateChan → GateChan) :
    (s.modGc m f).gc[n] = if m = n then f s.gc[n] else s.gc[n] := by
  by_cases h : m = n
  · subst h
    simp [State.modGc]
  · simp [State.modGc, h, Fin.val_ne_of_ne h]

theorem Calm.modGc (h : Calm s0 s) {n : Fin 28} {f : GateChan → GateChan} (hf : ∀ g, (f g).testPassed = g.testPassed := by intro _; rfl) :
    Calm s0 (s.modGc n f) where
  reg := h.reg
  sys := h.sys
  passed m := by
    rw [State.modGc_gc, ← h.passed m, apply_ite GateChan.testPassed, hf, ite_self]

theorem Calm.edge (h : Calm s0 s) {n : Fin 28} : Calm s0 (s.edge n) := h.modPsp

theorem Calm.chanOff (h : Calm s0 s) {n : Fin 28} : Calm s0 (s.chanOff n) := by
  have hh : Calm s0 (s.setFlag (Fld.GDC_STATUS_HELD n) false) := h.setFlag (.gate n)
  refine Calm.whenever (fun _ ht => ht.edge) (Calm.modGc (Calm.ite ?_ (hh.setFlag (.power rfl))))
  exact hh.same rfl rfl rfl

theorem Calm.phasesOff (h : Calm s0 s) {x : Fin 4} : Calm s0 (s.phasesOff x) := h.each fun _ _ ht => ht.chanOff

theorem Calm.chopperOn (h : Calm s0 s) {x : Fin 4} : Calm s0 (s.chopperOn x) :=
  h.ite (h.setFlag (.power rfl)).modGc.edge

theorem Calm.chopSwitch (h : Calm s0 s) {x : Fin 4} {on : Bool} : Calm s0 (s.chopSwitch x on) :=
  h.ite (h.modPsp.chopperOn.ite h.modPsp.chanOff)

theorem Calm.chopControl (h : Calm s0 s) {x : Fin 4} : Calm s0 (s.chopControl x) :=
  Calm.ite (h.chopSwitch.ite h) (Calm.ite (h.ite h.modPsp.chopSwitch) (Calm.ite (h.chopSwitch.ite h)
    (h.modPsp.ite (h.ite (h.chopSwitch.ite (h.chopSwitch.ite h))))))

/-! ### Axes -/

theorem Calm.modPos (h : Calm s0 s) {a : Fin 4} {f : PosAx → PosAx} : Calm s0 (s.modPos a f) := h.same rfl rfl rfl

theorem Calm.modSpd (h : Calm s0 s) {a : Fin 4} {f : SpdAx → SpdAx} : Calm s0 (s.modSpd a f) := h.same rfl rfl rfl

theorem Calm.modMfe (h : Calm s0 s) {x : Fin 4} {f : MfeSet → MfeSet} : Calm s0 (s.modMfe x f) := h.same rfl rfl rfl

theorem Calm.endStart (h : Calm s0 s) {a : Fin 4} {result : Nat} : Calm s0 (s.endStart a result) :=
  h.ite (((((h.modPos.each fun _ _ ht => ht.modPwm).setFld (.high rfl)).setFld (.high rfl)).setFlag (.high rfl)).journal.finish)

theorem Calm.dropOffsets (h : Calm s0 s) {a : Fin 4} : Calm s0 (s.dropOffsets a) := by
  refine h.each fun x t ht => ht.ite (Calm.ite (Calm.replyErr ?_) ht.modMfe)
  exact (ht.modMfe (x := x) (f := fun m => { m with ofsRun := false, ofsCon := false })).same rfl rfl rfl

theorem Calm.endVent (h : Calm s0 s) {a : Fin 4} : Calm s0 (s.endVent a) := by
  unfold State.endVent
  split
  · exact h
  · exact ((h.modSpd.setFlag (.high rfl)).setFlag (.high rfl)).setFld (.high rfl)

theorem Calm.endShock (h : Calm s0 s) {a : Fin 4} : Calm s0 (s.endShock a) := by
  unfold State.endShock
  split
  · exact h
  · exact (h.modSpd.setFlag (.high rfl)).setFld (.high rfl)

/-- The fields of POS and SPD that an axis leaves cleared belong to those blocks. -/
theorem FaultReg.axisFlags (a : Fin 4) : ∀ f ∈ [Fld.SPD_STATE_HV_FADE a, Fld.SPD_STATE_HV_ACT a, Fld.SPD_STATE_VGUARD a,
    Fld.SPD_STATE_VENT a, Fld.SPD_STATE_SLACK a, Fld.SPD_STATE_YIELD a, Fld.SPD_STATE_SHOCK a, Fld.SPD_STATE_RESUME a,
    Fld.SPD_STATE_TLIM a, Fld.SPD_STATE_PLIM a, Fld.POS_STATUS_INJ_ON a], FaultReg f.addr := by
  have hle : ∀ f ∈ [Fld.SPD_STATE_HV_FADE a, Fld.SPD_STATE_HV_ACT a, Fld.SPD_STATE_VGUARD a, Fld.SPD_STATE_VENT a,
      Fld.SPD_STATE_SLACK a, Fld.SPD_STATE_YIELD a, Fld.SPD_STATE_SHOCK a, Fld.SPD_STATE_RESUME a, Fld.SPD_STATE_TLIM a,
      Fld.SPD_STATE_PLIM a, Fld.POS_STATUS_INJ_ON a], 0x4030_0000 ≤ f.addr := by decide +revert
  exact fun f hf => .above (hle f hf)

theorem Calm.axisIdle (h : Calm s0 s) {a : Fin 4} : Calm s0 (s.axisIdle a) := by
  unfold State.axisIdle
  extract_lets u v w x y z q
  have hx : Calm s0 x :=
    ((h.endShock.endVent.modSpd.setFld (.high rfl)).setFlag (.high rfl)).setFlags (FaultReg.axisFlags a)
  have hy : Calm s0 y := hx.ite ((((hx.setFld (.high rfl)).setFld (.high rfl)).setFld (.high rfl)).setFld (.high rfl))
  have hz : Calm s0 z := ((hy.setReg (.high rfl)).setReg (.high rfl)).setReg (.high rfl)
  exact (hz.each fun _ _ ht => ht.modPwm).modPos

theorem Calm.mapCopy (h : Calm s0 s) {a : Fin 4} : Calm s0 (s.mapCopy a) := by
  unfold State.mapCopy
  split
  · exact h
  · extract_lets put all u v
    refine Calm.setFlag (Calm.modPos ?_) (.high rfl)
    unfold v
    split <;> exact h.same rfl rfl rfl

theorem Calm.setAxis (h : Calm s0 s) {a : Fin 4} {v : Nat} : Calm s0 (s.setAxis a v) := by
  unfold State.setAxis
  extract_lets old was u w x ends y z q r
  have hx : Calm s0 x := (h.setFld (.high rfl)).setIrq.event.setFlag (.high rfl)
  have hy : Calm s0 y := hx.whenever fun _ ht => ht.modPos.setFld (.high rfl)
  have hr : Calm s0 r := (hy.modSpd.whenever fun _ ht => ht.dropOffsets).endStart.axisIdle
  exact h.ite (hy.ite (hr.mapCopy.ite hr))

theorem Calm.axisFault (h : Calm s0 s) {a : Fin 4} {bit : Nat} : Calm s0 (s.axisFault a bit) :=
  Calm.whenever (fun _ ht => ht.setAxis) (Calm.whenever (fun _ ht => ht.modPos) (h.setFld (.high rfl)))

/-! ### Set faults -/

theorem Calm.modPort (h : Calm s0 s) {p : Fin 4} {f : WPort → WPort} : Calm s0 (s.modPort p f) := h.same rfl rfl rfl

theorem Calm.portPoll (h : Calm s0 s) {p : Fin 4} : Calm s0 (s.portPoll p) := by
  unfold State.portPoll
  extract_lets q
  refine h.ite ?_
  split
  · exact h
  · exact h.modPort

theorem Calm.enqueue (h : Calm s0 s) {p : Fin 4} {f : WFrame} : Calm s0 (s.enqueue p f) :=
  h.ite (Calm.ite ((h.incSat (.high rfl)).ite h.modPort.portPoll)
    ((h.modPort.incSat (.high rfl)).ite (h.modPort.portPoll.ite h.modPort.portPoll)))

theorem Calm.originate (h : Calm s0 s) {p : Fin 4} {f : WFrame} : Calm s0 (s.originate p f) := by
  unfold State.originate
  split
  · exact Calm.ite (h.incSat (.above (by decide))) h.modPort.enqueue
  · exact Calm.ite h.modPort h.modPort.enqueue
  · exact h.enqueue

theorem Calm.sendClass0 (h : Calm s0 s) {body : List Byte} : Calm s0 (s.sendClass0 body) := by
  have hr : Calm s0 (s.takePkt 0).2 := h.same rfl rfl rfl
  exact h.ite (hr.each fun _ _ ht => ht.each fun _ _ hu => hu.originate)

theorem Calm.faultNotice (h : Calm s0 s) {a : Fin 4} {b : Bool} : Calm s0 (s.faultNotice a b) := h.ite h.sendClass0

theorem Calm.reportSetFault (h : Calm s0 s) {x : Fin 4} : Calm s0 (s.reportSetFault x) := h.journal.event.setIrq

theorem Calm.cutJog (h : Calm s0 s) : Calm s0 s.cutJog := by
  unfold State.cutJog
  split
  · exact h.same rfl rfl rfl
  · exact h

theorem Calm.stopTest (h : Calm s0 s) : Calm s0 s.stopTest := by
  unfold State.stopTest
  split
  · exact h
  · next k x _ =>
    extract_lets con u v w
    have hu : Calm s0 u := h.same rfl rfl rfl
    have hv : Calm s0 v := by
      unfold v
      split
      · exact hu.setFlag (.high rfl)
      · exact hu
    have hw : Calm s0 w := (hv.setFlag (.above (by decide))).setFld (.above (by decide))
    cases x with
    | none => exact hw
    | some x => exact (hw.modPwm.whenever fun _ ht => ht.phasesOff).chopControl

theorem Calm.endTest (h : Calm s0 s) {w : String} : Calm s0 (s.endTest w) := h.cutJog.stopTest.replyErr.ite h

theorem Calm.latchSet (h : Calm s0 s) {x : Fin 4} {l : List Nat} : Calm s0 (s.latchSet x l) := by
  unfold State.latchSet
  extract_lets old new u v
  have hv : Calm s0 v := (h.setReg (.power rfl)).reportSetFault.endTest.each fun _ _ ht =>
    ht.ite (ht.setFlag (.power rfl)).reportSetFault
  refine h.ite ?_
  split
  · exact (hv.whenever fun _ ht => ht.faultNotice).axisFault
  · exact hv

theorem Calm.latchGate (h : Calm s0 s) {n : Fin 28} : Calm s0 (s.latchGate n) :=
  Calm.latchSet (h.setFld (.gateSet _))

end Calm

end Sys2Proof.Machine
end

section
namespace Sys2Proof.Machine

/-! ## Lost barrier channels and the comparator self-test -/

theorem FaultReg.not_testres (n : Fin 28) : ¬ FaultReg (Reg.GDC_TESTRES n) := by
  intro h
  generalize e : Reg.GDC_TESTRES n = a at h
  unfold Reg.GDC_TESTRES at e
  have := n.isLt
  cases h
  case gate k => unfold Reg.GDC_STATUS at e; omega
  case gateSet x => unfold Reg.GDC_SET_FAULT at e; omega
  all_goals omega

theorem FaultReg.not_gateFault (n : Fin 28) : ¬ FaultReg (Reg.GDC_FAULT n) := by
  intro h
  generalize e : Reg.GDC_FAULT n = a at h
  unfold Reg.GDC_FAULT at e
  have := n.isLt
  cases h
  case gate k => unfold Reg.GDC_STATUS at e; omega
  case gateSet x => unfold Reg.GDC_SET_FAULT at e; omega
  all_goals omega

theorem testres_ne_fault (n : Fin 28) : Reg.GDC_TESTRES n ≠ Reg.GDC_FAULT n := by decide +revert

/-- The earlier results of a channel's self-test say nothing about where its set stands. -/
theorem State.inPulseBlock_setTestres (s : State) (n : Fin 28) (w : Word) (x : Fin 4) :
    (s.setReg (Reg.GDC_TESTRES n) w).inPulseBlock x = s.inPulseBlock x := by
  have ha : Reg.PSP_STATE x ≠ Reg.GDC_TESTRES n := by decide +revert
  simp only [State.inPulseBlock, State.setState, State.fld, s.reg_setReg_other w (k := (Fld.PSP_STATE_STATE x).addr) ha]

theorem State.setFree_setTestres (s : State) (n : Fin 28) (w : Word) (x : Fin 4) :
    (s.setReg (Reg.GDC_TESTRES n) w).setFree x = s.setFree x := by
  have ha (a : Fin 4) : Reg.SPD_STATE a ≠ Reg.GDC_TESTRES n := by decide +revert
  have hx (a : Fin 4) : (s.setReg (Reg.GDC_TESTRES n) w).axState a = s.axState a := by
    simp only [State.axState, State.fld, s.reg_setReg_other w (k := (Fld.SPD_STATE_STATE a).addr) (ha a)]
  have ho : (s.setReg (Reg.GDC_TESTRES n) w).ownerAxis x = s.ownerAxis x := rfl
  simp only [State.setFree, ho, hx]

/-- A gate that is driven off has neither a request nor a command. -/
theorem State.chanOff_off (s : State) (n : Fin 28) :
    (s.chanOff n).gc[n].cmd = false ∧ (s.chanOff n).gc[n].request = false := by
  unfold State.chanOff
  extract_lets c now u v w
  have hw : w.gc[n].cmd = false ∧ w.gc[n].request = false := by
    constructor <;> simp only [w, State.modGc_gc, if_true]
  unfold when
  split
  · exact hw
  · exact hw

/-- The reply of the console leaves registers and channels (R143). -/
theorem State.gateReply_keeps (s : State) (n : Fin 28) :
    (s.gateReply n).regs = s.regs ∧ (s.gateReply n).gc = s.gc := by
  unfold State.gateReply
  split
  · exact ⟨rfl, rfl⟩
  · extract_lets u
    split <;> exact ⟨rfl, rfl⟩

theorem State.gateReply_flag (s : State) (n : Fin 28) (f : Field) : (s.gateReply n).flag f = s.flag f := by
  simp only [State.flag, State.fld, State.reg, (s.gateReply_keeps n).1]

/-- The figures of a self-test in its result register (R131). -/
def State.testShown (s : State) (n : Fin 28) (r : GateTest) : State :=
  ((((((s.setFlag (Fld.GDC_TESTRES_BUSY n) false).setFlag (Fld.GDC_TESTRES_DONE n) true).setFlag (Fld.GDC_TESTRES_SEG_FAIL n)
    r.segFail).setFlag (Fld.GDC_TESTRES_CLAMP_FAIL n) r.clampFail).setFlag (Fld.GDC_TESTRES_ONMIN_FAIL n) r.onMinFail).setFlag
    (Fld.GDC_TESTRES_OFF_FAIL n) r.offFail)

theorem State.testShown_flags (s : State) (n : Fin 28) (r : GateTest) :
    (s.testShown n r).flag (Fld.GDC_TESTRES_BUSY n) = false ∧ (s.testShown n r).flag (Fld.GDC_TESTRES_DONE n) = true ∧
      (s.testShown n r).flag (Fld.GDC_TESTRES_SEG_FAIL n) = r.segFail ∧ (s.testShown n r).flag (Fld.GDC_TESTRES_CLAMP_FAIL n) = r.clampFail ∧
      (s.testShown n r).flag (Fld.GDC_TESTRES_ONMIN_FAIL n) = r.onMinFail ∧ (s.testShown n r).flag (Fld.GDC_TESTRES_OFF_FAIL n) = r.offFail := by
  have hother (t : State) (b : Bool) {i j : Nat} (h : j + 1 ≤ i ∨ i + 1 ≤ j) :
      (t.setFlag ⟨Reg.GDC_TESTRES n, i, 1⟩ b).flag ⟨Reg.GDC_TESTRES n, j, 1⟩ = t.flag ⟨Reg.GDC_TESTRES n, j, 1⟩ :=
    t.flag_setFlag_other b (.inr h)
  have hsame (t : State) (b : Bool) {i : Nat} (h : i + 1 ≤ 32) :
      (t.setFlag ⟨Reg.GDC_TESTRES n, i, 1⟩ b).flag ⟨Reg.GDC_TESTRES n, i, 1⟩ = b := t.flag_setFlag b h Nat.one_pos
  simp [State.testShown, Fld.GDC_TESTRES_BUSY, Fld.GDC_TESTRES_DONE, Fld.GDC_TESTRES_SEG_FAIL, Fld.GDC_TESTRES_CLAMP_FAIL,
    Fld.GDC_TESTRES_ONMIN_FAIL, Fld.GDC_TESTRES_OFF_FAIL, hother, hsame]

theorem exec_gdcTestDone_pass {s : State} {n : Fin 28} {r : GateTest} (hb : s.flag (Fld.GDC_TESTRES_BUSY n) = true)
    (hr : (r.segFail || r.clampFail || r.onMinFail || r.offFail) = false) : exec (.gdcTestDone n r) s =
      .next ((((s.testShown n r).setFlag (Fld.GDC_TESTRES_PASS n) true).modGc n fun g => { g with testPassed := true }).gateReply n) := by
  simp only [exec_gdcTestDone, execGdcTestDone, hb, hr, Bool.not_true, Bool.false_eq_true, if_false]
  rfl

theorem exec_gdcTestDone_fail {s : State} {n : Fin 28} {r : GateTest} (hb : s.flag (Fld.GDC_TESTRES_BUSY n) = true)
    (hr : (r.segFail || r.clampFail || r.onMinFail || r.offFail) = true) : exec (.gdcTestDone n r) s =
      .next ((((s.testShown n r).modGc n fun g => { g with testPassed := false }).gateFault n (Fld.GDC_FAULT_TEST_FAIL n)).gateReply n).settle := by
  simp only [exec_gdcTestDone, execGdcTestDone, hb, hr, Bool.not_true, Bool.false_eq_true, if_true, if_false]
  rfl

theorem State.flag_modGc (s : State) (n : Fin 28) (g : GateChan → GateChan) (f : Field) : (s.modGc n g).flag f = s.flag f := by
  simp only [State.flag, State.fld, State.reg, State.modGc_regs]

/-- A latched channel fault leaves the results of the channel's self-test, and what has passed. -/
theorem State.gateFault_testres (s : State) (n : Fin 28) (k : Nat) :
    (s.gateFault n (Fld.GDC_FAULT_TEST_FAIL n)).flag ⟨Reg.GDC_TESTRES n, k, 1⟩ = s.flag ⟨Reg.GDC_TESTRES n, k, 1⟩ :=
  have hc := (Calm.refl (s.setFlag (Fld.GDC_FAULT_TEST_FAIL n) true)).latchGate (n := n)
  (hc.flag (FaultReg.not_testres n)).trans (s.flag_setFlag_other true (.inl (testres_ne_fault n)))

theorem State.gateFault_latches (s : State) (n : Fin 28) :
    (s.gateFault n (Fld.GDC_FAULT_TEST_FAIL n)).flag (Fld.GDC_FAULT_TEST_FAIL n) = true :=
  have hc := (Calm.refl (s.setFlag (Fld.GDC_FAULT_TEST_FAIL n) true)).latchGate (n := n)
  (hc.flag (FaultReg.not_gateFault n)).trans (s.flag_setFlag true (Nat.le_of_ble_eq_true rfl) (Nat.le_of_ble_eq_true rfl))

theorem State.gateFault_testPassed (s : State) (n : Fin 28) :
    (s.gateFault n (Fld.GDC_FAULT_TEST_FAIL n)).gc[n].testPassed = s.gc[n].testPassed :=
  ((Calm.refl (s.setFlag (Fld.GDC_FAULT_TEST_FAIL n) true)).latchGate (n := n)).passed n

/-- A self-test that passes (R131). -/
theorem gdcTestDone_passes (n : Fin 28) (r : GateTest) (s : State) (hb : s.flag (Fld.GDC_TESTRES_BUSY n) = true)
    (hr : (r.segFail || r.clampFail || r.onMinFail || r.offFail) = false) : Completes (.gdcTestDone n r) s fun t =>
      t.flag (Fld.GDC_TESTRES_BUSY n) = false ∧ t.flag (Fld.GDC_TESTRES_DONE n) = true ∧ t.flag (Fld.GDC_TESTRES_PASS n) = true ∧
      t.gc[n].testPassed = true := by
  refine ⟨_, exec_gdcTestDone_pass hb hr, ?_⟩
  obtain ⟨hbusy, hdone, -⟩ := s.testShown_flags n r
  simp only [State.gateReply_flag, (State.gateReply_keeps _ n).2, State.flag_modGc, State.modGc_gc, if_true]
  refine ⟨?_, ?_, ?_, trivial⟩
  · exact (State.flag_setFlag_other _ _ (.inr (.inl (Nat.le_of_ble_eq_true rfl)))).trans hbusy
  · exact (State.flag_setFlag_other _ _ (.inr (.inl (Nat.le_of_ble_eq_true rfl)))).trans hdone
  · exact State.flag_setFlag _ _ (Nat.le_of_ble_eq_true rfl) (Nat.le_of_ble_eq_true rfl)

/-- A self-test with a failing comparator (R131). -/
theorem gdcTestDone_fails (n : Fin 28) (r : GateTest) (s : State) (hb : s.flag (Fld.GDC_TESTRES_BUSY n) = true)
    (hr : (r.segFail || r.clampFail || r.onMinFail || r.offFail) = true) : Settles (.gdcTestDone n r) s fun u =>
      u.flag (Fld.GDC_TESTRES_BUSY n) = false ∧ u.flag (Fld.GDC_TESTRES_DONE n) = true ∧ u.flag (Fld.GDC_FAULT_TEST_FAIL n) = true ∧
      u.flag (Fld.GDC_TESTRES_SEG_FAIL n) = r.segFail ∧ u.flag (Fld.GDC_TESTRES_CLAMP_FAIL n) = r.clampFail ∧
      u.flag (Fld.GDC_TESTRES_ONMIN_FAIL n) = r.onMinFail ∧ u.flag (Fld.GDC_TESTRES_OFF_FAIL n) = r.offFail ∧ u.gc[n].testPassed = false := by
  refine ⟨_, exec_gdcTestDone_fail hb hr, ?_⟩
  obtain ⟨hbusy, hdone, hseg, hclamp, honmin, hoff⟩ := s.testShown_flags n r
  simp only [State.gateReply_flag, (State.gateReply_keeps _ n).2, State.gateFault_testPassed, State.modGc_gc, if_true]
  have hshown (k : Nat) := (((s.testShown n r).modGc n fun g => { g with testPassed := false }).gateFault_testres n k).trans
    (State.flag_modGc _ n _ _)
  exact ⟨(hshown 1).trans hbusy, (hshown 0).trans hdone, State.gateFault_latches _ n, (hshown 11).trans hseg,
    (hshown 10).trans hclamp, (hshown 9).trans honmin, (hshown 8).trans hoff, trivial⟩

/-- A START in pulse block on a set whose axis is STOPPED runs the test with the channel off (R130). -/
theorem gdcTestStart_runs (n : Fin 28) (s : State) (hp : s.inPulseBlock (chanSet n) = true) (hf : s.setFree (chanSet n) = true) :
    Completes (.gdcTestStart n) s fun t =>
      t.flag (Fld.GDC_TESTRES_BUSY n) = true ∧ t.flag (Fld.GDC_TESTRES_REFUSED n) = false ∧ t.gc[n].cmd = false ∧ t.gc[n].request = false := by
  let u := s.setReg (Reg.GDC_TESTRES n) 0
  let v := u.setFlag (Fld.GDC_TESTRES_BUSY n) true
  have hrun : exec (.gdcTestStart n) s = .next (v.chanOff n) := by
    simp only [exec_gdcTestStart, execGdcTestStart, State.gateTestStart, State.inPulseBlock_setTestres, State.setFree_setTestres, hp, hf]
    rfl
  have hc : Calm v (v.chanOff n) := (Calm.refl v).chanOff
  obtain ⟨hcmd, hreq⟩ := v.chanOff_off n
  refine ⟨_, hrun, ?_, ?_, hcmd, hreq⟩
  · exact (hc.flag (FaultReg.not_testres n)).trans (u.flag_setFlag true (Nat.le_of_ble_eq_true rfl) (Nat.le_of_ble_eq_true rfl))
  · refine (hc.flag (FaultReg.not_testres n)).trans ((u.flag_setFlag_other true (.inr (.inr (Nat.le_of_ble_eq_true rfl)))).trans ?_)
    simp only [u, State.flag, State.fld, Fld.GDC_TESTRES_REFUSED, State.reg_setReg]
    decide

/-- A START elsewhere is REFUSED (R130). -/
theorem gdcTestStart_refused (n : Fin 28) (s : State) (h : s.inPulseBlock (chanSet n) = false ∨ s.setFree (chanSet n) = false) :
    Completes (.gdcTestStart n) s fun t => t.flag (Fld.GDC_TESTRES_BUSY n) = false ∧ t.flag (Fld.GDC_TESTRES_REFUSED n) = true := by
  let u := s.setReg (Reg.GDC_TESTRES n) 0
  have hc : (s.inPulseBlock (chanSet n) && s.setFree (chanSet n)) = false := Bool.and_eq_false_iff.mpr h
  have hrun : exec (.gdcTestStart n) s = .next (u.setFlag (Fld.GDC_TESTRES_REFUSED n) true) := by
    simp only [exec_gdcTestStart, execGdcTestStart, State.gateTestStart, State.inPulseBlock_setTestres, State.setFree_setTestres, hc]
    rfl
  refine ⟨_, hrun, (u.flag_setFlag_other true (.inr (.inl (Nat.le_of_ble_eq_true rfl)))).trans ?_,
    u.flag_setFlag true (Nat.le_of_ble_eq_true rfl) (Nat.le_of_ble_eq_true rfl)⟩
  simp only [u, State.flag, State.fld, Fld.GDC_TESTRES_BUSY, State.reg_setReg]
  decide

/-- Settles O11: each loss is its command's own branch, and the reports of a failing comparator leave the results alone. -/
theorem gateLinksAndTests : Obligations.GateLinksAndTests := by
  unfold Obligations.GateLinksAndTests
  have hmark (n : Fin 28) (s : State) (b : Bool) : (s.setFlag (Fld.GDC_STATUS_ASC_MARK n) b).flag (Fld.GDC_STATUS_ASC_MARK n) = b :=
    s.flag_setFlag b (Nat.le_of_ble_eq_true rfl) (Nat.le_of_ble_eq_true rfl)
  refine ⟨?_, ?_, ?_, ?_, fun _ _ => rfl, fun _ _ => rfl, fun _ _ => rfl, gdcTestStart_runs, gdcTestStart_refused, ?_, ?_⟩
  · intro n s hm hf
    simp only [exec_islandLinkLoss, execIslandLinkLoss, when, hm, hf, Bool.false_eq_true, if_false, Bool.false_and]
  · intro n s hm hf hlow
    simp only [exec_islandLinkLoss, execIslandLinkLoss, when, hm, hf, hlow, Bool.false_eq_true, if_true, if_false, and_self,
      decide_true, Bool.and_self]
  · intro n s hm hf
    simp only [exec_islandLinkLoss, execIslandLinkLoss, when, hm, hf, hmark, Bool.not_true, Bool.false_and,
      Bool.false_eq_true, if_true, if_false]
  · intro n s hm hf hlow
    simp only [exec_islandLinkLoss, execIslandLinkLoss, when, hm, hf, hmark, hlow, Bool.not_false, if_true, and_self,
      decide_true, Bool.and_self]
  · exact fun n s hb => gdcTestDone_passes n _ s hb rfl
  · exact fun n a b c d s hb hr => gdcTestDone_fails n ⟨a, b, c, d⟩ s hb hr

end Sys2Proof.Machine
end

section
namespace Sys2Proof.Machine

/-! ## What the common evaluation leaves of the device's own registers -/

/-- The registers that the common evaluation (R162) and the reports may write: SYS_MODE, and those from SYS_CLK on. -/
def EvalReg (a : Nat) : Prop := Reg.SYS_CLK ≤ a ∨ a = Reg.SYS_MODE

theorem EvalReg.above {b n k : Nat} (h : Nat.ble Reg.SYS_CLK b = true) : EvalReg (b + n * k) :=
  .inl ((Nat.le_of_ble_eq_true h).trans (Nat.le_add_right b _))

theorem FaultReg.evalReg {a : Nat} (h : FaultReg a) : EvalReg a := by
  cases h with
  | pairs hlo _ => exact .inl ((by decide : Reg.SYS_CLK ≤ 0x4003_0000).trans hlo)
  | gate n => exact .above rfl
  | gateSet x => exact .above rfl
  | stage hlo _ => exact .inl ((by decide : Reg.SYS_CLK ≤ 0x4012_0000).trans hlo)
  | above h => exact .inl ((by decide : Reg.SYS_CLK ≤ 0x4030_0000).trans h)

/-- The state keeps every register beside those, and whether the device is held in reset. -/
structure SysKept (s0 s : State) : Prop where
  reg     : ∀ a, ¬ EvalReg a → s.reg a = s0.reg a
  inReset : s.sys.inReset = s0.sys.inReset

section SysKept
variable {s0 s t : State}

theorem SysKept.refl (s : State) : SysKept s s := ⟨fun _ _ => rfl, rfl⟩

theorem SysKept.fld (h : SysKept s0 s) {f : Field} (hf : ¬ EvalReg f.addr) : s.fld f = s0.fld f := by
  rw [State.fld, State.fld, h.reg _ hf]

theorem SysKept.flag (h : SysKept s0 s) {f : Field} (hf : ¬ EvalReg f.addr) : s.flag f = s0.flag f := by
  rw [State.flag, State.flag, h.fld hf]

/-- What a set fault, an axis fault and the reports leave is kept. -/
theorem SysKept.calm (h : SysKept s0 s) (hc : Calm s t) : SysKept s0 t where
  reg a ha := (hc.reg a fun hf => ha hf.evalReg).trans (h.reg a ha)
  inReset := (congrArg Sys.inReset hc.sys).trans h.inReset

/-- A change of nothing that counts here. -/
theorem SysKept.same (h : SysKept s0 s) (hr : t.regs = s.regs) (hs : t.sys.inReset = s.sys.inReset) : SysKept s0 t where
  reg a ha := by rw [← h.reg a ha, State.reg, State.reg, hr]
  inReset := hs.trans h.inReset

theorem SysKept.ite {a b : State} {c : Prop} [Decidable c] (ha : SysKept s0 a) (hb : SysKept s0 b) :
    SysKept s0 (if c then a else b) := by
  split <;> assumption

theorem SysKept.whenever {c : Bool} {f : State → State} (hf : ∀ t, SysKept s0 t → SysKept s0 (f t)) (h : SysKept s0 s) :
    SysKept s0 (when c f s) := (hf s h).ite h

theorem SysKept.each {α : Type} {l : List α} {f : α → State → State} (hf : ∀ a t, SysKept s0 t → SysKept s0 (f a t))
    (h : SysKept s0 s) : SysKept s0 (forAll l f s) := foldl_keeps (fun t a ht => hf a t ht) h

theorem SysKept.setReg (h : SysKept s0 s) {a : Nat} {w : Word} (ha : EvalReg a) : SysKept s0 (s.setReg a w) where
  reg b hb := (s.reg_setReg_other w (by rintro rfl; exact hb ha)).trans (h.reg b hb)
  inReset := h.inReset

theorem SysKept.setFld (h : SysKept s0 s) {f : Field} {v : Nat} (ha : EvalReg f.addr) : SysKept s0 (s.setFld f v) := h.setReg ha

theorem SysKept.setFlag (h : SysKept s0 s) {f : Field} {b : Bool} (ha : EvalReg f.addr) : SysKept s0 (s.setFlag f b) := h.setReg ha

theorem SysKept.incSat (h : SysKept s0 s) {f : Field} (ha : EvalReg f.addr) : SysKept s0 (s.incSat f) := h.setReg ha

/-! ### The set states -/

theorem SysKept.modPwm (h : SysKept s0 s) {x : Fin 4} {f : PwmSet → PwmSet} : SysKept s0 (s.modPwm x f) := h.same rfl rfl

theorem SysKept.modGc (h : SysKept s0 s) {n : Fin 28} {f : GateChan → GateChan} : SysKept s0 (s.modGc n f) := h.same rfl rfl

theorem SysKept.modPos (h : SysKept s0 s) {a : Fin 4} {f : PosAx → PosAx} : SysKept s0 (s.modPos a f) := h.same rfl rfl

theorem SysKept.modSpd (h : SysKept s0 s) {a : Fin 4} {f : SpdAx → SpdAx} : SysKept s0 (s.modSpd a f) := h.same rfl rfl

theorem SysKept.placeCarrier (h : SysKept s0 s) {x : Fin 4} : SysKept s0 (s.placeCarrier x) := h.modPwm.setFlag (.above rfl)

theorem SysKept.stepOffset (h : SysKept s0 s) {x : Fin 4} : SysKept s0 (s.stepOffset x) :=
  have hp := h.modPwm.setFlag (.above rfl)
  SysKept.ite hp.placeCarrier hp

theorem SysKept.writePhase (h : SysKept s0 s) {x : Fin 4} {v : BitVec 8} : SysKept s0 (s.writePhase x v) :=
  have hp := h.setFld (.above rfl)
  SysKept.ite (hp.setFlag (.above rfl)) hp.stepOffset

theorem SysKept.putSetState (h : SysKept s0 s) {x : Fin 4} {v : SetState} : SysKept s0 (s.putSetState x v) := h.setFld (.above rfl)

theorem SysKept.phasesOff (h : SysKept s0 s) {x : Fin 4} : SysKept s0 (s.phasesOff x) := h.calm (Calm.refl s).phasesOff

theorem SysKept.markFrame (h : SysKept s0 s) {n : Fin 28} {b : Bool} : SysKept s0 (s.markFrame n b) :=
  h.ite (h.modGc.setFlag (.above rfl))

theorem SysKept.setMarker (h : SysKept s0 s) {x : Fin 4} {b : Bool} : SysKept s0 (s.setMarker x b) :=
  h.each fun _ _ ht => ht.markFrame

theorem SysKept.shootEvent (h : SysKept s0 s) {n : Nat} {b : Bool} : SysKept s0 (s.shootEvent n b) := by
  unfold State.shootEvent
  extract_lets x u v sh sh' w running per ms stood y
  have hv : SysKept s0 v := ((h.incSat (.above rfl)).setFld (.above rfl)).setFlag (.above rfl)
  have hw : SysKept s0 w := hv.same rfl rfl
  have hy : SysKept s0 y := hw.whenever fun _ ht => ((ht.setFlag (.above rfl)).setFlag (.above rfl)).setFlag (.above rfl)
  exact hy.calm (Calm.refl y).journal

theorem SysKept.requestOn (h : SysKept s0 s) {n : Fin 28} : SysKept s0 (s.requestOn n) := by
  have hr : SysKept s0 ((s.modGc n fun g => { g with request := true }).setFlag (Fld.GDC_STATUS_HELD n) true) :=
    h.modGc.setFlag (.above rfl)
  refine h.ite (SysKept.ite (SysKept.shootEvent ?_) hr)
  exact hr.same rfl rfl

theorem SysKept.ascCheck (h : SysKept s0 s) {x : Fin 4} : SysKept s0 (s.ascCheck x) := SysKept.ite h.putSetState h

theorem SysKept.abortTests (h : SysKept s0 s) {x : Fin 4} : SysKept s0 (s.abortTests x) :=
  h.each fun _ _ ht => SysKept.ite ((ht.setFlag (.above rfl)).setFlag (.above rfl)) ht

theorem SysKept.enterSet (h : SysKept s0 s) {x : Fin 4} {v : SetState} : SysKept s0 (s.enterSet x v) := by
  unfold State.enterSet
  extract_lets u w y z1 z2 z3
  have hy : SysKept s0 y :=
    ((h.whenever fun _ ht => ht.setFlag (.above rfl)).whenever fun _ ht => ht.stepOffset).setFlag (.above rfl)
  have hz : SysKept s0 z3 :=
    (hy.abortTests.putSetState.each fun _ t ht => ht.calm (Calm.refl t).chanOff).each fun _ _ ht => ht.requestOn
  have hsc {t : State} (ht : SysKept s0 t) : SysKept s0 (t.chopControl x) := ht.calm (Calm.refl t).chopControl
  cases v with
  | run => exact hy.setMarker.putSetState
  | block => exact hy.phasesOff.setMarker.putSetState
  | sto => exact hy.abortTests.phasesOff.setMarker.putSetState
  | scOff => exact (hsc hy.phasesOff.setMarker).putSetState
  | ascEntry | asc => exact hz.setMarker.ascCheck

theorem SysKept.modPsp (h : SysKept s0 s) {x : Fin 4} {f : PspSet → PspSet} : SysKept s0 (s.modPsp x f) := h.same rfl rfl

theorem SysKept.newAsks (h : SysKept s0 s) {x : Fin 4} : SysKept s0 (s.newAsks x) := by
  unfold State.newAsks
  exact (h.whenever fun _ ht => ht.abortTests).modPsp

theorem SysKept.settleSet (h : SysKept s0 s) {x : Fin 4} : SysKept s0 (s.settleSet x) := by
  unfold State.settleSet
  extract_lets u v
  have hv : SysKept s0 v := h.newAsks.whenever fun _ ht => ht.modPsp
  split
  · exact hv.enterSet.ite hv
  · exact hv.ite hv.enterSet
  · exact hv.ite hv.enterSet

/-! ### Axes and modes -/

theorem SysKept.setAxis (h : SysKept s0 s) {a : Fin 4} {v : Nat} : SysKept s0 (s.setAxis a v) := h.calm (Calm.refl s).setAxis

theorem SysKept.axisFault (h : SysKept s0 s) {a : Fin 4} {bit : Nat} : SysKept s0 (s.axisFault a bit) :=
  h.calm (Calm.refl s).axisFault

theorem SysKept.endSeries (h : SysKept s0 s) {a : Fin 4} : SysKept s0 (s.endSeries a) := h.modPos.axisFault

theorem SysKept.axisDisable (h : SysKept s0 s) {a : Fin 4} : SysKept s0 (s.axisDisable a) :=
  h.endSeries.ite (h.whenever fun _ ht => ht.setAxis)

theorem SysKept.setMode (h : SysKept s0 s) {m : Mode} : SysKept s0 (s.setMode m) := by
  unfold State.setMode
  extract_lets old u v y w
  have hu : SysKept s0 u := (h.setFld (.inr rfl)).setFld (.inr rfl)
  have hv : SysKept s0 v := hu.calm (Calm.refl u).event.say
  have hw : SysKept s0 w := hv.same rfl rfl
  exact SysKept.ite (hw.each fun _ _ ht => ht.whenever fun _ hu => hu.setAxis) hw

/-! ### The STO demands and the starts -/

theorem SysKept.forceOff (h : SysKept s0 s) {n : Fin 28} : SysKept s0 (s.forceOff n) := h.modGc.setFld (.above rfl)

theorem SysKept.islandRequest (h : SysKept s0 s) {x : Fin 4} : SysKept s0 (s.islandRequest x) :=
  SysKept.ite (h.same rfl rfl) (SysKept.ite (h.same rfl rfl) (h.same rfl rfl))

theorem SysKept.followEnable (h : SysKept s0 s) {x : Fin 4} : SysKept s0 (s.followEnable x) := by
  unfold State.followEnable
  extract_lets gone i u v w
  have hu : SysKept s0 u := h.same rfl rfl
  have hw : SysKept s0 w := h.same rfl rfl
  exact SysKept.ite ((hu.each fun _ _ ht => ht.setFlag (.above rfl)).each fun _ _ ht => ht.forceOff)
    (SysKept.ite (SysKept.ite (hw.each fun _ _ ht => ht.setFlag (.above rfl)) hw) h)

theorem SysKept.applySto (h : SysKept s0 s) : SysKept s0 s.applySto :=
  ((((h.each fun _ _ ht => ht.islandRequest.followEnable).setFlag (.inl (by decide))).setFlag (.inl (by decide))).each fun _ _ ht =>
    have hu := ht.setFlag (.above rfl)
    SysKept.ite hu.axisDisable hu)

theorem SysKept.putEstimate (h : SysKept s0 s) {a : Fin 4} {th w : Rat} : SysKept s0 (s.putEstimate a th w) :=
  ((h.modPos.setFld (.above rfl)).setReg (.above rfl)).setFlag (.above rfl)

theorem SysKept.requestRun (h : SysKept s0 s) {a : Fin 4} : SysKept s0 (s.requestRun a) := h.each fun _ _ ht => ht.ite ht.modPwm

theorem SysKept.completeStart (h : SysKept s0 s) {a : Fin 4} {st : Start} {result : Nat} :
    SysKept s0 (s.completeStart a st result) := by
  unfold State.completeStart
  extract_lets now u v w x pos y z
  have hy : SysKept s0 y :=
    ((((h.setFld (.above rfl)).setFld (.above rfl)).setReg (.above rfl)).setFlag (.above rfl)).modPos.modSpd
  have hz : SysKept s0 z := hy.whenever fun _ ht => ((ht.incSat (.above rfl)).setFlag (.above rfl)).setFld (.above rfl)
  exact hz.calm (Calm.refl z).setAxis.finish

theorem SysKept.failStart (h : SysKept s0 s) {a : Fin 4} {result : Nat} : SysKept s0 (s.failStart a result) := by
  unfold State.failStart
  split
  · exact h
  · extract_lets u v w x
    have hu : SysKept s0 u := h.calm (Calm.refl s).endStart
    have hv : SysKept s0 v := hu.setAxis
    exact hu.setAxis.ite
      (SysKept.ite (hv.modPos.setFlag (.above rfl)).setAxis ((hv.incSat (.above rfl)).modPos.setFld (.above rfl)))

theorem SysKept.startPoll (h : SysKept s0 s) {a : Fin 4} : SysKept s0 (s.startPoll a) := by
  unfold State.startPoll
  split
  · exact h
  · refine SysKept.ite (h.ite (SysKept.ite h.modPos.putEstimate h.failStart)) ?_
    extract_lets all
    split
    · exact h.ite (SysKept.ite (h.setFld (.above rfl))
        (SysKept.ite (h.completeStart.ite h) (h.requestRun.setFld (.above rfl))))
    · exact h.requestRun.ite h

theorem SysKept.lockCross (h : SysKept s0 s) {a : Fin 4} {l : List (Fin 4)} : SysKept s0 (s.lockCross a l) :=
  ((h.setFlag (.above rfl)).modPos.each fun _ t ht => ht.calm (Calm.refl t).latchSet).axisFault

theorem SysKept.seriesPoll (h : SysKept s0 s) {a : Fin 4} : SysKept s0 (s.seriesPoll a) :=
  h.ite (SysKept.ite h.lockCross (h.endSeries.ite h))

/-! ### The common evaluation -/

theorem SysKept.gateClocks (h : SysKept s0 s) : SysKept s0 s.gateClocks :=
  h.each fun _ _ ht => ht.whenever fun _ hu => (hu.setFld (.inl (Nat.le_refl _))).setFlag (.above rfl)

theorem SysKept.katPoll (h : SysKept s0 s) : SysKept s0 s.katPoll := by
  refine h.each fun x t ht => ht.whenever fun u hu => SysKept.setFlag ?_ (.above rfl)
  exact hu.same rfl rfl

theorem SysKept.mfeLive (h : SysKept s0 s) {x : Fin 4} : SysKept s0 (s.mfeLive x) :=
  (((((h.setFld (.above rfl)).setFlag (.above rfl)).setFlag (.above rfl)).setFlag (.above rfl)).setFld (.above rfl)).setFld
    (.above rfl)

theorem SysKept.discardStaging (h : SysKept s0 s) {status : Nat} : SysKept s0 (s.discardStaging status) := by
  unfold State.discardStaging
  split
  · exact h
  · extract_lets i u v w
    have hu : SysKept s0 u := h.same rfl rfl
    have hw : SysKept s0 w :=
      (((hu.setReg (.inl (by decide))).setFld (.inl (by decide))).setFld (.inl (by decide))).setFlag (.inl (by decide))
    split
    · exact hw.calm (Calm.refl w).complete
    · exact hw

theorem SysKept.memberPoll (h : SysKept s0 s) {a : Fin 4} : SysKept s0 (s.memberPoll a) := by
  have hput (v : Nat) : SysKept s0 (s.setFld (Fld.LSH_STATE_MSTATE a) v) := h.setFld (.above rfl)
  have hjoin {t : State} (ht : SysKept s0 t) : SysKept s0 (t.interleave a) := ht.each fun _ _ hu => hu.writePhase
  have htm : SysKept s0 (((s.setFld (Fld.LSH_STATE_MSTATE a) 2).modLsh a fun g => { g with offN := 0 }).setTm a 0) := by
    refine SysKept.setReg ?_ (.above rfl)
    exact (hput 2).same rfl rfl
  exact h.ite ((hput 1).ite ((hput 3).ite ((hput 4).ite ((hjoin (hput 2)).ite ((hjoin htm).ite ((hput 1).ite h))))))

theorem SysKept.settle (h : SysKept s0 s) : SysKept s0 s.settle := by
  unfold State.settle
  extract_lets u v w x y
  have hw : SysKept s0 w :=
    (((h.applySto.each fun _ _ ht => ht.seriesPoll.startPoll).each fun _ _ ht => ht.settleSet).gateClocks.katPoll).each
      fun _ _ ht => ht.mfeLive
  have hy : SysKept s0 y :=
    ((hw.whenever fun _ ht => ht.discardStaging).setFlag (.inl (by decide))).each fun _ _ ht => ht.memberPoll
  exact h.ite (SysKept.ite hy.setMode hy)

end SysKept

end Sys2Proof.Machine
end

section
namespace Sys2Proof.Machine

/-! ## The clocks of a set that a waiting test needs -/

/-- A set without its clocks, of a device held in reset: gdc pulse on its first high side waits for them, and the low side is
commanded on. -/
def State.pulseAwaitsClocks : State :=
  { State.reset with
    con := { State.reset.con with test := some (.gdcPulse 0 10, some 0) }
    gc := State.reset.gc.set 1 { State.reset.gc[1] with cmd := true } }

/-- Whether a command has answered a state in reset in whose first set a SHOOT_BLOCK event counts in the present period. -/
def shootInReset : Res → Bool
  | .next t => t.sys.inReset && decide (t.shoot[(0 : Fin 4)].inPeriod = 1)
  | _ => false

/-- The restart lets the test begin, and its on request meets the companion's on command (R119). -/
theorem setClockRestart_begins_pulse : shootInReset (exec (.setClockRestart 0) State.pulseAwaitsClocks) = true := by
  decide +kernel

/-- The common evaluation does nothing in reset, and it is no way into reset (R162). -/
theorem State.settle_inReset {u : State} (h : u.settle.sys.inReset = true) : u.settle = u := by
  have hu : u.sys.inReset = true := (SysKept.refl u).settle.inReset.symm.trans h
  have ha : u.awake = false := by simp [State.awake, hu]
  simp [State.settle, ha]

/-- Refutes O16: the restart clears the count of the present period first, and only then lets a waiting test begin. gdc pulse on
a high side whose low side is commanded on is a SHOOT_BLOCK event at once, and the count of the new period is 1. -/
theorem not_laneTests : ¬ Obligations.LaneTests := by
  unfold Obligations.LaneTests
  rintro ⟨-, -, -, -, -, -, -, -, hrestart⟩
  obtain ⟨u, hu, -, -, -, hzero⟩ := hrestart 0 State.pulseAwaitsClocks (by decide +kernel) (by decide +kernel)
  have hshoot := setClockRestart_begins_pulse
  rw [hu, shootInReset, Bool.and_eq_true, decide_eq_true_eq] at hshoot
  obtain ⟨hreset, hone⟩ := hshoot
  rw [State.settle_inReset hreset, hzero] at hone
  exact absurd hone (by decide)

end Sys2Proof.Machine
end

section
namespace Sys2Proof.Machine

/-! ## A Dawn that stops -/

/-- SYS_DAWN is none of the registers that the common evaluation and the reports write. -/
theorem EvalReg.not_dawn : ¬ EvalReg Reg.SYS_DAWN := by unfold EvalReg; decide

theorem SysKept.dawn {s0 s : State} (h : SysKept s0 s) {lo width : Nat} :
    s.fld ⟨Reg.SYS_DAWN, lo, width⟩ = s0.fld ⟨Reg.SYS_DAWN, lo, width⟩ := h.fld EvalReg.not_dawn

theorem SysKept.journal {s0 s : State} (h : SysKept s0 s) {code unit : Nat} {d0 d1 : Word} : SysKept s0 (s.journal code unit d0 d1) :=
  h.calm (Calm.refl s).journal

/-- What SYS_DAWN shows of a Dawn that has stopped (R95, R96). -/
theorem State.dawnFail_shows (s : State) {cause unit : Nat} (hc : cause < 2 ^ 8) :
    (s.dawnFail cause unit).flag Fld.SYS_DAWN_FAILED = true ∧ (s.dawnFail cause unit).fld Fld.SYS_DAWN_CAUSE = cause := by
  unfold State.dawnFail
  extract_lets t u v
  have hk : SysKept u (v.say v.failLine).settle :=
    (((SysKept.refl u).whenever fun _ hw => hw.journal).same (t := v.say v.failLine) rfl rfl).settle
  constructor
  · exact (hk.flag EvalReg.not_dawn).trans (State.flag_setFlag _ true (by decide) (by decide))
  · calc (v.say v.failLine).settle.fld Fld.SYS_DAWN_CAUSE
        = u.fld Fld.SYS_DAWN_CAUSE := hk.dawn
      _ = ((t.setFld Fld.SYS_DAWN_CAUSE cause).setFld Fld.SYS_DAWN_UNIT unit).fld Fld.SYS_DAWN_CAUSE :=
          State.fld_setFld_other _ _ (.inr (by decide))
      _ = (t.setFld Fld.SYS_DAWN_CAUSE cause).fld Fld.SYS_DAWN_CAUSE := State.fld_setFld_other _ _ (.inr (by decide))
      _ = cause := t.fld_setFld (by decide) hc

/-! ## The PLLs -/

/-- A PLL has locked: its flag, and with the 400 MHz PLL the start of Weft time (R25, R85). -/
def State.pllLocked (s : State) : Pll → State
  | .pll400 => { (s.setFlag Fld.SYS_CLK_REF_OK true).setFlag Fld.SYS_CLK_PLL400 true with weft := 0, wft := { s.wft with frac := 0 } }
  | .pll800 => (s.setFlag Fld.SYS_CLK_REF_OK true).setFlag Fld.SYS_CLK_PLL800 true

theorem State.pllLocked_flags (s : State) (p : Pll) :
    (s.pllLocked p).flag (pllField p) = true ∧ (s.pllLocked p).flag Fld.SYS_CLK_REF_OK = true ∧
      (s.flag Fld.SYS_CLK_PLL400 = true → (s.pllLocked p).flag Fld.SYS_CLK_PLL400 = true) ∧
      (s.flag Fld.SYS_CLK_PLL800 = true → (s.pllLocked p).flag Fld.SYS_CLK_PLL800 = true) := by
  have hother (t : State) {f g : Field} (h : g.lo + g.width ≤ f.lo ∨ f.lo + f.width ≤ g.lo) :
      (t.setFlag f true).flag g = t.flag g := t.flag_setFlag_other true (.inr h)
  have hsame (t : State) {f : Field} (h : f.lo + f.width ≤ 32) (hw : 0 < f.width) : (t.setFlag f true).flag f = true :=
    t.flag_setFlag true h hw
  cases p with
  | pll400 =>
    have hw (f : Field) : (s.pllLocked .pll400).flag f = ((s.setFlag Fld.SYS_CLK_REF_OK true).setFlag Fld.SYS_CLK_PLL400 true).flag f := rfl
    simp only [hw, pllField]
    exact ⟨hsame _ (by decide) (by decide), (hother _ (by decide)).trans (hsame _ (by decide) (by decide)),
      fun _ => hsame _ (by decide) (by decide), fun h => (hother _ (by decide)).trans ((hother _ (by decide)).trans h)⟩
  | pll800 =>
    simp only [State.pllLocked, pllField]
    exact ⟨hsame _ (by decide) (by decide), (hother _ (by decide)).trans (hsame _ (by decide) (by decide)),
      fun h => (hother _ (by decide)).trans ((hother _ (by decide)).trans h), fun _ => hsame _ (by decide) (by decide)⟩

theorem exec_pllLock_dawning {p : Pll} {s : State} (hd : s.dawning = true) (hf : s.flag (pllField p) = false) :
    exec (.pllLock p) s = .next (if (s.pllLocked p).flag Fld.SYS_CLK_PLL400 && (s.pllLocked p).flag Fld.SYS_CLK_PLL800
      then (s.pllLocked p).reach 1 else s.pllLocked p) := by
  simp only [exec_pllLock, execPllLock, hd, hf]
  cases p <;> exact (apply_ite Host.Outcome.next _ _ _).symm

/-- Step 0x01 leaves the clocks. -/
theorem State.reach_clk (s : State) (k : Nat) {f : Field} (hf : f.addr = Reg.SYS_CLK) : (s.reach k).flag f = s.flag f :=
  s.flag_setFld_other k (.inl (by rw [hf]; decide))

theorem State.dawnStep_reach (s : State) {k : Nat} (hk : k < 2 ^ 8) : (s.reach k).dawnStep = k := s.fld_setFld (by decide) hk

theorem State.reach_sys (s : State) (k : Nat) : (s.reach k).sys = s.sys := rfl

theorem State.reach_psp (s : State) (k : Nat) : (s.reach k).psp = s.psp := rfl

/-- A PLL locks in a running Dawn (R25, R85, R86). -/
theorem pllLock_completes (p : Pll) (s : State) (hd : s.dawning = true) (hf : s.flag (pllField p) = false) :
    Completes (.pllLock p) s fun t =>
      t.flag (pllField p) = true ∧ t.flag Fld.SYS_CLK_REF_OK = true ∧ (p = .pll400 → t.weft = 0) ∧ (p = .pll800 → t.weft = s.weft) ∧
      (s.flag Fld.SYS_CLK_PLL400 = true ∨ s.flag Fld.SYS_CLK_PLL800 = true → t.dawnStep = 1) := by
  obtain ⟨hown, href, h400, h800⟩ := s.pllLocked_flags p
  have hp : (pllField p).addr = Reg.SYS_CLK := by cases p <;> rfl
  have hw : (p = .pll400 → (s.pllLocked p).weft = 0) ∧ (p = .pll800 → (s.pllLocked p).weft = s.weft) := by
    constructor <;> (rintro rfl; rfl)
  refine ⟨_, exec_pllLock_dawning hd hf, ?_⟩
  split
  · exact ⟨(State.reach_clk _ 1 hp).trans hown, (State.reach_clk _ 1 rfl).trans href, hw.1, hw.2,
      fun _ => State.dawnStep_reach _ (by decide)⟩
  · next hboth =>
    refine ⟨hown, href, hw.1, hw.2, fun hother => absurd ?_ hboth⟩
    rw [Bool.and_eq_true]
    cases p with
    | pll400 => exact ⟨hown, h800 (hother.resolve_left (ne_true_of_eq_false hf))⟩
    | pll800 => exact ⟨h400 (hother.resolve_right (ne_true_of_eq_false hf)), hown⟩

/-! ## The straps -/

/-- The strap code that five samples show (R55). -/
def strapCode (pins : List (BitVec 8)) : Nat :=
  (pins.zipIdx.map fun e => if e.1.getLsbD 7 then 2 ^ e.2 else 0).foldl (· + ·) 0

theorem exec_strapSample_agree {a b c d e : BitVec 8} {s : State} (hd : s.dawning = true) (hs : s.dawnStep = 1)
    (h : ([a, b, c, d, e].all fun v => (strapLevel v).isSome) = true) : exec (.strapSample a b c d e) s =
      .next (forAll (α := Fin 4) [0, 1, 2] (fun n t => t.setFlag (Fld.LCK_STATUS_SPLIT n) ((strapCode [a, b, c, d, e]).testBit (2 + n.val)))
        (((s.setFld ⟨Reg.SYS_STRAP, 8, 5⟩ (strapCode [a, b, c, d, e])).reach 2).setFld ⟨Reg.SYS_STRAP, 0, 5⟩
          (strapCode [a, b, c, d, e]))).dawnEntry := by
  simp only [exec_strapSample, execStrapSample, hd, hs, h, Bool.not_true, Bool.false_or, ne_eq, not_true_eq_false, decide_false,
    Bool.false_eq_true, if_false, if_true]
  rfl

theorem exec_strapSample_differ {a b c d e : BitVec 8} {s : State} (hd : s.dawning = true) (hs : s.dawnStep = 1)
    (h : ([a, b, c, d, e].all fun v => (strapLevel v).isSome) = false) : exec (.strapSample a b c d e) s =
      .next (((s.setFld ⟨Reg.SYS_STRAP, 8, 5⟩ (strapCode [a, b, c, d, e])).reach 2).dawnEntry.dawnFail 0x01 0) := by
  simp only [exec_strapSample, execStrapSample, hd, hs, h, Bool.not_true, Bool.false_or, ne_eq, not_true_eq_false, decide_false,
    Bool.false_eq_true, if_false]
  rfl

/-- A pin whose eight samples agree: its level, and its bit of the code. -/
theorem strapLevel_steady (b : Bool) : (strapLevel (if b then 0xFF else 0)).isSome = true := by cases b <;> rfl

theorem strapBit_steady (b : Bool) (k : Nat) : (if (if b then 0xFF else 0 : BitVec 8).getLsbD 7 then 2 ^ k else 0) = 2 ^ k * b.toNat := by
  cases b <;> simp

theorem strapCode_steady (a b c d e : Bool) :
    strapCode [if a then 0xFF else 0, if b then 0xFF else 0, if c then 0xFF else 0, if d then 0xFF else 0, if e then 0xFF else 0] =
      a.toNat + 2 * b.toNat + 4 * c.toNat + 8 * d.toNat + 16 * e.toNat := by
  simp only [strapCode, List.zipIdx, List.map, List.foldl, strapBit_steady]
  ring

theorem strapLevel_eq_none {v : BitVec 8} (h0 : v ≠ 0) (h1 : v ≠ 0xFF) : strapLevel v = none := by
  rw [strapLevel, if_neg h0, if_neg h1]

theorem straps_differ {l : List (BitVec 8)} (h : ∃ v ∈ l, v ≠ 0 ∧ v ≠ 0xFF) : (l.all fun v => (strapLevel v).isSome) = false := by
  obtain ⟨v, hv, h0, h1⟩ := h
  exact List.all_eq_false.mpr ⟨v, hv, by simp [strapLevel_eq_none h0 h1]⟩

/-! ## The groups of islands -/

/-- The links of a group as its start reports them (R86): the flags of its channels, and since when they are up. -/
def State.groupLinks (s : State) (x : Fin 4) (up : BitVec 9) : State :=
  forAll (setChans x).zipIdx
    (fun (e : Fin 28 × Nat) t => t.modGc e.1 fun g => { g with upSince := if up.getLsbD e.2 then some s.sys.poweredNs else none })
    (forAll (setChans x).zipIdx (fun (e : Fin 28 × Nat) t => t.setFlag (Fld.GDC_STATUS_LINK e.1) (up.getLsbD e.2)) s)

theorem State.groupLinks_keeps (s : State) (x : Fin 4) (up : BitVec 9) :
    (s.groupLinks x up).sys = s.sys ∧ (s.groupLinks x up).dawnStep = s.dawnStep := by
  refine foldl_keeps (P := fun t : State => t.sys = s.sys ∧ t.dawnStep = s.dawnStep) (fun _ _ h => h)
    (foldl_keeps (P := fun t : State => t.sys = s.sys ∧ t.dawnStep = s.dawnStep) ?_ ⟨rfl, rfl⟩)
  rintro t ⟨n, k⟩ ⟨hsys, hstep⟩
  have hn : Reg.SYS_DAWN ≠ Reg.GDC_STATUS n := by decide +revert
  exact ⟨hsys, (State.fld_setFld_reg _ _ hn).trans hstep⟩

theorem State.dawnStep_modPsp (s : State) (x : Fin 4) (f : PspSet → PspSet) : (s.modPsp x f).dawnStep = s.dawnStep := by
  simp only [State.dawnStep, State.fld, State.reg, State.modPsp_regs]

/-- The group of a set starts (R86, R87): what the command does before the common evaluation. -/
def State.groupStart (s : State) (x : Fin 4) (up : BitVec 9) : State :=
  ((({ s with sys := { s.sys with islandsUp := s.sys.islandsUp ||| (1#4 <<< x.val) } } : State).groupLinks x up).modPsp x fun p =>
    { p with linkFlag := up.getLsbD 7, linkData := up.getLsbD 8, flagAt := s.sys.poweredNs, dataAt := s.sys.poweredNs })

theorem exec_islandGroupStart_dawning {x : Fin 4} {up : BitVec 9} {s : State} (hd : s.dawning = true) (hlo : 2 ≤ s.dawnStep)
    (hhi : s.dawnStep ≤ 4) : exec (.islandGroupStart x up) s =
      .next ((s.groupStart x up).reach (if x = 3 then 4 else max 3 (s.groupStart x up).dawnStep)).settle := by
  simp only [exec_islandGroupStart, execIslandGroupStart, hd, Nat.not_lt.mpr hlo, Nat.not_lt.mpr hhi, decide_false, Bool.not_true,
    Bool.or_self, Bool.false_eq_true, if_false]
  rfl

theorem State.groupStart_keeps (s : State) (x : Fin 4) (up : BitVec 9) :
    (s.groupStart x up).sys.islandsUp = s.sys.islandsUp ||| (1#4 <<< x.val) ∧ (s.groupStart x up).dawnStep = s.dawnStep := by
  obtain ⟨hsys, hstep⟩ := State.groupLinks_keeps { s with sys := { s.sys with islandsUp := s.sys.islandsUp ||| (1#4 <<< x.val) } } x up
  rw [State.groupStart, State.modPsp_sys, State.dawnStep_modPsp, hsys, hstep]
  exact ⟨rfl, rfl⟩

theorem State.groupStart_ssi (s : State) (x : Fin 4) (up : BitVec 9) :
    (s.groupStart x up).psp[x].linkFlag = up.getLsbD 7 ∧ (s.groupStart x up).psp[x].linkData = up.getLsbD 8 := by
  simp only [State.groupStart, State.modPsp, Fin.getElem_fin, Vector.getElem_set_self, and_self]

/-- The group of a set starts in a running Dawn (R86, R87). -/
theorem islandGroupStart_settles (x : Fin 4) (up : BitVec 9) (s : State) (hd : s.dawning = true) (hlo : 2 ≤ s.dawnStep)
    (hhi : s.dawnStep ≤ 4) : Settles (.islandGroupStart x up) s fun u =>
      u.sys.islandsUp = s.sys.islandsUp ||| (1#4 <<< x.val) ∧ u.psp[x].linkFlag = up.getLsbD 7 ∧ u.psp[x].linkData = up.getLsbD 8 ∧
      u.dawnStep = if x = 3 then 4 else max 3 s.dawnStep := by
  obtain ⟨hup, hstep⟩ := s.groupStart_keeps x up
  obtain ⟨hflag, hdata⟩ := s.groupStart_ssi x up
  have hk : (if x = 3 then 4 else max 3 s.dawnStep) < 2 ^ 8 := by split <;> omega
  refine ⟨_, exec_islandGroupStart_dawning hd hlo hhi, ?_⟩
  rw [hstep]
  refine ⟨?_, ?_, ?_, State.dawnStep_reach _ hk⟩
  · rwa [State.reach_sys]
  · rwa [State.reach_psp]
  · rwa [State.reach_psp]

/-! ## The BIST slots -/

/-- The failures of a BIST slot take their consequences, and slot 1 tells whether the journal has passed (R88). -/
def State.bistTaken (s : State) (slot : Fin 4) (fails : List BistUnit) : State :=
  forAll (fails.filter fun u => bistSlot u == slot.val) (fun u t => t.bistFail u)
    (if slot = 1 then { s with sys := { s.sys with journalChecked := !(fails.filter fun u => bistSlot u == slot.val).contains .journal } }
      else s)

theorem exec_bistSlotEnd_dawning {slot : Fin 4} {fails : List BistUnit} {s : State} (hd : s.dawning = true)
    (hs : s.dawnStep = 4 + slot.val) : exec (.bistSlotEnd slot fails) s =
      match (fails.filter fun u => bistSlot u == slot.val).findSome? bistFatal with
      | some (c, u) => .next ((s.bistTaken slot fails).dawnFail c u)
      | none =>
        let t := s.bistTaken slot fails
        .next ((if slot = 0 then { t with sys := { t.sys with imageTry := some (t.flag Fld.SYS_BOOT_PREFER) } } else t).reach
          (5 + slot.val)).settle := by
  simp only [exec_bistSlotEnd, execBistSlotEnd, hd, hs, Bool.not_true, Bool.false_or, ne_eq, not_true_eq_false, decide_false,
    Bool.false_eq_true, if_false]
  rfl

/-- Settles O4: the commands of a running Dawn are their own branches, and what follows a failure leaves SYS_DAWN alone. -/
theorem dawnSteps : Obligations.DawnSteps := by
  unfold Obligations.DawnSteps
  refine ⟨pllLock_completes, ?_, ?_, ?_, ?_, islandGroupStart_settles, ?_, ?_, ?_⟩
  · intro p s hd hf ht
    simp only [exec_pllLockTimeout, execPllLockTimeout, hd, hf, ht, State.setFlag_sys, Bool.not_true, Bool.or_self,
      Bool.false_eq_true, if_false]
  · intro p s hd hf ht
    simp only [exec_pllLockTimeout, execPllLockTimeout, hd, hf, ht, State.setFlag_sys, Bool.not_true, Bool.or_self,
      Bool.false_eq_true, if_false, if_true]
  · intro a b c d e s hd hs
    rw [exec_strapSample_agree hd hs (by simp only [List.all, strapLevel_steady, Bool.and_self]), strapCode_steady]
  · intro a b c d e s hd hs hdiffer
    exact ⟨_, exec_strapSample_differ hd hs (straps_differ hdiffer), State.dawnFail_shows _ (by decide)⟩
  · intro x unit s hd hup hdown
    simp only [exec_islandGroupTimeout, execIslandGroupTimeout, hd, hup, hdown, Bool.not_true, Bool.or_self, Bool.false_eq_true, if_false]
  · intro slot fails s hd hs hnone
    rw [exec_bistSlotEnd_dawning hd hs, hnone]
    rfl
  · intro slot fails cause unit s hd hs hsome
    rw [exec_bistSlotEnd_dawning hd hs, hsome]
    rfl

end Sys2Proof.Machine
end

section
namespace Sys2Proof.Machine

/-! ## Reset and the start of a Dawn -/

/-- A field of another register keeps its value when a register is stored. -/
theorem State.fld_setReg_other (s : State) {a : Nat} {f : Field} (w : Word) (h : f.addr ≠ a) : (s.setReg a w).fld f = s.fld f := by
  rw [State.fld, State.fld, s.reg_setReg_other w h]

/-- The registers that a reset keeps are put into the register bank alone. -/
theorem State.deviceReset_sys (s : State) : s.deviceReset.sys =
    { Sys.reset with
      lockout := s.sys.lockout, vinPresent := s.sys.vinPresent, wakeLatched := s.sys.wakeLatched, nightDead := s.sys.nightDead
      dawnCount := s.sys.dawnCount, preferFlash := s.sys.preferFlash, record := s.sys.record, refreshAt := s.sys.refreshAt
      oldMode := s.mode, resetLow := s.sys.resetLow, rtcNs := s.sys.rtcNs, rtcSet := s.sys.rtcSet, poweredNs := s.sys.poweredNs
      wakeNs := s.sys.wakeNs, testNs := s.sys.testNs } := rfl

/-- What the start of a Dawn leaves in the device's own state; the console line of the mode is beside it. -/
theorem State.startDawn_sys (s : State) (c : BitVec 8) : (s.startDawn c).sys =
    { s.sys with
      inReset := false, resetReq := none, startCause := c, dawnCount := s.sys.dawnCount + 1, wakeLatched := none, dawnNs := 0 } := by
  unfold State.startDawn when
  extract_lets t1 t2 t3 t4 t5
  split <;> rfl

/-- What a reset keeps of the flash and of the queue, and what it clears (R50, R641). -/
theorem State.deviceReset_stores (s : State) :
    s.deviceReset.params = s.sys.record ∧ s.deviceReset.slots = s.slots ∧ s.deviceReset.images = s.images ∧
      s.deviceReset.pending = s.pending ∧ s.deviceReset.gc = State.reset.gc ∧ s.deviceReset.sram = [] := by
  simp only [State.deviceReset, forAll, keptFields, List.foldl_cons, List.foldl_nil, State.setFld_params, State.setFld_slots,
    State.setFld_images, State.setFld_pending, State.setFld_gc, State.setFld_sram, true_and]
  rfl

/-- What a wake writes into the registers: its source, the wake timer, and the mode (R82, R84). -/
theorem State.wake_reg (s : State) (source : BitVec 2) (a : Nat) : (s.wake source).reg a =
    (((s.setFld Fld.PMU_NIGHT_WAKE source.toNat).setReg Reg.PMU_WAKE 0).setFld Fld.SYS_MODE_MODE Mode.dawn.code).reg a := rfl

theorem State.wake_fld (s : State) (source : BitVec 2) (f : Field) : (s.wake source).fld f =
    (((s.setFld Fld.PMU_NIGHT_WAKE source.toNat).setReg Reg.PMU_WAKE 0).setFld Fld.SYS_MODE_MODE Mode.dawn.code).fld f := by
  rw [State.fld, State.fld, s.wake_reg]

/-- Settles O2, clause by clause: each shows in the fields that the operation writes last. -/
theorem resetAndDawnStart : Obligations.ResetAndDawnStart := by
  unfold Obligations.ResetAndDawnStart
  refine ⟨fun s => ?_, fun s c => ?_, fun s c => ⟨rfl, rfl⟩, fun s source => ⟨rfl, rfl, rfl, rfl, ?_, ?_, ?_⟩⟩
  · obtain ⟨hparams, hslots, himages, hpending, hgc, hsram⟩ := s.deviceReset_stores
    rw [State.deviceReset_sys]
    exact ⟨rfl, rfl, rfl, hparams, hslots, himages, hpending, hgc, hsram, rfl⟩
  · simp only [State.startDawn_sys, and_self]
  · rw [State.mode, s.wake_fld, State.fld_setFld _ (by decide) (by decide)]
    rfl
  · rw [s.wake_fld, State.fld_setFld_reg _ _ (by decide), State.fld_setReg_other _ _ (by decide)]
    exact s.fld_setFld (by decide) source.isLt
  · rw [s.wake_reg, State.reg_setFld_other _ _ (by decide), State.reg_setReg]

/-! ## What starts a reset and a Dawn -/

/-- The trip of the lock-out out of the modes with power (R60). -/
theorem exec_lockoutTrip_powered {supplies : BitVec 6} {vin : Bool} {s : State}
    (h : s.sys.lockout = .filtering ∨ s.sys.lockout = .released) :
    ∃ u : State, exec (.lockoutTrip supplies vin) s =
      .next { u.deviceReset with sys := { u.deviceReset.sys with lockout := .flushing, startCause := 1 } } := by
  refine ⟨(({ s with sys := { s.sys with vinPresent := vin } } : State).countTrip supplies).breakFlash, ?_⟩
  rcases h with h | h <;> simp only [exec_lockoutTrip, execLockoutTrip, h]

/-- The journal's flush ends, and the supply and the mode decide what follows (R60, R77). -/
theorem exec_lockoutFlushEnd_flushing {vin : Bool} {s : State} (h : s.sys.lockout = .flushing) :
    exec (.lockoutFlushEnd vin) s =
      (let t : State := { s.journalFlush with sys := { s.journalFlush.sys with vinPresent := vin } }
       if s.journalFlush.mode = .night then .next (t.nightAgain vin)
       else if vin = true then .next { t with sys := { t.sys with lockout := .filtering, wakeLatched := none } }
       else .next (t.enterNight true false)) := by
  simp only [exec_lockoutFlushEnd, execLockoutFlushEnd, h, bne_self_eq_false, Bool.false_eq_true, if_false, beq_iff_eq]
  rfl

/-- A DEVICE_RESET that is taken, with the key (R530). -/
theorem exec_deviceReset_takes {h : Desc} {s : State} (ht : s.takes h 0x19 = true) :
    exec (.deviceReset h 0xD5E7) s =
      .next (if !h.hard && !s.allStopped then s.complete h 0x19 St.NOT_STOPPED
        else (s.complete h 0x19 St.SUCCESS).requestReset 3) := by
  simp only [exec_deviceReset, execDeviceReset, State.dispatch_takes _ ht, State.taken_plain (op := 0x19) rfl, bne_self_eq_false,
    Bool.false_eq_true, if_false]

/-- A write of the key to SYS_RESET that is let through (R634). -/
theorem exec_sysReset_writable {w : Writer} {s : State} (hw : s.writable w Reg.SYS_RESET = true) :
    exec (.sysReset w 0xD5E7) s = .next (if s.allStopped then s.requestReset 4 else s.setFld Fld.SYS_MODE_REQ_RES 3) := by
  rw [exec_sysReset, execSysReset, State.access_writable _ _ hw]
  cases s.allStopped <;> rfl

/-- Settles O1, clause by clause: each event's own branch. -/
theorem resetSequence : Obligations.ResetSequence := by
  unfold Obligations.ResetSequence
  refine ⟨?_, ?_, ?_, ?_, ?_, ?_, ?_, ?_, ?_, ?_, ?_, ?_⟩
  · intro supplies vin s h
    obtain ⟨u, hu⟩ := exec_lockoutTrip_powered (supplies := supplies) (vin := vin) h
    refine ⟨_, hu, rfl, ?_, ?_, rfl, ?_⟩ <;> rw [State.deviceReset_sys] <;> rfl
  · intro s h hm
    simp only [exec_lockoutFlushEnd_flushing h, hm, if_false, if_true]
  · intro s h hm
    simp only [exec_lockoutFlushEnd_flushing h, hm, if_false, Bool.false_eq_true]
  · intro vin s h hm
    simp only [exec_lockoutFlushEnd_flushing h, hm, if_true]
  · intro s h hr
    simp only [exec_lockoutRelease, execLockoutRelease, h, hr, bne_self_eq_false, Bool.false_eq_true, if_false]
  · intro s ha hr
    have ha' : ({ s with sys := { s.sys with resetLow := true } } : State).awake = true := ha
    simp only [exec_resetNAssert, execResetNAssert, ha', hr, Bool.not_false, Bool.and_self, if_true]
  · intro s hr hl
    simp only [exec_resetNRelease, execResetNRelease, hr, hl, beq_self_eq_true, Bool.and_self, if_true]
  · intro c s ha hr
    simp only [exec_resetStart, execResetStart, hr, ha, if_true]
  · intro w s hw hs
    rw [exec_sysReset_writable hw, hs, if_pos rfl]
  · intro w s hw hs
    rw [exec_sysReset_writable hw, hs, if_neg Bool.false_ne_true]
  · intro h s ht hs
    rw [exec_deviceReset_takes ht, if_neg]
    rcases hs with hs | hs <;> simp only [hs, Bool.not_true, Bool.false_and, Bool.and_false, Bool.false_eq_true, not_false_eq_true]
  · intro s ha
    simp only [exec_functionLevelReset, execFunctionLevelReset, ha, if_true]

/-! ## NIGHT and its wakes -/

/-- In NIGHT with power held the entry to NIGHT is over, so a qualified wake acts (R82). -/
theorem State.wakeOrLatch_night {s : State} (hm : s.mode = .night) (hr : s.sys.inReset = false) (hl : s.sys.lockout ≠ .flushing)
    (source : BitVec 2) : s.wakeOrLatch source = s.wake source := by
  have hl' : (s.sys.lockout == .flushing) = false := beq_eq_false_iff_ne.mpr hl
  have hentering : s.enteringNight = false := by
    simp only [State.enteringNight, hl', State.duskReady, hm, show (Mode.night == Mode.dusk) = false from rfl, Bool.false_and, Bool.or_self]
  simp only [State.wakeOrLatch, hentering, hm, hr, beq_self_eq_true, Bool.not_false, Bool.and_self, Bool.false_eq_true, if_false, if_true]

/-- WAKE_N outside DEEP NIGHT: its samples decide (R41). -/
theorem exec_wakeN_clocked {samples lowUs : Nat} {s : State} (hm : s.mode ≠ .deepNight) :
    exec (.wakeN samples lowUs) s = .next (if 33 ≤ samples then s.wakeOrLatch 1 else s) := by
  simp only [exec_wakeN, execWakeN, beq_eq_false_iff_ne.mpr hm, Bool.false_eq_true, if_false]
  exact (apply_ite Host.Outcome.next _ _ _).symm

/-- WAKE_N in DEEP NIGHT: its length decides (R41, R82). -/
theorem exec_wakeN_deep {samples lowUs : Nat} {s : State} (hm : s.mode = .deepNight) :
    exec (.wakeN samples lowUs) s = if 2000 ≤ lowUs then .next (s.wake 1) else if lowUs < 500 then .next s
      else .next (if s.freeBool.1 then s.freeBool.2.wake 1 else s.freeBool.2) := by
  simp only [exec_wakeN, execWakeN, hm, beq_self_eq_true, if_true]

/-- +24V is present again, with the Night domain supplied from it. -/
def State.vinBack (s : State) : State := { s with sys := { s.sys with vinPresent := true, nightDead := false } }

/-- The return of +24V in a NIGHT or DEEP NIGHT (R82): ORIGIN decides, except in a NIGHT on +24V. -/
theorem exec_vinReturn_off {s : State} (hl : s.sys.lockout = .off) :
    exec .vinReturn s = if (s.mode == .night && !s.sys.nightOnVbat) = true then .next s.vinBack
      else if (!s.flag Fld.PMU_NIGHT_ORIGIN) = true then .next (s.vinBack.wake 3)
      else
        let u := when (s.mode == .deepNight) (·.startWakeTimer) (s.vinBack.setFld Fld.SYS_MODE_MODE Mode.night.code)
        .next { u with sys := { u.sys with nightOnVbat := false } } := by
  have hlock : ¬ (s.vinBack.sys.lockout != .off) = true := by rw [bne_iff_ne, not_not]; exact hl
  exact if_neg hlock

/-- The check of VBAT with a clock in the Night domain (R63, R646). -/
theorem exec_vbatCheck_clocked {vbat : Rat} {s : State} (hm : s.mode ≠ .deepNight) :
    exec (.vbatCheck vbat) s =
      (let t : State := { s with sys := { s.sys with nightDead := s.sys.nightDead && decide (vbat < 11 / 5) } }
       if (s.sys.nightDead && decide (vbat < 11 / 5)) = true then .next t
       else .next (t.setFlag Fld.PMU_LOCKOUT_VBAT_LOW (decide (vbat < 11 / 5)))) := by
  have hclock (dead : Bool) : ((s.mode == .deepNight || dead) = true) ↔ (dead = true) := by
    rw [beq_eq_false_iff_ne.mpr hm, Bool.false_or]
  exact if_congr (hclock _) rfl rfl

/-- The Night domain that has lost its contents (R646): its four registers read 0, and its count of time is 0. -/
theorem State.loseNight_shows (s : State) :
    s.loseNight.reg Reg.PMU_LOCKOUT = 0 ∧ s.loseNight.reg Reg.PMU_NIGHT = 0 ∧ s.loseNight.reg Reg.PMU_RTC = 0 ∧
      s.loseNight.reg Reg.PMU_WAKE = 0 ∧ s.loseNight.sys.rtcNs = 0 ∧ s.loseNight.sys.nightDead = true := by
  unfold State.loseNight
  extract_lets t sys u
  have hcleared (a : Nat) (ha : a ≠ Reg.SYS_MODE) : (if u.sys.lockout == .off then u.awaitSupply else u).reg a = t.reg a := by
    split
    · exact State.reg_setFld_other u _ ha
    · rfl
  have hcount : (if u.sys.lockout == .off then u.awaitSupply else u).sys.rtcNs = 0 ∧
      (if u.sys.lockout == .off then u.awaitSupply else u).sys.nightDead = true := by
    split <;> exact ⟨rfl, rfl⟩
  refine ⟨?_, ?_, ?_, ?_, hcount⟩ <;> rw [hcleared _ (by decide)] <;>
    simp (disch := decide) only [t, forAll, List.foldl_cons, List.foldl_nil, State.reg_setReg, State.reg_setReg_other]

/-- Settles O3, clause by clause: each event's own branch. -/
theorem nightAndWake : Obligations.NightAndWake := by
  unfold Obligations.NightAndWake
  refine ⟨?_, ?_, ?_, ?_, ?_, ?_, ?_, ?_, ?_, ?_, ?_, ?_, ?_, ?_, ?_⟩
  · intro samples lowUs s hm hr hl hq
    rw [exec_wakeN_clocked (by rw [hm]; decide), if_pos hq, State.wakeOrLatch_night hm hr hl]
  · intro samples lowUs s hm hq
    rw [exec_wakeN_clocked hm, if_neg (by omega)]
  · intro samples lowUs s hm hq
    rw [exec_wakeN_deep hm, if_pos hq]
  · intro samples lowUs s hm hq
    rw [exec_wakeN_deep hm, if_neg (by omega), if_pos hq]
  · intro s hm hr hl hrun ht
    simp only [exec_wakeTimer, execWakeTimer, hm, hr, hrun, ht, beq_self_eq_true, Bool.not_false, decide_true, Bool.and_self, if_true,
      State.wakeOrLatch_night hm hr hl]
  · intro s ht
    simp only [exec_wakeTimer, execWakeTimer, not_le.mpr ht, decide_false, Bool.and_false, Bool.false_eq_true, if_false]
  · intro samples lowUs s hm he hq
    rw [exec_wakeN_clocked hm, if_pos hq, State.wakeOrLatch, he, if_pos rfl]
  · intro s hl hv ho
    have hpresent : (s.mode == .night && !s.sys.nightOnVbat) = false := by
      cases hn : s.mode == .night with
      | false => rfl
      | true => rw [hv (beq_iff_eq.mp hn)]; rfl
    rw [exec_vinReturn_off hl, hpresent, ho, if_neg Bool.false_ne_true, if_pos (Bool.not_false)]
    rfl
  · intro s hl hm hv ho
    rw [exec_vinReturn_off hl, hm, hv, ho, if_neg (by decide), if_neg (by decide)]
    rfl
  · intro s hm hr hv hon ht
    simp only [exec_deepNightEntry, execDeepNightEntry, hm, hr, hv, hon, ht, beq_self_eq_true, Bool.not_false, decide_true, Bool.and_self,
      if_true]
    rfl
  · intro s ht
    simp only [exec_deepNightEntry, execDeepNightEntry, not_lt.mpr ht, decide_false, Bool.and_false, Bool.false_eq_true, if_false]
  · intro vbat s hm hd
    have hdead : (s.sys.nightDead && decide (vbat < 11 / 5)) = false := by
      rcases hd with hd | hd
      · rw [hd, Bool.false_and]
      · rw [decide_eq_false (not_lt.mpr hd), Bool.and_false]
    rw [exec_vbatCheck_clocked hm, hdead, if_neg Bool.false_ne_true]
  · intro vbat s hm hd hv
    rw [exec_vbatCheck_clocked hm, hd, decide_eq_true hv, Bool.and_self, if_pos rfl]
  · intro vbat s hv
    have hfed : (s.sys.vinPresent || decide (11 / 5 ≤ vbat)) = true := by
      rw [Bool.or_eq_true, decide_eq_true_eq]; exact hv
    simp only [exec_nightDomainLoss, execNightDomainLoss, hfed, if_true]
  · intro vbat s hv hlow
    have hunfed : (s.sys.vinPresent || decide (11 / 5 ≤ vbat)) = false := by
      rw [hv, Bool.false_or, decide_eq_false]; linarith
    refine ⟨s.loseNight, ?_, s.loseNight_shows⟩
    simp only [exec_nightDomainLoss, execNightDomainLoss, hunfed, hlow, Bool.false_eq_true, if_false, if_true]

/-! ## The PCI Express link -/

/-- Settles O9, clause by clause. -/
theorem pcieLink : Obligations.PcieLink := by
  unfold Obligations.PcieLink
  refine ⟨?_, fun s => rfl, ?_, ?_, ?_, ?_⟩
  · intro s ha
    have ha' : ({ s with hif := { s.hif with perstLow := true } } : State).awake = true := ha
    simp only [exec_perstNAssert, execPerstNAssert, ha', if_true]
  · intro s ha
    simp only [exec_linkDown, execLinkDown, ha, if_true]
  · intro speed width s ha hp hd
    refine ⟨((s.setFlag Fld.HIF_STATUS_LINK_UP true).setFld Fld.HIF_STATUS_SPEED speed.toNat).setFld Fld.HIF_STATUS_WIDTH width.toNat,
      ?_, ?_, ?_, ?_⟩
    · simp only [exec_linkUp, execLinkUp, ha, hp, hd, Bool.not_false, Bool.false_and, Bool.and_self, if_true]
    · rw [State.flag_setFld_other _ _ (.inr (by decide)), State.flag_setFld_other _ _ (.inr (by decide)),
        State.flag_setFlag _ _ (by decide) (by decide)]
    · rw [State.fld_setFld_other _ _ (.inr (by decide)), State.fld_setFld _ (by decide) speed.isLt]
    · exact State.fld_setFld _ (by decide) width.isLt
  · intro s hl
    rw [State.pcieLost, hl, if_pos rfl]
  · intro s hl
    rw [State.pcieLost, hl, if_neg Bool.false_ne_true]

end Sys2Proof.Machine
end

section
namespace Sys2Proof.Machine

/-! ## Reading the registers of a feedback port -/

/-- Two registers of one port differ as those of port 0 do. -/
theorem portReg_ne {b c k n : Nat} (h : b ≠ c) : b + n * k ≠ c + n * k := fun e => h (Nat.add_right_cancel e)

@[simp] theorem State.fb_modFb (s : State) (n : Fin 4) (f : FbPort → FbPort) : (s.modFb n f).fb[n] = f s.fb[n] :=
  Vector.getElem_set_self _

theorem State.fb_modFb_other (s : State) {m n : Fin 4} (f : FbPort → FbPort) (h : m ≠ n) : (s.modFb n f).fb[m] = s.fb[m] :=
  Vector.getElem_set_ne n.isLt m.isLt fun e => h (Fin.ext e.symm)

theorem State.flag_setReg_other (s : State) {a : Nat} {f : Field} (w : Word) (h : f.addr ≠ a) : (s.setReg a w).flag f = s.flag f := by
  rw [State.flag, State.flag, s.fld_setReg_other w h]

theorem State.reg_setFlag_other (s : State) {f : Field} {a : Nat} (b : Bool) (h : a ≠ f.addr) : (s.setFlag f b).reg a = s.reg a :=
  s.reg_setFld_other _ h

theorem State.fld_setFlag_other (s : State) {f g : Field} (b : Bool)
    (h : g.addr ≠ f.addr ∨ g.lo + g.width ≤ f.lo ∨ f.lo + f.width ≤ g.lo) : (s.setFlag f b).fld g = s.fld g :=
  s.fld_setFld_other _ h

/-- What a port follows on its buffers leaves the port and the registers alone (R387). -/
theorem State.ptFollow_keeps (s : State) (n : Fin 4) : (s.ptFollow n).regs = s.regs ∧ (s.ptFollow n).fb = s.fb := by
  refine foldl_keeps (P := fun t : State => t.regs = s.regs ∧ t.fb = s.fb) (fun t m ht => ?_) ⟨rfl, rfl⟩
  dsimp only
  split <;> exact ht

@[simp] theorem State.ptFollow_reg (s : State) (n : Fin 4) (a : Nat) : (s.ptFollow n).reg a = s.reg a := by
  rw [State.reg, State.reg, (s.ptFollow_keeps n).1]

@[simp] theorem State.ptFollow_fb (s : State) (n : Fin 4) : (s.ptFollow n).fb = s.fb := (s.ptFollow_keeps n).2

@[simp] theorem State.ptFollow_flag (s : State) (n : Fin 4) (f : Field) : (s.ptFollow n).flag f = s.flag f := by
  rw [State.flag, State.flag, State.fld, State.fld, s.ptFollow_reg]

theorem State.when_modFb (s : State) (c : Bool) (n : Fin 4) (f : FbPort → FbPort) :
    when c (·.modFb n f) s = s.modFb n fun q => if c then f q else q := by
  cases c
  · exact congrArg (fun v => { s with fb := v }) (Vector.set_getElem_self n.isLt).symm
  · rfl

/-! ## Edges (R366 to R368) -/

/-- The levels of an A/B change are taken, and the buffers follow (R366, R387). -/
def State.edgeTaken (s : State) (n : Fin 4) (a b : Bool) : State :=
  (s.modFb n fun q => { q with la := a, lb := b, lz := false }).ptFollow n

/-- A change of A and B on an ABZ port, by its quadrature step (R366). -/
theorem exec_encoderEdge_abz {n : Fin 4} {a b : Bool} {s : State} (ha : s.awake = true) (ht : s.portType n = 1) :
    exec (.encoderEdge n a b) s = match quadStep s.fb[n].la s.fb[n].lb a b with
      | some k => .next ((s.edgeTaken n a b).setRaw n (s.fb[n].r + k))
      | none => .next ((s.edgeTaken n a b).fbFault n (Fld.FBI_FAULT_QUAD n)) := by
  simp only [exec_encoderEdge, execEncoderEdge, ha, ht, Bool.not_true, Bool.false_eq_true, if_false, beq_self_eq_true, if_true]
  rfl

/-- A change of A and B on a SINCOS port, by the quadrants it goes through (R368). -/
theorem exec_encoderEdge_sincos {n : Fin 4} {a b : Bool} {s : State} (ha : s.awake = true) (ht : s.portType n = 2) :
    exec (.encoderEdge n a b) s = match (quadrantOf a b + 4 - quadrantOf s.fb[n].la s.fb[n].lb) % 4 with
      | 1 => .next ((s.edgeTaken n a b).modFb n fun q => { q with per := if quadrantOf a b = 0 then q.per + 1 else q.per })
      | 3 => .next ((s.edgeTaken n a b).modFb n fun q =>
          { q with per := if quadrantOf s.fb[n].la s.fb[n].lb = 0 then q.per - 1 else q.per })
      | 2 => .next ((s.edgeTaken n a b).fbFault n (Fld.FBI_FAULT_QUAD n))
      | _ => .next (s.edgeTaken n a b) := by
  simp only [exec_encoderEdge, execEncoderEdge, ha, ht, Bool.not_true, Bool.false_eq_true, if_false, beq_self_eq_true, if_true,
    show ((2 : Nat) == 1) = false from rfl]
  rfl

/-! ## Index marks (R366, R368, R377, R378) -/

/-- Where an index mark finds the port: the whole period of a SINCOS port, else the count that absorbs reversals. -/
def State.markAt (s : State) (n : Fin 4) : Int :=
  if s.portType n = 2 then (if s.fb[n].neg then 1 else 0) + s.fb[n].per * (2 ^ s.interp n : Nat) else s.fb[n].h

/-- The mark is captured and shown, and a waiting LOAD_Z sets the preset that the next sample takes. -/
def State.markTaken (s : State) (n : Fin 4) : State :=
  let p := clampInt (s32 (s.reg (Reg.FBI_SOFTMIN n))) (s32 (s.reg (Reg.FBI_SOFTMAX n))) (s.markAt n + s.fb[n].offset)
  let t := (s.modFb n fun q => { q with lz := true }).ptFollow n
  let t := (t.setReg (Reg.FBI_ZCAP n) (toS32 p)).setFlag (Fld.FBI_STATUS_Z_SEEN n) true
  when s.fb[n].loadZ (·.modFb n fun q => { q with zOfs := some (s32 (t.reg (Reg.FBI_PRESET n)) - s.markAt n), loadZ := false }) t

/-- An index mark of a counting port is taken, and sets TURN where Z_REF asks for it and TURN has no reference yet (R377). -/
theorem exec_indexMark_counts {n : Fin 4} {s : State} (ha : s.awake = true) (ht : s.portType n = 1 ∨ s.portType n = 2) :
    exec (.indexMark n) s =
      if (s.markTaken n).flag (Fld.FBI_CFG_Z_REF n) && !(s.markTaken n).flag (Fld.FBI_STATUS_TURN_OK n) then
        .next (((s.markTaken n).modFb n fun q => { q with turnAdj := -s.markAt n }).setFlag (Fld.FBI_STATUS_TURN_OK n) true)
      else .next (s.markTaken n) := by
  have hat : (if s.portType n == 2 then (if s.fb[n].neg then 1 else 0) + s.fb[n].per * (2 ^ s.interp n : Nat) else s.fb[n].h) = s.markAt n := by
    simp only [State.markAt, beq_iff_eq]
  have htype : (!(s.awake && (s.portType n == 1 || s.portType n == 2))) = false := by
    rcases ht with ht | ht <;> rw [ha, ht] <;> rfl
  simp only [exec_indexMark, execIndexMark, htype, hat, Bool.false_eq_true, if_false]
  rfl

theorem State.markTaken_fb (s : State) (n : Fin 4) : (s.markTaken n).fb[n] =
    if s.fb[n].loadZ then { s.fb[n] with lz := true, zOfs := some (s32 (s.reg (Reg.FBI_PRESET n)) - s.markAt n), loadZ := false }
    else { s.fb[n] with lz := true } := by
  simp (disch := decide +revert) only [State.markTaken, State.when_modFb, State.fb_modFb, State.setFlag_fb, State.setReg_fb,
    State.ptFollow_fb, State.reg_setFlag_other, State.reg_setReg_other, State.ptFollow_reg, State.modFb_reg]

/-- What an index mark shows in the registers, and the two flags that it leaves to Z_REF (R377). -/
theorem State.markTaken_shows (s : State) (n : Fin 4) :
    (s.markTaken n).reg (Reg.FBI_ZCAP n) =
        toS32 (clampInt (s32 (s.reg (Reg.FBI_SOFTMIN n))) (s32 (s.reg (Reg.FBI_SOFTMAX n))) (s.markAt n + s.fb[n].offset)) ∧
      (s.markTaken n).flag (Fld.FBI_STATUS_Z_SEEN n) = true ∧
      (s.markTaken n).flag (Fld.FBI_CFG_Z_REF n) = s.flag (Fld.FBI_CFG_Z_REF n) ∧
      (s.markTaken n).flag (Fld.FBI_STATUS_TURN_OK n) = s.flag (Fld.FBI_STATUS_TURN_OK n) := by
  simp (disch := decide +revert) only [State.markTaken, State.when_modFb, State.modFb_reg, State.modFb_flag, State.ptFollow_flag,
    State.reg_setFlag_other, State.reg_setReg, State.flag_setFlag, State.flag_setFlag_other, State.flag_setReg_other, and_self]

/-- An index mark of a counting port (R366, R368, R377, R378). -/
theorem indexMark_completes (n : Fin 4) (s : State) (ha : s.awake = true) (ht : s.portType n = 1 ∨ s.portType n = 2) :
    Completes (.indexMark n) s fun t =>
      t.reg (Reg.FBI_ZCAP n) =
          toS32 (clampInt (s32 (s.reg (Reg.FBI_SOFTMIN n))) (s32 (s.reg (Reg.FBI_SOFTMAX n))) (s.markAt n + s.fb[n].offset)) ∧
        t.flag (Fld.FBI_STATUS_Z_SEEN n) = true ∧ t.fb[n].loadZ = false ∧
        (s.fb[n].loadZ = true → t.fb[n].zOfs = some (s32 (s.reg (Reg.FBI_PRESET n)) - s.markAt n)) ∧
        (s.flag (Fld.FBI_CFG_Z_REF n) = true ∧ s.flag (Fld.FBI_STATUS_TURN_OK n) = false →
          t.fb[n].turnAdj = -s.markAt n ∧ t.flag (Fld.FBI_STATUS_TURN_OK n) = true) := by
  obtain ⟨hcap, hseen, href, hturn⟩ := s.markTaken_shows n
  have hload : (s.markTaken n).fb[n].loadZ = false ∧
      (s.fb[n].loadZ = true → (s.markTaken n).fb[n].zOfs = some (s32 (s.reg (Reg.FBI_PRESET n)) - s.markAt n)) := by
    rw [s.markTaken_fb]
    cases hl : s.fb[n].loadZ with
    | false => exact ⟨hl, fun h => absurd h Bool.false_ne_true⟩
    | true => exact ⟨rfl, fun _ => rfl⟩
  rw [Completes, exec_indexMark_counts ha ht, href, hturn]
  cases hz : s.flag (Fld.FBI_CFG_Z_REF n) && !s.flag (Fld.FBI_STATUS_TURN_OK n) with
  | false =>
    refine ⟨_, rfl, hcap, hseen, hload.1, hload.2, fun h => ?_⟩
    rw [h.1, h.2] at hz
    exact absurd hz.symm Bool.false_ne_true
  | true =>
    refine ⟨_, rfl, ?_, ?_, ?_, ?_, fun _ => ⟨?_, State.flag_setFlag _ _ (Nat.le_of_ble_eq_true rfl) Nat.one_pos⟩⟩
    · rwa [State.reg_setFlag_other _ _ (portReg_ne (by decide)), State.modFb_reg]
    · rwa [State.flag_setFlag_other _ _ (.inr (.inl (Nat.le_of_ble_eq_true rfl))), State.modFb_flag]
    · rw [State.setFlag_fb, State.fb_modFb]; exact hload.1
    · rw [State.setFlag_fb, State.fb_modFb]; exact hload.2
    · rw [State.setFlag_fb, State.fb_modFb]

/-! ## Speed windows (R379 to R382) -/

/-- The choice between two equally short ways touches no register and no port (log entry 3). -/
theorem shortest_keeps (s : State) (d : Int) (m : Nat) : (shortest s d m).2.regs = s.regs ∧ (shortest s d m).2.fb = s.fb := by
  unfold shortest
  dsimp only
  split
  · exact ⟨rfl, rfl⟩
  · split <;> exact ⟨rfl, rfl⟩

/-- The registers that a conversion leaves: all but the status and the faults of its port. -/
theorem State.takeAnalog_reg (s : State) (n : Fin 4) (v : Analog) {a : Nat} (hs : a ≠ Reg.FBI_STATUS n) (hf : a ≠ Reg.FBI_FAULT n) :
    (s.takeAnalog n v).reg a = s.reg a := by
  unfold State.takeAnalog
  split
  · split
    · rfl
    · exact (State.reg_setFlag_other _ _ hs).trans (State.reg_setFlag_other _ _ hf)
  · split
    · extract_lets a
      split
      · split
        · rfl
        · exact State.reg_setFlag_other _ _ hs
      · rw [State.reg, State.reg]
        exact congrArg (sparseGet resetWord · _) (shortest_keeps s _ _).1
    · rfl

/-- Whether the count has not moved long enough for STILL (R381). -/
def State.windowStill (s : State) (n : Fin 4) (delta : Int) : Bool :=
  decide (max 1 (s.fld (Fld.FBI_CFG_STILL n)) ≤ if delta = 0 then s.fb[n].stillN + 1 else 0)

/-- The speed of a window (R379): 0 without counts per turn, without a span, and in STILL. -/
def State.windowSpeed (s : State) (n : Fin 4) (delta : Int) (span : Rat) : Rat :=
  if s.cpt n = 0 || span = 0 || s.windowStill n delta then 0 else 60 * (delta : Rat) * 1_000_000_000 / ((s.cpt n : Rat) * span)

/-- What a window with a difference of its own reports (R379 to R382). -/
def State.windowShown (s : State) (n : Fin 4) (delta : Int) (span : Rat) : State :=
  let t := (s.setReg (Reg.FBI_DELTA n) (toS32 delta)).setFlag (Fld.FBI_STATUS_STILL n) (s.windowStill n delta)
  let t := t.setFlag (Fld.FBI_STATUS_START n) (s.flag (Fld.FBI_STATUS_STILL n) && delta != 0)
  let t := (t.setFlag (Fld.FBI_STATUS_REV n) s.fb[n].revd).setFlag (Fld.FBI_STATUS_DIR n) s.fb[n].neg
  t.setReg (Reg.FBI_SPEED n) (ratToF32 (s.windowSpeed n delta span))

theorem State.windowShown_fb (s : State) (n : Fin 4) (delta : Int) (span : Rat) : (s.windowShown n delta span).fb = s.fb := by
  simp only [State.windowShown, State.setReg_fb, State.setFlag_fb]

theorem State.windowShown_shows (s : State) (n : Fin 4) (delta : Int) (span : Rat) :
    (s.windowShown n delta span).reg (Reg.FBI_DELTA n) = toS32 delta ∧
      (s.windowShown n delta span).reg (Reg.FBI_SPEED n) = ratToF32 (s.windowSpeed n delta span) ∧
      (s.windowShown n delta span).flag (Fld.FBI_STATUS_REV n) = s.fb[n].revd ∧
      (s.windowShown n delta span).flag (Fld.FBI_STATUS_STILL n) = s.windowStill n delta := by
  simp (disch := decide +revert) only [State.windowShown, State.reg_setReg, State.reg_setReg_other, State.reg_setFlag_other,
    State.flag_setReg_other, State.flag_setFlag, State.flag_setFlag_other, and_self]

theorem State.windowStill_moved (s : State) (n : Fin 4) {delta : Int} (h : delta ≠ 0) : s.windowStill n delta = false := by
  rw [State.windowStill, if_neg h, decide_eq_false_iff_not]
  omega

theorem State.windowSpeed_moved (s : State) (n : Fin 4) {delta : Int} {span : Rat} (h : delta ≠ 0) (hc : s.cpt n ≠ 0) (hs : span ≠ 0) :
    s.windowSpeed n delta span = 60 * (delta : Rat) * 1_000_000_000 / ((s.cpt n : Rat) * span) := by
  rw [State.windowSpeed, s.windowStill_moved n h, decide_eq_false hc, decide_eq_false hs, if_neg (by decide)]

/-- The next window starts from the count and the word of this one. -/
def FbPort.nextWindow (p : FbPort) (still : Nat) (serial : Bool) : FbPort :=
  { p with
    hStart := p.h, revd := false, stillN := min still 15
    winWord := if serial && p.word.isSome then some (p.h, p.wordAt) else none }

/-- A window of a counting port takes the difference of its count, over its own length. -/
theorem exec_speedWindowEnd_counting {n : Fin 4} {v : Analog} {s : State} (ha : s.awake = true)
    (ht : s.portType n = 1 ∨ s.portType n = 2 ∨ s.portType n = 5 ∨ s.portType n = 6) :
    exec (.speedWindowEnd n v) s =
      (let u := s.takeAnalog n v
       let delta := u.fb[n].h - u.fb[n].hStart
       .next ((u.windowShown n delta (u.speedWindow n)).modFb n fun p => p.nextWindow (if delta = 0 then u.fb[n].stillN + 1 else 0) false)) := by
  have hon : (!s.awake || s.portType n == 0) = false := by rcases ht with h | h | h | h <;> rw [ha, h] <;> rfl
  have hserial : (s.portType n == 3 || s.portType n == 4) = false := by rcases ht with h | h | h | h <;> rw [h] <;> rfl
  simp only [exec_speedWindowEnd, execSpeedWindowEnd, hon, hserial, Bool.false_eq_true, if_false, Bool.false_and]
  rfl

/-- A window of a serial port takes the difference of its words, over that of their stamps. -/
theorem exec_speedWindowEnd_serial {n : Fin 4} {v : Analog} {h : Int} {ts : Time} {s : State} (ha : s.awake = true)
    (ht : s.portType n = 3 ∨ s.portType n = 4) (hw : s.fb[n].winWord = some (h, ts)) (hnew : s.fb[n].wordAt ≠ ts) :
    exec (.speedWindowEnd n v) s =
      (let delta := s.fb[n].h - h
       .next ((s.windowShown n delta ((s.fb[n].wordAt.toNat - ts.toNat : Nat) : Rat)).modFb n fun p =>
        p.nextWindow (if delta = 0 then s.fb[n].stillN + 1 else 0) true)) := by
  have hon : (!s.awake || s.portType n == 0) = false := by rcases ht with h | h <;> rw [ha, h] <;> rfl
  have hserial : (s.portType n == 3 || s.portType n == 4) = true := by rcases ht with h | h <;> rw [h] <;> rfl
  have hdigital : s.takeAnalog n v = s := by rcases ht with h | h <;> rw [State.takeAnalog, h] <;> rfl
  have hsame : (ts == s.fb[n].wordAt) = false := beq_eq_false_iff_ne.mpr hnew.symm
  simp only [exec_speedWindowEnd, execSpeedWindowEnd, hon, hserial, hdigital, hw, hsame, Bool.false_eq_true, if_false, Bool.and_false,
    Bool.false_and]
  rfl

theorem State.takeAnalog_fld (s : State) (n : Fin 4) (v : Analog) {f : Field} (hs : f.addr ≠ Reg.FBI_STATUS n)
    (hf : f.addr ≠ Reg.FBI_FAULT n) : (s.takeAnalog n v).fld f = s.fld f := by
  rw [State.fld, State.fld, s.takeAnalog_reg n v hs hf]

/-- A conversion leaves the settings of its port. -/
theorem State.takeAnalog_settings (s : State) (n : Fin 4) (v : Analog) :
    (s.takeAnalog n v).fld (Fld.FBI_CFG_STILL n) = s.fld (Fld.FBI_CFG_STILL n) ∧ (s.takeAnalog n v).cpt n = s.cpt n ∧
      (s.takeAnalog n v).speedWindow n = s.speedWindow n := by
  have hcfg (lo width : Nat) : (s.takeAnalog n v).fld ⟨Reg.FBI_CFG n, lo, width⟩ = s.fld ⟨Reg.FBI_CFG n, lo, width⟩ :=
    s.takeAnalog_fld n v (portReg_ne (by decide)) (portReg_ne (by decide))
  have hres : (s.takeAnalog n v).fld (Fld.FBI_RES_RESPP n) = s.fld (Fld.FBI_RES_RESPP n) :=
    s.takeAnalog_fld n v (portReg_ne (by decide)) (portReg_ne (by decide))
  have hcpt : (s.takeAnalog n v).reg (Reg.FBI_CPT n) = s.reg (Reg.FBI_CPT n) :=
    s.takeAnalog_reg n v (portReg_ne (by decide)) (portReg_ne (by decide))
  have htype : (s.takeAnalog n v).portType n = s.portType n := by rw [State.portType, State.portType, Fld.FBI_CFG_TYPE, hcfg]
  refine ⟨hcfg _ _, ?_, ?_⟩
  · rw [State.cpt, State.cpt, htype, hres, hcpt]
  · rw [State.speedWindow, State.speedWindow, Fld.FBI_CFG_WINK, hcfg]

/-- What a window of a counting port comes to, in the terms of its port after the conversion. -/
theorem speedWindowEnd_counting (n : Fin 4) (v : Analog) (f : FbPort) (s : State) (ha : s.awake = true)
    (ht : s.portType n = 1 ∨ s.portType n = 2 ∨ s.portType n = 5 ∨ s.portType n = 6) (hf : f = (s.takeAnalog n v).fb[n]) :
    Completes (.speedWindowEnd n v) s fun t =>
      t.reg (Reg.FBI_DELTA n) = toS32 (f.h - f.hStart) ∧
        t.reg (Reg.FBI_SPEED n) = ratToF32 ((s.takeAnalog n v).windowSpeed n (f.h - f.hStart) (s.speedWindow n)) ∧
        t.flag (Fld.FBI_STATUS_REV n) = f.revd ∧
        t.flag (Fld.FBI_STATUS_STILL n) = (s.takeAnalog n v).windowStill n (f.h - f.hStart) ∧ t.fb[n].hStart = f.h ∧ t.fb[n].revd = false := by
  subst hf
  obtain ⟨hdelta, hspeed, hrev, hstill⟩ := (s.takeAnalog n v).windowShown_shows n
    ((s.takeAnalog n v).fb[n].h - (s.takeAnalog n v).fb[n].hStart) ((s.takeAnalog n v).speedWindow n)
  refine ⟨_, exec_speedWindowEnd_counting ha ht, ?_, ?_, ?_, ?_, ?_, ?_⟩
  · rw [State.modFb_reg, hdelta]
  · rw [State.modFb_reg, hspeed, (s.takeAnalog_settings n v).2.2]
  · rw [State.modFb_flag, hrev]
  · rw [State.modFb_flag, hstill]
  · rw [State.fb_modFb, State.windowShown_fb, FbPort.nextWindow]
  · rw [State.fb_modFb, FbPort.nextWindow]

/-- A window of a serial port with a new word: the words and their stamps (R380). -/
theorem speedWindowEnd_serial (n : Fin 4) (v : Analog) (h : Int) (ts : Time) (s : State) (ha : s.awake = true)
    (ht : s.portType n = 3 ∨ s.portType n = 4) (hw : s.fb[n].winWord = some (h, ts)) (hword : s.fb[n].word ≠ none)
    (hnew : s.fb[n].wordAt ≠ ts) (hmoved : s.fb[n].h ≠ h) (hc : s.cpt n ≠ 0) (hts : ts.toNat < s.fb[n].wordAt.toNat) :
    Completes (.speedWindowEnd n v) s fun t =>
      t.reg (Reg.FBI_DELTA n) = toS32 (s.fb[n].h - h) ∧ t.fb[n].winWord = some (s.fb[n].h, s.fb[n].wordAt) ∧
        t.reg (Reg.FBI_SPEED n) = ratToF32 (60 * ((s.fb[n].h - h : Int) : Rat) * 1_000_000_000 /
          ((s.cpt n : Rat) * ((s.fb[n].wordAt.toNat - ts.toNat : Nat) : Rat))) := by
  obtain ⟨hdelta, hspeed, -, -⟩ := s.windowShown_shows n (s.fb[n].h - h) ((s.fb[n].wordAt.toNat - ts.toNat : Nat) : Rat)
  have hspan : ((s.fb[n].wordAt.toNat - ts.toNat : Nat) : Rat) ≠ 0 := Nat.cast_ne_zero.mpr (Nat.sub_ne_zero_of_lt hts)
  rw [s.windowSpeed_moved n (sub_ne_zero.mpr hmoved) hc hspan] at hspeed
  refine ⟨_, exec_speedWindowEnd_serial ha ht hw hnew, ?_, ?_, ?_⟩
  · rw [State.modFb_reg, hdelta]
  · rw [State.fb_modFb, State.windowShown_fb]
    simp only [FbPort.nextWindow, Option.isSome_iff_ne_none.mpr hword, Bool.and_self, if_true]
  · rw [State.modFb_reg, hspeed]

/-! ## Serial words (R371 to R374) -/

/-- Whether MONO has not passed since the last clock edge of a serial port (R371). -/
def State.serialBusy (s : State) (n : Fin 4) : Bool :=
  s.fb[n].clkAt.any fun e => decide (s.weft.toNat < e.toNat + max 1 (s.fld (Fld.FBI_SER_MONO n)) * 1000)

/-- A read request counts a period, and is sent unless MONO still runs (R371). -/
theorem exec_serialReadRequest_serial {n : Fin 4} {s : State} (ha : s.awake = true) (ht : s.portType n = 3 ∨ s.portType n = 4) :
    exec (.serialReadRequest n) s =
      (let t := s.modFb n fun p => { p with periods := p.periods + 1 }
       if s.serialBusy n = true then .next t
       else .next (t.modFb n fun p =>
        { p with
          reqAt := some s.weft
          clkAt := some (BitVec.ofNat 64 (s.weft.toNat + (s.dataBits n + 8) * (100 * (min 0x63 (s.fld (Fld.FBI_SER_CLKDIV n)) + 1)))) })) := by
  have htype : (!(s.awake && (s.portType n == 3 || s.portType n == 4))) = false := by
    rcases ht with ht | ht <;> rw [ha, ht] <;> rfl
  rw [exec_serialReadRequest, execSerialReadRequest]
  refine (if_neg (ne_true_of_eq_false htype)).trans (if_congr ?_ rfl rfl)
  rw [State.serialBusy]
  cases s.fb[n].clkAt <;> exact Iff.rfl

/-- A word is accepted (R372 to R374). -/
def State.wordKept (u : State) (n : Fin 4) (v : SerialIn) (ts : Time) (w : Nat) (r : Int) (biss : Bool) : State :=
  let u := u.setRaw n r
  let first := !u.flag (Fld.FBI_STATUS_TURN_OK n)
  let u := u.modFb n fun p =>
    { p with word := some w, wordAt := ts, periods := 0, anew := false, turnAdj := if first then (w : Int) - p.h else p.turnAdj }
  let u := (u.setFlag (Fld.FBI_STATUS_STALE n) false).setFld (Fld.FBI_CNT_STALE_N n) 0
  let u := if biss then u.setFlag (Fld.FBI_STATUS_WARN n) (!v.nW) else u
  u.setFlag (Fld.FBI_STATUS_TURN_OK n) true

/-- A word is discarded whole (R374). -/
def State.wordDropped (u : State) (n : Fin 4) : State :=
  ((u.setFlag (Fld.FBI_STATUS_STALE n) true).incSat (Fld.FBI_CNT_BADWORD n)).incSat (Fld.FBI_CNT_STALE_N n)

theorem State.wordKept_shows (u : State) (n : Fin 4) (v : SerialIn) (ts : Time) (w : Nat) (r : Int) (biss : Bool) :
    (u.wordKept n v ts w r biss).fb[n].reqAt = u.fb[n].reqAt ∧ (u.wordKept n v ts w r biss).fb[n].wordAt = ts ∧
      (u.wordKept n v ts w r biss).fb[n].periods = 0 ∧ (u.wordKept n v ts w r biss).fb[n].word = some w ∧
      (u.wordKept n v ts w r biss).flag (Fld.FBI_STATUS_STALE n) = false ∧
      (u.wordKept n v ts w r biss).fld (Fld.FBI_CNT_STALE_N n) = 0 ∧ (u.wordKept n v ts w r biss).flag (Fld.FBI_STATUS_TURN_OK n) = true := by
  cases biss <;>
    simp (disch := decide +revert) only [State.wordKept, State.setRaw, if_true, if_false, Bool.false_eq_true, State.setFlag_fb,
      State.setFld_fb, State.fb_modFb, State.flag_setFlag, State.flag_setFlag_other, State.flag_setFld_other, State.fld_setFlag_other, State.fld_setFld, and_self]

theorem State.wordDropped_shows (u : State) (n : Fin 4) :
    (u.wordDropped n).fb = u.fb ∧ (u.wordDropped n).flag (Fld.FBI_STATUS_STALE n) = true := by
  simp (disch := decide +revert) only [State.wordDropped, State.incSat, State.setFlag_fb, State.setFld_fb, State.flag_setFld_other,
    State.flag_setFlag, and_self]

/-- A word that answers a request: accepted where the line, the jump, the check and the encoder's own marks are right (R372 to R374). -/
theorem exec_serialWord_asked {n : Fin 4} {v : SerialIn} {ts : Time} {s : State} (ha : s.awake = true)
    (ht : s.portType n = 3 ∨ s.portType n = 4) (hr : s.fb[n].reqAt = some ts) :
    ∃ (u : State) (far : Bool) (w : Nat) (r : Int), u.fb[n] = { s.fb[n] with reqAt := none } ∧
      (s.fb[n].word = none ∨ s.fb[n].anew = true ∨ s.fld (Fld.FBI_JUMP_MAX n) = 0 → far = false) ∧
      exec (.serialWord n v) s =
        if (!(v.lineOk && !far && s.checkOk n v && (s.portType n == 3 || v.startOk && v.nE))) = true then .next (u.wordDropped n)
        else .next (u.wordKept n v ts w r (s.portType n == 4)) := by
  have htype : (!(s.awake && (s.portType n == 3 || s.portType n == 4))) = false := by
    rcases ht with ht | ht <;> rw [ha, ht] <;> rfl
  simp only [exec_serialWord, execSerialWord, hr, htype, Bool.false_eq_true, if_false]
  refine ⟨_, _, _, _, ?_, ?_, rfl⟩
  · have hquiet (t : State) (c : Bool) (f : Field) (b : Bool) : (if c = true then t.setFlag f b else t).fb[n] = t.fb[n] := by
      cases c <;> rfl
    rw [hquiet, State.fb_modFb, (shortest_keeps s _ _).2]
  · rintro (h | h | h)
    · rw [h]; rfl
    · rw [h, Bool.not_true, Bool.and_false, Bool.false_and, Bool.false_and]
    · rw [h, bne_self_eq_false, Bool.and_false, Bool.false_and]

/-- A good word is taken with its stamp (R372 to R374). -/
theorem serialWord_accepted (n : Fin 4) (v : SerialIn) (ts : BitVec 64) (s : State) (ha : s.awake = true)
    (ht : s.portType n = 3 ∨ s.portType n = 4 ∧ v.startOk = true ∧ v.nE = true) (hr : s.fb[n].reqAt = some ts) (hl : v.lineOk = true)
    (hc : s.checkOk n v = true) (hj : s.fb[n].word = none ∨ s.fb[n].anew = true ∨ s.fld (Fld.FBI_JUMP_MAX n) = 0) :
    Completes (.serialWord n v) s fun t =>
      t.fb[n].reqAt = none ∧ t.fb[n].wordAt = ts ∧ t.fb[n].periods = 0 ∧ t.fb[n].word ≠ none ∧ t.flag (Fld.FBI_STATUS_STALE n) = false ∧
        t.fld (Fld.FBI_CNT_STALE_N n) = 0 ∧ t.flag (Fld.FBI_STATUS_TURN_OK n) = true := by
  obtain ⟨u, far, w, r, hu, hfar, he⟩ := exec_serialWord_asked (v := v) ha (ht.imp_right And.left) hr
  have hmarks : (s.portType n == 3 || v.startOk && v.nE) = true := by
    rcases ht with h | ⟨-, hstart, hnE⟩
    · rw [h]; rfl
    · rw [hstart, hnE, Bool.and_self, Bool.or_true]
  rw [hl, hfar hj, hc, hmarks, if_neg (by decide)] at he
  obtain ⟨hreq, hat, hperiods, hword, hshows⟩ := u.wordKept_shows n v ts w r (s.portType n == 4)
  refine ⟨_, he, hreq.trans ?_, hat, hperiods, ?_, hshows⟩
  · rw [hu]
  · rw [hword]; exact Option.some_ne_none w

/-- A bad word is discarded whole (R374). -/
theorem serialWord_discarded (n : Fin 4) (v : SerialIn) (ts : BitVec 64) (s : State) (ha : s.awake = true)
    (ht : s.portType n = 3 ∨ s.portType n = 4) (hr : s.fb[n].reqAt = some ts) (hbad : v.lineOk = false ∨ s.checkOk n v = false) :
    Completes (.serialWord n v) s fun t =>
      t.fb[n].word = s.fb[n].word ∧ t.fb[n].r = s.fb[n].r ∧ t.fb[n].h = s.fb[n].h ∧ t.fb[n].reqAt = none ∧
        t.flag (Fld.FBI_STATUS_STALE n) = true := by
  obtain ⟨u, far, w, r, hu, -, he⟩ := exec_serialWord_asked (v := v) ha ht hr
  have hrefused : (v.lineOk && !far && s.checkOk n v && (s.portType n == 3 || v.startOk && v.nE)) = false := by
    rcases hbad with h | h <;> simp only [h, Bool.false_and, Bool.and_false]
  rw [hrefused, if_pos Bool.not_false] at he
  obtain ⟨hfb, hstale⟩ := u.wordDropped_shows n
  have hport : (u.wordDropped n).fb[n] = { s.fb[n] with reqAt := none } := by rw [hfb]; exact hu
  refine ⟨_, he, ?_, ?_, ?_, ?_, hstale⟩ <;> rw [hport]

/-! ## The encoder supplies (R43) -/

theorem State.setIrq_fb (s : State) (k : Nat) (b : Bool) : (s.setIrq k b).fb = s.fb :=
  foldl_keeps (P := fun t : State => t.fb = s.fb) (fun _ _ ht => ht) rfl

/-- A journal entry shows in SVC_JSTAT and in the pending interrupts alone (R494, R607). -/
theorem State.journal_keeps (s : State) (code unit : Nat) (d0 d1 : Word) :
    (s.journal code unit d0 d1).fb = s.fb ∧ ∀ g : Field, g.addr ≠ Reg.SVC_JSTAT → (∀ n : Fin 4, g.addr ≠ Reg.LCK_IRQPEND n) →
      (s.journal code unit d0 d1).fld g = s.fld g := by
  unfold State.journal State.journalFull
  split
  · exact ⟨rfl, fun _ _ _ => rfl⟩
  · split
    · exact ⟨rfl, fun g hs _ => State.fld_setFld_reg _ _ hs⟩
    · exact ⟨State.setIrq_fb _ _ _, fun g hs hp => (State.fld_setIrq_other _ _ _ hp).trans (State.fld_setFld_reg _ _ hs)⟩

/-- The supply of one port is off (R43). -/
def State.supplyOff (s : State) (n : Fin 4) : State := (s.modFb n fun p => { p with supply := false }).fbFault n (Fld.FBI_FAULT_SUPPLY n)

/-- The port shows that its supply is off. -/
structure SupplyLost (n : Fin 4) (t : State) : Prop where
  supply : t.fb[n].supply = false
  latch  : t.flag (Fld.FBI_FAULT_SUPPLY n) = true
  fault  : t.flag (Fld.FBI_STATUS_FAULT n) = true

theorem State.supplyOff_lost (s : State) (n : Fin 4) : SupplyLost n (s.supplyOff n) where
  supply := by rw [State.supplyOff, State.fbFault, State.setFlag_fb, State.setFlag_fb, State.fb_modFb]
  latch := by simp (disch := decide +revert) only [State.supplyOff, State.fbFault, State.flag_setFlag_other, State.flag_setFlag]
  fault := State.flag_setFlag _ _ (Nat.le_of_ble_eq_true rfl) Nat.one_pos

/-- Another port keeps what it shows. -/
theorem SupplyLost.supplyOff_other {m n : Fin 4} {s : State} (h : SupplyLost m s) (hmn : m ≠ n) : SupplyLost m (s.supplyOff n) := by
  have hne {b c : Nat} (hbc : ∀ m n : Fin 4, m ≠ n → b + m * 0x100 ≠ c + n * 0x100) : b + m * 0x100 ≠ c + n * 0x100 := hbc m n hmn
  refine ⟨?_, ?_, ?_⟩
  · rw [State.supplyOff, State.fbFault, State.setFlag_fb, State.setFlag_fb, State.fb_modFb_other _ _ hmn]
    exact h.supply
  · rw [State.supplyOff, State.fbFault, State.flag_setFlag_other _ _ (.inl (hne (by decide))),
      State.flag_setFlag_other _ _ (.inl (hne (by decide))), State.modFb_flag]
    exact h.latch
  · rw [State.supplyOff, State.fbFault, State.flag_setFlag_other _ _ (.inl (hne (by decide))),
      State.flag_setFlag_other _ _ (.inl (hne (by decide))), State.modFb_flag]
    exact h.fault

theorem SupplyLost.journal {n : Fin 4} {s : State} (h : SupplyLost n s) {code unit : Nat} {d0 d1 : Word} :
    SupplyLost n (s.journal code unit d0 d1) := by
  obtain ⟨hfb, hfld⟩ := s.journal_keeps code unit d0 d1
  have haway : ∀ m : Fin 4, (Reg.FBI_FAULT m ≠ Reg.SVC_JSTAT ∧ ∀ p : Fin 4, Reg.FBI_FAULT m ≠ Reg.LCK_IRQPEND p) ∧
      (Reg.FBI_STATUS m ≠ Reg.SVC_JSTAT ∧ ∀ p : Fin 4, Reg.FBI_STATUS m ≠ Reg.LCK_IRQPEND p) := by decide
  obtain ⟨⟨hfs, hfp⟩, hss, hsp⟩ := haway n
  have hlatch := hfld (Fld.FBI_FAULT_SUPPLY n) hfs hfp
  have hfault := hfld (Fld.FBI_STATUS_FAULT n) hss hsp
  exact ⟨by rw [hfb]; exact h.supply, by rw [State.flag, hlatch]; exact h.latch, by rw [State.flag, hfault]; exact h.fault⟩

/-- The loss of an encoder supply shows on both of its ports (R43). -/
theorem fbSupply_completes (k : Fin 2) (s : State) (ha : s.awake = true) :
    Completes (.fbSupply k) s fun t => ∀ n ∈ supplyPorts k,
      t.fb[n].supply = false ∧ t.flag (Fld.FBI_FAULT_SUPPLY n) = true ∧ t.flag (Fld.FBI_STATUS_FAULT n) = true := by
  have hports : (Fin.ofNat 4 (2 * k.val) : Fin 4) ≠ Fin.ofNat 4 (2 * k.val + 1) := by decide +revert
  have hlost : ∀ n ∈ supplyPorts k, SupplyLost n ((s.supplyOff (Fin.ofNat 4 (2 * k.val))).supplyOff (Fin.ofNat 4 (2 * k.val + 1))) := by
    intro n hn
    rcases List.mem_pair.mp hn with rfl | rfl
    · exact (s.supplyOff_lost _).supplyOff_other hports
    · exact State.supplyOff_lost _ _
  refine ⟨_, if_neg (by rw [ha]; decide), fun n hn => ?_⟩
  obtain ⟨hsupply, hlatch, hfault⟩ := (hlost n hn).journal
  exact ⟨hsupply, hlatch, hfault⟩

/-! ## Every command of the feedback ports -/

/-- Settles O21, clause by clause. -/
theorem feedbackPorts : Obligations.FeedbackPorts := by
  unfold Obligations.FeedbackPorts
  refine ⟨?_, ?_, ?_, ?_, ?_, ?_, ?_, ?_, ?_, ?_, speedWindowEnd_serial, ?_, ?_, ?_, serialWord_discarded, ?_, ?_, ?_, fbSupply_completes⟩
  · rintro n a b k s u ha ht rfl hq
    rw [exec_encoderEdge_abz ha ht, hq]
    rfl
  · rintro n a b s u ha ht rfl hq
    rw [exec_encoderEdge_abz ha ht, hq]
    rfl
  · rintro n a b s u ha ht rfl hq
    rw [exec_encoderEdge_sincos ha ht, hq]
    rfl
  · rintro n a b s u ha ht rfl hq
    rw [exec_encoderEdge_sincos ha ht, hq]
    rfl
  · rintro n a b s u ha ht rfl hq
    rw [exec_encoderEdge_sincos ha ht, hq]
    rfl
  · intro n up s ha ht
    simp only [exec_stepInputEdge, execStepInputEdge, ha, ht, beq_self_eq_true, Bool.and_self, if_true]
  · intro n v s ha
    simp only [exec_portSample, execPortSample, ha, Bool.not_true, Bool.false_eq_true, if_false]
  · rintro n at_ s ha ht rfl
    exact indexMark_completes n s ha ht
  · intro n v f s ha ht hf
    obtain ⟨t, he, hdelta, -, hrev, hstill, hstart, hrevd⟩ := speedWindowEnd_counting n v f s ha ht hf
    refine ⟨t, he, hdelta, hstart, hrevd, hrev, fun h => ?_, fun h => ?_⟩
    · rw [hstill, State.windowStill, if_pos (sub_eq_zero.mpr h), (s.takeAnalog_settings n v).1, ← hf]
    · rw [hstill, State.windowStill_moved _ _ (sub_ne_zero.mpr h)]
  · intro n v f s ha ht hf hmoved hc hw
    obtain ⟨t, he, -, hspeed, -⟩ := speedWindowEnd_counting n v f s ha ht hf
    obtain ⟨-, hcpt, -⟩ := s.takeAnalog_settings n v
    rw [State.windowSpeed_moved _ _ (sub_ne_zero.mpr hmoved) (by rw [hcpt]; exact hc) (Nat.cast_ne_zero.mpr hw), hcpt] at hspeed
    exact ⟨t, he, hspeed⟩
  · intro n s ha ht hfree
    refine ⟨_, (exec_serialReadRequest_serial ha ht).trans (if_neg (ne_true_of_eq_false hfree)), ?_⟩
    simp only [State.fb_modFb, and_self]
  · intro n s ha ht hbusy
    exact (exec_serialReadRequest_serial ha ht).trans (if_pos hbusy)
  · exact serialWord_accepted
  · intro n s hon hn
    simp only [exec_amp, execAmp, State.ampLatch, when, hon, hn, decide_true, Bool.and_self, if_true]
  · intro n s ha ht
    have htype : (s.awake && (s.portType n == 1 || s.portType n == 3 || s.portType n == 4 || s.portType n == 6)) = true := by
      rcases ht with h | h | h | h <;> rw [ha, h] <;> rfl
    simp only [exec_wire, execWire, htype, if_true]
  · intro n s ha ht
    simp only [exec_exc, execExc, ha, ht, beq_self_eq_true, Bool.and_self, if_true]

end Sys2Proof.Machine
end

section
namespace Sys2Proof.Machine

/-! ## Refreshes of the flash (R74, R83, R607) -/

/-- The date and the request of each unit have a place of their own, so a lone request finds the unit that made it. -/
theorem flashUnits_find_lone (u : FlashUnit) :
    flashUnits.find? (fun v => (1#6 <<< (refreshIx u).val).getLsbD (refreshIx v).val) = some u := by
  cases u with
  | image b => cases b <;> rfl
  | profile p => decide +revert

/-- With CP_1 alive, outside Dawn and Dusk and with the flash free, the first unit that waits is started (R74, R83). -/
theorem State.nextRefresh_starts {s : State} {u : FlashUnit} (ha : s.awake = true) (hdawn : s.mode ≠ .dawn) (hdusk : s.mode ≠ .dusk)
    (hcp : s.flag (Fld.LCK_STATUS_FAILED 1) = false) (hbusy : s.sys.flashBusy = none)
    (hu : flashUnits.find? (fun v => s.sys.refreshWant.getLsbD (refreshIx v).val) = some u) :
    s.nextRefresh = { s with sys := { s.sys with
      flashBusy := some (.refresh u), refreshWant := s.sys.refreshWant &&& ~~~(1#6 <<< (refreshIx u).val) } } := by
  have hfree : (!s.awake || s.mode == .dawn || s.mode == .dusk || s.flag (Fld.LCK_STATUS_FAILED 1) || s.sys.flashBusy.isSome) = false := by
    rw [ha, hcp, hbusy, beq_false_of_ne hdawn, beq_false_of_ne hdusk]
    rfl
  rw [State.nextRefresh, if_neg (ne_true_of_eq_false hfree), hu]

/-- A unit that asks alone is started, and none waits after it. -/
theorem State.nextRefresh_lone {s : State} {u : FlashUnit} (ha : s.awake = true) (hdawn : s.mode ≠ .dawn) (hdusk : s.mode ≠ .dusk)
    (hcp : s.flag (Fld.LCK_STATUS_FAILED 1) = false) (hbusy : s.sys.flashBusy = none)
    (hwant : s.sys.refreshWant = 1#6 <<< (refreshIx u).val) :
    s.nextRefresh = { s with sys := { s.sys with flashBusy := some (.refresh u), refreshWant := 0 } } := by
  rw [State.nextRefresh_starts ha hdawn hdusk hcp hbusy (hwant ▸ flashUnits_find_lone u), hwant, BitVec.and_not_self]

/-- FLASH_REFRESH adds its unit to those that wait, whatever else runs or waits (R74, R501). -/
theorem exec_flashRefresh_waits {u : FlashUnit} {s : State} (ha : s.awake = true) (hcp : s.flag (Fld.LCK_STATUS_FAILED 1) = false) :
    exec (.flashRefresh u) s =
      .next ({ s with sys := { s.sys with refreshWant := s.sys.refreshWant ||| (1#6 <<< (refreshIx u).val) } } : State).nextRefresh := by
  rw [exec_flashRefresh, execFlashRefresh, ha, hcp]
  rfl

/-- Settles O8, clause by clause. -/
theorem flashAndJournal : Obligations.FlashAndJournal := by
  unfold Obligations.FlashAndJournal
  refine ⟨fun _ _ => exec_flashRefresh_waits, ?_, ?_, exec_journalRewrite, ?_⟩
  · intro u s ha hdawn hdusk hcp hbusy hwant
    have hlone : s.sys.refreshWant ||| (1#6 <<< (refreshIx u).val) = 1#6 <<< (refreshIx u).val := by
      rw [hwant]
      exact BitVec.zero_or
    rw [exec_flashRefresh_waits ha hcp]
    exact congrArg Host.Outcome.next (State.nextRefresh_lone ha hdawn hdusk hcp hbusy hlone)
  · intro s ha hdue hrtc hcp
    rw [exec_refreshDeferTimeout, execRefreshDeferTimeout, ha, hdue, hrtc, hcp]
    rfl
  · intro s hon
    exact if_neg (ne_true_of_eq_false (beq_false_of_ne hon))

end Sys2Proof.Machine
end

section
namespace Sys2Proof.Machine

/-! ## Images (R90, R103) -/

/-- What shows that image b has been loaded. -/
structure ImageLoaded (b : Bool) (svn : BitVec 16) (t : State) : Prop where
  imageTry : t.sys.imageTry = none
  imageOk  : t.sys.imageOk = true
  booted   : t.flag Fld.SYS_BOOT_BOOTED = b
  version  : t.images[imageIx b].svn = svn

/-- Image b has passed: it is noted as the one loaded, with its security version. -/
def State.loadImage (s : State) (b : Bool) (svn : BitVec 16) : State :=
  let t := (s.setFlag Fld.SYS_BOOT_BOOTED b).setFld ⟨Reg.SYS_SVN, 16, 16⟩ svn.toNat
  { t with
    sys := { t.sys with imageTry := none, imageOk := true }
    images := t.images.set (imageIx b) { t.images[imageIx b] with svn := svn } }

/-- The preferred image has not been the one: the fall-back shows, and is journalled. -/
def State.markFallback (s : State) : State :=
  (s.setFlag Fld.SYS_BOOT_FALLBACK true).journal 0x0103 0 ((s.setFlag Fld.SYS_BOOT_FALLBACK true).reg Reg.SYS_BOOT)

/-- What an image that is checked comes to in a running Dawn: loaded, or failed, and then the other is checked or Dawn stops. -/
theorem exec_imageCheckDone_dawning {b sig header fits : Bool} {svn : BitVec 16} {s : State} (ht : s.sys.imageTry = some b)
    (hd : s.dawning = true) : exec (.imageCheckDone sig header fits svn) s =
      if s.imageOk b sig header fits svn then
        if b = s.flag Fld.SYS_BOOT_PREFER then .next (s.loadImage b svn) else .next (s.loadImage b svn).markFallback
      else if b = s.flag Fld.SYS_BOOT_PREFER then .next { s.setFlag (imageFail b) true with sys := { s.sys with imageTry := some (!b) } }
      else .next (({ s.setFlag (imageFail b) true with sys := { s.sys with imageTry := none } } : State).dawnFail 0x20 0) := by
  simp only [exec_imageCheckDone, execImageCheckDone, ht, hd, Bool.not_true, Bool.false_eq_true, if_false]
  rfl

theorem State.loadImage_loaded (s : State) (b : Bool) (svn : BitVec 16) : ImageLoaded b svn (s.loadImage b svn) where
  imageTry := rfl
  imageOk := rfl
  booted := calc (s.loadImage b svn).flag Fld.SYS_BOOT_BOOTED
    _ = ((s.setFlag Fld.SYS_BOOT_BOOTED b).setFld ⟨Reg.SYS_SVN, 16, 16⟩ svn.toNat).flag Fld.SYS_BOOT_BOOTED := rfl
    _ = (s.setFlag Fld.SYS_BOOT_BOOTED b).flag Fld.SYS_BOOT_BOOTED := State.flag_setFld_other _ _ (.inl (by decide))
    _ = b := s.flag_setFlag b (by decide) (by decide)
  version := by simp only [State.loadImage, Fin.getElem_fin, Vector.getElem_set_self]

theorem State.journal_images (s : State) (code unit : Nat) (d0 d1 : Word) : (s.journal code unit d0 d1).images = s.images := by
  unfold State.journal State.journalFull
  split
  · rfl
  split
  · rfl
  · exact foldl_keeps (P := fun t : State => t.images = s.images) (fun _ _ h => h) rfl

theorem ImageLoaded.markFallback {b : Bool} {svn : BitVec 16} {s : State} (h : ImageLoaded b svn s) :
    ImageLoaded b svn s.markFallback := by
  have hsys : s.markFallback.sys = s.sys := (Calm.refl _).journal.sys
  obtain ⟨-, hfld⟩ := State.journal_keeps (s.setFlag Fld.SYS_BOOT_FALLBACK true) 0x0103 0
    ((s.setFlag Fld.SYS_BOOT_FALLBACK true).reg Reg.SYS_BOOT) 0
  refine ⟨by rw [hsys, h.imageTry], by rw [hsys, h.imageOk], ?_, ?_⟩
  · calc s.markFallback.flag Fld.SYS_BOOT_BOOTED
        = (s.setFlag Fld.SYS_BOOT_FALLBACK true).flag Fld.SYS_BOOT_BOOTED :=
          by rw [State.flag, State.flag, State.markFallback, hfld _ (by decide) (by decide)]
      _ = s.flag Fld.SYS_BOOT_BOOTED := s.flag_setFlag_other true (.inr (by decide))
      _ = b := h.booted
  · rw [State.markFallback, State.journal_images]
    exact h.version

/-- An image that passes is loaded, whether it is the preferred one or not (R90). -/
theorem imageCheckDone_loads {b sig header fits : Bool} {svn : BitVec 16} {s : State} (ht : s.sys.imageTry = some b)
    (hd : s.dawning = true) (hok : s.imageOk b sig header fits svn = true) :
    Completes (.imageCheckDone sig header fits svn) s (ImageLoaded b svn) := by
  have hx := (exec_imageCheckDone_dawning ht hd).trans (if_pos hok)
  by_cases hp : b = s.flag Fld.SYS_BOOT_PREFER
  · exact ⟨_, hx.trans (if_pos hp), s.loadImage_loaded b svn⟩
  · exact ⟨_, hx.trans (if_neg hp), (s.loadImage_loaded b svn).markFallback⟩

/-! ## The STO path test of Dawn (R93 to R96) -/

/-- A Dawn that stops shows the unit that it stopped for (R96). -/
theorem State.dawnFail_unit (s : State) {cause unit : Nat} (hu : unit < 2 ^ 8) :
    (s.dawnFail cause unit).fld Fld.SYS_DAWN_UNIT = unit := by
  unfold State.dawnFail
  extract_lets t u v
  have hk : SysKept u (v.say v.failLine).settle :=
    (((SysKept.refl u).whenever fun _ hw => hw.journal).same (t := v.say v.failLine) rfl rfl).settle
  calc (v.say v.failLine).settle.fld Fld.SYS_DAWN_UNIT
      = u.fld Fld.SYS_DAWN_UNIT := hk.dawn
    _ = ((t.setFld Fld.SYS_DAWN_CAUSE cause).setFld Fld.SYS_DAWN_UNIT unit).fld Fld.SYS_DAWN_UNIT :=
        State.fld_setFld_other _ _ (.inr (by decide))
    _ = unit := State.fld_setFld _ (by decide) hu

/-- Step 0x0A, with no set left out and the input stages waiting where an input is low (R93, R645). -/
def State.beginStoTest (s : State) (high : Bool) : State :=
  { s.reach 0x0A with sys := { s.sys with stoSetDeferred := 0, stoInputsDeferred := !high } }

/-- The end of Dawn after an STO path test that has passed (R94). -/
def State.endDawn (s : State) : State :=
  let u := (s.stoTestPassed.reach 0x0B).setMode .ready
  ({ u with sys := { u.sys with pinsHighZ := false } } : State).portEnable.chooseParent.refreshCheck.settle

/-- Which unit the test finds bad with no set left out: a gate, or an input stage that is tested. -/
def stoBad (gate : Option (Fin 28)) (input : Option StoInput) (high : Bool) : Option Nat :=
  match gate with
  | some n => some n.val
  | none => if high then input.map stoUnit else none

theorem State.stoBothHigh_reach (s : State) (k : Nat) : (s.reach k).stoBothHigh = s.stoBothHigh := by
  rw [State.stoBothHigh, State.stoBothHigh, State.reach, State.flag_setFld_other _ _ (.inl (by decide)),
    State.flag_setFld_other _ _ (.inl (by decide))]

theorem State.inAsc_reach (s : State) (k : Nat) (x : Fin 4) : (s.reach k).inAsc x = s.inAsc x := by
  have hx : Reg.PSP_STATE x ≠ Reg.SYS_DAWN := by revert x; decide
  rw [State.inAsc, State.inAsc, State.setState, State.setState, State.reach, State.fld_setFld_reg _ _ hx]

/-- With no set in ASC the test leaves none out (R645). -/
theorem exec_stoPathTest_dawning {g : Option (Fin 28)} {i : Option StoInput} {s : State} (hd : s.dawning = true) (hs : s.dawnStep = 9)
    (ha : ∀ x, s.inAsc x = false) : exec (.stoPathTest g i) s =
      match stoBad g i s.stoBothHigh with
      | some u => .next ((s.beginStoTest s.stoBothHigh).dawnFail 0x30 u)
      | none => .next (s.beginStoTest s.stoBothHigh).endDawn := by
  simp only [exec_stoPathTest, execStoPathTest, hd, hs, State.stoBothHigh_reach, State.inAsc_reach, ha, four, List.foldl_cons,
    List.foldl_nil, BitVec.ofNat_eq_ofNat, BitVec.getLsbD_zero, Bool.not_false, Bool.not_true, Bool.false_or, ne_eq, not_true_eq_false, decide_false, Bool.false_eq_true, if_false]
  cases g <;> rfl

/-- Settles O5, clause by clause. -/
theorem dawnImages : Obligations.DawnImages := by
  unfold Obligations.DawnImages
  refine ⟨?_, ?_, ?_, ?_, ?_, ?_, ?_, ?_, ?_, ?_, ?_⟩
  · intro b sig header fits svn s ht hd hok
    obtain ⟨t, hx, hl⟩ := imageCheckDone_loads ht hd hok
    exact ⟨t, hx, hl.imageTry, hl.imageOk, hl.booted, hl.version⟩
  · intro b sig header fits svn s ht hd hp hbad
    exact (exec_imageCheckDone_dawning ht hd).trans ((if_neg (ne_true_of_eq_false hbad)).trans (if_pos hp.symm))
  · intro b sig header fits svn s ht hd hp hbad
    have hother : b ≠ s.flag Fld.SYS_BOOT_PREFER := by simp [hp]
    exact (exec_imageCheckDone_dawning ht hd).trans ((if_neg (ne_true_of_eq_false hbad)).trans (if_neg hother))
  · intro n s hd hok
    exact if_pos (by rw [hd, hok]; rfl)
  · intro s hd hn
    simp only [exec_imageStartDeadline, execImageStartDeadline, hd, hn]
    rfl
  · intro s hd hn
    simp only [exec_imageStartDeadline, execImageStartDeadline, hd, hn]
    rfl
  · intro s hd hs h0 h3
    simp only [Settles, exec_profileLoad, execProfileLoad, hd, hs, h0, h3, Bool.not_true, Bool.or_false, ne_eq, not_true_eq_false,
      decide_false, Bool.false_eq_true, if_false]
    exact ⟨_, rfl, rfl⟩
  · intro s hd hs hhigh ha
    rw [exec_stoPathTest_dawning hd hs ha, hhigh]
    rfl
  · intro n i s hd hs ha
    obtain ⟨hfailed, hcause⟩ := (s.beginStoTest s.stoBothHigh).dawnFail_shows (cause := 0x30) (unit := n.val) (by decide)
    exact ⟨_, exec_stoPathTest_dawning hd hs ha, hfailed, hcause, State.dawnFail_unit _ (n.isLt.trans (by decide))⟩
  · intro s ha hm hdef hhigh
    simp only [exec_deferredStoTest, execDeferredStoTest, ha, beq_false_of_ne hm, hdef, hhigh, Bool.not_true, Bool.or_self,
      Bool.false_eq_true, if_false]
  · intro x s ha hm hdef hblock hfree
    simp only [exec_deferredSetStoTest, execDeferredSetStoTest, ha, beq_false_of_ne hm, hdef, hblock, hfree, Bool.not_true,
      Bool.or_self, Bool.false_eq_true, if_false]

end Sys2Proof.Machine
end

section
namespace Sys2Proof.Machine

/-! ## The EN input (R80, R129, R164) -/

/-- EN shows beside the mode in SYS_MODE, so the mode does not depend on it. -/
theorem State.mode_putEn (s : State) (b : Bool) : (s.putEn b).mode = s.mode := by
  rw [State.mode, State.mode, State.putEn, State.setFlag, State.fld_setFld_other _ _ (.inr (by decide)), State.setFlag,
    State.fld_setFld_reg _ _ (by decide)]

theorem State.awake_putEn (s : State) (b : Bool) : (s.putEn b).awake = s.awake := by
  rw [State.awake, State.awake, s.mode_putEn]
  rfl

/-- Settles O7, clause by clause. -/
theorem enInput : Obligations.EnInput := by
  unfold Obligations.EnInput
  refine ⟨?_, ?_, ?_⟩
  · intro s ha
    exact if_pos ((s.awake_putEn false).trans ha)
  · intro lowUs sc oc s ha hm hlow
    have hclear : ¬ ((s.putEn true).mode == .hold || decide (lowUs < 10)) = true := by simp [s.mode_putEn, hm, hlow]
    simp only [exec_enRise, execEnRise, s.awake_putEn, ha, hclear, Bool.not_true, Bool.false_eq_true, if_false]
  · intro lowUs sc oc s ha hnone
    have hkeep : ((s.putEn true).mode == .hold || decide (lowUs < 10)) = true := by
      simpa only [Bool.or_eq_true, beq_iff_eq, decide_eq_true_eq, s.mode_putEn] using hnone
    simp only [exec_enRise, execEnRise, s.awake_putEn, ha, hkeep, Bool.not_true, Bool.false_eq_true, if_false, if_true]

end Sys2Proof.Machine
end

section
namespace Sys2Proof.Machine

/-! ## Mode requests and Dusk (R77, R81, R98, R99, R101) -/

/-- A request of a writer that is let through comes to what it asks for (R10, R101). -/
theorem State.modeReq_writable {s t : State} {w : Writer} {code : Word} {f : State → State}
    (hw : s.writable w Reg.SYS_MODEREQ = true) (hf : f s = t) : s.modeReq w code f = .next t :=
  hf ▸ State.access_writable code f hw

/-- What a host's or a pair's request for Dusk comes to in each mode (R98). -/
theorem State.requestDusk_enters {s : State} (h : s.mode = .ready ∨ s.mode = .run) : s.requestDusk false = s.enterDusk := by
  rcases h with h | h <;> (rw [State.requestDusk, h]; rfl)

theorem State.requestDusk_ignored {s : State} (h : s.mode = .dusk) : s.requestDusk false = s := if_pos (beq_iff_eq.mpr h)

theorem State.requestDusk_denied {s : State} (h1 : s.mode ≠ .ready) (h2 : s.mode ≠ .run) (h3 : s.mode ≠ .dusk) :
    s.requestDusk false = s.reqRes 2 := by
  rw [State.requestDusk, beq_false_of_ne h1, beq_false_of_ne h2, beq_false_of_ne h3]
  rfl

theorem mem_four (x : Fin 4) : x ∈ four := by
  revert x
  decide

/-- The condition of R81 on the DC links: both measurements of every set lie below 60.0 V. -/
theorem State.linksLow_iff (s : State) : (four.any fun x => decide (60 ≤ s.psp[x].vdc) || decide (60 ≤ s.vDcTv x)) = false ↔
    ∀ x : Fin 4, s.psp[x].vdc < 60 ∧ s.vDcTv x < 60 := by
  simp only [List.any_eq_false, mem_four, forall_const, Bool.or_eq_true, decide_eq_true_eq, not_or, not_le]

/-- The condition of R81 on CROSS: it is clear on every set. -/
theorem State.crossClear_iff (s : State) : (four.any fun x => s.cross x) = false ↔ ∀ x : Fin 4, s.cross x = false := by
  simp only [List.any_eq_false, mem_four, forall_const, Bool.not_eq_true]

/-- SERVICE is granted exactly under the four conditions of R81. -/
theorem State.serviceResult_granted (s : State) : s.serviceResult = 1 ↔ s.mode = .ready ∧ s.allStopped = true ∧
    ∀ x : Fin 4, s.psp[x].vdc < 60 ∧ s.vDcTv x < 60 ∧ s.cross x = false := by
  have hsets : (∀ x : Fin 4, s.psp[x].vdc < 60 ∧ s.vDcTv x < 60 ∧ s.cross x = false) ↔
      (∀ x : Fin 4, s.psp[x].vdc < 60 ∧ s.vDcTv x < 60) ∧ ∀ x : Fin 4, s.cross x = false := by
    simp only [← and_assoc, forall_and]
  rw [hsets, ← s.linksLow_iff, ← s.crossClear_iff, State.serviceResult]
  split
  · next hmode => exact iff_of_false (by decide) fun h => bne_iff_ne.mp hmode h.1
  split
  · next hmoves => exact iff_of_false (by decide) fun h => by simp [h.2.1] at hmoves
  split
  · next hlive => exact iff_of_false (by decide) fun h => ne_true_of_eq_false h.2.2.1 hlive
  split
  · next hcross => exact iff_of_false (by decide) fun h => ne_true_of_eq_false h.2.2.2 hcross
  · next hmode hmoves hlive hcross =>
    exact iff_of_true rfl ⟨by simpa using hmode, by simpa using hmoves, Bool.eq_false_of_not_eq_true hlive,
      Bool.eq_false_of_not_eq_true hcross⟩

/-- Settles O6, clause by clause. -/
theorem modeRequests : Obligations.ModeRequests := by
  unfold Obligations.ModeRequests
  refine ⟨?_, ?_, ?_, ?_, ?_, State.serviceResult_granted, ?_, ?_, ?_, ?_, ?_, ?_, ?_⟩
  · intro w s hw hm
    exact State.modeReq_writable (f := (·.requestDusk false)) hw (State.requestDusk_enters hm)
  · intro w s hw hm
    exact State.modeReq_writable (f := (·.requestDusk false)) hw (State.requestDusk_ignored hm)
  · intro w s hw hready hrun hdusk
    exact State.modeReq_writable (f := (·.requestDusk false)) hw (State.requestDusk_denied hready hrun hdusk)
  · intro w s hw hr
    exact State.modeReq_writable hw (if_pos hr)
  · intro w s hw hr
    exact State.modeReq_writable hw (if_neg hr)
  · intro w s hw hm
    exact State.modeReq_writable hw (if_pos (beq_iff_eq.mpr hm))
  · intro s hm ht
    simp only [exec_serviceIdle, execServiceIdle, hm, ht, beq_self_eq_true, Bool.and_self, if_true]
  · intro s ht
    simp only [exec_serviceIdle, execServiceIdle, ht, Bool.and_false, Bool.false_eq_true, if_false]
  · intro s hm ht
    simp only [exec_duskStopMax, execDuskStopMax, hm, ht, beq_self_eq_true, Bool.and_self, if_true]
  · intro s ht
    simp only [exec_duskStopMax, execDuskStopMax, ht, Bool.and_false, Bool.false_eq_true, if_false]
  · intro s hr
    exact if_pos hr
  · intro x s hm hx
    simp only [exec_duskWaitCross, execDuskWaitCross, hx, hm, beq_self_eq_true, if_true]

end Sys2Proof.Machine
end

section
namespace Sys2Proof.Machine

/-! ## The field tests of the system (R461, R488, R510, R543, R576, R591, R602) -/

/-- A command that needs READY or SERVICE runs its rules there, and answers ERR MODE in every other mode (R610). -/
theorem State.inModes_served {s : State} {f : State → State} (h : s.mode = .ready ∨ s.mode = .service) :
    s.inModes [.ready, .service] f = f s :=
  if_pos (by simpa using h)

theorem State.inModes_denied {s : State} {f : State → State} (h : ¬ (s.mode = .ready ∨ s.mode = .service)) :
    s.inModes [.ready, .service] f = s.replyErr "MODE" :=
  if_neg (by simpa using h)

/-- hif nop is refused exactly outside READY, RUN and SERVICE, or on a disabled ring (R543). -/
theorem State.nopBad_iff (s : State) (n : Fin 16) :
    ((s.mode != .ready && s.mode != .run && s.mode != .service) || !s.flag (Fld.HIF_SQ_CFG_ENABLE n)) = true ↔
      ¬ ((s.mode = .ready ∨ s.mode = .run ∨ s.mode = .service) ∧ s.flag (Fld.HIF_SQ_CFG_ENABLE n) = true) := by
  simp only [Bool.or_eq_true, Bool.and_eq_true, bne_iff_ne, Bool.not_eq_true', not_and_or, not_or, Bool.not_eq_true, and_assoc, ne_eq]

/-- Settles O47: each command is served under its own conditions. -/
theorem systemFieldTests : Obligations.SystemFieldTests := by
  unfold Obligations.SystemFieldTests
  refine ⟨?_, ?_, ?_, ?_, ?_, ?_, ?_, ?_, ?_, ?_, ?_, ?_, ?_, ?_, ?_, ?_, ?_, ?_, ?_, ?_, ?_, ?_, ?_, ?_, ?_⟩
  · intro s h
    exact serves_conRun (exec_sfiSto ..) h rfl
  · intro g i s h hs
    refine serves_conRun (exec_sfiTest ..) h ?_
    rw [hs]
  · intro g i st s h hs
    refine serves_conRun (exec_sfiTest ..) h ?_
    rw [hs]
  · intro crc s h hg
    constructor
    · refine serves_conRun (exec_sfiList ..) h ?_
      rw [hg]
    · refine serves_conRun (exec_sfiSeal ..) h ?_
      rw [hg]
  · intro g s h hg
    refine serves_conRun (exec_sfiList ..) h ?_
    rw [hg]
  · intro crc g s h hg hf
    refine serves_conRun (exec_sfiSeal ..) h ?_
    simp only [hg, hf]
  · intro crc w g s h hg hf
    refine serves_conRun (exec_sfiSeal ..) h ?_
    simp only [hg, hf]
  · intro k s h
    exact serves_conRun (exec_sc ..) h rfl
  · intro s h
    exact serves_conRun (exec_lck ..) h rfl
  · intro n b s h hp
    exact serves_conRun (exec_lckCheck ..) h (if_neg (not_bne_of_eq hp))
  · intro n b s h hp
    exact serves_conRun (exec_lckCheck ..) h (if_pos (bne_iff_ne.mpr hp))
  · intro n s h
    exact serves_conRun (exec_lckHist ..) h rfl
  · intro n s h hgo
    exact serves_conRun (exec_hifNop ..) h (if_neg ((not_congr (s.takeLine.nopBad_iff n)).mpr (not_not.mpr hgo)))
  · intro n s h hbad
    exact serves_conRun (exec_hifNop ..) h (if_pos ((s.takeLine.nopBad_iff n).mpr hbad))
  · intro a s h
    exact serves_conRun (exec_wftRoute ..) h rfl
  · intro a n s h hn ha
    exact serves_conRun (exec_wftPing ..) h ((if_neg hn.ne').trans (if_neg (by simpa using ha)))
  · intro a n s h hn ha
    exact serves_conRun (exec_wftPing ..) h ((if_neg hn.ne').trans (if_pos (beq_iff_eq.mpr ha)))
  · intro a s h
    exact serves_conRun (exec_wftPing ..) h (if_pos rfl)
  · intro p s h hm hfailed hoff
    exact serves_conRun (exec_wftReinit ..) h ((State.inModes_served hm).trans ((if_neg hfailed).trans (if_neg hoff)))
  · intro p s h hm hfailed
    exact serves_conRun (exec_wftReinit ..) h ((State.inModes_served hm).trans (if_pos hfailed))
  · intro p s h hbad
    refine serves_conRun (exec_wftReinit ..) h ?_
    by_cases hm : s.takeLine.mode = .ready ∨ s.takeLine.mode = .service
    · have hoff : s.takeLine.lstate p = 0 := hbad.resolve_left (not_not.mpr hm)
      exact (State.inModes_served hm).trans ((if_neg (by rw [hoff]; decide)).trans (if_pos hoff))
    · exact State.inModes_denied hm
  · intro c ok s h hm hoff
    exact serves_conRun (exec_canLoop ..) h ((State.inModes_served hm).trans (if_neg (ne_true_of_eq_false hoff)))
  · intro c ok s h hbad
    refine serves_conRun (exec_canLoop ..) h ?_
    by_cases hm : s.takeLine.mode = .ready ∨ s.takeLine.mode = .service
    · exact (State.inModes_served hm).trans (if_pos (hbad.resolve_left (not_not.mpr hm)))
    · exact State.inModes_denied hm
  · intro c s h
    exact serves_conRun (exec_canRx ..) h rfl
  · intro s h
    exact serves_conRun (exec_thm ..) h rfl

end Sys2Proof.Machine
end

section
namespace Sys2Proof.Machine

/-! ## The interlock (R114, R115) -/

/-- Every command keeps the banks canonical, the interlock and the queue: each arm of `exec` by the lemma of its own meaning. -/
theorem exec_steady {s0 s : State} (c : Instr) (hs : Steady s0 s) : SteadyRes s0 (exec c s) := by
  cases c with
  | lockoutTrip => exact execLockoutTrip_steady hs
  | lockoutFlushEnd => exact execLockoutFlushEnd_steady hs
  | lockoutRelease => exact execLockoutRelease_steady hs
  | resetNAssert => exact execResetNAssert_steady hs
  | resetNRelease => exact execResetNRelease_steady hs
  | wakeN => exact execWakeN_steady hs
  | wakeTimer => exact execWakeTimer_steady hs
  | vinReturn => exact execVinReturn_steady hs
  | deepNightEntry => exact execDeepNightEntry_steady hs
  | vbatCheck => exact execVbatCheck_steady hs
  | nightDomainLoss => exact execNightDomainLoss_steady hs
  | perstNAssert => exact execPerstNAssert_steady hs
  | linkDown => exact execLinkDown_steady hs
  | functionLevelReset => exact execFunctionLevelReset_steady hs
  | enFall => exact execEnFall_steady hs
  | enRise => exact execEnRise_steady hs
  | pllLock => exact execPllLock_steady hs
  | pllLockTimeout => exact execPllLockTimeout_steady hs
  | strapSample => exact execStrapSample_steady hs
  | islandGroupStart => exact execIslandGroupStart_steady hs
  | islandGroupTimeout => exact execIslandGroupTimeout_steady hs
  | bistSlotEnd => exact execBistSlotEnd_steady hs
  | imageCheckDone => exact execImageCheckDone_steady hs
  | bootSectionComplete => exact execBootSectionComplete_steady hs
  | imageStartDeadline => exact execImageStartDeadline_steady hs
  | profileLoad => exact execProfileLoad_steady hs
  | stoPathTest => exact execStoPathTest_steady hs
  | deferredStoTest => exact execDeferredStoTest_steady hs
  | deferredSetStoTest => exact execDeferredSetStoTest_steady hs
  | flashRefresh => exact execFlashRefresh_steady hs
  | refreshDeferTimeout => exact execRefreshDeferTimeout_steady hs
  | journalRewrite => exact execJournalRewrite_steady hs
  | modereqDusk => exact execModereqDusk_steady hs
  | modereqServiceEnter => exact execModereqServiceEnter_steady hs
  | modereqServiceLeave => exact execModereqServiceLeave_steady hs
  | serviceIdle => exact execServiceIdle_steady hs
  | duskStopMax => exact execDuskStopMax_steady hs
  | duskFlushDone => exact execDuskFlushDone_steady hs
  | duskWaitCross => exact execDuskWaitCross_steady hs
  | pwmEdge => exact execPwmEdge_steady hs
  | islandCommand => exact execIslandCommand_steady hs
  | segmentChange => exact execSegmentChange_steady hs
  | clampEngage => exact execClampEngage_steady hs
  | confirmedOff => exact execConfirmedOff_steady hs
  | interlockRelease => exact execInterlockRelease_steady hs
  | offTimeout => exact execOffTimeout_steady hs
  | plateauArm => exact execPlateauArm_steady hs
  | plateauLow => exact execPlateauLow_steady hs
  | islandLinkLoss => exact execIslandLinkLoss_steady hs
  | linkLost => exact execLinkLost_steady hs
  | ssiLinkLost => exact execSsiLinkLost_steady hs
  | gdcTestStart => exact execGdcTestStart_steady hs
  | gdcTestDone => exact execGdcTestDone_steady hs
  | blankingEnd => exact execBlankingEnd_steady hs
  | scTrip => exact execScTrip_steady hs
  | scDwellEnd => exact execScDwellEnd_steady hs
  | ocTrip => exact execOcTrip_steady hs
  | ov3Trip => exact execOv3Trip_steady hs
  | ov3FlagClear => exact execOv3FlagClear_steady hs
  | ov3Hold => exact execOv3Hold_steady hs
  | dcLinkSample => exact execDcLinkSample_steady hs
  | ov2React => exact execOv2React_steady hs
  | uv => exact execUv_steady hs
  | chopCheck => exact execChopCheck_steady hs
  | chopShort => exact execChopShort_steady hs
  | chopMinTime => exact execChopMinTime_steady hs
  | terminalSample => exact execTerminalSample_steady hs
  | crossOpenStart => exact execCrossOpenStart_steady hs
  | updateBoundary => exact execUpdateBoundary_steady hs
  | safetyGap => exact execSafetyGap_steady hs
  | updateRequest => exact execUpdateRequest_steady hs
  | phaseWrite => exact execPhaseWrite_steady hs
  | inlineTrigger => exact execInlineTrigger_steady hs
  | shuntTrigger => exact execShuntTrigger_steady hs
  | inlineDelivery => exact execInlineDelivery_steady hs
  | stuck => exact execStuck_steady hs
  | sdclk => exact execSdclk_steady hs
  | sdInputRecover => exact execSdInputRecover_steady hs
  | sensorSupplyOverload => exact execSensorSupplyOverload_steady hs
  | mfeSupplyRestart => exact execMfeSupplyRestart_steady hs
  | sensorSupplyUp => exact execSensorSupplyUp_steady hs
  | offsetMeasurementEnd => exact execOffsetMeasurementEnd_steady hs
  | ground => exact execGround_steady hs
  | dcDiverge => exact execDcDiverge_steady hs
  | dcDivergeClear => exact execDcDivergeClear_steady hs
  | shuntOffsetTrack => exact execShuntOffsetTrack_steady hs
  | ntcSample => exact execNtcSample_steady hs
  | overrun => exact execOverrun_steady hs
  | loomScrub => exact execLoomScrub_steady hs
  | laneParamReload => exact execLaneParamReload_steady hs
  | kat => exact execKat_steady hs
  | katDone => exact execKatDone_steady hs
  | setClockRestart => exact execSetClockRestart_steady hs
  | injectionPeriodEnd => exact execInjectionPeriodEnd_steady hs
  | injectionStop => exact execInjectionStop_steady hs
  | polarityPulseEnd => exact execPolarityPulseEnd_steady hs
  | lockLost => exact execLockLost_steady hs
  | zeroUpd => exact execZeroUpd_steady hs
  | terminalMeasurementStart => exact execTerminalMeasurementStart_steady hs
  | terminalMeasurementSample => exact execTerminalMeasurementSample_steady hs
  | terminalMeasurementEnd => exact execTerminalMeasurementEnd_steady hs
  | resumeRampEnd => exact execResumeRampEnd_steady hs
  | attemptReset => exact execAttemptReset_steady hs
  | startTmo => exact execStartTmo_steady hs
  | learn => exact execLearn_steady hs
  | learnAbort => exact execLearnAbort_steady hs
  | speedLoopPeriod => exact execSpeedLoopPeriod_steady hs
  | positionLoopTick => exact execPositionLoopTick_steady hs
  | zeroSpeed => exact execZeroSpeed_steady hs
  | holdZeroEnd => exact execHoldZeroEnd_steady hs
  | tOffRampEnd => exact execTOffRampEnd_steady hs
  | stopTmo => exact execStopTmo_steady hs
  | overspeed => exact execOverspeed_steady hs
  | shockWindowEnd => exact execShockWindowEnd_steady hs
  | slack => exact execSlack_steady hs
  | ventEnd => exact execVentEnd_steady hs
  | heaveStall => exact execHeaveStall_steady hs
  | shedCycleStart => exact execShedCycleStart_steady hs
  | shedSlot => exact execShedSlot_steady hs
  | leadFrame => exact execLeadFrame_steady hs
  | report => exact execReport_steady hs
  | faultNotice => exact execFaultNotice_steady hs
  | shedApply => exact execShedApply_steady hs
  | shareRampEnd => exact execShareRampEnd_steady hs
  | portSample => exact execPortSample_steady hs
  | encoderEdge => exact execEncoderEdge_steady hs
  | indexMark => exact execIndexMark_steady hs
  | stepInputEdge => exact execStepInputEdge_steady hs
  | serialReadRequest => exact execSerialReadRequest_steady hs
  | serialWord => exact execSerialWord_steady hs
  | speedWindowEnd => exact execSpeedWindowEnd_steady hs
  | amp => exact execAmp_steady hs
  | wire => exact execWire_steady hs
  | exc => exact execExc_steady hs
  | fbSupply => exact execFbSupply_steady hs
  | cmpWrite => exact execCmpWrite_steady hs
  | load => exact execLoad_steady hs
  | loadZ => exact execLoadZ_steady hs
  | turnZero => exact execTurnZero_steady hs
  | cmpDisarm => exact execCmpDisarm_steady hs
  | cmpPulseEnd => exact execCmpPulseEnd_steady hs
  | profileEvaluation => exact execProfileEvaluation_steady hs
  | limit => exact execLimit_steady hs
  | stall => exact execStall_steady hs
  | refCheck => exact execRefCheck_steady hs
  | halt => exact execHalt_steady hs
  | engage => exact execEngage_steady hs
  | disengage => exact execDisengage_steady hs
  | setPos => exact execSetPos_steady hs
  | safetyCycle => exact execSafetyCycle_steady hs
  | stoInputFall => exact execStoInputFall_steady hs
  | stoInputRise => exact execStoInputRise_steady hs
  | stoDisc => exact execStoDisc_steady hs
  | tSs1 => exact execTSs1_steady hs
  | tStoAfterSbc => exact execTStoAfterSbc_steady hs
  | tSlsEntry => exact execTSlsEntry_steady hs
  | stoTestDue => exact execStoTestDue_steady hs
  | stoTestOverdue => exact execStoTestOverdue_steady hs
  | safetyCycleOverrun => exact execSafetyCycleOverrun_steady hs
  | sealCheck => exact execSealCheck_steady hs
  | islandScrub => exact execIslandScrub_steady hs
  | stageOpen => exact execStageOpen_steady hs
  | sealStaging => exact execSeal_steady hs
  | sealFlashDone => exact execSealFlashDone_steady hs
  | stageAbort => exact execStageAbort_steady hs
  | stagingTimeout => exact execStagingTimeout_steady hs
  | safeInputSample => exact execSafeInputSample_steady hs
  | siFilterPass => exact execSiFilterPass_steady hs
  | disc => exact execDisc_steady hs
  | testPulse => exact execTestPulse_steady hs
  | stOvl => exact execStOvl_steady hs
  | stRetry => exact execStRetry_steady hs
  | outputPulse => exact execOutputPulse_steady hs
  | overload => exact execOverload_steady hs
  | supply => exact execSupply_steady hs
  | safetyFrameTx => exact execSafetyFrameTx_steady hs
  | safetyFrameCopy => exact execSafetyFrameCopy_steady hs
  | single => exact execSingle_steady hs
  | wdExp => exact execWdExp_steady hs
  | lockstepMismatch => exact execLockstepMismatch_steady hs
  | classification => exact execClassification_steady hs
  | started => exact execStarted_steady hs
  | restartTmo => exact execRestartTmo_steady hs
  | checkerSelfCheck => exact execCheckerSelfCheck_steady hs
  | check => exact execCheck_steady hs
  | parity => exact execParity_steady hs
  | tcmDue => exact execTcmDue_steady hs
  | debugAttach => exact execDebugAttach_steady hs
  | machineTimer => exact execMachineTimer_steady hs
  | mtimeLoRead => exact execMtimeLoRead_steady hs
  | sqTail => exact execSqTail_steady hs
  | cqHead => exact execCqHead_steady hs
  | ringEnable => exact execRingEnable_steady hs
  | ringDisable => exact execRingDisable_steady hs
  | nop => exact execNop_steady hs
  | paramRead => exact execParamRead_steady hs
  | paramWrite => exact execParamWrite_steady hs
  | refSet => exact execRefSet_steady hs
  | move => exact execMove_steady hs
  | stop => exact execStop_steady hs
  | profileSelect => exact execProfileSelect_steady hs
  | profileStore => exact execProfileStore_steady hs
  | axisEnable => exact execAxisEnable_steady hs
  | axisDisable => exact execAxisDisable_steady hs
  | scopeArm => exact execScopeArm_steady hs
  | scopeCaptureDone => exact execScopeCaptureDone_steady hs
  | logRead => exact execLogRead_steady hs
  | canSend => exact execCanSend_steady hs
  | weftSend => exact execWeftSend_steady hs
  | funcReinitSq => exact execFuncReinitSq_steady hs
  | funcReinitCq => exact execFuncReinitCq_steady hs
  | funcReinitCan => exact execFuncReinitCan_steady hs
  | funcReinitWeftPort => exact execFuncReinitWeftPort_steady hs
  | funcReinitFeedbackPort => exact execFuncReinitFeedbackPort_steady hs
  | funcReinitLane => exact execFuncReinitLane_steady hs
  | deviceReset => exact execDeviceReset_steady hs
  | sysReset => exact execSysReset_steady hs
  | resetStart => exact execResetStart_steady hs
  | stoTest => exact execStoTest_steady hs
  | imageWrite h source => exact execImageWrite_steady (a1 := source) hs
  | imageCommit => exact execImageCommit_steady hs
  | heaveStream => exact execHeaveStream_steady hs
  | userOpcode => exact execUserOpcode_steady hs
  | badOpcode => exact execBadOpcode_steady hs
  | chainTimeout => exact execChainTimeout_steady hs
  | cqSignalTimer => exact execCqSignalTimer_steady hs
  | ringError => exact execRingError_steady hs
  | hostLost => exact execHostLost_steady hs
  | configRequest => exact execConfigRequest_steady hs
  | rtcWrite => exact execRtcWrite_steady hs
  | registerWrite => exact execRegisterWrite_steady hs
  | trainingSet p uid addr => exact execTrainingSet_steady (a2 := addr) hs
  | retrain => exact execRetrain_steady hs
  | weftLink => exact execWeftLink_steady hs
  | helloTimeout => exact execHelloTimeout_steady hs
  | hello => exact execHello_steady hs
  | helloSend => exact execHelloSend_steady hs
  | claim => exact execClaim_steady hs
  | defend => exact execDefend_steady hs
  | claimTimer => exact execClaimTimer_steady hs
  | defendTimer => exact execDefendTimer_steady hs
  | route => exact execRoute_steady hs
  | routeSend => exact execRouteSend_steady hs
  | routeAge => exact execRouteAge_steady hs
  | data => exact execData_steady hs
  | fragTmo => exact execFragTmo_steady hs
  | sync => exact execSync_steady hs
  | syncSend => exact execSyncSend_steady hs
  | delayReq => exact execDelayReq_steady hs
  | delayReqSend => exact execDelayReqSend_steady hs
  | delayResp => exact execDelayResp_steady hs
  | echoReq => exact execEchoReq_steady hs
  | echoResp => exact execEchoResp_steady hs
  | parentLoss => exact execParentLoss_steady hs
  | ctxAge => exact execCtxAge_steady hs
  | canFrameRx => exact execCanFrameRx_steady hs
  | canTxDone => exact execCanTxDone_steady hs
  | arbitrationLost => exact execArbitrationLost_steady hs
  | canError => exact execCanError_steady hs
  | canBusOn => exact execCanBusOn_steady hs
  | txDominantTimeout c => exact execTxDominantTimeout_steady (a0 := c) hs
  | abort => exact execAbort_steady hs
  | pop => exact execPop_steady hs
  | thmEvaluation => exact execThmEvaluation_steady hs
  | journalWrite => exact execJournalWrite_steady hs
  | consoleChar => exact execConsoleChar_steady hs
  | consoleAbort => exact execConsoleAbort_steady hs
  | status => exact execStatus_steady hs
  | rd => exact execRd_steady hs
  | wr => exact execWr_steady hs
  | par => exact execPar_steady hs
  | log => exact execLog_steady hs
  | logSeq => exact execLogSeq_steady hs
  | atest => exact execAtest_steady hs
  | atestOff => exact execAtestOff_steady hs
  | service => exact execService_steady hs
  | serviceExit => exact execServiceExit_steady hs
  | dusk => exact execDusk_steady hs
  | dawnRetry => exact execDawnRetry_steady hs
  | reset => exact execReset_steady hs
  | gdc => exact execGdc_steady hs
  | gdcSelftest => exact execGdcSelftest_steady hs
  | gdcPulse => exact execGdcPulse_steady hs
  | gdcDead => exact execGdcDead_steady hs
  | psp => exact execPsp_steady hs
  | pspSctest => exact execPspSctest_steady hs
  | chopTest => exact execChopTest_steady hs
  | cross => exact execCross_steady hs
  | pwm => exact execPwm_steady hs
  | pwmSkew => exact execPwmSkew_steady hs
  | pwmRun => exact execPwmRun_steady hs
  | mfe => exact execMfe_steady hs
  | mfeZero => exact execMfeZero_steady hs
  | mfeXc => exact execMfeXc_steady hs
  | mfeSupplyOn => exact execMfeSupplyOn_steady hs
  | loom => exact execLoom_steady hs
  | loomKat => exact execLoomKat_steady hs
  | loomTime => exact execLoomTime_steady hs
  | pos => exact execPos_steady hs
  | posTerm => exact execPosTerm_steady hs
  | posInj => exact execPosInj_steady hs
  | posLearn => exact execPosLearn_steady hs
  | spd => exact execSpd_steady hs
  | spdLim => exact execSpdLim_steady hs
  | lsh => exact execLsh_steady hs
  | lshMembers => exact execLshMembers_steady hs
  | lshDrop => exact execLshDrop_steady hs
  | fbi => exact execFbi_steady hs
  | fbiWatch => exact execFbiWatch_steady hs
  | fbiLoop => exact execFbiLoop_steady hs
  | fbiCmp => exact execFbiCmp_steady hs
  | pt => exact execPt_steady hs
  | prg => exact execPrg_steady hs
  | prgLim => exact execPrgLim_steady hs
  | prgJog => exact execPrgJog_steady hs
  | sfi => exact execSfi_steady hs
  | sfiAx => exact execSfiAx_steady hs
  | sfiSto => exact execSfiSto_steady hs
  | sfiTest => exact execSfiTest_steady hs
  | sfiList => exact execSfiList_steady hs
  | sfiSeal => exact execSfiSeal_steady hs
  | si => exact execSi_steady hs
  | so => exact execSo_steady hs
  | sc => exact execSc_steady hs
  | lck => exact execLck_steady hs
  | lckCheck => exact execLckCheck_steady hs
  | lckHist => exact execLckHist_steady hs
  | hif => exact execHif_steady hs
  | hifSq => exact execHifSq_steady hs
  | hifCq => exact execHifCq_steady hs
  | hifNop => exact execHifNop_steady hs
  | wft => exact execWft_steady hs
  | wftPort => exact execWftPort_steady hs
  | wftRoute => exact execWftRoute_steady hs
  | wftPing => exact execWftPing_steady hs
  | wftReinit => exact execWftReinit_steady hs
  | can => exact execCan_steady hs
  | canLoop => exact execCanLoop_steady hs
  | canRx => exact execCanRx_steady hs
  | thm => exact execThm_steady hs
  | perstNRelease => exact execPerstNRelease_steady hs
  | linkUp => exact execLinkUp_steady hs
  | flashOperationComplete => exact execFlashOperationComplete_steady hs
  | testEnd => exact execTestEnd_steady hs
  | egressFrameSent => exact execEgressFrameSent_steady hs
  | conflictWait => exact execConflictWait_steady hs
  | protocolException => exact execProtocolException_steady hs
  | canIntegration => exact execCanIntegration_steady hs

/-- A step keeps the banks canonical and the interlock: the queue gives it a command, or time passes. -/
theorem step_keeps {s t : State} (h : step s = .next t) : (s.banksWf → t.banksWf) ∧ (s.interlocked → t.interlocked) := by
  rw [step] at h
  split at h
  · cases h
    obtain ⟨hbanks, hgates, -⟩ := State.tick_steady (Steady.refl s)
    exact ⟨hbanks, hgates⟩
  · next c r _ =>
    obtain ⟨hbanks, hgates, -⟩ := exec_steady c (Steady.refl { s with pending := r }) t h
    exact ⟨hbanks, hgates⟩

/-- Settles O53: what a step keeps includes the interlock. -/
theorem interlockHolds : Obligations.InterlockHolds := by
  unfold Obligations.InterlockHolds
  intro s t hs h
  exact (step_keeps h).2 hs

theorem State.reset_gc (n : Fin 28) : State.reset.gc[n] = GateChan.reset := Vector.getElem_replicate ..

theorem State.reset_slot (p : Fin 4) : State.reset.slots[p] = Profile.empty := Vector.getElem_replicate ..

/-- Settles O51: at reset every bank holds only defaults, and no gate channel is commanded on. -/
theorem resetInvariants : Obligations.ResetInvariants := by
  unfold Obligations.ResetInvariants
  refine ⟨⟨rfl, rfl, rfl, fun p => ?_, rfl⟩, fun x k ⟨hhi, _⟩ => ?_⟩
  · rw [State.reset_slot]
    rfl
  · rw [State.reset_gc] at hhi
    exact absurd hhi (by decide)

end Sys2Proof.Machine
end

section
namespace Sys2Proof.Machine

/-! ## The registers of a block on the console -/

/-- Settles O44: each command is a reply of the registers that it shows. -/
theorem registerViews : Obligations.RegisterViews := by
  unfold Obligations.RegisterViews
  refine ⟨?_, ?_, ?_, ?_, ?_, ?_, ?_, ?_, ?_, ?_, ?_, ?_⟩
  · exact fun n s h => serves_conRun (exec_gdc ..) h rfl
  · exact fun x s h => ⟨serves_conRun (exec_psp ..) h rfl, serves_conRun (exec_pwm ..) h rfl,
      serves_conRun (exec_mfe ..) h rfl, serves_conRun (exec_loom ..) h rfl⟩
  · exact fun a s h => ⟨serves_conRun (exec_pos ..) h rfl, serves_conRun (exec_spd ..) h rfl,
      serves_conRun (exec_spdLim ..) h rfl, serves_conRun (exec_lsh ..) h rfl⟩
  · exact fun a s h => serves_conRun (exec_sfiAx ..) h rfl
  · exact fun n s h => serves_conRun (exec_fbi ..) h rfl
  · exact fun m s h => serves_conRun (exec_pt ..) h rfl
  · exact fun c s h => serves_conRun (exec_prg ..) h rfl
  · exact fun s h => ⟨serves_conRun (exec_sfi ..) h rfl, serves_conRun (exec_si ..) h rfl,
      serves_conRun (exec_so ..) h rfl, serves_conRun (exec_hif ..) h rfl⟩
  · exact fun s h => serves_conRun (exec_wft ..) h rfl
  · exact fun n s h => ⟨serves_conRun (exec_hifSq ..) h rfl, serves_conRun (exec_hifCq ..) h rfl⟩
  · exact fun p s h => serves_conRun (exec_wftPort ..) h rfl
  · exact fun c s h => serves_conRun (exec_can ..) h rfl

/-! ## The field tests of the power blocks (R143, R176, R200, R233, R264) -/

/-- gdc selftest runs its rules in READY, SERVICE and RUN (R143). -/
theorem State.selftestModes_served {s : State} {f : State → State} (h : s.mode = .ready ∨ s.mode = .service ∨ s.mode = .run) :
    s.inModes [.ready, .service, .run] f = f s :=
  if_pos (by simpa using h)

theorem State.selftestModes_denied {s : State} {f : State → State}
    (h : ¬ (s.mode = .ready ∨ s.mode = .service ∨ s.mode = .run)) : s.inModes [.ready, .service, .run] f = s.replyErr "MODE" :=
  if_neg (by simpa using h)

/-- A command that needs READY or SERVICE answers ERR MODE in every other mode, and so everywhere where its own rules
answer it there (R610). -/
theorem State.inModes_refused {s : State} {f : State → State}
    (h : s.mode = .ready ∨ s.mode = .service → f s = s.replyErr "MODE") : s.inModes [.ready, .service] f = s.replyErr "MODE" := by
  by_cases hm : s.mode = .ready ∨ s.mode = .service
  · exact (State.inModes_served hm).trans (h hm)
  · exact State.inModes_denied hm

/-- Settles O45: each command is served under its own conditions. -/
theorem blockFieldTests : Obligations.BlockFieldTests := by
  unfold Obligations.BlockFieldTests
  refine ⟨?_, ?_, ?_, ?_, ?_, ?_, ?_, ?_, ?_, ?_, ?_, ?_, ?_, ?_, ?_, ?_, ?_, ?_⟩
  · intro n s h hm hbusy
    exact serves_conRun (exec_gdcSelftest ..) h ((State.selftestModes_served hm).trans (if_pos hbusy))
  · intro n s h hm hbusy
    exact serves_conRun (exec_gdcSelftest ..) h
      ((State.selftestModes_served hm).trans (if_neg (ne_true_of_eq_false hbusy)))
  · intro n s h hm
    exact serves_conRun (exec_gdcSelftest ..) h (State.selftestModes_denied hm)
  · intro x v w s h hm hblock
    exact serves_conRun (exec_pspSctest ..) h ((State.inModes_served hm).trans (if_neg (not_bne_of_eq hblock)))
  · intro x v w s h hbad
    refine serves_conRun (exec_pspSctest ..) h (State.inModes_refused fun hm => if_pos ?_)
    exact bne_iff_ne.mpr (hbad.resolve_left (not_not.mpr hm))
  · intro x s h
    exact serves_conRun (exec_cross ..) h rfl
  · intro x node s h hs
    exact serves_conRun (exec_pwmSkew ..) h (if_pos hs)
  · intro x node s h hs
    exact serves_conRun (exec_pwmSkew ..) h (if_neg (ne_true_of_eq_false hs))
  · intro x s h hm hfree
    exact serves_conRun (exec_mfeZero ..) h ((State.inModes_served hm).trans (if_pos hfree))
  · intro x s h hbad
    refine serves_conRun (exec_mfeZero ..) h (State.inModes_refused fun hm => if_neg ?_)
    exact ne_true_of_eq_false (hbad.resolve_left (not_not.mpr hm))
  · intro x s h hbad
    refine serves_conRun (exec_mfeXc ..) h (if_pos ?_)
    simpa using hbad
  · intro x s h hm hr hrecon
    refine serves_conRun (exec_mfeXc ..) h ((if_neg (by simp [hm, hr])).trans ?_)
    rw [hrecon]
  · intro x r s h hm hr hrecon
    refine serves_conRun (exec_mfeXc ..) h ((if_neg (by simp [hm, hr])).trans ?_)
    rw [hrecon]
  · intro s h hn
    exact serves_conRun (exec_mfeSupplyOn ..) h (if_pos hn)
  · intro s h hn
    exact serves_conRun (exec_mfeSupplyOn ..) h (if_neg (ne_true_of_eq_false hn))
  · intro x s h hr
    exact serves_conRun (exec_loomKat ..) h (if_neg (by simpa using hr))
  · intro x s h hr
    exact serves_conRun (exec_loomKat ..) h (if_pos (beq_iff_eq.mpr hr))
  · intro x s h
    exact serves_conRun (exec_loomTime ..) h rfl

/-! ## The meter output (R614, R615) -/

/-- With no pulse running the output is the voltage of the quantity selected, where it is in range (R614). -/
theorem State.atestOut_selected {s : State} (phys : AtestQ → Rat) {q : AtestQ} (hp : s.pulsed = none)
    (hq : s.con.atest = some q) : s.atestOut phys = if s.atestOk q then s.atestOf phys q else 0 := by
  simp only [State.atestOut, hp, hq]

theorem State.atestOut_inRange {s : State} (phys : AtestQ → Rat) {q : AtestQ} (hp : s.pulsed = none)
    (hq : s.con.atest = some q) (h : s.atestOk q = true) : s.atestOut phys = s.atestOf phys q :=
  (s.atestOut_selected phys hp hq).trans (if_pos h)

/-- The commanded compare of a phase, as the meter output picks it. -/
theorem Cmp3.at_eq_ite (c : Cmp3) (k : Fin 3) : (if k = 0 then (c.u : Rat) else if k = 1 then c.v else c.w) = c.at k := by
  fin_cases k <;> rfl

/-- Settles O48: each quantity is in range under its own conditions and then reads at its scale. -/
theorem atestOutput : Obligations.AtestOutput := by
  unfold Obligations.AtestOutput
  refine ⟨?_, ?_, ?_, ?_, ?_, ?_, ?_, ?_, ?_, ?_⟩
  · intro phys n s hp
    simp only [State.atestOut, hp]
  · intro phys s hp hq
    simp only [State.atestOut, hp, hq]
  · intro phys q s hp hq hok
    exact (s.atestOut_selected phys hp hq).trans (if_neg (ne_true_of_eq_false hok))
  · intro phys s hp hq
    exact s.atestOut_inRange phys hp hq rfl
  · intro phys s hp hq
    exact s.atestOut_inRange phys hp hq rfl
  · intro phys x k c s hp hq hr hd
    rw [s.atestOut_inRange phys hp hq hr]
    simp only [State.atestOf, hd, c.at_eq_ite]
  · intro phys n s hp hq hi hown
    rw [s.atestOut_inRange phys hp hq hi]
    simp only [State.atestOf, hown, gateLevel, Bool.false_eq_true, if_false]
    ring
  · intro phys n s hp hq hi hext
    rw [s.atestOut_inRange phys hp hq hi]
    simp only [State.atestOf, hext, if_true]
  · intro phys x s hp hq hi
    exact s.atestOut_inRange phys hp hq hi
  · intro phys a s hp hq ha hv
    exact s.atestOut_inRange phys hp hq (Bool.and_eq_true_iff.mpr ⟨ha, hv⟩)

end Sys2Proof.Machine
end

section
namespace Sys2Proof.Machine

/-! ## Gate commands (R109 to R125, R177) -/

/-- The check for ASC changes at most the state of its set (R163). -/
theorem State.ascCheck_gc (s : State) (x : Fin 4) : (s.ascCheck x).gc = s.gc := by
  unfold State.ascCheck
  extract_lets on
  split <;> rfl

theorem State.ascCheck_flag (s : State) {x : Fin 4} {f : Field} (h : f.addr ≠ Reg.PSP_STATE x) :
    (s.ascCheck x).flag f = s.flag f := by
  unfold State.ascCheck
  extract_lets on
  split
  · exact s.flag_setFld_other _ (.inl h)
  · rfl

theorem gateStatus_ne_setState (n : Fin 28) : Reg.GDC_STATUS n ≠ Reg.PSP_STATE (chanSet n) := by decide +revert

theorem companion_ne (n : Fin 28) : n ≠ companion n := by decide +revert

/-! ### Edges (R115, R177) -/

/-- A corrupted edge asks for what its compare says. -/
theorem exec_pwmEdge_corrupt {x : Fin 4} {k : Fin 3} {hi lo : Option Bool} {s : State} (ho : s.gateOwned x = true) :
    exec (.pwmEdge x k (some (hi, lo))) s = .next ((s.askPair x k hi lo).shootCheck x).settle := by
  simp only [exec_pwmEdge, execPwmEdge, ho, Bool.not_true, Bool.false_eq_true, if_false]

/-- A crossing asks for the high side in the rising half and for the low side in the falling half (R177). -/
theorem exec_pwmEdge_crosses {x : Fin 4} {k : Fin 3} {s : State} (ho : s.gateOwned x = true) (hd : s.pwmDrives x = true)
    (ha : s.pwm[x].active = true) (hc : s.crosses x k = true) : exec (.pwmEdge x k none) s =
      .next ((s.askPair x k (some (!s.flag (Fld.PWM_STATUS_HALF x))) (some (s.flag (Fld.PWM_STATUS_HALF x)))).shootCheck x).settle := by
  simp only [exec_pwmEdge, execPwmEdge, ho, hd, ha, hc, Bool.not_true, Bool.not_not, Bool.and_self, Bool.false_eq_true, if_false, if_true]

theorem exec_pwmEdge_unowned {x : Fin 4} {k : Fin 3} {c : Option (Option Bool × Option Bool)} {s : State}
    (ho : s.gateOwned x = false) : exec (.pwmEdge x k c) s = .next s := by
  simp only [exec_pwmEdge, execPwmEdge, ho, Bool.not_false, if_true]

/-! ### The interlock (R115, R119) -/

/-- The channel with its held request let through (R115). -/
def State.letThrough (s : State) (n : Fin 28) : State :=
  let t := s.setFlag (Fld.GDC_STATUS_HELD n) false
  (({ t with conflict := t.conflict &&& ~~~(1#12 <<< (n.val / 2)) } : State).modGc n fun g => { g with cmd := true }).edge n

theorem State.letThrough_cmd (s : State) (n m : Fin 28) :
    (s.letThrough n).gc[m].cmd = if n = m then true else s.gc[m].cmd := by
  unfold State.letThrough State.edge
  rw [State.modPsp_gc, State.modGc_gc]
  split <;> rfl

/-- A channel is released only against a companion that is commanded off and confirmed off (R115). -/
theorem State.released_companion {s : State} {n : Fin 28} (h : s.released n = true) :
    s.gc[companion n].cmd = false ∧ s.gc[companion n].confOff = true := by
  simp only [State.released, Bool.and_eq_true, Bool.not_eq_true'] at h
  obtain ⟨⟨⟨hcmd, hconf⟩, -⟩, -⟩ := h
  exact ⟨hcmd, hconf⟩

theorem interlockRelease_settles (n : Fin 24) (s : State) (hr : s.gc[(n.castLE (by decide) : Fin 28)].request = true)
    (hc : s.gc[(n.castLE (by decide) : Fin 28)].cmd = false) (ho : s.gc[companion (n.castLE (by decide))].request = false)
    (hf : s.released (n.castLE (by decide)) = true) (ht : s.gateTesting (n.castLE (by decide)) = false) :
    Settles (.interlockRelease n) s fun u =>
      u.gc[(n.castLE (by decide) : Fin 28)].cmd = true ∧ u.gc[companion (n.castLE (by decide))].cmd = false := by
  let m : Fin 28 := n.castLE (by decide)
  have hrun : exec (.interlockRelease n) s = .next ((s.letThrough m).ascCheck (chanSet m)).settle := by
    simp only [exec_interlockRelease, execInterlockRelease, hr, hc, ho, hf, ht]
    rfl
  refine ⟨_, hrun, ?_, ?_⟩
  · rw [State.ascCheck_gc, State.letThrough_cmd, if_pos rfl]
  · rw [State.ascCheck_gc, State.letThrough_cmd, if_neg (companion_ne m)]
    exact (State.released_companion hf).1

theorem exec_interlockRelease_unconfirmed {n : Fin 24} {s : State}
    (h : s.gc[companion (n.castLE (by decide))].confOff = false) : exec (.interlockRelease n) s = .next s := by
  have hf : s.released (n.castLE (by decide)) = false :=
    Bool.eq_false_iff.mpr fun hf => Bool.false_ne_true (h.symm.trans (State.released_companion hf).2)
  simp only [exec_interlockRelease, execInterlockRelease, hf, Bool.and_false, Bool.false_and, Bool.false_eq_true, if_false]

/-! ### The command at its island (R109, R110, R125) -/

/-- The island shows the command that has reached it, its segment and its gate sense voltage. -/
def State.commandSeen (s : State) (n : Fin 28) (gs : Rat) : State :=
  ((s.setFlag (Fld.GDC_STATUS_CMD n) s.gc[n].cmd).setFld (Fld.GDC_STATUS_SEG n) (s.segment n s.gc[n].cmd gs)).sense n gs

theorem State.commandSeen_gs (s : State) (n : Fin 28) (gs : Rat) : (s.commandSeen n gs).gc[n].gs = gs := by
  simp only [State.commandSeen, State.sense, State.setFlag_gc, State.modGc_gc, if_true]

theorem State.commandSeen_gcmd (s : State) (n : Fin 28) (gs : Rat) : (s.commandSeen n gs).gc[n].cmd = s.gc[n].cmd := by
  simp only [State.commandSeen, State.sense, State.setFlag_gc, State.setFld_gc, State.modGc_gc, if_true]

theorem State.commandSeen_flags (s : State) (n : Fin 28) (gs : Rat) :
    (s.commandSeen n gs).flag (Fld.GDC_STATUS_CMD n) = s.gc[n].cmd ∧
      (s.commandSeen n gs).flag (Fld.GDC_STATUS_ENABLE n) = s.flag (Fld.GDC_STATUS_ENABLE n) := by
  simp (disch := decide +revert) only [State.commandSeen, State.sense, State.flag_setFlag_other, State.flag_modGc,
    State.flag_setFld_other, State.flag_setFlag, and_self]

/-- The island of a channel commanded off has its gate off, and the plateau check ends (R125). -/
theorem islandCommand_off (n : Fin 28) (gs : Rat) (s : State) (hc : s.gc[n].cmd = false) :
    Settles (.islandCommand n gs) s fun u =>
      u.gc[n].gateOn = false ∧ u.gc[n].armTimer = false ∧ u.gc[n].armed = false ∧ u.gc[n].cmd = false ∧ u.gc[n].gs = gs := by
  have hrun : exec (.islandCommand n gs) s = .next ((s.commandSeen n gs).modGc n fun g =>
      { g with armTimer := false, armed := false, forcedOff := false, gateOn := false }).settle := by
    simp only [exec_islandCommand, execIslandCommand, State.commandSeen, hc]
    rfl
  refine ⟨_, hrun, ?_⟩
  simp only [State.modGc_gc, if_true, s.commandSeen_gs, s.commandSeen_gcmd, hc, and_self]

/-- The island of a channel commanded on: the clamp is released, and the gate follows the enable (R109, R110, R125). -/
def State.turnedOn (s : State) (n : Fin 28) (on : Bool) : State :=
  ((s.setFlag (Fld.GDC_STATUS_CLAMP n) false).setFlag (Fld.GDC_STATUS_CONF_OFF n) false).modGc n fun g =>
    { g with confOff := false, armTimer := on, armed := false, forcedOff := !on, gateOn := on }

theorem State.turnedOn_gc (s : State) (n : Fin 28) (on : Bool) :
    (s.turnedOn n on).gc[n].gateOn = on ∧ (s.turnedOn n on).gc[n].armTimer = on ∧ (s.turnedOn n on).gc[n].confOff = false ∧
      (s.turnedOn n on).gc[n].gs = s.gc[n].gs := by
  simp only [State.turnedOn, State.modGc_gc, State.setFlag_gc, if_true, and_self]

theorem State.turnedOn_flags (s : State) (n : Fin 28) (on : Bool) :
    (s.turnedOn n on).flag (Fld.GDC_STATUS_CMD n) = s.flag (Fld.GDC_STATUS_CMD n) ∧
      (s.turnedOn n on).flag (Fld.GDC_STATUS_CLAMP n) = false ∧ (s.turnedOn n on).flag (Fld.GDC_STATUS_CONF_OFF n) = false := by
  simp (disch := decide +revert) only [State.turnedOn, State.flag_modGc, State.flag_setFlag_other, State.flag_setFlag, and_self]

/-- What the CROSS source OPEN and the check for ASC make of a state shows in no channel (R149, R163). -/
def State.openAsc (s : State) (n : Fin 28) : State :=
  (if n.val < 24 then s.openEnds (chanSet n) else s).ascCheck (chanSet n)

theorem State.openAsc_gc (s : State) (n : Fin 28) : (s.openAsc n).gc = s.gc := by
  unfold State.openAsc
  rw [State.ascCheck_gc]
  split <;> rfl

theorem State.openAsc_flag (s : State) (n : Fin 28) {f : Field} (h : f.addr ≠ Reg.PSP_STATE (chanSet n)) :
    (s.openAsc n).flag f = s.flag f := by
  unfold State.openAsc
  rw [State.ascCheck_flag _ h]
  split <;> rfl

theorem islandCommand_on (n : Fin 28) (gs : Rat) (s : State) (hc : s.gc[n].cmd = true) :
    Settles (.islandCommand n gs) s fun u =>
      u.gc[n].gateOn = (s.flag (Fld.GDC_STATUS_ENABLE n) || decide (24 ≤ n.val)) ∧ u.gc[n].armTimer = u.gc[n].gateOn ∧
      u.gc[n].confOff = false ∧ u.gc[n].gs = gs ∧ u.flag (Fld.GDC_STATUS_CMD n) = true ∧
      u.flag (Fld.GDC_STATUS_CLAMP n) = false ∧ u.flag (Fld.GDC_STATUS_CONF_OFF n) = false := by
  let v := s.commandSeen n gs
  let on := v.flag (Fld.GDC_STATUS_ENABLE n) || decide (24 ≤ n.val)
  have hrun : exec (.islandCommand n gs) s = .next ((v.turnedOn n on).openAsc n).settle := by
    simp only [exec_islandCommand, execIslandCommand, v, on, State.commandSeen, hc]
    rfl
  have hset := gateStatus_ne_setState n
  obtain ⟨hcmd, hen⟩ := s.commandSeen_flags n gs
  obtain ⟨hgate, harm, hconf, hgs⟩ := v.turnedOn_gc n on
  obtain ⟨hscmd, hclamp, hsconf⟩ := v.turnedOn_flags n on
  refine ⟨_, hrun, ?_⟩
  beta_reduce
  rw [State.openAsc_gc, State.openAsc_flag _ n hset, State.openAsc_flag _ n hset, State.openAsc_flag _ n hset, hgate, harm, hconf,
    hgs, hscmd, hclamp, hsconf]
  exact ⟨congrArg (· || _) hen, rfl, rfl, s.commandSeen_gs n gs, hcmd.trans hc, rfl, rfl⟩

/-! ### Segments and the clamp (R109, R110) -/

theorem exec_clampEngage_engages {n : Fin 28} {gs : Rat} {s : State} (he : s.flag (Fld.GDC_CFG_CLAMP_EN n) = true)
    (hc : s.flag (Fld.GDC_STATUS_CMD n) = false) (hg : gs < s.vClamp n) :
    exec (.clampEngage n gs) s = .next (s.setFlag (Fld.GDC_STATUS_CLAMP n) true) := by
  simp only [exec_clampEngage, execClampEngage, he, hc, hg, decide_true, Bool.not_false, Bool.and_self, if_true]

theorem exec_clampEngage_stays {n : Fin 28} {gs : Rat} {s : State}
    (h : s.flag (Fld.GDC_CFG_CLAMP_EN n) = false ∨ s.flag (Fld.GDC_STATUS_CMD n) = true ∨ s.vClamp n ≤ gs) :
    exec (.clampEngage n gs) s = .next s := by
  refine (exec_clampEngage ..).trans (if_neg ?_)
  simp only [Bool.and_eq_true, Bool.not_eq_true', decide_eq_true_eq, not_and, not_lt]
  rcases h with he | hc | hg
  · exact fun ⟨he', _⟩ => absurd he' (ne_true_of_eq_false he)
  · exact fun ⟨_, hc'⟩ => absurd hc (ne_true_of_eq_false hc')
  · exact fun _ => hg

/-! ### Confirmation (R112, R117, R139) -/

/-- The channel confirmed off by a frame of its island (R112). -/
def State.confirmed (s : State) (n : Fin 28) (gs : Rat) : State :=
  (((s.sense n gs).frameIn n).setFlag (Fld.GDC_STATUS_CONF_OFF n) true).modGc n fun g =>
    { g with confOff := true, awaitConf := false, confAt := if g.confOff then g.confAt else s.sys.poweredNs }

/-- The time that a confirmation took, in 2.5 ns steps (R139). -/
def State.tRx (s : State) (n : Fin 28) : Nat := min (2 * (s.sys.poweredNs - s.gc[n].offAt) / 5) 0xFFFF

theorem exec_confirmedOff_off {n : Fin 28} {gs : Rat} {s : State} (hg : gs < s.vOff n)
    (hc : s.flag (Fld.GDC_STATUS_CMD n) = false) : exec (.confirmedOff n (some true) gs) s =
      if s.gc[n].awaitConf && decide (n.val < 24) then
        let t := (s.confirmed n gs).setFld (Fld.GDC_TCONF_LAST n) (s.tRx n)
        .next (t.setFld (Fld.GDC_TCONF_PEAK n) (max (s.tRx n) ((s.confirmed n gs).fld (Fld.GDC_TCONF_PEAK n))))
      else .next (s.confirmed n gs) := by
  simp only [exec_confirmedOff, execConfirmedOff, hg, hc]
  rfl

theorem confirmedOff_awaited (n : Fin 28) (gs : Rat) (s : State) (hn : n.val < 24) (ha : s.gc[n].awaitConf = true)
    (hg : gs < s.vOff n) (hc : s.flag (Fld.GDC_STATUS_CMD n) = false) : Completes (.confirmedOff n (some true) gs) s fun t =>
      t.flag (Fld.GDC_STATUS_CONF_OFF n) = true ∧ t.gc[n].confOff = true ∧ t.gc[n].awaitConf = false ∧
      t.fld (Fld.GDC_TCONF_LAST n) = s.tRx n := by
  refine ⟨_, (exec_confirmedOff_off hg hc).trans (if_pos (Bool.and_eq_true_iff.mpr ⟨ha, decide_eq_true hn⟩)), ?_⟩
  have ht : s.tRx n < 2 ^ 16 := Nat.lt_succ_of_le (Nat.min_le_right ..)
  refine ⟨?_, ?_, ?_, ?_⟩
  · clear ht ha hg hc
    simp (disch := decide +revert) only [State.flag_setFld_other, State.confirmed, State.flag_modGc, State.flag_setFlag]
  · simp only [State.setFld_gc, State.confirmed, State.modGc_gc, if_true]
  · simp only [State.setFld_gc, State.confirmed, State.modGc_gc, if_true]
  · exact (State.fld_setFld_other _ _ (.inr (.inl (Nat.le_of_ble_eq_true rfl)))).trans
      (State.fld_setFld _ (Nat.le_of_ble_eq_true rfl) ht)

/-- Settles O10, clause by clause. -/
theorem gateCommands : Obligations.GateCommands := by
  unfold Obligations.GateCommands
  refine ⟨?_, ?_, ?_, ?_, ?_, ?_, ?_, ?_, ?_, ?_, ?_, ?_, ?_, ?_, ?_, ?_, ?_, ?_, ?_⟩
  · exact fun x k hi lo s ho => exec_pwmEdge_corrupt ho
  · exact fun x k s ho hd ha hc => exec_pwmEdge_crosses ho hd ha hc
  · exact fun x k s => ⟨rfl, rfl⟩
  · exact fun x k c s ho => exec_pwmEdge_unowned ho
  · exact interlockRelease_settles
  · exact fun n s h => exec_interlockRelease_unconfirmed h
  · exact islandCommand_off
  · exact islandCommand_on
  · exact fun n gs s => rfl
  · exact fun n gs s he hc hg => exec_clampEngage_engages he hc hg
  · exact fun n gs s h => exec_clampEngage_stays h
  · intro n gs s h hg hc
    refine (exec_confirmedOff_off hg hc).trans (if_neg fun hboth => ?_)
    obtain ⟨ha', hn'⟩ := Bool.and_eq_true_iff.mp hboth
    rcases h with hn | ha
    · exact absurd (of_decide_eq_true hn') (Nat.not_lt.mpr hn)
    · exact absurd ha' (ne_true_of_eq_false ha)
  · exact confirmedOff_awaited
  · exact fun n gs s => rfl
  · intro n s ha hc ht hm
    simp only [exec_offTimeout, execOffTimeout, ha, hc, ht, hm]
    rfl
  · intro n s ha hc ht hm
    simp only [exec_offTimeout, execOffTimeout, ha, hc, ht, hm]
    rfl
  · intro n s hc
    simp only [exec_offTimeout, execOffTimeout, hc, Bool.not_true, Bool.and_false, Bool.false_and, Bool.false_eq_true, if_false]
  · exact fun n s ha => (exec_plateauArm ..).trans (if_pos ha)
  · intro n gs s ha hg
    simp only [exec_plateauLow, execPlateauLow, ha, hg, decide_true, Bool.and_self, if_true]

end Sys2Proof.Machine
end

section
namespace Sys2Proof.Machine

/-! ## The state after reset -/

/-- At reset no register is listed, so every one reads what its table gives. -/
theorem State.reset_reg (a : Nat) : State.reset.reg a = resetWord a := rfl

/-! ### The reset value of each kind of register, at every instance of its unit -/

theorem resetWord_pspSc (x : Fin 4) : resetWord (Reg.PSP_SC x) = 0x000C_0296 := by decide +revert +kernel

theorem resetWord_pspChop (x : Fin 4) : resetWord (Reg.PSP_CHOP x) = 0x0014_0000 := by decide +revert +kernel

theorem resetWord_lshCfg (a : Fin 4) : resetWord (Reg.LSH_CFG a) = 0x6000_0000 := by decide +revert +kernel

theorem resetWord_fbiCfg (n : Fin 4) : resetWord (Reg.FBI_CFG n) = 0x0819_54C2 := by decide +revert +kernel

theorem resetWord_sfiStatus : resetWord Reg.SFI_STATUS = 8 := by decide +kernel

theorem resetWord_lckStatus (n : Fin 4) : resetWord (Reg.LCK_STATUS n) = 0 := by decide +revert +kernel

theorem resetWord_lckEvent (n : Fin 4) : resetWord (Reg.LCK_EVENT n) = 0x00F0_0000 := by decide +revert +kernel

theorem resetWord_lckMtimecmp (n : Fin 4) :
    resetWord (Reg.LCK_MTIMECMP_LO n) = 0xFFFF_FFFF ∧ resetWord (Reg.LCK_MTIMECMP_HI n) = 0xFFFF_FFFF := by
  decide +revert +kernel

theorem resetWord_hifCfg : resetWord Reg.HIF_CFG = 0x0FFE := by decide +kernel

theorem resetWord_canNbt (c : Fin 4) : resetWord (Reg.CAN_NBT c) = 0x007E_3E1F := by decide +revert +kernel

theorem resetWord_canDbt (c : Fin 4) : resetWord (Reg.CAN_DBT c) = 0x001C_9900 := by decide +revert +kernel

theorem resetWord_canStatus (c : Fin 4) : resetWord (Reg.CAN_STATUS c) = 3 := by decide +revert +kernel

/-- Settles O50: every register reads what its table gives, each named one the value of its own lemma. -/
theorem resetState : Obligations.ResetState := by
  unfold Obligations.ResetState
  refine ⟨State.reset_reg, fun n => ?_, fun n => ?_, (State.reset_reg _).trans resetWord_hifCfg,
    (State.reset_reg _).trans resetWord_sfiStatus, rfl, rfl⟩
  · simp only [State.reset_reg, Nat.mul_comm _ n.val]
    obtain ⟨hlo, hhi⟩ := resetWord_lckMtimecmp n
    exact ⟨resetWord_fbiCfg n, resetWord_lckStatus n, resetWord_lckEvent n, hlo, hhi, resetWord_lshCfg n⟩
  · simp only [State.reset_reg, Nat.mul_comm _ n.val]
    exact ⟨resetWord_canNbt n, resetWord_canDbt n, resetWord_canStatus n, resetWord_pspSc n, resetWord_pspChop n⟩

end Sys2Proof.Machine
end

section
namespace Sys2Proof.Machine

/-! ## The DC link (R149, R152, R155 to R158) -/

theorem State.modPsp_psp (s : State) (x : Fin 4) (f : PspSet → PspSet) : (s.modPsp x f).psp[x] = f s.psp[x] :=
  Vector.getElem_set_self ..

theorem State.dataFrame_dcCheck (s : State) (x : Fin 4) : (s.dataFrame x).psp[x].dcCheck = s.psp[x].dcCheck := by
  rw [State.dataFrame, State.modPsp_psp]

theorem State.dataFrame_linkData (s : State) (x : Fin 4) : (s.dataFrame x).psp[x].linkData = true := by
  rw [State.dataFrame, State.modPsp_psp]

/-- What a DC-link sample shows. -/
theorem State.linkIn_shows (s : State) (x : Fin 4) (v : Rat) (check : Option Rat) :
    (s.linkIn x v check).psp[x].vdc = v ∧
      (s.linkIn x v check).psp[x].dcCheck = (check.map termVolts).getD s.psp[x].dcCheck ∧
      (s.linkIn x v check).psp[x].linkData = true ∧
      (s.linkIn x v check).fld (Fld.PSP_STATE_VDC x) = min v.floor.toNat 0x7FF := by
  refine ⟨?_, ?_, ?_, ?_⟩
  · rw [State.linkIn, State.setFld_psp, State.modPsp_psp]
  · rw [State.linkIn, State.setFld_psp, State.modPsp_psp, s.dataFrame_dcCheck]
  · rw [State.linkIn, State.setFld_psp, State.modPsp_psp, s.dataFrame_linkData]
  · exact State.fld_setFld _ (Nat.le_of_ble_eq_true rfl) (Nat.lt_succ_of_le (Nat.min_le_right ..))

theorem exec_dcLinkSample_unloaded {x : Fin 4} {v : Rat} {check : Option Rat} {s : State} (h : s.sys.profileLoaded = false) :
    exec (.dcLinkSample x v check) s = .next (s.linkIn x (linkVolts v) check) := by
  have hin : (s.linkIn x (linkVolts v) check).sys.profileLoaded = false := h
  simp only [exec_dcLinkSample, execDcLinkSample, hin, Bool.not_false, if_true]

theorem exec_dcLinkSample_loaded {x : Fin 4} {v : Rat} {check : Option Rat} {s a b c : State}
    (h : s.sys.profileLoaded = true) (ha : a = ((s.linkIn x (linkVolts v) check).linkLevels x (linkVolts v)).chopControl x)
    (hb : b = if a.ov2Asks x then a.ov2 x else a) (hc : c = (b.followSrc x).compareCross x) :
    exec (.dcLinkSample x v check) s =
      .next (if c.mode = .service ∧ (60 < linkVolts v ∨ 60 < c.vDcTv x) then c.leaveService else c).settle := by
  have hin : (s.linkIn x (linkVolts v) check).sys.profileLoaded = true := h
  simp only [exec_dcLinkSample, execDcLinkSample, hin, Bool.not_true, Bool.false_eq_true, if_false, ← ha, ← hb, ← hc,
    Bool.and_eq_true, Bool.or_eq_true, beq_iff_eq, decide_eq_true_eq]

/-! ## The chopper (R152 to R154) -/

/-- The state in which a chopper check is evaluated: none waits any more. -/
def State.checkTaken (s : State) (x : Fin 4) : State := s.modPsp x fun q => { q with chopCheck := none }

section Check
variable {x : Fin 4} {before : Vector Rat 8} {after : List Rat} {e : Rat} {s : State}

theorem exec_chopCheck_void (h : s.psp[x].chopCheck = some { expected := e, void := true }) :
    exec (.chopCheck x before after) s = .next ((s.checkTaken x).incSat (Fld.PSP_CHOPST_VOID x)) := by
  simp only [exec_chopCheck, execChopCheck, h, if_true]
  rfl

theorem exec_chopCheck_passes (h : s.psp[x].chopCheck = some { expected := e, void := false })
    (hw : ∃ i ∈ (s.checkTaken x).chopSteps x before after, e * 7 / 10 ≤ i ∧ i ≤ e * 13 / 10) :
    exec (.chopCheck x before after) s =
      .next (((s.checkTaken x).setFlag (Fld.PSP_CHOPST_PASS_LAST x) true).setFlag (Fld.PSP_CHOPST_CHOP_OPEN x) false) := by
  have hany : (((s.checkTaken x).chopSteps x before after).any fun i => decide (e * 7 / 10 ≤ i ∧ i ≤ e * 13 / 10)) = true := by
    simpa only [List.any_eq_true, decide_eq_true_eq] using hw
  simp only [State.checkTaken] at hany
  simp only [exec_chopCheck, execChopCheck, h, hany, if_true]
  rfl

theorem exec_chopCheck_fails (h : s.psp[x].chopCheck = some { expected := e, void := false })
    (hw : ∀ i ∈ (s.checkTaken x).chopSteps x before after, i < e * 7 / 10) :
    exec (.chopCheck x before after) s =
      .next ((((s.checkTaken x).setFlag (Fld.PSP_CHOPST_PASS_LAST x) false).setFlag (Fld.PSP_CHOPST_CHOP_OPEN x) true).setFlag
        (Fld.PSP_CHOPST_CHOP_HIGH x)
        (((s.checkTaken x).chopSteps x before after).any fun i => decide (e * 13 / 10 < i))) := by
  have hany : (((s.checkTaken x).chopSteps x before after).any fun i => decide (e * 7 / 10 ≤ i ∧ i ≤ e * 13 / 10)) = false :=
    List.any_eq_false.mpr fun i hi hd => absurd (of_decide_eq_true hd).1 (not_le.mpr (hw i hi))
  simp only [State.checkTaken] at hany
  simp only [exec_chopCheck, execChopCheck, h, hany]
  rfl

end Check

/-- The current that a shunt sample of a set shows, less its offset (R154). -/
def State.shuntAmps (s : State) (x : Fin 4) (w : Rat) : Rat := (shuntVolts w - s.mfe[x].shOfs) / s.rShunt x

theorem exec_chopShort_block {x : Fin 4} {v : Rat} {l : List Rat} {s : State} (hp : s.sys.profileLoaded = true)
    (hs : s.setState x = .block) (ht : s.phasesTested x = false) (hc : s.gc[chopChan x].cmd = false)
    (ho : s.gc[chopChan x].offAt + 5000 ≤ s.sys.poweredNs) (hr : (s.fld (Fld.PSP_CHOP_RB x) : Rat) / 1000 ≠ 0)
    (hi : ∀ w ∈ v :: l, s.psp[x].vdc / (2 * ((s.fld (Fld.PSP_CHOP_RB x) : Rat) / 1000)) < s.shuntAmps x w) :
    exec (.chopShort x (v :: l)) s =
      .next ((s.setFlag (Fld.PSP_CHOPST_CHOP_SHORT x) true).journal 0x0202 x.val
        (toS32 (quantise (((v :: l).map (s.shuntAmps x)).getLastD 0 * 1000)))) := by
  refine if_pos ?_
  have hquiet : (s.setState x == .block) = true := beq_iff_eq.mpr hs
  have hrb : ((s.fld (Fld.PSP_CHOP_RB x) : Rat) / 1000 != 0) = true := bne_iff_ne.mpr hr
  have hall : ((v :: l).map (s.shuntAmps x)).all
      (fun i => decide (s.psp[x].vdc / (2 * ((s.fld (Fld.PSP_CHOP_RB x) : Rat) / 1000)) < i)) = true := by
    rw [List.all_map]
    exact List.all_eq_true.mpr fun w hw => decide_eq_true (hi w hw)
  simp only [hp, hquiet, ht, hc, decide_eq_true ho, hrb, Bool.true_or, Bool.not_false, Bool.true_and, Bool.and_self]
  exact hall

/-- Settles O13, clause by clause. -/
theorem linkCrossAndChopper : Obligations.LinkCrossAndChopper := by
  unfold Obligations.LinkCrossAndChopper
  refine ⟨?_, ?_, ?_, ?_, ?_, ?_, ?_, ?_, ?_, ?_, ?_, ?_, ?_⟩
  · exact fun x v check s h => ⟨_, exec_dcLinkSample_unloaded h, s.linkIn_shows x (linkVolts v) check⟩
  · exact fun x v check s a b c h ha hb hc => exec_dcLinkSample_loaded h ha hb hc
  · exact fun x v check s => ⟨(s.linkIn_shows x v check).1, rfl, rfl⟩
  · exact fun x u v w s h => if_neg (ne_true_of_eq_false h)
  · exact fun x u v w s h => if_pos h
  · intro x u v w flag s h
    simp only [exec_terminalSample, execTerminalSample, h]
    rfl
  · intro x u v w flag s h
    simp only [exec_terminalSample, execTerminalSample, h]
    rfl
  · intro x u v w flag s h hsrc
    simp only [exec_terminalSample, execTerminalSample, h, hsrc]
    rfl
  · exact fun x before after e s h => exec_chopCheck_void h
  · exact fun x before after e s h hw => exec_chopCheck_passes h hw
  · exact fun x before after e s h hw => exec_chopCheck_fails h hw
  · exact fun x v l s hp hs ht hc ho hr hi => exec_chopShort_block hp hs ht hc ho hr hi
  · exact fun x s => rfl

end Sys2Proof.Machine
end

section
namespace Sys2Proof.Machine

/-! ## Input faults (R206) -/

section Inputs
variable {x : Fin 4} {k : Fin 3} {s : State}

theorem exec_stuck_sd (hc : s.clocksRun x = true) (hf : s.fitted x k = true) (hd : s.sdMode x k = true) :
    exec (.stuck x k) s =
      .next (((s.modMfe x fun m => { m with live := m.live &&& ~~~(1#3 <<< k.val) }).setFld ⟨Reg.MFE_FAULT x, 4 + k.val, 1⟩ 1).invalidate x
        (1#3 <<< k.val)).settle := by
  simp only [exec_stuck, execStuck, hc, hf, hd, Bool.and_self, if_true]

theorem exec_sdclk_anySd (hc : s.clocksRun x = true) (hd : s.anySd x = true) :
    exec (.sdclk x) s =
      .next (((s.modMfe x fun q => { q with sdclk := true, live := q.live &&& ~~~s.modeMask x true }).setFlag
        (Fld.MFE_FAULT_SDCLK x) true).invalidate x (s.modeMask x true)).settle := by
  simp only [exec_sdclk, execSdclk, hc, hd, Bool.and_self, if_true]

/-- Whether an offset or a cross-check holds an input invalid after its bitstream runs again (R206). -/
def State.inputHeld (s : State) (x : Fin 4) (k : Fin 3) : Bool :=
  (s.fld (Fld.MFE_FAULT_OFS x)).testBit k.val || s.flag (Fld.MFE_FAULT_XCHECK x) && !s.flag (Fld.MFE_FAULT_SHUNT_SUSPECT x)

theorem State.inputHeld_iff : s.inputHeld x k = true ↔ (s.fld (Fld.MFE_FAULT_OFS x)).testBit k.val = true ∨
    s.flag (Fld.MFE_FAULT_XCHECK x) = true ∧ s.flag (Fld.MFE_FAULT_SHUNT_SUSPECT x) = false := by
  simp only [State.inputHeld, Bool.or_eq_true, Bool.and_eq_true, Bool.not_eq_true']

theorem State.inputHeld_eq_false (ho : (s.fld (Fld.MFE_FAULT_OFS x)).testBit k.val = false)
    (hx : s.flag (Fld.MFE_FAULT_XCHECK x) = false ∨ s.flag (Fld.MFE_FAULT_SHUNT_SUSPECT x) = true) : s.inputHeld x k = false := by
  rcases hx with hx | hx <;> simp only [State.inputHeld, ho, hx, Bool.false_and, Bool.not_true, Bool.and_false, Bool.or_self]

theorem exec_sdInputRecover_sd (hc : s.clocksRun x = true) (hf : s.fitted x k = true) (hd : s.sdMode x k = true) :
    exec (.sdInputRecover x k) s =
      .next (s.modMfe x fun m =>
        { m with
          sdclk := false, live := m.live ||| (1#3 <<< k.val)
          inv := if s.inputHeld x k then m.inv else m.inv &&& ~~~(1#3 <<< k.val) }).settle := by
  simp only [exec_sdInputRecover, execSdInputRecover, hc, hf, hd, Bool.and_self, if_true]
  rfl

end Inputs

/-! ## The sensor supply (R207) -/

/-- The registers show the sensor rails on, and no restart runs any more. -/
def State.railsShown (s : State) : State :=
  ({ s with railsUp := false }.setFlag Fld.MFE_SUPPLY_OVERLOAD false).setFlag Fld.MFE_SUPPLY_ON true

theorem State.railsShown_on (s : State) : s.railsShown.flag Fld.MFE_SUPPLY_ON = true :=
  State.flag_setFlag _ true (by decide) (by decide)

theorem State.railsShown_overload (s : State) : s.railsShown.flag Fld.MFE_SUPPLY_OVERLOAD = false :=
  (State.flag_setFlag_other _ true (by decide)).trans (State.flag_setFlag _ false (by decide) (by decide))

/-- A change of every set's inputs alone leaves the registers and the restart of the rails as they are. -/
theorem forAll_modMfe_keeps {l : List (Fin 4)} {f : State → Fin 4 → MfeSet → MfeSet} (s : State) :
    (forAll l (fun x t => t.modMfe x (f t x)) s).regs = s.regs ∧ (forAll l (fun x t => t.modMfe x (f t x)) s).railsUp = s.railsUp :=
  foldl_keeps (P := fun t : State => t.regs = s.regs ∧ t.railsUp = s.railsUp) (fun _ _ ht => ht) ⟨rfl, rfl⟩

theorem exec_sensorSupplyUp_restarted {s : State} (h : s.railsUp = true) :
    Settles .sensorSupplyUp s fun u => u.regs = s.railsShown.regs ∧ u.railsUp = false := by
  have hgoes : (!s.railsUp) = false := by rw [h]; rfl
  exact ⟨_, if_neg (ne_true_of_eq_false hgoes), forAll_modMfe_keeps s.railsShown⟩

theorem State.flag_of_regs {s t : State} (h : t.regs = s.regs) (f : Field) : t.flag f = s.flag f := by
  rw [State.flag, State.flag, State.fld, State.fld, State.reg, State.reg, h]

theorem exec_mfeSupplyRestart_writable {w : Writer} {s : State} (hw : s.writable w Reg.MFE_SUPPLY = true) :
    exec (.mfeSupplyRestart w) s = .next (if s.noneActive then s.supplyRestart else s.regLocked w Reg.MFE_SUPPLY 1) :=
  State.access_writable 1 (fun s => if s.noneActive then s.supplyRestart else s.regLocked w Reg.MFE_SUPPLY 1) hw

/-! ## The offset measurement (R205, R221, R222) -/

section Offset
variable {x : Fin 4} {vals : List (Time × Raw3)} {l : Option (List Raw3)} {s : State}

theorem exec_offsetMeasurementEnd_running (hr : s.mfe[x].ofsRun = true) (hc : s.clocksRun x = true)
    (hl : s.offsetSpan x vals = some l) (hs : (s.ownerAxis x).any (fun a => s.axState a == AxSt.STARTING) = false) :
    exec (.offsetMeasurementEnd x vals) s = .next (s.offsetsEnd x l false).settle := by
  simp only [exec_offsetMeasurementEnd, execOffsetMeasurementEnd, hr, hc, hl, hs, Bool.and_self, Bool.false_and,
    Bool.false_eq_true, if_false]
  cases s.ownerAxis x <;> rfl

theorem exec_offsetMeasurementEnd_lastOfStart {a : Fin 4} (hr : s.mfe[x].ofsRun = true) (hc : s.clocksRun x = true)
    (hl : s.offsetSpan x vals = some l) (ho : s.ownerAxis x = some a) (ha : s.axState a = AxSt.STARTING)
    (hlast : ((s.offsetsEnd x l true).axisSets a).any (fun y => (s.offsetsEnd x l true).mfe[y].ofsRun) = false) :
    exec (.offsetMeasurementEnd x vals) s = .next ((s.offsetsEnd x l true).measDecide a).settle := by
  have hs : (s.axState a == AxSt.STARTING) = true := beq_iff_eq.mpr ha
  simp only [exec_offsetMeasurementEnd, execOffsetMeasurementEnd, hr, hc, hl, ho, hs, hlast, Option.any_some, Bool.and_self,
    Bool.not_false, if_true]

end Offset

/-! ## Ground fault, DC link and shunt offset (R211, R213, R218) -/

/-- Whether an axis is active does not depend on a flag of another register than its SPD_STATE. -/
theorem State.axActive_setFlag (s : State) {f : Field} (a : Fin 4) (b : Bool) (h : Reg.SPD_STATE a ≠ f.addr) :
    (s.setFlag f b).axActive a = s.axActive a := by
  have hstate : (s.setFlag f b).axState a = s.axState a := s.fld_setFld_reg _ h
  rw [State.axActive, State.axActive, hstate]

theorem spdState_ne_mfeFault (a x : Fin 4) : Reg.SPD_STATE a ≠ Reg.MFE_FAULT x := by decide +revert

section Link
variable {x : Fin 4} {s : State}

theorem exec_ground_active {a : Fin 4} (hl : s.flag (Fld.MFE_STATUS_GF_LVL x) = true) (ht : s.gfTh x ≠ 0)
    (hb : s.inFallback x = false) (hv : s.allValid x = true) (hf : s.fld (Fld.MFE_CFG_FIT x) = 7)
    (ho : s.ownerAxis x = some a) (ha : s.axActive a = true) :
    exec (.ground x) s = .next ((s.setFlag (Fld.MFE_FAULT_GROUND x) true).axisFault a 3).settle := by
  have hown : (s.setFlag (Fld.MFE_FAULT_GROUND x) true).ownerAxis x = some a := ho
  have hact : (s.setFlag (Fld.MFE_FAULT_GROUND x) true).axActive a = true :=
    (s.axActive_setFlag a true (spdState_ne_mfeFault a x)).trans ha
  simp only [exec_ground, execGround, hl, bne_iff_ne.mpr ht, hb, hv, hf, hown, hact, BEq.rfl, Bool.not_false, Bool.and_self, if_true]

theorem exec_dcDiverge_apart (h : s.dcAgree x = false) :
    exec (.dcDiverge x) s = .next ((s.setFlag (Fld.MFE_FAULT_DC_DIVERGE x) true).latchMeas x 1).settle :=
  if_neg (ne_true_of_eq_false h)

theorem exec_shuntOffsetTrack_quiet {v : Rat}
    (hq : s.countsAsc x = true ∨ s.setState x = .block ∧ s.gc[chopChan x].offAt + 5000 ≤ s.sys.poweredNs)
    (hc : s.gc[chopChan x].cmd = false) : exec (.shuntOffsetTrack x v) s = .next (s.trackOffset x (shuntVolts v)) := by
  refine if_pos ?_
  simpa only [hc, Bool.not_false, Bool.and_true, Bool.or_eq_true, Bool.and_eq_true, beq_iff_eq, decide_eq_true_eq] using hq

end Link

/-! ## NTC (R212) -/

/-- A code lies no further up than an integer above its value. -/
theorem quantise_le {q : Rat} {n : Int} (h : q ≤ n) : quantise q ≤ n := by
  have hfloor : (q.floor : Rat) ≤ q := Rat.floor_le q
  have hle : q.floor ≤ n := by exact_mod_cast hfloor.trans h
  rw [quantise]
  split
  · exact hle
  · next hne =>
    have hlt : q.floor < n := by exact_mod_cast (lt_of_le_of_ne hfloor hne).trans_le h
    split
    · exact hlt
    · exact hle

/-- The pin voltage of a conversion and the excitation that it asks for (R212). -/
def State.ntcTaken (s : State) (x : Fin 4) (volts : Rat) : State :=
  s.modMfe x fun m => { m with ntcV := volts, ntcLow := decide (7 / 2 < volts) || m.ntcLow && !decide (volts < 3 / 10) }

/-- What the registers of a set show of its NTC (R226, R229). -/
def State.ntcShown (s : State) (x : Fin 4) (op short : Bool) (r : Nat) : State :=
  ((s.setFlag (Fld.MFE_STATUS_NTC_OPEN x) op).setFlag (Fld.MFE_STATUS_NTC_SHORT x) short).setFld (Fld.MFE_NTC_R x) r

theorem mfeStatus_ne_mfeNtc (x : Fin 4) : Reg.MFE_STATUS x ≠ Reg.MFE_NTC x := by decide +revert

section Ntc
variable {x : Fin 4} {s : State}

theorem State.ntcTaken_ntcV (volts : Rat) : (s.ntcTaken x volts).mfe[x].ntcV = volts := by
  simp only [State.ntcTaken, State.modMfe, Fin.getElem_fin, Vector.getElem_set_self]

theorem State.ntcShown_open {op short : Bool} {r : Nat} : (s.ntcShown x op short r).flag (Fld.MFE_STATUS_NTC_OPEN x) = op := by
  rw [State.ntcShown, State.flag_setFld_other _ _ (.inl (mfeStatus_ne_mfeNtc x))]
  exact (State.flag_setFlag_other _ short (.inr (.inr (by exact Nat.le_refl 1)))).trans
    (s.flag_setFlag op (Nat.le_of_ble_eq_true rfl) Nat.one_pos)

theorem State.ntcShown_short {op short : Bool} {r : Nat} : (s.ntcShown x op short r).flag (Fld.MFE_STATUS_NTC_SHORT x) = short := by
  rw [State.ntcShown, State.flag_setFld_other _ _ (.inl (mfeStatus_ne_mfeNtc x))]
  exact State.flag_setFlag _ short (Nat.le_of_ble_eq_true rfl) Nat.one_pos

theorem State.ntcShown_r {op short : Bool} {r : Nat} (hr : r < 2 ^ 20) : (s.ntcShown x op short r).fld (Fld.MFE_NTC_R x) = r :=
  State.fld_setFld _ (Nat.le_of_ble_eq_true rfl) hr

theorem exec_ntcSample_shown (volts : Rat) :
    exec (.ntcSample x volts) s =
      .next ((s.ntcTaken x volts).ntcShown x (decide (100_000 < ntcOhms volts s.mfe[x].ntcLow))
        (decide (ntcOhms volts s.mfe[x].ntcLow < 100))
        (if decide (100_000 < ntcOhms volts s.mfe[x].ntcLow) then 0xF_FFFF else (quantise (ntcOhms volts s.mfe[x].ntcLow)).toNat)) := rfl

theorem exec_ntcSample_open {volts : Rat} (h : 100_000 < ntcOhms volts s.mfe[x].ntcLow) :
    exec (.ntcSample x volts) s = .next ((s.ntcTaken x volts).ntcShown x true false 0xF_FFFF) := by
  have hhigh : ¬ ntcOhms volts s.mfe[x].ntcLow < 100 := not_lt.mpr ((by norm_num : (100 : Rat) ≤ 100_000).trans h.le)
  rw [exec_ntcSample_shown, decide_eq_true h, decide_eq_false hhigh, if_pos rfl]

theorem exec_ntcSample_inRange {volts : Rat} (h : ntcOhms volts s.mfe[x].ntcLow ≤ 100_000) :
    exec (.ntcSample x volts) s =
      .next ((s.ntcTaken x volts).ntcShown x false (decide (ntcOhms volts s.mfe[x].ntcLow < 100))
        (quantise (ntcOhms volts s.mfe[x].ntcLow)).toNat) := by
  rw [exec_ntcSample_shown, decide_eq_false (not_lt.mpr h), if_neg Bool.false_ne_true]

theorem quantise_fits_ntcR {ohms : Rat} (h : ohms ≤ 100_000) : (quantise ohms).toNat < 2 ^ 20 := by
  have hle : quantise ohms ≤ 100_000 := quantise_le (by exact_mod_cast h)
  omega

end Ntc

/-- Settles O15, clause by clause. -/
theorem measurementEvents : Obligations.MeasurementEvents := by
  unfold Obligations.MeasurementEvents
  refine ⟨?_, ?_, ?_, ?_, ?_, ?_, ?_, ?_, ?_, ?_, ?_, ?_, ?_, ?_, ?_, ?_⟩
  · exact fun x k s hc hf hd => exec_stuck_sd hc hf hd
  · exact fun x s hc hd => exec_sdclk_anySd hc hd
  · intro x k s hc hf hd h
    rw [exec_sdInputRecover_sd hc hf hd, State.inputHeld_iff.mpr h]
    rfl
  · intro x k s hc hf hd ho hx
    rw [exec_sdInputRecover_sd hc hf hd, State.inputHeld_eq_false ho hx]
    rfl
  · exact fun s => rfl
  · exact fun w s hw hn => (exec_mfeSupplyRestart_writable hw).trans (congrArg _ (if_pos hn))
  · exact fun w s hw hn => (exec_mfeSupplyRestart_writable hw).trans (congrArg _ (if_neg (ne_true_of_eq_false hn)))
  · intro s h
    obtain ⟨u, hu, hregs, hrails⟩ := exec_sensorSupplyUp_restarted h
    exact ⟨u, hu, hrails, (State.flag_of_regs hregs _).trans s.railsShown_on,
      (State.flag_of_regs hregs _).trans s.railsShown_overload⟩
  · exact fun x vals l s hr hc hl hs => exec_offsetMeasurementEnd_running hr hc hl hs
  · exact fun x a vals l s hr hc hl ho ha hlast => exec_offsetMeasurementEnd_lastOfStart hr hc hl ho ha hlast
  · exact fun x a s hl ht hb hv hf ho ha => exec_ground_active hl ht hb hv hf ho ha
  · exact fun x s h => exec_dcDiverge_apart h
  · exact fun x s h => ⟨if_pos h, if_pos h⟩
  · exact fun x v s hq hc => exec_shuntOffsetTrack_quiet hq hc
  · exact fun x volts s h => ⟨_, exec_ntcSample_open h, State.ntcShown_open, State.ntcShown_short, State.ntcShown_r (by decide)⟩
  · intro x volts s _ h
    exact ⟨_, exec_ntcSample_inRange h, State.ntcShown_open, State.ntcShown_short, State.ntcShown_r (quantise_fits_ntcR h),
      State.ntcTaken_ntcV volts⟩

end Sys2Proof.Machine
end

section
namespace Sys2Proof.Machine

/-! ## FUNC_REINIT (R265, R391, R530, R547, R584, R605) -/

section Reinit
variable {c : Instr} {h : Desc} {s r : State} {code count : Nat} {refuse : State → Option Nat} {f : State → State}
  (hx : exec c s = s.reinit h code count refuse f) (ht : s.takes h 0x18 = true) (hr : s.taken h 0x18 = r)
include hx ht hr

/-- The reinit of an instance outside the range of its function (R605). -/
theorem exec_reinit_outOfRange (hi : count ≤ h.index.toNat) : exec c s = .next (r.complete h 0x18 St.BAD_FIELD) := by
  rw [hx, State.reinit, State.dispatch_takes _ ht, hr, if_pos hi]

theorem exec_reinit_refused {st : Nat} (hi : h.index.toNat < count) (hs : refuse r = some st) :
    exec c s = .next (r.complete h 0x18 st) := by
  rw [hx, State.reinit, State.dispatch_takes _ ht, hr, if_neg (Nat.not_le.mpr hi)]
  simp only [hs]

/-- An instance that is not refused gets its RECOVER entry first and then the effect of its function (R605, R609). -/
theorem exec_reinit_carried {t : State} (hi : h.index.toNat < count) (hn : refuse r = none)
    (hf : f (r.journalFw 0x010A 2 (BitVec.ofNat 32 code) (BitVec.ofNat 32 h.index.toNat)) = t) : exec c s = .next t := by
  rw [hx, State.reinit, State.dispatch_takes _ ht, hr, if_neg (Nat.not_le.mpr hi)]
  simp only [hn, hf]

end Reinit

/-- A lane is unavailable while UNAVAIL is set and after a failure at Dawn (R89, R265). -/
theorem State.laneUnavail_iff (r : State) {h : Desc} (hi : h.index.toNat < 4) :
    (r.flag (Fld.LOOM_FAULT_UNAVAIL (Fin.ofNat 4 h.index.toNat)) ||
      r.bstFailed Fld.BST_FAIL_LANE (Fin.ofNat 4 h.index.toNat).val) = true ↔
    r.flag (Fld.LOOM_FAULT_UNAVAIL (Fin.ofNat 4 h.index.toNat)) = true ∨ r.bstFailed Fld.BST_FAIL_LANE h.index.toNat = true := by
  rw [Bool.or_eq_true, Fin.val_ofNat, Nat.mod_eq_of_lt hi]

theorem State.laneAvailable {r : State} {h : Desc} (hi : h.index.toNat < 4)
    (hu : r.flag (Fld.LOOM_FAULT_UNAVAIL (Fin.ofNat 4 h.index.toNat)) = false)
    (hb : r.bstFailed Fld.BST_FAIL_LANE h.index.toNat = false) :
    ¬ (r.flag (Fld.LOOM_FAULT_UNAVAIL (Fin.ofNat 4 h.index.toNat)) ||
      r.bstFailed Fld.BST_FAIL_LANE (Fin.ofNat 4 h.index.toNat).val) = true := by
  rw [r.laneUnavail_iff hi, hu, hb]
  decide

/-- Settles O34: each function's instance is out of range, refused or carried out. -/
theorem functionReinit : Obligations.FunctionReinit := by
  unfold Obligations.FunctionReinit
  refine ⟨?_, ?_, ?_, ?_, ?_, ?_, ?_, ?_, ?_, ?_, ?_, ?_, ?_, ?_, ?_⟩
  · intro h s r ht hr hi hq
    exact exec_reinit_carried (exec_funcReinitSq ..) ht hr hi (if_neg hq) rfl
  · intro h s r ht hr hi
    exact exec_reinit_carried (exec_funcReinitCq ..) ht hr hi rfl rfl
  · intro h s r ht hr hi hb
    exact exec_reinit_carried (exec_funcReinitCan ..) ht hr hi (if_neg (ne_true_of_eq_false hb)) rfl
  · intro h s r ht hr hi hb
    exact exec_reinit_refused (exec_funcReinitCan ..) ht hr hi (if_pos hb)
  · intro h s r ht hr hi hl hon
    refine exec_reinit_carried (exec_funcReinitWeftPort ..) ht hr hi (if_neg hl) ?_
    simp only [if_neg hon]
  · intro h s r ht hr hi hl hoff
    refine exec_reinit_carried (exec_funcReinitWeftPort ..) ht hr hi (if_neg hl) ?_
    simp only [if_pos hoff]
  · intro h s r ht hr hi hl
    exact exec_reinit_refused (exec_funcReinitWeftPort ..) ht hr hi (if_pos hl)
  · intro h ok s r ht hr hi hp
    exact exec_reinit_carried (exec_funcReinitFeedbackPort ..) ht hr hi hp rfl
  · intro h ok st s r ht hr hi hp
    exact exec_reinit_refused (exec_funcReinitFeedbackPort ..) ht hr hi hp
  · intro h s r ht hr hi hu hb hf
    refine exec_reinit_carried (exec_funcReinitLane ..) ht hr hi ((if_neg (State.laneAvailable hi hu hb)).trans (if_neg ?_)) rfl
    rw [hf]
    decide
  · intro h s r ht hr hi hu hb hf
    refine exec_reinit_refused (exec_funcReinitLane ..) ht hr hi ((if_neg (State.laneAvailable hi hu hb)).trans (if_pos ?_))
    rw [hf]
    rfl
  · intro h s r ht hr hi hbad
    exact exec_reinit_refused (exec_funcReinitLane ..) ht hr hi (if_pos ((r.laneUnavail_iff hi).mpr hbad))
  · intro h ok s r ht hr hi
    exact ⟨exec_reinit_outOfRange (exec_funcReinitCan ..) ht hr hi, exec_reinit_outOfRange (exec_funcReinitWeftPort ..) ht hr hi,
      exec_reinit_outOfRange (exec_funcReinitFeedbackPort ..) ht hr hi, exec_reinit_outOfRange (exec_funcReinitLane ..) ht hr hi⟩
  · intro h s r ht hr hi
    exact ⟨exec_reinit_outOfRange (exec_funcReinitSq ..) ht hr hi, exec_reinit_outOfRange (exec_funcReinitCq ..) ht hr hi⟩
  · intro h s r ht hr hq
    rcases Nat.lt_or_ge h.index.toNat 16 with hi | hi
    · exact exec_reinit_refused (exec_funcReinitSq ..) ht hr hi (if_pos hq)
    · exact exec_reinit_outOfRange (exec_funcReinitSq ..) ht hr hi

end Sys2Proof.Machine
end

section
namespace Sys2Proof.Machine

/-! ## The field tests of motion (R282, R293, R336, R362, R391, R404, R423) -/

/-- A terminal measurement is refused exactly without its axis or with a set of it outside BLOCK (R293). -/
theorem State.termBad_iff (s : State) (a : Fin 4) :
    (!s.axisExists a || !((s.axisSets a).all fun x => s.setState x == .block)) = true ↔
      ¬ (s.axisExists a = true ∧ ((s.axisSets a).all fun x => s.setState x == .block) = true) := by
  rw [Bool.or_eq_true, Bool.not_eq_true', Bool.not_eq_true', not_and_or, Bool.not_eq_true, Bool.not_eq_true]

/-- lsh drop is refused exactly outside READY, without a shared axis or before every member joined (R336). -/
theorem State.dropBad_iff (s : State) (a : Fin 4) :
    (s.mode != .ready || !s.isShared a || !s.allJoined a) = true ↔
      ¬ (s.mode = .ready ∧ s.isShared a = true ∧ s.allJoined a = true) := by
  simp only [Bool.or_eq_true, bne_iff_ne, Bool.not_eq_true', not_and_or, Bool.not_eq_true, or_assoc, ne_eq]

/-- A device withholds its frames for 1 to 10 cycles (R336). -/
theorem dropCount_bad_iff (n : Nat) : (decide (n = 0) || decide (10 < n)) = true ↔ n = 0 ∨ 10 < n := by
  rw [Bool.or_eq_true, decide_eq_true_eq, decide_eq_true_eq]

theorem dropCount_good {n : Nat} (h0 : 0 < n) (h10 : n ≤ 10) : ¬ (decide (n = 0) || decide (10 < n)) = true := by
  rw [dropCount_bad_iff]
  omega

/-- Settles O46: each command is served under its own conditions. -/
theorem motionFieldTests : Obligations.MotionFieldTests := by
  unfold Obligations.MotionFieldTests
  refine ⟨?_, ?_, ?_, ?_, ?_, ?_, ?_, ?_, ?_, ?_, ?_, ?_, ?_, ?_⟩
  · intro a s h ha hblock
    exact serves_conRun (exec_posTerm ..) h (if_neg ((not_congr (s.takeLine.termBad_iff a)).mpr (not_not.mpr ⟨ha, hblock⟩)))
  · intro a s h hbad
    exact serves_conRun (exec_posTerm ..) h (if_pos ((s.takeLine.termBad_iff a).mpr hbad))
  · intro a s h hm hl
    exact serves_conRun (exec_posLearn ..) h ((if_neg (not_bne_of_eq hm)).trans (if_neg (by simp [hl])))
  · intro a s h hm hl
    exact serves_conRun (exec_posLearn ..) h ((if_neg (not_bne_of_eq hm)).trans (if_pos (by simp [hl])))
  · intro a s h hm
    exact serves_conRun (exec_posLearn ..) h (if_pos (bne_iff_ne.mpr hm))
  · intro a s h
    exact serves_conRun (exec_lshMembers ..) h rfl
  · intro a n s h h0 h10 hm hs hj
    refine serves_conRun (exec_lshDrop ..) h ((if_neg (dropCount_good h0 h10)).trans (if_neg ?_))
    exact (not_congr (s.takeLine.dropBad_iff a)).mpr (not_not.mpr ⟨hm, hs, hj⟩)
  · intro a n s h h0 h10 hbad
    refine serves_conRun (exec_lshDrop ..) h ((if_neg (dropCount_good h0 h10)).trans (if_pos ?_))
    exact (s.takeLine.dropBad_iff a).mpr hbad
  · intro a n s h hn
    exact serves_conRun (exec_lshDrop ..) h (if_pos ((dropCount_bad_iff n).mpr hn))
  · intro n s h
    exact serves_conRun (exec_fbiWatch ..) h rfl
  · intro n ok s h hm hp
    refine serves_conRun (exec_fbiLoop ..) h ((State.inModes_served hm).trans ?_)
    simp only [hp]
  · intro n ok st s h hm hp
    refine serves_conRun (exec_fbiLoop ..) h ((State.inModes_served hm).trans ?_)
    simp only [hp]
  · intro n ok s h hm
    exact serves_conRun (exec_fbiLoop ..) h (State.inModes_denied hm)
  · intro c s h
    exact serves_conRun (exec_prgLim ..) h rfl

end Sys2Proof.Machine
end

section
namespace Sys2Proof.Machine

/-! ## Injection, polarity and the loss of lock (R279, R283, R285, R287, R289) -/

section Rotor
variable {a : Fin 4} {s : State}

/-- Without a start the end of a full period does nothing beyond the evaluation and the learning of it (R279, R282). -/
theorem exec_injectionPeriodEnd_noStart (hinj : s.flag (Fld.POS_STATUS_INJ_ON a) = true)
    (hfull : 2 * s.injDiv a ≤ s.pos[a].injN) (hstart : ((s.injectionPeriod a).learnPeriod a).pos[a].start = none) :
    exec (.injectionPeriodEnd a) s = .next ((s.injectionPeriod a).learnPeriod a) := by
  have hdue : (s.flag (Fld.POS_STATUS_INJ_ON a) && decide (2 * s.injDiv a ≤ s.pos[a].injN)) = true :=
    Bool.and_eq_true_iff.mpr ⟨hinj, decide_eq_true hfull⟩
  refine (if_pos hdue).trans ?_
  simp only [hstart]

theorem exec_injectionStop_fast (hinj : s.flag (Fld.POS_STATUS_INJ_ON a) = true) (hfast : s.hoHigh a ≤ s.absRpm a)
    (hlearn : s.flag (Fld.POS_MAP_LEARNING a) = false) : exec (.injectionStop a) s = .next (s.stopInjection a) := by
  refine if_pos ?_
  rw [hinj, hlearn, decide_eq_true hfast]
  rfl

theorem exec_lockLost_fourth (hact : s.axActive a = true) (hout : 4 ≤ s.pos[a].outN) :
    exec (.lockLost a) s =
      .next ((((s.setFlag (Fld.POS_FAULT_RES_ANG a) (s.pos[a].why.getLsbD 0)).setFlag (Fld.POS_FAULT_RES_MAG a)
        (s.pos[a].why.getLsbD 1)).setFlag (Fld.POS_FAULT_RES_BLEND a) (s.pos[a].why.getLsbD 2)).loseLock a).settle :=
  if_pos (Bool.and_eq_true_iff.mpr ⟨hact, decide_eq_true hout⟩)

theorem exec_zeroUpd_coasting (hcoast : s.pos[a].coast = true) (hact : s.axActive a = true) :
    exec (.zeroUpd a) s = .next (s.axisFault a 4).settle :=
  if_pos (Bool.and_eq_true_iff.mpr ⟨hcoast, hact⟩)

/-! ### The polarity pulses (R283) -/

/-- The polarity is decided: the start goes on with the angle kept, or with `turn` by half a turn. -/
def State.polarityDone (s : State) (a : Fin 4) (st : Start) (turn : Bool) : State :=
  ((s.modPos a fun p =>
    { p with
      pulse := 0, iref := some DQ.zero, start := some { st with result := some 2 }
      thInj := if turn then fracTurn (p.thInj + 1 / 2) else p.thInj
      th := if turn then fracTurn (p.th + 1 / 2) else p.th }).setFlag
    (Fld.POS_STATUS_POL_DONE a) true).setFld (Fld.POS_STATUS_START a) 8

variable {st : Start} {ripple : Rat}

/-- The first pulse, at +I_POL, keeps its ripple for the comparison, and the second begins at -I_POL. -/
theorem exec_polarityPulseEnd_first (hstart : s.pos[a].start = some st) (hpulse : s.pos[a].pulse = 1) :
    exec (.polarityPulseEnd a ripple) s =
      .next (s.modPos a fun p => { p with pulse := 2, ripP := ripple, iref := some { d := -s.iPol a, q := 0 } }) := by
  simp only [exec_polarityPulseEnd, execPolarityPulseEnd, hstart, hpulse, if_true]

/-- The second pulse compares the ripples both ways: neither larger by more than 2 % fails the start. -/
theorem exec_polarityPulseEnd_second (hstart : s.pos[a].start = some st) (hpulse : s.pos[a].pulse = 2) :
    exec (.polarityPulseEnd a ripple) s =
      if !decide (s.pos[a].ripP * 102 / 100 < ripple) && !decide (ripple * 102 / 100 < s.pos[a].ripP) then
        .next (s.failStart a 0x10).settle
      else .next (s.polarityDone a st (decide (s.pos[a].ripP * 102 / 100 < ripple))).settle := by
  have hnotFirst : ¬ s.pos[a].pulse = 1 := by rw [hpulse]; decide
  simp only [exec_polarityPulseEnd, execPolarityPulseEnd, hstart]
  exact (if_neg hnotFirst).trans (if_pos hpulse)

theorem exec_polarityPulseEnd_equal (hstart : s.pos[a].start = some st) (hpulse : s.pos[a].pulse = 2)
    (hturn : ¬ s.pos[a].ripP * 102 / 100 < ripple) (hkeep : ¬ ripple * 102 / 100 < s.pos[a].ripP) :
    exec (.polarityPulseEnd a ripple) s = .next (s.failStart a 0x10).settle := by
  rw [exec_polarityPulseEnd_second hstart hpulse, decide_eq_false hturn, decide_eq_false hkeep]
  rfl

theorem exec_polarityPulseEnd_turned (hstart : s.pos[a].start = some st) (hpulse : s.pos[a].pulse = 2)
    (hturn : s.pos[a].ripP * 102 / 100 < ripple) :
    exec (.polarityPulseEnd a ripple) s = .next (s.polarityDone a st true).settle := by
  rw [exec_polarityPulseEnd_second hstart hpulse, decide_eq_true hturn]
  rfl

theorem exec_polarityPulseEnd_kept (hstart : s.pos[a].start = some st) (hpulse : s.pos[a].pulse = 2)
    (hkeep : ripple * 102 / 100 < s.pos[a].ripP) (hturn : ¬ s.pos[a].ripP * 102 / 100 < ripple) :
    exec (.polarityPulseEnd a ripple) s = .next (s.polarityDone a st false).settle := by
  rw [exec_polarityPulseEnd_second hstart hpulse, decide_eq_true hkeep, decide_eq_false hturn]
  rfl

end Rotor

/-- Settles O17, clause by clause: the commands under their guards, and the three verdicts on the polarity. -/
theorem rotorPosition : Obligations.RotorPosition := by
  unfold Obligations.RotorPosition
  refine ⟨?_, ?_, ?_, ?_, ?_, ?_, ?_, ?_⟩
  · exact fun a s hinj hfull hstart => exec_injectionPeriodEnd_noStart hinj hfull hstart
  · exact fun a s hinj hfast hlearn => exec_injectionStop_fast hinj hfast hlearn
  · exact fun a ripple st s hstart hpulse => exec_polarityPulseEnd_first hstart hpulse
  · exact fun a ripple st s hstart hpulse hturn hkeep => exec_polarityPulseEnd_equal hstart hpulse hturn hkeep
  · exact fun a ripple st s hstart hpulse hturn _ => exec_polarityPulseEnd_turned hstart hpulse hturn
  · exact fun a s hact hout => exec_lockLost_fourth hact hout
  · exact fun a ripple st s hstart hpulse hkeep hturn => exec_polarityPulseEnd_kept hstart hpulse hkeep hturn
  · exact fun a s hcoast hact => exec_zeroUpd_coasting hcoast hact

end Sys2Proof.Machine
end

section
namespace Sys2Proof.Machine

/-! ## Axis descriptors (R306, R307, R309, R322, R353) -/

section AxisDesc
variable {h : Desc} {a : Fin 4} {s : State}

/-- A reference that is taken on an axis that exists: refused, or held as the mode's own and acknowledged (R309). -/
theorem exec_refSet_taken {v : Rat} {value : Word} (ht : s.takes h 0x04 = true) (ha : s.axisOf h = some a)
    (hv : f32ToRat value = some v) : exec (.refSet h value) s = .next (
      if 1 < h.sub.toNat then s.complete h 0x04 St.BAD_FIELD
      else if s.isFollower a then s.complete h 0x04 St.NOT_LEAD
      else if s.axState a == AxSt.STOPPING then s.complete h 0x04 St.STOPPING
      else if s.fld (Fld.SPD_CFG_MODE a) != 2 * h.sub.toNat then s.complete h 0x04 St.MODE_DENIED
      else (when (s.fld (Fld.SPD_CFG_MODE a) == 0)
        (·.setReg (Reg.SPD_NCMD a) (ratToF32 (clampRat (-s.p24 4 a) (s.p24 4 a) v)))
        (s.modSpd a fun p =>
          { p with
            ncmd := if s.fld (Fld.SPD_CFG_MODE a) = 0 then clampRat (-s.p24 4 a) (s.p24 4 a) v else p.ncmd
            tcmd := if s.fld (Fld.SPD_CFG_MODE a) = 2 then v else p.tcmd
            slackHold := p.slackHold && !decide (0 < s.lineSign a * v) })).complete h 0x04 St.SUCCESS) := by
  rw [exec_refSet, execRefSet, State.dispatch_takes _ ht, State.taken_plain rfl]
  simp only [ha, hv]

/-- An AXIS_ENABLE that is refused completes with its status (R307). -/
theorem exec_axisEnable_refused {st : Nat} (ht : s.takes h 0x08 = true) (hr : s.enableRefusal h = some st) :
    exec (.axisEnable h) s = .next (s.refuse h 0x08 st) := by
  rw [exec_axisEnable, execAxisEnable, State.dispatch_takes _ ht, State.taken_plain rfl]
  simp only [hr]

/-- An accepted AXIS_ENABLE waits, in RUN, for the end of the start (R307). -/
def State.enabling (s : State) (h : Desc) (a : Fin 4) : State :=
  (when (s.mode == .ready) (·.setMode .run) (s.reqRes 1)).addFlight h 0x08 a.val

theorem State.isShared_addFlight (s : State) (h : Desc) (op k : Nat) (a : Fin 4) : (s.addFlight h op k).isShared a = s.isShared a := rfl

theorem State.isFollower_addFlight (s : State) (h : Desc) (op k : Nat) (a : Fin 4) :
    (s.addFlight h op k).isFollower a = s.isFollower a := rfl

/-- The command that a lead hands to its group (R353). -/
def State.handToGroup (s : State) (a : Fin 4) (k : Nat) : State := { s with lsh := s.lsh.set a { s.lsh[a] with cmd := k } }

theorem State.handToGroup_cmd (s : State) (a : Fin 4) (k : Nat) : (s.handToGroup a k).lsh[a].cmd = k := by
  simp [State.handToGroup]

/-- An accepted AXIS_ENABLE starts its axis, and a lead hands it to its group (R307, R353). -/
theorem exec_axisEnable_accepted (ht : s.takes h 0x08 = true) (hr : s.enableRefusal h = none) (ha : s.axisOf h = some a) :
    exec (.axisEnable h) s = .next ((when ((s.enabling h a).isShared a && !(s.enabling h a).isFollower a) (·.handToGroup a 1)
      (s.enabling h a)).beginStart a false).settle := by
  rw [exec_axisEnable, execAxisEnable, State.dispatch_takes _ ht, State.taken_plain rfl]
  simp only [hr, ha]
  rfl

theorem State.enabling_run (hm : s.mode = .run) : s.enabling h a = (s.reqRes 1).addFlight h 0x08 a.val := by
  rw [State.enabling, hm]
  rfl

theorem State.enabling_ready (hm : s.mode = .ready) : s.enabling h a = ((s.reqRes 1).setMode .run).addFlight h 0x08 a.val := by
  rw [State.enabling, hm]
  rfl

/-- An axis that is not shared starts without a group (R307, R353). -/
theorem exec_axisEnable_alone (ht : s.takes h 0x08 = true) (hr : s.enableRefusal h = none) (ha : s.axisOf h = some a)
    (hs : (s.enabling h a).isShared a = false) : exec (.axisEnable h) s = .next ((s.enabling h a).beginStart a false).settle := by
  rw [exec_axisEnable_accepted ht hr ha, hs]
  rfl

/-- An AXIS_DISABLE on an axis that exists goes to the group of an active lead, and else acts at once (R306, R353). -/
theorem exec_axisDisable_taken (ht : s.takes h 0x09 = true) (ha : s.axisOf h = some a) : exec (.axisDisable h) s = .next (
    if s.isShared a && !s.isFollower a && s.axActive a then
      (s.addFlight h 0x09 a.val).handToGroup a 4
    else ((s.disableNow a).settle).complete h 0x09 St.SUCCESS) := by
  rw [exec_axisDisable, execAxisDisable, State.dispatch_takes _ ht, State.taken_plain rfl]
  simp only [ha]
  rfl

/-- A heave entry joins those that wait, or is counted as late (R322). -/
def State.takeHeave (s : State) (a : Fin 4) (now : Time) (e : HeaveEntry) : State :=
  if e.time.toNat < now.toNat then s.incSat Fld.HIF_CNT_HV_LATE else s.modSpd a fun p => { p with hv := insertHeave e p.hv }

/-- Heave entries for an axis that takes them are looked at one after the other (R322). -/
theorem exec_heaveStream_taken {es : List HeaveEntry} (ht : s.takes h 0x20 = true) (ha : s.axisOf h = some a)
    (h0 : 0 < h.sub.toNat) (h3 : h.sub.toNat ≤ 3) (hf : s.isFollower a = false) (hon : s.heaveOn a = true) :
    exec (.heaveStream h es) s = .next ((forAll es (fun e t => t.takeHeave a s.weft e) s).complete h 0x20 St.SUCCESS) := by
  have hsub : ¬ (h.sub.toNat = 0 ∨ 3 < h.sub.toNat) := by omega
  rw [exec_heaveStream, execHeaveStream, State.dispatch_takes _ ht, State.taken_plain rfl]
  simp only [ha, if_neg hsub, hf, hon]
  rfl

end AxisDesc

theorem forAll_congr {α : Type} {f g : α → State → State} {l : List α} (s : State) (h : ∀ x ∈ l, ∀ t, f x t = g x t) :
    forAll l f s = forAll l g s :=
  List.foldl_ext _ _ _ fun t x hx => h x hx t

/-- Settles O20, clause by clause. -/
theorem motionCommands : Obligations.MotionCommands := by
  unfold Obligations.MotionCommands
  refine ⟨?_, ?_, ?_, ?_, ?_, ?_, ?_, ?_, ?_, ?_, ?_, ?_, ?_, ?_, ?_⟩
  · intro h a v value s ht ha hv hsub hlead hmode hstop
    simp only [exec_refSet_taken ht ha hv, hsub, hlead, hmode, beq_eq_false_iff_ne.mpr hstop]
    rfl
  · intro h a v value s ht ha hv hsub hlead _ hstop
    simp only [exec_refSet_taken ht ha hv, hsub, hlead, hstop]
    rfl
  · intro h a v value s ht ha hv hsub hlead hmode hstop
    simp only [exec_refSet_taken ht ha hv, hsub, hlead, hmode, beq_eq_false_iff_ne.mpr hstop]
    rfl
  · intro h a v value s ht ha hv hsub hfollow
    rw [exec_refSet_taken ht ha hv, if_neg (Nat.not_lt.mpr hsub), if_pos hfollow]
  · intro h a v value s ht ha hv hsub hlead hstop hmode
    rw [exec_refSet_taken ht ha hv, if_neg (Nat.not_lt.mpr hsub), hlead, if_neg Bool.false_ne_true,
      if_neg (by simpa using hstop), if_pos (bne_iff_ne.mpr hmode)]
  · intro h s ht hr
    exact exec_axisEnable_refused ht hr
  · intro h st s ht hr hst
    rw [exec_axisEnable_refused ht hr, State.refuse, beq_false_of_ne hst]
    rfl
  · intro h a s ht hr ha hm hs
    have he := s.enabling_run (h := h) (a := a) hm
    rw [exec_axisEnable_alone ht hr ha (by rwa [he]), he]
    rfl
  · intro h a s ht hr ha hm hs
    have he := s.enabling_ready (h := h) (a := a) hm
    rw [exec_axisEnable_alone ht hr ha (by rwa [he]), he]
    rfl
  · intro h a s ht hr ha hm hs hlead
    refine ⟨_, exec_axisEnable_accepted ht hr ha, (s.enabling h a).handToGroup a 1, ?_, State.handToGroup_cmd _ a 1, ?_⟩
    · rw [State.enabling_run hm, State.isShared_addFlight, State.isFollower_addFlight, hs, hlead]
      rfl
    · rw [State.enabling_run hm]
      rfl
  · intro h a s ht ha hs hlead hact
    refine ⟨(s.addFlight h 0x09 a.val).handToGroup a 4, ?_, State.handToGroup_cmd _ a 4, rfl, rfl⟩
    rw [exec_axisDisable_taken ht ha, hs, hlead, hact]
    rfl
  · intro h a s ht ha hs
    rw [exec_axisDisable_taken ht ha, hs]
    rfl
  · intro h s ht ha
    rw [exec_axisDisable, execAxisDisable, State.dispatch_takes _ ht, State.taken_plain rfl]
    simp only [ha]
  · intro h a e s ht ha hsub hlead hon hlate
    rw [exec_heaveStream_taken ht ha (by rw [hsub]; decide) (by rw [hsub]; decide) hlead hon]
    exact congrArg (fun t : State => Host.Outcome.next (t.complete h 0x20 St.SUCCESS)) (if_pos hlate)
  · intro h a es s ht ha h0 h3 hlead hon hdue
    rw [exec_heaveStream_taken ht ha h0 h3 hlead hon]
    exact congrArg (fun t : State => Host.Outcome.next (t.complete h 0x20 St.SUCCESS))
      (forAll_congr s fun e he t => if_neg (Nat.not_lt.mpr (hdue e he)))

end Sys2Proof.Machine
end

section
namespace Sys2Proof.Machine

/-! ## What completions and events leave -/

/-- What completions, events and interrupts leave: every register between the core pairs and the host interface, the axes and the channels. -/
structure Answered (s0 s : State) : Prop where
  reg : ∀ a, 0x4004_0000 ≤ a → a < Reg.HIF_CFG → s.reg a = s0.reg a
  spd : s.spd = s0.spd
  prg : s.prg = s0.prg

section Answered
variable {s0 s t : State}

theorem Answered.refl (s : State) : Answered s s := ⟨fun _ _ _ => rfl, rfl, rfl⟩

theorem Answered.flag (h : Answered s0 s) {f : Field} (hlo : 0x4004_0000 ≤ f.addr) (hhi : f.addr < Reg.HIF_CFG) :
    s.flag f = s0.flag f := by
  rw [State.flag, State.flag, State.fld, State.fld, h.reg _ hlo hhi]

/-- A change of nothing that counts here. -/
theorem Answered.same (h : Answered s0 s) (hr : t.regs = s.regs) (hs : t.spd = s.spd) (hp : t.prg = s.prg) : Answered s0 t where
  reg a hlo hhi := by rw [← h.reg a hlo hhi, State.reg, State.reg, hr]
  spd := hs.trans h.spd
  prg := hp.trans h.prg

theorem Answered.ite {a b : State} {c : Prop} [Decidable c] (ha : Answered s0 a) (hb : Answered s0 b) :
    Answered s0 (if c then a else b) := by
  split <;> assumption

theorem Answered.whenever {c : Bool} {f : State → State} (hf : ∀ t, Answered s0 t → Answered s0 (f t)) (h : Answered s0 s) :
    Answered s0 (when c f s) := (hf s h).ite h

/-- A register of the core pairs, or of the host interface and the blocks after it. -/
theorem Answered.setReg (h : Answered s0 s) {a : Nat} {w : Word} (ha : a < 0x4004_0000 ∨ Reg.HIF_CFG ≤ a) :
    Answered s0 (s.setReg a w) where
  reg b hlo hhi := (s.reg_setReg_other w (by omega)).trans (h.reg b hlo hhi)
  spd := h.spd
  prg := h.prg

theorem Answered.setFld (h : Answered s0 s) {f : Field} {v : Nat} (ha : Reg.HIF_CFG ≤ f.addr) : Answered s0 (s.setFld f v) :=
  h.setReg (.inr ha)

theorem Answered.incSat (h : Answered s0 s) {f : Field} (ha : Reg.HIF_CFG ≤ f.addr) : Answered s0 (s.incSat f) := h.setFld ha

theorem hif_le {b n k : Nat} (h : Reg.HIF_CFG ≤ b) : Reg.HIF_CFG ≤ b + n * k := h.trans (Nat.le_add_right b _)

/-- The interrupt sources and the software interrupt of a pair (R494, R523). -/
theorem Reg.pairInterrupts_below (n : Fin 4) : Reg.LCK_IRQPEND n < 0x4004_0000 ∧ Reg.LCK_MSIP n < 0x4004_0000 := by
  decide +revert

theorem Answered.setMsip (h : Answered s0 s) {n : Fin 4} {b : Bool} : Answered s0 (s.setFlag (Fld.LCK_MSIP_MSIP n) b) :=
  h.setReg (.inl (Reg.pairInterrupts_below n).2)

theorem Answered.irq (h : Answered s0 s) {k : Nat} : Answered s0 (s.irq k) :=
  foldl_keeps (fun _ n ht => ht.setReg (.inl (Reg.pairInterrupts_below n).1)) h

theorem Answered.sramWrite (h : Answered s0 s) {a : Nat} {l : List Byte} : Answered s0 (s.sramWrite a l) := by
  obtain ⟨m, e⟩ := State.sramWrite_eq l s a
  rw [e]
  exact h.same rfl rfl rfl

theorem Answered.modSq (h : Answered s0 s) {n : Fin 16} {f : SubRing → SubRing} : Answered s0 (s.modSq n f) := h.same rfl rfl rfl

theorem Answered.modCq (h : Answered s0 s) {n : Fin 16} {f : CplRing → CplRing} : Answered s0 (s.modCq n f) := h.same rfl rfl rfl

theorem Answered.msix (h : Answered s0 s) {vec : Nat} : Answered s0 (s.msix vec) :=
  Answered.ite (h.setFld (show Reg.HIF_CFG ≤ Reg.MSIX_PBA by decide)) (h.same rfl rfl rfl)

theorem Answered.cqSignal (h : Answered s0 s) {n : Fin 16} : Answered s0 (s.cqSignal n) :=
  Answered.ite (h.modCq.setMsip (n := Fin.ofNat 4 _)) h.modCq.msix

theorem Answered.cqWrite (h : Answered s0 s) {n : Fin 16} {e : Completion} : Answered s0 (s.cqWrite n e) := by
  unfold State.cqWrite
  extract_lets tail phase own head e u next v w x y now z
  have hu : Answered s0 u := h.whenever fun _ ht => ht.setFld (hif_le (by decide))
  have hx : Answered s0 x := ((hu.whenever fun _ ht => ht.sramWrite).modCq.setFld (hif_le (by decide))).whenever fun _ ht =>
    ht.setFld (hif_le (by decide))
  have hy : Answered s0 y := hx.setFld (hif_le (by decide))
  exact hy.ite (Answered.ite hy.modCq.cqSignal hy.modCq)

theorem Answered.cqPush (h : Answered s0 s) {n : Fin 16} {e : Completion} : Answered s0 (s.cqPush n e) :=
  Answered.ite (h.incSat (hif_le (by decide)))
    (Answered.ite (h.whenever fun _ ht => ht.incSat (hif_le (by decide))).modCq h.cqWrite)

theorem Answered.event (h : Answered s0 s) {code : Nat} {data : List Word} : Answered s0 (s.event code data) := by
  refine h.ite (Answered.ite (h.incSat (hif_le (by decide))) (Answered.ite (Answered.incSat ?_ (by decide)) h.cqWrite))
  exact h.same rfl rfl rfl

theorem Answered.complete (h : Answered s0 s) {d : Desc} {opcode status detail : Nat} {data : List Word} :
    Answered s0 (s.complete d opcode status detail data) :=
  Answered.ite (Answered.ite (h.same rfl rfl rfl) (h.same rfl rfl rfl)) (Answered.ite h.modSq.modSq h.modSq.cqPush)

end Answered

/-! ## The limit flags (R409, R410) -/

@[simp] theorem State.prg_modPrg (s : State) (c : Fin 8) (f : PrgCh → PrgCh) : (s.modPrg c f).prg[c] = f s.prg[c] :=
  Vector.getElem_set_self c.isLt

/-- What a stop shows of itself stands in the bits 0 to 9 of PRG_CH_c_STATE; the fields above keep their value (R419). -/
theorem State.fld_setFlag_below {f g : Field} {s : State} {b : Bool} (hf : 10 ≤ f.lo) (hg : Nat.ble (g.lo + g.width) 10 = true) :
    (s.setFlag g b).fld f = s.fld f :=
  s.fld_setFld_other _ (.inr (.inr ((Nat.le_of_ble_eq_true hg).trans hf)))

section Limits
variable {f : Field} (s : State) (c : Fin 8) (hf : 10 ≤ f.lo)
include hf

theorem State.fld_gearEnd : (s.gearEnd c).fld f = s.fld f := by
  unfold State.gearEnd
  split
  · rfl
  · extract_lets n t
    have ht : t.fld f = s.fld f := (State.fld_setFlag_below hf rfl).trans (State.fld_setFlag_below hf rfl)
    exact ((State.fld_setFlag_below hf rfl).trans (State.modPrg_fld t c _ f)).trans ht

theorem State.fld_prgStop (k : StopKind) (halts : Bool) : (s.prgStop c k halts).fld f = s.fld f := by
  unfold State.prgStop
  extract_lets t cur take
  split
  · exact State.fld_setFlag_below hf rfl
  · rfl

theorem State.fld_softStop : (s.softStop c).fld f = s.fld f := by
  unfold State.softStop
  split
  · rfl
  · exact State.fld_setFlag_below hf rfl

theorem State.fld_hardStop (halts : Bool) : (s.hardStop c halts).fld f = s.fld f := by
  unfold State.hardStop
  extract_lets t n now fast u v
  have ht : t.fld f = s.fld f := (State.fld_setFlag_below hf rfl).trans (s.fld_gearEnd c hf)
  have hv : v.fld f = t.fld f := (State.fld_setFlag_below hf rfl).trans (State.fld_setFlag_below hf rfl)
  split
  · exact (State.fld_prgStop _ c hf .hard halts).trans ht
  · unfold when
    split
    · exact (State.fld_setFlag_below hf rfl).trans (hv.trans ht)
    · exact hv.trans ht

theorem State.fld_stopChan (k : StopKind) (halts : Bool) : (s.stopChan c k halts).fld f = s.fld f := by
  unfold State.stopChan
  split
  · exact s.fld_hardStop c hf halts
  · split
    · exact (State.fld_setFlag_below hf rfl).trans (s.fld_gearEnd c hf)
    · split
      · rfl
      · exact (State.fld_softStop _ c hf).trans (s.fld_prgStop c hf k halts)

/-- Reaching a limit leaves which limits stand and which directions are blocked (R409, R410). -/
theorem State.fld_limReached (neg : Bool) (hs : f.addr ≠ Reg.SVC_JSTAT) (hp : ∀ n : Fin 4, f.addr ≠ Reg.LCK_IRQPEND n) :
    (s.limReached c neg).fld f = s.fld f := by
  unfold State.limReached
  extract_lets t
  have ht : t.fld f = s.fld f := (s.journal_keeps ..).2 f hs hp
  rw [← ht]
  split
  · rfl
  · split
    · exact t.fld_stopChan c hf _ _
    · unfold when
      split <;> rfl

/-- So does the report of either limit of a pair, or of both. -/
theorem State.fld_limReports (p n : Bool) (hs : f.addr ≠ Reg.SVC_JSTAT) (hp : ∀ n : Fin 4, f.addr ≠ Reg.LCK_IRQPEND n) :
    (when n (·.limReached c true) (when p (·.limReached c false) s)).fld f = s.fld f := by
  cases p <;> cases n <;> simp only [when, if_true, Bool.false_eq_true, if_false, State.fld_limReached _ c hf _ hs hp]

end Limits

/-- The channel shows its limits: which are reached, whether both, and the directions they block (R409, R410). -/
def State.limFlags (s : State) (c : Fin 8) (p n : Bool) : State :=
  ((((s.setFlag (Fld.PRG_STATE_LIM_POS c) p).setFlag (Fld.PRG_STATE_LIM_NEG c) n).setFlag (Fld.PRG_STATE_LIM_BOTH c) (p && n)).setFlag
    (Fld.PRG_STATE_BLK_POS c) p).setFlag (Fld.PRG_STATE_BLK_NEG c) n

theorem State.limFlags_flags (s : State) (c : Fin 8) (p n : Bool) :
    (s.limFlags c p n).flag (Fld.PRG_STATE_LIM_POS c) = p ∧ (s.limFlags c p n).flag (Fld.PRG_STATE_LIM_NEG c) = n ∧
    (s.limFlags c p n).flag (Fld.PRG_STATE_BLK_POS c) = p ∧ (s.limFlags c p n).flag (Fld.PRG_STATE_BLK_NEG c) = n := by
  refine ⟨?_, ?_, ?_, ?_⟩ <;>
    simp (disch := decide +revert) only [State.limFlags, State.flag_setFlag_other, State.flag_setFlag]

theorem Reg.PRG_STATE_unreported (c : Fin 8) :
    Reg.PRG_STATE c ≠ Reg.SVC_JSTAT ∧ ∀ n : Fin 4, Reg.PRG_STATE c ≠ Reg.LCK_IRQPEND n := by decide +revert

theorem State.limShow_flag (s : State) (c : Fin 8) {f : Field} (ha : f.addr = Reg.PRG_STATE c) (hf : 10 ≤ f.lo) :
    (s.limShow c).flag f = (s.limFlags c ((s.limPair c).any fun n => s.lim.getLsbD n.val)
      ((s.limPair c).any fun n => s.lim.getLsbD (4 + n.val))).flag f := by
  obtain ⟨hs, hp⟩ := Reg.PRG_STATE_unreported c
  exact congrArg (· != 0) (State.fld_limReports _ c hf _ _ (ha ▸ hs) (ha ▸ hp))


/-- An input that is open shows as its limit reached, and blocks its direction (R409, R410). -/
theorem State.limShow_flags (s : State) (c : Fin 8) :
    ((s.limShow c).flag (Fld.PRG_STATE_LIM_POS c) = (s.limPair c).any fun n => s.lim.getLsbD n.val) ∧
    ((s.limShow c).flag (Fld.PRG_STATE_LIM_NEG c) = (s.limPair c).any fun n => s.lim.getLsbD (4 + n.val)) ∧
    (s.limShow c).flag (Fld.PRG_STATE_BLK_POS c) = (s.limShow c).flag (Fld.PRG_STATE_LIM_POS c) ∧
    (s.limShow c).flag (Fld.PRG_STATE_BLK_NEG c) = (s.limShow c).flag (Fld.PRG_STATE_LIM_NEG c) := by
  obtain ⟨hlp, hln, hbp, hbn⟩ := s.limFlags_flags c ((s.limPair c).any fun n => s.lim.getLsbD n.val)
    ((s.limPair c).any fun n => s.lim.getLsbD (4 + n.val))
  have hp : (s.limShow c).flag (Fld.PRG_STATE_LIM_POS c) = _ := (s.limShow_flag c rfl (Nat.le_of_ble_eq_true rfl)).trans hlp
  have hn : (s.limShow c).flag (Fld.PRG_STATE_LIM_NEG c) = _ := (s.limShow_flag c rfl (Nat.le_of_ble_eq_true rfl)).trans hln
  refine ⟨hp, hn, ?_, ?_⟩
  · rw [hp, s.limShow_flag c rfl (Nat.le_of_ble_eq_true rfl), hbp]
  · rw [hn, s.limShow_flag c rfl (Nat.le_of_ble_eq_true rfl), hbn]

/-! ## Evaluation and deviation (R406, R408, R414, R418) -/

/-- A channel shows that it neither moves nor stops, and where its profile stands (R408, R420). -/
def State.restShown (s : State) (c : Fin 8) : State :=
  ((s.setFlag (Fld.PRG_STATE_MOVING c) false).setFlag (Fld.PRG_STATE_STOPPING c) false).putProfile c

theorem State.putProfile_flag (s : State) (c : Fin 8) {f : Field} (ha : f.addr = Reg.PRG_STATE c) :
    (s.putProfile c).flag f = s.flag f :=
  (State.flag_setReg_other _ _ (ha ▸ portReg_ne (by decide))).trans (s.flag_setReg_other _ (ha ▸ portReg_ne (by decide)))

theorem State.restShown_prg (s : State) (c : Fin 8) : (s.restShown c).prg = s.prg := rfl

theorem State.restShown_flags (s : State) (c : Fin 8) :
    (s.restShown c).flag (Fld.PRG_STATE_MOVING c) = false ∧ (s.restShown c).flag (Fld.PRG_STATE_STOPPING c) = false := by
  constructor <;>
    simp (disch := decide +revert) only [State.restShown, State.putProfile_flag, State.flag_setFlag_other, State.flag_setFlag]

/-- While its axis is not active the profile of a POSITION axis stands at the measured position (R408). -/
def State.profileAtRest (s : State) (c : Fin 8) : State :=
  let p := s.portPos (s.commPort (chanAxis c))
  (s.modPrg c fun q =>
    { q with p := p, v := 0, a := 0, at_ := s.weft, plan := [], goal := p, rest := true, stop := none, halts := false
             replan := false, goAgain := false }).restShown c

/-- An evaluation of an axis channel in POSITION mode (R406, R408, R418). -/
theorem exec_profileEvaluation_axis {c : Fin 8} {s : State} (hw : s.awake = true) (hc : isStep c = false)
    (hp : s.posMode c = true) (hf : s.isFollower (chanAxis c) = false) :
    exec (.profileEvaluation c) s =
      if s.axState (chanAxis c) == AxSt.RUNNING || s.axState (chanAxis c) == AxSt.STOPPING then
        match s.portItem 50 c with
        | some n => .next (s.evalPulse c n).settle
        | none => .next (s.evalCurve c).settle
      else .next (s.profileAtRest c) := by
  simp only [exec_profileEvaluation, execProfileEvaluation, hw, hc, hp, hf]
  rfl

theorem exec_profileEvaluation_step {c : Fin 8} {s : State} (hw : s.awake = true) (hc : isStep c = true) :
    exec (.profileEvaluation c) s = if s.stepSource c == 1 then .next (s.evalCurve c) else .next s := by
  simp only [exec_profileEvaluation, execProfileEvaluation, hw, hc]
  rfl

theorem State.profileAtRest_shows (s : State) (c : Fin 8) :
    (s.profileAtRest c).prg[c].p = s.portPos (s.commPort (chanAxis c)) ∧ (s.profileAtRest c).prg[c].v = 0 ∧
    (s.profileAtRest c).prg[c].a = 0 ∧ (s.profileAtRest c).prg[c].rest = true ∧ (s.profileAtRest c).prg[c].stop = none ∧
    (s.profileAtRest c).flag (Fld.PRG_STATE_MOVING c) = false ∧ (s.profileAtRest c).flag (Fld.PRG_STATE_STOPPING c) = false := by
  refine ⟨?_, ?_, ?_, ?_, ?_, State.restShown_flags _ c⟩ <;>
    simp only [State.profileAtRest, State.restShown_prg, State.prg_modPrg]

/-- A check that is due after a hard stop compares the deviation with DEV_WIN (R414). -/
theorem exec_refCheck_due {c : Fin 8} {d : Int} {s : State} {t : State} (ht : t = s.modPrg c fun p => { p with checkAt := none })
    (hdue : (s.prg[c].checkAt.any fun t => decide (1 / 10 ≤ s.since t)) = true) (hd : t.deviation c = some d) :
    exec (.refCheck c) s =
      if absRat (d : Rat) ≤ t.p32 10 c then .next (t.setFlag (Fld.PRG_STATE_REF_LOST c) false)
      else .next ((t.setFlag (Fld.PRG_STATE_DEV c) true).journal 0x0302 c.val (toS32 d)) := by
  subst ht
  simp only [exec_refCheck, execRefCheck, hdue, hd]
  rfl

/-! ## Commands by register (R421) -/

/-- A command by register waits for the next sample of a step channel; an axis channel takes none. -/
theorem State.prgCmd_writable {w : Writer} {c : Fin 8} {s : State} (bit : BitVec 4) (hw : s.writable w (Reg.PRG_CTRL c) = true) :
    s.prgCmd w c bit = .next (if isStep c then s.modPrg c fun p => { p with cmd := p.cmd ||| bit } else s) :=
  State.access_writable _ _ hw

/-- With SOURCE OFF a step channel has no target (R413). -/
theorem State.stepGoal_off {s : State} {c : Fin 8} (hsrc : s.stepSource c = 0) : s.stepGoal c = (none, s) := by
  rw [State.stepGoal, hsrc]
  rfl

/-! ## A stop leaves whether an axis is shared (R308, R329) -/

theorem Reg.LSH_CFG_apart (a b : Fin 4) : Reg.LSH_CFG b ≠ Reg.SPD_STATE a ∧ Reg.LSH_CFG b ≠ Reg.SPD_NCMD a ∧
    Reg.LSH_CFG b ≠ Reg.SPD_LAST a ∧ Reg.LSH_CFG b ≠ Reg.POS_MAP a ∧ 0x4004_0000 ≤ Reg.LSH_CFG b ∧ Reg.LSH_CFG b < Reg.HIF_CFG := by
  decide +revert

section Shared
variable (s : State) (a b : Fin 4)

theorem State.setAxis_stopping : s.setAxis a AxSt.STOPPING = if s.axState a = AxSt.STOPPING then s else
    (((s.setFld (Fld.SPD_STATE_STATE a) AxSt.STOPPING).irq 7).event 0x01
      [BitVec.ofNat 32 a.val, BitVec.ofNat 32 (s.axState a), BitVec.ofNat 32 AxSt.STOPPING]).setFlag (Fld.POS_MAP_LEARNING a) false :=
  rfl

theorem State.isShared_setAxis_stopping : (s.setAxis a AxSt.STOPPING).isShared b = s.isShared b := by
  obtain ⟨hst, -, -, hmap, hlo, hhi⟩ := Reg.LSH_CFG_apart a b
  rw [State.setAxis_stopping]
  split
  · rfl
  · exact (State.flag_setFlag_other _ _ (.inl hmap)).trans
      (((Answered.refl _).irq.event.flag hlo hhi).trans (s.flag_setFld_other _ (.inl hst)))

theorem State.isShared_endVent : (s.endVent a).isShared b = s.isShared b := by
  obtain ⟨hst, -, hlast, -⟩ := Reg.LSH_CFG_apart a b
  unfold State.endVent
  split
  · rfl
  · exact (State.flag_setFld_other _ _ (.inl hlast)).trans
      ((State.flag_setFlag_other _ _ (.inl hst)).trans (State.flag_setFlag_other _ _ (.inl hst)))

theorem State.isShared_enterStopping (quick still : Bool) : (s.enterStopping a quick still).isShared b = s.isShared b := by
  obtain ⟨-, hcmd, -⟩ := Reg.LSH_CFG_apart a b
  exact (State.isShared_setAxis_stopping _ a b).trans ((State.flag_setReg_other _ _ hcmd).trans (s.isShared_endVent a b))

theorem State.isShared_softPrgStop (c : Fin 8) (k : StopKind) (halts : Bool) :
    ((s.prgStop c k halts).softStop c).isShared b = s.isShared b :=
  congrArg (· != 0) ((State.fld_softStop _ c (Nat.le_of_ble_eq_true rfl)).trans (s.fld_prgStop c (Nat.le_of_ble_eq_true rfl) k halts))

theorem State.isShared_beginStop (quick : Bool) : (s.beginStop a quick).isShared b = s.isShared b := by
  unfold State.beginStop
  extract_lets st off pos c t u
  have ht : t.isShared b = s.isShared b := by
    unfold t when
    split
    · exact s.isShared_softPrgStop b ..
    · rfl
  have hu : u.isShared b = s.isShared b := by
    unfold u when
    split
    · exact s.isShared_softPrgStop b ..
    · rfl
  split
  · rfl
  · split
    · exact (t.isShared_enterStopping a b ..).trans ht
    · split
      · exact hu
      · rfl

/-- A STOP on an axis that is not shared and does not start stops it (R308). -/
theorem State.stopAxis_alone {s : State} {h : Desc} {a : Fin 4} (hlead : s.isFollower a = false) (hstart : s.axState a ≠ AxSt.STARTING)
    (hs : s.isShared a = false) : s.stopAxis h a = (s.beginStop a h.quick).settle.complete h 0x06 St.SUCCESS := by
  have hstop : s.stopNow a h.quick = s.beginStop a h.quick := if_neg (by simpa using hstart)
  have hsh : (s.beginStop a h.quick).isShared a = false := (s.isShared_beginStop a a h.quick).trans hs
  simp only [State.stopAxis, hlead, hstop, hsh, Bool.false_eq_true, if_false]

end Shared

/-! ## MOVE and STOP (R405, R406) -/

section Move
variable {h : Desc} {c : Fin 8} {s : State}

/-- The target of a MOVE in counts or steps: absolute, or from where the channel rests or is going (R405). -/
def State.moveGoal (s : State) (h : Desc) (c : Fin 8) (target : BitVec 64) : Int :=
  nearest ((if h.absolute then 0 else if s.prg[c].rest then s.prg[c].p else (s.prg[c].goal : Rat)) +
    (target.toInt : Rat) / (2 ^ 32 : Nat) * s.p32 1 c)

/-- The profile takes a new target, and an axis channel lets go of a slack hold that the move leads away from (R319, R406). -/
def State.moveSet (s : State) (c : Fin 8) (goal : Int) : State :=
  when (!isStep c && decide (0 < s.lineSign (chanAxis c) * ((goal : Rat) - s.prg[c].p)))
    (·.modSpd (chanAxis c) fun p => { p with slackHold := false })
    (s.modPrg c fun p => { p with goal := goal, replan := true, rest := false })

theorem State.moveSet_prg (s : State) (c : Fin 8) (goal : Int) :
    (s.moveSet c goal).prg[c] = { s.prg[c] with goal := goal, replan := true, rest := false } := by
  unfold State.moveSet when
  split <;> simp only [State.modSpd_prg, State.prg_modPrg]

theorem State.moveSet_slackHold (s : State) (c : Fin 8) (goal : Int) (hc : isStep c = false)
    (haway : 0 < s.lineSign (chanAxis c) * ((goal : Rat) - s.prg[c].p)) : (s.moveSet c goal).spd[chanAxis c].slackHold = false := by
  rw [State.moveSet, hc, decide_eq_true haway, Bool.not_false, Bool.and_self, when_true, State.modSpd_spd_same]

/-- The new target is shown, and the channel moves (R406). -/
def State.moveShown (s : State) (c : Fin 8) (goal : Int) : State :=
  ((forAll [Fld.PRG_STATE_DONE c, Fld.PRG_STATE_OVERSHOOT c] (fun f t => t.setFlag f false) s).setFlag
    (Fld.PRG_STATE_MOVING c) true).setReg (Reg.PRG_TARGET c) (toS32 goal)

theorem State.moveShown_rest (s : State) (c : Fin 8) (goal : Int) :
    (s.moveShown c goal).prg = s.prg ∧ (s.moveShown c goal).spd = s.spd := ⟨rfl, rfl⟩

/-- A MOVE is refused with the status of R405, or taken. -/
theorem exec_move_taken {target : BitVec 64} (ht : s.takes h 0x05 = true) (hc : descChan h = some c) :
    exec (.move h target) s = .next (
      match s.moveRefusal c (s.moveGoal h c target) with
      | some st => s.complete h 0x05 st
      | none => ((s.moveSet c (s.moveGoal h c target)).moveShown c (s.moveGoal h c target)).complete h 0x05 St.SUCCESS) := by
  rw [exec_move, execMove, State.dispatch_takes _ ht, State.taken_plain rfl]
  simp only [hc]
  rfl

theorem State.moveShown_shows (s : State) (c : Fin 8) (goal : Int) :
    (s.moveShown c goal).reg (Reg.PRG_TARGET c) = toS32 goal ∧ (s.moveShown c goal).flag (Fld.PRG_STATE_MOVING c) = true ∧
    (s.moveShown c goal).flag (Fld.PRG_STATE_DONE c) = false ∧ (s.moveShown c goal).flag (Fld.PRG_STATE_OVERSHOOT c) = false := by
  refine ⟨State.reg_setReg .., ?_, ?_, ?_⟩ <;>
    simp (disch := decide +revert) only [State.moveShown, forAll, List.foldl_cons, List.foldl_nil, State.flag_setReg_other,
      State.flag_setFlag_other, State.flag_setFlag]

theorem Reg.PRG_moveRegs (c : Fin 8) : 0x4004_0000 ≤ Reg.PRG_STATE c ∧ Reg.PRG_STATE c < Reg.HIF_CFG ∧
    0x4004_0000 ≤ Reg.PRG_TARGET c ∧ Reg.PRG_TARGET c < Reg.HIF_CFG := by decide +revert

/-- A MOVE that an axis takes (R319, R405, R406). -/
theorem move_axis_completes {target : BitVec 64} {goal : Int} (ht : s.takes h 0x05 = true) (hc : descChan h = some c)
    (hgoal : goal = s.moveGoal h c target) (hfree : s.moveRefusal c goal = none) (hstep : isStep c = false) :
    Completes (.move h target) s fun t =>
      t.prg[c].goal = goal ∧ t.prg[c].replan = true ∧ t.prg[c].rest = false ∧ t.reg (Reg.PRG_TARGET c) = toS32 goal ∧
      t.flag (Fld.PRG_STATE_MOVING c) = true ∧ t.flag (Fld.PRG_STATE_DONE c) = false ∧
      t.flag (Fld.PRG_STATE_OVERSHOOT c) = false ∧
      (0 < s.lineSign (chanAxis c) * ((goal : Rat) - s.prg[c].p) → t.spd[chanAxis c].slackHold = false) := by
  have he := exec_move_taken (target := target) ht hc
  rw [← hgoal, hfree] at he
  obtain ⟨hslo, hshi, htlo, hthi⟩ := Reg.PRG_moveRegs c
  obtain ⟨htarget, hmoving, hdone, hover⟩ := (s.moveSet c goal).moveShown_shows c goal
  obtain ⟨hprg, hspd⟩ := (s.moveSet c goal).moveShown_rest c goal
  have hans : Answered _ (((s.moveSet c goal).moveShown c goal).complete h 0x05 St.SUCCESS) := (Answered.refl _).complete
  refine ⟨_, he, ?_, ?_, ?_, ?_, ?_, ?_, ?_, fun haway => ?_⟩
  · rw [hans.prg, hprg, State.moveSet_prg]
  · rw [hans.prg, hprg, State.moveSet_prg]
  · rw [hans.prg, hprg, State.moveSet_prg]
  · rw [hans.reg _ htlo hthi, htarget]
  · rw [hans.flag hslo hshi, hmoving]
  · rw [hans.flag hslo hshi, hdone]
  · rw [hans.flag hslo hshi, hover]
  · rw [hans.spd, hspd, s.moveSet_slackHold c goal hstep haway]

/-- A STOP of a step channel (R408). -/
theorem exec_stop_step (ht : s.takes h 0x06 = true) (hc : descChan h = some c) (hstep : isStep c = true) : exec (.stop h) s = .next
    ((s.stopChan c (if h.hard then .hard else if h.quick then .quick else .ramped) false).complete h 0x06 St.SUCCESS) := by
  rw [exec_stop, execStop, State.dispatch_takes _ ht, State.taken_plain rfl]
  simp only [hc, hstep, if_true]

/-- A STOP of an axis that exists (R308). -/
theorem exec_stop_axis {a : Fin 4} (ht : s.takes h 0x06 = true) (hc : descChan h = some c) (hstep : isStep c = false)
    (ha : s.axisOf h = some a) : exec (.stop h) s = .next (s.stopAxis h a) := by
  rw [exec_stop, execStop, State.dispatch_takes _ ht, State.taken_plain rfl]
  simp only [hc, hstep, ha, Bool.false_eq_true, if_false]

end Move

/-- Settles O23, clause by clause. -/
theorem motionChannels : Obligations.MotionChannels := by
  unfold Obligations.MotionChannels
  refine ⟨?_, ?_, ?_, ?_, ?_, ?_, fun c s => s.limShow_flags c, ?_, ?_, ?_, ?_, ?_, ?_, ?_, ?_, ?_, ?_, ?_, ?_, ?_, ?_, ?_, ?_, ?_⟩
  · intro c s hw hc hsrc
    rw [exec_profileEvaluation_step hw hc, if_pos (beq_iff_eq.mpr hsrc)]
  · intro c n s hw hc hp hf hrun hport
    rw [exec_profileEvaluation_axis hw hc hp hf, hrun, hport]
    rfl
  · intro c s hw hc hsrc
    rw [exec_profileEvaluation_step hw hc, if_neg (by simpa using hsrc)]
  · intro c s hw hc hp hf hact hport
    rw [exec_profileEvaluation_axis hw hc hp hf, if_pos (by simpa using hact), hport]
  · intro c s hw hc hp hf hrun hstop
    refine ⟨s.profileAtRest c, ?_, s.profileAtRest_shows c⟩
    rw [exec_profileEvaluation_axis hw hc hp hf, if_neg (by simp [hrun, hstop])]
  · intro n neg reached s hw
    exact if_pos hw
  · intro c s hdev hflag
    rw [exec_stall, execStall, hdev, hflag]
    rfl
  · intro c s hdue
    rw [exec_refCheck, execRefCheck, hdue]
    rfl
  · intro c d s hdue hd hin
    rw [exec_refCheck_due rfl hdue hd, if_pos hin]
  · intro c d s hdue hd hout
    rw [exec_refCheck_due rfl hdue hd, if_neg (not_le.mpr hout)]
  · intro w c s hw hc
    simp only [exec_halt, exec_engage, exec_disengage, exec_setPos, execHalt, execEngage, execDisengage, execSetPos,
      State.prgCmd_writable _ hw, hc, if_true, and_self]
  · intro c s hcmd
    rw [State.takeCommands, hcmd]
    rfl
  · intro c s hcmd
    rw [State.takeCommands, hcmd]
    rfl
  · intro c s hcmd
    rw [State.takeCommands, hcmd]
    rfl
  · intro c s hcmd hmov
    have hgo : (!(s.modPrg c fun p => { p with cmd := 0 }).flag (Fld.PRG_STATE_MOVING c)) = true := by
      rw [State.modPrg_flag, hmov]
      rfl
    rw [State.takeCommands, hcmd]
    exact if_pos hgo
  · intro c s hsrc hjog
    simp only [State.stepSample, hjog, State.stepGoal_off hsrc, hsrc, ne_eq, not_true_eq_false, if_false, beq_self_eq_true,
      Bool.not_true, Bool.and_false, Bool.false_and]
  · intro w c s hw hc
    simp only [exec_halt, exec_engage, exec_disengage, exec_setPos, execHalt, execEngage, execDisengage, execSetPos,
      State.prgCmd_writable _ hw, hc, Bool.false_eq_true, if_false, and_self]
  · rintro h c target goal s ht hc rfl hfree hstep
    rw [exec_move_taken ht hc, State.moveGoal, hfree, State.moveSet, hstep]
    rfl
  · intro h c target goal s ht hc hgoal hfree hstep
    exact move_axis_completes ht hc hgoal hfree hstep
  · rintro h c target goal st s ht hc rfl href
    rw [exec_move_taken ht hc, State.moveGoal, href]
  · exact fun h c s ht hc hstep => exec_stop_step ht hc hstep
  · exact fun h c a s ht hc hstep ha => exec_stop_axis ht hc hstep ha
  · intro h a s hlead hstart hs
    exact State.stopAxis_alone hlead hstart hs

end Sys2Proof.Machine
end

section
namespace Sys2Proof.Machine

/-! ## The banks and the queue (R626, R627, log entries 1 and 5) -/

/-- Settles O52: what a step keeps includes the form of the banks. -/
theorem banksStayCanonical : Obligations.BanksStayCanonical := by
  unfold Obligations.BanksStayCanonical
  intro s t hs h
  exact (step_keeps h).1 hs

/-- Settles O54: what every command keeps includes the queue, so that a step takes its front and nothing else. -/
theorem commandsComeFromOutside : Obligations.CommandsComeFromOutside := by
  have keeps (c : Instr) (s t : State) (h : exec c s = .next t) : t.pending = s.pending :=
    (exec_steady c (Steady.refl s) t h).2.2
  unfold Obligations.CommandsComeFromOutside
  refine ⟨keeps, fun c r s t hq h => ?_⟩
  rw [step, hq] at h
  exact keeps c { s with pending := r } t h

end Sys2Proof.Machine
end

section
namespace Sys2Proof.Machine

/-! ## System SRAM (R626, R627) -/

/-- A stored byte inside the memory reads as it was written (log entry 1). -/
theorem State.sramWrite_same (l : List Byte) : ∀ (s : State) (a k : Nat), k < l.length → a + k < 0x80_0000 →
    sparseGet sramEmpty (s.sramWrite a l).sram (a + k) = l.getD k 0 := by
  induction l with
  | nil => exact fun s a k hk _ => absurd hk (Nat.not_lt_zero k)
  | cons b r ih =>
    intro s a k hk hin
    rw [State.sramWrite]
    cases k with
    | zero =>
      have hput : a < 0x80_0000 := hin
      change sparseGet sramEmpty _ a = b
      rw [State.sramWrite_other r _ (a + 1) a (.inl (Nat.lt_succ_self a)), if_pos hput]
      exact sparseGet_put_same sramEmpty s.sram a b
    | succ k =>
      rw [show a + (k + 1) = a + 1 + k by omega] at hin ⊢
      exact ih _ (a + 1) k (Nat.lt_of_succ_lt_succ hk) hin

/-- Settles O58: what is written reads back, and nothing beside the bytes written changes. -/
theorem systemSram : Obligations.SystemSram := by
  unfold Obligations.SystemSram
  obtain ⟨-, -, -, hstore, -⟩ := registerAccess
  refine ⟨fun s off l a h => s.sramWrite_other l off a h, fun s off l k hk hin => s.sramWrite_same l off k hk hin, ?_, hstore⟩
  intro s off l
  obtain ⟨m, e⟩ := State.sramWrite_eq l s off
  rw [e]
  exact ⟨rfl, ⟨rfl, rfl, rfl, rfl, rfl⟩, rfl⟩

end Sys2Proof.Machine
end

section
namespace Sys2Proof.Machine

/-! ## The registers of the core pairs (R506) -/

/-- An address of the block of pair n. -/
theorem lckPair_of_block {a : Nat} {n : Fin 4} (hlo : 0x4003_0000 + n.val * 0x40 ≤ a) (hhi : a < 0x4003_0040 + n.val * 0x40) :
    lckPair a = some n := by
  have hn := n.isLt
  have hin : (decide (0x4003_0000 ≤ a) && decide (a < 0x4003_0000 + 0x40 * 4) && decide (4 ≤ 4)) = true := by
    simp only [Bool.and_eq_true, decide_eq_true_eq]
    omega
  have hix : (a - 0x4003_0000) / 0x40 = n.val := by omega
  rw [lckPair, blockIx, if_pos hin, hix]
  exact congrArg some (Fin.ext (Nat.mod_eq_of_lt hn))

/-- The registers of a pair that only the pair itself writes (R506). -/
def pairOwn (n : Fin 4) (a : Nat) : Prop := a = Reg.LCK_IRQEN n ∨ a = Reg.LCK_MTIMECMP_LO n ∨ a = Reg.LCK_MTIMECMP_HI n

/-- The kinds of register that these are. -/
def ownKinds : List Nat := [Reg.LCK_IRQEN 0, Reg.LCK_MTIMECMP_LO 0, Reg.LCK_MTIMECMP_HI 0]

/-- They are registers of those kinds, which no axis locks. -/
theorem regRow_ownKinds (n : Fin 4) : ∀ a ∈ [Reg.LCK_IRQEN n, Reg.LCK_MTIMECMP_LO n, Reg.LCK_MTIMECMP_HI n],
    (regRow a).any (fun row => ownKinds.contains row.base && row.rwl == 0) = true := by
  decide +kernel +revert

theorem pairOwn_row {n : Fin 4} {a : Nat} (h : pairOwn n a) : ∃ row, regRow a = some row ∧ row.base ∈ ownKinds ∧ row.rwl = 0 := by
  have hrow := regRow_ownKinds n a (by simpa [pairOwn] using h)
  cases hr : regRow a with
  | none => exact absurd hrow (by rw [hr]; exact Bool.false_ne_true)
  | some row =>
    rw [hr, Option.any_some, Bool.and_eq_true, List.contains_iff_mem, beq_iff_eq] at hrow
    exact ⟨row, rfl, hrow⟩

theorem pairOwn_block {n : Fin 4} {a : Nat} (h : pairOwn n a) :
    0x4003_0000 + n.val * 0x40 ≤ a ∧ a < 0x4003_0040 + n.val * 0x40 ∧ a % 4 = 0 := by
  simp only [pairOwn, Reg.LCK_IRQEN, Reg.LCK_MTIMECMP_LO, Reg.LCK_MTIMECMP_HI] at h
  omega

/-- A write that R506 refuses is journalled (R10). -/
theorem exec_registerWrite_refused {w : Writer} {a v hw : Word} {row : RegRow} {s : State} (ha : s.awake = true)
    (hlo : 0x4000_0000 ≤ a.toNat) (hhi : a.toNat < 0x4100_0000) (hal : a.toNat % 4 = 0) (hrow : regRow a.toNat = some row)
    (href : s.writeRefused w a.toNat = true) : exec (.registerWrite w a v 4 hw) s = .next (s.regLocked w a.toNat v) := by
  rw [exec_registerWrite_register ha hlo hhi hal]
  simp [State.writeReg, hrow, State.writeLocked, href]

/-- R506 refuses a register of CP_3 to everyone else. -/
theorem State.writeRefused_cp3 {s : State} {w : Writer} {a : Nat} (ha : lckPair a = some 3) (hw : w ≠ .pair 3) :
    s.writeRefused w a = true := by
  simp [State.writeRefused, ha, hw]

/-- R506 refuses a pair's own registers to everyone else. -/
theorem State.writeRefused_own {s : State} {w : Writer} {n : Fin 4} {a : Nat} (h : pairOwn n a) (hw : w ≠ .pair n) :
    s.writeRefused w a = true := by
  obtain ⟨hlo, hhi, -⟩ := pairOwn_block h
  have hbit : (a == Reg.LCK_IRQEN n || a == Reg.LCK_MTIMECMP_LO n || a == Reg.LCK_MTIMECMP_HI n) = true := by
    simpa [pairOwn, or_assoc] using h
  simp [State.writeRefused, lckPair_of_block hlo hhi, hbit, hw]

/-- The pair itself is let through. -/
theorem State.writeRefused_pair {s : State} {n : Fin 4} {a : Nat} (h : pairOwn n a) : s.writeRefused (.pair n) a = false := by
  obtain ⟨hlo, hhi, -⟩ := pairOwn_block h
  have hisl : ¬ 0x4050_0000 ≤ a := by omega
  simp [State.writeRefused, State.barred, lckPair_of_block hlo hhi, hisl, stranger_own]

theorem actOn_own {w : Writer} {a : Nat} {v : Word} {row : RegRow} {s : State} (h : row.base ∈ ownKinds) : actOn w row a v s = none := by
  simp only [ownKinds, List.mem_cons, List.not_mem_nil, or_false] at h
  rcases h with h | h | h <;> simp only [actOn, h] <;> rfl

theorem State.closed_own {n : Fin 4} {a : Nat} {row : RegRow} {s : State} (h : row.base ∈ ownKinds) (ha : pairOwn n a) :
    s.closed row a = false := by
  obtain ⟨hlo, hhi, -⟩ := pairOwn_block ha
  have hax : regAxis a = none := by
    have hb (b k : Nat) (hb : 0x4003_0100 ≤ b) : blockIx a b k 4 = none := by
      have : ¬ b ≤ a := by omega
      simp [blockIx, this]
    simp [regAxis, hb]
  have hprof : inProfileBlocks a = false := by
    have : ¬ 0x4010_0000 ≤ a := by omega
    simp [inProfileBlocks, this]
  have hhid : s.hidden a = false := by simp [State.hidden, hax, hprof]
  simp only [ownKinds, List.mem_cons, List.not_mem_nil, or_false] at h
  rcases h with h | h | h <;> simp only [State.closed, h, hhid] <;> rfl

/-- Settles O56: what R506 refuses is journalled, and the pair's own write is stored. -/
theorem pairRegisters : Obligations.PairRegisters := by
  unfold Obligations.PairRegisters
  refine ⟨?_, ?_, ?_⟩
  · intro w a v hw row s ha hal hlo hhi hrow hne
    have hcp3 : lckPair a.toNat = some 3 := lckPair_of_block (n := 3) hlo hhi
    exact exec_registerWrite_refused ha (by omega) (by omega) hal hrow (State.writeRefused_cp3 hcp3 hne)
  · intro w n a v hw s ha hown hne
    obtain ⟨row, hrow, -, -⟩ := pairOwn_row hown
    obtain ⟨hlo, hhi, hal⟩ := pairOwn_block hown
    exact exec_registerWrite_refused ha (by omega) (by omega) hal hrow (State.writeRefused_own hown hne)
  · intro n a v hw row s ha hd hown hrow
    obtain ⟨row', hrow', hkind, hrwl⟩ := pairOwn_row hown
    cases hrow.symm.trans hrow'
    obtain ⟨hlo, hhi, hal⟩ := pairOwn_block hown
    rw [exec_registerWrite_register ha (by omega) (by omega) hal,
      State.writeReg_plain hrow hd (actOn_own hkind) (State.writeRefused_pair hown) hrwl, State.storeReg,
      State.closed_own hkind hown]
    rfl

end Sys2Proof.Machine
end

section
namespace Sys2Proof.Machine

/-! ## Commands of the feedback ports (R378, R383 to R386, R400, R401) -/

section PortCommands
variable {w : Writer} {n : Fin 4} {s : State}

/-- A preset that is let through to the port: refused while the port serves a position loop, else it waits (R378). -/
theorem exec_load_taken (hw : s.writable w (Reg.FBI_CTRL n) = true) : exec (.load w n) s = .next (
    if s.presetBarred n then s.setFlag (Fld.FBI_STATUS_PRE_REFUSED n) true
    else (s.setFlag (Fld.FBI_STATUS_PRE_REFUSED n) false).modFb n fun p => { p with load := true }) := by
  rw [exec_load, execLoad, State.access_writable _ _ hw]

theorem exec_loadZ_taken (hw : s.writable w (Reg.FBI_CTRL n) = true) : exec (.loadZ w n) s = .next (
    if s.presetBarred n then s.setFlag (Fld.FBI_STATUS_PRE_REFUSED n) true
    else (s.setFlag (Fld.FBI_STATUS_PRE_REFUSED n) false).modFb n fun p => { p with loadZ := true }) := by
  rw [exec_loadZ, execLoadZ, State.access_writable _ _ hw]

theorem exec_turnZero_taken (hw : s.writable w (Reg.FBI_CTRL n) = true) : exec (.turnZero w n) s = .next (
    if s.portUsed n fun a => s.axState a == AxSt.RUNNING || s.axState a == AxSt.STOPPING then
      s.setFlag (Fld.FBI_STATUS_PRE_REFUSED n) true
    else (s.setFlag (Fld.FBI_STATUS_PRE_REFUSED n) false).modFb n fun p => { p with turnZ := true }) := by
  rw [exec_turnZero, execTurnZero, State.access_writable _ _ hw]

/-- A value written to CMP shows at once; the one in force is kept for the next sample (R383). -/
theorem State.cmpPut_shows (s : State) (n : Fin 4) (v : Word) : (s.cmpPut n v).reg (Reg.FBI_CMP n) = v ∧
    (s.cmpPut n v).fb[n].cmpW = some (s.fb[n].cmpW.getD (s.reg (Reg.FBI_CMP n))) := by
  rw [State.cmpPut, State.fb_modFb]
  exact ⟨s.reg_setReg _ v, rfl⟩

end PortCommands

/-- Settles O22, clause by clause. -/
theorem portCommands : Obligations.PortCommands := by
  unfold Obligations.PortCommands
  refine ⟨?_, ?_, ?_, ?_, ?_, ?_, fun _ _ => rfl⟩
  · intro w n v s hw
    rw [exec_cmpWrite, execCmpWrite, State.access_writable _ _ hw]
    exact ⟨rfl, s.cmpPut_shows n v⟩
  · intro w n s hw hbar
    rw [exec_load_taken hw, exec_loadZ_taken hw, hbar]
    exact ⟨rfl, rfl⟩
  · intro w n s hw hfree
    rw [exec_load_taken hw, exec_loadZ_taken hw, hfree]
    exact ⟨rfl, rfl⟩
  · intro w n s hw hfree
    rw [exec_turnZero_taken hw, hfree]
    rfl
  · intro w n s hw hused
    rw [exec_turnZero_taken hw, hused]
    rfl
  · intro w n s hw
    rw [exec_cmpDisarm, execCmpDisarm, State.access_writable _ _ hw]

end Sys2Proof.Machine
end

section
namespace Sys2Proof.Machine

/-! ## Hellos and routes (R549, R554, R555, R559, R564) -/

/-- Settles O37: each message acts on a port that is up, and a route's age counts beyond four periods only. -/
theorem hellosAndRoutes : Obligations.HellosAndRoutes := by
  unfold Obligations.HellosAndRoutes
  have hup {s : State} {p : Fin 4} (ha : s.awake = true) (hl : s.linkUp p = true) : ¬ (!s.awake || !s.linkUp p) = true := by
    simp [ha, hl]
  refine ⟨?_, ?_, ?_, ?_, ?_⟩
  · intro p m s ha hl
    rw [exec_hello, execHello, if_neg (hup ha hl)]
    rfl
  · intro p l s ha hl
    rw [exec_route, execRoute, if_neg (hup ha hl)]
    rfl
  · intro s ha
    rw [exec_routeSend, execRouteSend, if_pos ha]
  · intro p s ha hold
    simp only [exec_routeAge, execRouteAge, ha, hold, decide_true, Bool.and_self, if_true]
  · intro p s hyoung
    simp only [exec_routeAge, execRouteAge, hyoung, decide_false, Bool.and_false, Bool.false_eq_true, if_false]

end Sys2Proof.Machine
end

section
namespace Sys2Proof.Machine

/-! ## Load sharing (R336 to R341, R349, R350, R357) -/

section LoadSharing
variable {a : Fin 4} {s : State}

/-- The slot of a member: it withholds its frame, or sends the lead's or its own one in time (R337, R362). -/
theorem exec_shedSlot_member (hw : s.awake = true) (hx : s.axisExists a = true) (hsh : s.isShared a = true) :
    exec (.shedSlot a) s = .next (
      if 0 < s.lsh[a].drop then s.modLsh a fun g => { g with drop := g.drop - 1 }
      else if s.synced = false then s
      else ((if s.leads a then s.lsh[a].lead.map leadBytes else s.lsh[a].mine.map reportBytes).map (s.sendFrame a)).getD s) := by
  have hpart : ¬ (!s.awake || !s.axisExists a || !s.isShared a) = true := by simp [hw, hx, hsh]
  rw [exec_shedSlot, execShedSlot, if_neg hpart]
  by_cases hd : 0 < s.lsh[a].drop
  · rw [if_pos hd, if_pos hd]
  · rw [if_neg hd, if_neg hd]
    cases s.synced with
    | false => rfl
    | true =>
      cases s.leads a with
      | true => cases s.lsh[a].lead <;> rfl
      | false => cases s.lsh[a].mine <;> rfl

/-- Out of time nothing is sent (R337). -/
theorem exec_shedSlot_unsynced (hd : s.lsh[a].drop = 0) (hsy : s.synced = false) : exec (.shedSlot a) s = .next s := by
  simp only [exec_shedSlot, execShedSlot, hd, hsy, Nat.lt_irrefl, if_false, Bool.not_false, if_true, ite_self]

/-- T_APPLY is marked, and the member's state follows (R340). -/
def State.applyDue (s : State) (a : Fin 4) : State := (s.modLsh a fun g => { g with applied := true }).memberPoll a

/-- T_APPLY of a member that has no part in a split of the group: the lead in time applies its own frame, a follower the best one it holds;
otherwise the miss is counted (R340, R341, R350). -/
theorem exec_shedApply_member {r : MemberReport} (hw : s.awake = true) (hx : s.axisExists a = true) (hsh : s.isShared a = true)
    (hm : s.lsh[a].mine = some r) (hp : (s.applyDue a).lsh[a].parted = false) :
    exec (.shedApply a) s = .next (((
      if (s.applyDue a).leads a && (s.applyDue a).synced then (s.applyDue a).applyOwn a
      else match (if (s.applyDue a).synced then pickLead (s.applyDue a).lsh[a].leads else none) with
        | some f => (s.applyDue a).withLead a f
        | none => (when ((s.applyDue a).leads a && (s.applyDue a).lsh[a].cmd == 4) (·.endDisable a) (s.applyDue a)).withoutLead a).rampTm a).memberPoll
          a).settle := by
  have hpart : ¬ (!s.awake || !s.axisExists a || !s.isShared a || s.lsh[a].mine.isNone) = true := by
    simp only [hw, hx, hsh, hm, Option.isNone_some, Bool.not_true, Bool.or_self, Bool.false_eq_true, not_false_eq_true]
  have hwhole (f : State → State) : when (s.applyDue a).lsh[a].parted f (s.applyDue a) = s.applyDue a := by rw [hp]; rfl
  rw [exec_shedApply, execShedApply, if_neg hpart]
  dsimp only
  rw [← State.applyDue, hwhole] <;> rfl

/-- A frame of the own node address changes nothing (R340). -/
theorem State.ownFrames {f : LeadFrame} {r : MemberReport} {n : Notice} (hf : f.node = s.nodeAddr) (hr : r.node = s.nodeAddr)
    (hn : n.node = s.nodeAddr) : s.leadFrameRx f = s ∧ s.reportRx r = s ∧ s.noticeRx n = s := by
  simp [State.leadFrameRx, State.reportRx, State.noticeRx, hf, hr, hn]

end LoadSharing

/-- Settles O24, clause by clause. -/
theorem loadSharing : Obligations.LoadSharing := by
  unfold Obligations.LoadSharing
  refine ⟨?_, ?_, ?_, ?_, fun f r n s hf hr hn => State.ownFrames hf hr hn, ?_, fun a s hd hsy => exec_shedSlot_unsynced hd hsy, ?_, ?_, ?_, ?_, ?_, ?_⟩
  · intro s hw
    simp only [exec_shedCycleStart, execShedCycleStart, hw]
    rfl
  · intro a r s hw hx hsh hd hsy hle hm
    rw [exec_shedSlot_member hw hx hsh, hd, hsy, hle, hm]
    rfl
  · intro a f s hw hx hsh hd hsy hle hl
    rw [exec_shedSlot_member hw hx hsh, hd, hsy, hle, hl]
    rfl
  · intro f r n s hw
    simp only [exec_leadFrame, execLeadFrame, exec_report, execReport, exec_faultNotice, execFaultNotice, hw, if_true, and_self]
  · intro a s hw hx hsh hd
    rw [exec_shedSlot_member hw hx hsh, if_pos hd]
  · intro a r s hw hx hsh hm hp hsy
    rw [exec_shedApply_member hw hx hsh hm hp]
    rw [← State.applyDue] at hsy ⊢
    rw [hsy, Bool.and_false]
    by_cases hdis : (s.applyDue a).leads a = true ∧ (s.applyDue a).lsh[a].cmd = 4
    · have hend : ((s.applyDue a).leads a && (s.applyDue a).lsh[a].cmd == 4) = true := by simpa using hdis
      rw [if_pos hdis, hend]
      rfl
    · have hstay : ((s.applyDue a).leads a && (s.applyDue a).lsh[a].cmd == 4) = false := by simpa using hdis
      rw [if_neg hdis, hstay]
      rfl
  · intro a r s hw hx hsh hm hp hle hsy
    rw [exec_shedApply_member hw hx hsh hm hp]
    rw [← State.applyDue] at hle hsy ⊢
    rw [hle, hsy]
    rfl
  · intro a r f s hw hx hsh hm hp hle hsy hf
    rw [exec_shedApply_member hw hx hsh hm hp]
    rw [← State.applyDue] at hle hsy hf ⊢
    simp only [hle, hsy, hf]
    rfl
  · intro a r s hw hx hsh hm hp hle hsy hf
    rw [exec_shedApply_member hw hx hsh hm hp]
    rw [← State.applyDue] at hle hsy hf ⊢
    simp only [hle, hsy, hf]
    rfl
  · intro a s h
    rw [exec_shareRampEnd, execShareRampEnd, if_neg]
    rcases h with h | h
    · simp [h]
    · rw [h, Option.isSome_none, Bool.and_false]
      exact Bool.false_ne_true
  · intro a s hst hr
    rw [exec_shareRampEnd, execShareRampEnd, hst, hr]
    rfl

end Sys2Proof.Machine
end

section
namespace Sys2Proof.Machine

/-! ## Ring commands of the device itself (R435, R494, R527, R528, R608) -/

section HostCommands
variable {h : Desc} {s r : State}

/-- A capture that is taken: armed with good operands, else BAD_FIELD (R528). -/
theorem exec_scopeArm_taken {buf : BitVec 64} {m : Word} {per : BitVec 16} {l : List Word} (ht : s.takes h 0x0C = true) :
    exec (.scopeArm h buf m per l) s = .next (
      if h.sub.toNat = 0 || 8 < h.sub.toNat || l.length ≠ h.sub.toNat || !(l.all fun a => isRegisterAddr a.toNat) then
        s.complete h 0x0C St.BAD_FIELD
      else { s with hif := { s.hif with scopes := s.hif.scopes ++
        [{ h := h, buffer := buf, samples := m, period := per, regs := l, t0 := s.sys.poweredNs, got := [] }] } }) := by
  rw [exec_scopeArm, execScopeArm, State.dispatch_takes _ ht, State.taken_plain rfl]

/-- What makes the operands of a capture bad. -/
theorem scopeBad_iff (l : List Word) :
    (h.sub.toNat = 0 || 8 < h.sub.toNat || l.length ≠ h.sub.toNat || !(l.all fun a => isRegisterAddr a.toNat)) = true ↔
      ¬ (0 < h.sub.toNat ∧ h.sub.toNat ≤ 8 ∧ l.length = h.sub.toNat ∧ (l.all fun a => isRegisterAddr a.toNat) = true) := by
  simp only [Bool.or_eq_true, decide_eq_true_eq, Bool.not_eq_true', Nat.pos_iff_ne_zero, ← Nat.not_lt, ← Bool.not_eq_true]
  tauto

/-- The end of a capture: its samples are written, or its buffer fails (R528, R533). -/
theorem exec_scopeCaptureDone_whole {c : Scope} {u : State} (ha : s.awake = true) (hc : s.hif.scopes.find? Scope.whole = some c)
    (hu : ({ s with hif := { s.hif with scopes := s.hif.scopes.erase c } } : State) = u) (ok : Bool) :
    exec (.scopeCaptureDone ok) s = .next (
      if ok then (State.scopeWrite c c.got.reverse 0 u).complete c.h 0x0C St.SUCCESS 0 [BitVec.ofNat 32 (c.got.length / c.regs.length)]
      else u.complete c.h 0x0C St.DMA_ERROR) := by
  subst hu
  simp only [exec_scopeCaptureDone, execScopeCaptureDone, hc, ha]
  cases ok <;> rfl

/-- A read of the journal that is taken (R528, R607, R608). -/
theorem exec_logRead_taken {buf : BitVec 64} {a k : BitVec 16} {ok : Bool} (ht : s.takes h 0x0D = true) (hr : s.taken h 0x0D = r) :
    exec (.logRead h buf a k ok) s = .next (
      if r.flag Fld.SVC_JSTAT_DISABLED then r.complete h 0x0D St.UNIT_FAILED
      else if journalSize ≤ a.toNat || k.toNat = 0 || journalSize < k.toNat then r.complete h 0x0D St.BAD_FIELD
      else if !ok then r.complete h 0x0D St.DMA_ERROR
      else (forAll (List.range k.toNat) (fun i t => t.logCopy h buf a.toNat i) r).complete h 0x0D St.SUCCESS 0
        [k.setWidth 32, BitVec.ofNat 32 (forAll (List.range k.toNat) (fun i t => t.logCopy h buf a.toNat i) r).journalIndex]) := by
  rw [exec_logRead, execLogRead, State.dispatch_takes _ ht, hr]

theorem journalSpan_good {a k : BitVec 16} (ha : a.toNat < journalSize) (h0 : 0 < k.toNat) (hk : k.toNat ≤ journalSize) :
    ¬ (journalSize ≤ a.toNat || k.toNat = 0 || journalSize < k.toNat) = true := by
  simp only [Bool.or_eq_true, decide_eq_true_eq]
  omega

/-- The STO path test on request: refused, or run to its result (R435). -/
theorem exec_stoTest_taken {g : Option (Fin 28)} {i : Option StoInput} (ht : s.takes h 0x1A = true) :
    exec (.stoTest h g i) s = .next (
      match s.stoTestStatus with
      | some st => s.complete h 0x1A st
      | none => ((s.stoTestRun g i).2.complete h 0x1A (if (s.stoTestRun g i).1 then St.SUCCESS else St.STO_FAIL)).settle) := by
  rw [exec_stoTest, execStoTest, State.dispatch_takes _ ht, State.taken_plain rfl] <;> rfl

/-- A user opcode that is taken: what its handler answers is free (R527). -/
theorem exec_userOpcode_taken {op : Byte} (ht : s.takes h op.toNat = true) (hr : s.taken h op.toNat = r) (hlo : 0x40 ≤ op.toNat)
    (hhi : op.toNat ≤ 0x7F) (handler : Bool) : exec (.userOpcode h op handler) s = .next (
      if handler then
        (((((((r.freeNat.2).freeNat.2).freeWord.2).freeWord.2).freeWord.2).freeWord.2).complete h op.toNat (r.freeNat.1 % 256)
          (r.freeNat.2.freeNat.1 % 256)
          [r.freeNat.2.freeNat.2.freeWord.1, r.freeNat.2.freeNat.2.freeWord.2.freeWord.1,
            r.freeNat.2.freeNat.2.freeWord.2.freeWord.2.freeWord.1, r.freeNat.2.freeNat.2.freeWord.2.freeWord.2.freeWord.2.freeWord.1])
      else r.complete h op.toNat St.BAD_OPCODE) := by
  have huser : (decide (op.toNat < 0x40) || decide (0x7F < op.toNat)) = false := by
    simp only [Bool.or_eq_false_iff, decide_eq_false_iff_not]
    omega
  rw [exec_userOpcode, execUserOpcode, State.dispatch_takes _ ht, hr]
  simp only [Bool.or_assoc, huser]
  cases handler <;> rfl

end HostCommands

/-- Settles O31, clause by clause. -/
theorem hostCommands : Obligations.HostCommands := by
  unfold Obligations.HostCommands
  refine ⟨?_, fun h op s r ht hr hlo hhi => exec_userOpcode_taken ht hr hlo hhi true,
    fun h op s r ht hr hlo hhi => exec_userOpcode_taken ht hr hlo hhi false, ?_, ?_, ?_,
    fun c s u ha hc hu => ⟨exec_scopeCaptureDone_whole ha hc hu true, exec_scopeCaptureDone_whole ha hc hu false⟩, ?_, ?_, ?_, ?_, ?_, ?_⟩
  · intro h s ht
    rw [exec_nop, execNop, State.dispatch_takes _ ht, State.taken_plain rfl]
  · intro h op s r ht hr hk
    rw [exec_badOpcode, execBadOpcode, hk, if_neg Bool.false_ne_true, State.dispatch_takes _ ht, hr]
  · intro h buf m per l s ht h0 h8 hl hall
    rw [exec_scopeArm_taken ht, if_neg fun hbad => (scopeBad_iff l).mp hbad ⟨h0, h8, hl, hall⟩]
  · intro h buf m per l s ht hbad
    rw [exec_scopeArm_taken ht, if_pos ((scopeBad_iff l).mpr hbad)]
  · intro h buf a k s r ht hr hd ha h0 hk
    rw [exec_logRead_taken ht hr, hd, if_neg Bool.false_ne_true, if_neg (journalSpan_good ha h0 hk)]
    rfl
  · intro h buf a k s r ht hr hd ha h0 hk
    rw [exec_logRead_taken ht hr, hd, if_neg Bool.false_ne_true, if_neg (journalSpan_good ha h0 hk)]
    rfl
  · intro h buf a k ok s r ht hr hd hbad
    have hout : (journalSize ≤ a.toNat || k.toNat = 0 || journalSize < k.toNat) = true := by
      simpa only [Bool.or_eq_true, decide_eq_true_eq, or_assoc] using hbad
    rw [exec_logRead_taken ht hr, hd, if_neg Bool.false_ne_true, if_pos hout]
  · intro h buf a k ok s r ht hr hd
    rw [exec_logRead_taken ht hr, if_pos hd]
  · intro h g i s ht hst
    rw [exec_stoTest_taken ht, hst]
  · intro h g i st s ht hst
    rw [exec_stoTest_taken ht, hst]

end Sys2Proof.Machine
end

section
namespace Sys2Proof.Machine

/-! ## The evaluation of the sensors (R592 to R599) -/

/-- What the evaluation never touches: the parameters and Weft time. -/
def Sensed (s0 s : State) : Prop := s.params = s0.params ∧ s.weft = s0.weft

section Sensed
variable {s0 s t : State}

theorem Sensed.refl (s : State) : Sensed s s := ⟨rfl, rfl⟩

/-- A change of anything else. -/
theorem Sensed.same (h : Sensed s0 s) (hp : t.params = s.params) (hw : t.weft = s.weft) : Sensed s0 t :=
  ⟨hp.trans h.1, hw.trans h.2⟩

theorem Sensed.ite {a b : State} {c : Prop} [Decidable c] (ha : Sensed s0 a) (hb : Sensed s0 b) : Sensed s0 (if c then a else b) := by
  split <;> assumption

theorem Sensed.whenever {c : Bool} {f : State → State} (hf : ∀ t, Sensed s0 t → Sensed s0 (f t)) (h : Sensed s0 s) :
    Sensed s0 (when c f s) := (hf s h).ite h

theorem Sensed.each {α : Type} {l : List α} {f : α → State → State} (hf : ∀ a t, Sensed s0 t → Sensed s0 (f a t))
    (h : Sensed s0 s) : Sensed s0 (forAll l f s) := foldl_keeps (fun t a ht => hf a t ht) h

theorem Sensed.setFld (h : Sensed s0 s) {f : Field} {v : Nat} : Sensed s0 (s.setFld f v) := h.same rfl rfl

theorem Sensed.setFlag (h : Sensed s0 s) {f : Field} {b : Bool} : Sensed s0 (s.setFlag f b) := h.same rfl rfl

theorem Sensed.modSensor (h : Sensed s0 s) {i : Fin 38} {f : Sensor → Sensor} : Sensed s0 (s.modSensor i f) := h.same rfl rfl

theorem Sensed.setIrq (h : Sensed s0 s) {k : Nat} {b : Bool} : Sensed s0 (s.setIrq k b) := Sensed.each (fun _ _ ht => ht.setFld) h

theorem Sensed.journal (h : Sensed s0 s) {code unit : Nat} {d0 d1 : Word} : Sensed s0 (s.journal code unit d0 d1) := by
  refine h.ite (Sensed.ite ?_ (Sensed.setIrq ?_))
  all_goals exact h.same rfl rfl

theorem Sensed.sensorFail (h : Sensed s0 s) {i : Fin 38} {fitted : Bool} : Sensed s0 (s.sensorFail i fitted) :=
  have hv := h.setFlag.setFlag.setFld
  Sensed.ite hv hv.modSensor.journal

theorem Sensed.sensorRise (h : Sensed s0 s) {i : Fin 38} {t : Rat} : Sensed s0 (s.sensorRise i t) := by
  unfold State.sensorRise
  split
  · exact h
  · exact h.setFlag.ite (h.setFlag.ite h)

theorem Sensed.sensorLevel (h : Sensed s0 s) {i : Fin 38} {t : Rat} : Sensed s0 (s.sensorLevel i t) :=
  Sensed.ite h.setFld (h.setFld.whenever fun _ ht => ht.setFlag).journal.setIrq

theorem Sensed.sensorEval (h : Sensed s0 s) {i : Fin 38} {t : Rat} : Sensed s0 (s.sensorEval i t) :=
  have ht : Sensed s0 (s.setSfld (Fld.THM_T_TEMP i) (clampInt (-32768) 32767 (quantise (16 * t)))) := h.same rfl rfl
  h.sensorFail.ite (ht.setFlag.sensorRise.sensorLevel.modSensor.ite ht.sensorFail.modSensor)

theorem Sensed.kthEval (h : Sensed s0 s) {a : Fin 4} : Sensed s0 (s.kthEval a) := h.same rfl rfl

theorem Sensed.throttlePair (h : Sensed s0 s) {n : Fin 4} : Sensed s0 (s.throttlePair n) := h.ite h.setFld.setFlag

theorem Sensed.throttle (h : Sensed s0 s) : Sensed s0 s.throttle :=
  h.setFld.each fun _ _ ht => ht.ite ht.throttlePair

theorem Sensed.thmSummary (h : Sensed s0 s) : Sensed s0 s.thmSummary := by
  unfold State.thmSummary
  extract_lets lv t u v
  have ht : Sensed s0 t := by
    unfold t
    split
    · exact h.setFld
    · exact h
  exact ht.setFlag.setFlag.setFlag.setFlag.setFlag

end Sensed

/-- The evaluation of one of the 38 sensors with the readings of its group (R592). -/
def State.senseOne (die : Vector Rat 4) (gate : Vector Rat 28) (board : Vector Rat 2) (i : Fin 38) (t : State) : State :=
  if i.val < 4 then t.sensorEval i die[Fin.ofNat 4 i.val]
  else if i.val < 32 then t.sensorEval i gate[Fin.ofNat 28 (i.val - 4)]
  else if i.val < 36 then t.sensorEval i (t.ntcTemp (Fin.ofNat 4 (i.val - 32)))
  else t.sensorEval i board[Fin.ofNat 2 (i.val - 36)]

/-- An evaluation that is not held back takes every sensor, then the axes, the throttle and the summary. -/
theorem exec_thmEvaluation_runs {die : Vector Rat 4} {gate : Vector Rat 28} {board : Vector Rat 2} {s : State} (ha : s.awake = true)
    (hm : s.mode ≠ .dawn) (hr : s.sys.readied = true) : exec (.thmEvaluation die gate board) s = .next
      (((forAll four (fun a t => t.kthEval a) (forAll (List.finRange 38) (State.senseOne die gate board) s)).throttle).thmSummary.settle) := by
  have hrun : ¬ (!s.awake || s.mode == .dawn || !s.sys.readied) = true := by simp [ha, hm, hr]
  rw [exec_thmEvaluation, execThmEvaluation, if_neg hrun, sensors]
  dsimp only
  rw [forAll_congr s]
  intro i _ t
  rw [State.senseOne, thmGroup]
  by_cases h4 : i.val < 4
  · simp only [h4, if_true]
  · by_cases h32 : i.val < 32
    · simp only [h4, h32, if_true, if_false]
      rfl
    · by_cases h36 : i.val < 36
      · simp only [h4, h32, h36, if_true, if_false]
        rfl
      · simp only [h4, h32, h36, if_false]

theorem Sensed.senseOne {s0 s : State} (h : Sensed s0 s) {die : Vector Rat 4} {gate : Vector Rat 28} {board : Vector Rat 2}
    {i : Fin 38} : Sensed s0 (State.senseOne die gate board i s) :=
  h.sensorEval.ite (h.sensorEval.ite (h.sensorEval.ite h.sensorEval))

/-- The factor that the sensors of an axis ask for (R596). -/
def State.askedK (s : State) (a : Fin 4) : Rat := ((s.axisSensors a).map s.sensorK).foldl min 1

theorem State.askedK_le (s : State) (a : Fin 4) : s.askedK a ≤ 1 :=
  foldl_keeps (P := fun b => b ≤ 1) (fun _ _ hb => (min_le_left ..).trans hb) (le_refl 1)

/-- The factor falls to what the sensors ask for at once and rises by no more than 1/10,000 (R596). -/
theorem State.kthEval_kth (s : State) (a : Fin 4) :
    (s.kthEval a).thm.kth[a] = if s.askedK a ≤ s.thm.kth[a] then s.askedK a else min (s.askedK a) (s.thm.kth[a] + 1 / 10000) :=
  Vector.getElem_set_self ..

/-- Settles O41, clause by clause. -/
theorem thermal : Obligations.Thermal := by
  unfold Obligations.Thermal
  refine ⟨?_, fun die gate board s ha hm hr => exec_thmEvaluation_runs ha hm hr, ?_, ?_, ?_⟩
  · intro die gate board s ha hm hr
    refine ⟨_, exec_thmEvaluation_runs ha hm hr, ?_⟩
    have hsensed : Sensed s (forAll (List.finRange 38) (State.senseOne die gate board) s) :=
      (Sensed.refl s).each fun _ _ ht => ht.senseOne
    have hfactors : Sensed s (forAll four (fun a t => t.kthEval a) (forAll (List.finRange 38) (State.senseOne die gate board) s)) :=
      hsensed.each fun _ _ ht => ht.kthEval
    exact hfactors.throttle.thmSummary
  · intro die gate board s h
    rw [exec_thmEvaluation, execThmEvaluation, if_pos]
    rcases h with h | h <;> simp [h]
  · intro a s hone
    have hask := s.askedK_le a
    rw [s.kthEval_kth]
    by_cases hfall : s.askedK a ≤ s.thm.kth[a]
    · rw [if_pos hfall]
      exact ⟨hfall.trans (by norm_num), hask, rfl⟩
    · rw [if_neg hfall]
      exact ⟨min_le_right .., (min_le_left ..).trans hask, rfl⟩
  · intro a k s hk hfall
    rw [s.kthEval_kth, State.askedK, hk, if_pos hfall]

end Sys2Proof.Machine
end

section
namespace Sys2Proof.Machine

/-! ## The rings of the host (R517 to R526, R533) -/

/-- The registers of one ring are apart. -/
theorem ringRegs_apart (n : Nat) : Reg.HIF_SQ_CFG n ≠ Reg.HIF_SQ_PTR n ∧ Reg.HIF_CQ_CFG n ≠ Reg.HIF_CQ_PTR n ∧
    Reg.HIF_CQ_CFG n ≠ Reg.HIF_CQ_STAT n := by
  simp only [Reg.HIF_SQ_CFG, Reg.HIF_SQ_PTR, Reg.HIF_CQ_CFG, Reg.HIF_CQ_PTR, Reg.HIF_CQ_STAT]
  omega

section Doorbells
variable {n : Fin 16} {s u : State}

/-- How far a place of SQ_n lies beyond its head. -/
def State.sqDist (s : State) (n : Fin 16) (p : Nat) : Nat :=
  (p + s.sqSize n.val - s.fld (Fld.HIF_SQ_PTR_HEAD n.val)) % s.sqSize n.val

/-- How far a place of CQ_n lies beyond its head. -/
def State.cqDist (s : State) (n : Fin 16) (p : Nat) : Nat :=
  (p + s.cqSize n.val - s.fld (Fld.HIF_CQ_PTR_HEAD n.val)) % s.cqSize n.val

/-- A tail inside the ring that does not fall back. -/
theorem sqTail_inside {tail : BitVec 12} (hin : tail.toNat < u.sqSize n.val)
    (hfwd : ¬ u.sqDist n tail.toNat < u.sqDist n (u.fld (Fld.HIF_SQ_PTR_TAIL n.val))) :
    ¬ (u.sqSize n.val ≤ tail.toNat ∨ u.sqDist n tail.toNat < u.sqDist n (u.fld (Fld.HIF_SQ_PTR_TAIL n.val))) :=
  not_or.mpr ⟨Nat.not_le.mpr hin, hfwd⟩

/-- A doorbell of SQ_n that arrives: an impossible tail is counted, the same tail changes nothing, another makes its slots visible where the
ring is enabled (R517, R520, R521). -/
theorem exec_sqTail_open {tail : BitVec 12} {l : List Slot} (ho : s.doorbellsOpen = true) (hu : s.doorbell = u) :
    exec (.sqTail n tail l) s = .next (
      if u.sqSize n.val ≤ tail.toNat ∨ u.sqDist n tail.toNat < u.sqDist n (u.fld (Fld.HIF_SQ_PTR_TAIL n.val)) then
        (u.incSat (Fld.HIF_SQ_STAT_DBERR n.val)).ringErrorEvent n
      else if tail.toNat = u.fld (Fld.HIF_SQ_PTR_TAIL n.val) then u
      else if u.flag (Fld.HIF_SQ_CFG_ENABLE n.val) then
        ((when ((l.take (u.sqDist n tail.toNat - u.sqDist n (u.fld (Fld.HIF_SQ_PTR_TAIL n.val)))).any fun d => d.chain && d.chainSeq == 0)
          (·.startTimer (.chain n)) (u.setFld (Fld.HIF_SQ_PTR_TAIL n.val) tail.toNat)).modSq n fun q =>
            { q with waiting := q.waiting ++ l.take (u.sqDist n tail.toNat - u.sqDist n (u.fld (Fld.HIF_SQ_PTR_TAIL n.val))) }).serve
      else u.setFld (Fld.HIF_SQ_PTR_TAIL n.val) tail.toNat) := by
  subst hu
  obtain ⟨hcfg, -, -⟩ := ringRegs_apart n.val
  have hen : (s.doorbell.setFld (Fld.HIF_SQ_PTR_TAIL n.val) tail.toNat).flag (Fld.HIF_SQ_CFG_ENABLE n.val) =
      s.doorbell.flag (Fld.HIF_SQ_CFG_ENABLE n.val) := State.flag_setFld_other _ _ (.inl hcfg)
  rw [exec_sqTail, execSqTail, if_neg (by rw [ho]; decide)]
  dsimp only
  rw [hen]
  simp only [Bool.or_eq_true, decide_eq_true_eq]
  by_cases hbad : s.doorbell.sqSize n.val ≤ tail.toNat ∨
      s.doorbell.sqDist n tail.toNat < s.doorbell.sqDist n (s.doorbell.fld (Fld.HIF_SQ_PTR_TAIL n.val))
  · rw [if_pos hbad]
    exact if_pos hbad
  · rw [if_neg hbad]
    refine (if_neg hbad).trans ?_
    split
    · rfl
    · split <;> rfl

/-- A doorbell of CQ_n that arrives: an impossible head is told, another frees the slots up to it (R521, R522). -/
theorem exec_cqHead_open {head : BitVec 12} (ho : s.doorbellsOpen = true) (hu : s.doorbell = u) :
    exec (.cqHead n head) s = .next (
      if u.cqSize n.val ≤ head.toNat ∨ u.cqDist n (u.fld (Fld.HIF_CQ_PTR_TAIL n.val)) < u.cqDist n head.toNat then u.ringErrorEvent n
      else
        (((u.setFld (Fld.HIF_CQ_PTR_HEAD n.val) head.toNat).modCq n fun c =>
          { c with entries := c.entries.drop (u.cqDist n head.toNat) }).setFlag (Fld.HIF_CQ_CFG_FULL n.val)
            (((u.setFld (Fld.HIF_CQ_PTR_HEAD n.val) head.toNat).modCq n fun c =>
              { c with entries := c.entries.drop (u.cqDist n head.toNat) }).cqFull n.val)).cqDrain n) := by
  subst hu
  rw [exec_cqHead, execCqHead, if_neg (by rw [ho]; decide)]
  simp only [Bool.or_eq_true, decide_eq_true_eq]
  by_cases hbad : s.doorbell.cqSize n.val ≤ head.toNat ∨
      s.doorbell.cqDist n (s.doorbell.fld (Fld.HIF_CQ_PTR_TAIL n.val)) < s.doorbell.cqDist n head.toNat
  · rw [if_pos hbad]
    exact if_pos hbad
  · rw [if_neg hbad]
    exact if_neg hbad

end Doorbells

section Fetching
variable {n : Fin 16} {d : Slot} {s : State}

/-- A descriptor that stands alone and is not for CP_0 moves the head and is due (R520). -/
theorem State.fetch_alone (hc : s.hif.sq[n].chain = none) (hd : d.chain = false) (hb : byCp0 d.opcode.toNat = false) :
    s.fetch n d = (s.setFld (Fld.HIF_SQ_PTR_HEAD n.val) ((s.fld (Fld.HIF_SQ_PTR_HEAD n.val) + 1) % s.sqSize n.val)).modSq n
      fun q => { q with due := q.due + 1 } := by
  have hchain (v : Nat) : (s.setFld (Fld.HIF_SQ_PTR_HEAD n.val) v).hif.sq[n].chain = none := hc
  simp only [State.fetch, hchain, State.fetchAlone, hd, State.joinFw, when, hb, Bool.not_false, if_true, Bool.false_eq_true, if_false]

/-- A descriptor with FENCE waits for the earlier commands of its ring (R524). -/
theorem State.canFetch_fenced (hf : d.fence = true) (hc : s.hif.sq[n].chain = none) (hdue : 0 < s.hif.sq[n].due) :
    s.canFetch n d = false := by
  have hwait : decide (s.hif.sq[n].due ≤ (if s.hif.sq[n].chain.isSome then 1 else 0)) = false := by
    rw [hc]
    exact decide_eq_false (Nat.not_le.mpr hdue)
  simp only [State.canFetch, hf, hwait, Bool.not_true, Bool.or_self, Bool.and_false, Bool.false_and]

/-- One for CP_0 waits for room in its queue (R525). -/
theorem State.canFetch_queueFull (hb : byCp0 d.opcode.toNat = true) (hq : 64 ≤ s.hif.fwq.length) : s.canFetch n d = false := by
  simp only [State.canFetch, hb, hq, decide_true, Bool.and_self, Bool.not_true, Bool.and_false]

/-- The ring processor gives the next ring that can be served its burst (R525). -/
theorem State.serve_next {u : State} (hw : (s.hif.sq.toList.all fun q => q.waiting.isEmpty) = false)
    (hu : forAll (List.finRange 16) (fun n t => t.countStall n) s = u)
    (hn : ((List.range 16).map fun k => Fin.ofNat 16 (u.hif.turn.val + k)).find? u.mayFetch = some n) :
    s.serve = { State.burst n 8 u with hif := { (State.burst n 8 u).hif with turn := Fin.ofNat 16 (n.val + 1) } } := by
  subst hu
  rw [State.serve, hw, if_neg Bool.false_ne_true]
  dsimp only
  rw [hn]

end Fetching

section RingLife
variable {n : Fin 16} {s : State}

/-- An open chain out of its time completes CHAIN_TIMEOUT (R526). -/
theorem exec_chainTimeout_out {c : OpenChain} (hc : s.hif.sq[n].chain = some c) (hv : c.visible s.hif.sq[n].waiting = false)
    (ho : s.overdue (.chain n) ((s.parNat 10 32 0 * 1000 : Nat) : Rat) = true) : exec (.chainTimeout n) s =
      .next (((s.completeSlot n c.opcode c.cid St.CHAIN_TIMEOUT).incSat (Fld.HIF_SQ_STAT_CHAINTO n.val)).setChain n none) := by
  simp only [exec_chainTimeout, execChainTimeout, hc, hv, ho]
  rfl

/-- Without a chain, or before its time, nothing happens. -/
theorem exec_chainTimeout_idle (h : s.hif.sq[n].chain = none ∨ s.overdue (.chain n) ((s.parNat 10 32 0 * 1000 : Nat) : Rat) = false) :
    exec (.chainTimeout n) s = .next s := by
  rw [exec_chainTimeout, execChainTimeout]
  split
  · rfl
  · next c hc =>
    rcases h with h | h
    · exact absurd (h.symm.trans hc) (by simp)
    · rw [h, Bool.not_false, Bool.or_true, if_pos rfl]

/-- A field of a register whose word is known. -/
theorem State.fld_of_reg {s : State} {f : Field} {w : Word} {v : Nat} (hr : s.reg f.addr = w) (hv : fieldGet w f.lo f.width = v) :
    s.fld f = v := by
  rw [State.fld, hr, hv]

theorem fieldGet_zero (lo n : Nat) : fieldGet 0 lo n = 0 := by simp [fieldGet]

theorem State.startSq_ptr (s : State) (n : Fin 16) : (s.startSq n).reg (Reg.HIF_SQ_PTR n.val) = 0 := by
  have hcfg := (ringRegs_apart n.val).1.symm
  rw [State.startSq, State.setChain, State.setFlag, State.setFlag, State.reg_setFld_other _ _ hcfg, State.modSq_reg,
    State.reg_setFld_other _ _ hcfg, State.reg_setReg]

theorem State.startCq_ptr (s : State) (n : Fin 16) : (s.startCq n).reg (Reg.HIF_CQ_PTR n.val) = 0x8000_0000 := by
  have hcfg := (ringRegs_apart n.val).2.1.symm
  have hphase := State.reg_setFld (s.setReg (Reg.HIF_CQ_PTR n.val) 0) (Fld.HIF_CQ_PTR_PHASE n.val) 1
  rw [show (Fld.HIF_CQ_PTR_PHASE n.val).addr = Reg.HIF_CQ_PTR n.val from rfl, State.reg_setReg] at hphase
  rw [State.startCq, State.modCq_reg, State.setFlag, State.setFlag, State.reg_setFld_other _ _ hcfg, State.reg_setFld_other _ _ hcfg]
  exact hphase.trans (show fieldPut 0 31 1 1 = 0x8000_0000 by decide)

/-- A CQ starts with both pointers 0 and the phase 1 (R517). -/
theorem State.startCq_fields (s : State) (n : Fin 16) : (s.startCq n).fld (Fld.HIF_CQ_PTR_HEAD n.val) = 0 ∧
    (s.startCq n).fld (Fld.HIF_CQ_PTR_TAIL n.val) = 0 ∧ (s.startCq n).fld (Fld.HIF_CQ_PTR_PHASE n.val) = 1 := by
  obtain ⟨hhead, htail, hphase⟩ : fieldGet 0x8000_0000 0 12 = 0 ∧ fieldGet 0x8000_0000 16 12 = 0 ∧ fieldGet 0x8000_0000 31 1 = 1 := by
    decide
  have hptr := s.startCq_ptr n
  exact ⟨State.fld_of_reg hptr hhead, State.fld_of_reg hptr htail, State.fld_of_reg hptr hphase⟩

/-- A write of ENABLE that is let through (R517). -/
theorem State.ringWrite_writable {w : Writer} {r : Ring} (v : Word) (f : State → State) (hw : s.writable w (ringCfg r) = true) :
    s.ringWrite w r v f = .next (f s) := State.access_writable v f hw

/-- A CQ that is disabled drops what waits for it, and counts it (R517). -/
theorem exec_ringDisable_cq {w : Writer} (hw : s.writable w (Reg.HIF_CQ_CFG n.val) = true) : exec (.ringDisable w (.cq n)) s = .next
    (((s.setFlag (Fld.HIF_CQ_CFG_ENABLE n.val) false).modCq n fun c => { c with backlog := [] }).setFld (Fld.HIF_CQ_STAT_DROP n.val)
      (min (s.fld (Fld.HIF_CQ_STAT_DROP n.val) + s.hif.cq[n].backlog.length) 0xFFFF)) := by
  obtain ⟨-, -, hstat⟩ := ringRegs_apart n.val
  have hdrop : ((s.setFlag (Fld.HIF_CQ_CFG_ENABLE n.val) false).modCq n fun c => { c with backlog := [] }).fld (Fld.HIF_CQ_STAT_DROP n.val) =
      s.fld (Fld.HIF_CQ_STAT_DROP n.val) := State.fld_setFld_reg s _ hstat.symm
  rw [exec_ringDisable, execRingDisable, State.ringWrite_writable (r := .cq n) _ _ hw]
  dsimp only
  rw [hdrop]

end RingLife

/-- Settles O30, clause by clause. -/
theorem hostRings : Obligations.HostRings := by
  unfold Obligations.HostRings
  refine ⟨?_, ?_, ?_, ?_, ?_, fun n d s hc hd hb => State.fetch_alone hc hd hb, fun n d s hf hc hdue => State.canFetch_fenced hf hc hdue,
    fun n d s hb hq => State.canFetch_queueFull hb hq, fun n s u hw hu hn => State.serve_next hw hu hn,
    fun n c s hc hv ho => exec_chainTimeout_out hc hv ho, fun n s h => exec_chainTimeout_idle h, ?_, ?_, ?_, ?_, ?_, ?_,
    fun n s => ?_, ?_, ?_⟩
  · intro n tail l s ho hbeyond
    rw [exec_sqTail_open ho rfl, if_pos (.inl hbeyond)]
  · intro n tail l s u ho hu hback
    rw [exec_sqTail_open ho hu, if_pos (.inr hback)]
  · intro n tail l s u ho hu hin hsame
    rw [exec_sqTail_open ho hu, ← hsame, if_neg (by simp [hin]), if_pos rfl]
  · rintro n tail l new s u ho hu hin hnew hfwd rfl hen
    have hgood := sqTail_inside hin hfwd
    rw [exec_sqTail_open ho hu, if_neg hgood, if_neg hnew, if_pos hen]
    rfl
  · intro n tail l s u ho hu hin hnew hfwd hdis
    have hgood := sqTail_inside hin hfwd
    rw [exec_sqTail_open ho hu, if_neg hgood, if_neg hnew, hdis, if_neg Bool.false_ne_true]
  · intro n head s ho hbeyond
    rw [exec_cqHead_open ho rfl, if_pos (.inl hbeyond)]
  · rintro n head s u v ho hu hin hwritten rfl
    have hgood : ¬ (u.cqSize n.val ≤ head.toNat ∨ u.cqDist n (u.fld (Fld.HIF_CQ_PTR_TAIL n.val)) < u.cqDist n head.toNat) :=
      not_or.mpr ⟨Nat.not_le.mpr hin, hwritten⟩
    rw [exec_cqHead_open ho hu, if_neg hgood]
    rfl
  · intro n s ht hrun
    rw [exec_cqSignalTimer, execCqSignalTimer]
    simp only [ht, hrun, and_self, decide_true, Bool.and_self, if_true]
  · intro n s h
    rw [exec_cqSignalTimer, execCqSignalTimer]
    rcases h with h | h
    · simp only [h, Bool.false_and, Bool.false_eq_true, if_false]
    · simp only [h, decide_false, Bool.and_false, Bool.false_eq_true, if_false]
  · intro w n s hw
    rw [exec_ringEnable, exec_ringDisable, execRingEnable, execRingDisable, State.ringWrite_writable (r := .sq n) _ _ hw,
      State.ringWrite_writable (r := .sq n) _ _ hw]
    exact ⟨rfl, rfl⟩
  · intro w n s hw
    refine ⟨?_, exec_ringDisable_cq hw⟩
    rw [exec_ringEnable, execRingEnable, State.ringWrite_writable (r := .cq n) _ _ hw]
  · obtain ⟨hhead, htail, hphase⟩ := s.startCq_fields n
    exact ⟨State.fld_of_reg (s.startSq_ptr n) (fieldGet_zero ..), State.fld_of_reg (s.startSq_ptr n) (fieldGet_zero ..), hhead, htail, by rw [State.flag, hphase]; rfl⟩
  · intro n s hen
    simp only [exec_ringError, execRingError, hen, if_true]
  · intro n s hen
    simp only [exec_ringError, execRingError, hen, if_true]

end Sys2Proof.Machine
end

section
namespace Sys2Proof.Machine

/-! ## The CAN FD controllers (R577 to R585) -/

/-- A field is below 2 to its width. -/
theorem State.fld_lt (s : State) (f : Field) : s.fld f < 2 ^ f.width := by
  have hones : (ones f.width).toNat < 2 ^ f.width :=
    lt_of_le_of_lt (by rw [ones, BitVec.toNat_ofNat]; exact Nat.mod_le ..) (Nat.sub_lt (Nat.two_pow_pos _) Nat.one_pos)
  rw [State.fld, fieldGet, BitVec.toNat_and]
  exact Nat.and_lt_two_pow _ hones

section CanOps
variable {c : Fin 4} {s : State}

@[simp] theorem State.can_modCan (s : State) (c : Fin 4) (f : CanCtl → CanCtl) : (s.modCan c f).can[c] = f s.can[c] :=
  Vector.getElem_set_self c.isLt

/-- Registers and bits that a start of frame leaves: all but PEND and ACTIVE of CAN_TXST. -/
def offTxst (c : Fin 4) (f : Field) : Prop := f.addr ≠ Reg.CAN_TXST c ∨ 8 ≤ f.lo

theorem offTxst.apart {f : Field} (h : offTxst c f) {g : Field} (ha : g.addr = Reg.CAN_TXST c) (hg : g.lo + g.width ≤ 8) :
    f.addr ≠ g.addr ∨ f.lo + f.width ≤ g.lo ∨ g.lo + g.width ≤ f.lo := by
  rcases h with h | h
  · exact .inl (by rw [ha]; exact h)
  · exact .inr (.inr (hg.trans h))

/-- A start of frame leaves the counters, the buffers and every register but CAN_TXST (R577, R579). -/
theorem State.canPoll_keeps (s : State) (c : Fin 4) :
    (s.canPoll c).can[c].tecN = s.can[c].tecN ∧ (s.canPoll c).can[c].recN = s.can[c].recN ∧
      (s.canPoll c).can[c].tb = s.can[c].tb ∧ ∀ f, offTxst c f → (s.canPoll c).fld f = s.fld f := by
  unfold State.canPoll
  split
  · exact ⟨rfl, rfl, rfl, fun _ _ => rfl⟩
  · split
    · rw [State.can_modCan]
      exact ⟨rfl, rfl, rfl, fun f hf => s.fld_setFld_other _ (hf.apart rfl (Nat.le_of_ble_eq_true rfl))⟩
    · exact ⟨rfl, rfl, rfl, fun _ _ => rfl⟩

/-- What is shown of the error counters stands in CAN_STATUS alone (R581). -/
theorem State.canErrState_keeps (s : State) (c : Fin 4) :
    (s.canErrState c).can = s.can ∧ ∀ f : Field, f.addr ≠ Reg.CAN_STATUS c → (s.canErrState c).fld f = s.fld f := by
  unfold State.canErrState
  extract_lets k t
  have ht : ∀ f : Field, f.addr ≠ Reg.CAN_STATUS c → t.fld f = s.fld f := fun f hf =>
    (State.fld_setFld_reg _ _ hf).trans (State.fld_setFld_reg _ _ hf)
  split
  · exact ⟨rfl, fun f hf => (State.fld_setFld_reg _ _ hf).trans (ht f hf)⟩
  · exact ⟨rfl, ht⟩

/-- The counters are shown beside STATE (R586). -/
theorem State.canState_shown (s : State) (c : Fin 4) :
    ((s.setFld (Fld.CAN_STATUS_TEC c) 0).setFld (Fld.CAN_STATUS_REC c) 0).fld (Fld.CAN_STATUS_STATE c) = s.fld (Fld.CAN_STATUS_STATE c) := by
  simp (disch := decide +revert) only [State.fld_setFld_other]

/-- With both counters 0 a controller on the bus is error active (R581, R586). -/
theorem State.canErrState_clear (htec : s.can[c].tecN = 0) (hrec : s.can[c].recN = 0) (hst : s.fld (Fld.CAN_STATUS_STATE c) = 0) :
    s.canErrState c =
      ((s.setFld (Fld.CAN_STATUS_TEC c) 0).setFld (Fld.CAN_STATUS_REC c) 0).setFld (Fld.CAN_STATUS_STATE c) 0 := by
  simp only [State.canErrState, htec, hrec, Nat.zero_min, s.canState_shown, hst]
  rfl

/-- The three fields of CAN_STATUS read as they are stored. -/
theorem State.canStatus_stored (s : State) (c : Fin 4) :
    let t := ((s.setFld (Fld.CAN_STATUS_TEC c) 0).setFld (Fld.CAN_STATUS_REC c) 0).setFld (Fld.CAN_STATUS_STATE c) 0
    t.fld (Fld.CAN_STATUS_STATE c) = 0 ∧ t.fld (Fld.CAN_STATUS_TEC c) = 0 ∧ t.fld (Fld.CAN_STATUS_REC c) = 0 := by
  simp (disch := decide +revert) only [State.fld_setFld, State.fld_setFld_other, and_self]

/-- The measured delay shows in CAN_STATUS alone (R578). -/
theorem State.canDelay_keeps (s : State) (c : Fin 4) (b : Fin 3) :
    (s.canDelay c b).can = s.can ∧ ∀ f : Field, f.addr ≠ Reg.CAN_STATUS c → (s.canDelay c b).fld f = s.fld f := by
  unfold State.canDelay
  split
  · exact ⟨rfl, fun f hf => State.fld_setFld_reg _ _ hf⟩
  · exact ⟨rfl, fun _ _ => rfl⟩

/-- A buffer that is freed (R580). -/
theorem State.canFree_keeps (s : State) (c : Fin 4) (b : Fin 3) :
    (s.canFree c b).can[c].tb = s.can[c].tb.set b none ∧ (s.canFree c b).can[c].tecN = s.can[c].tecN ∧
      ∀ f, offTxst c f → (s.canFree c b).fld f = s.fld f := by
  unfold State.canFree
  extract_lets u off
  have hu : u.can[c] = { s.can[c] with tb := s.can[c].tb.set b none, aborts := s.can[c].aborts &&& ~~~(1#3 <<< b.val) } := s.can_modCan c _
  have hoff (t : State) (g f : Field) (hg : g.addr = Reg.CAN_TXST c) (hl : g.lo + g.width ≤ 8) (hf : offTxst c f) :
      (off g t).fld f = t.fld f := t.fld_setFld_other _ (hf.apart hg hl)
  change u.can[c].tb = _ ∧ u.can[c].tecN = _ ∧ _
  rw [hu]
  refine ⟨rfl, rfl, fun f hf => ?_⟩
  rw [hoff _ _ f rfl (Nat.le_of_ble_eq_true rfl) hf, hoff _ _ f rfl (Nat.le_of_ble_eq_true rfl) hf]
  rfl

/-- A frame is sent: its buffer is freed and marked DONE, and the transmit error counter falls (R579, R580). -/
def State.txEnded (s : State) (c : Fin 4) (b : Fin 3) : State :=
  let u := (s.canDelay c b).canFree c b
  ((u.setFld (Fld.CAN_TXST_DONE c) (u.fld (Fld.CAN_TXST_DONE c) ||| 2 ^ b.val)).modCan c fun k => { k with tecN := k.tecN - 1 }).canErrState c

theorem canRegs_apart (c : Fin 4) : Reg.CAN_CFG c ≠ Reg.CAN_STATUS c ∧ Reg.CAN_CFG c ≠ Reg.CAN_TXST c ∧ Reg.CAN_TXST c ≠ Reg.CAN_STATUS c ∧
    Reg.CAN_STATUS c ≠ Reg.SVC_JSTAT ∧ ∀ n : Fin 4, Reg.CAN_STATUS c ≠ Reg.LCK_IRQPEND n := by decide +revert

theorem State.txEnded_mode (s : State) (c : Fin 4) (b : Fin 3) : (s.txEnded c b).canMode c = s.canMode c := by
  obtain ⟨hstatus, htxst, -, -, -⟩ := canRegs_apart c
  have hfld : (s.txEnded c b).fld (Fld.CAN_CFG_MODE c) = s.fld (Fld.CAN_CFG_MODE c) := by
    obtain ⟨-, -, hfree⟩ := (s.canDelay c b).canFree_keeps c b
    rw [State.txEnded, (State.canErrState_keeps _ c).2 (Fld.CAN_CFG_MODE c) hstatus, State.modCan_fld,
      State.fld_setFld_reg (f := Fld.CAN_TXST_DONE c) (g := Fld.CAN_CFG_MODE c) _ _ htxst, hfree _ (.inl htxst), (s.canDelay_keeps c b).2 _ hstatus]
  rw [State.canMode, State.canMode, hfld]

theorem State.txEnded_shows (s : State) (c : Fin 4) (b : Fin 3) :
    (s.txEnded c b).can[c].tecN = s.can[c].tecN - 1 ∧ (s.txEnded c b).can[c].tb[b] = none ∧
      ((s.txEnded c b).fld (Fld.CAN_TXST_DONE c)).testBit b.val = true := by
  obtain ⟨-, -, hapart, -, -⟩ := canRegs_apart c
  obtain ⟨htb, htec, -⟩ := (s.canDelay c b).canFree_keeps c b
  have hcan := (s.canDelay_keeps c b).1
  unfold State.txEnded
  extract_lets u
  obtain ⟨herr, hfld⟩ := State.canErrState_keeps
    ((u.setFld (Fld.CAN_TXST_DONE c) (u.fld (Fld.CAN_TXST_DONE c) ||| 2 ^ b.val)).modCan c fun k => { k with tecN := k.tecN - 1 }) c
  rw [herr, State.can_modCan]
  refine ⟨?_, ?_, ?_⟩
  · rw [State.setFld_can, htec, hcan]
  · rw [State.setFld_can, htb]
    exact Vector.getElem_set_self b.isLt
  · have hb : 2 ^ b.val < 2 ^ 3 := Nat.pow_lt_pow_right (by decide) b.isLt
    rw [hfld (Fld.CAN_TXST_DONE c) hapart, State.modCan_fld,
      State.fld_setFld u (Nat.le_of_ble_eq_true rfl) (Nat.or_lt_two_pow (u.fld_lt _) hb), Nat.testBit_or, Nat.testBit_two_pow_self,
      Bool.or_true]

/-- The end of a frame outside loopback. -/
theorem exec_canTxDone_sent {b : Fin 3} {f : CanTx} (ha : s.canActive c = some b) (hf : s.can[c].tb[b] = some f) (hm : s.canMode c ≠ 2) :
    exec (.canTxDone c) s = .next ((s.txEnded c b).canPoll c) := by
  have hmode : ((s.txEnded c b).canMode c == 2) = false := by rw [s.txEnded_mode]; exact beq_false_of_ne hm
  simp only [exec_canTxDone, execCanTxDone, ha, hf]
  rw [State.txEnded] at hmode ⊢
  rw [hmode]
  rfl

theorem State.setIrq_can (s : State) (k : Nat) (b : Bool) : (s.setIrq k b).can = s.can :=
  foldl_keeps (P := fun t : State => t.can = s.can) (fun _ _ ht => ht) rfl

theorem State.journal_can (s : State) (code unit : Nat) (d0 d1 : Word) : (s.journal code unit d0 d1).can = s.can := by
  unfold State.journal State.journalFull
  split
  · rfl
  · split
    · rfl
    · exact State.setIrq_can _ _ _

/-- A controller in bus-off comes back error active with both counters clear (R581). -/
theorem canBusOn_completes (h : s.fld (Fld.CAN_STATUS_STATE c) = 2) :
    Completes (.canBusOn c) s fun t => t.fld (Fld.CAN_STATUS_STATE c) = 0 ∧ t.can[c].tecN = 0 ∧ t.can[c].recN = 0 ∧
      t.fld (Fld.CAN_STATUS_TEC c) = 0 ∧ t.fld (Fld.CAN_STATUS_REC c) = 0 := by
  obtain ⟨-, -, hapart, hsvc, hirq⟩ := canRegs_apart c
  let u := (s.setFld (Fld.CAN_STATUS_STATE c) 0).modCan c fun k => { k with tecN := 0, recN := 0 }
  let w := u.canErrState c
  let j := w.journal 0x0604 c.val (w.reg (Reg.CAN_STATUS c))
  have he : exec (.canBusOn c) s = .next (j.canPoll c) := by
    rw [exec_canBusOn, execCanBusOn, h]
    rfl
  have hcan : u.can[c] = { s.can[c] with tecN := 0, recN := 0 } := State.can_modCan _ c _
  have hclear : w = _ := State.canErrState_clear (s := u) (c := c) (by rw [hcan]) (by rw [hcan])
    ((State.modCan_fld ..).trans (State.fld_setFld s (Nat.le_of_ble_eq_true rfl) (Nat.two_pow_pos _)))
  obtain ⟨hst, htec, hrec⟩ := u.canStatus_stored c
  rw [← hclear] at hst htec hrec
  obtain ⟨hptec, hprec, -, hpfld⟩ := j.canPoll_keeps c
  have hj : j.can[c] = u.can[c] := by rw [State.journal_can, (u.canErrState_keeps c).1]
  have hfld (f : Field) (hf : f.addr = Reg.CAN_STATUS c) : (j.canPoll c).fld f = w.fld f := by
    refine (hpfld f (.inl (by rw [hf]; exact hapart.symm))).trans ((w.journal_keeps ..).2 f ?_ ?_)
    · rw [hf]
      exact hsvc
    · intro n
      rw [hf]
      exact hirq n
  refine ⟨_, he, (hfld _ rfl).trans hst, ?_, ?_, (hfld _ rfl).trans htec, (hfld _ rfl).trans hrec⟩
  · rw [hptec, hj, hcan]
  · rw [hprec, hj, hcan]

end CanOps

section CanCommands
variable {c : Fin 4} {s : State}

/-- A frame that a controller takes: its counter falls, then the frame is delivered and the next start of frame chooses again (R581, R583). -/
theorem exec_canFrameRx_taken {f : CanRx} (ha : s.awake = true) (ho : s.canOn c = true) (hm : s.canMode c ≠ 2)
    (hf : (f.fdf && !s.flag (Fld.CAN_CFG_FD_EN c)) = false) : exec (.canFrameRx c f) s = .next
      (((((if 127 < s.can[c].recN then s.freeNat.2.modCan c fun k => { k with recN := 119 + s.freeNat.1 % 9 }
        else s.modCan c fun k => { k with recN := k.recN - 1 }).canErrState c).canReceive c f).canAttemptFailed c).canPoll c) := by
  have hgo : ¬ (!s.awake || !s.canOn c || s.canMode c == 2 || (f.fdf && !s.flag (Fld.CAN_CFG_FD_EN c))) = true := by
    rw [ha, ho, hf, beq_false_of_ne hm]
    decide
  rw [exec_canFrameRx, execCanFrameRx, if_neg hgo]

/-- A controller that is on the bus of a device that is awake takes its events. -/
theorem canOn_not_barred (ha : s.awake = true) (ho : s.canOn c = true) : ¬ (!s.awake || !s.canOn c) = true := by
  rw [ha, ho]
  decide

/-- A CAN_SEND that is taken (R528, R579). -/
theorem exec_canSend_taken {h : Desc} {f : CanTx} (ht : s.takes h 0x10 = true) : exec (.canSend h f) s = .next (
    if 4 ≤ h.index.toNat ∨ 3 ≤ h.sub.toNat ∨ 16 ≤ f.dlc.toNat then s.complete h 0x10 St.BAD_FIELD
    else if f.fdf && !s.flag (Fld.CAN_CFG_FD_EN (Fin.ofNat 4 h.index.toNat)) then s.complete h 0x10 St.BAD_FIELD
    else if (h.sub.toNat % 3 == 0 && s.flag (Fld.CAN_CFG_SAFETY (Fin.ofNat 4 h.index.toNat))) ||
        (s.fld (Fld.CAN_TXST_PEND (Fin.ofNat 4 h.index.toNat))).testBit (h.sub.toNat % 3) then s.complete h 0x10 St.BUSY
    else (s.canLoad (Fin.ofNat 4 h.index.toNat) (Fin.ofNat 3 h.sub.toNat) f).complete h 0x10 St.SUCCESS) := by
  rw [exec_canSend, execCanSend, State.dispatch_takes _ ht, State.taken_plain rfl]
  rfl

end CanCommands

/-- Settles O40, clause by clause. -/
theorem canFd : Obligations.CanFd := by
  unfold Obligations.CanFd
  refine ⟨?_, ?_, ?_, ?_, ?_, ?_, fun _ _ => ⟨rfl, rfl⟩, ?_, ?_, fun c s h => canBusOn_completes h, ?_, ?_, ?_, ?_, ?_, ?_, ?_, ?_, ?_⟩
  · intro c f s ha ho hm hf hr
    rw [exec_canFrameRx_taken ha ho hm hf, if_neg (Nat.not_lt.mpr hr)]
  · intro c f s ha ho hm hf hr
    rw [exec_canFrameRx_taken ha ho hm hf, if_pos hr]
  · intro c f s h
    rw [exec_canFrameRx, execCanFrameRx, if_pos]
    rcases h with h | h | h <;> simp [h]
  · intro c e s ho
    constructor
    · simp [execCanError, ho]
    · simp [execProtocolException, ho]
  · intro c b f s ha hf hm
    obtain ⟨htec, -, htb, hfld⟩ := (s.txEnded c b).canPoll_keeps c
    obtain ⟨hetec, hetb, hedone⟩ := s.txEnded_shows c b
    refine ⟨_, exec_canTxDone_sent ha hf hm, htec.trans hetec, by rw [htb]; exact hetb, ?_⟩
    rw [hfld (Fld.CAN_TXST_DONE c) (.inr (Nat.le_of_ble_eq_true rfl))]
    exact hedone
  · intro c s ha
    rw [exec_canTxDone, execCanTxDone, ha]
  · intro c s ha ho
    simp only [exec_canError, execCanError, if_neg (canOn_not_barred ha ho)]
    exact ⟨rfl, rfl, trivial⟩
  · rintro c bit s u v ha ho rfl rfl
    simp only [exec_canError, execCanError, if_neg (canOn_not_barred ha ho)]
    exact (apply_ite _ _ _ _).symm
  · intro c s h
    rw [exec_canBusOn, execCanBusOn, if_pos (by simpa using h)]
  · intro w c m s hw
    rw [exec_abort, execAbort, State.access_writable _ _ hw]
    rw [forAll_congr s]
    intro b _ t
    simp only [Bool.or_eq_true, Bool.not_eq_true', Bool.and_eq_true, beq_iff_eq]
  · intro w c s hw
    rw [exec_pop, execPop, State.access_writable _ _ hw]
  · intro c s ha ho
    rw [exec_protocolException, execProtocolException, if_neg (canOn_not_barred ha ho)]
  · intro c s ha hen hst
    rw [exec_canIntegration, execCanIntegration, ha, hen, hst]
    rfl
  · intro h f s ht hbad
    rw [exec_canSend_taken ht, if_pos (by omega)]
  · intro h f s ht hi hs hd hfd
    rw [exec_canSend_taken ht, if_neg (by omega), if_pos hfd]
  · intro h f s ht hi hs hd hfd hbusy
    rw [exec_canSend_taken ht, if_neg (by omega), hfd, if_neg Bool.false_ne_true, Nat.mod_eq_of_lt hs, if_pos hbusy]
  · intro h f s ht hi hs hd hfd hfree
    rw [exec_canSend_taken ht, if_neg (by omega), hfd, if_neg Bool.false_ne_true, Nat.mod_eq_of_lt hs, hfree, if_neg Bool.false_ne_true]

end Sys2Proof.Machine
end

section
namespace Sys2Proof.Machine

/-! ## What the failure of a pair leaves of the pairs' own registers (R498, R500, R501) -/

/-- The registers LCK_STATUS and LCK_EVENT of the four pairs. -/
abbrev PairReg (a : Nat) : Prop := 0x4003_0000 ≤ a ∧ a < 0x4003_0100 ∧ a % 0x40 < 8

/-- The address is none of these registers. -/
abbrev OffPairs (a : Nat) : Prop := ¬ PairReg a

theorem OffPairs.above {b n k : Nat} (h : Nat.ble 0x4003_0100 b = true) : OffPairs (b + n * k) := by
  have := Nat.le_of_ble_eq_true h
  omega

theorem OffPairs.irq {n : Nat} : OffPairs (Reg.LCK_IRQPEND n) := by
  rw [OffPairs, PairReg, Reg.LCK_IRQPEND]
  omega

theorem OffPairs.msip {n : Nat} : OffPairs (Reg.LCK_MSIP n) := by
  rw [OffPairs, PairReg, Reg.LCK_MSIP]
  omega

/-- The state keeps what the pairs show of their state and of their last event, and what the model keeps of them. Most registers that an
operation writes stand above the block of the pairs. -/
structure PairKept (s0 s : State) : Prop where
  reg : ∀ a, PairReg a → s.reg a = s0.reg a
  cp  : s.cp = s0.cp

section PairKept
variable {s0 s t : State}

theorem PairKept.refl (s : State) : PairKept s s := ⟨fun _ _ => rfl, rfl⟩

theorem PairKept.fld (h : PairKept s0 s) {f : Field} (hf : PairReg f.addr) : s.fld f = s0.fld f := by
  rw [State.fld, State.fld, h.reg _ hf]

theorem PairKept.flag (h : PairKept s0 s) {f : Field} (hf : PairReg f.addr) : s.flag f = s0.flag f := by
  rw [State.flag, State.flag, h.fld hf]

/-- A change of nothing that counts here. -/
theorem PairKept.same (h : PairKept s0 s) (hr : t.regs = s.regs) (hc : t.cp = s.cp) : PairKept s0 t where
  reg a ha := by rw [← h.reg a ha, State.reg, State.reg, hr]
  cp := hc.trans h.cp

theorem PairKept.ite {a b : State} {c : Prop} [Decidable c] (ha : PairKept s0 a) (hb : PairKept s0 b) :
    PairKept s0 (if c then a else b) := by
  split <;> assumption

theorem PairKept.whenever {c : Bool} {f : State → State} (hf : ∀ t, PairKept s0 t → PairKept s0 (f t)) (h : PairKept s0 s) :
    PairKept s0 (when c f s) := (hf s h).ite h

theorem PairKept.each {α : Type} {l : List α} {f : α → State → State} (hf : ∀ a t, PairKept s0 t → PairKept s0 (f a t))
    (h : PairKept s0 s) : PairKept s0 (forAll l f s) := foldl_keeps (fun t a ht => hf a t ht) h

theorem PairKept.setReg (h : PairKept s0 s) {a : Nat} {w : Word} (ha : OffPairs a) : PairKept s0 (s.setReg a w) where
  reg b hb := (s.reg_setReg_other w (by rintro rfl; exact ha hb)).trans (h.reg b hb)
  cp := h.cp

theorem PairKept.setFld (h : PairKept s0 s) {f : Field} {v : Nat} (ha : OffPairs f.addr) : PairKept s0 (s.setFld f v) := h.setReg ha

theorem PairKept.setFlag (h : PairKept s0 s) {f : Field} {b : Bool} (ha : OffPairs f.addr) : PairKept s0 (s.setFlag f b) := h.setReg ha

theorem PairKept.incSat (h : PairKept s0 s) {f : Field} (ha : OffPairs f.addr) : PairKept s0 (s.incSat f) := h.setReg ha

/-! ### Reports -/

theorem PairKept.sramWrite (h : PairKept s0 s) {a : Nat} {l : List Byte} : PairKept s0 (s.sramWrite a l) := by
  obtain ⟨m, e⟩ := State.sramWrite_eq l s a
  rw [e]
  exact h.same rfl rfl

theorem PairKept.setIrq (h : PairKept s0 s) {k : Nat} {b : Bool} : PairKept s0 (s.setIrq k b) :=
  PairKept.each (fun _ _ ht => ht.setFld .irq) h

theorem PairKept.journalFull (h : PairKept s0 s) {code unit : Nat} {hw : Bool} {d0 d1 : Word} :
    PairKept s0 (s.journalFull code unit hw d0 d1) := by
  refine h.ite (PairKept.ite (PairKept.incSat ?_ (by decide)) (PairKept.setIrq (PairKept.setFld ?_ (by decide))))
  all_goals exact h.same rfl rfl

theorem PairKept.msix (h : PairKept s0 s) {vec : Nat} : PairKept s0 (s.msix vec) :=
  PairKept.ite (h.setFld (show OffPairs Reg.MSIX_PBA by decide)) (h.same rfl rfl)

theorem PairKept.modSq (h : PairKept s0 s) {n : Fin 16} {f : SubRing → SubRing} : PairKept s0 (s.modSq n f) := h.same rfl rfl

theorem PairKept.modCq (h : PairKept s0 s) {n : Fin 16} {f : CplRing → CplRing} : PairKept s0 (s.modCq n f) := h.same rfl rfl

theorem PairKept.cqSignal (h : PairKept s0 s) {n : Fin 16} : PairKept s0 (s.cqSignal n) :=
  PairKept.ite (h.modCq.setFlag .msip) h.modCq.msix

theorem PairKept.cqWrite (h : PairKept s0 s) {n : Fin 16} {e : Completion} : PairKept s0 (s.cqWrite n e) := by
  unfold State.cqWrite
  extract_lets tail phase own head e u next v w x y now z
  have hu : PairKept s0 u := h.whenever fun _ ht => ht.setFld (.above rfl)
  have hx : PairKept s0 x := ((hu.whenever fun _ ht => ht.sramWrite).modCq.setFld (.above rfl)).whenever fun _ ht => ht.setFlag (.above rfl)
  have hy : PairKept s0 y := hx.setFlag (.above rfl)
  exact hy.ite (PairKept.ite hy.modCq.cqSignal hy.modCq)

theorem PairKept.event (h : PairKept s0 s) {code : Nat} {data : List Word} : PairKept s0 (s.event code data) := by
  refine h.ite (PairKept.ite (h.incSat (.above rfl)) (PairKept.ite (PairKept.incSat ?_ (by decide)) h.cqWrite))
  exact h.same rfl rfl

theorem PairKept.journal (h : PairKept s0 s) {code unit : Nat} {d0 d1 : Word} : PairKept s0 (s.journal code unit d0 d1) := h.journalFull

theorem PairKept.cqPush (h : PairKept s0 s) {n : Fin 16} {e : Completion} : PairKept s0 (s.cqPush n e) :=
  PairKept.ite (h.incSat (.above rfl)) (PairKept.ite (h.whenever fun _ ht => ht.incSat (.above rfl)).modCq h.cqWrite)

theorem PairKept.say (h : PairKept s0 s) {l : Line} : PairKept s0 (s.say l) := h.same rfl rfl

theorem PairKept.replyErr (h : PairKept s0 s) {w : String} : PairKept s0 (s.replyErr w) := h.say

theorem PairKept.complete (h : PairKept s0 s) {d : Desc} {opcode status detail : Nat} {data : List Word} :
    PairKept s0 (s.complete d opcode status detail data) :=
  PairKept.ite (PairKept.ite (h.same rfl rfl) h.say) (PairKept.ite h.modSq.modSq h.modSq.cqPush)

/-! ### Gates and the carrier -/

theorem PairKept.modPwm (h : PairKept s0 s) {x : Fin 4} {f : PwmSet → PwmSet} : PairKept s0 (s.modPwm x f) := h.same rfl rfl

theorem PairKept.modPsp (h : PairKept s0 s) {x : Fin 4} {f : PspSet → PspSet} : PairKept s0 (s.modPsp x f) := h.same rfl rfl

theorem PairKept.modGc (h : PairKept s0 s) {n : Fin 28} {f : GateChan → GateChan} : PairKept s0 (s.modGc n f) := h.same rfl rfl

theorem PairKept.modPos (h : PairKept s0 s) {a : Fin 4} {f : PosAx → PosAx} : PairKept s0 (s.modPos a f) := h.same rfl rfl

theorem PairKept.modSpd (h : PairKept s0 s) {a : Fin 4} {f : SpdAx → SpdAx} : PairKept s0 (s.modSpd a f) := h.same rfl rfl

theorem PairKept.modMfe (h : PairKept s0 s) {x : Fin 4} {f : MfeSet → MfeSet} : PairKept s0 (s.modMfe x f) := h.same rfl rfl

theorem PairKept.placeCarrier (h : PairKept s0 s) {x : Fin 4} : PairKept s0 (s.placeCarrier x) := h.modPwm.setFlag (.above rfl)

theorem PairKept.stepOffset (h : PairKept s0 s) {x : Fin 4} : PairKept s0 (s.stepOffset x) :=
  have hp := h.modPwm.setFlag (.above rfl)
  PairKept.ite hp.placeCarrier hp

theorem PairKept.writePhase (h : PairKept s0 s) {x : Fin 4} {v : BitVec 8} : PairKept s0 (s.writePhase x v) :=
  have hp := h.setFld (.above rfl)
  PairKept.ite (hp.setFlag (.above rfl)) hp.stepOffset

theorem PairKept.putSetState (h : PairKept s0 s) {x : Fin 4} {v : SetState} : PairKept s0 (s.putSetState x v) := h.setFld (.above rfl)

theorem PairKept.chanOff (h : PairKept s0 s) {n : Fin 28} : PairKept s0 (s.chanOff n) := by
  have hh : PairKept s0 (s.setFlag (Fld.GDC_STATUS_HELD n) false) := h.setFlag (.above rfl)
  refine PairKept.whenever (fun _ ht => ht.modPsp) (PairKept.modGc (PairKept.ite ?_ (hh.setFlag (.above rfl))))
  exact hh.same rfl rfl

theorem PairKept.phasesOff (h : PairKept s0 s) {x : Fin 4} : PairKept s0 (s.phasesOff x) := h.each fun _ _ ht => ht.chanOff

theorem PairKept.chopperOn (h : PairKept s0 s) {x : Fin 4} : PairKept s0 (s.chopperOn x) :=
  h.ite (h.setFlag (.above rfl)).modGc.modPsp

theorem PairKept.chopSwitch (h : PairKept s0 s) {x : Fin 4} {on : Bool} : PairKept s0 (s.chopSwitch x on) :=
  h.ite (h.modPsp.chopperOn.ite h.modPsp.chanOff)

theorem PairKept.chopControl (h : PairKept s0 s) {x : Fin 4} : PairKept s0 (s.chopControl x) :=
  PairKept.ite (h.chopSwitch.ite h) (PairKept.ite (h.ite h.modPsp.chopSwitch) (PairKept.ite (h.chopSwitch.ite h)
    (h.modPsp.ite (h.ite (h.chopSwitch.ite (h.chopSwitch.ite h))))))

theorem PairKept.markFrame (h : PairKept s0 s) {n : Fin 28} {b : Bool} : PairKept s0 (s.markFrame n b) :=
  h.ite (h.modGc.setFlag (.above rfl))

theorem PairKept.setMarker (h : PairKept s0 s) {x : Fin 4} {b : Bool} : PairKept s0 (s.setMarker x b) := h.each fun _ _ ht => ht.markFrame

theorem PairKept.shootEvent (h : PairKept s0 s) {n : Nat} {b : Bool} : PairKept s0 (s.shootEvent n b) := by
  unfold State.shootEvent
  extract_lets x u v sh sh' w running per ms stood y
  have hv : PairKept s0 v := ((h.incSat (.above rfl)).setFld (.above rfl)).setFlag (.above rfl)
  have hw : PairKept s0 w := hv.same rfl rfl
  exact (hw.whenever fun _ ht => ((ht.setFlag (.above rfl)).setFlag (.above rfl)).setFlag (.above rfl)).journal

theorem PairKept.requestOn (h : PairKept s0 s) {n : Fin 28} : PairKept s0 (s.requestOn n) := by
  have hr : PairKept s0 ((s.modGc n fun g => { g with request := true }).setFlag (Fld.GDC_STATUS_HELD n) true) :=
    h.modGc.setFlag (.above rfl)
  refine h.ite (PairKept.ite (PairKept.shootEvent ?_) hr)
  exact hr.same rfl rfl

theorem PairKept.ascCheck (h : PairKept s0 s) {x : Fin 4} : PairKept s0 (s.ascCheck x) := PairKept.ite h.putSetState h

theorem PairKept.abortTests (h : PairKept s0 s) {x : Fin 4} : PairKept s0 (s.abortTests x) :=
  h.each fun _ _ ht => PairKept.ite ((ht.setFlag (.above rfl)).setFlag (.above rfl)) ht

theorem PairKept.enterSet (h : PairKept s0 s) {x : Fin 4} {v : SetState} : PairKept s0 (s.enterSet x v) := by
  unfold State.enterSet
  extract_lets u w y z1 z2 z3
  have hy : PairKept s0 y :=
    ((h.whenever fun _ ht => ht.setFlag (.above rfl)).whenever fun _ ht => ht.stepOffset).setFlag (.above rfl)
  have hz : PairKept s0 z3 := (hy.abortTests.putSetState.each fun _ _ ht => ht.chanOff).each fun _ _ ht => ht.requestOn
  cases v with
  | run => exact hy.setMarker.putSetState
  | block => exact hy.phasesOff.setMarker.putSetState
  | sto => exact hy.abortTests.phasesOff.setMarker.putSetState
  | scOff => exact hy.phasesOff.setMarker.chopControl.putSetState
  | ascEntry | asc => exact hz.setMarker.ascCheck

theorem PairKept.newAsks (h : PairKept s0 s) {x : Fin 4} : PairKept s0 (s.newAsks x) := by
  unfold State.newAsks
  exact (h.whenever fun _ ht => ht.abortTests).modPsp

theorem PairKept.settleSet (h : PairKept s0 s) {x : Fin 4} : PairKept s0 (s.settleSet x) := by
  unfold State.settleSet
  extract_lets u v
  have hv : PairKept s0 v := h.newAsks.whenever fun _ ht => ht.modPsp
  split
  · exact hv.enterSet.ite hv
  · exact hv.ite hv.enterSet
  · exact hv.ite hv.enterSet

/-! ### Axes -/

theorem PairKept.finish (h : PairKept s0 s) {pick : InFlight → Bool} {status detail : Nat} : PairKept s0 (s.finish pick status detail) := by
  refine PairKept.each (fun _ _ ht => ht.complete) ?_
  exact h.same rfl rfl

theorem PairKept.endStart (h : PairKept s0 s) {a : Fin 4} {result : Nat} : PairKept s0 (s.endStart a result) :=
  h.ite (((((h.modPos.each fun _ _ ht => ht.modPwm).setFld (.above rfl)).setFld (.above rfl)).setFlag (.above rfl)).journal.finish)

theorem PairKept.dropOffsets (h : PairKept s0 s) {a : Fin 4} : PairKept s0 (s.dropOffsets a) := by
  refine h.each fun x t ht => ht.ite (PairKept.ite (PairKept.replyErr ?_) ht.modMfe)
  exact (ht.modMfe (x := x) (f := fun m => { m with ofsRun := false, ofsCon := false })).same rfl rfl

theorem PairKept.endVent (h : PairKept s0 s) {a : Fin 4} : PairKept s0 (s.endVent a) := by
  unfold State.endVent
  split
  · exact h
  · exact ((h.modSpd.setFlag (.above rfl)).setFlag (.above rfl)).setFld (.above rfl)

theorem PairKept.endShock (h : PairKept s0 s) {a : Fin 4} : PairKept s0 (s.endShock a) := by
  unfold State.endShock
  split
  · exact h
  · exact (h.modSpd.setFlag (.above rfl)).setFld (.above rfl)

theorem PairKept.setFlds (h : PairKept s0 s) {l : List Field} {v : Nat} (hl : l.Forall fun f => OffPairs f.addr) :
    PairKept s0 (forAll l (fun f t => t.setFld f v) s) := by
  induction l generalizing s with
  | nil => exact h
  | cons f r ih =>
    rw [List.forall_cons] at hl
    exact ih (h.setFld hl.1) hl.2

theorem PairKept.axisIdle (h : PairKept s0 s) {a : Fin 4} : PairKept s0 (s.axisIdle a) := by
  unfold State.axisIdle
  extract_lets u v w x y z q
  have hx : PairKept s0 x := ((h.endShock.endVent.modSpd.setFld (.above rfl)).setFlag (.above rfl)).setFlds (v := 0)
    ⟨.above rfl, .above rfl, .above rfl, .above rfl, .above rfl, .above rfl, .above rfl, .above rfl, .above rfl, .above rfl,
      .above rfl⟩
  have hy : PairKept s0 y := hx.ite (hx.setFlds ⟨.above rfl, .above rfl, .above rfl, .above rfl⟩)
  have hz : PairKept s0 z := ((hy.setReg (.above rfl)).setReg (.above rfl)).setReg (.above rfl)
  exact (hz.each fun _ _ ht => ht.modPwm).modPos

theorem PairKept.mapCopy (h : PairKept s0 s) {a : Fin 4} : PairKept s0 (s.mapCopy a) := by
  unfold State.mapCopy
  split
  · exact h
  · extract_lets put all u v
    refine PairKept.setFlag (PairKept.modPos ?_) (.above rfl)
    unfold v
    split <;> exact h.same rfl rfl

theorem PairKept.setAxis (h : PairKept s0 s) {a : Fin 4} {v : Nat} : PairKept s0 (s.setAxis a v) := by
  unfold State.setAxis
  extract_lets old was u w x ends y z q r
  have hx : PairKept s0 x := (h.setFld (.above rfl)).setIrq.event.setFlag (.above rfl)
  have hy : PairKept s0 y := hx.whenever fun _ ht => ht.modPos.setFld (.above rfl)
  have hr : PairKept s0 r := (hy.modSpd.whenever fun _ ht => ht.dropOffsets).endStart.axisIdle
  exact h.ite (hy.ite (hr.mapCopy.ite hr))

theorem PairKept.axisFault (h : PairKept s0 s) {a : Fin 4} {bit : Nat} : PairKept s0 (s.axisFault a bit) :=
  PairKept.whenever (fun _ ht => ht.setAxis) (PairKept.whenever (fun _ ht => ht.modPos) (h.setFld (.above rfl)))

theorem PairKept.endSeries (h : PairKept s0 s) {a : Fin 4} : PairKept s0 (s.endSeries a) := h.modPos.axisFault

theorem PairKept.axisDisable (h : PairKept s0 s) {a : Fin 4} : PairKept s0 (s.axisDisable a) :=
  h.endSeries.ite (h.whenever fun _ ht => ht.setAxis)

/-! ### The Weft, faults of a set, and modes -/

theorem PairKept.modPort (h : PairKept s0 s) {p : Fin 4} {f : WPort → WPort} : PairKept s0 (s.modPort p f) := h.same rfl rfl

theorem PairKept.portPoll (h : PairKept s0 s) {p : Fin 4} : PairKept s0 (s.portPoll p) := by
  unfold State.portPoll
  extract_lets q
  refine h.ite ?_
  split
  · exact h
  · exact h.modPort

theorem PairKept.enqueue (h : PairKept s0 s) {p : Fin 4} {f : WFrame} : PairKept s0 (s.enqueue p f) :=
  h.ite (PairKept.ite ((h.incSat (.above rfl)).ite h.modPort.portPoll)
    ((h.modPort.incSat (.above rfl)).ite (h.modPort.portPoll.ite h.modPort.portPoll)))

theorem PairKept.originate (h : PairKept s0 s) {p : Fin 4} {f : WFrame} : PairKept s0 (s.originate p f) := by
  unfold State.originate
  split
  · exact PairKept.ite (h.incSat (by decide)) h.modPort.enqueue
  · exact PairKept.ite h.modPort h.modPort.enqueue
  · exact h.enqueue

theorem PairKept.sendClass0 (h : PairKept s0 s) {body : List Byte} : PairKept s0 (s.sendClass0 body) := by
  have hr : PairKept s0 (s.takePkt 0).2 := h.same rfl rfl
  exact h.ite (hr.each fun _ _ ht => ht.each fun _ _ hu => hu.originate)

theorem PairKept.faultNotice (h : PairKept s0 s) {a : Fin 4} {b : Bool} : PairKept s0 (s.faultNotice a b) := h.ite h.sendClass0

theorem PairKept.reportSetFault (h : PairKept s0 s) {x : Fin 4} : PairKept s0 (s.reportSetFault x) := h.journal.event.setIrq

theorem PairKept.cutJog (h : PairKept s0 s) : PairKept s0 s.cutJog := by
  unfold State.cutJog
  split
  · exact h.same rfl rfl
  · exact h

theorem PairKept.stopTest (h : PairKept s0 s) : PairKept s0 s.stopTest := by
  unfold State.stopTest
  split
  · exact h
  · rename_i k x _
    extract_lets con u v w
    have hu : PairKept s0 u := h.same rfl rfl
    have hv : PairKept s0 v := by
      unfold v
      split
      · exact hu.setFlag (.above rfl)
      · exact hu
    have hw : PairKept s0 w := (hv.setFlag (by decide)).setFld (by decide)
    cases x with
    | none => exact hw
    | some x => exact (hw.modPwm.whenever fun _ ht => ht.phasesOff).chopControl

theorem PairKept.endTest (h : PairKept s0 s) {w : String} : PairKept s0 (s.endTest w) := h.cutJog.stopTest.replyErr.ite h

theorem PairKept.latchSet (h : PairKept s0 s) {x : Fin 4} {l : List Nat} : PairKept s0 (s.latchSet x l) := by
  unfold State.latchSet
  extract_lets old new u v
  have hv : PairKept s0 v := (h.setReg (.above rfl)).reportSetFault.endTest.each fun _ _ ht =>
    ht.ite (ht.setFlag (.above rfl)).reportSetFault
  refine h.ite ?_
  split
  · exact (hv.whenever fun _ ht => ht.faultNotice).axisFault
  · exact hv

theorem PairKept.setMode (h : PairKept s0 s) {m : Mode} : PairKept s0 (s.setMode m) := by
  unfold State.setMode
  extract_lets old u v y w
  have hv : PairKept s0 v := ((h.setFld (by decide)).setFld (by decide)).event.say
  have hw : PairKept s0 w := hv.same rfl rfl
  exact PairKept.ite (hw.each fun _ _ ht => ht.whenever fun _ hu => hu.setAxis) hw

/-! ### The STO demands and the starts -/

theorem PairKept.forceOff (h : PairKept s0 s) {n : Fin 28} : PairKept s0 (s.forceOff n) := h.modGc.setFld (.above rfl)

theorem PairKept.islandRequest (h : PairKept s0 s) {x : Fin 4} : PairKept s0 (s.islandRequest x) :=
  PairKept.ite (h.same rfl rfl) (PairKept.ite (h.same rfl rfl) (h.same rfl rfl))

theorem PairKept.followEnable (h : PairKept s0 s) {x : Fin 4} : PairKept s0 (s.followEnable x) := by
  unfold State.followEnable
  extract_lets gone i u v w
  have hu : PairKept s0 u := h.same rfl rfl
  have hw : PairKept s0 w := h.same rfl rfl
  exact PairKept.ite ((hu.each fun _ _ ht => ht.setFlag (.above rfl)).each fun _ _ ht => ht.forceOff)
    (PairKept.ite (PairKept.ite (hw.each fun _ _ ht => ht.setFlag (.above rfl)) hw) h)

theorem PairKept.applySto (h : PairKept s0 s) : PairKept s0 s.applySto :=
  ((((h.each fun _ _ ht => ht.islandRequest.followEnable).setFlag (by decide)).setFlag (by decide)).each fun _ _ ht =>
    have hu := ht.setFlag (.above rfl)
    PairKept.ite hu.axisDisable hu)

theorem PairKept.putEstimate (h : PairKept s0 s) {a : Fin 4} {th w : Rat} : PairKept s0 (s.putEstimate a th w) :=
  ((h.modPos.setFld (.above rfl)).setReg (.above rfl)).setFlag (.above rfl)

theorem PairKept.requestRun (h : PairKept s0 s) {a : Fin 4} : PairKept s0 (s.requestRun a) := h.each fun _ _ ht => ht.ite ht.modPwm

theorem PairKept.completeStart (h : PairKept s0 s) {a : Fin 4} {st : Start} {result : Nat} : PairKept s0 (s.completeStart a st result) := by
  unfold State.completeStart
  extract_lets now u v w x pos y z
  have hy : PairKept s0 y := ((((h.setFld (.above rfl)).setFld (.above rfl)).setReg (.above rfl)).setFlag (.above rfl)).modPos.modSpd
  exact (hy.whenever fun _ ht => ((ht.incSat (.above rfl)).setFlag (.above rfl)).setFld (.above rfl)).setAxis.finish

theorem PairKept.failStart (h : PairKept s0 s) {a : Fin 4} {result : Nat} : PairKept s0 (s.failStart a result) := by
  unfold State.failStart
  split
  · exact h
  · extract_lets u v w x
    have hu : PairKept s0 u := h.endStart
    have hv : PairKept s0 v := hu.setAxis
    exact hu.setAxis.ite (PairKept.ite (hv.modPos.setFlag (.above rfl)).setAxis ((hv.incSat (.above rfl)).modPos.setFld (.above rfl)))

theorem PairKept.startPoll (h : PairKept s0 s) {a : Fin 4} : PairKept s0 (s.startPoll a) := by
  unfold State.startPoll
  split
  · exact h
  · refine PairKept.ite (h.ite (PairKept.ite h.modPos.putEstimate h.failStart)) ?_
    extract_lets all
    split
    · exact h.ite (PairKept.ite (h.setFld (.above rfl)) (PairKept.ite (h.completeStart.ite h) (h.requestRun.setFld (.above rfl))))
    · exact h.requestRun.ite h

theorem PairKept.lockCross (h : PairKept s0 s) {a : Fin 4} {l : List (Fin 4)} : PairKept s0 (s.lockCross a l) :=
  ((h.setFlag (.above rfl)).modPos.each fun _ _ ht => ht.latchSet).axisFault

theorem PairKept.seriesPoll (h : PairKept s0 s) {a : Fin 4} : PairKept s0 (s.seriesPoll a) :=
  h.ite (PairKept.ite h.lockCross (h.endSeries.ite h))

/-! ### The common evaluation -/

theorem PairKept.gateClocks (h : PairKept s0 s) : PairKept s0 s.gateClocks :=
  h.each fun _ _ ht => ht.whenever fun _ hu => (hu.setFld (show OffPairs Reg.SYS_CLK by decide)).setFlag (.above rfl)

theorem PairKept.katPoll (h : PairKept s0 s) : PairKept s0 s.katPoll := by
  refine h.each fun x t ht => ht.whenever fun u hu => PairKept.setFlag ?_ (.above rfl)
  exact hu.same rfl rfl

theorem PairKept.mfeLive (h : PairKept s0 s) {x : Fin 4} : PairKept s0 (s.mfeLive x) :=
  (((((h.setFld (.above rfl)).setFlag (.above rfl)).setFlag (.above rfl)).setFlag (.above rfl)).setFld (.above rfl)).setFld (.above rfl)

theorem PairKept.memberPoll (h : PairKept s0 s) {a : Fin 4} : PairKept s0 (s.memberPoll a) := by
  have hput (v : Nat) : PairKept s0 (s.setFld (Fld.LSH_STATE_MSTATE a) v) := h.setFld (.above rfl)
  have hjoin {t : State} (ht : PairKept s0 t) : PairKept s0 (t.interleave a) := ht.each fun _ _ hu => hu.writePhase
  have htm : PairKept s0 (((s.setFld (Fld.LSH_STATE_MSTATE a) 2).modLsh a fun g => { g with offN := 0 }).setTm a 0) := by
    refine PairKept.setReg ?_ (.above rfl)
    exact (hput 2).same rfl rfl
  exact h.ite ((hput 1).ite ((hput 3).ite ((hput 4).ite ((hjoin (hput 2)).ite ((hjoin htm).ite ((hput 1).ite h))))))

theorem PairKept.discardStaging (h : PairKept s0 s) {status : Nat} : PairKept s0 (s.discardStaging status) := by
  unfold State.discardStaging
  split
  · exact h
  · extract_lets i u v w
    have hu : PairKept s0 u := h.same rfl rfl
    have hw : PairKept s0 w := (((hu.setReg (by decide)).setFld (by decide)).setFld (by decide)).setFlag (by decide)
    split
    · exact hw.complete
    · exact hw

theorem PairKept.settle (h : PairKept s0 s) : PairKept s0 s.settle := by
  unfold State.settle
  extract_lets u v w x y
  have hw : PairKept s0 w :=
    (((h.applySto.each fun _ _ ht => ht.seriesPoll.startPoll).each fun _ _ ht => ht.settleSet).gateClocks.katPoll).each
      fun _ _ ht => ht.mfeLive
  have hy : PairKept s0 y :=
    ((hw.whenever fun _ ht => ht.discardStaging).setFlag (by decide)).each fun _ _ ht => ht.memberPoll
  exact h.ite (PairKept.ite hy.setMode hy)

/-! ### Stops, the island, and what a pair has in progress -/

theorem PairKept.modPrg (h : PairKept s0 s) {c : Fin 8} {f : PrgCh → PrgCh} : PairKept s0 (s.modPrg c f) := h.same rfl rfl

theorem PairKept.prgStop (h : PairKept s0 s) {c : Fin 8} {k : StopKind} {halts : Bool} : PairKept s0 (s.prgStop c k halts) :=
  (h.modPrg.modPrg.setFlag (.above rfl)).ite h.modPrg

theorem PairKept.softStop (h : PairKept s0 s) {c : Fin 8} : PairKept s0 (s.softStop c) := h.ite (h.setFlag (.above rfl))

theorem PairKept.enterStopping (h : PairKept s0 s) {a : Fin 4} {quick still : Bool} : PairKept s0 (s.enterStopping a quick still) := by
  refine PairKept.setAxis ?_
  have hu : PairKept s0 ((s.endVent a).setReg (Reg.SPD_NCMD a) 0) := h.endVent.setReg (.above rfl)
  exact hu.same rfl rfl

theorem PairKept.beginStop (h : PairKept s0 s) {a : Fin 4} {quick : Bool} : PairKept s0 (s.beginStop a quick) :=
  h.modSpd.ite ((h.whenever fun _ ht => ht.prgStop.softStop).enterStopping.ite
    ((h.whenever fun _ ht => ht.prgStop.softStop).modSpd.ite h))

theorem PairKept.hostLost (h : PairKept s0 s) : PairKept s0 s.hostLost :=
  h.ite (((h.setFlag (by decide)).journal.each fun _ _ ht =>
    (ht.beginStop.ite (ht.axisDisable.ite ht)).ite ht).settle)

theorem PairKept.latchHold (h : PairKept s0 s) {cause detail : Nat} : PairKept s0 (s.latchHold cause detail) := by
  unfold State.latchHold
  extract_lets u v w x y
  have hw : PairKept s0 w := (((h.setFld (by decide)).setFlag (by decide)).each fun _ _ ht => ht.modPsp).journal
  have hy : PairKept s0 y := hw.same rfl rfl
  exact hy.endTest.setMode.ite h

theorem PairKept.setSo (h : PairKept s0 s) {l : Vector SafeOut 4} : PairKept s0 { s with so := l } := h.same rfl rfl

theorem PairKept.commandOutput (h : PairKept s0 s) {i : Fin 4} : PairKept s0 (s.commandOutput i) := by
  unfold State.commandOutput
  extract_lets want was now u v
  have hso : OffPairs Reg.SFI_SO_STATE := by decide
  have hv : PairKept s0 v := (h.setFld hso).setFld hso
  exact h.ite hv.setSo

theorem PairKept.islandFault (h : PairKept s0 s) {cause detail : Nat} : PairKept s0 (s.islandFault cause detail) := by
  have hd : PairKept s0 ({ s with isl := { s.isl with dead := true } } : State) := h.same rfl rfl
  exact ((hd.latchHold.each fun _ _ ht => (ht.setFlag (.above rfl)).setFlag (.above rfl)).each fun _ _ ht => ht.commandOutput).settle

theorem PairKept.failInFlight (h : PairKept s0 s) {pick : Nat → Bool} {status : Nat} : PairKept s0 (s.failInFlight pick status) := by
  refine PairKept.each (fun _ _ ht => ht.complete) ?_
  exact h.same rfl rfl

theorem PairKept.abandonSequences (h : PairKept s0 s) : PairKept s0 s.abandonSequences := by
  have hmaps : PairKept s0 (forAll four (fun a t => when (t.flag (Fld.POS_MAP_LEARNING a))
      (fun t => (t.setFlag (Fld.POS_MAP_LEARNING a) false).setFld (Fld.POS_MAP_LEARNED a) t.pos[a].learnt) t) s) :=
    h.each fun _ _ ht => ht.whenever fun _ hu => (hu.setFlag (.above rfl)).setFld (.above rfl)
  refine PairKept.discardStaging ?_
  exact hmaps.same rfl rfl

end PairKept

/-! ## What a classification shows (R497, R498, R500) -/

/-- The state keeps the last event of a pair and the stamps of its TRANSIENTs. -/
def EventKept (n : Fin 4) (s t : State) : Prop :=
  t.reg (Reg.LCK_EVENT n) = s.reg (Reg.LCK_EVENT n) ∧ t.cp[n].stamps = s.cp[n].stamps

theorem pairReg_event (n : Fin 4) : PairReg (Reg.LCK_EVENT n) := by decide +revert

theorem pairReg_status (n : Fin 4) : PairReg (Reg.LCK_STATUS n) := by decide +revert

theorem lckEvent_ne_status (n : Fin 4) : Reg.LCK_EVENT n ≠ Reg.LCK_STATUS n := by decide +revert

section EventKept
variable {n : Fin 4} {s t u : State}

theorem EventKept.refl (n : Fin 4) (s : State) : EventKept n s s := ⟨rfl, rfl⟩

theorem EventKept.pair (h : EventKept n s t) (g : PairKept t u) : EventKept n s u :=
  ⟨(g.reg _ (pairReg_event n)).trans h.1, (congrArg (fun v : Vector CorePair 4 => v[n].stamps) g.cp).trans h.2⟩

/-- A write of LCK_STATUS leaves both. -/
theorem EventKept.status (h : EventKept n s t) {f : Field} {v : Nat} (hf : f.addr = Reg.LCK_STATUS n) :
    EventKept n s (t.setFld f v) :=
  ⟨(t.reg_setFld_other v (by rw [hf]; exact lckEvent_ne_status n)).trans h.1, h.2⟩

theorem EventKept.fld (h : EventKept n s t) {f : Field} (hf : f.addr = Reg.LCK_EVENT n) : t.fld f = s.fld f := by
  rw [State.fld, State.fld, hf, h.1]

theorem State.modCp_self (s : State) (n : Fin 4) (f : CorePair → CorePair) : (s.modCp n f).cp[n] = f s.cp[n] :=
  Vector.getElem_set_self n.isLt

theorem EventKept.debugWaits (h : EventKept n s t) : EventKept n s (t.modCp n fun c => { c with debugWaits := false }) :=
  ⟨h.1, (congrArg CorePair.stamps (t.modCp_self n _)).trans h.2⟩

theorem EventKept.ite {c : Prop} [Decidable c] (ht : EventKept n s t) (hu : EventKept n s u) :
    EventKept n s (if c then t else u) := by
  split <;> assumption

theorem EventKept.throttlePair (h : EventKept n s t) : EventKept n s (t.throttlePair n) :=
  h.ite ((h.status rfl).status rfl)

theorem EventKept.attach (h : EventKept n s t) : EventKept n s (t.attach n) := by
  unfold State.attach
  extract_lets u v w x
  have hv : EventKept n s v := EventKept.pair (h.status rfl).debugWaits (PairKept.refl _).journal
  have hw : EventKept n s w := hv.pair ((PairKept.refl _).whenever fun _ ht => ht.setFlag (show OffPairs Reg.SVC_STATUS by decide))
  have hx : EventKept n s x := EventKept.ite ((hw.status rfl).status rfl) (hw.status rfl)
  exact hv.ite ((hx.pair (PairKept.refl _).journal.islandFault).ite hx)

theorem EventKept.attachWaiting (h : EventKept n s t) : EventKept n s (t.attachWaiting n) :=
  h.throttlePair.attach.ite h.throttlePair

end EventKept

/-- A classification writes CLASS and CAUSE; what it reports leaves the pairs. -/
theorem State.classify_pairKept (s : State) (n : Fin 4) (cls cause : Nat) :
    PairKept ((s.setFld (Fld.LCK_EVENT_CLASS n) cls).setFld (Fld.LCK_EVENT_CAUSE n) cause) (s.classify n cls cause) :=
  (PairKept.refl _).journal.event.each fun _ _ ht => ht.setFld .irq

theorem State.classify_class (s : State) (n : Fin 4) {cls : Nat} (cause : Nat) (h : cls < 16) :
    (s.classify n cls cause).fld (Fld.LCK_EVENT_CLASS n) = cls := by
  rw [(s.classify_pairKept n cls cause).fld (pairReg_event n),
    State.fld_setFld_bits (f := Fld.LCK_EVENT_CAUSE n) (g := Fld.LCK_EVENT_CLASS n) _ _ rfl (.inr (Nat.le_of_ble_eq_true rfl))]
  exact s.fld_setFld (f := Fld.LCK_EVENT_CLASS n) (Nat.le_of_ble_eq_true rfl) h

theorem State.classify_cause (s : State) (n : Fin 4) (cls : Nat) {cause : Nat} (h : cause < 16) :
    (s.classify n cls cause).fld (Fld.LCK_EVENT_CAUSE n) = cause := by
  rw [(s.classify_pairKept n cls cause).fld (pairReg_event n)]
  exact State.fld_setFld (f := Fld.LCK_EVENT_CAUSE n) _ (Nat.le_of_ble_eq_true rfl) h

theorem State.classify_cp (s : State) (n : Fin 4) (cls cause : Nat) : (s.classify n cls cause).cp = s.cp :=
  (s.classify_pairKept n cls cause).cp

/-! ### A failed pair -/

/-- LCK_STATUS as the failure of a pair leaves it, before what follows from it. -/
def State.markFailed (s : State) (n : Fin 4) : State :=
  ((s.setFld (Fld.LCK_STATUS_STATE n) PairSt.FAILED).setFlag (Fld.LCK_STATUS_FAILED n) true).setFlag (Fld.LCK_STATUS_SAFE n) false

/-- What follows from the failure of a pair leaves the pairs. -/
theorem State.failPair_pairKept (s : State) (n : Fin 4) (checker : Bool) : PairKept (s.markFailed n) (s.failPair n checker) := by
  match n with
  | 0 => exact (PairKept.refl _).failInFlight.setFlag (by decide)
  | 1 => exact (PairKept.refl (s.markFailed 1)).abandonSequences.failInFlight (pick := (· == 0x07)) (status := St.UNIT_FAILED)
  | 2 => exact (PairKept.refl _).hostLost.ite (PairKept.refl _)
  | 3 => exact (PairKept.refl _).islandFault

/-- The pair shows that it has failed (R507). -/
def State.shownFailed (s : State) (n : Fin 4) : Prop := s.pairState n = PairSt.FAILED ∧ s.flag (Fld.LCK_STATUS_FAILED n) = true

theorem State.markFailed_shown (s : State) (n : Fin 4) : (s.markFailed n).shownFailed n := by
  constructor
  · rw [State.pairState, State.markFailed,
      State.fld_setFlag_other (f := Fld.LCK_STATUS_SAFE n) (g := Fld.LCK_STATUS_STATE n) _ _ (.inr (.inl (Nat.le_of_ble_eq_true rfl))),
      State.fld_setFlag_other (f := Fld.LCK_STATUS_FAILED n) (g := Fld.LCK_STATUS_STATE n) _ _ (.inr (.inl (Nat.le_of_ble_eq_true rfl)))]
    exact s.fld_setFld (f := Fld.LCK_STATUS_STATE n) (Nat.le_of_ble_eq_true rfl) (show 4 < 2 ^ 4 by decide)
  · rw [State.markFailed,
      State.flag_setFlag_other (f := Fld.LCK_STATUS_SAFE n) (g := Fld.LCK_STATUS_FAILED n) _ _ (.inr (.inl (Nat.le_of_ble_eq_true rfl)))]
    exact State.flag_setFlag (f := Fld.LCK_STATUS_FAILED n) _ _ (Nat.le_of_ble_eq_true rfl) (Nat.le_of_ble_eq_true rfl)

section
variable {n : Fin 4} {s t : State}

theorem State.shownFailed.pair (h : s.shownFailed n) (g : PairKept s t) : t.shownFailed n :=
  ⟨(g.fld (pairReg_status n)).trans h.1, (g.flag (pairReg_status n)).trans h.2⟩

/-- A write above FAILED in LCK_STATUS leaves what the pair shows of its state. -/
theorem State.pairState_setFld_above {f : Field} {v : Nat} (hf : 13 ≤ f.lo) : (s.setFld f v).pairState n = s.pairState n :=
  s.fld_setFld_other v (.inr (.inl (Nat.le_trans (Nat.le_of_ble_eq_true rfl) hf)))

theorem State.shownFailed.above (h : s.shownFailed n) {f : Field} {v : Nat} (hf : 13 ≤ f.lo) : (s.setFld f v).shownFailed n :=
  ⟨(State.pairState_setFld_above hf).trans h.1, (s.flag_setFld_other (f := f) (g := Fld.LCK_STATUS_FAILED n) v (.inr (.inl hf))).trans h.2⟩

theorem State.shownFailed.ite {c : Prop} [Decidable c] (hs : s.shownFailed n) (ht : t.shownFailed n) :
    (if c then s else t).shownFailed n := by
  split <;> assumption

theorem State.shownFailed.modCp (h : s.shownFailed n) (f : CorePair → CorePair) : (s.modCp n f).shownFailed n := by
  rw [State.shownFailed, State.pairState, State.modCp_fld, State.modCp_flag]
  exact h

theorem State.shownFailed.attach (h : s.shownFailed n) : (s.attach n).shownFailed n := by
  unfold State.attach
  extract_lets u v
  have hu : u.shownFailed n := (h.above (f := Fld.LCK_STATUS_DEBUG n) (Nat.le_of_ble_eq_true rfl)).modCp _
  have hv : v.shownFailed n := hu.pair (PairKept.refl _).journal
  rw [if_pos (by rw [hv.1, beq_self_eq_true, Bool.or_true])]
  exact hv

theorem State.shownFailed.attachWaiting (h : s.shownFailed n) : (s.attachWaiting n).shownFailed n := by
  have ht : (s.throttlePair n).shownFailed n :=
    h.ite ((h.above (f := Fld.LCK_STATUS_DIV n) (Nat.le_of_ble_eq_true rfl)).above (f := Fld.LCK_STATUS_SKIP n) (Nat.le_of_ble_eq_true rfl))
  exact ht.attach.ite ht

end

/-- The failure of a pair keeps the event that was classified. -/
theorem State.failPair_event (s : State) (n : Fin 4) (checker : Bool) : EventKept n s (s.failPair n checker) :=
  ((((EventKept.refl n s).status rfl).status rfl).status rfl).pair (s.failPair_pairKept n checker)

/-! ### A TRANSIENT, and the count of the hour -/

/-- Where no attach waits, the throttle alone acts, which leaves the state of the pair. -/
theorem State.attachWaiting_pairState {s : State} {n : Fin 4} (h : s.cp[n].debugWaits = false) :
    (s.attachWaiting n).pairState n = s.pairState n := by
  have hcp : (s.throttlePair n).cp = s.cp := by
    rw [State.throttlePair]
    split <;> rfl
  have hst : (s.throttlePair n).pairState n = s.pairState n := by
    rw [State.throttlePair]
    split
    · rfl
    · rw [State.setFlag, State.pairState_setFld_above (f := Fld.LCK_STATUS_SKIP n) (Nat.le_of_ble_eq_true rfl),
        State.pairState_setFld_above (f := Fld.LCK_STATUS_DIV n) (Nat.le_of_ble_eq_true rfl)]
  rw [State.attachWaiting, hcp, if_neg (by rw [h]; exact Bool.false_ne_true), hst]

/-- The TRANSIENTs of a pair in the last hour, up to the 15 that TRANS_H holds. -/
def State.hourTransients (s : State) (n : Fin 4) : Nat :=
  min (s.cp[n].stamps.filter fun k => decide (s.sys.poweredNs ≤ k + hourNs)).length 15

/-- A pair with one more TRANSIENT stamped. -/
def CorePair.stamp (now : Nat) (c : CorePair) : CorePair := { c with stamps := now :: c.stamps }

/-- The state of a pair that a TRANSIENT restarts: stamped, counted and classified, before the work in progress ends. -/
def State.transient (s : State) (n : Fin 4) : State :=
  let u := s.modCp n (CorePair.stamp s.sys.poweredNs)
  let v := (u.incSat (Fld.LCK_CNT_TRANS n)).setFld (Fld.LCK_CNT_TRANS_H n) (u.hourTransients n)
  ((when (n == 3) (·.setFld Fld.SFI_STATUS_TRANS_H (u.hourTransients n)) v).classify n 1 0).setFld (Fld.LCK_STATUS_STATE n) PairSt.RESTART

theorem State.transient_cp (s : State) (n : Fin 4) :
    (s.transient n).cp = (s.modCp n (CorePair.stamp s.sys.poweredNs)).cp := by
  refine (State.classify_cp _ n 1 0).trans ?_
  rw [when]
  split <;> rfl

theorem State.transient_stamps (s : State) (n : Fin 4) : (s.transient n).cp[n].stamps = s.sys.poweredNs :: s.cp[n].stamps := by
  rw [s.transient_cp n, s.modCp_self n (CorePair.stamp s.sys.poweredNs)]
  rfl

theorem State.transient_debugWaits (s : State) (n : Fin 4) : (s.transient n).cp[n].debugWaits = s.cp[n].debugWaits := by
  rw [s.transient_cp n, s.modCp_self n (CorePair.stamp s.sys.poweredNs)]
  rfl

theorem State.transient_class (s : State) (n : Fin 4) : (s.transient n).fld (Fld.LCK_EVENT_CLASS n) = 1 :=
  (((EventKept.refl n _).status rfl).fld rfl).trans (State.classify_class _ n 0 (by decide))

theorem State.transient_pairState (s : State) (n : Fin 4) : (s.transient n).pairState n = PairSt.RESTART :=
  State.fld_setFld (f := Fld.LCK_STATUS_STATE n) _ (Nat.le_of_ble_eq_true rfl) (show 3 < 2 ^ 4 by decide)

/-- A TRANSIENT gives the restarting state, in which the work of the pair ends and what waited takes effect. -/
theorem exec_classification_restart {s : State} {n : Fin 4} (h : s.pairState n = PairSt.ARBITRATE)
    (hr : ∀ u, s.cp[n].stamps[1]? = some u → u + hourNs < s.sys.poweredNs) :
    ∃ t, PairKept (s.transient n) t ∧ exec (.classification n true true true) s = .next (t.attachWaiting n) := by
  have hany : (s.cp[n].stamps[1]?.any fun (t : Nat) => decide (s.sys.poweredNs ≤ t + hourNs)) = false := by
    cases hu : s.cp[n].stamps[1]? with
    | none => rfl
    | some u => exact decide_eq_false (Nat.not_le.mpr (hr u hu))
  have hends : PairKept (s.transient n)
      (when (n == 1) (·.abandonSequences) (when (n == 0) (·.failInFlight byCp0 St.UNIT_FAILED) (s.transient n))) :=
    ((PairKept.refl _).whenever fun _ ht => ht.failInFlight).whenever fun _ ht => ht.abandonSequences
  exact ⟨_, hends, exec_classification_transient h hany rfl rfl⟩

/-- TRANS_H of one pair shows the count. -/
def State.showHour (s : State) (n : Fin 4) : State :=
  when (n == 3) (·.setFld Fld.SFI_STATUS_TRANS_H (s.hourTransients n)) (s.setFld (Fld.LCK_CNT_TRANS_H n) (s.hourTransients n))

theorem State.tickTransients_eq (s : State) : s.tickTransients = forAll four (fun n t => t.showHour n) s := rfl

theorem State.showHour_hourTransients (s : State) (m n : Fin 4) : (s.showHour m).hourTransients n = s.hourTransients n := by
  rw [State.showHour, when]
  split <;> rfl

/-- The copy in SFI_STATUS leaves the counters of the pairs. -/
theorem State.showHour_fld (s : State) (m n : Fin 4) : (s.showHour m).fld (Fld.LCK_CNT_TRANS_H n) =
    (s.setFld (Fld.LCK_CNT_TRANS_H m) (s.hourTransients m)).fld (Fld.LCK_CNT_TRANS_H n) := by
  have hne : (Fld.LCK_CNT_TRANS_H n).addr ≠ Fld.SFI_STATUS_TRANS_H.addr := by decide +revert
  rw [State.showHour, when]
  split
  · exact State.fld_setFld_reg _ _ hne
  · rfl

theorem State.showHour_own (s : State) (n : Fin 4) : (s.showHour n).fld (Fld.LCK_CNT_TRANS_H n) = s.hourTransients n := by
  rw [s.showHour_fld n n]
  exact s.fld_setFld (f := Fld.LCK_CNT_TRANS_H n) (Nat.le_of_ble_eq_true rfl) (Nat.lt_succ_of_le (Nat.min_le_right _ _))

theorem State.showHour_other (s : State) {m n : Fin 4} (h : m ≠ n) :
    (s.showHour m).fld (Fld.LCK_CNT_TRANS_H n) = s.fld (Fld.LCK_CNT_TRANS_H n) := by
  have hne : (Fld.LCK_CNT_TRANS_H n).addr ≠ (Fld.LCK_CNT_TRANS_H m).addr := by decide +revert
  rw [s.showHour_fld m n, s.fld_setFld_reg _ hne]

/-- A counter that shows its count goes on showing it while the others are counted. -/
theorem State.showHour_keeps {s : State} {m n : Fin 4} {k : Nat}
    (h : s.hourTransients n = k ∧ s.fld (Fld.LCK_CNT_TRANS_H n) = k) :
    (s.showHour m).hourTransients n = k ∧ (s.showHour m).fld (Fld.LCK_CNT_TRANS_H n) = k := by
  refine ⟨(s.showHour_hourTransients m n).trans h.1, ?_⟩
  by_cases hm : m = n
  · rw [hm, s.showHour_own, h.1]
  · rw [s.showHour_other hm, h.2]

theorem State.forAll_showHour {l : List (Fin 4)} {n : Fin 4} (hn : n ∈ l) (s : State) :
    (forAll l (fun m t => t.showHour m) s).fld (Fld.LCK_CNT_TRANS_H n) = s.hourTransients n := by
  induction l generalizing s with
  | nil => exact absurd hn List.not_mem_nil
  | cons m r ih =>
    rcases List.mem_cons.mp hn with rfl | hr
    · exact (foldl_keeps (P := fun t : State => t.hourTransients n = s.hourTransients n ∧ t.fld (Fld.LCK_CNT_TRANS_H n) = s.hourTransients n)
        (fun _ _ ht => State.showHour_keeps ht) ⟨s.showHour_hourTransients n n, s.showHour_own n⟩).2
    · exact (ih hr (s.showHour m)).trans (s.showHour_hourTransients m n)

/-- Settles O57: the consequences of a classification leave LCK_EVENT and the stamps, and those of a failure the state of
the pair. -/
theorem transientRate : Obligations.TransientRate := by
  unfold Obligations.TransientRate
  refine ⟨fun n u s h hu hle => ?_, fun n s h hr => ?_, fun n s h hr hd => ?_, fun n s => ?_⟩
  · have hrate : exec (.classification n true true true) s = .next (((s.classify n 2 4).failPair n false).attachWaiting n) := by
      have hany : (s.cp[n].stamps[1]?.any fun (t : Nat) => decide (s.sys.poweredNs ≤ t + hourNs)) = true := by
        rw [hu]
        exact decide_eq_true hle
      simp only [exec_classification, execClassification, h, hany]
      rfl
    have hevent := ((s.classify n 2 4).failPair_event n false).attachWaiting
    have hfailed := (((s.classify n 2 4).markFailed_shown n).pair ((s.classify n 2 4).failPair_pairKept n false)).attachWaiting
    exact ⟨_, hrate, (hevent.fld rfl).trans (s.classify_class n 4 (by decide)),
      (hevent.fld rfl).trans (s.classify_cause n 2 (by decide)), hfailed.2, hfailed.1⟩
  · obtain ⟨t, hkept, he⟩ := exec_classification_restart h hr
    have hevent := ((EventKept.refl n _).pair hkept).attachWaiting
    exact ⟨_, he, hevent.2.trans (s.transient_stamps n), (hevent.fld rfl).trans (s.transient_class n)⟩
  · obtain ⟨t, hkept, he⟩ := exec_classification_restart h hr
    refine ⟨_, he, (State.attachWaiting_pairState ?_).trans ((hkept.fld (pairReg_status n)).trans (s.transient_pairState n))⟩
    rw [hkept.cp]
    exact (s.transient_debugWaits n).trans hd
  · rw [s.tickTransients_eq]
    exact State.forAll_showHour (mem_four n) s

end Sys2Proof.Machine
end
